-- ==== Sys2Proof/Word.lean ====
section
/-! DEFINITION. The word types of the module and nothing else (00_scope, "Writing conventions"). -/

namespace Sys2Proof

/-- A byte of a block, image, record or telegram (R9). -/
abbrev Byte := BitVec 8

/-- A 32-bit word: a register of R307, a parameter of R310. -/
abbrev Word := BitVec 32

end Sys2Proof
end

