-- ==== Sys2Proof/Syntax.lean ====
section
/-! DEFINITION. The commands of the block: one constructor of `Instr` for each row of the table of operations and
events, with what its sender says as operands. What the surroundings or a hardware test decide (a measured voltage,
a verdict, a received frame) is an operand; what the module holds is in the state. -/

namespace Sys2Proof

/-- The two transports of the mailbox: BAR2 on PCIe, and UDP on X8 (R305, R321). -/
inductive Transport
  | pcie
  | x8
deriving DecidableEq, Repr, Inhabited

/-- A mailbox command that has passed the transport checks of R312: the header fields of R310 it uses and its payload.
`arrival` is the arrival sequence number of R65, `reply` the X8 source address and port. -/
structure Req where
  via : Transport
  tag : Byte
  sequence : Word
  session : Word
  param0 : Word
  param1 : Word
  payload : List Byte
  arrival : Nat
  replyIp : Word
  replyPort : Nat
deriving DecidableEq, Repr, Inhabited

/-- The phases of the bench cycle (R122). -/
inductive Phase
  | i
  | e
  | o
  | h
deriving DecidableEq, Repr, Inhabited

/-- The debug kinds of R377. -/
inductive DebugKind
  | none
  | nonInvasive
  | invasive
  | testEngine
deriving DecidableEq, Repr, Inhabited

/-- The two roles (R381). -/
inductive Role
  | maintainer
  | safetyAuthority
deriving DecidableEq, Repr, Inhabited

/-- A failing memory cell line found by MBIST: instance, row or column, index (R403). -/
structure MemFail where
  inst : Nat
  column : Bool
  address : Nat
deriving DecidableEq, Repr, Inhabited

/-- What the hardware shows at a power-on reset: the supply, the slot code (R429), which firmware bank passes its block
CRCs and its signature (R418), the cell voltage, how many record types the starting firmware supports at a higher
VERSION (R420) and which pending fuses read back right (R405). -/
structure PowerOn where
  mv : Nat
  slot : BitVec 6
  bank0Ok : Bool
  bank1Ok : Bool
  cellMv : Nat
  newTypes : Nat
  fusesOk : List Bool
deriving DecidableEq, Repr, Inhabited

/-- The verdict of a block of R393, as R395 names it. -/
inductive Verdict
  | pass
  | fail
  | incomplete
  | repaired
deriving DecidableEq, Repr, Inhabited

/-- What the start-up test of R401 found: the block verdicts of the full form (blocks not named pass), the lanes that
fail their lane test, whether every planted difference was seen as expected, the failing memory lines, whether the
isolation-link loopback passed, whether Ashlar loaded and was kept in READY by a wrong RESPONSE, whether the management
core's DDR passed, and which test-pulse sources pass their readback. -/
structure StartResult where
  blocks : List (Nat × Verdict)
  lanes : List Nat
  plantedOk : Bool
  memFails : List MemFail
  linkOk : Bool
  ashlarKept : Bool
  ddrOk : Bool
  badSources : List Nat
  durationMs : Nat
deriving DecidableEq, Repr, Inhabited

/-- A sample of one of the three comparators of RT in STANDBY (R390). -/
inductive RtSample
  | switches (pattern : BitVec 4)
  | temperature (tenths : Int)
  | cell (mv : Nat)
deriving DecidableEq, Repr, Inhabited

/-- What phase H's hardware did: whether the pending sync window finished, whether its copy streams differed, whether the
lane test passed, and whether the lane test and the background RAM test slice finished before the next freeze; what has
not is repeated later (R127, R169, R172). -/
structure PhaseHWork where
  syncFinished : Bool
  streamsDiffer : Bool
  laneTestPassed : Bool
  laneTestFinished : Bool := true
  ramSliceFinished : Bool := true
deriving DecidableEq, Repr, Inhabited

/-- The three hold lines that Ashlar reads itself (R186); true means the condition holds. -/
structure HoldLines where
  lockstep : Bool
  debug : Bool
  lifecycle : Bool
deriving DecidableEq, Repr, Inhabited

/-- A bus access of one slot at the aligned comparison point: a write, or a read with no data (R162, R164, R165). -/
structure BusAccess where
  write : Bool
  address : Nat
  data : Word
  enables : BitVec 4
  attributes : Byte
deriving DecidableEq, Repr, Inhabited

/-- The direction of an isolation-link loss (R260). -/
inductive LinkLoss
  | coreToField
  | fieldToCore
  | both
deriving DecidableEq, Repr, Inhabited

/-- The end of one check interval of a source: the samples that were high, each as its input and its offset from the
pulse start in µs, and whether the source passed its readback (R238, R239, R241). -/
structure PulseCheck where
  source : Nat
  high : List (Nat × Nat)
  readbackOk : Bool
deriving DecidableEq, Repr, Inhabited

/-- One switch test of R247 with what was measured, and the other channels whose U+ fell below 5 V within 100 µs of the
opening, each with its U+ in mV (R251). -/
structure SwitchTest where
  channel : Nat
  highSide : Bool
  fell : Bool
  dropped : List (Nat × Nat)
  uPlusMv : Int
  uMinusMv : Int
  milliAmp : Nat
deriving DecidableEq, Repr, Inhabited

/-- The measurements at an output with its switches open (R250). -/
structure FeedMeasure where
  channel : Nat
  uPlusMv : Int
  uMinusMv : Int
  milliAmp : Nat
deriving DecidableEq, Repr, Inhabited

/-- A received CAN frame (R261, R264). -/
structure CanFrame where
  ident : Nat
  extended : Bool
  fd : Bool
  brs : Bool
  remote : Bool
  data : List Byte
deriving DecidableEq, Repr, Inhabited

/-- The errors of the standard (R272, R275): a bit, stuff, CRC or form error, a missing ACK and whether a dominant bit was
seen in the error flag sent for it, and an error in or after an error flag (a dominant bit right after it, a bit error in
it, a run of dominant bits). -/
inductive BusErrorKind
  | bit
  | stuff
  | crc
  | form
  | ack (dominant : Bool)
  | afterFlag
deriving DecidableEq, Repr, Inhabited

/-- A bus error at a port: seen while transmitting or receiving, before or after the BRS sample point, after the
arbitration field, and its kind (R267, R272, R275). -/
structure BusError where
  transmitting : Bool
  afterArbitration : Bool
  afterBrs : Bool
  kind : BusErrorKind
deriving DecidableEq, Repr, Inhabited

/-- A UDP datagram that arrives on X6 (lan 0) or X7 (lan 1), with the PRP source and sequence number, and whether its IPv4
header has options or is a fragment's (R299, R300). -/
structure Datagram where
  lan : Nat
  source : Nat
  prpSeq : Nat
  vlanTagged : Bool
  port : Nat
  checksumOk : Bool
  data : List Byte
  options : Bool := false
  fragment : Bool := false
deriving DecidableEq, Repr, Inhabited

/-- A UDP datagram that arrives on X8 (R321, R322). -/
structure X8Datagram where
  ip : Word
  sourcePort : Nat
  port : Nat
  data : List Byte
deriving DecidableEq, Repr, Inhabited

/-- The crossings that R221 names, and the isolation link at FL, which fences when the field side is reset (R230). -/
inductive Crossing
  | flCl
  | clFl
  | nwCl
  | fbCl
  | clNw
  | clFb
  | nwAs
  | fbAs
  | clAs
  | asCl
  | mgCl
  | clMg
  | hiMg
  | mgHi
  | clHi
  | rtMg
  | fbMg
  | fsFl
deriving DecidableEq, Repr, Inhabited

/-- The end of a block of the shutdown test: the engine's pattern counter, Ashlar's count, the signature read, the
failing lines of an MBIST, and for each fuse blown in step 12 whether it reads back right, in their order, right where
the list ends, and the lanes that failed in block 5 where it names them (R394, R395, R404, R405). -/
structure BlockResult where
  block : Nat
  engineCount : Nat
  ashlarCount : Nat
  signature : Word
  memFails : List MemFail
  fusesOk : List Bool
  lanes : List Nat := []
deriving DecidableEq, Repr, Inhabited

/-- The commands of the block, one per row of the table of operations and events. -/
inductive Instr
  /-- POWER_ON_RESET (R374). -/
  | powerOnReset (p : PowerOn)
  /-- LED_TEST_END (R24). -/
  | ledTestEnd
  /-- START_UP_TEST_DONE (R376). -/
  | startUpTestDone (r : StartResult)
  /-- FIELD_CONFIG_TIMEOUT (R258). -/
  | fieldConfigTimeout
  /-- LOGIC_SUPPLY_LOW (R214). -/
  | logicSupplyLow (mv : Nat)
  /-- LOGIC_SUPPLY_HIGH (R214). -/
  | logicSupplyHigh (mv : Nat)
  /-- INTERNAL_RAIL_FAULT (R214). -/
  | internalRailFault
  /-- LOGIC_SUPPLY_REMOVED (R374). -/
  | logicSupplyRemoved
  /-- BOARD_TEMPERATURE (R214). -/
  | boardTemperature (tenths : Int)
  /-- BACKUP_CELL_FITTED (R374). -/
  | backupCellFitted (mv : Nat)
  /-- BACKUP_CELL_REMOVED (R443). -/
  | backupCellRemoved
  /-- RT_COMPARATOR_SAMPLE (R390). -/
  | rtComparatorSample (c : RtSample)
  /-- CELL_MEASUREMENT (R442). -/
  | cellMeasurement (mv : Nat)
  /-- OP_TIME_SAVE (R358). -/
  | opTimeSave
  /-- PHASE_I (R124): the samples of R219 at each input crossing where they did not agree at once. -/
  | phaseI (samples : List (Crossing × List Word))
  /-- PHASE_E (R64). -/
  | phaseE (cycles : Nat)
  /-- PHASE_O (R126): the samples of R219 for HI_STATE. -/
  | phaseO (samples : List Word)
  /-- PHASE_H (R127). -/
  | phaseH (h : PhaseHWork)
  /-- NODE_TIMEOUT_RECOMPUTE (R298). -/
  | nodeTimeoutRecompute
  /-- BENCH_OVERRUN (R129): the slot cycles used (R130), and those of the engine in a phase E (R131). -/
  | benchOverrun (phase : Phase) (cycles engine : Nat)
  /-- REQUEST_QUEUE_SERVICE (R330). -/
  | requestQueueService
  /-- NODE_DROPOUT (R137). -/
  | nodeDropout (node : Nat)
  /-- THROW_TIMEOUT (R77). -/
  | throwTimeout (element : Nat)
  /-- PROOF_TIMEOUT (R72). -/
  | proofTimeout (route : Nat)
  /-- SIGNAL_CONFIRM_TIMEOUT (R84). -/
  | signalConfirmTimeout (element : Nat)
  /-- TRANSACTION_TIMEOUT (R89). -/
  | transactionTimeout (element : Nat)
  /-- PENDING_EXPIRED (R70). -/
  | pendingExpired (arrival : Nat)
  /-- AUX_PREPARE_EXPIRY (R90). -/
  | auxPrepareExpiry (kind target : Nat)
  /-- APPROACH_RELEASE_EXPIRY (R73). -/
  | approachReleaseExpiry (route : Nat)
  /-- OVERLAP_RELEASE_EXPIRY (R75). -/
  | overlapReleaseExpiry (route : Nat)
  /-- EMERGENCY_RELEASE_EXPIRY (R91). -/
  | emergencyReleaseExpiry (route : Nat)
  /-- RESTART_HOLD_END (R94). -/
  | restartHoldEnd
  /-- CLEAR_DELAY_EXPIRY (R34). -/
  | clearDelayExpiry (element : Nat)
  /-- BERTH_CONFIRMATION (R103). -/
  | berthConfirmation (element : Nat)
  /-- MOVE_LIMIT_EXPIRY (R99). -/
  | moveLimitExpiry (element : Nat)
  /-- OBSTRUCTION_60S (R101). -/
  | obstruction60s (element : Nat)
  /-- DWELL_WARNING (R174). -/
  | dwellWarning
  /-- DWELL_EXPIRY (R174). -/
  | dwellExpiry
  /-- FORCE_REMINDER (R149). -/
  | forceReminder
  /-- CORE_ACCUSE (R166); `bus` is the access of each active slot at the comparison point, in slot order, empty where
  none is made (R164). -/
  | coreAccuse (slot : Nat) (item : Nat) (bus : List BusAccess)
  /-- NO_MAJORITY (R167); `bus` as in CORE_ACCUSE. -/
  | noMajority (bus : List BusAccess)
  /-- MISMATCH (R167); `bus` as in CORE_ACCUSE. -/
  | mismatch (bus : List BusAccess)
  /-- COMPARATORS_DIFFER (R177). -/
  | comparatorsDiffer (x y : Byte)
  /-- TARGETED_SELF_TEST_DONE (R168). -/
  | targetedSelfTestDone (block : Nat)
  /-- SYNC_WINDOW_DONE (R172). -/
  | syncWindowDone (streamsDiffer : Bool)
  /-- SAFE_SELF_TEST_DONE (R176). -/
  | safeSelfTestDone (failed : List Nat)
  /-- CORE_S_SIGNATURE (R179). -/
  | coreSSignature (seen : Option Word)
  /-- SRAM_CORRECTABLE_ERROR (R180). -/
  | sramCorrectableError (address syndrome : Word)
  /-- SRAM_UNCORRECTABLE_ERROR (R180). -/
  | sramUncorrectableError (address syndrome : Word)
  /-- DEBUG_ATTACH (R378). -/
  | debugAttach (kind : DebugKind) (core : Nat)
  /-- DEBUG_DETACH (R380). -/
  | debugDetach
  /-- SEAL_CHANGE (R383). -/
  | sealChange (pattern : BitVec 4)
  /-- ASHLAR_RESET (R187). -/
  | ashlarReset
  /-- ASHLAR_SUPPLY_FAULT (R184). -/
  | ashlarSupplyFault
  /-- ASHLAR_TABLE_LOAD_DONE (R188). -/
  | ashlarTableLoadDone (seen back : Option (List Byte))
  /-- CYCLE_CODE (R193). -/
  | cycleCode (seen : Option (Word × Word))
  /-- ASHLAR_LATE (R193). -/
  | ashlarLate
  /-- ASHLAR_ARM_WINDOW_EXPIRY (R192). -/
  | ashlarArmWindowExpiry
  /-- ASHLAR_TABLE_CHECK (R189). -/
  | ashlarTableCheck (seen : Option (List Byte))
  /-- ASHLAR_CLOCK_COUNT (R194). -/
  | ashlarClockCount (cluster : Bool) (count : Nat)
  /-- ASHLAR_HOLD_CHANGE (R195). -/
  | ashlarHoldChange (lines : HoldLines)
  /-- ASHLAR_INPUT_FRAME (R197). -/
  | ashlarInputFrame (intact : Bool)
  /-- ASHLAR_INPUT_STALE (R197). -/
  | ashlarInputStale
  /-- ASHLAR_PERMIT_FRAME (R196). -/
  | ashlarPermitFrame (intact : Bool)
  /-- ASHLAR_FRAME_LOSS (R196). -/
  | ashlarFrameLoss
  /-- MARK_REQUEST (R198). -/
  | markRequest (can : Bool) (group : Nat) (linkKey : Word) (alive : BitVec 16)
  /-- CORE_TO_FIELD_FRAME (R256): the channels switched off whose opening was followed within 100 µs by a fall on another,
  each with that channel and its U+ in mV (R251). -/
  | coreToFieldFrame (intact : Bool) (drops : List (Nat × Nat × Nat))
  /-- FIELD_TO_CORE_FRAME (R256). -/
  | fieldToCoreFrame (intact : Bool)
  /-- ISOLATION_LINK_LOSS (R257). -/
  | isolationLinkLoss (direction : LinkLoss)
  /-- FIELD_SIDE_RESET (R258). -/
  | fieldSideReset
  /-- DEBOUNCE_EXPIRY (R234). -/
  | debounceExpiry (channel : Nat) (level : Bool) (since : Nat)
  /-- TEST_PULSE_START (R237). -/
  | testPulseStart (source : Nat)
  /-- TEST_PULSE_CHECK (R238). -/
  | testPulseCheck (c : PulseCheck)
  /-- SOURCE_OVERLOAD (R241). -/
  | sourceOverload (source : Nat)
  /-- OUTPUT_SWITCH_TEST (R247). -/
  | outputSwitchTest (t : SwitchTest)
  /-- EXTERNAL_FEED (R250). -/
  | externalFeed (m : FeedMeasure)
  /-- OUTPUT_OVERLOAD (R250), of the channel or of its whole group, with the current measured. -/
  | outputOverload (channel : Nat) (wholeGroup : Bool) (milliAmp : Nat)
  /-- GROUP_SUPPLY_STATE (R253). -/
  | groupSupplyState (group : Nat) (inputSide : Bool) (mv : Nat)
  /-- GROUP_SWITCH_FAULT (R254). -/
  | groupSwitchFault (group : Nat) (readBack : Bool)
  /-- CAN_FRAME_RECEIVED (R273). -/
  | canFrameReceived (port : Nat) (f : CanFrame)
  /-- RATE_DETECT_TIMEOUT (R267). -/
  | rateDetectTimeout (port : Nat)
  /-- CAN_COMMIT_REORDER (R269). -/
  | canCommitReorder (port : Nat) (headBegun : Bool)
  /-- CAN_TX_DONE (R270). -/
  | canTxDone (port : Nat)
  /-- CAN_TX_CANCELLED (R270). -/
  | canTxCancelled (port : Nat)
  /-- CAN_BUS_ERROR (R275). -/
  | canBusError (port : Nat) (e : BusError)
  /-- ID_CLASH_BLOCK_EXPIRY (R272). -/
  | idClashBlockExpiry (port : Nat) (ident : Nat)
  /-- BUS_OFF_RECOVERY (R276). -/
  | busOffRecovery (port : Nat)
  /-- DATAGRAM_RECEIVED (R300). -/
  | datagramReceived (d : Datagram)
  /-- TELEGRAM_CHECK (R289). -/
  | telegramCheck (faultX faultY : Option Nat)
  /-- LAN_DOWN (R299). -/
  | lanDown (lan : Nat)
  /-- PRP_SUPERVISION_SEND (R299). -/
  | prpSupervisionSend
  /-- ARP_REQUEST (R299): with the addresses of its sender. -/
  | arpRequest (maintenance : Bool) (lan : Nat) (target sender : Word) (mac : BitVec 48)
  /-- ICMP_ECHO (R321). -/
  | icmpEcho (target : Word) (data : List Byte)
  /-- X8_REQUEST_DATAGRAM (R322). -/
  | x8RequestDatagram (d : X8Datagram)
  /-- DOORBELL (R312). -/
  | doorbell (value : Word) (block : List Byte)
  /-- HI_DONE_CLEAR (R313). -/
  | hiDoneClear (high : Bool) (value : Word)
  /-- HI_IRQ_STAT_CLEAR (R308). -/
  | hiIrqStatClear (value : Word)
  /-- HI_IRQ_MASK_WRITE (R308). -/
  | hiIrqMaskWrite (value : Word)
  /-- HI_NOTE_TAIL_WRITE (R318). -/
  | hiNoteTailWrite (value : Word)
  /-- M2_WRITE (R223). -/
  | m2Write (value : Bool)
  /-- LINK_EVENT_CLEAR (R224). -/
  | linkEventClear (mg cl : Bool)
  /-- HI_XING_READ (R224). -/
  | hiXingRead
  /-- REGISTER_WRITE (R307). -/
  | registerWrite (offset : Nat) (bits : Nat) (value : Word)
  /-- HOST_LINK_RESET (R326). -/
  | hostLinkReset
  /-- MG_HEARTBEAT_LOSS (R209). -/
  | mgHeartbeatLoss
  /-- MG_RESTART (R209). -/
  | mgRestart
  /-- CROSSING_LINK_UP (R225). -/
  | crossingLinkUp (x : Crossing)
  /-- HELD_COMPLETION_DELIVERY (R326). -/
  | heldCompletionDelivery
  /-- NOTIFICATION_FLUSH (R320). -/
  | notificationFlush
  /-- RECORD_WRITE (R360); `bad` is a block of 128 records, its first record number / 128, that the NAND store has
  declared bad after 3 re-reads (R359, R204). -/
  | recordWrite (bad : Option Nat)
  /-- TOKEN_REFILL (R362). -/
  | tokenRefill (code : Nat)
  /-- SUPPRESSION_SUMMARY_TIMER (R363). -/
  | suppressionSummaryTimer (code : Nat)
  /-- EVENT_FREEZE_EXPIRY (R365). -/
  | eventFreezeExpiry
  /-- SESSION_EXPIRY (R348). -/
  | sessionExpiry (session : Word)
  /-- ROLE_LOCK_EXPIRY (R348). -/
  | roleLockExpiry (role : Role)
  /-- MAINT_ADDRESS_APPLY (R346). -/
  | maintAddressApply
  /-- ACTIVATION_VALIDATION_DONE (R54). -/
  | activationValidationDone
  /-- FIRMWARE_ACTIVATION_RESET (R417). -/
  | firmwareActivationReset (p : PowerOn)
  /-- BIST_BLOCK_DONE (R395). -/
  | bistBlockDone (b : BlockResult)
  /-- BIST_BLOCK_TIMEOUT (R397). -/
  | bistBlockTimeout (block ashlarCount : Nat)
  /-- SHUTDOWN_TEST_DONE (R397). -/
  | shutdownTestDone
  /-- IDENTIFY (R333). -/
  | identify (r : Req)
  /-- CAPABILITIES (R333). -/
  | capabilities (r : Req)
  /-- GET_STATUS (R333). -/
  | getStatus (r : Req)
  /-- SET_TIME (R333). -/
  | setTime (r : Req)
  /-- GET_TIME (R333). -/
  | getTime (r : Req)
  /-- SHUTDOWN (R396). -/
  | shutdown (r : Req)
  /-- ROUTE_SET (R68). -/
  | routeSet (r : Req)
  /-- ROUTE_CANCEL (R336). -/
  | routeCancel (r : Req)
  /-- POINT_MOVE (R79). -/
  | pointMove (r : Req)
  /-- SIGNAL_STOP (R85). -/
  | signalStop (r : Req)
  /-- ROUTE_STATE (R337). -/
  | routeState (r : Req)
  /-- ELEMENT_STATE (R337). -/
  | elementState (r : Req)
  /-- AUX_PREPARE (R90). -/
  | auxPrepare (r : Req)
  /-- AUX_CONFIRM (R90). -/
  | auxConfirm (r : Req)
  /-- DOOR_OPEN (R106). -/
  | doorOpen (r : Req)
  /-- DOOR_CLOSE (R109). -/
  | doorClose (r : Req)
  /-- DOOR_HEALTH (R120). -/
  | doorHealth (r : Req)
  /-- BENCH_START (R340). -/
  | benchStart (r : Req)
  /-- BENCH_STOP (R340). -/
  | benchStop (r : Req)
  /-- BENCH_RESTART (R210). -/
  | benchRestart (r : Req)
  /-- FORCE_SET (R145). -/
  | forceSet (r : Req)
  /-- FORCE_CLEAR (R145). -/
  | forceClear (r : Req)
  /-- FORCE_LIST (R142). -/
  | forceList (r : Req)
  /-- CONSTANT_SET (R153). -/
  | constantSet (r : Req)
  /-- CONSTANT_GET (R341). -/
  | constantGet (r : Req)
  /-- EVENT_INFO (R343). -/
  | eventInfo (r : Req)
  /-- EVENT_READ (R342). -/
  | eventRead (r : Req)
  /-- EVENT_FREEZE (R364). -/
  | eventFreeze (r : Req)
  /-- EVENT_THAW (R365). -/
  | eventThaw (r : Req)
  /-- EVENT_SET_RATE (R342). -/
  | eventSetRate (r : Req)
  /-- UPDATE_BEGIN (R412). -/
  | updateBegin (r : Req)
  /-- UPDATE_DATA (R345). -/
  | updateData (r : Req)
  /-- UPDATE_VERIFY (R414). -/
  | updateVerify (r : Req)
  /-- UPDATE_ACTIVATE (R415). -/
  | updateActivate (r : Req)
  /-- UPDATE_CONFIRM (R419). -/
  | updateConfirm (r : Req)
  /-- UPDATE_STATUS (R345). -/
  | updateStatus (r : Req)
  /-- UPDATE_ABORT (R344). -/
  | updateAbort (r : Req)
  /-- ROLE_LOGIN (R348). -/
  | roleLogin (r : Req)
  /-- ROLE_LOGOUT (R348). -/
  | roleLogout (r : Req)
  /-- PASSWORD_SET (R346). -/
  | passwordSet (r : Req)
  /-- KEY_INSTALL (R346). -/
  | keyInstall (r : Req)
  /-- LIFECYCLE_ADVANCE (R371). -/
  | lifecycleAdvance (r : Req)
  /-- LOCKOUT_RELEASE (R212). -/
  | lockoutRelease (r : Req)
  /-- CHANGE_LOG_READ (R387). -/
  | changeLogRead (r : Req)
  /-- MAINT_ADDRESS (R346). -/
  | maintAddress (r : Req)
  /-- DIAG_VOTE (R183). -/
  | diagVote (r : Req)
  /-- DIAG_ASHLAR (R201). -/
  | diagAshlar (r : Req)
  /-- DIAG_SAFE_RECORD (R213). -/
  | diagSafeRecord (r : Req)
  /-- DIAG_INPUTS (R259). -/
  | diagInputs (r : Req)
  /-- DIAG_OUTPUTS (R259). -/
  | diagOutputs (r : Req)
  /-- DIAG_GROUPS (R259). -/
  | diagGroups (r : Req)
  /-- DIAG_CAN_PORT (R279). -/
  | diagCanPort (r : Req)
  /-- DIAG_PORT_COUNTERS (R350). -/
  | diagPortCounters (r : Req)
  /-- DIAG_NODE (R303). -/
  | diagNode (r : Req)
  /-- DIAG_NODE_LIST (R350). -/
  | diagNodeList (r : Req)
  /-- SUBSCRIBE (R352). -/
  | subscribe (r : Req)
  /-- SUBSCRIPTION_GET (R352). -/
  | subscriptionGet (r : Req)
  /-- DWELL_COUNT_SAVE (R174). -/
  | dwellCountSave
  /-- ASHLAR_SUPPLY_RETURN (R184). -/
  | ashlarSupplyReturn
  /-- SUPERVISION_FRAME_RECEIVED (R299). -/
  | supervisionFrameReceived (lan : Nat)
  /-- MSI_VECTOR_ENABLE (R306). -/
  | msiVectorEnable (n : Nat)
deriving DecidableEq, Repr, Inhabited

end Sys2Proof
end

