-- ==== Sys2Proof/Config.lean ====
section
/-! DEFINITION. What the spec leaves open and an implementation fixes: free values and functions of published standards
that the spec names without giving them. None has a body, so no proof can see a value of it (log entries 5, 7 and 91). -/

namespace Sys2Proof.Config

/-- The n-th challenge drawn from Ashlar's 16-bit generator (R191). Log entry 5. -/
opaque ashlarChallenge : Nat → BitVec 16

/-- The n-th draw of the cluster's generator for a 6-digit challenge (R90). Log entry 5. -/
opaque auxChallenge : Nat → Word

/-- The n-th draw of the cluster's generator for a session ID (R348). Log entry 5. -/
opaque sessionDraw : Nat → Word

/-- The n-th 32-byte salt (R382). Log entry 5. -/
opaque salt : Nat → BitVec 256

/-- The VALUE the module sends in a record for an object of an element that has no demand (R284 states none), by draw
and element. Log entry 5. -/
opaque idleValue : Nat → Nat → BitVec 7

/-- The time in 0.01 µs that the n-th frame or error frame held a CAN bus, of which the module reports the measured
share (R278, R279): the spec bounds it by t_frame and states no more. Log entry 5. -/
opaque busTime : Nat → Nat

/-- The strobes that Ashlar had counted when the n-th block was cut short (R399 states no count). Log entry 5. -/
opaque bistStrobes : Nat → BitVec 24

/-- The event code under which the module records a NAND block that its store declares bad (R204 names the fault, R203
its event, and the spec gives no code). Log entry 91. -/
opaque nandBadCode : BitVec 16

/-- ECDSA P-384 with SHA-384: whether a 96-byte signature of a byte string verifies under a key (R27, R409).
Log entry 7. -/
opaque verifies : (key message signature : List Byte) → Bool

/-- Whether an uncompressed point lies on the curve P-384 (R346). Log entry 7. -/
opaque onCurve : List Byte → Bool

/-- PBKDF2-HMAC-SHA-384 with 4,096 iterations and a 48-byte result, of a password and a salt (R382). Log entry 7. -/
opaque pbkdf2 : (password salt : List Byte) → BitVec 384

end Sys2Proof.Config
end

