-- ==== Sys2Proof/Machine/State.lean ====
section
/-! DEFINITION. The state of the module as plain data: every register, queue, counter, table and pin the spec gives it.
Each field's remark gives its meaning, its width where it is not a plain count, the spec's file and rule, and where its
reset value comes from: `S` the spec, `D<n>` a design choice of log entry n, `M<n>` a field of the model's own. -/

namespace Sys2Proof.Machine

/-- Why a step stops with a fault. -/
inductive Fault
  /-- Raised by LOGIC_SUPPLY_HIGH above the absolute maximum of L24, for which the module "guarantees nothing"
  (R214, R438). Safe: no state is given. -/
  | beyondAbsoluteMaximum
deriving DecidableEq, Repr

/-- Why a command has no meaning. -/
inductive Refusal
  /-- Raised by an arm of exec whose command has no meaning yet. Safe: the run ends. -/
  | notModelled (mnemonic : String)
deriving DecidableEq, Repr

/-! ### Names -/

/-- Power states (R373). -/
inductive PowerState
  | off
  | standby
  | start
  | run
  | stop
  | shutdownTest
  | safe
  | lockout
deriving DecidableEq, Repr, Inhabited

/-- What brought the module into START (R374). -/
inductive StartCause
  | powerOn
  | benchStart
  | benchRestart
deriving DecidableEq, Repr, Inhabited

/-- The variants of R2. -/
inductive Variant
  | v40
  | v30
  | v20
deriving DecidableEq, Repr, Inhabited

/-- The states of Ashlar (R185). -/
inductive AshlarState
  | disarmed
  | ready
  | armed
  | tripped
deriving DecidableEq, Repr, Inhabited

/-- Route states (R63). -/
inductive RouteState
  | free
  | requested
  | setting
  | locked
  | proven
  | clear
  | occupied
  | releasing
  | cancelling
deriving DecidableEq, Repr, Inhabited

/-- Transaction kinds (R87). -/
inductive TxnKind
  | pointThrow
  | signalClear
  | signalStop
  | doorOpen
  | doorClose
  | sectionReset
deriving DecidableEq, Repr, Inhabited

/-- The states of a core (R183). -/
inductive CoreState
  | voting
  | selfTest
  | syncing
  | reserve
  | failed
  | unhealthy
  | absent
deriving DecidableEq, Repr, Inhabited

/-- A record kept in two copies; the copy that passes its CRC and has the higher SEQ decides (R370). -/
structure Dup (α : Type) where
  a : α
  b : α
  aOk : Bool := true
  bOk : Bool := true
  aSeq : Nat := 1
  bSeq : Nat := 0
deriving DecidableEq, Repr

/-! ### Station data in cluster SRAM (02) -/

/-- The type-specific part of an element record (R34). -/
inductive ElemPart
  | track (detection : Nat) (resetAllowed : Bool) (clearDelay : Nat)
  | point (coupled : Option Nat) (throwMin throwMax throwInit inTrack : Nat) (overrideAllowed : Bool)
  | signal (aspectSet kind : Nat) (lampProving : Bool) (approach edge : Option Nat)
  | edge (firstLeaf leafCount departSignal firstBerth berthCount tdcNode tdcObject confirmTime : Nat)
  | leaf (edge position : Nat) (isolationAllowed : Bool) (moveLimit : Nat)
  | berth (edge position track : Nat)
  | link (neighbour linkKind localElement : Nat)
  | auxIn (activeLevel role : Nat)
  | auxOut (demandList : Nat) (ashlarBit : Option Nat)
deriving DecidableEq, Repr

/-- An element record (R30, R34). -/
structure Element where
  index : Nat
  loc : Bool
  snapshot : Bool
  node : Nat
  object : Nat
  subst : Nat
  name : Nat
  area : Nat
  part : ElemPart
deriving DecidableEq, Repr

/-- A list entry of a route (R36). -/
structure RouteEntry where
  element : Nat
  state : Nat
  tag : Nat
deriving DecidableEq, Repr

/-- A route record (R36). -/
structure Route where
  no : Nat
  entry : Nat
  exit : Option Nat
  aspect : Nat
  kind : Nat
  approachRelease : Nat
  overlapRelease : Nat
  condition : Option Nat
  suffix : Nat
  name : Nat
  path : List RouteEntry
  overlap : List RouteEntry
  flank : List RouteEntry
deriving DecidableEq, Repr

/-- A term of a condition term list (R38). -/
structure Term where
  element : Nat
  state : Nat
  sense : Bool
  group : Nat
deriving DecidableEq, Repr

/-- An entry of the constants table (R40). -/
structure Constant where
  value : Nat
  min : Nat
  max : Nat
  unit : Nat
  online : Bool
deriving DecidableEq, Repr

/-- A node table entry (R43). -/
structure Node where
  id : Nat
  port : Nat
  poly : Nat
  linkKey : Word
  tRef : Nat
  toMin : Nat
  toMax : Nat
  tgroup : Nat
  cyclePoll : Bool
  neighbour : Bool
deriving DecidableEq, Repr

/-- A filter pair (R48). -/
structure Filter where
  mask : Nat
  pattern : Nat
  action : Nat
  ide : Bool
deriving DecidableEq, Repr

/-- A CAN port entry (R48). -/
structure CanConfig where
  enable : Bool
  nominal : Nat
  dataRate : Nat
  filters : List Filter
deriving DecidableEq, Repr

/-- An input entry of LOCAL_IO (R50). -/
structure InputConfig where
  mode : Nat
  source : Option Nat
  debounce : Nat
  pulsePeriod : Nat
  cos : Nat
deriving DecidableEq, Repr, Inhabited

/-- Station data loaded in cluster SRAM (02). -/
structure Station where
  stationId : Nat
  dataVersion : Nat
  networkId : Nat
  tBench : Nat
  changeMode : Nat
  requireSpare : Bool
  engineCycles : Nat
  keyId : Nat
  prepTime : Nat
  imageCrc : Word
  elements : List Element
  routes : List Route
  lists : List (List Term)
  constants : List Constant
  nodes : List Node
  ashlar : List Byte
  ashlarSectionCrc : Word
  ashlarOffset : Nat
  can : List CanConfig
  inputs : List InputConfig
  outputs : List Bool
  pulses : List (Option Nat)
  groups : List Bool
  localIo : List Byte
deriving DecidableEq, Repr

/-! ### Records and messages -/

/-- An event record (R354); `number` is its record number. -/
structure Record where
  code : Nat
  source : Nat
  severity : Nat
  staged : Bool := false
  timeSet : Bool := false
  fromCluster : Bool := false
  recovered : Bool := false
  powerCycle : Nat := 0
  opMs : Nat := 0
  number : Nat := 0
  p0 : Word := 0
  p1 : Word := 0
  p2 : Word := 0
deriving DecidableEq, Repr, Inhabited

/-- A change-log entry (R387). -/
structure LogEntry where
  entry : Nat := 0
  role : Nat := 0
  item : Nat := 0
  sealPat : Nat := 0
  timeSet : Bool := false
  recovered : Bool := false
  subject : Word := 0
  beforeCrc : Word := 0
  afterCrc : Word := 0
  before : Word := 0
  after : Word := 0
  opMs : Nat := 0
  transport : Nat := 0
  calMs : Nat := 0
  session : Word := 0
deriving DecidableEq, Repr, Inhabited

/-- A response (R310): the request it answers, its opcode and what it says. -/
structure Response where
  req : Req
  opcode : Nat
  status : Nat
  param0 : Word := 0
  param1 : Word := 0
  arrival : Nat := 0xFFFFFFFF
  payload : List Byte := []
deriving DecidableEq, Repr, Inhabited

/-- A notification before it has a SEQ (R317): `cycle` as in the entry, `fault` for the fault kinds. -/
structure Note where
  kind : Nat
  cycle : Nat
  opMs : Nat
  data : List Byte
deriving DecidableEq, Repr, Inhabited

/-- What leaves the module: MSI writes, X8 datagrams, frames on LAN A and B to the MAC address that ARP has given for their
IPv4 address, ARP and ICMP answers, CAN frames sent. -/
inductive Output
  | msi (vector : Nat)
  | x8 (ip : Word) (port : Nat) (data : List Byte)
  | lan (lan : Nat) (mac : Option (BitVec 48)) (address : Word) (data : List Byte)
  | supervision (lan : Nat)
  | arpReply (maintenance : Bool) (lan : Nat) (address : Word)
  | icmpReply (data : List Byte)
  | can (port ident : Nat) (data : List Byte)
deriving DecidableEq, Repr

/-- The safe-state record (R213). -/
structure SafeRecord where
  cls : Nat
  fromState : Nat
  cause : Nat
  cycle : Nat
  opTimeS : Nat
  entries24h : Nat
  moreCauses : Nat
deriving DecidableEq, Repr

/-- A force table entry in use (R142). -/
structure Force where
  kind : Nat
  target : Nat
  value : Nat
  role : Nat
  setCycle : Nat
  setTimeS : Nat
deriving DecidableEq, Repr

/-- A FORCE_SET or FORCE_CLEAR that takes effect at the next freeze (R145). -/
inductive ForceChange
  | set (f : Force)
  | clear (kind target : Nat)
  | clearAll
deriving DecidableEq, Repr

/-- A live session (R348). -/
structure Session where
  id : Word
  via : Transport
  role : Role
  lastUs : Nat
deriving DecidableEq, Repr

/-- Login failures of a role (R348, R382). -/
structure LoginState where
  failures : Nat := 0 -- consecutive failures [14 R348] D1
  lockedUntil : Option Nat := none -- end of the lock in operating time [14 R348] D1
deriving DecidableEq, Repr

/-! ### Route engine (03, 04) -/

/-- Leaf health data (R117 to R120); means are kept with 8 fractional bits. -/
structure Health where
  cycles : Nat := 0 -- counted cycles, 32 bits [04 R120] D1
  obstructions : Nat := 0 -- OBSTRUCTED reports over all cycles [04 R117] D1
  opens : List Nat := [] -- open times of the baseline in ms, up to 200 [04 R118] D1
  closes : List Nat := [] -- close times of the baseline in ms, up to 200 [04 R118] D1
  firstObst : Nat := 0 -- cycles with o = 1 among the first 200 [04 R118] D1
  openBase : Nat := 0 -- open baseline in ms [04 R118] D1
  closeBase : Nat := 0 -- close baseline in ms [04 R118] D1
  openMean : Nat := 0 -- open mean × 256 [04 R118] D1
  closeMean : Nat := 0 -- close mean × 256 [04 R118] D1
  obstBase : Nat := 0 -- r0 per 10,000 cycles [04 R118] D1
  obstMean : Nat := 0 -- r × 256 [04 R118] D1
  obstLearned : Bool := false -- r0 has been set from 200 cycles [04 R118] D1
  openDrift : Bool := false -- open mean above its threshold [04 R119] D1
  closeDrift : Bool := false -- close mean above its threshold [04 R119] D1
  obstRising : Bool := false -- obstruction mean above its threshold [04 R119] D1
  lastS : Nat := 0 -- operating time of the last counted cycle in s [04 R120] D1
  active : Bool := false -- a cycle is open: its open has been granted [04 R117] D1
  spoiled : Bool := false -- ISOLATED_CLOSED or FAILED seen in the cycle [04 R117] D1
  openUs : Option Nat := none -- phase O that committed the open [04 R117] D1
  openTaken : Option Nat := none -- open time of this cycle in ms [04 R117] D1
  closeUs : Option Nat := none -- phase O that committed the close [04 R117] D1
  obstructed : Nat := 0 -- OBSTRUCTED reports in this cycle [04 R117] D1
  wasObstructed : Bool := false -- the last freeze showed OBSTRUCTED [04 R117] D1
deriving DecidableEq, Repr

/-- Throw-time learning of a point end (R80 to R82); the mean is kept with 8 fractional bits. -/
structure ThrowLearn where
  times : List Nat := [] -- last 1,000 throw times in ms, newest first [03 R80] D1
  count : Nat := 0 -- throws recorded [03 R80] D1
  first : List Nat := [] -- the first 200 throw times [03 R82] D1
  baseline : Option Nat := none -- median of the first 200 in ms [03 R82] D1
  mean : Nat := 0 -- weighted mean × 256 [03 R82] D1
  drift : Bool := false -- mean above its threshold [03 R82] D1
  accepted : Option Nat := none -- throw timeout last accepted by the cluster in ms [03 R81] D1
deriving DecidableEq, Repr

/-- What the engine holds for one element. -/
structure ElemDyn where
  reported : Option Nat := none -- state code last reported, 7 bits; for an edge its TDC value [12 R284] D1
  lamp : Bool := false -- lamp failure reported [12 R284] D1
  sampleUs : Nat := 0 -- sample estimate of the reported value [05 R132] D1
  renewedUs : Nat := 0 -- instant that R136 compares [05 R136] D1
  badValue : Bool := false -- VALUE not a state code, this cycle only [12 R289] D1
  value : Nat := 0 -- underlying state of the image [05 R147] D1
  image : Nat := 0 -- state as the engine sees it, forces included [05 R147] D1
  substituted : Bool := false -- value is the substitute [05 R137] D1
  imageSampleUs : Nat := 0 -- sample estimate of the image value [05 R132] D1
  imageFreshUs : Nat := 0 -- instant the image value counts as sampled at [05 R136] D1
  frozen : Bool := false -- an image has held this element since the start [14 R337] S
  freezeAge : Nat := 0xFFFF -- age at the last freeze in 0.1 ms, 16 bits [14 R337] S
  demand : Option Nat := none -- working demand [05 R125] S
  committed : Option Nat := none -- committed demand [05 R126] S
  previous : Option Nat := none -- demand before the last change [03 R84] D1
  commitUs : Nat := 0 -- commit instant of the last change of demand [03 R77] D1
  confirmed : Bool := true -- the last change of demand has been confirmed [03 R84] D1
  holders : List Nat := [] -- routes holding a point end [03 R59] S
  position : Nat := 0 -- required position of the holders [03 R59] D1
  pathLock : Option Nat := none -- route with the path lock [03 R59] S
  overlapLocks : List Nat := [] -- routes with overlap locks [03 R59] S
  stopLocks : List Nat := [] -- routes with stop locks [03 R59] S
  lost : Bool := false -- point end declared LOST [03 R77] S
  leftPos : Bool := false -- F1 from leaving the required position [03 R78] S
  failed : Bool := false -- signal declared FAILED [03 R84] S
  leafCause : Nat := 0 -- cause of a leaf that is FAILED, 0 none, 6 reported by its controller [04 R98, R99] S
  dropped : Bool := false -- F1 from node dropout [05 R138] S
  channel : Bool := false -- F1 from a local channel [10 R240, R252] S
  segment : Bool := false -- F2 of its CAN segment or field group [08 R205] S
  kindFault : Bool := false -- boundary kind mismatch [12 R302] S
  faultClass : Nat := 0 -- class last notified, 0 none [14 R353] S
  faultCode : Nat := 0 -- event code last notified [14 R353] S
  good : Nat := 0 -- consecutive fresh reports toward an end of F1 [03 R77] D1
  goodUs : Nat := 0 -- instant of the last report counted in good [03 R77] D1
  clearSince : Option Nat := none -- freeze since which CLEAR is reported [02 R34] D1
  clearDelayUs : Nat := 0 -- clear delay of the running interval [05 R155] D1
  berthSince : Option Nat := none -- first freeze of the confirmation [04 R103] D1
  confirmUs : Nat := 0 -- confirmation time of the running interval [05 R155] D1
  movingUs : Nat := 0 -- time MOVING in total [04 R99] D1
  movingSeen : Bool := false -- the last freeze showed MOVING [04 R99] D1
  obstructedSince : Option Nat := none -- freeze since which OBSTRUCTED is reported [04 R101] D1
  obstructedTold : Bool := false -- event 0x7012 recorded for this obstruction [04 R101] D1
  closeSince : Option Nat := none -- commit instant since which the demand is CLOSE [04 R99] D1
  isolated : Bool := false -- isolation in effect [04 R102] S
  held : Bool := false -- restart hold [03 R94] S
  throwLimitUs : Nat := 0 -- throw timeout in force [03 R81] D1
  openDemand : Bool := false -- open demand of an edge [04 R104] S
  leftSecureUs : Nat := 0 -- freeze at which the edge last left DOORS_SECURE [04 R111] D1
  opening : Bool := false -- open transactions of the edge still run [04 R107] S
  reachedOpen : Nat := 0 -- leaves that reached OPEN under this open [04 R107] D1
  lastReason : Nat := 0 -- last PENDING or refusal reason [14 R337] S
  kept : Nat × Nat × Nat := (0, 0xFF, 0) -- STATE, DEMAND and FLAGS in the last frozen image [14 R337] S
  learn : ThrowLearn := {} -- throw-time learning [03 R80] D1
  health : Health := {} -- leaf health data [04 R117] D1
deriving DecidableEq, Repr

/-- What the engine holds for one route. -/
structure RouteDyn where
  state : RouteState := .free -- route state [03 R63] S
  lockedUs : Nat := 0 -- freeze at which it entered LOCKED [03 R72] D1
  clearWanted : Bool := false -- its clear command has been written [03 R66] S
  clearUs : Option Nat := none -- commit instant of its clear command [03 R66] S
  released : Nat := 0 -- release groups released [03 R74] S
  seen : List Nat := [] -- path sections seen OCCUPIED since OCCUPIED [03 R74] S
  approachWait : Bool := false -- CANCELLING with the approach section CLEAR so far [03 R73] S
  approachEnd : Option Nat := none -- end of the approach release timer [03 R73] S
  overlapEnd : Option Nat := none -- end of the overlap release timer [03 R75] S
  emergencyEnd : Option Nat := none -- end of the timer of a confirmed emergency release [03 R91] S
  emergencyFailed : Bool := false -- its entry signal has been FAILED throughout [03 R91] S
  reason : Nat := 0 -- wait or refusal reason as notified [03 R71] S
  param : Nat := 0 -- parameter of that reason [03 R71] S
  lastReason : Nat := 0 -- last PENDING or refusal reason of any request for it [14 R337] S
  arrival : Nat := 0xFFFFFFFF -- arrival number of its request [03 R71] D1
  toldState : RouteState := .free -- state at the previous phase O [03 R71] S
  toldReason : Nat := 0 -- wait reason at the previous phase O [03 R71] S
  quiet : Bool := false -- its change is reported by a completion in this phase O [03 R71] S
deriving DecidableEq, Repr

/-- What an entry of the pending queue asks for (R68, R79, R106, R445). -/
inductive Want
  | route (no : Nat)
  | point (element position : Nat) (overrides : Bool)
  | doors (edge mask : Nat)
  | reset (element : Nat)
deriving DecidableEq, Repr

/-- An entry of the pending queue. `req` is the request while its command has not completed. -/
structure Pend where
  want : Want
  arrival : Nat
  enteredUs : Nat
  opcode : Nat
  req : Option Req
  reason : Nat := 0
  param : Nat := 0
deriving DecidableEq, Repr

/-- A field transaction (R86 to R89). `slot` is false while it is supervised by the element's demand record (R88). -/
structure Txn where
  kind : TxnKind
  element : Nat
  value : Nat
  slot : Bool
  commitUs : Option Nat := none
  limitUs : Nat
  ended : Bool := false
deriving DecidableEq, Repr

/-- A prepared auxiliary command (R90). -/
structure Prepare where
  kind : Nat
  position : Nat
  target : Nat
  challenge : Nat
  doneUs : Option Nat
  expired : Bool := false
deriving DecidableEq, Repr

/-- A command whose completion waits for an outcome. -/
inductive Waiting
  | signalStop (req : Req) (element : Nat) (commitUs : Option Nat)
  | doorClose (req : Req) (edge : Nat)
  | benchStart (req : Req)
  | benchRestart (req : Req)
  | benchStop (req : Req)
  | shutdown (req : Req)
  | activate (req : Req) (newStation : Bool)
  | relatch (req : Req)
deriving DecidableEq, Repr

/-- A request frozen or queued for the cluster: its opcode, its header and the instant it entered the queue (R65, R124). -/
structure Queued where
  opcode : Nat
  req : Req
  atUs : Nat := 0
deriving DecidableEq, Repr

/-- The route and door engine. -/
structure Engine where
  elems : List ElemDyn := [] -- one per element of station data [03 R59] S
  routes : List RouteDyn := [] -- one per route of station data [03 R63] S
  queue : List Pend := [] -- pending queue, at most 512 counted entries [03 R68] S
  txns : List Txn := [] -- field transactions, at most 256 slots [03 R86] S
  prepares : List Prepare := [] -- open prepares, at most 16 [03 R90] S
  waiting : List Waiting := [] -- commands that wait for an outcome [13 R314] S
  holdEnd : Option Nat := none -- end of the restart hold [03 R94] S
  heldAreas : List Nat := [] -- areas whose hold runs [03 R94] S
  lastSeq : Option Nat := none -- last arrival number frozen [03 R65] D1
deriving DecidableEq, Repr

/-! ### Bench cycle (05) -/

/-- What the cluster has handed to the crossing to Ashlar: a cycle code with its demand word, or a halt code with its
COUNT, whose RESPONSE answers the challenge current when it crosses (R190, R193). -/
inductive CodeOut
  | cycle (code demand : Word)
  | halt (count : Byte)
deriving DecidableEq, Repr

/-- What the logins of a cycle change, as the cycle found it: a command that ends DISCARDED leaves no effect (R208). -/
structure Undo where
  sessions : List Session -- sessions [14 R348]
  maintainerLogin : LoginState -- failures and lock of the Maintainer [14 R348]
  authorityLogin : LoginState -- failures and lock of the Safety Authority [14 R348]
  pendRt : Bool -- indications pending acknowledgement [16 R386]
  pendSeal : Bool -- as pendRt
  pendNand : Bool -- as pendRt
deriving DecidableEq, Repr

/-- The bench cycle's own registers. -/
structure Bench where
  cycle : Nat := 0 -- cycle number, 32 bits [05 R121] S
  nextCycle : Nat := 0 -- number of the next cycle, 32 bits [05 R121] S
  lastO : Nat := 0 -- number of the cycle of the last phase O, 32 bits [13 R307] S
  freezeUs : Nat := 0 -- freeze instant of the current cycle [05 R121] D1
  nextFreezeUs : Nat := 0 -- next instant of the grid [05 R121] D1
  frozen : Bool := false -- phase I of this cycle has run [05 R122] S
  evaluated : Bool := false -- phase E of this cycle has run [05 R122] S
  housekept : Bool := true -- phase H of this cycle has run, or none is due [05 R122] S
  first : Bool := false -- no phase E has run since the entry into RUN [04 R115] S
  requests : List Queued := [] -- requests of the image [05 R124] S
  overran : Option Nat := none -- cycle of the last overrun [05 R130] S
  discard : Bool := false -- the working copy of this cycle is discarded [05 R129] S
  noCode : Bool := false -- no further cycle code is delivered [05 R130] S
  constants : List (Nat × Nat) := [] -- online values kept in the configuration partition [02 R42] S
  newConstants : List (Nat × Nat) := [] -- changes in effect from the next freeze [05 R154] S
  forces : List Force := [] -- force table, 64 entries of 16 bytes [05 R142] S
  newForces : List ForceChange := [] -- force changes in effect from the next freeze [05 R145] S
  forcedShown : Bool := false -- FORCE LED, FORCED line and FORCING flag [05 R149] S
  reminderUs : Nat := 0 -- operating time of the next 0x1062 [05 R149] D1
  completions : List Response := [] -- completions handed over in phase O [05 R126] S
  notes : List Note := [] -- notifications handed over in phase O [05 R126] S
  challenge : BitVec 16 := 0 -- challenge read in phase I [07 R191] D1
  codes : List CodeOut := [] -- codes handed to the crossing to Ashlar [05 R126] S
  stopping : Bool := false -- a BENCH_STOP or the dwell ends RUN after this phase O [06 R174] S
  newLog : List LogEntry := [] -- change-log entries of constants set in this cycle, written by its phase O [05 R153, 08 R208] S
  undo : Option Undo := none -- what a discarded cycle gives back of logins [08 R208] S
deriving DecidableEq, Repr

/-! ### Voting cluster (06) -/

/-- One core's own store (R158, R163, R172): what the firmware computes in it is not modelled, only how it is written,
destroyed and copied (log entry 93). -/
structure CoreStore where
  regs : List (Nat × Word) := [] -- register file and control registers by number, unlisted ones 0 [06 R163, R172] D93
  pc : Word := 0 -- program counter at which the next cycle starts [06 R172] D93
  itcm : List Host.Cell := [] -- instruction TCM of 64 KiB [06 R158] D93
  dtcm : List Host.Cell := [] -- data TCM of 256 KiB [06 R158] D93
  written : Bool := false -- the boot firmware has written every register and word since the last reset [06 R163] S
deriving DecidableEq, Repr, Inhabited

/-- One voting slot (R158). -/
structure Slot where
  core : Nat -- core code 0 A to 3 S [06 R158] S
  active : Bool := true -- the voter and comparators heed the slot [06 R166] S
  vacant : Bool := false -- vacant because its core is FAILED [06 R174] S
  joinedCycle : Option Nat := none -- cycle at which its core last joined [06 R173] S
deriving DecidableEq, Repr

/-- The voting cluster's registers. -/
structure Vote where
  slots : List Slot := [⟨0, true, false, none⟩, ⟨1, true, false, none⟩, ⟨2, true, false, none⟩] -- V0 to V2 [06 R158] S
  lanes : List Nat := [0, 1, 2] -- lane serving each slot, 2 bits each [06 R161] S
  cores : List CoreState := [.voting, .voting, .voting, .reserve] -- state of A, B, C, S [06 R183] S
  transients : List (List Nat) := [[], [], [], []] -- operating times of transients in s, per core [06 R170] D1
  testing : Option Nat := none -- slot whose core is in its targeted self-test [06 R168] S
  laneCheck : Option Nat := none -- slot whose lane test decides after a passed self-test [06 R169] S
  joining : Option (Nat × Nat) := none -- slot and core of a pending sync window [06 R169, R171] S
  joinReady : Bool := false -- the sync window has completed [06 R172] S
  laneTurn : Nat := 0 -- lane the rotation of phase H tests next [05 R127] D1
  ramSlices : Nat := 0 -- background RAM test slices finished [05 R127] D1
  dwellUs : Nat := 0 -- counted two-out-of-two time in µs [06 R174] S
  dwellMarkUs : Option Nat := none -- instant since which the dwell counts [06 R174] S
  dwellSavedS : Nat := 0 -- dwell count in the configuration partition in s [06 R174] S
  dwellEntered : Bool := false -- event 0x1010 recorded for this vacancy [06 R174] S
  warned60 : Bool := false -- warning of 1 h given [06 R174] S
  warned10 : Bool := false -- warning of 10 min given [06 R174] S
  dwellExpired : Bool := false -- dwell expired and no shutdown test since [06 R174] S
  accusations : Nat := 0 -- accusations since manufacture, 32 bits [06 R183] D1
  lastAccuse : Nat := 0xFFFFFFFF -- cycle of the last accusation since this start, 32 bits [06 R183] S
  sigGood : Nat := 8 -- matching signatures of Core S in a row, up to 8 [06 R179] D1
  sigExpected : Word := 0 -- signature loaded with the firmware [06 R179] D2
  lockstepBroken : Bool := false -- LOCKSTEP_BROKEN [06 R181] S
  cause : Nat := 0 -- event code of the R176 self-tests under way, 0 none [06 R176] S
  verdictWord : Word := 0 -- P1 of that event [06 R182] D1
  stores : List CoreStore := List.replicate 4 {} -- registers and TCMs of A, B, C and S [06 R158, R163] D93
  sram : List Host.Cell := [] -- cluster SRAM of 16 MiB [06 R158] D93
  carried : List Word := [0, 0, 0] -- value the Hopper last carried to each slot [06 R162] D93
deriving DecidableEq, Repr

/-! ### Ashlar (07) -/

/-- Ashlar's registers. -/
structure Ashlar where
  state : AshlarState := .disarmed -- STATE [07 R201] S
  cause : Nat := 0 -- TRIP_CAUSE, 4 bits [07 R201] S
  latch : Bool := false -- freeze latch [07 R201] S
  loadFail : Bool := false -- LOAD_FAIL [07 R201] S
  hold : HoldLines := ⟨false, false, false⟩ -- HOLD_LOCKSTEP, HOLD_DEBUG, HOLD_LIFECYCLE [07 R201] S
  inputStale : Bool := false -- INPUT_STALE [07 R201] S
  groupSw : BitVec 4 := 0 -- GROUP_SW [07 R201] S
  challenge : BitVec 16 := 0 -- CHALLENGE [07 R201] S
  permit : Word := 0 -- AS_PERMIT [07 R201] S
  inhibit : BitVec 16 := 0 -- AS_INHIBIT [07 R201] S
  clock : BitVec 16 := 0 -- AS_CLOCK.COUNT [07 R201] S
  table : List Byte := [] -- frozen table of 512 bytes [07 R188] S
  period : Option Nat := none -- P in ms [07 R192] S
  lastCount : Byte := 0 -- COUNT of the last accepted code [07 R193] D1
  lastUs : Nat := 0 -- arrival of the last accepted code [07 R193] D1
  codeSeen : Bool := false -- a code has been accepted since READY [07 R198] S
  demand : Word := 0 -- demand word of the last accepted code [07 R197] D1
  badCounts : Nat := 0 -- consecutive counts out of range [07 R194] S
  blockedUntil : Option Nat := none -- arming blocked until the count has been in range for 2 ms [07 R194] S
  blocked : Bool := false -- arming blocked by the count [07 R192] S
  inputs : BitVec 64 := 0 -- values of the last input frame [07 R197] D1
  inputsValid : BitVec 64 := 0 -- validity of the last input frame [07 R240] D1
  inputUs : Nat := 0 -- arrival of the last valid input frame [07 R197] D1
  supplyOk : Bool := true -- its rail is within ±5 % [07 R184] S
  inSeq : Byte := 0 -- SEQ last accepted from the field side [07 R196, 10 R256] D2
  outSeq : Byte := 1 -- SEQ sent to the field side next [07 R196, 10 R256] D2
  lastMark : Option (Option Word) := none -- answer to the last mark request, none WITHHELD [07 R198] S
  bistBlock : Nat := 0 -- AS_BIST.BLOCK, 4 bits [17 R395] S
  bistCount : BitVec 24 := 0 -- AS_BIST.COUNT [17 R395] S
  clockSide1Bad : Nat := 0 -- consecutive counts out of range found by the cluster [07 R194] S
deriving DecidableEq, Repr

/-! ### Counter crossings (09) -/

/-- A counter crossing (R218, R226, R228): the count and epoch at the source, and the count and epoch last accepted by the
destination, whose register holds no count after its reset. -/
structure Counter where
  epoch : Bool := false -- epoch bit at the source [09 R218] D2
  count : Nat := 0 -- count at the source, 16 bits [09 R218] S
  seenEpoch : Option Bool := some false -- epoch last accepted [09 R226, R228] D2
  seen : Nat := 0 -- count last accepted, 16 bits [09 R218] D2
deriving DecidableEq, Repr, Inhabited

/-! ### Field side and field link (10) -/

/-- One local input on the field side. -/
structure FieldInput where
  value : Bool := false -- debounced value [10 R234] D1
  fault : Nat := 0 -- 0 none, 1 STUCK_HIGH, 2 CROSS_SHORT, 3 SOURCE_FAULT [10 R259] S
  failRun : Nat := 0 -- consecutive failed checks [10 R239] S
  passed : Nat := 0 -- consecutive passed checks, 16 bits [10 R259] S
  edges : Nat := 0 -- counted edges on the field side, 16 bits [09 R218, 10 R236] S
  lastEdge : Nat := 0 -- operating time of the last counted edge in 10 µs, 48 bits [10 R236] S
deriving DecidableEq, Repr, Inhabited

/-- One test-pulse source. -/
structure FieldSource where
  fault : Bool := false -- SOURCE_FAULT [10 R241] S
  overload : Bool := false -- switched off after an overload [10 R241] S
  failRun : Nat := 0 -- consecutive failed pulses [10 R241] S
  pulses : List Nat := [] -- starts of its low pulses within the last second, newest first [10 R235, R237] S
  unchecked : List Nat := [] -- starts of its low pulses that no check has judged yet, oldest first [10 R238] S
deriving DecidableEq, Repr, Inhabited

/-- One output on the field side. -/
structure FieldOutput where
  demand : Bool := false -- voted demand received [10 R244] S
  permit : Bool := false -- Ashlar permit received [07 R196] S
  high : Bool := false -- high-side switch closed [10 R244] S
  low : Bool := false -- low-side switch closed [10 R244] S
  fault : Nat := 0 -- 0 none, 1 to 3 EXTERNAL_FEED cause, 4 CROSS_FEED, 5 OVERLOAD [10 R259] S
  partner : Nat := 0xFF -- other channel of a CROSS_FEED [10 R259] S
  milliAmp : Nat := 0 -- load current in mA, 16 bits [10 R259] D2
  loadMv : Int := 0 -- U+ − U− in mV [10 R259] D2
  offUs : Nat := 0 -- instant of an OVERLOAD switch-off [10 R250] D1
  demandWentOff : Bool := false -- the demand has gone off since the OVERLOAD [10 R250] S
  causes : List Nat := [] -- faults whose holds are in force: 1 to 3 EXTERNAL_FEED, 4 CROSS_FEED [10 R250, R251, R252] S
  overloaded : Bool := false -- switched off by an OVERLOAD [10 R250] S
  highTest : Option Nat := none -- second of the grid in which the high-side switch was last tested [10 R247] S
  lowTest : Option Nat := none -- second of the grid in which the low-side switch was last tested [10 R247] S
deriving DecidableEq, Repr, Inhabited

/-- One field group. -/
structure FieldGroup where
  feed : Nat := 0 -- state of the L+g measurement: 0 OK, 1 LOW_WARN, 2 LOW, 3 MISSING [10 R253] D2
  input : Nat := 0 -- state of the input-supply measurement [10 R253] D2
  feedMv : Nat := 24000 -- L+g in mV [10 R259] D2
  inputMv : Nat := 24000 -- input supply in mV [10 R259] D2
  switchOn : Bool := false -- group switch as Ashlar's last frame commands it [07 R196] S
  switchFault : Bool := false -- GROUP_SWITCH_FAULT [10 R254] S
  milliAmp : Nat := 0 -- group output current in mA [10 R259] D2
  feedSince : List (Option Nat) := [] -- since when L+g meets each condition of `supplyConditions` [10 R253] S
  inputSince : List (Option Nat) := [] -- since when the input supply meets each of them [10 R253] S
  readBack : Bool := false -- group switch as the field side reads it back [10 R254] S
deriving DecidableEq, Repr, Inhabited

/-- A fault report or a counted edge of the field side that waits for a field-to-core frame (R255). -/
structure FieldReport where
  code : Nat
  p0 : Nat
  p1 : Nat
  p2 : Nat
deriving DecidableEq, Repr

/-- What the core side has of an input's edges (R218, R236, R259). -/
structure CoreEdges where
  seen : Nat := 0 -- count last taken from a frame, 8 bits [10 R255] S
  total : Nat := 0 -- counted edges since activation, 32 bits [10 R259] S
  last : Nat := 0 -- operating time of the last counted edge in 10 µs, 48 bits [10 R259] S
deriving DecidableEq, Repr, Inhabited

/-- The local words that a phase I takes from the field link (R124, R132, R255). -/
structure FieldImage where
  values : BitVec 64
  valid : BitVec 64
  stale : Bool
  arrivalUs : Nat
  outputs : List Nat
  groups : List Nat
deriving DecidableEq, Repr

/-- The field side FS and the field link FL. -/
structure Field where
  inputs : List FieldInput := List.replicate 64 {} -- DI0 to DI63 [10 R231] S
  sources : List FieldSource := List.replicate 8 {} -- TP0 to TP7 [10 R231] S
  outputs : List FieldOutput := List.replicate 32 {} -- DO0 to DO31 [10 R231] S
  groups : List FieldGroup := List.replicate 4 {} -- groups 0 to 3 [10 R231] S
  gridUs : Nat := 0 -- operating time at which the field-side grid starts [10 R237] D1
  fsSeq : Byte := 0 -- SEQ last accepted by the field side [10 R256] D2
  flSeq : Byte := 0 -- SEQ last accepted by the field link [10 R256] D2
  fsSent : Byte := 1 -- SEQ the field side sends next [10 R256] D2
  flSent : Byte := 1 -- SEQ the field link sends next [10 R256] D2
  fsMissed : Nat := 0 -- consecutive slots missed by the field side [10 R257] S
  flMissed : Nat := 0 -- consecutive slots missed by the field link [10 R257] S
  missed : Nat := 0 -- slots missed in all [10 R257] S
  missedFs : Nat := 0 -- slots missed by the field side in all [10 R257, R260] S
  missedFl : Nat := 0 -- slots missed by the field link in all [10 R257, R260] S
  fsMost : Nat := 0 -- most consecutive slots missed by the field side [10 R260] S
  flMost : Nat := 0 -- most consecutive slots missed by the field link [10 R260] S
  reports : List FieldReport := [] -- fault reports that wait for a field-to-core frame, one for each [10 R255] S
  edgeLog : List FieldReport := [] -- counted edges since the last field-to-core frame [10 R236, R255] S
  fsEpoch : Bool := false -- epoch of the edge counts at the field side [09 R218, R226] D2
  coreEpoch : Bool := false -- epoch of the edge counts last taken by the core side [09 R218, R226] D2
  coreEdges : List CoreEdges := List.replicate 64 {} -- edges of DI0 to DI63 at the core side [10 R236, R259] S
  frames : Counter := {} -- frames received, FL to CL [09 R221] S
  ashSeq : Byte := 0 -- SEQ last accepted by the field side from Ashlar [07 R196, 10 R256] D2
  ashSent : Byte := 1 -- SEQ the field side sends to Ashlar next [07 R196, 10 R256] D2
  ashMissed : Nat := 0 -- consecutive slots without a valid Ashlar frame [07 R196] S
  imageSwitches : List Bool := List.replicate 4 false -- group switch readback of the last frame [10 R255] S
  linkLost : Bool := false -- the field side keeps its safe state [10 R257] S
  config : List Byte := [] -- configuration the field side applies, empty for the default [10 R258] S
  configCrc : Word := 0 -- CONFIG_CRC the field side sends [10 R256] S
  collect : List (Option (List Byte)) := List.replicate 32 none -- segments received of the running set [10 R258] S
  lastSetCrc : Option Word := none -- CRC of the last whole set received [10 R258] S
  segment : Nat := 0 -- segment the core side sends next [10 R258] S
  values : BitVec 64 := 0 -- input values last taken by the field link [10 R255] D2
  valid : BitVec 64 := 0 -- their validity [10 R255] S
  stale : Bool := true -- inputs marked stale by the field link [10 R257] S
  arrivalUs : Nat := 0 -- arrival of the last valid field-to-core frame [05 R132] D1
  crcSeen : Word := 0 -- CONFIG_CRC last received [10 R256] S
  crcGood : Nat := 0 -- consecutive valid frames with the expected CONFIG_CRC [10 R258] S
  demands : Word := 0 -- output demands handed over by phase O, forces applied [05 R126] S
  imageOutputs : List Nat := List.replicate 32 0 -- output states of the last frame [10 R255] S
  imageGroups : List Nat := List.replicate 4 0 -- group states of the last frame [10 R255] S
  prior : Option FieldImage := none -- words of the last frame before a freeze whose phase I has not run yet [05 R124] S
deriving DecidableEq, Repr

/-! ### CAN ports (11) -/

/-- A frame waiting in a transmit FIFO or list. -/
structure TxFrame where
  ident : Nat
  node : Nat
  data : List Byte
  tooLate : Bool := false
deriving DecidableEq, Repr

/-- A frame in a receive queue, with its arrival time (R274). -/
structure RxFrame where
  data : List Byte
  ident : Nat
  extended : Bool
  fd : Bool
  arrivalUs : Nat
deriving DecidableEq, Repr

/-- One CAN port. -/
structure CanPort where
  fifo : List TxFrame := [] -- transmit FIFO, 32 entries, head first [11 R268] S
  rest : List TxFrame := [] -- the builder's list [11 R268] S
  fresh : List TxFrame := [] -- new frames of the last commit, not yet placed [11 R269] S
  q0 : List RxFrame := [] -- Q0, 32 frames [11 R274] S
  q1 : List RxFrame := [] -- Q1, 64 frames [11 R274] S
  tec : Nat := 0 -- transmit error counter [11 R275] S
  recv : Nat := 0 -- receive error counter [11 R275] S
  busOff : Bool := false -- bus-off [11 R276] S
  segmentLost : Bool := false -- bus-off entered since the last freeze [08 R203, 11 R276] S
  busOffUs : Nat := 0 -- entry into bus-off [11 R276] D1
  passive : Bool := false -- error passive [11 R275] S
  clash : List (Nat × Nat) := [] -- POST_ARB_BIT_ERROR counts per identifier [11 R272] S
  blocked : List (Nat × Nat) := [] -- blocked identifiers and the end of their block [11 R272] S
  nominal : Nat := 1 -- nominal candidate, locked or configured code [11 R267] S
  dataRate : Nat := 1 -- data candidate, locked or configured code [11 R267] S
  nominalLocked : Bool := false -- nominal rate locked [11 R267] S
  dataLocked : Bool := false -- data rate locked [11 R267] S
  goodRun : Nat := 0 -- consecutive error-free frames [11 R267] S
  goodBrs : Nat := 0 -- consecutive error-free frames with bit-rate switch [11 R267] S
  lastFrameUs : Nat := 0 -- last completed frame or candidate change [11 R267] D1
  busOffCount : Nat := 0 -- BUS_OFF_COUNT, 16 bits [11 R279] S
  clashCount : Nat := 0 -- ID_CLASH_COUNT, 16 bits [11 R279] S
  txDone : Nat := 0 -- TX_DONE, 32 bits [11 R279] S
  rxQueued : Nat := 0 -- RX_QUEUED, 32 bits [11 R279] S
  rxRejected : Nat := 0 -- RX_REJECTED, 32 bits [11 R279] S
  q0Overflow : Nat := 0 -- Q0_OVERFLOW, 16 bits [11 R279] S
  q1Overflow : Nat := 0 -- Q1_OVERFLOW, 16 bits [11 R279] S
  unusable : List Nat := [0, 0, 0, 0] -- frames not used by kind: classic, length, direction, identifier [11 R264] S
  loadBits : List (Nat × Nat) := [] -- frame ends of the last second with their bus time in 0.01 µs [11 R279] S
  invalidNode : Nat := 0 -- INVALID_NODE, 32 bits [14 R350] S
  unknownNode : Nat := 0 -- UNKNOWN_NODE, 32 bits [14 R350] S
  q0Count : Counter := {} -- frames into Q0, FB to MG [09 R221] S
  q1Count : Counter := {} -- frames into Q1, FB to MG [09 R221] S
  postArb : Counter := {} -- POST_ARB_BIT_ERROR, FB to MG [09 R221] S
  offLevel : Bool := false -- level of the bus-off toggle line [09 R217, R221] D2
  offSeen : Bool := false -- level that MG holds as its reference [09 R227] D2
deriving DecidableEq, Repr, Inhabited

/-! ### Telegrams and the safety network (12) -/

/-- A telegram in the check unit's buffer: its port (0 to 7 CAN, 8 X6, 9 X7), bytes and arrival; `both`
says that a copy came on the other LAN too. -/
structure RxTelegram where
  port : Nat
  data : List Byte
  arrivalUs : Nat
  both : Bool := false
deriving DecidableEq, Repr

/-- A telegram accepted by both lanes at an instant, waiting for the next freeze (R124). -/
structure Accepted where
  node : Nat
  kind : Nat
  cycle : Nat
  records : List (Nat × Nat × Nat)
  arrivalUs : Nat
  acceptUs : Nat := 0
  priorRxUs : Option Nat := none
deriving DecidableEq, Repr

/-- What the module holds for one node of the node table. -/
structure NodeDyn where
  id : Nat -- node ID [12 R303] S
  reference : Option (Nat × Nat) := none -- epoch and alive references [12 R290, R291] S
  candidate : Option (Nat × Nat) := none -- epoch and alive of a held candidate [12 R291] S
  resync : Option Nat := none -- alive of the first telegram of a resynchronisation [12 R292] S
  lastRxUs : Option Nat := none -- arrival of the last accepted telegram since RUN began [05 R137] S
  sinceUs : Nat := 0 -- begin of the supervision [05 R137] D1
  timeout : Nat := 0 -- receive time-out in force in 0.1 ms, 16 bits [12 R298] S
  intervals : List Nat := [] -- last 1,000 intervals in 0.1 ms, newest first [12 R298] S
  p999 : Nat := 0 -- rank interval in 0.1 ms, 16 bits [12 R298] S
  measured : Bool := false -- the time-out in force comes from the intervals [12 R298] S
  dropped : Bool := false -- dropped out [05 R137] S
  droppedUs : Nat := 0 -- freeze at which the dropout was declared [05 R139] D1
  fresh : Bool := false -- a value fresh after the dropout is in the image [05 R139] S
  txAlive : Nat := 0 -- alive counter of telegrams to the node, 16 bits [12 R293] S
  polls : List (Nat × Nat) := [] -- polls sent: cycle and commit instant, newest first [05 R134] S
  lastAnswered : Option Nat := none -- cycle of the poll of the last answer that counted [05 R134] S
  wantPoll : Bool := false -- a route served by the node entered LOCKED [05 R133] S
  demandsChanged : Bool := false -- the node's demands changed in this cycle [05 R133] S
  restrictive : Bool := false -- a restrictive demand is first committed in this phase O [11 R263] S
  accepted : Nat := 0 -- ACCEPTED, 32 bits [12 R303] S
  codeFail : Nat := 0 -- CODE_FAIL, 16 bits [12 R303] S
  sequence : Nat := 0 -- SEQUENCE, 16 bits [12 R303] S
  lateEpoch : Nat := 0 -- LATE_EPOCH, 16 bits [12 R303] S
  malformed : Nat := 0 -- MALFORMED, 16 bits [12 R303] S
  disagree : Nat := 0 -- DISAGREE, 16 bits [12 R303] S
  copies : List (Nat × Nat × Nat) := [] -- EPOCH, ALIVE and arrival of the telegrams accepted in the last 400 ms [12 R303] S
  lanAUs : Option Nat := none -- last accepted copy on LAN A [12 R303] S
  lanBUs : Option Nat := none -- last accepted copy on LAN B [12 R303] S
  canUs : Option Nat := none -- last accepted on CAN [12 R303] S
  untaggedUs : Option Nat := none -- last untagged telegram [12 R303] S
  forcing : Bool := false -- FORCING in the neighbour's last telegram [12 R303] S
  lastAcceptUs : Nat := 0 -- operating time of the last accepted telegram [12 R303] S
deriving DecidableEq, Repr

/-- An entry of the stand-alone node list (R19, R350). -/
structure ListedNode where
  id : Nat
  ports : Nat
  versionType : Nat
  epoch : Nat
  duplicate : Bool
  rates : Nat
  count : Nat
  lastUs : Nat
deriving DecidableEq, Repr

/-- One LAN of the safety network. -/
structure Lan where
  lastUs : Nat := 0 -- last frame received [12 R299] D1
  down : Bool := false -- LAN_DOWN [12 R299] S
  supervision : Nat := 0 -- supervision frames received [12 R299] S
  malformed : Nat := 0 -- MALFORMED_DATAGRAM, 32 bits [14 R350] S
  checksum : Nat := 0 -- UDP_CHECKSUM, 32 bits [14 R350] S
  invalidNode : Nat := 0 -- INVALID_NODE, 32 bits [14 R350] S
  unknownNode : Nat := 0 -- UNKNOWN_NODE, 32 bits [14 R350] S
  received : Nat := 0 -- frames received, counted in SAFE [08 R210] S
deriving DecidableEq, Repr, Inhabited

/-- The network island and the check unit. -/
structure Network where
  buffer : List RxTelegram := [] -- check-unit buffer, 4,096 telegrams [12 R296] S
  bufferDropped : Nat := 0 -- telegrams dropped at a full buffer [12 R296] S
  nodes : List NodeDyn := [] -- one per node of the table [12 R303] S
  accepted : List Accepted := [] -- accepted, not yet frozen [05 R124] S
  arp : List (Word × BitVec 48) := [] -- MAC addresses that ARP has shown for IPv4 addresses [12 R299] S
  seen : List (Nat × Nat × Nat) := [] -- PRP source, sequence and time of frames taken [12 R299] S
  lans : List Lan := [{}, {}] -- LAN A and LAN B [12 R299] S
  listed : List ListedNode := [] -- stand-alone node list [01 R19] S
  listMalformed : Nat := 0 -- MALFORMED telegrams in stand-alone operation [01 R19] S
  disagreements : List Nat := [] -- instants of lane disagreements of the last second [12 R295] S
  counters : List (Nat × Nat × Nat) := [] -- node, counter, discards since the last 0x5001 [12 R304] S
  heardTelegram : Bool := false -- a telegram has been received in stand-alone operation since this start [01 R22] S
  recomputeUs : Nat := 0 -- earliest next computation of the time-outs [12 R298] D1
  laneCounts : List Counter := List.replicate 4 {} -- telegrams accepted: lanes X and Y of NW, then of FB, to CL [09 R221] S
  prpSeq : Nat := 0 -- PRP sequence number of the next frame, 16 bits [12 R299] D2
  supervisionUs : Nat := 0 -- next supervision frame [12 R299] D1
deriving DecidableEq, Repr

/-! ### Host island, mailbox and X8 (13) -/

/-- A crossing of R221. -/
structure Xing where
  linkDown : Bool := true -- LINK_DOWN [09 R225] S
  stale : Bool := true -- STALE [09 R225] S
  unstable : Bool := false -- UNSTABLE [09 R219] S
  word : Word := 0 -- value last accepted whole by the destination, its first word [09 R219, R230] S
  downUs : Nat := 0 -- instant at which it was fenced [09 R230] D1
  counter : Counter := {} -- its counter crossing: of MG to CL, the requests queued [09 R221] S
deriving DecidableEq, Repr, Inhabited

/-- Every crossing of R221. -/
def Crossing.all : List Crossing :=
  [.flCl, .clFl, .nwCl, .fbCl, .clNw, .clFb, .nwAs, .fbAs, .clAs, .asCl, .mgCl, .clMg, .hiMg, .mgHi, .clHi, .rtMg, .fbMg,
   .fsFl]

/-- A stored X8 response and the request it answered (R323). -/
structure X8Stored where
  tag : Nat
  gen : Byte
  sequence : Word
  session : Word
  crc : Word
  inFlight : Bool
  response : List Byte
  ip : Word
  port : Nat
deriving DecidableEq, Repr

/-- The host island and both transports of the mailbox. -/
structure HostIf where
  state : Word := 0 -- HI_STATE as the mirror holds it [13 R307] S
  m2 : Bool := false -- HI_XING.M2 [09 R224] S
  unstableCount : Nat := 0 -- HI_XING.UNSTABLE_COUNT, 8 bits [09 R224] S
  eventMg : Bool := false -- LINK_EVENT_MG [09 R224] S
  eventCl : Bool := false -- LINK_EVENT_CL [09 R224] S
  downMg : Bool := true -- LINK_DOWN_MG [09 R224] S
  downCl : Bool := true -- LINK_DOWN_CL [09 R224] S
  stale : Bool := true -- STALE [09 R224] S
  unstable : Bool := false -- UNSTABLE [09 R224] S
  failedWord : Word := 0 -- word whose transfer ended UNSTABLE [09 R219] S
  msiSent : BitVec 4 := 0 -- vectors whose MSI has been sent since the host last cleared their bit [13 R308] S
  doorbells : Counter := {} -- doorbells, HI to MG [09 R221] S
  completions : Counter := {} -- completions written, MG to HI [09 R221] S
  noteCount : Counter := {} -- notifications written, MG to HI [09 R221] S
  scratch : Word := 0 -- HI_SCRATCH [13 R307] S
  done : BitVec 64 := 0 -- HI_DONE_HI and HI_DONE_LO [13 R307] S
  busy : BitVec 64 := 0 -- HI_BUSY_HI and HI_BUSY_LO [13 R307] S
  head : Byte := 0 -- HI_NOTE_HEAD [13 R307] S
  tail : Byte := 0 -- HI_NOTE_TAIL [13 R307] S
  irqStat : BitVec 4 := 0 -- HI_IRQ_STAT [13 R307] S
  irqMask : BitVec 4 := 0xF -- HI_IRQ_MASK [13 R307] S
  vectors : Nat := 1 -- MSI vectors the host has enabled [13 R306] D2
  bar2 : List Host.Cell := [] -- BAR2 window of 1 MiB [13 R309] S
  readData : Word := 0 -- data of the last register read [13 R10] M6
  noteSeq : Nat := 0 -- SEQ of the next ring entry, 16 bits [13 R317] D2
  heldNotes : List (Nat × Note) := [] -- notifications held while the ring is full, at most 1,024 [13 R320] S
  lostNotes : Nat := 0 -- notifications discarded [13 R320] S
  unread : Nat := 0 -- notifications written but not consumed at the last restart of the ring [13 R319] S
  heldDone : List Response := [] -- completions held over a host link reset [13 R326] S
  subscribed : BitVec 64 := 0 -- subscription of PCIe [14 R353] S
  x8Subscribed : BitVec 64 := 0 -- subscription of X8 [14 R353] S
  x8Dest : Option (Word × Nat) := none -- address and port of the last SUBSCRIBE on X8 [13 R324] S
  x8Last : Option (Word × Nat) := none -- source of the last request that passed step 1 [13 R324] S
  x8Seq : Nat := 0 -- SEQ of X8 notifications, 16 bits [13 R324] D2
  x8Unsent : Nat := 0 -- X8 notifications counted but not sent [13 R324] S
  x8Short : Nat := 0 -- X8 datagrams shorter than 32 bytes [13 R322] S
  x8 : List X8Stored := [] -- X8 tags in flight and stored responses [13 R323] S
  x8Address : Word := 0xC0A8640A -- maintenance address [13 R321] S
  x8Plen : Nat := 24 -- its network length [13 R321] S
  x8Gateway : Word := 0 -- gateway, 0 none [14 R346] D2
  x8New : Option (Word × Nat × Word × Nat) := none -- address to come and the instant it takes effect [14 R346] S
deriving DecidableEq, Repr

/-- The management core. -/
structure Mgmt where
  alive : Bool := true -- island MG runs [08 R209] S
  arrival : Nat := 0 -- next arrival sequence number, 32 bits [03 R65] D2
  queue : List Queued := [] -- request queue of the cluster [05 R124] S
  outstanding : List (Req × Nat) := [] -- requests in flight and their opcodes [08 R209] S
  voided : List Req := [] -- requests answered DISCARDED after a management core reset that the cluster still holds [08 R209] S
  sessions : List Session := [] -- live sessions [14 R348] S
  heartbeats : Counter := {} -- heartbeats, MG to CL [08 R209, 09 R221] S
  usedIds : List Word := [] -- session IDs of this power cycle [14 R348] S
deriving DecidableEq, Repr

/-- The management core's copies for the diagnostics commands (R349): records as their bytes. -/
structure DiagCopy where
  vote : List Byte
  ashlar : List Byte
  safeRecord : List Byte
  inputs : List (List Byte)
  outputs : List (List Byte)
  groups : List (List Byte)
  can : List (List Byte)
  counters : List (List Byte)
  nodes : List (Nat × List Byte)
  listed : List (Nat × List Byte)
deriving DecidableEq, Repr

/-! ### Event recorder and change log (15, 16) -/

/-- The token bucket of one event code (R362): `refillUs` is the start of its grid, `given` the tokens of the grid so far. -/
structure Bucket where
  code : Nat
  tokens : Nat
  refillUs : Nat
  given : Nat := 0
  suppressed : Nat := 0
  firstUs : Option Nat := none
deriving DecidableEq, Repr

/-- The event recorder. -/
structure Recorder where
  inbox : List Record := [] -- records received, not yet written [15 R360] S
  ring : List Record := [] -- records held, oldest first [15 R359] S
  next : Nat := 0 -- record number of the next record, 64 bits [15 R357] S
  capacity : Nat := 8388608 -- records in the event area of the variant less the blocks withdrawn [15 R359] S
  badBlocks : List Nat := [] -- blocks withdrawn as bad: record numbers / 128 [15 R359, R361] S
  buckets : List Bucket := [] -- token buckets of the codes met so far [15 R362] S
  rates : List (Nat × Nat) := List.replicate 15 (10, 50) -- rate and burst per class 0 to 14 [15 R362] S
  frozenUntil : Option Nat := none -- end of a freeze [15 R365] S
  staging : List Record := [] -- staging buffer, 4,096 records [15 R364] S
  lost : Nat := 0 -- records lost in this freeze [15 R364] S
  firstLost : Option (Nat × Nat) := none -- code and operating time in ms of the first lost [15 R365] S
deriving DecidableEq, Repr

/-! ### Life-cycle, power and security (16) -/

/-- A stored password (R382): its salt and its derived result. -/
structure Password where
  salt : List Byte
  result : List Byte
deriving DecidableEq, Repr

/-- Life-cycle fuses, mode record, keys and debug. -/
structure Security where
  lcP : Bool := false -- fuse LC_P [16 R369] S
  lcC : Bool := false -- fuse LC_C [16 R369] S
  lcO : Bool := false -- fuse LC_O [16 R369] S
  lcR : Bool := false -- fuse LC_R [16 R369] S
  mode : Dup Nat := ⟨3, 3, true, true, 1, 0⟩ -- mode record, 3 OPERATIONAL or 4 SERVICE [16 R370] D2
  advance : Option (Nat × Nat) := none -- advance under way: old and new code, steps after the fuse outstanding [16 R371] S
  keyId : Nat := 0 -- identifier of the customer key, 0 none [14 R346] D1
  key : List Byte := [] -- customer key, 97 bytes [14 R346] D1
  maintainer : Option Password := none -- stored Maintainer password [16 R382] D1
  authority : Option Password := none -- stored Safety Authority password [16 R382] D1
  maintainerLogin : LoginState := {} -- its failures and lock [16 R382] D1
  authorityLogin : LoginState := {} -- its failures and lock [16 R382] D1
  debug : DebugKind := .none -- debug kind attached [16 R377] S
  sealPat : BitVec 4 := 5 -- accepted seal pattern [16 R383] D2
  pendRt : Bool := false -- always-on flags pending acknowledgement [16 R386] S
  pendSeal : Bool := false -- INVALID seal reading pending acknowledgement [16 R386] S
  pendNand : Bool := false -- bad NAND block pending acknowledgement [16 R386] S
deriving DecidableEq, Repr

/-- The always-on island RT. -/
structure Rt where
  alive : Bool := true -- the cell or L24 supplies RT [09 R216] S
  calUs : Nat := 946684800000000 -- calendar clock in µs since 1970 [16 R391] S
  timeSet : Bool := false -- set since the cell was last fitted [16 R391] S
  sealPat : Option (BitVec 4) := none -- last seal sample in this STANDBY [16 R390] S
  sealEdge : Bool := false -- sticky flag seal edge [16 R390] S
  hot : Bool := false -- sticky flag temperature [16 R390] S
  cellLow : Bool := false -- sticky flag backup cell [16 R390] S
  calLost : Bool := false -- the calendar restarts at the next start [16 R391] S
  found : BitVec 3 := 0 -- RT_FLAGS found at the last start [14 R334] S
  stagedMirror : Nat := 0 -- mirror of the staging count [15 R366] S
deriving DecidableEq, Repr

/-- Power, supplies and pins. -/
structure Power where
  state : PowerState := .start -- power state [16 R373] S
  ledTest : Bool := true -- all-LED test runs [01 R24] S
  cause : StartCause := .powerOn -- what brought the module into START [16 R374] S
  fullForm : Bool := true -- form of the start-up test [17 R401] S
  startUs : Nat := 0 -- begin of START [17 R401] D1
  supply : Bool := true -- logic supply present [16 R374] S
  logicMv : Nat := 24000 -- logic supply in mV, 16 bits [14 R334] D2
  boardTemp : Int := 250 -- board temperature in 0.1 °C, 16 bits [14 R334] D2
  hotTold : Bool := false -- event 0xC021 recorded while above 80 °C [08 R214] S
  cellFitted : Bool := true -- backup cell fitted [16 R374] D2
  cellMv : Nat := 3000 -- backup cell in mV, 16 bits [14 R334] D2
  cellLowTold : Bool := false -- event 0xC042 recorded in this power-up [19 R442] S
  cellGoneTold : Bool := false -- event 0xC043 recorded in this power-up [19 R442] S
  readyOff : Bool := false -- READY_OFF contact closed [16 R375] S
  slot : BitVec 6 := 0x3F -- SLOT[5:0] read at the last start [19 R429] D2
  causes : List Nat := [] -- event codes of F3 causes present [08 R210] S
  record : Option SafeRecord := none -- safe-state record [08 R213] D1
  repeated : Bool := false -- LOCKOUT with cause REPEATED_SAFE [08 R211] S
  lockoutCause : Nat := 0 -- event code of the LOCKOUT cause, 0 none [08 R212] S
  comparatorsBad : Bool := false -- X and Y have differed since a shutdown test last passed both [06 R177] S
  entries : List Nat := [] -- operating times of entries into SAFE in s [08 R211] D1
  wasSafe : Bool := false -- in SAFE at the last power loss [16 R376] S
  testPassed : Bool := false -- the start-up test proper has passed [10 R258] S
  testPassedUs : Nat := 0 -- the instant it passed [10 R258] D1
  dead : Bool := false -- neither firmware bank passes: START with the mailbox dead [18 R418] S
  faultLed : Bool := false -- FAULT LED steady for a dead firmware [18 R418] S
deriving DecidableEq, Repr

/-! ### Self-test and repair (17) -/

/-- A memory repair entry (R403): state 0 SOFT_NEW, 1 SOFT_VERIFIED, 2 FUSED, 3 FUSE_FAILED. -/
structure RepairEntry where
  inst : Nat
  column : Bool
  address : Nat
  state : Nat
deriving DecidableEq, Repr

/-- The repair record (R403). -/
structure Repair where
  slotMap : List Nat := [0, 1, 2] -- core per slot [17 R403] S
  laneMap : List Nat := [0, 1, 2] -- lane per slot [17 R403] S
  laneSoft : Bool := false -- SPARE_LANE_SOFT [17 R403] S
  laneFused : Bool := false -- SPARE_LANE_FUSED [17 R403] S
  coreFused : Bool := false -- SPARE_CORE_FUSED [17 R403] S
  fusePending : Bool := false -- FUSE_PENDING [17 R403] S
  marks : List Nat := [0, 0, 0, 0] -- CORE_MARK: 0 OK, 1 FAILED, 2 UNHEALTHY, 3 FUSED_OUT [17 R403] S
  fails : List Nat := [0, 0, 0, 0] -- SHUTDOWN_FAILS [17 R403] S
  entries : List RepairEntry := [] -- memory repair entries, at most 48 [17 R403] S
  fusesUsed : Nat := 0 -- memory fuse entries consumed, at most 24 [17 R403] S
deriving DecidableEq, Repr

/-- The shutdown-test record (R400). -/
structure ShutdownRecord where
  result : Nat
  failBlock : Nat
  lifecycle : Nat
  fused : Nat
  verdicts : List Verdict
  opMs : Nat
  powerCycle : Nat
  fwVersion : Nat
  fwBank : Nat
  broken : Bool
  ashlarMatch : Nat
  repairSeq : Nat
deriving DecidableEq, Repr

/-- The test sequencer, the repair record and the shutdown test. -/
structure SelfTest where
  repair : Dup Repair := ⟨{}, {}, true, true, 1, 0⟩ -- repair record [17 R403] S
  record : Option ShutdownRecord := none -- stored shutdown-test record [17 R400] D1
  step : Nat := 0 -- step of the running shutdown test, 0 none [17 R397] S
  stepUs : Nat := 0 -- begin of that step [17 R397] D1
  beganUs : Nat := 0 -- begin of the shutdown test [17 R406] D1
  verdicts : List (Nat × Verdict) := [] -- verdicts so far [17 R395] S
  matched : Nat := 0 -- ASHLAR_MATCH so far, 11 bits [17 R400] S
  fused : Nat := 0 -- FUSED so far [17 R400] S
  expected : List Word := List.replicate 11 0 -- block signatures loaded with the firmware [17 R395] D2
  ageBaseUs : Option Nat := none -- operating time of the last full run with every block passed [17 R401] D1
  fromState : PowerState := .stop -- power state before the test [17 R406] D1
  hotEnded : Bool := false -- the board temperature ended the test [17 R399] S
  pendingFuses : List (Nat × Nat × Nat) := [] -- fuses announced by FUSE_PENDING: kind, instance or slot, line or core [17 R405] S
  blown : List (Nat × Nat × Nat) := [] -- fuses that read back right, as in pendingFuses [17 R404] S
  badLanes : List Nat := [] -- lanes that failed in block 5 of this shutdown test [17 R404] S
deriving DecidableEq, Repr

/-! ### Update (18) -/

/-- A boot selector copy (R416). -/
structure Selector where
  active : Nat := 0 -- ACTIVE_BANK [18 R416] D1
  previous : Nat := 1 -- PREVIOUS_BANK [18 R416] D1
  trial : Bool := false -- TRIAL [18 R416] D1
  boots : Nat := 0 -- TRIAL_BOOTS [18 R416] D1
deriving DecidableEq, Repr

/-- One update target (R410). -/
structure UpdateTarget where
  selector : Dup Selector := ⟨{}, {}, true, true, 1, 0⟩ -- boot selector [18 R416] D1
  bank0 : List Byte := [] -- content of bank 0 [18 R410] D1
  bank1 : List Byte := [] -- content of bank 1 [18 R410] D1
  version0 : Nat := 0 -- image version in bank 0, 32 bits [14 R345] D1
  version1 : Nat := 0 -- image version in bank 1, 32 bits [14 R345] D1
  headerCrc0 : Word := 0 -- CRC of the header of the image in bank 0 [16 R388] D1
  headerCrc1 : Word := 0 -- CRC of the header of the image in bank 1 [16 R388] D1
  header : List Byte := [] -- header of the download record, 512 bytes [18 R410] D1
  table : List Byte := [] -- block 0 of the download record [18 R410] D1
  good : Nat := 0 -- BLOCKS_GOOD, 32 bits [18 R410] D1
  chunk : Nat := 0 -- chunk expected of the block at hand [14 R345] D1
  chunks : List Byte := [] -- chunks of the block at hand [18 R413] D1
  stage : Nat := 0 -- STAGE: 0 IDLE to 5 CONFIRMED [14 R345] S
  lastReason : Nat := 0 -- LAST_REASON [14 R345] S
  rollback : Dup Nat := ⟨0, 0, true, true, 1, 0⟩ -- rollback counter in force [18 R411] D1
deriving DecidableEq, Repr

/-- Both update targets and the configuration migration. -/
structure Update where
  firmware : UpdateTarget := {} -- target 1 [18 R410] D1
  data : UpdateTarget := {} -- target 2 [18 R410] D1
  migrated : Nat := 0 -- record types written at a higher VERSION, not committed [18 R420] S
  resetUs : Option Nat := none -- instant of the reset after a firmware activation [18 R417] S
deriving DecidableEq, Repr

/-! ### The whole module -/

/-- What the unit is: fixed at the factory. -/
structure UnitId where
  variant : Variant := .v40 -- variant, HI_ID.PART [00 R2] D1
  hwRev : Byte := 0 -- HI_ID.HW_REV [13 R307] D2
  unitId : List Byte := List.replicate 16 0 -- 128-bit unit ID [14 R334] D2
  mac : BitVec 48 := 0 -- factory-assigned MAC address of X6 and X7 [12 R299] D2
  makerKeys : List (Nat × List Byte) := [] -- Nganyx keys fixed at manufacture and their identifiers [18 R409] D2
deriving DecidableEq, Repr

/-- The state of the module. -/
@[ext]
structure State where
  unit : UnitId := {} -- what the unit is [00 R2] D1
  opUs : Nat := 0 -- operating time in µs [15 R358] S
  savedOpUs : Nat := 0 -- operating time saved in the configuration partition [15 R358] S
  powerCycle : Nat := 1 -- power-cycle count, 32 bits [15 R358] S
  epoch : Byte := 0 -- the module's own telegram epoch [12 R293] D2
  power : Power := {} -- power states and pins (16)
  rt : Rt := {} -- always-on island (16)
  sec : Security := {} -- life-cycle and security (16)
  station : Option Station := none -- active station data, none in stand-alone operation [01 R17] S
  bench : Bench := {} -- bench cycle (05)
  eng : Engine := {} -- route and door engine (03, 04)
  vote : Vote := {} -- voting cluster (06)
  ash : Ashlar := {} -- Ashlar (07)
  field : Field := {} -- field side and field link (10)
  can : List CanPort := List.replicate 8 {} -- CAN0 to CAN7 [11 R279] S
  net : Network := {} -- network island and check unit (12)
  hi : HostIf := {} -- host island and mailbox (13)
  xings : List (Crossing × Xing) := Crossing.all.map (fun x => (x, {})) -- crossings of R221, all fenced; one not listed is up [09 R221, R228] S
  mg : Mgmt := {} -- management core (13)
  recorder : Recorder := {} -- event recorder (15)
  log : List LogEntry := [] -- change log, 262,144 entries [16 R387] S
  test : SelfTest := {} -- self-test and repair (17)
  update : Update := {} -- update (18)
  diag : Option DiagCopy := none -- copies that the management core answers DIAG commands from [14 R349] S
  draws : Nat := 0 -- counter of free values drawn, the model's own [log 5] M5
  outbox : List Output := [] -- what has left the module, in order, the model's own [log 6] M6
  pending : List Instr := [] -- commands that wait, first in, first out, the model's own [log 3] M3
deriving DecidableEq, Repr

/-- The module right after its first power-on reset: START, all-LED test running (R374, R24), a unit fresh from
manufacture (log entries 1 and 2). -/
def State.reset : State := {}

end Sys2Proof.Machine
end

