-- ==== Sys2Proof/Machine/Bits.lean ====
section
/-! DEFINITION. Byte order (R9), bit fields, and the CRC and mark functions (R27, R190, R191, R199, R286). -/

namespace Sys2Proof.Machine

/-- The `k` low bytes of a number, little-endian (R9). -/
def le : Nat → Nat → List Byte
  | 0, _ => []
  | k + 1, n => BitVec.ofNat 8 n :: le k (n / 256)

/-- The `k` low bytes of a number, big-endian (R9, telegrams). -/
def be (k n : Nat) : List Byte := (le k n).reverse

/-- The number of a little-endian byte string. -/
def ofLe : List Byte → Nat
  | [] => 0
  | b :: bs => b.toNat + 256 * ofLe bs

/-- The number of a big-endian byte string. -/
def ofBe (bs : List Byte) : Nat := ofLe bs.reverse

/-- `len` bytes from offset `off`; shorter at the end of the string. -/
def slice (bs : List Byte) (off len : Nat) : List Byte := (bs.drop off).take len

/-- The byte at an offset, 0 beyond the end. -/
def u8 (bs : List Byte) (off : Nat) : Nat := ofLe (slice bs off 1)

/-- The little-endian 16-bit field at an offset. -/
def u16 (bs : List Byte) (off : Nat) : Nat := ofLe (slice bs off 2)

/-- The little-endian 32-bit field at an offset. -/
def u32 (bs : List Byte) (off : Nat) : Nat := ofLe (slice bs off 4)

/-- The little-endian 64-bit field at an offset. -/
def u64 (bs : List Byte) (off : Nat) : Nat := ofLe (slice bs off 8)

/-- Whether every byte of a range is 0. -/
def zeros (bs : List Byte) (off len : Nat) : Bool := (slice bs off len).all (· == 0)

/-- A string cut or filled with zero bytes to a length. -/
def padTo (k : Nat) (bs : List Byte) : List Byte := (bs ++ List.replicate (k - bs.length) 0).take k

/-- A 32-bit word of a number. -/
def word (n : Nat) : Word := BitVec.ofNat 32 n

/-- A number that stops at its largest value (saturating counters). -/
def saturate (bits n : Nat) : Nat := Nat.min n (2 ^ bits - 1)

/-- One of two numbers by a flag; used for flag bits. -/
def bit (b : Bool) (n : Nat) : Nat := if b then 2 ^ n else 0

/-- One bit of a reflected CRC with the polynomial of CRC-32C. -/
def crc32cBit (c : Word) : Word := if c.getLsbD 0 then (c >>> 1) ^^^ 0x82F63B78#32 else c >>> 1

/-- One byte of CRC-32C. -/
def crc32cByte (c : Word) (b : Byte) : Word :=
  (List.range 8).foldl (fun c _ => crc32cBit c) (c ^^^ b.setWidth 32)

/-- CRC-32C of blocks, images and records (R27, R310, R354): reflected, initial value and final XOR 0xFFFF_FFFF
(PRESUMED, log entry 8). -/
def crc32c (bs : List Byte) : Word := bs.foldl crc32cByte 0xFFFFFFFF#32 ^^^ 0xFFFFFFFF#32

/-- One byte of a CRC that processes the most significant bit first without reflection (R199, R286). -/
def crcMsbByte {w : Nat} (poly : BitVec w) (c : BitVec w) (b : Byte) : BitVec w :=
  (List.range 8).foldl (fun c _ => if c.msb then (c <<< 1) ^^^ poly else c <<< 1)
    (c ^^^ (b.setWidth w <<< (w - 8)))

/-- A CRC that processes the most significant bit first, no reflection, no final XOR (R286). -/
def crcMsb {w : Nat} (poly init : BitVec w) (bs : List Byte) : BitVec w := bs.foldl (crcMsbByte poly) init

/-- The SAFETY_CODE bytes 60 to 63 for a POLY and a seed over bytes 0 to 59 (R286). -/
def safetyCode (poly : Nat) (seed : Word) (bs : List Byte) : List Byte :=
  match poly with
  | 0 => be 4 (crcMsb 0x1EDC6F41#32 seed bs).toNat
  | 1 => be 4 (crcMsb 0x04C11DB7#32 seed bs).toNat
  | 2 => be 4 (crcMsb 0x741B8CD7#32 seed bs).toNat
  | _ => 0 :: be 3 (crcMsb 0x864CFB#24 (seed.setWidth 24) bs).toNat

/-- The vital mark over a link key and an alive counter (R199). -/
def vitalMark (linkKey : Word) (alive : BitVec 16) : Word :=
  let m := crcMsb 0x741B8CD7#32 0xFFFFFFFF#32 (be 4 linkKey.toNat ++ be 2 alive.toNat) ^^^ 0xFFFFFFFF#32
  if m.setWidth 24 = 0#24 then m ||| 1#32 else m

/-- The seed of a safety code (R286). -/
def seed (networkId linkKey mark : Word) : Word := networkId ^^^ linkKey ^^^ mark

/-- One checkpoint of the challenge response: rotate left by 3 and XOR the key (R191). -/
def checkpoint (x key : BitVec 16) : BitVec 16 := x.rotateLeft 3 ^^^ key

/-- The RESPONSE to a challenge through the four checkpoints K1 to K4 (R191). -/
def response (c : BitVec 16) : BitVec 16 :=
  checkpoint (checkpoint (checkpoint (checkpoint c 0x1D2F#16) 0x6B35#16) 0xA4C9#16) 0x3E71#16

/-- The cycle code word of PERIOD, COUNT and RESPONSE (R190). -/
def cycleCodeWord (period : Byte) (count : Byte) (resp : BitVec 16) : Word := (period ++ count) ++ resp

/-- PERIOD of a cycle code (R190). -/
def codePeriod (c : Word) : Byte := c.extractLsb' 24 8

/-- COUNT of a cycle code (R190). -/
def codeCount (c : Word) : Byte := c.extractLsb' 16 8

/-- RESPONSE of a cycle code (R190). -/
def codeResponse (c : Word) : BitVec 16 := c.extractLsb' 0 16

/-- A number inserted into an ascending list. -/
def insertAsc (n : Nat) : List Nat → List Nat
  | [] => [n]
  | m :: l => if n ≤ m then n :: m :: l else m :: insertAsc n l

/-- A list in ascending order. -/
def sortAsc (l : List Nat) : List Nat := l.foldr insertAsc []

/-- The element at a rank of a list in ascending order, counted from 1; 0 for an empty list. -/
def rankAscending (l : List Nat) (rank : Nat) : Nat := (sortAsc l).getD (rank - 1) 0

/-- The rank ⌈0.999 × n⌉ (R80, R298). -/
def rank999 (n : Nat) : Nat := (999 * n + 999) / 1000

/-- The median of a list, the mean of the two middle values for an even count, truncated. -/
def median (l : List Nat) : Nat :=
  let s := sortAsc l
  (s.getD ((s.length - 1) / 2) 0 + s.getD (s.length / 2) 0) / 2

/-- The offset of the first byte that is no valid UTF-8, with the number of code points before it; `none` when the
whole string is valid. `need` counts continuation bytes still due, `lo` and `hi` bound the next one. -/
def utf8Bad : List Byte → (off start need lo hi : Nat) → Option Nat
  | [], _, start, need, _, _ => if need = 0 then none else some start
  | b :: bs, off, _, 0, _, _ =>
    let n := b.toNat
    if n < 0x80 then utf8Bad bs (off + 1) (off + 1) 0 0 0
    else if 0xC2 ≤ n ∧ n ≤ 0xDF then utf8Bad bs (off + 1) off 1 0x80 0xBF
    else if n = 0xE0 then utf8Bad bs (off + 1) off 2 0xA0 0xBF
    else if n = 0xED then utf8Bad bs (off + 1) off 2 0x80 0x9F
    else if 0xE1 ≤ n ∧ n ≤ 0xEF then utf8Bad bs (off + 1) off 2 0x80 0xBF
    else if n = 0xF0 then utf8Bad bs (off + 1) off 3 0x90 0xBF
    else if n = 0xF4 then utf8Bad bs (off + 1) off 3 0x80 0x8F
    else if 0xF1 ≤ n ∧ n ≤ 0xF3 then utf8Bad bs (off + 1) off 3 0x80 0xBF
    else some off
  | b :: bs, off, start, need + 1, lo, hi =>
    let n := b.toNat
    if lo ≤ n ∧ n ≤ hi then utf8Bad bs (off + 1) (if need = 0 then off + 1 else start) need 0x80 0xBF
    else some off

/-- The number of code points of valid UTF-8: the bytes that are no continuation byte (R381). -/
def codePoints (bs : List Byte) : Nat := (bs.filter (fun b => b.toNat / 64 ≠ 2)).length

end Sys2Proof.Machine
end

