-- ==== Sys2Proof/Machine/Ops.lean ====
section
/-! DEFINITION. The named operations that the meanings share: the BAR2 window, the variant's units, events,
notifications, completions, the change log, entry into SAFE and LOCKOUT. -/

namespace Sys2Proof

/-- The slot of a request: TAG bits [5:0] (R310). -/
def Req.slot (r : Req) : Nat := r.tag.toNat % 64

/-- Whether two requests are the same use of a tag on one transport. -/
def Req.sameTag (a b : Req) : Bool := a.via == b.via && a.slot == b.slot

/-- A role as the change log and the force table code it (R142, R387). -/
def Role.code : Role → Nat
  | .maintainer => 1
  | .safetyAuthority => 2

/-- The crossings in a fixed order, as events code them (0xC030). -/
def Crossing.code : Crossing → Nat
  | .flCl => 0
  | .clFl => 1
  | .nwCl => 2
  | .fbCl => 3
  | .clNw => 4
  | .clFb => 5
  | .nwAs => 6
  | .fbAs => 7
  | .clAs => 8
  | .asCl => 9
  | .mgCl => 10
  | .clMg => 11
  | .hiMg => 12
  | .mgHi => 13
  | .clHi => 14
  | .rtMg => 15
  | .fbMg => 16
  | .fsFl => 17

end Sys2Proof

namespace Sys2Proof.Machine

/-! ### The BAR2 window as a list of cells in canonical form (R309) -/

/-- What an unlisted byte of BAR2 reads as (R309, R325). -/
def Memory.empty : Byte := 0

/-- The byte at an address. -/
def Memory.read : List Host.Cell → Nat → Byte
  | [], _ => Memory.empty
  | (k, v) :: m, a => if k = a then v else Memory.read m a

/-- A byte written at an address; the list stays sorted and holds no entry equal to `Memory.empty`. -/
def Memory.write : List Host.Cell → Nat → Byte → List Host.Cell
  | [], a, b => if b = Memory.empty then [] else [(a, b)]
  | (k, v) :: m, a, b =>
    if a < k then (if b = Memory.empty then (k, v) :: m else (a, b) :: (k, v) :: m)
    else if a = k then (if b = Memory.empty then m else (a, b) :: m)
    else (k, v) :: Memory.write m a b

/-- A byte string written from an address upwards. -/
def Memory.writeBytes (m : List Host.Cell) (a : Nat) : List Byte → List Host.Cell
  | [] => m
  | b :: bs => Memory.writeBytes (Memory.write m a b) (a + 1) bs

/-- `len` bytes from an address upwards. -/
def Memory.readBytes (m : List Host.Cell) (a : Nat) : Nat → List Byte
  | 0 => []
  | n + 1 => Memory.read m a :: Memory.readBytes m (a + 1) n

/-- The canonical form: addresses strictly rising, within the window, no entry equal to `Memory.empty`. -/
def Memory.wf : List Host.Cell → Bool
  | [] => true
  | [(k, v)] => k < 0x100000 && v != Memory.empty
  | (k, v) :: (k', v') :: m => k < k' && k < 0x100000 && v != Memory.empty && Memory.wf ((k', v') :: m)

/-! ### The variant (R2, R307, R334) -/

/-- HI_ID.PART (R307). -/
def Variant.part : Variant → Nat
  | .v40 => 0x3040
  | .v30 => 0x3030
  | .v20 => 0x3020

/-- The HI_CAP word (R307). -/
def Variant.cap : Variant → Word
  | .v40 => 0x001FFF07
  | .v30 => 0x0010FF06
  | .v20 => 0x00030F01

/-- Whether Core S is fitted. -/
def Variant.spare : Variant → Bool
  | .v20 => false
  | _ => true

/-- Whether X6 and X7 are fitted. -/
def Variant.ethernet : Variant → Bool
  | .v20 => false
  | _ => true

/-- CAN ports present. -/
def Variant.canPorts : Variant → Nat
  | .v20 => 4
  | _ => 8

/-- Field groups present. -/
def Variant.groups : Variant → Nat
  | .v40 => 4
  | .v30 => 0
  | .v20 => 2

/-- Inputs present (R231). -/
def Variant.inputs (v : Variant) : Nat := 16 * v.groups
/-- Outputs present (R231). -/
def Variant.outputs (v : Variant) : Nat := 8 * v.groups
/-- Test-pulse sources present (R231). -/
def Variant.pulses (v : Variant) : Nat := 2 * v.groups

/-- Nodes served (R4). -/
def Variant.maxNodes : Variant → Nat
  | .v20 => 256
  | _ => 4094

/-- Records of the event area (R2). -/
def Variant.eventRecords : Variant → Nat
  | .v20 => 2097152
  | _ => 8388608

/-! ### Records kept in two copies (R370) -/

/-- The copy that decides: the one that passes its CRC and has the higher SEQ; `none` when neither passes. -/
def Dup.current {α : Type} (d : Dup α) : Option α :=
  if d.aOk && (!d.bOk || d.bSeq ≤ d.aSeq) then some d.a else if d.bOk then some d.b else none

/-- The SEQ of the deciding copy. -/
def Dup.seqNo {α : Type} (d : Dup α) : Nat := Nat.max (if d.aOk then d.aSeq else 0) (if d.bOk then d.bSeq else 0)

/-- Both copies written in turn with SEQ one higher than the newer copy (R370). -/
def Dup.put {α : Type} (d : Dup α) (x : α) : Dup α :=
  { a := x, b := x, aOk := true, bOk := true, aSeq := d.seqNo + 1, bSeq := d.seqNo + 1 }

/-! ### Time -/

/-- Operating time in ms (R358). -/
def State.opMs (s : State) : Nat := s.opUs / 1000
/-- Operating time in s. -/
def State.opS (s : State) : Nat := s.opUs / 1000000
/-- 24 operating hours in s (R170, R211). -/
def day : Nat := 86400
/-- One microsecond of the clock (log entry 3): operating time counts in every powered state (R358), the calendar
while RT is alive (R390, R391). -/
def State.tick (s : State) : State :=
  { s with
    opUs := if s.power.state = .off ∨ s.power.state = .standby then s.opUs else s.opUs + 1
    rt := if s.rt.alive then { s.rt with calUs := s.rt.calUs + 1 } else s.rt }
/-- T_bench of the active station data in µs, 0 without station data (R26). -/
def State.tBenchUs (s : State) : Nat := (s.station.map (fun st => st.tBench * 1000)).getD 0
/-- The instant at which phase O starts: freeze + 1 ms + 0.7 × T_bench (R122, R123). -/
def State.phaseOUs (s : State) : Nat := s.bench.freezeUs + 1000 + s.tBenchUs * 7 / 10

/-! ### Crossings (R218, R219, R225 to R230) -/

/-- A crossing's registers; one that has never been fenced is up. -/
def State.xing (s : State) (x : Crossing) : Xing :=
  ((s.xings.find? (fun p => p.1 == x)).map Prod.snd).getD { linkDown := false, stale := false }

/-- A crossing's registers set. -/
def State.setXing (s : State) (x : Crossing) (v : Xing) : State :=
  { s with xings := (x, v) :: s.xings.filter (fun p => p.1 != x) }

/-- Whether a crossing brings nothing that can be relied on: fenced, STALE or UNSTABLE (R222, R225). -/
def Xing.unusable (v : Xing) : Bool := v.linkDown || v.stale || v.unstable

/-! ### Counter crossings (R218, R226, R228) -/

/-- One event at the source. -/
def Counter.raise (c : Counter) : Counter := { c with count := (c.count + 1) % 65536 }
/-- The events that the destination receives with the next count: the difference from the last count it accepted, modulo
65,536; under a new epoch the count itself; with no count accepted since its reset, none. -/
def Counter.received (c : Counter) : Nat :=
  match c.seenEpoch with
  | none => 0
  | some e => if e = c.epoch then (c.count + 65536 - c.seen) % 65536 else c.count
/-- The count accepted by the destination. -/
def Counter.take (c : Counter) : Counter := { c with seenEpoch := some c.epoch, seen := c.count }
/-- The count accepted up to the last `n` events. -/
def Counter.takeBut (c : Counter) (n : Nat) : Counter :=
  { c with seenEpoch := some c.epoch, seen := (c.count + 65536 - n % 65536) % 65536 }
/-- The source leaves reset: count 0 under the inverted epoch. -/
def Counter.sourceReset (c : Counter) : Counter := { c with epoch := !c.epoch, count := 0 }
/-- The destination is reset: it holds no count. -/
def Counter.destReset (c : Counter) : Counter := { c with seenEpoch := none, seen := 0 }
/-- One event across a crossing, which takes it at once unless it is fenced (R218, R225). -/
def Counter.cross (c : Counter) (down : Bool) : Counter := if down then c.raise else c.raise.take

/-- The calendar and TIME_SET as the management core has them: its registers' reset values while the crossing from RT is
fenced, as only its own reset fences it while it runs (R228, R367). -/
def State.calendar (s : State) : Nat × Bool := if (s.xing .rtMg).linkDown then (0, false) else (s.rt.calUs, s.rt.timeSet)

/-! ### Life-cycle and power (R368, R373) -/

/-- The life-cycle code from the highest fuse blown and the mode record (R368, R369, R370). -/
def State.lifecycle (s : State) : Nat :=
  if s.sec.lcR then 5 else if s.sec.lcO then s.sec.mode.current.getD 3 else if s.sec.lcC then 2
  else if s.sec.lcP then 1 else 0

/-- Whether the life-cycle permits vital output: LC_C blown and LC_R not (R369). -/
def State.vitalLifecycle (s : State) : Bool := s.sec.lcC && !s.sec.lcR
/-- Whether a kind of debug access holds Ashlar: invasive or test-engine (R186). -/
def debugHolds : DebugKind → Bool
  | .invasive | .testEngine => true
  | .none | .nonInvasive => false

/-- The code of a power state in HI_STATE.POWER (R373); 0 where it has none. -/
def PowerState.code : PowerState → Nat
  | .off | .standby => 0
  | .start => 2
  | .run => 3
  | .stop => 4
  | .shutdownTest => 5
  | .safe => 6
  | .lockout => 7

/-- Whether the module is powered (R358). -/
def PowerState.powered : PowerState → Bool
  | .off | .standby => false
  | _ => true

/-- Whether the seal reads OPEN (R383). -/
def State.sealOpen (s : State) : Bool := s.sec.sealPat == 0b1010#4

/-! ### Lists -/

/-- A list with its element at an index changed; unchanged beyond its end. -/
def upd {α : Type} (l : List α) (i : Nat) (f : α → α) : List α := l.modify i f

/-- The elements of a list with their indices. -/
def withIndex {α : Type} (l : List α) : List (α × Nat) := l.zipIdx

/-- A number's value in an association list, 0 where it has none. -/
def countOf (l : List (Nat × Nat)) (k : Nat) : Nat := ((l.find? (fun p => p.1 == k)).map Prod.snd).getD 0

/-- An association list with one value set. -/
def setCount (l : List (Nat × Nat)) (k v : Nat) : List (Nat × Nat) := (k, v) :: l.filter (fun p => p.1 != k)

/-! ### Events (R354, R355) -/

/-- The islands and units that report events (R355). -/
inductive Source
  | cl
  | ash
  | mg
  | nw
  | fb
  | fs
  | hi
  | rt
  | nand
deriving DecidableEq, Repr

/-- The code of a source (R355). -/
def Source.code : Source → Nat
  | .cl => 0
  | .ash => 1
  | .mg => 2
  | .nw => 3
  | .fb => 4
  | .fs => 5
  | .hi => 6
  | .rt => 7
  | .nand => 8

/-- Severities (R355). -/
inductive Severity
  | info
  | maintenance
  | f0
  | f1
  | f2
  | f3
  | f4
deriving DecidableEq, Repr

/-- The code of a severity (R355). -/
def Severity.code : Severity → Nat
  | .info => 0
  | .maintenance => 1
  | .f0 => 2
  | .f1 => 3
  | .f2 => 4
  | .f3 => 5
  | .f4 => 6

/-- A happening reported to the recorder: it stands in the recorder's inbox until RECORD_WRITE takes it (R360). -/
def State.event (s : State) (code : Nat) (src : Source) (sev : Severity) (p0 p1 p2 : Nat := 0)
    (recovered : Bool := false) : State :=
  { s with recorder := { s.recorder with inbox := s.recorder.inbox ++
    [{ code := code, source := src.code, severity := sev.code, timeSet := s.calendar.2, fromCluster := src == .cl,
       recovered := recovered, powerCycle := s.powerCycle, opMs := s.opMs, p0 := word p0, p1 := word p1,
       p2 := word p2 }] } }

/-! ### Interrupts (R306, R308) -/

/-- An MSI write for an event vector: vector v mod n with n vectors enabled (R306). -/
def State.msi (s : State) (v : Nat) : State := { s with outbox := s.outbox ++ [.msi (v % s.hi.vectors)] }

/-- A bit of HI_IRQ_STAT set; its MSI follows when it was 0 and its mask bit is 0 (R308). Bit n is vector n. -/
def State.irq (s : State) (v : Nat) : State :=
  let was := s.hi.irqStat.getLsbD v
  let s1 := { s with hi := { s.hi with irqStat := s.hi.irqStat ||| (1#4 <<< v) } }
  if was || s.hi.irqMask.getLsbD v then s1
  else ({ s1 with hi := { s1.hi with msiSent := s1.hi.msiSent ||| (1#4 <<< v) } }).msi v

/-! ### Notifications (R317 to R320, R324, R353) -/

/-- Whether a kind is delivered whatever subscriptions are in force: transport kinds and fault kinds (R319, R353). -/
def alwaysDelivered (kind : Nat) : Bool := kind < 0x0100 || 0x0180 ≤ kind

/-- Whether a kind is a fault notification (R353). -/
def faultKind (kind : Nat) : Bool := 0x0180 ≤ kind

/-- A notification as its 64-byte entry (R317). -/
def Note.bytes (n : Note) (seqNo : Nat) : List Byte :=
  let b := le 2 n.kind ++ le 2 seqNo ++ le 4 n.cycle ++ le 6 n.opMs ++ [0, 0] ++ padTo 44 n.data
  b ++ le 4 (crc32c b).toNat

/-- Whether the ring has room for one more entry (R318). -/
def HostIf.ringRoom (h : HostIf) : Bool := h.head + 1 != h.tail

/-- An entry written into the ring: the whole entry, then HEAD, then the status bit (R318). -/
def State.ringWrite (s : State) (seqNo : Nat) (n : Note) : State :=
  let s1 := { s with hi := { s.hi with
    bar2 := Memory.writeBytes s.hi.bar2 (0x80000 + s.hi.head.toNat * 64) (n.bytes seqNo), head := s.hi.head + 1
    noteCount := s.hi.noteCount.cross s.hi.downMg } }
  s1.irq (if faultKind n.kind then 2 else 1)

/-- A notification generated on PCIe: it takes the next SEQ and goes into the ring, or is held while the ring is full
or its crossing fenced, or is counted as lost beyond 1,024 (R317, R318, R320). -/
def State.notePcie (s : State) (n : Note) : State :=
  let q := s.hi.noteSeq
  let s1 := { s with hi := { s.hi with noteSeq := (q + 1) % 65536 } }
  if s.hi.ringRoom && s.hi.heldNotes.isEmpty && s.hi.lostNotes == 0 && !s.hi.downMg then s1.ringWrite q n
  else if s.hi.heldNotes.length < 1024 then { s1 with hi := { s1.hi with heldNotes := s1.hi.heldNotes ++ [(q, n)] } }
  else { s1 with hi := { s1.hi with lostNotes := s1.hi.lostNotes + 1 } }

/-- A notification generated on X8 (R324): to the last SUBSCRIBE, else for the fault kinds to the last request that
passed step 1, else counted. -/
def State.noteX8 (s : State) (n : Note) : State :=
  let q := s.hi.x8Seq
  let s1 := { s with hi := { s.hi with x8Seq := (q + 1) % 65536 } }
  match s.hi.x8Dest.or s.hi.x8Last with
  | some (ip, port) => { s1 with outbox := s1.outbox ++ [.x8 ip port (n.bytes q)] }
  | none => { s1 with hi := { s1.hi with x8Unsent := s1.hi.x8Unsent + 1 } }

/-- A notification given to each transport that receives its kind (R353). -/
def State.deliverNote (s : State) (n : Note) : State :=
  let on (sub : BitVec 64) : Bool := alwaysDelivered n.kind || sub.getLsbD (n.kind - 0x0100)
  let s1 := if on s.hi.subscribed then s.notePcie n else s
  if on s.hi.x8Subscribed then s1.noteX8 n else s1

/-- A notification from the cluster: in RUN phase O hands it over with its cycle number (R126, R353); otherwise it goes
at once. -/
def State.noteCluster (s : State) (kind : Nat) (data : List Byte) : State :=
  if s.power.state = .run then
    { s with bench := { s.bench with notes := s.bench.notes ++ [⟨kind, s.bench.cycle, s.opMs, data⟩] } }
  else s.deliverNote ⟨kind, 0xFFFFFFFF, s.opMs, data⟩

/-- A notification that is not the cluster's (R353). -/
def State.note (s : State) (kind : Nat) (data : List Byte) : State :=
  s.deliverNote ⟨kind, 0xFFFFFFFF, s.opMs, data⟩

/-- The VOTE notification of a voting event: its code and the first two parameters of its record (R182, R353). -/
def State.voteNote (s : State) (code p0 p1 : Nat) : State := s.note 0x0182 (le 2 code ++ [0, 0] ++ le 4 p0 ++ le 4 p1)

/-! ### Completions (R310, R314, R322, R326) -/

/-- Status codes (R444). -/
inductive Status
  | ok
  | accepted
  | pending
  | refused
  | busy
  | timeout
  | discarded
  | absent
  | deniedState
  | deniedAuth
  | deniedSeal
  | badParam
  | badOpcode
  | length
  | resend
  | tagBusy
deriving DecidableEq, Repr

/-- The STATUS byte of a status (R444). -/
def Status.code : Status → Nat
  | .ok => 0x00
  | .accepted => 0x01
  | .pending => 0x02
  | .refused => 0x03
  | .busy => 0x04
  | .timeout => 0x05
  | .discarded => 0x06
  | .absent => 0x10
  | .deniedState => 0x11
  | .deniedAuth => 0x12
  | .deniedSeal => 0x13
  | .badParam => 0x14
  | .badOpcode => 0x20
  | .length => 0x21
  | .resend => 0x22
  | .tagBusy => 0x23

/-- A response as its block (R310). -/
def Response.bytes (r : Response) : List Byte :=
  let h := le 2 r.opcode ++ [r.req.tag, 1] ++ le 2 r.payload.length ++ [BitVec.ofNat 8 r.status, 0]
    ++ le 4 r.req.sequence.toNat ++ le 4 r.req.session.toNat ++ le 4 r.param0.toNat ++ le 4 r.param1.toNat
    ++ le 4 r.arrival
  h ++ le 4 (crc32c (h ++ r.payload)).toNat ++ r.payload

/-- A response written into its slot: the whole block, the DONE bit, HI_IRQ_STAT.DONE, in this order (R314). -/
def State.writeResponse (s : State) (r : Response) : State :=
  let s1 := { s with hi := { s.hi with
    bar2 := Memory.writeBytes s.hi.bar2 (0x40000 + r.req.slot * 0x1000) (r.bytes.take 4096),
    done := s.hi.done ||| (1#64 <<< r.req.slot), completions := s.hi.completions.cross s.hi.downMg } }
  s1.irq 0

/-- A stored X8 response (R323): the tag is free and the response kept for a repeat. -/
def State.sendX8 (s : State) (r : Response) : State :=
  let upd8 (t : X8Stored) : X8Stored :=
    if t.tag == r.req.slot && t.inFlight then { t with inFlight := false, response := r.bytes } else t
  { s with hi := { s.hi with x8 := s.hi.x8.map upd8 },
           outbox := s.outbox ++ [.x8 r.req.replyIp r.req.replyPort r.bytes] }

/-- A response delivered to its transport: held while the host link's crossing is fenced (R326), written into its slot
on PCIe, sent as a datagram on X8 (R314, R322). While the management core is in reset, and for a request that its restart
has answered DISCARDED, nothing is delivered (R209). -/
def State.deliver (s : State) (r : Response) : State :=
  if !s.mg.alive then s
  else if s.mg.voided.contains r.req then { s with mg := { s.mg with voided := s.mg.voided.filter (· != r.req) } }
  else
    let s1 := { s with mg := { s.mg with outstanding := s.mg.outstanding.filter (fun p => !(p.1.sameTag r.req)) } }
    match r.req.via with
    | .pcie =>
      if s.hi.downMg then { s1 with hi := { s1.hi with heldDone := s1.hi.heldDone ++ [r] } } else s1.writeResponse r
    | .x8 => s1.sendX8 r

/-- A completion by the management core: ARRIVAL 0xFFFF_FFFF (R329). -/
def State.answer (s : State) (opcode : Nat) (q : Req) (st : Status) (p0 p1 : Nat := 0) (data : List Byte := []) :
    State :=
  s.deliver { req := q, opcode := opcode, status := st.code, param0 := word p0, param1 := word p1, payload := data }

/-- A completion by the cluster: in RUN handed over by phase O (R126), otherwise at once (R330). -/
def State.complete (s : State) (opcode : Nat) (q : Req) (st : Status) (p0 p1 : Nat := 0) (data : List Byte := []) :
    State :=
  let r : Response := {
    req := q, opcode := opcode, status := st.code, param0 := word p0, param1 := word p1, arrival := q.arrival,
    payload := data }
  if s.power.state = .run then { s with bench := { s.bench with completions := s.bench.completions ++ [r] } }
  else s.deliver r

/-! ### The change log (R387 to R389) -/

/-- Entries of the change log (R387). -/
def logCapacity : Nat := 262144

/-- Whether the change log has room for `n` entries (R389). -/
def State.logRoom (s : State) (n : Nat) : Bool := s.log.length + n ≤ logCapacity

/-- The session a command names, if it is live on the command's transport (R325): named less than 30 minutes ago
(R348). -/
def State.sessionOf (s : State) (q : Req) : Option Session :=
  s.mg.sessions.find? (fun x => x.id == q.session && x.via == q.via && s.opUs < x.lastUs + 1800000000)

/-- The role code of a command's session, 0 for none (R387). -/
def State.roleOf (s : State) (q : Req) : Nat := ((s.sessionOf q).map (fun x => x.role.code)).getD 0

/-- A change-log entry written with its number, time and seal pattern (R387); entry 235,930 records 0x9050 (R389). -/
def State.logChange (s : State) (e : LogEntry) : State :=
  if s.logRoom 1 then
    let n := s.log.length
    let s1 := { s with log := s.log ++ [{ e with
      entry := n, sealPat := s.sec.sealPat.toNat, timeSet := s.calendar.2, opMs := s.opMs,
      calMs := s.calendar.1 / 1000 }] }
    if n = 235930 then s1.event 0x9050 .mg .info (n + 1) else s1
  else s

/-- The fields of a change-log entry that a mailbox command gives. -/
def State.logBy (s : State) (q : Req) (e : LogEntry) : LogEntry :=
  { e with role := s.roleOf q, transport := (match q.via with | .pcie => 0 | .x8 => 1), session := q.session }

/-! ### Leaving RUN: SAFE, LOCKOUT and STOP (R206, R208, R212) -/

/-- The request and opcode of a waiting command. -/
def Waiting.request : Waiting → Req × Nat
  | .signalStop q _ _ => (q, 0x0104)
  | .doorClose q _ => (q, 0x0302)
  | .benchStart q => (q, 0x0401)
  | .benchRestart q => (q, 0x0403)
  | .benchStop q => (q, 0x0402)
  | .shutdown q => (q, 0x0006)
  | .activate q _ => (q, 0x0704)
  | .relatch q => (q, 0x0704)

/-- Every request that no phase O has completed: those whose completion was not handed over, the image's, the pending
queue's, the waiting ones and those not yet frozen. -/
def State.openRequests (s : State) : List (Req × Nat) :=
  s.bench.completions.map (fun r => (r.req, r.opcode)) ++ s.bench.requests.map (fun x => (x.req, x.opcode))
    ++ s.eng.queue.filterMap (fun p => p.req.map (fun q => (q, p.opcode)))
    ++ s.eng.waiting.map Waiting.request ++ s.mg.queue.map (fun x => (x.req, x.opcode))

/-- An end of a force recorded and notified (R149). -/
def State.forceEnded (s : State) (f : Force) (cause : Nat) : State :=
  (s.event 0x1061 .cl .info f.kind f.target cause).noteCluster 0x0104
    ([BitVec.ofNat 8 f.kind, BitVec.ofNat 8 f.value] ++ le 2 f.target ++ [BitVec.ofNat 8 cause])

/-- The force table after one change (R144, R145). -/
def ForceChange.apply (l : List Force) : ForceChange → List Force
  | .set f => l.filter (fun x => !(x.kind == f.kind && x.target == f.target)) ++ [f]
  | .clear kind target => l.filter (fun x => !(x.kind == kind && x.target == target))
  | .clearAll => []

/-- The force table from the next freeze on (R145). -/
def Bench.nextForces (b : Bench) : List Force := b.newForces.foldl ForceChange.apply b.forces

/-- The whole force table cleared, one event per entry (R150), with the indications of R149. -/
def State.clearForces (s : State) (cause : Nat) : State :=
  let s1 := s.bench.nextForces.foldl (fun s f => s.forceEnded f cause) s
  { s1 with bench := { s1.bench with forces := [], newForces := [], forcedShown := false } }

/-- A prepare that becomes void (R90), notified as AUX (R353). -/
def State.voidPrepare (s : State) (p : Prepare) (reason : Nat) : State :=
  s.noteCluster 0x0105 ([BitVec.ofNat 8 p.kind, BitVec.ofNat 8 p.position] ++ le 2 p.target ++ le 2 reason)

/-- The engine's work dropped: every route FREE with its locks gone, the queue and slots empty, prepares void, timers
dropped (R93, R206). Element reports, declarations and learned data stay. -/
def Engine.cleared (e : Engine) : Engine :=
  { e with
    routes := e.routes.map (fun _ => {})
    elems := e.elems.map (fun d => { d with
      holders := [], pathLock := none, overlapLocks := [], stopLocks := [], held := false, openDemand := false,
      opening := false, clearSince := none, berthSince := none, movingUs := 0, movingSeen := false,
      obstructedSince := none, closeSince := none, confirmed := true })
    queue := [], txns := [], prepares := [], waiting := [], holdEnd := none, heldAreas := [] }

/-- The online constants once the changes completed in phase O are in effect (R154). -/
def Bench.nextConstants (b : Bench) : List (Nat × Nat) :=
  b.newConstants.foldl (fun l p => setCount l p.1 p.2) b.constants

/-- The force table that a stop leaves: the changes that a phase O has completed are in it, those of an unfinished cycle
are not (R145, R208). -/
def Bench.keptForces (b : Bench) : List Force := if b.frozen then b.forces else b.nextForces

/-- What a discarded cycle did with logins taken back: sessions, failures and acknowledgements as the cycle found them;
an indication that has come since stays (R208). -/
def State.takeBack (s : State) : State :=
  match s.bench.undo with
  | none => s
  | some u => { s with
      mg := { s.mg with sessions := u.sessions }
      sec := { s.sec with
        maintainerLogin := u.maintainerLogin, authorityLogin := u.authorityLogin, pendRt := s.sec.pendRt || u.pendRt,
        pendSeal := s.sec.pendSeal || u.pendSeal, pendNand := s.sec.pendNand || u.pendNand }
      bench := { s.bench with undo := none } }

/-- Work in flight given up: the engine cleared, the commands without a committed completion DISCARDED (R208), local
demands off. `keep` is a request that is not discarded. -/
def State.discardWork (s : State) (keep : Option Req := none) : State :=
  let open' := s.openRequests.filter (fun p => !(keep.any (fun k => k.sameTag p.1)))
  let waiting' := s.eng.waiting.filter (fun w => keep.any (fun k => k.sameTag w.request.1))
  let s1 := s.eng.prepares.foldl (fun s p => s.voidPrepare p 0) s.takeBack
  let s2 := { s1 with
    eng := { s1.eng.cleared with waiting := waiting', lastSeq := none }
    field := { s1.field with demands := 0 }
    can := s1.can.map (fun c => { c with fifo := [], rest := [], fresh := [] })
    bench := { s1.bench with
      requests := [], completions := [], newConstants := [], newLog := [], frozen := false, evaluated := false,
      housekept := true, discard := false, stopping := false, newForces := []
      constants := if s1.bench.frozen then s1.bench.constants else s1.bench.nextConstants
      forces := s1.bench.keptForces, forcedShown := !s1.bench.keptForces.isEmpty
      reminderUs := if s1.bench.forces.isEmpty then s1.opUs + 600000000 else s1.bench.reminderUs }
    mg := { s1.mg with queue := [] } }
  open'.foldl (fun s p => s.deliver
    { req := p.1, opcode := p.2, status := Status.discarded.code, arrival := p.1.arrival }) s2

/-- The notes of an unfinished cycle go out with the power state that ended it. -/
def State.flushNotes (s : State) : State :=
  let ns := s.bench.notes
  ns.foldl (fun s n => s.deliverNote n) { s with bench := { s.bench with notes := [] } }

/-- The safe-state record as its 16 bytes (R213). -/
def SafeRecord.bytes (r : SafeRecord) : List Byte :=
  [BitVec.ofNat 8 r.cls, BitVec.ofNat 8 r.fromState] ++ le 2 r.cause ++ le 4 r.cycle ++ le 4 r.opTimeS
    ++ [BitVec.ofNat 8 r.entries24h, BitVec.ofNat 8 r.moreCauses, 0, 0]

/-- The record of an entry into SAFE (class 3) or LOCKOUT (class 4) from the present state (R213). -/
def State.newRecord (s : State) (cls cause entries : Nat) : SafeRecord :=
  { cls := cls, fromState := s.power.state.code, cause := cause,
    cycle := if s.power.state = .run then s.bench.cycle else 0xFFFFFFFF,
    opTimeS := s.opS, entries24h := Nat.min entries 255, moreCauses := 0 }

/-- The start commands that wait complete REFUSED with a reason and its parameter (R210, R340, R351). -/
def State.startRefused (s : State) (reason param : Nat) : State :=
  s.eng.waiting.foldl (fun s w => match w with
    | .benchStart q | .benchRestart q =>
      ({ s with eng := { s.eng with waiting := s.eng.waiting.filter (· != w) } }).deliver
        { req := q, opcode := w.request.2, status := Status.refused.code, param0 := word reason, param1 := word param,
          arrival := q.arrival }
    | _ => s) s

/-- The start-up test failed in START: START_FAILED with its event code (R210, R351). -/
def State.startFailed (s : State) (code : Nat) : State :=
  if s.power.state = .start then s.startRefused 0x0424 code else s

/-- The halt code of a cluster that leaves RUN: COUNT one higher than that of the last cycle code (R190, R193). -/
def State.sendHalt (s : State) : State :=
  { s with bench := { s.bench with codes := s.bench.codes ++ [.halt (BitVec.ofNat 8 (s.bench.lastO + 1))] } }

/-- The counting of two-out-of-two time ends with RUN (R174). -/
def State.dwellPause (s : State) : State :=
  match s.vote.dwellMarkUs with
  | some t => { s with vote := { s.vote with dwellUs := s.vote.dwellUs + (s.opUs - t), dwellMarkUs := none } }
  | none => s

/-- The notifications of a cycle whose phase O is not voted are not handed over (R206, R126). -/
def State.dropNotes (s : State) : State := { s with bench := { s.bench with notes := [] } }

/-- The notifications of the stand-down itself carry no cycle: no phase O sends them (R353). -/
def State.uncycled (s : State) : State :=
  { s with bench := { s.bench with notes := s.bench.notes.map (fun (n : Note) => { n with cycle := 0xFFFFFFFF }) } }

/-- Steps 1 to 4 of R206, common to SAFE and LOCKOUT: the bench stops, a phase O not yet voted hands over nothing,
outputs off, a halt code where the voter still releases writes and the timing is trusted, forces cleared, work
discarded. -/
def State.standDown (s : State) (halt : Bool) : State :=
  let s1 := if halt && s.power.state = .run then s.sendHalt else s
  ((((s1.dropNotes.clearForces 3).discardWork).uncycled).flushNotes).dwellPause

/-- Entry into LOCKOUT on an F4 cause (R212, R374): record, event 0x0101, notification, READY_OFF. -/
def State.enterLockout (s : State) (cause : Nat) (halt : Bool := false) (repeated : Bool := false) : State :=
  match s.power.state with
  | .run | .start | .stop | .safe =>
    let r := s.newRecord 4 cause (s.power.entries.filter (fun t => s.opS < t + day)).length
    let s1 := s.standDown halt
    let s2 := { s1 with power := { s1.power with
      state := .lockout, ledTest := false, record := some r, lockoutCause := cause, repeated := repeated,
      readyOff := true, wasSafe := false } }
    ((s2.event 0x0101 .cl .f4).note 0x0181 r.bytes)
  | _ => s

/-- Entry into SAFE with a record (R206, R213); the third entry within 24 operating hours is LOCKOUT (R211). -/
def State.enterSafeNow (s : State) (cause : Nat) (halt : Bool) : State :=
  let recent := s.power.entries.filter (fun t => s.opS < t + day)
  let s0 := { s with power := { s.power with entries := s.opS :: recent } }
  if recent.length + 1 ≥ 3 then s0.enterLockout cause halt true
  else
    let r := s.newRecord 3 cause (recent.length + 1)
    let s1 := s0.standDown halt
    let s2 := { s1 with power := { s1.power with
      state := .safe, ledTest := false, record := some r, readyOff := true } }
    ((s2.event 0x0100 .cl .f3).note 0x0180 r.bytes)

/-- An F3 cause in the START of a module that is locked out: every start returns to LOCKOUT (R212), with the cause
counted in the record (R213). -/
def State.keepLockout (s : State) : State :=
  { s with power := { s.power with
    state := .lockout, ledTest := false, readyOff := true, wasSafe := false, testPassed := false
    record := s.power.record.map (fun r => { r with moreCauses := Nat.min (r.moreCauses + 1) 255 }) } }

/-- An F3 cause (R206): entry into SAFE from RUN, START or STOP; the third entry within 24 operating hours is LOCKOUT
(R211); in SAFE only MORE_CAUSES rises, and a module kept in LOCKOUT returns there (R212). `halt` says that a halt
code can be delivered. -/
def State.enterSafe (s : State) (cause : Nat) (halt : Bool := true) : State :=
  match s.power.state with
  | .start => if s.power.lockoutCause ≠ 0 then s.keepLockout else s.enterSafeNow cause halt
  | .run | .stop => s.enterSafeNow cause halt
  | .safe =>
    { s with power := { s.power with
      record := s.power.record.map (fun r => { r with moreCauses := Nat.min (r.moreCauses + 1) 255 }) } }
  | _ => s

/-- A lasting F3 cause noted as present (R210). -/
def State.causeOn (s : State) (code : Nat) : State :=
  if s.power.causes.contains code then s else { s with power := { s.power with causes := code :: s.power.causes } }

/-- A lasting F3 cause that has ended. -/
def State.causeOff (s : State) (code : Nat) : State :=
  { s with power := { s.power with causes := s.power.causes.filter (· != code) } }

/-- RUN left for STOP in an orderly way: a halt code, work in flight discarded but for the command that asked, the dwell
count and the operating time saved (R174, R358). -/
def State.enterStop (s : State) (keep : Option Req := none) : State :=
  let s1 := ((s.sendHalt.discardWork keep).flushNotes).dwellPause
  { s1 with
    savedOpUs := s1.opUs
    power := { s1.power with state := .stop }
    vote := { s1.vote with dwellSavedS := s1.vote.dwellUs / 1000000 } }

/-! ### Fences and agree transfers (R219, R225, R228) -/

/-- The island that sees a crossing's fence (R355). -/
def seenBy (x : Crossing) : Source :=
  match x with
  | .flCl | .clFl | .nwCl | .fbCl | .clAs | .asCl | .mgCl | .clMg => .cl
  | .clNw | .nwAs => .nw
  | .clFb | .fbAs | .fbMg => .fb
  | .hiMg | .mgHi | .clHi => .hi
  | .rtMg => .mg
  | .fsFl => .fs

/-- A crossing fenced because its source or its destination is in reset (R225, R228): LINK_DOWN and STALE set, event
0xC030. -/
def State.fence (s : State) (x : Crossing) : State :=
  let v := s.xing x
  if v.linkDown then s
  else (s.setXing x { v with linkDown := true, stale := true, downUs := s.opUs }).event 0xC030 (seenBy x) .info x.code 1 0

/-- A crossing fenced with its destination in reset: it holds its register's reset value, and no count (R228). -/
def State.fenceDest (s : State) (x : Crossing) : State :=
  let s1 := s.fence x
  let v := s1.xing x
  s1.setXing x { v with word := 0, unstable := false, counter := v.counter.destReset }

/-- Crossings fenced together. -/
def State.fenceAll (s : State) (l : List Crossing) : State := l.foldl State.fence s

/-- The outcome of an agree transfer over the samples taken: two samples and up to four retries (R219). -/
def agree {α : Type} [DecidableEq α] : (retries : Nat) → List α → Option α
  | n + 1, a :: b :: rest => if a = b then some a else agree n (b :: rest)
  | _, _ => none

end Sys2Proof.Machine
end

