-- ==== Sys2Proof/Machine/Operands.lean ====
section
/-! DEFINITION. How a command's operands are read: constants and time references, element, route and node look-ups,
state codes, and the acceptance checks that every mailbox command passes (R33, R40, R32, R327 to R331). -/

namespace Sys2Proof

/-- PARAM0 as a number. -/
def Req.p0 (q : Req) : Nat := q.param0.toNat
/-- PARAM1 as a number. -/
def Req.p1 (q : Req) : Nat := q.param1.toNat

end Sys2Proof

namespace Sys2Proof.Machine

/-! ### Constants and time references (R33, R40 to R42) -/

/-- The value in force of a constant: its online value, else the image's VALUE (R42). -/
def State.constant (s : State) (i : Nat) : Nat :=
  match s.bench.constants.find? (fun p => p.1 == i) with
  | some p => p.2
  | none => ((s.station.bind (fun st => st.constants[i]?)).map Constant.value).getD 0

/-- A time reference in its field's unit: itself below 0x8000, else the constant of bits [9:0] (R33). -/
def State.timeRef (s : State) (raw : Nat) : Nat := if raw < 0x8000 then raw else s.constant (raw % 1024)

/-- A time reference of unit 10 ms, in µs. -/
def State.time10ms (s : State) (raw : Nat) : Nat := s.timeRef raw * 10000
/-- A time reference of unit 1 s, in µs. -/
def State.timeS (s : State) (raw : Nat) : Nat := s.timeRef raw * 1000000

/-- T_RESTART in µs (R41). -/
def State.tRestartUs (s : State) : Nat := s.constant 0 * 1000000
/-- DWELL_2OO2 in h (R41). -/
def State.dwellLimitH (s : State) : Nat := s.constant 4
/-- TIMEOUT_FACTOR (R41). -/
def State.timeoutFactor (s : State) : Nat := s.constant 6
/-- ALIVE_WINDOW (R41). -/
def State.aliveWindow (s : State) : Nat := s.constant 7
/-- THROW_DRIFT in percent (R41). -/
def State.throwDrift (s : State) : Nat := s.constant 8

/-! ### Elements (R30, R32) -/

/-- The type code of R29. -/
def ElemPart.typeCode : ElemPart → Nat
  | .track .. => 1
  | .point .. => 2
  | .signal .. => 3
  | .edge .. => 4
  | .leaf .. => 5
  | .berth .. => 6
  | .link .. => 7
  | .auxIn .. => 8
  | .auxOut .. => 9

/-- Whether a number is a state code of an element type (R32). -/
def typeState (t v : Nat) : Bool :=
  match t with
  | 1 | 6 | 7 => v ≤ 3
  | 2 => v ≤ 4
  | 3 => v ≤ 2 || (0x10 ≤ v && v ≤ 0x1F)
  | 4 | 8 => v ≤ 2
  | 5 => v ≤ 6
  | 9 => v ≤ 1
  | _ => false

/-- The restrictive state of an element type, 0xFF for an auxiliary output (R32). -/
def typeSubst : Nat → Nat
  | 1 => 1
  | 2 => 3
  | 3 => 2
  | 4 => 2
  | 5 => 6
  | 6 => 0
  | 7 => 3
  | 8 => 2
  | _ => 0xFF

/-- The station's elements; none without station data. -/
def State.elements (s : State) : List Element := (s.station.map Station.elements).getD []
/-- The station's routes. -/
def State.routes (s : State) : List Route := (s.station.map Station.routes).getD []
/-- The station's nodes. -/
def State.nodeTable (s : State) : List Node := (s.station.map Station.nodes).getD []
/-- An element by its index. -/
def State.elem (s : State) (i : Nat) : Option Element := s.elements[i]?
/-- The type code of an element, 0 where there is none. -/
def State.typeOf (s : State) (i : Nat) : Nat := ((s.elem i).map (fun e => e.part.typeCode)).getD 0
/-- A route by its number. -/
def State.route (s : State) (n : Nat) : Option Route := s.routes[n]?
/-- A node table entry by its node ID. -/
def State.node (s : State) (id : Nat) : Option Node := s.nodeTable.find? (fun n => n.id == id)

/-- What the engine holds for an element. -/
def State.dyn (s : State) (i : Nat) : ElemDyn := s.eng.elems.getD i {}
/-- What the engine holds for an element, changed. -/
def State.modDyn (s : State) (i : Nat) (f : ElemDyn → ElemDyn) : State :=
  { s with eng := { s.eng with elems := upd s.eng.elems i f } }
/-- The state of an element as the engine sees it. -/
def State.image (s : State) (i : Nat) : Nat := (s.dyn i).image
/-- What the engine holds for a route. -/
def State.rdyn (s : State) (n : Nat) : RouteDyn := s.eng.routes.getD n {}
/-- What the engine holds for a route, changed. -/
def State.modRoute (s : State) (n : Nat) (f : RouteDyn → RouteDyn) : State :=
  { s with eng := { s.eng with routes := upd s.eng.routes n f } }
/-- What the module holds for a node. -/
def State.nodeDyn (s : State) (id : Nat) : Option NodeDyn := s.net.nodes.find? (fun n => n.id == id)
/-- What the module holds for a node, changed. -/
def State.modNode (s : State) (id : Nat) (f : NodeDyn → NodeDyn) : State :=
  { s with net := { s.net with nodes := s.net.nodes.map (fun n => if n.id == id then f n else n) } }

/-- Whether an element is under F1 (R204). -/
def ElemDyn.f1 (d : ElemDyn) : Bool :=
  d.lost || d.leftPos || d.failed || d.leafCause != 0 || d.dropped || d.channel || d.kindFault || d.badValue
/-- The fault class of an element: 2 under F2, else 1 under F1, else 0 (R203). -/
def ElemDyn.faultNow (d : ElemDyn) : Nat := if d.segment then 2 else if d.f1 then 1 else 0
/-- Whether an element is locked (R59). -/
def ElemDyn.locked (d : ElemDyn) : Bool :=
  d.pathLock.isSome || !d.holders.isEmpty || !d.overlapLocks.isEmpty || !d.stopLocks.isEmpty

/-- The code of a route state (R63). -/
def RouteState.code : RouteState → Nat
  | .free => 0
  | .requested => 1
  | .setting => 2
  | .locked => 3
  | .proven => 4
  | .clear => 5
  | .occupied => 6
  | .releasing => 7
  | .cancelling => 8

/-- Whether a route is in SETTING to CANCELLING (R62, R68). -/
def RouteState.isSet (r : RouteState) : Bool := 2 ≤ r.code

/-- The elements of a route in the order path, overlap, flank. -/
def Route.entries (r : Route) : List RouteEntry := r.path ++ r.overlap ++ r.flank
/-- The highest release group of a route (R74). -/
def Route.topGroup (r : Route) : Nat := r.path.foldl (fun m e => Nat.max m e.tag) 0

/-! ### Forces (R142, R147) -/

/-- The value of a force on a target, if it is forced. -/
def State.forceOn (s : State) (kind target : Nat) : Option Nat :=
  (s.bench.forces.find? (fun f => f.kind == kind && f.target == target)).map Force.value

/-! ### Terms (R38, R39) -/

/-- Whether a term of a condition is true in the image (R39, R61). -/
def State.term (s : State) (t : Term) : Bool :=
  let v := s.image t.element
  let d := s.dyn t.element
  let holds :=
    if s.typeOf t.element = 2 && t.state = 4 then v ≤ 1 && !d.holders.isEmpty
    else if s.typeOf t.element = 3 && t.state = 0 then v == 0 || v == 0x10
    else v == t.state
  holds == t.sense

/-- Whether a condition term list is true: every OR-group holds a true term (R39). -/
def State.listTrue (s : State) (l : List Term) : Bool :=
  l.all (fun t => l.any (fun u => u.group == t.group && s.term u))

/-- A condition term list by its index. -/
def State.termList (s : State) (i : Nat) : List Term := ((s.station.bind (fun st => st.lists[i]?)).getD [])

/-! ### The opcodes and acceptance (R327 to R331) -/

/-- The opcodes of chapter 14. -/
def opcodes : List Nat :=
  [0x0001, 0x0002, 0x0003, 0x0004, 0x0005, 0x0006]
  ++ [0x0101, 0x0102, 0x0103, 0x0104, 0x0110, 0x0111, 0x0201, 0x0202, 0x0301, 0x0302, 0x0303]
  ++ [0x0401, 0x0402, 0x0403, 0x0410, 0x0411, 0x0412, 0x0501, 0x0502]
  ++ [0x0601, 0x0602, 0x0603, 0x0604, 0x0605, 0x0701, 0x0702, 0x0703, 0x0704, 0x0705, 0x0706, 0x0707]
  ++ [0x0801, 0x0802, 0x0803, 0x0804, 0x0805, 0x0806, 0x0807, 0x0808]
  ++ [0x0901, 0x0902, 0x0903, 0x0904, 0x0905, 0x0906, 0x0907, 0x0908, 0x0909, 0x090A, 0x0A01, 0x0A02]

/-- The group of an opcode: its high byte. -/
def opGroup (op : Nat) : Nat := op / 256

/-- Whether the cluster decides an opcode (R329). -/
def clusterDecides (op : Nat) : Bool :=
  (1 ≤ opGroup op && opGroup op ≤ 5 && op != 0x0303) || op == 0x0006 || op == 0x0704
    || (opGroup op == 8 && op != 0x0807 && op != 0x0808)

/-- Whether the power state, the life-cycle and the station data leave an opcode open (R20, R331). -/
def State.openTo (s : State) (op : Nat) : Bool :=
  let g := opGroup op
  let early := [0x0001, 0x0002, 0x0003, 0x0005, 0x0601, 0x0602].contains op || g == 9 || g == 0x0A
  let bench := 1 ≤ g && g ≤ 5
  (if s.power.state = .start || s.power.state = .shutdownTest then early else true)
    && (if s.lifecycle = 5 then !(bench || g == 7 || (g == 8 && op != 0x0807)) else true)
    && (if bench && op != 0x0403 then s.station.isSome && s.power.state ≠ .safe && s.power.state ≠ .lockout else true)

/-- Whether a command holds a required role (R325, R328). -/
def State.holds (s : State) (q : Req) (need : Option Role) : Bool :=
  match need with
  | none => true
  | some r =>
    (s.lifecycle < 2 && s.sec.authority.isNone)
      || (match s.sessionOf q with
          | some x => r == .maintainer || x.role == .safetyAuthority
          | none => false)

/-- The checks of R327, steps 1 to 5, in order: `absent` names an absent unit, `stateOk` is the command's own power and
life-cycle condition, `need` its role, `code` whether it needs the open seal code. -/
def State.judge (s : State) (q : Req) (op : Nat) (absent stateOk : Bool) (need : Option Role) (code paramsOk : Bool) :
    Option Status :=
  if absent then some .absent
  else if !(s.openTo op && stateOk) then some .deniedState
  else if !(s.holds q need) then some .deniedAuth
  else if code && !s.sealOpen then some .deniedSeal
  else if !paramsOk then some .badParam
  else none

/-- The last command that names a live session keeps it alive (R348). -/
def State.heard (s : State) (q : Req) : State :=
  { s with mg := { s.mg with sessions := s.mg.sessions.map (fun x =>
    if x.id == q.session && x.via == q.via && s.opUs < x.lastUs + 1800000000 then { x with lastUs := s.opUs } else x) } }

/-- Whether the mailbox works at all: the module powered and its firmware running (R373, R418). -/
def State.mailboxLive (s : State) : Bool := s.power.state.powered && !s.power.dead

/-- A command of the management core under the checks of R327. -/
def State.mgCommand (s : State) (q : Req) (op : Nat) (v : Option Status) (k : State → State) : State :=
  if !s.mailboxLive || !s.mg.alive then s
  else match v with
  | some st => (s.heard q).answer op q st
  | none => k (s.heard q)

/-- A command of the cluster under the checks of R327. -/
def State.clCommand (s : State) (q : Req) (op : Nat) (v : Option Status) (k : State → State) : State :=
  if !s.mailboxLive then s
  else match v with
  | some st => (s.heard q).complete op q st
  | none => k (s.heard q)

end Sys2Proof.Machine
end

