-- ==== Sys2Proof/Machine/Flags.lean ====
section
/-! DEFINITION. The status words and indications that the module computes from its state: HI_STATE, HI_XING, AS_STATUS,
the vote MODE, the BAR0 registers and the LEDs (R183, R201, R224, R307, R22, R24). -/

namespace Sys2Proof.Machine

/-! ### Voting -/

/-- Slots that vote. -/
def Vote.activeSlots (v : Vote) : Nat := (v.slots.filter Slot.active).length
/-- Whether a core self-test is under way; a lane test that decides after it is none (R183). -/
def Vote.selfTesting (v : Vote) : Bool := v.testing.isSome || v.cause != 0
/-- MODE of R183; NOT_VOTING while the bench cycle does not run. -/
def State.voteMode (s : State) : Nat :=
  if s.vote.lockstepBroken then 5
  else if s.vote.selfTesting then 3
  else if s.vote.joining.isSome then 4
  else if s.power.state ≠ .run then 0
  else if s.vote.activeSlots = 3 then 1 else 2

/-! ### Faults and dropouts -/

/-- Whether an element or group is under F1 or F2 (R307). -/
def State.faultActive (s : State) : Bool :=
  s.eng.elems.any (fun d => d.faultNow != 0)
    || (withIndex s.field.groups).any (fun p => p.2 < s.unit.variant.groups &&
        ((s.station.map (fun st => st.groups.getD p.2 false)).getD false)
        && (p.1.feed == 3 || p.1.input == 3 || p.1.switchFault))
/-- Whether a node has dropped out (R307). -/
def State.nodeDropped (s : State) : Bool := s.net.nodes.any NodeDyn.dropped

/-! ### HI_STATE (R307) -/

/-- The HI_STATE word as the cluster writes it. -/
def State.stateWord (s : State) : Word :=
  word (s.power.state.code * 2 ^ 28 + s.lifecycle * 2 ^ 25 + s.voteMode * 2 ^ 22 + bit s.bench.forcedShown 21
    + bit s.station.isSome 20 + bit s.vote.lockstepBroken 19 + bit s.sealOpen 18 + bit s.faultActive 17
    + bit s.nodeDropped 16 + s.bench.lastO % 65536)

/-- The mirror refreshed by the cluster: its crossing carries the word unless it is fenced, or the transfer of this very
word has failed; a word that differs starts a new transfer (R219, R223, R225). -/
def State.settle (s : State) : State :=
  if s.hi.downCl || !s.power.state.powered || (s.hi.unstable && s.stateWord == s.hi.failedWord) then s
  else { s with hi := { s.hi with state := s.stateWord, unstable := false } }

/-! ### HI_XING (R224) -/

/-- The HI_XING word. -/
def HostIf.xingWord (h : HostIf) : Word :=
  word (bit h.m2 31 + h.unstableCount % 256 * 2 ^ 16 + bit h.eventMg 9 + bit h.eventCl 8 + bit h.downMg 3
    + bit h.downCl 2 + bit h.stale 1 + bit h.unstable 0)

/-! ### BAR0 reads (R307) -/

/-- What a 32-bit read of a BAR0 offset returns; offsets not listed read 0 and HI_REQ_DB is write only (R10, R307). -/
def State.readRegister (s : State) (offset : Nat) : Word :=
  match offset with
  | 0x000 => word (s.unit.variant.part * 65536 + s.unit.hwRev.toNat * 256 + 1)
  | 0x004 => s.unit.variant.cap
  | 0x008 => s.hi.state
  | 0x00C => s.hi.xingWord
  | 0x010 => s.hi.scratch
  | 0x024 => s.hi.done.extractLsb' 0 32
  | 0x028 => s.hi.done.extractLsb' 32 32
  | 0x02C => s.hi.busy.extractLsb' 0 32
  | 0x030 => s.hi.busy.extractLsb' 32 32
  | 0x034 => s.hi.head.setWidth 32
  | 0x038 => s.hi.tail.setWidth 32
  | 0x040 => s.hi.irqStat.setWidth 32
  | 0x044 => s.hi.irqMask.setWidth 32
  | _ => 0

/-! ### Ashlar's words (R201, R395) -/

/-- STATE of AS_STATUS. -/
def AshlarState.code : AshlarState → Nat
  | .disarmed => 0
  | .ready => 1
  | .armed => 2
  | .tripped => 3

/-- Whether a hold of R186 is present. -/
def Ashlar.held (a : Ashlar) : Bool := a.hold.lockstep || a.hold.debug || a.hold.lifecycle
/-- The hold bitmap of AS_STATUS [23:21] (R202): bit 2 LOCKSTEP, bit 1 DEBUG, bit 0 LIFECYCLE. -/
def holdBitmap (h : HoldLines) : Nat := bit h.lockstep 2 + bit h.debug 1 + bit h.lifecycle 0
/-- Whether Ashlar grants anything: ARMED without a hold (R195). -/
def Ashlar.grants (a : Ashlar) : Bool := a.state == .armed && !a.held
/-- The AS_STATUS word. -/
def Ashlar.statusWord (a : Ashlar) : Word :=
  word (a.state.code * 2 ^ 30 + a.cause * 2 ^ 26 + bit a.latch 25 + bit a.loadFail 24 + holdBitmap a.hold * 2 ^ 21
    + bit a.inputStale 20 + a.groupSw.toNat * 2 ^ 16 + a.challenge.toNat)
/-- The AS_BIST word (R395). -/
def Ashlar.bistWord (a : Ashlar) : Word := word (a.bistBlock * 2 ^ 28 + a.bistCount.toNat)

/-! ### Front-panel LEDs (R22, R24) -/

/-- What an LED shows. -/
inductive Led
  | off
  | green
  | amber
  | red
  | flashGreen
  | flashAmber
  | flashRed
  | flashRed4Hz
  | all
deriving DecidableEq, Repr

/-- The six LEDs RUN, SAFE, VOTE, FORCE, COMM and FAULT; all lit in every colour during the LED test (R24).
DESIGN CHOICE, log entry 94: while the management core that drives them is in reset (R209) the LEDs show the true
conditions still, and outside RUN, where no freeze judges time-outs (R137), COMM shows green for every node that no
freeze has declared dropped out. -/
def State.leds (s : State) : List Led :=
  if !s.power.state.powered then [.off, .off, .off, .off, .off, .off]
  else if s.power.ledTest then [.all, .all, .all, .all, .all, .all]
  else
    let p := s.power.state
    let standAlone := s.station.isNone
    let heardAny := s.can.any (fun c => c.nominalLocked) || s.net.heardTelegram
    [ if p = .run then .green else if p = .start || p = .stop || p = .shutdownTest then .flashGreen else .off,
      if p = .lockout then .flashRed4Hz
      else if p = .safe || (!s.ash.grants && p ≠ .stop) then .red else .off,
      if s.vote.lockstepBroken then .red
      else if s.vote.selfTesting || s.vote.joining.isSome then .flashAmber
      else if p ≠ .run then .off
      else if s.vote.activeSlots = 2 then .amber
      else if s.vote.activeSlots = 3 then .green else .off,
      if s.bench.forcedShown then .amber else .off,
      if s.nodeDropped then .amber
      else if standAlone && heardAny then .flashGreen
      else if !standAlone && !s.net.nodes.any NodeDyn.dropped then .green else .off,
      if s.faultActive || s.power.faultLed then .red
      else if s.sec.pendRt || s.sec.pendSeal || s.sec.pendNand then .flashRed else .off ]

/-- The FORCED backplane line, asserted with the FORCE LED (R149). -/
def State.forcedLine (s : State) : Bool := s.bench.forcedShown && s.power.state.powered

end Sys2Proof.Machine
end

