-- ==== Sys2Proof/Machine/Engine.lean ====
section
/-! DEFINITION. What the route and door engine shares: instants, demands, field transactions and slots, locks, element
fault reports and learning (R59 to R62, R77 to R89, R117 to R119, R136). -/

namespace Sys2Proof.Machine

/-! ### Instants of a cycle (R122) -/

/-- The instant at which phase E starts at the latest: 1 ms after the freeze (R122). What happens in phase E happens at
this instant for the comparisons of R136 (log entry 20). -/
def State.evalUs (s : State) : Nat := s.bench.freezeUs + 1000

/-- Whether the engine's timers run: RUN, with an image frozen. -/
def State.inRun (s : State) : Bool := s.power.state == .run

/-! ### What elements show -/

/-- Whether a signal shows STOP in the image: 0, or aspect 0 displayed (R83). -/
def State.showsStop (s : State) (i : Nat) : Bool := s.image i == 0 || s.image i == 0x10

/-- Whether a signal reports STOP to the module, declared FAILED or not: a forced image wins, a substitute is no report
(R83, R85, R150). -/
def State.reportsStop (s : State) (i : Nat) : Bool :=
  let d := s.dyn i
  s.showsStop i || ((s.forceOn 1 i).isNone && !d.substituted && (d.reported == some 0 || d.reported == some 0x10))

/-- Whether a report of a signal is a report of an aspect off stop: the aspect itself, or PROCEED at a signal with aspect
0 and one other (R83). -/
def isAspect (e : Element) (v aspect : Nat) : Bool :=
  v == 0x10 + aspect ||
    (match e.part with
     | .signal set .. => v == 1 && aspect != 0 && set.testBit 0
         && ((List.range 16).filter (fun n => set.testBit n)).length == 2
     | _ => false)

/-- Whether a signal shows an aspect in the image. -/
def State.showsAspect (s : State) (i aspect : Nat) : Bool :=
  ((s.elem i).map (fun e => isAspect e (s.image i) aspect)).getD false

/-- Whether an element holds its substitute value in the image: a force wins over substitution (R66, R150). -/
def State.holdsSubst (s : State) (i : Nat) : Bool := (s.dyn i).substituted && (s.forceOn 1 i).isNone

/-- A value set by the engine: the underlying state, and the image unless it is forced (R147). -/
def State.setValue (s : State) (i v : Nat) : State :=
  s.modDyn i (fun d => { d with value := v, image := (s.forceOn 1 i).getD v })

/-- The type-specific part of an element; a plain section where there is none. -/
def State.part (s : State) (i : Nat) : ElemPart := ((s.elem i).map Element.part).getD (.track 0 false 0)

/-- The elements of a type, in index order. -/
def State.ofType (s : State) (t : Nat) : List Nat :=
  (withIndex s.elements).filterMap (fun p => if p.1.part.typeCode == t then some p.2 else none)

/-! ### Demands (R125) -/

/-- A demand written into the working copy (R125); a change must be confirmed anew (R84). -/
def State.demandOf (s : State) (i v : Nat) : State :=
  s.modDyn i (fun d => if d.demand = some v then d else { d with demand := some v })

/-- A demand as the module sends it: STOP is 0, a forced aspect 0 of a signal too (R83). -/
def sentDemand (t v : Nat) : Nat := if t = 3 && v = 0x10 then 0 else v

/-- The demand that phase O commits: a forced one before the engine's (R147). -/
def State.workingDemand (s : State) (i : Nat) : Option Nat :=
  ((s.forceOn 2 i).or (s.dyn i).demand).map (sentDemand (s.typeOf i))

/-! ### Field transactions (R86 to R89) -/

/-- Whether a kind is RESTRICTIVE (R87). -/
def TxnKind.restrictive : TxnKind → Bool
  | .signalStop | .doorClose => true
  | _ => false

/-- NORMAL slots (R86). -/
def normalSlots : Nat := 224
/-- Transaction slots (R86). -/
def allSlots : Nat := 256

/-- Slots in use; a slot stays in use in the phase E in which its transaction ends (R89). -/
def State.slotsUsed (s : State) : Nat := (s.eng.txns.filter Txn.slot).length
/-- Slots in use by NORMAL transactions (R86). -/
def State.normalUsed (s : State) : Nat := (s.eng.txns.filter (fun t => t.slot && !t.kind.restrictive)).length
/-- Slots missing for `k` NORMAL transactions (R86). -/
def State.slotsMissing (s : State) (k : Nat) : Nat :=
  Nat.max (s.normalUsed + k - normalSlots) (s.slotsUsed + k - allSlots)

/-- Whether a transaction for an element is in flight. -/
def State.inFlight (s : State) (i : Nat) : Bool := s.eng.txns.any (fun t => t.element == i && !t.ended)
/-- Whether a transaction of a kind for an element is in flight. -/
def State.kindInFlight (s : State) (k : TxnKind) (i : Nat) : Bool :=
  s.eng.txns.any (fun t => t.kind == k && t.element == i && !t.ended)

/-- A transaction started: a RESTRICTIVE one replaces the NORMAL ones of its element, SUPERSEDED, and runs without a slot
while none is free (R88, R89). -/
def State.startTxn (s : State) (k : TxnKind) (i v limitUs : Nat) : State :=
  let ts := if k.restrictive
    then s.eng.txns.map (fun t => if t.element == i && !t.kind.restrictive then { t with ended := true } else t)
    else s.eng.txns
  let free := (ts.filter Txn.slot).length < allSlots
  { s with eng := { s.eng with
    txns := ts ++ [{ kind := k, element := i, value := v, slot := !k.restrictive || free, limitUs := limitUs }] } }

/-- RESTRICTIVE transactions without a slot take the slots that are free (R88). -/
def State.slotLate (s : State) : State :=
  let step (acc : List Txn × Nat) (t : Txn) : List Txn × Nat :=
    if !t.slot && !t.ended && acc.2 < allSlots then (acc.1 ++ [{ t with slot := true }], acc.2 + 1)
    else (acc.1 ++ [t], acc.2)
  { s with eng := { s.eng with txns := (s.eng.txns.foldl step ([], s.slotsUsed)).1 } }

/-- A signal commanded to STOP (R85, R88): its demand, and a SIGNAL_STOP unless one is in flight or it already shows and
demands STOP. -/
def State.commandStop (s : State) (i : Nat) : State :=
  let quiet := s.showsStop i && (s.dyn i).demand = some 0
  let s1 := s.demandOf i 0
  if s1.kindInFlight .signalStop i || quiet then s1 else s1.startTxn .signalStop i 0 2000000

/-! ### Locks (R59, R60) -/

/-- A route with the coupled end of every point end it names, in the same list with the same STATE (R37). -/
def State.withCoupled (s : State) (l : List RouteEntry) : List RouteEntry :=
  l ++ l.filterMap (fun x =>
    match (s.elem x.element).map Element.part with
    | some (.point (some c) ..) => if l.any (fun y => y.element == c) then none else some { x with element := c }
    | _ => none)

/-- A route as the engine works with it: coupled ends named together (R37). -/
def State.fullRoute (s : State) (n : Nat) : Option Route :=
  (s.route n).map (fun r => { r with
    path := s.withCoupled r.path, overlap := s.withCoupled r.overlap, flank := s.withCoupled r.flank })

/-- The sections named in a list. -/
def State.sections (s : State) (l : List RouteEntry) : List RouteEntry := l.filter (fun x => s.typeOf x.element == 1)
/-- The point ends named in a list. -/
def State.points (s : State) (l : List RouteEntry) : List RouteEntry := l.filter (fun x => s.typeOf x.element == 2)
/-- The signals named in a list. -/
def State.signals (s : State) (l : List RouteEntry) : List RouteEntry := l.filter (fun x => s.typeOf x.element == 3)

/-- A number added to a list without repeats. -/
def addNew (n : Nat) (l : List Nat) : List Nat := if l.contains n then l else n :: l

/-- The smallest number of a list. -/
def smallest : List Nat → Option Nat
  | [] => none
  | n :: l => some (l.foldl Nat.min n)

/-- A route takes all its locks (R59). -/
def State.takeLocks (s : State) (n : Nat) (r : Route) : State :=
  let s1 := (s.points r.entries).foldl (fun s x =>
    s.modDyn x.element (fun d => { d with holders := addNew n d.holders, position := x.state })) s
  let s2 := (s.sections r.path).foldl (fun s x => s.modDyn x.element (fun d => { d with pathLock := some n })) s1
  let s3 := (s.sections r.overlap).foldl (fun s x =>
    s.modDyn x.element (fun d => { d with overlapLocks := addNew n d.overlapLocks })) s2
  (s.signals r.flank).foldl (fun s x => s.modDyn x.element (fun d => { d with stopLocks := addNew n d.stopLocks })) s3

/-- The lock record of an element without one route. -/
def ElemDyn.without (d : ElemDyn) (n : Nat) : ElemDyn :=
  { d with
    holders := d.holders.filter (· != n)
    pathLock := if d.pathLock = some n then none else d.pathLock
    overlapLocks := d.overlapLocks.filter (· != n)
    stopLocks := d.stopLocks.filter (· != n) }

/-- Every lock of a route released. -/
def State.dropLocks (s : State) (n : Nat) : State :=
  { s with eng := { s.eng with elems := s.eng.elems.map (fun d => d.without n) } }

/-- The release groups of a path in ascending order (R36, R74). -/
def Route.groups (r : Route) : List Nat := sortAsc (r.path.foldl (fun l x => addNew x.tag l) [])

/-- The sections and points of one release group lose the route (R74). -/
def State.releaseGroup (s : State) (n : Nat) (r : Route) (g : Nat) : State :=
  (r.path.filter (fun x => x.tag == g)).foldl (fun s x =>
    s.modDyn x.element (fun d => { d with
      holders := d.holders.filter (· != n), pathLock := if d.pathLock = some n then none else d.pathLock })) s

/-- Routes in SETTING to CANCELLING (R62). -/
def State.routesSet (s : State) : Nat := (s.eng.routes.filter (fun r => r.state.isSet)).length

/-! ### Throw timeouts and throw-time learning (R80 to R82) -/

/-- The throw timeout of a point end in µs: THROW_INIT_MS until a value has been accepted (R81). -/
def State.throwLimit (s : State) (i : Nat) : Nat :=
  match (s.elem i).map Element.part with
  | some (.point _ _ _ init _ _) => ((s.dyn i).learn.accepted.getD init) * 1000
  | _ => 0

/-- The clamp of R81 on a timeout in ms. -/
def clampThrow (lo hi ms : Nat) : Nat := Nat.min hi (Nat.max lo ms)

/-- The timeout that the management core derives from at least 200 throws (R80, R81). -/
def ThrowLearn.derived (l : ThrowLearn) : Option Nat :=
  if 200 ≤ l.count then some (3 * rankAscending l.times (rank999 l.times.length) / 2) else none

/-- A throw time recorded (R80, R82); the second part says that the drift threshold has just been crossed. -/
def ThrowLearn.record (l : ThrowLearn) (driftPct ms : Nat) : ThrowLearn × Bool :=
  let l1 := { l with times := (ms :: l.times).take 1000, count := l.count + 1 }
  match l1.baseline with
  | none =>
    let f := l.first ++ [ms]
    if f.length < 200 then ({ l1 with first := f }, false)
    else ({ l1 with first := f, baseline := some (median f), mean := median f * 256 }, false)
  | some b =>
    let m := (l1.mean * 31 + ms * 256) / 32
    let limit := b * (100 + driftPct) * 256
    let high := limit < m * 100
    ({ l1 with mean := m, drift := high || (l1.drift && limit ≤ m * 100) }, high && !l1.drift)

/-- A throw measured by the management core (R80, R82): no measurement while it does not run. -/
def State.learnThrow (s : State) (i ms : Nat) : State :=
  if s.mg.alive then
    let r := (s.dyn i).learn.record s.throwDrift ms
    let s1 := s.modDyn i (fun d => { d with learn := r.1 })
    if r.2 then s1.event 0x6031 .mg .maintenance i (r.1.baseline.getD 0) (r.1.mean / 256) else s1
  else s

/-! ### Leaf health learning (R117 to R119) -/

/-- One sample of an open or close time: the baseline from the first 200, then the mean (R118). -/
def learnTime (times : List Nat) (base mean ms : Nat) : List Nat × Nat × Nat :=
  if times.length < 200 then
    let l := times ++ [ms]
    if l.length = 200 then (l, median l, median l * 256) else (l, 0, 0)
  else (times, base, (mean * 31 + ms * 256) / 32)

/-- A counted cycle closed (R117, R118, R119) at operating time `opS`: the new health data and the events to record, each
with its baseline and mean. An event is due again only after its mean has returned below the threshold. -/
def Health.close (h : Health) (opS : Nat) (openMs closeMs : Option Nat) : Health × List (Nat × Nat × Nat) :=
  let o := if h.obstructed = 0 then 0 else 1
  let cycles := h.cycles + 1
  let op := match openMs with
    | some ms => learnTime h.opens h.openBase h.openMean ms
    | none => (h.opens, h.openBase, h.openMean)
  let cl := match closeMs with
    | some ms => if o = 0 then learnTime h.closes h.closeBase h.closeMean ms else (h.closes, h.closeBase, h.closeMean)
    | none => (h.closes, h.closeBase, h.closeMean)
  let first := if h.cycles < 200 then h.firstObst + o else h.firstObst
  let learned := 200 ≤ cycles
  let r0 := first * 50
  let rate := if h.obstLearned then (h.obstMean * 63 + 10000 * o * 256) / 64 else if learned then r0 * 256 else 0
  let openHigh := op.1.length ≥ 200 && op.2.1 * 5 * 256 < op.2.2 * 4
  let closeHigh := cl.1.length ≥ 200 && cl.2.1 * 5 * 256 < cl.2.2 * 4
  let obstHigh := learned && (Nat.max (2 * r0) (r0 + 200)) * 256 < rate
  let stays (was : Bool) (mean limit : Nat) : Bool := was && limit ≤ mean
  let ev (now was : Bool) (code base mean : Nat) : List (Nat × Nat × Nat) :=
    if now && !was then [(code, base, mean / 256)] else []
  ({ h with
     cycles := cycles, obstructions := h.obstructions + h.obstructed, opens := op.1, closes := cl.1,
     firstObst := first, openBase := op.2.1, openMean := op.2.2, closeBase := cl.2.1, closeMean := cl.2.2,
     obstBase := if learned then r0 else 0, obstMean := rate, obstLearned := learned
     openDrift := openHigh || stays h.openDrift (op.2.2 * 4) (op.2.1 * 5 * 256)
     closeDrift := closeHigh || stays h.closeDrift (cl.2.2 * 4) (cl.2.1 * 5 * 256)
     obstRising := obstHigh || stays h.obstRising rate ((Nat.max (2 * r0) (r0 + 200)) * 256), lastS := opS,
       active := false, spoiled := false,
     openUs := none, openTaken := none, closeUs := none, obstructed := 0, wasObstructed := false },
   ev openHigh h.openDrift 0x7040 op.2.1 op.2.2 ++ ev closeHigh h.closeDrift 0x7041 cl.2.1 cl.2.2
     ++ ev obstHigh h.obstRising 0x7042 r0 rate)

/-- The leaf's health data after a freeze (R117): its state, FAILED where the module has declared it so (R99), and whether
it is demanded closed. -/
def State.learnLeaf (s : State) (i : Nat) : State :=
  let d := s.dyn i
  let h := d.health
  if !s.mg.alive || !h.active then s
  else
    let v := if d.leafCause = 0 then d.value else 6
    let now := s.bench.freezeUs
    let spoiled := h.spoiled || v == 5 || v == 6
    let obst := v == 4
    let h1 : Health := { h with
      spoiled := spoiled
      obstructed := if obst && !h.wasObstructed then h.obstructed + 1 else h.obstructed
      wasObstructed := obst
      openTaken := if v == 3 && h.openTaken.isNone then h.openUs.map (fun t => (now - t) / 1000) else h.openTaken }
    if v == 0 && d.committed = some 0 && h1.closeUs.isSome then
      if spoiled then s.modDyn i (fun d => { d with health := { h with
        active := false, spoiled := false, openUs := none, openTaken := none, closeUs := none, obstructed := 0,
        wasObstructed := false } })
      else
        let r := h1.close s.opS h1.openTaken (h1.closeUs.map (fun t => (now - t) / 1000))
        let s1 := s.modDyn i (fun d => { d with health := r.1 })
        r.2.foldl (fun s e => s.event e.1 .mg .maintenance i e.2.1 e.2.2) s1
    else s.modDyn i (fun d => { d with health := h1 })

/-- The declaration of a leaf that no restart ends: FAILED under causes 1 to 4 (R93, R100). -/
def ElemDyn.keptCause (d : ElemDyn) : Nat := if 1 ≤ d.leafCause && d.leafCause ≤ 4 then d.leafCause else 0

/-! ### Fault reports (R353) -/

/-- The event code that goes with an element's present fault. -/
def State.faultCodeOf (s : State) (i : Nat) : Nat :=
  let d := s.dyn i
  if d.segment then (match s.elem i with
    | some e => if e.loc then 0x3040 else 0x4011
    | none => 0)
  else if d.dropped then 0x5020
  else if d.channel then (if s.typeOf i == 9 then 0x3030 else 0x3020)
  else if d.lost then 0x6030
  else if 0 < d.leafCause && d.leafCause < 6 then 0x7010
  else if d.kindFault then 0x5050
  else 0

/-- The begin and the end of F1 or F2 of an element, notified (R353, kind 0x0101). -/
def State.tellFault (s : State) (i : Nat) : State :=
  let d := s.dyn i
  let now := d.faultNow
  let say (s : State) (cls start code : Nat) : State :=
    s.noteCluster 0x0101 (le 2 i ++ [BitVec.ofNat 8 cls, BitVec.ofNat 8 start] ++ le 2 code)
  if now = d.faultClass then s
  else
    let code := s.faultCodeOf i
    let s1 := if d.faultClass = 0 then s else say s d.faultClass 0 (if d.faultCode = 0x5020 then 0x5021 else d.faultCode)
    let s2 := if now = 0 then s1 else say s1 now 1 code
    s2.modDyn i (fun d => { d with faultClass := now, faultCode := code })

/-- A check of the engine outside the phases (log entry 4): in RUN it runs; elsewhere
its timer does not run. -/
def State.timed (s : State) (f : State → State) : State := if s.inRun then f s else s

/-- `tellFault` for every element. -/
def State.tellFaults (s : State) : State := (List.range s.eng.elems.length).foldl State.tellFault s

/-- Consecutive fresh values that an element under F1 has reported toward its end (R77, R84, R100): `toward` says
whether the present value counts. -/
def ElemDyn.countGood (d : ElemDyn) (toward : Bool) : ElemDyn :=
  if d.renewedUs > d.goodUs then { d with good := if toward then d.good + 1 else 0, goodUs := d.renewedUs } else d

end Sys2Proof.Machine
end

