-- ==== Sys2Proof/Machine/Doors.lean ====
section
/-! DEFINITION. Platform doors and berthing: leaf, berth window and edge states, the conditions of opening, closing and
departure, and the row OBSTRUCTION_60S, MOVE_LIMIT_EXPIRY, BERTH_CONFIRMATION (R95 to R115). -/

namespace Sys2Proof.Machine

/-! ### Parts of an edge (R34, R35, R95) -/

/-- The leaves of an edge. -/
def ElemPart.leaves : ElemPart → List Nat
  | .edge first n _ _ _ _ _ _ => List.range' first n
  | _ => []

/-- The berth windows of an edge. -/
def ElemPart.berths : ElemPart → List Nat
  | .edge _ _ _ first n _ _ _ => List.range' first n
  | _ => []

/-- The departure signal of an edge. -/
def ElemPart.departure : ElemPart → Nat
  | .edge _ _ sig _ _ _ _ _ => sig
  | _ => 0

/-- The TDC node of an edge. -/
def ElemPart.tdcNode : ElemPart → Nat
  | .edge _ _ _ _ _ node _ _ => node
  | _ => 0

/-- The edge of a leaf or berth window. -/
def ElemPart.edgeOf : ElemPart → Nat
  | .leaf g .. => g
  | .berth g .. => g
  | _ => 0
/-- The section of a berth window. -/
def ElemPart.berthSection : ElemPart → Nat
  | .berth _ _ sec => sec
  | _ => 0

/-- Whether a leaf state is secure (R98). -/
def leafSecure (v : Nat) : Bool := v == 0 || v == 5

/-- The edges that a route passes through (R95). -/
def State.edgesOf (s : State) (r : Route) : List Nat :=
  let secs := (s.sections (r.path ++ r.overlap)).map RouteEntry.element
  (s.ofType 4).filter (fun g => (s.part g).berths.any (fun w => secs.contains (s.part w).berthSection))

/-- The edge whose departure signal is a route's entry signal (R96). -/
def State.departureEdge (s : State) (r : Route) : Option Nat :=
  (s.ofType 4).find? (fun g => (s.part g).departure == r.entry)

/-! ### Leaves (R98 to R102) -/

/-- A FAILED or ISOLATED_CLOSED leaf is never commanded open (R98, R114): an OPEN demand becomes CLOSE. -/
def State.neverOpen (s : State) (i : Nat) : State :=
  if (s.dyn i).demand = some 3 then s.demandOf i 0 else s

/-- A leaf declared FAILED with event 0x7010 (R99). -/
def State.leafFails (s : State) (i cause : Nat) : State :=
  (s.modDyn i (fun d => { d with leafCause := cause, good := 0, goodUs := s.evalUs })).event 0x7010 .cl .f1 i cause

/-- A DOOR notification (R353, kind 0x0102). -/
def State.doorNote (s : State) (edge cause leaves element : Nat) : State :=
  s.noteCluster 0x0102 (le 2 edge ++ [BitVec.ofNat 8 cause, BitVec.ofNat 8 leaves] ++ le 2 element)

/-- The end of 60 s of OBSTRUCTED (R101). -/
def State.checkObstructed (s : State) (i : Nat) : State :=
  let d := s.dyn i
  match d.obstructedSince with
  | some t =>
    if t + 60000000 ≤ s.bench.freezeUs && !d.obstructedTold then
      ((s.modDyn i (fun d => { d with obstructedTold := true })).event 0x7012 .cl .info).doorNote
        (s.part i).edgeOf 3 0 i
    else s
  | none => s

/-- MOVING beyond MOVE_LIMIT in total (R99 cause 1). -/
def State.checkMoving (s : State) (i : Nat) : State :=
  match s.part i with
  | .leaf _ _ _ limit =>
    let d := s.dyn i
    if d.leafCause = 0 && s.time10ms limit < d.movingUs then (s.leafFails i 1).setValue i 6 else s
  | _ => s

/-- The time counters of a leaf at a freeze, whether or not its phase E is evaluated (R129): time MOVING in total, which
OBSTRUCTED does not count and any other state ends, and the begin of an obstruction (R99, R101). -/
def State.leafTimers (s : State) (i v : Nat) : State :=
  s.modDyn i (fun d => { d with
    movingUs := if v = 2 then (if d.movingSeen then d.movingUs + s.tBenchUs else d.movingUs)
                else if v = 4 then d.movingUs else 0
    movingSeen := v == 2
    obstructedSince := if v = 4 then some (d.obstructedSince.getD s.bench.freezeUs) else none
    obstructedTold := v == 4 && d.obstructedTold })

/-- A leaf's declaration ends: a supervision failure at the first image with a value, others after two fresh reports of
CLOSED under CLOSE or a permitted isolation (R98, R99, R114). -/
def State.leafRecover (s : State) (i v : Nat) (isoAllowed : Bool) : State :=
  let c := (s.dyn i).leafCause
  let s1 := if c = 5 || c = 6 then s.modDyn i (fun d => { d with leafCause := 0 }) else s
  if (s1.dyn i).leafCause = 0 then s1
  else
    let s2 := s1.modDyn i (fun d => d.countGood (d.demand == some 0 && v == 0))
    if (v == 5 && isoAllowed) || 2 ≤ (s2.dyn i).good then s2.modDyn i (fun d => { d with leafCause := 0, good := 0 })
    else s2

/-- A leaf that reports is declared FAILED where a rule says so: by its controller, an isolation that is not permitted,
its move limit, a close that has not ended (R99, R102). -/
def State.leafDeclare (s : State) (i v : Nat) (isoAllowed : Bool) (limit : Nat) : State :=
  if (s.dyn i).leafCause ≠ 0 then s
  else if v = 6 then s.modDyn i (fun d => { d with leafCause := 6 })
  else if v = 5 && !isoAllowed then s.leafFails i 4
  else
    let s1 := s.checkMoving i
    if (s1.dyn i).leafCause ≠ 0 then s1
    else
      match (s.dyn i).closeSince with
      | some t =>
        if (v = 2 || v = 3 || v = 4) && (s.dyn i).committed = some 0 && t + s.time10ms limit < s.bench.freezeUs
          && !s1.kindInFlight .doorClose i then s1.leafFails i 3 else s1
      | none => s1

/-- The state a leaf has after its declarations: FAILED over its value, and isolation by the value ISOLATED_CLOSED
(R98, R102). -/
def State.leafState (s : State) (i v : Nat) : State :=
  let state := if (s.dyn i).leafCause ≠ 0 then 6 else v
  let s1 := s.setValue i state
  let s2 := if state = 5 || state = 6 then s1.neverOpen i else s1
  let iso := state == 5
  if iso != (s2.dyn i).isolated then
    (s2.modDyn i (fun d => { d with isolated := iso })).event 0x7030 .cl .info i (if iso then 1 else 0)
  else s2

/-- The state of a leaf (R98 to R102, R114). -/
def State.leafStep (s : State) (i : Nat) : State :=
  match s.part i with
  | .leaf _ _ isoAllowed limit =>
    let d := s.dyn i
    let s1 :=
      if d.substituted then (if d.leafCause = 0 || d.leafCause = 6 then s.leafFails i 5 else s)
      else (s.leafRecover i d.value isoAllowed).leafDeclare i d.value isoAllowed limit
    (s1.leafState i d.value).checkObstructed i
  | _ => s

/-! ### Berth windows (R103) -/

/-- The confirmation of a berth window at a freeze, whether or not its phase E is evaluated: it runs while every freeze
shows TRAIN_STOPPED with the section OCCUPIED, nothing substituted, and keeps the duration it started with (R103, R155). -/
def State.berthWatch (s : State) (i : Nat) : State :=
  match s.part i with
  | .berth edge _ sec =>
    let d := s.dyn i
    let stopped := d.value == 2 || d.value == 3
    if !d.substituted && stopped && s.image sec == 1 && !s.holdsSubst sec then
      let confirm := match s.part edge with
        | .edge _ _ _ _ _ _ _ c => s.time10ms c
        | _ => 0
      let since := d.berthSince.getD s.bench.freezeUs
      let last := if d.berthSince.isSome then d.confirmUs else confirm
      s.modDyn i (fun d => { d with berthSince := some since, confirmUs := last })
    else s.modDyn i (fun d => { d with berthSince := none })
  | _ => s

/-- What the freeze of an element means for the timers that run over freezes (R99, R101, R103, R129). -/
def State.watchFreeze (s : State) (i : Nat) : State :=
  match s.part i with
  | .leaf .. => s.leafTimers i (if (s.dyn i).substituted then 6 else (s.dyn i).value)
  | .berth .. => s.berthWatch i
  | _ => s

/-- The state of a berth window: STOP_CONFIRMED once its confirmation has lasted CONFIRM_TIME; a reported STOP_CONFIRMED
is TRAIN_STOPPED (R103). -/
def State.berthStep (s : State) (i : Nat) : State :=
  match s.part i with
  | .berth .. =>
    let d := s.dyn i
    match d.berthSince with
    | some t => s.setValue i (if t + d.confirmUs ≤ s.bench.freezeUs then 3 else 2)
    | none => s.setValue i (if d.value = 3 then 2 else d.value)
  | _ => s

/-! ### Edges (R104) -/

/-- The state of an edge; the instant it leaves DOORS_SECURE is kept for R111. -/
def State.edgeStep (s : State) (g : Nat) : State :=
  let leaves := (s.part g).leaves.map s.image
  let d := s.dyn g
  let state := if leaves.contains 6 then 2 else if d.openDemand || leaves.any (fun v => !leafSecure v) then 1 else 0
  let s1 := if d.value = 0 && state ≠ 0 then s.modDyn g (fun d => { d with leftSecureUs := s.evalUs }) else s
  s1.setValue g state

/-! ### Train doors closed and the edge conditions of routes (R111 to R113) -/

/-- Whether the train-door-closed value of an edge is valid (R111). -/
def State.tdcValid (s : State) (g : Nat) : Bool :=
  let d := s.dyn g
  d.reported.isSome && !d.dropped && !d.segment && !d.badValue

/-- Whether it is closed: reported closed in a value sampled after the edge last left DOORS_SECURE (R111). -/
def State.tdcClosed (s : State) (g : Nat) : Bool :=
  let d := s.dyn g
  d.reported == some 1 && d.leftSecureUs < d.renewedUs

/-- The reason for which an edge is not DOORS_SECURE, with its leaf (R112, R113). -/
def State.edgeInsecure (s : State) (g : Nat) : Option (Nat × Nat) :=
  let d := s.dyn g
  if d.image = 0 && !d.openDemand then none
  else
    let leaves := (s.part g).leaves
    let first (p : Nat → Bool) : Option Nat := leaves.find? (fun l => p (s.image l))
    let bad := (first (fun v => !leafSecure v)).getD (leaves.headD g)
    match (first (· == 6)).or (first (· == 4)) with
    | some l => some (0x0186, l)
    | none => if d.image = 2 || d.openDemand then some (0x0186, bad) else some (0x0185, bad)

/-- The edge conditions that a route fails, as reason and parameter (R112). -/
def State.edgeReasons (s : State) (r : Route) : List (Nat × Nat) :=
  let dep := s.departureEdge r
  let edges := sortAsc ((dep.toList ++ s.edgesOf r).foldl (fun l g => addNew g l) [])
  edges.filterMap s.edgeInsecure ++
    (match dep with
     | some g =>
       if !s.tdcValid g then [(0x0188, (s.part g).tdcNode)]
       else if !s.tdcClosed g then [(0x0187, (s.part g).tdcNode)] else []
     | none => [])

/-! ### Opening (R105 to R107) -/

/-- Route states in which a route through an edge prevents opening (R105). -/
def RouteState.bars : RouteState → Bool
  | .setting | .locked | .proven | .clear | .cancelling => true
  | _ => false

/-- The leaves that a DOOR_OPEN commands: CLOSED_LOCKED and not excluded (R106). -/
def State.leavesToOpen (s : State) (g mask : Nat) : List Nat :=
  (s.part g).leaves.filter (fun l => s.image l == 0 &&
    (match s.part l with
     | .leaf _ pos .. => !mask.testBit pos
     | _ => false))

/-- The conditions of R105 that fail, with the reasons of R113, in their order. -/
def State.openReasons (s : State) (g mask : Nat) : List (Nat × Nat) :=
  let berths := (s.part g).berths
  let sig := (s.part g).departure
  let through := (List.range s.eng.routes.length).find? (fun n => (s.rdyn n).state.bars &&
    ((s.fullRoute n).map (fun r => (s.edgesOf r).contains g)).getD false)
  (if (s.dyn g).openDemand then [(0x0184, g)] else [])
    ++ (if berths.all (fun w => s.image w == 0) then [(0x0181, g)]
        else match berths.find? (fun w => s.image w != 0 && s.image w != 3) with
          | some w => [(0x0180, w)]
          | none => [])
    ++ (match through with
        | some n => [(0x0182, n)]
        | none => [])
    ++ (if s.showsStop sig && (s.dyn sig).demand == some 0 && !s.kindInFlight .signalClear sig then []
        else [(0x0183, sig)])
    ++ (if (s.part g).leaves.any (s.kindInFlight .doorClose) then [(0x0189, g)] else [])
    ++ (if (s.leavesToOpen g mask).isEmpty then [(0x018A, g)] else [])

/-- A DOOR_OPEN granted: OPEN demands, transactions and the open demand (R104, R106, R107, R117). -/
def State.openDoors (s : State) (g mask : Nat) : State :=
  let ls := s.leavesToOpen g mask
  let open1 (s : State) (l : Nat) : State :=
    let limit := match s.part l with
      | .leaf _ _ _ m => s.time10ms m
      | _ => 0
    ((s.demandOf l 3).startTxn .doorOpen l 3 limit).modDyn l (fun d => { d with health := { d.health with
      active := true, spoiled := false, openUs := none, openTaken := none, closeUs := none, obstructed := 0,
      wasObstructed := false } })
  (ls.foldl open1 s).modDyn g (fun d => { d with
    openDemand := true, opening := true, reachedOpen := 0,
    leftSecureUs := if d.value = 0 then s.evalUs else d.leftSecureUs })

/-- The open transactions of an edge reported once all have ended (R107). -/
def State.checkOpening (s : State) (g : Nat) : State :=
  let d := s.dyn g
  if d.opening && !(s.part g).leaves.any (s.kindInFlight .doorOpen) then
    (s.modDyn g (fun d => { d with opening := false })).doorNote g 1 d.reachedOpen 0xFFFF
  else s

/-! ### Closing (R108 to R110, R115) -/

/-- A DOOR_CLOSE transaction for a leaf that is not secure, unless one is in flight (R109). -/
def State.closeLeaf (s : State) (l : Nat) : State :=
  let s1 := s.demandOf l 0
  match s.part l with
  | .leaf _ _ _ m =>
    if leafSecure (s.image l) || s.kindInFlight .doorClose l then
      { s1 with eng := { s1.eng with txns := s1.eng.txns.map (fun t =>
        if t.element == l && t.kind == .doorOpen then { t with ended := true } else t) } }
    else s1.startTxn .doorClose l 0 (s.time10ms m)
  | _ => s1

/-- A close of an edge: the open demand ends, every leaf is demanded CLOSE, open transactions are SUPERSEDED and a close
is committed for every leaf that is not secure (R109). -/
def State.closeEdge (s : State) (g : Nat) : State :=
  (s.part g).leaves.foldl State.closeLeaf (s.modDyn g (fun d => { d with openDemand := false }))

/-- The condition of an automatic close that holds first, with its element (R108). -/
def State.autoCause (s : State) (g : Nat) : Option (Nat × Nat) :=
  let berths := (s.part g).berths
  match berths.find? (fun w => s.image w != 0 && s.image w != 3) with
  | some w => some (1, w)
  | none =>
    if berths.all (fun w => s.image w == 0) then some (2, 0xFFFFFFFF)
    else if s.showsStop (s.part g).departure then none else some (3, (s.part g).departure)

/-- The automatic close of an edge with an active open demand (R108). -/
def State.autoClose (s : State) (g : Nat) : State :=
  if (s.dyn g).openDemand then
    match s.autoCause g with
    | some c => ((s.event 0x7020 .cl .info g c.1 c.2).doorNote g 2 0 (c.2 % 65536)).closeEdge g
    | none => s
  else s

/-- The outcome of a DOOR_CLOSE, once there is one (R110). -/
def State.closeOutcome (s : State) (g : Nat) : Option (Status × Nat) :=
  let bad := (s.part g).leaves.filter (fun l => !leafSecure (s.image l))
  match bad with
  | [] => some (.ok, 0)
  | l :: _ => if bad.all (fun l => s.image l == 6 || (s.dyn l).obstructedTold) then some (.timeout, l) else none

/-! ### DOOR_HEALTH (R120) -/

/-- The 32-byte health record of a leaf (R120). -/
def State.healthRecord (s : State) (l pos : Nat) : List Byte :=
  let d := s.dyn l
  let h := d.health
  let base := 200 ≤ h.opens.length && 200 ≤ h.closes.length && h.obstLearned
  le 2 l ++ [BitVec.ofNat 8 pos,
      BitVec.ofNat 8 (bit base 0 + bit h.openDrift 1 + bit h.closeDrift 2 + bit h.obstRising 3 + bit d.isolated 4)]
    ++ le 4 (saturate 32 h.cycles) ++ le 4 (saturate 32 h.obstructions) ++ le 2 (saturate 16 h.openBase)
    ++ le 2 (saturate 16 (h.openMean / 256)) ++ le 2 (saturate 16 h.closeBase)
    ++ le 2 (saturate 16 (h.closeMean / 256)) ++ le 2 (saturate 16 h.obstBase)
    ++ le 2 (saturate 16 (h.obstMean / 256)) ++ le 4 h.lastS ++ [0, 0, 0, 0]

/-- DOOR_HEALTH, decided by the management core (R120, R339). -/
def State.decideDoorHealth (s : State) (q : Req) : State :=
  let g := q.p0
  let leaves := (s.part g).leaves
  let first := q.p1 % 256
  let count := q.p1 / 256
  let ok := s.typeOf g == 4 && 1 ≤ count && count ≤ 48 && first + count ≤ leaves.length
  s.mgCommand q 0x0303 (s.judge q 0x0303 false (s.power.state == .run || s.power.state == .stop) none false ok)
    (fun s => s.answer 0x0303 q .ok 0 0
      ((List.range' first count).flatMap (fun p => s.healthRecord (leaves.getD p 0) p)))

/-! ### Rows of the table -/

/-- OBSTRUCTION_60S (R101). -/
def execObstruction60s (element : Nat) (s : State) : Host.Outcome State Fault Refusal :=
  .next (s.timed (fun s => s.checkObstructed element)).settle

/-- MOVE_LIMIT_EXPIRY (R99). -/
def execMoveLimitExpiry (element : Nat) (s : State) : Host.Outcome State Fault Refusal :=
  .next (s.timed (fun s => (s.checkMoving element).tellFaults)).settle

/-- BERTH_CONFIRMATION (R103). -/
def execBerthConfirmation (element : Nat) (s : State) : Host.Outcome State Fault Refusal :=
  .next (s.timed (fun s => s.berthStep element)).settle

/-- DOOR_HEALTH (R120). -/
def execDoorHealth (r : Req) (s : State) : Host.Outcome State Fault Refusal := .next (s.decideDoorHealth r).settle

end Sys2Proof.Machine
end

