-- ==== Sys2Proof/Machine/Routes.lean ====
section
/-! DEFINITION. Route requests and who loses, route supervision, points, signals, field transactions, the pending queue
and the auxiliary commands (R63 to R94, R335 to R338, R445), with their rows. -/

namespace Sys2Proof.Machine

/-! ### Reason codes (R76, R113) -/

/-- Whether a reason is one that passes by itself (status PENDING). -/
def waits (reason : Nat) : Bool :=
  [0x0110, 0x0111, 0x0112, 0x0113, 0x0114, 0x0180, 0x0185, 0x0187].contains reason

/-- Of the failed checks, the first that refuses, else the first that waits (R70). -/
def firstReason (l : List (Nat × Nat)) : Option (Nat × Nat) := (l.find? (fun x => !waits x.1)).or l.head?

/-- Whether a request that arrived earlier waits for slots (R86). -/
def State.slotBlocked (s : State) (arrival : Nat) : Bool :=
  s.eng.queue.any (fun p => p.reason == 0x0110 && p.arrival < arrival)
    || s.eng.routes.any (fun d => d.state == .proven && d.reason == 0x0110 && d.arrival < arrival)

/-- The slot check of R86 for `k` NORMAL slots; a request behind an earlier slot wait misses all of its slots. -/
def State.slotReasons (s : State) (arrival k : Nat) : List (Nat × Nat) :=
  if k = 0 then []
  else if s.slotBlocked arrival then [(0x0110, k)]
  else if 0 < s.slotsMissing k then [(0x0110, s.slotsMissing k)] else []

/-! ### The checks of R69 -/

/-- The sections of a call-on route that are exempt from the section check (R69). -/
def State.exempt (s : State) (r : Route) : List Nat :=
  if r.kind = 3 && r.topGroup ≠ 0
    then ((s.sections r.path).filter (fun x => x.tag == r.topGroup)).map RouteEntry.element else []

/-- The sections of path and overlap that a route must find CLEAR. -/
def State.checkedSections (s : State) (r : Route) : List Nat :=
  ((s.sections (r.path ++ r.overlap)).map RouteEntry.element).filter (fun i => !(s.exempt r).contains i)

/-- A section that is not CLEAR, as its reason. -/
def State.sectionReason (s : State) (i : Nat) : List (Nat × Nat) :=
  if s.holdsSubst i then [(0x012A, i)]
  else if s.image i = 0 then []
  else if s.image i = 3 then [(0x0123, i)] else [(0x0122, i)]

/-- Whether a route took its locks in this phase E (R71). -/
def State.lockedNow (s : State) (n : Nat) : Bool := !(s.rdyn n).toldState.isSet && (s.rdyn n).state.isSet

/-- The lock conflicts of R60 for a route. -/
def State.lockReasons (s : State) (r : Route) : List (Nat × Nat) :=
  (s.sections r.path).filterMap (fun x =>
    let d := s.dyn x.element
    (d.pathLock.or (smallest d.overlapLocks)).map (fun n => (0x0120, n)))
  ++ (s.sections r.overlap).filterMap (fun x => (s.dyn x.element).pathLock.map (fun n => (0x0120, n)))
  ++ (s.points (r.path ++ r.overlap)).filterMap (fun x =>
    let d := s.dyn x.element
    if d.position = x.state then none else (smallest d.holders).map (fun n => (0x0120, n)))
  ++ (s.points r.flank).filterMap (fun x =>
    let d := s.dyn x.element
    if d.position = x.state then none
    else (smallest d.holders).map (fun n => if s.lockedNow n then (0x0120, n) else (0x0121, x.element)))

/-- The point ends of a route that must move. -/
def State.moves (s : State) (r : Route) : List RouteEntry :=
  (s.points r.entries).filter (fun x => s.image x.element != x.state)

/-- The point ends of a route that a grant commands: those that must move, and with each the coupled end (R77). -/
def State.throws (s : State) (r : Route) : List RouteEntry :=
  let mv := (s.moves r).map RouteEntry.element
  (s.points r.entries).filter (fun x => mv.contains x.element ||
    (match s.part x.element with
     | .point (some c) .. => mv.contains c
     | _ => false))

/-- The reasons of one point end of a route (R69, R76, R89, R94). -/
def State.pointReasons (s : State) (x : RouteEntry) : List (Nat × Nat) :=
  let i := x.element
  let d := s.dyn i
  if s.image i = x.state then
    (if s.eng.txns.any (fun t => t.element == i && !t.ended && t.value != x.state) then [(0x0111, i)] else [])
  else if s.holdsSubst i then [(0x012A, i)]
  else if s.image i = 3 then [(0x0124, i)]
  else
    (match smallest d.holders with
     | some n => [(0x0120, n)]
     | none => [])
    ++ (if d.held then [(0x0125, i)] else [])
    ++ (match s.part i with
        | .point _ _ _ _ sec _ => s.sectionReason sec
        | _ => [])
    ++ (if s.inFlight i then [(0x0111, i)] else [])

/-- The flank signals of a route that are not at STOP. -/
def State.flankReasons (s : State) (r : Route) : List (Nat × Nat) :=
  (s.signals r.flank).filterMap (fun x =>
    if s.holdsSubst x.element then some (0x012A, x.element)
    else if s.showsStop x.element then none else some (0x0121, x.element))

/-- The route's own condition and the edge conditions of R112. -/
def State.conditionReasons (s : State) (r : Route) : List (Nat × Nat) :=
  (match r.condition with
   | some c => if s.listTrue (s.termList c) then [] else [(0x0126, c)]
   | none => []) ++ s.edgeReasons r

/-- Every check of R69 that a route fails, in its order. -/
def State.routeReasons (s : State) (r : Route) (arrival : Nat) : List (Nat × Nat) :=
  (s.checkedSections r).flatMap s.sectionReason
    ++ s.lockReasons r
    ++ (s.points r.entries).flatMap s.pointReasons
    ++ s.flankReasons r
    ++ (if s.image r.entry = 2 then [(0x0127, r.entry)] else [])
    ++ (match smallest (s.dyn r.entry).stopLocks with
        | some n => [(0x0120, n)]
        | none => [])
    ++ s.conditionReasons r
    ++ ((r.entries.map RouteEntry.element).filter s.holdsSubst).map (fun i => (0x012A, i))
    ++ (if s.routesSet < 1024 then [] else [(0x0112, 1024)])
    ++ s.slotReasons arrival (s.throws r).length

/-! ### Moving points (R77, R79) -/

/-- A point end commanded to a position. -/
def State.throwPoint (s : State) (i pos : Nat) : State :=
  let limit := s.throwLimit i
  ((s.demandOf i pos).startTxn .pointThrow i pos limit).modDyn i (fun d => { d with throwLimitUs := limit })

/-! ### Route transitions (R66) -/

/-- The last PENDING or refusal reason after a new one; none leaves it (R337). -/
def latest (last reason : Nat) : Nat := if reason = 0 then last else reason

/-- A route with a wait or refusal reason. -/
def State.routeReason (s : State) (n reason param : Nat) : State :=
  s.modRoute n (fun d => { d with reason := reason, param := param, lastReason := latest d.lastReason reason })

/-- The nodes that serve a route's elements. -/
def State.nodesOf (s : State) (r : Route) : List Nat :=
  r.entries.foldl (fun l x => match s.elem x.element with
    | some e => if e.node = 0 then l else addNew e.node l
    | none => l) []

/-- Entry into LOCKED (T3, T5): the nodes serving the route are polled in the next phase O (R133). -/
def State.enterLocked (s : State) (n : Nat) (r : Route) : State :=
  let s1 := s.modRoute n (fun d => { d with
    state := .locked, lockedUs := s.bench.freezeUs, reason := 0x0113, lastReason := 0x0113
    param := ((r.entries.head?).map RouteEntry.element).getD 0 })
  (s.nodesOf r).foldl (fun s k => s.modNode k (fun d => { d with wantPoll := true })) s1

/-- A route to FREE with every lock released (T4, T6, T8, T14, T16, T17). -/
def State.freeRoute (s : State) (n reason param : Nat) : State :=
  (s.dropLocks n).modRoute n (fun d => { d with
    state := .free, clearWanted := false, clearUs := none, released := 0, seen := [], approachWait := false,
    approachEnd := none, overlapEnd := none, emergencyEnd := none, emergencyFailed := false, reason := reason,
    lastReason := latest d.lastReason reason, param := param })

/-- A route that passes the checks of R69 (T2, T3). -/
def State.grantRoute (s : State) (n : Nat) (r : Route) : State :=
  let mv := s.throws r
  let s1 := s.takeLocks n r
  if mv.isEmpty then s1.enterLocked n r
  else (mv.foldl (fun s x => s.throwPoint x.element x.state) s1).modRoute n (fun d => { d with
    state := .setting, reason := 0, param := 0 })

/-- The route's own clear command that has not been committed taken back (T17). -/
def State.withdrawClear (s : State) (n : Nat) (r : Route) : State :=
  if !(s.rdyn n).clearWanted then s
  else
    let s1 := s.demandOf r.entry 0
    { s1 with eng := { s1.eng with txns := s1.eng.txns.filter (fun t =>
      !(t.element == r.entry && t.kind == .signalClear && t.commitUs.isNone)) } }

/-- The first section of a route's path, and the last. -/
def State.firstSection (s : State) (r : Route) : Option Nat := (s.sections r.path).head?.map RouteEntry.element
def State.lastSection (s : State) (r : Route) : Option Nat := (s.sections r.path).getLast?.map RouteEntry.element

/-- Whether a section is OCCUPIED by more than substitution (R66, R138). -/
def State.occupied (s : State) (i : Nat) : Bool := s.image i == 1 && !s.holdsSubst i

/-- Whether the first path section of a route is OCCUPIED (T11, T13). -/
def State.entered (s : State) (r : Route) : Bool := ((s.firstSection r).map s.occupied).getD false

/-- Entry into CANCELLING with the approach release of R73 (T10, T12). -/
def State.enterCancelling (s : State) (n : Nat) (r : Route) (reason param : Nat) : State :=
  let s1 := s.commandStop r.entry
  let wait := match s.part r.entry with
    | .signal _ _ _ (some a) _ => s.typeOf a == 1 && s.image a == 0
    | _ => false
  s1.modRoute n (fun d => { d with
    state := .cancelling, approachWait := wait
    approachEnd := if wait then none else some (s.bench.freezeUs + s.timeS r.approachRelease)
    reason := reason, lastReason := latest d.lastReason reason, param := param })

/-- Entry into OCCUPIED (T11, T13). -/
def State.enterOccupied (s : State) (n : Nat) (r : Route) : State :=
  (s.commandStop r.entry).modRoute n (fun d => { d with
    state := .occupied, released := 0, seen := [], approachWait := false, approachEnd := none, overlapEnd := none,
    emergencyEnd := none, emergencyFailed := false, reason := 0, param := 0 })

/-! ### Loss (R66, R112) -/

/-- Whether a point end of a route in SETTING may still be away from its position: its throw is in flight. -/
def State.throwing (s : State) (x : RouteEntry) : Bool :=
  s.eng.txns.any (fun t => t.element == x.element && t.kind == .pointThrow && !t.ended && t.value == x.state)

/-- The point ends of a route that are not where it needs them. -/
def State.pointLosses (s : State) (r : Route) (setting : Bool) : List (Nat × Nat) :=
  (s.points r.entries).filterMap (fun x =>
    if s.image x.element = x.state then none
    else if s.holdsSubst x.element then some (0x012A, x.element)
    else if setting && s.throwing x then none
    else if setting && (s.dyn x.element).lost then some (0x0128, x.element)
    else some (0x0124, x.element))

/-- The losses of a route (R66), each as the reason that R69 gives for it; an exempt section is never a loss (R69). -/
def State.losses (s : State) (n : Nat) (r : Route) : List (Nat × Nat) :=
  (s.checkedSections r).flatMap s.sectionReason
    ++ s.pointLosses r ((s.rdyn n).state == .setting)
    ++ s.flankReasons r
    ++ s.conditionReasons r
    ++ ((r.entries.map RouteEntry.element).filter (fun i => s.holdsSubst i && !(s.exempt r).contains i)).map
      (fun i => (0x012A, i))

/-! ### Proof (R72, R136) -/

/-- Whether an element of a LOCKED route has reported its required state since the route entered LOCKED. -/
def State.proves (s : State) (n : Nat) (r : Route) (x : RouteEntry) : Bool :=
  let d := s.dyn x.element
  ((s.exempt r).contains x.element || s.image x.element == x.state
    || (s.typeOf x.element == 3 && s.showsStop x.element))
  && (s.rdyn n).lockedUs + 1000 < d.imageFreshUs

/-- The first element of a route that has not proven itself. -/
def State.unproven (s : State) (n : Nat) (r : Route) : Option Nat :=
  (r.entries.find? (fun x => !s.proves n r x)).map RouteEntry.element

/-- The proof limit of R72 in µs: the largest receive time-out of the nodes serving the route; none without nodes. -/
def State.proofLimitUs (s : State) (r : Route) : Option Nat :=
  match s.nodesOf r with
  | [] => none
  | l => some (l.foldl (fun m k => Nat.max m (((s.nodeDyn k).map NodeDyn.timeout).getD 0)) 0 * 100)

/-! ### The clear command (R83, R89) -/

/-- The clear command of a PROVEN route, when the signal and a slot are free. -/
def State.tryClear (s : State) (n : Nat) (r : Route) : State :=
  let d := s.rdyn n
  if d.state ≠ .proven || d.clearWanted || d.emergencyEnd.isSome then s
  else if s.image r.entry = 2 || !(s.dyn r.entry).stopLocks.isEmpty || s.inFlight r.entry
    then s.routeReason n 0x0114 r.entry
  else match s.slotReasons d.arrival 1 with
    | x :: _ => s.routeReason n x.1 x.2
    | [] => ((s.demandOf r.entry (0x10 + r.aspect)).startTxn .signalClear r.entry (0x10 + r.aspect) 2000000).modRoute n
        (fun d => { d with clearWanted := true, reason := 0x0114, lastReason := 0x0114, param := r.entry })

/-! ### Supervision (R64 step 2) -/

/-- SETTING (T5, T6). -/
def State.stepSetting (s : State) (n : Nat) (r : Route) : State :=
  match s.losses n r with
  | x :: _ => s.freeRoute n x.1 x.2
  | [] => if (s.moves r).isEmpty then s.enterLocked n r else s

/-- The proof limit of a LOCKED route (T8). -/
def State.proofExpiry (s : State) (n : Nat) (r : Route) : State :=
  match (s.rdyn n).state == .locked, s.proofLimitUs r, s.unproven n r with
  | true, some limit, some i =>
    if (s.rdyn n).lockedUs + limit < s.bench.freezeUs then s.freeRoute n 0x0129 i else s
  | _, _, _ => s

/-- LOCKED (T7, T8); the clear command of a route that becomes PROVEN follows in `clearProven`. -/
def State.stepLocked (s : State) (n : Nat) (r : Route) : State :=
  match s.losses n r with
  | x :: _ => s.freeRoute n x.1 x.2
  | [] =>
    match s.unproven n r with
    | none => s.modRoute n (fun d => { d with state := .proven, reason := 0, param := 0 })
    | some i => (s.routeReason n 0x0113 i).proofExpiry n r

/-- PROVEN (T9, T10, T17). -/
def State.stepProven (s : State) (n : Nat) (r : Route) : State :=
  let loss := (s.losses n r).head?
  match (s.rdyn n).clearUs, loss with
  | none, some x => (s.withdrawClear n r).freeRoute n x.1 x.2
  | none, none => s
  | some t, loss =>
    if s.showsAspect r.entry r.aspect && (s.dyn r.entry).committed = some (0x10 + r.aspect) then
      s.modRoute n (fun d => { d with state := .clear, reason := 0, param := 0 })
    else match loss with
      | some x => s.enterCancelling n r 0x012F x.2
      | none => if t + 2000000 ≤ s.bench.freezeUs then s.enterCancelling n r 0x0127 r.entry else s

/-- CLEAR (T11, T12). DESIGN CHOICE, log entry 95: where the loss is a false CONDITION list or an edge condition, the
'element' of LOST_LOCK (R76) is the parameter that R69 or R112 gives for it, the list or the TDC node. -/
def State.stepClear (s : State) (n : Nat) (r : Route) : State :=
  if s.entered r then s.enterOccupied n r
  else match s.losses n r with
    | x :: _ => s.enterCancelling n r 0x012F x.2
    | [] => s

/-- The end of the approach release (R73, T14). DESIGN CHOICE, log entry 95: a signal that the module has declared FAILED
does not count as reporting STOP here, whatever its raw report; the route stays in CANCELLING. -/
def State.approachRelease (s : State) (n : Nat) (r : Route) : State :=
  let d := s.rdyn n
  if d.state ≠ .cancelling then s
  else
    let clear := match s.part r.entry with
      | .signal _ _ _ (some a) _ => s.image a == 0
      | _ => false
    if d.approachWait && clear then (if s.showsStop r.entry then s.freeRoute n 0 0 else s)
    else if d.approachWait then s.modRoute n (fun d => { d with
      approachWait := false, approachEnd := some (s.bench.freezeUs + s.timeS r.approachRelease) })
    else match d.approachEnd with
      | some t => if t ≤ s.bench.freezeUs && s.showsStop r.entry then s.freeRoute n 0 0 else s
      | none => s

/-- CANCELLING (T13, T14). -/
def State.stepCancelling (s : State) (n : Nat) (r : Route) : State :=
  if s.entered r then s.enterOccupied n r else s.approachRelease n r

/-- Whether release group `g`, followed by group `next`, is released in this image (R74). -/
def State.groupDone (s : State) (n : Nat) (r : Route) (g next : Nat) : Bool :=
  let secs (k : Nat) : List Nat := ((s.sections r.path).filter (fun x => x.tag == k)).map RouteEntry.element
  (secs g).all (fun i => (s.rdyn n).seen.contains i && s.image i == 0) && (secs next).any s.occupied

/-- The release groups, each with its successor, in order; the highest is not among them. DESIGN CHOICE, log entry 95:
where the group numbers have a gap, the next group that exists stands for group g + 1 (R74). -/
def Route.groupPairs (r : Route) : List (Nat × Nat) := r.groups.zip (r.groups.drop 1)

/-- The sectional release of one group when it is the next one (R74, T15). -/
def State.releaseNext (s : State) (n : Nat) (r : Route) (p : (Nat × Nat) × Nat) : State :=
  if (s.rdyn n).released = p.2 && s.groupDone n r p.1.1 p.1.2 then
    (s.releaseGroup n r p.1.1).modRoute n (fun d => { d with released := p.2 + 1, state := .releasing })
  else s

/-- The end of the overlap release (R75, T16). -/
def State.overlapRelease (s : State) (n : Nat) (r : Route) : State :=
  match (s.rdyn n).overlapEnd with
  | some t =>
    if t ≤ s.bench.freezeUs && (s.sections r.overlap).all (fun x => s.image x.element == 0) then s.freeRoute n 0 0 else s
  | none => s

/-- OCCUPIED and RELEASING (T15, T16, R74, R75). -/
def State.stepOccupied (s : State) (n : Nat) (r : Route) : State :=
  let now := ((s.sections r.path).map RouteEntry.element).filter s.occupied
  let s1 := s.modRoute n (fun d => { d with
    seen := now.foldl (fun l i => addNew i l) d.seen
    overlapEnd := if d.overlapEnd.isNone && ((s.lastSection r).map s.occupied).getD false
      then some (s.bench.freezeUs + s.timeS r.overlapRelease) else d.overlapEnd })
  ((withIndex r.groupPairs).foldl (fun s p => s.releaseNext n r p) s1).overlapRelease n r

/-- The end of an emergency route release (R91). -/
def State.emergencyRelease (s : State) (n : Nat) (r : Route) : State :=
  let d := s.rdyn n
  match d.emergencyEnd with
  | some t =>
    let failed := d.emergencyFailed && s.image r.entry == 2
    let s1 := s.modRoute n (fun d => { d with emergencyFailed := failed })
    if t ≤ s.bench.freezeUs && (s.showsStop r.entry || failed) then s1.freeRoute n 0 0 else s1
  | none => s

/-- One route under supervision. The image that brings it into OCCUPIED counts for R74 and R75 too. -/
def State.superviseRoute (s : State) (n : Nat) : State :=
  match s.fullRoute n with
  | none => s
  | some r =>
    let s1 := match (s.rdyn n).state with
      | .setting => s.stepSetting n r
      | .locked => s.stepLocked n r
      | .proven => s.stepProven n r
      | .clear => s.stepClear n r
      | .cancelling => s.stepCancelling n r
      | .occupied | .releasing => s.stepOccupied n r
      | .free | .requested => s
    let s2 := match (s.rdyn n).state, (s1.rdyn n).state with
      | .clear, .occupied | .cancelling, .occupied => s1.stepOccupied n r
      | _, _ => s1
    s2.emergencyRelease n r

/-- A route number inserted before those whose requests arrived later. -/
def State.insertByArrival (s : State) (n : Nat) : List Nat → List Nat
  | [] => [n]
  | m :: l => if (s.rdyn n).arrival < (s.rdyn m).arrival then n :: m :: l else m :: s.insertByArrival n l

/-- The clear commands of the PROVEN routes, which take their slots in the arrival order of the requests (R83, R86). -/
def State.clearProven (s : State) : State :=
  (((List.range s.eng.routes.length).filter (fun n => (s.rdyn n).state == .proven)).foldl
    (fun l n => s.insertByArrival n l) []).foldl (fun s n => match s.fullRoute n with
      | some r => s.tryClear n r
      | none => s) s

/-- Every route in SETTING to CANCELLING in ascending route number (R64 step 2), then the clear commands of those that
are PROVEN. -/
def State.superviseRoutes (s : State) : State :=
  (((List.range s.eng.routes.length).filter (fun n => (s.rdyn n).state.isSet)).foldl State.superviseRoute s).clearProven

/-! ### Field transactions in step 1 (R87, R89) -/

/-- Whether the image shows the outcome of a transaction. -/
def State.txnDone (s : State) (t : Txn) : Bool :=
  match t.kind with
  | .pointThrow => s.image t.element == t.value
  | .signalClear => s.showsAspect t.element (t.value - 0x10)
  | .signalStop => s.showsStop t.element
  | .doorOpen => s.image t.element == 3
  | .doorClose => s.image t.element == 0
  | .sectionReset => s.image t.element != 3

/-- What the engine does at a DONE transaction (R80, R107). -/
def State.afterDone (s : State) (t : Txn) (commit : Nat) : State :=
  match t.kind with
  | .pointThrow => s.learnThrow t.element ((s.bench.freezeUs - commit) / 1000)
  | .doorOpen => s.modDyn (s.part t.element).edgeOf (fun d => { d with reachedOpen := d.reachedOpen + 1 })
  | _ => s

/-- What the engine does at a TIMEOUT (R77, R99); a leaf that its controller or its substitute makes FAILED is declared
under cause 2 all the same. -/
def State.afterTimeout (s : State) (t : Txn) : State :=
  match t.kind with
  | .pointThrow =>
    (s.modDyn t.element (fun d => { d with lost := true, good := 0, goodUs := s.evalUs })).event 0x6030 .cl .f1
  | .doorOpen | .doorClose =>
    if [0, 5, 6].contains (s.dyn t.element).leafCause then s.leafFails t.element 2 else s
  | _ => s

/-- The limits of closes move on with each freeze that shows their leaf OBSTRUCTED (R109, R129). -/
def State.suspendCloses (s : State) : State :=
  { s with eng := { s.eng with txns := s.eng.txns.map (fun (t : Txn) =>
    if t.kind == .doorClose && !t.ended && t.commitUs.isSome && s.image t.element == 4 then
      { t with limitUs := t.limitUs + s.tBenchUs } else t) } }

/-- One transaction against the image: DONE, TIMEOUT or in flight. -/
def State.txnStep (s : State) (k : Nat) : State :=
  match s.eng.txns[k]? with
  | none => s
  | some t =>
    match t.ended, t.commitUs with
    | false, some c =>
      let s1 := { s with eng := { s.eng with txns := s.eng.txns.set k { t with ended := true } } }
      if s.txnDone t then s1.afterDone t c
      else if c + t.limitUs ≤ s.bench.freezeUs then s1.afterTimeout t
      else s
    | _, _ => s

/-- The transactions of an element, or all. -/
def State.txnSteps (s : State) (which : Txn → Bool) : State :=
  ((withIndex s.eng.txns).filter (fun p => which p.1)).foldl (fun s p => s.txnStep p.2) s

/-! ### Points and signals in step 1 (R77, R78, R84) -/

/-- A point end: LOST until it reports its demand in two consecutive fresh values; F1 when it leaves its required
position while held. -/
def State.pointStep (s : State) (i : Nat) : State :=
  let d := s.dyn i
  let home := !d.substituted && d.demand.getD d.position == d.value
  let s1 := if d.lost || d.leftPos then
      let s2 := s.modDyn i (fun d => d.countGood home)
      if 2 ≤ (s2.dyn i).good then s2.modDyn i (fun d => { d with lost := false, leftPos := false, good := 0 }) else s2
    else s
  let d1 := s1.dyn i
  if d1.lost then s1.setValue i 3
  else if !d1.holders.isEmpty && !d1.substituted && !d1.leftPos && d1.value ≠ d1.position
      && !s1.kindInFlight .pointThrow i then
    s1.modDyn i (fun d => { d with leftPos := true, good := 0, goodUs := s.evalUs })
  else s1

/-- Whether a report of a signal confirms a committed demand (R83, R84). -/
def confirms (e : Element) (demand v : Nat) : Bool :=
  if demand = 0 then v == 0 || v == 0x10 else isAspect e v (demand - 0x10)

/-- The cases of R84, from the report and the committed demand. -/
def State.signalFails (s : State) (e : Element) (d : ElemDyn) : Bool :=
  let v := d.value
  let late := d.commitUs + 2000000 ≤ s.bench.freezeUs
  let proving := match e.part with
    | .signal _ _ p .. => p
    | _ => false
  v == 2 || (d.lamp && proving) ||
    (match d.committed with
     | some c =>
       (!(confirms e 0 v) && !(confirms e c v)
         && !(!d.confirmed && !late && (d.previous.map (fun p => confirms e p v)).getD false))
       || (!d.confirmed && !(confirms e c v) && late)
     | none => false)

/-- A signal (R84). -/
def State.signalStep (s : State) (i : Nat) : State :=
  match s.elem i with
  | none => s
  | some e =>
    let d := s.dyn i
    if d.substituted then s.demandOf i 0
    else
      let s1 := if !d.confirmed && ((d.committed.map (fun c => confirms e c d.value)).getD false)
        then s.modDyn i (fun d => { d with confirmed := true }) else s
      let d1 := s1.dyn i
      let s2 :=
        if d1.failed then
          let s3 := s1.modDyn i (fun d => d.countGood (d.demand == some 0 && confirms e 0 d.value && !d.lamp))
          if 2 ≤ (s3.dyn i).good then s3.modDyn i (fun d => { d with failed := false, good := 0 }) else s3
        else if s1.signalFails e d1 then
          s1.modDyn i (fun d => { d with failed := true, good := 0, goodUs := s.evalUs })
        else s1
      if (s2.dyn i).failed then (s2.setValue i 2).demandOf i 0 else s2

/-- Step 1 of R64: transactions, points, signals, leaves, berth windows and edges, in this order (R104). -/
def State.fieldStep (s : State) : State :=
  let s1 := s.txnSteps (fun _ => true)
  let s2 := (s.ofType 2).foldl State.pointStep s1
  let s3 := (s.ofType 3).foldl State.signalStep s2
  let s4 := (s.ofType 5).foldl State.leafStep s3
  let s5 := (s.ofType 6).foldl State.berthStep s4
  let s6 := (s.ofType 4).foldl State.edgeStep s5
  (s.ofType 4).foldl State.checkOpening s6

/-! ### Cancels and signal stops (R64 step 3, R73, R85, R336) -/

/-- A cancel of a route: SETTING to CLEAR leave their state, the others stay. -/
def State.cancelRoute (s : State) (n reason param : Nat) : State :=
  match s.fullRoute n with
  | none => s
  | some r =>
    match (s.rdyn n).state with
    | .setting | .locked => s.freeRoute n reason param
    | .proven => if (s.rdyn n).clearUs.isSome then s.enterCancelling n r reason param
        else (s.withdrawClear n r).freeRoute n reason param
    | .clear => s.enterCancelling n r reason param
    | _ => s

/-- A request of the pending queue withdrawn. -/
def State.withdraw (s : State) (n tag arrival : Nat) : State :=
  if (s.rdyn n).state = .requested && s.eng.queue.any (fun (p : Pend) => p.want == Want.route n && p.arrival < arrival) then
    let mine := s.eng.queue.filter (fun (p : Pend) => p.want == Want.route n && p.arrival < arrival)
    let s1 := { s with eng := { s.eng with queue := s.eng.queue.filter (fun (p : Pend) =>
      !(p.want == Want.route n && p.arrival < arrival)) } }
    let s2 := mine.foldl (fun s p => match p.req with
      | some q => s.complete p.opcode q .refused 0x012B tag
      | none => s) s1
    s2.modRoute n (fun d => { d with state := .free, reason := 0x012B, lastReason := 0x012B, param := tag })
  else s

/-- The ROUTE_SETs of this image that arrived before a cancel and name its route (R336). -/
def State.strikeRequests (s : State) (n tag arrival : Nat) : State :=
  let hit (x : Queued) : Bool := x.opcode == 0x0101 && x.req.p0 == n && x.req.arrival < arrival
  let s1 := { s with bench := { s.bench with requests := s.bench.requests.filter (fun x => !hit x) } }
  (s.bench.requests.filter hit).foldl (fun s x => (s.heard x.req).complete 0x0101 x.req .refused 0x012B tag) s1

/-- ROUTE_CANCEL (R336), decided by the cluster. -/
def State.decideRouteCancel (s : State) (q : Req) : State :=
  let n := q.p0
  s.clCommand q 0x0102 (s.judge q 0x0102 false s.inRun none false (n < s.routes.length)) (fun s =>
    let before := (s.rdyn n).state.code
    let tag := q.slot
    let s1 := ((s.withdraw n tag q.arrival).strikeRequests n tag q.arrival).cancelRoute n 0x012B tag
    s1.complete 0x0102 q .ok before (s1.rdyn n).state.code)

/-- The routes whose entry signal is `i` and that a signal stop cancels (R85). -/
def State.routesFrom (s : State) (i : Nat) : List Nat :=
  (List.range s.routes.length).filter (fun n => ((s.route n).map Route.entry) == some i && (s.rdyn n).state.isSet)

/-- SIGNAL_STOP (R85), decided by the cluster. -/
def State.decideSignalStop (s : State) (q : Req) : State :=
  let i := q.p0
  s.clCommand q 0x0104 (s.judge q 0x0104 false s.inRun none false (s.typeOf i == 3)) (fun s =>
    let s1 := (s.routesFrom i).foldl (fun s n => s.cancelRoute n 0x012B q.slot) s
    let s2 := s1.commandStop i
    { s2 with eng := { s2.eng with waiting := s2.eng.waiting ++ [.signalStop q i none] } })

/-- DOOR_CLOSE (R109), decided by the cluster. -/
def State.decideDoorClose (s : State) (q : Req) : State :=
  let g := q.p0
  s.clCommand q 0x0302 (s.judge q 0x0302 false s.inRun none false (s.typeOf g == 4)) (fun s =>
    let s1 := s.closeEdge g
    { s1 with eng := { s1.eng with waiting := s1.eng.waiting ++ [.doorClose q g] } })

/-- The outcome of a SIGNAL_STOP: the signal reports STOP, or 2,000 ms have passed since the phase O that committed the
command, whatever demand a force holds (R85, R335). -/
def State.stopOutcome (s : State) (i : Nat) (commitUs : Option Nat) : Option (Status × Nat) :=
  if s.reportsStop i then some (.ok, 0)
  else if commitUs.any (fun t => t + 2000000 ≤ s.bench.freezeUs) then some (.timeout, i)
  else none

/-- The waiting commands of the engine that have their outcome complete (R85, R110). -/
def State.finishWaiting (s : State) : State :=
  s.eng.waiting.foldl (fun s w =>
    let finish (op : Nat) (q : Req) (o : Option (Status × Nat)) : State :=
      match o with
      | some (st, p) =>
        ({ s with eng := { s.eng with waiting := s.eng.waiting.filter (· != w) } }).complete op q st p
      | none => s
    match w with
    | .signalStop q i t => finish 0x0104 q (s.stopOutcome i t)
    | .doorClose q g => finish 0x0302 q (s.closeOutcome g)
    | _ => s) s

/-! ### The pending queue (R68 to R71, R79, R106, R445) -/

/-- Entries counted against the 512 of R68. -/
def State.counted (s : State) : Nat :=
  (s.eng.queue.filter (fun p => match p.want with
    | .reset _ => false
    | _ => true)).length

/-- Whether an entry of the queue is this one. -/
def Pend.same (p x : Pend) : Bool := p.arrival == x.arrival && p.want == x.want

/-- A REQUEST notification (R353, kind 0x0108). -/
def State.requestNote (s : State) (p : Pend) (st : Status) (reason param : Nat) : State :=
  let say (target command : Nat) : State :=
    s.noteCluster 0x0108 (le 2 target ++ [BitVec.ofNat 8 command, BitVec.ofNat 8 st.code] ++ le 2 reason ++ [0, 0]
      ++ le 4 param ++ le 4 p.arrival)
  match p.want with
  | .point i .. => say i 1
  | .doors g _ => say g 2
  | _ => s

/-- The outcome of a request given to its party: by the completion of its command, else by a notification (R71). A
route's completion keeps this phase O from notifying the same change. -/
def State.tell (s : State) (p : Pend) (st : Status) (reason param : Nat) : State :=
  match p.req with
  | some q =>
    let s1 := s.complete p.opcode q st reason param
    match p.want with
    | .route n => s1.modRoute n (fun d => { d with quiet := true })
    | _ => s1
  | none => s.requestNote p st reason param

/-- What the query records keep of a reason (R337). -/
def State.keepReason (s : State) (p : Pend) (reason param : Nat) : State :=
  match p.want with
  | .route n => s.routeReason n reason param
  | .point i .. => s.modDyn i (fun d => { d with lastReason := reason })
  | .doors g _ => s.modDyn g (fun d => { d with lastReason := reason })
  | .reset _ => s

/-- An entry taken out of the queue. -/
def State.dropPend (s : State) (p : Pend) : State :=
  { s with eng := { s.eng with queue := s.eng.queue.filter (fun x => !x.same p) } }

/-- A request refused (T4). -/
def State.refusePend (s : State) (p : Pend) (reason param : Nat) : State :=
  let s1 := (s.dropPend p).keepReason p reason param
  let s2 := match p.want with
    | .route n => s1.modRoute n (fun d => { d with state := .free })
    | _ => s1
  s2.tell p .refused reason param

/-- A request granted; a route's reason is that of the state it entered. -/
def State.grantPend (s : State) (p : Pend) (st : Status) : State :=
  let s1 := s.dropPend p
  (match p.want with
   | .route _ => s1
   | _ => s1.keepReason p 0 0).tell p st 0 0

/-- A request that waits; a later change of the wait reason of a completed POINT_MOVE or DOOR_OPEN is notified. -/
def State.waitPend (s : State) (p : Pend) (reason param : Nat) : State :=
  let s1 := s.keepReason p reason param
  let s2 := { s1 with eng := { s1.eng with queue := s1.eng.queue.map (fun x =>
    if x.same p then { x with reason := reason, param := param, req := none,
                              want := (match x.want with
                                | .point i pos _ => .point i pos false
                                | w => w) } else x) } }
  if p.req.isSome || p.reason ≠ reason then s2.tell p .pending reason param else s2

/-- Both ends of a point, the named one first. -/
def State.pointEnds (s : State) (i : Nat) : List Nat :=
  match s.part i with
  | .point (some c) .. => [i, c]
  | _ => [i]

/-- The reasons against a point move (R79, R89, R94). DESIGN CHOICE, log entry 95: a move that meets an earlier route
request of the same phase E is refused as any move of a locked end is, with POINT_LOCKED and that route (R71, R76). -/
def State.moveReasons (s : State) (ends : List Nat) (overrides : Bool) (arrival : Nat) : List (Nat × Nat) :=
  ends.filterMap (fun i => (smallest (s.dyn i).holders).map (fun n => (0x0140, n)))
    ++ (if overrides then [] else ends.filterMap (fun i => match s.part i with
        | .point _ _ _ _ sec _ => if s.image sec = 0 then none else some (0x0141, sec)
        | _ => none))
    ++ ends.filterMap (fun i => if (s.dyn i).held then some (0x0125, i) else none)
    ++ ends.filterMap (fun i => if s.inFlight i then some (0x0111, i) else none)
    ++ s.slotReasons arrival ends.length

/-- One entry of the queue evaluated (R64 step 5). -/
def State.evalPend (s : State) (p : Pend) : State :=
  let decide' (l : List (Nat × Nat)) (grant : State) : State :=
    match firstReason l with
    | none => grant
    | some x => if waits x.1 then s.waitPend p x.1 x.2 else s.refusePend p x.1 x.2
  match p.want with
  | .reset i =>
    if s.image i ≠ 3 || s.inFlight i then s.dropPend p
    else decide' (s.slotReasons p.arrival 1)
      (((s.demandOf i 0).startTxn .sectionReset i 0 10000000).dropPend p)
  | w =>
    if p.enteredUs + 30000000 ≤ s.bench.freezeUs then s.refusePend p 0x012C p.reason
    else match w with
      | .route n =>
        match s.fullRoute n with
        | some r => decide' (s.routeReasons r p.arrival) ((s.grantRoute n r).grantPend p .accepted)
        | none => s.dropPend p
      | .point i pos ov =>
        let ends := s.pointEnds i
        if ends.all (fun e => s.image e == pos) then s.grantPend p (if p.req.isSome then .ok else .accepted)
        else decide' (s.moveReasons ends ov p.arrival)
          ((ends.foldl (fun s e => s.throwPoint e pos) s).grantPend p .accepted)
      | .doors g mask =>
        decide' (s.openReasons g mask ++ s.slotReasons p.arrival (s.leavesToOpen g mask).length)
          ((s.openDoors g mask).grantPend p .accepted)
      | .reset _ => s

/-- A new request into the queue, evaluated at once (R68); BUSY at 512 entries. -/
def State.enqueue (s : State) (opcode : Nat) (q : Req) (w : Want) : State :=
  if 512 ≤ s.counted then s.complete opcode q .busy
  else
    let p : Pend := { want := w, arrival := q.arrival, enteredUs := s.bench.freezeUs, opcode := opcode, req := some q }
    let s1 := { s with eng := { s.eng with queue := s.eng.queue ++ [p] } }
    let s2 := match w with
      | .route n => s1.modRoute n (fun d => { d with state := .requested, arrival := q.arrival })
      | _ => s1
    s2.evalPend p

/-- ROUTE_SET (R68), decided by the cluster. -/
def State.decideRouteSet (s : State) (q : Req) : State :=
  let n := q.p0
  s.clCommand q 0x0101 (s.judge q 0x0101 false s.inRun none false (n < s.routes.length)) (fun s =>
    let d := s.rdyn n
    let told (r : Nat) : State := s.modRoute n (fun d => { d with lastReason := r })
    if d.state = .requested then (told 0x012E).complete 0x0101 q .refused 0x012E n
    else if d.state.isSet then (told 0x012D).complete 0x0101 q .refused 0x012D d.state.code
    else s.enqueue 0x0101 q (.route n))

/-- POINT_MOVE (R79), decided by the cluster. -/
def State.decidePointMove (s : State) (q : Req) : State :=
  s.clCommand q 0x0103 (s.judge q 0x0103 false s.inRun none false (s.typeOf q.p0 == 2 && q.p1 ≤ 1)) (fun s =>
    s.enqueue 0x0103 q (.point q.p0 q.p1 false))

/-- DOOR_OPEN (R106), decided by the cluster. -/
def State.decideDoorOpen (s : State) (q : Req) : State :=
  let g := q.p0
  let mask := ofLe (q.payload.take 6)
  let ok := s.typeOf g == 4 && q.payload.length == 8 && zeros q.payload 6 2 && mask < 2 ^ (s.part g).leaves.length
  s.clCommand q 0x0301 (s.judge q 0x0301 false s.inRun none false ok) (fun s => s.enqueue 0x0301 q (.doors g mask))

/-! ### Auxiliary commands (R90 to R92, R338) -/

/-- The refusals of R91 for a kind and target, AUX_NOT_ALLOWED before AUX_TARGET_STATE. -/
def State.auxRefusal (s : State) (kind target : Nat) : Option (Nat × Nat) :=
  match kind with
  | 1 => if 3 ≤ (s.rdyn target).state.code then none else some (0x0163, (s.rdyn target).state.code)
  | 2 =>
    match s.part target with
    | .point _ _ _ _ _ allowed =>
      if !allowed then some (0x0164, target) else if (s.dyn target).holders.isEmpty then none else some (0x0163, 4)
    | _ => some (0x0164, target)
  | _ => if s.eng.heldAreas.contains target then none else some (0x0163, 0)

/-- P0 of the events of R90. -/
def auxWord (kind pos target : Nat) : Nat := kind % 256 + pos % 256 * 256 + target % 65536 * 65536

/-- Whether a kind, position and target are in range (R338). -/
def State.auxParams (s : State) (kind pos target : Nat) : Bool :=
  match kind with
  | 1 => pos == 0 && target < s.routes.length
  | 2 => pos ≤ 1 && s.typeOf target == 2
  | 3 => pos == 0 && target < 64
  | _ => false

/-- Open prepares (R90). -/
def State.openPrepares (s : State) : List Prepare := s.eng.prepares.filter (fun p => !p.expired)

/-- AUX_PREPARE (R90), decided by the cluster. -/
def State.decideAuxPrepare (s : State) (q : Req) : State :=
  let kind := q.p0 % 256
  let pos := q.p0 / 256 % 256
  let target := q.p1
  let ok := q.p0 < 65536 && s.auxParams kind pos target
  s.clCommand q 0x0201 (s.judge q 0x0201 false s.inRun none false ok) (fun s =>
    let busy := s.openPrepares.any (fun p => p.kind == kind && p.target == target) || 16 ≤ s.openPrepares.length
    match (s.auxRefusal kind target).or (if busy then some (0x0165, target) else none) with
    | some x => (s.event 0x6022 .cl .info (auxWord kind pos target) (x.1 + 65536) 0).complete 0x0201 q .refused x.1 x.2
    | none =>
      let ch := (Config.auxChallenge s.draws).toNat % 1000000
      let p : Prepare := { kind := kind, position := pos, target := target, challenge := ch, doneUs := none }
      let s1 := { s with
        draws := s.draws + 1
        eng := { s.eng with prepares := 
          s.eng.prepares.filter (fun (x : Prepare) => !(x.expired && x.kind == kind && x.target == target)) ++ [p] } }
      (s1.event 0x6020 .cl .info (auxWord kind pos target) ch).complete 0x0201 q .ok ch)

/-- The effect of a confirmed EMERGENCY_RELEASE (R91). -/
def State.emergency (s : State) (n : Nat) : State :=
  match s.fullRoute n with
  | none => s
  | some r =>
    let d := s.rdyn n
    let committed := d.clearUs.isSome
    let s1 := if d.state = .proven && !committed then s.withdrawClear n r else s
    (s1.commandStop r.entry).modRoute n (fun d => { d with
      emergencyEnd := some (s.bench.freezeUs + s.timeS r.approachRelease)
      emergencyFailed := s.image r.entry == 2
      clearWanted := d.clearWanted && committed
      state := if d.state = .clear || (d.state = .proven && committed) then .cancelling else d.state })

/-- The point ends of an area are held no more (R94), with event 0x6040. -/
def State.endHold (s : State) (area : Nat) : State :=
  let mine (i : Nat) : Bool := ((s.elem i).map (fun e => e.area == area)).getD false
  let s1 := (s.ofType 2).foldl (fun s i => if mine i then s.modDyn i (fun d => { d with held := false }) else s) s
  ({ s1 with eng := { s1.eng with heldAreas := s1.eng.heldAreas.filter (· != area) } }).event 0x6040 .cl .info area

/-- The effect of a confirmed RESTART_RELEASE (R91, R445). -/
def State.releaseArea (s : State) (area arrival : Nat) : State :=
  let s1 := s.endHold area
  let resets := (s.ofType 1).filter (fun i => s.image i == 3 &&
    (match s.elem i with
     | some e => e.area == area && (match e.part with
        | .track _ allowed _ => allowed
        | _ => false)
     | none => false))
  { s1 with eng := { s1.eng with queue := s1.eng.queue ++ resets.map (fun i =>
    { want := .reset i, arrival := arrival, enteredUs := s.bench.freezeUs, opcode := 0x0202, req := none }) } }

/-- The effect of a confirm on its target (R91, R92). -/
def State.auxExecute (s : State) (kind pos target : Nat) (q : Req) : State :=
  match kind with
  | 1 => s.emergency target
  | 2 => { s with eng := { s.eng with queue := s.eng.queue ++
      [{ want := .point target pos true, arrival := q.arrival, enteredUs := s.bench.freezeUs, opcode := 0x0103,
         req := none }] } }
  | _ => s.releaseArea target q.arrival

/-- A prepare taken out of the list. -/
def State.dropPrepare (s : State) (p : Prepare) : State :=
  { s with eng := { s.eng with prepares := s.eng.prepares.filter (· != p) } }

/-- AUX_CONFIRM (R90), decided by the cluster; a prepare whose 30 s have passed expires with event 0x6023 here too. -/
def State.decideAuxConfirm (s : State) (q : Req) : State :=
  let kind := u8 q.payload 0
  let pos := u8 q.payload 1
  let target := u16 q.payload 2
  let ch := u32 q.payload 4
  let op := u32 q.payload 8
  let ok := q.payload.length == 12 && s.auxParams kind pos target
  s.clCommand q 0x0202 (s.judge q 0x0202 false s.inRun none false ok) (fun s =>
    let refuse (s : State) (x : Nat × Nat) : State :=
      (s.event 0x6022 .cl .info (auxWord kind pos target) x.1 op).complete 0x0202 q .refused x.1 x.2
    match s.eng.prepares.find? (fun p => p.kind == kind && p.position == pos && p.target == target) with
    | none => refuse s (0x0160, kind)
    | some p =>
      let s1 := s.dropPrepare p
      let late := p.expired || p.doneUs.any (fun t => t + 30000000 < s.bench.freezeUs)
      let s2 := if late && !p.expired then s1.event 0x6023 .cl .info (auxWord kind pos target) else s1
      let no := if p.challenge ≠ ch then some (0x0161, kind) else if late then some (0x0162, kind)
        else s.auxRefusal kind target
      match no with
      | some x => refuse (if p.expired then s2 else s2.voidPrepare p x.1) x
      | none =>
        ((s1.event 0x6021 .cl .info (auxWord kind pos target) 0 op).auxExecute kind pos target q).complete 0x0202 q .ok)

/-- The expiry of prepares 30 s after the phase O that completed them (R90). -/
def State.expirePrepare (s : State) (p : Prepare) : State :=
  match p.expired, p.doneUs with
  | false, some t =>
    if t + 30000000 < s.bench.freezeUs then
      (({ s with eng := { s.eng with prepares := s.eng.prepares.map (fun x =>
        if x = p then { x with expired := true } else x) } }).event 0x6023 .cl .info
          (auxWord p.kind p.position p.target)).voidPrepare p 0x0162
    else s
  | _, _ => s

/-- `expirePrepare` for every prepare. -/
def State.expirePrepares (s : State) : State := s.eng.prepares.foldl State.expirePrepare s

/-- The end of the restart hold for all points (R94). -/
def State.holdExpiry (s : State) : State :=
  match s.eng.holdEnd with
  | some t =>
    if t ≤ s.bench.freezeUs then
      let s1 := { s with eng := { s.eng with
        holdEnd := none, heldAreas := [], elems := s.eng.elems.map (fun (d : ElemDyn) => { d with held := false }) } }
      s1.event 0x6040 .cl .info 0xFF
    else s
  | none => s

/-! ### Query records (R337) -/

/-- The route record (R337). -/
def State.routeRecord (s : State) (n : Nat) : List Byte :=
  let d := s.rdyn n
  let aux := s.openPrepares.any (fun p => p.kind == 1 && p.target == n)
  let left := match (d.approachEnd.or d.emergencyEnd).or d.overlapEnd with
    | some t => (t - s.opUs) / 1000000
    | none => 0
  le 2 n ++ [BitVec.ofNat 8 d.state.code, BitVec.ofNat 8 (bit (d.state == .requested) 0 + bit aux 1)]
    ++ le 2 d.lastReason ++ le 2 (saturate 16 left)

/-- STATE, DEMAND and FLAGS of an element record as the engine holds them now (R337). -/
def State.elementNow (s : State) (i : Nat) : Nat × Nat × Nat :=
  let d := s.dyn i
  let forced := (s.forceOn 1 i).isSome || (s.forceOn 2 i).isSome
  (d.image, (s.workingDemand i).getD 0xFF,
    bit d.substituted 0 + bit forced 1 + bit (d.faultNow != 0) 2 + bit d.locked 3 + bit d.held 4)

/-- The image that a freeze leaves for the element records outside RUN (R337). -/
def State.keepImage (s : State) : State :=
  { s with eng := { s.eng with elems := (withIndex s.eng.elems).map (fun (p : ElemDyn × Nat) =>
    { p.1 with kept := s.elementNow p.2 }) } }

/-- The element record: in RUN as the engine holds the element, else as the last frozen image held it (R337). -/
def State.elementRecord (s : State) (i : Nat) : List Byte :=
  let d := s.dyn i
  let subst := ((s.elem i).map Element.subst).getD 0xFF
  if d.frozen then
    let x := if s.inRun then s.elementNow i else d.kept
    le 2 i ++ [BitVec.ofNat 8 x.1, BitVec.ofNat 8 x.2.1, BitVec.ofNat 8 x.2.2, 0] ++ le 2 d.freezeAge
  else
    le 2 i ++ [BitVec.ofNat 8 (if subst = 0xFF then 0 else subst), 0xFF, BitVec.ofNat 8 (bit (subst != 0xFF) 0), 0]
      ++ le 2 0xFFFF

/-- A query over a table of `n` records (R335). -/
def State.query (s : State) (op : Nat) (q : Req) (n : Nat) (record : State → Nat → List Byte) : State :=
  let stateOk := s.power.state == .run || s.power.state == .stop
  let ok := q.p0 < n && 1 ≤ q.p1 && q.p1 ≤ 500
  s.clCommand q op (s.judge q op false stateOk none false ok) (fun s =>
    let k := Nat.min q.p1 (n - q.p0)
    s.complete op q .ok k 0 ((List.range' q.p0 k).flatMap (record s)))

/-- ROUTE_STATE (R337). -/
def State.decideRouteState (s : State) (q : Req) : State := s.query 0x0110 q s.routes.length State.routeRecord
/-- ELEMENT_STATE (R337). -/
def State.decideElementState (s : State) (q : Req) : State := s.query 0x0111 q s.elements.length State.elementRecord

/-! ### Rows of the table: mailbox commands (log entry 9) -/

/-- ROUTE_SET (R68). -/
def execRouteSet (r : Req) (s : State) : Host.Outcome State Fault Refusal := .next (s.decideRouteSet r).settle
/-- ROUTE_CANCEL (R336). -/
def execRouteCancel (r : Req) (s : State) : Host.Outcome State Fault Refusal := .next (s.decideRouteCancel r).settle
/-- POINT_MOVE (R79). -/
def execPointMove (r : Req) (s : State) : Host.Outcome State Fault Refusal := .next (s.decidePointMove r).settle
/-- SIGNAL_STOP (R85). -/
def execSignalStop (r : Req) (s : State) : Host.Outcome State Fault Refusal := .next (s.decideSignalStop r).settle
/-- ROUTE_STATE (R337). -/
def execRouteState (r : Req) (s : State) : Host.Outcome State Fault Refusal := .next (s.decideRouteState r).settle
/-- ELEMENT_STATE (R337). -/
def execElementState (r : Req) (s : State) : Host.Outcome State Fault Refusal := .next (s.decideElementState r).settle
/-- AUX_PREPARE (R90). -/
def execAuxPrepare (r : Req) (s : State) : Host.Outcome State Fault Refusal := .next (s.decideAuxPrepare r).settle
/-- AUX_CONFIRM (R90). -/
def execAuxConfirm (r : Req) (s : State) : Host.Outcome State Fault Refusal := .next (s.decideAuxConfirm r).settle
/-- DOOR_OPEN (R106). -/
def execDoorOpen (r : Req) (s : State) : Host.Outcome State Fault Refusal := .next (s.decideDoorOpen r).settle
/-- DOOR_CLOSE (R109). -/
def execDoorClose (r : Req) (s : State) : Host.Outcome State Fault Refusal := .next (s.decideDoorClose r).settle

/-! ### Rows of the table: timers (log entry 4) -/

/-- A route's check, when the route exists. -/
def State.forRoute (s : State) (n : Nat) (f : State → Nat → Route → State) : State :=
  match s.fullRoute n with
  | some r => f s n r
  | none => s

/-- THROW_TIMEOUT (R77). -/
def execThrowTimeout (element : Nat) (s : State) : Host.Outcome State Fault Refusal :=
  .next (s.timed (fun s =>
    ((s.txnSteps (fun t => t.element == element && t.kind == .pointThrow)).pointStep element).tellFaults)).settle
/-- PROOF_TIMEOUT (R72). -/
def execProofTimeout (route : Nat) (s : State) : Host.Outcome State Fault Refusal :=
  .next (s.timed (fun s => s.forRoute route State.proofExpiry)).settle
/-- SIGNAL_CONFIRM_TIMEOUT (R84). -/
def execSignalConfirmTimeout (element : Nat) (s : State) : Host.Outcome State Fault Refusal :=
  .next (s.timed (fun s => (s.signalStep element).tellFaults)).settle
/-- TRANSACTION_TIMEOUT (R89). -/
def execTransactionTimeout (element : Nat) (s : State) : Host.Outcome State Fault Refusal :=
  .next (s.timed (fun s => (s.txnSteps (fun t => t.element == element)).tellFaults)).settle
/-- PENDING_EXPIRED (R70). -/
def execPendingExpired (arrival : Nat) (s : State) : Host.Outcome State Fault Refusal :=
  .next (s.timed (fun s =>
    (s.eng.queue.filter (fun p => p.arrival == arrival && p.enteredUs + 30000000 ≤ s.bench.freezeUs)).foldl
      State.evalPend s)).settle
/-- AUX_PREPARE_EXPIRY (R90). -/
def execAuxPrepareExpiry (kind target : Nat) (s : State) : Host.Outcome State Fault Refusal :=
  .next (s.timed (fun s =>
    (s.eng.prepares.filter (fun p => p.kind == kind && p.target == target)).foldl State.expirePrepare s)).settle
/-- APPROACH_RELEASE_EXPIRY (R73). -/
def execApproachReleaseExpiry (route : Nat) (s : State) : Host.Outcome State Fault Refusal :=
  .next (s.timed (fun s => s.forRoute route State.approachRelease)).settle
/-- OVERLAP_RELEASE_EXPIRY (R75). -/
def execOverlapReleaseExpiry (route : Nat) (s : State) : Host.Outcome State Fault Refusal :=
  .next (s.timed (fun s => s.forRoute route State.overlapRelease)).settle
/-- EMERGENCY_RELEASE_EXPIRY (R91). -/
def execEmergencyReleaseExpiry (route : Nat) (s : State) : Host.Outcome State Fault Refusal :=
  .next (s.timed (fun s => s.forRoute route State.emergencyRelease)).settle
/-- RESTART_HOLD_END (R94). -/
def execRestartHoldEnd (s : State) : Host.Outcome State Fault Refusal := .next (s.timed State.holdExpiry).settle

end Sys2Proof.Machine
end

