-- ==== Sys2Proof/Machine/Restart.lean ====
section
/-! DEFINITION. A restart: the entry into RUN with everything it sets (R93, R94, R115, R121, R150, R252, R293, R298), and
the last condition of START before it (R258). -/

namespace Sys2Proof.Machine

/-- The receive time-out of a node until 200 intervals are recorded, in 0.1 ms (R44). -/
def State.firstTimeout (s : State) (n : Node) : Nat :=
  Nat.min (n.toMax * 10) (Nat.max (n.toMin * 10) (s.timeoutFactor * s.timeRef n.tRef * 10))

/-- What a restart leaves of an element (R77, R78, R84, R93, R94, R100, R302): no lock, a signal demanded STOP, a leaf
demanded CLOSE, a point end held. A leaf FAILED under causes 1 to 4 stays so. -/
def ElemDyn.restarted (d : ElemDyn) (t : Nat) : ElemDyn :=
  { d with
    demand := if t = 3 || t = 5 then some 0 else none
    lost := false, leftPos := false, failed := false, kindFault := false, good := 0
    held := t == 2
    channel := false, segment := false, dropped := false }

/-- What a restart leaves of a node (R137, R293, R298). -/
def NodeDyn.restarted (d : NodeDyn) (opUs timeout : Nat) : NodeDyn :=
  { d with
    lastRxUs := none, sinceUs := opUs, timeout := timeout, intervals := [], p999 := 0, measured := false, dropped := false,
    fresh := false,
    txAlive := 0, polls := [], lastAnswered := none, wantPoll := false, demandsChanged := false, restrictive := false }

/-- What a restart leaves of an input: SOURCE_FAULT ends when its source has passed its readback (R242). -/
def FieldInput.restarted (i : FieldInput) (sourceOk : Bool) : FieldInput :=
  if i.fault = 3 && sourceOk then { i with fault := 0, failRun := 0, passed := 0 } else i

/-- What a restart leaves of an output (R250, R252): no fault until it is declared again. -/
def FieldOutput.restarted (o : FieldOutput) : FieldOutput :=
  { o with fault := 0, partner := 0xFF, demandWentOff := false, causes := [], overloaded := false }

/-- The test-pulse source of an input in LOCAL_IO (R50). -/
def State.inputSource (s : State) (n : Nat) : Option Nat :=
  s.station.bind (fun st => (st.inputs[n]?).bind InputConfig.source)

/-- The field side at a restart. -/
def State.fieldRestart (s : State) : State :=
  let sources := s.field.sources.map (fun (x : FieldSource) => { x with overload := false })
  let ok (n : Nat) : Bool := match s.inputSource n with
    | some k => !(((sources[k]?).map FieldSource.fault).getD false)
    | none => true
  { s with field := { s.field with
    sources := sources
    inputs := (withIndex s.field.inputs).map (fun p => p.1.restarted (ok p.2))
    outputs := s.field.outputs.map FieldOutput.restarted
    groups := s.field.groups.map (fun (g : FieldGroup) => { g with switchFault := false })
    demands := 0, prior := none } }

/-- The commands that complete at the entry into RUN (R210, R340). -/
def State.startDone (s : State) (waiting : List Waiting) : State :=
  waiting.foldl (fun s w => match w with
    | .benchStart q => s.deliver { req := q, opcode := 0x0401, status := Status.ok.code, arrival := q.arrival }
    | .benchRestart q => s.deliver { req := q, opcode := 0x0403, status := Status.ok.code, arrival := q.arrival }
    | _ => s) s

/-- A restart (R93): the entry into RUN. The first freeze is due at once (R121). -/
def State.enterRun (s : State) : State :=
  let waiting := s.eng.waiting
  let s1 := (s.clearForces 2).fieldRestart
  let e := s1.eng.cleared
  let s2 := { s1 with
    power := { s1.power with state := .run, ledTest := false, wasSafe := false, testPassed := false, readyOff := false }
    epoch := s1.epoch + 1
    eng := { e with
      elems := (withIndex e.elems).map (fun (p : ElemDyn × Nat) => p.1.restarted (s1.typeOf p.2))
      holdEnd := some (s1.opUs + s1.tRestartUs)
      heldAreas := List.range 64 }
    bench := { s1.bench with
      cycle := 0, nextCycle := 0, first := true, nextFreezeUs := s1.opUs, freezeUs := s1.opUs, frozen := false,
        evaluated := false,
      housekept := true, requests := [], overran := none, discard := false, noCode := false, newForces := [],
        newLog := [], undo := none,
      completions := [],
      codes := [], stopping := false }
    net := { s1.net with
      accepted := []
      nodes := s1.net.nodes.map (fun (d : NodeDyn) =>
        d.restarted s1.opUs (((s1.node d.id).map s1.firstTimeout).getD 0)) }
    vote := { s1.vote with
      dwellMarkUs := none, slots := s1.vote.slots.map (fun (x : Slot) => { x with joinedCycle := none }) } }
  s2.startDone waiting

/-- Whether the field side has confirmed its configuration in three frames (R258); always so without a field side. -/
def State.fieldConfirmed (s : State) : Bool := s.unit.variant.groups == 0 || 3 ≤ s.field.crcGood

/-- The end of a START that ends in RUN, once the start-up test has passed and the field side has confirmed its
configuration (R258, R376). -/
def State.tryRun (s : State) : State :=
  if s.power.state == .start && s.power.testPassed && s.fieldConfirmed && s.ash.state == .ready then s.enterRun else s

end Sys2Proof.Machine
end

