-- ==== Sys2Proof/Machine/Cluster.lean ====
section
/-! DEFINITION. The voting cluster: accusations, self-tests, Core S, the two-out-of-two dwell, disagreements, lane faults
and SRAM errors (R158 to R183), with their rows. -/

namespace Sys2Proof.Machine

/-! ### Cores, slots and the repair record -/

/-- The repair record that decides; a fresh one where neither copy is readable (R403). -/
def State.repair (s : State) : Repair := s.test.repair.current.getD {}
/-- The repair record written (R370, R403). -/
def State.putRepair (s : State) (f : Repair → Repair) : State :=
  { s with test := { s.test with repair := s.test.repair.put (f s.repair) } }

/-- The state of a core. -/
def State.core (s : State) (c : Nat) : CoreState := s.vote.cores.getD c .absent
/-- The state of a core, set. -/
def State.setCore (s : State) (c : Nat) (x : CoreState) : State :=
  { s with vote := { s.vote with cores := upd s.vote.cores c (fun _ => x) } }
/-- A slot, changed. -/
def State.modSlot (s : State) (v : Nat) (f : Slot → Slot) : State :=
  { s with vote := { s.vote with slots := upd s.vote.slots v f } }
/-- The core of a slot. -/
def State.slotCore (s : State) (v : Nat) : Nat := ((s.vote.slots[v]?).map Slot.core).getD 0

/-- Whether Core S can take a slot (R171, R179). -/
def State.spareReady (s : State) : Bool := s.unit.variant.spare && s.core 3 == .reserve && s.vote.sigGood == 8

/-- Whether a core can serve in a slot (R176). -/
def State.coreHealthy (s : State) (c : Nat) : Bool :=
  match s.core c with
  | .failed | .unhealthy | .absent => false
  | .reserve => c != 3 || s.vote.sigGood == 8
  | .voting | .selfTest | .syncing => true

/-- Event with the cycle number in P0 (R182). -/
def State.voteEvent (s : State) (code : Nat) (sev : Severity) (p1 p2 : Nat) : State :=
  s.event code .cl sev s.bench.cycle p1 p2

/-- A core marked FAILED (R171): its slot vacant, the repair record written, event 0x1005. -/
def State.markFailed (s : State) (core cause : Nat) : State :=
  let s1 := (s.setCore core .failed).putRepair (fun r => { r with marks := r.marks.set core 1 })
  let s2 := { s1 with
    vote := { s1.vote with slots := s1.vote.slots.map (fun (x : Slot) =>
      if x.core = core then { x with active := false, vacant := true } else x) }
    test := { s1.test with ageBaseUs := none } }
  (s2.voteEvent 0x1005 .f0 core cause).voteNote 0x1005 s.bench.cycle core

/-- Core S made UNHEALTHY (R173, R179). -/
def State.markUnhealthy (s : State) : State :=
  let s1 := (s.setCore 3 .unhealthy).putRepair (fun r => { r with marks := r.marks.set 3 2 })
  { s1 with vote := { s1.vote with sigGood := 0 }, test := { s1.test with ageBaseUs := none } }

/-- A sync window for Core S becomes pending for a vacant slot (R171). -/
def State.substitute (s : State) (slot : Nat) : State :=
  if s.spareReady then
    let s1 := s.setCore 3 .syncing
    { s1 with vote := { s1.vote with joining := some (slot, 3), joinReady := false } }
  else s

/-- A permanent core fault (R171). -/
def State.permanent (s : State) (slot core cause : Nat) : State := (s.markFailed core cause).substitute slot

/-! ### The two-out-of-two dwell (R174) -/

/-- Whether two-out-of-two time counts. -/
def State.dwellCounts (s : State) : Bool :=
  s.power.state == .run && s.vote.slots.any Slot.vacant && s.vote.testing.isNone && s.vote.laneCheck.isNone
    && s.vote.joining.isNone

/-- The counted time in µs. -/
def State.dwellNow (s : State) : Nat :=
  s.vote.dwellUs + (match s.vote.dwellMarkUs with
    | some t => s.opUs - t
    | none => 0)

/-- The first vacant slot, 0xFF for none. -/
def State.vacantSlot (s : State) : Nat :=
  (((withIndex s.vote.slots).find? (fun p => p.1.vacant)).map Prod.snd).getD 0xFF

/-- The limit in µs. -/
def State.dwellLimitUs (s : State) : Nat := s.dwellLimitH * 3600000000

/-- A warning of the dwell: event 0x1011 and a VOTE notification with the minutes left (R174). -/
def State.dwellSay (s : State) (left : Nat) : State :=
  let minutes := (left + 59999999) / 60000000
  (s.voteEvent 0x1011 .f0 minutes s.vacantSlot).voteNote 0x1011 s.bench.cycle minutes

/-- The warning of 60 minutes, once; a raised limit that puts it ahead again makes it due anew (R174). -/
def State.dwellWarn60 (s : State) (left : Nat) : State :=
  if 3600000000 < left then { s with vote := { s.vote with warned60 := false } }
  else if s.vote.warned60 then s
  else ({ s with vote := { s.vote with warned60 := true } }).dwellSay left

/-- The warning of 10 minutes, once; a raised limit that puts it ahead again makes it due anew (R174). -/
def State.dwellWarn10 (s : State) (left : Nat) : State :=
  if 600000000 < left then { s with vote := { s.vote with warned10 := false } }
  else if s.vote.warned10 then s
  else ({ s with vote := { s.vote with warned10 := true } }).dwellSay left

/-- The warnings due 1 h and 10 min before expiry (R174), the minutes rounded up (DESIGN CHOICE, log entry 40). -/
def State.dwellWarn (s : State) : State :=
  let left := s.dwellLimitUs - s.dwellNow
  if !s.dwellCounts then s else (s.dwellWarn60 left).dwellWarn10 left

/-- The count started, paused or reset as the slots now stand; a warning that coincides with entry (R174). -/
def State.dwellSync (s : State) : State :=
  if s.vote.slots.all (fun x => !x.vacant) then
    { s with vote := { s.vote with
      dwellUs := 0, dwellMarkUs := none, dwellEntered := false, warned60 := false, warned10 := false } }
  else if s.dwellCounts then
    let s1 := if s.vote.dwellMarkUs.isNone then { s with vote := { s.vote with dwellMarkUs := some s.opUs } } else s
    if s1.vote.dwellEntered then s1
    else
      let s2 := { s1 with vote := { s1.vote with dwellEntered := true } }
      ((s2.voteEvent 0x1010 .f0 s.vacantSlot s.dwellLimitH).voteNote 0x1010 s.bench.cycle s.vacantSlot).dwellWarn
  else s.dwellPause

/-- Expiry (R174): event 0x1012, and the module leaves RUN after phase O of the cycle in progress. -/
def State.dwellExpire (s : State) : State :=
  if s.dwellCounts && s.dwellLimitUs ≤ s.dwellNow && !s.vote.dwellExpired then
    let m := s.dwellNow / 60000000
    let s1 := { s with vote := { s.vote with dwellExpired := true }, bench := { s.bench with stopping := true } }
    (s1.voteEvent 0x1012 .info s.vacantSlot m).voteNote 0x1012 s.bench.cycle s.vacantSlot
  else s

/-- The checks of every cycle (R174). -/
def State.dwellCheck (s : State) : State := s.dwellSync.dwellWarn.dwellExpire

/-! ### Accusation and targeted self-test (R166 to R173) -/

/-- Whether the cores execute and their comparison counts: neither comparator is trusted once they have differed
(R177). -/
def State.compares (s : State) : Bool :=
  s.power.state.powered && s.power.state ≠ .shutdownTest && !s.vote.lockstepBroken && !s.power.comparatorsBad

/-! ### The Hopper, the voter and the cores' stores (R158, R162 to R164, R172) -/

/-- What the voter releases of the active slots' writes: with three, the write on which two agree in address, data, byte
enables and attributes; with two, the write of both (R164). -/
def voted (active : Nat) (bus : List BusAccess) : Option BusAccess :=
  let w := bus.filter BusAccess.write
  if active = 3 then w.find? (fun a => 2 ≤ (w.filter (· == a)).length)
  else if active = 2 then w.find? (fun a => (w.filter (· == a)).length = 2)
  else none

/-- The bytes of a word that its byte enables select, written into a store of `size` bytes. -/
def storeWord (m : List Host.Cell) (size : Nat) (a : BusAccess) : List Host.Cell :=
  (List.range 4).foldl (fun m i =>
    if a.enables.getLsbD i && a.address + i < size then Memory.write m (a.address + i) (a.data.extractLsb' (8 * i) 8)
    else m) m

/-- Bytes of the cluster SRAM (R158). -/
def sramBytes : Nat := 16777216

/-- A value that the Hopper carries to every active slot (R162). -/
def State.carry (s : State) (w : Word) : State :=
  { s with vote := { s.vote with carried := (withIndex s.vote.carried).map (fun p =>
    if ((s.vote.slots[p.2]?).map Slot.active).getD false then w else p.1) } }

/-- The bus accesses of a comparison point: the released write lands in the cluster SRAM (R164), and a read is issued
once, with the address of the first active slot, its data sampled once for every slot (R162). -/
def State.busPoint (s : State) (bus : List BusAccess) : State :=
  match voted s.vote.activeSlots bus, bus.find? (fun a => !a.write) with
  | some a, _ => { s with vote := { s.vote with sram := storeWord s.vote.sram sramBytes a } }
  | none, some a => s.carry (word (ofLe (Memory.readBytes s.vote.sram a.address 4)))
  | none, none => s

/-- The store of a core as a firmware load leaves its instruction TCM: the first 64 KiB of the active firmware bank
(R172; what of the bank is loaded is log entry 93). -/
def State.firmwareTcm (s : State) : List Host.Cell :=
  let u := s.update.firmware
  let bank := (u.selector.current.getD {}).active
  Memory.writeBytes [] 0 ((if bank = 0 then u.bank0 else u.bank1).take 65536)

/-- A core's store, changed. -/
def State.modStore (s : State) (c : Nat) (f : CoreStore → CoreStore) : State :=
  { s with vote := { s.vote with stores := upd s.vote.stores c f } }

/-- The targeted self-test destroys the core's state (R168). -/
def State.destroyStore (s : State) (c : Nat) : State := s.modStore c (fun _ => {})

/-- The boot firmware writes every register and every TCM word of every core before the first comparison after a reset
(R163); the values are log entry 93. -/
def State.bootStores (s : State) : State :=
  { s with vote := { s.vote with stores := s.vote.stores.map (fun _ =>
    ({ itcm := s.firmwareTcm, written := true } : CoreStore)) } }

/-- A sync window copies register file, control registers, data TCM and program counter of the first active slot's core
into the joining core, and loads its instruction TCM from the active firmware bank (R172). -/
def State.copyCore (s : State) (core : Nat) : State :=
  let from' := (s.vote.slots.find? Slot.active).elim 0 Slot.core
  let x := s.vote.stores.getD from' {}
  s.modStore core (fun _ => { x with itcm := s.firmwareTcm, written := true })

/-- ACCUSE from both comparators (R166, R168, R173). -/
def State.accuse (s : State) (slot item : Nat) (bus : List BusAccess) : State :=
  match s.vote.slots[slot]? with
  | none => s
  | some v =>
    if !v.active || s.vote.activeSlots ≠ 3 || !s.compares then s
    else
      let core := v.core
      let s1 := (s.busPoint bus).modSlot slot (fun x => { x with active := false })
      let s2 := { s1 with vote := { s1.vote with
        accusations := s1.vote.accusations + 1, lastAccuse := s.bench.cycle } }
      let s3 := (s2.voteEvent 0x1001 .f0 (slot + core * 256) item).voteNote 0x1001 s.bench.cycle (slot + core * 256)
      let joined := s.inRun && v.joinedCycle.any (fun c => s.bench.cycle < c + 4)
      if joined then
        let s4 := s3.voteEvent 0x1007 .f0 slot core
        if core = 3 then (s4.markUnhealthy.modSlot slot (fun x => { x with vacant := true })).dwellSync
        else (s4.permanent slot core 3).dwellSync
      else
        let s4 := (s3.setCore core .selfTest).destroyStore core
        ({ s4 with vote := { s4.vote with testing := some slot } }).dwellSync

/-- The verdict of the targeted self-test (R168 to R171). -/
def State.selfTested (s : State) (block : Nat) : State :=
  match s.vote.testing with
  | none => s
  | some slot =>
    let core := s.slotCore slot
    let s1 := s.voteEvent 0x1002 .f0 (core + (if block = 0 then 0 else 256)) block
    if block = 0 then { s1 with vote := { s1.vote with testing := none, laneCheck := some slot } }
    else (({ s1 with vote := { s1.vote with testing := none } }).permanent slot core 1).dwellSync

/-- Transients of a core within 24 operating hours (R170). -/
def State.transientsOf (s : State) (core : Nat) : List Nat :=
  (s.vote.transients.getD core []).filter (fun t => s.opS < t + day)

/-- One transient counted against a core (R170): the second part says that it is the fourth within 24 h. -/
def State.countTransient (s : State) (core : Nat) : State × Bool :=
  let l := s.opS :: s.transientsOf core
  ({ s with vote := { s.vote with transients := upd s.vote.transients core (fun _ => l) } }, 4 ≤ l.length)

/-- A transient fault after a passed lane test: reintegration, or a permanent fault at the fourth (R169, R170). -/
def State.transientFault (s : State) (slot : Nat) : State :=
  let core := s.slotCore slot
  let r := ({ s with vote := { s.vote with laneCheck := none } }).countTransient core
  if r.2 then
    let first := ((r.1.transientsOf core).getLast?).getD 0
    ((r.1.voteEvent 0x1004 .f0 core (first / 3600)).permanent slot core 2).dwellSync
  else
    let s1 := r.1.setCore core .syncing
    { s1 with vote := { s1.vote with joining := some (slot, core), joinReady := false } }

/-- A Hopper lane fault (R178): SAFE, or LOCKOUT while lane 3 already serves a slot; the spare lane is selected at the
next start. -/
def State.laneFault (s : State) (lane : Nat) : State :=
  let slot := ((withIndex s.vote.lanes).find? (fun p => p.1 == lane)).map Prod.snd
  let spareServes := s.vote.lanes.contains 3
  let s1 := s.voteEvent 0x1023 (if spareServes then .f4 else .f3) lane (slot.getD 0xFF)
  let s2 := { s1 with vote := { s1.vote with laneCheck := none } }
  if spareServes then s2.enterLockout 0x1023 true
  else
    let s3 := match slot with
      | some v => s2.putRepair (fun r => { r with laneMap := r.laneMap.set v 3 })
      | none => s2
    s3.enterSafe 0x1023

/-- NO_MAJORITY or MISMATCH (R167, R176): SAFE, and every core in a slot is self-tested. -/
def State.disagreement (s : State) (code verdict : Nat) : State :=
  let slots := bitsOfSlots s.vote.slots
  let w := verdict + 0xF0 + (verdict + 0xF0) * 256 + slots * 65536
  let tested := (s.vote.slots.filter (fun x => !x.vacant)).map Slot.core
  let s1 := tested.foldl (fun s c => (s.setCore c .selfTest).destroyStore c) s
  ({ s1 with vote := { s1.vote with
    testing := none, laneCheck := none, joining := none, joinReady := false, cause := code,
      verdictWord := word w } }).enterSafe
    code false
where
  /-- Bit n for an active slot Vn. -/
  bitsOfSlots (l : List Slot) : Nat := ((withIndex l).map (fun p => bit p.1.active p.2)).sum

/-- Slots filled with healthy cores in order; those that remain stay vacant with their last core (R176). -/
def State.rebuildSlots (s : State) : State :=
  let healthy := (List.range 4).filter s.coreHealthy
  let slots := (withIndex s.vote.slots).map (fun (p : Slot × Nat) =>
    match healthy[p.2]? with
    | some c => { p.1 with core := c, active := true, vacant := false, joinedCycle := none }
    | none => { p.1 with active := false, vacant := true, joinedCycle := none })
  let used := healthy.take 3
  let cores := (withIndex s.vote.cores).map (fun (p : CoreState × Nat) =>
    if used.contains p.2 then CoreState.voting
    else match p.1 with
      | .voting | .selfTest | .syncing => CoreState.reserve
      | x => x)
  ({ s with vote := { s.vote with slots := slots, cores := cores } }).putRepair (fun r =>
    { r with slotMap := slots.map Slot.core })

/-- A transient fault of a core under R176: counted, and at the fourth the core is FAILED with cause 2 (R170). -/
def State.countOrMark (s : State) (c : Nat) : State :=
  let r := s.countTransient c
  if r.2 then (r.1.voteEvent 0x1004 .f0 c ((((r.1.transientsOf c).getLast?).getD 0) / 3600)).markFailed c 2
  else r.1

/-- A core whose self-test is over with nothing decided. -/
def State.voteAgain (s : State) (c : Nat) : State := if s.core c = .selfTest then s.setCore c .voting else s

/-- The end of the self-tests of R176. -/
def State.safeTested (s : State) (failed : List Nat) : State :=
  if s.vote.cause = 0 then s
  else
    let tested := (List.range 4).filter (fun c => s.core c == .selfTest)
    let bad := tested.filter failed.contains
    let bitmap := (bad.map (fun c => 2 ^ c)).sum
    let s1 := s.event s.vote.cause .cl .f3 s.bench.cycle s.vote.verdictWord.toNat bitmap
    let cause := s.vote.cause
    let s2 := { s1 with vote := { s1.vote with cause := 0 } }
    let s3 := if bad.isEmpty then
        tested.foldl State.countOrMark s2
      else bad.foldl (fun s c => s.markFailed c 4) s2
    if ((List.range 4).filter s3.coreHealthy).length < 2 then
      (tested.foldl State.voteAgain s3).enterLockout cause
    else s3.rebuildSlots

/-- The end of a sync window (R172). -/
def State.syncDone (s : State) (differ : Bool) : State :=
  if s.vote.joining.isNone || s.vote.joinReady || !s.inRun then s
  else if differ then s.disagreement 0x1021 3
  else
    let s1 := s.copyCore (s.vote.joining.elim 0 Prod.snd)
    { s1 with vote := { s1.vote with joinReady := true } }

/-- A core enters its slot at a cycle boundary (R169, R171). -/
def State.joinCore (s : State) (cycle : Nat) : State :=
  match s.vote.joining, s.vote.joinReady with
  | some (slot, core), true =>
    let old := s.slotCore slot
    let s1 := s.modSlot slot (fun x => { x with core := core, active := true, vacant := false, joinedCycle := some cycle })
    let s2 := { s1.setCore core .voting with
      vote := { (s1.setCore core .voting).vote with joining := none, joinReady := false } }
    if core = 3 && old ≠ 3 then
      let s3 := s2.putRepair (fun r => { r with slotMap := s2.vote.slots.map Slot.core })
      ((s3.event 0x1006 .cl .f0 cycle slot old).voteNote 0x1006 cycle slot).dwellSync
    else (s2.event 0x1003 .cl .f0 cycle core (s2.transientsOf core).length).dwellSync
  | _, _ => s

/-! ### Status record (R183) -/

/-- The code of a core state. -/
def CoreState.code : CoreState → Nat
  | .voting => 0
  | .selfTest => 1
  | .syncing => 2
  | .reserve => 3
  | .failed => 4
  | .unhealthy => 5
  | .absent => 6

/-- A map of three 2-bit codes. -/
def map3 (l : List Nat) : Nat := l.getD 0 0 % 4 + l.getD 1 0 % 4 * 4 + l.getD 2 0 % 4 * 16

/-- The vote record (R183). -/
def State.voteRecord (s : State) : List Byte :=
  let r := s.repair
  let coreCode (c : Nat) : Nat := if c = 3 && !s.unit.variant.spare then 6 else (s.core c).code
  [BitVec.ofNat 8 s.voteMode, BitVec.ofNat 8 (map3 (s.vote.slots.map Slot.core)), BitVec.ofNat 8 (map3 s.vote.lanes),
   BitVec.ofNat 8 (bit s.vote.lockstepBroken 0 + bit r.laneSoft 1 + bit r.laneFused 2 + bit r.coreFused 3
     + bit (s.vote.slots.any Slot.vacant) 4)]
    ++ (List.range 4).map (fun c => BitVec.ofNat 8 (coreCode c))
    ++ (List.range 4).map (fun c => BitVec.ofNat 8 (Nat.min 255 (s.transientsOf c).length))
    ++ le 4 (s.dwellNow / 1000000) ++ le 4 (s.dwellLimitH * 3600) ++ le 4 s.vote.lastAccuse ++ le 4 s.vote.accusations
    ++ [0, 0, 0, 0]

/-! ### Rows of the table -/

/-- CORE_ACCUSE (R166). -/
def execCoreAccuse (slot item : Nat) (bus : List BusAccess) (s : State) : Host.Outcome State Fault Refusal :=
  .next (s.accuse slot item bus).settle
/-- NO_MAJORITY (R167): in two-out-of-three. -/
def execNoMajority (bus : List BusAccess) (s : State) : Host.Outcome State Fault Refusal :=
  .next (if s.vote.activeSlots = 3 && s.compares then (s.busPoint bus).disagreement 0x1020 2 else s).settle
/-- MISMATCH (R167): in two-out-of-two. -/
def execMismatch (bus : List BusAccess) (s : State) : Host.Outcome State Fault Refusal :=
  .next (if s.vote.activeSlots = 2 && s.compares then (s.busPoint bus).disagreement 0x1021 3 else s).settle
/-- X and Y differ (R177): LOCKOUT, from LOCKOUT too, where the exit then needs both comparators as well. -/
def State.comparatorsDiffer (s : State) (x y : Byte) : State :=
  let s1 := (s.voteEvent 0x1022 .f4 x.toNat y.toNat).enterLockout 0x1022
  { s1 with power := { s1.power with comparatorsBad := true } }
/-- COMPARATORS_DIFFER (R177): two different verdict bytes. -/
def execComparatorsDiffer (x y : Byte) (s : State) : Host.Outcome State Fault Refusal :=
  .next (if s.compares && x != y then s.comparatorsDiffer x y else s).settle
/-- TARGETED_SELF_TEST_DONE (R168): block 0 is PASS. -/
def execTargetedSelfTestDone (block : Nat) (s : State) : Host.Outcome State Fault Refusal :=
  .next (s.selfTested block).settle
/-- SYNC_WINDOW_DONE (R172). -/
def execSyncWindowDone (streamsDiffer : Bool) (s : State) : Host.Outcome State Fault Refusal :=
  .next (s.syncDone streamsDiffer).settle
/-- SAFE_SELF_TEST_DONE (R176): the cores whose test failed. -/
def execSafeSelfTestDone (failed : List Nat) (s : State) : Host.Outcome State Fault Refusal :=
  .next (s.safeTested failed).settle
/-- CORE_S_SIGNATURE (R179): the end of a loop of Core S in reserve, or a bench cycle without a signature. -/
def execCoreSSignature (seen : Option Word) (s : State) : Host.Outcome State Fault Refusal :=
  .next (if !s.unit.variant.spare || s.core 3 ≠ .reserve then s
    else if seen = some s.vote.sigExpected then
      { s with vote := { s.vote with sigGood := Nat.min 8 (s.vote.sigGood + 1) } }
    else (s.voteEvent 0x1030 .f0 s.vote.sigExpected.toNat (seen.getD 0).toNat).markUnhealthy).settle
/-- SRAM_CORRECTABLE_ERROR (R180). -/
def execSramCorrectableError (address syndrome : Word) (s : State) : Host.Outcome State Fault Refusal :=
  .next (if s.power.state.powered then s.voteEvent 0x1031 .f0 address.toNat syndrome.toNat else s).settle
/-- SRAM_UNCORRECTABLE_ERROR (R180). -/
def execSramUncorrectableError (address syndrome : Word) (s : State) : Host.Outcome State Fault Refusal :=
  .next (if s.power.state.powered then
    (s.voteEvent 0x1032 .f3 address.toNat syndrome.toNat).enterSafe 0x1032 else s).settle
/-- DWELL_WARNING (R174). -/
def execDwellWarning (s : State) : Host.Outcome State Fault Refusal := .next s.dwellWarn.settle
/-- DWELL_EXPIRY (R174). -/
def execDwellExpiry (s : State) : Host.Outcome State Fault Refusal := .next s.dwellExpire.settle
/-- DWELL_COUNT_SAVE (R174): every minute of the count. -/
def execDwellCountSave (s : State) : Host.Outcome State Fault Refusal :=
  .next (if s.power.state.powered && (s.vote.dwellSavedS + 60) * 1000000 ≤ s.dwellNow then
    { s with vote := { s.vote with dwellSavedS := s.dwellNow / 1000000 } } else s).settle

end Sys2Proof.Machine
end

