-- ==== Sys2Proof/Machine/Image.lean ====
section
/-! DEFINITION. The station data image: its layout, its parsing and its validation in the order of R56 (R25 to R53,
R282, R283). -/

namespace Sys2Proof.Machine

/-! ### Sections (R25 to R28) -/

/-- An entry of the section table (R28). -/
structure SectionEntry where
  code : Nat
  reserved : Nat
  recordSize : Nat
  offset : Nat
  length : Nat
  crc : Nat
deriving DecidableEq, Repr

/-- IMAGE_SIZE. -/
def imSize (b : List Byte) : Nat := u32 b 8
/-- The nine entries of the section table. -/
def imTable (b : List Byte) : List SectionEntry :=
  (List.range 9).map (fun i =>
    let o := 256 + 16 * i
    { code := u8 b o, reserved := u8 b (o + 1), recordSize := u16 b (o + 2), offset := u32 b (o + 4),
      length := u32 b (o + 8), crc := u32 b (o + 12) })
/-- The bytes of a section by its code. -/
def imSection (b : List Byte) (code : Nat) : List Byte :=
  match (imTable b).find? (fun e => e.code == code) with
  | some e => slice b e.offset e.length
  | none => []
/-- The byte string that IMAGE_CRC and SIGNATURE cover (R27). -/
def imCovered (b : List Byte) : List Byte :=
  let c := b.take (imSize b)
  c.take 140 ++ List.replicate 100 0 ++ c.drop 240
/-- The SIGNATURE bytes. -/
def imSignature (b : List Byte) : List Byte := slice b 144 96
/-- KEY_ID. -/
def imKeyId (b : List Byte) : Nat := u32 b 36
/-- STATION_ID. -/
def imStationId (b : List Byte) : Nat := u32 b 12

/-- RECORD_SIZE, smallest and largest record count of a section; the largest count of a section whose excess is
TOO_LARGE is left open (R28, R52). -/
def sectionShape : Nat → Option (Nat × Nat × Option Nat)
  | 1 => some (8, 9, some 9)
  | 2 => some (64, 0, none)
  | 3 => some (0, 0, none)
  | 4 => some (0, 0, none)
  | 5 => some (16, 16, none)
  | 6 => some (16, 0, none)
  | 7 => some (512, 1, some 1)
  | 8 => some (400, 8, some 8)
  | 9 => some (1024, 1, some 1)
  | _ => none

/-- The fixed-size records of a section. -/
def records (size : Nat) (b : List Byte) : List (List Byte) :=
  (List.range (b.length / size)).map (fun i => slice b (size * i) size)

/-! ### Elements (R29 to R35) -/

/-- 0xFFFF stands for no element. -/
def optIndex (n : Nat) : Option Nat := if n = 0xFFFF then none else some n

/-- The type-specific part of an element record of a type (R34). -/
def elementPart (type : Nat) (r : List Byte) : ElemPart :=
  match type with
  | 1 => .track (u8 r 16) (u8 r 17 == 1) (u16 r 18)
  | 2 => .point (optIndex (u16 r 16)) (u16 r 18) (u16 r 20) (u16 r 22) (u16 r 24) (u8 r 26 == 1)
  | 3 => .signal (u16 r 16) (u8 r 18) (u8 r 19 == 1) (optIndex (u16 r 20)) (optIndex (u16 r 22))
  | 4 => .edge (u16 r 16) (u8 r 18) (u16 r 20) (u16 r 22) (u8 r 24) (u16 r 26) (u8 r 28) (u16 r 30)
  | 5 => .leaf (u16 r 16) (u8 r 18) (u8 r 19 == 1) (u16 r 20)
  | 6 => .berth (u16 r 16) (u8 r 18) (u16 r 20)
  | 7 => .link (u8 r 16) (u8 r 17) (u16 r 18)
  | 8 => .auxIn (u8 r 16) (u8 r 17)
  | _ => .auxOut (u16 r 16) (if u8 r 18 = 0xFF then none else some (u8 r 18))

/-- An element record (R30). -/
def parseElement (r : List Byte) : Element :=
  let attr := u8 r 3
  { index := u16 r 0, loc := attr.testBit 1, snapshot := attr.testBit 0, node := u16 r 4 % 4096, object := u8 r 6,
    subst := u8 r 7, name := u32 r 8, area := u8 r 12, part := elementPart (u8 r 2) r }

/-- The byte ranges of an element record of a type that are reserved (R30, R34): offset and length. -/
def reservedRanges : Nat → List (Nat × Nat)
  | 1 => [(13, 3), (20, 44)]
  | 2 => [(13, 3), (27, 37)]
  | 3 => [(13, 3), (24, 40)]
  | 4 => [(13, 3), (19, 1), (25, 1), (29, 1), (32, 32)]
  | 5 => [(13, 3), (22, 42)]
  | 6 => [(13, 3), (19, 1), (22, 42)]
  | 7 => [(13, 3), (20, 44)]
  | 8 => [(13, 3), (18, 46)]
  | _ => [(13, 3), (19, 45)]

/-- The type that the directory gives an element index, 0 for none (R29). -/
def directoryType (dir : List Byte) (i : Nat) : Nat :=
  ((List.range 9).find? (fun k => u16 dir (8 * k + 2) ≤ i && i < u16 dir (8 * k + 2) + u16 dir (8 * k + 4))).elim 0
    (fun k => k + 1)

/-! ### Routes, lists, constants, nodes and the rest (R36 to R51) -/

/-- The route records by the offset table (R36). -/
def routeBytes (b : List Byte) : List (List Byte) :=
  (List.range (u32 b 0)).map (fun n => b.drop (u32 b (4 + 4 * n)))
/-- List entries of a route from an offset in its record. -/
def routeEntries (r : List Byte) (off count : Nat) : List RouteEntry :=
  (List.range count).map (fun i => ⟨u16 r (off + 4 * i), u8 r (off + 4 * i + 2), u8 r (off + 4 * i + 3)⟩)
/-- A route record (R36). -/
def parseRoute (r : List Byte) : Route :=
  let np := u8 r 16
  let no := u8 r 17
  { no := u16 r 0, entry := u16 r 4, exit := optIndex (u16 r 6), aspect := u8 r 8, kind := u8 r 9,
    approachRelease := u16 r 10, overlapRelease := u16 r 12, condition := optIndex (u16 r 14), suffix := u8 r 19,
    name := u32 r 20, path := routeEntries r 32 np, overlap := routeEntries r (32 + 4 * np) no,
    flank := routeEntries r (32 + 4 * np + 4 * no) (u8 r 18) }
/-- Condition term list records by the offset table (R38). -/
def listBytes (b : List Byte) : List (List Byte) :=
  (List.range (u32 b 0)).map (fun n => b.drop (u32 b (4 + 4 * n)))
/-- A condition term list (R38). -/
def parseList (l : List Byte) : List Term :=
  (List.range (u16 l 0)).map (fun i =>
    let g := u8 l (7 + 4 * i)
    ⟨u16 l (4 + 4 * i), u8 l (6 + 4 * i), g.testBit 7, g % 128⟩)
/-- A constant (R40). -/
def parseConstant (r : List Byte) : Constant :=
  ⟨u32 r 0, u32 r 4, u32 r 8, u8 r 12, (u8 r 13).testBit 0⟩
/-- A node table entry (R43). -/
def parseNode (r : List Byte) : Node :=
  let a := u8 r 15
  { id := u16 r 0, port := u8 r 2, poly := u8 r 3, linkKey := word (u32 r 4), tRef := u16 r 8, toMin := u16 r 10,
    toMax := u16 r 12, tgroup := u8 r 14, cyclePoll := a.testBit 0, neighbour := a.testBit 1 }
/-- A filter pair (R48). -/
def parseFilter (r : List Byte) : Filter := ⟨u32 r 0, u32 r 4, u8 r 8, u8 r 9 == 1⟩
/-- A CAN port entry (R48). -/
def parseCan (r : List Byte) : CanConfig :=
  ⟨u8 r 0 == 1, u8 r 1, u8 r 2, (records 12 (r.drop 16)).map parseFilter⟩
/-- An input entry (R50). -/
def parseInput (r : List Byte) : InputConfig :=
  ⟨u8 r 0, if u8 r 1 = 0xFF then none else some (u8 r 1), u16 r 2, u16 r 4, u8 r 6⟩

/-- The image as station data (02). -/
def parseStation (b : List Byte) : Station :=
  let io := imSection b 9
  let table := imTable b
  { stationId := imStationId b, dataVersion := u32 b 16, networkId := u32 b 20, tBench := u8 b 24,
    changeMode := u8 b 25, requireSpare := (u16 b 26).testBit 0, engineCycles := u32 b 28, keyId := imKeyId b,
    prepTime := u64 b 40, imageCrc := word (u32 b 140),
    elements := (records 64 (imSection b 2)).map parseElement
    routes := (routeBytes (imSection b 3)).map parseRoute
    lists := (listBytes (imSection b 4)).map parseList
    constants := (records 16 (imSection b 5)).map parseConstant
    nodes := (records 16 (imSection b 6)).map parseNode
    ashlar := imSection b 7
    ashlarSectionCrc := word (((table.find? (fun e => e.code == 7)).map SectionEntry.crc).getD 0)
    ashlarOffset := ((table.find? (fun e => e.code == 7)).map SectionEntry.offset).getD 0
    can := (records 400 (imSection b 8)).map parseCan
    inputs := (records 8 (io.take 512)).map parseInput
    outputs := (records 4 (slice io 512 128)).map (fun r => u8 r 0 == 1)
    pulses := (records 4 (slice io 640 32)).map (fun r => if u8 r 0 = 1 then some (u8 r 1) else none)
    groups := (records 4 (slice io 672 16)).map (fun r => u8 r 0 == 1)
    localIo := io }

/-! ### Validation (R54, R56) -/

/-- A failure: its reason, section code and record number. -/
structure ImageFault where
  reason : Nat
  sectionCode : Nat
  recordNo : Nat
deriving DecidableEq, Repr

/-- The first failure of a list of checks. -/
def firstFault : List (Option ImageFault) → Option ImageFault
  | [] => none
  | some f :: _ => some f
  | none :: l => firstFault l

/-- The first record of a section that breaks a rule. -/
def firstBad {α : Type} (reason sec : Nat) (l : List α) (bad : α → Nat → Bool) : Option ImageFault :=
  ((withIndex l).find? (fun p => bad p.1 p.2)).map (fun p => ⟨reason, sec, p.2⟩)

/-- A failure without a record number. -/
def faultIf (bad : Bool) (reason : Nat) (sec rec : Nat := 0) : Option ImageFault :=
  if bad then some ⟨reason, sec, rec⟩ else none

/-- What validation compares an image with: the bank's content, the variant, the key and the active STATION_ID. -/
structure ImageContext where
  bytes : List Byte
  variant : Variant
  keyId : Nat
  key : List Byte
  activeStation : Option Nat
  newStation : Bool
deriving DecidableEq, Repr

/-- BAD_MAGIC to HEADER_FIELD (R26, R27, R282). -/
def checkHeader (c : ImageContext) : Option ImageFault :=
  let b := c.bytes
  let own := imStationId b % 4096
  firstFault
    [ faultIf (slice b 0 4 != [0x4E, 0x53, 0x54, 0x44] || u16 b 6 != 256) 0x0D01,
      faultIf (u16 b 4 != 3) 0x0D02,
      faultIf (33554432 < imSize b || b.length < imSize b || imSize b < 400) 0x0D03,
      faultIf (crc32c (imCovered b) != word (u32 b 140)) 0x0D04,
      faultIf (c.keyId == 0 || imKeyId b != c.keyId) 0x0D05,
      faultIf (!Config.verifies c.key (imCovered b) (imSignature b)) 0x0D06,
      faultIf (c.activeStation.any (fun s => s != imStationId b) && !c.newStation) 0x0D07,
      faultIf (u8 b 24 < 10 || 100 < u8 b 24 || u8 b 24 % 5 != 0 || !(u8 b 25 == 1 || u8 b 25 == 2) || own == 0
        || own == 4095 || 1 < u16 b 26 || !zeros b 34 2 || !zeros b 48 92 || !zeros b 240 16) 0x0D08 ]

/-- Whether an entry of the section table is well formed by itself (R25, R28). -/
def entryOk (size : Nat) (e : SectionEntry) : Bool :=
  match sectionShape e.code with
  | none => false
  | some (rs, least, most) =>
    e.reserved == 0 && e.recordSize == rs && e.offset % 64 == 0 && 400 ≤ e.offset && e.offset + e.length ≤ size
      && (rs == 0 || (e.length % rs == 0 && least ≤ e.length / rs && most.all (fun m => e.length / rs ≤ m)))

/-- The section that follows an offset: the one with the lowest offset from there on; 0 for none (R25). -/
def sectionAfter (t : List SectionEntry) (pos : Nat) : Nat :=
  ((t.filter (fun e => pos ≤ e.offset)).foldl (fun (acc : Option SectionEntry) e => match acc with
    | some a => if a.offset ≤ e.offset then some a else some e
    | none => some e) none).elim 0 SectionEntry.code

/-- Whether an offset lies in a section. -/
def inSection (t : List SectionEntry) (pos : Nat) : Bool := t.any (fun e => e.offset ≤ pos && pos < e.offset + e.length)

/-- SECTION_TABLE (R25, R28): the locator of a faulty entry is its number in the table, of a padding byte the section
that follows it. -/
def checkTable (b : List Byte) : Option ImageFault :=
  let t := imTable b
  let size := imSize b
  let pad := (List.range (size - 400)).find? (fun i => !inSection t (400 + i) && u8 b (400 + i) != 0)
  firstFault
    [ faultIf (u16 b 32 != 9) 0x0D09,
      firstBad 0x0D09 0 t (fun e i => !entryOk size e || (t.take i).any (fun f => f.code == e.code
        || (0 < e.length && 0 < f.length && e.offset < f.offset + f.length && f.offset < e.offset + e.length))),
      pad.map (fun i => ⟨0x0D09, sectionAfter t (400 + i), 0⟩) ]

/-- SECTION_CRC (R28, R46), sections in ascending code. -/
def checkSectionCrc (b : List Byte) : Option ImageFault :=
  let t := imTable b
  let a := imSection b 7
  firstFault (((List.range 9).map (fun k =>
      faultIf ((t.find? (fun e => e.code == k + 1)).any (fun e => crc32c (slice b e.offset e.length) != word e.crc))
        0x0D0A (k + 1)))
    ++ [faultIf (crc32c (a.take 508) != word (u32 a 508)) 0x0D0A 7])

/-- Whether an offset table of a section of variable records fits (R36, R38). -/
def offsetsFit (b : List Byte) : Bool := 4 ≤ b.length && 4 + 4 * u32 b 0 ≤ b.length

/-- TOO_LARGE (R52): the locator of a count is the first record beyond the limit. -/
def checkSize (b : List Byte) : Option ImageFault :=
  let routes := imSection b 3
  let lists := imSection b 4
  let routeRecs := if offsetsFit routes && u32 routes 0 ≤ 4096 then routeBytes routes else []
  let listRecs := if offsetsFit lists && u32 lists 0 ≤ 8192 then listBytes lists else []
  let terms := listRecs.map (fun l => u16 l 0)
  firstFault
    [ faultIf (16384 < (imSection b 2).length / 64) 0x0D0B 2 16384,
      faultIf (4 ≤ routes.length && 4096 < u32 routes 0) 0x0D0B 3 4096,
      firstBad 0x0D0B 3 routeRecs (fun r _ => 248 < u8 r 16 + u8 r 17 + u8 r 18 || 1024 < u16 r 2),
      faultIf (4 ≤ lists.length && 8192 < u32 lists 0) 0x0D0B 4 8192,
      firstBad 0x0D0B 4 terms (fun n i => 64 < n || 65536 < (terms.take (i + 1)).sum),
      faultIf (1024 < (imSection b 5).length / 16) 0x0D0B 5 1024,
      faultIf (4094 < (imSection b 6).length / 16) 0x0D0B 6 4094,
      firstBad 0x0D0B 2 (records 64 (imSection b 2)) (fun r _ => u8 r 2 == 4 && (48 < u8 r 18 || 8 < u8 r 24)),
      faultIf (8388608 < ((imTable b).map SectionEntry.length).sum) 0x0D0B ]

/-- DIRECTORY (R29). DESIGN CHOICE, log entry 96: where the COUNTs do not add up to the number of element records the
locator is directory record 8. -/
def checkDirectory (b : List Byte) : Option ImageFault :=
  let d := imSection b 1
  let count (k : Nat) : Nat := u16 d (8 * k + 4)
  firstFault
    [ firstBad 0x0D10 1 (List.range 9) (fun k _ =>
        u8 d (8 * k) != k + 1 || u8 d (8 * k + 1) != 0 || !zeros d (8 * k + 6) 2
          || u16 d (8 * k + 2) != ((List.range k).map count).sum),
      faultIf (((List.range 9).map count).sum != (imSection b 2).length / 64) 0x0D10 1 8 ]

/-- ELEMENT_HEADER (R30). -/
def checkElementHeader (b : List Byte) : Option ImageFault :=
  let d := imSection b 1
  firstBad 0x0D11 2 (records 64 (imSection b 2)) (fun r i =>
    u16 r 0 != i || u8 r 2 != directoryType d i || 3 < u8 r 3 || 4096 ≤ u16 r 4
      || (reservedRanges (u8 r 2)).any (fun x => !zeros r x.1 x.2))

/-- The element references of a type-specific part with the types they may name; no types for any (R34). -/
def ElemPart.refs : ElemPart → List (Nat × List Nat)
  | .track .. => []
  | .point c _ _ _ sec _ => (c.toList.map (fun i => (i, [2]))) ++ [(sec, [1])]
  | .signal _ _ _ a e => (a.toList.map (fun i => (i, [1]))) ++ e.toList.map (fun i => (i, [4]))
  | .edge l _ s f _ _ _ _ => [(l, [5]), (s, [3]), (f, [6])]
  | .leaf e _ _ _ => [(e, [4])]
  | .berth e _ t => [(e, [4]), (t, [1])]
  | .link _ _ l => [(l, [])]
  | .auxIn .. => []
  | .auxOut .. => []

/-- The time references of a type-specific part with their unit and range (R34). -/
def ElemPart.times : ElemPart → List (Nat × Nat × Nat × Nat)
  | .track _ _ c => [(c, 6, 0, 1000)]
  | .edge _ _ _ _ _ _ _ t => [(t, 6, 50, 1000)]
  | .leaf _ _ _ m => [(m, 6, 100, 3000)]
  | .point .. | .signal .. | .berth .. | .link .. | .auxIn .. | .auxOut .. => []

/-- The type of an element index in station data, 0 for none. -/
def Station.typeAt (st : Station) (i : Nat) : Nat := (st.elements[i]?).elim 0 (fun e => e.part.typeCode)

/-- ELEMENT_REF (R34). -/
def checkRefs (st : Station) : Option ImageFault :=
  firstBad 0x0D12 2 st.elements (fun e _ => e.part.refs.any (fun r =>
    st.typeAt r.1 == 0 || (!r.2.isEmpty && !r.2.contains (st.typeAt r.1))))

/-- SUBST_NOT_RESTRICTIVE (R32). -/
def checkSubst (st : Station) : Option ImageFault :=
  firstBad 0x0D13 2 st.elements (fun e _ => e.subst != typeSubst e.part.typeCode)

/-- ATTR_CONFLICT (R30, R31): SNAPSHOT needs a node of the table with CYCLE_POLL. DESIGN CHOICE, log entry 96: LOCAL with a
NODE other than 0 gets this reason too. -/
def checkAttr (st : Station) : Option ImageFault :=
  firstBad 0x0D14 2 st.elements (fun e _ =>
    let t := e.part.typeCode
    if e.loc then !(t == 1 || t == 8 || t == 9) || !e.snapshot || e.node != 0
    else e.snapshot && !(st.nodes.find? (fun n => n.id == e.node)).any Node.cyclePoll)

/-- The channels an element names: nodes with an object, local inputs (4096) and local outputs (4097); a TDC_NODE that is
no node is a fault of its own (R31, R34). -/
def Element.channels (e : Element) : List (Nat × Nat) :=
  (if e.loc then [(if e.part.typeCode = 9 then 4097 else 4096, e.object)]
    else if e.node = 0 then [] else [(e.node, e.object)])
  ++ (match e.part with
      | .edge _ _ _ _ _ n o _ => if 1 ≤ n && n ≤ 4094 then [(n, o)] else []
      | _ => [])

/-- CHANNEL_DOUBLE (R31): the locator is the later record. -/
def checkChannels (st : Station) : Option ImageFault :=
  firstBad 0x0D15 2 st.elements (fun e i =>
    let mine := e.channels
    (st.elements.take i).any (fun f => f.channels.any (fun x => mine.contains x))
      || mine.eraseDups.length != mine.length)

/-- A time reference with its unit and range (R33). -/
def timeRefOk (constants : List Constant) (raw unit lo hi : Nat) : Bool :=
  if raw < 0x8000 then lo ≤ raw && raw ≤ hi
  else raw / 1024 % 32 == 0
    && (constants[raw % 1024]?).any (fun c => c.unit == unit && lo ≤ c.value && c.value ≤ hi)

/-- Whether the header of a route record lies in its section. -/
def routeReadable (sec : List Byte) (n : Nat) : Bool := offsetsFit sec && u32 sec (4 + 4 * n) + 32 ≤ sec.length

/-- TIME_REF in elements, in routes whose header can be read, and in nodes (R33, R34, R36, R43). -/
def checkTimes (st : Station) (readable : Nat → Bool) : Option ImageFault :=
  let k := st.constants
  firstFault
    [ firstBad 0x0D16 2 st.elements (fun e _ => e.part.times.any (fun t => !timeRefOk k t.1 t.2.1 t.2.2.1 t.2.2.2)),
      firstBad 0x0D16 3 st.routes (fun r n => readable n &&
        (!timeRefOk k r.approachRelease 2 10 600 || !timeRefOk k r.overlapRelease 2 10 300)),
      firstBad 0x0D16 6 st.nodes (fun n _ => !timeRefOk k n.tRef 1 20 500) ]

/-- Whether a Boolean byte of an element record is 0 or 1 (R34). -/
def flagBytes : Nat → List Nat
  | 1 => [17]
  | 2 => [26]
  | 3 => [19]
  | 5 => [19]
  | 8 => [16]
  | _ => []

/-- The ranges of a type-specific part (R31, R34, R96). DESIGN CHOICE, log entry 96: a KIND 3 signal must be the
DEPART_SIGNAL of the edge it names, as the edge's signal must name the edge. -/
def Station.fieldsOk (st : Station) (lists : Nat) (e : Element) (i : Nat) : Bool :=
  e.area ≤ 63 &&
    match e.part with
    | .track d _ _ => 1 ≤ d && d ≤ 3 && (d == 3) == e.loc
    | .point c lo hi init _ _ =>
      1000 ≤ lo && lo ≤ 30000 && lo ≤ hi && hi ≤ 60000 && lo ≤ init && init ≤ hi
        && c.all (fun j => j != i && (match (st.elements[j]?).map Element.part with
          | some (.point c' ..) => c' == some i
          | _ => false))
    | .signal set kind _ _ edge =>
      set.testBit 0 && 1 ≤ kind && kind ≤ 4
        && (if kind = 3 then edge.any (fun g => match (st.elements[g]?).map Element.part with
            | some (.edge _ _ s ..) => s == i
            | _ => false) else edge.isNone)
    | .edge _ leaves signal _ berths tdc _ _ =>
      1 ≤ leaves && leaves ≤ 48 && 1 ≤ berths && berths ≤ 8 && 1 ≤ tdc && tdc ≤ 4094
        && (match (st.elements[signal]?).map Element.part with
          | some (.signal _ kind _ _ edge) => kind == 3 && edge == some i
          | _ => false)
    | .leaf edge position _ _ => (match (st.elements[edge]?).map Element.part with
          | some (.edge _ leaves ..) => position < leaves
          | _ => false)
    | .berth edge position _ => (match (st.elements[edge]?).map Element.part with
          | some (.edge _ _ _ _ berths ..) => position < berths
          | _ => false)
    | .link n k _ => n ≤ 15 && 1 ≤ k && k ≤ 4
    | .auxIn level role => level ≤ 1 && role ≤ 3
    | .auxOut l b => l < lists && b.all (fun x => x < 32)

/-- The nodes that an element counts for (R282). -/
def Element.namesNode (e : Element) (n : Nat) : Bool :=
  e.node == n || (match e.part with
    | .edge _ _ _ _ _ t _ _ => t == n
    | _ => false)

/-- ELEMENT_FIELD (R34, R96, R282). -/
def checkFields (b : List Byte) (st : Station) : Option ImageFault :=
  let lists := u32 (imSection b 4) 0
  let recs := records 64 (imSection b 2)
  firstBad 0x0D17 2 st.elements (fun e i =>
    !st.fieldsOk lists e i
      || (flagBytes e.part.typeCode).any (fun o => 1 < u8 (recs.getD i []) o)
      || (e.channels.any (fun x => x.1 < 4096
          && 23 < ((st.elements.take (i + 1)).filter (fun f => f.namesNode x.1)).length)))

/-- EDGE_STRUCTURE (R35). -/
def checkEdges (st : Station) : Option ImageFault :=
  firstBad 0x0D18 2 st.elements (fun e i =>
    match e.part with
    | .edge leaf n _ berth m _ _ _ =>
      (List.range n).any (fun k => match (st.elements[leaf + k]?).map Element.part with
        | some (.leaf g p _ _) => g != i || p != k
        | _ => true)
      || (List.range m).any (fun k => match (st.elements[berth + k]?).map Element.part with
        | some (.berth g p _) => g != i || p != k
        | _ => true)
    | .leaf g p _ _ => match (st.elements[g]?).map Element.part with
      | some (.edge leaf n ..) => n ≤ p || leaf + p != i
      | _ => true
    | .berth g p _ => match (st.elements[g]?).map Element.part with
      | some (.edge _ _ _ berth m ..) => m ≤ p || berth + p != i
      | _ => true
    | .track .. | .point .. | .signal .. | .link .. | .auxIn .. | .auxOut .. => false)

/-- Whether a record of a section of variable records lies in the section, after the offset table, and off every earlier
record. DESIGN CHOICE, log entry 96: offsets that do not ascend are accepted, and of two overlapping records the one with
the higher number is the locator. -/
def recordPlaced (b : List Byte) (length : Nat → Nat) (n : Nat) : Bool :=
  let off (k : Nat) : Nat := u32 b (4 + 4 * k)
  4 + 4 * u32 b 0 ≤ off n && off n + length n ≤ b.length
    && (List.range n).all (fun k => off n + length n ≤ off k || off k + length k ≤ off n)

/-- ROUTE_HEADER (R36, R37). -/
def checkRouteHeaders (b : List Byte) (st : Station) : Option ImageFault :=
  let sec := imSection b 3
  let lists := u32 (imSection b 4) 0
  let recs := if offsetsFit sec then routeBytes sec else []
  let len (n : Nat) : Nat := 32 + (u16 (recs.getD n []) 2 - 32)
  firstFault
    [ faultIf (!offsetsFit sec) 0x0D20 3 0,
      firstBad 0x0D20 3 recs (fun r n =>
        let entry := u16 r 4
        let exit := u16 r 6
        !recordPlaced sec len n || u16 r 0 != n || u16 r 2 != 32 + 4 * (u8 r 16 + u8 r 17 + u8 r 18)
          || u8 r 16 == 0 || st.typeAt entry != 3 || !(exit == 0xFFFF || st.typeAt exit == 3)
          || u8 r 8 == 0 || 15 < u8 r 8
          || !(match (st.elements[entry]?).map Element.part with
            | some (.signal set ..) => set.testBit (u8 r 8)
            | _ => false)
          || u8 r 9 == 0 || 3 < u8 r 9 || !(u16 r 14 == 0xFFFF || u16 r 14 < lists) || !zeros r 24 8) ]

/-- Whether an entry of a route list names what the list allows (R37). -/
def Station.pathEntryOk (st : Station) (x : RouteEntry) : Bool :=
  let t := st.typeAt x.element
  (t == 1 && x.state == 0) || (t == 2 && x.state ≤ 1)

/-- ROUTE_ENTRY (R36, R37). DESIGN CHOICE, log entry 96: a TAG out of its range and an entry that names the route's own
entry signal get this reason. -/
def checkRouteEntries (st : Station) : Option ImageFault :=
  firstBad 0x0D21 3 st.routes (fun r _ =>
    r.entries.any (fun x => x.element == r.entry) || r.path.any (fun x => !st.pathEntryOk x || 63 < x.tag)
      || r.overlap.any (fun x => !st.pathEntryOk x || x.tag != 0)
      || r.flank.any (fun x =>
        let t := st.typeAt x.element
        !((t == 2 && x.state ≤ 1 && x.tag == 0) || (t == 3 && x.state == 0 && x.tag == 1))))

/-- The entries of a list with the coupled ends named too (R37). -/
def Station.coupledEntries (st : Station) (l : List RouteEntry) : List RouteEntry :=
  l ++ l.filterMap (fun x => match (st.elements[x.element]?).map Element.part with
    | some (.point (some c) ..) => some { x with element := c }
    | _ => none)

/-- Whether release groups never decrease. -/
def groupsAscend : List RouteEntry → Bool
  | a :: b :: l => a.tag ≤ b.tag && groupsAscend (b :: l)
  | _ => true

/-- ROUTE_CONFLICT (R37). -/
def checkRouteConflicts (st : Station) : Option ImageFault :=
  firstBad 0x0D22 3 st.routes (fun r _ =>
    let p := st.coupledEntries r.path
    let f := st.coupledEntries r.flank
    let all := p ++ st.coupledEntries r.overlap ++ f
    all.any (fun x => all.any (fun y => x.element == y.element && x.state != y.state))
      || p.any (fun x => f.any (fun y => x.element == y.element)) || !groupsAscend r.path)

/-- Whether OR-groups are exactly 0 to `groups` − 1 in ascending order (R39). -/
def groupsExact (groups : Nat) : Nat → List Term → Bool
  | expected, [] => expected == groups
  | expected, t :: l =>
    if t.group = expected then groupsExact groups (expected + 1) l
    else t.group + 1 == expected && groupsExact groups expected l

/-- TERM_LIST (R38, R39). -/
def checkTermLists (b : List Byte) : Option ImageFault :=
  let sec := imSection b 4
  let recs := if offsetsFit sec then listBytes sec else []
  let len (n : Nat) : Nat := 4 + 4 * u16 (recs.getD n []) 0
  firstFault
    [ faultIf (!offsetsFit sec) 0x0D28 4 0,
      firstBad 0x0D28 4 recs (fun l n =>
        !recordPlaced sec len n || u16 l 0 == 0 || 64 < u16 l 0 || u8 l 2 == 0 || 64 < u8 l 2 || u8 l 3 != 0
          || !groupsExact (u8 l 2) 0 (parseList l)) ]

/-- TERM_STATE (R38). -/
def checkTermStates (st : Station) : Option ImageFault :=
  firstBad 0x0D29 4 st.lists (fun l _ => l.any (fun t => !typeState (st.typeAt t.element) t.state))

/-- CONSTANT_RANGE (R40). -/
def checkConstants (b : List Byte) : Option ImageFault :=
  firstBad 0x0D30 5 (records 16 (imSection b 5)) (fun r _ =>
    u32 r 0 < u32 r 4 || u32 r 8 < u32 r 0 || u32 r 8 < u32 r 4 || 6 < u8 r 12 || 1 < u8 r 13 || !zeros r 14 2)

/-- Unit and range of the system constants 0 to 8 (R41). -/
def systemConstants : List (Nat × Nat × Nat) :=
  [(2, 60, 600), (2, 10, 600), (2, 10, 300), (6, 50, 1000), (3, 1, 168), (1, 20, 500), (5, 2, 10), (5, 1, 64),
   (4, 5, 100)]

/-- SYSTEM_CONSTANT (R41). -/
def checkSystemConstants (b : List Byte) : Option ImageFault :=
  firstBad 0x0D31 5 ((records 16 (imSection b 5)).take 16) (fun r i =>
    match systemConstants[i]? with
    | some (unit, lo, hi) => u8 r 12 != unit || u32 r 4 < lo || hi < u32 r 8
    | none => !zeros r 0 16)

/-- NODE_ID (R43, R282). -/
def checkNodeIds (st : Station) : Option ImageFault :=
  firstBad 0x0D38 6 st.nodes (fun n i =>
    n.id == 0 || 4095 ≤ n.id || n.id == st.stationId % 4096
      || (0 < i && (st.nodes[i - 1]?).any (fun m => n.id ≤ m.id)))

/-- T_REF of a node as its time reference resolves in the image (R45). -/
def Station.tRefOf (st : Station) (n : Node) : Nat :=
  if n.tRef < 0x8000 then n.tRef else ((st.constants[n.tRef % 1024]?).map Constant.value).getD 0

/-- NODE_FIELD (R43 to R45, R283). DESIGN CHOICE, log entry 96: a reserved bit of NATTR gets this reason. -/
def checkNodeFields (b : List Byte) (st : Station) : Option ImageFault :=
  let recs := records 16 (imSection b 6)
  firstBad 0x0D39 6 st.nodes (fun n i =>
    let t := st.tRefOf n
    8 < n.port || 3 < n.poly || t < st.tBench || n.toMin < t || n.toMax < n.toMin || 5000 < n.toMax || 63 < n.tgroup
      || 3 < u8 (recs.getD i []) 15 || (n.poly == 3 && n.cyclePoll)
      || (n.neighbour && (n.port != 8 || n.cyclePoll || n.poly == 3)))

/-- NODE_MISSING (R44). -/
def checkNodesNamed (st : Station) : Option ImageFault :=
  firstBad 0x0D3A 2 st.elements (fun e _ =>
    e.channels.any (fun x => x.1 < 4096 && !st.nodes.any (fun n => n.id == x.1)))

/-- SEGMENT_FULL (R44, R52). -/
def checkSegments (st : Station) : Option ImageFault :=
  firstBad 0x0D3B 6 st.nodes (fun n i =>
    let before := st.nodes.take (i + 1)
    (n.port < 8 && 64 < (before.filter (fun m => m.port == n.port)).length)
      || (n.neighbour && 16 < (before.filter Node.neighbour).length))

/-- The literal bytes that are used, with the equation or term they stand in (R46). -/
def ashlarLiterals (a : List Byte) : List Byte := (a.take 320).filter (fun x => x != 0xFF#8)

/-- ABSENT_CORE to ABSENT_FIELD_GROUP (R7, R56). -/
def checkAbsent (v : Variant) (st : Station) : Option ImageFault :=
  firstFault
    [ faultIf (st.requireSpare && !v.spare) 0x0D40,
      firstBad 0x0D41 6 st.nodes (fun n _ => n.port < 8 && v.canPorts ≤ n.port),
      firstBad 0x0D41 8 st.can (fun c k => c.enable && v.canPorts ≤ k),
      firstBad 0x0D42 6 st.nodes (fun n _ => n.port == 8 && !v.ethernet),
      faultIf ((withIndex st.inputs).any (fun p => p.1.mode != 0 && v.inputs ≤ p.2)) 0x0D43 9,
      faultIf ((ashlarLiterals st.ashlar).any (fun x => !x.getLsbD 6 && v.inputs ≤ x.toNat % 64)) 0x0D43 7,
      faultIf ((withIndex st.outputs).any (fun p => p.1 && v.outputs ≤ p.2)) 0x0D44 9,
      faultIf ((List.range 32).any (fun n => v.outputs ≤ n && (slice st.ashlar (8 * n) 8).any (fun x => x != 0xFF#8)))
        0x0D44 7,
      faultIf ((withIndex st.pulses).any (fun p => p.1.isSome && v.pulses ≤ p.2)) 0x0D45 9,
      faultIf ((withIndex st.groups).any (fun p => p.1 && v.groups ≤ p.2)) 0x0D46 9 ]

/-- The local outputs that elements use (R47). -/
def Station.usesOutput (st : Station) (n : Nat) : Bool :=
  st.elements.any (fun e => e.loc && e.part.typeCode == 9 && e.object == n)

/-- The demand bits that auxiliary outputs name (R47). -/
def Station.usesBit (st : Station) (k : Nat) : Bool :=
  st.elements.any (fun e => match e.part with
    | .auxOut _ b => b == some k
    | _ => false)

/-- ASHLAR_LITERAL (R46, R47). -/
def checkAshlar (st : Station) : Option ImageFault :=
  let a := st.ashlar
  faultIf ((ashlarLiterals a).any (fun x => x.getLsbD 6 && x.getLsbD 5)
    || (List.range 32).any (fun n => (slice a (8 * n) 8).any (fun x => x != 0xFF#8) != st.usesOutput n)
    || (List.range 32).any (fun k => u8 a (448 + k) != (if st.usesBit k then 0 else 0xFF))
    || !zeros a 480 28) 0x0D48 7

/-- Whether a filter pair is per R48. -/
def filterOk (r : List Byte) : Bool :=
  let limit := if u8 r 9 = 1 then 2 ^ 29 else 2 ^ 11
  u8 r 8 ≤ 3 && u8 r 9 ≤ 1 && u32 r 0 < limit && u32 r 4 < limit && (u32 r 4 &&& u32 r 0) == u32 r 4 && zeros r 10 2

/-- CAN_CONFIG (R48, R49). -/
def checkCan (b : List Byte) (st : Station) : Option ImageFault :=
  firstBad 0x0D49 8 (records 400 (imSection b 8)) (fun r k =>
    if u8 r 0 = 0 then !zeros r 0 400 || st.nodes.any (fun n => n.port == k)
    else u8 r 0 != 1 || u8 r 1 == 0 || 4 < u8 r 1 || 3 < u8 r 2 || !zeros r 3 13
      || (records 12 (r.drop 16)).any (fun f => !filterOk f))

/-- Whether an input entry is per R50 and R51. -/
def inputEntryOk (pulses : List (Option Nat)) (r : List Byte) : Bool :=
  let mode := u8 r 0
  let period := u16 r 4
  if mode = 0 then u8 r 1 == 0xFF && zeros r 2 6
  else mode ≤ 2 && u16 r 2 ≤ 6550 && u8 r 6 ≤ 3 && u8 r 7 == 0
    && (u8 r 1 == 0xFF || (pulses.getD (u8 r 1) none).isSome)
    && (if mode = 2 then 250 ≤ period && period ≤ 4000 && period % 250 == 0 && 2 * period ≤ u16 r 2 * 10 else period == 0)

/-- LOCAL_CONFIG (R50, R51). -/
def checkLocal (st : Station) : Option ImageFault :=
  let io := st.localIo
  faultIf
    ((records 8 (io.take 512)).any (fun r => !inputEntryOk st.pulses r)
    || (records 4 (slice io 512 128)).any (fun r => 1 < u8 r 0 || !zeros r 1 3)
    || (records 4 (slice io 640 32)).any (fun r => 1 < u8 r 0 || !zeros r 2 2
      || (if u8 r 0 = 1 then u8 r 1 == 0 || 32 < u8 r 1 else u8 r 1 != 0))
    || (records 4 (slice io 672 16)).any (fun r => 1 < u8 r 0 || !zeros r 1 3)
    || !zeros io 688 336
    || (withIndex st.inputs).any (fun p => p.1.mode != 0 && !st.groups.getD (p.2 / 16) false)
    || (withIndex st.outputs).any (fun p => p.1 && !st.groups.getD (p.2 / 8) false)
    || st.elements.any (fun e => e.loc && (if e.part.typeCode = 9 then !st.outputs.getD e.object false
      else ((st.inputs.getD e.object default).mode == 0)))) 0x0D4A 9

/-- The worst-case engine cycles W (R53). -/
def Station.worstCycles (st : Station) : Nat :=
  150000 + 450 * st.elements.length + 600 * st.routes.length + 40 * (st.lists.map List.length).sum
    + 300 * st.nodes.length

/-- BUDGET_MISMATCH and BUDGET (R53). -/
def checkBudget (st : Station) : Option ImageFault :=
  firstFault
    [ faultIf (st.worstCycles != st.engineCycles) 0x0D50,
      faultIf (360000 * st.tBench < st.worstCycles) 0x0D51 ]

/-- The checks after the sections have passed their CRCs, in the order of R56. -/
def checkContents (v : Variant) (b : List Byte) : Option ImageFault :=
  let st := parseStation b
  firstFault
    [ checkRefs st, checkSubst st, checkAttr st, checkChannels st, checkTimes st (routeReadable (imSection b 3)),
      checkFields b st, checkEdges st, checkRouteHeaders b st, checkRouteEntries st, checkRouteConflicts st,
      checkTermLists b, checkTermStates st, checkConstants b, checkSystemConstants b, checkNodeIds st,
      checkNodeFields b st, checkNodesNamed st, checkSegments st, checkAbsent v st, checkAshlar st, checkCan b st,
      checkLocal st, checkBudget st ]

/-- The first failure of an image in the order of R56, if any (R54). -/
def validate (c : ImageContext) : Option ImageFault :=
  (checkHeader c).orElse fun _ => (checkTable c.bytes).orElse fun _ => (checkSectionCrc c.bytes).orElse fun _ =>
    (checkSize c.bytes).orElse fun _ => (checkDirectory c.bytes).orElse fun _ =>
      (checkElementHeader c.bytes).orElse fun _ => checkContents c.variant c.bytes

/-- What a start checks of the active bank (R57): IMAGE_CRC, section CRCs, ASHLAR_CRC and signature. -/
def validateActive (b key : List Byte) : Option ImageFault :=
  firstFault
    [ faultIf (crc32c (imCovered b) != word (u32 b 140)) 0x0D04, checkSectionCrc b,
      faultIf (!Config.verifies key (imCovered b) (imSignature b)) 0x0D06 ]

end Sys2Proof.Machine
end

