-- ==== Sys2Proof/Machine/FieldIo.lean ====
section
/-! DEFINITION. The field side FS and the field link FL: inputs, test pulses, outputs, field supplies and the isolation
link (R231 to R260), with their rows. -/

namespace Sys2Proof.Machine

/-! ### The configuration that the field side applies (R18, R50, R258) -/

/-- Whether the field side runs its default configuration: every input continuous without debounce, sources steadily
high, no output used (R18, R258). -/
def Field.byDefault (f : Field) : Bool := f.config.isEmpty
/-- MODE of an input. -/
def Field.inMode (f : Field) (n : Nat) : Nat := if f.byDefault then 1 else u8 f.config (8 * n)
/-- The source of an input. -/
def Field.inSource (f : Field) (n : Nat) : Option Nat :=
  if f.byDefault || u8 f.config (8 * n + 1) = 0xFF then none else some (u8 f.config (8 * n + 1))
/-- The interval of its samples in µs: 10 µs, in MODE 2 PULSE_PERIOD (R233). -/
def Field.sampleUs (f : Field) (n : Nat) : Nat := if f.inMode n = 2 then u16 f.config (8 * n + 4) else 10
/-- The debounce time of an input in µs. -/
def Field.debounceUs (f : Field) (n : Nat) : Nat := if f.byDefault then 0 else u16 f.config (8 * n + 2) * 10
/-- COS of an input. -/
def Field.inCos (f : Field) (n : Nat) : Nat := if f.byDefault then 0 else u8 f.config (8 * n + 6)
/-- Whether an output is used. -/
def Field.outUsed (f : Field) (n : Nat) : Bool := !f.byDefault && u8 f.config (512 + 4 * n) == 1
/-- Whether a test-pulse source pulses. -/
def Field.pulsing (f : Field) (k : Nat) : Bool := !f.byDefault && u8 f.config (640 + 4 * k) == 1
/-- The period of a test-pulse source in µs. -/
def Field.periodUs (f : Field) (k : Nat) : Nat := u8 f.config (641 + 4 * k) * 1000
/-- Whether a group is monitored. -/
def Field.groupUsed (f : Field) (g : Nat) : Bool := f.byDefault || u8 f.config (672 + 4 * g) == 1

/-- The state of a group: the worse of its two measurements; MISSING under GROUP_SWITCH_FAULT (R253, R254). -/
def FieldGroup.state (g : FieldGroup) : Nat := if g.switchFault then 3 else Nat.max g.feed g.input

/-- The group of an output. -/
def Field.outGroup (f : Field) (n : Nat) : FieldGroup := f.groups.getD (n / 8) {}
/-- The group of an input. -/
def Field.inGroup (f : Field) (n : Nat) : FieldGroup := f.groups.getD (n / 16) {}

/-! ### Switches (R244, R250, R253, R257) -/

/-- The high-side switch of an output: closed on its demand, unless a fault, the group or the link holds it open. -/
def Field.highClosed (f : Field) (n : Nat) (o : FieldOutput) : Bool :=
  f.outUsed n && o.demand && !f.linkLost && (f.outGroup n).state != 3 && !o.overloaded && o.causes.all (· == 1)

/-- The low-side switch of an output: closed on demand and permit, unless a fault, the group or the link holds it
open. -/
def Field.lowClosed (f : Field) (n : Nat) (o : FieldOutput) : Bool :=
  f.outUsed n && o.demand && o.permit && !f.linkLost && (f.outGroup n).state != 3 && !o.overloaded
    && o.causes.all (· == 2)

/-- Every switch set from demands, permits, faults and groups. -/
def Field.drive (f : Field) : Field :=
  { f with outputs := (withIndex f.outputs).map (fun p =>
    { p.1 with high := f.highClosed p.2 p.1, low := f.lowClosed p.2 p.1 }) }

/-- Whether a channel is energised: both switches closed and its group switch on (R15, R244). -/
def Field.energised (f : Field) (n : Nat) : Bool :=
  let o := f.outputs.getD n {}
  o.high && o.low && (f.outGroup n).switchOn

/-! ### Records of R259 -/

/-- STATE of an output record. -/
def Field.outState (f : Field) (n : Nat) : Nat :=
  let o := f.outputs.getD n {}
  if !f.outUsed n then 4
  else if !o.causes.isEmpty then 2
  else if (f.outGroup n).state = 3 || o.overloaded then 3
  else if f.energised n then 1 else 0

/-- STATE of an input record, as the core side has it. -/
def Field.inState (f : Field) (n : Nat) : Nat :=
  if f.inMode n = 0 then 5
  else if f.stale then 4
  else if f.imageGroups.getD (n / 16) 0 = 3 then 3
  else if ((f.inputs[n]?).map FieldInput.fault).getD 0 ≠ 0 then 2
  else if f.values.getLsbD n then 1 else 0

/-- STATE of a group record. -/
def Field.groupCode (f : Field) (g : Nat) : Nat := if f.groupUsed g then (f.groups.getD g {}).state else 4

/-- A signed number as 16 bits. -/
def le16Int (i : Int) : List Byte := le 2 (i % 65536).toNat

/-- The input record (R259). -/
def State.inputRecord (s : State) (n : Nat) : List Byte :=
  let i := s.field.inputs.getD n {}
  let e := s.field.coreEdges.getD n {}
  [BitVec.ofNat 8 (s.field.inState n), BitVec.ofNat 8 i.fault] ++ le 2 (saturate 16 i.passed)
    ++ le 4 e.total ++ le 6 e.last ++ [0, 0]

/-- The output record (R259). -/
def State.outputRecord (s : State) (n : Nat) : List Byte :=
  let o := s.field.outputs.getD n {}
  let forced := (s.forceOn 3 n).isSome
  [BitVec.ofNat 8 (s.field.outState n), BitVec.ofNat 8 o.fault,
   BitVec.ofNat 8 (bit o.demand 0 + bit o.permit 1 + bit (s.field.outGroup n).switchOn 2 + bit o.high 3 + bit o.low 4
     + bit forced 5), BitVec.ofNat 8 o.partner] ++ le 2 (saturate 16 o.milliAmp) ++ le16Int (o.loadMv / 10)

/-- The group record (R259). -/
def State.groupRecord (s : State) (g : Nat) : List Byte :=
  let x := s.field.groups.getD g {}
  [BitVec.ofNat 8 (s.field.groupCode g),
   BitVec.ofNat 8 (bit x.switchOn 0 + bit x.switchFault 1 + bit (32000 < x.feedMv || 32000 < x.inputMv) 2)]
    ++ le 2 (saturate 16 x.feedMv) ++ le 2 (saturate 16 x.inputMv) ++ le 2 (saturate 16 x.milliAmp)

/-! ### Inputs and test pulses (R234 to R242) -/

/-- A local input, changed. -/
def State.modInput (s : State) (n : Nat) (f : FieldInput → FieldInput) : State :=
  { s with field := { s.field with inputs := upd s.field.inputs n f } }
/-- A test-pulse source, changed. -/
def State.modSource (s : State) (k : Nat) (f : FieldSource → FieldSource) : State :=
  { s with field := { s.field with sources := upd s.field.sources k f } }
/-- An output, changed, and the switches set. -/
def State.modOutput (s : State) (n : Nat) (f : FieldOutput → FieldOutput) : State :=
  { s with field := { s.field with outputs := upd s.field.outputs n f }.drive }
/-- A group, changed, and the switches set. -/
def State.modGroup (s : State) (g : Nat) (f : FieldGroup → FieldGroup) : State :=
  { s with field := { s.field with groups := upd s.field.groups g f }.drive }

/-- The inputs assigned to a source. -/
def Field.inputsOf (f : Field) (k : Nat) : List Nat :=
  (List.range f.inputs.length).filter (fun n => f.inMode n != 0 && f.inSource n == some k)

/-- A fault report of the field side: it waits for a field-to-core frame to carry it (R255). -/
def State.report (s : State) (code p0 p1 p2 : Nat) : State :=
  { s with field := { s.field with reports := s.field.reports ++ [⟨code, p0, p1, p2⟩] } }

/-- The class under which a report is recorded (R250, R253, R254, R260); an input or source fault is F0 in SAFE and
LOCKOUT (R210). -/
def State.reportClass (s : State) (r : FieldReport) : Severity :=
  match r.code with
  | 0x3020 | 0x3022 => if s.power.state = .safe || s.power.state = .lockout then .f0 else .f1
  | 0x3030 | 0x3031 => .f1
  | 0x3032 => .f0
  | 0x3040 => if r.p1 = 0 then .info else if r.p1 = 3 then .f2 else .f0
  | 0x3041 => .f2
  | _ => .info

/-- The fault report of a frame, recorded (R255, R260). -/
def State.takeReport (s : State) : State :=
  match s.field.reports with
  | [] => s
  | r :: l => ({ s with field := { s.field with reports := l } }).event r.code .fs (s.reportClass r) r.p0 r.p1 r.p2

/-- An input declared FAILED with event 0x3020 (R239, R240, R241). -/
def State.inputFails (s : State) (n fault source : Nat) : State :=
  (s.modInput n (fun i => { i with fault := fault, passed := 0 })).report 0x3020 n fault source

/-- The starts of the low pulses that an input masks: those of its source (R235). -/
def Field.masksOf (f : Field) (n : Nat) : List Nat :=
  ((f.inSource n).map (fun k => (f.sources.getD k {}).pulses)).getD []

/-- Whether a mask of an input runs now: from a pulse start for 500 µs (R235). -/
def State.masked (s : State) (n : Nat) : Bool := (s.field.masksOf n).any (fun p => p ≤ s.opUs && s.opUs < p + 500)

/-- The time since an instant that masks of an input have taken (R235). -/
def State.maskedUs (s : State) (n since : Nat) : Nat :=
  ((s.field.masksOf n).map (fun p => Nat.min s.opUs (p + 500) - Nat.max since p)).sum

/-- Whether an input takes a sample at an instant: on the field side's grid, every 10 µs or at the end of each sample
window, and in no mask (R233, R235). -/
def Field.samplesAt (f : Field) (n t : Nat) : Bool :=
  decide (f.gridUs ≤ t) && (t - f.gridUs) % f.sampleUs n == 0
    && (f.masksOf n).all (fun p => decide (t < p) || decide (p + 500 ≤ t))

/-- A debounced value that changes, with its counted edge (R234, R236), from the sample that first showed the new level.
In a mask it holds, and the masks within the debounce interval stretch it (R235). -/
def State.inputChange (s : State) (n : Nat) (level : Bool) (since : Nat) : State :=
  let i := s.field.inputs.getD n {}
  if s.field.inMode n = 0 || i.value = level || s.masked n || !s.field.samplesAt n since
    || s.opUs < since + s.field.debounceUs n + s.maskedUs n since then s
  else
    let cos := s.field.inCos n
    let counted := cos = 3 || (cos = 1 && level) || (cos = 2 && !level)
    if counted then
      let s1 := s.modInput n (fun i => { i with
        value := level, edges := (i.edges + 1) % 65536, lastEdge := since / 10 })
      { s1 with field := { s1.field with
        edgeLog := s1.field.edgeLog ++ [⟨0x3010, n + (if level then 1 else 2) * 256, since / 10, 0⟩] } }
    else s.modInput n (fun i => { i with value := level })

/-- What the core side makes of an input's count: the edges received are the difference from the count last taken, modulo
what a frame carries, or the count itself after a field-side reset (R218, R226, R255). -/
def CoreEdges.take (c : CoreEdges) (fresh : Bool) (i : FieldInput) : CoreEdges :=
  let d := (if fresh then i.edges else i.edges + 256 - c.seen) % 256
  { seen := i.edges % 256, total := saturate 32 (c.total + d), last := if d = 0 then c.last else i.lastEdge }

/-- The count of an edge of the log at the core side: those of its input up to and with it, on top of the count so far. -/
def Field.edgeCount (f : Field) (r : FieldReport) (k : Nat) : Nat :=
  saturate 32 ((f.coreEdges.getD (r.p0 % 256) {}).total
    + ((f.edgeLog.take (k + 1)).filter (fun x => x.p0 % 256 == r.p0 % 256)).length)

/-- The edge counts of a frame at the core side: each counted edge is recorded with its time and count (R236). -/
def State.takeEdges (s : State) : State :=
  let f := s.field
  let fresh := f.fsEpoch != f.coreEpoch
  let s1 := (withIndex f.edgeLog).foldl (fun s p =>
    s.event 0x3010 .fs .info p.1.p0 p.1.p1 (f.edgeCount p.1 p.2)) s
  { s1 with field := { f with
    edgeLog := [], coreEpoch := f.fsEpoch
    coreEdges := (withIndex f.coreEdges).map (fun p => p.1.take fresh (f.inputs.getD p.2 {})) } }

/-- A source declared SOURCE_FAULT: its inputs are FAILED with that fault (R241). -/
def State.sourceFails (s : State) (k cause : Nat) : State :=
  let ins := s.field.inputsOf k
  let s1 := (s.modSource k (fun x => { x with fault := true, overload := x.overload || cause = 2 })).report 0x3022 k
    cause ins.length
  ins.foldl (fun s n => if ((s.field.inputs[n]?).map FieldInput.fault).getD 0 = 3 then s else s.inputFails n 3 k) s1

/-- The offsets from a pulse start at which a check samples an input: every 10 µs from 50 µs to 400 µs in MODE 1, the
ends of the two check windows in MODE 2 (R238). -/
def Field.checkOffsets (f : Field) (n : Nat) : List Nat :=
  if f.inMode n = 2 then [75, 375] else (List.range 36).map (fun j => 50 + 10 * j)

/-- Whether a check of an input fails: a sample of it was high (R238). -/
def Field.checkFails (f : Field) (c : PulseCheck) (n : Nat) : Bool :=
  (f.checkOffsets n).any (fun u => c.high.contains (n, u))
/-- Whether every sample of a check was high (R239). -/
def Field.checkAllHigh (f : Field) (c : PulseCheck) (n : Nat) : Bool :=
  (f.checkOffsets n).all (fun u => c.high.contains (n, u))

/-- The judgement of one input at the end of a check interval (R238, R239, R242). -/
def State.judgeInput (s : State) (c : PulseCheck) (n : Nat) : State :=
  let i := s.field.inputs.getD n {}
  if s.field.checkFails c n then
    let run := i.failRun + 1
    let s1 := s.modInput n (fun i => { i with failRun := run, passed := 0 })
    if 2 ≤ run && i.fault = 0 then s1.inputFails n (if s.field.checkAllHigh c n then 1 else 2) c.source else s1
  else
    let passed := saturate 16 (i.passed + 1)
    let s1 := s.modInput n (fun i => { i with failRun := 0, passed := passed })
    if (i.fault = 1 || i.fault = 2) && 16 ≤ passed then
      (s1.modInput n (fun i => { i with fault := 0 })).report 0x3021 n passed 0
    else s1

/-- What a source drives at its terminal (R237, R241, R257). -/
inductive SourceDrive
  | off
  | high
  | low
deriving DecidableEq, Repr

/-- The output of a source: off in MODE 0 and after an overload, steadily high by the default configuration and with the
link lost, else high but for its low pulses of 400 µs (R237, R241, R257). -/
def State.sourceDrive (s : State) (k : Nat) : SourceDrive :=
  let x := s.field.sources.getD k {}
  if x.overload then .off
  else if s.field.byDefault || s.field.linkLost then .high
  else if !s.field.pulsing k then .off
  else if x.pulses.any (fun p => decide (p ≤ s.opUs) && decide (s.opUs < p + 400)) then .low
  else .high

/-- Whether a source sends test pulses now. -/
def State.sourcePulses (s : State) (k : Nat) : Bool :=
  let x := s.field.sources.getD k {}
  s.field.pulsing k && !x.overload && !s.field.linkLost

/-- Whether a source starts a low pulse now: k × 100 µs after the grid's start and every PERIOD_MS from there (R237). -/
def State.pulseDue (s : State) (k : Nat) : Bool :=
  let first := s.field.gridUs + 100 * k
  decide (first ≤ s.opUs) && (s.opUs - first) % s.field.periodUs k == 0

/-- The end of a check interval of a source: once for each low pulse, 400 µs after its start (R238, R241). -/
def State.pulseCheck (s : State) (c : PulseCheck) : State :=
  let x := s.field.sources.getD c.source {}
  match x.unchecked with
  | [] => s
  | p :: l =>
    if !s.sourcePulses c.source || s.opUs < p + 400 then s
    else
      let run := if c.readbackOk then 0 else x.failRun + 1
      let s1 := s.modSource c.source (fun x => { x with failRun := run, unchecked := l })
      let s2 := if 2 ≤ run && !x.fault then s1.sourceFails c.source 1 else s1
      (s2.field.inputsOf c.source).foldl (fun s n => s.judgeInput c n) s2

/-- The start of a low pulse (R237). -/
def State.pulseStart (s : State) (k : Nat) : State :=
  s.modSource k (fun x => { x with
    pulses := s.opUs :: x.pulses.filter (fun p => s.opUs < p + 1000000), unchecked := x.unchecked ++ [s.opUs] })

/-! ### Outputs (R247 to R252) -/

/-- An output with one more hold in force: the holds of earlier faults stay (R250 to R252). The record shows the latest
EXTERNAL_FEED, and CROSS_FEED before any other (log entry 79). -/
def FieldOutput.fails (o : FieldOutput) (cause : Nat) : FieldOutput :=
  { o with causes := o.causes ++ [cause], fault := if o.fault = 4 then 4 else cause }

/-- A fault of an output declared EXTERNAL_FEED with event 0x3030 (R250, R252). -/
def State.externalFault (s : State) (n cause : Nat) (up um : Int) (ma : Nat) : State :=
  if (s.field.outputs.getD n {}).causes.contains cause then s
  else (s.modOutput n (fun o => { o.fails cause with milliAmp := ma, loadMv := up - um })).report 0x3030
    (n + cause * 256) ((up % 65536).toNat + (um % 65536).toNat * 65536) ma

/-- CROSS_FEED of an off channel under EXTERNAL_FEED cause 1, whose U+ fell below 5 V, with the channel whose high-side
switch opened (R251). -/
def State.crossFeed (s : State) (m : Nat) (p : Nat × Nat) : State :=
  let o := s.field.outputs.getD p.1 {}
  if o.causes.contains 1 && !o.causes.contains 4 && !o.demand && p.1 ≠ m && p.2 < 5000 then
    ((s.modOutput p.1 (fun o => { o.fails 4 with partner := m })).modOutput m (fun o =>
      { o.fails 4 with partner := p.1 })).report 0x3031 p.1 m p.2
  else s

/-- The start of a switch test within its second of the grid: n × 15 ms, for the low side 500 ms later (R247). -/
def testSlot (n : Nat) (highSide : Bool) : Nat := 15000 * n + if highSide then 0 else 500000

/-- Whether a switch test is due: it ends within 200 µs of its start and has not been made in this second (R247). -/
def State.testDue (s : State) (t : SwitchTest) (o : FieldOutput) : Bool :=
  let since := s.opUs - s.field.gridUs
  let slot := testSlot t.channel t.highSide
  decide (slot ≤ since % 1000000) && decide (since % 1000000 ≤ slot + 200)
    && (if t.highSide then o.highTest else o.lowTest) != some (since / 1000000)

/-- A switch test of an output whose switches are both closed (R247, R251). -/
def State.switchTest (s : State) (t : SwitchTest) : State :=
  let o := s.field.outputs.getD t.channel {}
  let second := (s.opUs - s.field.gridUs) / 1000000
  if !(s.field.outUsed t.channel && o.demand && o.permit && o.high && o.low && s.testDue t o) then s
  else
    let s1 := s.modOutput t.channel (fun o => { o with
      milliAmp := t.milliAmp, loadMv := t.uPlusMv - t.uMinusMv
      highTest := if t.highSide then some second else o.highTest
      lowTest := if t.highSide then o.lowTest else some second })
    let s2 := if t.fell then s1
      else s1.externalFault t.channel (if t.highSide then 1 else 2) t.uPlusMv t.uMinusMv t.milliAmp
    if t.highSide then t.dropped.foldl (fun s p => s.crossFeed t.channel p) s2 else s2

/-- The measurement of an output with both switches open (R250). -/
def State.measureOff (s : State) (m : FeedMeasure) : State :=
  let o := s.field.outputs.getD m.channel {}
  let load := m.uPlusMv - m.uMinusMv
  if o.high || o.low then s
  else if 11000 < load then s.externalFault m.channel 3 m.uPlusMv m.uMinusMv m.milliAmp
  else if 11000 < m.uPlusMv && load < 11000 then s.externalFault m.channel 1 m.uPlusMv m.uMinusMv m.milliAmp
  else s.modOutput m.channel (fun o => { o with milliAmp := m.milliAmp, loadMv := load })

/-- An overloaded channel switched off (R250). -/
def State.overload (s : State) (n : Nat) : State :=
  s.modOutput n (fun o => { o with
    fault := if o.fault = 0 then 5 else o.fault, overloaded := true, offUs := s.opUs, demandWentOff := false })

/-- Voted demands taken by the field side; an OVERLOAD ends when its demand goes off and on again at least 1 s later
(R244, R250). -/
def State.takeDemands (s : State) (w : Word) : State :=
  let one (p : FieldOutput × Nat) : FieldOutput :=
    let on := w.getLsbD p.2
    let o : FieldOutput := { p.1 with demand := on }
    if o.overloaded then
      if !on then { o with demandWentOff := true }
      else if o.demandWentOff && p.1.demand = false && o.offUs + 1000000 ≤ s.opUs then
        { o with fault := if o.fault = 5 then 0 else o.fault, overloaded := false, demandWentOff := false }
      else o
    else o
  { s with field := { s.field with outputs := (withIndex s.field.outputs).map one }.drive }

/-! ### Field supplies (R253, R254) -/

/-- The state that a level gives. -/
def supplyLevel (mv : Nat) : Nat :=
  if mv < 12000 || 32000 < mv then 3 else if mv < 18000 then 2 else if mv < 19200 then 1 else 0

/-- The conditions of R253 on a level, each with the time in µs for which it must hold: below 19.2 V, below 18.0 V, below
12.0 V, above 32.0 V; at or above 19.7 V, at or above 18.5 V, between 18.5 V and 30.5 V. -/
def supplyConditions (mv : Nat) : List (Bool × Nat) :=
  [(decide (mv < 19200), 10000), (decide (mv < 18000), 10000), (decide (mv < 12000), 1000), (decide (32000 < mv), 1000),
   (decide (19700 ≤ mv), 100000), (decide (18500 ≤ mv), 100000), (decide (18500 ≤ mv ∧ mv ≤ 30500), 100000)]

/-- Since when each condition has held, with a level measured now. -/
def supplySince (since : List (Option Nat)) (mv now : Nat) : List (Option Nat) :=
  (withIndex (supplyConditions mv)).map (fun p => if p.1.1 then some ((since.getD p.2 none).getD now) else none)

/-- Whether the condition with an index has held for its time. -/
def supplyHeld (since : List (Option Nat)) (now k : Nat) : Bool :=
  (since.getD k none).any (fun t => decide (t + ((supplyConditions 0).getD k (false, 0)).2 ≤ now))

/-- The next state of a measurement whose level has stood: each state is entered and left under its own condition, held
for its time, and left to the state that the level then gives (R253). -/
def nextSupply (cur mv : Nat) (since : List (Option Nat)) (now : Nat) : Nat :=
  let held := supplyHeld since now
  let out := held 2 || held 3
  match cur with
  | 3 => if held 6 then supplyLevel mv else 3
  | 2 => if out then 3 else if held 5 then supplyLevel mv else 2
  | 1 => if out then 3 else if held 1 then 2 else if held 4 then supplyLevel mv else 1
  | _ => if out then 3 else if held 1 then 2 else if held 0 then 1 else 0

/-- A group with one measurement taken: the level measured before has stood until now (log entry 97). -/
def FieldGroup.measured (x : FieldGroup) (inputSide : Bool) (mv now : Nat) : FieldGroup :=
  if inputSide then
    { x with input := nextSupply x.input x.inputMv x.inputSince now, inputMv := mv,
             inputSince := supplySince x.inputSince mv now }
  else
    { x with feed := nextSupply x.feed x.feedMv x.feedSince now, feedMv := mv,
             feedSince := supplySince x.feedSince mv now }

/-- A measurement of a group supply (R253). -/
def State.measureGroup (s : State) (g : Nat) (inputSide : Bool) (mv : Nat) : State :=
  if !s.field.groupUsed g then s
  else
    let x := s.field.groups.getD g {}
    let s1 := s.modGroup g (fun x => x.measured inputSide mv s.opUs)
    let y := s1.field.groups.getD g {}
    if y.state = x.state then s1
    else s1.report 0x3040 g y.state (if y.feed < y.input then x.inputMv else x.feedMv)

/-! ### The isolation link (R255 to R258) -/

/-- Segments of a configuration set (R258). -/
def segments : Nat := 22

/-- A configuration segment received by the field side (R258): a set received twice with the same CRC is applied once
all output demands are off. -/
def Field.takeSegment (f : Field) (k : Nat) (bytes : List Byte) (quiet : Bool) : Field :=
  let c := f.collect.set k (some bytes)
  if (c.take segments).all Option.isSome then
    let set := padTo 1024 ((c.take segments).flatMap (fun x => x.getD []))
    let crc := crc32c set
    let f1 := { f with collect := List.replicate 32 none, lastSetCrc := some crc }
    if f.lastSetCrc = some crc && quiet then { f1 with config := set, configCrc := crc } else f1
  else { f with collect := c }

/-- CONFIG_CRC that the core side expects (R256). -/
def State.expectedConfig (s : State) : Word := ((s.station.map (fun st => crc32c st.localIo)).getD 0)

/-- Both sides of the link hear each other: a lost link is back (R257). -/
def State.linkBack (s : State) : State :=
  if !s.field.linkLost && !s.field.stale then s.causeOff 0x3002 else s

/-- The demand switch-offs of a frame, watched for CROSS_FEED: of the drops measured, those whose channel's high-side
switch opened on its demand (R251). -/
def State.demandDrops (s : State) (was : List FieldOutput) (drops : List (Nat × Nat × Nat)) : State :=
  drops.foldl (fun s d =>
    if (was.getD d.1 {}).high && !(s.field.outputs.getD d.1 {}).demand then s.crossFeed d.1 d.2 else s) s

/-- A core-to-field frame at the field side (R255 to R258). -/
def State.coreFrame (s : State) (intact : Bool) (drops : List (Nat × Nat × Nat)) : State :=
  let f := s.field
  if intact && f.flSent = f.fsSeq + 1 then
    let quiet := f.demands = 0
    let acked := f.flSeq = f.fsSent
    let f1 := { f with
      fsSeq := f.flSent, fsMissed := 0, linkLost := false
      fsSent := if acked then f.fsSent + 1 else f.fsSent }
    let f2 := match s.station with
      | some st => { f1.takeSegment f.segment (slice st.localIo (32 * f.segment) 32) quiet with
          segment := (f.segment + 1) % segments }
      | none => f1
    ((({ s with field := f2 }).takeDemands f.demands).demandDrops f.outputs drops).linkBack
  else
    let f1 := { f with
      fsMissed := f.fsMissed + 1, missed := f.missed + 1, missedFs := f.missedFs + 1
      fsMost := Nat.max f.fsMost (f.fsMissed + 1) }
    ({ s with field := f1 }).event 0x3001 .fs .info 0 f1.missedFs f1.fsMost

/-- The words of the last frame (R124). -/
def Field.image (f : Field) : FieldImage := ⟨f.values, f.valid, f.stale, f.arrivalUs, f.imageOutputs, f.imageGroups⟩

/-- A field-to-core frame at the field link (R255, R256, R258). -/
def State.fieldFrame (s : State) (intact : Bool) : State :=
  let f := s.field
  let known := f.configCrc = s.expectedConfig
  if intact && !(s.xing .fsFl).linkDown && f.fsSent = f.flSeq + 1 && (known || s.power.state != .run) then
    let acked := f.fsSeq = f.flSent
    let value (n : Nat) : Bool := (f.inputs.getD n {}).value
    let valid (n : Nat) : Bool := f.inMode n != 0 && (f.inputs.getD n {}).fault == 0 && (f.inGroup n).state != 3
    let f1 := { f with
      flSeq := f.fsSent, flMissed := 0, stale := false, arrivalUs := s.opUs
      frames := f.frames.cross (s.xing .flCl).linkDown
      flSent := if acked then f.flSent + 1 else f.flSent
      values := BitVec.ofNat 64 (((List.range 64).map (fun n => bit (value n) n)).sum)
      valid := BitVec.ofNat 64 (((List.range 64).map (fun n => bit (valid n) n)).sum)
      crcSeen := f.configCrc, crcGood := if known then f.crcGood + 1 else 0
      imageOutputs := (List.range 32).map f.outState
      imageGroups := f.groups.map FieldGroup.state
      imageSwitches := f.groups.map FieldGroup.readBack
      prior := if s.power.state == .run && s.bench.nextFreezeUs < s.opUs then some (f.prior.getD f.image) else f.prior }
    (((({ s with field := f1 }).takeReport).takeEdges).linkBack).tryRun
  else
    let f1 := { f with
      flMissed := f.flMissed + 1, missed := f.missed + 1, missedFl := f.missedFl + 1
      flMost := Nat.max f.flMost (f.flMissed + 1), crcGood := 0 }
    ({ s with field := f1 }).event 0x3001 .fs .info 1 f1.missedFl f1.flMost

/-- Whether a side of a direction has received no valid frame for 3 consecutive slots (R257). -/
def Field.lost (f : Field) : LinkLoss → Bool
  | .coreToField => decide (3 ≤ f.fsMissed)
  | .fieldToCore => decide (3 ≤ f.flMissed)
  | .both => decide (3 ≤ f.fsMissed ∧ 3 ≤ f.flMissed)

/-- An isolation-link loss (R257): the field side opens every switch and marks its inputs not valid towards Ashlar, the
field link marks every input stale, and the module enters SAFE. -/
def State.linkLoss (s : State) (d : LinkLoss) : State :=
  let field := d != .fieldToCore
  let core := d != .coreToField
  let f := s.field
  let f1 := { f with
    linkLost := f.linkLost || field, stale := f.stale || core, valid := if core then 0 else f.valid, crcGood := 0
    sources := if field then f.sources.map (fun (x : FieldSource) => { x with unchecked := [] }) else f.sources }
  let code := match d with
    | .coreToField => 0
    | .fieldToCore => 1
    | .both => 2
  let lastSeq := if d == .coreToField then f.fsSeq else f.flSeq
  (((({ s with field := f1.drive }).event 0x3002 .fs .f3 code lastSeq.toNat).causeOn 0x3002).enterSafe 0x3002)

/-- A group as a field-side reset leaves it: its levels are outside and stay (R216). -/
def FieldGroup.reset (g : FieldGroup) : FieldGroup := { feedMv := g.feedMv, inputMv := g.inputMv }

/-- A field-side reset: default configuration, every output off, every register of FS at its reset value and the edge
counts from 0 under a new epoch (R216, R226, R258). The field side takes up the sequence of the field link (log entry
80). -/
def State.resetField (s : State) : State :=
  { s with field := { s.field with
    inputs := s.field.inputs.map (fun _ => {})
    sources := s.field.sources.map (fun _ => {})
    outputs := s.field.outputs.map (fun _ => {})
    groups := s.field.groups.map FieldGroup.reset
    fsSeq := s.field.flSent - 1, fsSent := s.field.flSeq + 1, fsMissed := 0, missedFs := 0, fsMost := 0
    ashSeq := s.ash.outSeq - 1, ashSent := s.ash.inSeq + 1, ashMissed := 0
    linkLost := false, reports := [], edgeLog := [], fsEpoch := !s.field.fsEpoch
    config := [], configCrc := 0, collect := List.replicate 32 none, lastSetCrc := none, gridUs := s.opUs } }

/-! ### Rows of the table -/

/-- CORE_TO_FIELD_FRAME (R256). -/
def execCoreToFieldFrame (intact : Bool) (drops : List (Nat × Nat × Nat)) (s : State) :
    Host.Outcome State Fault Refusal :=
  .next (if s.unit.variant.groups = 0 then s else s.coreFrame intact drops).settle
/-- FIELD_TO_CORE_FRAME (R256). -/
def execFieldToCoreFrame (intact : Bool) (s : State) : Host.Outcome State Fault Refusal :=
  .next (if s.unit.variant.groups = 0 then s else s.fieldFrame intact).settle
/-- ISOLATION_LINK_LOSS (R257): after 3 consecutive slots. -/
def execIsolationLinkLoss (direction : LinkLoss) (s : State) : Host.Outcome State Fault Refusal :=
  .next (if s.unit.variant.groups = 0 || !s.field.lost direction then s else s.linkLoss direction).settle
/-- FIELD_SIDE_RESET (R258): FL fences (R230). -/
def execFieldSideReset (s : State) : Host.Outcome State Fault Refusal :=
  .next (if s.unit.variant.groups = 0 then s else s.resetField.fence .fsFl).settle
/-- DEBOUNCE_EXPIRY (R234). -/
def execDebounceExpiry (channel : Nat) (level : Bool) (since : Nat) (s : State) : Host.Outcome State Fault Refusal :=
  .next (if channel < s.unit.variant.inputs then s.inputChange channel level since else s).settle
/-- TEST_PULSE_START (R237): a pulse begins where it is due on the grid. -/
def execTestPulseStart (source : Nat) (s : State) : Host.Outcome State Fault Refusal :=
  .next (if source < s.unit.variant.pulses && s.sourcePulses source && s.pulseDue source then s.pulseStart source
    else s).settle
/-- TEST_PULSE_CHECK (R238). -/
def execTestPulseCheck (c : PulseCheck) (s : State) : Host.Outcome State Fault Refusal :=
  .next (if c.source < s.unit.variant.pulses then s.pulseCheck c else s).settle
/-- SOURCE_OVERLOAD (R241). -/
def execSourceOverload (source : Nat) (s : State) : Host.Outcome State Fault Refusal :=
  .next (if source < s.unit.variant.pulses then s.sourceFails source 2 else s).settle
/-- OUTPUT_SWITCH_TEST (R247). -/
def execOutputSwitchTest (t : SwitchTest) (s : State) : Host.Outcome State Fault Refusal :=
  .next (if t.channel < s.unit.variant.outputs then s.switchTest t else s).settle
/-- EXTERNAL_FEED (R250). -/
def execExternalFeed (m : FeedMeasure) (s : State) : Host.Outcome State Fault Refusal :=
  .next (if m.channel < s.unit.variant.outputs then s.measureOff m else s).settle
/-- OUTPUT_OVERLOAD (R250): a channel, or every on channel of a group whose current it is (R259). -/
def execOutputOverload (channel : Nat) (wholeGroup : Bool) (milliAmp : Nat) (s : State) :
    Host.Outcome State Fault Refusal :=
  .next (if wholeGroup then
      if channel < s.unit.variant.groups then
        ((((List.range' (8 * channel) 8).filter s.field.energised).foldl State.overload s).modGroup channel (fun x =>
          { x with milliAmp := milliAmp })).report 0x3032 0xFF milliAmp channel
      else s
    else if channel < s.unit.variant.outputs then
      ((s.overload channel).modOutput channel (fun o => { o with milliAmp := milliAmp })).report 0x3032 channel
        milliAmp (channel / 8)
    else s).settle
/-- GROUP_SUPPLY_STATE (R253). -/
def execGroupSupplyState (group : Nat) (inputSide : Bool) (mv : Nat) (s : State) : Host.Outcome State Fault Refusal :=
  .next (if group < s.unit.variant.groups then s.measureGroup group inputSide mv else s).settle
/-- GROUP_SWITCH_FAULT (R254). -/
def execGroupSwitchFault (group : Nat) (readBack : Bool) (s : State) : Host.Outcome State Fault Refusal :=
  let g := s.field.groups.getD group {}
  .next (if group < s.unit.variant.groups && g.switchOn ≠ readBack && !g.switchFault then
    (s.modGroup group (fun x => { x with switchFault := true, readBack := readBack })).report 0x3041 group
      (if g.switchOn then 1 else 0) (if readBack then 1 else 0) else s).settle

end Sys2Proof.Machine
end

