-- ==== Sys2Proof/Machine/Permit.lean ====
section
/-! DEFINITION. Ashlar, the diverse permit logic: loading, the cycle code, trips and holds, permit equations, inhibit
terms, group switches and vital marks (R184 to R202), with their rows. -/

namespace Sys2Proof.Machine

/-! ### Permit equations and inhibit terms (R46, R195 to R197, R200) -/

/-- Whether a literal byte of the frozen table is used. -/
def usedLiteral (b : Byte) : Bool := b != 0xFF#8

/-- Whether a literal reads a local input that Ashlar cannot rely on: a stale channel or a FAILED input (R197, R240). -/
def Ashlar.doubtful (a : Ashlar) (b : Byte) : Bool :=
  !b.getLsbD 6 && (a.inputStale || !a.inputsValid.getLsbD (b.toNat % 64))

/-- A literal on its source with its sense; outside ARMED every demand bit is false (R46, R197). -/
def Ashlar.literal (a : Ashlar) (b : Byte) : Bool :=
  let src := if b.getLsbD 6 then a.state == .armed && a.demand.getLsbD (b.toNat % 32)
    else a.inputs.getLsbD (b.toNat % 64)
  src == b.getLsbD 7

/-- The literals of permit equation n that are used. -/
def Ashlar.equation (a : Ashlar) (n : Nat) : List Byte := (slice a.table (8 * n) 8).filter usedLiteral

/-- Permit equation n: the AND of its used literals; none never permits (R46, R47, R240). -/
def Ashlar.permits (a : Ashlar) (n : Nat) : Bool :=
  !(a.equation n).isEmpty && (a.equation n).all (fun b => !a.doubtful b && a.literal b)

/-- Inhibit term n: the OR of its used literals; a doubtful literal counts as true (R46, R197, R240). -/
def Ashlar.inhibits (a : Ashlar) (n : Nat) : Bool :=
  ((slice a.table (256 + 4 * n) 4).filter usedLiteral).any (fun b => a.doubtful b || a.literal b)

/-- A number whose bits below `k` are given by a predicate. -/
def bitSum (k : Nat) (p : Nat → Bool) : Nat := ((List.range k).map (fun n => bit (p n) n)).sum

/-- The groups whose GROUP_MASKS entry selects a term, 32 from `base` upwards, one bit each (R200). -/
def Ashlar.groupsOf (a : Ashlar) (term base : Nat) : Nat :=
  bitSum 32 (fun g => (u16 a.table (320 + 2 * (base + g))).testBit term)

/-- Every equation, term and group switch evaluated again; each inhibit term that changes is recorded (R197, R200). -/
def State.ashEval (s : State) : State :=
  let a := s.ash
  let v := s.unit.variant
  let inh := BitVec.ofNat 16 (bitSum 16 a.inhibits)
  let a1 := { a with
    inhibit := inh
    permit := if a.grants && !a.inputStale then word (bitSum 32 (fun n => n < v.outputs && a.permits n)) else 0
    groupSw := if a.grants then BitVec.ofNat 4 (bitSum 4 (fun g => g < v.groups &&
      (List.range 8).any (fun k => !(a.equation (8 * g + k)).isEmpty))) else 0 }
  let s1 := { s with ash := a1 }
  (List.range 16).foldl (fun s n =>
    if inh.getLsbD n = a.inhibit.getLsbD n then s
    else s.event 0x2050 .ash .info (n + (if inh.getLsbD n then 256 else 0)) (a.groupsOf n 0) (a.groupsOf n 32)) s1

/-! ### Hold lines (R181, R186, R369) -/

/-- The hold lines as they read from now on: a change of any is event 0x2040 with the bitmap, and every grant is judged
again (R186, R195). -/
def State.holdLines (s : State) (lines : HoldLines) : State :=
  if lines = s.ash.hold then s
  else (({ s with ash := { s.ash with hold := lines } }).event 0x2040 .ash .info (holdBitmap lines)).ashEval

/-- The line from the cluster comparators (R181, R186). -/
def State.holdLockstep (s : State) (on : Bool) : State := s.holdLines { s.ash.hold with lockstep := on }
/-- The attach-sense lines of the debug header (R186). -/
def State.holdDebug (s : State) (on : Bool) : State := s.holdLines { s.ash.hold with debug := on }
/-- The life-cycle fuses as Ashlar reads them (R186, R369). -/
def State.holdLifecycle (s : State) : State := s.holdLines { s.ash.hold with lifecycle := !s.vitalLifecycle }

/-- Lines as they can read: a line whose condition is present is set (R186). -/
def State.presentHolds (s : State) (h : HoldLines) : HoldLines :=
  ⟨h.lockstep || s.vote.lockstepBroken, h.debug || debugHolds s.sec.debug, h.lifecycle || !s.vitalLifecycle⟩

/-! ### Reset, trips, READY (R185, R187, R191, R195) -/

/-- Ashlar as its reset leaves it: DISARMED with every register of R201 at its reset value; what it reads from outside
stays (R185, R201). -/
def Ashlar.reset (a : Ashlar) : Ashlar :=
  { hold := a.hold, supplyOk := a.supplyOk, inputs := a.inputs, inputsValid := a.inputsValid, inputUs := a.inputUs,
    clockSide1Bad := a.clockSide1Bad, lastMark := a.lastMark }

/-- A reset of Ashlar: the crossings to and from it fence (R225, R228). On its own channel it takes up the sequence of
the field side (log entry 80). -/
def State.resetAshlar (s : State) : State :=
  (({ s with ash := { s.ash.reset with inSeq := s.field.ashSent - 1, outSeq := s.field.ashSeq + 1 } }).ashEval).fenceAll
    [.nwAs, .fbAs, .clAs, .asCl]

/-- A new challenge from Ashlar's generator (R191). -/
def State.drawChallenge (s : State) : State :=
  { s with draws := s.draws + 1, ash := { s.ash with challenge := Config.ashlarChallenge s.draws } }

/-- Entry into READY, with no period and a new challenge (R185, R191, R192). -/
def State.ashReady (s : State) : State :=
  (({ s with ash := { s.ash with state := .ready, period := none } }).drawChallenge).ashEval

/-- A trip: everything withheld, event 0x2010, and the module enters SAFE (R195). -/
def State.ashTrip (s : State) (cause expected seen : Nat) : State :=
  (((({ s with ash := { s.ash with state := .tripped, cause := cause } }).ashEval).event 0x2010 .ash .f3 cause expected
    seen).enterSafe 0x2010)

/-! ### Cycle codes (R190 to R193) -/

/-- A code in READY is valid: PERIOD a multiple of 5 from 10 to 100 and the correct RESPONSE (R192). -/
def Ashlar.validCode (a : Ashlar) (c : Word) : Bool :=
  let p := (codePeriod c).toNat
  p % 5 == 0 && 10 ≤ p && p ≤ 100 && codeResponse c == response a.challenge

/-- An accepted code: its count, arrival and demand word, a new challenge (R191, R192, R193). -/
def State.acceptCode (s : State) (c d : Word) (st : AshlarState) : State :=
  (({ s with ash := { s.ash with
    state := st, period := some (codePeriod c).toNat, lastCount := codeCount c, lastUs := s.opUs, codeSeen := true,
    demand := d } }).drawChallenge).ashEval

/-- Whether an instant lies from 0.8 × P to 1.25 × P after the last accepted code (R192). -/
def Ashlar.inWindow (a : Ashlar) (now p : Nat) : Bool := a.lastUs + 800 * p ≤ now && now ≤ a.lastUs + 1250 * p

/-- A code in READY (R192). -/
def State.codeInReady (s : State) (c d : Word) : State :=
  let a := s.ash
  match a.period with
  | none => if a.validCode c then s.acceptCode c d .ready else s.ashReady
  | some p =>
    if a.validCode c && (codePeriod c).toNat == p && codeCount c == a.lastCount + 1 && a.inWindow s.opUs p then
      s.acceptCode c d (if a.blocked then .ready else .armed)
    else s.ashReady

/-- The commands that complete once Ashlar has accepted the halt code (R340). -/
def State.haltAccepted (s : State) : State :=
  s.eng.waiting.foldl (fun s w => match w with
    | .benchStop q =>
      ({ s with eng := { s.eng with waiting := s.eng.waiting.filter (· != w) } }).deliver
        { req := q, opcode := 0x0402, status := Status.ok.code, arrival := q.arrival }
    | _ => s) s

/-- A code in ARMED: the first trip cause, else acceptance; a halt code returns Ashlar to READY (R193). -/
def State.codeInArmed (s : State) (c d : Word) : State :=
  let a := s.ash
  let p := a.period.getD 0
  let halt := codePeriod c = 0
  let since := s.opUs - a.lastUs
  if !halt && s.opUs < a.lastUs + 800 * p then s.ashTrip 1 (800 * p) since
  else if a.lastUs + 1250 * p < s.opUs then s.ashTrip 2 (1250 * p) since
  else if codeCount c ≠ a.lastCount + 1 then s.ashTrip 3 (a.lastCount + 1).toNat (codeCount c).toNat
  else if codeResponse c ≠ response a.challenge then
    s.ashTrip 4 (response a.challenge).toNat (codeResponse c).toNat
  else if halt then
    ((s.ashReady).event 0x2011 .ash .info s.bench.lastO (codeCount c).toNat).haltAccepted
  else if (codePeriod c).toNat ≠ p then s.ashTrip 5 p (codePeriod c).toNat
  else s.acceptCode c d .armed

/-- A code at Ashlar, in the state it finds it (R192, R193); DISARMED and TRIPPED take none. -/
def State.codeAt (s : State) (c d : Word) : State :=
  match s.ash.state with
  | .ready => s.codeInReady c d
  | .armed => s.codeInArmed c d
  | .disarmed | .tripped => s

/-- The word of what the cluster handed over: a halt code answers the challenge current when it crosses (R190, R193). -/
def CodeOut.words (k : CodeOut) (challenge : BitVec 16) : Word × Word :=
  match k with
  | .cycle c d => (c, d)
  | .halt count => (cycleCodeWord 0 count (response challenge), 0)

/-- The next code handed over by the cluster, or what reaches Ashlar in its place. A fenced crossing brings none; the
commands that wait for a halt code complete, as an Ashlar in reset holds everything off (R225, R184). -/
def State.takeCode (s : State) (seen : Option (Word × Word)) : State :=
  let s1 := { s with bench := { s.bench with codes := s.bench.codes.tail } }
  if (s.xing .clAs).linkDown then
    match s.bench.codes with
    | .halt _ :: _ => s1.haltAccepted
    | _ => s1
  else match seen, s.bench.codes with
  | some x, _ => s1.codeAt x.1 x.2
  | none, k :: _ =>
    let x := k.words s.ash.challenge
    let s2 := s1.codeAt x.1 x.2
    match k, s.ash.state with
    | .halt _, .ready | .halt _, .disarmed => s2.haltAccepted
    | _, _ => s2
  | none, [] => s1

/-! ### Loading (R187 to R189) -/

/-- A completed activation after the relatch (R54, R344). -/
def State.relatched (s : State) : State :=
  s.eng.waiting.foldl (fun s w => match w with
    | .relatch q =>
      ({ s with eng := { s.eng with waiting := s.eng.waiting.filter (· != w) } }).deliver
        { req := q, opcode := 0x0704, status := Status.ok.code, arrival := q.arrival }
    | _ => s) s

/-- A load failure or a readback difference: event 0x2002, and the module enters SAFE (R188). -/
def State.loadFails (s : State) (src : Source) (cause : Nat) (expected computed : Word) : State :=
  ((s.event 0x2002 src .f3 cause expected.toNat computed.toNat).startFailed 0x2002).enterSafe 0x2002

/-- The end of Ashlar's load of its table from the NAND store, and the cluster's readback (R187, R188). -/
def State.tableLoaded (s : State) (seen back : Option (List Byte)) : State :=
  match s.station with
  | none => s
  | some st =>
    if s.ash.state ≠ .disarmed || !s.ash.supplyOk || s.ash.latch then s
    else
      let t := padTo 512 (seen.getD st.ashlar)
      let own := crc32c (t.take 508)
      let stated := word (u32 t 508)
      if own ≠ stated then
        (({ s with ash := { s.ash with loadFail := true } }).loadFails .ash 1 stated own)
      else if crc32c t ≠ st.ashlarSectionCrc then
        (({ s with ash := { s.ash with loadFail := true } }).loadFails .ash 2 st.ashlarSectionCrc (crc32c t))
      else
        let s1 := ({ s with ash := { s.ash with
          table := t, latch := true, loadFail := false, codeSeen := false } }).ashReady
        let s2 := s1.event 0x2001 .ash .info stated.toNat
        let read := back.getD t
        if read ≠ st.ashlar then s2.loadFails .cl 3 (word (u32 st.ashlar 508)) (crc32c read) else s2.relatched.tryRun

/-! ### Clock counts (R194) -/

/-- Whether a count lies within ±3 % of 9,375 (R194). -/
def countOk (n : Nat) : Bool := 9094 ≤ n && n ≤ 9656

/-- A count taken by Ashlar (R194). -/
def State.ashCount (s : State) (n : Nat) : State :=
  let a := { s.ash with clock := BitVec.ofNat 16 n }
  if countOk n then
    let ended := a.blocked && a.blockedUntil.any (fun t => t ≤ s.opUs)
    { s with ash := { a with
      badCounts := 0
      blocked := a.blocked && !ended
      blockedUntil := if a.blocked && !ended then some (a.blockedUntil.getD (s.opUs + 1000)) else none } }
  else
    let bad := a.badCounts + 1
    let s1 := { s with ash := { a with badCounts := bad, blockedUntil := none } }
    if bad < 2 then s1
    else match a.state with
      | .armed => s1.ashTrip (if n < 9094 then 7 else 8) 9375 n
      | .tripped => s1
      | .disarmed | .ready =>
        let s2 := { s1 with ash := { s1.ash with blocked := true } }
        if bad = 2 then s2.event 0x2020 .ash .f0 n 0 else s2

/-- A count judged by the cluster: two consecutive ones out of range are an F3 cause in every power state (R194). -/
def State.clusterCount (s : State) (n : Nat) : State :=
  if countOk n then ({ s with ash := { s.ash with clockSide1Bad := 0 } }).causeOff 0x2020
  else
    let bad := s.ash.clockSide1Bad + 1
    let s1 := { s with ash := { s.ash with clockSide1Bad := bad } }
    if bad = 2 then ((s1.event 0x2020 .cl .f3 n 1).causeOn 0x2020).enterSafe 0x2020 else s1

/-! ### Frames with the field side (R196, R197, R240) -/

/-- An input frame at Ashlar: the debounced values of the used inputs and which of them are valid (R196, R240). Its SEQ is
taken, and Ashlar's next frame is new once the field side has taken the last (R256). -/
def State.ashInputs (s : State) : State :=
  let f := s.field
  let value (n : Nat) : Bool := (f.inputs.getD n {}).value
  let valid (n : Nat) : Bool :=
    f.inMode n != 0 && (f.inputs.getD n {}).fault == 0 && (f.inGroup n).state != 3 && !f.linkLost
  (({ s with ash := { s.ash with
    inputs := BitVec.ofNat 64 (bitSum 64 value), inputsValid := BitVec.ofNat 64 (bitSum 64 valid), inputUs := s.opUs,
    inputStale := false, inSeq := f.ashSent
    outSeq := if f.ashSeq = s.ash.outSeq then s.ash.outSeq + 1 else s.ash.outSeq } }).causeOff 0x2030).ashEval

/-- No valid input frame for 150 µs (R197). -/
def State.ashStale (s : State) : State :=
  if s.ash.inputStale || s.opUs < s.ash.inputUs + 150 then s
  else
    ((((({ s with ash := { s.ash with inputStale := true } }).ashEval).event 0x2030 .ash .f3
      ((s.opUs - s.ash.inputUs) / 50)).causeOn 0x2030).enterSafe 0x2030)

/-- Ashlar's permits and group switches at the field side (R196). -/
def State.fieldPermits (s : State) (permit : Word) (sw : BitVec 4) : State :=
  { s with field := { s.field with
    outputs := (withIndex s.field.outputs).map (fun (p : FieldOutput × Nat) => { p.1 with permit := permit.getLsbD p.2 })
    groups := (withIndex s.field.groups).map (fun (p : FieldGroup × Nat) => { p.1 with
      switchOn := sw.getLsbD p.2, readBack := if p.1.switchFault then p.1.readBack else sw.getLsbD p.2 })
    }.drive }

/-- An Ashlar frame at the field side: a valid one carries permits and group switches, any other is a missed slot; a frame
that is not acknowledged is sent again with its SEQ (R196, R256). -/
def State.ashFrame (s : State) (intact : Bool) : State :=
  if intact && s.ash.outSeq = s.field.ashSeq + 1 then
    ({ s with field := { s.field with
      ashSeq := s.ash.outSeq, ashMissed := 0
      ashSent := if s.ash.inSeq = s.field.ashSent then s.field.ashSent + 1 else s.field.ashSent } }).fieldPermits
        s.ash.permit
      s.ash.groupSw
  else { s with field := { s.field with ashMissed := s.field.ashMissed + 1 } }

/-! ### Vital marks (R198, R199) -/

/-- Ashlar's answer to a mark request: the mark, or none for WITHHELD (R198). -/
def Ashlar.mark (a : Ashlar) (now group : Nat) (linkKey : Word) (alive : BitVec 16) : Option Word :=
  let mask := u16 a.table (320 + 2 * group)
  let free := (List.range 16).all (fun n => !(mask.testBit n && a.inhibit.getLsbD n))
  let fresh := match a.period with
    | some p => a.codeSeen && now < a.lastUs + 1250 * p
    | none => false
  if a.grants && fresh && free then some (vitalMark linkKey alive) else none

/-! ### Rows of the table -/

/-- ASHLAR_RESET (R187). -/
def execAshlarReset (s : State) : Host.Outcome State Fault Refusal := .next s.resetAshlar.settle
/-- ASHLAR_SUPPLY_FAULT (R184). -/
def execAshlarSupplyFault (s : State) : Host.Outcome State Fault Refusal :=
  .next ({ s with ash := { s.ash with supplyOk := false } }).resetAshlar.settle
/-- ASHLAR_SUPPLY_RETURN (R184). -/
def execAshlarSupplyReturn (s : State) : Host.Outcome State Fault Refusal :=
  .next ({ s with ash := { s.ash with supplyOk := true } }).resetAshlar.settle
/-- ASHLAR_TABLE_LOAD_DONE (R188). -/
def execAshlarTableLoadDone (seen back : Option (List Byte)) (s : State) : Host.Outcome State Fault Refusal :=
  .next (s.tableLoaded seen back).settle
/-- CYCLE_CODE (R193). -/
def execCycleCode (seen : Option (Word × Word)) (s : State) : Host.Outcome State Fault Refusal :=
  .next (s.takeCode seen).settle
/-- ASHLAR_LATE (R193). -/
def execAshlarLate (s : State) : Host.Outcome State Fault Refusal :=
  let p := s.ash.period.getD 0
  .next (if s.ash.state = .armed && s.ash.lastUs + 1250 * p ≤ s.opUs then
    s.ashTrip 2 (1250 * p) (s.opUs - s.ash.lastUs) else s).settle
/-- ASHLAR_ARM_WINDOW_EXPIRY (R192). -/
def execAshlarArmWindowExpiry (s : State) : Host.Outcome State Fault Refusal :=
  .next (match s.ash.state, s.ash.period with
    | .ready, some p => if s.ash.lastUs + 1250 * p ≤ s.opUs then s.ashReady else s
    | _, _ => s).settle
/-- ASHLAR_TABLE_CHECK (R189): what Ashlar's engine reads of its frozen table. -/
def execAshlarTableCheck (seen : Option (List Byte)) (s : State) : Host.Outcome State Fault Refusal :=
  let t := padTo 512 (seen.getD s.ash.table)
  .next (if s.ash.state = .armed && crc32c (t.take 508) ≠ word (u32 t 508) then
    s.ashTrip 6 (u32 s.ash.table 508) (crc32c (t.take 508)).toNat else s).settle
/-- ASHLAR_CLOCK_COUNT (R194). -/
def execAshlarClockCount (cluster : Bool) (count : Nat) (s : State) : Host.Outcome State Fault Refusal :=
  .next (if cluster then s.clusterCount count else s.ashCount count).settle
/-- ASHLAR_HOLD_CHANGE (R186, R195): a line stays set while its condition is present. -/
def execAshlarHoldChange (lines : HoldLines) (s : State) : Host.Outcome State Fault Refusal :=
  .next (s.holdLines (s.presentHolds lines)).settle
/-- ASHLAR_INPUT_FRAME (R197). -/
def execAshlarInputFrame (intact : Bool) (s : State) : Host.Outcome State Fault Refusal :=
  .next (if intact && s.unit.variant.groups ≠ 0 && s.ash.supplyOk && s.field.ashSent = s.ash.inSeq + 1 then s.ashInputs
    else s).settle
/-- ASHLAR_INPUT_STALE (R197). -/
def execAshlarInputStale (s : State) : Host.Outcome State Fault Refusal :=
  .next (if s.unit.variant.groups ≠ 0 && s.ash.supplyOk then s.ashStale else s).settle
/-- ASHLAR_PERMIT_FRAME (R196). -/
def execAshlarPermitFrame (intact : Bool) (s : State) : Host.Outcome State Fault Refusal :=
  .next (if s.unit.variant.groups ≠ 0 then s.ashFrame intact else s).settle
/-- ASHLAR_FRAME_LOSS (R196): after 3 consecutive slots without a valid frame. -/
def execAshlarFrameLoss (s : State) : Host.Outcome State Fault Refusal :=
  .next (if s.unit.variant.groups ≠ 0 && 3 ≤ s.field.ashMissed then s.fieldPermits 0 0 else s).settle
/-- The crossing that carries the mark requests of a network: FB's for CAN, NW's for Ethernet (R221). -/
def markPath (can : Bool) : Crossing := if can then .fbAs else .nwAs

/-- MARK_REQUEST (R198): a fenced crossing carries no request (R225). -/
def execMarkRequest (can : Bool) (group : Nat) (linkKey : Word) (alive : BitVec 16) (s : State) :
    Host.Outcome State Fault Refusal :=
  .next (if (s.xing (markPath can)).linkDown then s
    else { s with ash := { s.ash with lastMark := some (s.ash.mark s.opUs group linkKey alive) } })

end Sys2Proof.Machine
end

