-- ==== Sys2Proof/Machine/Can.lean ====
section
/-! DEFINITION. The CAN FD ports: filters and receive queues, transmit FIFO, identifier clash, rate detection, error
confinement and bus-off (R261 to R280), with their rows. -/

namespace Sys2Proof.Machine

/-! ### Identifiers and rates (R262, R265, R266) -/

/-- The identifier of a frame of the module to a node (R262). -/
def frameId (prio node : Nat) : Nat := prio * 2 ^ 26 + node
/-- PRIO of an identifier (R262). -/
def prioOf (ident : Nat) : Nat := ident / 2 ^ 26
/-- DIR of an identifier (R262). -/
def fromNode (ident : Nat) : Bool := ident.testBit 25
/-- NODE of an identifier (R262). -/
def nodeOfId (ident : Nat) : Nat := ident % 4096

/-- A nominal rate code in kbit/s (R48). -/
def nominalRate : Nat → Nat
  | 1 => 125
  | 2 => 250
  | 3 => 500
  | _ => 1000
/-- A data rate code in kbit/s; 0 is the nominal rate (R48). -/
def dataRateOf (nominal : Nat) : Nat → Nat
  | 0 => nominalRate nominal
  | 1 => 2000
  | 2 => 4000
  | _ => 5000
/-- t_frame in 0.01 µs (R266). -/
def frameTime (nominal data : Nat) : Nat := 5800000 / nominalRate nominal + 67900000 / dataRateOf nominal data

/-! ### Ports -/

/-- A port. -/
def State.port (s : State) (k : Nat) : CanPort := s.can.getD k {}
/-- A port, changed. -/
def State.modPort (s : State) (k : Nat) (f : CanPort → CanPort) : State := { s with can := upd s.can k f }
/-- The CAN_PORTS entry of a port. -/
def State.canConfig (s : State) (k : Nat) : Option CanConfig := s.station.bind (fun st => st.can[k]?)
/-- Whether the variant has a port. -/
def State.canPresent (s : State) (k : Nat) : Bool := k < s.unit.variant.canPorts
/-- Whether a port runs as a node of its segment (R277). -/
def State.canRuns (s : State) (k : Nat) : Bool :=
  s.canPresent k && ((s.canConfig k).map CanConfig.enable).getD false
/-- Whether a port is in listen-only rate detection (R18, R267, R277). -/
def State.canDetects (s : State) (k : Nat) : Bool := s.canPresent k && s.station.isNone

/-- The rates in use: configured, or the candidates of the detection. -/
def State.canRates (s : State) (k : Nat) : Nat × Nat :=
  match s.canConfig k with
  | some c => (c.nominal, c.dataRate)
  | none => ((s.port k).nominal, (s.port k).dataRate)

/-- A frame's time on the bus, for the load of the last second (R279): at most t_frame, that of the nominal rate without
a bit-rate switch (R266, R280). -/
def State.busTaken (s : State) (k : Nat) (brs : Bool) : State :=
  let r := s.canRates k
  let t := Config.busTime s.draws % (frameTime r.1 (if brs then r.2 else 0) + 1)
  ({ s with draws := s.draws + 1 }).modPort k (fun p => { p with
    loadBits := (s.opUs, t) :: p.loadBits.filter (fun x => s.opUs < x.1 + 1000000) })

/-! ### Error confinement (R275) -/

/-- Error passive as the counters say; an entry or return records 0x4010 (R275). -/
def State.confine (s : State) (k : Nat) : State :=
  let p := s.port k
  let now := 127 < p.tec || 127 < p.recv
  if now = p.passive then s
  else (s.modPort k (fun p => { p with passive := now })).event 0x4010 .fb .f0 k (if now then 1 else 0) (saturate 8 p.tec)

/-- What an error adds to the transmit error counter (R275, log entry 10): nothing for a missing ACK in error passive with
no dominant bit in the passive error flag, nor for a stuff error in arbitration. -/
def tecRise (passive : Bool) (e : BusError) : Nat :=
  match e.kind with
  | .ack false => if passive then 0 else 8
  | .stuff => if e.afterArbitration then 8 else 0
  | .bit | .crc | .form | .ack true | .afterFlag => 8

/-- What an error adds to the receive error counter (R275, log entry 10). -/
def recRise (e : BusError) : Nat :=
  match e.kind with
  | .afterFlag => 8
  | .bit | .stuff | .crc | .form | .ack _ => 1

/-- The error counters after an error (R275). -/
def CanPort.countError (p : CanPort) (e : BusError) : CanPort :=
  if e.transmitting then { p with tec := p.tec + tecRise p.passive e }
  else { p with recv := Nat.min 255 (p.recv + recRise e) }

/-- Bus-off: frames CANCELLED, F2 for the segment, event 0x4011 (R276). The management core has it over a toggle crossing:
a pulse while either side is in reset is lost (R221, R227). -/
def State.busOff (s : State) (k : Nat) : State :=
  let p := s.port k
  let down := (s.xing .fbMg).linkDown
  let s1 := s.modPort k (fun p => { p with
    fifo := [], rest := [], fresh := [], busOff := true, segmentLost := true, busOffUs := s.opUs
    busOffCount := p.busOffCount + 1, offLevel := !p.offLevel, offSeen := if down then p.offSeen else !p.offLevel })
  if down then s1 else s1.event 0x4011 .fb .f2 k (p.fifo.length + p.rest.length + p.fresh.length)

/-! ### The transmit FIFO (R268 to R270) -/

/-- The FIFO filled from the builder's list. -/
def CanPort.feed (p : CanPort) : CanPort :=
  let room := 32 - p.fifo.length
  { p with fifo := p.fifo ++ p.rest.take room, rest := p.rest.drop room }

/-- A frame into a list in ascending identifier order, after those of its own identifier. -/
def insertFrame (f : TxFrame) : List TxFrame → List TxFrame
  | [] => [f]
  | g :: l => if f.ident < g.ident then f :: g :: l else g :: insertFrame f l

/-- Frames in ascending identifier order. -/
def sortFrames (l : List TxFrame) : List TxFrame := l.foldl (fun acc f => insertFrame f acc) []

/-- Whether an identifier is blocked after an ID_CLASH (R272). -/
def CanPort.isBlocked (p : CanPort) (ident : Nat) : Bool := p.blocked.any (fun b => b.1 == ident)

/-- The commit of new frames (R269): waiting entries cancelled, superseded ones dropped with the lower PRIO kept, all in
identifier order. A head whose arbitration has begun is TOO_LATE and stays (R270). -/
def CanPort.reorder (p : CanPort) (headBegun : Bool) : CanPort :=
  let kept := if headBegun then (p.fifo.take 1).map (fun f => { f with tooLate := true }) else []
  let waiting := (if headBegun then p.fifo.drop 1 else p.fifo) ++ p.rest
  let prio (f : TxFrame) : TxFrame :=
    let low := (waiting.filter (fun g => g.node == f.node)).foldl (fun m g => Nat.min m (prioOf g.ident)) (prioOf f.ident)
    { f with ident := frameId low f.node }
  let old := waiting.filter (fun g => !p.fresh.any (fun f => f.node == g.node))
  let all := (sortFrames (old ++ p.fresh.map prio)).filter (fun f => !p.isBlocked f.ident)
  ({ p with fifo := kept, rest := all, fresh := [] }).feed

/-- A frame of the FIFO's head sent without error (R270, R272). -/
def State.txDone (s : State) (k : Nat) : State :=
  match (s.port k).fifo with
  | [] => s
  | f :: l =>
    let s1 := s.modPort k (fun p => ({ p with
      fifo := l, txDone := p.txDone + 1, tec := p.tec - 1
      clash := p.clash.filter (fun c => c.1 != f.ident) }).feed)
    let s2 := { s1 with outbox := s1.outbox ++ [Output.can k f.ident f.data] }
    (s2.busTaken k true).confine k

/-- A TOO_LATE head that ends CANCELLED goes back at its identifier position, unless a newer frame for its node is queued
(R270): that one then takes a PRIO 0 over, which a RESTRICTIVE demand keeps until it is sent (R269). -/
def CanPort.cancelled (p : CanPort) : CanPort :=
  match p.fifo with
  | f :: l =>
    if f.tooLate then
      let q := l ++ p.rest
      let heir (g : TxFrame) : TxFrame :=
        if g.node = f.node && prioOf f.ident = 0 then { g with ident := frameId 0 g.node } else g
      let all := if q.any (fun g => g.node == f.node) then sortFrames (q.map heir)
        else insertFrame { f with tooLate := false } q
      ({ p with fifo := [], rest := all }).feed
    else p
  | [] => p

/-! ### Identifier clash (R272) -/

/-- A POST_ARB_BIT_ERROR of the head; the sixteenth in a row aborts it (R272). -/
def State.postArbError (s : State) (k : Nat) : State :=
  let down := (s.xing .fbMg).linkDown
  match (s.port k).fifo with
  | [] => s
  | f :: _ =>
    let n := countOf (s.port k).clash f.ident + 1
    if n < 16 then s.modPort k (fun p => { p with
      clash := setCount p.clash f.ident n, postArb := p.postArb.cross down })
    else
      (s.modPort k (fun p => ({ p with
        postArb := p.postArb.cross down
        clash := p.clash.filter (fun c => c.1 != f.ident), clashCount := p.clashCount + 1
        blocked := (f.ident, s.opUs + 1000000) :: p.blocked.filter (fun b => b.1 != f.ident)
        fifo := p.fifo.filter (fun g => g.ident != f.ident)
        rest := p.rest.filter (fun g => g.ident != f.ident) }).feed)).event 0x4030 .fb .info k f.ident

/-! ### Listen-only rate detection (R267) -/

/-- The rates that a port has locked, 0 for one that has not (R267). -/
def CanPort.lockedRates (p : CanPort) : Nat × Nat :=
  (if p.nominalLocked then p.nominal else 0, if p.dataLocked then p.dataRate else 0)

/-- Event 0x4001 with the rates locked so far. -/
def State.rateLocked (s : State) (k : Nat) : State :=
  let p := s.port k
  s.event 0x4001 .fb .info k p.nominal (if p.dataLocked then p.dataRate else 0)

/-- The next nominal candidate, with the data candidate reset (R267). -/
def State.nextNominal (s : State) (k : Nat) : State :=
  s.modPort k (fun p => if p.nominalLocked then p
    else { p with nominal := p.nominal % 4 + 1, dataRate := 1, goodRun := 0, goodBrs := 0, lastFrameUs := s.opUs })

/-- An error-free frame in detection (R267). -/
def State.goodFrame (s : State) (k : Nat) (brs : Bool) : State :=
  let s1 := s.modPort k (fun p => { p with
    goodRun := p.goodRun + 1, goodBrs := if brs then p.goodBrs + 1 else p.goodBrs, lastFrameUs := s.opUs })
  let p := s1.port k
  let s2 := if 3 ≤ p.goodRun && !p.nominalLocked then
    (s1.modPort k (fun p => { p with nominalLocked := true })).rateLocked k else s1
  let p := s2.port k
  if 3 ≤ p.goodBrs && !p.dataLocked then
    (s2.modPort k (fun p => { p with dataLocked := true })).rateLocked k else s2

/-- A bus error in detection: before the BRS sample point for the nominal rate, after it for the data rate (R267). -/
def State.detectError (s : State) (k : Nat) (e : BusError) : State :=
  let s1 := s.modPort k (fun p => { p with goodRun := 0, goodBrs := 0 })
  if e.afterBrs then
    s1.modPort k (fun p => if p.dataLocked then p else { p with dataRate := p.dataRate % 3 + 1 })
  else s1.nextNominal k

/-! ### Reception (R264, R273, R274) -/

/-- The action of the first filter pair that matches; none matching rejects (R273). -/
def filterAction (fs : List Filter) (f : CanFrame) : Nat :=
  match fs.find? (fun x => x.action != 0 && x.ide == f.extended && (f.ident &&& x.mask) == x.pattern) with
  | some x => x.action
  | none => 3

/-- A frame into Q0 or Q1, or discarded when the queue is full (R274). -/
def State.queueFrame (s : State) (k : Nat) (second : Bool) (f : CanFrame) : State :=
  let p := s.port k
  let down := (s.xing .fbMg).linkDown
  let r : RxFrame := {
    data := f.data, ident := f.ident, extended := f.extended, fd := f.fd, arrivalUs := s.opUs / 10 * 10 }
  if second then
    if p.q1.length < 64 then s.modPort k (fun p => { p with
      q1 := p.q1 ++ [r], rxQueued := p.rxQueued + 1, q1Count := p.q1Count.cross down })
    else (s.modPort k (fun p => { p with q1Overflow := p.q1Overflow + 1 })).event 0x4020 .fb .info k 1 (p.q1Overflow + 1)
  else
    if p.q0.length < 32 then s.modPort k (fun p => { p with
      q0 := p.q0 ++ [r], rxQueued := p.rxQueued + 1, q0Count := p.q0Count.cross down })
    else (s.modPort k (fun p => { p with q0Overflow := p.q0Overflow + 1 })).event 0x4020 .fb .info k 0 (p.q0Overflow + 1)

/-- A received frame at a port of a segment (R273, R275). -/
def State.receiveFrame (s : State) (k : Nat) (f : CanFrame) : State :=
  let s1 := ((s.modPort k (fun p => { p with recv := if 127 < p.recv then 127 else p.recv - 1 })).confine k).busTaken k f.brs
  let reject (s : State) : State := s.modPort k (fun p => { p with rxRejected := p.rxRejected + 1 })
  if f.remote then reject s1
  else match filterAction (((s.canConfig k).map CanConfig.filters).getD []) f with
    | 1 => s1.queueFrame k false f
    | 2 => s1.queueFrame k true f
    | _ => reject s1

/-- Why a queued frame is not usable as a telegram: 0 classic, 1 wrong length, 2 wrong direction, 3 identifier mismatch
(R264). -/
def RxFrame.unusable (f : RxFrame) : Option Nat :=
  if !f.fd || !f.extended then some 0
  else if f.data.length ≠ 64 then some 1
  else if !fromNode f.ident then some 2
  else if nodeOfId f.ident ≠ ofBe (slice f.data 1 2) / 16 then some 3 else none

/-- Frames a CAN port passes to the check unit, Q0 before Q1; the others are counted by kind (R264, R274). -/
def State.drainPort (s : State) (k : Nat) : State :=
  let p := s.port k
  (p.q0 ++ p.q1).foldl (fun s f =>
    match f.unusable with
    | some kind =>
      let n := (s.port k).unusable.getD kind 0 + 1
      (s.modPort k (fun p => { p with unusable := p.unusable.set kind n })).event 0x4021 .fb .info k kind n
    | none =>
      if s.net.buffer.length < 4096 then
        { s with net := { s.net with buffer := s.net.buffer ++ [⟨k, f.data, f.arrivalUs, false⟩] } }
      else ({ s with net := { s.net with bufferDropped := s.net.bufferDropped + 1 } }).event 0x5060 .nw .info
        (s.net.bufferDropped + 1)) (s.modPort k (fun p => { p with q0 := [], q1 := [] }))

/-- `drainPort` for every port. -/
def State.drainPorts (s : State) : State := (List.range 8).foldl State.drainPort s

/-! ### The status record (R279) -/

/-- STATE of the port record (R279). -/
def State.canState (s : State) (k : Nat) : Nat :=
  let p := s.port k
  if !s.canPresent k then 6
  else if s.canDetects k then (if p.nominalLocked then 2 else 1)
  else if !s.canRuns k then 0
  else if p.busOff then 5 else if p.passive then 4 else 3

/-- The port record (R279). -/
def State.canRecord (s : State) (k : Nat) : List Byte :=
  let p := s.port k
  let rates := if s.canDetects k then p.lockedRates else s.canRates k
  let load := ((p.loadBits.filter (fun x => s.opUs < x.1 + 1000000)).map Prod.snd).sum / 100000
  [BitVec.ofNat 8 (s.canState k), BitVec.ofNat 8 rates.1, BitVec.ofNat 8 rates.2, BitVec.ofNat 8 p.fifo.length,
   BitVec.ofNat 8 (saturate 8 p.tec), BitVec.ofNat 8 p.recv, BitVec.ofNat 8 p.q0.length, BitVec.ofNat 8 p.q1.length]
    ++ le 2 p.busOffCount ++ le 2 p.clashCount ++ le 4 p.txDone ++ le 4 p.rxQueued ++ le 4 p.rxRejected
    ++ le 2 p.q0Overflow ++ le 2 p.q1Overflow ++ le 2 load ++ [0, 0]

/-! ### Rows of the table -/

/-- CAN_FRAME_RECEIVED (R273). In stand-alone operation every data frame reaches the node list (R19). -/
def execCanFrameReceived (port : Nat) (f : CanFrame) (s : State) : Host.Outcome State Fault Refusal :=
  .next (if s.canDetects port then
      let s1 := (s.goodFrame port f.brs).busTaken port f.brs
      if f.remote then s1.modPort port (fun p => { p with rxRejected := p.rxRejected + 1 })
      else s1.queueFrame port true f
    else if s.canRuns port && !(s.port port).busOff then s.receiveFrame port f else s).settle
/-- RATE_DETECT_TIMEOUT (R267). -/
def execRateDetectTimeout (port : Nat) (s : State) : Host.Outcome State Fault Refusal :=
  .next (if s.canDetects port && (s.port port).lastFrameUs + 250000 ≤ s.opUs then s.nextNominal port else s).settle
/-- CAN_COMMIT_REORDER (R269): the commit crosses from CL (R221). -/
def execCanCommitReorder (port : Nat) (headBegun : Bool) (s : State) : Host.Outcome State Fault Refusal :=
  .next (if s.canRuns port && !(s.port port).busOff && !(s.xing .clFb).linkDown then
    s.modPort port (fun p => p.reorder headBegun) else s).settle
/-- CAN_TX_DONE (R270). -/
def execCanTxDone (port : Nat) (s : State) : Host.Outcome State Fault Refusal :=
  .next (if s.canRuns port then s.txDone port else s).settle
/-- CAN_TX_CANCELLED (R270). -/
def execCanTxCancelled (port : Nat) (s : State) : Host.Outcome State Fault Refusal :=
  .next (if s.canRuns port then s.modPort port CanPort.cancelled else s).settle
/-- Whether an error counts as a POST_ARB_BIT_ERROR: a bit error while transmitting after the arbitration field (R272). -/
def isPostArb (e : BusError) : Bool := e.transmitting && e.afterArbitration && e.kind == .bit

/-- A bus error at a port of a segment: its time on the bus, the counters, bus-off, and the count of R272. -/
def State.busError (s : State) (port : Nat) (e : BusError) : State :=
  let s1 := (s.busTaken port false).modPort port (fun p => p.countError e)
  if 255 < (s1.port port).tec then s1.busOff port
  else if isPostArb e then (s1.confine port).postArbError port else s1.confine port

/-- CAN_BUS_ERROR (R275): the counters of the standard (log entry 10), bus-off, and the count of R272. -/
def execCanBusError (port : Nat) (e : BusError) (s : State) : Host.Outcome State Fault Refusal :=
  .next (if s.canDetects port then (s.busTaken port false).detectError port e
    else if !s.canRuns port || (s.port port).busOff then s
    else s.busError port e).settle
/-- ID_CLASH_BLOCK_EXPIRY (R272). -/
def execIdClashBlockExpiry (port ident : Nat) (s : State) : Host.Outcome State Fault Refusal :=
  .next (s.modPort port (fun p => { p with
    blocked := p.blocked.filter (fun b => !(b.1 == ident && b.2 ≤ s.opUs)) })).settle
/-- BUS_OFF_RECOVERY (R276): at least 1,408 nominal bit times after the entry. -/
def execBusOffRecovery (port : Nat) (s : State) : Host.Outcome State Fault Refusal :=
  let p := s.port port
  let least := 1408000 / nominalRate (s.canRates port).1
  .next (if p.busOff && p.busOffUs + least ≤ s.opUs then
    (s.modPort port (fun p => { p with busOff := false, tec := 0, recv := 0, passive := false })).event 0x4012 .fb .info port
      (s.opUs - p.busOffUs) else s).settle

end Sys2Proof.Machine
end

