-- ==== Sys2Proof/Machine/Telegrams.lean ====
section
/-! DEFINITION. Ramaro telegrams: the transmit builder, the check unit with its two lanes, time-outs, the safety network
and the stand-alone node list (R19, R281 to R304), with their rows. -/

namespace Sys2Proof.Machine

/-! ### The fields of a telegram (R281, R284) -/

/-- VERSION. -/
def tgVersion (b : List Byte) : Nat := u8 b 0 / 16
/-- TYPE. -/
def tgType (b : List Byte) : Nat := u8 b 0 % 16
/-- SOURCE. -/
def tgSource (b : List Byte) : Nat := ofBe (slice b 1 2) / 16
/-- DEST. -/
def tgDest (b : List Byte) : Nat := ofBe (slice b 2 2) % 4096
/-- EPOCH. -/
def tgEpoch (b : List Byte) : Nat := u8 b 4
/-- ALIVE. -/
def tgAlive (b : List Byte) : Nat := ofBe (slice b 5 2)
/-- LENGTH. -/
def tgLength (b : List Byte) : Nat := u8 b 7
/-- FLAGS of types 1 to 5. -/
def tgFlags (b : List Byte) : Nat := u8 b 8
/-- CYCLE of types 1 to 5. -/
def tgCycle (b : List Byte) : Nat := ofBe (slice b 9 4)
/-- COUNT of types 1 to 5. -/
def tgCount (b : List Byte) : Nat := u8 b 13
/-- Bytes of a record of a type. -/
def recordSize (type : Nat) : Nat := if type = 5 then 3 else 2
/-- The records of a telegram: OBJECT, KIND (0 outside BOUNDARY) and VALUE. -/
def tgRecords (b : List Byte) : List (Nat × Nat × Nat) :=
  (List.range (tgCount b)).map (fun i =>
    if tgType b = 5 then (u8 b (14 + 3 * i), u8 b (15 + 3 * i), u8 b (16 + 3 * i))
    else (u8 b (14 + 2 * i), 0, u8 b (15 + 2 * i)))

/-! ### The objects of a node (R30, R31, R284) -/

/-- The object numbers of a node with the elements that name them; an edge stands for its TDC object. -/
def State.objectsOf (s : State) (node : Nat) : List (Nat × Nat) :=
  (withIndex s.elements).filterMap (fun (p : Element × Nat) =>
    match p.1.part with
    | .edge _ _ _ _ _ n o _ => if n = node then some (o, p.2) else none
    | _ => if !p.1.loc && p.1.node = node && node ≠ 0 then some (p.1.object, p.2) else none)

/-! ### The transmit builder (R284, R286 to R288, R293, R297, R301) -/

/-- The module's own node ID (R282). -/
def State.ownId (s : State) : Nat := ((s.station.map Station.stationId).getD 0) % 4096

/-- NETWORK_ID. -/
def State.networkId (s : State) : Word := word ((s.station.map Station.networkId).getD 0)

/-- A telegram of the module to a node with its next ALIVE (R281, R286, R287); without an answer from Ashlar, its mark is
that of WITHHELD (R198, R225). -/
def State.telegram (s : State) (n : Node) (type cycle : Nat) (vital : Bool) (count : Nat) (recs : List Byte) :
    List Byte :=
  let alive := ((s.nodeDyn n.id).map NodeDyn.txAlive).getD 0
  let marked := vital && !(s.xing (markPath (n.port < 8))).linkDown
  let mark := if marked then (s.ash.mark s.opUs n.tgroup n.linkKey (BitVec.ofNat 16 alive)).getD 0 else 0
  let payload := [BitVec.ofNat 8 (bit s.bench.forcedShown 0 + bit vital 1)] ++ be 4 cycle ++ [BitVec.ofNat 8 count]
    ++ recs
  let head := [BitVec.ofNat 8 ((if n.poly = 3 then 2 else 3) * 16 + type)] ++ be 3 (s.ownId * 4096 + n.id)
    ++ [s.epoch] ++ be 2 alive ++ [BitVec.ofNat 8 payload.length]
  let body := padTo 60 (head ++ payload)
  body ++ safetyCode n.poly (seed s.networkId n.linkKey mark) body

/-- The MAC address that ARP has shown for an IPv4 address (R299). -/
def State.macOf (s : State) (ip : Word) : Option (BitVec 48) := (s.net.arp.find? (fun p => p.1 == ip)).map Prod.snd

/-- A sender's addresses taken from an ARP frame (R299). -/
def State.arpLearn (s : State) (ip : Word) (mac : BitVec 48) : State :=
  { s with net := { s.net with arp := (ip, mac) :: s.net.arp.filter (fun p => p.1 != ip) } }

/-- A telegram handed to its network (R126, R293, R299, R300): a frame for the CAN port, none while it is bus-off; on
PRP one copy on each LAN. The alive counter rises. -/
def State.sendTelegram (s : State) (n : Node) (prio : Nat) (b : List Byte) : State :=
  let s1 := s.modNode n.id (fun d => { d with txAlive := (d.txAlive + 1) % 65536 })
  if n.port < 8 then
    s1.modPort n.port (fun p => if p.busOff then p
      else { p with fresh := p.fresh ++ [{ ident := frameId prio n.id, node := n.id, data := b }] })
  else
    let ip := word (10 * 2 ^ 24 + s.networkId.toNat % 256 * 65536 + n.id)
    { s1 with
      net := { s1.net with prpSeq := (s1.net.prpSeq + 1) % 65536 }
      outbox := s1.outbox ++ [Output.lan 0 (s.macOf ip) ip b, Output.lan 1 (s.macOf ip) ip b] }

/-- The demand records to a node (R284): one for every object of the node. An object without a demand gets a free
value (log entry 5). -/
def State.demandRecords (s : State) (node : Nat) : List Byte :=
  (s.objectsOf node).flatMap (fun p =>
    [BitVec.ofNat 8 p.1,
     match (s.dyn p.2).committed with
     | some v => BitVec.ofNat 8 (v % 128)
     | none => (Config.idleValue s.draws p.2).setWidth 8])

/-- The value that a boundary link sends (R301): 0 IDLE, 1 OFFERED, 2 ACCEPTED. CLEAR is a state of a track section
(R32). -/
def State.boundaryValue (s : State) (link kind loc : Nat) : Nat :=
  let st (n : Nat) : Nat := (s.rdyn n).state.code
  let numbered := withIndex s.routes
  let lastIs (r : Route) : Bool := ((s.sections r.path).getLast?.map RouteEntry.element) == some loc
  let d := s.dyn loc
  let accepted :=
    match kind with
    | 2 => d.pathLock.isSome
    | 3 => s.typeOf loc == 1 && s.image loc == 0 && d.pathLock.isNone
    | 4 => d.locked
    | _ => false
  let offered :=
    match kind with
    | 1 => numbered.any (fun p => 3 ≤ st p.2 && st p.2 ≤ 5 && lastIs p.1)
    | 4 => numbered.any (fun p => 2 ≤ st p.2 && st p.2 ≤ 7 &&
        (p.1.condition.any (fun c => (s.termList c).any (fun t => t.element == link))))
    | _ => false
  if s.holdsSubst loc then 0 else if accepted then 2 else if offered then 1 else 0

/-- The records to a neighbour, one per link (R301). -/
def State.boundaryRecords (s : State) (node : Nat) : List (List Byte) :=
  (s.objectsOf node).filterMap (fun p =>
    match s.part p.2 with
    | .link _ kind loc =>
      some [BitVec.ofNat 8 p.1, BitVec.ofNat 8 kind, BitVec.ofNat 8 (s.boundaryValue p.2 kind loc)]
    | _ => none)

/-- The refresh period of a node in bench cycles (R297). -/
def State.refreshEvery (s : State) (n : Node) : Nat :=
  Nat.max 1 (s.timeRef n.tRef / ((s.station.map Station.tBench).getD 1))

/-- Whether a telegram to a node is due for refresh in a cycle (R297). -/
def State.refreshDue (s : State) (n : Node) (cycle : Nat) : Bool := (cycle + n.id) % s.refreshEvery n == 0

/-- PRIO of a telegram (R263). -/
def prioFor (n : Node) (d : NodeDyn) : Nat :=
  if d.restrictive then 0 else if n.cyclePoll then 1 else if d.demandsChanged then 2 else 3

/-- The telegrams of a phase O to one node (R133, R284, R288, R297, R301); `changes` is false in an overrun, which only
repeats what is due for refresh (R129). A route that entered LOCKED calls for a poll in the phase O after. -/
def State.buildFor (s : State) (n : Node) (cycle : Nat) (changes : Bool) : State :=
  match s.nodeDyn n.id with
  | none => s
  | some d =>
    let full := s.refreshDue n cycle || (changes && d.demandsChanged)
    let sent (s : State) : State :=
      let s1 := if n.cyclePoll then s.modNode n.id (fun d => { d with
        polls := (cycle, s.phaseOUs) :: d.polls, wantPoll := false }) else s
      if changes then s1.modNode n.id (fun d => { d with demandsChanged := false, restrictive := false }) else s1
    if full && n.neighbour then
      let recs := s.boundaryRecords n.id
      let first := recs.take 15
      let s1 := s.sendTelegram n (prioFor n d) (s.telegram n 5 cycle true first.length first.flatten)
      let more := recs.drop 15
      sent (if more.isEmpty then s1
        else s1.sendTelegram n (prioFor n d) (s1.telegram n 5 cycle true more.length more.flatten))
    else if full then
      let recs := s.demandRecords n.id
      let b := s.telegram n (if n.cyclePoll then 2 else 1) (if n.cyclePoll then cycle else 0) true
        (recs.length / 2) recs
      sent (({ s with draws := s.draws + 1 }).sendTelegram n (prioFor n d) b)
    else if changes && n.cyclePoll && d.wantPoll then
      sent (s.sendTelegram n 1 (s.telegram n 2 cycle false 0 []))
    else s

/-- The telegrams of a phase O to every node, in the order of the node table (R126). -/
def State.buildTelegrams (s : State) (cycle : Nat) (changes : Bool) : State :=
  s.nodeTable.foldl (fun s n => s.buildFor n cycle changes) s

/-! ### Discards and verdicts (R289, R303, R304) -/

/-- A discard reported: event 0x5001 with the SOURCE as received and the counter's code. -/
def State.discarded (s : State) (source code : Nat) : State := s.event 0x5001 .nw .info source code 1

/-- The counters of the node record that a discard moves (R303). -/
def NodeDyn.count (d : NodeDyn) (code : Nat) : NodeDyn :=
  if code = 5 || code = 6 then { d with codeFail := saturate 16 (d.codeFail + 1) }
  else if 9 ≤ code && code ≤ 11 then { d with sequence := saturate 16 (d.sequence + 1) }
  else if code = 8 then { d with lateEpoch := saturate 16 (d.lateEpoch + 1) }
  else { d with malformed := saturate 16 (d.malformed + 1) }

/-- INVALID_NODE or UNKNOWN_NODE counted at the port (R303). -/
def State.countPort (s : State) (port : Nat) (unknown : Bool) : State :=
  if port < 8 then s.modPort port (fun p =>
    if unknown then { p with unknownNode := saturate 32 (p.unknownNode + 1) }
    else { p with invalidNode := saturate 32 (p.invalidNode + 1) })
  else { s with net := { s.net with lans := upd s.net.lans (port - 8) (fun l =>
    if unknown then { l with unknownNode := saturate 32 (l.unknownNode + 1) }
    else { l with invalidNode := saturate 32 (l.invalidNode + 1) }) } }

/-- Versions and types that a node may send (R283); VITAL must be set in types 1 to 5 (R287). -/
def typeAllowed (n : Node) (b : List Byte) : Bool :=
  let t := tgType b
  let version := if n.poly = 3 then 2 else 3
  let known := t == 0
    || (if n.neighbour then t == 5 else t == 3 || (t == 4 && n.cyclePoll))
  tgVersion b == version && known && (t == 0 || (tgFlags b).testBit 1)

/-- LENGTH fits TYPE and COUNT and no OBJECT stands twice (R283, R289 step 8). -/
def lengthFits (b : List Byte) : Bool :=
  let t := tgType b
  if t = 0 then tgLength b == 0
  else
    let objects := (tgRecords b).map (fun r => r.1)
    tgLength b == 6 + recordSize t * tgCount b && tgCount b ≤ (if t = 5 then 15 else 23)
      && objects.eraseDups.length == objects.length

/-- What an accepted or held telegram does to the references. -/
inductive SeqStep
  | accept (newEpoch resynced : Bool)
  | hold
  | drop (code : Nat)
deriving DecidableEq, Repr

/-- The check of ALIVE and of a resynchronisation (R290, R292). -/
def NodeDyn.aliveStep (d : NodeDyn) (w reference alive : Nat) : SeqStep :=
  let diff := (alive + 65536 - reference) % 65536
  if 1 ≤ diff && diff ≤ w then .accept false false
  else
    let follows := d.resync.any (fun r => 1 ≤ (alive + 65536 - r) % 65536 && (alive + 65536 - r) % 65536 ≤ w)
    if d.dropped && diff ≠ 0 && follows then .accept false true
    else if diff = 0 then .drop 9 else if diff < 32768 then .drop 11 else .drop 10

/-- The checks of EPOCH and ALIVE (R290 to R292). -/
def NodeDyn.seqStep (d : NodeDyn) (w epoch alive : Nat) : SeqStep :=
  let continues := d.candidate.any (fun c => c.1 == epoch && 1 ≤ (alive + 65536 - c.2) % 65536
    && (alive + 65536 - c.2) % 65536 ≤ w)
  match d.reference, d.candidate with
  | none, none => .hold
  | none, some c =>
    if continues then .accept true false else if (epoch + 256 - c.1) % 256 ≤ 127 then .hold else .drop 8
  | some r, c =>
    let e := (epoch + 256 - r.1) % 256
    if 128 ≤ e then .drop 8
    else if e = 0 then (if c.isSome then .drop 8 else d.aliveStep w r.2 alive)
    else if continues then .accept true false
    else if c.any (fun c => e < (c.1 + 256 - r.1) % 256) then .drop 8
    else .hold

/-- The mark a lane computes for a received telegram (R287). -/
def laneMark (n : Node) (b : List Byte) : Word :=
  if tgType b = 0 || (tgFlags b).testBit 1 then vitalMark n.linkKey (BitVec.ofNat 16 (tgAlive b)) else 0

/-- The verdict of a lane on a telegram in the order of R289, coded as in R304, with what the references would do. -/
def State.verdict (s : State) (t : RxTelegram) : Nat × SeqStep :=
  let b := t.data
  let source := tgSource b
  if 52 < tgLength b then (1, .drop 1)
  else if source = 0 || source = 4095 then (2, .drop 2)
  else match s.node source, s.nodeDyn source with
    | some n, some d =>
      if n.port ≠ Nat.min t.port 8 then (4, .drop 4)
      else if safetyCode n.poly (seed s.networkId n.linkKey (laneMark n b)) (b.take 60) ≠ slice b 60 4 then (5, .drop 5)
      else if tgDest b ≠ s.ownId then (6, .drop 6)
      else if !typeAllowed n b then (7, .drop 7)
      else if !lengthFits b then (1, .drop 1)
      else match d.seqStep s.aliveWindow (tgEpoch b) (tgAlive b) with
        | .accept e r => (0, .accept e r)
        | .hold => (13, .hold)
        | .drop c => (c, .drop c)
    | _, _ => (3, .drop 3)

/-! ### Acceptance (R124, R137, R290 to R292, R298, R303) -/

/-- An interval between accepted telegrams recorded (R298): in RUN, none above the time-out in force. -/
def NodeDyn.interval (d : NodeDyn) (now : Nat) : NodeDyn :=
  match d.lastRxUs with
  | some t =>
    let i := (now - t) / 100
    if i ≤ d.timeout then { d with intervals := (i :: d.intervals).take 1000 } else d
  | none => d

/-- A node record after an accepted telegram. -/
def NodeDyn.accepts (d : NodeDyn) (t : RxTelegram) (run : Bool) : NodeDyn :=
  let d1 := if run then { d.interval t.arrivalUs with lastRxUs := some t.arrivalUs } else d
  { d1 with
    reference := some (tgEpoch t.data, tgAlive t.data), candidate := none, resync := none
    accepted := saturate 32 (d1.accepted + 1), lastAcceptUs := t.arrivalUs
    copies := (tgEpoch t.data, tgAlive t.data, t.arrivalUs) :: d1.copies.filter (fun c => t.arrivalUs < c.2.2 + 400000)
    lanAUs := if t.port = 8 || (t.port = 9 && t.both) then some t.arrivalUs else d1.lanAUs
    lanBUs := if t.port = 9 || (t.port = 8 && t.both) then some t.arrivalUs else d1.lanBUs
    canUs := if t.port < 8 then some t.arrivalUs else d1.canUs
    forcing := if tgType t.data = 5 then (tgFlags t.data).testBit 0 else d1.forcing }

/-- The crossing that carries the descriptors of a port's telegrams (R221). -/
def descriptorPath (port : Nat) : Crossing := if port < 8 then .fbCl else .nwCl

/-- The counts of both lanes raised for a telegram of a port (R221). -/
def Network.countLanes (n : Network) (port : Nat) (down : Bool) : Network :=
  let k := if port < 8 then 2 else 0
  { n with laneCounts := upd (upd n.laneCounts k (fun c => c.cross down)) (k + 1) (fun c => c.cross down) }

/-- A telegram accepted by both lanes (R124, R289, R304, R353). Through a fenced crossing no descriptor reaches the
cluster, and the time-out runs on (R222, R225). -/
def State.acceptTelegram (s : State) (t : RxTelegram) (newEpoch resynced : Bool) : State :=
  let node := tgSource t.data
  let old := (s.nodeDyn node).bind NodeDyn.reference
  let prior := (s.nodeDyn node).bind NodeDyn.lastRxUs
  let down := (s.xing (descriptorPath t.port)).linkDown
  let s0 := { s with net := s.net.countLanes t.port down }
  let s1 := s0.modNode node (fun d => d.accepts t (s.inRun && !down))
  let s2 := if newEpoch then
      (s1.event 0x5030 .nw .info node ((old.map Prod.fst).getD 0xFFFFFFFF) (tgEpoch t.data)).note 0x0103
        (le 2 node ++ [3, BitVec.ofNat 8 (tgEpoch t.data)])
    else s1
  let s3 := if resynced then s2.event 0x5031 .nw .info node ((old.map Prod.snd).getD 0) (tgAlive t.data) else s2
  let records := if tgType t.data = 0 then [] else tgRecords t.data
  let objects := s.objectsOf node
  let named (r : Nat × Nat × Nat) : Bool := objects.any (fun o => o.1 == r.1)
  let s4 := (records.filter (fun r => !named r)).foldl (fun (s : State) _ =>
    (s.modNode node (fun d => d.count 12)).discarded node 12) s3
  if s.inRun && !down then
    { s4 with net := { s4.net with accepted := s4.net.accepted ++
      [{ node := node, kind := tgType t.data, cycle := tgCycle t.data, records := records.filter named,
         arrivalUs := t.arrivalUs, acceptUs := s.opUs, priorRxUs := prior }] } }
  else s4

/-- The combined verdict of both lanes (R294, R295). -/
def State.combined (s : State) (t : RxTelegram) (seqStep : SeqStep) (x y : Nat) : State :=
  let node := tgSource t.data
  if x ≠ y || x = 14 then
    let d := s.net.disagreements.filter (fun i => s.opUs < i + 1000000)
    let s1 := ({ s with net := { s.net with disagreements := s.opUs :: d } }).modNode node (fun d =>
      { d with disagree := saturate 16 (d.disagree + 1) })
    let s2 := s1.event 0x5010 .nw .f0 node x y
    if 16 < d.length + 1 then (s2.event 0x5011 .nw .f3 (d.length + 1)).enterSafe 0x5011 else s2
  else if x = 0 then
    match seqStep with
    | .accept e r => s.acceptTelegram t e r
    | _ => s.acceptTelegram t false false
  else if x = 13 then s.modNode node (fun d => { d with candidate := some (tgEpoch t.data, tgAlive t.data) })
  else
    let s1 := if x = 2 || x = 3 then s.countPort t.port (x == 3) else s.modNode node (fun d => d.count x)
    let s2 := if x = 11 then s1.modNode node (fun d =>
        { d with resync := if d.dropped then some (tgAlive t.data) else none })
      else if x = 9 || x = 10 then s1.modNode node (fun d => { d with resync := none }) else s1
    s2.discarded node x

/-! ### Stand-alone operation (R19) -/

/-- Bit of a port in PORTS (R350). -/
def portBit (port : Nat) : Nat := 2 ^ port

/-- A node seen on several CAN ports, or on CAN and on Ethernet (R19). -/
def duplicateId (ports : Nat) : Bool :=
  let onCan := ((List.range 8).filter (fun k => ports.testBit k)).length
  2 ≤ onCan || (1 ≤ onCan && (ports.testBit 8 || ports.testBit 9))

/-- A telegram received in stand-alone operation, for the COMM LED (R22). -/
def State.noteHeard (s : State) : State := { s with net := { s.net with heardTelegram := true } }

/-- A telegram taken into the node list (R19, R350). -/
def State.listTelegram (s : State) (t : RxTelegram) : State :=
  let b := t.data
  let source := tgSource b
  if 52 < tgLength b then
    ({ s with net := { s.net with listMalformed := s.net.listMalformed + 1 } }).discarded source 1
  else if source = 0 || source = 4095 then (s.countPort t.port false).discarded source 2
  else
    let old := s.net.listed.find? (fun e => e.id == source)
    let p := portBit t.port + (if t.both then portBit (17 - t.port) else 0)
    let ports := (old.map ListedNode.ports).getD 0 ||| p
    let rate := if t.port < 8 then
        let c := s.port t.port
        (if c.nominalLocked then c.nominal * 16 else 0) + (if c.dataLocked then c.dataRate else 0)
      else (old.map ListedNode.rates).getD 0
    let e : ListedNode := {
      id := source, ports := ports, versionType := u8 b 0, epoch := tgEpoch b, duplicate := duplicateId ports,
      rates := rate, count := saturate 32 ((old.map ListedNode.count).getD 0 + 1), lastUs := t.arrivalUs }
    { s with net := { s.net with listed := e :: s.net.listed.filter (fun x => x.id != source) } }

/-! ### The check (R289) -/

/-- The next telegram through both lanes; a hardware fault of a lane overrides its verdict. -/
def State.checkNext (s : State) (faultX faultY : Option Nat) : State :=
  let s1 := s.drainPorts
  match s1.net.buffer with
  | [] => s1
  | t :: l =>
    let s2 := { s1 with net := { s1.net with buffer := l } }
    if s2.station.isNone then s2.noteHeard.listTelegram t
    else
      let v := s2.verdict t
      s2.combined t v.2 (faultX.getD v.1) (faultY.getD v.1)

/-! ### PRP reception (R299, R300) -/

/-- A frame received on a LAN: it is up (R299). -/
def State.lanHeard (s : State) (lan : Nat) : State :=
  let was := ((s.net.lans[lan]?).map Lan.down).getD false
  let s1 := { s with net := { s.net with lans := upd s.net.lans lan (fun l => { l with
    lastUs := s.opUs, down := false, received := l.received + 1 }) } }
  if was then s1.event 0x5040 .nw .info lan 0 else s1

/-- Whether a copy is one of a telegram accepted within the entry forget time (R299, R303). -/
def NodeDyn.tookCopy (d : NodeDyn) (now : Nat) (b : List Byte) : Bool :=
  d.copies.any (fun c => c.1 == tgEpoch b && c.2.1 == tgAlive b && now < c.2.2 + 400000)

/-- A copy discarded as a PRP duplicate: it still shows that its LAN carries the node (R303); in stand-alone operation only
one with a LENGTH of 0 to 52 contributes (R19). -/
def State.duplicateCopy (s : State) (lan : Nat) (b : List Byte) : State :=
  let node := tgSource b
  let mark (t : RxTelegram) : RxTelegram := if t.port = 9 - lan && t.data == b then { t with both := true } else t
  let s1 := { s with net := { s.net with buffer := s.net.buffer.map mark } }
  if s.station.isNone then
    { s1 with net := { s1.net with listed := s1.net.listed.map (fun (e : ListedNode) =>
      if e.id == node && tgLength b ≤ 52 then
        { e with ports := e.ports ||| portBit (8 + lan), duplicate := duplicateId (e.ports ||| portBit (8 + lan)) }
      else e) } }
  else s1.modNode node (fun d =>
    if d.tookCopy s.opUs b then
      (if lan = 0 then { d with lanAUs := some s.opUs } else { d with lanBUs := some s.opUs })
    else d)

/-- The telegrams of a datagram (R300). -/
def telegramsOf (data : List Byte) : List (List Byte) :=
  (List.range (data.length / 64)).map (fun i => slice data (64 * i) 64)

/-- A telegram put before the lanes (R296). -/
def State.toBuffer (s : State) (t : RxTelegram) : State :=
  if s.net.buffer.length < 4096 then { s with net := { s.net with buffer := s.net.buffer ++ [t] } }
  else
    let n := s.net.bufferDropped + 1
    ({ s with net := { s.net with bufferDropped := n } }).event 0x5060 .nw .info n

/-- A datagram on X6 or X7 (R299, R300). -/
def State.datagram (s : State) (d : Datagram) : State :=
  let s1 := s.lanHeard d.lan
  let now := s.opUs
  let seen := s1.net.seen.filter (fun x => now < x.2.2 + 400000)
  let repeated := seen.any (fun x => x.1 == d.source && x.2.1 == d.prpSeq)
  let bump (s : State) (f : Lan → Lan) : State := { s with net := { s.net with lans := upd s.net.lans d.lan f } }
  if d.vlanTagged || d.options || d.fragment || d.port ≠ 47217 then s1
  else if !d.checksumOk then bump s1 (fun l => { l with checksum := saturate 32 (l.checksum + 1) })
  else if d.data.length % 64 ≠ 0 || 1280 < d.data.length || d.data.isEmpty then
    bump s1 (fun l => { l with malformed := saturate 32 (l.malformed + 1) })
  else if repeated then
    (telegramsOf d.data).foldl (fun s b => s.duplicateCopy d.lan b) s1
  else
    let s2 := { s1 with net := { s1.net with seen := (d.source, d.prpSeq, now) :: seen } }
    (telegramsOf d.data).foldl (fun s b => s.toBuffer ⟨8 + d.lan, b, now, false⟩) s2

/-! ### Diagnostics (R303, R350) -/

/-- STATE of a node (R303). -/
def NodeDyn.stateCode (d : NodeDyn) : Nat :=
  if d.resync.isSome then 4 else if d.candidate.isSome then 1 else if d.reference.isNone then 0
  else if d.dropped then 3 else 2

/-- Whether an instant lies in the last second. -/
def recent (now : Nat) (t : Option Nat) : Bool := t.any (fun u => now < u + 1000000)

/-- The record of a node (R303). -/
def NodeDyn.record (d : NodeDyn) (now : Nat) : List Byte :=
  le 2 d.id ++ [BitVec.ofNat 8 d.stateCode, BitVec.ofNat 8 ((d.reference.map Prod.fst).getD 0)]
    ++ le 2 ((d.reference.map Prod.snd).getD 0) ++ le 2 d.timeout ++ le 2 d.p999 ++ le 2 d.intervals.length
    ++ le 4 d.accepted ++ le 2 d.codeFail ++ le 2 d.sequence ++ le 2 d.lateEpoch ++ le 2 d.malformed
    ++ le 2 d.disagree
    ++ [BitVec.ofNat 8 (bit (recent now d.lanAUs) 0 + bit (recent now d.lanBUs) 1 + bit (recent now d.canUs) 2),
        BitVec.ofNat 8 (bit (recent now d.untaggedUs) 0 + bit d.forcing 1)]
    ++ le 4 (d.lastAcceptUs / 1000)

/-- A node list entry (R350). -/
def ListedNode.bytes (e : ListedNode) : List Byte :=
  le 2 e.id ++ le 2 e.ports ++ [BitVec.ofNat 8 e.versionType, BitVec.ofNat 8 e.epoch,
    BitVec.ofNat 8 (1 + bit e.duplicate 1), BitVec.ofNat 8 e.rates] ++ le 4 e.count ++ le 6 (e.lastUs / 1000)
    ++ List.replicate 6 0

/-- The rank interval of R298 in 0.1 ms once 200 intervals are recorded. -/
def NodeDyn.rankInterval (d : NodeDyn) : Nat :=
  if 200 ≤ d.intervals.length then rankAscending d.intervals (rank999 d.intervals.length) else 0

/-! ### Rows of the table -/

/-- Whether the safety network sends: station data, in RUN or STOP (R210, R299). -/
def State.lanSends (s : State) : Bool :=
  s.unit.variant.ethernet && s.station.isSome && (s.power.state == .run || s.power.state == .stop)

/-- DATAGRAM_RECEIVED (R300). -/
def execDatagramReceived (d : Datagram) (s : State) : Host.Outcome State Fault Refusal :=
  .next (if s.unit.variant.ethernet && s.power.state.powered then s.datagram d else s).settle
/-- TELEGRAM_CHECK (R289). -/
def execTelegramCheck (faultX faultY : Option Nat) (s : State) : Host.Outcome State Fault Refusal :=
  .next (if s.power.state.powered then s.checkNext faultX faultY else s).settle
/-- LAN_DOWN (R299): no frame for 6,000 ms. -/
def execLanDown (lan : Nat) (s : State) : Host.Outcome State Fault Refusal :=
  let l := s.net.lans.getD lan {}
  .next (if s.unit.variant.ethernet && s.power.state.powered && !l.down && l.lastUs + 6000000 ≤ s.opUs then
    ({ s with net := { s.net with lans := upd s.net.lans lan (fun l => { l with down := true }) } }).event 0x5040 .nw
      .info lan 1
    else s).settle
/-- PRP_SUPERVISION_SEND (R299): every 2,000 ms on both LANs. -/
def execPrpSupervisionSend (s : State) : Host.Outcome State Fault Refusal :=
  .next (if s.lanSends && s.net.supervisionUs ≤ s.opUs then
    { s with
      net := { s.net with supervisionUs := s.opUs + 2000000 }
      outbox := s.outbox ++ [Output.supervision 0, Output.supervision 1] }
    else s).settle
/-- ARP_REQUEST (R299, R321): its sender's addresses are used, and it is answered for the module's own address on X6 and
X7 (R300) and on X8. -/
def execArpRequest (maintenance : Bool) (lan : Nat) (target sender : Word) (mac : BitVec 48) (s : State) :
    Host.Outcome State Fault Refusal :=
  let own := word (10 * 2 ^ 24 + s.networkId.toNat % 256 * 65536 + s.ownId)
  .next (if maintenance then
      (if s.power.state.powered && target == s.hi.x8Address then
        { s with outbox := s.outbox ++ [Output.arpReply true 0 target] } else s)
    else
      let s1 := if s.unit.variant.ethernet && s.power.state.powered then (s.lanHeard lan).arpLearn sender mac else s
      if s.lanSends && target == own then { s1 with outbox := s1.outbox ++
        [Output.arpReply false lan target] } else s1).settle
/-- SUPERVISION_FRAME_RECEIVED (R299): counted only. -/
def execSupervisionFrameReceived (lan : Nat) (s : State) : Host.Outcome State Fault Refusal :=
  .next (if s.unit.variant.ethernet && s.power.state.powered then
      let s1 := s.lanHeard lan
      { s1 with net := { s1.net with lans := upd s1.net.lans lan (fun l => { l with
        supervision := l.supervision + 1 }) } }
    else s).settle

end Sys2Proof.Machine
end

