-- ==== Sys2Proof/Machine/HostIf.lean ====
section
/-! DEFINITION. The host island: its registers, the crossings and their fences, the notification ring, host link resets,
the management core's loss and restart, and X8's own services (R209, R216 to R230, R305 to R326), with their rows. -/

namespace Sys2Proof.Machine

/-! ### Crossings (R221, R225 to R230) -/

/-- The crossings to and from MG that HI sees as one (R224). -/
def mgLinks : List Crossing := [.hiMg, .mgHi]
/-- The crossings that lead into HI, whose reset holds no count (R228). -/
def toHi : List Crossing := [.mgHi, .clHi]

/-- The crossings whose source lies in MG, and those whose destination does. -/
def fromMg : List Crossing := [.mgCl, .mgHi]
/-- The crossings that lead into MG. -/
def toMg : List Crossing := [.clMg, .hiMg, .rtMg, .fbMg]

/-- A source in reset restarts its counter at 0 and inverts its epoch (R226). -/
def State.restartCounter (s : State) (x : Crossing) : State :=
  let v := s.xing x
  s.setXing x { v with counter := v.counter.sourceReset }

/-- The counts and toggle references of a port as a reset of the management core leaves them (R227, R228). -/
def CanPort.mgReset (p : CanPort) : CanPort :=
  { p with q0Count := p.q0Count.destReset, q1Count := p.q1Count.destReset, postArb := p.postArb.destReset }

/-- The counts of a port taken with the first value after a fence; the level of its toggle line is the reference, and
gives no pulse (R226, R227, R228). -/
def CanPort.linkUp (p : CanPort) : CanPort :=
  { p with q0Count := p.q0Count.take, q1Count := p.q1Count.take, postArb := p.postArb.take, offSeen := p.offLevel }

/-- The counts that a crossing carries beside its register, taken with its first value after a fence (R221, R226,
R228). -/
def State.countsUp (s : State) (x : Crossing) : State :=
  match x with
  | .flCl => { s with field := { s.field with frames := s.field.frames.take } }
  | .nwCl => { s with net := { s.net with laneCounts := upd (upd s.net.laneCounts 0 Counter.take) 1 Counter.take } }
  | .fbCl => { s with net := { s.net with laneCounts := upd (upd s.net.laneCounts 2 Counter.take) 3 Counter.take } }
  | .mgCl => { s with mg := { s.mg with heartbeats := s.mg.heartbeats.take } }
  | .hiMg => { s with hi := { s.hi with doorbells := s.hi.doorbells.take } }
  | .mgHi => { s with hi := { s.hi with completions := s.hi.completions.take, noteCount := s.hi.noteCount.take } }
  | .fbMg => { s with can := s.can.map CanPort.linkUp }
  | .clFl | .clNw | .clFb | .nwAs | .fbAs | .clAs | .asCl | .clMg | .clHi | .rtMg | .fsFl => s

/-- LINK_DOWN_MG, LINK_DOWN_CL and STALE as the crossings stand; a change sets its LINK_EVENT bit and the status bit of
vector 3 (R224). -/
def State.linkFlags (s : State) : State :=
  let mg := mgLinks.any (fun x => (s.xing x).linkDown)
  let cl := (s.xing .clHi).linkDown
  let chMg := mg != s.hi.downMg
  let chCl := cl != s.hi.downCl
  let s1 := { s with hi := { s.hi with
    downMg := mg, downCl := cl, stale := (s.xing .clHi).stale, eventMg := s.hi.eventMg || chMg,
    eventCl := s.hi.eventCl || chCl } }
  if chMg || chCl then s1.irq 3 else s1

/-- Whether both sides of a crossing are out of reset. -/
def State.sidesUp (s : State) (x : Crossing) : Bool :=
  match x with
  | .mgCl | .clMg | .hiMg | .mgHi | .fbMg => s.mg.alive
  | .rtMg => s.mg.alive && s.rt.alive
  | .nwAs | .fbAs | .clAs | .asCl => s.ash.supplyOk
  | .flCl | .clFl | .nwCl | .fbCl | .clNw | .clFb | .clHi | .fsFl => true

/-- HI_BUSY as MG's first transfer brings it (R325): the tags in flight, those whose completions are held, and those
whose DONE bit the host has not cleared (R313). -/
def State.busyNow (s : State) : BitVec 64 :=
  let slots := ((s.mg.outstanding.filter (fun p => p.1.via == .pcie)).map (fun p => p.1.slot))
    ++ s.hi.heldDone.map (fun r => r.req.slot)
  slots.foldl (fun b t => b ||| (1#64 <<< t)) s.hi.done

/-- A counter crossing with the first value after a fence: a destination that holds no count takes this one as its
reference; of the requests queued, those that the new count shows are taken at the next freeze (R65, R226, R228). -/
def Counter.linkUp (c : Counter) : Counter := if c.seenEpoch = none then c.take else c

/-- The first value accepted after a fence (R225, R226, R228): LINK_DOWN and STALE clear, the destination takes the
source's counts, event 0xC030 with the fence's duration. -/
def State.linkUp (s : State) (x : Crossing) : State :=
  let v := s.xing x
  if !v.linkDown || !s.sidesUp x || !s.power.state.powered then s
  else
    let s1 := (s.setXing x { v with
      linkDown := false, stale := false, unstable := false, counter := v.counter.linkUp }).countsUp x
    let s2 := (s1.event 0xC030 (seenBy x) .info x.code 0 (s.opUs - v.downUs)).linkFlags
    if mgLinks.contains x && s.hi.downMg && !s2.hi.downMg then
      { s2 with hi := { s2.hi with busy := s2.busyNow } }
    else s2

/-! ### Notifications held (R319, R320) -/

/-- A notification of the transport: OVERFLOW, TAG_BUSY or LINK_RESET. -/
def State.transportNote (s : State) (kind : Nat) (data : List Byte) : Note := ⟨kind, 0xFFFFFFFF, s.opMs, data⟩

/-- A LINK_RESET that is held: it is the first entry of the restarted ring (R319, R326). -/
def State.flushReset (s : State) : State :=
  match s.hi.heldNotes with
  | (q, n) :: l =>
    if n.kind = 3 && s.hi.ringRoom then ({ s with hi := { s.hi with heldNotes := l } }).ringWrite q n else s
  | [] => s

/-- The held notifications written while the ring has room: LINK_RESET, then OVERFLOW, then the others (R320, R326). -/
def State.flushHeld (s0 : State) : State :=
  if s0.hi.downMg || !s0.mg.alive then s0
  else
    let s := s0.flushReset
    let s1 := if 0 < s.hi.lostNotes && s.hi.ringRoom then
        let q := s.hi.noteSeq
        let n := s.transportNote 0x0001 (le 4 s.hi.lostNotes)
        ({ s with hi := { s.hi with noteSeq := (q + 1) % 65536, lostNotes := 0 } }).ringWrite q n
      else s
    if 0 < s1.hi.lostNotes then s1
    else s1.hi.heldNotes.foldl (fun s p =>
      if s.hi.ringRoom then ({ s with hi := { s.hi with heldNotes := s.hi.heldNotes.tail } }).ringWrite p.1 p.2
      else s) s1

/-- The ring restarts (R319, R326): HEAD and TAIL at 0, and LINK_RESET is the first entry to come. -/
def State.restartRing (s : State) (cause : Nat) (kept : List (Nat × Note)) : State :=
  let unread := (s.hi.head - s.hi.tail).toNat
  let q := s.hi.noteSeq
  let n := s.transportNote 0x0003 (le 4 unread ++ [BitVec.ofNat 8 cause])
  { s with hi := { s.hi with
    head := 0, tail := 0, unread := unread, noteSeq := (q + 1) % 65536, heldNotes := (q, n) :: kept } }

/-! ### Host link reset (R216, R325, R326) -/

/-- The host island as a host link reset leaves it (R224, R307, R325). What the management core holds stays. -/
def HostIf.linkReset (h : HostIf) : HostIf :=
  { h with
    state := 0, m2 := false, unstableCount := 0, eventMg := false, eventCl := false, downMg := true, downCl := true,
    stale := true, unstable := false, failedWord := 0, msiSent := 0, doorbells := h.doorbells.sourceReset
    completions := h.completions.destReset, noteCount := h.noteCount.destReset, scratch := 0, done := 0, busy := 0,
      irqStat := 0, irqMask := 0xF, vectors := 1,
    bar2 := [], subscribed := 0 }

/-- A host link reset: it reaches HI only (R216); the sessions and the subscription of PCIe end (R325, R353). -/
def State.hostReset (s : State) : State :=
  let s1 := ((toHi.foldl State.fenceDest (s.fence .hiMg))).restartCounter .hiMg
  let s2 := s1.restartRing 1 s1.hi.heldNotes
  { s2 with
    hi := s2.hi.linkReset
    bench := { s2.bench with undo := s2.bench.undo.map (fun (u : Undo) =>
      { u with sessions := u.sessions.filter (fun x => x.via != .pcie) }) }
    mg := { s2.mg with sessions := s2.mg.sessions.filter (fun x => x.via != .pcie) } }

/-! ### The management core (R209, R325, R326, R365) -/

/-- The management core is reset on heartbeat loss (R209): requests not yet frozen are lost, every session ends, its
crossings fence. Event 0x0110 at F0, with a notification (R353). -/
def State.mgLost (s : State) : State :=
  if !s.mg.alive || !s.power.state.powered then s
  else
    let s1 := (((s.event 0x0110 .cl .f0).note 0x0183 (le 2 0x0110)).fenceAll fromMg)
    let s2 := (fromMg.foldl State.restartCounter (toMg.foldl State.fenceDest s1)).linkFlags
    { s2 with
      diag := none
      can := s2.can.map CanPort.mgReset
      mg := { s2.mg with
        alive := false, queue := [], sessions := [], heartbeats := s2.mg.heartbeats.sourceReset
        outstanding := s2.mg.outstanding ++ s2.hi.heldDone.map (fun r => (r.req, r.opcode)) }
      bench := { s2.bench with undo := s2.bench.undo.map (fun (u : Undo) => { u with sessions := [] }) }
      hi := { s2.hi with
        doorbells := s2.hi.doorbells.destReset, completions := s2.hi.completions.sourceReset
        noteCount := s2.hi.noteCount.sourceReset, heldDone := [], heldNotes := [], lostNotes := 0, subscribed := 0,
          x8Subscribed := 0, x8Dest := none,
        x8Last := none } }

/-- The management core runs again: every tag outstanding at the failure completes DISCARDED, the ring restarts, and
staged records are accounted for (R209, R319, R366). -/
def State.mgRestart (s : State) : State :=
  if s.mg.alive || !s.power.state.powered then s
  else
    let held := (s.openRequests.map Prod.fst).filter (fun q => s.mg.outstanding.any (fun p => p.1 == q))
    let lost := s.mg.outstanding
    let s1 := { s with mg := { s.mg with alive := true, outstanding := [] } }
    let s2 := s1.restartRing 2 []
    let s3 := lost.foldl (fun s p => s.deliver
      { req := p.1, opcode := p.2, status := Status.discarded.code, arrival := p.1.arrival }) s2
    let s4 := { s3 with mg := { s3.mg with voided := held } }
    let frozen := s4.recorder.frozenUntil.isSome
    let s5 := { s4 with
      recorder := { s4.recorder with
        staging := [], frozenUntil := none, lost := 0, firstLost := none, buckets := [] }
      rt := { s4.rt with stagedMirror := 0 }
      eng := { s4.eng with lastSeq := none } }
    if frozen then s5.event 0xF002 .mg .info s4.rt.stagedMirror 0 3 true else s5

/-! ### Register writes (R307, R308, R318, R223, R224) -/

/-- DONE bits cleared, and with them the BUSY bits of their tags (R307, R313). -/
def State.clearDone (s : State) (high : Bool) (value : Word) : State :=
  let m : BitVec 64 := (if high then (value.setWidth 64) <<< 32 else value.setWidth 64) &&& s.hi.done
  { s with hi := { s.hi with done := s.hi.done &&& ~~~m, busy := s.hi.busy &&& ~~~m } }

/-- HI_IRQ_STAT written: bits written 1 clear (R307). -/
def State.clearIrq (s : State) (value : Word) : State :=
  { s with hi := { s.hi with
    irqStat := s.hi.irqStat &&& ~~~(value.setWidth 4), msiSent := s.hi.msiSent &&& ~~~(value.setWidth 4) } }

/-- Whether an unmasked vector owes its MSI: its status bit is set, and none has followed since the host last cleared it
(R308). -/
def HostIf.msiOwed (h : HostIf) (v : Nat) : Bool := h.irqStat.getLsbD v && !h.msiSent.getLsbD v

/-- HI_IRQ_MASK written: a bit going from 1 to 0 over a status bit sends its MSI, once until the host clears the bit
(R308). -/
def State.writeMask (s : State) (value : Word) : State :=
  let old := s.hi.irqMask
  let s1 := { s with hi := { s.hi with irqMask := value.setWidth 4 } }
  (List.range 4).foldl (fun s v =>
    if old.getLsbD v && !s.hi.irqMask.getLsbD v && s.hi.msiOwed v then
      ({ s with hi := { s.hi with msiSent := s.hi.msiSent ||| (1#4 <<< v) } }).msi v
    else s) s1

/-- HI_NOTE_TAIL written: without effect past HEAD (R318). -/
def State.writeTail (s : State) (value : Word) : State :=
  let t : Byte := value.setWidth 8
  if (t - s.hi.tail).toNat ≤ (s.hi.head - s.hi.tail).toNat then { s with hi := { s.hi with tail := t } } else s

/-- M2 written (R224); in M2 timing UNSTABLE is 0 (R223). -/
def State.writeM2 (s : State) (value : Bool) : State :=
  { s with hi := { s.hi with m2 := value, unstable := s.hi.unstable && !value } }

/-- LINK_EVENT bits cleared (R224). -/
def State.clearLinkEvents (s : State) (mg cl : Bool) : State :=
  { s with hi := { s.hi with eventMg := s.hi.eventMg && !mg, eventCl := s.hi.eventCl && !cl } }

/-! ### The HI_STATE mirror (R219, R223) -/

/-- The samples of a transfer into the mirror (R219): no samples, or M2 timing, stands for a transfer without a failed
comparison; after four failed retries the register keeps its value, UNSTABLE is set and counted, event 0xC031. -/
def State.mirror (s : State) (samples : List Word) : State :=
  if s.hi.downCl || s.hi.m2 || samples.isEmpty then { s with hi := { s.hi with unstable := false } }
  else match agree 5 samples with
    | some _ => { s with hi := { s.hi with unstable := false } }
    | none =>
      ({ s with hi := { s.hi with
        unstable := true, failedWord := s.stateWord, unstableCount := Nat.min 255 (s.hi.unstableCount + 1) } }).event
          0xC031 .hi .info
        Crossing.clHi.code s.hi.state.toNat

/-! ### Rows of the table -/

/-- HI_DONE_CLEAR (R313). -/
def execHiDoneClear (high : Bool) (value : Word) (s : State) : Host.Outcome State Fault Refusal :=
  .next (s.clearDone high value).settle
/-- HI_IRQ_STAT_CLEAR (R308). -/
def execHiIrqStatClear (value : Word) (s : State) : Host.Outcome State Fault Refusal := .next (s.clearIrq value).settle
/-- HI_IRQ_MASK_WRITE (R308). -/
def execHiIrqMaskWrite (value : Word) (s : State) : Host.Outcome State Fault Refusal := .next (s.writeMask value).settle
/-- HI_NOTE_TAIL_WRITE (R318). -/
def execHiNoteTailWrite (value : Word) (s : State) : Host.Outcome State Fault Refusal := .next (s.writeTail value).settle
/-- M2_WRITE (R223). -/
def execM2Write (value : Bool) (s : State) : Host.Outcome State Fault Refusal := .next (s.writeM2 value).settle
/-- LINK_EVENT_CLEAR (R224). -/
def execLinkEventClear (mg cl : Bool) (s : State) : Host.Outcome State Fault Refusal :=
  .next (s.clearLinkEvents mg cl).settle
/-- HI_XING_READ (R224): the read clears UNSTABLE_COUNT. -/
def execHiXingRead (s : State) : Host.Outcome State Fault Refusal :=
  .next ({ s with hi := { s.hi with readData := s.readRegister 0x00C, unstableCount := 0 } }).settle
/-- HOST_LINK_RESET (R326). -/
def execHostLinkReset (s : State) : Host.Outcome State Fault Refusal :=
  .next (if s.power.state.powered then s.hostReset else s).settle
/-- MG_HEARTBEAT_LOSS (R209): no heartbeat for 100 ms. -/
def execMgHeartbeatLoss (s : State) : Host.Outcome State Fault Refusal := .next s.mgLost.settle
/-- MG_RESTART (R209). -/
def execMgRestart (s : State) : Host.Outcome State Fault Refusal := .next s.mgRestart.settle
/-- CROSSING_LINK_UP (R225). -/
def execCrossingLinkUp (x : Crossing) (s : State) : Host.Outcome State Fault Refusal := .next (s.linkUp x).settle
/-- HELD_COMPLETION_DELIVERY (R326). -/
def execHeldCompletionDelivery (s : State) : Host.Outcome State Fault Refusal :=
  .next (if s.hi.downMg || !s.mg.alive then s
    else s.hi.heldDone.foldl State.writeResponse { s with hi := { s.hi with heldDone := [] } }).settle
/-- NOTIFICATION_FLUSH (R320). -/
def execNotificationFlush (s : State) : Host.Outcome State Fault Refusal := .next s.flushHeld.settle
/-- ICMP_ECHO (R321): answered on X8 for its own address. -/
def execIcmpEcho (target : Word) (data : List Byte) (s : State) : Host.Outcome State Fault Refusal :=
  .next (if s.power.state.powered && s.mg.alive && target == s.hi.x8Address then
    { s with outbox := s.outbox ++ [Output.icmpReply data] } else s).settle
/-- MAINT_ADDRESS_APPLY (R346): the new address takes effect at its instant. -/
def execMaintAddressApply (s : State) : Host.Outcome State Fault Refusal :=
  .next (match s.hi.x8New with
    | some (ip, plen, gw, t) =>
      if t ≤ s.opUs then
        { s with hi := { s.hi with x8Address := ip, x8Plen := plen, x8Gateway := gw, x8New := none } }
      else s
    | none => s).settle
/-- MSI_VECTOR_ENABLE (R306): the host enables 1, 2 or 4 vectors. -/
def execMsiVectorEnable (n : Nat) (s : State) : Host.Outcome State Fault Refusal :=
  .next (if n = 1 ∨ n = 2 ∨ n = 4 then { s with hi := { s.hi with vectors := n } } else s).settle

end Sys2Proof.Machine
end

