-- ==== Sys2Proof/Machine/Recorder.lean ====
section
/-! DEFINITION. The event recorder: writing, rate limits, summaries, freeze and reading (R354 to R367, R342, R343), with
its rows. -/

namespace Sys2Proof.Machine

/-! ### Records (R354) -/

/-- A record as its 32 bytes (R354). -/
def Record.bytes (r : Record) : List Byte :=
  let b := le 2 r.code ++ [BitVec.ofNat 8 (r.source * 16 + r.severity),
      BitVec.ofNat 8 (bit r.staged 0 + bit r.timeSet 1 + bit r.fromCluster 2 + bit r.recovered 3)]
    ++ le 4 r.powerCycle ++ le 6 r.opMs ++ le 2 r.number ++ le 4 r.p0.toNat ++ le 4 r.p1.toNat ++ le 4 r.p2.toNat
  b ++ le 4 (crc32c b).toNat

/-- The class of an event code (R356). -/
def classOf (code : Nat) : Nat := code / 4096

/-- A record of the recorder itself, of the present time (R363, R365, R367). -/
def State.ownRecord (s : State) (code p0 p1 p2 : Nat) (staged recovered : Bool := false) : Record :=
  { code := code, source := Source.mg.code, severity := Severity.info.code, staged := staged, timeSet := s.calendar.2,
    recovered := recovered, powerCycle := s.powerCycle, opMs := s.opMs, p0 := word p0, p1 := word p1, p2 := word p2 }

/-! ### The ring (R357, R359) -/

/-- A record written into the ring with its number; a full ring first loses its oldest block of 128 (R359), and one block
more for each that has been withdrawn since it was full. -/
def Recorder.append (c : Recorder) (r : Record) : Recorder :=
  let held := if c.capacity ≤ c.ring.length then c.ring.drop (128 * ((c.ring.length - c.capacity) / 128 + 1)) else c.ring
  { c with ring := held ++ [{ r with number := c.next }], next := c.next + 1 }

/-- The number of the oldest record held (R343); NEXT when none is held. -/
def Recorder.oldest (c : Recorder) : Nat := ((c.ring.head?).map Record.number).getD c.next

/-! ### Freeze (R364, R365) -/

/-- The end of a freeze: the staged records, then 0xF002 if any were lost (R365). -/
def State.thaw (s : State) : State :=
  if s.recorder.frozenUntil.isNone then s
  else
    let c := s.recorder
    let c1 := c.staging.foldl Recorder.append c
    let f := c.firstLost.getD (0, 0)
    let c2 := if c.lost = 0 then c1 else c1.append (s.ownRecord 0xF002 c.lost f.1 f.2)
    { s with
      recorder := { c2 with staging := [], frozenUntil := none, lost := 0, firstLost := none }
      rt := { s.rt with stagedMirror := 0 } }

/-- A record into the ring, or into the staging buffer while a freeze lasts (R364); F3 and F4 end the freeze (R365). -/
def State.store (s : State) (r : Record) : State :=
  if s.recorder.frozenUntil.isNone then { s with recorder := s.recorder.append r }
  else if Severity.f3.code ≤ r.severity then
    let s1 := s.thaw
    { s1 with recorder := s1.recorder.append r }
  else if s.recorder.staging.length < 4096 then
    let l := s.recorder.staging ++ [{ r with staged := true }]
    { s with recorder := { s.recorder with staging := l }, rt := { s.rt with stagedMirror := l.length } }
  else
    { s with recorder := { s.recorder with
      lost := s.recorder.lost + 1, firstLost := some (s.recorder.firstLost.getD (r.code, r.opMs)) } }

/-! ### Token buckets (R362, R363) -/

/-- Rate and burst of a class. -/
def Recorder.rateOf (c : Recorder) (cls : Nat) : Nat × Nat := c.rates.getD cls (10, 50)

/-- The bucket of a code; a new one starts full, its grid at the present. -/
def Recorder.bucket (c : Recorder) (code now : Nat) : Bucket :=
  (c.buckets.find? (fun b => b.code == code)).getD { code := code, tokens := (c.rateOf (classOf code)).2, refillUs := now }

/-- A bucket put back. -/
def Recorder.setBucket (c : Recorder) (b : Bucket) : Recorder :=
  { c with buckets := b :: c.buckets.filter (fun x => x.code != b.code) }

/-- The tokens of the grid up to the present (R362). -/
def Bucket.refill (b : Bucket) (rate burst now : Nat) : Bucket :=
  let due := (now - b.refillUs) * rate / 1000000
  { b with tokens := Nat.min burst (b.tokens + (due - b.given)), given := Nat.max b.given due }

/-- The summary of suppressed records (R363). -/
def State.summarise (s : State) (code : Nat) : State :=
  let b := s.recorder.bucket code s.opUs
  if b.suppressed = 0 then s
  else
    let s1 := s.store (s.ownRecord 0xF001 code b.suppressed ((b.firstUs.getD 0) / 1000))
    { s1 with recorder := s1.recorder.setBucket { b with suppressed := 0, firstUs := none } }

/-- A code's bucket refilled; a summary when it becomes full (R362, R363). -/
def State.refill (s : State) (code : Nat) : State :=
  let rb := s.recorder.rateOf (classOf code)
  let b := (s.recorder.bucket code s.opUs).refill rb.1 rb.2 s.opUs
  let s1 := { s with recorder := s.recorder.setBucket b }
  if b.tokens = rb.2 then s1.summarise code else s1

/-- Whether a record is never suppressed (R362). -/
def Record.unlimited (r : Record) : Bool := Severity.f3.code ≤ r.severity || classOf r.code == 15

/-- The discards of a node and counter that no 0x5001 record has counted yet (R304). -/
def Network.discards (n : Network) (node counter : Nat) : Nat :=
  ((n.counters.find? (fun x => x.1 == node && x.2.1 == counter)).map (fun x => x.2.2)).getD 0

/-- That count set. -/
def Network.setDiscards (n : Network) (node counter k : Nat) : Network :=
  { n with counters := (if k = 0 then [] else [(node, counter, k)])
      ++ n.counters.filter (fun x => !(x.1 == node && x.2.1 == counter)) }

/-- Whether a record below F3 would be lost: a freeze lasts and the staging buffer is full (R364). -/
def Recorder.full (c : Recorder) : Bool := c.frozenUntil.isSome && decide (4096 ≤ c.staging.length)

/-- A record that passes: P2 of 0x5001 is the number of discards since the last such record, one that is lost not being
a record (R304, R364). -/
def State.pass (s : State) (r : Record) : State :=
  if r.code = 0x5001 then
    let k := s.net.discards r.p0.toNat r.p1.toNat + 1
    ({ s with net := s.net.setDiscards r.p0.toNat r.p1.toNat (if s.recorder.full then k else 0) }).store
      { r with p2 := word k }
  else s.store r

/-- A record suppressed and counted (R362). -/
def State.suppress (s : State) (r : Record) (b : Bucket) : State :=
  let b1 := { b with suppressed := b.suppressed + 1, firstUs := some (b.firstUs.getD (r.opMs * 1000)) }
  let s1 := { s with recorder := s.recorder.setBucket b1 }
  if r.code = 0x5001 then
    { s1 with net := s1.net.setDiscards r.p0.toNat r.p1.toNat (s1.net.discards r.p0.toNat r.p1.toNat + 1) }
  else s1

/-- A record through the rate limit (R362). -/
def State.record (s : State) (r : Record) : State :=
  if r.unlimited then s.pass r
  else
    let s1 := s.refill r.code
    let b := s1.recorder.bucket r.code s.opUs
    if b.tokens = 0 then s1.suppress r b
    else ({ s1 with recorder := s1.recorder.setBucket { b with tokens := b.tokens - 1 } }).pass r

/-- The oldest record received, written (R360). -/
def State.writeNext (s : State) : State :=
  match s.recorder.inbox with
  | [] => s
  | r :: l => ({ s with recorder := { s.recorder with inbox := l } }).record r

/-- Every record received, written: on a supply failure before the hold-up energy is spent (R360). -/
def State.writeAll (s : State) : State :=
  let l := s.recorder.inbox
  l.foldl State.record { s with recorder := { s.recorder with inbox := [] } }

/-- A block that the store declares bad after 3 re-reads: it is withdrawn, CAPACITY falls by 128, its records read as
placeholders (R359, R361), the indication of R22 is pending (R386), and the F0 event is recorded under a code that the
spec does not give (R203, R204; log entry 91). -/
def State.withdrawBlock (s : State) (b : Nat) : State :=
  if s.recorder.badBlocks.contains b then s
  else
    ({ s with
      recorder := { s.recorder with badBlocks := b :: s.recorder.badBlocks, capacity := s.recorder.capacity - 128 }
      sec := { s.sec with pendNand := true } }).event Config.nandBadCode.toNat .nand .f0

/-- Records received when the logic supply fails, written before the hold-up energy is spent (R360). During a freeze
the records staged are lost (R366, log entry 92): those received go into the ring, and the freeze stays noted for the
next start. -/
def State.writeFailing (s : State) : State :=
  if s.recorder.frozenUntil.isNone then s.writeAll
  else
    let u := s.recorder.frozenUntil
    let t := ({ s with recorder := { s.recorder with frozenUntil := none, staging := [] } }).writeAll
    { t with recorder := { t.recorder with frozenUntil := u } }

/-- A calendar anchor (R367). -/
def State.anchor (s : State) (why : Nat) : State :=
  s.event 0xF010 .mg .info (s.calendar.1 / 1000000) (s.calendar.1 / 1000 % 1000 + bit s.calendar.2 31) why

/-! ### Mailbox commands (R342, R343) -/

/-- The remaining time of a freeze in ms. -/
def State.freezeLeft (s : State) : Nat := (((s.recorder.frozenUntil).map (fun t => t - s.opUs)).getD 0) / 1000

/-- The information record (R343). -/
def State.infoRecord (s : State) : List Byte :=
  let c := s.recorder
  le 4 c.capacity ++ le 4 c.ring.length ++ le 8 c.oldest ++ le 8 c.next ++ le 2 c.staging.length
    ++ [BitVec.ofNat 8 (bit c.frozenUntil.isSome 0), 0] ++ le 4 s.freezeLeft

/-- EVENT_INFO. -/
def State.decideEventInfo (s : State) (q : Req) : State :=
  s.mgCommand q 0x0601 (s.judge q 0x0601 false true none false true) (fun s =>
    s.answer 0x0601 q .ok 0 0 s.infoRecord)

/-- The record at a number as EVENT_READ returns it, a placeholder for a block that cannot be read (R361). -/
def Recorder.readable (c : Recorder) (r : Record) : Record :=
  if c.badBlocks.contains (r.number / 128) then
    { code := 0xF003, source := Source.mg.code, severity := Severity.info.code, number := r.number
      p0 := word r.number, p1 := word (r.number / 2 ^ 32) }
  else r

/-- EVENT_READ. -/
def State.decideEventRead (s : State) (q : Req) : State :=
  let count := u16 q.payload 8
  let ok := q.payload.length == 12 && 1 ≤ count && count ≤ 126 && u16 q.payload 10 == 0
  s.mgCommand q 0x0602 (s.judge q 0x0602 false true none false ok) (fun s =>
    let c := s.recorder
    let asked := u64 q.payload 0
    let first := if c.next ≤ asked then c.next else Nat.max asked c.oldest
    let recs := ((c.ring.filter (fun r => first ≤ r.number)).take count).map c.readable
    s.answer 0x0602 q .ok recs.length (saturate 32 (first - asked)) (le 8 first ++ recs.flatMap Record.bytes))

/-- EVENT_FREEZE (R364). -/
def State.decideEventFreeze (s : State) (q : Req) : State :=
  s.mgCommand q 0x0603 (s.judge q 0x0603 false true none false true) (fun s =>
    ({ s with recorder := { s.recorder with frozenUntil := some (s.opUs + 60000000) } }).answer 0x0603 q .ok 60000)

/-- EVENT_THAW (R365). -/
def State.decideEventThaw (s : State) (q : Req) : State :=
  s.mgCommand q 0x0604 (s.judge q 0x0604 false true none false true) (fun s =>
    let frozen := s.recorder.frozenUntil.isSome
    s.thaw.answer 0x0604 q .ok (if frozen then s.recorder.staging.length else 0) (if frozen then s.recorder.lost else 0))

/-- EVENT_SET_RATE (R342, R388): the buckets of the class start a new grid with at most the new burst. -/
def State.decideEventSetRate (s : State) (q : Req) : State :=
  let rate := q.p1 % 65536
  let burst := q.p1 / 65536
  let ok := q.p0 ≤ 14 && 1 ≤ rate && rate ≤ 1000 && 1 ≤ burst && burst ≤ 1000
  s.mgCommand q 0x0605 (s.judge q 0x0605 false true (some .maintainer) false ok) (fun s =>
    if !s.logRoom 1 then s.answer 0x0605 q .refused 0x0817 (logCapacity - s.log.length)
    else
      let old := s.recorder.rateOf q.p0
      let s1 := s.logChange (s.logBy q {
        item := 11, subject := word q.p0, before := word (old.1 + old.2 * 65536), after := q.param1 })
      let buckets := s1.recorder.buckets.map (fun (b : Bucket) =>
        if classOf b.code = q.p0 then
          { b.refill old.1 old.2 s.opUs with
            tokens := Nat.min burst (b.refill old.1 old.2 s.opUs).tokens, refillUs := s.opUs, given := 0 }
        else b)
      ({ s1 with recorder := { s1.recorder with
        rates := s1.recorder.rates.set q.p0 (rate, burst), buckets := buckets } }).answer 0x0605 q .ok)

/-! ### Rows of the table -/

/-- RECORD_WRITE (R360). -/
def execRecordWrite (bad : Option Nat) (s : State) : Host.Outcome State Fault Refusal :=
  .next (if s.mg.alive && s.power.state.powered then (bad.elim s s.withdrawBlock).writeNext else s).settle
/-- TOKEN_REFILL (R362): at its instant on the grid of the code's bucket. -/
def execTokenRefill (code : Nat) (s : State) : Host.Outcome State Fault Refusal :=
  .next (if s.mg.alive && s.recorder.buckets.any (fun b => b.code == code) then s.refill code else s).settle
/-- SUPPRESSION_SUMMARY_TIMER (R363): 60 s after the first suppression that no summary has reported. -/
def execSuppressionSummaryTimer (code : Nat) (s : State) : Host.Outcome State Fault Refusal :=
  let b := s.recorder.bucket code s.opUs
  .next (if s.mg.alive && b.firstUs.any (fun t => t + 60000000 ≤ s.opUs) then s.summarise code else s).settle
/-- EVENT_FREEZE_EXPIRY (R365). -/
def execEventFreezeExpiry (s : State) : Host.Outcome State Fault Refusal :=
  .next (if s.mg.alive && s.recorder.frozenUntil.any (fun t => t ≤ s.opUs) then s.thaw else s).settle
/-- EVENT_INFO (R343). -/
def execEventInfo (r : Req) (s : State) : Host.Outcome State Fault Refusal := .next (s.decideEventInfo r).settle
/-- EVENT_READ (R342). -/
def execEventRead (r : Req) (s : State) : Host.Outcome State Fault Refusal := .next (s.decideEventRead r).settle
/-- EVENT_FREEZE (R364). -/
def execEventFreeze (r : Req) (s : State) : Host.Outcome State Fault Refusal := .next (s.decideEventFreeze r).settle
/-- EVENT_THAW (R365). -/
def execEventThaw (r : Req) (s : State) : Host.Outcome State Fault Refusal := .next (s.decideEventThaw r).settle
/-- EVENT_SET_RATE (R342). -/
def execEventSetRate (r : Req) (s : State) : Host.Outcome State Fault Refusal := .next (s.decideEventSetRate r).settle

end Sys2Proof.Machine
end

