-- ==== Sys2Proof/Machine/Mailbox.lean ====
section
/-! DEFINITION. The general, diagnostics and subscription commands of the mailbox (R333, R334, R349, R350, R352), with
their rows. -/

namespace Sys2Proof.Machine

/-! ### General records (R334) -/

/-- The version in a bank of an update target. -/
def UpdateTarget.version (t : UpdateTarget) (bank : Nat) : Nat := if bank = 0 then t.version0 else t.version1
/-- The content of a bank. -/
def UpdateTarget.bank (u : UpdateTarget) (n : Nat) : List Byte := if n = 0 then u.bank0 else u.bank1
/-- The boot selector that decides (R416). -/
def UpdateTarget.sel (t : UpdateTarget) : Selector := t.selector.current.getD {}

/-- The identity record. -/
def State.identityRecord (s : State) : List Byte :=
  let fw := s.update.firmware
  let bank := fw.sel.active
  let st := s.station
  le 2 s.unit.variant.part ++ [s.unit.hwRev, 1] ++ padTo 16 s.unit.unitId ++ le 4 (fw.version bank)
    ++ [BitVec.ofNat 8 bank, if st.isSome then BitVec.ofNat 8 s.update.data.sel.active else 0xFF, 0, 0]
    ++ le 4 ((st.map Station.stationId).getD 0) ++ le 4 ((st.map Station.dataVersion).getD 0)
    ++ le 4 ((st.map Station.imageCrc).getD 0).toNat ++ le 4 s.sec.keyId ++ le 4 s.powerCycle
    ++ le 8 ((st.map Station.prepTime).getD 0) ++ [s.epoch] ++ List.replicate 7 0

/-- The capability record. -/
def Variant.capRecord (v : Variant) : List Byte :=
  [(if v.spare then 4 else 3), BitVec.ofNat 8 v.canPorts, BitVec.ofNat 8 v.inputs, BitVec.ofNat 8 v.outputs,
   BitVec.ofNat 8 v.pulses, BitVec.ofNat 8 v.groups] ++ le 2 v.maxNodes ++ le 4 v.eventRecords ++ le 2 16384 ++ le 2 4096

/-- A signed 16-bit field. -/
def signed16 (n : Int) : List Byte := le 2 (BitVec.ofInt 16 n).toNat

/-- FOUND as the management core has it over the crossing from RT (R221, R228). -/
def State.rtFound (s : State) : BitVec 3 := if (s.xing .rtMg).linkDown then 0 else s.rt.found

/-- The status record. -/
def State.statusRecord (s : State) : List Byte :=
  le 4 s.stateWord.toNat ++ le 4 s.bench.lastO ++ le 6 s.opMs ++ [s.sec.sealPat.setWidth 8, s.rtFound.setWidth 8]
    ++ le 2 s.power.logicMv ++ le 2 s.power.cellMv ++ signed16 s.power.boardTemp ++ le 2 s.routesSet
    ++ le 2 s.eng.queue.length ++ le 2 s.slotsUsed ++ le 2 (s.net.nodes.filter NodeDyn.dropped).length
    ++ [BitVec.ofNat 8 s.bench.forces.length, 0]

/-- The time record. -/
def State.timeRecord (s : State) : List Byte :=
  le 8 (s.calendar.1 / 1000000) ++ le 2 (s.calendar.1 / 1000 % 1000) ++ le 6 s.opMs

/-! ### General commands (R333) -/

/-- A command of the management core that needs no role; a payload is not looked at (R327). -/
def State.plain (s : State) (op : Nat) (q : Req) (p0 : Nat) (data : List Byte) : State :=
  s.mgCommand q op (s.judge q op false true none false true) (fun s => s.answer op q .ok p0 0 data)

/-- IDENTIFY. -/
def State.decideIdentify (s : State) (q : Req) : State := s.plain 0x0001 q 0 s.identityRecord
/-- CAPABILITIES. -/
def State.decideCapabilities (s : State) (q : Req) : State :=
  s.plain 0x0002 q s.unit.variant.cap.toNat s.unit.variant.capRecord
/-- GET_STATUS. -/
def State.decideGetStatus (s : State) (q : Req) : State := s.plain 0x0003 q 0 s.statusRecord
/-- GET_TIME. -/
def State.decideGetTime (s : State) (q : Req) : State := s.plain 0x0005 q (bit s.calendar.2 0) s.timeRecord
/-- SET_TIME (R333, R367). -/
def State.decideSetTime (s : State) (q : Req) : State :=
  let t := u64 q.payload 0
  let ok := q.payload.length == 8 && 946684800 ≤ t && t ≤ 4102444799 && q.p0 ≤ 999
  s.mgCommand q 0x0004 (s.judge q 0x0004 false true (some .maintainer) false ok) (fun s =>
    (({ s with rt := { s.rt with calUs := t * 1000000 + q.p0 * 1000, timeSet := true } }).anchor 2).answer 0x0004 q .ok)

/-! ### Diagnostics (R349, R350) -/

/-- The port counter record of CAN0 to CAN7, X6 and X7 (R350). -/
def State.portCounters (s : State) (k : Nat) : List Byte :=
  if k < 8 then
    let p := s.port k
    le 4 p.invalidNode ++ le 4 p.unknownNode ++ le 4 0 ++ le 4 0
  else
    let l := s.net.lans.getD (k - 8) {}
    le 4 l.invalidNode ++ le 4 l.unknownNode ++ le 4 l.malformed ++ le 4 l.checksum

/-- AS_STATUS, AS_PERMIT, AS_INHIBIT and AS_CLOCK (R201, R349). -/
def Ashlar.words (a : Ashlar) : List Byte :=
  le 4 a.statusWord.toNat ++ le 4 a.permit.toNat ++ le 4 a.inhibit.toNat ++ le 4 a.clock.toNat

/-- An entry into a node list in ascending order. -/
def insertListed (e : ListedNode) : List ListedNode → List ListedNode
  | [] => [e]
  | x :: l => if e.id ≤ x.id then e :: x :: l else x :: insertListed e l

/-- The node list in ascending order; no entries outside stand-alone operation (R19, R349). -/
def State.nodeList (s : State) : List ListedNode := if s.station.isSome then [] else s.net.listed.foldr insertListed []

/-- The copies as the cluster would refresh them now (R349). -/
def State.freshDiag (s : State) : DiagCopy :=
  { vote := s.voteRecord, ashlar := s.ash.words, safeRecord := s.power.record.elim [] SafeRecord.bytes
    inputs := (List.range s.unit.variant.inputs).map s.inputRecord
    outputs := (List.range s.unit.variant.outputs).map s.outputRecord
    groups := (List.range s.unit.variant.groups).map s.groupRecord
    can := (List.range 8).map s.canRecord
    counters := (List.range 10).map s.portCounters
    nodes := s.net.nodes.map (fun d => (d.id, d.record s.opUs))
    listed := s.nodeList.map (fun e => (e.id, e.bytes)) }

/-- What the management core answers from: its copies; before the first refresh of a start, the present values (R349, log
entry 85). -/
def State.diagNow (s : State) : DiagCopy := s.diag.getD s.freshDiag

/-- A listing of units: from PARAM0, at most PARAM1 of them, up to the variant's last of `present`; `all` is the largest
variant's number (R349). -/
def State.listUnits (s : State) (op : Nat) (q : Req) (all present : Nat) (units : DiagCopy → List (List Byte)) : State :=
  let ok := q.p0 < all && 1 ≤ q.p1 && q.p1 ≤ all
  s.mgCommand q op (s.judge q op (q.p0 < all && present ≤ q.p0) true none false ok) (fun s =>
    s.answer op q .ok 0 0 (((units s.diagNow).drop q.p0).take q.p1).flatten)

/-- DIAG_VOTE. -/
def State.decideDiagVote (s : State) (q : Req) : State := s.plain 0x0901 q 0 s.diagNow.vote
/-- DIAG_ASHLAR. -/
def State.decideDiagAshlar (s : State) (q : Req) : State := s.plain 0x0902 q 0 s.diagNow.ashlar
/-- DIAG_SAFE_RECORD. -/
def State.decideDiagSafeRecord (s : State) (q : Req) : State := s.plain 0x0903 q 0 s.diagNow.safeRecord
/-- DIAG_INPUTS. -/
def State.decideDiagInputs (s : State) (q : Req) : State :=
  s.listUnits 0x0904 q 64 s.unit.variant.inputs DiagCopy.inputs
/-- DIAG_OUTPUTS. -/
def State.decideDiagOutputs (s : State) (q : Req) : State :=
  s.listUnits 0x0905 q 32 s.unit.variant.outputs DiagCopy.outputs
/-- DIAG_GROUPS. -/
def State.decideDiagGroups (s : State) (q : Req) : State :=
  s.listUnits 0x0906 q 4 s.unit.variant.groups DiagCopy.groups
/-- DIAG_CAN_PORT. -/
def State.decideDiagCanPort (s : State) (q : Req) : State :=
  let ok := q.p0 < 8
  s.mgCommand q 0x0907 (s.judge q 0x0907 (q.p0 < 8 && s.unit.variant.canPorts ≤ q.p0) true none false ok) (fun s =>
    s.answer 0x0907 q .ok 0 0 (s.diagNow.can.getD q.p0 []))
/-- DIAG_PORT_COUNTERS. -/
def State.decideDiagPortCounters (s : State) (q : Req) : State :=
  let v := s.unit.variant
  let absent := (q.p0 < 8 && v.canPorts ≤ q.p0) || ((q.p0 == 8 || q.p0 == 9) && !v.ethernet)
  let ok := q.p0 ≤ 9
  s.mgCommand q 0x0908 (s.judge q 0x0908 absent true none false ok) (fun s =>
    s.answer 0x0908 q .ok 0 0 (s.diagNow.counters.getD q.p0 []))
/-- The records of a list from a node ID upwards, at most a number of them (R349). -/
def recordsFrom (l : List (Nat × List Byte)) (first count : Nat) : List Byte :=
  ((l.filter (fun p => first ≤ p.1)).take count).flatMap Prod.snd
/-- DIAG_NODE (R303). -/
def State.decideDiagNode (s : State) (q : Req) : State :=
  let ok := 1 ≤ q.p1 && q.p1 ≤ 127
  s.mgCommand q 0x0909 (s.judge q 0x0909 false true none false ok) (fun s =>
    s.answer 0x0909 q .ok 0 0 (recordsFrom s.diagNow.nodes q.p0 q.p1))
/-- DIAG_NODE_LIST (R19): no entries outside stand-alone operation. -/
def State.decideDiagNodeList (s : State) (q : Req) : State :=
  let ok := 1 ≤ q.p1 && q.p1 ≤ 169
  s.mgCommand q 0x090A (s.judge q 0x090A false true none false ok) (fun s =>
    s.answer 0x090A q .ok 0 0 (recordsFrom s.diagNow.listed q.p0 q.p1))

/-! ### Subscriptions (R324, R352) -/

/-- SUBSCRIBE. -/
def State.decideSubscribe (s : State) (q : Req) : State :=
  let m := u64 q.payload 0
  let ok := q.payload.length == 8 && m < 512
  s.mgCommand q 0x0A01 (s.judge q 0x0A01 false true none false ok) (fun s =>
    let h := s.hi
    let h1 := match q.via with
      | .pcie => { h with subscribed := BitVec.ofNat 64 m }
      | .x8 => { h with x8Subscribed := BitVec.ofNat 64 m, x8Dest := some (q.replyIp, q.replyPort) }
    ({ s with hi := h1 }).answer 0x0A01 q .ok)

/-- SUBSCRIPTION_GET. -/
def State.decideSubscriptionGet (s : State) (q : Req) : State :=
  s.plain 0x0A02 q 0 (le 8 (match q.via with
    | .pcie => s.hi.subscribed
    | .x8 => s.hi.x8Subscribed).toNat)

/-! ### Rows of the table -/

/-- IDENTIFY (R333). -/
def execIdentify (r : Req) (s : State) : Host.Outcome State Fault Refusal := .next (s.decideIdentify r).settle
/-- CAPABILITIES (R333). -/
def execCapabilities (r : Req) (s : State) : Host.Outcome State Fault Refusal := .next (s.decideCapabilities r).settle
/-- GET_STATUS (R333). -/
def execGetStatus (r : Req) (s : State) : Host.Outcome State Fault Refusal := .next (s.decideGetStatus r).settle
/-- SET_TIME (R333). -/
def execSetTime (r : Req) (s : State) : Host.Outcome State Fault Refusal := .next (s.decideSetTime r).settle
/-- GET_TIME (R333). -/
def execGetTime (r : Req) (s : State) : Host.Outcome State Fault Refusal := .next (s.decideGetTime r).settle
/-- DIAG_VOTE (R183). -/
def execDiagVote (r : Req) (s : State) : Host.Outcome State Fault Refusal := .next (s.decideDiagVote r).settle
/-- DIAG_ASHLAR (R201). -/
def execDiagAshlar (r : Req) (s : State) : Host.Outcome State Fault Refusal := .next (s.decideDiagAshlar r).settle
/-- DIAG_SAFE_RECORD (R213). -/
def execDiagSafeRecord (r : Req) (s : State) : Host.Outcome State Fault Refusal :=
  .next (s.decideDiagSafeRecord r).settle
/-- DIAG_INPUTS (R259). -/
def execDiagInputs (r : Req) (s : State) : Host.Outcome State Fault Refusal := .next (s.decideDiagInputs r).settle
/-- DIAG_OUTPUTS (R259). -/
def execDiagOutputs (r : Req) (s : State) : Host.Outcome State Fault Refusal := .next (s.decideDiagOutputs r).settle
/-- DIAG_GROUPS (R259). -/
def execDiagGroups (r : Req) (s : State) : Host.Outcome State Fault Refusal := .next (s.decideDiagGroups r).settle
/-- DIAG_CAN_PORT (R279). -/
def execDiagCanPort (r : Req) (s : State) : Host.Outcome State Fault Refusal := .next (s.decideDiagCanPort r).settle
/-- DIAG_PORT_COUNTERS (R350). -/
def execDiagPortCounters (r : Req) (s : State) : Host.Outcome State Fault Refusal :=
  .next (s.decideDiagPortCounters r).settle
/-- DIAG_NODE (R303). -/
def execDiagNode (r : Req) (s : State) : Host.Outcome State Fault Refusal := .next (s.decideDiagNode r).settle
/-- DIAG_NODE_LIST (R350). -/
def execDiagNodeList (r : Req) (s : State) : Host.Outcome State Fault Refusal := .next (s.decideDiagNodeList r).settle
/-- SUBSCRIBE (R352). -/
def execSubscribe (r : Req) (s : State) : Host.Outcome State Fault Refusal := .next (s.decideSubscribe r).settle
/-- SUBSCRIPTION_GET (R352). -/
def execSubscriptionGet (r : Req) (s : State) : Host.Outcome State Fault Refusal :=
  .next (s.decideSubscriptionGet r).settle

end Sys2Proof.Machine
end

