-- ==== Sys2Proof/Machine/Security.lean ====
section
/-! DEFINITION. Roles and sessions, passwords and keys, the life-cycle, LOCKOUT release, the change log, the maintenance
address, debug attach and the cabinet seal (R346 to R348, R368 to R389, R181, R212), with their rows. -/

namespace Sys2Proof.Machine

/-! ### The change log (R387) -/

/-- A change-log entry as its 64 bytes (R387). -/
def LogEntry.bytes (e : LogEntry) : List Byte :=
  let b := le 4 e.entry ++ [BitVec.ofNat 8 e.role, BitVec.ofNat 8 e.item, BitVec.ofNat 8 e.sealPat,
      BitVec.ofNat 8 (bit e.timeSet 0 + bit e.recovered 1)]
    ++ le 4 e.subject.toNat ++ le 4 e.beforeCrc.toNat ++ le 4 e.afterCrc.toNat ++ le 4 e.before.toNat
    ++ le 4 e.after.toNat ++ le 6 e.opMs ++ [BitVec.ofNat 8 e.transport, 0] ++ le 8 (e.calMs / 1000)
    ++ le 2 (e.calMs % 1000) ++ [0, 0] ++ le 4 e.session.toNat ++ List.replicate 8 0
  b ++ le 4 (crc32c b).toNat

/-- CHANGE_LOG_READ (R346). -/
def State.decideChangeLogRead (s : State) (q : Req) : State :=
  let ok := 1 ≤ q.p1 && q.p1 ≤ 63
  s.mgCommand q 0x0807 (s.judge q 0x0807 false true none false ok) (fun s =>
    let l := (s.log.drop q.p0).take q.p1
    s.answer 0x0807 q .ok l.length 0 (l.flatMap LogEntry.bytes))

/-- A change refused because the change log is full (R389). -/
def State.logFull (s : State) (op : Nat) (q : Req) : State :=
  s.complete op q .refused 0x0817 (logCapacity - s.log.length)

/-! ### Passwords (R346, R381, R382) -/

/-- Whether a payload is a ROLE_LOGIN record: role, LENGTH, reserved bytes and padding (R346). -/
def loginForm (p : List Byte) : Bool :=
  p.length == 68 && (u8 p 0 == 1 || u8 p 0 == 2) && 10 ≤ u8 p 1 && u8 p 1 ≤ 64 && zeros p 2 2
    && zeros p (4 + u8 p 1) (64 - u8 p 1)

/-- The password of a ROLE_LOGIN record. -/
def passwordOf (p : List Byte) : List Byte := slice p 4 (u8 p 1)

/-- The role of a ROLE_LOGIN record. -/
def roleIn (p : List Byte) : Role := if u8 p 0 = 1 then .maintainer else .safetyAuthority

/-- The offset of the first byte of a password that is zero or no valid UTF-8 (R348, R351). -/
def badPasswordByte (pw : List Byte) : Option Nat :=
  match pw.findIdx? (· == 0), utf8Bad pw 0 0 0 0 0 with
  | some a, some b => some (Nat.min a b)
  | some a, none => some a
  | none, b => b

/-- What a salt makes of a password (R382). -/
def storedPassword (pw salt : List Byte) : Password :=
  ⟨salt, be 48 (Config.pbkdf2 pw salt).toNat⟩

/-- The CRC of a stored salt and result, 0 where none is stored (R388). -/
def passwordCrc (p : Option Password) : Word := p.elim 0 (fun x => crc32c (x.salt ++ x.result))

/-- The stored password of a role. -/
def Security.password (c : Security) : Role → Option Password
  | .maintainer => c.maintainer
  | .safetyAuthority => c.authority

/-- The stored password of a role, set. -/
def Security.setPassword (c : Security) (r : Role) (p : Option Password) : Security :=
  match r with
  | .maintainer => { c with maintainer := p }
  | .safetyAuthority => { c with authority := p }

/-- The login failures of a role. -/
def Security.login (c : Security) : Role → LoginState
  | .maintainer => c.maintainerLogin
  | .safetyAuthority => c.authorityLogin

/-- The login failures of a role, set. -/
def Security.setLogin (c : Security) (r : Role) (x : LoginState) : Security :=
  match r with
  | .maintainer => { c with maintainerLogin := x }
  | .safetyAuthority => { c with authorityLogin := x }

/-- Whether a firmware bank is on trial (R419). -/
def State.onTrial (s : State) : Bool := s.update.firmware.sel.trial

/-! ### Sessions (R325, R348) -/

/-- The live sessions of a transport. -/
def State.liveSessions (s : State) (via : Transport) : List Session :=
  s.mg.sessions.filter (fun x => x.via == via && s.opUs < x.lastUs + 1800000000)

/-- A session ID of the cluster's generator: not zero and not used in this power cycle (R348). -/
def sessionId (draw : Word) (used : List Word) : Word :=
  (((List.range (used.length + 2)).map (fun k => draw + word k)).find? (fun w => w != 0 && !used.contains w)).getD draw

/-- The indications whose condition has ended, acknowledged by a login (R386). -/
def State.acknowledge (s : State) : State :=
  let sealDone := s.sec.pendSeal && (s.sec.sealPat == 0b0101#4 || s.sec.sealPat == 0b1010#4)
  let map := bit s.sec.pendRt 0 + bit sealDone 1 + bit s.sec.pendNand 2
  if map = 0 then s
  else ({ s with sec := { s.sec with
    pendRt := false, pendSeal := s.sec.pendSeal && !sealDone, pendNand := false } } : State).event 0x9025 .cl .info map

/-- A successful login (R348). -/
def State.openSession (s : State) (q : Req) (r : Role) : State :=
  let id := sessionId (Config.sessionDraw s.draws) s.mg.usedIds
  let s1 := { s with
    draws := s.draws + 1
    sec := s.sec.setLogin r {}
    mg := { s.mg with
      usedIds := id :: s.mg.usedIds
      sessions := s.mg.sessions ++ [Session.mk id q.via r s.opUs] } }
  let via : Nat := match q.via with
    | .pcie => 0
    | .x8 => 1
  ((s1.event 0x9012 .cl .info r.code via id.toNat).acknowledge).complete 0x0801 q .ok id.toNat

/-- A failed login: the fifth in a row locks the role for 15 minutes (R348). -/
def State.loginFails (s : State) (q : Req) (r : Role) : State :=
  let n := (s.sec.login r).failures + 1
  let s1 := s.event 0x9010 .cl .info r.code
  if n < 5 then
    ({ s1 with sec := s1.sec.setLogin r { failures := n } }).complete 0x0801 q .deniedAuth
  else
    (({ s1 with sec := s1.sec.setLogin r { lockedUntil := some (s.opUs + 900000000) } }).event 0x9011 .cl .info
      r.code).complete 0x0801 q .deniedAuth

/-- The rest of a running lock in seconds, rounded up; 0 without one. -/
def State.lockLeft (s : State) (r : Role) : Nat :=
  (((s.sec.login r).lockedUntil.map (fun t => t - s.opUs)).getD 0 + 999999) / 1000000

/-- ROLE_LOGIN (R346, R348). -/
def State.decideRoleLogin (s : State) (q : Req) : State :=
  s.clCommand q 0x0801 (s.judge q 0x0801 false true none false (loginForm q.payload)) (fun s =>
    let r := roleIn q.payload
    if s.lockLeft r ≠ 0 then s.complete 0x0801 q .refused 0x0814 (s.lockLeft r)
    else if (s.sec.password r).any (fun p => storedPassword (passwordOf q.payload) p.salt == p) then
      if 8 ≤ (s.liveSessions q.via).length then s.complete 0x0801 q .refused 0x0816 8 else s.openSession q r
    else s.loginFails q r)

/-- ROLE_LOGOUT (R346): the session named by SESSION ends. -/
def State.decideRoleLogout (s : State) (q : Req) : State :=
  s.clCommand q 0x0802 (s.judge q 0x0802 false true none false true) (fun s =>
    ({ s with mg := { s.mg with
      sessions := s.mg.sessions.filter (fun x => !(x.id == q.session && x.via == q.via)) } }).complete 0x0802 q .ok)

/-- PASSWORD_SET (R346, R381, R382). -/
def State.decidePasswordSet (s : State) (q : Req) : State :=
  let stateOk := s.power.state == .stop && !s.onTrial
  s.clCommand q 0x0803 (s.judge q 0x0803 false stateOk (some .safetyAuthority) true (loginForm q.payload)) (fun s =>
    let r := roleIn q.payload
    let pw := passwordOf q.payload
    match badPasswordByte pw with
    | some k => s.complete 0x0803 q .refused 0x0815 k
    | none =>
      if codePoints pw < 10 then s.complete 0x0803 q .refused 0x0815 pw.length
      else if !s.logRoom 1 then s.logFull 0x0803 q
      else
        let new := storedPassword pw (le 32 (Config.salt s.draws).toNat)
        let s1 := s.logChange (s.logBy q {
          item := 6, subject := word r.code, beforeCrc := passwordCrc (s.sec.password r),
          afterCrc := passwordCrc (some new) })
        ({ s1 with
          draws := s1.draws + 1
          sec := s1.sec.setPassword r (some new)
          mg := { s1.mg with sessions := s1.mg.sessions.filter (fun x => x.role != r) } }).complete 0x0803 q .ok)

/-- KEY_INSTALL (R346). -/
def State.decideKeyInstall (s : State) (q : Req) : State :=
  let p := q.payload
  let key := slice p 4 97
  let stateOk := s.power.state == .stop && s.lifecycle == 1 && !s.onTrial
  let ok := p.length == 104 && u32 p 0 != 0 && u8 p 4 == 4 && zeros p 101 3 && Config.onCurve key
  s.clCommand q 0x0804 (s.judge q 0x0804 false stateOk (some .safetyAuthority) true ok) (fun s =>
    if !s.logRoom 1 then s.logFull 0x0804 q
    else
      let crc (k : List Byte) : Word := if k.isEmpty then 0 else crc32c k
      let s1 := s.logChange (s.logBy q {
        item := 7, subject := word (u32 p 0), beforeCrc := crc s.sec.key, afterCrc := crc key })
      ({ s1 with sec := { s1.sec with keyId := u32 p 0, key := key } }).complete 0x0804 q .ok)

/-! ### Debug (R181, R377 to R380) -/

/-- The code of a debug kind in events. -/
def debugCode : DebugKind → Nat
  | .none => 0
  | .nonInvasive => 1
  | .invasive => 2
  | .testEngine => 3

/-- The power states in which a life-cycle state accepts an attach (R378). -/
def attachStates (lifecycle : Nat) (k : DebugKind) : List PowerState :=
  match k, lifecycle with
  | .nonInvasive, 0 | .nonInvasive, 1 | .nonInvasive, 2 | .nonInvasive, 4 | .nonInvasive, 5 =>
    [.run, .stop, .safe, .lockout]
  | .invasive, 2 | .invasive, 4 => [.run, .stop, .safe, .lockout]
  | .invasive, 0 | .testEngine, 0 | .testEngine, 5 => [.stop, .safe, .lockout]
  | _, _ => []

/-- The end of a debug session (R380): 1 seal, 2 entry into OPERATIONAL, 3 detach or another attach,
4 SHUTDOWN_TEST. LOCKSTEP_BROKEN stays, and the hold of an invasive or test-engine session ends (R186). -/
def State.endDebug (s : State) (cause : Nat) : State :=
  if s.sec.debug = .none then s
  else
    let s1 := ({ s with sec := { s.sec with debug := .none } }).event 0x9032 .cl .info (debugCode s.sec.debug) cause
    if debugHolds s.sec.debug then s1.holdDebug false else s1

/-- What halting a core does (R181, R186): the attach line set, lockstep broken with event 0x1033, Ashlar holding
everything off, RUN left for STOP. -/
def State.breakLockstep (s : State) (core : Nat) (k : DebugKind) : State :=
  let s1 := s.holdDebug true
  let s2 := (({ s1 with vote := { s1.vote with lockstepBroken := true } }).event 0x1033 .cl .info s.bench.cycle core
    (debugCode k)).holdLockstep true
  if s2.power.state = .run then s2.enterStop else s2

/-- An attach request at X9 (R377 to R379). -/
def State.attach (s : State) (k : DebugKind) (core : Nat) : State :=
  let l := attachStates s.lifecycle k
  if k = .none || !s.power.state.powered then s
  else
    let cause := if l.isEmpty then 1 else if !l.contains s.power.state then 2
      else if s.lifecycle ≠ 0 && !s.sealOpen then 3 else 0
    if cause ≠ 0 then s.event 0x9030 .cl .info (debugCode k) cause
    else
      let s1 := s.endDebug 3
      let s2 := ({ s1 with sec := { s1.sec with debug := k } }).event 0x9031 .cl .info (debugCode k)
      if k = .nonInvasive then s2 else s2.breakLockstep core k

/-! ### The seal (R383 to R386) -/

/-- How a pattern reads: the event of a change to it (R383, R385). -/
def sealEvent (p : BitVec 4) : Nat := if p = 0b1010#4 then 0x9020 else if p = 0b0101#4 then 0x9021 else 0x9022

/-- A pattern accepted after 20 equal samples (R383). -/
def State.sealAccepted (s : State) (p : BitVec 4) : State :=
  let s1 := { s with sec := { s.sec with
    sealPat := p, pendSeal := s.sec.pendSeal || sealEvent p == 0x9022 } }
  let s2 := if sealEvent p = sealEvent s.sec.sealPat then s1 else s1.event (sealEvent p) .hi .info p.toNat
  if p ≠ 0b1010#4 && s.lifecycle ≠ 0 then s2.endDebug 1 else s2

/-! ### The life-cycle (R346, R347, R369 to R372) -/

/-- Why an advance is refused: its reason and parameter (R347). -/
def State.advanceRefused (s : State) (target : Nat) : Option (Nat × Nat) :=
  match s.lifecycle, target with
  | _, 5 => none
  | 1, 2 =>
    if s.sec.key.isEmpty then some (0x0811, 0)
    else if s.sec.maintainer.isNone then some (0x0812, 1)
    else if s.sec.authority.isNone then some (0x0812, 2)
    else none
  | 2, 3 | 4, 3 => if s.station.isNone then some (0x0813, 0) else none
  | 3, 4 => none
  | _, t => some (0x0810, t)

/-- The fuse of a target blown; PROVISIONED's is blown at the factory (R369, R371). -/
def Security.blow (c : Security) (target : Nat) : Security :=
  match target with
  | 2 => { c with lcC := true }
  | 3 | 4 => { c with lcO := true }
  | 5 => { c with lcR := true }
  | _ => c

/-- What entry into RETIRED erases: the customer key, both passwords, every session, the change log (R347). -/
def State.eraseRetired (s : State) : State :=
  { s with
    sec := { s.sec with keyId := 0, key := [], maintainer := none, authority := none }
    mg := { s.mg with sessions := [] }
    log := [] }

/-- The steps of an advance after its fuse (R371, R372): the mode record, the erase, the change-log entry, event
0x9001, the end of debug. -/
def State.finishAdvance (s : State) (e : LogEntry) (old new : Nat) (recovered : Bool) : State :=
  let s1 := if new = 3 || new = 4 then { s with sec := { s.sec with mode := s.sec.mode.put new } } else s
  let s2 := if new = 5 then s1.eraseRetired else s1
  let s3 := s2.logChange { e with item := 5, before := word old, after := word new, recovered := recovered }
  let s4 := ({ s3 with sec := { s3.sec with advance := none } }).event 0x9001 .cl .info old new (if recovered then 1 else 0)
    recovered
  if new = 3 then s4.endDebug 2 else s4

/-- LIFECYCLE_ADVANCE (R346, R347, R371). -/
def State.decideLifecycleAdvance (s : State) (q : Req) : State :=
  let t := q.p0
  let power := s.power.state == .stop || (t == 5 && (s.power.state == .safe || s.power.state == .lockout))
  let forced := t == 3 && (s.lifecycle == 2 || s.lifecycle == 4) && !s.bench.forces.isEmpty
  let stateOk := power && !forced && !s.onTrial
  s.clCommand q 0x0805 (s.judge q 0x0805 false stateOk (some .safetyAuthority) true true) (fun s =>
    match s.advanceRefused t with
    | some r => s.complete 0x0805 q .refused r.1 r.2
    | none =>
      if t ≠ 5 && !s.logRoom 1 then s.logFull 0x0805 q
      else
        let s1 := ({ s with sec := s.sec.blow t }).holdLifecycle
        (s1.finishAdvance (s.logBy q {}) s.lifecycle t false).complete 0x0805 q .ok)

/-- LOCKOUT_RELEASE (R212, R346). -/
def State.decideLockoutRelease (s : State) (q : Req) : State :=
  let stateOk := s.power.state == .lockout
  s.clCommand q 0x0806 (s.judge q 0x0806 false stateOk (some .safetyAuthority) true true) (fun s =>
    if s.power.comparatorsBad then s.complete 0x0806 q .refused 0x0820 0x1022
    else if !s.power.repeated then s.complete 0x0806 q .refused 0x0820 s.power.lockoutCause
    else if !s.logRoom 1 then s.logFull 0x0806 q
    else
      let s1 := s.logChange (s.logBy q { item := 8, before := word s.power.entries.length })
      let s2 := { s1 with power := { s1.power with
        state := .safe, entries := [], repeated := false, lockoutCause := 0 } }
      (s2.event 0x0103 .cl .info).complete 0x0806 q .ok)

/-! ### The maintenance address (R346) -/

/-- MAINT_ADDRESS: the new address takes effect 1 s after the response. -/
def State.decideMaintAddress (s : State) (q : Req) : State :=
  let p := q.payload
  let ok := p.length == 12 && 8 ≤ u8 p 4 && u8 p 4 ≤ 30 && zeros p 5 3
  s.mgCommand q 0x0808 (s.judge q 0x0808 false true (some .maintainer) false ok) (fun s =>
    if !s.logRoom 1 then s.answer 0x0808 q .refused 0x0817 (logCapacity - s.log.length)
    else
      let ip := word (ofBe (slice p 0 4))
      let s1 := s.logChange (s.logBy q { item := 10, before := s.hi.x8Address, after := ip })
      ({ s1 with hi := { s1.hi with
        x8New := some (ip, u8 p 4, word (ofBe (slice p 8 4)), s.opUs + 1000000) } }).answer 0x0808 q .ok)

/-! ### Rows of the table -/

/-- ROLE_LOGIN (R348). -/
def execRoleLogin (r : Req) (s : State) : Host.Outcome State Fault Refusal := .next (s.decideRoleLogin r).settle
/-- ROLE_LOGOUT (R348). -/
def execRoleLogout (r : Req) (s : State) : Host.Outcome State Fault Refusal := .next (s.decideRoleLogout r).settle
/-- PASSWORD_SET (R346). -/
def execPasswordSet (r : Req) (s : State) : Host.Outcome State Fault Refusal := .next (s.decidePasswordSet r).settle
/-- KEY_INSTALL (R346). -/
def execKeyInstall (r : Req) (s : State) : Host.Outcome State Fault Refusal := .next (s.decideKeyInstall r).settle
/-- LIFECYCLE_ADVANCE (R371). -/
def execLifecycleAdvance (r : Req) (s : State) : Host.Outcome State Fault Refusal :=
  .next (s.decideLifecycleAdvance r).settle
/-- LOCKOUT_RELEASE (R212). -/
def execLockoutRelease (r : Req) (s : State) : Host.Outcome State Fault Refusal :=
  .next (s.decideLockoutRelease r).settle
/-- CHANGE_LOG_READ (R387). -/
def execChangeLogRead (r : Req) (s : State) : Host.Outcome State Fault Refusal :=
  .next (s.decideChangeLogRead r).settle
/-- MAINT_ADDRESS (R346). -/
def execMaintAddress (r : Req) (s : State) : Host.Outcome State Fault Refusal := .next (s.decideMaintAddress r).settle
/-- SESSION_EXPIRY (R348): 30 minutes after the last command that named it. -/
def execSessionExpiry (session : Word) (s : State) : Host.Outcome State Fault Refusal :=
  .next ({ s with mg := { s.mg with sessions := s.mg.sessions.filter (fun x =>
    !(x.id == session && x.lastUs + 1800000000 ≤ s.opUs)) } }).settle
/-- ROLE_LOCK_EXPIRY (R348): 15 minutes of operating time after the lock began. -/
def execRoleLockExpiry (role : Role) (s : State) : Host.Outcome State Fault Refusal :=
  let x := s.sec.login role
  .next (if x.lockedUntil.any (fun t => t ≤ s.opUs) then
    { s with sec := s.sec.setLogin role { x with lockedUntil := none } } else s).settle
/-- DEBUG_ATTACH (R378). -/
def execDebugAttach (kind : DebugKind) (core : Nat) (s : State) : Host.Outcome State Fault Refusal :=
  .next (s.attach kind core).settle
/-- DEBUG_DETACH (R380). -/
def execDebugDetach (s : State) : Host.Outcome State Fault Refusal := .next (s.endDebug 3).settle
/-- SEAL_CHANGE (R383): a pattern accepted by the host island. -/
def execSealChange (pattern : BitVec 4) (s : State) : Host.Outcome State Fault Refusal :=
  .next (if s.power.state.powered then s.sealAccepted pattern else s).settle

end Sys2Proof.Machine
end

