-- ==== Sys2Proof/Machine/SelfTest.lean ====
section
/-! DEFINITION. Self-test and repair: the begin and end of START, the shutdown test with its tokens and verdicts, memory
spares, fuses and the repair record (R376, R393 to R406, R175, R178, R212), with their rows. -/

namespace Sys2Proof

/-- Whether a verdict counts as a passed block (R398, R401). -/
def Verdict.good : Verdict → Bool
  | .pass | .repaired => true
  | .fail | .incomplete => false

end Sys2Proof

namespace Sys2Proof.Machine

/-! ### Blocks and verdicts (R393 to R395) -/

/-- The terminal count of a block (R393). -/
def terminal (spare : Bool) (block : Nat) : Nat :=
  match block with
  | 1 | 2 | 3 | 4 => 131072
  | 5 => 32768
  | 6 | 7 => 16384
  | 8 => 163840
  | 9 => if spare then 12800 else 9600
  | 10 => 5120
  | 11 => 1280
  | _ => 0

/-- The code of a verdict (R400). -/
def verdictCode : Verdict → Nat
  | .pass => 0
  | .fail => 1
  | .incomplete => 2
  | .repaired => 3

/-- The verdict of a block in a list of verdicts; PASS where it is not named. -/
def verdictOf (l : List (Nat × Verdict)) (block : Nat) : Verdict :=
  ((l.find? (fun p => p.1 == block)).map Prod.snd).getD .pass

/-! ### Memory spares (R402, R403) -/

/-- The block whose memories hold an instance (R393, R403; the halves of 24 to 31 are log entry 83). -/
def blockOf (inst : Nat) : Nat := if inst < 16 then 8 else if inst < 24 then 9 else if inst < 28 then 10 else 11

/-- Spare rows or columns of an instance (R403). -/
def spares (inst : Nat) (column : Bool) : Nat :=
  if inst < 16 then (if column then 2 else 4) else (if column then 1 else 2)

/-- Whether a spare is free for a failing line. -/
def Repair.free (r : Repair) (m : MemFail) : Bool :=
  (r.entries.filter (fun e => e.inst == m.inst && e.column == m.column)).length < spares m.inst m.column
    && r.entries.length < 48

/-- A soft repair allocated with event 0xA020, or 0xA030 where no spare is free; the second part says which. -/
def State.allocate (s : State) (m : MemFail) : State × Bool :=
  let kind := if m.column then 1 else 0
  if s.repair.free m then
    ((s.putRepair (fun r => { r with entries := r.entries ++ [⟨m.inst, m.column, m.address, 0⟩] })).event 0xA020 .cl .f0
      m.inst kind m.address, true)
  else (s.event 0xA030 .cl .f0 m.inst kind, false)

/-- Soft repairs allocated for every failing line; the second part says that spares cover all of them. -/
def State.allocateAll (s : State) (l : List MemFail) : State × Bool :=
  l.foldl (fun (p : State × Bool) m =>
    let r := p.1.allocate m
    (r.1, p.2 && r.2)) (s, true)

/-- New soft entries of a block verified by an MBIST that their instance passes (R403). -/
def State.verifyEntries (s : State) (block : Nat) (l : List MemFail) : State :=
  let due (e : RepairEntry) : Bool :=
    blockOf e.inst == block && e.state == 0 && !l.any (fun m => m.inst == e.inst)
  if s.repair.entries.any due then
    s.putRepair (fun r => { r with entries := r.entries.map (fun (e : RepairEntry) =>
      if due e then { e with state := 1 } else e) })
  else s

/-! ### Cores and slots after a test (R175, R176, R402, R404) -/

/-- A core that passed a start-up or shutdown test (R175, R179, R404): its mark cleared, Core S HEALTHY, back in its
slot if that is vacant and otherwise in reserve. A core fused out stays out. -/
def State.corePassed (s : State) (c : Nat) : State :=
  let s0 := if c = 3 then { s with vote := { s.vote with sigGood := 8 } } else s
  match s0.core c with
  | .failed | .unhealthy =>
    if s0.repair.marks.getD c 0 = 3 then s0
    else
      let s1 := (s0.putRepair (fun r => { r with marks := r.marks.set c 0 })).setCore c .reserve
      match (withIndex s1.vote.slots).find? (fun p => p.1.vacant && p.1.core == c) with
      | some p => (s1.setCore c .voting).modSlot p.2 (fun x => { x with active := true, vacant := false })
      | none => s1
  | _ => s0

/-- A core that failed a start-up (cause 5) or shutdown test (cause 6). -/
def State.coreFails (s : State) (c cause : Nat) : State :=
  match s.core c with
  | .failed | .absent => s
  | _ => s.markFailed c cause

/-- The core that takes a vacant slot: its own, else Core S, else another in reserve (R402). -/
def State.candidate (s : State) (x : Slot) : Option Nat :=
  if s.core x.core == .reserve && s.coreHealthy x.core then some x.core
  else if s.spareReady then some 3
  else (List.range 3).find? (fun c => s.core c == .reserve)

/-- Core S or a core in reserve taken into a vacant slot at a start (R402). -/
def State.fillSlot (s : State) (v : Nat) : State :=
  match s.vote.slots[v]? with
  | none => s
  | some x =>
    if !x.vacant then s
    else match s.candidate x with
      | none => s
      | some c =>
        let s1 := (s.modSlot v (fun x => { x with core := c, active := true, vacant := false, joinedCycle := none })).setCore
          c .voting
        if c = 3 && x.core ≠ 3 then (s1.voteEvent 0x1006 .f0 v x.core).voteNote 0x1006 s1.bench.cycle v else s1

/-- The slots as a start leaves them: isolated cores back in their slots, vacant slots filled, the slot map kept in the
repair record (R175, R402). A core whose lane test has not decided yet stays isolated for the first phase H (R169). -/
def State.settleSlots (s : State) : State :=
  let waits := s.vote.laneCheck.filter (fun v => ((s.vote.slots[v]?).map (fun x => !x.vacant)).getD false)
  let waiting (c : Nat) : Bool := waits.any (fun v => s.slotCore v == c)
  let cores := (withIndex s.vote.cores).map (fun (p : CoreState × Nat) =>
    match p.1 with
    | .selfTest | .syncing =>
      if waiting p.2 then p.1
      else if s.vote.slots.any (fun x => x.core == p.2 && !x.vacant) then CoreState.voting else CoreState.reserve
    | x => x)
  let slots := s.vote.slots.map (fun (x : Slot) => { x with active := !x.vacant && !waiting x.core })
  let s1 := { s with vote := { s.vote with
    cores := cores, slots := slots, testing := none, laneCheck := waits, joining := none, joinReady := false, cause := 0 } }
  let s2 := (List.range 3).foldl State.fillSlot s1
  let map := s2.vote.slots.map Slot.core
  let s3 := if s2.repair.slotMap = map then s2 else s2.putRepair (fun r => { r with slotMap := map })
  s3.dwellSync

/-- Whether the vacancy has reached DWELL_2OO2 (R175); without station data there is no such constant (R41). -/
def State.vacancyExpired (s : State) : Bool :=
  s.station.isSome && s.vote.slots.any Slot.vacant && s.dwellLimitUs ≤ s.dwellNow

/-! ### The begin of START (R24, R187, R376, R401) -/

/-- Whether the quick form runs (R401). -/
def State.quickForm (s : State) (leaving : Bool) : Bool :=
  s.test.ageBaseUs.any (fun t => s.opUs ≤ t + 604800000000) && !leaving && !s.vote.lockstepBroken

/-- The lanes that the repair record selects; lane 3 in place of a faulty lane is then soft (R178, R404). -/
def State.selectLanes (s : State) : State :=
  let s1 := { s with vote := { s.vote with lanes := s.repair.laneMap, lastAccuse := 0xFFFFFFFF } }
  if s.repair.laneMap.contains 3 && !s.repair.laneSoft && !s.repair.laneFused then
    s1.putRepair (fun r => { r with laneSoft := true })
  else s1

/-- Entry into START (R24, R163, R185, R187, R337, R375, R401): the LEDs lit, Ashlar reset, the form chosen, the lanes of
the repair record selected, the cores' stores written, the stand-alone node list cleared (R19). -/
def State.beginStart (s : State) (cause : StartCause) (leaving : Bool) : State :=
  let s1 := { s with
    power := { s.power with
      state := .start, ledTest := true, cause := cause, fullForm := !s.quickForm leaving, startUs := s.opUs,
      testPassed := false, readyOff := false }
    net := { s.net with listed := [], heardTelegram := false }
    eng := { s.eng with elems := s.eng.elems.map (fun (d : ElemDyn) => { d with
      frozen := false, freezeAge := 0xFFFF, learn := { d.learn with accepted := none } }) }
    bench := { s.bench with frozen := false, evaluated := false } }
  ((s1.selectLanes).bootStores).resetAshlar

/-- The BIST age in s, 0xFFFF_FFFF where it is not known (R401, R406). -/
def State.bistAge (s : State) : Nat := s.test.ageBaseUs.elim 0xFFFFFFFF (fun t => (s.opUs - t) / 1000000)

/-! ### The end of START (R376, R402) -/

/-- The verdicts of a start-up test: none named in the quick form; block 5 FAILs with any failing lane. -/
def State.startVerdicts (s : State) (r : StartResult) : List (Nat × Verdict) :=
  let l := if s.power.fullForm then r.blocks else []
  if r.lanes.isEmpty then l else (5, .fail) :: l

/-- The lanes that fail: those named, or all of them where block 5 FAILs without a name. -/
def State.badLanes (s : State) (r : StartResult) : List Nat :=
  if !r.lanes.isEmpty then r.lanes
  else if verdictOf (s.startVerdicts r) 5 = .fail then [0, 1, 2, 3] else []

/-- A failing lane in START (R402): lane 3 soft-selected. The second part says that the module goes to LOCKOUT. -/
def State.startLane (s : State) (bad : List Nat) : State × Bool :=
  match bad with
  | [] => (s, false)
  | lane :: _ =>
    let slot := ((withIndex s.vote.lanes).find? (fun p => p.1 == lane)).map Prod.snd
    if s.vote.lanes.contains 3 || bad.contains 3 || 1 < bad.length then
      (s.voteEvent 0x1023 .f4 lane (slot.getD 0xFF), true)
    else
      let s1 := s.voteEvent 0x1023 .f0 lane (slot.getD 0xFF)
      match slot with
      | some v =>
        (({ s1 with vote := { s1.vote with lanes := s1.vote.lanes.set v 3 } }).putRepair (fun r =>
          { r with laneMap := r.laneMap.set v 3, laneSoft := true }), false)
      | none => (s1, false)

/-- The test-pulse sources as their readback at this start finds them (R241, R242). -/
def State.startSources (s : State) (bad : List Nat) : State :=
  (List.range s.unit.variant.pulses).foldl (fun s k =>
    if !s.field.pulsing k then s
    else if bad.contains k then (if ((s.field.sources.getD k {}).fault) then s else s.sourceFails k 1)
    else s.modSource k (fun x => { x with fault := false, failRun := 0 })) s

/-- The cores of a full form: passes and failures (R175, R402). -/
def State.startCores (s : State) (l : List (Nat × Verdict)) : State :=
  if !s.power.fullForm then s
  else (List.range 4).foldl (fun s c =>
    if c = 3 && !s.unit.variant.spare then s
    else match verdictOf l (c + 1) with
      | .pass | .repaired => s.corePassed c
      | .fail => s.coreFails c 5
      | .incomplete => s) s

/-- The memories of a full form (R402, R403); the second part says that a failing line has no spare. -/
def State.startMemory (s : State) (r : StartResult) (l : List (Nat × Verdict)) : State × Bool :=
  if !s.power.fullForm then (s, false)
  else
    let s1 := [8, 9, 10, 11].foldl (fun s b =>
      if verdictOf l b = .incomplete then s else s.verifyEntries b r.memFails) s
    let a := s1.allocateAll r.memFails
    (a.1, !a.2 || [8, 9, 10, 11].any (fun b => verdictOf l b == .fail))

/-- The first block that is not PASS or REPAIRED, 0 for none (R398, R406). -/
def firstNotPassed (l : List (Nat × Verdict)) : Nat :=
  ((List.range' 1 11).find? (fun b => !(verdictOf l b).good)).getD 0

/-- RESULT of a list of verdicts (R398, R400). -/
def resultOf (l : List (Nat × Verdict)) : Nat :=
  let any (v : Verdict) : Bool := (List.range' 1 11).any (fun b => verdictOf l b == v)
  if any .fail then 1 else if any .incomplete then 2 else if any .repaired then 3 else 0

/-- The F4 cause of a start-up test: comparators, lanes, memories, cores, the vacancy (R175, R402). -/
def State.startLockout (s : State) (r : StartResult) (l : List (Nat × Verdict)) (laneLost memLost : Bool) : Nat :=
  if verdictOf l 6 = .fail || verdictOf l 7 = .fail || !r.plantedOk then 0x1022
  else if laneLost then 0x1023
  else if memLost then 0xA030
  else if ((List.range 4).filter s.coreHealthy).length < 2 then 0xA002
  else if s.vacancyExpired then 0x1012 else 0

/-- Whether a start-up test failed with an F3 cause (R402, R376; log entry 84). -/
def State.startUnsafe (s : State) (r : StartResult) (l : List (Nat × Verdict)) : Bool :=
  (List.range' 1 11).any (fun b => verdictOf l b == .incomplete) || !r.linkOk
    || (s.power.fullForm && (!r.ashlarKept || !r.ddrOk))

/-- The conditions of R210 for leaving SAFE other than the role, as a power-up meets them (R376). -/
def State.mayLeaveSafe (s : State) : Bool :=
  s.power.causes.isEmpty && (s.lifecycle == 2 || s.lifecycle == 3 || s.lifecycle == 4) && s.station.isSome

/-- START left for STOP, LOCKOUT kept or SAFE kept, without a new record (R212, R376). -/
def State.endStartIn (s : State) (p : PowerState) : State :=
  { s with power := { s.power with
    state := p, ledTest := false, readyOff := p != .stop, wasSafe := false, testPassed := false } }

/-- A full restart whose start-up test has passed restores voting, wherever its START ends (R181). -/
def State.fullRestart (s : State) : State :=
  if s.vote.lockstepBroken && s.power.fullForm && s.power.cause == StartCause.powerOn then
    ({ s with vote := { s.vote with lockstepBroken := false } }).holdLockstep false
  else s

/-- A passed start-up test: where START goes (R376, R401, R174); without station data it is STOP (R57, R376), and a
command that asked for RUN gets START_FAILED with the event of R57. -/
def State.startPassed (s : State) (complete : Bool) : State :=
  let s1 := { s with
    power := { s.power with testPassed := true, testPassedUs := s.opUs }
    test := { s.test with ageBaseUs := if complete then some s.opUs else s.test.ageBaseUs } }
  if s1.vote.dwellExpired then (s1.startRefused 0x0423 s1.dwellLimitH).endStartIn .stop
  else if s1.station.isNone then (s1.startRefused 0x0424 0xB021).endStartIn .stop
  else if s1.power.cause = StartCause.powerOn && s1.lifecycle ≠ 3 then s1.endStartIn .stop
  else s1.tryRun

/-- Station data given up: stand-alone operation (R17, R57). -/
def State.noStation (s : State) : State :=
  { s with station := none, eng := { s.eng with elems := [], routes := [] }, net := { s.net with nodes := [] } }

/-- The station data checks of a START that no power-on began (R57, R401): a failure is event 0xB021 and stand-alone
operation. -/
def State.checkStation (s : State) : State :=
  let u := s.update.data
  if s.power.cause = StartCause.powerOn || s.station.isNone then s
  else match validateActive (u.bank u.sel.active) s.sec.key with
    | some f => (s.event 0xB021 .cl .info f.reason).noStation
    | none => s

/-- The judgement of the start-up test (R376, R402): event 0xA002, then the first case of R376. Leaving SAFE by a power
cycle is event 0x0102 (R212). -/
def State.startJudged (s : State) (r : StartResult) : State :=
  let l := s.startVerdicts r
  let lane := (s.startSources r.badSources).startLane (s.badLanes r)
  let mem := (lane.1.startCores l).startMemory r l
  let s1 := mem.1.settleSlots
  let f4 := s1.startLockout r l lane.2 mem.2
  let f3 := s1.startUnsafe r l
  let result := if f4 ≠ 0 && resultOf l ≠ 1 then 1 else if f3 && resultOf l = 0 then 1 else resultOf l
  let sev : Severity := if f4 ≠ 0 then .f4 else if f3 then .f3 else if (resultOf l) = 0 then .info else .f0
  let s2 := (if f4 = 0 && !f3 then s1.fullRestart else s1).event 0xA002 .cl sev result (firstNotPassed l) r.durationMs
  if s.power.lockoutCause ≠ 0 then s2.endStartIn .lockout
  else if f4 ≠ 0 then (s2.startFailed f4).enterLockout f4
  else if s.power.cause = StartCause.powerOn && s.power.wasSafe && !s2.mayLeaveSafe then s2.endStartIn .safe
  else if f3 then (s2.startFailed 0xA002).enterSafe 0xA002
  else (if s.power.cause = StartCause.powerOn && s.power.wasSafe then s2.event 0x0102 .cl .info else s2).startPassed
    (s.power.fullForm && firstNotPassed l == 0)

/-- The end of the start-up test (R57, R376, R402). -/
def State.startDoneWith (s : State) (r : StartResult) : State := (s.checkStation).startJudged r

/-! ### The shutdown test (R396 to R400, R404, R405) -/

/-- The time limit of a step in µs (R397). -/
def stepLimitUs (n : Nat) : Nat :=
  match n with
  | 1 | 2 | 3 | 4 => 650000
  | 5 => 300000
  | 6 | 7 => 200000
  | 8 => 1000000
  | 9 => 600000
  | 10 => 300000
  | 11 => 200000
  | 12 => 300000
  | 13 => 100000
  | _ => 20000

/-- The record that SHUTDOWN writes first: RESULT INCOMPLETE (R396). -/
def State.openRecord (s : State) : ShutdownRecord :=
  { result := 2, failBlock := 1, lifecycle := s.lifecycle, fused := 0, verdicts := List.replicate 11 .incomplete,
    opMs := s.opMs, powerCycle := s.powerCycle, fwVersion := s.update.firmware.version s.update.firmware.sel.active,
    fwBank := s.update.firmware.sel.active, broken := s.vote.lockstepBroken, ashlarMatch := 0,
    repairSeq := s.test.repair.seqNo }

/-- SHUTDOWN (R333, R396): entry into SHUTDOWN_TEST. -/
def State.decideShutdown (s : State) (q : Req) : State :=
  let p := s.power.state
  let stateOk := (p == .stop || p == .safe || p == .lockout) && s.sec.debug != .invasive && s.sec.debug != .testEngine
  s.clCommand q 0x0006 (s.judge q 0x0006 false stateOk (some .maintainer) false true) (fun s =>
    let s1 := if p = .safe then s.event 0x0102 .cl .info else s
    let s2 := (s1.endDebug 4).event 0xA010 .cl .info s.lifecycle p.code
    { s2 with
      power := { s2.power with state := .shutdownTest, readyOff := false }
      field := { s2.field with demands := 0 }
      ash := { s2.ash with bistBlock := 1, bistCount := 0 }
      eng := { s2.eng with waiting := s2.eng.waiting ++ [.shutdown q] }
      test := { s2.test with
        record := some s2.openRecord, step := 1, stepUs := s.opUs + 20000, beganUs := s.opUs, verdicts := [],
        matched := 0, fused := 0, fromState := p, hotEnded := false, badLanes := [] } })

/-- The next step of the sequencer, which selects its block at Ashlar (R394, R397). -/
def State.nextStep (s : State) (n : Nat) : State :=
  { s with
    test := { s.test with step := n, stepUs := s.opUs }
    ash := { s.ash with bistBlock := if n ≤ 11 then n else 0, bistCount := 0 } }

/-- A verdict noted; any but PASS records 0xA011 with Ashlar's count (R406). -/
def State.noteVerdict (s : State) (block : Nat) (v : Verdict) (count : Nat) : State :=
  let s1 := { s with test := { s.test with verdicts := s.test.verdicts ++ [(block, v)] } }
  if v = .pass then s1 else s1.event 0xA011 .cl .info block (verdictCode v) count

/-- Whether this shutdown test has fuses to blow in the present life-cycle state (R404). -/
def State.mayFuse (s : State) : Bool :=
  s.lifecycle == 0 || s.lifecycle == 1 || s.lifecycle == 2 || s.lifecycle == 4

/-- The core that Core S replaces and that this test failed at two or more SHUTDOWN_FAILS (R404). -/
def State.coreDue (s : State) : Option Nat :=
  if s.repair.coreFused || !(s.vote.slots.map Slot.core).contains 3 || verdictOf s.test.verdicts 4 ≠ .pass then none
  else (List.range 3).find? (fun c =>
    verdictOf s.test.verdicts (c + 1) == .fail && 2 ≤ s.repair.fails.getD c 0 && s.repair.marks.getD c 0 != 3
      && !(s.vote.slots.map Slot.core).contains c)

/-- Whether lane 3 passed in block 5 of this test: the block passed, or it names other lanes only (R404). -/
def State.lanePassed (s : State) (lane : Nat) : Bool :=
  match verdictOf s.test.verdicts 5 with
  | .pass | .repaired => true
  | .fail => !s.test.badLanes.isEmpty && !s.test.badLanes.contains lane
  | .incomplete => false

/-- The repairs due for fusing: kind, instance or slot, and line (with 65,536 for a column) or core (R404). -/
def State.fusesDue (s : State) : List (Nat × Nat × Nat) :=
  let r := s.repair
  let mem := (r.entries.filter (fun e => e.state == 1)).map (fun e =>
    (0, e.inst, e.address + (if e.column then 65536 else 0)))
  let lane := if r.laneSoft && !r.laneFused && s.lanePassed 3 then
    [(1, (s.vote.lanes.findIdx? (· == 3)).getD 0xFF, 3)] else []
  let core := match s.coreDue with
    | some c => [(2, ((s.vote.slots.map Slot.core).findIdx? (· == 3)).getD 0xFF, c)]
    | none => []
  mem.take (24 - r.fusesUsed) ++ lane ++ core

/-- A fuse settled by its readback (R405). -/
def Repair.settle (r : Repair) (f : Nat × Nat × Nat) (good : Bool) : Repair :=
  match f.1 with
  | 0 =>
    { r with
      fusesUsed := r.fusesUsed + 1
      entries := r.entries.map (fun (e : RepairEntry) =>
        if e.inst = f.2.1 && e.address + (if e.column then 65536 else 0) = f.2.2 && e.state = 1 then
          { e with state := if good then 2 else 3 } else e) }
  | 1 => if good then { r with laneFused := true } else r
  | _ => if good then { r with coreFused := true, marks := r.marks.set f.2.2 3 } else r

/-- Whether the i-th fuse reads back right. -/
def fuseGood (oks : List Bool) (i : Nat) : Bool := oks.getD i true

/-- Pending fuses settled and FUSE_PENDING cleared (R405). -/
def State.settleFuses (s : State) (oks : List Bool) : State :=
  let s1 := s.putRepair (fun r => { (withIndex s.test.pendingFuses).foldl (fun (r : Repair) p =>
    r.settle p.1 (fuseGood oks p.2)) r with fusePending := false })
  let good := ((withIndex s.test.pendingFuses).filter (fun p => fuseGood oks p.2)).map Prod.fst
  { s1 with test := { s1.test with pendingFuses := [], blown := s1.test.blown ++ good } }

/-- The cores of a shutdown test, with SHUTDOWN_FAILS (R175, R404). -/
def State.shutdownCores (s : State) : State :=
  (List.range 4).foldl (fun s c =>
    if c = 3 && !s.unit.variant.spare then s
    else match verdictOf s.test.verdicts (c + 1) with
      | .pass | .repaired => (s.putRepair (fun r => { r with fails := r.fails.set c 0 })).corePassed c
      | .fail =>
        (s.putRepair (fun r => { r with fails := r.fails.set c (Nat.min 255 (r.fails.getD c 0 + 1)) })).coreFails c 6
      | .incomplete => s) s

/-- Entry into step 12: the cores' verdicts take effect, and the fuses due are announced by FUSE_PENDING, or deferred
with 0xA024 (R404, R405). -/
def State.enterFuses (s : State) : State :=
  let s1 := (s.shutdownCores).nextStep 12
  let due := s1.fusesDue
  if due.isEmpty then s1
  else if s1.mayFuse then
    let s2 := s1.putRepair (fun r => { r with fusePending := true })
    { s2 with test := { s2.test with pendingFuses := due } }
  else due.foldl (fun s f => s.event 0xA024 .cl .info f.1 f.2.1 s.lifecycle) s1

/-- The end of a block, with the next step (R397). -/
def State.afterBlock (s : State) (block : Nat) : State :=
  if block = 11 then s.enterFuses else s.nextStep (block + 1)

/-- The verdict of a block of the shutdown test and what it allocates (R394, R395). -/
def State.blockVerdict (s : State) (b : BlockResult) : State × Verdict :=
  let t := terminal s.unit.variant.spare b.block
  let sigOk := b.signature == s.test.expected.getD (b.block - 1) 0
  if b.block = 4 && !s.unit.variant.spare then (s, .pass)
  else if !(b.engineCount == t && b.ashlarCount == t) then (s, .incomplete)
  else if b.block < 8 then (s, if sigOk then .pass else .fail)
  else
    let s1 := s.verifyEntries b.block b.memFails
    if b.memFails.isEmpty then (s1, if sigOk then .pass else .fail)
    else
      let a := s1.allocateAll b.memFails
      (a.1, if a.2 then .repaired else .fail)

/-- The end of step 12: every announced fuse read back (R404, R405). -/
def State.fusesBlown (s : State) (oks : List Bool) : State :=
  let fs := withIndex s.test.pendingFuses
  let s1 := fs.foldl (fun s p =>
    let good := fuseGood oks p.2
    let addr := if p.1.1 = 0 then p.1.2.2 % 65536 else 0
    let s1 := s.event (if good then 0xA021 else 0xA022) .cl .info p.1.1 p.1.2.1 addr
    if good then { s1 with test := { s1.test with fused := s1.test.fused ||| 2 ^ p.1.1 } } else s1) s
  let s2 := if fs.isEmpty then s1 else s1.settleFuses oks
  s2.nextStep 13

/-- BIST_BLOCK_DONE: the step's block has ended (R394, R395, R397). -/
def State.blockDone (s : State) (b : BlockResult) : State :=
  if s.power.state ≠ .shutdownTest || s.test.step ≠ b.block then s
  else if b.block = 12 then s.fusesBlown b.fusesOk
  else
    let v := s.blockVerdict b
    let t := terminal s.unit.variant.spare b.block
    let hit := b.ashlarCount == t
    let s1 := { v.1 with
      test := { v.1.test with matched := if hit then v.1.test.matched ||| 2 ^ (b.block - 1) else v.1.test.matched }
      ash := { v.1.ash with bistBlock := b.block, bistCount := BitVec.ofNat 24 b.ashlarCount } }
    let s2 := if b.block = 5 then { s1 with test := { s1.test with badLanes := b.lanes } } else s1
    (s2.noteVerdict b.block v.2 b.ashlarCount).afterBlock b.block

/-- BIST_BLOCK_TIMEOUT: the block's time limit has passed (R395, R397). -/
def State.blockTimeout (s : State) (block ashlarCount : Nat) : State :=
  if s.power.state ≠ .shutdownTest || s.test.step ≠ block || 11 < block || s.opUs < s.test.stepUs + stepLimitUs block then s
  else
    let s1 := { s with ash := { s.ash with bistCount := BitVec.ofNat 24 ashlarCount } }
    (s1.noteVerdict block .incomplete ashlarCount).afterBlock block

/-- Above 85 °C (R399): the block at hand and those not reached are INCOMPLETE, and the record follows. -/
def State.shutdownHot (s : State) : State :=
  if s.power.state ≠ .shutdownTest || s.test.step = 0 || 12 ≤ s.test.step then s
  else
    let n := s.test.step
    let count := (Config.bistStrobes s.draws).toNat
    let s1 := ({ s with draws := s.draws + 1, test := { s.test with hotEnded := true } }).noteVerdict n .incomplete count
    ((List.range' (n + 1) (11 - n)).foldl (fun s b => s.noteVerdict b .incomplete 0) s1).nextStep 13

/-- Whether a shutdown test has passed for both comparators (R177). -/
def comparatorsPass (l : List (Nat × Verdict)) : Bool := verdictOf l 6 == .pass && verdictOf l 7 == .pass

/-- Whether a shutdown test ends the LOCKOUT of a cause (R212): every LOCKOUT in which X and Y have differed needs both
comparators (R177). -/
def State.lockoutEnds (s : State) (l : List (Nat × Verdict)) : Bool :=
  (comparatorsPass l || !s.power.comparatorsBad) &&
  match s.power.lockoutCause with
  | 0x1022 => comparatorsPass l
  | 0x1023 => s.vote.lanes.all s.lanePassed
  | 0x1012 => s.vote.slots.all (fun x => !x.vacant)
  | 0xA030 => [8, 9, 10, 11].all (fun b => (verdictOf l b).good)
  | _ => 2 ≤ ((List.range 4).filter s.coreHealthy).length

/-- The end of a LOCKOUT by shutdown test (R212). -/
def State.endLockout (s : State) (l : List (Nat × Verdict)) : State :=
  if s.power.lockoutCause ≠ 0 && !s.power.repeated && s.lockoutEnds l then
    ({ s with power := { s.power with lockoutCause := 0 } }).event 0x0103 .cl .info
  else s

/-- The shutdown-test record of step 13 (R398, R400). -/
def State.closeRecord (s : State) : ShutdownRecord :=
  let l := s.test.verdicts
  { s.openRecord with
    result := if s.test.hotEnded then 2 else resultOf l, failBlock := firstNotPassed l, fused := s.test.fused,
    verdicts := (List.range' 1 11).map (verdictOf l), ashlarMatch := s.test.matched }

/-- The completion of SHUTDOWN (R398). -/
def State.completeShutdown (s : State) (r : ShutdownRecord) : State :=
  let p0 := if r.result = 0 || r.result = 3 then 0 else r.result
  s.eng.waiting.foldl (fun s w => match w with
    | .shutdown q =>
      ({ s with eng := { s.eng with waiting := s.eng.waiting.filter (· != w) } }).deliver
        { req := q, opcode := 0x0006, status := Status.ok.code, param0 := word p0, param1 := word r.failBlock,
          arrival := q.arrival }
    | _ => s) s

/-- SHUTDOWN_TEST_DONE: the record written, READY_OFF asserted, SHUTDOWN completed (R397, R174, R212, R358). -/
def State.shutdownDone (s : State) : State :=
  if s.power.state ≠ .shutdownTest || s.test.step ≠ 13 then s
  else
    let r := s.closeRecord
    let s1 := { s with
      savedOpUs := s.opUs
      test := { s.test with record := some r, step := 0 }
      power := { s.power with readyOff := true }
      vote := { s.vote with dwellExpired := false } }
    let s3 (x : State) : State := if comparatorsPass s.test.verdicts then
      { x with power := { x.power with comparatorsBad := false } } else x
    let s2 := s1.event 0xA012 .cl .info r.result r.failBlock ((s.opUs - s.test.beganUs) / 1000)
    ((s3 (s2.endLockout s.test.verdicts)).thaw).completeShutdown r

/-- The BIST age base that a power-up takes from the shutdown-test record (R401). -/
def State.ageFromRecord (s : State) : Option Nat :=
  match s.test.record with
  | none => none
  | some r =>
    let fw := s.update.firmware
    let present := if s.unit.variant.spare then 0x7FF else 0x7F7
    if r.result = 0 && r.ashlarMatch &&& present = present && r.powerCycle + 1 = s.powerCycle
        && r.fwVersion = fw.version fw.sel.active && r.fwBank = fw.sel.active && r.repairSeq = s.test.repair.seqNo
        && !r.broken then some (r.opMs * 1000) else none

/-! ### Rows of the table -/

/-- START_UP_TEST_DONE (R376): after the LED test, which it follows (R24). -/
def execStartUpTestDone (r : StartResult) (s : State) : Host.Outcome State Fault Refusal :=
  .next (if s.power.state = .start && !s.power.ledTest && !s.power.testPassed && !s.power.dead then s.startDoneWith r
    else s).settle
/-- SHUTDOWN (R396). -/
def execShutdown (r : Req) (s : State) : Host.Outcome State Fault Refusal := .next (s.decideShutdown r).settle
/-- BIST_BLOCK_DONE (R395). -/
def execBistBlockDone (b : BlockResult) (s : State) : Host.Outcome State Fault Refusal := .next (s.blockDone b).settle
/-- BIST_BLOCK_TIMEOUT (R397). -/
def execBistBlockTimeout (block ashlarCount : Nat) (s : State) : Host.Outcome State Fault Refusal :=
  .next (s.blockTimeout block ashlarCount).settle
/-- SHUTDOWN_TEST_DONE (R397). -/
def execShutdownTestDone (s : State) : Host.Outcome State Fault Refusal := .next s.shutdownDone.settle

end Sys2Proof.Machine
end

