-- ==== Sys2Proof/Machine/UpdateOps.lean ====
section
/-! DEFINITION. Update of firmware and station data: download, verification, activation, trial and confirmation (R344,
R345, R407 to R421, R54 to R58, R21), with their rows. -/

namespace Sys2Proof.Machine

/-! ### Targets and the update image (R407, R410) -/

/-- The update target of a number: 1 firmware, 2 station data (R344). -/
def State.target (s : State) (t : Nat) : UpdateTarget := if t = 1 then s.update.firmware else s.update.data
/-- An update target, changed. -/
def State.modTarget (s : State) (t : Nat) (f : UpdateTarget → UpdateTarget) : State :=
  { s with update := if t = 1 then { s.update with firmware := f s.update.firmware }
    else { s.update with data := f s.update.data } }

/-- The bank that the selector does not name (R410). -/
def UpdateTarget.inactive (u : UpdateTarget) : Nat := 1 - u.sel.active
/-- The content of a bank, set. -/
def UpdateTarget.setBank (u : UpdateTarget) (n : Nat) (b : List Byte) : UpdateTarget :=
  if n = 0 then { u with bank0 := b } else { u with bank1 := b }
/-- The CRC of the header of the image in a bank. -/
def UpdateTarget.headerCrc (u : UpdateTarget) (n : Nat) : Word := if n = 0 then u.headerCrc0 else u.headerCrc1
/-- Version and header CRC of the image in a bank, set. -/
def UpdateTarget.setImage (u : UpdateTarget) (n version : Nat) (crc : Word) : UpdateTarget :=
  if n = 0 then { u with version0 := version, headerCrc0 := crc } else { u with version1 := version, headerCrc1 := crc }
/-- The rollback counter in force (R411). -/
def UpdateTarget.counter (u : UpdateTarget) : Nat := u.rollback.current.getD 0

/-- HW_TYPE of a header. -/
def upHwType (h : List Byte) : Nat := u16 h 10
/-- IMAGE_VERSION of a header. -/
def upVersion (h : List Byte) : Nat := u32 h 12
/-- ROLLBACK of a header. -/
def upRollback (h : List Byte) : Nat := u32 h 16
/-- BLOCK_COUNT of a header. -/
def upBlocks (h : List Byte) : Nat := u32 h 24
/-- CONTENT_SIZE of a header. -/
def upContent (h : List Byte) : Nat := u32 h 28

/-- The largest CONTENT_SIZE of a target (R407). -/
def maxContent (t : Nat) : Nat := if t = 1 then 67108864 else 33554432
/-- The largest BLOCK_COUNT of a target (R412). -/
def maxBlocks (t : Nat) : Nat := if t = 1 then 1025 else 513

/-- A stage entered, with its notification (R345, R353). -/
def State.setStage (s : State) (t stage : Nat) : State :=
  if (s.target t).stage = stage then s
  else (s.modTarget t (fun u => { u with stage := stage })).note 0x0106
    ([BitVec.ofNat 8 t, BitVec.ofNat 8 stage, 0, 0] ++ le 4 (s.target t).good)

/-- Whether PARAM0 names a target. -/
def targetOk (n : Nat) : Bool := n == 1 || n == 2

/-- The last refusal reason of a target (R345). -/
def State.lastReason (s : State) (t reason : Nat) : State := s.modTarget t (fun u => { u with lastReason := reason })

/-! ### Download (R345, R412, R413) -/

/-- UPDATE_BEGIN. -/
def State.decideUpdateBegin (s : State) (q : Req) : State :=
  let t := q.p0
  let h := q.payload
  let ok := targetOk t && h.length == 512 && u8 h 8 == t && upBlocks h != 0 && upBlocks h ≤ maxBlocks t
  s.mgCommand q 0x0701 (s.judge q 0x0701 false (!(t == 1 && s.onTrial)) (some .maintainer) false ok) (fun s =>
    let u := s.target t
    if 1 ≤ u.stage && u.stage ≤ 3 && u.header = h then
      let s1 := s.modTarget t (fun u => { u with chunk := 0, chunks := [] })
      (s1.event 0xB001 .mg .info t (upBlocks h) u.good).answer 0x0701 q .ok u.good
    else
      let s1 := s.modTarget t (fun u => { u with header := h, table := [], good := 0, chunk := 0, chunks := [] })
      ((s1.setStage t 1).event 0xB001 .mg .info t (upBlocks h) 0).answer 0x0701 q .ok 0)

/-- The size of a block of the image of a header: 65,536, but the last block by CONTENT_SIZE (R407). -/
def blockSize (h : List Byte) (n : Nat) : Nat :=
  let rest := upContent h - 65536 * (upBlocks h - 2)
  if n ≠ 0 && n + 1 = upBlocks h && 1 ≤ rest && rest ≤ 65536 then rest else 65536

/-- The CRC that a block must have: TABLE_CRC, or its entry in block 0 (R408, R413). -/
def UpdateTarget.blockCrc (u : UpdateTarget) (n : Nat) : Word :=
  if n = 0 then word (u32 u.header 32) else word (u32 u.table (4 * n))

/-- A block that passed, stored and counted (R410, R413). -/
def UpdateTarget.store (u : UpdateTarget) (n : Nat) (b : List Byte) : UpdateTarget :=
  let u1 := if n = 0 then { u with table := b }
    else u.setBank u.inactive (padTo (65536 * (n - 1)) (u.bank u.inactive) ++ b)
  { u1 with good := n + 1, chunk := 0, chunks := [] }

/-- The end of a download (R413). -/
def State.downloaded (s : State) (t : Nat) : State :=
  let h := (s.target t).header
  ((s.modTarget t (fun u => u.setImage u.inactive (upVersion h) (crc32c h))).setStage t 2).event 0xB003 .mg .info t
    (upVersion h)

/-- UPDATE_DATA. -/
def State.decideUpdateData (s : State) (q : Req) : State :=
  let t := q.p1
  let pos := q.p0 % 65536 * 32 + q.p0 / 65536
  let n := q.payload.length
  let ok := targetOk t && q.p0 < 2 ^ 21 && 1 ≤ n && n ≤ 2048
  s.mgCommand q 0x0702 (s.judge q 0x0702 false true (some .maintainer) false ok) (fun s =>
    let u := s.target t
    let expected := u.good * 32 + u.chunk
    if u.stage ≠ 1 then (s.lastReason t 0x0718).answer 0x0702 q .refused 0x0718 0xFFFFFFFF
    else if pos ≠ expected then (s.lastReason t 0x0718).answer 0x0702 q .refused 0x0718 expected
    else
      let size := blockSize u.header u.good
      let left := size - 2048 * u.chunk
      if n ≠ Nat.min 2048 left then s.answer 0x0702 q .badParam
      else if left ≤ 2048 then
        let b := u.chunks ++ q.payload
        if crc32c b = u.blockCrc u.good then
          let s1 := s.modTarget t (fun u => u.store u.good b)
          (if u.good + 1 = upBlocks u.header then s1.downloaded t else s1).answer 0x0702 q .ok
        else
          ((s.modTarget t (fun u => { u with chunk := 0, chunks := [] })).event 0xB002 .mg .info t u.good).answer 0x0702 q
            .resend u.good 1
      else
        (s.modTarget t (fun u => { u with chunk := u.chunk + 1, chunks := u.chunks ++ q.payload })).answer 0x0702 q .ok)

/-! ### Verification (R344, R414) -/

/-- The offset of the first header field that is not as R407 gives it (R414, R351). -/
def headerFault (t : Nat) (h : List Byte) : Option Nat :=
  let checks : List (Nat × Bool) :=
    [ (0, slice h 0 4 == [0x4E, 0x55, 0x50, 0x44]), (4, u16 h 4 == 1), (6, u16 h 6 == 512), (8, u8 h 8 == t),
      (9, u8 h 9 == 0), (20, u32 h 20 == 65536), (24, upBlocks h == 1 + (upContent h + 65535) / 65536),
      (28, 1 ≤ upContent h && upContent h ≤ maxContent t), (40, u8 h 40 ≤ 16), (41, zeros h 41 7), (304, zeros h 304 112) ]
  (checks.find? (fun p => !p.2)).map Prod.fst

/-- The key that verifies an image (R409). -/
def State.imageKey (s : State) (t id : Nat) : Option (List Byte) :=
  if t = 1 then (s.unit.makerKeys.find? (fun k => k.1 == id)).map Prod.snd
  else if !s.sec.key.isEmpty && s.sec.keyId = id then some s.sec.key else none

/-- Whether a unit is bound by an image (R414). -/
def State.bound (s : State) (h : List Byte) : Bool :=
  u8 h 40 == 0 || (List.range (u8 h 40)).any (fun i => slice h (48 + 16 * i) 16 == padTo 16 s.unit.unitId)

/-- Whether the signature of an image verifies over the stored blocks (R409, R414). -/
def State.signed (s : State) (t : Nat) : Bool :=
  let u := s.target t
  let h := u.header
  match s.imageKey t (u32 h 36) with
  | some k => Config.verifies k (slice h 0 416 ++ u.table ++ (u.bank u.inactive).take (upContent h)) (slice h 416 96)
  | none => false

/-- Why a verification fails, with the parameter of the reason, in the order of R344. -/
def State.verifyFault (s : State) (t : Nat) : Option (Nat × Nat) :=
  let u := s.target t
  let h := u.header
  if u.stage ≠ 2 && u.stage ≠ 3 then some (0x0715, if u.stage = 1 then u.good else 0)
  else match headerFault t h with
    | some f => some (0x0710, f)
    | none =>
      if upHwType h ≠ 0x3000 && upHwType h ≠ s.unit.variant.part then some (0x0711, upHwType h)
      else if !s.bound h then some (0x0712, 0)
      else if upRollback h < u.counter then some (0x0713, u.counter)
      else if !s.signed t then some (0x0714, 0)
      else none

/-- A verification: STAGE, LAST_REASON (R414). -/
def State.verifyImage (s : State) (t : Nat) : State :=
  let stage := (s.target t).stage
  match s.verifyFault t with
  | none => s.setStage t 3
  | some r =>
    let s1 := s.lastReason t r.1
    if stage = 2 || stage = 3 then s1.setStage t 2 else s1

/-- UPDATE_VERIFY. -/
def State.decideUpdateVerify (s : State) (q : Req) : State :=
  let t := q.p0
  let ok := targetOk t
  s.mgCommand q 0x0703 (s.judge q 0x0703 false true (some .maintainer) false ok) (fun s =>
    let f := s.verifyFault t
    let s1 := (s.verifyImage t).event 0xB010 .mg .info t (f.elim 0 Prod.fst) (upVersion (s.target t).header)
    match f with
    | none => s1.answer 0x0703 q .ok
    | some r => s1.answer 0x0703 q .refused r.1 r.2)

/-! ### Firmware activation, trial, confirmation (R415 to R419) -/

/-- The switch of the firmware selector to the inactive bank (R417). -/
def State.activateFirmware (s : State) (q : Req) : State :=
  let u := s.update.firmware
  let old := u.sel.active
  let new := u.inactive
  let s1 := s.logChange (s.logBy q {
    item := 9, subject := word new, beforeCrc := u.headerCrc old, afterCrc := u.headerCrc new,
    before := word (u.version old), after := word (u.version new) })
  let s2 := s1.modTarget 1 (fun u => { u with selector := u.selector.put {
    active := new, previous := old, trial := true, boots := 0 } })
  let s3 := (s2.setStage 1 4).event 0xB011 .cl .info (u.version old) (u.version new) new
  ({ s3 with update := { s3.update with resetUs := some (s.opUs + 100000) } }).complete 0x0704 q .ok

/-- UPDATE_ACTIVATE (R344, R415): for station data the validation begins. -/
def State.decideUpdateActivate (s : State) (q : Req) : State :=
  let t := q.p0
  let life := s.lifecycle == 2 || s.lifecycle == 3 || s.lifecycle == 4
  let stateOk := s.power.state == .stop && (t != 2 || (life && !s.onTrial))
  let ok := targetOk t && (q.p1 == 0 || (t == 2 && q.p1 == 1))
  s.clCommand q 0x0704 (s.judge q 0x0704 false stateOk (some .safetyAuthority) true ok) (fun s =>
    let busy := s.eng.waiting.any (fun w => match w with
      | .activate _ _ => true
      | _ => false)
    if busy then s.complete 0x0704 q .busy
    else if (s.target t).stage ≠ 3 then (s.lastReason t 0x0716).complete 0x0704 q .refused 0x0716 (s.target t).stage
    else if t = 1 then (if s.logRoom 1 then s.activateFirmware q else (s.lastReason 1 0x0817).logFull 0x0704 q)
    else { s with eng := { s.eng with waiting := s.eng.waiting ++ [.activate q (q.p1 == 1)] } })

/-- UPDATE_CONFIRM (R419, R421). -/
def State.decideUpdateConfirm (s : State) (q : Req) : State :=
  s.mgCommand q 0x0705 (s.judge q 0x0705 false true (some .maintainer) false true) (fun s =>
    let u := s.update.firmware
    if !u.sel.trial then (s.lastReason 1 0x0717).answer 0x0705 q .refused 0x0717
    else
      let rb := Nat.max u.counter (upRollback u.header)
      let v := u.version u.sel.active
      let s1 := s.modTarget 1 (fun u => { u with
        selector := u.selector.put { u.sel with trial := false }, rollback := u.rollback.put rb })
      let s2 := (s1.setStage 1 5).event 0xB014 .mg .info v rb
      let s3 := if s.update.migrated = 0 then s2 else s2.event 0xB031 .mg .info v s.update.migrated
      ({ s3 with update := { s3.update with migrated := 0 } }).answer 0x0705 q .ok)

/-- The update status record (R345). -/
def UpdateTarget.status (u : UpdateTarget) : List Byte :=
  [BitVec.ofNat 8 u.stage, BitVec.ofNat 8 u.sel.active, BitVec.ofNat 8 u.sel.boots, 0] ++ le 4 (upBlocks u.header)
    ++ le 4 u.good ++ le 4 (u.version u.inactive) ++ le 4 (u.version u.sel.active) ++ le 4 u.counter
    ++ le 2 u.lastReason ++ List.replicate 6 0

/-- UPDATE_STATUS. -/
def State.decideUpdateStatus (s : State) (q : Req) : State :=
  let ok := targetOk q.p0
  s.mgCommand q 0x0706 (s.judge q 0x0706 false true none false ok) (fun s =>
    s.answer 0x0706 q .ok 0 0 (s.target q.p0).status)

/-- UPDATE_ABORT: stages DOWNLOADING to VERIFIED end. -/
def State.decideUpdateAbort (s : State) (q : Req) : State :=
  let t := q.p0
  let ok := targetOk t
  s.mgCommand q 0x0707 (s.judge q 0x0707 false true (some .maintainer) false ok) (fun s =>
    let st := (s.target t).stage
    if 1 ≤ st && st ≤ 3 then
      let s1 := s.modTarget t (fun u => { u with header := [], table := [], good := 0, chunk := 0, chunks := [] })
      (s1.setStage t 0).answer 0x0707 q .ok
    else s.answer 0x0707 q .ok)

/-! ### Station data taken into use (R21, R42, R54, R58) -/

/-- Learned data that survive an activation: of a point end or leaf with the same NAME, NODE and OBJECT (R58), and the
declaration of such a leaf that no restart ends (R93, R100). -/
def State.keptLearning (s : State) (e : Element) : ElemDyn :=
  match (withIndex s.elements).find? (fun p => p.1.name == e.name && p.1.node == e.node && p.1.object == e.object
      && p.1.part.typeCode == e.part.typeCode) with
  | some p => { learn := (s.dyn p.2).learn, health := (s.dyn p.2).health, leafCause := (s.dyn p.2).keptCause }
  | none => {}

/-- A CAN port as station data configures it; detection ends (R21). -/
def CanPort.configured (p : CanPort) (c : CanConfig) : CanPort :=
  { p with
    nominal := if c.enable then c.nominal else p.nominal, dataRate := if c.enable then c.dataRate else p.dataRate,
    nominalLocked := false, dataLocked := false, goodRun := 0, goodBrs := 0, q0 := [], q1 := [] }

/-- Whether a port had locked rates other than the configured ones (R21). -/
def CanPort.differs (p : CanPort) (c : CanConfig) : Bool :=
  c.enable && ((p.nominalLocked && p.nominal != c.nominal) || (p.dataLocked && p.dataRate != c.dataRate))

/-- The ports taken over from detection, with event 0x4002 where the rates differ (R21). -/
def State.configurePorts (s : State) (st : Station) : State :=
  (withIndex st.can).foldl (fun s p =>
    let port := s.port p.2
    let s1 := s.modPort p.2 (fun x => x.configured p.1)
    if s.station.isNone && s.canPresent p.2 && port.differs p.1 then
      s1.event 0x4002 .fb .info p.2 (port.lockedRates.1 * 16 + port.lockedRates.2) (p.1.nominal * 16 + p.1.dataRate)
    else s1) s

/-- The intervals of a node discarded (R298). -/
def NodeDyn.unmeasured (d : NodeDyn) : NodeDyn := { d with intervals := [], p999 := 0, measured := false }

/-- Station data taken into cluster SRAM: the engine's, the nodes' and the ports' registers for it (R21, R58). -/
def State.install (s : State) (st : Station) : State :=
  let s1 := s.configurePorts st
  { s1 with
    station := some st
    eng := { s1.eng with elems := st.elements.map s.keptLearning, routes := st.routes.map (fun _ => {}) }
    net := { s1.net with
      nodes := st.nodes.map (fun n => ((s.nodeDyn n.id).getD { id := n.id }).unmeasured), listed := [], accepted := [] }
    field := { s1.field with
      crcGood := 0, segment := 0
      coreEdges := s1.field.coreEdges.map (fun (e : CoreEdges) => { e with total := 0, last := 0 }) } }

/-- The online constants that an activation discards, one change-log entry each (R42, R388). -/
def State.discardConstants (s : State) (q : Req) (st : Station) : State :=
  let s1 := s.bench.constants.foldl (fun s p => s.logChange (s.logBy q {
    item := 4, subject := word p.1, before := word p.2,
    after := word ((st.constants[p.1]?).elim 0 Constant.value) })) s
  { s1 with bench := { s1.bench with constants := [], newConstants := [] } }

/-- ASHLAR_CRC of station data. -/
def ashlarCrc (st : Option Station) : Word := st.elim 0 (fun o => word (u32 o.ashlar 508))

/-- The change-log entries that an activation needs (R388, R389). -/
def State.entriesNeeded (s : State) (st : Station) : Nat :=
  1 + (if ashlarCrc s.station = ashlarCrc (some st) then 0 else 1) + s.bench.constants.length

/-- A validated image becomes the active station data (R54, R150, R187, R388, R411, R415); the command completes with
the relatch. -/
def State.activateData (s : State) (q : Req) (st : Station) : State :=
  let old := s.station
  let bank := s.update.data.inactive
  let rb := Nat.max s.update.data.counter (upRollback s.update.data.header)
  let s1 := s.clearForces 4
  let s2 := (s1.discardConstants q st).install st
  let s3 := s2.modTarget 2 (fun u => { u with
    selector := u.selector.put { active := bank, previous := 1 - bank, trial := false, boots := 0 }
    rollback := u.rollback.put rb })
  let s4 := s3.logChange (s3.logBy q {
    item := 1, subject := word bank, beforeCrc := old.elim 0 Station.imageCrc, afterCrc := st.imageCrc,
    before := word (old.elim 0 Station.stationId), after := word st.stationId })
  let s5 := if ashlarCrc old = ashlarCrc (some st) then s4
    else s4.logChange (s4.logBy q {
      item := 2, subject := word bank, beforeCrc := ashlarCrc old, afterCrc := ashlarCrc (some st) })
  let s6 := (s5.setStage 2 5).event 0xB022 .cl .info bank st.imageCrc.toNat st.stationId
  let relatch (w : Waiting) : Waiting := match w with
    | .activate q _ => .relatch q
    | x => x
  ({ s6 with eng := { s6.eng with waiting := s6.eng.waiting.map relatch } }).resetAshlar

/-- The command of an activation under validation completes with a refusal. -/
def State.refuseActivation (s : State) (q : Req) (reason param : Nat) : State :=
  let keep (w : Waiting) : Bool := match w with
    | .activate _ _ => false
    | _ => true
  (({ s with eng := { s.eng with waiting := s.eng.waiting.filter keep } }).lastReason 2 reason).complete 0x0704 q .refused
    reason param

/-- The locator of an activation failure (R54). -/
def ImageFault.locator (f : ImageFault) : Nat := f.sectionCode * 2 ^ 24 + f.recordNo

/-- ACTIVATION_VALIDATION_DONE (R54): the outcome of the validation of the inactive bank. -/
def State.validationDone (s : State) : State :=
  let found := s.eng.waiting.findSome? (fun w => match w with
    | .activate q n => some (q, n)
    | _ => none)
  match found with
  | none => s
  | some (q, new) =>
    let u := s.update.data
    let b := u.bank u.inactive
    if u.stage ≠ 3 then s.refuseActivation q 0x0716 u.stage
    else match validate {
        bytes := b, variant := s.unit.variant, keyId := s.sec.keyId, key := s.sec.key,
        activeStation := s.station.map Station.stationId, newStation := new } with
      | some f =>
        let s1 := s.event 0xB020 .cl .info f.reason f.sectionCode
          f.recordNo
        s1.refuseActivation q f.reason f.locator
      | none =>
        let st := parseStation b
        if s.logRoom (s.entriesNeeded st) then s.activateData q st
        else s.refuseActivation q 0x0817 (logCapacity - s.log.length)

/-! ### Rows of the table -/

/-- UPDATE_BEGIN (R412). -/
def execUpdateBegin (r : Req) (s : State) : Host.Outcome State Fault Refusal := .next (s.decideUpdateBegin r).settle
/-- UPDATE_DATA (R345). -/
def execUpdateData (r : Req) (s : State) : Host.Outcome State Fault Refusal := .next (s.decideUpdateData r).settle
/-- UPDATE_VERIFY (R414). -/
def execUpdateVerify (r : Req) (s : State) : Host.Outcome State Fault Refusal := .next (s.decideUpdateVerify r).settle
/-- UPDATE_ACTIVATE (R415). -/
def execUpdateActivate (r : Req) (s : State) : Host.Outcome State Fault Refusal :=
  .next (s.decideUpdateActivate r).settle
/-- UPDATE_CONFIRM (R419). -/
def execUpdateConfirm (r : Req) (s : State) : Host.Outcome State Fault Refusal := .next (s.decideUpdateConfirm r).settle
/-- UPDATE_STATUS (R345). -/
def execUpdateStatus (r : Req) (s : State) : Host.Outcome State Fault Refusal := .next (s.decideUpdateStatus r).settle
/-- UPDATE_ABORT (R344). -/
def execUpdateAbort (r : Req) (s : State) : Host.Outcome State Fault Refusal := .next (s.decideUpdateAbort r).settle
/-- ACTIVATION_VALIDATION_DONE (R54). -/
def execActivationValidationDone (s : State) : Host.Outcome State Fault Refusal := .next s.validationDone.settle

end Sys2Proof.Machine
end

