-- ==== Sys2Proof/Machine/PowerOps.lean ====
section
/-! DEFINITION. Power-up and power loss, supplies, temperature, the backup cell and the always-on island (R214 to R216,
R357, R358, R370, R371, R373 to R376, R390, R391, R405, R418, R420, R423, R429, R442, R443), with their rows. -/

namespace Sys2Proof.Machine

/-! ### What a power-on reset leaves (R216) -/

/-- The registers of an element at a power-on: its learned data are kept (R58, R422), and the declaration that no restart
ends (R100). -/
def ElemDyn.powerOn (d : ElemDyn) : ElemDyn := { learn := d.learn, health := d.health, leafCause := d.keptCause }

/-- The voting registers at a power-on: transient history and dwell count are kept, slots and core marks come from the
repair record (R170, R174, R403, R422). -/
def Vote.powerOn (v : Vote) (r : Repair) (spare : Bool) : Vote :=
  let out (c : Nat) : Bool := r.marks.getD c 0 != 0
  let slots := (List.range 3).map (fun i =>
    let c := r.slotMap.getD i i
    { core := c, active := !out c, vacant := out c : Slot })
  let core (c : Nat) : CoreState :=
    if c = 3 && !spare then .absent
    else match r.marks.getD c 0 with
      | 1 | 3 => .failed
      | 2 => .unhealthy
      | _ => if slots.any (fun x => x.core == c) then .voting else .reserve
  { slots := slots, lanes := r.laneMap, cores := (List.range 4).map core, transients := v.transients,
    dwellUs := if slots.any Slot.vacant then v.dwellSavedS * 1000000 else 0, dwellSavedS := v.dwellSavedS,
    dwellEntered := v.dwellEntered && slots.any Slot.vacant, warned60 := v.warned60, warned10 := v.warned10,
    dwellExpired := v.dwellExpired, accusations := v.accusations, sigExpected := v.sigExpected,
    sigGood := if r.marks.getD 3 0 = 0 then 8 else 0, lockstepBroken := v.lockstepBroken }

/-- The recorder at a power-on: the ring and its numbering stay, the rest starts anew (R357, R359, R362). The event area
is the variant's, less the blocks withdrawn (R2, R359). -/
def Recorder.powerOn (c : Recorder) (v : Variant) : Recorder :=
  { ring := c.ring, next := c.next, capacity := v.eventRecords - 128 * c.badBlocks.length, badBlocks := c.badBlocks,
    rates := c.rates }

/-- The host island and the mailbox at a power-on: the maintenance address stays (R307, R346). -/
def HostIf.powerOn (h : HostIf) : HostIf :=
  match h.x8New with
  | some (ip, plen, gw, _) => { x8Address := ip, x8Plen := plen, x8Gateway := gw }
  | none => { x8Address := h.x8Address, x8Plen := h.x8Plen, x8Gateway := h.x8Gateway }

/-- The operating time at which a power cycle begins (R358, log entry 74). -/
def State.resumedUs (s : State) : Nat := Nat.max s.opUs (s.savedOpUs + 10000000)

/-- Every island of R216 but RT reset: what the configuration partition, the fuses and the NAND store keep stays. -/
def State.powerReset (s : State) : State :=
  { unit := s.unit, opUs := s.resumedUs, savedOpUs := s.savedOpUs,
    powerCycle := (s.powerCycle + 1) % 2 ^ 32, epoch := s.epoch
    power := { s.power with
      state := .start, supply := true, hotTold := false, cellLowTold := false, cellGoneTold := false, causes := [],
      readyOff := false, testPassed := false, dead := false, faultLed := false }
    rt := { s.rt with alive := true }
    sec := { s.sec with debug := .none }
    station := s.station
    bench := { constants := s.bench.constants }
    eng := { elems := s.eng.elems.map ElemDyn.powerOn, routes := s.eng.routes.map (fun _ => {}) }
    vote := s.vote.powerOn s.repair s.unit.variant.spare
    ash := { hold := ⟨s.vote.lockstepBroken, false, !s.vitalLifecycle⟩ }
    field := { gridUs := s.resumedUs,
               coreEdges := s.field.coreEdges.map (fun (e : CoreEdges) => { e with seen := 0 }) }
    can := List.replicate 8 { lastFrameUs := s.resumedUs }
    net := { nodes := s.net.nodes.map (fun (d : NodeDyn) => { id := d.id })
             lans := List.replicate 2 { lastUs := s.resumedUs } }
    hi := s.hi.powerOn
    xings := Crossing.all.map (fun x => (x, { downUs := s.resumedUs }))
    recorder := s.recorder.powerOn s.unit.variant
    log := s.log
    test := { s.test with step := 0, verdicts := [], matched := 0, fused := 0, hotEnded := false }
    update := { s.update with resetUs := none }
    draws := s.draws, outbox := s.outbox, pending := s.pending }

/-! ### What the start completes and settles before its tests -/

/-- The boot logic (R418): which firmware bank starts, with a revert, or neither. -/
def State.boot (s : State) (ok0 ok1 : Bool) : State :=
  let ok (n : Nat) : Bool := if n = 0 then ok0 else ok1
  let u := s.update.firmware
  let c := u.sel
  let put (s : State) (x : Selector) : State := s.modTarget 1 (fun u => { u with selector := u.selector.put x })
  let revert (s : State) (cause bank from' : Nat) : State :=
    let s1 := (put s { active := bank, previous := from', trial := false, boots := 0 }).event 0xB013 .mg .info cause
      (u.version from') (u.version bank)
    ({ s1 with update := { s1.update with migrated := 0 } }).modTarget 1 (fun u => { u with stage := 5 })
  let expired := c.trial && 3 ≤ c.boots
  let s1 := if expired then revert s 1 c.previous c.active
    else if c.trial then put s { c with boots := c.boots + 1 } else s
  let now := s1.update.firmware.sel
  let s2 := if ok now.active then s1
    else if ok (1 - now.active) then revert s1 2 (1 - now.active) now.active
    else { s1 with power := { s1.power with dead := true, faultLed := true } }
  let run := s2.update.firmware.sel
  if run.trial && !s2.power.dead then s2.event 0xB012 .mg .info run.boots (u.version run.active) else s2

/-- The configuration migration (R420): records of higher versions written, or written again. -/
def State.migrate (s : State) (types : Nat) : State :=
  if types = 0 then s
  else
    let u := s.update.firmware
    let old := s.update.migrated
    let s1 := s.event 0xB030 .mg .info types (u.version u.sel.previous)
    let s2 := if old = 0 then s1 else s1.event 0xB032 .mg .info old
    { s2 with update := { s2.update with migrated := types } }

/-- The mode record at a start (R370). -/
def State.readMode (s : State) : State :=
  if s.sec.mode.aOk || s.sec.mode.bOk then s
  else
    ({ s with sec := { s.sec with mode := s.sec.mode.put 3 } }).event 0x9002 .cl .info s.sec.mode.aSeq s.sec.mode.bSeq

/-- What the fuses alone say of repairs: a fused repair no longer depends on the repair record (R159, R404). -/
def SelfTest.fusedRepair (t : SelfTest) : Repair :=
  t.blown.foldl (fun (r : Repair) f =>
    match f.1 with
    | 0 =>
      { r with
        fusesUsed := r.fusesUsed + 1
        entries := r.entries ++ [⟨f.2.1, 65536 ≤ f.2.2, f.2.2 % 65536, 2⟩] }
    | 1 => { r with laneMap := r.laneMap.set f.2.1 3, laneFused := true }
    | _ => { r with slotMap := r.slotMap.set f.2.1 3, coreFused := true, marks := r.marks.set f.2.2 3 }) {}

/-- The repair record at a start (R403): without a readable copy the module starts from the map of R158 with what is
fused (R404). -/
def State.readRepair (s : State) : State :=
  if s.test.repair.aOk || s.test.repair.bOk then s
  else
    ({ s with test := { s.test with repair := s.test.repair.put s.test.fusedRepair } }).event 0xA031 .cl .info
      s.test.repair.aSeq
      s.test.repair.bSeq

/-- Pending fuses read before any test (R405). -/
def State.readFuses (s : State) (oks : List Bool) : State :=
  if !s.repair.fusePending then s
  else
    let n := s.test.pendingFuses.length
    let bad := ((List.range n).filter (fun i => !fuseGood oks i)).length
    (s.settleFuses oks).event 0xA025 .cl .info (n - bad) bad 0 true

/-- An advance that a power failure interrupted after its fuse (R371). -/
def State.readAdvance (s : State) : State :=
  match s.sec.advance with
  | some (old, new) => s.finishAdvance { transport := 3 } old new true
  | none => s

/-- The calendar and the flags of RT at a start (R391, R367). -/
def State.readRt (s : State) (cellMv : Nat) (wasAlive : Bool) : State :=
  let lost := !wasAlive || s.rt.calLost || cellMv < 2000
  let r := s.rt
  let found := BitVec.ofNat 3 (bit r.sealEdge 0 + bit r.hot 1 + bit r.cellLow 2)
  let s1 := { s with
    rt := { r with
      calUs := if lost then 946684800000000 else r.calUs, timeSet := r.timeSet && !lost, calLost := false,
      sealEdge := false, hot := false, cellLow := false, sealPat := none, found := found }
    sec := { s.sec with pendRt := s.sec.pendRt || found != 0 } }
  let s2 := s1.anchor 1
  let s3 := if r.sealEdge then s2.event 0x9024 .rt .f0 0 0 0 true else s2
  let s4 := if r.hot then s3.event 0xC040 .rt .f0 0 0 0 true else s3
  if r.cellLow then s4.event 0xC041 .rt .f0 cellMv 0 0 true else s4

/-- Records staged when the supply failed (R366). -/
def State.readStaged (s : State) (frozen : Bool) : State :=
  let s1 := if frozen then s.event 0xF002 .mg .info s.rt.stagedMirror 0 2 true else s
  { s1 with rt := { s1.rt with stagedMirror := 0 } }

/-- The active bank of station data checked and loaded (R57); no bank, or a failure, is stand-alone operation. -/
def State.loadStation (s : State) : State :=
  let u := s.update.data
  let b := u.bank u.sel.active
  if b.isEmpty then s.noStation
  else match validateActive b s.sec.key with
    | some f => (s.event 0xB021 .cl .info f.reason).noStation
    | none =>
      let st := parseStation b
      let s1 := if s.eng.elems.length = st.elements.length then s
        else { s with eng := { s.eng with elems := st.elements.map (fun _ => {}) } }
      { s1 with
        station := some st
        eng := { s1.eng with routes := st.routes.map (fun _ => {}) }
        net := { s1.net with nodes := st.nodes.map (fun n => { id := n.id }) }
        can := (withIndex s1.can).map (fun (p : CanPort × Nat) => match st.can[p.2]? with
          | some c => p.1.configured c
          | none => p.1) }

/-- The updates at a start (R423): chunks of an unfinished block are lost, a verified image is verified again. -/
def State.readUpdate (s : State) (t : Nat) : State :=
  let s1 := s.modTarget t (fun u => { u with chunk := 0, chunks := [] })
  if (s1.target t).stage = 3 then
    let f := s1.verifyFault t
    let s2 := match f with
      | none => s1
      | some r => s1.modTarget t (fun u => { u with stage := 2, lastReason := r.1 })
    s2.event 0xB040 .mg .info t (f.elim 0 Prod.fst)
  else s1

/-- A power-on reset (R374, R216): everything between the supply's rise and the LED test. -/
def State.powerOn (s : State) (p : PowerOn) (wasAlive : Bool) : State :=
  let frozen := s.recorder.frozenUntil.isSome
  let leaving := s.power.wasSafe || s.power.lockoutCause ≠ 0
  let unread := !s.test.repair.aOk && !s.test.repair.bOk
  let s0 := s.readRepair
  let s1 := (s0.powerReset).boot p.bank0Ok p.bank1Ok
  let s2 := { s1 with power := { s1.power with logicMv := p.mv, cellMv := p.cellMv, slot := p.slot } }
  if s2.power.dead then { s2 with power := { s2.power with ledTest := true, startUs := s2.opUs } }
  else
    let s3 := ((s2.readRt p.cellMv wasAlive).event 0x0010 .mg .info p.slot.toNat).readStaged frozen
    let s4 := ((s3.readMode).readAdvance).readFuses p.fusesOk
    let s5 := (((s4.migrate p.newTypes).loadStation).readUpdate 1).readUpdate 2
    let s6 := { s5 with test := { s5.test with ageBaseUs := s5.ageFromRecord } }
    s6.beginStart .powerOn (leaving || s6.onTrial || unread)

/-! ### Supplies and temperature (R214) -/

/-- A shutdown test abandoned when the supply falls (R399). -/
def State.abandonTest (s : State) : State :=
  let keep (w : Waiting) : Bool := match w with
    | .shutdown _ => false
    | _ => true
  if s.power.state = .shutdownTest && s.test.step ≠ 0 then
    { s with test := { s.test with step := 0 }, eng := { s.eng with waiting := s.eng.waiting.filter keep } }
  else s

/-- The logic supply below 16.8 V for 10 ms (R214, R360, R389, R399). -/
def State.supplyLow (s : State) (mv : Nat) : State :=
  let s1 := ({ s with power := { s.power with logicMv := mv } }).event 0xC010 .mg .f3
  (((s1.causeOn 0xC010).abandonTest).enterSafe 0xC010).writeFailing

/-- The always-on island as its reset leaves it: the calendar restarts (R216, R391). -/
def Rt.fresh (alive : Bool) : Rt := { alive := alive }

/-- Stored energy spent (R374, R376, R428): OFF, or STANDBY with a backup cell. R214 applies first. -/
def State.supplyGone (s : State) : State :=
  let s1 := if s.power.causes.contains 0xC010 then s else s.supplyLow 0
  let cell := s1.power.cellFitted
  { s1 with
    power := { s1.power with
      state := if cell then .standby else .off, supply := false, wasSafe := s1.power.state == .safe, ledTest := false,
      readyOff := false, causes := [] }
    rt := if cell then { s1.rt with alive := true, sealPat := none } else Rt.fresh false
    ash := s1.ash.reset
    field := { inputs := s1.field.inputs }
    eng := s1.eng.cleared
    mg := { s1.mg with queue := [], outstanding := [], sessions := [] }
    sec := { s1.sec with debug := .none } }

/-- A measured temperature as an unsigned word. -/
def tenthsWord (t : Int) : Nat := (BitVec.ofInt 32 t).toNat

/-- The board temperature (R214, R399). -/
def State.temperature (s : State) (t : Int) : State :=
  let s1 := { s with power := { s.power with boardTemp := t, hotTold := decide (800 < t) } }
  let s2 := if 800 < t && !s.power.hotTold then
      (s1.event 0xC021 .mg .f0).note 0x0183 (le 2 0xC021 ++ [0, 0] ++ le 4 (tenthsWord t))
    else s1
  let s3 := if 850 < t then s2.shutdownHot else s2
  if 850 < t || t < -450 then
    if s3.power.causes.contains 0xC020 then s3
    else ((s3.event 0xC020 .mg .f3).causeOn 0xC020).enterSafe 0xC020
  else if -400 ≤ t && t ≤ 800 then s3.causeOff 0xC020 else s3

/-! ### The backup cell and RT (R390, R391, R442, R443) -/

/-- A measurement of the cell in a powered state (R442). -/
def State.cellMeasured (s : State) (mv : Nat) : State :=
  let s1 := { s with power := { s.power with
    cellMv := mv, cellFitted := 500 ≤ mv, cellLowTold := s.power.cellLowTold || mv < 2500,
    cellGoneTold := s.power.cellGoneTold || mv < 500 } }
  let s2 := if mv < 2500 && !s.power.cellLowTold then s1.event 0xC042 .rt .maintenance mv else s1
  if mv < 500 && !s.power.cellGoneTold then s2.event 0xC043 .rt .maintenance else s2

/-- A sample of RT's comparators in STANDBY (R390). -/
def Rt.sample (r : Rt) (c : RtSample) : Rt :=
  match c with
  | .switches p => { r with sealPat := some p, sealEdge := r.sealEdge || r.sealPat.any (· != p) }
  | .temperature t => { r with hot := r.hot || decide (850 < t) }
  | .cell mv => { r with cellLow := r.cellLow || mv < 2500, calLost := r.calLost || mv < 2000 }

/-! ### Rows of the table -/

/-- POWER_ON_RESET (R374): the logic supply rises through 16.8 V. -/
def execPowerOnReset (p : PowerOn) (s : State) : Host.Outcome State Fault Refusal :=
  .next (if s.power.state.powered || p.mv < 16800 then s else s.powerOn p s.rt.alive).settle
/-- LED_TEST_END (R24): the start-up test begins (R406), but not with a dead firmware (R418). -/
def execLedTestEnd (s : State) : Host.Outcome State Fault Refusal :=
  .next (if s.power.state = .start && s.power.ledTest && s.power.startUs + 1000000 ≤ s.opUs then
    let s1 := { s with power := { s.power with ledTest := false } }
    if s.power.dead then s1 else s1.event 0xA001 .cl .info (if s.power.fullForm then 1 else 0) s.bistAge
    else s).settle
/-- FIELD_CONFIG_TIMEOUT (R258). -/
def execFieldConfigTimeout (s : State) : Host.Outcome State Fault Refusal :=
  .next (if s.power.state = .start && s.power.testPassed && !s.fieldConfirmed
      && s.power.testPassedUs + 10000 ≤ s.opUs then
    ((s.event 0x3003 .cl .f3 s.expectedConfig.toNat s.field.crcSeen.toNat).startFailed 0x3003).enterSafe 0x3003
    else s).settle
/-- LOGIC_SUPPLY_LOW (R214); a value from 16.8 V up says that the supply is back. -/
def execLogicSupplyLow (mv : Nat) (s : State) : Host.Outcome State Fault Refusal :=
  .next (if !s.power.state.powered then s
    else if 16800 ≤ mv then ({ s with power := { s.power with logicMv := mv } }).causeOff 0xC010
    else s.supplyLow mv).settle
/-- LOGIC_SUPPLY_HIGH (R214); a value up to 30.0 V says that the supply is back. Above 50 V nothing is guaranteed
(R438). -/
def execLogicSupplyHigh (mv : Nat) (s : State) : Host.Outcome State Fault Refusal :=
  if 50000 < mv then .fault .beyondAbsoluteMaximum
  else
    let s1 := { s with power := { s.power with logicMv := mv } }
    .next (if !s.power.state.powered then s
      else if mv ≤ 30000 then s1.causeOff 0xC011
      else ((s1.event 0xC011 .mg .f3).causeOn 0xC011).enterSafe 0xC011).settle
/-- INTERNAL_RAIL_FAULT (R214). -/
def execInternalRailFault (s : State) : Host.Outcome State Fault Refusal :=
  .next (if s.power.state.powered then ((s.event 0xC012 .mg .f3).causeOn 0xC012).enterSafe 0xC012 else s).settle
/-- LOGIC_SUPPLY_REMOVED (R374). -/
def execLogicSupplyRemoved (s : State) : Host.Outcome State Fault Refusal :=
  .next (if s.power.state.powered then s.supplyGone else s).settle
/-- BOARD_TEMPERATURE (R214). -/
def execBoardTemperature (tenths : Int) (s : State) : Host.Outcome State Fault Refusal :=
  .next (if s.power.state.powered then s.temperature tenths else s).settle
/-- BACKUP_CELL_FITTED (R374): OFF becomes STANDBY. -/
def execBackupCellFitted (mv : Nat) (s : State) : Host.Outcome State Fault Refusal :=
  let s1 := { s with power := { s.power with cellFitted := true } }
  .next (if s.power.state = .off then
    { s1 with power := { s1.power with state := .standby }, rt := { Rt.fresh true with calLost := mv < 2000 } }
    else s1).settle
/-- BACKUP_CELL_REMOVED (R443). -/
def execBackupCellRemoved (s : State) : Host.Outcome State Fault Refusal :=
  let s1 := { s with power := { s.power with cellFitted := false } }
  .next (if s.power.state = .standby then
    { s1 with power := { s1.power with state := .off }, rt := Rt.fresh false } else s1).settle
/-- RT_COMPARATOR_SAMPLE (R390). -/
def execRtComparatorSample (c : RtSample) (s : State) : Host.Outcome State Fault Refusal :=
  .next (if s.power.state = .standby then { s with rt := s.rt.sample c } else s).settle
/-- CELL_MEASUREMENT (R442). -/
def execCellMeasurement (mv : Nat) (s : State) : Host.Outcome State Fault Refusal :=
  .next (if s.power.state.powered then s.cellMeasured mv else s).settle
/-- OP_TIME_SAVE (R358). -/
def execOpTimeSave (s : State) : Host.Outcome State Fault Refusal :=
  .next (if s.power.state.powered then { s with savedOpUs := s.opUs } else s).settle
/-- FIRMWARE_ACTIVATION_RESET (R417): 100 ms after the activation completed; an orderly stop of the management core,
which ends a freeze (R365). -/
def execFirmwareActivationReset (p : PowerOn) (s : State) : Host.Outcome State Fault Refusal :=
  .next (if s.power.state.powered && s.update.resetUs.any (fun t => t ≤ s.opUs) then
    (({ s with power := { s.power with wasSafe := s.power.state == PowerState.safe } }).thaw).powerOn p true
    else s).settle

end Sys2Proof.Machine
end

