-- ==== Sys2Proof/Machine/Forcing.lean ====
section
/-! DEFINITION. Forcing, online change and the commands that start and stop the bench cycle (R141 to R157, R210, R340,
R341), with their rows. -/

namespace Sys2Proof.Machine

/-! ### The force table (R142 to R147) -/

/-- A force table entry as its 16 bytes (R142). -/
def Force.bytes (f : Force) : List Byte :=
  [BitVec.ofNat 8 f.kind, 0] ++ le 2 f.target ++ [BitVec.ofNat 8 f.value, BitVec.ofNat 8 f.role, 0, 0]
    ++ le 4 f.setCycle ++ le 4 f.setTimeS

/-- Whether a local output is used in station data (R143). -/
def State.outputUsed (s : State) (n : Nat) : Bool :=
  ((s.station.map (fun st => st.outputs.getD n false)).getD false)

/-- Whether a target is one that the kind allows (R143). -/
def State.forceTarget (s : State) (kind target : Nat) : Bool :=
  match kind with
  | 1 => target < s.elements.length && s.typeOf target != 9
  | 2 => [2, 3, 5, 9].contains (s.typeOf target)
  | _ => target < 32 && s.outputUsed target

/-- The values that a force may take in COMMISSIONING (R143). -/
def State.forceValue (s : State) (kind target value : Nat) : Bool :=
  match kind, s.part target with
  | 1, _ => typeState (s.typeOf target) value
  | 2, .signal set .. => value == 0 || (0x10 ≤ value && value ≤ 0x1F && set.testBit (value - 0x10))
  | 2, .leaf .. => value == 0 || value == 3
  | _, _ => value ≤ 1

/-- The values that a force may take in SERVICE (R143): none that is less restrictive, and no point ends. -/
def State.forceRestrictive (s : State) (kind target value : Nat) : Bool :=
  match kind with
  | 1 => value == ((s.elem target).map Element.subst).getD 0xFF
  | 2 => s.typeOf target != 2 && value == 0
  | _ => value == 0

/-- Why a FORCE_SET is refused (R151). -/
def State.forceRefusal (s : State) (kind target value : Nat) : Option (Nat × Nat) :=
  let next := s.bench.nextForces
  if !s.forceTarget kind target then some (0x0411, target)
  else if s.lifecycle = 2 && !s.forceValue kind target value then some (0x0412, value)
  else if s.lifecycle ≠ 2 && !s.forceRestrictive kind target value then some (0x0413, value)
  else if 64 ≤ next.length && !next.any (fun f => f.kind == kind && f.target == target) then some (0x0410, 64)
  else none

/-- A force set recorded and notified (R149). -/
def State.forceSetNote (s : State) (f : Force) : State :=
  (s.event 0x1060 .cl .info f.kind f.target (f.value + f.role * 256)).noteCluster 0x0104
    ([BitVec.ofNat 8 f.kind, BitVec.ofNat 8 f.value] ++ le 2 f.target ++ [0])

/-- The indications of R149 as the table stands; the reminder counts from the first entry. -/
def State.showForcing (s : State) : State :=
  { s with bench := { s.bench with forcedShown := !s.bench.forces.isEmpty } }

/-- The table changed: the reminder runs from its first entry (R149). -/
def State.putForces (s : State) (l : List Force) : State :=
  { s with bench := { s.bench with
    forces := l, reminderUs := if s.bench.forces.isEmpty then s.opUs + 600000000 else s.bench.reminderUs } }

/-- A change of the table: in RUN it waits for the next freeze (R145), in STOP it takes effect with its indications at
once (R146). -/
def State.changeForce (s : State) (c : ForceChange) : State :=
  if s.inRun then { s with bench := { s.bench with newForces := s.bench.newForces ++ [c] } }
  else (s.putForces (c.apply s.bench.forces)).showForcing

/-- Whether the power state and life-cycle accept FORCE_SET and FORCE_CLEAR (R141). -/
def State.forceOpen (s : State) : Bool :=
  (s.power.state == .run || s.power.state == .stop) && (s.lifecycle == 2 || s.lifecycle == 4)

/-- Whether a force names an output that the variant lacks (R151). -/
def State.forceAbsent (s : State) (kind target : Nat) : Bool :=
  kind == 3 && target < 32 && s.unit.variant.outputs ≤ target

/-- FORCE_SET (R145), decided by the cluster. -/
def State.decideForceSet (s : State) (q : Req) : State :=
  let kind := q.p0 % 256
  let target := q.p0 / 65536
  let value := q.p1
  let ok := 1 ≤ kind && kind ≤ 3 && q.p0 / 256 % 256 == 0 && value < 256
  s.clCommand q 0x0410 (s.judge q 0x0410 (s.forceAbsent kind target) s.forceOpen (some .maintainer) false ok) (fun s =>
    match s.forceRefusal kind target value with
    | some x => s.complete 0x0410 q .refused x.1 x.2
    | none =>
      let f : Force := {
        kind := kind, target := target, value := value, role := s.roleOf q, setTimeS := s.opS,
        setCycle := if s.inRun then (s.bench.cycle + 1) % 2 ^ 32 else 0xFFFFFFFF }
      let s1 := match s.bench.nextForces.find? (fun x => x.kind == kind && x.target == target) with
        | some x => s.forceEnded x 1
        | none => s
      ((s1.forceSetNote f).changeForce (.set f)).complete 0x0410 q .ok)

/-- FORCE_CLEAR (R145), decided by the cluster; KIND 0xFF clears every entry (R340). -/
def State.decideForceClear (s : State) (q : Req) : State :=
  let kind := q.p0 % 256
  let target := q.p0 / 65536
  let ok := ((1 ≤ kind && kind ≤ 3) || kind == 0xFF) && q.p0 / 256 % 256 == 0
  s.clCommand q 0x0411 (s.judge q 0x0411 (s.forceAbsent kind target) s.forceOpen (some .maintainer) false ok) (fun s =>
    let next := s.bench.nextForces
    if kind = 0xFF then
      ((next.foldl (fun s f => s.forceEnded f 1) s).changeForce .clearAll).complete 0x0411 q .ok next.length
    else match next.find? (fun x => x.kind == kind && x.target == target) with
      | some x => ((s.forceEnded x 1).changeForce (.clear kind target)).complete 0x0411 q .ok 1
      | none => s.complete 0x0411 q .refused 0x0414 target)

/-- FORCE_LIST (R142), decided by the cluster. -/
def State.decideForceList (s : State) (q : Req) : State :=
  let stateOk := s.power.state == .run || s.power.state == .stop
  s.clCommand q 0x0412 (s.judge q 0x0412 false stateOk none false true) (fun s =>
    s.complete 0x0412 q .ok 0 0 (padTo 1024 (s.bench.forces.flatMap Force.bytes)))

/-! ### Online change (R152 to R157) -/

/-- An entry of the constants table with the VALUE in force (R40, R341). -/
def State.constantBytes (s : State) (i : Nat) : List Byte :=
  match s.station.bind (fun st => st.constants[i]?) with
  | some c => le 4 (s.constant i) ++ le 4 c.min ++ le 4 c.max ++ [BitVec.ofNat 8 c.unit,
      BitVec.ofNat 8 (bit c.online 0), 0, 0]
  | none => []

/-- Constants of the station data. -/
def State.constantCount (s : State) : Nat := ((s.station.map (fun st => st.constants.length)).getD 0)

/-- The CRC of the constants in force (R388 item 3). -/
def State.constantsCrc (s : State) : Word := crc32c ((List.range s.constantCount).flatMap s.constantBytes)

/-- Whether a time reference names a constant (R33). -/
def namesConstant (raw i : Nat) : Bool := 0x8000 ≤ raw && raw % 1024 == i

/-- Why a CONSTANT_SET is refused (R153, R157). -/
def State.constantRefusal (s : State) (i value : Nat) : Option (Nat × Nat) :=
  match s.station.bind (fun st => st.constants[i]?) with
  | none => some (0x0510, i)
  | some c =>
    if 9 ≤ i && i ≤ 15 then some (0x0510, i)
    else if !c.online then some (0x0511, i)
    else if value < c.min || c.max < value
      || (s.nodeTable.any (fun n => namesConstant n.tRef i) && value < (s.station.map Station.tBench).getD 0)
      then some (0x0512, value)
    else none

/-- The value of a constant from the next freeze on (R154). -/
def State.nextConstant (s : State) (i : Nat) : Nat :=
  match s.bench.newConstants.reverse.find? (fun p => p.1 == i) with
  | some p => p.2
  | none => s.constant i

/-- The effect of changed constants on the receive time-outs that a node's T_REF names: its intervals are discarded and
R44 applies again (R298). -/
def State.constantTouches (s : State) (i : Nat) : State :=
  s.nodeTable.foldl (fun s n =>
    if namesConstant n.tRef i then
      s.modNode n.id (fun d => { d with intervals := [], p999 := 0, measured := false, timeout := s.firstTimeout n })
    else s) s

/-- The changes of constants take effect (R154, R341). -/
def State.applyConstants (s : State) : State :=
  let changed := s.bench.newConstants.map Prod.fst
  let s1 := { s with bench := { s.bench with constants := s.bench.nextConstants, newConstants := [] } }
  changed.foldl State.constantTouches s1

/-- The change-log entry of an accepted constant, with event 0x1070 (R153). -/
def State.constantLogged (s : State) (e : LogEntry) : State :=
  (s.logChange e).event 0x1070 .cl .info e.subject.toNat e.before.toNat e.after.toNat

/-- The entries of the constants that a phase O completes (R153, R154). -/
def State.logConstants (s : State) : State :=
  s.bench.newLog.foldl State.constantLogged { s with bench := { s.bench with newLog := [] } }

/-- CONSTANT_SET (R153, R154), decided by the cluster; in RUN its entry and event come with its phase O, so that a
discarded change leaves none (R208). -/
def State.decideConstantSet (s : State) (q : Req) : State :=
  let stateOk := (s.power.state == .run || s.power.state == .stop)
    && (s.lifecycle == 2 || s.lifecycle == 3 || s.lifecycle == 4)
    && ((s.station.map Station.changeMode).getD 0) == 2
  s.clCommand q 0x0501 (s.judge q 0x0501 false stateOk (some .maintainer) false true) (fun s =>
    let i := q.p0
    let value := q.p1
    match s.constantRefusal i value with
    | some x => s.complete 0x0501 q .refused x.1 x.2
    | none =>
      if !s.logRoom (s.bench.newLog.length + 1) then s.logFull 0x0501 q
      else
        let before := s.nextConstant i
        let s0 := { s with bench := { s.bench with constants := s.bench.nextConstants } }
        let s1 := { s with bench := { s.bench with newConstants := s.bench.newConstants ++ [(i, value)] } }
        let s2 := { s1 with bench := { s1.bench with constants := s1.bench.nextConstants } }
        let e := s1.logBy q {
          item := 3, subject := word i, beforeCrc := s0.constantsCrc, afterCrc := s2.constantsCrc,
          before := word before, after := word value }
        let s3 := if s.inRun then { s1 with bench := { s1.bench with newLog := s1.bench.newLog ++ [e] } }
          else s1.constantLogged e
        let s4 := s3.noteCluster 0x0107
          (le 2 i ++ [0, 0] ++ le 4 before ++ le 4 value ++ [BitVec.ofNat 8 (s.roleOf q)])
        (if s.inRun then s4 else s4.applyConstants).complete 0x0501 q .ok)

/-- CONSTANT_GET (R341), decided by the cluster. -/
def State.decideConstantGet (s : State) (q : Req) : State :=
  let stateOk := s.power.state == .run || s.power.state == .stop
  let ok := q.p0 < s.constantCount && 1 ≤ q.p1 && q.p1 ≤ 254
  s.clCommand q 0x0502 (s.judge q 0x0502 false stateOk none false ok) (fun s =>
    let k := Nat.min q.p1 (s.constantCount - q.p0)
    s.complete 0x0502 q .ok 0 0 ((List.range' q.p0 k).flatMap s.constantBytes))

/-! ### Starting and stopping the bench (R210, R340) -/

/-- A command that waits for an outcome. -/
def State.await (s : State) (w : Waiting) : State := { s with eng := { s.eng with waiting := s.eng.waiting ++ [w] } }

/-- Whether the life-cycle is COMMISSIONING, OPERATIONAL or SERVICE. -/
def State.benchLifecycle (s : State) : Bool := s.lifecycle == 2 || s.lifecycle == 3 || s.lifecycle == 4

/-- BENCH_START (R340), decided by the cluster. -/
def State.decideBenchStart (s : State) (q : Req) : State :=
  let stateOk := s.power.state == .stop && s.benchLifecycle
  s.clCommand q 0x0401 (s.judge q 0x0401 false stateOk (some .maintainer) false true) (fun s =>
    if s.vote.dwellExpired then s.complete 0x0401 q .refused 0x0423 s.dwellLimitH
    else (s.await (.benchStart q)).beginStart .benchStart false)

/-- BENCH_STOP (R340), decided by the cluster: the bench ends after this cycle's phase O. -/
def State.decideBenchStop (s : State) (q : Req) : State :=
  s.clCommand q 0x0402 (s.judge q 0x0402 false (s.power.state == .run) (some .maintainer) false true) (fun s =>
    let s1 := s.await (.benchStop q)
    { s1 with bench := { s1.bench with stopping := true } })

/-- Cores that can serve in a slot (R176). -/
def State.healthyCores (s : State) : Nat := ((List.range 4).filter s.coreHealthy).length

/-- Why a BENCH_RESTART is refused (R210); in stand-alone operation it is always SAFE_NO_DATA (R20). -/
def State.restartRefusal (s : State) : Option (Nat × Nat) :=
  if s.station.isNone then some (0x0422, 0)
  else if s.vote.cause ≠ 0 || s.healthyCores < 2 then
    some (0x0421, ((List.range 4).find? (fun c => s.core c == .selfTest)).getD 0)
  else match s.power.causes with
    | c :: _ => some (0x0420, c)
    | [] => none

/-- BENCH_RESTART (R210), decided by the cluster; in stand-alone operation it passes the state check (R20). -/
def State.decideBenchRestart (s : State) (q : Req) : State :=
  let stateOk := s.power.state == .safe && (s.benchLifecycle || s.station.isNone)
  s.clCommand q 0x0403 (s.judge q 0x0403 false stateOk (some .maintainer) false true) (fun s =>
    match s.restartRefusal with
    | some x => s.complete 0x0403 q .refused x.1 x.2
    | none => ((s.event 0x0102 .cl .info).await (.benchRestart q)).beginStart .benchRestart true)

/-! ### Rows of the table -/

/-- BENCH_START (R340). -/
def execBenchStart (r : Req) (s : State) : Host.Outcome State Fault Refusal := .next (s.decideBenchStart r).settle
/-- BENCH_STOP (R340). -/
def execBenchStop (r : Req) (s : State) : Host.Outcome State Fault Refusal := .next (s.decideBenchStop r).settle
/-- BENCH_RESTART (R210). -/
def execBenchRestart (r : Req) (s : State) : Host.Outcome State Fault Refusal := .next (s.decideBenchRestart r).settle
/-- FORCE_SET (R145). -/
def execForceSet (r : Req) (s : State) : Host.Outcome State Fault Refusal := .next (s.decideForceSet r).settle
/-- FORCE_CLEAR (R145). -/
def execForceClear (r : Req) (s : State) : Host.Outcome State Fault Refusal := .next (s.decideForceClear r).settle
/-- FORCE_LIST (R142). -/
def execForceList (r : Req) (s : State) : Host.Outcome State Fault Refusal := .next (s.decideForceList r).settle
/-- CONSTANT_SET (R153). -/
def execConstantSet (r : Req) (s : State) : Host.Outcome State Fault Refusal := .next (s.decideConstantSet r).settle
/-- CONSTANT_GET (R341). -/
def execConstantGet (r : Req) (s : State) : Host.Outcome State Fault Refusal := .next (s.decideConstantGet r).settle
/-- FORCE_REMINDER (R149): every 10 minutes of operating time while the table holds an entry. -/
def execForceReminder (s : State) : Host.Outcome State Fault Refusal :=
  .next (if !s.bench.forces.isEmpty && s.bench.reminderUs ≤ s.opUs then
    ({ s with bench := { s.bench with reminderUs := s.bench.reminderUs + 600000000 } }).event 0x1062 .cl .info
      s.bench.forces.length
    else s).settle

end Sys2Proof.Machine
end

