-- ==== Sys2Proof/Machine/Bench.lean ====
section
/-! DEFINITION. The bench cycle: the input image of phase I, the order of phase E, the hand-over of phase O, housekeeping,
overruns and node dropout (R64, R65, R121 to R140), with their rows. -/

namespace Sys2Proof.Machine

/-! ### Which unit decides a command (R329) -/

/-- A command decided by the cluster. -/
def State.decideCluster (s : State) (op : Nat) (q : Req) : State :=
  match op with
  | 0x0006 => s.decideShutdown q
  | 0x0101 => s.decideRouteSet q
  | 0x0102 => s.decideRouteCancel q
  | 0x0103 => s.decidePointMove q
  | 0x0104 => s.decideSignalStop q
  | 0x0110 => s.decideRouteState q
  | 0x0111 => s.decideElementState q
  | 0x0201 => s.decideAuxPrepare q
  | 0x0202 => s.decideAuxConfirm q
  | 0x0301 => s.decideDoorOpen q
  | 0x0302 => s.decideDoorClose q
  | 0x0401 => s.decideBenchStart q
  | 0x0402 => s.decideBenchStop q
  | 0x0403 => s.decideBenchRestart q
  | 0x0410 => s.decideForceSet q
  | 0x0411 => s.decideForceClear q
  | 0x0412 => s.decideForceList q
  | 0x0501 => s.decideConstantSet q
  | 0x0502 => s.decideConstantGet q
  | 0x0704 => s.decideUpdateActivate q
  | 0x0801 => s.decideRoleLogin q
  | 0x0802 => s.decideRoleLogout q
  | 0x0803 => s.decidePasswordSet q
  | 0x0804 => s.decideKeyInstall q
  | 0x0805 => s.decideLifecycleAdvance q
  | 0x0806 => s.decideLockoutRelease q
  | _ => s

/-! ### Phase I: requests (R65, R124) -/

/-- The arrival number after one (R65); 0xFFFF_FFFF names no arrival (R310). -/
def nextArrival (n : Nat) : Nat := if n + 1 < 0xFFFFFFFF then n + 1 else 0

/-- Whether arrival numbers follow the last one, and each other, without a gap. -/
def inSequence : Option Nat → List Queued → Bool
  | _, [] => true
  | none, x :: l => inSequence (some x.req.arrival) l
  | some n, x :: l => x.req.arrival == nextArrival n && inSequence (some x.req.arrival) l

/-- The requests that the cluster takes from its queue: of those that are due, as many as the count of requests queued
shows; none through a crossing that is fenced, STALE or UNSTABLE (R124, R218, R222). -/
def State.dueRequests (s : State) (due : Queued → Bool) : List Queued :=
  if (s.xing .mgCl).unusable then [] else (s.mg.queue.filter due).take (s.xing .mgCl).counter.received

/-- The due requests taken over by the cluster with their count (R65, R218), and whether their numbers have no gap; the
others stay. -/
def State.takeQueue (s : State) (due : Queued → Bool) : State × Bool :=
  let l := s.dueRequests due
  let x := s.xing .mgCl
  let rest := s.mg.queue.filter (fun r => !l.contains r)
  let s1 := if x.unusable then s else s.setXing .mgCl { x with counter := x.counter.takeBut rest.length }
  ({ s1 with
     mg := { s1.mg with queue := rest }
     eng := { s1.eng with lastSeq := (l.getLast?.map (fun (x : Queued) => x.req.arrival)).or s1.eng.lastSeq } },
   inSequence s.eng.lastSeq l)

/-- Whether a request stood in the queue at the freeze; what arrived after it waits for the next image (R124). -/
def State.queuedAtFreeze (s : State) (x : Queued) : Bool := x.atUs ≤ s.bench.freezeUs

/-- The requests of the image: those carried over, then those queued at the freeze; after a gap all are DISCARDED. -/
def State.freezeRequests (s : State) : State :=
  let l := s.bench.requests ++ s.dueRequests s.queuedAtFreeze
  let r := s.takeQueue s.queuedAtFreeze
  if r.2 then { r.1 with bench := { r.1.bench with requests := l } }
  else l.foldl (fun s x => s.complete x.opcode x.req .discarded)
    { r.1 with bench := { r.1.bench with requests := [] } }

/-! ### Phase I: values (R132, R134, R136, R240, R252, R284, R285, R289, R302) -/

/-- The crossings that bring the cluster its inputs (R221, R222). -/
def inputCrossings : List Crossing := [.flCl, .nwCl, .fbCl, .asCl, .mgCl]

/-- An input crossing sampled at the freeze (R219, R222): no samples stand for a transfer without a failed comparison;
after four failed retries it is UNSTABLE and keeps its value, event 0xC031 with that value. -/
def State.sampleXing (s : State) (x : Crossing) (samples : List Word) : State :=
  let v := s.xing x
  if v.linkDown then s
  else if samples.isEmpty then (if v.unstable then s.setXing x { v with unstable := false } else s)
  else match agree 5 samples with
    | some w => s.setXing x { v with unstable := false, word := w }
    | none => (s.setXing x { v with unstable := true }).event 0xC031 (seenBy x) .info x.code v.word.toNat

/-- Every input crossing sampled; `samples` names those with a failed comparison. -/
def State.sampleInputs (s : State) (samples : List (Crossing × List Word)) : State :=
  inputCrossings.foldl (fun s x =>
    s.sampleXing x (((samples.find? (fun p => p.1 == x)).map Prod.snd).getD [])) s

/-- A freeze that cannot take the field link's words counts as a missed slot (R222). -/
def State.missFrame (s : State) : State :=
  if (s.xing .flCl).unusable && s.unit.variant.groups ≠ 0 then
    { s with field := { s.field with
      flMissed := s.field.flMissed + 1, missed := s.field.missed + 1, missedFl := s.field.missedFl + 1
      flMost := Nat.max s.field.flMost (s.field.flMissed + 1) } }
  else s

/-- Whether a telegram's descriptor can be taken: its crossing is neither fenced, STALE nor UNSTABLE (R222). -/
def State.descriptorOk (s : State) (t : Accepted) : Bool :=
  !(s.xing (descriptorPath (((s.node t.node).map Node.port).getD 8))).unusable

/-- Descriptors that do not arrive are not received: the time-out of the node runs on from the telegram before them
(R222). -/
def State.dropDescriptors (s : State) : State :=
  let lost := s.net.accepted.filter (fun t => !s.descriptorOk t)
  let s1 := lost.reverse.foldl (fun s (t : Accepted) =>
    s.modNode t.node (fun (d : NodeDyn) => { d with lastRxUs := t.priorRxUs })) s
  { s1 with net := { s1.net with accepted := s.net.accepted.filter s.descriptorOk } }

/-- The words of the last frame received before the freeze (R124). -/
def Field.atFreeze (f : Field) : FieldImage :=
  f.prior.getD f.image

/-- A local channel into the image (R132, R240, R252): the value of the last frame before the freeze, less the debounce
time; a channel that is not valid, or whose group is MISSING, gives no value. -/
def State.localValue (s : State) (i : Nat) (e : Element) : State :=
  let f := s.field.atFreeze
  let c := e.object
  match e.part with
  | .auxOut .. =>
    let out := f.outputs.getD c 0
    s.modDyn i (fun (d : ElemDyn) => { d with
      reported := some (if out = 1 then 1 else 0), channel := out == 2, segment := f.groups.getD (c / 8) 0 == 3,
      sampleUs := f.arrivalUs, renewedUs := f.arrivalUs })
  | part =>
    let missing := f.groups.getD (c / 16) 0 == 3
    let good := f.valid.getLsbD c && !f.stale
    let level := f.values.getLsbD c
    let debounce := ((s.station.bind (fun st => st.inputs[c]?)).map InputConfig.debounce).getD 0 * 10
    let v := match part with
      | .auxIn active _ => if level == (active == 1) then 1 else 0
      | _ => if level then 0 else 1
    s.modDyn i (fun (d : ElemDyn) =>
      if good then { d with
        reported := some v, sampleUs := f.arrivalUs - debounce, renewedUs := f.arrivalUs - debounce, channel := false,
        segment := missing, clearSince := if v = 0 then d.clearSince else none }
      else { d with channel := !missing, segment := missing, clearSince := none })

/-- The complementary LINK_KIND (R301). -/
def complement : Nat → Nat
  | 1 => 2
  | 2 => 1
  | k => k

/-- The state code that a VALUE carries for a type: bit 7 is a signal's lamp failure and elsewhere 0; an edge's
train-door-closed object reports 0 or 1 (R284, R289). -/
def reportedCode (t v : Nat) : Option Nat :=
  if t = 4 then (if v ≤ 1 then some v else none)
  else
    let code := if t = 3 then v % 128 else v
    if typeState t code then some code else none

/-- A reported VALUE (R284, R289): a state code of the type, with a signal's lamp failure in bit 7; else SUBST and F1 for
this cycle. -/
def State.takeValue (s : State) (i t v sampled : Nat) : State :=
  s.modDyn i (fun (d : ElemDyn) =>
    match reportedCode t v with
    | some code => { d with
      reported := some code, lamp := t == 3 && 128 ≤ v, sampleUs := sampled, renewedUs := sampled, badValue := false,
      clearSince := if t = 1 && code ≠ 0 then none else d.clearSince }
    | none => { d with badValue := true, clearSince := none })

/-- One record of a telegram (R134, R284, R302). `poll` is the commit instant of the poll that a counting answer answers;
an untagged telegram of a CYCLE_POLL node updates its ASYNC elements only. -/
def State.takeRecord (s : State) (n : Node) (t : Accepted) (poll : Option Nat) (r : Nat × Nat × Nat) : State :=
  match (s.objectsOf n.id).find? (fun o => o.1 == r.1) with
  | none => s
  | some o =>
    let i := o.2
    match s.elem i with
    | none => s
    | some e =>
      if n.cyclePoll && e.snapshot && poll.isNone then s
      else
        let sampled := if e.snapshot then poll.getD t.arrivalUs else t.arrivalUs
        match e.part with
        | .link _ kind _ =>
          if r.2.1 = complement kind then s.takeValue i 7 r.2.2 sampled
          else if (s.dyn i).kindFault then s
          else (s.modDyn i (fun (d : ElemDyn) => { d with kindFault := true })).event 0x5050 .cl .f1 n.id r.1 r.2.1
        | part => s.takeValue i part.typeCode r.2.2 sampled

/-- A LIFE telegram renews the values of the ASYNC elements of its node (R285). -/
def State.takeLife (s : State) (n : Node) (t : Accepted) : State :=
  (s.objectsOf n.id).foldl (fun s o =>
    if ((s.elem o.2).map Element.snapshot).getD false then s
    else s.modDyn o.2 (fun (d : ElemDyn) =>
      if d.reported.isSome then { d with sampleUs := t.arrivalUs, renewedUs := t.arrivalUs } else d)) s

/-- A telegram into the image. -/
def State.takeTelegram (s : State) (n : Node) (t : Accepted) (poll : Option Nat) : State :=
  let s1 := if n.cyclePoll && poll.isNone
    then s.modNode n.id (fun (d : NodeDyn) => { d with untaggedUs := some t.arrivalUs }) else s
  if t.kind = 0 then s1.takeLife n t else t.records.foldl (fun s r => s.takeRecord n t poll r) s1

/-- Whether a telegram had been accepted at the freeze; one accepted after it waits for the next image (R124). -/
def State.acceptedAtFreeze (s : State) (t : Accepted) : Bool := t.acceptUs ≤ s.bench.freezeUs

/-- The telegrams of one node accepted before the freeze (R134): of the answers to polls later than the last answered
one, the answer to the latest poll counts. -/
def State.takeNode (s : State) (n : Node) : State :=
  match s.nodeDyn n.id with
  | none => s
  | some d =>
    let ts := s.net.accepted.filter (fun (t : Accepted) => t.node == n.id && s.acceptedAtFreeze t)
    let isAnswer (p : Nat × Nat) (t : Accepted) : Bool := t.kind == 4 && t.cycle == p.1
    match if n.cyclePoll then d.polls.find? (fun p => ts.any (isAnswer p)) else none with
    | none => ts.foldl (fun s t => s.takeTelegram n t none) s
    | some p =>
      let k := ts.findIdx (isAnswer p)
      let s1 := (withIndex ts).foldl (fun (s : State) (x : Accepted × Nat) =>
        s.takeTelegram n x.1 (if x.2 = k then some p.2 else none)) s
      s1.modNode n.id (fun (d : NodeDyn) => { d with
        lastAnswered := some p.1, polls := d.polls.takeWhile (fun x => x != p) })

/-! ### Phase I: time-outs and dropout (R44, R81, R137 to R139, R205) -/

/-- Receive time-outs at a freeze: R44 applies until a rank interval has been computed (R155, R298). -/
def State.baseTimeout (s : State) (n : Node) : State :=
  s.modNode n.id (fun (d : NodeDyn) => if d.measured then d else { d with timeout := s.firstTimeout n })

/-- Whether the values of a node have been renewed after an instant (R139). -/
def State.freshAfter (s : State) (d : NodeDyn) : Bool :=
  match s.objectsOf d.id with
  | [] => d.lastRxUs.any (fun t => d.droppedUs < t)
  | l => l.any (fun o => d.droppedUs < (s.dyn o.2).renewedUs)

/-- Whether the CAN port of a node is bus-off, or has been since the last freeze (R203, R205, R276). -/
def State.segmentOff (s : State) (n : Node) : Bool :=
  n.port < 8 && ((s.port n.port).busOff || (s.port n.port).segmentLost)

/-- Whether the last telegram of a node is older than its time-out at the freeze (R137). -/
def State.nodeLate (s : State) (d : NodeDyn) : Bool :=
  match d.lastRxUs with
  | some t => t + d.timeout * 100 < s.bench.freezeUs
  | none => true

/-- A NODE notification (R353). -/
def State.nodeNote (s : State) (d : NodeDyn) (cause : Nat) : State :=
  s.noteCluster 0x0103 (le 2 d.id ++ [BitVec.ofNat 8 cause, BitVec.ofNat 8 ((d.reference.map Prod.fst).getD 0)])

/-- The elements of a node that take a substitute when it drops out: those with a SUBST value, and the edges whose
train-door-closed object it is (R32, R138). -/
def State.substitutesOf (s : State) (id : Nat) : List Nat :=
  ((s.objectsOf id).map Prod.snd).filter (fun i => s.typeOf i != 9)

/-- A node dropped or returned at the freeze (R137 to R139); while its segment is off nothing counts as fresh (R205). -/
def State.judgeNode (s : State) (n : Node) : State :=
  match s.nodeDyn n.id with
  | none => s
  | some d =>
    let now := s.bench.freezeUs
    let off := s.segmentOff n
    let fresh := !off && s.freshAfter d
    let s1 := s.modNode n.id (fun (d : NodeDyn) => { d with fresh := fresh, droppedUs := if off then now else d.droppedUs })
    if s.nodeLate d && !d.dropped then
      let age := if d.accepted = 0 then 0xFFFF else saturate 16 ((now - d.lastAcceptUs) / 100)
      let s2 := s1.modNode n.id (fun (d : NodeDyn) => { d with dropped := true, droppedUs := now, fresh := false })
      (s2.event 0x5020 .cl .f1 n.id age (s.substitutesOf n.id).length).nodeNote d 1
    else if d.dropped && !s.nodeLate d && fresh then
      ((s1.modNode n.id (fun (d : NodeDyn) => { d with dropped := false })).event 0x5021 .cl .info n.id).nodeNote d 2
    else s1

/-- The node of an element, that of its train-door-closed object for an edge; 0 for none. -/
def Element.source (e : Element) : Nat :=
  match e.part with
  | .edge _ _ _ _ _ node _ _ => node
  | _ => if e.loc then 0 else e.node

/-- Dropout and segment of an element as its node stands (R138, R205). -/
def State.markElement (s : State) (i : Nat) (e : Element) : State :=
  match s.node e.source, s.nodeDyn e.source with
  | some n, some d =>
    let off := s.segmentOff n
    s.modDyn i (fun (x : ElemDyn) => { x with dropped := d.dropped, segment := off || (x.segment && !d.fresh) })
  | _, _ => s

/-- The throw timeout that the management core has sent, clamped (R81). -/
def State.takeThrowTimeout (s : State) (i : Nat) : State :=
  match s.part i with
  | .point _ lo hi _ _ _ =>
    if s.mg.alive && !(s.xing .mgCl).linkDown then
      s.modDyn i (fun (d : ElemDyn) => { d with learn := { d.learn with
        accepted := (d.learn.derived.map (clampThrow lo hi)).or d.learn.accepted } })
    else s
  | _ => s

/-! ### Phase I: the image (R34, R124, R132, R136, R138, R147, R302) -/

/-- A section as reported, OCCUPIED until it has been reported CLEAR for CLEAR_DELAY; the running interval keeps the
duration it started with (R34, R155). -/
def State.sectionStep (s : State) (i : Nat) : State :=
  match s.part i, (s.dyn i).reported with
  | .track _ _ delay, some v =>
    let d := s.dyn i
    if d.substituted then s
    else if v = 0 then
      let since := d.clearSince.getD s.bench.freezeUs
      let last := if d.clearSince.isSome then d.clearDelayUs else s.time10ms delay
      (s.modDyn i (fun (d : ElemDyn) => { d with clearSince := some since, clearDelayUs := last })).setValue i
        (if since + last ≤ s.bench.freezeUs then 0 else 1)
    else (s.modDyn i (fun (d : ElemDyn) => { d with clearSince := none })).setValue i v
  | _, _ => s

/-- Whether an element has no value of its source at this freeze (R138, R205, R240, R289). -/
def ElemDyn.gone (d : ElemDyn) : Bool := d.dropped || d.segment || d.channel || d.badValue || d.reported.isNone

/-- The value of an element before any force: its report or its substitute. An edge keeps the state that phase E gave
it; an auxiliary output without a report shows its committed demand. -/
def State.underlying (s : State) (i : Nat) (e : Element) : State :=
  let d := s.dyn i
  match e.part with
  | .edge .. => s.setValue i d.value
  | .auxOut .. => s.setValue i (d.reported.getD (d.committed.getD 0))
  | part =>
    let s1 := s.modDyn i (fun (d : ElemDyn) => { d with
      substituted := d.gone, clearSince := if d.gone then none else d.clearSince })
    if d.gone then s1.setValue i e.subst
    else match part with
      | .track .. => s1.sectionStep i
      | .link .. => s1.setValue i (if d.kindFault then 3 else d.reported.getD 3)
      | _ => s1.setValue i (d.reported.getD e.subst)

/-- An element in the image: its value, its age and the instant it counts as sampled at (R132, R136, R147); the age of an
edge is that of its train-door-closed value. -/
def State.freezeElement (s : State) (i : Nat) : State :=
  match s.elem i with
  | none => s
  | some e =>
    let s1 := s.underlying i e
    let d := s1.dyn i
    let now := s.bench.freezeUs
    let force := s.bench.forces.find? (fun f => f.kind == 1 && f.target == i)
    let aged := !d.substituted && force.isNone && (e.part.typeCode != 4 || s1.tdcValid i)
    s1.modDyn i (fun (d : ElemDyn) => { d with
      frozen := true
      imageSampleUs := if aged then d.sampleUs else now
      freezeAge := if aged then saturate 16 ((now - d.sampleUs) / 100) else 0
      imageFreshUs := match force with
        | some f => if f.setCycle = s.bench.cycle then now else d.imageFreshUs
        | none => if d.substituted then 0 else d.renewedUs })

/-- Every element in turn. -/
def State.eachElement (s : State) (f : State → Nat → Element → State) : State :=
  (withIndex s.elements).foldl (fun (s : State) (p : Element × Nat) => f s p.2 p.1) s

/-- The grid moves on and the changes of the last cycle take effect (R121, R145, R154); a crossing that is
fenced, STALE or UNSTABLE brings no challenge, and the last one accepted stays (R222, R225). -/
def State.openCycle (s : State) : State :=
  let s1 := { s with bench := { s.bench with
    cycle := s.bench.nextCycle, nextCycle := (s.bench.nextCycle + 1) % 2 ^ 32, freezeUs := s.bench.nextFreezeUs,
    nextFreezeUs := s.bench.nextFreezeUs + s.tBenchUs, frozen := true, evaluated := false, housekept := false,
    discard := false } }
  let s2 := s1.applyConstants
  let s3 := if s2.bench.newForces.isEmpty then s2 else s2.putForces s2.bench.nextForces
  { s3 with bench := { s3.bench with
    newForces := []
    challenge := if (s3.xing .asCl).unusable then s3.bench.challenge else s3.ash.challenge } }

/-- The words of the image in the order of R124, which the Hopper carries to every slot (R162): local inputs, telegram
records, request opcodes, then the timer. -/
def State.imageWords (s : State) : List Word :=
  let f := s.field.atFreeze
  [f.values.extractLsb' 0 32, f.values.extractLsb' 32 32]
    ++ (s.net.accepted.filter s.acceptedAtFreeze).flatMap (fun t => t.records.map (fun r => word r.2.2))
    ++ (s.dueRequests s.queuedAtFreeze).map (fun x => word x.opcode) ++ [word s.bench.freezeUs]

/-- Inputs, telegrams and requests taken in the order of R124. -/
def State.takeInputs (s : State) : State :=
  let s' := s.missFrame.dropDescriptors
  let s0 := s'.imageWords.foldl State.carry s'
  let s1 := { s0 with eng := { s0.eng with elems := s0.eng.elems.map (fun (d : ElemDyn) => { d with badValue := false }) } }
  let s2 := s1.eachElement (fun s i e => if e.loc && !(s1.xing .flCl).unusable then s.localValue i e else s)
  let s3 := s2.nodeTable.foldl State.takeNode s2
  ({ s3 with
    field := { s3.field with prior := none }
    net := { s3.net with accepted := s3.net.accepted.filter (fun t => !s3.acceptedAtFreeze t) } }).freezeRequests

/-- Ages, dropouts, substitutes and forces (R124), and the timers that count from freezes (R129). -/
def State.buildImage (s : State) : State :=
  let s1 := s.nodeTable.foldl State.baseTimeout s
  let s2 := s1.nodeTable.foldl State.judgeNode s1
  let s3 := s2.eachElement State.markElement
  let s4 := { s3 with can := s3.can.map (fun (p : CanPort) => { p with segmentLost := false }) }
  let all := List.range s4.elements.length
  ((all.foldl State.watchFreeze (all.foldl State.freezeElement s4)).suspendCloses).keepImage

/-- The copies for the diagnostics commands refreshed by the cluster (R349), where they reach the management core. -/
def State.refreshDiag (s : State) : State :=
  if s.mg.alive && s.power.state.powered && !(s.xing .clMg).linkDown then { s with diag := some s.freshDiag } else s

/-- Phase I. A core whose sync window is complete enters its slot at this boundary (R169, R171); the management core
learns from the image (R81, R117). -/
def State.phaseI (s : State) (samples : List (Crossing × List Word)) : State :=
  let s1 := (((s.sampleInputs samples).openCycle).takeInputs).buildImage
  let s2 := ((s1.joinCore s1.bench.cycle).ofType 5).foldl State.learnLeaf (s1.joinCore s1.bench.cycle)
  ((s2.ofType 2).foldl State.takeThrowTimeout s2).dwellSync

/-! ### Phase E (R64, R92, R125, R131) -/

/-- What step 5 evaluates: an entry of the pending queue or a request of the image. -/
inductive Work
  | old (p : Pend)
  | fresh (x : Queued)

/-- The arrival number of a piece of work. -/
def Work.arrival : Work → Nat
  | .old p => p.arrival
  | .fresh x => x.req.arrival

/-- Work inserted in arrival order, after what arrived no later. -/
def insertWork (w : Work) : List Work → List Work
  | [] => [w]
  | x :: l => if w.arrival < x.arrival then w :: x :: l else x :: insertWork w l

/-- One piece of work of step 5. -/
def State.workStep (s : State) (w : Work) : State :=
  match w with
  | .old p => if s.eng.queue.any (fun x => x.same p) then s.evalPend p else s
  | .fresh x => s.decideCluster x.opcode x.req

/-- The requests of the image with one of some opcodes, decided in arrival order. -/
def State.decideThese (s : State) (which : Nat → Bool) : State :=
  (s.bench.requests.filter (fun x => which x.opcode)).foldl (fun s x => s.decideCluster x.opcode x.req) s

/-- Opcodes of step 3: cancels, signal stops and door closes. -/
def restrictiveOp (op : Nat) : Bool := op == 0x0102 || op == 0x0104 || op == 0x0302
/-- Opcodes of step 4. -/
def auxOp (op : Nat) : Bool := op == 0x0201 || op == 0x0202
/-- Opcodes of step 5. -/
def queueOp (op : Nat) : Bool := op == 0x0101 || op == 0x0103 || op == 0x0301

/-- Step 5: the pending queue and the new requests for it, in arrival order. -/
def State.stepFive (s : State) : State :=
  let old := s.eng.queue.map Work.old
  let new := (s.bench.requests.filter (fun x => queueOp x.opcode)).map Work.fresh
  ((old ++ new).foldl (fun l w => insertWork w l) []).foldl State.workStep s

/-- The demands of auxiliary outputs (R34): the result of their lists, OFF under a fault of a local channel (R252); the
fault handler leaves them unchanged for a dropped node or a MISSING group (R138, R205). -/
def State.auxDemands (s : State) : State :=
  (s.ofType 9).foldl (fun s i =>
    match s.part i with
    | .auxOut list _ => s.demandOf i (if s.listTrue (s.termList list) && !(s.dyn i).channel then 1 else 0)
    | _ => s) s

/-- The automatic closes of R108; in the first cycle every leaf that is not secure is closed (R115). -/
def State.autoCloses (s : State) : State :=
  if s.bench.first then (s.ofType 4).foldl State.closeEdge s else (s.ofType 4).foldl State.autoClose s

/-- Slots whose transactions ended in the last cycle are free, and late RESTRICTIVE ones take them (R88, R89). -/
def State.freeSlots (s : State) : State :=
  ({ s with eng := { s.eng with txns := s.eng.txns.filter (fun t => !t.ended) } }).slotLate

/-- More engine cycles in one phase E than station data allows: event 0x1042 (R131). -/
def State.engineExcess (s : State) (cycles : Nat) : State :=
  if ((s.station.map Station.engineCycles).getD 0) < cycles then s.event 0x1042 .cl .f0 cycles else s

/-- What this phase E does with logins can be taken back until its phase O (R208). -/
def State.openUndo (s : State) : State :=
  { s with bench := { s.bench with undo := some {
    sessions := s.mg.sessions, maintainerLogin := s.sec.maintainerLogin, authorityLogin := s.sec.authorityLogin,
    pendRt := s.sec.pendRt, pendSeal := s.sec.pendSeal, pendNand := s.sec.pendNand } } }

/-- Phase E in the order of R64. -/
def State.phaseE (s : State) (cycles : Nat) : State :=
  let s1 := (s.openUndo.freeSlots.holdExpiry).fieldStep.superviseRoutes
  let s2 := (s1.autoCloses).decideThese restrictiveOp
  let s3 := ((s2.decideThese auxOp).expirePrepares).stepFive
  let s4 := (s3.decideThese (fun op => !restrictiveOp op && !auxOp op && !queueOp op)).finishWaiting
  let s5 := (s4.auxDemands).tellFaults.dwellCheck
  ({ s5 with bench := { s5.bench with requests := [], evaluated := true, first := false } }).engineExcess cycles

/-! ### Phase O (R126, R133, R149) -/

/-- A demand that phase O commits: RESTRICTIVE where it is a signal at STOP or a leaf at CLOSE (R87, R263). -/
def restrictiveDemand (t : Nat) (v : Option Nat) : Bool := (t == 3 || t == 5) && v == some 0

/-- What a committed demand leaves of a leaf's times (R99, R117). -/
def ElemDyn.leafCommit (d : ElemDyn) (w : Option Nat) (changed : Bool) (at' : Nat) : ElemDyn :=
  { d with
    closeSince := if w = some 0 then some (d.closeSince.getD at') else none
    health := if !d.health.active || !changed then d.health
      else if w = some 3 then { d.health with openUs := some at' }
      else { d.health with closeUs := d.health.closeUs.or (some at') } }

/-- The demand of one element committed (R125, R126); its node is told of a change. -/
def State.commitElement (s : State) (i : Nat) (e : Element) : State :=
  let d := s.dyn i
  let w := s.workingDemand i
  let t := e.part.typeCode
  let changed := w != d.committed
  let s1 := s.modDyn i (fun (d : ElemDyn) =>
    let d1 := if t = 5 then d.leafCommit w changed s.phaseOUs else d
    if changed then { d1 with previous := d.committed, committed := w, confirmed := false, commitUs := s.phaseOUs }
    else d1)
  if changed && !e.loc && e.node ≠ 0 then
    s1.modNode e.node (fun (n : NodeDyn) => { n with
      demandsChanged := true
      restrictive := n.restrictive || restrictiveDemand t w })
  else s1

/-- Every demand, transaction, clear command and prepare of the working copy committed. -/
def State.commitDemands (s : State) : State :=
  let t := s.phaseOUs
  let s1 := s.eachElement State.commitElement
  { s1 with eng := { s1.eng with
    txns := s1.eng.txns.map (fun (x : Txn) => { x with commitUs := x.commitUs.or (some t) })
    routes := s1.eng.routes.map (fun (r : RouteDyn) =>
      if r.clearWanted then { r with clearUs := r.clearUs.or (some t) } else r)
    waiting := s1.eng.waiting.map (fun (w : Waiting) => match w with
      | .signalStop q i c => .signalStop q i (c.or (some t))
      | w => w)
    prepares := s1.eng.prepares.map (fun (p : Prepare) => { p with doneUs := p.doneUs.or (some t) }) } }

/-- Whether the committed demand of an auxiliary output that meets a condition is ON. -/
def State.auxOn (s : State) (p : Element → Bool) : Bool :=
  (withIndex s.elements).any (fun (x : Element × Nat) =>
    x.1.part.typeCode == 9 && p x.1 && (s.dyn x.2).committed == some 1)

/-- The output demands for the field link, local output forces applied (R126, R147). -/
def State.outputWord (s : State) : Word :=
  word (bitSum 32 (fun c => c < s.unit.variant.outputs && s.outputUsed c &&
    (match s.forceOn 3 c with
     | some v => v == 1
     | none => s.auxOn (fun e => e.loc && e.object == c))))

/-- The demand word that goes with the cycle code (R34, R190). -/
def State.demandWord (s : State) : Word :=
  word (bitSum 32 (fun b => s.auxOn (fun e => match e.part with
    | .auxOut _ (some k) => k == b
    | _ => false)))

/-- A ROUTE_STATE notification where state or wait reason has changed since the last phase O (R71, R353). -/
def State.routeNote (s : State) (n : Nat) : State :=
  let d := s.rdyn n
  let s1 := if (d.state ≠ d.toldState || d.reason ≠ d.toldReason) && !d.quiet then
      s.noteCluster 0x0100 (le 2 n ++ [BitVec.ofNat 8 d.toldState.code, BitVec.ofNat 8 d.state.code] ++ le 2 d.reason
        ++ [0, 0] ++ le 4 d.param ++ le 4 d.arrival)
    else s
  s1.modRoute n (fun (d : RouteDyn) => { d with toldState := d.state, toldReason := d.reason, quiet := false })

/-- Completions and notifications handed over (R126). -/
def State.handOver (s : State) : State :=
  let done := s.bench.completions
  let s1 := (List.range s.eng.routes.length).foldl State.routeNote
    { s with bench := { s.bench with completions := [] } }
  (done.foldl State.deliver s1).flushNotes

/-- The cycle code as phase O's last step (R126, R129, R130, R190). -/
def State.deliverCode (s : State) : State :=
  if s.bench.noCode then s
  else { s with bench := { s.bench with codes := s.bench.codes ++
    [.cycle (cycleCodeWord (BitVec.ofNat 8 (s.tBenchUs / 1000)) (BitVec.ofNat 8 s.bench.cycle)
      (response s.bench.challenge)) s.demandWord] } }

/-- The request of a BENCH_STOP that waits. -/
def State.stopRequest (s : State) : Option Req :=
  s.eng.waiting.findSome? (fun w => match w with
    | .benchStop q => some q
    | _ => none)

/-- Phase O: the hand-over; a discarded working copy commits nothing and only refresh telegrams go out (R129). The bench
ends after it where a BENCH_STOP or the dwell asked for it (R174, R340). -/
def State.phaseO (s : State) (samples : List Word) : State :=
  let c := s.bench.cycle
  let s0 := s.showForcing
  let s1 := if s.bench.discard then s0.buildTelegrams c false
    else
      let s2 := s0.commitDemands
      ((({ s2 with field := { s2.field with demands := s2.outputWord } }).buildTelegrams c true).logConstants).handOver
  let s3 := s1.deliverCode
  let s4 := ({ s3 with bench := { s3.bench with
    frozen := false, evaluated := false, lastO := c, undo := none } }).mirror samples
  (if s4.bench.stopping then s4.enterStop s4.stopRequest else s4).refreshDiag

/-! ### Phase H (R127, R169, R172) -/

/-- One lane test injection: the lane of an accused slot first, else the next of the rotation over all four lanes. -/
def State.laneTest (s : State) (passed : Bool) : State :=
  match s.vote.laneCheck with
  | some slot => if passed then s.transientFault slot else s.laneFault (s.vote.lanes.getD slot 0)
  | none =>
    if passed then { s with vote := { s.vote with laneTurn := (s.vote.laneTurn + 1) % 4 } }
    else s.laneFault s.vote.laneTurn

/-- One background RAM test slice (R127). -/
def State.ramSlice (s : State) : State := { s with vote := { s.vote with ramSlices := s.vote.ramSlices + 1 } }

/-- Phase H: the pending sync window, then the lane test, then a RAM test slice; what has not finished at the next freeze
is repeated in a later phase H (R127). -/
def State.phaseH (s : State) (h : PhaseHWork) : State :=
  let s0 := { s with bench := { s.bench with housekept := true } }
  let s1 := if h.syncFinished then s0.syncDone h.streamsDiffer else s0
  let s2 := if s1.inRun && h.laneTestFinished then s1.laneTest h.laneTestPassed else s1
  if s2.inRun && h.ramSliceFinished then s2.ramSlice else s2

/-! ### Overruns (R128 to R130) -/

/-- The number of a phase in event 0x1040: 0 I, 1 E, 2 O. -/
def phaseNumber : Phase → Nat
  | .i => 0
  | .e => 1
  | .o => 2
  | .h => 3

/-- Whether a phase of this cycle has not ended by its limit (R128). -/
def State.overdue (s : State) (phase : Phase) : Bool :=
  match phase with
  | .i => s.bench.frozen && !s.bench.evaluated && s.bench.freezeUs + 1000 ≤ s.opUs
  | .e => s.bench.frozen && !s.bench.evaluated && s.phaseOUs ≤ s.opUs
  | .o => s.bench.frozen && s.bench.evaluated && s.phaseOUs + 1000 ≤ s.opUs
  | .h => false

/-- What an overrun of phase E leaves (R129): the working copy is discarded and the requests stay for the next image;
its engine cycles are judged too (R131). -/
def State.stopPhaseE (s : State) (phase : Phase) (engine : Nat) : State :=
  if phase = .e then
    ({ s with bench := { s.bench with evaluated := true, discard := true } }).engineExcess engine
  else s

/-- An overrun (R130). -/
def State.overrun (s : State) (phase : Phase) (cycles engine : Nat) : State :=
  let c := s.bench.cycle
  if !s.overdue phase then s
  else if s.bench.overran = some c then s.stopPhaseE phase engine
  else
    let s1 := ((s.stopPhaseE phase engine).event 0x1040 .cl .f0 c (phaseNumber phase) cycles)
    let again := s.bench.overran.any (fun k => (k + 1) % 2 ^ 32 == c)
    let s2 := { s1 with bench := { s1.bench with overran := some c } }
    if again then
      (({ s2 with bench := { s2.bench with noCode := true } }).event 0x1041 .cl .f3).enterSafe 0x1041 false
    else s2

/-! ### Adaptive time-outs (R298) -/

/-- The time-out of one node recomputed. -/
def State.recompute (s : State) (n : Node) : State :=
  s.modNode n.id (fun (d : NodeDyn) =>
    if 200 ≤ d.intervals.length then { d with
      p999 := d.rankInterval, measured := true
      timeout := Nat.min (n.toMax * 10) (Nat.max (n.toMin * 10) (3 * d.rankInterval / 2)) }
    else d)

/-- Every time-out recomputed: in phase H, once per second (R298). -/
def State.recomputeAll (s : State) : State :=
  if !s.bench.frozen && s.phaseOUs ≤ s.opUs && s.net.recomputeUs ≤ s.opUs then
    s.nodeTable.foldl State.recompute { s with net := { s.net with recomputeUs := s.opUs + 1000000 } }
  else s

/-! ### The request queue outside RUN (R330) -/

/-- The request queue served, and the diagnostics copies refreshed, every 10 ms while the bench cycle does not run
(R330, R349). -/
def State.serveQueue (s : State) : State :=
  if s.inRun || !s.mailboxLive then s
  else
    let l := s.dueRequests (fun _ => true)
    let r := s.takeQueue (fun _ => true)
    (if r.2 then l.foldl (fun s x => s.decideCluster x.opcode x.req) r.1
    else l.foldl (fun s x => s.complete x.opcode x.req .discarded) r.1).refreshDiag

/-! ### Rows of the table -/

/-- PHASE_I (R124): due at the next instant of the grid, once phase O of the cycle before has run (R122). -/
def execPhaseI (samples : List (Crossing × List Word)) (s : State) : Host.Outcome State Fault Refusal :=
  .next (if s.inRun && !s.bench.frozen && s.bench.nextFreezeUs ≤ s.opUs then s.phaseI samples else s).settle
/-- PHASE_E (R64): once per image; `cycles` are the engine cycles it used. -/
def execPhaseE (cycles : Nat) (s : State) : Host.Outcome State Fault Refusal :=
  .next (if s.inRun && s.bench.frozen && !s.bench.evaluated then s.phaseE cycles else s).settle
/-- PHASE_O (R126): at its fixed offset, after phase E. -/
def execPhaseO (samples : List Word) (s : State) : Host.Outcome State Fault Refusal :=
  .next (if s.inRun && s.bench.frozen && s.bench.evaluated && s.phaseOUs ≤ s.opUs then s.phaseO samples else s).settle
/-- PHASE_H (R127): once per cycle, after phase O (R122). -/
def execPhaseH (h : PhaseHWork) (s : State) : Host.Outcome State Fault Refusal :=
  .next (if s.inRun && !s.bench.frozen && !s.bench.housekept && s.phaseOUs ≤ s.opUs then s.phaseH h else s).settle
/-- BENCH_OVERRUN (R129). -/
def execBenchOverrun (phase : Phase) (cycles engine : Nat) (s : State) : Host.Outcome State Fault Refusal :=
  .next (s.timed (fun s => s.overrun phase cycles engine)).settle
/-- NODE_DROPOUT (R137): a node found silent, with its elements substituted and their faults raised (R138). -/
def execNodeDropout (node : Nat) (s : State) : Host.Outcome State Fault Refusal :=
  .next (s.timed (fun s =>
    match s.node node, s.nodeDyn node with
    | some n, some d =>
      if s.nodeLate d && !d.dropped then
        let s1 := s.judgeNode n
        let mine := (s.objectsOf node).map Prod.snd
        let s2 := mine.foldl (fun s i => match s.elem i with
          | some e => s.markElement i e
          | none => s) s1
        (mine.foldl State.watchFreeze (mine.foldl State.freezeElement s2)).tellFaults
      else s
    | _, _ => s)).settle
/-- CLEAR_DELAY_EXPIRY (R34). -/
def execClearDelayExpiry (element : Nat) (s : State) : Host.Outcome State Fault Refusal :=
  .next (s.timed (fun s => s.sectionStep element)).settle
/-- NODE_TIMEOUT_RECOMPUTE (R298): once per second in RUN. -/
def execNodeTimeoutRecompute (s : State) : Host.Outcome State Fault Refusal :=
  .next (s.timed State.recomputeAll).settle
/-- REQUEST_QUEUE_SERVICE (R330). -/
def execRequestQueueService (s : State) : Host.Outcome State Fault Refusal := .next s.serveQueue.settle

end Sys2Proof.Machine
end

