-- ==== Sys2Proof/Machine/Commands.lean ====
section
/-! DEFINITION. How a command reaches the module: doorbells on PCIe and datagrams on X8 with their transport checks, and
writes to the BAR0 registers (R229, R307, R310 to R313, R322, R323, R329), with their rows. -/

namespace Sys2Proof.Machine

/-! ### Commands of the management core (R329) -/

/-- A command decided by the management core. -/
def State.decideMg (s : State) (op : Nat) (q : Req) : State :=
  match op with
  | 0x0001 => s.decideIdentify q
  | 0x0002 => s.decideCapabilities q
  | 0x0003 => s.decideGetStatus q
  | 0x0004 => s.decideSetTime q
  | 0x0005 => s.decideGetTime q
  | 0x0303 => s.decideDoorHealth q
  | 0x0601 => s.decideEventInfo q
  | 0x0602 => s.decideEventRead q
  | 0x0603 => s.decideEventFreeze q
  | 0x0604 => s.decideEventThaw q
  | 0x0605 => s.decideEventSetRate q
  | 0x0701 => s.decideUpdateBegin q
  | 0x0702 => s.decideUpdateData q
  | 0x0703 => s.decideUpdateVerify q
  | 0x0705 => s.decideUpdateConfirm q
  | 0x0706 => s.decideUpdateStatus q
  | 0x0707 => s.decideUpdateAbort q
  | 0x0807 => s.decideChangeLogRead q
  | 0x0808 => s.decideMaintAddress q
  | 0x0901 => s.decideDiagVote q
  | 0x0902 => s.decideDiagAshlar q
  | 0x0903 => s.decideDiagSafeRecord q
  | 0x0904 => s.decideDiagInputs q
  | 0x0905 => s.decideDiagOutputs q
  | 0x0906 => s.decideDiagGroups q
  | 0x0907 => s.decideDiagCanPort q
  | 0x0908 => s.decideDiagPortCounters q
  | 0x0909 => s.decideDiagNode q
  | 0x090A => s.decideDiagNodeList q
  | 0x0A01 => s.decideSubscribe q
  | 0x0A02 => s.decideSubscriptionGet q
  | _ => s

/-! ### Blocks (R310 to R312) -/

/-- OPCODE of a block. -/
def blkOpcode (b : List Byte) : Nat := u16 b 0
/-- The TAG byte of a block. -/
def blkTag (b : List Byte) : Nat := u8 b 2
/-- LENGTH of a block. -/
def blkLength (b : List Byte) : Nat := u16 b 4
/-- CRC of a block. -/
def blkCrc (b : List Byte) : Nat := u32 b 28

/-- The request that a block spells. -/
def blkRequest (b : List Byte) (via : Transport) (ip : Word) (port : Nat) : Req :=
  { via := via, tag := BitVec.ofNat 8 (blkTag b), sequence := word (u32 b 8), session := word (u32 b 12),
    param0 := word (u32 b 16), param1 := word (u32 b 20), payload := slice b 32 (blkLength b), arrival := 0xFFFFFFFF,
    replyIp := ip, replyPort := port }

/-- Whether the CRC of a block is correct: over bytes 0 to 27 and the payload (R310). -/
def blkCrcOk (b : List Byte) : Bool := crc32c (b.take 28 ++ slice b 32 (blkLength b)) == word (blkCrc b)

/-- Steps 2 to 5 of R312 in order; `fits` says that the block is as long as its LENGTH says (R322). -/
def transportCheck (b : List Byte) (slot : Nat) (fits : Bool) : Option Status :=
  if 4064 < blkLength b || !fits then some .length
  else if !blkCrcOk b then some .resend
  else if blkTag b % 64 ≠ slot || u8 b 3 ≠ 0 || u8 b 6 ≠ 0 || u8 b 7 ≠ 0 || u32 b 24 ≠ 0 then some .badParam
  else if !opcodes.contains (blkOpcode b) then some .badOpcode
  else none

/-- The response to a block that fails a check, with what the block carries echoed (R312). -/
def rejection (b : List Byte) (q : Req) (st : Status) : Response :=
  { req := q, opcode := blkOpcode b, status := st.code }

/-! ### Acceptance (R65, R313, R316, R329) -/

/-- A command that has passed every transport check: it is outstanding; one of the cluster goes into the request queue
with the next arrival number and raises the count of requests queued (R221), any other is decided at once (log entry 9). -/
def State.accept (s : State) (op : Nat) (q : Req) : State :=
  if clusterDecides op then
    let q1 : Req := { q with arrival := s.mg.arrival }
    let x := s.xing .mgCl
    let s1 := s.setXing .mgCl { x with counter := x.counter.raise }
    { s1 with mg := { s1.mg with
      arrival := nextArrival s.mg.arrival, outstanding := s1.mg.outstanding ++ [(q1, op)],
      queue := s1.mg.queue ++ [{ opcode := op, req := q1, atUs := s.opUs }] } }
  else ({ s with mg := { s.mg with outstanding := s.mg.outstanding ++ [(q, op)] } }).decideMg op q

/-! ### Doorbells (R229, R312, R313, R319) -/

/-- A response block written into a slot with its DONE bit (R314). -/
def State.respondAt (s : State) (slot : Nat) (r : Response) : State :=
  ({ s with hi := { s.hi with
    bar2 := Memory.writeBytes s.hi.bar2 (0x40000 + slot * 0x1000) (r.bytes.take 4096)
    done := s.hi.done ||| (1#64 <<< slot) } }).irq 0

/-- The block in a request slot: its header, then the payload that LENGTH gives. -/
def HostIf.blockAt (h : HostIf) (slot : Nat) : List Byte :=
  let head := Memory.readBytes h.bar2 (slot * 0x1000) 32
  let len := blkLength head
  if 4064 < len then head else Memory.readBytes h.bar2 (slot * 0x1000) (32 + len)

/-- A doorbell: while LINK_DOWN_MG is set the host island answers DISCARDED (R229); a busy tag is reported in the ring;
else the checks of R312. -/
def State.ring (s0 : State) (value : Word) : State :=
  let slot := value.toNat % 64
  let s := { s0 with hi := { s0.hi with doorbells := s0.hi.doorbells.cross s0.hi.downMg } }
  let b := s.hi.blockAt slot
  let q := blkRequest b .pcie 0 0
  if s.hi.downMg then s.respondAt slot (rejection b q .discarded)
  else if !s.mailboxLive || !s.mg.alive then s
  else if s.hi.busy.getLsbD slot then
    s.notePcie (s.transportNote 0x0002 ([BitVec.ofNat 8 slot, BitVec.ofNat 8 (blkTag b), 0, 0] ++ slice b 8 4))
  else
    let s1 := { s with hi := { s.hi with busy := s.hi.busy ||| (1#64 <<< slot) } }
    match transportCheck b slot true with
    | some st => s1.respondAt slot (rejection b q st)
    | none => s1.accept (blkOpcode b) q

/-- A block written into a request slot by the host (R309). -/
def State.writeSlot (s : State) (slot : Nat) (block : List Byte) : State :=
  { s with hi := { s.hi with bar2 := Memory.writeBytes s.hi.bar2 (slot * 0x1000) (block.take 4096) } }

/-! ### Datagrams on X8 (R322 to R324) -/

/-- The stored entry of a tag. -/
def HostIf.x8Entry (h : HostIf) (slot : Nat) : Option X8Stored := h.x8.find? (fun e => e.tag == slot)

/-- Whether a block repeats the request of an entry (R323). -/
def X8Stored.repeats (e : X8Stored) (b : List Byte) : Bool :=
  e.tag == blkTag b % 64 && e.gen == BitVec.ofNat 8 (blkTag b) && e.sequence == word (u32 b 8)
    && e.session == word (u32 b 12) && e.crc == word (blkCrc b)

/-- A response datagram to a sender. -/
def State.x8Send (s : State) (ip : Word) (port : Nat) (data : List Byte) : State :=
  { s with outbox := s.outbox ++ [Output.x8 ip port data] }

/-- A request datagram whose tag is free (R312, R323): the checks, then a new entry for its tag. -/
def State.x8Accept (s : State) (d : X8Datagram) (slot : Nat) : State :=
  let b := d.data
  let q := blkRequest b .x8 d.ip d.sourcePort
  let s1 := { s with hi := { s.hi with x8Last := some (d.ip, d.sourcePort) } }
  match transportCheck b slot (b.length == 32 + blkLength b) with
  | some st => s1.x8Send d.ip d.sourcePort (rejection b q st).bytes
  | none =>
    let e : X8Stored := {
      tag := slot, gen := q.tag, sequence := q.sequence, session := q.session, crc := word (blkCrc b), inFlight := true,
      response := [], ip := d.ip, port := d.sourcePort }
    ({ s1 with hi := { s1.hi with x8 := e :: s1.hi.x8.filter (fun x => x.tag != slot) } }).accept (blkOpcode b) q

/-- A request datagram (R322, R323). -/
def State.x8Request (s : State) (d : X8Datagram) : State :=
  let b := d.data
  if d.port ≠ 47218 || 4096 < b.length then s
  else if b.length < 32 then { s with hi := { s.hi with x8Short := s.hi.x8Short + 1 } }
  else
    let slot := blkTag b % 64
    match s.hi.x8Entry slot with
    | some e =>
      if e.inFlight then
        if e.repeats b then s
        else s.x8Send d.ip d.sourcePort (rejection b (blkRequest b .x8 d.ip d.sourcePort) .tagBusy).bytes
      else if e.repeats b then
        ({ s with hi := { s.hi with x8Last := some (d.ip, d.sourcePort) } }).x8Send d.ip d.sourcePort e.response
      else s.x8Accept d slot
    | none => s.x8Accept d slot

/-! ### Register writes (R307) -/

/-- A 32-bit write to a BAR0 offset; offsets not listed and read-only registers take none. -/
def State.writeRegister (s : State) (offset : Nat) (value : Word) : State :=
  match offset with
  | 0x00C => (s.writeM2 (value.getLsbD 31)).clearLinkEvents (value.getLsbD 9) (value.getLsbD 8)
  | 0x010 => { s with hi := { s.hi with scratch := value } }
  | 0x020 => s.ring value
  | 0x024 => s.clearDone false value
  | 0x028 => s.clearDone true value
  | 0x038 => s.writeTail value
  | 0x040 => s.clearIrq value
  | 0x044 => s.writeMask value
  | _ => s

/-! ### Rows of the table -/

/-- DOORBELL (R312): the host writes the block into the slot, then the slot's number to HI_REQ_DB. -/
def execDoorbell (value : Word) (block : List Byte) (s : State) : Host.Outcome State Fault Refusal :=
  .next (if s.power.state.powered then (s.writeSlot (value.toNat % 64) block).ring value else s).settle
/-- X8_REQUEST_DATAGRAM (R322). -/
def execX8RequestDatagram (d : X8Datagram) (s : State) : Host.Outcome State Fault Refusal :=
  .next (if s.mailboxLive && s.mg.alive then s.x8Request d else s).settle
/-- REGISTER_WRITE (R307): a write of fewer than 32 bits has no effect. -/
def execRegisterWrite (offset bits : Nat) (value : Word) (s : State) : Host.Outcome State Fault Refusal :=
  .next (if bits = 32 && s.power.state.powered then s.writeRegister offset value else s).settle

end Sys2Proof.Machine
end

