-- ==== Sys2Proof/Machine/Dispatch.lean ====
section
/-! DEFINITION. One arm per command of the table: a direct call of its meaning. -/

namespace Sys2Proof.Machine

open Sys2Proof

def exec (i : Instr) (s : State) : Host.Outcome State Fault Refusal :=
  match i with
  | .powerOnReset p => Sys2Proof.Machine.execPowerOnReset p s
  | .ledTestEnd => Sys2Proof.Machine.execLedTestEnd s
  | .startUpTestDone r => Sys2Proof.Machine.execStartUpTestDone r s
  | .fieldConfigTimeout => Sys2Proof.Machine.execFieldConfigTimeout s
  | .logicSupplyLow mv => Sys2Proof.Machine.execLogicSupplyLow mv s
  | .logicSupplyHigh mv => Sys2Proof.Machine.execLogicSupplyHigh mv s
  | .internalRailFault => Sys2Proof.Machine.execInternalRailFault s
  | .logicSupplyRemoved => Sys2Proof.Machine.execLogicSupplyRemoved s
  | .boardTemperature tenths => Sys2Proof.Machine.execBoardTemperature tenths s
  | .backupCellFitted mv => Sys2Proof.Machine.execBackupCellFitted mv s
  | .backupCellRemoved => Sys2Proof.Machine.execBackupCellRemoved s
  | .rtComparatorSample c => Sys2Proof.Machine.execRtComparatorSample c s
  | .cellMeasurement mv => Sys2Proof.Machine.execCellMeasurement mv s
  | .opTimeSave => Sys2Proof.Machine.execOpTimeSave s
  | .phaseI samples => Sys2Proof.Machine.execPhaseI samples s
  | .phaseE cycles => Sys2Proof.Machine.execPhaseE cycles s
  | .phaseO samples => Sys2Proof.Machine.execPhaseO samples s
  | .phaseH h => Sys2Proof.Machine.execPhaseH h s
  | .nodeTimeoutRecompute => Sys2Proof.Machine.execNodeTimeoutRecompute s
  | .benchOverrun phase cycles engine => Sys2Proof.Machine.execBenchOverrun phase cycles engine s
  | .requestQueueService => Sys2Proof.Machine.execRequestQueueService s
  | .nodeDropout node => Sys2Proof.Machine.execNodeDropout node s
  | .throwTimeout element => Sys2Proof.Machine.execThrowTimeout element s
  | .proofTimeout route => Sys2Proof.Machine.execProofTimeout route s
  | .signalConfirmTimeout element => Sys2Proof.Machine.execSignalConfirmTimeout element s
  | .transactionTimeout element => Sys2Proof.Machine.execTransactionTimeout element s
  | .pendingExpired arrival => Sys2Proof.Machine.execPendingExpired arrival s
  | .auxPrepareExpiry kind target => Sys2Proof.Machine.execAuxPrepareExpiry kind target s
  | .approachReleaseExpiry route => Sys2Proof.Machine.execApproachReleaseExpiry route s
  | .overlapReleaseExpiry route => Sys2Proof.Machine.execOverlapReleaseExpiry route s
  | .emergencyReleaseExpiry route => Sys2Proof.Machine.execEmergencyReleaseExpiry route s
  | .restartHoldEnd => Sys2Proof.Machine.execRestartHoldEnd s
  | .clearDelayExpiry element => Sys2Proof.Machine.execClearDelayExpiry element s
  | .berthConfirmation element => Sys2Proof.Machine.execBerthConfirmation element s
  | .moveLimitExpiry element => Sys2Proof.Machine.execMoveLimitExpiry element s
  | .obstruction60s element => Sys2Proof.Machine.execObstruction60s element s
  | .dwellWarning => Sys2Proof.Machine.execDwellWarning s
  | .dwellExpiry => Sys2Proof.Machine.execDwellExpiry s
  | .forceReminder => Sys2Proof.Machine.execForceReminder s
  | .coreAccuse slot item bus => Sys2Proof.Machine.execCoreAccuse slot item bus s
  | .noMajority bus => Sys2Proof.Machine.execNoMajority bus s
  | .mismatch bus => Sys2Proof.Machine.execMismatch bus s
  | .comparatorsDiffer x y => Sys2Proof.Machine.execComparatorsDiffer x y s
  | .targetedSelfTestDone block => Sys2Proof.Machine.execTargetedSelfTestDone block s
  | .syncWindowDone streamsDiffer => Sys2Proof.Machine.execSyncWindowDone streamsDiffer s
  | .safeSelfTestDone failed => Sys2Proof.Machine.execSafeSelfTestDone failed s
  | .coreSSignature seen => Sys2Proof.Machine.execCoreSSignature seen s
  | .sramCorrectableError address syndrome => Sys2Proof.Machine.execSramCorrectableError address syndrome s
  | .sramUncorrectableError address syndrome => Sys2Proof.Machine.execSramUncorrectableError address syndrome s
  | .debugAttach kind core => Sys2Proof.Machine.execDebugAttach kind core s
  | .debugDetach => Sys2Proof.Machine.execDebugDetach s
  | .sealChange pattern => Sys2Proof.Machine.execSealChange pattern s
  | .ashlarReset => Sys2Proof.Machine.execAshlarReset s
  | .ashlarSupplyFault => Sys2Proof.Machine.execAshlarSupplyFault s
  | .ashlarTableLoadDone seen back => Sys2Proof.Machine.execAshlarTableLoadDone seen back s
  | .cycleCode seen => Sys2Proof.Machine.execCycleCode seen s
  | .ashlarLate => Sys2Proof.Machine.execAshlarLate s
  | .ashlarArmWindowExpiry => Sys2Proof.Machine.execAshlarArmWindowExpiry s
  | .ashlarTableCheck seen => Sys2Proof.Machine.execAshlarTableCheck seen s
  | .ashlarClockCount cluster count => Sys2Proof.Machine.execAshlarClockCount cluster count s
  | .ashlarHoldChange lines => Sys2Proof.Machine.execAshlarHoldChange lines s
  | .ashlarInputFrame intact => Sys2Proof.Machine.execAshlarInputFrame intact s
  | .ashlarInputStale => Sys2Proof.Machine.execAshlarInputStale s
  | .ashlarPermitFrame intact => Sys2Proof.Machine.execAshlarPermitFrame intact s
  | .ashlarFrameLoss => Sys2Proof.Machine.execAshlarFrameLoss s
  | .markRequest can group linkKey alive => Sys2Proof.Machine.execMarkRequest can group linkKey alive s
  | .coreToFieldFrame intact drops => Sys2Proof.Machine.execCoreToFieldFrame intact drops s
  | .fieldToCoreFrame intact => Sys2Proof.Machine.execFieldToCoreFrame intact s
  | .isolationLinkLoss direction => Sys2Proof.Machine.execIsolationLinkLoss direction s
  | .fieldSideReset => Sys2Proof.Machine.execFieldSideReset s
  | .debounceExpiry channel level since => Sys2Proof.Machine.execDebounceExpiry channel level since s
  | .testPulseStart source => Sys2Proof.Machine.execTestPulseStart source s
  | .testPulseCheck c => Sys2Proof.Machine.execTestPulseCheck c s
  | .sourceOverload source => Sys2Proof.Machine.execSourceOverload source s
  | .outputSwitchTest t => Sys2Proof.Machine.execOutputSwitchTest t s
  | .externalFeed m => Sys2Proof.Machine.execExternalFeed m s
  | .outputOverload channel wholeGroup milliAmp => Sys2Proof.Machine.execOutputOverload channel wholeGroup milliAmp s
  | .groupSupplyState group inputSide mv => Sys2Proof.Machine.execGroupSupplyState group inputSide mv s
  | .groupSwitchFault group readBack => Sys2Proof.Machine.execGroupSwitchFault group readBack s
  | .canFrameReceived port f => Sys2Proof.Machine.execCanFrameReceived port f s
  | .rateDetectTimeout port => Sys2Proof.Machine.execRateDetectTimeout port s
  | .canCommitReorder port headBegun => Sys2Proof.Machine.execCanCommitReorder port headBegun s
  | .canTxDone port => Sys2Proof.Machine.execCanTxDone port s
  | .canTxCancelled port => Sys2Proof.Machine.execCanTxCancelled port s
  | .canBusError port e => Sys2Proof.Machine.execCanBusError port e s
  | .idClashBlockExpiry port ident => Sys2Proof.Machine.execIdClashBlockExpiry port ident s
  | .busOffRecovery port => Sys2Proof.Machine.execBusOffRecovery port s
  | .datagramReceived d => Sys2Proof.Machine.execDatagramReceived d s
  | .telegramCheck faultX faultY => Sys2Proof.Machine.execTelegramCheck faultX faultY s
  | .lanDown lan => Sys2Proof.Machine.execLanDown lan s
  | .prpSupervisionSend => Sys2Proof.Machine.execPrpSupervisionSend s
  | .arpRequest maintenance lan target sender mac => Sys2Proof.Machine.execArpRequest maintenance lan target sender mac s
  | .icmpEcho target data => Sys2Proof.Machine.execIcmpEcho target data s
  | .x8RequestDatagram d => Sys2Proof.Machine.execX8RequestDatagram d s
  | .doorbell value block => Sys2Proof.Machine.execDoorbell value block s
  | .hiDoneClear high value => Sys2Proof.Machine.execHiDoneClear high value s
  | .hiIrqStatClear value => Sys2Proof.Machine.execHiIrqStatClear value s
  | .hiIrqMaskWrite value => Sys2Proof.Machine.execHiIrqMaskWrite value s
  | .hiNoteTailWrite value => Sys2Proof.Machine.execHiNoteTailWrite value s
  | .m2Write value => Sys2Proof.Machine.execM2Write value s
  | .linkEventClear mg cl => Sys2Proof.Machine.execLinkEventClear mg cl s
  | .hiXingRead => Sys2Proof.Machine.execHiXingRead s
  | .registerWrite offset bits value => Sys2Proof.Machine.execRegisterWrite offset bits value s
  | .hostLinkReset => Sys2Proof.Machine.execHostLinkReset s
  | .mgHeartbeatLoss => Sys2Proof.Machine.execMgHeartbeatLoss s
  | .mgRestart => Sys2Proof.Machine.execMgRestart s
  | .crossingLinkUp x => Sys2Proof.Machine.execCrossingLinkUp x s
  | .heldCompletionDelivery => Sys2Proof.Machine.execHeldCompletionDelivery s
  | .notificationFlush => Sys2Proof.Machine.execNotificationFlush s
  | .recordWrite bad => Sys2Proof.Machine.execRecordWrite bad s
  | .tokenRefill code => Sys2Proof.Machine.execTokenRefill code s
  | .suppressionSummaryTimer code => Sys2Proof.Machine.execSuppressionSummaryTimer code s
  | .eventFreezeExpiry => Sys2Proof.Machine.execEventFreezeExpiry s
  | .sessionExpiry session => Sys2Proof.Machine.execSessionExpiry session s
  | .roleLockExpiry role => Sys2Proof.Machine.execRoleLockExpiry role s
  | .maintAddressApply => Sys2Proof.Machine.execMaintAddressApply s
  | .activationValidationDone => Sys2Proof.Machine.execActivationValidationDone s
  | .firmwareActivationReset p => Sys2Proof.Machine.execFirmwareActivationReset p s
  | .bistBlockDone b => Sys2Proof.Machine.execBistBlockDone b s
  | .bistBlockTimeout block ashlarCount => Sys2Proof.Machine.execBistBlockTimeout block ashlarCount s
  | .shutdownTestDone => Sys2Proof.Machine.execShutdownTestDone s
  | .identify r => Sys2Proof.Machine.execIdentify r s
  | .capabilities r => Sys2Proof.Machine.execCapabilities r s
  | .getStatus r => Sys2Proof.Machine.execGetStatus r s
  | .setTime r => Sys2Proof.Machine.execSetTime r s
  | .getTime r => Sys2Proof.Machine.execGetTime r s
  | .shutdown r => Sys2Proof.Machine.execShutdown r s
  | .routeSet r => Sys2Proof.Machine.execRouteSet r s
  | .routeCancel r => Sys2Proof.Machine.execRouteCancel r s
  | .pointMove r => Sys2Proof.Machine.execPointMove r s
  | .signalStop r => Sys2Proof.Machine.execSignalStop r s
  | .routeState r => Sys2Proof.Machine.execRouteState r s
  | .elementState r => Sys2Proof.Machine.execElementState r s
  | .auxPrepare r => Sys2Proof.Machine.execAuxPrepare r s
  | .auxConfirm r => Sys2Proof.Machine.execAuxConfirm r s
  | .doorOpen r => Sys2Proof.Machine.execDoorOpen r s
  | .doorClose r => Sys2Proof.Machine.execDoorClose r s
  | .doorHealth r => Sys2Proof.Machine.execDoorHealth r s
  | .benchStart r => Sys2Proof.Machine.execBenchStart r s
  | .benchStop r => Sys2Proof.Machine.execBenchStop r s
  | .benchRestart r => Sys2Proof.Machine.execBenchRestart r s
  | .forceSet r => Sys2Proof.Machine.execForceSet r s
  | .forceClear r => Sys2Proof.Machine.execForceClear r s
  | .forceList r => Sys2Proof.Machine.execForceList r s
  | .constantSet r => Sys2Proof.Machine.execConstantSet r s
  | .constantGet r => Sys2Proof.Machine.execConstantGet r s
  | .eventInfo r => Sys2Proof.Machine.execEventInfo r s
  | .eventRead r => Sys2Proof.Machine.execEventRead r s
  | .eventFreeze r => Sys2Proof.Machine.execEventFreeze r s
  | .eventThaw r => Sys2Proof.Machine.execEventThaw r s
  | .eventSetRate r => Sys2Proof.Machine.execEventSetRate r s
  | .updateBegin r => Sys2Proof.Machine.execUpdateBegin r s
  | .updateData r => Sys2Proof.Machine.execUpdateData r s
  | .updateVerify r => Sys2Proof.Machine.execUpdateVerify r s
  | .updateActivate r => Sys2Proof.Machine.execUpdateActivate r s
  | .updateConfirm r => Sys2Proof.Machine.execUpdateConfirm r s
  | .updateStatus r => Sys2Proof.Machine.execUpdateStatus r s
  | .updateAbort r => Sys2Proof.Machine.execUpdateAbort r s
  | .roleLogin r => Sys2Proof.Machine.execRoleLogin r s
  | .roleLogout r => Sys2Proof.Machine.execRoleLogout r s
  | .passwordSet r => Sys2Proof.Machine.execPasswordSet r s
  | .keyInstall r => Sys2Proof.Machine.execKeyInstall r s
  | .lifecycleAdvance r => Sys2Proof.Machine.execLifecycleAdvance r s
  | .lockoutRelease r => Sys2Proof.Machine.execLockoutRelease r s
  | .changeLogRead r => Sys2Proof.Machine.execChangeLogRead r s
  | .maintAddress r => Sys2Proof.Machine.execMaintAddress r s
  | .diagVote r => Sys2Proof.Machine.execDiagVote r s
  | .diagAshlar r => Sys2Proof.Machine.execDiagAshlar r s
  | .diagSafeRecord r => Sys2Proof.Machine.execDiagSafeRecord r s
  | .diagInputs r => Sys2Proof.Machine.execDiagInputs r s
  | .diagOutputs r => Sys2Proof.Machine.execDiagOutputs r s
  | .diagGroups r => Sys2Proof.Machine.execDiagGroups r s
  | .diagCanPort r => Sys2Proof.Machine.execDiagCanPort r s
  | .diagPortCounters r => Sys2Proof.Machine.execDiagPortCounters r s
  | .diagNode r => Sys2Proof.Machine.execDiagNode r s
  | .diagNodeList r => Sys2Proof.Machine.execDiagNodeList r s
  | .subscribe r => Sys2Proof.Machine.execSubscribe r s
  | .subscriptionGet r => Sys2Proof.Machine.execSubscriptionGet r s
  | .dwellCountSave => Sys2Proof.Machine.execDwellCountSave s
  | .ashlarSupplyReturn => Sys2Proof.Machine.execAshlarSupplyReturn s
  | .supervisionFrameReceived lan => Sys2Proof.Machine.execSupervisionFrameReceived lan s
  | .msiVectorEnable n => Sys2Proof.Machine.execMsiVectorEnable n s

end Sys2Proof.Machine
end

