-- ==== Sys2Proof/Safety.lean ====
section
/-! DEFINITION. What a safe run is, and the conditions on a state in whose terms the statements are made. -/

namespace Sys2Proof.Safety

open Sys2Proof Sys2Proof.Machine

/-! ### Safe states -/

/-- Nothing vital is energised: every local output demand is off and Ashlar grants nothing (R15, R195). -/
def Quiet (s : State) : Prop := s.field.demands = 0 ∧ s.ash.grants = false

/-- The power states in which the bench cycle does not run (R373). -/
def BenchHalted (s : State) : Prop := s.power.state ≠ .run

/-- The BAR2 window keeps its canonical form. -/
def WindowOk (s : State) : Prop := Memory.wf s.hi.bar2 = true

/-- While Ashlar grants nothing, its permit word is 0 and its group switches are open (R195, R197, R200). -/
def PermitsOk (a : Ashlar) : Prop := a.grants = false → a.permit = 0 ∧ a.groupSw = 0

/-- Outside RUN no local output is demanded (R15, R206). -/
def OutputsOff (s : State) : Prop := s.power.state ≠ .run → s.field.demands = 0

/-- HI_STATE shows the cluster's word while its crossing is up and steady and the module has power (R219, R223, R307). -/
def Mirrored (s : State) : Prop :=
  s.hi.downCl = false → s.hi.unstable = false → s.power.state.powered = true → s.hi.state = s.stateWord

/-- The host island of a state with the mirror of another: HI_STATE and the UNSTABLE bit of its transfer (R219, R223). -/
abbrev mirrorOf (s t : State) : HostIf := { s.hi with state := t.hi.state, unstable := t.hi.unstable }

/-! ### Life-cycle fuses -/

/-- Every life-cycle fuse blown in one state is blown in the other (R369). -/
def FusesKept (s t : State) : Prop :=
  (s.sec.lcP = true → t.sec.lcP = true) ∧ (s.sec.lcC = true → t.sec.lcC = true) ∧
  (s.sec.lcO = true → t.sec.lcO = true) ∧ (s.sec.lcR = true → t.sec.lcR = true)

/-! ### The mailbox -/

/-- The management core answers: the module has power, its firmware runs and MG is out of reset (R209, R373, R418). -/
def Answers (s : State) : Prop := s.mailboxLive = true ∧ s.mg.alive = true

/-- A completion that reaches the host at once on PCIe: MG runs, the request is not void and the crossing is up
(R209, R326). -/
def Reaches (s : State) (q : Req) : Prop :=
  s.mg.alive = true ∧ q ∉ s.mg.voided ∧ s.hi.downMg = false ∧ q.via = .pcie

/-! ### Entry into SAFE -/

/-- The states from which an F3 cause leads to SAFE (R206), with fewer than two entries within 24 operating hours
(R211); the START of a module that is locked out returns to LOCKOUT instead (R212). -/
def EntersSafe (s : State) : Prop :=
  (s.power.state = .run ∨ s.power.state = .start ∨ s.power.state = .stop) ∧
  (s.power.state = .start → s.power.lockoutCause = 0) ∧
  (s.power.entries.filter (fun t => s.opS < t + day)).length < 2

/-- SAFE as entered from a state on a cause: READY_OFF closed, the record written, local demands off, no force, no
transaction, an empty queue and every route FREE (R206, R213). -/
def SafeFrom (s t : State) (cause : Nat) : Prop :=
  t.power.state = .safe ∧ t.power.readyOff = true ∧
  (∃ r, t.power.record = some r ∧ r.cls = 3 ∧ r.fromState = s.power.state.code ∧ r.cause = cause ∧ r.moreCauses = 0) ∧
  t.field.demands = 0 ∧ t.bench.forces = [] ∧ t.bench.forcedShown = false ∧ t.eng.queue = [] ∧ t.eng.txns = [] ∧
  t.eng.prepares = [] ∧ ∀ d ∈ t.eng.routes, d.state = .free

/-- What an entry into SAFE or LOCKOUT leaves as it is: Ashlar, the self-test's data, the logs, the station data and what
has no part in the bench's work; security too, but for the logins of a cycle that it discards (R206, R208). -/
def StandsDown (s t : State) : Prop :=
  t = { s with bench := t.bench, can := t.can, eng := t.eng, field := { s.field with demands := 0 }, hi := t.hi,
               mg := t.mg, outbox := t.outbox, power := t.power, recorder := t.recorder, sec := s.takeBack.sec,
               vote := t.vote }

/-- LOCKOUT as entered from a state on a cause (R212, R213). -/
def LockoutFrom (s t : State) (cause : Nat) : Prop :=
  t.power.state = .lockout ∧ t.power.lockoutCause = cause ∧ t.power.repeated = false ∧ t.power.readyOff = true ∧
  (∃ r, t.power.record = some r ∧ r.cls = 4 ∧ r.fromState = s.power.state.code ∧ r.cause = cause) ∧
  t.bench.forces = [] ∧ t.eng.queue = [] ∧ t.eng.txns = [] ∧ (∀ d ∈ t.eng.routes, d.state = .free) ∧ StandsDown s t

/-- Ashlar tripped on a cause: everything withheld, and the module in SAFE on cause 0x2010 (R195). -/
def Trips (s t : State) (cause : Nat) : Prop :=
  t.ash = { s.ash with state := .tripped, cause := cause, inhibit := t.ash.inhibit, permit := 0, groupSw := 0 } ∧
  SafeFrom s t 0x2010 ∧ StandsDown { s with ash := t.ash } t

/-- Ashlar after a reset: DISARMED with no table, no permit and no code, its crossings down (R185, R187, R225). -/
def AshlarDown (s t : State) (supply : Bool) : Prop :=
  t.ash.state = .disarmed ∧ t.ash.supplyOk = supply ∧ t.ash.hold = s.ash.hold ∧ t.ash.table = [] ∧
  t.ash.latch = false ∧ t.ash.period = none ∧ t.ash.codeSeen = false ∧ t.ash.permit = 0 ∧ t.ash.groupSw = 0 ∧
  (∀ x ∈ [Crossing.nwAs, .fbAs, .clAs, .asCl], (t.xing x).linkDown = true) ∧
  t = { s with ash := t.ash, xings := t.xings, recorder := t.recorder, hi := mirrorOf s t }

/-- Ashlar with its hold lines at a value, and as it was but for what it then withholds or grants again (R186, R195). -/
def AshHolds (s t : State) (h : HoldLines) : Prop :=
  t.ash = { s.ash with hold := h, inhibit := t.ash.inhibit, permit := t.ash.permit, groupSw := t.ash.groupSw } ∧
  (h = s.ash.hold → t.ash = s.ash) ∧
  (h ≠ s.ash.hold → (h.lockstep || h.debug || h.lifecycle) = true → t.ash.permit = 0 ∧ t.ash.groupSw = 0)

/-- Hold lines after the end of a debug session: the attach line of an invasive or test-engine one clears (R186). -/
def holdAfterDebug (d : DebugKind) (h : HoldLines) : HoldLines := { h with debug := h.debug && !debugHolds d }

/-! ### What a command reports -/

/-- Exactly one record was reported to the recorder, with a code and its three parameters, at the present operating time;
nothing else of the recorder changed (R354, R360). -/
def Recorded (s t : State) (code p0 p1 p2 : Nat) : Prop :=
  ∃ r, t.recorder = { s.recorder with inbox := s.recorder.inbox ++ [r] } ∧ r.code = code ∧ r.p0 = word p0 ∧
    r.p1 = word p1 ∧ r.p2 = word p2 ∧ r.opMs = s.opMs ∧ r.powerCycle = s.powerCycle

/-- The first of the records reported, with its code and its parameters (R354, R360). -/
def FirstReport (s t : State) (code p0 p1 p2 : Nat) : Prop :=
  ∃ r l, t.recorder.inbox = s.recorder.inbox ++ r :: l ∧ r.code = code ∧ r.p0 = word p0 ∧ r.p1 = word p1 ∧ r.p2 = word p2

/-- The last of the records reported, with its code and its parameters (R354, R360). -/
def LastReport (t : State) (code p0 p1 p2 : Nat) : Prop :=
  ∃ r, t.recorder.inbox.getLast? = some r ∧ r.code = code ∧ r.p0 = word p0 ∧ r.p1 = word p1 ∧ r.p2 = word p2

/-! ### Units of the field side and the network -/

/-- Only the field side's data, the recorder and the mirror changed. -/
def FieldOnly (s t : State) : Prop :=
  t = { s with field := t.field, recorder := t.recorder, hi := mirrorOf s t }

/-- Only the records of one CAN port, the free values drawn and what is reported changed. -/
def PortOnly (s t : State) (k : Nat) : Prop :=
  (∀ j, j ≠ k → t.port j = s.port j) ∧
  t = { s with can := t.can, draws := t.draws, recorder := t.recorder, outbox := t.outbox,
               hi := mirrorOf s t }

/-- No CAN port holds a received frame. -/
def CanQuiet (s : State) : Prop := ∀ p ∈ s.can, p.q0 = [] ∧ p.q1 = []

/-! ### Power-up -/

/-- The module as a power-on reset on `p` leaves it: START, the LEDs lit, dead where no firmware bank passes, the power-cycle
count one higher, operating time continued, Ashlar DISARMED without a permit, the bench and the mailbox's work cleared
(R24, R216, R357, R358, R374, R418). -/
def PoweredUp (s t : State) (p : PowerOn) : Prop :=
  t.power.state = .start ∧ t.power.dead = !(p.bank0Ok || p.bank1Ok) ∧ t.power.ledTest = true ∧
  t.power.startUs = t.opUs ∧
  t.power.logicMv = p.mv ∧ t.power.cellMv = p.cellMv ∧ t.power.slot = p.slot ∧ t.power.readyOff = false ∧
  t.powerCycle = (s.powerCycle + 1) % 2 ^ 32 ∧ t.opUs = Nat.max s.opUs (s.savedOpUs + 10000000) ∧
  t.ash.state = .disarmed ∧ t.ash.permit = 0 ∧ t.ash.latch = false ∧ t.bench = { constants := s.bench.constants } ∧
  t.eng.queue = [] ∧ t.eng.txns = [] ∧ (∀ d ∈ t.eng.routes, d.state = .free) ∧ t.field.demands = 0 ∧
  t.mg.queue = [] ∧ t.mg.outstanding = [] ∧
  t.unit = s.unit ∧ t.savedOpUs = s.savedOpUs ∧ t.epoch = s.epoch ∧ t.draws = s.draws ∧ t.outbox = s.outbox ∧
  t.pending = s.pending

/-- A start-up test that found nothing (R376). -/
def CleanStart (r : StartResult) : Prop :=
  r.blocks = [] ∧ r.lanes = [] ∧ r.plantedOk = true ∧ r.memFails = [] ∧ r.linkOk = true ∧ r.ashlarKept = true ∧
  r.ddrOk = true ∧ r.badSources = []

/-- Every slot has its core and no core test is under way. -/
def VotingWhole (v : Vote) : Prop :=
  (∀ x ∈ v.slots, x.vacant = false) ∧ ∀ c ∈ v.cores, c ≠ .selfTest ∧ c ≠ .syncing

/-! ### The bench and its engine -/

/-- RUN with station data, in a life-cycle state other than RETIRED: the state that the bench commands want (R331). -/
def BenchOpen (s : State) : Prop :=
  s.power.state = .run ∧ s.power.dead = false ∧ s.station.isSome = true ∧ s.lifecycle ≠ 5

/-- RUN or STOP with station data, in a life-cycle state other than RETIRED: where the bench's queries answer (R331). -/
def BenchReads (s : State) : Prop :=
  (s.power.state = .run ∨ s.power.state = .stop) ∧ s.power.dead = false ∧ s.station.isSome = true ∧ s.lifecycle ≠ 5

/-- A powered module beyond START and the shutdown test whose management core answers, not RETIRED: where the commands of
the management core that change something are open (R331). -/
def Settled (s : State) : Prop :=
  Answers s ∧ s.power.state ≠ .start ∧ s.power.state ≠ .shutdownTest ∧ s.lifecycle ≠ 5

/-- START as a start command begins it (R24, R163, R178, R185, R375, R401): the LEDs lit, Ashlar reset, the recorded lanes
selected, lane 3 soft where it serves, every core's store written, no accusation and no node listed since. -/
def StartBegins (s t : State) (cause : StartCause) : Prop :=
  t.power = { s.power with
    state := .start, ledTest := true, cause := cause, fullForm := t.power.fullForm, startUs := s.opUs,
    testPassed := false, readyOff := false } ∧
  t.vote = { s.vote with
    lanes := s.repair.laneMap, lastAccuse := 0xFFFFFFFF
    stores := s.vote.stores.map (fun _ => { itcm := s.firmwareTcm, written := true }) } ∧
  t.repair = { s.repair with laneSoft :=
    s.repair.laneSoft || (s.repair.laneMap.contains 3 && !s.repair.laneFused) } ∧
  t.net = { s.net with listed := [], heardTelegram := false } ∧
  t.bench = { s.bench with frozen := false, evaluated := false } ∧ t.ash.state = .disarmed ∧ t.ash.latch = false ∧
  t.ash.permit = 0 ∧ t.ash.table = [] ∧
  t = { s with power := t.power, vote := t.vote, test := { s.test with repair := t.test.repair }, net := t.net,
               eng := t.eng, bench := t.bench, ash := t.ash, xings := t.xings, recorder := t.recorder,
               mg := { s.mg with sessions := t.mg.sessions }, hi := mirrorOf s t }

/-- What a command of the engine leaves as it is in RUN: all but the engine, the completions, the notifications and what is
reported (R68, R126). -/
def EngineOnly (s t : State) : Prop :=
  t = { s with eng := t.eng, bench := { s.bench with completions := t.bench.completions, notes := t.bench.notes },
               net := { s.net with nodes := t.net.nodes }, draws := t.draws, recorder := t.recorder,
               mg := { s.mg with sessions := t.mg.sessions }, hi := mirrorOf s t }

/-- What a command that is answered at once leaves as it is: all but its own records and the transports. -/
def AnsweredOnly (s t : State) : Prop :=
  t = { s with log := t.log, recorder := t.recorder, sec := t.sec, draws := t.draws, mg := t.mg, hi := t.hi,
               bench := { s.bench with completions := t.bench.completions, notes := t.bench.notes },
               outbox := t.outbox, update := t.update }

/-- A completion by the cluster: it echoes the request and carries its arrival number (R314, R329). -/
def done (q : Req) (op : Nat) (st : Status) (p0 p1 : Nat := 0) (data : List Byte := []) : Response :=
  { req := q, opcode := op, status := st.code, param0 := word p0, param1 := word p1, arrival := q.arrival,
    payload := data }

/-- A route that went to FREE for a reason: none of its locks is left, no other route changed, and nothing else of the
module did but its lock records (R59, R63). -/
def FreedRoute (s t : State) (n reason param : Nat) : Prop :=
  (t.rdyn n).state = .free ∧ (t.rdyn n).reason = reason ∧ (t.rdyn n).param = param ∧
  (t.rdyn n).clearWanted = false ∧ (t.rdyn n).approachEnd = none ∧ (t.rdyn n).overlapEnd = none ∧
  (∀ d ∈ t.eng.elems, n ∉ d.holders ∧ d.pathLock ≠ some n ∧ n ∉ d.overlapLocks ∧ n ∉ d.stopLocks) ∧
  (∀ m, m ≠ n → t.rdyn m = s.rdyn m) ∧
  t = { s with eng := { s.eng with elems := t.eng.elems, routes := t.eng.routes }, hi := mirrorOf s t }

/-- The only transaction of an element, at an index of the list. -/
def OnlyTxn (s : State) (i k : Nat) (x : Txn) : Prop :=
  (withIndex s.eng.txns).filter (fun p => p.1.element == i) = [(x, k)]

/-- The request of a command entered into the pending queue (R68). -/
def State.asked (s : State) (op : Nat) (q : Req) (w : Want) : State :=
  { s with eng := { s.eng with queue := s.eng.queue ++
    [{ want := w, arrival := q.arrival, enteredUs := s.bench.freezeUs, opcode := op, req := some q }] } }

end Sys2Proof.Safety
end

