-- ==== Sys2Proof/Certificates/Slice0/Obligations.lean ====
section
/-! DEFINITION. The statements for the provers, one definition each. -/

open Sys2Proof Sys2Proof.Machine Sys2Proof.Safety

/-! ### The whole machine -/

/-- A step takes the command at the front of the queue and runs it with the queue's rest (log entry 3). -/
def Obligations.StepRunsFront : Prop :=
  ∀ (c : Instr) (rest : List Instr) (s : State), s.pending = c :: rest →
    Machine.step s = Machine.exec c { s with pending := rest }

/-- A step on an empty queue is one microsecond of the clock (log entry 3, the model's choice): in a powered state
operating time rises by 1 µs, and the calendar does while RT is alive; nothing else changes. -/
def Obligations.IdleStepTicks : Prop :=
  ∀ s : State, s.pending = [] → ∃ t, Machine.step s = .next t ∧
    t.opUs = (if s.power.state.powered then s.opUs + 1 else s.opUs) ∧
    t.rt = (if s.rt.alive then { s.rt with calUs := s.rt.calUs + 1 } else s.rt) ∧
    t = { s with opUs := t.opUs, rt := t.rt }

/-- Every step that answers a next state takes exactly the front command off the queue and leaves what the factory fixed
as it is. -/
def Obligations.StepKeepsUnitAndQueue : Prop :=
  ∀ s t : State, Machine.step s = .next t → t.pending = s.pending.tail ∧ t.unit = s.unit

/-- No step makes Ashlar permit anything while it does not grant: the permit word is 0 and the group switches are open
whenever it is not ARMED or a hold is present. -/
def Obligations.StepKeepsPermitsOk : Prop :=
  ∀ s t : State, PermitsOk s.ash → Machine.step s = .next t → PermitsOk t.ash

/-- No step demands a local output outside RUN. -/
def Obligations.StepKeepsOutputsOff : Prop :=
  ∀ s t : State, OutputsOff s → Machine.step s = .next t → OutputsOff t

/-- No step un-blows a life-cycle fuse. -/
def Obligations.StepKeepsFuses : Prop :=
  ∀ s t : State, Machine.step s = .next t → FusesKept s t

/-- A step from a state in which HI_STATE shows the cluster's word while its crossing is up and steady leads to such a
state again. -/
def Obligations.StepKeepsMirror : Prop :=
  ∀ s t : State, Mirrored s → Machine.step s = .next t → Mirrored t

/-- Reset: START with the all-LED test, cycle number 0, Ashlar DISARMED, no force, no session, an empty window, every
interrupt masked, no command waiting; and the invariants hold, in that state and, whatever commands are then sent, after
its first step. -/
def Obligations.ResetState : Prop :=
  State.reset.power.state = .start ∧ State.reset.power.ledTest = true ∧ State.reset.bench.cycle = 0 ∧
  State.reset.ash.state = .disarmed ∧ State.reset.ash.permit = 0 ∧ State.reset.bench.forces = [] ∧
  State.reset.mg.sessions = [] ∧ State.reset.hi.bar2 = [] ∧ State.reset.hi.irqMask = 0xF ∧
  State.reset.hi.irqStat = 0 ∧ State.reset.pending = [] ∧
  PermitsOk State.reset.ash ∧ OutputsOff State.reset ∧ WindowOk State.reset ∧ Mirrored State.reset ∧
  (∀ (cs : List Instr) (t : State), Machine.step { State.reset with pending := cs } = .next t →
    PermitsOk t.ash ∧ OutputsOff t ∧ Mirrored t)

/-! ### Power, START and the shutdown test -/

/-- A power-on reset, and the reset that follows a firmware activation, leave the module in START with everything of
R216 reset. -/
def Obligations.PowerUpResets : Prop :=
  (∀ (p : PowerOn) (s : State), s.power.state.powered = false → 16800 ≤ p.mv →
    ∃ t, Machine.exec (.powerOnReset p) s = .next t ∧ PoweredUp s t p) ∧
  (∀ (p : PowerOn) (s : State) (u : Nat), s.power.state.powered = true → s.update.resetUs = some u → u ≤ s.opUs →
    ∃ t, Machine.exec (.firmwareActivationReset p) s = .next t ∧ PoweredUp s t p)

/-- START runs its course: the LED test ends after 1 s with event 0xA001 unless the firmware is dead; a clean quick
start-up test at a power-up outside OPERATIONAL, or without station data, ends in STOP with event 0xA002, and one whose
comparators miss a planted error in LOCKOUT; a field side that has not confirmed its configuration 10 ms after the test
is an F3 cause. The order of the causes is the model's choice (log entry 69). -/
def Obligations.StartRuns : Prop :=
  (∀ s : State, s.power.state = .start → s.power.ledTest = true → s.power.startUs + 1000000 ≤ s.opUs →
    ∃ t, Machine.exec .ledTestEnd s = .next t ∧ t.power = { s.power with ledTest := false } ∧
      (s.power.dead = false → Recorded s t 0xA001 (if s.power.fullForm then 1 else 0) s.bistAge 0) ∧
      (s.power.dead = true → t.recorder = s.recorder) ∧
      t = { s with power := t.power, recorder := t.recorder, hi := mirrorOf s t }) ∧
  (∀ (r : StartResult) (s : State), s.power.state = .start → s.power.ledTest = false → s.power.testPassed = false →
    s.power.dead = false → s.power.fullForm = false → s.power.cause = .powerOn → s.power.wasSafe = false →
    s.power.lockoutCause = 0 → s.vote.dwellExpired = false → (s.lifecycle ≠ 3 ∨ s.station = none) →
    s.eng.waiting = [] → VotingWhole s.vote → 2 ≤ ((List.range 4).filter s.coreHealthy).length → CleanStart r →
    ∃ t, Machine.exec (.startUpTestDone r) s = .next t ∧ t.power.state = .stop ∧ t.power.readyOff = false ∧
      Recorded s t 0xA002 0 0 r.durationMs ∧ t.vote.cores = s.vote.cores ∧ t.vote.lanes = s.vote.lanes ∧
      t = { s with power := t.power, field := t.field, vote := t.vote, test := t.test, recorder := t.recorder,
                   hi := mirrorOf s t }) ∧
  (∀ (r : StartResult) (s : State), s.power.state = .start → s.power.ledTest = false → s.power.testPassed = false →
    s.power.dead = false → s.power.lockoutCause = 0 → r.plantedOk = false →
    ∃ t x, Machine.exec (.startUpTestDone r) s = .next t ∧ t.power.state = .lockout ∧ t.power.lockoutCause = 0x1022 ∧
      t.power.readyOff = true ∧ t.power.record = some x ∧ x.cls = 4 ∧ x.fromState = 2 ∧ x.cause = 0x1022 ∧
      (∃ y ∈ t.recorder.inbox, y.code = 0xA002 ∧ y.p0 = word 1 ∧ y.p2 = word r.durationMs) ∧ t.log = s.log ∧
      t.update = s.update) ∧
  (∀ s : State, s.power.state = .start → s.power.testPassed = true → s.fieldConfirmed = false →
    s.power.testPassedUs + 10000 ≤ s.opUs → EntersSafe s →
    ∃ t, Machine.exec .fieldConfigTimeout s = .next t ∧ SafeFrom s t 0x3003 ∧ t.ash = s.ash ∧
      t.sec = s.takeBack.sec ∧ t.station = s.station ∧ t.test = s.test ∧ t.log = s.log)

/-- An F3 cause of the supplies or the temperature takes the module to SAFE and is kept as present; the third entry
within 24 operating hours is LOCKOUT. -/
def Obligations.SupplyFaultsEnterSafe : Prop :=
  (∀ (mv : Nat) (s : State), EntersSafe s → mv < 16800 →
    ∃ t, Machine.exec (.logicSupplyLow mv) s = .next t ∧ SafeFrom s t 0xC010 ∧ 0xC010 ∈ t.power.causes ∧
      t.power.logicMv = mv ∧ t.recorder.inbox = [] ∧ t.ash = s.ash ∧ t.sec = s.takeBack.sec ∧ t.log = s.log) ∧
  (∀ (mv : Nat) (s : State), EntersSafe s → 30000 < mv → mv ≤ 50000 →
    ∃ t, Machine.exec (.logicSupplyHigh mv) s = .next t ∧ SafeFrom s t 0xC011 ∧ 0xC011 ∈ t.power.causes ∧
      t.power.logicMv = mv ∧ t.ash = s.ash ∧ t.sec = s.takeBack.sec ∧ t.log = s.log) ∧
  (∀ s : State, EntersSafe s →
    ∃ t, Machine.exec .internalRailFault s = .next t ∧ SafeFrom s t 0xC012 ∧ 0xC012 ∈ t.power.causes ∧
      t.ash = s.ash ∧ t.sec = s.takeBack.sec ∧ t.log = s.log) ∧
  (∀ (x : Int) (s : State), EntersSafe s → (850 < x ∨ x < -450) → 0xC020 ∉ s.power.causes →
    ∃ t, Machine.exec (.boardTemperature x) s = .next t ∧ SafeFrom s t 0xC020 ∧ 0xC020 ∈ t.power.causes ∧
      t.power.boardTemp = x ∧ t.ash = s.ash ∧ t.sec = s.takeBack.sec ∧ t.log = s.log) ∧
  (∀ s : State, (s.power.state = .run ∨ s.power.state = .start ∨ s.power.state = .stop) →
    (s.power.state = .start → s.power.lockoutCause = 0) → 2 ≤ (s.power.entries.filter (fun t => s.opS < t + day)).length →
    ∃ t, Machine.exec .internalRailFault s = .next t ∧ t.power.state = .lockout ∧ t.power.repeated = true ∧
      t.power.readyOff = true ∧ FirstReport s t 0xC012 0 0 0 ∧ t.field.demands = 0 ∧ t.bench.forces = [] ∧
      t.eng.queue = [] ∧ t.ash = s.ash ∧ t.sec = s.takeBack.sec ∧ t.log = s.log)

/-- Above the absolute maximum of 50 V the module guarantees nothing: the model stops there by name, and nowhere else on
this command. -/
def Obligations.AboveMaximumStops : Prop :=
  ∀ (mv : Nat) (s : State),
    (50000 < mv → Machine.exec (.logicSupplyHigh mv) s = .fault .beyondAbsoluteMaximum) ∧
    (mv ≤ 50000 → ∃ t, Machine.exec (.logicSupplyHigh mv) s = .next t)

/-- The supply's end leaves STANDBY with a backup cell and OFF without one, with Ashlar reset; the cell's arrival and
removal move between OFF and STANDBY; RT's comparators set the sticky flags in STANDBY. -/
def Obligations.PowerLossAndBackup : Prop :=
  (∀ s : State, s.power.state.powered = true →
    ∃ t, Machine.exec .logicSupplyRemoved s = .next t ∧
      t.power.state = (if s.power.cellFitted then .standby else .off) ∧ t.power.supply = false ∧
      t.rt.alive = s.power.cellFitted ∧ t.ash.state = .disarmed ∧ t.ash.permit = 0 ∧ t.field.demands = 0 ∧
      t.mg.sessions = [] ∧ (0xC010 ∉ s.power.causes → t.recorder.inbox = []) ∧
      t.powerCycle = s.powerCycle ∧ t.opUs = s.opUs ∧ t.log = s.log ∧ t.station = s.station) ∧
  (∀ (mv : Nat) (s : State), s.power.state = .off →
    ∃ t, Machine.exec (.backupCellFitted mv) s = .next t ∧ t.power = { s.power with state := .standby, cellFitted := true } ∧
      t.rt = { alive := true, calLost := decide (mv < 2000) } ∧ t = { s with power := t.power, rt := t.rt }) ∧
  (∀ s : State, s.power.state = .standby →
    ∃ t, Machine.exec .backupCellRemoved s = .next t ∧ t.power = { s.power with state := .off, cellFitted := false } ∧
      t.rt = { alive := false } ∧ t = { s with power := t.power, rt := t.rt }) ∧
  (∀ s : State, s.power.state.powered = true →
    ∃ t, Machine.exec .backupCellRemoved s = .next t ∧ t.rt = s.rt ∧
      t = { s with power := { s.power with cellFitted := false }, hi := mirrorOf s t }) ∧
  (∀ (p : PowerOn) (s : State), s.power.state = .off → s.rt.alive = false → 16800 ≤ p.mv →
    (p.bank0Ok || p.bank1Ok) = true →
    ∃ t, Machine.exec (.powerOnReset p) s = .next t ∧ t.rt.calUs = 946684800000000 ∧ t.rt.timeSet = false ∧
      t.rt.alive = true) ∧
  (∀ (c : RtSample) (s : State), s.power.state = .standby →
    ∃ t, Machine.exec (.rtComparatorSample c) s = .next t ∧ t = { s with rt := t.rt } ∧
      (t.rt.sealEdge = true ↔ s.rt.sealEdge = true ∨ ∃ p q, c = .switches p ∧ s.rt.sealPat = some q ∧ q ≠ p) ∧
      (t.rt.hot = true ↔ s.rt.hot = true ∨ ∃ x, c = .temperature x ∧ 850 < x) ∧
      (t.rt.cellLow = true ↔ s.rt.cellLow = true ∨ ∃ m, c = .cell m ∧ m < 2500) ∧
      (t.rt.calLost = true ↔ s.rt.calLost = true ∨ ∃ m, c = .cell m ∧ m < 2000))

/-- The saves of a powered module and the measurement of the backup cell: below 2.5 V a maintenance record once in a
power-up, below 0.5 V a second one. -/
def Obligations.SavesAndCell : Prop :=
  (∀ s : State, s.power.state.powered = true →
    ∃ t, Machine.exec .opTimeSave s = .next t ∧
      t = { s with savedOpUs := s.opUs, hi := mirrorOf s t }) ∧
  (∀ (mv : Nat) (s : State), s.power.state.powered = true → 2500 ≤ mv →
    ∃ t, Machine.exec (.cellMeasurement mv) s = .next t ∧ t.power.cellMv = mv ∧ t.power.cellFitted = true ∧
      t.power.state = s.power.state ∧ t.recorder = s.recorder ∧
      t = { s with power := t.power, hi := mirrorOf s t }) ∧
  (∀ (mv : Nat) (s : State), s.power.state.powered = true → 500 ≤ mv → mv < 2500 → s.power.cellLowTold = false →
    ∃ t, Machine.exec (.cellMeasurement mv) s = .next t ∧ Recorded s t 0xC042 mv 0 0 ∧ t.power.cellLowTold = true ∧
      t = { s with power := t.power, recorder := t.recorder, hi := mirrorOf s t }) ∧
  (∀ (mv : Nat) (s : State), s.power.state.powered = true → mv < 500 → s.power.cellLowTold = true →
    s.power.cellGoneTold = false →
    ∃ t, Machine.exec (.cellMeasurement mv) s = .next t ∧ Recorded s t 0xC043 0 0 0 ∧ t.power.cellGoneTold = true ∧
      t.power.cellFitted = false ∧ t.power.cellMv = mv ∧
      t = { s with power := t.power, recorder := t.recorder, hi := mirrorOf s t }) ∧
  (∀ s : State, s.power.state.powered = true → (s.vote.dwellSavedS + 60) * 1000000 ≤ s.dwellNow →
    ∃ t, Machine.exec .dwellCountSave s = .next t ∧
      t = { s with vote := { s.vote with dwellSavedS := s.dwellNow / 1000000 }, hi := mirrorOf s t })

/-- SHUTDOWN from STOP, SAFE or LOCKOUT by a Maintainer starts the shutdown test: the record INCOMPLETE is written
first, READY_OFF opens, local demands are off and step 1 begins. -/
def Obligations.ShutdownBegins : Prop :=
  ∀ (q : Req) (s : State), s.mailboxLive = true → (s.power.state = .stop ∨ s.power.state = .safe ∨
    s.power.state = .lockout) → s.sec.debug ≠ .invasive → s.sec.debug ≠ .testEngine →
    s.holds q (some .maintainer) = true →
    ∃ t, Machine.exec (.shutdown q) s = .next t ∧ t.power.state = .shutdownTest ∧ t.power.readyOff = false ∧
      t.test.step = 1 ∧ t.test.stepUs = s.opUs + 20000 ∧ t.test.beganUs = s.opUs ∧ t.test.verdicts = [] ∧
      t.test.fromState = s.power.state ∧ (∃ r, t.test.record = some r ∧ r.result = 2 ∧ r.lifecycle = s.lifecycle) ∧
      t.test.repair = s.test.repair ∧ t.eng.waiting = s.eng.waiting ++ [.shutdown q] ∧
      t.ash = { s.ash with bistBlock := 1, bistCount := 0 } ∧ t.field = { s.field with demands := 0 } ∧
      t.vote = s.vote ∧ t.station = s.station ∧ t.can = s.can ∧ t.net = s.net ∧ t.log = s.log ∧ t.update = s.update

/-- A block of the shutdown test: with both counts at the terminal count it PASSes on its expected signature and FAILs
on another, with event 0xA011, block 5 naming its lanes; past its time limit it is INCOMPLETE. The next step begins. -/
def Obligations.BistBlockVerdicts : Prop :=
  (∀ (b : BlockResult) (s : State), s.power.state = .shutdownTest → s.test.step = b.block → 1 ≤ b.block → b.block ≤ 7 →
    b.block ≠ 4 → b.engineCount = terminal s.unit.variant.spare b.block → b.ashlarCount = b.engineCount →
    ∃ t, Machine.exec (.bistBlockDone b) s = .next t ∧
      t.test = { s.test with
        step := b.block + 1, stepUs := s.opUs, matched := s.test.matched ||| 2 ^ (b.block - 1),
        badLanes := if b.block = 5 then b.lanes else s.test.badLanes
        verdicts := s.test.verdicts ++
          [(b.block, if b.signature = s.test.expected.getD (b.block - 1) 0 then Verdict.pass else Verdict.fail)] } ∧
      t.ash = { s.ash with bistBlock := b.block + 1, bistCount := 0 } ∧
      (b.signature = s.test.expected.getD (b.block - 1) 0 → t.recorder = s.recorder) ∧
      (b.signature ≠ s.test.expected.getD (b.block - 1) 0 → Recorded s t 0xA011 b.block 1 b.ashlarCount) ∧
      t = { s with test := t.test, ash := t.ash, recorder := t.recorder, hi := mirrorOf s t }) ∧
  (∀ (block count : Nat) (s : State), s.power.state = .shutdownTest → s.test.step = block → 1 ≤ block → block ≤ 10 →
    s.test.stepUs + stepLimitUs block ≤ s.opUs →
    ∃ t, Machine.exec (.bistBlockTimeout block count) s = .next t ∧
      t.test = { s.test with
        step := block + 1, stepUs := s.opUs, verdicts := s.test.verdicts ++ [(block, Verdict.incomplete)] } ∧
      t.ash = { s.ash with bistBlock := block + 1, bistCount := 0 } ∧ Recorded s t 0xA011 block 2 count ∧
      t = { s with test := t.test, ash := t.ash, recorder := t.recorder, hi := mirrorOf s t })

/-- The end of the shutdown test: the record with the result of the verdicts (INCOMPLETE where heat ended it), READY_OFF
closed, the operating time saved, the sequencer idle, the dwell expiry over, a freeze of the event area ended. -/
def Obligations.ShutdownEnds : Prop :=
  ∀ s : State, s.power.state = .shutdownTest → s.test.step = 13 →
    ∃ t r, Machine.exec .shutdownTestDone s = .next t ∧ t.test.record = some r ∧
      r.result = (if s.test.hotEnded then 2 else resultOf s.test.verdicts) ∧ r.failBlock = firstNotPassed s.test.verdicts ∧
      r.fused = s.test.fused ∧ r.ashlarMatch = s.test.matched ∧ r.opMs = s.opMs ∧
      t.test = { s.test with record := some r, step := 0 } ∧ t.power.state = .shutdownTest ∧ t.power.readyOff = true ∧
      t.savedOpUs = s.opUs ∧ t.vote = { s.vote with dwellExpired := false } ∧ (∀ q, .shutdown q ∉ t.eng.waiting) ∧
      t.recorder.frozenUntil = none ∧
      t.ash = s.ash ∧ t.sec = s.sec ∧ t.bench = s.bench ∧ t.field = s.field ∧ t.log = s.log

/-! ### The bench cycle -/

/-- Phase I at its grid instant, once the cycle before has ended: the next cycle begins, the changes of forces and
constants are in effect, Ashlar's challenge is read where its crossing can be used, and the image is frozen: every
element shows its report or, where that is gone, its substitute, under its force if it has one. What arrived after the
freeze instant waits for the next image. -/
def Obligations.PhaseIFreezes : Prop :=
  ∀ (samples : List (Crossing × List Word)) (s : State), s.power.state = .run → s.bench.frozen = false →
    s.bench.nextFreezeUs ≤ s.opUs →
    ∃ t, Machine.exec (.phaseI samples) s = .next t ∧ t.bench.cycle = s.bench.nextCycle ∧
      t.bench.nextCycle = (s.bench.nextCycle + 1) % 2 ^ 32 ∧ t.bench.freezeUs = s.bench.nextFreezeUs ∧
      t.bench.nextFreezeUs = s.bench.nextFreezeUs + s.tBenchUs ∧ t.bench.frozen = true ∧ t.bench.evaluated = false ∧
      t.bench.housekept = false ∧ t.bench.discard = false ∧ t.bench.forces = s.bench.nextForces ∧
      t.bench.newForces = [] ∧ t.bench.constants = s.bench.nextConstants ∧ t.bench.newConstants = [] ∧
      t.bench.codes = s.bench.codes ∧ t.bench.lastO = s.bench.lastO ∧ t.bench.stopping = s.bench.stopping ∧
      (samples = [] → (s.xing .asCl).linkDown = false → (s.xing .asCl).stale = false →
        t.bench.challenge = s.ash.challenge) ∧
      ((s.xing .asCl).linkDown = true → t.bench.challenge = s.bench.challenge) ∧
      (∀ (i : Nat) (e : Element), s.elem i = some e → i < s.eng.elems.length →
        (t.dyn i).frozen = true ∧ (t.dyn i).image = (t.forceOn 1 i).getD (t.dyn i).value ∧
        (e.part.typeCode ≠ 4 → e.part.typeCode ≠ 9 → (t.dyn i).substituted = (t.dyn i).gone ∧
          ((t.dyn i).gone = true → (t.dyn i).value = e.subst))) ∧
      (∀ x ∈ t.net.accepted, x ∈ s.net.accepted ∧ t.bench.freezeUs < x.acceptUs) ∧
      (∀ x ∈ t.mg.queue, x ∈ s.mg.queue) ∧
      t = { s with bench := t.bench, eng := t.eng, net := t.net, mg := t.mg, vote := t.vote, test := t.test,
                   xings := t.xings, can := t.can, field := t.field, recorder := t.recorder, hi := t.hi,
                   outbox := t.outbox }

/-- Phase E runs once per image and commits nothing: the cycle, its instants and the codes handed to Ashlar stay, the
requests of the image are consumed, every auxiliary output is demanded as its condition list stands, and what its logins
change can be taken back until phase O; more engine cycles than the station data allow give event 0x1042. -/
def Obligations.PhaseEEvaluates : Prop :=
  ∀ (cycles : Nat) (s : State), s.power.state = .run → s.bench.frozen = true → s.bench.evaluated = false →
    ∃ t, Machine.exec (.phaseE cycles) s = .next t ∧ t.bench.evaluated = true ∧ t.bench.requests = [] ∧
      t.bench.first = false ∧ t.bench.cycle = s.bench.cycle ∧ t.bench.nextCycle = s.bench.nextCycle ∧
      t.bench.freezeUs = s.bench.freezeUs ∧ t.bench.nextFreezeUs = s.bench.nextFreezeUs ∧
      t.bench.lastO = s.bench.lastO ∧ t.bench.codes = s.bench.codes ∧ t.bench.challenge = s.bench.challenge ∧
      (∀ (i list : Nat) (b : Option Nat), t.part i = .auxOut list b → i < t.eng.elems.length →
        (t.dyn i).demand = some (if t.listTrue (t.termList list) && !(t.dyn i).channel then 1 else 0)) ∧
      (∃ u, t.bench.undo = some u ∧ u.sessions = s.mg.sessions ∧ u.maintainerLogin = s.sec.maintainerLogin ∧
        u.authorityLogin = s.sec.authorityLogin) ∧
      (((t.station.map Station.engineCycles).getD 0) < cycles →
        ∃ r, t.recorder.inbox.getLast? = some r ∧ r.code = 0x1042 ∧ r.p0 = word cycles) ∧
      t.epoch = s.epoch ∧ t.can = s.can ∧ t.opUs = s.opUs ∧ t.powerCycle = s.powerCycle ∧ t.rt = s.rt ∧
      t.station = s.station ∧ t.diag = s.diag

/-- Phase O hands the cycle over: demands and transactions are committed, completions and notifications are delivered,
the change log has the constants set in the cycle, and one cycle code with the response to the challenge read goes to
Ashlar's crossing. -/
def Obligations.PhaseOCommits : Prop :=
  ∀ (samples : List Word) (s : State), s.power.state = .run → s.bench.frozen = true → s.bench.evaluated = true →
    s.phaseOUs ≤ s.opUs → s.bench.discard = false → s.bench.stopping = false → s.bench.noCode = false →
    ∃ t, Machine.exec (.phaseO samples) s = .next t ∧ t.bench.frozen = false ∧ t.bench.evaluated = false ∧
      t.bench.lastO = s.bench.cycle ∧ t.bench.completions = [] ∧ t.bench.notes = [] ∧ t.bench.newLog = [] ∧
      t.bench.undo = none ∧
      (s.log.length + s.bench.newLog.length ≤ logCapacity → t.log.length = s.log.length + s.bench.newLog.length) ∧
      t.bench.forcedShown = !s.bench.forces.isEmpty ∧ t.bench.forces = s.bench.forces ∧
      (∃ d, t.bench.codes = s.bench.codes ++ [.cycle (cycleCodeWord (BitVec.ofNat 8 (s.tBenchUs / 1000))
        (BitVec.ofNat 8 s.bench.cycle) (response s.bench.challenge)) d]) ∧
      (∀ x ∈ t.eng.txns, x.commitUs.isSome = true) ∧ (∀ p ∈ t.eng.prepares, p.doneUs.isSome = true) ∧
      t = { s with bench := t.bench, eng := t.eng, net := t.net, field := { s.field with demands := t.field.demands },
                   can := t.can, draws := t.draws, mg := t.mg, recorder := t.recorder, log := t.log, diag := t.diag,
                   hi := t.hi, outbox := t.outbox }

/-- Phase O of a cycle whose phase E was stopped commits nothing: the engine, the demands, the completions and the
notifications stay, and the cycle code still goes out. -/
def Obligations.PhaseODiscards : Prop :=
  ∀ (samples : List Word) (s : State), s.power.state = .run → s.bench.frozen = true → s.bench.evaluated = true →
    s.phaseOUs ≤ s.opUs → s.bench.discard = true → s.bench.stopping = false →
    ∃ t, Machine.exec (.phaseO samples) s = .next t ∧ t.eng = s.eng ∧ t.field = s.field ∧ t.mg = s.mg ∧
      t.bench.completions = s.bench.completions ∧ t.bench.notes = s.bench.notes ∧ t.bench.lastO = s.bench.cycle ∧
      t.bench.frozen = false ∧ t.bench.codes.length = s.bench.codes.length + (if s.bench.noCode then 0 else 1) ∧
      t = { s with bench := t.bench, net := t.net, can := t.can, draws := t.draws, recorder := t.recorder,
                   diag := t.diag, hi := t.hi, outbox := t.outbox }

/-- Phase H runs once per cycle: its lane test rotates over the four lanes, and a slice of the RAM test follows; a
failing lane is recorded, with lane 3 selected for the lane's slot at the next start, and the module enters SAFE. What
has not finished is repeated in a later phase H. -/
def Obligations.PhaseHTestsLanes : Prop :=
  (∀ (lane slice : Bool) (s : State), s.power.state = .run → s.bench.frozen = false → s.bench.housekept = false →
    s.phaseOUs ≤ s.opUs → s.vote.laneCheck = none →
    ∃ t, Machine.exec (.phaseH ⟨false, false, true, lane, slice⟩) s = .next t ∧
      t = { s with bench := { s.bench with housekept := true },
                   vote := { s.vote with
                     laneTurn := if lane then (s.vote.laneTurn + 1) % 4 else s.vote.laneTurn
                     ramSlices := if slice then s.vote.ramSlices + 1 else s.vote.ramSlices },
                   hi := mirrorOf s t }) ∧
  (∀ (slice : Bool) (l1 l2 : List Nat) (s : State), s.power.state = .run → s.bench.frozen = false →
    s.bench.housekept = false → s.phaseOUs ≤ s.opUs → s.vote.laneCheck = none →
    s.vote.lanes = l1 ++ s.vote.laneTurn :: l2 → s.vote.laneTurn ∉ l1 → 3 ∉ s.vote.lanes → EntersSafe s →
    ∃ t, Machine.exec (.phaseH ⟨false, false, false, true, slice⟩) s = .next t ∧ SafeFrom s t 0x1023 ∧
      t.repair.laneMap = s.repair.laneMap.set l1.length 3 ∧ t.repair.laneSoft = s.repair.laneSoft ∧
      t.vote.lanes = s.vote.lanes ∧ StandsDown { s with test := t.test } t)

/-- An overrun of phase I, E or O, found past the phase's limit, is recorded once per cycle; that of phase E discards
the working copy and has its engine cycles judged; two in consecutive cycles are an F3 cause, and no further cycle code
goes out. -/
def Obligations.OverrunsDiscardAndStop : Prop :=
  (∀ (phase : Phase) (cycles engine : Nat) (s : State), s.power.state = .run → s.overdue phase = true →
    (∀ k, s.bench.overran = some k → k ≠ s.bench.cycle ∧ (k + 1) % 2 ^ 32 ≠ s.bench.cycle) →
    ∃ t, Machine.exec (.benchOverrun phase cycles engine) s = .next t ∧ t.bench.overran = some s.bench.cycle ∧
      (phase = .e ∧ ((s.station.map Station.engineCycles).getD 0) < engine →
        FirstReport s t 0x1042 engine 0 0 ∧ LastReport t 0x1040 s.bench.cycle 1 cycles) ∧
      (phase ≠ .e ∨ engine ≤ ((s.station.map Station.engineCycles).getD 0) →
        Recorded s t 0x1040 s.bench.cycle (phaseNumber phase) cycles) ∧
      (phase = .e → t.bench = { s.bench with overran := some s.bench.cycle, evaluated := true, discard := true }) ∧
      (phase ≠ .e → t.bench = { s.bench with overran := some s.bench.cycle }) ∧
      t = { s with bench := t.bench, recorder := t.recorder, hi := mirrorOf s t }) ∧
  (∀ (phase : Phase) (cycles engine k : Nat) (s : State), s.overdue phase = true → s.bench.overran = some k →
    s.bench.cycle = (k + 1) % 2 ^ 32 → k ≠ s.bench.cycle → s.power.state = .run → EntersSafe s →
    (phase = .e → engine ≤ ((s.station.map Station.engineCycles).getD 0)) →
    ∃ t, Machine.exec (.benchOverrun phase cycles engine) s = .next t ∧ SafeFrom s t 0x1041 ∧ t.bench.noCode = true ∧
      FirstReport s t 0x1040 s.bench.cycle (phaseNumber phase) cycles ∧ (∃ r ∈ t.recorder.inbox, r.code = 0x1041) ∧
      t.bench.codes = s.bench.codes ∧ t.ash = s.ash ∧ t.sec = s.takeBack.sec ∧ t.station = s.station ∧ t.log = s.log) ∧
  (∀ (phase : Phase) (cycles engine : Nat) (s : State), s.overdue phase = false →
    ∃ t, Machine.exec (.benchOverrun phase cycles engine) s = .next t ∧ t = { s with hi := mirrorOf s t })

/-- While the bench does not run, the request queue is served every 10 ms: as many requests as their count shows are
taken, each is decided as its opcode says, after a gap in the arrival numbers every one of them is DISCARDED, and
nothing comes through a fenced crossing; the copies for the diagnostics commands are refreshed. -/
def Obligations.QueueServedOutsideRun : Prop :=
  (∀ (l : List Queued) (s : State), s.power.state ≠ .run → s.mailboxLive = true → (s.xing .mgCl).unusable = false →
    s.mg.queue = l → l ≠ [] → l.length ≤ (s.xing .mgCl).counter.received →
    inSequence s.eng.lastSeq l = true →
    ∃ t u : State, Machine.exec .requestQueueService s = .next t ∧
      t = ((l.foldl (fun s x => s.decideCluster x.opcode x.req) u).refreshDiag).settle ∧ u.mg = { s.mg with queue := [] } ∧
      u.eng = { s.eng with lastSeq := l.getLast?.map (fun x => x.req.arrival) } ∧
      u = { s with mg := u.mg, eng := u.eng, xings := u.xings } ∧ ∀ y, y ≠ .mgCl → u.xing y = s.xing y) ∧
  (∀ (l : List Queued) (s : State), s.power.state ≠ .run → s.mailboxLive = true → (s.xing .mgCl).unusable = false →
    s.mg.queue = l → l ≠ [] → l.length ≤ (s.xing .mgCl).counter.received →
    inSequence s.eng.lastSeq l = false → s.mg.alive = true → s.mg.voided = [] → s.hi.downMg = true →
    (∀ x ∈ l, x.req.via = .pcie) →
    ∃ t, Machine.exec .requestQueueService s = .next t ∧ t.mg.queue = [] ∧
      t.eng = { s.eng with lastSeq := l.getLast?.map (fun x => x.req.arrival) } ∧
      t.hi.heldDone = s.hi.heldDone ++ l.map (fun x => done x.req x.opcode .discarded) ∧
      t = { s with mg := t.mg, eng := t.eng, xings := t.xings, diag := t.diag,
                   hi := { mirrorOf s t with heldDone := t.hi.heldDone } }) ∧
  (∀ s : State, s.power.state ≠ .run → s.mailboxLive = true → s.mg.alive = true → (s.xing .clMg).linkDown = false →
    (s.mg.queue = [] ∨ (s.xing .mgCl).linkDown = true) →
    ∃ t, Machine.exec .requestQueueService s = .next t ∧ t.diag = some s.freshDiag ∧ t.mg = s.mg ∧ t.eng = s.eng ∧
      t = { s with diag := t.diag, xings := t.xings, hi := mirrorOf s t })

/-! ### Nodes -/

/-- A node that has been silent for longer than its time-out is dropped at the freeze with event 0x5020; time-outs with
200 intervals follow the rank interval, within the node's limits, in phase H once per second. -/
def Obligations.NodeSupervision : Prop :=
  (∀ (id : Nat) (n : Node) (d : NodeDyn) (s : State), s.power.state = .run → s.node id = some n →
    s.nodeDyn id = some d → s.nodeLate d = true → d.dropped = false →
    ∃ t d', Machine.exec (.nodeDropout id) s = .next t ∧ t.nodeDyn id = some d' ∧ d'.dropped = true ∧
      d'.droppedUs = s.bench.freezeUs ∧ d'.fresh = false ∧
      (∃ r, t.recorder.inbox = s.recorder.inbox ++ [r] ∧ r.code = 0x5020 ∧ r.p0 = word id) ∧
      t = { s with bench := t.bench, eng := t.eng, net := t.net, recorder := t.recorder, hi := t.hi, outbox := t.outbox }) ∧
  (∀ (id : Nat) (n : Node) (d : NodeDyn) (s : State), s.power.state = .run →
    s.bench.frozen = false → s.phaseOUs ≤ s.opUs → s.net.recomputeUs ≤ s.opUs →
    s.nodeTable.filter (fun x => x.id == id) = [n] → s.nodeDyn id = some d → 200 ≤ d.intervals.length →
    ∃ t, Machine.exec .nodeTimeoutRecompute s = .next t ∧
      t.nodeDyn id = some { d with
        p999 := d.rankInterval, measured := true
        timeout := Nat.min (n.toMax * 10) (Nat.max (n.toMin * 10) (3 * d.rankInterval / 2)) } ∧
      t = { s with net := { s.net with nodes := t.net.nodes, recomputeUs := s.opUs + 1000000 }, hi := mirrorOf s t })

/-! ### Timers of the engine -/

/-- A field transaction at its time limit ends: a point throw leaves the point end LOST with event 0x6030 and image
value 3 unless it is forced; a transaction of a signal or a section only ends. -/
def Obligations.TransactionLimits : Prop :=
  (∀ (i k c : Nat) (x : Txn) (s : State), s.power.state = .run → i < s.eng.elems.length → OnlyTxn s i k x →
    x.kind = .pointThrow → x.ended = false → x.commitUs = some c → s.image i ≠ x.value →
    c + x.limitUs ≤ s.bench.freezeUs →
    ∃ t, Machine.exec (.throwTimeout i) s = .next t ∧ (t.dyn i).lost = true ∧
      (t.dyn i).image = (s.forceOn 1 i).getD 3 ∧ t.eng.txns = s.eng.txns.set k { x with ended := true } ∧
      (∃ r, t.recorder = { s.recorder with inbox := s.recorder.inbox ++ [r] } ∧ r.code = 0x6030) ∧
      t.eng.routes = s.eng.routes ∧ t.eng.queue = s.eng.queue ∧
      t = { s with bench := t.bench, eng := t.eng, recorder := t.recorder, hi := mirrorOf s t }) ∧
  (∀ (i k c : Nat) (x : Txn) (s : State), s.power.state = .run → OnlyTxn s i k x →
    (x.kind = .signalClear ∨ x.kind = .signalStop ∨ x.kind = .sectionReset) → x.ended = false → x.commitUs = some c →
    s.txnDone x = false → c + x.limitUs ≤ s.bench.freezeUs →
    ∃ t, Machine.exec (.transactionTimeout i) s = .next t ∧ t.eng.txns = s.eng.txns.set k { x with ended := true } ∧
      t.eng.routes = s.eng.routes ∧ t.eng.queue = s.eng.queue ∧ t.recorder = s.recorder ∧
      t = { s with bench := t.bench, eng := t.eng, hi := mirrorOf s t })

/-- The timers of a route in LOCKED, CANCELLING and OCCUPIED, and that of a confirmed emergency release, free the route
with all its locks. -/
def Obligations.RouteTimersFree : Prop :=
  (∀ (n limit i : Nat) (r : Route) (s : State), s.power.state = .run → n < s.eng.routes.length →
    s.fullRoute n = some r → (s.rdyn n).state = .locked → s.proofLimitUs r = some limit → s.unproven n r = some i →
    (s.rdyn n).lockedUs + limit < s.bench.freezeUs →
    ∃ t, Machine.exec (.proofTimeout n) s = .next t ∧ FreedRoute s t n 0x0129 i) ∧
  (∀ (n e : Nat) (r : Route) (s : State), s.power.state = .run → n < s.eng.routes.length → s.fullRoute n = some r →
    (s.rdyn n).state = .cancelling → (s.rdyn n).approachWait = false → (s.rdyn n).approachEnd = some e →
    e ≤ s.bench.freezeUs → s.showsStop r.entry = true →
    ∃ t, Machine.exec (.approachReleaseExpiry n) s = .next t ∧ FreedRoute s t n 0 0) ∧
  (∀ (n e : Nat) (r : Route) (s : State), s.power.state = .run → n < s.eng.routes.length → s.fullRoute n = some r →
    (s.rdyn n).overlapEnd = some e → e ≤ s.bench.freezeUs →
    (∀ x ∈ s.sections r.overlap, s.image x.element = 0) →
    ∃ t, Machine.exec (.overlapReleaseExpiry n) s = .next t ∧ FreedRoute s t n 0 0) ∧
  (∀ (n e : Nat) (r : Route) (s : State), s.power.state = .run → n < s.eng.routes.length → s.fullRoute n = some r →
    (s.rdyn n).emergencyEnd = some e → e ≤ s.bench.freezeUs → s.showsStop r.entry = true →
    ∃ t, Machine.exec (.emergencyReleaseExpiry n) s = .next t ∧ FreedRoute s t n 0 0)

/-- The 30 s of a waiting request and of a prepare, and the end of the restart hold. -/
def Obligations.QueueAndPrepareTimers : Prop :=
  (∀ (n : Nat) (p : Pend) (s : State), s.power.state = .run → n < s.eng.routes.length → p.want = .route n →
    p.req = none →
    s.eng.queue.filter (fun x => x.arrival == p.arrival && x.enteredUs + 30000000 ≤ s.bench.freezeUs) = [p] →
    ∃ t, Machine.exec (.pendingExpired p.arrival) s = .next t ∧ p ∉ t.eng.queue ∧ (t.rdyn n).state = .free ∧
      (t.rdyn n).reason = 0x012C ∧ (t.rdyn n).param = p.reason ∧ (∀ m, m ≠ n → t.rdyn m = s.rdyn m) ∧
      t = { s with eng := { s.eng with queue := t.eng.queue, routes := t.eng.routes },
                   hi := mirrorOf s t }) ∧
  (∀ (p : Prepare) (e : Nat) (s : State), s.power.state = .run →
    s.eng.prepares.filter (fun x => x.kind == p.kind && x.target == p.target) = [p] → p.expired = false →
    p.doneUs = some e → e + 30000000 < s.bench.freezeUs →
    ∃ t, Machine.exec (.auxPrepareExpiry p.kind p.target) s = .next t ∧ { p with expired := true } ∈ t.eng.prepares ∧
      p ∉ t.eng.prepares ∧ Recorded s t 0x6023 (auxWord p.kind p.position p.target) 0 0 ∧
      t = { s with bench := { s.bench with notes := t.bench.notes },
                   eng := { s.eng with prepares := t.eng.prepares }, recorder := t.recorder,
                   hi := mirrorOf s t }) ∧
  (∀ (e : Nat) (s : State), s.power.state = .run → s.eng.holdEnd = some e → e ≤ s.bench.freezeUs →
    ∃ t, Machine.exec .restartHoldEnd s = .next t ∧ t.eng.holdEnd = none ∧ t.eng.heldAreas = [] ∧
      (∀ d ∈ t.eng.elems, d.held = false) ∧ Recorded s t 0x6040 0xFF 0 0 ∧
      t = { s with eng := t.eng, recorder := t.recorder, hi := mirrorOf s t })

/-- A signal that has not confirmed its committed demand 2 s after the commit is FAILED and demanded STOP; a section and
a berth window take their confirmed value at the end of their delay. -/
def Obligations.ConfirmationTimers : Prop :=
  (∀ (i c : Nat) (e : Element) (s : State), s.power.state = .run → i < s.eng.elems.length → s.elem i = some e →
    (s.dyn i).substituted = false → (s.dyn i).failed = false → (s.dyn i).confirmed = false →
    (s.dyn i).committed = some c → confirms e c (s.dyn i).value = false →
    (s.dyn i).commitUs + 2000000 ≤ s.bench.freezeUs →
    ∃ t, Machine.exec (.signalConfirmTimeout i) s = .next t ∧ (t.dyn i).failed = true ∧ (t.dyn i).demand = some 0 ∧
      (t.dyn i).value = 2 ∧ (t.dyn i).image = (s.forceOn 1 i).getD 2 ∧ t.eng.txns = s.eng.txns ∧
      t.eng.routes = s.eng.routes ∧
      t = { s with bench := t.bench, eng := t.eng, hi := mirrorOf s t }) ∧
  (∀ (i k delay a : Nat) (b : Bool) (s : State), s.power.state = .run → i < s.eng.elems.length →
    s.part i = .track k b delay → (s.dyn i).substituted = false → (s.dyn i).reported = some 0 →
    (s.dyn i).clearSince = some a → a + (s.dyn i).clearDelayUs ≤ s.bench.freezeUs →
    ∃ t, Machine.exec (.clearDelayExpiry i) s = .next t ∧ (t.dyn i).value = 0 ∧
      (t.dyn i).image = (s.forceOn 1 i).getD 0 ∧ (∀ j, j ≠ i → t.dyn j = s.dyn j) ∧
      t = { s with eng := { s.eng with elems := t.eng.elems }, hi := mirrorOf s t }) ∧
  (∀ (i g pos sec a : Nat) (s : State), s.power.state = .run → i < s.eng.elems.length → s.part i = .berth g pos sec →
    (s.dyn i).berthSince = some a → a + (s.dyn i).confirmUs ≤ s.bench.freezeUs →
    ∃ t, Machine.exec (.berthConfirmation i) s = .next t ∧ (t.dyn i).value = 3 ∧
      (t.dyn i).image = (s.forceOn 1 i).getD 3 ∧ (∀ j, j ≠ i → t.dyn j = s.dyn j) ∧
      t = { s with eng := { s.eng with elems := t.eng.elems }, hi := mirrorOf s t })

/-- A leaf MOVING for longer than its limit is FAILED with event 0x7010, cause 1; 60 s of OBSTRUCTED are reported once.
-/
def Obligations.LeafTimers : Prop :=
  (∀ (i g pos limit : Nat) (b : Bool) (s : State), s.power.state = .run → i < s.eng.elems.length →
    s.part i = .leaf g pos b limit → (s.dyn i).leafCause = 0 → s.time10ms limit < (s.dyn i).movingUs →
    ∃ t, Machine.exec (.moveLimitExpiry i) s = .next t ∧ (t.dyn i).leafCause = 1 ∧ (t.dyn i).value = 6 ∧
      (t.dyn i).image = (s.forceOn 1 i).getD 6 ∧ Recorded s t 0x7010 i 1 0 ∧ t.eng.txns = s.eng.txns ∧
      t.eng.routes = s.eng.routes ∧
      t = { s with bench := t.bench, eng := t.eng, recorder := t.recorder, hi := mirrorOf s t }) ∧
  (∀ (i a : Nat) (s : State), s.power.state = .run → i < s.eng.elems.length → (s.dyn i).obstructedSince = some a →
    a + 60000000 ≤ s.bench.freezeUs → (s.dyn i).obstructedTold = false →
    ∃ t n, Machine.exec (.obstruction60s i) s = .next t ∧ t.dyn i = { s.dyn i with obstructedTold := true } ∧
      (∀ j, j ≠ i → t.dyn j = s.dyn j) ∧ Recorded s t 0x7012 0 0 0 ∧
      t.bench.notes = s.bench.notes ++ [n] ∧ n.kind = 0x0102 ∧
      t = { s with bench := { s.bench with notes := t.bench.notes }, eng := { s.eng with elems := t.eng.elems },
                   recorder := t.recorder, hi := mirrorOf s t })

/-! ### Voting -/

/-- An accusation in two-out-of-three takes the core out of its slot's vote into a targeted self-test, which destroys
what the core held; the write that the other two agree on lands in the cluster SRAM, and a write without agreement
nowhere. Disagreement without a culprit is an F3 cause under which every core in a slot is tested, and no halt code goes
out; differing comparators are an F4 cause, in LOCKOUT too one that both comparators must then be tested for. What a
core and the SRAM hold rests on log entry 93. -/
def Obligations.VotingFaults : Prop :=
  (∀ (slot item : Nat) (bus : List BusAccess) (v : Slot) (s : State), s.vote.slots[slot]? = some v → v.active = true →
    s.vote.activeSlots = 3 → s.compares = true → (∀ c, v.joinedCycle = some c → c + 4 ≤ s.bench.cycle) →
    v.core < s.vote.cores.length →
    ∃ t, Machine.exec (.coreAccuse slot item bus) s = .next t ∧ t.core v.core = .selfTest ∧ t.vote.testing = some slot ∧
      t.vote.slots = s.vote.slots.set slot { v with active := false } ∧
      t.vote.accusations = s.vote.accusations + 1 ∧ t.vote.lastAccuse = s.bench.cycle ∧ t.voteMode = 3 ∧
      (v.core < s.vote.stores.length → t.vote.stores[v.core]? = some {}) ∧
      (∀ a, voted 3 bus = some a → t.vote.sram = storeWord s.vote.sram sramBytes a) ∧
      (voted 3 bus = none → t.vote.sram = s.vote.sram) ∧
      Recorded s t 0x1001 s.bench.cycle (slot + v.core * 256) item ∧
      t = { s with vote := t.vote, recorder := t.recorder, hi := t.hi, outbox := t.outbox }) ∧
  (∀ (bus : List BusAccess) (s : State), s.vote.activeSlots = 3 → s.compares = true → EntersSafe s →
    ∃ t, Machine.exec (.noMajority bus) s = .next t ∧ SafeFrom s t 0x1020 ∧ t.vote.cause = 0x1020 ∧
      t.bench.codes = s.bench.codes ∧ t.vote.slots = s.vote.slots ∧
      (∀ x ∈ s.vote.slots, x.vacant = false → x.core < s.vote.cores.length → t.core x.core = .selfTest) ∧
      StandsDown s t) ∧
  (∀ (bus : List BusAccess) (s : State), s.vote.activeSlots = 2 → s.compares = true → EntersSafe s →
    ∃ t, Machine.exec (.mismatch bus) s = .next t ∧ SafeFrom s t 0x1021 ∧ t.vote.cause = 0x1021 ∧
      t.bench.codes = s.bench.codes ∧ t.vote.slots = s.vote.slots ∧
      (∀ x ∈ s.vote.slots, x.vacant = false → x.core < s.vote.cores.length → t.core x.core = .selfTest) ∧
      StandsDown s t) ∧
  (∀ (x y : Byte) (s : State), s.compares = true → x ≠ y →
    (s.power.state = .run ∨ s.power.state = .start ∨ s.power.state = .stop ∨ s.power.state = .safe) →
    ∃ t, Machine.exec (.comparatorsDiffer x y) s = .next t ∧ LockoutFrom s t 0x1022 ∧ t.power.comparatorsBad = true ∧
      FirstReport s t 0x1022 s.bench.cycle x.toNat y.toNat ∧ t.bench.codes = s.bench.codes) ∧
  (∀ (x y : Byte) (s : State), s.compares = true → x ≠ y → s.power.state = .lockout →
    ∃ t, Machine.exec (.comparatorsDiffer x y) s = .next t ∧ t.power = { s.power with comparatorsBad := true } ∧
      Recorded s t 0x1022 s.bench.cycle x.toNat y.toNat ∧
      t = { s with power := t.power, recorder := t.recorder, hi := mirrorOf s t })

/-- A passed targeted self-test leads to the lane test; a failed one makes the core FAILED and its slot vacant, and a
ready Core S begins its sync window; its end leaves the joining core with what the first core in the vote holds and
ready to join, or is a MISMATCH where the streams differ. What a core holds rests on log entry 93. -/
def Obligations.SelfTestVerdicts : Prop :=
  (∀ (slot : Nat) (s : State), s.vote.testing = some slot →
    ∃ t, Machine.exec (.targetedSelfTestDone 0) s = .next t ∧
      t.vote = { s.vote with testing := none, laneCheck := some slot } ∧
      Recorded s t 0x1002 s.bench.cycle (s.slotCore slot) 0 ∧
      t = { s with vote := t.vote, recorder := t.recorder, hi := mirrorOf s t }) ∧
  (∀ (slot block : Nat) (x : Slot) (s : State), s.vote.testing = some slot → s.vote.slots[slot]? = some x →
    x.core < s.vote.cores.length → x.core ≠ 3 → block ≠ 0 →
    ∃ t y, Machine.exec (.targetedSelfTestDone block) s = .next t ∧ t.core x.core = .failed ∧
      t.vote.slots[slot]? = some y ∧ y.vacant = true ∧ y.active = false ∧ t.vote.testing = none ∧
      t.repair.marks = s.repair.marks.set x.core 1 ∧ FirstReport s t 0x1002 s.bench.cycle (x.core + 256) block ∧
      (s.spareReady = true → t.core 3 = .syncing ∧ t.vote.joining = some (slot, 3)) ∧
      t = { s with vote := t.vote, test := t.test, recorder := t.recorder, hi := t.hi, outbox := t.outbox }) ∧
  (∀ (slot core : Nat) (s : State), s.power.state = .run → s.vote.joining = some (slot, core) →
    s.vote.joinReady = false →
    ∃ t, Machine.exec (.syncWindowDone false) s = .next t ∧
      (∀ (v : Slot) (x : CoreStore), s.vote.slots.find? Slot.active = some v → s.vote.stores[v.core]? = some x →
        core < s.vote.stores.length →
        t.vote.stores[core]? = some { x with itcm := s.firmwareTcm, written := true }) ∧
      (∀ c, c ≠ core → t.vote.stores[c]? = s.vote.stores[c]?) ∧
      t = { s with vote := { s.vote with joinReady := true, stores := t.vote.stores }, hi := mirrorOf s t }) ∧
  (∀ (slot core : Nat) (s : State), s.power.state = .run → s.vote.joining = some (slot, core) →
    s.vote.joinReady = false → EntersSafe s →
    ∃ t, Machine.exec (.syncWindowDone true) s = .next t ∧ SafeFrom s t 0x1021 ∧ t.vote.joining = none ∧ StandsDown s t)

/-- The self-tests of SAFE end: where all passed, the fault counts as a transient of each core; a core that failed is
FAILED. The slots are filled with the healthy cores in order; with fewer than two the module is in LOCKOUT on the cause.
-/
def Obligations.SafeSelfTestRebuilds : Prop :=
  (∀ (failed l : List Nat) (s : State), s.vote.cause ≠ 0 → (∀ c ∈ failed, c < 4 → s.core c ≠ .selfTest) →
    l = (List.range 4).filter s.coreHealthy → 2 ≤ l.length →
    (∀ c, s.core c = .selfTest → (s.transientsOf c).length < 3) →
    ∃ t, Machine.exec (.safeSelfTestDone failed) s = .next t ∧ t.vote.cause = 0 ∧
      (∀ (v c : Nat) (x : Slot), s.vote.slots[v]? = some x → l[v]? = some c →
        t.vote.slots[v]? = some { x with core := c, active := true, vacant := false, joinedCycle := none }) ∧
      (∀ (v : Nat) (x : Slot), s.vote.slots[v]? = some x → l[v]? = none →
        t.vote.slots[v]? = some { x with active := false, vacant := true, joinedCycle := none }) ∧
      (∀ c ∈ l.take 3, c < s.vote.cores.length → t.core c = .voting) ∧
      Recorded s t s.vote.cause s.bench.cycle s.vote.verdictWord.toNat 0 ∧
      t = { s with vote := t.vote, test := { s.test with repair := t.test.repair }, recorder := t.recorder,
                   hi := mirrorOf s t }) ∧
  (∀ (failed bad l : List Nat) (s : State), s.vote.cause ≠ 0 → s.vote.cores.length = 4 →
    bad = (List.range 4).filter (fun c => s.core c == .selfTest && failed.contains c) → bad ≠ [] →
    l = (List.range 4).filter (fun c => s.coreHealthy c && !bad.contains c) →
    ∃ t, Machine.exec (.safeSelfTestDone failed) s = .next t ∧ t.vote.cause = 0 ∧ (∀ c ∈ bad, t.core c = .failed) ∧
      FirstReport s t s.vote.cause s.bench.cycle s.vote.verdictWord.toNat (bad.map (fun c => 2 ^ c)).sum ∧
      (2 ≤ l.length →
        (∀ (v c : Nat) (x : Slot), s.vote.slots[v]? = some x → l[v]? = some c →
          t.vote.slots[v]? = some { x with core := c, active := true, vacant := false, joinedCycle := none }) ∧
        (∀ (v : Nat) (x : Slot), s.vote.slots[v]? = some x → l[v]? = none →
          t.vote.slots[v]? = some { x with active := false, vacant := true, joinedCycle := none }) ∧
        (∀ c ∈ l.take 3, t.core c = .voting) ∧
        t = { s with vote := t.vote, test := t.test, recorder := t.recorder, hi := t.hi, outbox := t.outbox }) ∧
      (l.length < 2 →
        (s.power.state = .run ∨ s.power.state = .start ∨ s.power.state = .stop ∨ s.power.state = .safe) →
        LockoutFrom { s with test := t.test } t s.vote.cause))

/-- Core S in reserve is trusted after eight good signatures in a row and UNHEALTHY after a wrong or a missing one; SRAM
errors are recorded, and an uncorrectable one is an F3 cause. -/
def Obligations.SpareAndMemoryErrors : Prop :=
  (∀ s : State, s.unit.variant.spare = true → s.core 3 = .reserve →
    ∃ t, Machine.exec (.coreSSignature (some s.vote.sigExpected)) s = .next t ∧
      t = { s with vote := { s.vote with sigGood := Nat.min 8 (s.vote.sigGood + 1) },
                   hi := mirrorOf s t }) ∧
  (∀ (x : Option Word) (s : State), s.unit.variant.spare = true → s.core 3 = .reserve → x ≠ some s.vote.sigExpected →
    ∃ t, Machine.exec (.coreSSignature x) s = .next t ∧ t.core 3 = .unhealthy ∧ t.vote.sigGood = 0 ∧
      t.repair.marks = s.repair.marks.set 3 2 ∧ t.vote.slots = s.vote.slots ∧
      Recorded s t 0x1030 s.bench.cycle s.vote.sigExpected.toNat (x.getD 0).toNat ∧
      t = { s with vote := t.vote, test := t.test, recorder := t.recorder, hi := mirrorOf s t }) ∧
  (∀ (a y : Word) (s : State), s.power.state.powered = true →
    ∃ t, Machine.exec (.sramCorrectableError a y) s = .next t ∧ Recorded s t 0x1031 s.bench.cycle a.toNat y.toNat ∧
      t = { s with recorder := t.recorder, hi := mirrorOf s t }) ∧
  (∀ (a y : Word) (s : State), EntersSafe s →
    ∃ t, Machine.exec (.sramUncorrectableError a y) s = .next t ∧ SafeFrom s t 0x1032 ∧
      FirstReport s t 0x1032 s.bench.cycle a.toNat y.toNat ∧ StandsDown s t)

/-- Two-out-of-two operation warns an hour and ten minutes before its limit, each once, and anew where a raised limit
puts them ahead again, and ends the bench at it; forcing is recorded anew every ten minutes. -/
def Obligations.DwellAndReminder : Prop :=
  (∀ (left : Nat) (s : State), s.dwellCounts = true → left = s.dwellLimitUs - s.dwellNow → 600000000 < left →
    left ≤ 3600000000 → s.vote.warned60 = false →
    ∃ t, Machine.exec .dwellWarning s = .next t ∧ t.vote = { s.vote with warned60 := true, warned10 := false } ∧
      Recorded s t 0x1011 s.bench.cycle ((left + 59999999) / 60000000) s.vacantSlot ∧
      t = { s with vote := t.vote, recorder := t.recorder, hi := t.hi, outbox := t.outbox }) ∧
  (∀ (left : Nat) (s : State), s.dwellCounts = true → left = s.dwellLimitUs - s.dwellNow → left ≤ 600000000 →
    s.vote.warned60 = true → s.vote.warned10 = false →
    ∃ t, Machine.exec .dwellWarning s = .next t ∧ t.vote = { s.vote with warned10 := true } ∧
      Recorded s t 0x1011 s.bench.cycle ((left + 59999999) / 60000000) s.vacantSlot ∧
      t = { s with vote := t.vote, recorder := t.recorder, hi := t.hi, outbox := t.outbox }) ∧
  (∀ s : State, s.dwellCounts = true → 3600000000 < s.dwellLimitUs - s.dwellNow →
    ∃ t, Machine.exec .dwellWarning s = .next t ∧
      t = { s with vote := { s.vote with warned60 := false, warned10 := false }, hi := mirrorOf s t }) ∧
  (∀ s : State, s.dwellCounts = true → s.dwellLimitUs ≤ s.dwellNow → s.vote.dwellExpired = false →
    ∃ t, Machine.exec .dwellExpiry s = .next t ∧ t.vote = { s.vote with dwellExpired := true } ∧
      t.bench = { s.bench with stopping := true } ∧
      Recorded s t 0x1012 s.bench.cycle s.vacantSlot (s.dwellNow / 60000000) ∧
      t = { s with vote := t.vote, bench := t.bench, recorder := t.recorder, hi := t.hi, outbox := t.outbox }) ∧
  (∀ s : State, s.bench.forces ≠ [] → s.bench.reminderUs ≤ s.opUs →
    ∃ t, Machine.exec .forceReminder s = .next t ∧
      t.bench = { s.bench with reminderUs := s.bench.reminderUs + 600000000 } ∧
      Recorded s t 0x1062 s.bench.forces.length 0 0 ∧
      t = { s with bench := t.bench, recorder := t.recorder, hi := mirrorOf s t })

/-! ### Debug and the seal -/

/-- An attach that the life-cycle never accepts is refused with cause 1; an accepted invasive one breaks lockstep, in
RUN with the bench stopped and Ashlar holding everything off; detach and a closing seal end the session and its attach
hold, and lockstep stays broken. -/
def Obligations.DebugAndSeal : Prop :=
  (∀ (k : DebugKind) (core : Nat) (s : State), s.power.state.powered = true → k ≠ .none →
    attachStates s.lifecycle k = [] →
    ∃ t, Machine.exec (.debugAttach k core) s = .next t ∧ Recorded s t 0x9030 (debugCode k) 1 0 ∧
      t = { s with recorder := t.recorder, hi := mirrorOf s t }) ∧
  (∀ (k : DebugKind) (core : Nat) (s : State), s.sec.debug = .none → s.power.state ∈ attachStates s.lifecycle k →
    (s.lifecycle = 0 ∨ s.sealOpen = true) →
    ∃ t, Machine.exec (.debugAttach k core) s = .next t ∧
      t.sec = { (if s.power.state = .run ∧ k ≠ .nonInvasive then s.takeBack else s).sec with debug := k } ∧
      FirstReport s t 0x9031 (debugCode k) 0 0 ∧ (k = .nonInvasive → t.vote = s.vote ∧ t.power = s.power) ∧
      (k ≠ .nonInvasive → t.vote.lockstepBroken = true ∧
        t.power = (if s.power.state = .run then { s.power with state := .stop } else s.power)) ∧
      (s.power.state ≠ .run →
        t = { s with sec := t.sec, vote := t.vote, ash := t.ash, recorder := t.recorder, hi := mirrorOf s t }) ∧
      AshHolds s t (if k = .nonInvasive then s.ash.hold else { s.ash.hold with lockstep := true, debug := true }) ∧
      t.station = s.station ∧ t.test = s.test ∧ t.log = s.log) ∧
  (∀ s : State, s.sec.debug ≠ .none →
    ∃ t, Machine.exec .debugDetach s = .next t ∧ t.sec = { s.sec with debug := .none } ∧
      FirstReport s t 0x9032 (debugCode s.sec.debug) 3 0 ∧ AshHolds s t (holdAfterDebug s.sec.debug s.ash.hold) ∧
      (debugHolds s.sec.debug = false → Recorded s t 0x9032 (debugCode s.sec.debug) 3 0) ∧
      t = { s with sec := t.sec, ash := t.ash, recorder := t.recorder, hi := mirrorOf s t }) ∧
  (∀ (p : BitVec 4) (s : State), s.power.state.powered = true → sealEvent p ≠ sealEvent s.sec.sealPat →
    ∃ t, Machine.exec (.sealChange p) s = .next t ∧ FirstReport s t (sealEvent p) p.toNat 0 0 ∧
      t.sec = { s.sec with
        sealPat := p
        pendSeal := s.sec.pendSeal || sealEvent p == 0x9022
        debug := if p ≠ 0b1010#4 ∧ s.lifecycle ≠ 0 then .none else s.sec.debug } ∧
      AshHolds s t (if p ≠ 0b1010#4 ∧ s.lifecycle ≠ 0 then holdAfterDebug s.sec.debug s.ash.hold else s.ash.hold) ∧
      t = { s with sec := t.sec, ash := t.ash, recorder := t.recorder, hi := mirrorOf s t })

/-! ### Ashlar -/

/-- Ashlar's resets leave it DISARMED; its load of an intact table leaves it READY with the table frozen, and a table
whose own CRC fails is an F3 cause with the latch open. -/
def Obligations.AshlarResetsAndLoads : Prop :=
  (∀ s : State,
    (∃ t, Machine.exec .ashlarReset s = .next t ∧ AshlarDown s t s.ash.supplyOk) ∧
    (∃ t, Machine.exec .ashlarSupplyFault s = .next t ∧ AshlarDown s t false) ∧
    (∃ t, Machine.exec .ashlarSupplyReturn s = .next t ∧ AshlarDown s t true)) ∧
  (∀ (st : Station) (s : State), s.station = some st → s.ash.state = .disarmed → s.ash.supplyOk = true →
    s.ash.latch = false → st.ashlar.length = 512 → crc32c (st.ashlar.take 508) = word (u32 st.ashlar 508) →
    crc32c st.ashlar = st.ashlarSectionCrc → s.eng.waiting = [] → s.power.state ≠ .start →
    ∃ t, Machine.exec (.ashlarTableLoadDone none none) s = .next t ∧ t.ash.state = .ready ∧ t.ash.table = st.ashlar ∧
      t.ash.latch = true ∧ t.ash.loadFail = false ∧ t.ash.period = none ∧ t.ash.codeSeen = false ∧ t.ash.permit = 0 ∧
      t.ash.challenge = Config.ashlarChallenge s.draws ∧ t.draws = s.draws + 1 ∧
      LastReport t 0x2001 (u32 st.ashlar 508) 0 0 ∧
      t = { s with ash := t.ash, draws := t.draws, recorder := t.recorder, hi := mirrorOf s t }) ∧
  (∀ (x : List Byte) (b : Option (List Byte)) (st : Station) (s : State), s.station = some st →
    s.ash.state = .disarmed → s.ash.supplyOk = true → s.ash.latch = false → x.length = 512 →
    crc32c (x.take 508) ≠ word (u32 x 508) → EntersSafe s →
    ∃ t, Machine.exec (.ashlarTableLoadDone (some x) b) s = .next t ∧ SafeFrom s t 0x2002 ∧
      t.ash = { s.ash with loadFail := true } ∧
      FirstReport s t 0x2002 1 (word (u32 x 508)).toNat (crc32c (x.take 508)).toNat ∧
      StandsDown { s with ash := t.ash } t)

/-- The cycle code: a first valid one in READY sets the period, the next in its window arms, one in ARMED is accepted or
trips on its first cause; a halt code leads back to READY; none passes a fenced crossing. -/
def Obligations.CycleCodes : Prop :=
  (∀ (c d : Word) (s : State), (s.xing .clAs).linkDown = false → s.ash.state = .ready → s.ash.period = none →
    s.ash.validCode c = true →
    ∃ t, Machine.exec (.cycleCode (some (c, d))) s = .next t ∧ t.ash.state = .ready ∧
      t.ash.period = some (codePeriod c).toNat ∧ t.ash.lastCount = codeCount c ∧ t.ash.lastUs = s.opUs ∧
      t.ash.demand = d ∧ t.ash.permit = 0 ∧ t.ash.challenge = Config.ashlarChallenge s.draws ∧ t.draws = s.draws + 1 ∧
      t.bench = { s.bench with codes := s.bench.codes.tail } ∧
      t = { s with ash := t.ash, bench := t.bench, draws := t.draws, recorder := t.recorder,
                   hi := mirrorOf s t }) ∧
  (∀ (c d : Word) (p : Nat) (s : State), (s.xing .clAs).linkDown = false → s.ash.state = .ready →
    s.ash.period = some p → s.ash.validCode c = true →
    (codePeriod c).toNat = p → codeCount c = s.ash.lastCount + 1 → s.ash.lastUs + 800 * p ≤ s.opUs →
    s.opUs ≤ s.ash.lastUs + 1250 * p →
    ∃ t, Machine.exec (.cycleCode (some (c, d))) s = .next t ∧
      t.ash.state = (if s.ash.blocked then .ready else .armed) ∧ t.ash.period = some p ∧ t.ash.lastCount = codeCount c ∧
      t.ash.lastUs = s.opUs ∧ t.ash.codeSeen = true ∧ t.ash.demand = d ∧
      t.ash.challenge = Config.ashlarChallenge s.draws ∧
      t = { s with ash := t.ash, bench := { s.bench with codes := s.bench.codes.tail }, draws := s.draws + 1,
                   recorder := t.recorder, hi := mirrorOf s t }) ∧
  (∀ (c d : Word) (p : Nat) (s : State), (s.xing .clAs).linkDown = false → s.ash.state = .armed →
    s.ash.period = some p → (codePeriod c).toNat = p →
    p ≠ 0 → codeCount c = s.ash.lastCount + 1 → codeResponse c = response s.ash.challenge →
    s.ash.lastUs + 800 * p ≤ s.opUs → s.opUs ≤ s.ash.lastUs + 1250 * p → s.ash.held = false →
    ∃ t, Machine.exec (.cycleCode (some (c, d))) s = .next t ∧ t.ash.state = .armed ∧ t.ash.lastUs = s.opUs ∧
      t.ash.lastCount = codeCount c ∧ t.ash.demand = d ∧ t.ash.challenge = Config.ashlarChallenge s.draws ∧
      (s.ash.inputStale = false →
        ∀ n, n < 32 → t.ash.permit.getLsbD n = (decide (n < s.unit.variant.outputs) && t.ash.permits n)) ∧
      (s.ash.inputStale = true → t.ash.permit = 0) ∧
      t = { s with ash := t.ash, bench := { s.bench with codes := s.bench.codes.tail }, draws := s.draws + 1,
                   recorder := t.recorder, hi := mirrorOf s t }) ∧
  (∀ (c d : Word) (p : Nat) (s : State), (s.xing .clAs).linkDown = false → s.ash.state = .armed →
    s.ash.period = some p → s.opUs ≤ s.ash.lastUs + 1250 * p →
    s.ash.lastUs + 800 * p ≤ s.opUs → codeCount c = s.ash.lastCount + 1 → codeResponse c ≠ response s.ash.challenge →
    EntersSafe s →
    ∃ t, Machine.exec (.cycleCode (some (c, d))) s = .next t ∧
      Trips { s with bench := { s.bench with codes := s.bench.codes.tail } } t 4) ∧
  (∀ (c d : Word) (p : Nat) (s : State), (s.xing .clAs).linkDown = false → s.ash.state = .armed →
    s.ash.period = some p → s.opUs ≤ s.ash.lastUs + 1250 * p →
    codePeriod c = 0 → codeCount c = s.ash.lastCount + 1 → codeResponse c = response s.ash.challenge →
    s.eng.waiting = [] →
    ∃ t, Machine.exec (.cycleCode (some (c, d))) s = .next t ∧ t.ash.state = .ready ∧ t.ash.period = none ∧
      t.ash.permit = 0 ∧ t.ash.groupSw = 0 ∧ LastReport t 0x2011 s.bench.lastO (codeCount c).toNat 0 ∧
      t = { s with ash := t.ash, bench := { s.bench with codes := s.bench.codes.tail }, draws := s.draws + 1,
                   recorder := t.recorder, hi := mirrorOf s t }) ∧
  (∀ (c : Option (Word × Word)) (s : State), (s.xing .clAs).linkDown = true → s.eng.waiting = [] →
    ∃ t, Machine.exec (.cycleCode c) s = .next t ∧
      t = { s with bench := { s.bench with codes := s.bench.codes.tail }, hi := mirrorOf s t })

/-- Ashlar's own watches: a late code trips with cause 2, the arm window returns READY to no period, a frozen table that
has changed trips with cause 6 and an intact one does nothing, clock counts in range clear what counted against them, a
second one out of range trips ARMED Ashlar or is the cluster's F3 cause. -/
def Obligations.AshlarWatches : Prop :=
  (∀ (p : Nat) (s : State), s.ash.state = .armed → s.ash.period = some p → s.ash.lastUs + 1250 * p ≤ s.opUs →
    EntersSafe s → ∃ t, Machine.exec .ashlarLate s = .next t ∧ Trips s t 2) ∧
  (∀ (p : Nat) (s : State), s.ash.state = .ready → s.ash.period = some p → s.ash.lastUs + 1250 * p ≤ s.opUs →
    ∃ t, Machine.exec .ashlarArmWindowExpiry s = .next t ∧ t.ash.state = .ready ∧ t.ash.period = none ∧
      t.ash.challenge = Config.ashlarChallenge s.draws ∧ t.ash.permit = 0 ∧
      t = { s with ash := t.ash, draws := s.draws + 1, recorder := t.recorder, hi := mirrorOf s t }) ∧
  (∀ s : State, crc32c ((padTo 512 s.ash.table).take 508) = word (u32 (padTo 512 s.ash.table) 508) →
    ∃ t, Machine.exec (.ashlarTableCheck none) s = .next t ∧ t = { s with hi := mirrorOf s t }) ∧
  (∀ (x : List Byte) (s : State), s.ash.state = .armed → x.length = 512 → crc32c (x.take 508) ≠ word (u32 x 508) →
    EntersSafe s → ∃ t, Machine.exec (.ashlarTableCheck (some x)) s = .next t ∧ Trips s t 6) ∧
  (∀ (n : Nat) (s : State), 9094 ≤ n → n ≤ 9656 →
    (s.ash.blocked = false → ∃ t, Machine.exec (.ashlarClockCount false n) s = .next t ∧
      t.ash = { s.ash with clock := BitVec.ofNat 16 n, badCounts := 0, blockedUntil := none } ∧
      t = { s with ash := t.ash, hi := mirrorOf s t }) ∧
    ∃ t, Machine.exec (.ashlarClockCount true n) s = .next t ∧ t.ash = { s.ash with clockSide1Bad := 0 } ∧
      t.power = { s.power with causes := s.power.causes.filter (· != 0x2020) } ∧
      t = { s with ash := t.ash, power := t.power, hi := mirrorOf s t }) ∧
  (∀ (n : Nat) (s : State), (n < 9094 ∨ 9656 < n) → EntersSafe s →
    (s.ash.state = .armed → s.ash.badCounts = 1 → ∃ t, Machine.exec (.ashlarClockCount false n) s = .next t ∧
      SafeFrom s t 0x2010 ∧ t.ash.state = .tripped ∧ t.ash.cause = (if n < 9094 then 7 else 8) ∧ t.ash.permit = 0 ∧
      StandsDown { s with ash := t.ash } t) ∧
    (s.ash.clockSide1Bad = 1 → ∃ t, Machine.exec (.ashlarClockCount true n) s = .next t ∧ SafeFrom s t 0x2020 ∧
      0x2020 ∈ t.power.causes ∧ t.ash = { s.ash with clockSide1Bad := 2 } ∧ StandsDown { s with ash := t.ash } t))

/-- The hold lines and the frames with the field side: a hold withholds everything at once and lasts while its condition
does, an input frame with the expected SEQ renews what Ashlar reads, 150 µs without one is an F3 cause, a permit frame
with the expected SEQ carries permits and group switches to the field side and acknowledges what that sent, any other
counts as missed, and the third missed takes them away; a mark is given only while Ashlar grants, its code is fresh and
no inhibit term of the group is true, and none passes a fenced crossing. -/
def Obligations.AshlarPermitsAndMarks : Prop :=
  (∀ (h : HoldLines) (s : State), (s.vote.lockstepBroken = true → h.lockstep = true) →
    (debugHolds s.sec.debug = true → h.debug = true) → (s.vitalLifecycle = false → h.lifecycle = true) → h ≠ s.ash.hold →
    ∃ t, Machine.exec (.ashlarHoldChange h) s = .next t ∧ t.ash.hold = h ∧ t.ash.state = s.ash.state ∧
      ((h.lockstep || h.debug || h.lifecycle) = true → t.ash.permit = 0 ∧ t.ash.groupSw = 0) ∧
      FirstReport s t 0x2040 (holdBitmap h) 0 0 ∧
      t = { s with ash := t.ash, recorder := t.recorder, hi := mirrorOf s t }) ∧
  (∀ (h : HoldLines) (s : State), ∃ t, Machine.exec (.ashlarHoldChange h) s = .next t ∧
      (s.vote.lockstepBroken = true → t.ash.hold.lockstep = true) ∧ (debugHolds s.sec.debug = true →
        t.ash.hold.debug = true) ∧
      (s.vitalLifecycle = false → t.ash.hold.lifecycle = true) ∧ AshHolds s t t.ash.hold) ∧
  (∀ s : State, s.unit.variant.groups ≠ 0 → s.ash.supplyOk = true → s.field.ashSent = s.ash.inSeq + 1 →
    ∃ t, Machine.exec (.ashlarInputFrame true) s = .next t ∧ t.ash.inputUs = s.opUs ∧ t.ash.inputStale = false ∧
      t.ash.inSeq = s.field.ashSent ∧
      (∀ n, n < 64 → t.ash.inputs.getLsbD n = (s.field.inputs.getD n {}).value) ∧
      t.power = { s.power with causes := s.power.causes.filter (· != 0x2030) } ∧
      t = { s with ash := t.ash, power := t.power, recorder := t.recorder, hi := mirrorOf s t }) ∧
  (∀ s : State, s.unit.variant.groups ≠ 0 → s.ash.supplyOk = true → s.ash.inputStale = false →
    s.ash.inputUs + 150 ≤ s.opUs → EntersSafe s →
    ∃ t, Machine.exec .ashlarInputStale s = .next t ∧ SafeFrom s t 0x2030 ∧ t.ash.inputStale = true ∧
      0x2030 ∈ t.power.causes ∧ StandsDown { s with ash := t.ash } t) ∧
  (∀ (x : Bool) (s : State), x = false ∨ s.field.ashSent ≠ s.ash.inSeq + 1 →
    ∃ t, Machine.exec (.ashlarInputFrame x) s = .next t ∧ t = { s with hi := mirrorOf s t }) ∧
  (∀ s : State, s.unit.variant.groups ≠ 0 → s.ash.outSeq = s.field.ashSeq + 1 →
    ∃ t, Machine.exec (.ashlarPermitFrame true) s = .next t ∧
      (∀ (n : Nat) (o : FieldOutput), s.field.outputs[n]? = some o → ∃ o', t.field.outputs[n]? = some o' ∧
        o'.permit = s.ash.permit.getLsbD n ∧ o'.demand = o.demand ∧ o'.fault = o.fault) ∧
      (∀ (n : Nat) (g : FieldGroup), s.field.groups[n]? = some g →
        t.field.groups[n]? = some { g with
          switchOn := s.ash.groupSw.getLsbD n
          readBack := if g.switchFault then g.readBack else s.ash.groupSw.getLsbD n }) ∧
      t = { s with field := { s.field with
                     outputs := t.field.outputs, groups := t.field.groups, ashSeq := s.ash.outSeq, ashMissed := 0
                     ashSent := if s.ash.inSeq = s.field.ashSent then s.field.ashSent + 1 else s.field.ashSent },
                   hi := mirrorOf s t }) ∧
  (∀ (x : Bool) (s : State), s.unit.variant.groups ≠ 0 → x = false ∨ s.ash.outSeq ≠ s.field.ashSeq + 1 →
    ∃ t, Machine.exec (.ashlarPermitFrame x) s = .next t ∧
      t = { s with field := { s.field with ashMissed := s.field.ashMissed + 1 }, hi := mirrorOf s t }) ∧
  (∀ s : State, s.unit.variant.groups ≠ 0 → 3 ≤ s.field.ashMissed →
    ∃ t, Machine.exec .ashlarFrameLoss s = .next t ∧ (∀ o ∈ t.field.outputs, o.permit = false ∧ o.low = false) ∧
      (∀ g ∈ t.field.groups, g.switchOn = false) ∧
      t = { s with field := { s.field with outputs := t.field.outputs, groups := t.field.groups },
                   hi := mirrorOf s t }) ∧
  (∀ (can : Bool) (g : Nat) (k : Word) (a : BitVec 16) (s : State), (s.xing (markPath can)).linkDown = true →
    Machine.exec (.markRequest can g k a) s = .next s) ∧
  (∀ (can : Bool) (g : Nat) (k : Word) (a : BitVec 16) (s : State), (s.xing (markPath can)).linkDown = false → ∃ m,
    Machine.exec (.markRequest can g k a) s = .next { s with ash := { s.ash with lastMark := some m } } ∧
    (m = some (vitalMark k a) ↔ s.ash.grants = true ∧ s.ash.codeSeen = true ∧
      (∃ p, s.ash.period = some p ∧ s.opUs < s.ash.lastUs + 1250 * p) ∧
      ∀ n, n < 16 → (u16 s.ash.table (320 + 2 * g)).testBit n = true → s.ash.inhibit.getLsbD n = false) ∧
    (m = none ∨ m = some (vitalMark k a)))

/-! ### The field side -/

/-- Frames of the isolation link: an expected one is taken with its demands, or with its inputs, its oldest fault report
and its edge counts; a missed one is counted and recorded with the longest run of its direction; a loss, after three
missed in a row, opens every switch it must and is an F3 cause; a field-side reset leaves every output off and no
configuration. That one report crosses with each frame rests on log entry 79. -/
def Obligations.IsolationLink : Prop :=
  (∀ s : State, s.unit.variant.groups ≠ 0 → s.field.flSent = s.field.fsSeq + 1 →
    ∃ t, Machine.exec (.coreToFieldFrame true []) s = .next t ∧ t.field.fsSeq = s.field.flSent ∧ t.field.fsMissed = 0 ∧
      t.field.linkLost = false ∧ t.field.stale = s.field.stale ∧ t.field.demands = s.field.demands ∧
      (∀ (n : Nat) (o : FieldOutput), s.field.outputs[n]? = some o → ∃ o', t.field.outputs[n]? = some o' ∧
        o'.demand = s.field.demands.getLsbD n ∧ o'.permit = o.permit) ∧ t.field.inputs = s.field.inputs ∧
      t.field.reports = s.field.reports ∧
      t = { s with field := t.field, power := { s.power with causes := t.power.causes },
                   hi := mirrorOf s t }) ∧
  (∀ (x : Bool) (l : List (Nat × Nat × Nat)) (s : State), s.unit.variant.groups ≠ 0 →
    (x = false ∨ s.field.flSent ≠ s.field.fsSeq + 1) →
    ∃ t, Machine.exec (.coreToFieldFrame x l) s = .next t ∧
      t.field = { s.field with
        fsMissed := s.field.fsMissed + 1, missed := s.field.missed + 1, missedFs := s.field.missedFs + 1
        fsMost := Nat.max s.field.fsMost (s.field.fsMissed + 1) } ∧
      Recorded s t 0x3001 0 (s.field.missedFs + 1) (Nat.max s.field.fsMost (s.field.fsMissed + 1)) ∧ FieldOnly s t) ∧
  (∀ s : State, s.unit.variant.groups ≠ 0 → s.field.fsSent = s.field.flSeq + 1 → (s.xing .fsFl).linkDown = false →
    s.power.state ≠ .start →
    (s.power.state = .run → s.field.configCrc = s.expectedConfig) →
    ∃ t, Machine.exec (.fieldToCoreFrame true) s = .next t ∧ t.field.flSeq = s.field.fsSent ∧ t.field.flMissed = 0 ∧
      t.field.stale = false ∧ t.field.arrivalUs = s.opUs ∧
      t.field.frames = s.field.frames.cross (s.xing .flCl).linkDown ∧
      (∀ n, n < 64 → t.field.values.getLsbD n = (s.field.inputs.getD n {}).value) ∧ t.field.outputs = s.field.outputs ∧
      t.field.inputs = s.field.inputs ∧ t.field.reports = s.field.reports.tail ∧ t.field.edgeLog = [] ∧
      t.recorder.inbox.length =
        s.recorder.inbox.length + Nat.min 1 s.field.reports.length + s.field.edgeLog.length ∧
      (∀ r l, s.field.reports = r :: l → FirstReport s t r.code r.p0 r.p1 r.p2) ∧
      t = { s with field := t.field, power := { s.power with causes := t.power.causes },
                   recorder := { s.recorder with inbox := t.recorder.inbox }, hi := mirrorOf s t }) ∧
  (∀ (x : Bool) (s : State), s.unit.variant.groups ≠ 0 →
    (x = false ∨ s.field.fsSent ≠ s.field.flSeq + 1 ∨ (s.xing .fsFl).linkDown = true ∨
      (s.power.state = .run ∧ s.field.configCrc ≠ s.expectedConfig)) →
    ∃ t, Machine.exec (.fieldToCoreFrame x) s = .next t ∧
      t.field = { s.field with
        flMissed := s.field.flMissed + 1, missed := s.field.missed + 1, missedFl := s.field.missedFl + 1
        flMost := Nat.max s.field.flMost (s.field.flMissed + 1), crcGood := 0 } ∧
      Recorded s t 0x3001 1 (s.field.missedFl + 1) (Nat.max s.field.flMost (s.field.flMissed + 1)) ∧ FieldOnly s t) ∧
  (∀ (d : LinkLoss) (s : State), s.field.lost d = false →
    ∃ t, Machine.exec (.isolationLinkLoss d) s = .next t ∧ t = { s with hi := mirrorOf s t }) ∧
  (∀ (d : LinkLoss) (s : State), s.unit.variant.groups ≠ 0 → s.field.lost d = true → EntersSafe s →
    ∃ t, Machine.exec (.isolationLinkLoss d) s = .next t ∧ SafeFrom s t 0x3002 ∧ 0x3002 ∈ t.power.causes ∧
      (d ≠ .fieldToCore → t.field.linkLost = true ∧ ∀ o ∈ t.field.outputs, o.high = false ∧ o.low = false) ∧
      (d ≠ .coreToField → t.field.stale = true ∧ t.field.valid = 0) ∧ StandsDown { s with field := t.field } t) ∧
  (∀ s : State, s.unit.variant.groups ≠ 0 →
    ∃ t, Machine.exec .fieldSideReset s = .next t ∧ t.field.config = [] ∧ t.field.configCrc = 0 ∧
      t.field.reports = [] ∧ t.field.edgeLog = [] ∧ t.field.fsEpoch = !s.field.fsEpoch ∧
      (∀ o ∈ t.field.outputs, o.demand = false ∧ o.permit = false ∧ o.high = false ∧ o.low = false ∧ o.fault = 0) ∧
      (∀ i ∈ t.field.inputs, i.value = false ∧ i.fault = 0) ∧ (∀ g ∈ t.field.groups, g.switchOn = false) ∧
      (t.xing .fsFl).linkDown = true ∧
      t = { s with field := t.field, xings := t.xings, recorder := t.recorder, hi := mirrorOf s t })

/-- Inputs and their test pulses: a level kept for the debounce time from a sample that showed it is taken, and logged
as an edge where COS says so; in the 500 µs after a pulse of its source started an input holds its value; a source's
pulse starts on its grid and is checked once; a passed check counts, the second failed one in a row makes the input
FAILED; an overloaded source fails with its inputs. Each fault waits in the report of the next field-to-core frame. The
grid of the pulses and the report of each fault rest on log entries 79 and 90. -/
def Obligations.InputsAndPulses : Prop :=
  (∀ (n since : Nat) (level : Bool) (i : FieldInput) (s : State), n < s.unit.variant.inputs → s.field.inMode n ≠ 0 →
    s.field.inputs[n]? = some i → i.value ≠ level → s.masked n = false → s.field.samplesAt n since = true →
    since + s.field.debounceUs n + s.maskedUs n since ≤ s.opUs →
    ∃ t, Machine.exec (.debounceExpiry n level since) s = .next t ∧
      (s.field.inCos n = 0 → t.field.inputs = s.field.inputs.set n { i with value := level } ∧
        t.field.edgeLog = s.field.edgeLog) ∧
      (s.field.inCos n = 3 → t.field.inputs = s.field.inputs.set n { i with
          value := level, edges := (i.edges + 1) % 65536, lastEdge := since / 10 } ∧
        t.field.edgeLog = s.field.edgeLog ++ [⟨0x3010, n + (if level then 1 else 2) * 256, since / 10, 0⟩]) ∧
      t.field = { s.field with inputs := t.field.inputs, edgeLog := t.field.edgeLog } ∧
      t = { s with field := t.field, hi := mirrorOf s t }) ∧
  (∀ (n k since p : Nat) (level : Bool) (x : FieldSource) (s : State), s.field.inSource n = some k →
    s.field.sources[k]? = some x → p ∈ x.pulses → p ≤ s.opUs → s.opUs < p + 500 →
    ∃ t, Machine.exec (.debounceExpiry n level since) s = .next t ∧
      t = { s with hi := mirrorOf s t }) ∧
  (∀ (k : Nat) (x : FieldSource) (s : State), k < s.unit.variant.pulses → s.sourcePulses k = true →
    s.field.sources[k]? = some x → s.field.gridUs + 100 * k ≤ s.opUs →
    s.field.periodUs k ∣ s.opUs - (s.field.gridUs + 100 * k) →
    ∃ t, Machine.exec (.testPulseStart k) s = .next t ∧
      t.field = { s.field with sources := s.field.sources.set k { x with
        pulses := s.opUs :: x.pulses.filter (fun p => s.opUs < p + 1000000), unchecked := x.unchecked ++ [s.opUs] } } ∧
      t = { s with field := t.field, hi := mirrorOf s t }) ∧
  (∀ (c : PulseCheck) (n p : Nat) (l : List Nat) (i : FieldInput) (x : FieldSource) (s : State),
    c.source < s.unit.variant.pulses → s.sourcePulses c.source = true → c.readbackOk = true →
    s.field.inputsOf c.source = [n] → s.field.inputs[n]? = some i → s.field.sources[c.source]? = some x → i.fault = 0 →
    x.unchecked = p :: l → p + 400 ≤ s.opUs →
    ∃ t, Machine.exec (.testPulseCheck c) s = .next t ∧
      (s.field.checkFails c n = false → t.field.reports = s.field.reports ∧
        t.field.inputs = s.field.inputs.set n { i with failRun := 0, passed := saturate 16 (i.passed + 1) }) ∧
      (s.field.checkFails c n = true → i.failRun = 1 →
        t.field.inputs = s.field.inputs.set n { i with
          failRun := 2, passed := 0, fault := if s.field.checkAllHigh c n then 1 else 2 } ∧
        t.field.reports =
          s.field.reports ++ [⟨0x3020, n, if s.field.checkAllHigh c n then 1 else 2, c.source⟩]) ∧
      t.field = { s.field with
        inputs := t.field.inputs, reports := t.field.reports
        sources := s.field.sources.set c.source { x with failRun := 0, unchecked := l } } ∧
      t = { s with field := t.field, hi := mirrorOf s t }) ∧
  (∀ (c : PulseCheck) (x : FieldSource) (s : State), s.field.sources[c.source]? = some x → x.unchecked = [] →
    ∃ t, Machine.exec (.testPulseCheck c) s = .next t ∧ t = { s with hi := mirrorOf s t }) ∧
  (∀ (k : Nat) (x : FieldSource) (s : State), k < s.unit.variant.pulses → s.field.sources[k]? = some x →
    ∃ t l, Machine.exec (.sourceOverload k) s = .next t ∧
      t.field.sources = s.field.sources.set k { x with fault := true, overload := true } ∧
      (∀ n ∈ s.field.inputsOf k, (t.field.inputs.getD n {}).fault = 3) ∧
      (∀ n, n ∉ s.field.inputsOf k → t.field.inputs[n]? = s.field.inputs[n]?) ∧
      t.field.reports = s.field.reports ++ ⟨0x3022, k, 2, (s.field.inputsOf k).length⟩ :: l ∧
      t.field = { s.field with
        inputs := t.field.inputs, sources := t.field.sources, reports := t.field.reports } ∧
      t = { s with field := t.field, hi := mirrorOf s t })

/-- Outputs and their supplies: a switch that does not open in its test, foreign voltage behind open switches and an
overload each name their fault and open what they can; a group whose level has been below 12 V for 1 ms, or with a
switch that does not follow, is MISSING, with its outputs open; a group's overload opens what is on in it. Each fault
waits in the report of the next field-to-core frame. That a level stands until the next measurement is the model's
choice (log entry 97). -/
def Obligations.OutputsAndGroups : Prop :=
  (∀ (c : SwitchTest) (o : FieldOutput) (s : State), c.channel < s.unit.variant.outputs →
    s.field.outputs[c.channel]? = some o → s.field.outUsed c.channel = true → o.demand = true → o.permit = true →
    o.high = true → o.low = true → o.fault = 0 → o.causes = [] → s.testDue c o = true → c.dropped = [] →
    ∃ t o', Machine.exec (.outputSwitchTest c) s = .next t ∧ t.field.outputs[c.channel]? = some o' ∧
      o'.milliAmp = c.milliAmp ∧ o'.loadMv = c.uPlusMv - c.uMinusMv ∧
      (if c.highSide then o'.highTest else o'.lowTest) = some ((s.opUs - s.field.gridUs) / 1000000) ∧
      (c.fell = true → o'.fault = 0 ∧ o'.causes = [] ∧ t.field.reports = s.field.reports) ∧
      (c.fell = false → o'.fault = (if c.highSide then 1 else 2) ∧ o'.causes = [o'.fault] ∧
        (if c.highSide then o'.low else o'.high) = false ∧
        t.field.reports = s.field.reports ++ [⟨0x3030, c.channel + (if c.highSide then 1 else 2) * 256,
          (c.uPlusMv % 65536).toNat + (c.uMinusMv % 65536).toNat * 65536, c.milliAmp⟩]) ∧
      t.field = { s.field with outputs := t.field.outputs, reports := t.field.reports } ∧
      t = { s with field := t.field, hi := mirrorOf s t }) ∧
  (∀ (m : FeedMeasure) (o : FieldOutput) (s : State), m.channel < s.unit.variant.outputs →
    s.field.outputs[m.channel]? = some o → o.high = false → o.low = false → 3 ∉ o.causes → o.fault ≠ 4 →
    11000 < m.uPlusMv - m.uMinusMv →
    ∃ t o', Machine.exec (.externalFeed m) s = .next t ∧ t.field.outputs[m.channel]? = some o' ∧ o'.fault = 3 ∧
      o'.causes = o.causes ++ [3] ∧ o'.high = false ∧ o'.low = false ∧
      t.field.reports = s.field.reports ++ [⟨0x3030, m.channel + 3 * 256,
        (m.uPlusMv % 65536).toNat + (m.uMinusMv % 65536).toNat * 65536, m.milliAmp⟩] ∧
      t.field = { s.field with outputs := t.field.outputs, reports := t.field.reports } ∧
      t = { s with field := t.field, hi := mirrorOf s t }) ∧
  (∀ (n ma : Nat) (o : FieldOutput) (s : State), n < s.unit.variant.outputs → s.field.outputs[n]? = some o →
    o.fault = 0 →
    ∃ t o', Machine.exec (.outputOverload n false ma) s = .next t ∧ t.field.outputs[n]? = some o' ∧ o'.fault = 5 ∧
      o'.overloaded = true ∧ o'.high = false ∧ o'.low = false ∧ o'.offUs = s.opUs ∧ o'.milliAmp = ma ∧
      t.field.reports = s.field.reports ++ [⟨0x3032, n, ma, n / 8⟩] ∧
      t.field = { s.field with outputs := t.field.outputs, reports := t.field.reports } ∧
      t = { s with field := t.field, hi := mirrorOf s t }) ∧
  (∀ (g ma : Nat) (x : FieldGroup) (s : State), g < s.unit.variant.groups → s.field.groups[g]? = some x →
    ∃ t, Machine.exec (.outputOverload g true ma) s = .next t ∧
      t.field.groups = s.field.groups.set g { x with milliAmp := ma } ∧
      (∀ (n : Nat) (o : FieldOutput), n / 8 = g → s.field.energised n = true → s.field.outputs[n]? = some o →
        ∃ o', t.field.outputs[n]? = some o' ∧ o'.high = false ∧ o'.low = false ∧ o'.overloaded = true ∧
          o'.offUs = s.opUs) ∧
      t.field.reports = s.field.reports ++ [⟨0x3032, 0xFF, ma, g⟩] ∧
      t.field = { s.field with
        outputs := t.field.outputs, groups := t.field.groups, reports := t.field.reports } ∧
      t = { s with field := t.field, hi := mirrorOf s t }) ∧
  (∀ (g mv : Nat) (x y : FieldGroup) (s : State), g < s.unit.variant.groups → s.field.groupUsed g = true →
    s.field.groups[g]? = some x → y = x.measured true mv s.opUs →
    ∃ t, Machine.exec (.groupSupplyState g true mv) s = .next t ∧ t.field.groups = s.field.groups.set g y ∧
      y.inputMv = mv ∧ y.feed = x.feed ∧ y.feedMv = x.feedMv ∧
      (∀ u, x.inputSince[2]? = some (some u) → u + 1000 ≤ s.opUs → x.input ≠ 3 → y.input = 3) ∧
      (y.state = 3 → ∀ (n : Nat) (o : FieldOutput), n / 8 = g → t.field.outputs[n]? = some o →
        o.high = false ∧ o.low = false) ∧
      (y.state = x.state → t.field.reports = s.field.reports) ∧
      (y.state ≠ x.state → t.field.reports = s.field.reports ++
        [⟨0x3040, g, y.state, if y.feed < y.input then x.inputMv else x.feedMv⟩]) ∧
      t.field = { s.field with
        groups := t.field.groups, outputs := t.field.outputs, reports := t.field.reports } ∧
      t = { s with field := t.field, hi := mirrorOf s t }) ∧
  (∀ (g : Nat) (back : Bool) (x : FieldGroup) (s : State), g < s.unit.variant.groups →
    s.field.groups[g]? = some x → x.switchOn ≠ back → x.switchFault = false →
    ∃ t, Machine.exec (.groupSwitchFault g back) s = .next t ∧
      t.field.groups = s.field.groups.set g { x with switchFault := true, readBack := back } ∧
      (∀ (n : Nat) (o : FieldOutput), n / 8 = g → t.field.outputs[n]? = some o → o.high = false ∧ o.low = false) ∧
      t.field.reports =
        s.field.reports ++ [⟨0x3041, g, if x.switchOn then 1 else 0, if back then 1 else 0⟩] ∧
      t.field = { s.field with
        groups := t.field.groups, outputs := t.field.outputs, reports := t.field.reports } ∧
      t = { s with field := t.field, hi := mirrorOf s t })

/-! ### CAN -/

/-- A received frame goes into the queue its filter names while that has room; in the rate detection every data frame
goes into Q1 for the node list, and the next candidate follows after 250 ms without a frame or on a bus error. -/
def Obligations.CanReceives : Prop :=
  (∀ (k : Nat) (f : CanFrame) (s : State), s.canDetects k = false → s.canRuns k = true → k < s.can.length →
    (s.port k).busOff = false → f.remote = false →
    filterAction (((s.canConfig k).map CanConfig.filters).getD []) f = 1 →
    ∃ t, Machine.exec (.canFrameReceived k f) s = .next t ∧ PortOnly s t k ∧ (t.port k).q1 = (s.port k).q1 ∧
      ((s.port k).q0.length < 32 → ∃ r, (t.port k).q0 = (s.port k).q0 ++ [r] ∧ r.data = f.data ∧ r.ident = f.ident ∧
        r.fd = f.fd ∧ r.extended = f.extended ∧ (t.port k).rxQueued = (s.port k).rxQueued + 1) ∧
      (32 ≤ (s.port k).q0.length → (t.port k).q0 = (s.port k).q0 ∧
        (t.port k).q0Overflow = (s.port k).q0Overflow + 1 ∧ LastReport t 0x4020 k 0 ((s.port k).q0Overflow + 1)) ∧
      t.outbox = s.outbox) ∧
  (∀ (k : Nat) (f : CanFrame) (s : State), s.canDetects k = false → s.canRuns k = true → k < s.can.length →
    (s.port k).busOff = false →
    (f.remote = true ∨ filterAction (((s.canConfig k).map CanConfig.filters).getD []) f = 3) →
    ∃ t, Machine.exec (.canFrameReceived k f) s = .next t ∧ PortOnly s t k ∧ (t.port k).q0 = (s.port k).q0 ∧
      (t.port k).q1 = (s.port k).q1 ∧ (t.port k).rxRejected = (s.port k).rxRejected + 1) ∧
  (∀ (k : Nat) (s : State), s.canDetects k = true → k < s.can.length → (s.port k).nominalLocked = false →
    (s.port k).lastFrameUs + 250000 ≤ s.opUs →
    ∃ t, Machine.exec (.rateDetectTimeout k) s = .next t ∧
      t.port k = { s.port k with
        nominal := (s.port k).nominal % 4 + 1, dataRate := 1, goodRun := 0, goodBrs := 0, lastFrameUs := s.opUs } ∧
      PortOnly s t k ∧ t.recorder = s.recorder) ∧
  (∀ (k : Nat) (f : CanFrame) (s : State), s.canDetects k = true → k < s.can.length → f.remote = false →
    (s.port k).q1.length < 64 →
    ∃ t r, Machine.exec (.canFrameReceived k f) s = .next t ∧ PortOnly s t k ∧ (t.port k).q0 = (s.port k).q0 ∧
      (t.port k).q1 = (s.port k).q1 ++ [r] ∧ r.data = f.data ∧ r.ident = f.ident ∧
      (t.port k).goodRun = (s.port k).goodRun + 1 ∧ (t.port k).lastFrameUs = s.opUs ∧
      ((t.port k).nominalLocked = ((s.port k).nominalLocked || decide (3 ≤ (s.port k).goodRun + 1)))) ∧
  (∀ (k : Nat) (e : BusError) (s : State), s.canDetects k = true → k < s.can.length →
    ∃ t, Machine.exec (.canBusError k e) s = .next t ∧ PortOnly s t k ∧ t.recorder = s.recorder ∧
      (t.port k).goodRun = 0 ∧ (t.port k).goodBrs = 0 ∧
      (e.afterBrs = false → (s.port k).nominalLocked = false →
        (t.port k).nominal = (s.port k).nominal % 4 + 1 ∧ (t.port k).dataRate = 1) ∧
      (e.afterBrs = true → (t.port k).nominal = (s.port k).nominal ∧ (t.port k).dataRate =
        (if (s.port k).dataLocked then (s.port k).dataRate else (s.port k).dataRate % 3 + 1)))

/-- The transmit FIFO: a commit puts the waiting frames and the new ones into identifier order with none of the new ones
lost, a head sent leaves the FIFO, a cancelled head returns unless a newer frame for its node waits, which then takes
over the head's PRIO 0. -/
def Obligations.CanTransmits : Prop :=
  (∀ (k : Nat) (s : State), s.canRuns k = true → k < s.can.length → (s.port k).busOff = false →
    (s.xing .clFb).linkDown = false →
    ∃ t, Machine.exec (.canCommitReorder k false) s = .next t ∧ PortOnly s t k ∧ (t.port k).fresh = [] ∧
      (t.port k).fifo.length ≤ 32 ∧
      List.Pairwise (fun a b => a.ident ≤ b.ident) ((t.port k).fifo ++ (t.port k).rest) ∧
      ((s.port k).blocked = [] → ∀ f ∈ (s.port k).fresh, ∃ g ∈ (t.port k).fifo ++ (t.port k).rest,
        g.node = f.node ∧ g.data = f.data) ∧ t.recorder = s.recorder ∧ t.outbox = s.outbox) ∧
  (∀ (k : Nat) (f : TxFrame) (l : List TxFrame) (s : State), s.canRuns k = true → k < s.can.length →
    (s.port k).fifo = f :: l →
    ∃ t, Machine.exec (.canTxDone k) s = .next t ∧ PortOnly s t k ∧
      t.outbox = s.outbox ++ [Output.can k f.ident f.data] ∧ (t.port k).txDone = (s.port k).txDone + 1 ∧
      (t.port k).tec = (s.port k).tec - 1 ∧ (t.port k).fifo ++ (t.port k).rest = l ++ (s.port k).rest ∧
      (t.port k).q0 = (s.port k).q0 ∧ (t.port k).q1 = (s.port k).q1) ∧
  (∀ (k : Nat) (f : TxFrame) (l : List TxFrame) (s : State), s.canRuns k = true → k < s.can.length →
    (s.port k).fifo = f :: l → f.tooLate = true →
    ∃ t, Machine.exec (.canTxCancelled k) s = .next t ∧ PortOnly s t k ∧ t.recorder = s.recorder ∧ t.outbox = s.outbox ∧
      ((∃ g ∈ l ++ (s.port k).rest, g.node = f.node) →
        ((t.port k).fifo ++ (t.port k).rest).length = (l ++ (s.port k).rest).length ∧
        List.Pairwise (fun a b => a.ident ≤ b.ident) ((t.port k).fifo ++ (t.port k).rest) ∧
        ∀ g ∈ l ++ (s.port k).rest,
          { g with ident := if g.node = f.node ∧ prioOf f.ident = 0 then frameId 0 g.node else g.ident } ∈
            (t.port k).fifo ++ (t.port k).rest) ∧
      ((∀ g ∈ l ++ (s.port k).rest, g.node ≠ f.node) →
        { f with tooLate := false } ∈ (t.port k).fifo ++ (t.port k).rest))

/-- Bus errors count by their kind, the transmit counter above 255 is bus-off, sixteen post-arbitration bit errors in a
row block the identifier for a second; a block ends at its instant, bus-off after its recovery time. The counts of the
standard rest on log entry 10. -/
def Obligations.CanFaults : Prop :=
  (∀ (k : Nat) (e : BusError) (s : State), s.canDetects k = false → s.canRuns k = true → k < s.can.length →
    (s.port k).busOff = false →
    ∃ t, Machine.exec (.canBusError k e) s = .next t ∧ PortOnly s t k ∧ t.outbox = s.outbox ∧
      (e.transmitting = false → (s.port k).tec ≤ 255 →
        (t.port k).recv = Nat.min 255 ((s.port k).recv + recRise e) ∧ (t.port k).tec = (s.port k).tec ∧
        (t.port k).passive = (decide (127 < (s.port k).tec) || decide (127 < (t.port k).recv))) ∧
      (e.transmitting = true → (s.port k).tec + tecRise (s.port k).passive e ≤ 255 →
        (t.port k).tec = (s.port k).tec + tecRise (s.port k).passive e ∧ (t.port k).busOff = false) ∧
      (e.transmitting = true → 255 < (s.port k).tec + tecRise (s.port k).passive e →
        (t.port k).busOff = true ∧ (t.port k).busOffUs = s.opUs ∧
        (t.port k).fifo = [] ∧ (t.port k).rest = [] ∧ (t.port k).fresh = [] ∧
        (t.port k).busOffCount = (s.port k).busOffCount + 1 ∧ (t.port k).segmentLost = true ∧
        ((s.xing .fbMg).linkDown = false →
          Recorded s t 0x4011 k ((s.port k).fifo.length + (s.port k).rest.length + (s.port k).fresh.length) 0) ∧
        ((s.xing .fbMg).linkDown = true → t.recorder = s.recorder))) ∧
  (∀ (k : Nat) (e : BusError) (f : TxFrame) (l : List TxFrame) (s : State), s.canDetects k = false →
    s.canRuns k = true → k < s.can.length → (s.port k).busOff = false → e.transmitting = true →
    e.afterArbitration = true → e.kind = .bit → (s.port k).tec + 8 ≤ 255 → (s.port k).fifo = f :: l →
    countOf (s.port k).clash f.ident = 15 →
    ∃ t, Machine.exec (.canBusError k e) s = .next t ∧ PortOnly s t k ∧
      (f.ident, s.opUs + 1000000) ∈ (t.port k).blocked ∧ (t.port k).clashCount = (s.port k).clashCount + 1 ∧
      (∀ g ∈ (t.port k).fifo ++ (t.port k).rest, g.ident ≠ f.ident) ∧ LastReport t 0x4030 k f.ident 0) ∧
  (∀ (k ident : Nat) (s : State),
    ∃ t, Machine.exec (.idClashBlockExpiry k ident) s = .next t ∧ PortOnly s t k ∧ t.recorder = s.recorder ∧
      t.port k = { s.port k with
        blocked := (s.port k).blocked.filter (fun b => !(b.1 == ident && b.2 ≤ s.opUs)) }) ∧
  (∀ (k : Nat) (s : State), (s.port k).busOff = true →
    (s.port k).busOffUs + 1408000 / nominalRate (s.canRates k).1 ≤ s.opUs →
    ∃ t, Machine.exec (.busOffRecovery k) s = .next t ∧ PortOnly s t k ∧
      t.port k = { s.port k with busOff := false, tec := 0, recv := 0, passive := false } ∧
      Recorded s t 0x4012 k (s.opUs - (s.port k).busOffUs) 0)

/-! ### Telegrams and the safety network -/

/-- Datagrams of whole telegrams reach the check unit; a telegram that both lanes accept moves the node's references and
waits for the next freeze, one that fails a check only counts and is recorded, one the lanes disagree on is dropped; a
silent LAN is down. -/
def Obligations.TelegramsChecked : Prop :=
  (∀ (d : Datagram) (l : Lan) (s : State), s.unit.variant.ethernet = true → s.power.state.powered = true →
    s.net.lans[d.lan]? = some l → l.down = false → d.vlanTagged = false → d.options = false → d.fragment = false →
      d.port = 47217 → d.checksumOk = true →
    d.data.length % 64 = 0 → d.data.length ≤ 1280 → d.data ≠ [] →
    (∀ x ∈ s.net.seen, x.1 = d.source → x.2.1 = d.prpSeq → x.2.2 + 400000 ≤ s.opUs) →
    s.net.buffer.length + d.data.length / 64 ≤ 4096 →
    ∃ t, Machine.exec (.datagramReceived d) s = .next t ∧
      t.net.buffer = s.net.buffer ++ (telegramsOf d.data).map (fun b => ⟨8 + d.lan, b, s.opUs, false⟩) ∧
      t.net.lans = s.net.lans.set d.lan { l with lastUs := s.opUs, received := l.received + 1 } ∧
      t.net.nodes = s.net.nodes ∧ t.net.accepted = s.net.accepted ∧
      t = { s with net := t.net, hi := mirrorOf s t }) ∧
  (∀ (x : RxTelegram) (l : List RxTelegram) (d : NodeDyn) (s : State), s.power.state = .run → s.station.isSome = true →
    CanQuiet s → s.net.buffer = x :: l → s.verdict x = (0, .accept false false) →
    (s.xing (descriptorPath x.port)).linkDown = false →
    s.nodeDyn (tgSource x.data) = some d → tgType x.data ≠ 0 →
    (∀ r ∈ tgRecords x.data, ∃ o ∈ s.objectsOf (tgSource x.data), o.1 = r.1) →
    ∃ t d', Machine.exec (.telegramCheck none none) s = .next t ∧ t.nodeDyn (tgSource x.data) = some d' ∧
      d'.reference = some (tgEpoch x.data, tgAlive x.data) ∧ d'.candidate = none ∧ d'.resync = none ∧
      d'.lastRxUs = some x.arrivalUs ∧ d'.accepted = saturate 32 (d.accepted + 1) ∧ d'.dropped = d.dropped ∧
      t.net.accepted = s.net.accepted ++ [{
        node := tgSource x.data, kind := tgType x.data, cycle := tgCycle x.data, records := tgRecords x.data,
        arrivalUs := x.arrivalUs, acceptUs := s.opUs, priorRxUs := d.lastRxUs }] ∧ t.net.buffer = l ∧
          t.recorder = s.recorder ∧
      t = { s with net := t.net, hi := mirrorOf s t }) ∧
  (∀ (x : RxTelegram) (l : List RxTelegram) (d : NodeDyn) (z : SeqStep) (s : State), s.power.state.powered = true →
    s.station.isSome = true → CanQuiet s → s.net.buffer = x :: l → s.verdict x = (5, z) →
    s.nodeDyn (tgSource x.data) = some d →
    ∃ t, Machine.exec (.telegramCheck none none) s = .next t ∧
      t.nodeDyn (tgSource x.data) = some { d with codeFail := saturate 16 (d.codeFail + 1) } ∧
      t.net.accepted = s.net.accepted ∧ t.net.buffer = l ∧ Recorded s t 0x5001 (tgSource x.data) 5 1 ∧
      t = { s with net := t.net, recorder := t.recorder, hi := mirrorOf s t }) ∧
  (∀ (x : RxTelegram) (l : List RxTelegram) (y : Nat) (s : State), s.power.state.powered = true →
    s.station.isSome = true → CanQuiet s → s.net.buffer = x :: l → y ≠ (s.verdict x).1 →
    (s.net.disagreements.filter (fun i => s.opUs < i + 1000000)).length < 16 →
    ∃ t, Machine.exec (.telegramCheck none (some y)) s = .next t ∧ t.net.accepted = s.net.accepted ∧
      t.net.buffer = l ∧ Recorded s t 0x5010 (tgSource x.data) (s.verdict x).1 y ∧
      t = { s with net := t.net, recorder := t.recorder, hi := mirrorOf s t }) ∧
  (∀ (k : Nat) (l : Lan) (s : State), s.unit.variant.ethernet = true → s.power.state.powered = true →
    s.net.lans[k]? = some l → l.down = false → l.lastUs + 6000000 ≤ s.opUs →
    ∃ t, Machine.exec (.lanDown k) s = .next t ∧
      t.net = { s.net with lans := s.net.lans.set k { l with down := true } } ∧ Recorded s t 0x5040 k 1 0 ∧
      t = { s with net := t.net, recorder := t.recorder, hi := mirrorOf s t })

/-- The services of the Ethernet ports: supervision frames every 2 s, ARP answered for the module's own addresses only
with the sender's address learned, ICMP echo on X8, and received supervision frames counted. -/
def Obligations.EthernetServices : Prop :=
  (∀ s : State, s.lanSends = true → s.net.supervisionUs ≤ s.opUs →
    ∃ t, Machine.exec .prpSupervisionSend s = .next t ∧
      t = { s with net := { s.net with supervisionUs := s.opUs + 2000000 },
                   outbox := s.outbox ++ [Output.supervision 0, Output.supervision 1],
                   hi := mirrorOf s t }) ∧
  (∀ (k : Nat) (a sender : Word) (mac : BitVec 48) (s : State), s.lanSends = true →
    ∃ t, Machine.exec (.arpRequest false k a sender mac) s = .next t ∧
      t.net.arp = (sender, mac) :: s.net.arp.filter (fun x => x.1 != sender) ∧
      t.outbox = s.outbox ++ (if a = word (10 * 2 ^ 24 + s.networkId.toNat % 256 * 65536 + s.ownId)
        then [Output.arpReply false k a] else []) ∧
      t = { s with net := { s.net with lans := t.net.lans, arp := t.net.arp }, outbox := t.outbox,
                   recorder := t.recorder, hi := mirrorOf s t }) ∧
  (∀ (k : Nat) (a sender : Word) (mac : BitVec 48) (s : State), s.power.state.powered = true →
    ∃ t, Machine.exec (.arpRequest true k a sender mac) s = .next t ∧
      t = { s with outbox := s.outbox ++ (if a = s.hi.x8Address then [Output.arpReply true 0 a] else []),
                   hi := mirrorOf s t }) ∧
  (∀ (a : Word) (b : List Byte) (s : State), s.power.state.powered = true → s.mg.alive = true →
    ∃ t, Machine.exec (.icmpEcho a b) s = .next t ∧
      t = { s with outbox := s.outbox ++ (if a = s.hi.x8Address then [Output.icmpReply b] else []),
                   hi := mirrorOf s t }) ∧
  (∀ (k : Nat) (l : Lan) (s : State), s.unit.variant.ethernet = true → s.power.state.powered = true →
    s.net.lans[k]? = some l →
    ∃ t, Machine.exec (.supervisionFrameReceived k) s = .next t ∧
      t.net = { s.net with lans := s.net.lans.set k { l with
        lastUs := s.opUs, down := false, received := l.received + 1, supervision := l.supervision + 1 } } ∧
      (l.down = true → Recorded s t 0x5040 k 0 0) ∧ (l.down = false → t.recorder = s.recorder) ∧
      t = { s with net := t.net, recorder := t.recorder, hi := mirrorOf s t })

/-! ### The host island -/

/-- The BAR0 registers: what each write does, and that a read of HI_XING returns the word as it was and clears its
count. -/
def Obligations.HostRegisters : Prop :=
  (∀ (high : Bool) (v : Word) (s : State),
    ∃ t, Machine.exec (.hiDoneClear high v) s = .next t ∧
      (∀ n, n < 64 → t.hi.done.getLsbD n =
        (s.hi.done.getLsbD n && !(if high then decide (32 ≤ n) && v.getLsbD (n - 32) else v.getLsbD n))) ∧
      (∀ n, n < 64 → t.hi.busy.getLsbD n = (s.hi.busy.getLsbD n && !(s.hi.done.getLsbD n && !t.hi.done.getLsbD n))) ∧
      t = { s with hi := { mirrorOf s t with done := t.hi.done, busy := t.hi.busy } }) ∧
  (∀ (v : Word) (s : State),
    (∃ t, Machine.exec (.hiIrqStatClear v) s = .next t ∧
      (∀ n, n < 4 → t.hi.irqStat.getLsbD n = (s.hi.irqStat.getLsbD n && !v.getLsbD n)) ∧
      t = { s with hi := { mirrorOf s t with irqStat := t.hi.irqStat, msiSent := s.hi.msiSent &&& ~~~(v.setWidth 4) } }) ∧
    (∃ t l, Machine.exec (.hiIrqMaskWrite v) s = .next t ∧ t.hi.irqMask = v.setWidth 4 ∧
      t.outbox = s.outbox ++ l ∧
      l = ((List.range 4).filter (fun n =>
        s.hi.irqMask.getLsbD n && !v.getLsbD n && s.hi.msiOwed n)).map (fun n => Output.msi (n % s.hi.vectors)) ∧
      (∀ n, n < 4 → t.hi.msiSent.getLsbD n =
        (s.hi.msiSent.getLsbD n || (s.hi.irqMask.getLsbD n && !v.getLsbD n && s.hi.msiOwed n))) ∧
      t = { s with hi := { mirrorOf s t with irqMask := t.hi.irqMask, msiSent := t.hi.msiSent }, outbox := t.outbox }) ∧
    (∃ t, Machine.exec (.hiNoteTailWrite v) s = .next t ∧
      t.hi.tail = (if ((v.setWidth 8 : Byte) - s.hi.tail).toNat ≤ (s.hi.head - s.hi.tail).toNat then v.setWidth 8
        else s.hi.tail) ∧
      t = { s with hi := { mirrorOf s t with tail := t.hi.tail } })) ∧
  (∀ (b mg cl : Bool) (s : State),
    (∃ t, Machine.exec (.m2Write b) s = .next t ∧ (b = true → t.hi.unstable = false) ∧
      t = { s with hi := { mirrorOf s t with m2 := b } }) ∧
    (∃ t, Machine.exec (.linkEventClear mg cl) s = .next t ∧
      t = { s with hi := { mirrorOf s t with
        eventMg := s.hi.eventMg && !mg, eventCl := s.hi.eventCl && !cl } }) ∧
    ∃ t, Machine.exec .hiXingRead s = .next t ∧
      t = { s with hi := { mirrorOf s t with readData := s.hi.xingWord, unstableCount := 0 } }) ∧
  (∀ (n : Nat) (s : State), n = 1 ∨ n = 2 ∨ n = 4 →
    ∃ t, Machine.exec (.msiVectorEnable n) s = .next t ∧
      t = { s with hi := { mirrorOf s t with vectors := n } }) ∧
  (∀ (v : Word) (s : State), s.power.state.powered = true →
    (∃ t, Machine.exec (.registerWrite 0x010 32 v) s = .next t ∧
      t = { s with hi := { mirrorOf s t with scratch := v } }) ∧
    ∀ n : Nat, n < 32 → ∃ t, Machine.exec (.registerWrite 0x010 n v) s = .next t ∧
      t = { s with hi := mirrorOf s t })

/-- A host link reset takes the host island's registers and window back and fences its crossings, the management core's
failure ends its sessions, fences its crossings and leaves what it had not delivered outstanding, its restart answers
what was outstanding DISCARDED, and the first value over a fenced crossing lifts the fence with its counts taken; a new
maintenance address takes effect at its instant. The counts at a link up and the queues of a lost management core rest
on log entries 57 and 58. -/
def Obligations.LinksAndRestarts : Prop :=
  (∀ s : State, s.power.state.powered = true →
    ∃ t, Machine.exec .hostLinkReset s = .next t ∧ t.hi.bar2 = [] ∧ t.hi.done = 0 ∧ t.hi.busy = 0 ∧ t.hi.irqStat = 0 ∧
      t.hi.irqMask = 0xF ∧ t.hi.scratch = 0 ∧ t.hi.head = 0 ∧ t.hi.tail = 0 ∧ t.hi.state = 0 ∧ t.hi.downMg = true ∧
      t.hi.downCl = true ∧ t.hi.subscribed = 0 ∧ t.hi.heldDone = s.hi.heldDone ∧
      (∃ n, t.hi.heldNotes = n :: s.hi.heldNotes ∧ n.2.kind = 0x0003) ∧
      (∀ x ∈ [Crossing.hiMg, .mgHi, .clHi], (t.xing x).linkDown = true) ∧
      (t.xing .hiMg).counter = (s.xing .hiMg).counter.sourceReset ∧
      t.mg = { s.mg with sessions := s.mg.sessions.filter (fun x => x.via != .pcie) } ∧
      t = { s with hi := t.hi, mg := t.mg, xings := t.xings, recorder := t.recorder
                   bench := { s.bench with undo := s.bench.undo.map (fun (u : Undo) =>
                     { u with sessions := u.sessions.filter (fun x => x.via != .pcie) }) } }) ∧
  (∀ s : State, s.mg.alive = true → s.power.state.powered = true →
    ∃ t, Machine.exec .mgHeartbeatLoss s = .next t ∧
      t.mg = { s.mg with
        alive := false, queue := [], sessions := [], heartbeats := s.mg.heartbeats.sourceReset
        outstanding := s.mg.outstanding ++ s.hi.heldDone.map (fun r => (r.req, r.opcode)) } ∧
      FirstReport s t 0x0110 0 0 0 ∧ t.hi.downMg = true ∧ t.hi.heldDone = [] ∧ t.hi.heldNotes = [] ∧
      t.hi.subscribed = 0 ∧ t.hi.x8Subscribed = 0 ∧
      (∀ x ∈ [Crossing.mgCl, .mgHi, .clMg, .hiMg, .rtMg, .fbMg], (t.xing x).linkDown = true) ∧
      t = { s with mg := t.mg, hi := t.hi, xings := t.xings, recorder := t.recorder, outbox := t.outbox, diag := none
                   can := s.can.map CanPort.mgReset
                   bench := { s.bench with undo := s.bench.undo.map (fun (u : Undo) => { u with sessions := [] }) } }) ∧
  (∀ s : State, s.mg.alive = false → s.power.state.powered = true → s.mg.voided = [] → s.hi.downMg = true →
    (∀ x ∈ s.mg.outstanding, x.1.via = .pcie) →
    ∃ t, Machine.exec .mgRestart s = .next t ∧ t.mg.alive = true ∧ t.mg.outstanding = [] ∧
      (∃ l, t.hi.heldDone = s.hi.heldDone ++ l ∧ l.length = s.mg.outstanding.length ∧
        ∀ r ∈ l, r.status = 0x06 ∧ (r.req, r.opcode) ∈ s.mg.outstanding) ∧
      t.recorder.frozenUntil = none ∧ t.recorder.staging = [] ∧ t.recorder.ring = s.recorder.ring ∧
      (s.recorder.frozenUntil.isSome = true → LastReport t 0xF002 s.rt.stagedMirror 0 3) ∧
      t = { s with mg := t.mg, hi := t.hi, recorder := t.recorder, rt := { s.rt with stagedMirror := 0 },
                   eng := { s.eng with lastSeq := none }, outbox := t.outbox }) ∧
  (∀ (x : Crossing) (s : State), (s.xing x).linkDown = true → s.sidesUp x = true → s.power.state.powered = true →
    ∃ t, Machine.exec (.crossingLinkUp x) s = .next t ∧ t.xing x = { s.xing x with
        linkDown := false, stale := false, unstable := false, counter := (s.xing x).counter.linkUp } ∧
      (∀ y, y ≠ x → t.xing y = s.xing y) ∧ (x ≠ .fbMg → t.can = s.can) ∧
      Recorded s t 0xC030 x.code 0 (s.opUs - (s.xing x).downUs) ∧
      t = { s with xings := t.xings, hi := t.hi, recorder := t.recorder, outbox := t.outbox, can := t.can
                   field := { s.field with frames := t.field.frames }
                   net := { s.net with laneCounts := t.net.laneCounts }
                   mg := { s.mg with heartbeats := t.mg.heartbeats } }) ∧
  (∀ (ip gw : Word) (plen e : Nat) (s : State), s.hi.x8New = some (ip, plen, gw, e) → e ≤ s.opUs →
    ∃ t, Machine.exec .maintAddressApply s = .next t ∧
      t = { s with hi := { mirrorOf s t with
        x8Address := ip, x8Plen := plen, x8Gateway := gw, x8New := none } })

/-! ### The recorder -/

/-- The oldest report becomes the next record, unsuppressed at F3 and above, counted where its code's bucket is empty; a
block declared bad is withdrawn and lowers the capacity by 128; a token is refilled on its grid; a summary follows sixty
seconds after the first suppression; a freeze ends at its time with the staged records. The code of the block's record
is the model's free value (log entry 91). -/
def Obligations.RecorderWrites : Prop :=
  (∀ (r : Record) (l : List Record) (s : State), s.mg.alive = true → s.power.state.powered = true →
    s.recorder.inbox = r :: l → 5 ≤ r.severity → r.code ≠ 0x5001 → s.recorder.frozenUntil = none →
    s.recorder.ring.length < s.recorder.capacity →
    ∃ t, Machine.exec (.recordWrite none) s = .next t ∧
      t.recorder = { s.recorder with
        inbox := l, ring := s.recorder.ring ++ [{ r with number := s.recorder.next }], next := s.recorder.next + 1 } ∧
      t = { s with recorder := t.recorder, hi := mirrorOf s t }) ∧
  (∀ (b : Nat) (s : State), s.mg.alive = true → s.power.state.powered = true → b ∉ s.recorder.badBlocks →
    ∃ t, Machine.exec (.recordWrite (some b)) s = .next t ∧ t.recorder.badBlocks = b :: s.recorder.badBlocks ∧
      t.recorder.capacity = s.recorder.capacity - 128 ∧ t.sec = { s.sec with pendNand := true } ∧
      t = { s with recorder := t.recorder, sec := t.sec, net := { s.net with counters := t.net.counters },
                   rt := { s.rt with stagedMirror := t.rt.stagedMirror }, hi := mirrorOf s t }) ∧
  (∀ (r : Record) (l : List Record) (b : Bucket) (s : State), s.mg.alive = true → s.power.state.powered = true →
    s.recorder.inbox = r :: l → r.severity < 5 → classOf r.code < 15 → r.code ≠ 0x5001 →
    s.recorder.bucket r.code s.opUs = b → b.code = r.code → b.tokens = 0 → b.given = 0 → b.refillUs = s.opUs →
    (s.recorder.rateOf (classOf r.code)).2 ≠ 0 →
    ∃ t, Machine.exec (.recordWrite none) s = .next t ∧ t.recorder.inbox = l ∧ t.recorder.ring = s.recorder.ring ∧
      t.recorder.next = s.recorder.next ∧
      t.recorder.bucket r.code s.opUs = { b with
        suppressed := b.suppressed + 1, firstUs := some (b.firstUs.getD (r.opMs * 1000)) } ∧
      t = { s with recorder := t.recorder, hi := mirrorOf s t }) ∧
  (∀ (b : Bucket) (rate burst : Nat) (s : State), s.mg.alive = true → b ∈ s.recorder.buckets →
    s.recorder.bucket b.code s.opUs = b → s.recorder.rateOf (classOf b.code) = (rate, burst) → b.suppressed = 0 →
    ∃ t, Machine.exec (.tokenRefill b.code) s = .next t ∧
      (t.recorder.bucket b.code s.opUs).tokens =
        Nat.min burst (b.tokens + ((s.opUs - b.refillUs) * rate / 1000000 - b.given)) ∧
      t = { s with recorder := { s.recorder with buckets := t.recorder.buckets },
                   hi := mirrorOf s t }) ∧
  (∀ (b : Bucket) (first : Nat) (s : State), s.mg.alive = true → s.recorder.bucket b.code s.opUs = b →
    b.firstUs = some first → first + 60000000 ≤ s.opUs → b.suppressed ≠ 0 → s.recorder.frozenUntil = none →
    s.recorder.ring.length < s.recorder.capacity →
    ∃ t r, Machine.exec (.suppressionSummaryTimer b.code) s = .next t ∧
      t.recorder.ring = s.recorder.ring ++ [r] ∧ r.code = 0xF001 ∧ r.p0 = word b.code ∧ r.p1 = word b.suppressed ∧
      r.number = s.recorder.next ∧ t.recorder.bucket b.code s.opUs = { b with suppressed := 0, firstUs := none } ∧
      t = { s with recorder := t.recorder, hi := mirrorOf s t }) ∧
  (∀ (e : Nat) (s : State), s.mg.alive = true → s.recorder.frozenUntil = some e → e ≤ s.opUs → s.recorder.lost = 0 →
    s.recorder.ring.length + s.recorder.staging.length ≤ s.recorder.capacity →
    ∃ t, Machine.exec .eventFreezeExpiry s = .next t ∧ t.recorder.frozenUntil = none ∧ t.recorder.staging = [] ∧
      t.recorder.ring.length = s.recorder.ring.length + s.recorder.staging.length ∧
      t.recorder.ring.take s.recorder.ring.length = s.recorder.ring ∧
      t.recorder.next = s.recorder.next + s.recorder.staging.length ∧
      t = { s with recorder := t.recorder, rt := { s.rt with stagedMirror := 0 },
                   hi := mirrorOf s t })

/-! ### The mailbox: the engine's commands -/

/-- ROUTE_SET takes every lock of a route that fails no check, is refused or waits with the first reason otherwise;
ROUTE_CANCEL frees a route in SETTING or LOCKED and leaves a FREE or OCCUPIED one; POINT_MOVE throws both ends;
SIGNAL_STOP demands STOP and waits for the report. -/
def Obligations.RouteCommands : Prop :=
  (∀ (q : Req) (r : Route) (s s1 : State), BenchOpen s → q.p0 < s.eng.routes.length → s.fullRoute q.p0 = some r →
    (s.rdyn q.p0).state = .free → s.counted < 512 → (∀ p ∈ s.eng.queue, p.arrival ≠ q.arrival) →
    s1 = (State.asked s 0x0101 q (.route q.p0)).modRoute q.p0
      (fun d => { d with state := .requested, arrival := q.arrival }) →
    ∃ t, Machine.exec (.routeSet q) s = .next t ∧ EngineOnly s t ∧ (∀ m, m ≠ q.p0 → t.rdyn m = s.rdyn m) ∧
      (s1.routeReasons r q.arrival = [] →
        (t.rdyn q.p0).state = (if (s1.throws r).isEmpty then .locked else .setting) ∧ t.eng.queue = s.eng.queue ∧
        t.bench.completions = s.bench.completions ++ [done q 0x0101 .accepted] ∧
        (∀ x ∈ s.points r.entries, x.element < s.eng.elems.length → q.p0 ∈ (t.dyn x.element).holders) ∧
        (∀ x ∈ s.sections r.path, x.element < s.eng.elems.length → (t.dyn x.element).pathLock = some q.p0) ∧
        (∀ x ∈ s.sections r.overlap, x.element < s.eng.elems.length → q.p0 ∈ (t.dyn x.element).overlapLocks) ∧
        (∀ x ∈ s.signals r.flank, x.element < s.eng.elems.length → q.p0 ∈ (t.dyn x.element).stopLocks)) ∧
      (∀ x, firstReason (s1.routeReasons r q.arrival) = some x →
        t.eng.elems = s.eng.elems ∧ t.eng.txns = s.eng.txns ∧ (t.rdyn q.p0).reason = x.1 ∧ (t.rdyn q.p0).param = x.2 ∧
        (waits x.1 = false → (t.rdyn q.p0).state = .free ∧ t.eng.queue = s.eng.queue ∧
          t.bench.completions = s.bench.completions ++ [done q 0x0101 .refused x.1 x.2]) ∧
        (waits x.1 = true → (t.rdyn q.p0).state = .requested ∧
          t.bench.completions = s.bench.completions ++ [done q 0x0101 .pending x.1 x.2] ∧
          ∃ p, t.eng.queue = s.eng.queue ++ [p] ∧ p.want = .route q.p0 ∧ p.arrival = q.arrival ∧ p.reason = x.1 ∧
            p.req = none))) ∧
  (∀ (q : Req) (r : Route) (s : State), BenchOpen s → q.p0 < s.eng.routes.length → s.fullRoute q.p0 = some r →
    (∀ x ∈ s.bench.requests, x.opcode ≠ 0x0101) →
    ∃ t, Machine.exec (.routeCancel q) s = .next t ∧
      ((s.rdyn q.p0).state = .setting ∨ (s.rdyn q.p0).state = .locked →
        (t.rdyn q.p0).state = .free ∧ (t.rdyn q.p0).reason = 0x012B ∧ (t.rdyn q.p0).param = q.slot ∧
        (∀ d ∈ t.eng.elems, q.p0 ∉ d.holders ∧ d.pathLock ≠ some q.p0 ∧ q.p0 ∉ d.overlapLocks ∧ q.p0 ∉ d.stopLocks) ∧
        (∀ m, m ≠ q.p0 → t.rdyn m = s.rdyn m) ∧ EngineOnly s t ∧
        t.bench.completions = s.bench.completions ++ [done q 0x0102 .ok (s.rdyn q.p0).state.code 0]) ∧
      ((s.rdyn q.p0).state = .free ∨ (s.rdyn q.p0).state = .occupied ∨ (s.rdyn q.p0).state = .releasing →
        t.eng = s.eng ∧ EngineOnly s t ∧ t.bench.completions = s.bench.completions ++
          [done q 0x0102 .ok (s.rdyn q.p0).state.code (s.rdyn q.p0).state.code])) ∧
  (∀ (q : Req) (s s1 : State), BenchOpen s → s.typeOf q.p0 = 2 → q.p1 ≤ 1 → s.counted < 512 →
    (∀ p ∈ s.eng.queue, p.arrival ≠ q.arrival) → s1 = State.asked s 0x0103 q (.point q.p0 q.p1 false) →
    ∃ t, Machine.exec (.pointMove q) s = .next t ∧ EngineOnly s t ∧ t.eng.routes = s.eng.routes ∧
      ((∀ e ∈ s.pointEnds q.p0, s.image e = q.p1) → t.eng.queue = s.eng.queue ∧ t.eng.txns = s.eng.txns ∧
        t.bench.completions = s.bench.completions ++ [done q 0x0103 .ok]) ∧
      ((∃ e ∈ s.pointEnds q.p0, s.image e ≠ q.p1) → s1.moveReasons (s.pointEnds q.p0) false q.arrival = [] →
        t.eng.queue = s.eng.queue ∧ t.bench.completions = s.bench.completions ++ [done q 0x0103 .accepted] ∧
        ∀ e ∈ s.pointEnds q.p0, t.kindInFlight .pointThrow e = true ∧
          (e < s.eng.elems.length → (t.dyn e).demand = some q.p1))) ∧
  (∀ (q : Req) (s : State), BenchOpen s → s.typeOf q.p0 = 3 → s.routesFrom q.p0 = [] →
    ∃ t, Machine.exec (.signalStop q) s = .next t ∧ EngineOnly s t ∧
      t.eng.waiting = s.eng.waiting ++ [.signalStop q q.p0 none] ∧
      (q.p0 < s.eng.elems.length → (t.dyn q.p0).demand = some 0) ∧
      (s.showsStop q.p0 = false → t.kindInFlight .signalStop q.p0 = true) ∧ (∀ j, j ≠ q.p0 → t.dyn j = s.dyn j) ∧
      t.eng.routes = s.eng.routes ∧ t.eng.queue = s.eng.queue ∧ t.bench.completions = s.bench.completions)

/-- DOOR_OPEN demands OPEN of every closed leaf it does not exclude, DOOR_CLOSE demands every leaf closed and ends the
opens; AUX_PREPARE answers with a challenge, AUX_CONFIRM consumes the prepare and executes only with that challenge. -/
def Obligations.DoorAndAuxCommands : Prop :=
  (∀ (q : Req) (mask : Nat) (s s1 : State), BenchOpen s → s.typeOf q.p0 = 4 → q.payload.length = 8 →
    zeros q.payload 6 2 = true → mask = ofLe (q.payload.take 6) → mask < 2 ^ (s.part q.p0).leaves.length →
    s.counted < 512 → (∀ p ∈ s.eng.queue, p.arrival ≠ q.arrival) → s1 = State.asked s 0x0301 q (.doors q.p0 mask) →
    s1.openReasons q.p0 mask = [] → s1.slotReasons q.arrival (s.leavesToOpen q.p0 mask).length = [] →
    ∃ t, Machine.exec (.doorOpen q) s = .next t ∧ EngineOnly s t ∧
      (q.p0 < s.eng.elems.length → (t.dyn q.p0).openDemand = true ∧ (t.dyn q.p0).opening = true) ∧
      (∀ l ∈ s.leavesToOpen q.p0 mask, t.kindInFlight .doorOpen l = true ∧
        (l < s.eng.elems.length → (t.dyn l).demand = some 3)) ∧
      t.eng.queue = s.eng.queue ∧ t.eng.routes = s.eng.routes ∧
      t.bench.completions = s.bench.completions ++ [done q 0x0301 .accepted]) ∧
  (∀ (q : Req) (s : State), BenchOpen s → s.typeOf q.p0 = 4 →
    ∃ t, Machine.exec (.doorClose q) s = .next t ∧ EngineOnly s t ∧
      t.eng.waiting = s.eng.waiting ++ [.doorClose q q.p0] ∧
      (q.p0 < s.eng.elems.length → (t.dyn q.p0).openDemand = false) ∧
      (∀ l ∈ (s.part q.p0).leaves, (l < s.eng.elems.length → (t.dyn l).demand = some 0) ∧
        ∀ g pos b m, s.part l = .leaf g pos b m → t.kindInFlight .doorOpen l = false) ∧
      t.eng.routes = s.eng.routes ∧ t.eng.queue = s.eng.queue ∧ t.bench.completions = s.bench.completions) ∧
  (∀ (q : Req) (kind pos ch : Nat) (s : State), BenchOpen s → q.p0 = kind + pos * 256 → kind < 256 → pos < 256 →
    s.auxParams kind pos q.p1 = true → s.auxRefusal kind q.p1 = none →
    (∀ p ∈ s.openPrepares, p.kind = kind → p.target ≠ q.p1) → s.openPrepares.length < 16 →
    ch = (Config.auxChallenge s.draws).toNat % 1000000 →
    ∃ t, Machine.exec (.auxPrepare q) s = .next t ∧ EngineOnly s t ∧ t.draws = s.draws + 1 ∧
      { kind := kind, position := pos, target := q.p1, challenge := ch, doneUs := none } ∈ t.eng.prepares ∧
      Recorded s t 0x6020 (auxWord kind pos q.p1) ch 0 ∧ t.eng = { s.eng with prepares := t.eng.prepares } ∧
      t.bench.completions = s.bench.completions ++ [done q 0x0201 .ok ch]) ∧
  (∀ (q : Req) (p : Prepare) (s : State), BenchOpen s → q.payload.length = 12 →
    s.auxParams (u8 q.payload 0) (u8 q.payload 1) (u16 q.payload 2) = true →
    s.eng.prepares.find? (fun p => p.kind == u8 q.payload 0 && p.position == u8 q.payload 1 &&
      p.target == u16 q.payload 2) = some p →
    ∃ t, Machine.exec (.auxConfirm q) s = .next t ∧ EngineOnly s t ∧ p ∉ t.eng.prepares ∧
      t.eng.routes.length = s.eng.routes.length ∧
      (p.challenge ≠ u32 q.payload 4 →
        t.bench.completions = s.bench.completions ++ [done q 0x0202 .refused 0x0161 p.kind] ∧
        t.eng = { s.eng with prepares := t.eng.prepares } ∧
        LastReport t 0x6022 (auxWord p.kind p.position p.target) 0x0161 (u32 q.payload 8)) ∧
      (p.challenge = u32 q.payload 4 → p.kind = 3 → p.expired = false → p.target ∈ s.eng.heldAreas →
        (∀ e, p.doneUs = some e → s.bench.freezeUs ≤ e + 30000000) →
        t.bench.completions = s.bench.completions ++ [done q 0x0202 .ok] ∧ p.target ∉ t.eng.heldAreas ∧
        (∀ (i : Nat) (x : Element), s.elem i = some x → x.part.typeCode = 2 → x.area = p.target →
          (t.dyn i).held = false) ∧
        FirstReport s t 0x6021 (auxWord p.kind p.position p.target) 0 (u32 q.payload 8)) ∧
      (p.challenge = u32 q.payload 4 → p.expired = false → (∀ e, p.doneUs = some e → s.bench.freezeUs ≤ e + 30000000) →
        s.auxRefusal p.kind p.target = none →
        t.bench.completions = s.bench.completions ++ [done q 0x0202 .ok] ∧
        FirstReport s t 0x6021 (auxWord p.kind p.position p.target) 0 (u32 q.payload 8) ∧
        (p.kind = 2 → t.eng = { s.eng with
          prepares := t.eng.prepares
          queue := s.eng.queue ++ [{ want := .point p.target p.position true, arrival := q.arrival,
                                     enteredUs := s.bench.freezeUs, opcode := 0x0103, req := none }] }) ∧
        (∀ r, p.kind = 1 → s.fullRoute p.target = some r → p.target < s.eng.routes.length →
          (t.rdyn p.target).emergencyEnd = some (s.bench.freezeUs + s.timeS r.approachRelease) ∧
          (∀ m, m ≠ p.target → t.rdyn m = s.rdyn m) ∧
          (r.entry < s.eng.elems.length → (t.dyn r.entry).demand = some 0))))

/-- BENCH_START and BENCH_RESTART lead into START with Ashlar reset, and without station data BENCH_RESTART is refused
for the data; BENCH_STOP ends RUN after the present cycle; a force set in RUN waits for the next freeze, a constant set
there for its phase O with its entry and event, and in STOP both take effect at once. -/
def Obligations.BenchCommands : Prop :=
  (∀ (q : Req) (s : State), s.power.state = .stop → s.power.dead = false → s.station.isSome = true →
    s.benchLifecycle = true → s.holds q (some .maintainer) = true → s.vote.dwellExpired = false →
    ∃ t, Machine.exec (.benchStart q) s = .next t ∧ StartBegins s t .benchStart ∧
      t.eng.waiting = s.eng.waiting ++ [.benchStart q] ∧ t.eng.routes = s.eng.routes) ∧
  (∀ (q : Req) (s : State), BenchOpen s → s.holds q (some .maintainer) = true →
    ∃ t, Machine.exec (.benchStop q) s = .next t ∧
      t = { s with bench := { s.bench with stopping := true },
                   eng := { s.eng with waiting := s.eng.waiting ++ [.benchStop q] },
                   mg := { s.mg with sessions := t.mg.sessions }, hi := mirrorOf s t }) ∧
  (∀ (q : Req) (s : State), s.power.state = .safe → s.power.dead = false → s.benchLifecycle = true →
    s.holds q (some .maintainer) = true → s.restartRefusal = none →
    ∃ t, Machine.exec (.benchRestart q) s = .next t ∧ StartBegins s t .benchRestart ∧ FirstReport s t 0x0102 0 0 0 ∧
      t.eng.waiting = s.eng.waiting ++ [.benchRestart q]) ∧
  (∀ (q : Req) (s : State), s.power.state = .safe → s.power.dead = false → s.station = none → s.lifecycle ≠ 5 →
    s.holds q (some .maintainer) = true → Machine.exec (.benchRestart q) s =
      .next ((s.heard q).complete 0x0403 q .refused 0x0422 0).settle) ∧
  (∀ (q : Req) (kind target : Nat) (s : State), BenchReads s → (s.lifecycle = 2 ∨ s.lifecycle = 4) →
    s.holds q (some .maintainer) = true → q.p0 = kind + target * 65536 → 1 ≤ kind → kind ≤ 3 → q.p1 < 256 →
    s.forceAbsent kind target = false → s.forceRefusal kind target q.p1 = none →
    s.bench.nextForces.find? (fun x => x.kind == kind && x.target == target) = none →
    ∃ t f, Machine.exec (.forceSet q) s = .next t ∧ f.kind = kind ∧ f.target = target ∧ f.value = q.p1 ∧
      f.role = s.roleOf q ∧ FirstReport s t 0x1060 kind target (q.p1 + s.roleOf q * 256) ∧
      (s.power.state = .run → t.bench.forces = s.bench.forces ∧ t.bench.newForces = s.bench.newForces ++ [.set f] ∧
        t.bench.completions = s.bench.completions ++ [done q 0x0410 .ok]) ∧
      (s.power.state = .stop → t.bench.forces = ForceChange.apply s.bench.forces (.set f) ∧ f ∈ t.bench.forces ∧
        t.bench.forcedShown = true) ∧
      t = { s with bench := t.bench, recorder := t.recorder, mg := t.mg, hi := t.hi, outbox := t.outbox }) ∧
  (∀ (q : Req) (s : State), BenchReads s → (s.lifecycle = 2 ∨ s.lifecycle = 4) →
    s.holds q (some .maintainer) = true → q.p0 % 256 = 0xFF → q.p0 / 256 % 256 = 0 →
    ∃ t, Machine.exec (.forceClear q) s = .next t ∧
      (s.power.state = .run → t.bench.forces = s.bench.forces ∧ t.bench.nextForces = [] ∧
        t.bench.completions = s.bench.completions ++ [done q 0x0411 .ok s.bench.nextForces.length]) ∧
      (s.power.state = .stop → t.bench.forces = [] ∧ t.bench.forcedShown = false) ∧
      t.recorder.inbox.length = s.recorder.inbox.length + s.bench.nextForces.length ∧
      t = { s with bench := t.bench, recorder := t.recorder, mg := t.mg, hi := t.hi, outbox := t.outbox }) ∧
  (∀ (q : Req) (st : Station) (s : State), BenchReads s → s.benchLifecycle = true → s.station = some st →
    st.changeMode = 2 → s.holds q (some .maintainer) = true → s.constantRefusal q.p0 q.p1 = none →
    s.log.length + s.bench.newLog.length < logCapacity → s.log.length ≠ 235930 →
    ∃ t e, Machine.exec (.constantSet q) s = .next t ∧ e.item = 3 ∧ e.subject = word q.p0 ∧
      e.before = word (s.nextConstant q.p0) ∧ e.after = word q.p1 ∧
      (s.power.state = .run → t.log = s.log ∧ t.bench.newLog = s.bench.newLog ++ [e] ∧ t.recorder = s.recorder ∧
        t.bench.constants = s.bench.constants ∧ t.bench.newConstants = s.bench.newConstants ++ [(q.p0, q.p1)] ∧
        t.bench.completions = s.bench.completions ++ [done q 0x0501 .ok]) ∧
      (s.power.state = .stop → t.log = s.log ++ [e] ∧ Recorded s t 0x1070 q.p0 (s.nextConstant q.p0) q.p1 ∧
        t.constant q.p0 = q.p1 ∧ t.bench.newConstants = []) ∧
      t = { s with log := t.log, bench := t.bench, recorder := t.recorder, net := { s.net with nodes := t.net.nodes },
                   mg := t.mg, hi := t.hi, outbox := t.outbox })

/-! ### The mailbox: queries -/

/-- Every query completes OK with its record, by the management core or by the cluster, and changes nothing but what its
response changes and the life of the session it names. The diagnostic queries answer from the management core's copies
of the records. Before their first refresh they answer from the present values (log entry 85). -/
def Obligations.QueriesAnswer : Prop :=
  (∀ (q : Req) (s : State), Answers s →
    Machine.exec (.identify q) s = .next ((s.heard q).answer 0x0001 q .ok 0 0 s.identityRecord).settle ∧
    Machine.exec (.capabilities q) s =
      .next ((s.heard q).answer 0x0002 q .ok s.unit.variant.cap.toNat 0 s.unit.variant.capRecord).settle ∧
    Machine.exec (.getStatus q) s = .next ((s.heard q).answer 0x0003 q .ok 0 0 s.statusRecord).settle ∧
    Machine.exec (.getTime q) s = .next ((s.heard q).answer 0x0005 q .ok (bit s.calendar.2 0) 0 s.timeRecord).settle ∧
    Machine.exec (.eventInfo q) s = .next ((s.heard q).answer 0x0601 q .ok 0 0 s.infoRecord).settle ∧
    Machine.exec (.diagVote q) s = .next ((s.heard q).answer 0x0901 q .ok 0 0 s.diagNow.vote).settle ∧
    Machine.exec (.diagAshlar q) s = .next ((s.heard q).answer 0x0902 q .ok 0 0 s.diagNow.ashlar).settle ∧
    Machine.exec (.diagSafeRecord q) s =
      .next ((s.heard q).answer 0x0903 q .ok 0 0 s.diagNow.safeRecord).settle ∧
    (∃ m, Machine.exec (.subscriptionGet q) s = .next ((s.heard q).answer 0x0A02 q .ok 0 0 (le 8 m)).settle ∧
      m = (if q.via = .pcie then s.hi.subscribed else s.hi.x8Subscribed).toNat)) ∧
  (∀ (q : Req) (s : State), Answers s → 1 ≤ q.p1 →
    (q.p0 < s.unit.variant.inputs → q.p1 ≤ 64 → Machine.exec (.diagInputs q) s = .next ((s.heard q).answer 0x0904 q .ok 0 0
      ((s.diagNow.inputs.drop q.p0).take q.p1).flatten).settle) ∧
    (q.p0 < s.unit.variant.outputs → q.p1 ≤ 32 → Machine.exec (.diagOutputs q) s = .next ((s.heard q).answer 0x0905 q .ok 0 0
      ((s.diagNow.outputs.drop q.p0).take q.p1).flatten).settle) ∧
    (q.p0 < s.unit.variant.groups → q.p1 ≤ 4 → Machine.exec (.diagGroups q) s = .next ((s.heard q).answer 0x0906 q .ok 0 0
      ((s.diagNow.groups.drop q.p0).take q.p1).flatten).settle) ∧
    (q.p1 ≤ 127 → Machine.exec (.diagNode q) s = .next ((s.heard q).answer 0x0909 q .ok 0 0
      (recordsFrom s.diagNow.nodes q.p0 q.p1)).settle) ∧
    (q.p1 ≤ 169 → Machine.exec (.diagNodeList q) s = .next ((s.heard q).answer 0x090A q .ok 0 0
      (recordsFrom s.diagNow.listed q.p0 q.p1)).settle) ∧
    (q.p1 ≤ 63 → s.power.state ≠ .start → s.power.state ≠ .shutdownTest →
      Machine.exec (.changeLogRead q) s = .next ((s.heard q).answer 0x0807 q .ok ((s.log.drop q.p0).take q.p1).length 0
        (((s.log.drop q.p0).take q.p1).flatMap LogEntry.bytes)).settle)) ∧
  (∀ (q : Req) (s : State), Answers s →
    (q.p0 < s.unit.variant.canPorts → Machine.exec (.diagCanPort q) s =
      .next ((s.heard q).answer 0x0907 q .ok 0 0 (s.diagNow.can.getD q.p0 [])).settle) ∧
    (q.p0 < s.unit.variant.canPorts ∨ (s.unit.variant.ethernet = true ∧ (q.p0 = 8 ∨ q.p0 = 9)) →
      Machine.exec (.diagPortCounters q) s = .next ((s.heard q).answer 0x0908 q .ok 0 0 (s.diagNow.counters.getD q.p0
        [])).settle) ∧
    (Settled s → q.p0 = 1 ∨ q.p0 = 2 →
      Machine.exec (.updateStatus q) s = .next ((s.heard q).answer 0x0706 q .ok 0 0 (s.target q.p0).status).settle) ∧
    (∀ asked count first recs, asked = u64 q.payload 0 → count = u16 q.payload 8 → q.payload.length = 12 → 1 ≤ count →
      count ≤ 126 → u16 q.payload 10 = 0 →
      first = (if s.recorder.next ≤ asked then s.recorder.next else Nat.max asked s.recorder.oldest) →
      recs = ((s.recorder.ring.filter (fun r => first ≤ r.number)).take count).map s.recorder.readable →
      Machine.exec (.eventRead q) s = .next ((s.heard q).answer 0x0602 q .ok recs.length (saturate 32 (first - asked))
        (le 8 first ++ recs.flatMap Record.bytes)).settle)) ∧
  (∀ (q : Req) (s : State), BenchReads s →
    (1 ≤ q.p1 → q.p1 ≤ 500 → q.p0 < s.routes.length → Machine.exec (.routeState q) s = .next ((s.heard q).complete 0x0110 q
      .ok (Nat.min q.p1 (s.routes.length - q.p0)) 0
      ((List.range' q.p0 (Nat.min q.p1 (s.routes.length - q.p0))).flatMap s.routeRecord)).settle) ∧
    (1 ≤ q.p1 → q.p1 ≤ 500 → q.p0 < s.elements.length → Machine.exec (.elementState q) s = .next ((s.heard q).complete
      0x0111 q .ok (Nat.min q.p1 (s.elements.length - q.p0)) 0
      ((List.range' q.p0 (Nat.min q.p1 (s.elements.length - q.p0))).flatMap s.elementRecord)).settle) ∧
    Machine.exec (.forceList q) s = .next ((s.heard q).complete 0x0412 q .ok 0 0
      (padTo 1024 (s.bench.forces.flatMap Force.bytes))).settle ∧
    (1 ≤ q.p1 → q.p1 ≤ 254 → q.p0 < s.constantCount → Machine.exec (.constantGet q) s = .next ((s.heard q).complete 0x0502 q
      .ok 0 0 ((List.range' q.p0 (Nat.min q.p1 (s.constantCount - q.p0))).flatMap s.constantBytes)).settle) ∧
    (Answers s → s.typeOf q.p0 = 4 → 1 ≤ q.p1 / 256 → q.p1 / 256 ≤ 48 →
      q.p1 % 256 + q.p1 / 256 ≤ (s.part q.p0).leaves.length →
      Machine.exec (.doorHealth q) s = .next ((s.heard q).answer 0x0303 q .ok 0 0
        ((List.range' (q.p1 % 256) (q.p1 / 256)).flatMap
          (fun p => s.healthRecord ((s.part q.p0).leaves.getD p 0) p))).settle))

/-! ### The mailbox: commands of the management core -/

/-- The commands of the management core that set something: the calendar with its anchor, a freeze of the event area and
its end, a class's rate with its change-log entry, a subscription, a maintenance address for one second later. -/
def Obligations.ManagementCommands : Prop :=
  (∀ (q : Req) (s : State), Settled s → (s.xing .rtMg).linkDown = false → s.holds q (some .maintainer) = true →
    q.payload.length = 8 → 946684800 ≤ u64 q.payload 0 → u64 q.payload 0 ≤ 4102444799 → q.p0 ≤ 999 →
    ∃ t, Machine.exec (.setTime q) s = .next t ∧
      t.rt = { s.rt with calUs := u64 q.payload 0 * 1000000 + q.p0 * 1000, timeSet := true } ∧
      Recorded { s with rt := t.rt } t 0xF010 (u64 q.payload 0) (q.p0 + 2 ^ 31) 2 ∧ AnsweredOnly { s with rt := t.rt } t) ∧
  (∀ (q : Req) (s : State), Settled s →
    ∃ t u : State, Machine.exec (.eventFreeze q) s = .next t ∧ t = (u.answer 0x0603 q .ok 60000).settle ∧
      u = { s.heard q with recorder := { s.recorder with frozenUntil := some (s.opUs + 60000000) } }) ∧
  (∀ (q : Req) (s : State), Settled s → s.recorder.frozenUntil.isSome = true → s.recorder.lost = 0 →
    s.recorder.ring.length + s.recorder.staging.length ≤ s.recorder.capacity →
    ∃ t u : State, Machine.exec (.eventThaw q) s = .next t ∧
      t = (u.answer 0x0604 q .ok s.recorder.staging.length 0).settle ∧ u.recorder.frozenUntil = none ∧
      u.recorder.staging = [] ∧ u.recorder.ring.length = s.recorder.ring.length + s.recorder.staging.length ∧
      u.recorder.ring.take s.recorder.ring.length = s.recorder.ring ∧
      u = { s.heard q with recorder := u.recorder, rt := { s.rt with stagedMirror := 0 } }) ∧
  (∀ (q : Req) (s : State), Settled s → s.holds q (some .maintainer) = true → q.p0 ≤ 14 →
    s.recorder.rates.length = 15 → 1 ≤ q.p1 % 65536 → q.p1 % 65536 ≤ 1000 → 1 ≤ q.p1 / 65536 → q.p1 / 65536 ≤ 1000 →
    s.log.length < logCapacity → s.log.length ≠ 235930 →
    ∃ t e, Machine.exec (.eventSetRate q) s = .next t ∧ t.recorder.rateOf q.p0 = (q.p1 % 65536, q.p1 / 65536) ∧
      (∀ k, k ≠ q.p0 → t.recorder.rateOf k = s.recorder.rateOf k) ∧ t.log = s.log ++ [e] ∧ e.item = 11 ∧
      e.subject = word q.p0 ∧ e.after = q.param1 ∧
      (∀ b ∈ t.recorder.buckets, classOf b.code = q.p0 → b.tokens ≤ q.p1 / 65536) ∧
      t.recorder.inbox = s.recorder.inbox ∧ t.recorder.ring = s.recorder.ring ∧ AnsweredOnly s t) ∧
  (∀ (q : Req) (s : State), Answers s → q.payload.length = 8 → u64 q.payload 0 < 512 →
    ∃ t u : State, Machine.exec (.subscribe q) s = .next t ∧ t = (u.answer 0x0A01 q .ok).settle ∧
      (q.via = .pcie → u = { s.heard q with hi := { s.hi with subscribed := BitVec.ofNat 64 (u64 q.payload 0) } }) ∧
      (q.via = .x8 → u = { s.heard q with hi := { s.hi with
        x8Subscribed := BitVec.ofNat 64 (u64 q.payload 0), x8Dest := some (q.replyIp, q.replyPort) } })) ∧
  (∀ (q : Req) (s : State), Settled s → s.holds q (some .maintainer) = true → q.payload.length = 12 →
    8 ≤ u8 q.payload 4 → u8 q.payload 4 ≤ 30 → zeros q.payload 5 3 = true → s.log.length < logCapacity →
    ∃ t e, Machine.exec (.maintAddress q) s = .next t ∧ t.log = s.log ++ [e] ∧ e.item = 10 ∧
      e.before = s.hi.x8Address ∧ e.after = word (ofBe (slice q.payload 0 4)) ∧ t.hi.x8Address = s.hi.x8Address ∧
      t.hi.x8New = some (word (ofBe (slice q.payload 0 4)), u8 q.payload 4, word (ofBe (slice q.payload 8 4)),
        s.opUs + 1000000) ∧ AnsweredOnly s t)

/-! ### Roles, passwords, the life-cycle -/

/-- A login with the stored password opens a session with an unused ID that is not 0; a wrong one counts, and the fifth
in a row locks the role for 15 minutes; logout and 30 silent minutes end a session, and the lock ends at its instant. -/
def Obligations.RolesAndSessions : Prop :=
  (∀ (q : Req) (r : Role) (p : Password) (s : State), s.mailboxLive = true → s.power.state ≠ .start →
    s.power.state ≠ .shutdownTest → s.lifecycle ≠ 5 → loginForm q.payload = true → r = roleIn q.payload →
    s.lockLeft r = 0 → s.sec.password r = some p → storedPassword (passwordOf q.payload) p.salt = p →
    (s.liveSessions q.via).length < 8 → s.mg.usedIds.length + 2 ≤ 2 ^ 32 →
    ∃ t x, Machine.exec (.roleLogin q) s = .next t ∧ t.mg.sessions = (s.heard q).mg.sessions ++ [x] ∧ x.via = q.via ∧
      x.role = r ∧ x.lastUs = s.opUs ∧ x.id ≠ 0 ∧ x.id ∉ s.mg.usedIds ∧ x.id ∈ t.mg.usedIds ∧ t.sec.login r = {} ∧
      FirstReport s t 0x9012 r.code (if q.via = .pcie then 0 else 1) x.id.toNat ∧ AnsweredOnly s t) ∧
  (∀ (q : Req) (r : Role) (s : State), s.mailboxLive = true → s.power.state ≠ .start →
    s.power.state ≠ .shutdownTest → s.lifecycle ≠ 5 → loginForm q.payload = true → r = roleIn q.payload →
    s.lockLeft r = 0 → (∀ p, s.sec.password r = some p → storedPassword (passwordOf q.payload) p.salt ≠ p) →
    ∃ t, Machine.exec (.roleLogin q) s = .next t ∧ t.mg.sessions = (s.heard q).mg.sessions ∧
      FirstReport s t 0x9010 r.code 0 0 ∧
      ((s.sec.login r).failures < 4 → t.sec.login r = { failures := (s.sec.login r).failures + 1 }) ∧
      (4 ≤ (s.sec.login r).failures → t.sec.login r = { lockedUntil := some (s.opUs + 900000000) } ∧
        LastReport t 0x9011 r.code 0 0) ∧ AnsweredOnly s t) ∧
  (∀ (q : Req) (s : State), s.mailboxLive = true → s.power.state ≠ .start → s.power.state ≠ .shutdownTest →
    s.lifecycle ≠ 5 →
    ∃ t u : State, Machine.exec (.roleLogout q) s = .next t ∧ t = (u.complete 0x0802 q .ok).settle ∧
      u = { s with mg := { s.mg with sessions := u.mg.sessions } } ∧
      (∀ x ∈ u.mg.sessions, ¬(x.id = q.session ∧ x.via = q.via)) ∧
      ∀ x ∈ s.mg.sessions, ¬(x.id = q.session ∧ x.via = q.via) → x ∈ u.mg.sessions) ∧
  (∀ (w : Word) (s : State),
    ∃ t, Machine.exec (.sessionExpiry w) s = .next t ∧
      (∀ x, x ∈ t.mg.sessions ↔ x ∈ s.mg.sessions ∧ ¬(x.id = w ∧ x.lastUs + 1800000000 ≤ s.opUs)) ∧
      t = { s with mg := { s.mg with sessions := t.mg.sessions }, hi := mirrorOf s t }) ∧
  (∀ (r : Role) (e : Nat) (s : State), (s.sec.login r).lockedUntil = some e → e ≤ s.opUs →
    ∃ t, Machine.exec (.roleLockExpiry r) s = .next t ∧ (t.sec.login r).lockedUntil = none ∧
      (t.sec.login r).failures = (s.sec.login r).failures ∧ (∀ r', r' ≠ r → t.sec.login r' = s.sec.login r') ∧
      t = { s with sec := t.sec, hi := mirrorOf s t })

/-- The Safety Authority's commands under the open seal code: a password and a key are stored with their change-log
entries, the life-cycle advances by its fuse, LOCKOUT after repeated SAFE is released, and not while the comparators are
to be tested. -/
def Obligations.SecurityCommands : Prop :=
  (∀ (q : Req) (s : State), s.power.state = .stop → s.power.dead = false → s.onTrial = false → s.lifecycle ≠ 5 →
    s.holds q (some .safetyAuthority) = true → s.sealOpen = true → loginForm q.payload = true →
    badPasswordByte (passwordOf q.payload) = none → 10 ≤ codePoints (passwordOf q.payload) →
    s.log.length < logCapacity →
    ∃ t e, Machine.exec (.passwordSet q) s = .next t ∧
      t.sec.password (roleIn q.payload) =
        some (storedPassword (passwordOf q.payload) (le 32 (Config.salt s.draws).toNat)) ∧ t.draws = s.draws + 1 ∧
      t.log = s.log ++ [e] ∧ e.item = 6 ∧ e.subject = word (roleIn q.payload).code ∧
      (∀ x ∈ t.mg.sessions, x.role ≠ roleIn q.payload) ∧ AnsweredOnly s t) ∧
  (∀ (q : Req) (s : State), s.power.state = .stop → s.power.dead = false → s.onTrial = false → s.lifecycle = 1 →
    s.holds q (some .safetyAuthority) = true → s.sealOpen = true → q.payload.length = 104 → u32 q.payload 0 ≠ 0 →
    u8 q.payload 4 = 4 → zeros q.payload 101 3 = true → s.log.length < logCapacity →
    ∃ t, Machine.exec (.keyInstall q) s = .next t ∧ AnsweredOnly s t ∧
      (Config.onCurve (slice q.payload 4 97) = true → ∃ e,
        t.sec = { s.sec with keyId := u32 q.payload 0, key := slice q.payload 4 97 } ∧ t.log = s.log ++ [e] ∧
        e.item = 7 ∧ e.subject = word (u32 q.payload 0)) ∧
      (Config.onCurve (slice q.payload 4 97) = false → t.sec = s.sec ∧ t.log = s.log)) ∧
  (∀ (q : Req) (s : State), s.power.state = .stop → s.power.dead = false → s.onTrial = false → s.lifecycle = 2 →
    s.bench.forces = [] → s.station.isSome = true → s.holds q (some .safetyAuthority) = true → s.sealOpen = true →
    q.p0 = 3 → s.log.length < logCapacity → s.sec.debug = .none → s.sec.lcC = true → s.sec.lcR = false →
    ∃ t e, Machine.exec (.lifecycleAdvance q) s = .next t ∧ t.lifecycle = 3 ∧ t.sec.lcO = true ∧ t.log = s.log ++ [e] ∧
      e.item = 5 ∧ e.before = word 2 ∧ e.after = word 3 ∧ LastReport t 0x9001 2 3 0 ∧
      AshHolds s t { s.ash.hold with lifecycle := false } ∧ AnsweredOnly { s with ash := t.ash } t) ∧
  (∀ (q : Req) (s : State), s.power.state = .stop ∨ s.power.state = .safe ∨ s.power.state = .lockout →
    s.power.dead = false → s.onTrial = false → s.lifecycle ≠ 5 → s.holds q (some .safetyAuthority) = true →
    s.sealOpen = true → q.p0 = 5 →
    ∃ t e, Machine.exec (.lifecycleAdvance q) s = .next t ∧ t.lifecycle = 5 ∧ t.sec.lcR = true ∧ t.sec.key = [] ∧
      t.sec.maintainer = none ∧ t.sec.authority = none ∧ t.mg.sessions = [] ∧ t.log = [e] ∧ e.item = 5 ∧
      LastReport t 0x9001 s.lifecycle 5 0 ∧ AshHolds s t { s.ash.hold with lifecycle := true } ∧
      AnsweredOnly { s with ash := t.ash } t) ∧
  (∀ (q : Req) (s : State), s.power.state = .lockout → s.power.dead = false → s.power.repeated = true →
    s.power.comparatorsBad = false →
    s.lifecycle ≠ 5 → s.holds q (some .safetyAuthority) = true → s.sealOpen = true → s.log.length < logCapacity →
    ∃ t e, Machine.exec (.lockoutRelease q) s = .next t ∧
      t.power = { s.power with state := .safe, entries := [], repeated := false, lockoutCause := 0 } ∧
      t.log = s.log ++ [e] ∧ e.item = 8 ∧ LastReport t 0x0103 0 0 0 ∧ AnsweredOnly { s with power := t.power } t) ∧
  (∀ (q : Req) (s : State), s.power.state = .lockout → s.power.dead = false → s.power.comparatorsBad = true →
    s.lifecycle ≠ 5 → s.holds q (some .safetyAuthority) = true → s.sealOpen = true →
    Machine.exec (.lockoutRelease q) s = .next ((s.heard q).complete 0x0806 q .refused 0x0820 0x1022).settle)

/-! ### Update -/

/-- An update of either target: a download is begun, its chunks are taken in order and a whole block only with its CRC,
the image is verified, activated by the Safety Authority, confirmed or aborted; station data are validated before they
are used. -/
def Obligations.UpdateCommands : Prop :=
  (∀ (q : Req) (s : State), Settled s → s.holds q (some .maintainer) = true → (q.p0 = 1 ∨ q.p0 = 2) →
    (q.p0 = 1 → s.onTrial = false) → q.payload.length = 512 → u8 q.payload 8 = q.p0 → upBlocks q.payload ≠ 0 →
    upBlocks q.payload ≤ maxBlocks q.p0 → (s.target q.p0).stage = 0 →
    ∃ t, Machine.exec (.updateBegin q) s = .next t ∧ t.target q.p0 = { s.target q.p0 with
        stage := 1, header := q.payload, table := [], good := 0, chunk := 0, chunks := [] } ∧
      t.target (3 - q.p0) = s.target (3 - q.p0) ∧ Recorded s t 0xB001 q.p0 (upBlocks q.payload) 0 ∧ AnsweredOnly s t) ∧
  (∀ (q : Req) (size : Nat) (s : State), Settled s → s.holds q (some .maintainer) = true → (q.p1 = 1 ∨ q.p1 = 2) →
    q.p0 < 2 ^ 21 → (s.target q.p1).stage = 1 →
    q.p0 % 65536 * 32 + q.p0 / 65536 = (s.target q.p1).good * 32 + (s.target q.p1).chunk →
    size = blockSize (s.target q.p1).header (s.target q.p1).good - 2048 * (s.target q.p1).chunk → 1 ≤ size →
    q.payload.length = Nat.min 2048 size →
    ∃ t, Machine.exec (.updateData q) s = .next t ∧ t.target (3 - q.p1) = s.target (3 - q.p1) ∧ AnsweredOnly s t ∧
      (2048 < size → t.target q.p1 = { s.target q.p1 with
        chunk := (s.target q.p1).chunk + 1, chunks := (s.target q.p1).chunks ++ q.payload }) ∧
      (size ≤ 2048 → crc32c ((s.target q.p1).chunks ++ q.payload) ≠ (s.target q.p1).blockCrc (s.target q.p1).good →
        t.target q.p1 = { s.target q.p1 with chunk := 0, chunks := [] } ∧
        Recorded s t 0xB002 q.p1 (s.target q.p1).good 0) ∧
      (size ≤ 2048 → crc32c ((s.target q.p1).chunks ++ q.payload) = (s.target q.p1).blockCrc (s.target q.p1).good →
        (t.target q.p1).good = (s.target q.p1).good + 1 ∧ (t.target q.p1).chunk = 0 ∧
        (t.target q.p1).stage = (if (s.target q.p1).good + 1 = upBlocks (s.target q.p1).header then 2 else 1))) ∧
  (∀ (q : Req) (s : State), Settled s → s.holds q (some .maintainer) = true → (q.p0 = 1 ∨ q.p0 = 2) →
    ∃ t, Machine.exec (.updateVerify q) s = .next t ∧ AnsweredOnly s t ∧
      Recorded s t 0xB010 q.p0 ((s.verifyFault q.p0).elim 0 Prod.fst) (upVersion (s.target q.p0).header) ∧
      (s.verifyFault q.p0 = none → t.target q.p0 = { s.target q.p0 with stage := 3 }) ∧
      (∀ r, s.verifyFault q.p0 = some r → t.target q.p0 = { s.target q.p0 with
        lastReason := r.1
        stage := if (s.target q.p0).stage = 3 then 2 else (s.target q.p0).stage })) ∧
  (∀ (q : Req) (s : State), s.power.state = .stop → s.power.dead = false → s.lifecycle ≠ 5 →
    s.holds q (some .safetyAuthority) = true → s.sealOpen = true → (s.target q.p0).stage = 3 →
    (∀ w ∈ s.eng.waiting, ∀ r n, w ≠ .activate r n) →
    (q.p0 = 1 → q.p1 = 0 → s.log.length < logCapacity → ∃ t e, Machine.exec (.updateActivate q) s = .next t ∧
      t.update.firmware.sel = {
        active := s.update.firmware.inactive, previous := s.update.firmware.sel.active, trial := true, boots := 0 } ∧
      t.update.firmware.stage = 4 ∧ t.update.resetUs = some (s.opUs + 100000) ∧ t.update.data = s.update.data ∧
      t.log = s.log ++ [e] ∧ e.item = 9 ∧ AnsweredOnly s t) ∧
    (q.p0 = 2 → q.p1 ≤ 1 → s.benchLifecycle = true → s.onTrial = false → s.station.isSome = true →
      ∃ t, Machine.exec (.updateActivate q) s = .next t ∧
        t = { s with eng := { s.eng with waiting := s.eng.waiting ++ [.activate q (q.p1 == 1)] },
                     mg := { s.mg with sessions := t.mg.sessions }, hi := mirrorOf s t })) ∧
  (∀ (q : Req) (s : State), Settled s → s.holds q (some .maintainer) = true → s.onTrial = true →
    ∃ t, Machine.exec (.updateConfirm q) s = .next t ∧ t.onTrial = false ∧
      t.update.firmware.sel.active = s.update.firmware.sel.active ∧ t.update.firmware.stage = 5 ∧
      t.update.firmware.counter = Nat.max s.update.firmware.counter (upRollback s.update.firmware.header) ∧
      t.update.migrated = 0 ∧ t.update.data = s.update.data ∧
      FirstReport s t 0xB014 (s.update.firmware.version s.update.firmware.sel.active) t.update.firmware.counter 0 ∧
      AnsweredOnly s t) ∧
  (∀ (q : Req) (s : State), Settled s → s.holds q (some .maintainer) = true → (q.p0 = 1 ∨ q.p0 = 2) →
    ∃ t, Machine.exec (.updateAbort q) s = .next t ∧ t.recorder = s.recorder ∧ AnsweredOnly s t ∧
      t.target (3 - q.p0) = s.target (3 - q.p0) ∧
      (1 ≤ (s.target q.p0).stage ∧ (s.target q.p0).stage ≤ 3 → t.target q.p0 = { s.target q.p0 with
        stage := 0, header := [], table := [], good := 0, chunk := 0, chunks := [] }) ∧
      ((s.target q.p0).stage = 0 ∨ 3 < (s.target q.p0).stage → t.update = s.update)) ∧
  (∀ (q : Req) (n : Bool) (l m : List Waiting) (f : Option ImageFault) (s : State),
    s.eng.waiting = l ++ .activate q n :: m → (∀ w ∈ l ++ m, ∀ r k, w ≠ .activate r k) → s.update.data.stage = 3 →
    f = validate {
      bytes := s.update.data.bank s.update.data.inactive, variant := s.unit.variant, keyId := s.sec.keyId,
      key := s.sec.key, activeStation := s.station.map Station.stationId, newStation := n } →
    ∃ t, Machine.exec .activationValidationDone s = .next t ∧
      (∀ x, f = some x → t.eng = { s.eng with waiting := l ++ m } ∧ t.station = s.station ∧
        t.update = { s.update with data := { s.update.data with lastReason := x.reason } } ∧
        Recorded s t 0xB020 x.reason x.sectionCode x.recordNo) ∧
      (f = none → s.log.length + s.entriesNeeded
          (parseStation (s.update.data.bank s.update.data.inactive)) ≤ logCapacity →
        t.station = some (parseStation (s.update.data.bank s.update.data.inactive)) ∧
        t.eng.waiting = l ++ .relatch q :: m ∧
        t.update.data.sel.active = s.update.data.inactive ∧ t.update.data.stage = 5 ∧ t.bench.forces = [] ∧
        t.bench.constants = [] ∧ t.ash.state = .disarmed ∧ t.ash.permit = 0 ∧
        t.log.length = s.log.length + s.entriesNeeded (parseStation (s.update.data.bank s.update.data.inactive))) ∧
      (f = none → logCapacity < s.log.length + s.entriesNeeded
          (parseStation (s.update.data.bank s.update.data.inactive)) →
        t.eng = { s.eng with waiting := l ++ m } ∧ t.station = s.station ∧ t.recorder = s.recorder ∧
        t.update = { s.update with data := { s.update.data with lastReason := 0x0817 } })) ∧
  (∀ (q : Req) (n : Bool) (l m : List Waiting) (s : State), s.eng.waiting = l ++ .activate q n :: m →
    (∀ w ∈ l ++ m, ∀ r k, w ≠ .activate r k) → s.update.data.stage ≠ 3 →
    ∃ t, Machine.exec .activationValidationDone s = .next t ∧ t.eng = { s.eng with waiting := l ++ m } ∧
      t.station = s.station ∧ t.recorder = s.recorder ∧
      t.update = { s.update with data := { s.update.data with lastReason := 0x0716 } }) ∧
  (∀ s : State, (∀ w ∈ s.eng.waiting, ∀ r k, w ≠ .activate r k) →
    ∃ t, Machine.exec .activationValidationDone s = .next t ∧ t = { s with hi := mirrorOf s t })

/-! ### The mailbox: transports -/

/-- A block behind its doorbell: it is queued for the cluster with the next arrival number, its tag busy; a block that
fails a check is answered in its slot; a response is the whole block in its slot with its DONE bit and no other byte of
the window changed; held completions and notifications follow when the crossing is up; an X8 request likewise, a repeat
is answered from the store. -/
def Obligations.MailboxTransports : Prop :=
  (∀ (v : Word) (b c : List Byte) (slot : Nat) (s : State), Answers s → s.hi.downMg = false → slot = v.toNat % 64 →
    s.hi.busy.getLsbD slot = false → c = (s.writeSlot slot b).hi.blockAt slot → transportCheck c slot true = none →
    clusterDecides (blkOpcode c) = true →
    ∃ t, Machine.exec (.doorbell v b) s = .next t ∧
      t.mg.queue = s.mg.queue ++ [⟨blkOpcode c, { blkRequest c .pcie 0 0 with arrival := s.mg.arrival }, s.opUs⟩] ∧
      (t.xing .mgCl).counter = (s.xing .mgCl).counter.raise ∧ t.hi.doorbells = s.hi.doorbells.cross false ∧
      t.mg.arrival = nextArrival s.mg.arrival ∧ t.hi.busy.getLsbD slot = true ∧ t.hi.done = s.hi.done ∧
      (∀ n, n ≠ slot → t.hi.busy.getLsbD n = s.hi.busy.getLsbD n) ∧
      t = { s with mg := t.mg, xings := t.xings,
                   hi := { mirrorOf s t with
                     busy := t.hi.busy, bar2 := t.hi.bar2, doorbells := t.hi.doorbells } }) ∧
  (∀ (v : Word) (b c : List Byte) (slot : Nat) (st : Status) (s : State), Answers s → WindowOk s → s.hi.downMg = false →
    slot = v.toNat % 64 → s.hi.busy.getLsbD slot = false → c = (s.writeSlot slot b).hi.blockAt slot →
    transportCheck c slot true = some st →
    ∃ t, Machine.exec (.doorbell v b) s = .next t ∧ t.hi.done.getLsbD slot = true ∧ t.hi.irqStat.getLsbD 0 = true ∧
      Memory.readBytes t.hi.bar2 (0x40000 + slot * 0x1000) 32 = (rejection c (blkRequest c .pcie 0 0) st).bytes ∧
      t.mg = s.mg ∧ t = { s with hi := t.hi, outbox := t.outbox }) ∧
  (∀ (c : Instr) (op p0 : Nat) (data : List Byte) (q : Req) (s : State), Answers s → WindowOk s → Reaches s q →
    ((c, op, p0, data) ∈ [(Instr.identify q, 0x0001, 0, s.identityRecord),
        (Instr.capabilities q, 0x0002, s.unit.variant.cap.toNat, s.unit.variant.capRecord),
        (Instr.getStatus q, 0x0003, 0, s.statusRecord), (Instr.getTime q, 0x0005, bit s.calendar.2 0, s.timeRecord),
        (Instr.eventInfo q, 0x0601, 0, s.infoRecord), (Instr.diagVote q, 0x0901, 0, s.diagNow.vote),
        (Instr.diagAshlar q, 0x0902, 0, s.diagNow.ashlar), (Instr.diagSafeRecord q, 0x0903, 0, s.diagNow.safeRecord),
        (Instr.subscriptionGet q, 0x0A02, 0, le 8 s.hi.subscribed.toNat)] ∨
      (c, op, p0, data) = (Instr.diagCanPort q, 0x0907, 0, s.diagNow.can.getD q.p0 []) ∧
        q.p0 < s.unit.variant.canPorts) →
    data.length ≤ 4064 →
    ∃ (t : State) (r : Response), Machine.exec c s = .next t ∧ r.req = q ∧ r.opcode = op ∧ r.status = 0 ∧
      r.param0 = word p0 ∧ r.payload = data ∧ r.arrival = 0xFFFFFFFF ∧
      Memory.readBytes t.hi.bar2 (0x40000 + q.slot * 0x1000) r.bytes.length = r.bytes ∧
      (∀ a, a < 0x40000 + q.slot * 0x1000 ∨ 0x40000 + q.slot * 0x1000 + r.bytes.length ≤ a →
        Memory.read t.hi.bar2 a = Memory.read s.hi.bar2 a) ∧ WindowOk t ∧
      t.hi.done.getLsbD q.slot = true ∧ (∀ n, n ≠ q.slot → t.hi.done.getLsbD n = s.hi.done.getLsbD n) ∧
      t.hi.irqStat.getLsbD 0 = true ∧ (∀ p ∈ t.mg.outstanding, ¬(p.1.via = .pcie ∧ p.1.slot = q.slot)) ∧
      t = { s with mg := t.mg, hi := t.hi, outbox := t.outbox }) ∧
  (∀ (l : List Response) (s : State), s.hi.downMg = false → s.mg.alive = true → WindowOk s → s.hi.heldDone = l →
    (∀ r ∈ l, r.bytes.length ≤ 4096) → l.Pairwise (fun x y => x.req.slot ≠ y.req.slot) →
    ∃ t, Machine.exec .heldCompletionDelivery s = .next t ∧ t.hi.heldDone = [] ∧ WindowOk t ∧
      (∀ r ∈ l, Memory.readBytes t.hi.bar2 (0x40000 + r.req.slot * 0x1000) r.bytes.length = r.bytes ∧
        t.hi.done.getLsbD r.req.slot = true ∧ t.hi.irqStat.getLsbD 0 = true) ∧
      t = { s with hi := t.hi, outbox := t.outbox }) ∧
  (∀ (l : List (Nat × Note)) (s : State), s.hi.downMg = false → s.mg.alive = true → WindowOk s → s.hi.lostNotes = 0 →
    s.hi.heldNotes = l → (s.hi.head - s.hi.tail).toNat + l.length ≤ 255 →
    ∃ t, Machine.exec .notificationFlush s = .next t ∧ t.hi.heldNotes = [] ∧
      t.hi.head = s.hi.head + BitVec.ofNat 8 l.length ∧
      (∀ (i k : Nat) (n : Note), l[i]? = some (k, n) →
        Memory.readBytes t.hi.bar2 (0x80000 + (s.hi.head + BitVec.ofNat 8 i).toNat * 64) 64 = n.bytes k ∧
        t.hi.irqStat.getLsbD (if faultKind n.kind then 2 else 1) = true) ∧
      t = { s with hi := t.hi, outbox := t.outbox }) ∧
  (∀ (d : X8Datagram) (s : State), Answers s → d.port = 47218 → 32 ≤ d.data.length → d.data.length ≤ 4096 →
    s.hi.x8Entry (blkTag d.data % 64) = none →
    transportCheck d.data (blkTag d.data % 64) (d.data.length == 32 + blkLength d.data) = none →
    clusterDecides (blkOpcode d.data) = true →
    ∃ t e, Machine.exec (.x8RequestDatagram d) s = .next t ∧
      t.mg.queue = s.mg.queue ++ [⟨blkOpcode d.data,
        { blkRequest d.data .x8 d.ip d.sourcePort with arrival := s.mg.arrival }, s.opUs⟩] ∧
      (t.xing .mgCl).counter = (s.xing .mgCl).counter.raise ∧
      t.hi.x8Entry (blkTag d.data % 64) = some e ∧ e.inFlight = true ∧ e.sequence = word (u32 d.data 8) ∧
      t = { s with mg := t.mg, xings := t.xings,
                   hi := { mirrorOf s t with x8 := t.hi.x8, x8Last := t.hi.x8Last } }) ∧
  (∀ (d : X8Datagram) (e : X8Stored) (s : State), Answers s → d.port = 47218 → 32 ≤ d.data.length →
    d.data.length ≤ 4096 → s.hi.x8Entry (blkTag d.data % 64) = some e → e.inFlight = false → e.repeats d.data = true →
    ∃ t, Machine.exec (.x8RequestDatagram d) s = .next t ∧
      t = { s with outbox := s.outbox ++ [Output.x8 d.ip d.sourcePort e.response],
                   hi := { mirrorOf s t with x8Last := some (d.ip, d.sourcePort) } })
end

