-- ==== Sys2Proof/Laws/State.lean ====
section
/-! SUPPORT. Reading one register of a state that is chosen by a condition or made by running over a list: the reading
goes inside. Each later file of this folder says of every operation of one file of the model which parts of the state it
leaves alone. -/

namespace Sys2Proof.Machine

@[simp] theorem State.ite_unit (c : Prop) [Decidable c] (a b : State) :
    (if c then a else b).unit = if c then a.unit else b.unit := by split <;> rfl

@[simp] theorem State.foldl_unit {α : Type} (f : State → α → State) 
    (h : ∀ s a, (f s a).unit = s.unit) (l : List α) (s : State) :
    (l.foldl f s).unit = s.unit := by
  induction l generalizing s with
  | nil => rfl
  | cons a l ih => simp [ih, h]

@[simp] theorem State.ite_opUs (c : Prop) [Decidable c] (a b : State) :
    (if c then a else b).opUs = if c then a.opUs else b.opUs := by split <;> rfl

@[simp] theorem State.foldl_opUs {α : Type} (f : State → α → State) 
    (h : ∀ s a, (f s a).opUs = s.opUs) (l : List α) (s : State) :
    (l.foldl f s).opUs = s.opUs := by
  induction l generalizing s with
  | nil => rfl
  | cons a l ih => simp [ih, h]

@[simp] theorem State.ite_savedOpUs (c : Prop) [Decidable c] (a b : State) :
    (if c then a else b).savedOpUs = if c then a.savedOpUs else b.savedOpUs := by split <;> rfl

@[simp] theorem State.foldl_savedOpUs {α : Type} (f : State → α → State) 
    (h : ∀ s a, (f s a).savedOpUs = s.savedOpUs) (l : List α) (s : State) :
    (l.foldl f s).savedOpUs = s.savedOpUs := by
  induction l generalizing s with
  | nil => rfl
  | cons a l ih => simp [ih, h]

@[simp] theorem State.ite_powerCycle (c : Prop) [Decidable c] (a b : State) :
    (if c then a else b).powerCycle = if c then a.powerCycle else b.powerCycle := by split <;> rfl

@[simp] theorem State.foldl_powerCycle {α : Type} (f : State → α → State) 
    (h : ∀ s a, (f s a).powerCycle = s.powerCycle) (l : List α) (s : State) :
    (l.foldl f s).powerCycle = s.powerCycle := by
  induction l generalizing s with
  | nil => rfl
  | cons a l ih => simp [ih, h]

@[simp] theorem State.ite_epoch (c : Prop) [Decidable c] (a b : State) :
    (if c then a else b).epoch = if c then a.epoch else b.epoch := by split <;> rfl

@[simp] theorem State.foldl_epoch {α : Type} (f : State → α → State) 
    (h : ∀ s a, (f s a).epoch = s.epoch) (l : List α) (s : State) :
    (l.foldl f s).epoch = s.epoch := by
  induction l generalizing s with
  | nil => rfl
  | cons a l ih => simp [ih, h]

@[simp] theorem State.ite_diag (c : Prop) [Decidable c] (a b : State) :
    (if c then a else b).diag = if c then a.diag else b.diag := by split <;> rfl

@[simp] theorem State.foldl_diag {α : Type} (f : State → α → State) 
    (h : ∀ s a, (f s a).diag = s.diag) (l : List α) (s : State) :
    (l.foldl f s).diag = s.diag := by
  induction l generalizing s with
  | nil => rfl
  | cons a l ih => simp [ih, h]

@[simp] theorem State.ite_power (c : Prop) [Decidable c] (a b : State) :
    (if c then a else b).power = if c then a.power else b.power := by split <;> rfl

@[simp] theorem State.foldl_power {α : Type} (f : State → α → State) 
    (h : ∀ s a, (f s a).power = s.power) (l : List α) (s : State) :
    (l.foldl f s).power = s.power := by
  induction l generalizing s with
  | nil => rfl
  | cons a l ih => simp [ih, h]

@[simp] theorem State.ite_rt (c : Prop) [Decidable c] (a b : State) :
    (if c then a else b).rt = if c then a.rt else b.rt := by split <;> rfl

@[simp] theorem State.foldl_rt {α : Type} (f : State → α → State) 
    (h : ∀ s a, (f s a).rt = s.rt) (l : List α) (s : State) :
    (l.foldl f s).rt = s.rt := by
  induction l generalizing s with
  | nil => rfl
  | cons a l ih => simp [ih, h]

@[simp] theorem State.ite_sec (c : Prop) [Decidable c] (a b : State) :
    (if c then a else b).sec = if c then a.sec else b.sec := by split <;> rfl

@[simp] theorem State.foldl_sec {α : Type} (f : State → α → State) 
    (h : ∀ s a, (f s a).sec = s.sec) (l : List α) (s : State) :
    (l.foldl f s).sec = s.sec := by
  induction l generalizing s with
  | nil => rfl
  | cons a l ih => simp [ih, h]

@[simp] theorem State.ite_station (c : Prop) [Decidable c] (a b : State) :
    (if c then a else b).station = if c then a.station else b.station := by split <;> rfl

@[simp] theorem State.foldl_station {α : Type} (f : State → α → State) 
    (h : ∀ s a, (f s a).station = s.station) (l : List α) (s : State) :
    (l.foldl f s).station = s.station := by
  induction l generalizing s with
  | nil => rfl
  | cons a l ih => simp [ih, h]

@[simp] theorem State.ite_bench (c : Prop) [Decidable c] (a b : State) :
    (if c then a else b).bench = if c then a.bench else b.bench := by split <;> rfl

@[simp] theorem State.foldl_bench {α : Type} (f : State → α → State) 
    (h : ∀ s a, (f s a).bench = s.bench) (l : List α) (s : State) :
    (l.foldl f s).bench = s.bench := by
  induction l generalizing s with
  | nil => rfl
  | cons a l ih => simp [ih, h]

@[simp] theorem State.ite_eng (c : Prop) [Decidable c] (a b : State) :
    (if c then a else b).eng = if c then a.eng else b.eng := by split <;> rfl

@[simp] theorem State.foldl_eng {α : Type} (f : State → α → State) 
    (h : ∀ s a, (f s a).eng = s.eng) (l : List α) (s : State) :
    (l.foldl f s).eng = s.eng := by
  induction l generalizing s with
  | nil => rfl
  | cons a l ih => simp [ih, h]

@[simp] theorem State.ite_vote (c : Prop) [Decidable c] (a b : State) :
    (if c then a else b).vote = if c then a.vote else b.vote := by split <;> rfl

@[simp] theorem State.foldl_vote {α : Type} (f : State → α → State) 
    (h : ∀ s a, (f s a).vote = s.vote) (l : List α) (s : State) :
    (l.foldl f s).vote = s.vote := by
  induction l generalizing s with
  | nil => rfl
  | cons a l ih => simp [ih, h]

@[simp] theorem State.ite_ash (c : Prop) [Decidable c] (a b : State) :
    (if c then a else b).ash = if c then a.ash else b.ash := by split <;> rfl

@[simp] theorem State.foldl_ash {α : Type} (f : State → α → State) 
    (h : ∀ s a, (f s a).ash = s.ash) (l : List α) (s : State) :
    (l.foldl f s).ash = s.ash := by
  induction l generalizing s with
  | nil => rfl
  | cons a l ih => simp [ih, h]

@[simp] theorem State.ite_field (c : Prop) [Decidable c] (a b : State) :
    (if c then a else b).field = if c then a.field else b.field := by split <;> rfl

@[simp] theorem State.foldl_field {α : Type} (f : State → α → State) 
    (h : ∀ s a, (f s a).field = s.field) (l : List α) (s : State) :
    (l.foldl f s).field = s.field := by
  induction l generalizing s with
  | nil => rfl
  | cons a l ih => simp [ih, h]

@[simp] theorem State.ite_can (c : Prop) [Decidable c] (a b : State) :
    (if c then a else b).can = if c then a.can else b.can := by split <;> rfl

@[simp] theorem State.foldl_can {α : Type} (f : State → α → State) 
    (h : ∀ s a, (f s a).can = s.can) (l : List α) (s : State) :
    (l.foldl f s).can = s.can := by
  induction l generalizing s with
  | nil => rfl
  | cons a l ih => simp [ih, h]

@[simp] theorem State.ite_net (c : Prop) [Decidable c] (a b : State) :
    (if c then a else b).net = if c then a.net else b.net := by split <;> rfl

@[simp] theorem State.foldl_net {α : Type} (f : State → α → State) 
    (h : ∀ s a, (f s a).net = s.net) (l : List α) (s : State) :
    (l.foldl f s).net = s.net := by
  induction l generalizing s with
  | nil => rfl
  | cons a l ih => simp [ih, h]

@[simp] theorem State.ite_hi (c : Prop) [Decidable c] (a b : State) :
    (if c then a else b).hi = if c then a.hi else b.hi := by split <;> rfl

@[simp] theorem State.foldl_hi {α : Type} (f : State → α → State) 
    (h : ∀ s a, (f s a).hi = s.hi) (l : List α) (s : State) :
    (l.foldl f s).hi = s.hi := by
  induction l generalizing s with
  | nil => rfl
  | cons a l ih => simp [ih, h]

@[simp] theorem State.ite_xings (c : Prop) [Decidable c] (a b : State) :
    (if c then a else b).xings = if c then a.xings else b.xings := by split <;> rfl

@[simp] theorem State.foldl_xings {α : Type} (f : State → α → State) 
    (h : ∀ s a, (f s a).xings = s.xings) (l : List α) (s : State) :
    (l.foldl f s).xings = s.xings := by
  induction l generalizing s with
  | nil => rfl
  | cons a l ih => simp [ih, h]

@[simp] theorem State.ite_mg (c : Prop) [Decidable c] (a b : State) :
    (if c then a else b).mg = if c then a.mg else b.mg := by split <;> rfl

@[simp] theorem State.foldl_mg {α : Type} (f : State → α → State) 
    (h : ∀ s a, (f s a).mg = s.mg) (l : List α) (s : State) :
    (l.foldl f s).mg = s.mg := by
  induction l generalizing s with
  | nil => rfl
  | cons a l ih => simp [ih, h]

@[simp] theorem State.ite_recorder (c : Prop) [Decidable c] (a b : State) :
    (if c then a else b).recorder = if c then a.recorder else b.recorder := by split <;> rfl

@[simp] theorem State.foldl_recorder {α : Type} (f : State → α → State) 
    (h : ∀ s a, (f s a).recorder = s.recorder) (l : List α) (s : State) :
    (l.foldl f s).recorder = s.recorder := by
  induction l generalizing s with
  | nil => rfl
  | cons a l ih => simp [ih, h]

@[simp] theorem State.ite_log (c : Prop) [Decidable c] (a b : State) :
    (if c then a else b).log = if c then a.log else b.log := by split <;> rfl

@[simp] theorem State.foldl_log {α : Type} (f : State → α → State) 
    (h : ∀ s a, (f s a).log = s.log) (l : List α) (s : State) :
    (l.foldl f s).log = s.log := by
  induction l generalizing s with
  | nil => rfl
  | cons a l ih => simp [ih, h]

@[simp] theorem State.ite_test (c : Prop) [Decidable c] (a b : State) :
    (if c then a else b).test = if c then a.test else b.test := by split <;> rfl

@[simp] theorem State.foldl_test {α : Type} (f : State → α → State) 
    (h : ∀ s a, (f s a).test = s.test) (l : List α) (s : State) :
    (l.foldl f s).test = s.test := by
  induction l generalizing s with
  | nil => rfl
  | cons a l ih => simp [ih, h]

@[simp] theorem State.ite_update (c : Prop) [Decidable c] (a b : State) :
    (if c then a else b).update = if c then a.update else b.update := by split <;> rfl

@[simp] theorem State.foldl_update {α : Type} (f : State → α → State) 
    (h : ∀ s a, (f s a).update = s.update) (l : List α) (s : State) :
    (l.foldl f s).update = s.update := by
  induction l generalizing s with
  | nil => rfl
  | cons a l ih => simp [ih, h]

@[simp] theorem State.ite_draws (c : Prop) [Decidable c] (a b : State) :
    (if c then a else b).draws = if c then a.draws else b.draws := by split <;> rfl

@[simp] theorem State.foldl_draws {α : Type} (f : State → α → State) 
    (h : ∀ s a, (f s a).draws = s.draws) (l : List α) (s : State) :
    (l.foldl f s).draws = s.draws := by
  induction l generalizing s with
  | nil => rfl
  | cons a l ih => simp [ih, h]

@[simp] theorem State.ite_outbox (c : Prop) [Decidable c] (a b : State) :
    (if c then a else b).outbox = if c then a.outbox else b.outbox := by split <;> rfl

@[simp] theorem State.foldl_outbox {α : Type} (f : State → α → State) 
    (h : ∀ s a, (f s a).outbox = s.outbox) (l : List α) (s : State) :
    (l.foldl f s).outbox = s.outbox := by
  induction l generalizing s with
  | nil => rfl
  | cons a l ih => simp [ih, h]

@[simp] theorem State.ite_pending (c : Prop) [Decidable c] (a b : State) :
    (if c then a else b).pending = if c then a.pending else b.pending := by split <;> rfl

@[simp] theorem State.foldl_pending {α : Type} (f : State → α → State) 
    (h : ∀ s a, (f s a).pending = s.pending) (l : List α) (s : State) :
    (l.foldl f s).pending = s.pending := by
  induction l generalizing s with
  | nil => rfl
  | cons a l ih => simp [ih, h]

@[simp] theorem State.foldl_eng_elems {α : Type}
    (f : State → α → State) (h : ∀ s a, (f s a).eng.elems = s.eng.elems) (l : List α) (s : State) : (l.foldl f s).eng.elems = s.eng.elems := by
  induction l generalizing s with
  | nil => rfl
  | cons a l ih => simp [ih, h]

@[simp] theorem State.foldl_eng_routes {α : Type}
    (f : State → α → State) (h : ∀ s a, (f s a).eng.routes = s.eng.routes) (l : List α) (s : State) : (l.foldl f s).eng.routes = s.eng.routes := by
  induction l generalizing s with
  | nil => rfl
  | cons a l ih => simp [ih, h]

@[simp] theorem State.foldl_eng_queue {α : Type}
    (f : State → α → State) (h : ∀ s a, (f s a).eng.queue = s.eng.queue) (l : List α) (s : State) : (l.foldl f s).eng.queue = s.eng.queue := by
  induction l generalizing s with
  | nil => rfl
  | cons a l ih => simp [ih, h]

@[simp] theorem State.foldl_eng_txns {α : Type}
    (f : State → α → State) (h : ∀ s a, (f s a).eng.txns = s.eng.txns) (l : List α) (s : State) : (l.foldl f s).eng.txns = s.eng.txns := by
  induction l generalizing s with
  | nil => rfl
  | cons a l ih => simp [ih, h]

@[simp] theorem State.foldl_eng_prepares {α : Type}
    (f : State → α → State) (h : ∀ s a, (f s a).eng.prepares = s.eng.prepares) (l : List α) (s : State) : (l.foldl f s).eng.prepares = s.eng.prepares := by
  induction l generalizing s with
  | nil => rfl
  | cons a l ih => simp [ih, h]

@[simp] theorem State.foldl_eng_waiting {α : Type}
    (f : State → α → State) (h : ∀ s a, (f s a).eng.waiting = s.eng.waiting) (l : List α) (s : State) : (l.foldl f s).eng.waiting = s.eng.waiting := by
  induction l generalizing s with
  | nil => rfl
  | cons a l ih => simp [ih, h]

@[simp] theorem State.foldl_eng_holdEnd {α : Type}
    (f : State → α → State) (h : ∀ s a, (f s a).eng.holdEnd = s.eng.holdEnd) (l : List α) (s : State) : (l.foldl f s).eng.holdEnd = s.eng.holdEnd := by
  induction l generalizing s with
  | nil => rfl
  | cons a l ih => simp [ih, h]

@[simp] theorem State.foldl_eng_heldAreas {α : Type}
    (f : State → α → State) (h : ∀ s a, (f s a).eng.heldAreas = s.eng.heldAreas) (l : List α) (s : State) : (l.foldl f s).eng.heldAreas = s.eng.heldAreas := by
  induction l generalizing s with
  | nil => rfl
  | cons a l ih => simp [ih, h]

@[simp] theorem State.foldl_eng_lastSeq {α : Type}
    (f : State → α → State) (h : ∀ s a, (f s a).eng.lastSeq = s.eng.lastSeq) (l : List α) (s : State) : (l.foldl f s).eng.lastSeq = s.eng.lastSeq := by
  induction l generalizing s with
  | nil => rfl
  | cons a l ih => simp [ih, h]

@[simp] theorem State.foldl_bench_cycle {α : Type}
    (f : State → α → State) (h : ∀ s a, (f s a).bench.cycle = s.bench.cycle) (l : List α) (s : State) : (l.foldl f s).bench.cycle = s.bench.cycle := by
  induction l generalizing s with
  | nil => rfl
  | cons a l ih => simp [ih, h]

@[simp] theorem State.foldl_bench_nextCycle {α : Type}
    (f : State → α → State) (h : ∀ s a, (f s a).bench.nextCycle = s.bench.nextCycle) (l : List α) (s : State) : (l.foldl f s).bench.nextCycle = s.bench.nextCycle := by
  induction l generalizing s with
  | nil => rfl
  | cons a l ih => simp [ih, h]

@[simp] theorem State.foldl_bench_lastO {α : Type}
    (f : State → α → State) (h : ∀ s a, (f s a).bench.lastO = s.bench.lastO) (l : List α) (s : State) : (l.foldl f s).bench.lastO = s.bench.lastO := by
  induction l generalizing s with
  | nil => rfl
  | cons a l ih => simp [ih, h]

@[simp] theorem State.foldl_bench_freezeUs {α : Type}
    (f : State → α → State) (h : ∀ s a, (f s a).bench.freezeUs = s.bench.freezeUs) (l : List α) (s : State) : (l.foldl f s).bench.freezeUs = s.bench.freezeUs := by
  induction l generalizing s with
  | nil => rfl
  | cons a l ih => simp [ih, h]

@[simp] theorem State.foldl_bench_nextFreezeUs {α : Type}
    (f : State → α → State) (h : ∀ s a, (f s a).bench.nextFreezeUs = s.bench.nextFreezeUs) (l : List α) (s : State) : (l.foldl f s).bench.nextFreezeUs = s.bench.nextFreezeUs := by
  induction l generalizing s with
  | nil => rfl
  | cons a l ih => simp [ih, h]

@[simp] theorem State.foldl_bench_frozen {α : Type}
    (f : State → α → State) (h : ∀ s a, (f s a).bench.frozen = s.bench.frozen) (l : List α) (s : State) : (l.foldl f s).bench.frozen = s.bench.frozen := by
  induction l generalizing s with
  | nil => rfl
  | cons a l ih => simp [ih, h]

@[simp] theorem State.foldl_bench_evaluated {α : Type}
    (f : State → α → State) (h : ∀ s a, (f s a).bench.evaluated = s.bench.evaluated) (l : List α) (s : State) : (l.foldl f s).bench.evaluated = s.bench.evaluated := by
  induction l generalizing s with
  | nil => rfl
  | cons a l ih => simp [ih, h]

@[simp] theorem State.foldl_bench_first {α : Type}
    (f : State → α → State) (h : ∀ s a, (f s a).bench.first = s.bench.first) (l : List α) (s : State) : (l.foldl f s).bench.first = s.bench.first := by
  induction l generalizing s with
  | nil => rfl
  | cons a l ih => simp [ih, h]

@[simp] theorem State.foldl_bench_requests {α : Type}
    (f : State → α → State) (h : ∀ s a, (f s a).bench.requests = s.bench.requests) (l : List α) (s : State) : (l.foldl f s).bench.requests = s.bench.requests := by
  induction l generalizing s with
  | nil => rfl
  | cons a l ih => simp [ih, h]

@[simp] theorem State.foldl_bench_overran {α : Type}
    (f : State → α → State) (h : ∀ s a, (f s a).bench.overran = s.bench.overran) (l : List α) (s : State) : (l.foldl f s).bench.overran = s.bench.overran := by
  induction l generalizing s with
  | nil => rfl
  | cons a l ih => simp [ih, h]

@[simp] theorem State.foldl_bench_discard {α : Type}
    (f : State → α → State) (h : ∀ s a, (f s a).bench.discard = s.bench.discard) (l : List α) (s : State) : (l.foldl f s).bench.discard = s.bench.discard := by
  induction l generalizing s with
  | nil => rfl
  | cons a l ih => simp [ih, h]

@[simp] theorem State.foldl_bench_noCode {α : Type}
    (f : State → α → State) (h : ∀ s a, (f s a).bench.noCode = s.bench.noCode) (l : List α) (s : State) : (l.foldl f s).bench.noCode = s.bench.noCode := by
  induction l generalizing s with
  | nil => rfl
  | cons a l ih => simp [ih, h]

@[simp] theorem State.foldl_bench_constants {α : Type}
    (f : State → α → State) (h : ∀ s a, (f s a).bench.constants = s.bench.constants) (l : List α) (s : State) : (l.foldl f s).bench.constants = s.bench.constants := by
  induction l generalizing s with
  | nil => rfl
  | cons a l ih => simp [ih, h]

@[simp] theorem State.foldl_bench_newConstants {α : Type}
    (f : State → α → State) (h : ∀ s a, (f s a).bench.newConstants = s.bench.newConstants) (l : List α) (s : State) : (l.foldl f s).bench.newConstants = s.bench.newConstants := by
  induction l generalizing s with
  | nil => rfl
  | cons a l ih => simp [ih, h]

@[simp] theorem State.foldl_bench_forces {α : Type}
    (f : State → α → State) (h : ∀ s a, (f s a).bench.forces = s.bench.forces) (l : List α) (s : State) : (l.foldl f s).bench.forces = s.bench.forces := by
  induction l generalizing s with
  | nil => rfl
  | cons a l ih => simp [ih, h]

@[simp] theorem State.foldl_bench_newForces {α : Type}
    (f : State → α → State) (h : ∀ s a, (f s a).bench.newForces = s.bench.newForces) (l : List α) (s : State) : (l.foldl f s).bench.newForces = s.bench.newForces := by
  induction l generalizing s with
  | nil => rfl
  | cons a l ih => simp [ih, h]

@[simp] theorem State.foldl_bench_forcedShown {α : Type}
    (f : State → α → State) (h : ∀ s a, (f s a).bench.forcedShown = s.bench.forcedShown) (l : List α) (s : State) : (l.foldl f s).bench.forcedShown = s.bench.forcedShown := by
  induction l generalizing s with
  | nil => rfl
  | cons a l ih => simp [ih, h]

@[simp] theorem State.foldl_bench_reminderUs {α : Type}
    (f : State → α → State) (h : ∀ s a, (f s a).bench.reminderUs = s.bench.reminderUs) (l : List α) (s : State) : (l.foldl f s).bench.reminderUs = s.bench.reminderUs := by
  induction l generalizing s with
  | nil => rfl
  | cons a l ih => simp [ih, h]

@[simp] theorem State.foldl_bench_completions {α : Type}
    (f : State → α → State) (h : ∀ s a, (f s a).bench.completions = s.bench.completions) (l : List α) (s : State) : (l.foldl f s).bench.completions = s.bench.completions := by
  induction l generalizing s with
  | nil => rfl
  | cons a l ih => simp [ih, h]

@[simp] theorem State.foldl_bench_notes {α : Type}
    (f : State → α → State) (h : ∀ s a, (f s a).bench.notes = s.bench.notes) (l : List α) (s : State) : (l.foldl f s).bench.notes = s.bench.notes := by
  induction l generalizing s with
  | nil => rfl
  | cons a l ih => simp [ih, h]

@[simp] theorem State.foldl_bench_challenge {α : Type}
    (f : State → α → State) (h : ∀ s a, (f s a).bench.challenge = s.bench.challenge) (l : List α) (s : State) : (l.foldl f s).bench.challenge = s.bench.challenge := by
  induction l generalizing s with
  | nil => rfl
  | cons a l ih => simp [ih, h]

@[simp] theorem State.foldl_bench_codes {α : Type}
    (f : State → α → State) (h : ∀ s a, (f s a).bench.codes = s.bench.codes) (l : List α) (s : State) : (l.foldl f s).bench.codes = s.bench.codes := by
  induction l generalizing s with
  | nil => rfl
  | cons a l ih => simp [ih, h]

@[simp] theorem State.foldl_bench_stopping {α : Type}
    (f : State → α → State) (h : ∀ s a, (f s a).bench.stopping = s.bench.stopping) (l : List α) (s : State) : (l.foldl f s).bench.stopping = s.bench.stopping := by
  induction l generalizing s with
  | nil => rfl
  | cons a l ih => simp [ih, h]

@[simp] theorem State.foldl_vote_slots {α : Type}
    (f : State → α → State) (h : ∀ s a, (f s a).vote.slots = s.vote.slots) (l : List α) (s : State) : (l.foldl f s).vote.slots = s.vote.slots := by
  induction l generalizing s with
  | nil => rfl
  | cons a l ih => simp [ih, h]

@[simp] theorem State.foldl_vote_lanes {α : Type}
    (f : State → α → State) (h : ∀ s a, (f s a).vote.lanes = s.vote.lanes) (l : List α) (s : State) : (l.foldl f s).vote.lanes = s.vote.lanes := by
  induction l generalizing s with
  | nil => rfl
  | cons a l ih => simp [ih, h]

@[simp] theorem State.foldl_vote_cores {α : Type}
    (f : State → α → State) (h : ∀ s a, (f s a).vote.cores = s.vote.cores) (l : List α) (s : State) : (l.foldl f s).vote.cores = s.vote.cores := by
  induction l generalizing s with
  | nil => rfl
  | cons a l ih => simp [ih, h]

@[simp] theorem State.foldl_vote_transients {α : Type}
    (f : State → α → State) (h : ∀ s a, (f s a).vote.transients = s.vote.transients) (l : List α) (s : State) : (l.foldl f s).vote.transients = s.vote.transients := by
  induction l generalizing s with
  | nil => rfl
  | cons a l ih => simp [ih, h]

@[simp] theorem State.foldl_vote_testing {α : Type}
    (f : State → α → State) (h : ∀ s a, (f s a).vote.testing = s.vote.testing) (l : List α) (s : State) : (l.foldl f s).vote.testing = s.vote.testing := by
  induction l generalizing s with
  | nil => rfl
  | cons a l ih => simp [ih, h]

@[simp] theorem State.foldl_vote_laneCheck {α : Type}
    (f : State → α → State) (h : ∀ s a, (f s a).vote.laneCheck = s.vote.laneCheck) (l : List α) (s : State) : (l.foldl f s).vote.laneCheck = s.vote.laneCheck := by
  induction l generalizing s with
  | nil => rfl
  | cons a l ih => simp [ih, h]

@[simp] theorem State.foldl_vote_joining {α : Type}
    (f : State → α → State) (h : ∀ s a, (f s a).vote.joining = s.vote.joining) (l : List α) (s : State) : (l.foldl f s).vote.joining = s.vote.joining := by
  induction l generalizing s with
  | nil => rfl
  | cons a l ih => simp [ih, h]

@[simp] theorem State.foldl_vote_joinReady {α : Type}
    (f : State → α → State) (h : ∀ s a, (f s a).vote.joinReady = s.vote.joinReady) (l : List α) (s : State) : (l.foldl f s).vote.joinReady = s.vote.joinReady := by
  induction l generalizing s with
  | nil => rfl
  | cons a l ih => simp [ih, h]

@[simp] theorem State.foldl_vote_laneTurn {α : Type}
    (f : State → α → State) (h : ∀ s a, (f s a).vote.laneTurn = s.vote.laneTurn) (l : List α) (s : State) : (l.foldl f s).vote.laneTurn = s.vote.laneTurn := by
  induction l generalizing s with
  | nil => rfl
  | cons a l ih => simp [ih, h]

@[simp] theorem State.foldl_vote_dwellUs {α : Type}
    (f : State → α → State) (h : ∀ s a, (f s a).vote.dwellUs = s.vote.dwellUs) (l : List α) (s : State) : (l.foldl f s).vote.dwellUs = s.vote.dwellUs := by
  induction l generalizing s with
  | nil => rfl
  | cons a l ih => simp [ih, h]

@[simp] theorem State.foldl_vote_dwellMarkUs {α : Type}
    (f : State → α → State) (h : ∀ s a, (f s a).vote.dwellMarkUs = s.vote.dwellMarkUs) (l : List α) (s : State) : (l.foldl f s).vote.dwellMarkUs = s.vote.dwellMarkUs := by
  induction l generalizing s with
  | nil => rfl
  | cons a l ih => simp [ih, h]

@[simp] theorem State.foldl_vote_dwellSavedS {α : Type}
    (f : State → α → State) (h : ∀ s a, (f s a).vote.dwellSavedS = s.vote.dwellSavedS) (l : List α) (s : State) : (l.foldl f s).vote.dwellSavedS = s.vote.dwellSavedS := by
  induction l generalizing s with
  | nil => rfl
  | cons a l ih => simp [ih, h]

@[simp] theorem State.foldl_vote_dwellEntered {α : Type}
    (f : State → α → State) (h : ∀ s a, (f s a).vote.dwellEntered = s.vote.dwellEntered) (l : List α) (s : State) : (l.foldl f s).vote.dwellEntered = s.vote.dwellEntered := by
  induction l generalizing s with
  | nil => rfl
  | cons a l ih => simp [ih, h]

@[simp] theorem State.foldl_vote_warned60 {α : Type}
    (f : State → α → State) (h : ∀ s a, (f s a).vote.warned60 = s.vote.warned60) (l : List α) (s : State) : (l.foldl f s).vote.warned60 = s.vote.warned60 := by
  induction l generalizing s with
  | nil => rfl
  | cons a l ih => simp [ih, h]

@[simp] theorem State.foldl_vote_warned10 {α : Type}
    (f : State → α → State) (h : ∀ s a, (f s a).vote.warned10 = s.vote.warned10) (l : List α) (s : State) : (l.foldl f s).vote.warned10 = s.vote.warned10 := by
  induction l generalizing s with
  | nil => rfl
  | cons a l ih => simp [ih, h]

@[simp] theorem State.foldl_vote_dwellExpired {α : Type}
    (f : State → α → State) (h : ∀ s a, (f s a).vote.dwellExpired = s.vote.dwellExpired) (l : List α) (s : State) : (l.foldl f s).vote.dwellExpired = s.vote.dwellExpired := by
  induction l generalizing s with
  | nil => rfl
  | cons a l ih => simp [ih, h]

@[simp] theorem State.foldl_vote_accusations {α : Type}
    (f : State → α → State) (h : ∀ s a, (f s a).vote.accusations = s.vote.accusations) (l : List α) (s : State) : (l.foldl f s).vote.accusations = s.vote.accusations := by
  induction l generalizing s with
  | nil => rfl
  | cons a l ih => simp [ih, h]

@[simp] theorem State.foldl_vote_lastAccuse {α : Type}
    (f : State → α → State) (h : ∀ s a, (f s a).vote.lastAccuse = s.vote.lastAccuse) (l : List α) (s : State) : (l.foldl f s).vote.lastAccuse = s.vote.lastAccuse := by
  induction l generalizing s with
  | nil => rfl
  | cons a l ih => simp [ih, h]

@[simp] theorem State.foldl_vote_sigGood {α : Type}
    (f : State → α → State) (h : ∀ s a, (f s a).vote.sigGood = s.vote.sigGood) (l : List α) (s : State) : (l.foldl f s).vote.sigGood = s.vote.sigGood := by
  induction l generalizing s with
  | nil => rfl
  | cons a l ih => simp [ih, h]

@[simp] theorem State.foldl_vote_sigExpected {α : Type}
    (f : State → α → State) (h : ∀ s a, (f s a).vote.sigExpected = s.vote.sigExpected) (l : List α) (s : State) : (l.foldl f s).vote.sigExpected = s.vote.sigExpected := by
  induction l generalizing s with
  | nil => rfl
  | cons a l ih => simp [ih, h]

@[simp] theorem State.foldl_vote_lockstepBroken {α : Type}
    (f : State → α → State) (h : ∀ s a, (f s a).vote.lockstepBroken = s.vote.lockstepBroken) (l : List α) (s : State) : (l.foldl f s).vote.lockstepBroken = s.vote.lockstepBroken := by
  induction l generalizing s with
  | nil => rfl
  | cons a l ih => simp [ih, h]

@[simp] theorem State.foldl_vote_cause {α : Type}
    (f : State → α → State) (h : ∀ s a, (f s a).vote.cause = s.vote.cause) (l : List α) (s : State) : (l.foldl f s).vote.cause = s.vote.cause := by
  induction l generalizing s with
  | nil => rfl
  | cons a l ih => simp [ih, h]

@[simp] theorem State.foldl_vote_verdictWord {α : Type}
    (f : State → α → State) (h : ∀ s a, (f s a).vote.verdictWord = s.vote.verdictWord) (l : List α) (s : State) : (l.foldl f s).vote.verdictWord = s.vote.verdictWord := by
  induction l generalizing s with
  | nil => rfl
  | cons a l ih => simp [ih, h]

@[simp] theorem State.foldl_field_inputs {α : Type}
    (f : State → α → State) (h : ∀ s a, (f s a).field.inputs = s.field.inputs) (l : List α) (s : State) : (l.foldl f s).field.inputs = s.field.inputs := by
  induction l generalizing s with
  | nil => rfl
  | cons a l ih => simp [ih, h]

@[simp] theorem State.foldl_field_sources {α : Type}
    (f : State → α → State) (h : ∀ s a, (f s a).field.sources = s.field.sources) (l : List α) (s : State) : (l.foldl f s).field.sources = s.field.sources := by
  induction l generalizing s with
  | nil => rfl
  | cons a l ih => simp [ih, h]

@[simp] theorem State.foldl_field_outputs {α : Type}
    (f : State → α → State) (h : ∀ s a, (f s a).field.outputs = s.field.outputs) (l : List α) (s : State) : (l.foldl f s).field.outputs = s.field.outputs := by
  induction l generalizing s with
  | nil => rfl
  | cons a l ih => simp [ih, h]

@[simp] theorem State.foldl_field_groups {α : Type}
    (f : State → α → State) (h : ∀ s a, (f s a).field.groups = s.field.groups) (l : List α) (s : State) : (l.foldl f s).field.groups = s.field.groups := by
  induction l generalizing s with
  | nil => rfl
  | cons a l ih => simp [ih, h]

@[simp] theorem State.foldl_field_gridUs {α : Type}
    (f : State → α → State) (h : ∀ s a, (f s a).field.gridUs = s.field.gridUs) (l : List α) (s : State) : (l.foldl f s).field.gridUs = s.field.gridUs := by
  induction l generalizing s with
  | nil => rfl
  | cons a l ih => simp [ih, h]

@[simp] theorem State.foldl_field_fsSeq {α : Type}
    (f : State → α → State) (h : ∀ s a, (f s a).field.fsSeq = s.field.fsSeq) (l : List α) (s : State) : (l.foldl f s).field.fsSeq = s.field.fsSeq := by
  induction l generalizing s with
  | nil => rfl
  | cons a l ih => simp [ih, h]

@[simp] theorem State.foldl_field_flSeq {α : Type}
    (f : State → α → State) (h : ∀ s a, (f s a).field.flSeq = s.field.flSeq) (l : List α) (s : State) : (l.foldl f s).field.flSeq = s.field.flSeq := by
  induction l generalizing s with
  | nil => rfl
  | cons a l ih => simp [ih, h]

@[simp] theorem State.foldl_field_fsSent {α : Type}
    (f : State → α → State) (h : ∀ s a, (f s a).field.fsSent = s.field.fsSent) (l : List α) (s : State) : (l.foldl f s).field.fsSent = s.field.fsSent := by
  induction l generalizing s with
  | nil => rfl
  | cons a l ih => simp [ih, h]

@[simp] theorem State.foldl_field_flSent {α : Type}
    (f : State → α → State) (h : ∀ s a, (f s a).field.flSent = s.field.flSent) (l : List α) (s : State) : (l.foldl f s).field.flSent = s.field.flSent := by
  induction l generalizing s with
  | nil => rfl
  | cons a l ih => simp [ih, h]

@[simp] theorem State.foldl_field_fsMissed {α : Type}
    (f : State → α → State) (h : ∀ s a, (f s a).field.fsMissed = s.field.fsMissed) (l : List α) (s : State) : (l.foldl f s).field.fsMissed = s.field.fsMissed := by
  induction l generalizing s with
  | nil => rfl
  | cons a l ih => simp [ih, h]

@[simp] theorem State.foldl_field_flMissed {α : Type}
    (f : State → α → State) (h : ∀ s a, (f s a).field.flMissed = s.field.flMissed) (l : List α) (s : State) : (l.foldl f s).field.flMissed = s.field.flMissed := by
  induction l generalizing s with
  | nil => rfl
  | cons a l ih => simp [ih, h]

@[simp] theorem State.foldl_field_missed {α : Type}
    (f : State → α → State) (h : ∀ s a, (f s a).field.missed = s.field.missed) (l : List α) (s : State) : (l.foldl f s).field.missed = s.field.missed := by
  induction l generalizing s with
  | nil => rfl
  | cons a l ih => simp [ih, h]

@[simp] theorem State.foldl_field_linkLost {α : Type}
    (f : State → α → State) (h : ∀ s a, (f s a).field.linkLost = s.field.linkLost) (l : List α) (s : State) : (l.foldl f s).field.linkLost = s.field.linkLost := by
  induction l generalizing s with
  | nil => rfl
  | cons a l ih => simp [ih, h]

@[simp] theorem State.foldl_field_config {α : Type}
    (f : State → α → State) (h : ∀ s a, (f s a).field.config = s.field.config) (l : List α) (s : State) : (l.foldl f s).field.config = s.field.config := by
  induction l generalizing s with
  | nil => rfl
  | cons a l ih => simp [ih, h]

@[simp] theorem State.foldl_field_configCrc {α : Type}
    (f : State → α → State) (h : ∀ s a, (f s a).field.configCrc = s.field.configCrc) (l : List α) (s : State) : (l.foldl f s).field.configCrc = s.field.configCrc := by
  induction l generalizing s with
  | nil => rfl
  | cons a l ih => simp [ih, h]

@[simp] theorem State.foldl_field_collect {α : Type}
    (f : State → α → State) (h : ∀ s a, (f s a).field.collect = s.field.collect) (l : List α) (s : State) : (l.foldl f s).field.collect = s.field.collect := by
  induction l generalizing s with
  | nil => rfl
  | cons a l ih => simp [ih, h]

@[simp] theorem State.foldl_field_lastSetCrc {α : Type}
    (f : State → α → State) (h : ∀ s a, (f s a).field.lastSetCrc = s.field.lastSetCrc) (l : List α) (s : State) : (l.foldl f s).field.lastSetCrc = s.field.lastSetCrc := by
  induction l generalizing s with
  | nil => rfl
  | cons a l ih => simp [ih, h]

@[simp] theorem State.foldl_field_segment {α : Type}
    (f : State → α → State) (h : ∀ s a, (f s a).field.segment = s.field.segment) (l : List α) (s : State) : (l.foldl f s).field.segment = s.field.segment := by
  induction l generalizing s with
  | nil => rfl
  | cons a l ih => simp [ih, h]

@[simp] theorem State.foldl_field_values {α : Type}
    (f : State → α → State) (h : ∀ s a, (f s a).field.values = s.field.values) (l : List α) (s : State) : (l.foldl f s).field.values = s.field.values := by
  induction l generalizing s with
  | nil => rfl
  | cons a l ih => simp [ih, h]

@[simp] theorem State.foldl_field_valid {α : Type}
    (f : State → α → State) (h : ∀ s a, (f s a).field.valid = s.field.valid) (l : List α) (s : State) : (l.foldl f s).field.valid = s.field.valid := by
  induction l generalizing s with
  | nil => rfl
  | cons a l ih => simp [ih, h]

@[simp] theorem State.foldl_field_stale {α : Type}
    (f : State → α → State) (h : ∀ s a, (f s a).field.stale = s.field.stale) (l : List α) (s : State) : (l.foldl f s).field.stale = s.field.stale := by
  induction l generalizing s with
  | nil => rfl
  | cons a l ih => simp [ih, h]

@[simp] theorem State.foldl_field_arrivalUs {α : Type}
    (f : State → α → State) (h : ∀ s a, (f s a).field.arrivalUs = s.field.arrivalUs) (l : List α) (s : State) : (l.foldl f s).field.arrivalUs = s.field.arrivalUs := by
  induction l generalizing s with
  | nil => rfl
  | cons a l ih => simp [ih, h]

@[simp] theorem State.foldl_field_crcSeen {α : Type}
    (f : State → α → State) (h : ∀ s a, (f s a).field.crcSeen = s.field.crcSeen) (l : List α) (s : State) : (l.foldl f s).field.crcSeen = s.field.crcSeen := by
  induction l generalizing s with
  | nil => rfl
  | cons a l ih => simp [ih, h]

@[simp] theorem State.foldl_field_crcGood {α : Type}
    (f : State → α → State) (h : ∀ s a, (f s a).field.crcGood = s.field.crcGood) (l : List α) (s : State) : (l.foldl f s).field.crcGood = s.field.crcGood := by
  induction l generalizing s with
  | nil => rfl
  | cons a l ih => simp [ih, h]

@[simp] theorem State.foldl_field_imageOutputs {α : Type}
    (f : State → α → State) (h : ∀ s a, (f s a).field.imageOutputs = s.field.imageOutputs) (l : List α) (s : State) : (l.foldl f s).field.imageOutputs = s.field.imageOutputs := by
  induction l generalizing s with
  | nil => rfl
  | cons a l ih => simp [ih, h]

@[simp] theorem State.foldl_field_imageGroups {α : Type}
    (f : State → α → State) (h : ∀ s a, (f s a).field.imageGroups = s.field.imageGroups) (l : List α) (s : State) : (l.foldl f s).field.imageGroups = s.field.imageGroups := by
  induction l generalizing s with
  | nil => rfl
  | cons a l ih => simp [ih, h]

@[simp] theorem State.foldl_hi_state {α : Type}
    (f : State → α → State) (h : ∀ s a, (f s a).hi.state = s.hi.state) (l : List α) (s : State) : (l.foldl f s).hi.state = s.hi.state := by
  induction l generalizing s with
  | nil => rfl
  | cons a l ih => simp [ih, h]

@[simp] theorem State.foldl_hi_m2 {α : Type}
    (f : State → α → State) (h : ∀ s a, (f s a).hi.m2 = s.hi.m2) (l : List α) (s : State) : (l.foldl f s).hi.m2 = s.hi.m2 := by
  induction l generalizing s with
  | nil => rfl
  | cons a l ih => simp [ih, h]

@[simp] theorem State.foldl_hi_unstableCount {α : Type}
    (f : State → α → State) (h : ∀ s a, (f s a).hi.unstableCount = s.hi.unstableCount) (l : List α) (s : State) : (l.foldl f s).hi.unstableCount = s.hi.unstableCount := by
  induction l generalizing s with
  | nil => rfl
  | cons a l ih => simp [ih, h]

@[simp] theorem State.foldl_hi_eventMg {α : Type}
    (f : State → α → State) (h : ∀ s a, (f s a).hi.eventMg = s.hi.eventMg) (l : List α) (s : State) : (l.foldl f s).hi.eventMg = s.hi.eventMg := by
  induction l generalizing s with
  | nil => rfl
  | cons a l ih => simp [ih, h]

@[simp] theorem State.foldl_hi_eventCl {α : Type}
    (f : State → α → State) (h : ∀ s a, (f s a).hi.eventCl = s.hi.eventCl) (l : List α) (s : State) : (l.foldl f s).hi.eventCl = s.hi.eventCl := by
  induction l generalizing s with
  | nil => rfl
  | cons a l ih => simp [ih, h]

@[simp] theorem State.foldl_hi_downMg {α : Type}
    (f : State → α → State) (h : ∀ s a, (f s a).hi.downMg = s.hi.downMg) (l : List α) (s : State) : (l.foldl f s).hi.downMg = s.hi.downMg := by
  induction l generalizing s with
  | nil => rfl
  | cons a l ih => simp [ih, h]

@[simp] theorem State.foldl_hi_downCl {α : Type}
    (f : State → α → State) (h : ∀ s a, (f s a).hi.downCl = s.hi.downCl) (l : List α) (s : State) : (l.foldl f s).hi.downCl = s.hi.downCl := by
  induction l generalizing s with
  | nil => rfl
  | cons a l ih => simp [ih, h]

@[simp] theorem State.foldl_hi_stale {α : Type}
    (f : State → α → State) (h : ∀ s a, (f s a).hi.stale = s.hi.stale) (l : List α) (s : State) : (l.foldl f s).hi.stale = s.hi.stale := by
  induction l generalizing s with
  | nil => rfl
  | cons a l ih => simp [ih, h]

@[simp] theorem State.foldl_hi_unstable {α : Type}
    (f : State → α → State) (h : ∀ s a, (f s a).hi.unstable = s.hi.unstable) (l : List α) (s : State) : (l.foldl f s).hi.unstable = s.hi.unstable := by
  induction l generalizing s with
  | nil => rfl
  | cons a l ih => simp [ih, h]

@[simp] theorem State.foldl_hi_scratch {α : Type}
    (f : State → α → State) (h : ∀ s a, (f s a).hi.scratch = s.hi.scratch) (l : List α) (s : State) : (l.foldl f s).hi.scratch = s.hi.scratch := by
  induction l generalizing s with
  | nil => rfl
  | cons a l ih => simp [ih, h]

@[simp] theorem State.foldl_hi_done {α : Type}
    (f : State → α → State) (h : ∀ s a, (f s a).hi.done = s.hi.done) (l : List α) (s : State) : (l.foldl f s).hi.done = s.hi.done := by
  induction l generalizing s with
  | nil => rfl
  | cons a l ih => simp [ih, h]

@[simp] theorem State.foldl_hi_busy {α : Type}
    (f : State → α → State) (h : ∀ s a, (f s a).hi.busy = s.hi.busy) (l : List α) (s : State) : (l.foldl f s).hi.busy = s.hi.busy := by
  induction l generalizing s with
  | nil => rfl
  | cons a l ih => simp [ih, h]

@[simp] theorem State.foldl_hi_head {α : Type}
    (f : State → α → State) (h : ∀ s a, (f s a).hi.head = s.hi.head) (l : List α) (s : State) : (l.foldl f s).hi.head = s.hi.head := by
  induction l generalizing s with
  | nil => rfl
  | cons a l ih => simp [ih, h]

@[simp] theorem State.foldl_hi_tail {α : Type}
    (f : State → α → State) (h : ∀ s a, (f s a).hi.tail = s.hi.tail) (l : List α) (s : State) : (l.foldl f s).hi.tail = s.hi.tail := by
  induction l generalizing s with
  | nil => rfl
  | cons a l ih => simp [ih, h]

@[simp] theorem State.foldl_hi_irqStat {α : Type}
    (f : State → α → State) (h : ∀ s a, (f s a).hi.irqStat = s.hi.irqStat) (l : List α) (s : State) : (l.foldl f s).hi.irqStat = s.hi.irqStat := by
  induction l generalizing s with
  | nil => rfl
  | cons a l ih => simp [ih, h]

@[simp] theorem State.foldl_hi_irqMask {α : Type}
    (f : State → α → State) (h : ∀ s a, (f s a).hi.irqMask = s.hi.irqMask) (l : List α) (s : State) : (l.foldl f s).hi.irqMask = s.hi.irqMask := by
  induction l generalizing s with
  | nil => rfl
  | cons a l ih => simp [ih, h]

@[simp] theorem State.foldl_hi_vectors {α : Type}
    (f : State → α → State) (h : ∀ s a, (f s a).hi.vectors = s.hi.vectors) (l : List α) (s : State) : (l.foldl f s).hi.vectors = s.hi.vectors := by
  induction l generalizing s with
  | nil => rfl
  | cons a l ih => simp [ih, h]

@[simp] theorem State.foldl_hi_bar2 {α : Type}
    (f : State → α → State) (h : ∀ s a, (f s a).hi.bar2 = s.hi.bar2) (l : List α) (s : State) : (l.foldl f s).hi.bar2 = s.hi.bar2 := by
  induction l generalizing s with
  | nil => rfl
  | cons a l ih => simp [ih, h]

@[simp] theorem State.foldl_hi_readData {α : Type}
    (f : State → α → State) (h : ∀ s a, (f s a).hi.readData = s.hi.readData) (l : List α) (s : State) : (l.foldl f s).hi.readData = s.hi.readData := by
  induction l generalizing s with
  | nil => rfl
  | cons a l ih => simp [ih, h]

@[simp] theorem State.foldl_hi_noteSeq {α : Type}
    (f : State → α → State) (h : ∀ s a, (f s a).hi.noteSeq = s.hi.noteSeq) (l : List α) (s : State) : (l.foldl f s).hi.noteSeq = s.hi.noteSeq := by
  induction l generalizing s with
  | nil => rfl
  | cons a l ih => simp [ih, h]

@[simp] theorem State.foldl_hi_heldNotes {α : Type}
    (f : State → α → State) (h : ∀ s a, (f s a).hi.heldNotes = s.hi.heldNotes) (l : List α) (s : State) : (l.foldl f s).hi.heldNotes = s.hi.heldNotes := by
  induction l generalizing s with
  | nil => rfl
  | cons a l ih => simp [ih, h]

@[simp] theorem State.foldl_hi_lostNotes {α : Type}
    (f : State → α → State) (h : ∀ s a, (f s a).hi.lostNotes = s.hi.lostNotes) (l : List α) (s : State) : (l.foldl f s).hi.lostNotes = s.hi.lostNotes := by
  induction l generalizing s with
  | nil => rfl
  | cons a l ih => simp [ih, h]

@[simp] theorem State.foldl_hi_unread {α : Type}
    (f : State → α → State) (h : ∀ s a, (f s a).hi.unread = s.hi.unread) (l : List α) (s : State) : (l.foldl f s).hi.unread = s.hi.unread := by
  induction l generalizing s with
  | nil => rfl
  | cons a l ih => simp [ih, h]

@[simp] theorem State.foldl_hi_heldDone {α : Type}
    (f : State → α → State) (h : ∀ s a, (f s a).hi.heldDone = s.hi.heldDone) (l : List α) (s : State) : (l.foldl f s).hi.heldDone = s.hi.heldDone := by
  induction l generalizing s with
  | nil => rfl
  | cons a l ih => simp [ih, h]

@[simp] theorem State.foldl_hi_subscribed {α : Type}
    (f : State → α → State) (h : ∀ s a, (f s a).hi.subscribed = s.hi.subscribed) (l : List α) (s : State) : (l.foldl f s).hi.subscribed = s.hi.subscribed := by
  induction l generalizing s with
  | nil => rfl
  | cons a l ih => simp [ih, h]

@[simp] theorem State.foldl_hi_x8Subscribed {α : Type}
    (f : State → α → State) (h : ∀ s a, (f s a).hi.x8Subscribed = s.hi.x8Subscribed) (l : List α) (s : State) : (l.foldl f s).hi.x8Subscribed = s.hi.x8Subscribed := by
  induction l generalizing s with
  | nil => rfl
  | cons a l ih => simp [ih, h]

@[simp] theorem State.foldl_hi_x8Dest {α : Type}
    (f : State → α → State) (h : ∀ s a, (f s a).hi.x8Dest = s.hi.x8Dest) (l : List α) (s : State) : (l.foldl f s).hi.x8Dest = s.hi.x8Dest := by
  induction l generalizing s with
  | nil => rfl
  | cons a l ih => simp [ih, h]

@[simp] theorem State.foldl_hi_x8Last {α : Type}
    (f : State → α → State) (h : ∀ s a, (f s a).hi.x8Last = s.hi.x8Last) (l : List α) (s : State) : (l.foldl f s).hi.x8Last = s.hi.x8Last := by
  induction l generalizing s with
  | nil => rfl
  | cons a l ih => simp [ih, h]

@[simp] theorem State.foldl_hi_x8Seq {α : Type}
    (f : State → α → State) (h : ∀ s a, (f s a).hi.x8Seq = s.hi.x8Seq) (l : List α) (s : State) : (l.foldl f s).hi.x8Seq = s.hi.x8Seq := by
  induction l generalizing s with
  | nil => rfl
  | cons a l ih => simp [ih, h]

@[simp] theorem State.foldl_hi_x8Unsent {α : Type}
    (f : State → α → State) (h : ∀ s a, (f s a).hi.x8Unsent = s.hi.x8Unsent) (l : List α) (s : State) : (l.foldl f s).hi.x8Unsent = s.hi.x8Unsent := by
  induction l generalizing s with
  | nil => rfl
  | cons a l ih => simp [ih, h]

@[simp] theorem State.foldl_hi_x8Short {α : Type}
    (f : State → α → State) (h : ∀ s a, (f s a).hi.x8Short = s.hi.x8Short) (l : List α) (s : State) : (l.foldl f s).hi.x8Short = s.hi.x8Short := by
  induction l generalizing s with
  | nil => rfl
  | cons a l ih => simp [ih, h]

@[simp] theorem State.foldl_hi_x8 {α : Type}
    (f : State → α → State) (h : ∀ s a, (f s a).hi.x8 = s.hi.x8) (l : List α) (s : State) : (l.foldl f s).hi.x8 = s.hi.x8 := by
  induction l generalizing s with
  | nil => rfl
  | cons a l ih => simp [ih, h]

@[simp] theorem State.foldl_hi_x8Address {α : Type}
    (f : State → α → State) (h : ∀ s a, (f s a).hi.x8Address = s.hi.x8Address) (l : List α) (s : State) : (l.foldl f s).hi.x8Address = s.hi.x8Address := by
  induction l generalizing s with
  | nil => rfl
  | cons a l ih => simp [ih, h]

@[simp] theorem State.foldl_hi_x8Plen {α : Type}
    (f : State → α → State) (h : ∀ s a, (f s a).hi.x8Plen = s.hi.x8Plen) (l : List α) (s : State) : (l.foldl f s).hi.x8Plen = s.hi.x8Plen := by
  induction l generalizing s with
  | nil => rfl
  | cons a l ih => simp [ih, h]

@[simp] theorem State.foldl_hi_x8Gateway {α : Type}
    (f : State → α → State) (h : ∀ s a, (f s a).hi.x8Gateway = s.hi.x8Gateway) (l : List α) (s : State) : (l.foldl f s).hi.x8Gateway = s.hi.x8Gateway := by
  induction l generalizing s with
  | nil => rfl
  | cons a l ih => simp [ih, h]

@[simp] theorem State.foldl_hi_x8New {α : Type}
    (f : State → α → State) (h : ∀ s a, (f s a).hi.x8New = s.hi.x8New) (l : List α) (s : State) : (l.foldl f s).hi.x8New = s.hi.x8New := by
  induction l generalizing s with
  | nil => rfl
  | cons a l ih => simp [ih, h]

@[simp] theorem State.foldl_mg_alive {α : Type}
    (f : State → α → State) (h : ∀ s a, (f s a).mg.alive = s.mg.alive) (l : List α) (s : State) : (l.foldl f s).mg.alive = s.mg.alive := by
  induction l generalizing s with
  | nil => rfl
  | cons a l ih => simp [ih, h]

@[simp] theorem State.foldl_mg_arrival {α : Type}
    (f : State → α → State) (h : ∀ s a, (f s a).mg.arrival = s.mg.arrival) (l : List α) (s : State) : (l.foldl f s).mg.arrival = s.mg.arrival := by
  induction l generalizing s with
  | nil => rfl
  | cons a l ih => simp [ih, h]

@[simp] theorem State.foldl_mg_queue {α : Type}
    (f : State → α → State) (h : ∀ s a, (f s a).mg.queue = s.mg.queue) (l : List α) (s : State) : (l.foldl f s).mg.queue = s.mg.queue := by
  induction l generalizing s with
  | nil => rfl
  | cons a l ih => simp [ih, h]

@[simp] theorem State.foldl_mg_outstanding {α : Type}
    (f : State → α → State) (h : ∀ s a, (f s a).mg.outstanding = s.mg.outstanding) (l : List α) (s : State) : (l.foldl f s).mg.outstanding = s.mg.outstanding := by
  induction l generalizing s with
  | nil => rfl
  | cons a l ih => simp [ih, h]

@[simp] theorem State.foldl_mg_voided {α : Type}
    (f : State → α → State) (h : ∀ s a, (f s a).mg.voided = s.mg.voided) (l : List α) (s : State) : (l.foldl f s).mg.voided = s.mg.voided := by
  induction l generalizing s with
  | nil => rfl
  | cons a l ih => simp [ih, h]

@[simp] theorem State.foldl_mg_sessions {α : Type}
    (f : State → α → State) (h : ∀ s a, (f s a).mg.sessions = s.mg.sessions) (l : List α) (s : State) : (l.foldl f s).mg.sessions = s.mg.sessions := by
  induction l generalizing s with
  | nil => rfl
  | cons a l ih => simp [ih, h]

@[simp] theorem State.foldl_mg_usedIds {α : Type}
    (f : State → α → State) (h : ∀ s a, (f s a).mg.usedIds = s.mg.usedIds) (l : List α) (s : State) : (l.foldl f s).mg.usedIds = s.mg.usedIds := by
  induction l generalizing s with
  | nil => rfl
  | cons a l ih => simp [ih, h]

@[simp] theorem State.foldl_recorder_ring {α : Type}
    (f : State → α → State) (h : ∀ s a, (f s a).recorder.ring = s.recorder.ring) (l : List α) (s : State) : (l.foldl f s).recorder.ring = s.recorder.ring := by
  induction l generalizing s with
  | nil => rfl
  | cons a l ih => simp [ih, h]

@[simp] theorem State.foldl_recorder_next {α : Type}
    (f : State → α → State) (h : ∀ s a, (f s a).recorder.next = s.recorder.next) (l : List α) (s : State) : (l.foldl f s).recorder.next = s.recorder.next := by
  induction l generalizing s with
  | nil => rfl
  | cons a l ih => simp [ih, h]

@[simp] theorem State.foldl_recorder_capacity {α : Type}
    (f : State → α → State) (h : ∀ s a, (f s a).recorder.capacity = s.recorder.capacity) (l : List α) (s : State) : (l.foldl f s).recorder.capacity = s.recorder.capacity := by
  induction l generalizing s with
  | nil => rfl
  | cons a l ih => simp [ih, h]

@[simp] theorem State.foldl_recorder_badBlocks {α : Type}
    (f : State → α → State) (h : ∀ s a, (f s a).recorder.badBlocks = s.recorder.badBlocks) (l : List α) (s : State) : (l.foldl f s).recorder.badBlocks = s.recorder.badBlocks := by
  induction l generalizing s with
  | nil => rfl
  | cons a l ih => simp [ih, h]

@[simp] theorem State.foldl_recorder_buckets {α : Type}
    (f : State → α → State) (h : ∀ s a, (f s a).recorder.buckets = s.recorder.buckets) (l : List α) (s : State) : (l.foldl f s).recorder.buckets = s.recorder.buckets := by
  induction l generalizing s with
  | nil => rfl
  | cons a l ih => simp [ih, h]

@[simp] theorem State.foldl_recorder_rates {α : Type}
    (f : State → α → State) (h : ∀ s a, (f s a).recorder.rates = s.recorder.rates) (l : List α) (s : State) : (l.foldl f s).recorder.rates = s.recorder.rates := by
  induction l generalizing s with
  | nil => rfl
  | cons a l ih => simp [ih, h]

@[simp] theorem State.foldl_recorder_frozenUntil {α : Type}
    (f : State → α → State) (h : ∀ s a, (f s a).recorder.frozenUntil = s.recorder.frozenUntil) (l : List α) (s : State) : (l.foldl f s).recorder.frozenUntil = s.recorder.frozenUntil := by
  induction l generalizing s with
  | nil => rfl
  | cons a l ih => simp [ih, h]

@[simp] theorem State.foldl_recorder_staging {α : Type}
    (f : State → α → State) (h : ∀ s a, (f s a).recorder.staging = s.recorder.staging) (l : List α) (s : State) : (l.foldl f s).recorder.staging = s.recorder.staging := by
  induction l generalizing s with
  | nil => rfl
  | cons a l ih => simp [ih, h]

@[simp] theorem State.foldl_recorder_lost {α : Type}
    (f : State → α → State) (h : ∀ s a, (f s a).recorder.lost = s.recorder.lost) (l : List α) (s : State) : (l.foldl f s).recorder.lost = s.recorder.lost := by
  induction l generalizing s with
  | nil => rfl
  | cons a l ih => simp [ih, h]

@[simp] theorem State.foldl_recorder_firstLost {α : Type}
    (f : State → α → State) (h : ∀ s a, (f s a).recorder.firstLost = s.recorder.firstLost) (l : List α) (s : State) : (l.foldl f s).recorder.firstLost = s.recorder.firstLost := by
  induction l generalizing s with
  | nil => rfl
  | cons a l ih => simp [ih, h]

@[simp] theorem State.foldl_rt_alive {α : Type}
    (f : State → α → State) (h : ∀ s a, (f s a).rt.alive = s.rt.alive) (l : List α) (s : State) : (l.foldl f s).rt.alive = s.rt.alive := by
  induction l generalizing s with
  | nil => rfl
  | cons a l ih => simp [ih, h]

@[simp] theorem State.foldl_rt_timeSet {α : Type}
    (f : State → α → State) (h : ∀ s a, (f s a).rt.timeSet = s.rt.timeSet) (l : List α) (s : State) : (l.foldl f s).rt.timeSet = s.rt.timeSet := by
  induction l generalizing s with
  | nil => rfl
  | cons a l ih => simp [ih, h]

@[simp] theorem State.foldl_rt_sealPat {α : Type}
    (f : State → α → State) (h : ∀ s a, (f s a).rt.sealPat = s.rt.sealPat) (l : List α) (s : State) : (l.foldl f s).rt.sealPat = s.rt.sealPat := by
  induction l generalizing s with
  | nil => rfl
  | cons a l ih => simp [ih, h]

@[simp] theorem State.foldl_rt_sealEdge {α : Type}
    (f : State → α → State) (h : ∀ s a, (f s a).rt.sealEdge = s.rt.sealEdge) (l : List α) (s : State) : (l.foldl f s).rt.sealEdge = s.rt.sealEdge := by
  induction l generalizing s with
  | nil => rfl
  | cons a l ih => simp [ih, h]

@[simp] theorem State.foldl_rt_hot {α : Type}
    (f : State → α → State) (h : ∀ s a, (f s a).rt.hot = s.rt.hot) (l : List α) (s : State) : (l.foldl f s).rt.hot = s.rt.hot := by
  induction l generalizing s with
  | nil => rfl
  | cons a l ih => simp [ih, h]

@[simp] theorem State.foldl_rt_cellLow {α : Type}
    (f : State → α → State) (h : ∀ s a, (f s a).rt.cellLow = s.rt.cellLow) (l : List α) (s : State) : (l.foldl f s).rt.cellLow = s.rt.cellLow := by
  induction l generalizing s with
  | nil => rfl
  | cons a l ih => simp [ih, h]

@[simp] theorem State.foldl_rt_calLost {α : Type}
    (f : State → α → State) (h : ∀ s a, (f s a).rt.calLost = s.rt.calLost) (l : List α) (s : State) : (l.foldl f s).rt.calLost = s.rt.calLost := by
  induction l generalizing s with
  | nil => rfl
  | cons a l ih => simp [ih, h]

@[simp] theorem State.foldl_rt_found {α : Type}
    (f : State → α → State) (h : ∀ s a, (f s a).rt.found = s.rt.found) (l : List α) (s : State) : (l.foldl f s).rt.found = s.rt.found := by
  induction l generalizing s with
  | nil => rfl
  | cons a l ih => simp [ih, h]

@[simp] theorem State.foldl_rt_stagedMirror {α : Type}
    (f : State → α → State) (h : ∀ s a, (f s a).rt.stagedMirror = s.rt.stagedMirror) (l : List α) (s : State) : (l.foldl f s).rt.stagedMirror = s.rt.stagedMirror := by
  induction l generalizing s with
  | nil => rfl
  | cons a l ih => simp [ih, h]

@[simp] theorem State.foldl_power_state {α : Type}
    (f : State → α → State) (h : ∀ s a, (f s a).power.state = s.power.state) (l : List α) (s : State) : (l.foldl f s).power.state = s.power.state := by
  induction l generalizing s with
  | nil => rfl
  | cons a l ih => simp [ih, h]

@[simp] theorem State.foldl_power_ledTest {α : Type}
    (f : State → α → State) (h : ∀ s a, (f s a).power.ledTest = s.power.ledTest) (l : List α) (s : State) : (l.foldl f s).power.ledTest = s.power.ledTest := by
  induction l generalizing s with
  | nil => rfl
  | cons a l ih => simp [ih, h]

@[simp] theorem State.foldl_power_cause {α : Type}
    (f : State → α → State) (h : ∀ s a, (f s a).power.cause = s.power.cause) (l : List α) (s : State) : (l.foldl f s).power.cause = s.power.cause := by
  induction l generalizing s with
  | nil => rfl
  | cons a l ih => simp [ih, h]

@[simp] theorem State.foldl_power_fullForm {α : Type}
    (f : State → α → State) (h : ∀ s a, (f s a).power.fullForm = s.power.fullForm) (l : List α) (s : State) : (l.foldl f s).power.fullForm = s.power.fullForm := by
  induction l generalizing s with
  | nil => rfl
  | cons a l ih => simp [ih, h]

@[simp] theorem State.foldl_power_startUs {α : Type}
    (f : State → α → State) (h : ∀ s a, (f s a).power.startUs = s.power.startUs) (l : List α) (s : State) : (l.foldl f s).power.startUs = s.power.startUs := by
  induction l generalizing s with
  | nil => rfl
  | cons a l ih => simp [ih, h]

@[simp] theorem State.foldl_power_supply {α : Type}
    (f : State → α → State) (h : ∀ s a, (f s a).power.supply = s.power.supply) (l : List α) (s : State) : (l.foldl f s).power.supply = s.power.supply := by
  induction l generalizing s with
  | nil => rfl
  | cons a l ih => simp [ih, h]

@[simp] theorem State.foldl_power_logicMv {α : Type}
    (f : State → α → State) (h : ∀ s a, (f s a).power.logicMv = s.power.logicMv) (l : List α) (s : State) : (l.foldl f s).power.logicMv = s.power.logicMv := by
  induction l generalizing s with
  | nil => rfl
  | cons a l ih => simp [ih, h]

@[simp] theorem State.foldl_power_boardTemp {α : Type}
    (f : State → α → State) (h : ∀ s a, (f s a).power.boardTemp = s.power.boardTemp) (l : List α) (s : State) : (l.foldl f s).power.boardTemp = s.power.boardTemp := by
  induction l generalizing s with
  | nil => rfl
  | cons a l ih => simp [ih, h]

@[simp] theorem State.foldl_power_hotTold {α : Type}
    (f : State → α → State) (h : ∀ s a, (f s a).power.hotTold = s.power.hotTold) (l : List α) (s : State) : (l.foldl f s).power.hotTold = s.power.hotTold := by
  induction l generalizing s with
  | nil => rfl
  | cons a l ih => simp [ih, h]

@[simp] theorem State.foldl_power_cellFitted {α : Type}
    (f : State → α → State) (h : ∀ s a, (f s a).power.cellFitted = s.power.cellFitted) (l : List α) (s : State) : (l.foldl f s).power.cellFitted = s.power.cellFitted := by
  induction l generalizing s with
  | nil => rfl
  | cons a l ih => simp [ih, h]

@[simp] theorem State.foldl_power_cellMv {α : Type}
    (f : State → α → State) (h : ∀ s a, (f s a).power.cellMv = s.power.cellMv) (l : List α) (s : State) : (l.foldl f s).power.cellMv = s.power.cellMv := by
  induction l generalizing s with
  | nil => rfl
  | cons a l ih => simp [ih, h]

@[simp] theorem State.foldl_power_cellLowTold {α : Type}
    (f : State → α → State) (h : ∀ s a, (f s a).power.cellLowTold = s.power.cellLowTold) (l : List α) (s : State) : (l.foldl f s).power.cellLowTold = s.power.cellLowTold := by
  induction l generalizing s with
  | nil => rfl
  | cons a l ih => simp [ih, h]

@[simp] theorem State.foldl_power_cellGoneTold {α : Type}
    (f : State → α → State) (h : ∀ s a, (f s a).power.cellGoneTold = s.power.cellGoneTold) (l : List α) (s : State) : (l.foldl f s).power.cellGoneTold = s.power.cellGoneTold := by
  induction l generalizing s with
  | nil => rfl
  | cons a l ih => simp [ih, h]

@[simp] theorem State.foldl_power_readyOff {α : Type}
    (f : State → α → State) (h : ∀ s a, (f s a).power.readyOff = s.power.readyOff) (l : List α) (s : State) : (l.foldl f s).power.readyOff = s.power.readyOff := by
  induction l generalizing s with
  | nil => rfl
  | cons a l ih => simp [ih, h]

@[simp] theorem State.foldl_power_slot {α : Type}
    (f : State → α → State) (h : ∀ s a, (f s a).power.slot = s.power.slot) (l : List α) (s : State) : (l.foldl f s).power.slot = s.power.slot := by
  induction l generalizing s with
  | nil => rfl
  | cons a l ih => simp [ih, h]

@[simp] theorem State.foldl_power_causes {α : Type}
    (f : State → α → State) (h : ∀ s a, (f s a).power.causes = s.power.causes) (l : List α) (s : State) : (l.foldl f s).power.causes = s.power.causes := by
  induction l generalizing s with
  | nil => rfl
  | cons a l ih => simp [ih, h]

@[simp] theorem State.foldl_power_record {α : Type}
    (f : State → α → State) (h : ∀ s a, (f s a).power.record = s.power.record) (l : List α) (s : State) : (l.foldl f s).power.record = s.power.record := by
  induction l generalizing s with
  | nil => rfl
  | cons a l ih => simp [ih, h]

@[simp] theorem State.foldl_power_repeated {α : Type}
    (f : State → α → State) (h : ∀ s a, (f s a).power.repeated = s.power.repeated) (l : List α) (s : State) : (l.foldl f s).power.repeated = s.power.repeated := by
  induction l generalizing s with
  | nil => rfl
  | cons a l ih => simp [ih, h]

@[simp] theorem State.foldl_power_lockoutCause {α : Type}
    (f : State → α → State) (h : ∀ s a, (f s a).power.lockoutCause = s.power.lockoutCause) (l : List α) (s : State) : (l.foldl f s).power.lockoutCause = s.power.lockoutCause := by
  induction l generalizing s with
  | nil => rfl
  | cons a l ih => simp [ih, h]

@[simp] theorem State.foldl_power_entries {α : Type}
    (f : State → α → State) (h : ∀ s a, (f s a).power.entries = s.power.entries) (l : List α) (s : State) : (l.foldl f s).power.entries = s.power.entries := by
  induction l generalizing s with
  | nil => rfl
  | cons a l ih => simp [ih, h]

@[simp] theorem State.foldl_power_wasSafe {α : Type}
    (f : State → α → State) (h : ∀ s a, (f s a).power.wasSafe = s.power.wasSafe) (l : List α) (s : State) : (l.foldl f s).power.wasSafe = s.power.wasSafe := by
  induction l generalizing s with
  | nil => rfl
  | cons a l ih => simp [ih, h]

@[simp] theorem State.foldl_power_testPassed {α : Type}
    (f : State → α → State) (h : ∀ s a, (f s a).power.testPassed = s.power.testPassed) (l : List α) (s : State) : (l.foldl f s).power.testPassed = s.power.testPassed := by
  induction l generalizing s with
  | nil => rfl
  | cons a l ih => simp [ih, h]

@[simp] theorem State.foldl_power_testPassedUs {α : Type}
    (f : State → α → State) (h : ∀ s a, (f s a).power.testPassedUs = s.power.testPassedUs) (l : List α) (s : State) : (l.foldl f s).power.testPassedUs = s.power.testPassedUs := by
  induction l generalizing s with
  | nil => rfl
  | cons a l ih => simp [ih, h]

@[simp] theorem State.foldl_power_dead {α : Type}
    (f : State → α → State) (h : ∀ s a, (f s a).power.dead = s.power.dead) (l : List α) (s : State) : (l.foldl f s).power.dead = s.power.dead := by
  induction l generalizing s with
  | nil => rfl
  | cons a l ih => simp [ih, h]

@[simp] theorem State.foldl_power_faultLed {α : Type}
    (f : State → α → State) (h : ∀ s a, (f s a).power.faultLed = s.power.faultLed) (l : List α) (s : State) : (l.foldl f s).power.faultLed = s.power.faultLed := by
  induction l generalizing s with
  | nil => rfl
  | cons a l ih => simp [ih, h]

@[simp] theorem State.foldl_test_record {α : Type}
    (f : State → α → State) (h : ∀ s a, (f s a).test.record = s.test.record) (l : List α) (s : State) : (l.foldl f s).test.record = s.test.record := by
  induction l generalizing s with
  | nil => rfl
  | cons a l ih => simp [ih, h]

@[simp] theorem State.foldl_test_step {α : Type}
    (f : State → α → State) (h : ∀ s a, (f s a).test.step = s.test.step) (l : List α) (s : State) : (l.foldl f s).test.step = s.test.step := by
  induction l generalizing s with
  | nil => rfl
  | cons a l ih => simp [ih, h]

@[simp] theorem State.foldl_test_stepUs {α : Type}
    (f : State → α → State) (h : ∀ s a, (f s a).test.stepUs = s.test.stepUs) (l : List α) (s : State) : (l.foldl f s).test.stepUs = s.test.stepUs := by
  induction l generalizing s with
  | nil => rfl
  | cons a l ih => simp [ih, h]

@[simp] theorem State.foldl_test_beganUs {α : Type}
    (f : State → α → State) (h : ∀ s a, (f s a).test.beganUs = s.test.beganUs) (l : List α) (s : State) : (l.foldl f s).test.beganUs = s.test.beganUs := by
  induction l generalizing s with
  | nil => rfl
  | cons a l ih => simp [ih, h]

@[simp] theorem State.foldl_test_verdicts {α : Type}
    (f : State → α → State) (h : ∀ s a, (f s a).test.verdicts = s.test.verdicts) (l : List α) (s : State) : (l.foldl f s).test.verdicts = s.test.verdicts := by
  induction l generalizing s with
  | nil => rfl
  | cons a l ih => simp [ih, h]

@[simp] theorem State.foldl_test_matched {α : Type}
    (f : State → α → State) (h : ∀ s a, (f s a).test.matched = s.test.matched) (l : List α) (s : State) : (l.foldl f s).test.matched = s.test.matched := by
  induction l generalizing s with
  | nil => rfl
  | cons a l ih => simp [ih, h]

@[simp] theorem State.foldl_test_fused {α : Type}
    (f : State → α → State) (h : ∀ s a, (f s a).test.fused = s.test.fused) (l : List α) (s : State) : (l.foldl f s).test.fused = s.test.fused := by
  induction l generalizing s with
  | nil => rfl
  | cons a l ih => simp [ih, h]

@[simp] theorem State.foldl_test_expected {α : Type}
    (f : State → α → State) (h : ∀ s a, (f s a).test.expected = s.test.expected) (l : List α) (s : State) : (l.foldl f s).test.expected = s.test.expected := by
  induction l generalizing s with
  | nil => rfl
  | cons a l ih => simp [ih, h]

@[simp] theorem State.foldl_test_ageBaseUs {α : Type}
    (f : State → α → State) (h : ∀ s a, (f s a).test.ageBaseUs = s.test.ageBaseUs) (l : List α) (s : State) : (l.foldl f s).test.ageBaseUs = s.test.ageBaseUs := by
  induction l generalizing s with
  | nil => rfl
  | cons a l ih => simp [ih, h]

@[simp] theorem State.foldl_test_fromState {α : Type}
    (f : State → α → State) (h : ∀ s a, (f s a).test.fromState = s.test.fromState) (l : List α) (s : State) : (l.foldl f s).test.fromState = s.test.fromState := by
  induction l generalizing s with
  | nil => rfl
  | cons a l ih => simp [ih, h]

@[simp] theorem State.foldl_test_hotEnded {α : Type}
    (f : State → α → State) (h : ∀ s a, (f s a).test.hotEnded = s.test.hotEnded) (l : List α) (s : State) : (l.foldl f s).test.hotEnded = s.test.hotEnded := by
  induction l generalizing s with
  | nil => rfl
  | cons a l ih => simp [ih, h]

@[simp] theorem State.foldl_test_pendingFuses {α : Type}
    (f : State → α → State) (h : ∀ s a, (f s a).test.pendingFuses = s.test.pendingFuses) (l : List α) (s : State) : (l.foldl f s).test.pendingFuses = s.test.pendingFuses := by
  induction l generalizing s with
  | nil => rfl
  | cons a l ih => simp [ih, h]

@[simp] theorem State.foldl_net_buffer {α : Type}
    (f : State → α → State) (h : ∀ s a, (f s a).net.buffer = s.net.buffer) (l : List α) (s : State) : (l.foldl f s).net.buffer = s.net.buffer := by
  induction l generalizing s with
  | nil => rfl
  | cons a l ih => simp [ih, h]

@[simp] theorem State.foldl_net_bufferDropped {α : Type}
    (f : State → α → State) (h : ∀ s a, (f s a).net.bufferDropped = s.net.bufferDropped) (l : List α) (s : State) : (l.foldl f s).net.bufferDropped = s.net.bufferDropped := by
  induction l generalizing s with
  | nil => rfl
  | cons a l ih => simp [ih, h]

@[simp] theorem State.foldl_net_accepted {α : Type}
    (f : State → α → State) (h : ∀ s a, (f s a).net.accepted = s.net.accepted) (l : List α) (s : State) : (l.foldl f s).net.accepted = s.net.accepted := by
  induction l generalizing s with
  | nil => rfl
  | cons a l ih => simp [ih, h]

@[simp] theorem State.foldl_net_seen {α : Type}
    (f : State → α → State) (h : ∀ s a, (f s a).net.seen = s.net.seen) (l : List α) (s : State) : (l.foldl f s).net.seen = s.net.seen := by
  induction l generalizing s with
  | nil => rfl
  | cons a l ih => simp [ih, h]

@[simp] theorem State.foldl_net_lans {α : Type}
    (f : State → α → State) (h : ∀ s a, (f s a).net.lans = s.net.lans) (l : List α) (s : State) : (l.foldl f s).net.lans = s.net.lans := by
  induction l generalizing s with
  | nil => rfl
  | cons a l ih => simp [ih, h]

@[simp] theorem State.foldl_net_listed {α : Type}
    (f : State → α → State) (h : ∀ s a, (f s a).net.listed = s.net.listed) (l : List α) (s : State) : (l.foldl f s).net.listed = s.net.listed := by
  induction l generalizing s with
  | nil => rfl
  | cons a l ih => simp [ih, h]

@[simp] theorem State.foldl_net_listMalformed {α : Type}
    (f : State → α → State) (h : ∀ s a, (f s a).net.listMalformed = s.net.listMalformed) (l : List α) (s : State) : (l.foldl f s).net.listMalformed = s.net.listMalformed := by
  induction l generalizing s with
  | nil => rfl
  | cons a l ih => simp [ih, h]

@[simp] theorem State.foldl_net_disagreements {α : Type}
    (f : State → α → State) (h : ∀ s a, (f s a).net.disagreements = s.net.disagreements) (l : List α) (s : State) : (l.foldl f s).net.disagreements = s.net.disagreements := by
  induction l generalizing s with
  | nil => rfl
  | cons a l ih => simp [ih, h]

@[simp] theorem State.foldl_net_counters {α : Type}
    (f : State → α → State) (h : ∀ s a, (f s a).net.counters = s.net.counters) (l : List α) (s : State) : (l.foldl f s).net.counters = s.net.counters := by
  induction l generalizing s with
  | nil => rfl
  | cons a l ih => simp [ih, h]

@[simp] theorem State.foldl_net_prpSeq {α : Type}
    (f : State → α → State) (h : ∀ s a, (f s a).net.prpSeq = s.net.prpSeq) (l : List α) (s : State) : (l.foldl f s).net.prpSeq = s.net.prpSeq := by
  induction l generalizing s with
  | nil => rfl
  | cons a l ih => simp [ih, h]

@[simp] theorem State.foldl_net_supervisionUs {α : Type}
    (f : State → α → State) (h : ∀ s a, (f s a).net.supervisionUs = s.net.supervisionUs) (l : List α) (s : State) : (l.foldl f s).net.supervisionUs = s.net.supervisionUs := by
  induction l generalizing s with
  | nil => rfl
  | cons a l ih => simp [ih, h]

end Sys2Proof.Machine
end

