-- ==== Sys2Proof/Laws/Ops.lean ====
section
/-! SUPPORT. What the operations of Machine/Ops.lean leave alone: one lemma for each, naming every part of the state that
it does not write. A proof passes a frame to simp by name with its arguments left open. -/

namespace Sys2Proof.Machine

open Sys2Proof

theorem State.tick_frame (s : State) :
    (State.tick s).unit = s.unit ∧ (State.tick s).savedOpUs = s.savedOpUs ∧ (State.tick s).powerCycle = s.powerCycle ∧
    (State.tick s).epoch = s.epoch ∧ (State.tick s).power = s.power ∧ (State.tick s).sec = s.sec ∧
    (State.tick s).station = s.station ∧ (State.tick s).bench = s.bench ∧ (State.tick s).eng = s.eng ∧
    (State.tick s).vote = s.vote ∧ (State.tick s).ash = s.ash ∧ (State.tick s).field = s.field ∧
    (State.tick s).can = s.can ∧ (State.tick s).net = s.net ∧ (State.tick s).hi = s.hi ∧
    (State.tick s).xings = s.xings ∧ (State.tick s).mg = s.mg ∧ (State.tick s).recorder = s.recorder ∧
    (State.tick s).log = s.log ∧ (State.tick s).test = s.test ∧ (State.tick s).update = s.update ∧
    (State.tick s).draws = s.draws ∧ (State.tick s).outbox = s.outbox ∧ (State.tick s).diag = s.diag ∧
    (State.tick s).pending = s.pending := by
  simp [State.tick]

theorem State.event_frame (s : State) (code : ℕ) (src : Source) (sev : Severity) (p0 : optParam ℕ 0) (p1 : optParam ℕ
    0) (p2 : optParam ℕ 0) (recovered : optParam Bool Bool.false) :
    (State.event s code src sev p0 p1 p2 recovered).unit = s.unit ∧
    (State.event s code src sev p0 p1 p2 recovered).opUs = s.opUs ∧
    (State.event s code src sev p0 p1 p2 recovered).savedOpUs = s.savedOpUs ∧
    (State.event s code src sev p0 p1 p2 recovered).powerCycle = s.powerCycle ∧
    (State.event s code src sev p0 p1 p2 recovered).epoch = s.epoch ∧
    (State.event s code src sev p0 p1 p2 recovered).power = s.power ∧
    (State.event s code src sev p0 p1 p2 recovered).rt = s.rt ∧
    (State.event s code src sev p0 p1 p2 recovered).sec = s.sec ∧
    (State.event s code src sev p0 p1 p2 recovered).station = s.station ∧
    (State.event s code src sev p0 p1 p2 recovered).bench = s.bench ∧
    (State.event s code src sev p0 p1 p2 recovered).eng = s.eng ∧
    (State.event s code src sev p0 p1 p2 recovered).vote = s.vote ∧
    (State.event s code src sev p0 p1 p2 recovered).ash = s.ash ∧
    (State.event s code src sev p0 p1 p2 recovered).field = s.field ∧
    (State.event s code src sev p0 p1 p2 recovered).can = s.can ∧
    (State.event s code src sev p0 p1 p2 recovered).net = s.net ∧
    (State.event s code src sev p0 p1 p2 recovered).hi = s.hi ∧
    (State.event s code src sev p0 p1 p2 recovered).xings = s.xings ∧
    (State.event s code src sev p0 p1 p2 recovered).mg = s.mg ∧
    (State.event s code src sev p0 p1 p2 recovered).log = s.log ∧
    (State.event s code src sev p0 p1 p2 recovered).test = s.test ∧
    (State.event s code src sev p0 p1 p2 recovered).update = s.update ∧
    (State.event s code src sev p0 p1 p2 recovered).draws = s.draws ∧
    (State.event s code src sev p0 p1 p2 recovered).outbox = s.outbox ∧
    (State.event s code src sev p0 p1 p2 recovered).diag = s.diag ∧
    (State.event s code src sev p0 p1 p2 recovered).pending = s.pending := by
  simp [State.event]

theorem State.msi_frame (s : State) (v : ℕ) :
    (State.msi s v).unit = s.unit ∧ (State.msi s v).opUs = s.opUs ∧ (State.msi s v).savedOpUs = s.savedOpUs ∧
    (State.msi s v).powerCycle = s.powerCycle ∧ (State.msi s v).epoch = s.epoch ∧ (State.msi s v).power = s.power ∧
    (State.msi s v).rt = s.rt ∧ (State.msi s v).sec = s.sec ∧ (State.msi s v).station = s.station ∧
    (State.msi s v).bench = s.bench ∧ (State.msi s v).eng = s.eng ∧ (State.msi s v).vote = s.vote ∧
    (State.msi s v).ash = s.ash ∧ (State.msi s v).field = s.field ∧ (State.msi s v).can = s.can ∧
    (State.msi s v).net = s.net ∧ (State.msi s v).hi = s.hi ∧ (State.msi s v).xings = s.xings ∧
    (State.msi s v).mg = s.mg ∧ (State.msi s v).recorder = s.recorder ∧ (State.msi s v).log = s.log ∧
    (State.msi s v).test = s.test ∧ (State.msi s v).update = s.update ∧ (State.msi s v).draws = s.draws ∧
    (State.msi s v).diag = s.diag ∧ (State.msi s v).pending = s.pending := by
  simp [State.msi]

theorem State.irq_frame (s : State) (v : ℕ) :
    (State.irq s v).unit = s.unit ∧ (State.irq s v).opUs = s.opUs ∧ (State.irq s v).savedOpUs = s.savedOpUs ∧
    (State.irq s v).powerCycle = s.powerCycle ∧ (State.irq s v).epoch = s.epoch ∧ (State.irq s v).power = s.power ∧
    (State.irq s v).rt = s.rt ∧ (State.irq s v).sec = s.sec ∧ (State.irq s v).station = s.station ∧
    (State.irq s v).bench = s.bench ∧ (State.irq s v).eng = s.eng ∧ (State.irq s v).vote = s.vote ∧
    (State.irq s v).ash = s.ash ∧ (State.irq s v).field = s.field ∧ (State.irq s v).can = s.can ∧
    (State.irq s v).net = s.net ∧ (State.irq s v).xings = s.xings ∧ (State.irq s v).mg = s.mg ∧
    (State.irq s v).recorder = s.recorder ∧ (State.irq s v).log = s.log ∧ (State.irq s v).test = s.test ∧
    (State.irq s v).update = s.update ∧ (State.irq s v).draws = s.draws ∧ (State.irq s v).diag = s.diag ∧
    (State.irq s v).pending = s.pending := by
  simp [State.irq, State.msi_frame _ _]

theorem State.ringWrite_frame (s : State) (seqNo : ℕ) (n : Note) :
    (State.ringWrite s seqNo n).unit = s.unit ∧ (State.ringWrite s seqNo n).opUs = s.opUs ∧
    (State.ringWrite s seqNo n).savedOpUs = s.savedOpUs ∧ (State.ringWrite s seqNo n).powerCycle = s.powerCycle ∧
    (State.ringWrite s seqNo n).epoch = s.epoch ∧ (State.ringWrite s seqNo n).power = s.power ∧
    (State.ringWrite s seqNo n).rt = s.rt ∧ (State.ringWrite s seqNo n).sec = s.sec ∧
    (State.ringWrite s seqNo n).station = s.station ∧ (State.ringWrite s seqNo n).bench = s.bench ∧
    (State.ringWrite s seqNo n).eng = s.eng ∧ (State.ringWrite s seqNo n).vote = s.vote ∧
    (State.ringWrite s seqNo n).ash = s.ash ∧ (State.ringWrite s seqNo n).field = s.field ∧
    (State.ringWrite s seqNo n).can = s.can ∧ (State.ringWrite s seqNo n).net = s.net ∧
    (State.ringWrite s seqNo n).xings = s.xings ∧ (State.ringWrite s seqNo n).mg = s.mg ∧
    (State.ringWrite s seqNo n).recorder = s.recorder ∧ (State.ringWrite s seqNo n).log = s.log ∧
    (State.ringWrite s seqNo n).test = s.test ∧ (State.ringWrite s seqNo n).update = s.update ∧
    (State.ringWrite s seqNo n).draws = s.draws ∧ (State.ringWrite s seqNo n).diag = s.diag ∧
    (State.ringWrite s seqNo n).pending = s.pending := by
  simp [State.ringWrite, State.irq_frame _ _]

theorem State.notePcie_frame (s : State) (n : Note) :
    (State.notePcie s n).unit = s.unit ∧ (State.notePcie s n).opUs = s.opUs ∧
    (State.notePcie s n).savedOpUs = s.savedOpUs ∧ (State.notePcie s n).powerCycle = s.powerCycle ∧
    (State.notePcie s n).epoch = s.epoch ∧ (State.notePcie s n).power = s.power ∧ (State.notePcie s n).rt = s.rt ∧
    (State.notePcie s n).sec = s.sec ∧ (State.notePcie s n).station = s.station ∧ (State.notePcie s n).bench = s.bench
    ∧ (State.notePcie s n).eng = s.eng ∧ (State.notePcie s n).vote = s.vote ∧ (State.notePcie s n).ash = s.ash ∧
    (State.notePcie s n).field = s.field ∧ (State.notePcie s n).can = s.can ∧ (State.notePcie s n).net = s.net ∧
    (State.notePcie s n).xings = s.xings ∧ (State.notePcie s n).mg = s.mg ∧ (State.notePcie s n).recorder = s.recorder
    ∧ (State.notePcie s n).log = s.log ∧ (State.notePcie s n).test = s.test ∧ (State.notePcie s n).update = s.update ∧
    (State.notePcie s n).draws = s.draws ∧ (State.notePcie s n).diag = s.diag ∧
    (State.notePcie s n).pending = s.pending := by
  simp [State.notePcie, State.ringWrite_frame _ _ _]

theorem State.noteX8_frame (s : State) (n : Note) :
    (State.noteX8 s n).unit = s.unit ∧ (State.noteX8 s n).opUs = s.opUs ∧ (State.noteX8 s n).savedOpUs = s.savedOpUs ∧
    (State.noteX8 s n).powerCycle = s.powerCycle ∧ (State.noteX8 s n).epoch = s.epoch ∧
    (State.noteX8 s n).power = s.power ∧ (State.noteX8 s n).rt = s.rt ∧ (State.noteX8 s n).sec = s.sec ∧
    (State.noteX8 s n).station = s.station ∧ (State.noteX8 s n).bench = s.bench ∧ (State.noteX8 s n).eng = s.eng ∧
    (State.noteX8 s n).vote = s.vote ∧ (State.noteX8 s n).ash = s.ash ∧ (State.noteX8 s n).field = s.field ∧
    (State.noteX8 s n).can = s.can ∧ (State.noteX8 s n).net = s.net ∧ (State.noteX8 s n).xings = s.xings ∧
    (State.noteX8 s n).mg = s.mg ∧ (State.noteX8 s n).recorder = s.recorder ∧ (State.noteX8 s n).log = s.log ∧
    (State.noteX8 s n).test = s.test ∧ (State.noteX8 s n).update = s.update ∧ (State.noteX8 s n).draws = s.draws ∧
    (State.noteX8 s n).diag = s.diag ∧ (State.noteX8 s n).pending = s.pending := by
  unfold State.noteX8; (repeat' split) <;> simp

theorem State.deliverNote_frame (s : State) (n : Note) :
    (State.deliverNote s n).unit = s.unit ∧ (State.deliverNote s n).opUs = s.opUs ∧
    (State.deliverNote s n).savedOpUs = s.savedOpUs ∧ (State.deliverNote s n).powerCycle = s.powerCycle ∧
    (State.deliverNote s n).epoch = s.epoch ∧ (State.deliverNote s n).power = s.power ∧
    (State.deliverNote s n).rt = s.rt ∧ (State.deliverNote s n).sec = s.sec ∧
    (State.deliverNote s n).station = s.station ∧ (State.deliverNote s n).bench = s.bench ∧
    (State.deliverNote s n).eng = s.eng ∧ (State.deliverNote s n).vote = s.vote ∧ (State.deliverNote s n).ash = s.ash
    ∧ (State.deliverNote s n).field = s.field ∧ (State.deliverNote s n).can = s.can ∧
    (State.deliverNote s n).net = s.net ∧ (State.deliverNote s n).xings = s.xings ∧ (State.deliverNote s n).mg = s.mg
    ∧ (State.deliverNote s n).recorder = s.recorder ∧ (State.deliverNote s n).log = s.log ∧
    (State.deliverNote s n).test = s.test ∧ (State.deliverNote s n).update = s.update ∧
    (State.deliverNote s n).draws = s.draws ∧ (State.deliverNote s n).diag = s.diag ∧
    (State.deliverNote s n).pending = s.pending := by
  simp [State.deliverNote, State.noteX8_frame _ _, State.notePcie_frame _ _]

theorem State.noteCluster_frame (s : State) (kind : ℕ) (data : List Byte) :
    (State.noteCluster s kind data).unit = s.unit ∧ (State.noteCluster s kind data).opUs = s.opUs ∧
    (State.noteCluster s kind data).savedOpUs = s.savedOpUs ∧
    (State.noteCluster s kind data).powerCycle = s.powerCycle ∧ (State.noteCluster s kind data).epoch = s.epoch ∧
    (State.noteCluster s kind data).power = s.power ∧ (State.noteCluster s kind data).rt = s.rt ∧
    (State.noteCluster s kind data).sec = s.sec ∧ (State.noteCluster s kind data).station = s.station ∧
    (State.noteCluster s kind data).eng = s.eng ∧ (State.noteCluster s kind data).vote = s.vote ∧
    (State.noteCluster s kind data).ash = s.ash ∧ (State.noteCluster s kind data).field = s.field ∧
    (State.noteCluster s kind data).can = s.can ∧ (State.noteCluster s kind data).net = s.net ∧
    (State.noteCluster s kind data).xings = s.xings ∧ (State.noteCluster s kind data).mg = s.mg ∧
    (State.noteCluster s kind data).recorder = s.recorder ∧ (State.noteCluster s kind data).log = s.log ∧
    (State.noteCluster s kind data).test = s.test ∧ (State.noteCluster s kind data).update = s.update ∧
    (State.noteCluster s kind data).draws = s.draws ∧ (State.noteCluster s kind data).diag = s.diag ∧
    (State.noteCluster s kind data).pending = s.pending := by
  simp [State.noteCluster, State.deliverNote_frame _ _]

theorem State.note_frame (s : State) (kind : ℕ) (data : List Byte) :
    (State.note s kind data).unit = s.unit ∧ (State.note s kind data).opUs = s.opUs ∧
    (State.note s kind data).savedOpUs = s.savedOpUs ∧ (State.note s kind data).powerCycle = s.powerCycle ∧
    (State.note s kind data).epoch = s.epoch ∧ (State.note s kind data).power = s.power ∧
    (State.note s kind data).rt = s.rt ∧ (State.note s kind data).sec = s.sec ∧
    (State.note s kind data).station = s.station ∧ (State.note s kind data).bench = s.bench ∧
    (State.note s kind data).eng = s.eng ∧ (State.note s kind data).vote = s.vote ∧
    (State.note s kind data).ash = s.ash ∧ (State.note s kind data).field = s.field ∧
    (State.note s kind data).can = s.can ∧ (State.note s kind data).net = s.net ∧
    (State.note s kind data).xings = s.xings ∧ (State.note s kind data).mg = s.mg ∧
    (State.note s kind data).recorder = s.recorder ∧ (State.note s kind data).log = s.log ∧
    (State.note s kind data).test = s.test ∧ (State.note s kind data).update = s.update ∧
    (State.note s kind data).draws = s.draws ∧ (State.note s kind data).diag = s.diag ∧
    (State.note s kind data).pending = s.pending := by
  simp [State.note, State.deliverNote_frame _ _]

theorem State.voteNote_frame (s : State) (code : ℕ) (p0 : ℕ) (p1 : ℕ) :
    (State.voteNote s code p0 p1).unit = s.unit ∧ (State.voteNote s code p0 p1).opUs = s.opUs ∧
    (State.voteNote s code p0 p1).savedOpUs = s.savedOpUs ∧ (State.voteNote s code p0 p1).powerCycle = s.powerCycle ∧
    (State.voteNote s code p0 p1).epoch = s.epoch ∧ (State.voteNote s code p0 p1).power = s.power ∧
    (State.voteNote s code p0 p1).rt = s.rt ∧ (State.voteNote s code p0 p1).sec = s.sec ∧
    (State.voteNote s code p0 p1).station = s.station ∧ (State.voteNote s code p0 p1).bench = s.bench ∧
    (State.voteNote s code p0 p1).eng = s.eng ∧ (State.voteNote s code p0 p1).vote = s.vote ∧
    (State.voteNote s code p0 p1).ash = s.ash ∧ (State.voteNote s code p0 p1).field = s.field ∧
    (State.voteNote s code p0 p1).can = s.can ∧ (State.voteNote s code p0 p1).net = s.net ∧
    (State.voteNote s code p0 p1).xings = s.xings ∧ (State.voteNote s code p0 p1).mg = s.mg ∧
    (State.voteNote s code p0 p1).recorder = s.recorder ∧ (State.voteNote s code p0 p1).log = s.log ∧
    (State.voteNote s code p0 p1).test = s.test ∧ (State.voteNote s code p0 p1).update = s.update ∧
    (State.voteNote s code p0 p1).draws = s.draws ∧ (State.voteNote s code p0 p1).diag = s.diag ∧
    (State.voteNote s code p0 p1).pending = s.pending := by
  simp [State.voteNote, State.note_frame _ _ _]

theorem State.writeResponse_frame (s : State) (r : Response) :
    (State.writeResponse s r).unit = s.unit ∧ (State.writeResponse s r).opUs = s.opUs ∧
    (State.writeResponse s r).savedOpUs = s.savedOpUs ∧ (State.writeResponse s r).powerCycle = s.powerCycle ∧
    (State.writeResponse s r).epoch = s.epoch ∧ (State.writeResponse s r).power = s.power ∧
    (State.writeResponse s r).rt = s.rt ∧ (State.writeResponse s r).sec = s.sec ∧
    (State.writeResponse s r).station = s.station ∧ (State.writeResponse s r).bench = s.bench ∧
    (State.writeResponse s r).eng = s.eng ∧ (State.writeResponse s r).vote = s.vote ∧
    (State.writeResponse s r).ash = s.ash ∧ (State.writeResponse s r).field = s.field ∧
    (State.writeResponse s r).can = s.can ∧ (State.writeResponse s r).net = s.net ∧
    (State.writeResponse s r).xings = s.xings ∧ (State.writeResponse s r).mg = s.mg ∧
    (State.writeResponse s r).recorder = s.recorder ∧ (State.writeResponse s r).log = s.log ∧
    (State.writeResponse s r).test = s.test ∧ (State.writeResponse s r).update = s.update ∧
    (State.writeResponse s r).draws = s.draws ∧ (State.writeResponse s r).diag = s.diag ∧
    (State.writeResponse s r).pending = s.pending := by
  simp [State.writeResponse, State.irq_frame _ _]

theorem State.sendX8_frame (s : State) (r : Response) :
    (State.sendX8 s r).unit = s.unit ∧ (State.sendX8 s r).opUs = s.opUs ∧ (State.sendX8 s r).savedOpUs = s.savedOpUs ∧
    (State.sendX8 s r).powerCycle = s.powerCycle ∧ (State.sendX8 s r).epoch = s.epoch ∧
    (State.sendX8 s r).power = s.power ∧ (State.sendX8 s r).rt = s.rt ∧ (State.sendX8 s r).sec = s.sec ∧
    (State.sendX8 s r).station = s.station ∧ (State.sendX8 s r).bench = s.bench ∧ (State.sendX8 s r).eng = s.eng ∧
    (State.sendX8 s r).vote = s.vote ∧ (State.sendX8 s r).ash = s.ash ∧ (State.sendX8 s r).field = s.field ∧
    (State.sendX8 s r).can = s.can ∧ (State.sendX8 s r).net = s.net ∧ (State.sendX8 s r).xings = s.xings ∧
    (State.sendX8 s r).mg = s.mg ∧ (State.sendX8 s r).recorder = s.recorder ∧ (State.sendX8 s r).log = s.log ∧
    (State.sendX8 s r).test = s.test ∧ (State.sendX8 s r).update = s.update ∧ (State.sendX8 s r).draws = s.draws ∧
    (State.sendX8 s r).diag = s.diag ∧ (State.sendX8 s r).pending = s.pending := by
  simp [State.sendX8]

theorem State.deliver_frame (s : State) (r : Response) :
    (State.deliver s r).unit = s.unit ∧ (State.deliver s r).opUs = s.opUs ∧
    (State.deliver s r).savedOpUs = s.savedOpUs ∧ (State.deliver s r).powerCycle = s.powerCycle ∧
    (State.deliver s r).epoch = s.epoch ∧ (State.deliver s r).power = s.power ∧ (State.deliver s r).rt = s.rt ∧
    (State.deliver s r).sec = s.sec ∧ (State.deliver s r).station = s.station ∧ (State.deliver s r).bench = s.bench ∧
    (State.deliver s r).eng = s.eng ∧ (State.deliver s r).vote = s.vote ∧ (State.deliver s r).ash = s.ash ∧
    (State.deliver s r).field = s.field ∧ (State.deliver s r).can = s.can ∧ (State.deliver s r).net = s.net ∧
    (State.deliver s r).xings = s.xings ∧ (State.deliver s r).recorder = s.recorder ∧ (State.deliver s r).log = s.log
    ∧ (State.deliver s r).test = s.test ∧ (State.deliver s r).update = s.update ∧ (State.deliver s r).draws = s.draws
    ∧ (State.deliver s r).diag = s.diag ∧ (State.deliver s r).pending = s.pending := by
  unfold State.deliver; (repeat' split) <;> simp [State.writeResponse_frame _ _, State.sendX8_frame _ _]

theorem State.answer_frame (s : State) (opcode : ℕ) (q : Req) (st : Status) (p0 : optParam ℕ 0) (p1 : optParam ℕ 0)
    (data : optParam (List Byte) []) :
    (State.answer s opcode q st p0 p1 data).unit = s.unit ∧ (State.answer s opcode q st p0 p1 data).opUs = s.opUs ∧
    (State.answer s opcode q st p0 p1 data).savedOpUs = s.savedOpUs ∧
    (State.answer s opcode q st p0 p1 data).powerCycle = s.powerCycle ∧
    (State.answer s opcode q st p0 p1 data).epoch = s.epoch ∧ (State.answer s opcode q st p0 p1 data).power = s.power
    ∧ (State.answer s opcode q st p0 p1 data).rt = s.rt ∧ (State.answer s opcode q st p0 p1 data).sec = s.sec ∧
    (State.answer s opcode q st p0 p1 data).station = s.station ∧
    (State.answer s opcode q st p0 p1 data).bench = s.bench ∧ (State.answer s opcode q st p0 p1 data).eng = s.eng ∧
    (State.answer s opcode q st p0 p1 data).vote = s.vote ∧ (State.answer s opcode q st p0 p1 data).ash = s.ash ∧
    (State.answer s opcode q st p0 p1 data).field = s.field ∧ (State.answer s opcode q st p0 p1 data).can = s.can ∧
    (State.answer s opcode q st p0 p1 data).net = s.net ∧ (State.answer s opcode q st p0 p1 data).xings = s.xings ∧
    (State.answer s opcode q st p0 p1 data).recorder = s.recorder ∧
    (State.answer s opcode q st p0 p1 data).log = s.log ∧ (State.answer s opcode q st p0 p1 data).test = s.test ∧
    (State.answer s opcode q st p0 p1 data).update = s.update ∧
    (State.answer s opcode q st p0 p1 data).draws = s.draws ∧ (State.answer s opcode q st p0 p1 data).diag = s.diag ∧
    (State.answer s opcode q st p0 p1 data).pending = s.pending := by
  simp [State.answer, State.deliver_frame _ _]

theorem State.complete_frame (s : State) (opcode : ℕ) (q : Req) (st : Status) (p0 : optParam ℕ 0) (p1 : optParam ℕ 0)
    (data : optParam (List Byte) []) :
    (State.complete s opcode q st p0 p1 data).unit = s.unit ∧ (State.complete s opcode q st p0 p1 data).opUs = s.opUs
    ∧ (State.complete s opcode q st p0 p1 data).savedOpUs = s.savedOpUs ∧
    (State.complete s opcode q st p0 p1 data).powerCycle = s.powerCycle ∧
    (State.complete s opcode q st p0 p1 data).epoch = s.epoch ∧
    (State.complete s opcode q st p0 p1 data).power = s.power ∧ (State.complete s opcode q st p0 p1 data).rt = s.rt ∧
    (State.complete s opcode q st p0 p1 data).sec = s.sec ∧
    (State.complete s opcode q st p0 p1 data).station = s.station ∧
    (State.complete s opcode q st p0 p1 data).eng = s.eng ∧ (State.complete s opcode q st p0 p1 data).vote = s.vote ∧
    (State.complete s opcode q st p0 p1 data).ash = s.ash ∧ (State.complete s opcode q st p0 p1 data).field = s.field
    ∧ (State.complete s opcode q st p0 p1 data).can = s.can ∧ (State.complete s opcode q st p0 p1 data).net = s.net ∧
    (State.complete s opcode q st p0 p1 data).xings = s.xings ∧
    (State.complete s opcode q st p0 p1 data).recorder = s.recorder ∧
    (State.complete s opcode q st p0 p1 data).log = s.log ∧ (State.complete s opcode q st p0 p1 data).test = s.test ∧
    (State.complete s opcode q st p0 p1 data).update = s.update ∧
    (State.complete s opcode q st p0 p1 data).draws = s.draws ∧
    (State.complete s opcode q st p0 p1 data).diag = s.diag ∧
    (State.complete s opcode q st p0 p1 data).pending = s.pending := by
  simp [State.complete, State.deliver_frame _ _]

theorem State.logChange_frame (s : State) (e : LogEntry) :
    (State.logChange s e).unit = s.unit ∧ (State.logChange s e).opUs = s.opUs ∧
    (State.logChange s e).savedOpUs = s.savedOpUs ∧ (State.logChange s e).powerCycle = s.powerCycle ∧
    (State.logChange s e).epoch = s.epoch ∧ (State.logChange s e).power = s.power ∧ (State.logChange s e).rt = s.rt ∧
    (State.logChange s e).sec = s.sec ∧ (State.logChange s e).station = s.station ∧
    (State.logChange s e).bench = s.bench ∧ (State.logChange s e).eng = s.eng ∧ (State.logChange s e).vote = s.vote ∧
    (State.logChange s e).ash = s.ash ∧ (State.logChange s e).field = s.field ∧ (State.logChange s e).can = s.can ∧
    (State.logChange s e).net = s.net ∧ (State.logChange s e).hi = s.hi ∧ (State.logChange s e).xings = s.xings ∧
    (State.logChange s e).mg = s.mg ∧ (State.logChange s e).test = s.test ∧ (State.logChange s e).update = s.update ∧
    (State.logChange s e).draws = s.draws ∧ (State.logChange s e).outbox = s.outbox ∧
    (State.logChange s e).diag = s.diag ∧ (State.logChange s e).pending = s.pending := by
  simp [State.logChange, State.event_frame _ _ _ _ _ _ _ _]

theorem State.forceEnded_frame (s : State) (f : Force) (cause : ℕ) :
    (State.forceEnded s f cause).unit = s.unit ∧ (State.forceEnded s f cause).opUs = s.opUs ∧
    (State.forceEnded s f cause).savedOpUs = s.savedOpUs ∧ (State.forceEnded s f cause).powerCycle = s.powerCycle ∧
    (State.forceEnded s f cause).epoch = s.epoch ∧ (State.forceEnded s f cause).power = s.power ∧
    (State.forceEnded s f cause).rt = s.rt ∧ (State.forceEnded s f cause).sec = s.sec ∧
    (State.forceEnded s f cause).station = s.station ∧ (State.forceEnded s f cause).eng = s.eng ∧
    (State.forceEnded s f cause).vote = s.vote ∧ (State.forceEnded s f cause).ash = s.ash ∧
    (State.forceEnded s f cause).field = s.field ∧ (State.forceEnded s f cause).can = s.can ∧
    (State.forceEnded s f cause).net = s.net ∧ (State.forceEnded s f cause).xings = s.xings ∧
    (State.forceEnded s f cause).mg = s.mg ∧ (State.forceEnded s f cause).log = s.log ∧
    (State.forceEnded s f cause).test = s.test ∧ (State.forceEnded s f cause).update = s.update ∧
    (State.forceEnded s f cause).draws = s.draws ∧ (State.forceEnded s f cause).diag = s.diag ∧
    (State.forceEnded s f cause).pending = s.pending := by
  simp [State.forceEnded, State.noteCluster_frame _ _ _, State.event_frame _ _ _ _ _ _ _ _]

theorem State.clearForces_frame (s : State) (cause : ℕ) :
    (State.clearForces s cause).unit = s.unit ∧ (State.clearForces s cause).opUs = s.opUs ∧
    (State.clearForces s cause).savedOpUs = s.savedOpUs ∧ (State.clearForces s cause).powerCycle = s.powerCycle ∧
    (State.clearForces s cause).epoch = s.epoch ∧ (State.clearForces s cause).power = s.power ∧
    (State.clearForces s cause).rt = s.rt ∧ (State.clearForces s cause).sec = s.sec ∧
    (State.clearForces s cause).station = s.station ∧ (State.clearForces s cause).eng = s.eng ∧
    (State.clearForces s cause).vote = s.vote ∧ (State.clearForces s cause).ash = s.ash ∧
    (State.clearForces s cause).field = s.field ∧ (State.clearForces s cause).can = s.can ∧
    (State.clearForces s cause).net = s.net ∧ (State.clearForces s cause).xings = s.xings ∧
    (State.clearForces s cause).mg = s.mg ∧ (State.clearForces s cause).log = s.log ∧
    (State.clearForces s cause).test = s.test ∧ (State.clearForces s cause).update = s.update ∧
    (State.clearForces s cause).draws = s.draws ∧ (State.clearForces s cause).diag = s.diag ∧
    (State.clearForces s cause).pending = s.pending := by
  simp [State.clearForces, State.forceEnded_frame _ _ _]

theorem State.voidPrepare_frame (s : State) (p : Prepare) (reason : ℕ) :
    (State.voidPrepare s p reason).unit = s.unit ∧ (State.voidPrepare s p reason).opUs = s.opUs ∧
    (State.voidPrepare s p reason).savedOpUs = s.savedOpUs ∧ (State.voidPrepare s p reason).powerCycle = s.powerCycle
    ∧ (State.voidPrepare s p reason).epoch = s.epoch ∧ (State.voidPrepare s p reason).power = s.power ∧
    (State.voidPrepare s p reason).rt = s.rt ∧ (State.voidPrepare s p reason).sec = s.sec ∧
    (State.voidPrepare s p reason).station = s.station ∧ (State.voidPrepare s p reason).eng = s.eng ∧
    (State.voidPrepare s p reason).vote = s.vote ∧ (State.voidPrepare s p reason).ash = s.ash ∧
    (State.voidPrepare s p reason).field = s.field ∧ (State.voidPrepare s p reason).can = s.can ∧
    (State.voidPrepare s p reason).net = s.net ∧ (State.voidPrepare s p reason).xings = s.xings ∧
    (State.voidPrepare s p reason).mg = s.mg ∧ (State.voidPrepare s p reason).recorder = s.recorder ∧
    (State.voidPrepare s p reason).log = s.log ∧ (State.voidPrepare s p reason).test = s.test ∧
    (State.voidPrepare s p reason).update = s.update ∧ (State.voidPrepare s p reason).draws = s.draws ∧
    (State.voidPrepare s p reason).diag = s.diag ∧ (State.voidPrepare s p reason).pending = s.pending := by
  simp [State.voidPrepare, State.noteCluster_frame _ _ _]

theorem State.takeBack_frame (s : State) :
    (State.takeBack s).unit = s.unit ∧ (State.takeBack s).opUs = s.opUs ∧ (State.takeBack s).savedOpUs = s.savedOpUs ∧
    (State.takeBack s).powerCycle = s.powerCycle ∧ (State.takeBack s).epoch = s.epoch ∧ (State.takeBack s).power =
    s.power ∧ (State.takeBack s).rt = s.rt ∧ (State.takeBack s).station = s.station ∧ (State.takeBack s).eng = s.eng ∧
    (State.takeBack s).vote = s.vote ∧ (State.takeBack s).ash = s.ash ∧ (State.takeBack s).field = s.field ∧
    (State.takeBack s).can = s.can ∧ (State.takeBack s).net = s.net ∧ (State.takeBack s).hi = s.hi ∧ (State.takeBack
    s).xings = s.xings ∧ (State.takeBack s).recorder = s.recorder ∧ (State.takeBack s).log = s.log ∧ (State.takeBack
    s).test = s.test ∧ (State.takeBack s).update = s.update ∧ (State.takeBack s).draws = s.draws ∧ (State.takeBack
    s).diag = s.diag ∧ (State.takeBack s).outbox = s.outbox ∧ (State.takeBack s).pending = s.pending := by
  unfold State.takeBack; split <;> simp

theorem State.discardWork_frame (s : State) (keep : optParam (Option Req) Option.none) :
    (State.discardWork s keep).unit = s.unit ∧ (State.discardWork s keep).opUs = s.opUs ∧
    (State.discardWork s keep).savedOpUs = s.savedOpUs ∧ (State.discardWork s keep).powerCycle = s.powerCycle ∧
    (State.discardWork s keep).epoch = s.epoch ∧ (State.discardWork s keep).power = s.power ∧
    (State.discardWork s keep).rt = s.rt ∧ (State.discardWork s keep).station = s.station ∧
    (State.discardWork s keep).vote = s.vote ∧ (State.discardWork s keep).ash = s.ash ∧
    (State.discardWork s keep).net = s.net ∧ (State.discardWork s keep).xings = s.xings ∧
    (State.discardWork s keep).recorder = s.recorder ∧ (State.discardWork s keep).log = s.log ∧
    (State.discardWork s keep).test = s.test ∧ (State.discardWork s keep).update = s.update ∧
    (State.discardWork s keep).draws = s.draws ∧ (State.discardWork s keep).diag = s.diag ∧
    (State.discardWork s keep).pending = s.pending := by
  simp [State.discardWork, State.takeBack_frame _, State.voidPrepare_frame _ _ _, State.deliver_frame _ _]

theorem State.flushNotes_frame (s : State) :
    (State.flushNotes s).unit = s.unit ∧ (State.flushNotes s).opUs = s.opUs ∧
    (State.flushNotes s).savedOpUs = s.savedOpUs ∧ (State.flushNotes s).powerCycle = s.powerCycle ∧
    (State.flushNotes s).epoch = s.epoch ∧ (State.flushNotes s).power = s.power ∧ (State.flushNotes s).rt = s.rt ∧
    (State.flushNotes s).sec = s.sec ∧ (State.flushNotes s).station = s.station ∧ (State.flushNotes s).eng = s.eng ∧
    (State.flushNotes s).vote = s.vote ∧ (State.flushNotes s).ash = s.ash ∧ (State.flushNotes s).field = s.field ∧
    (State.flushNotes s).can = s.can ∧ (State.flushNotes s).net = s.net ∧ (State.flushNotes s).xings = s.xings ∧
    (State.flushNotes s).mg = s.mg ∧ (State.flushNotes s).recorder = s.recorder ∧ (State.flushNotes s).log = s.log ∧
    (State.flushNotes s).test = s.test ∧ (State.flushNotes s).update = s.update ∧ (State.flushNotes s).draws = s.draws
    ∧ (State.flushNotes s).diag = s.diag ∧ (State.flushNotes s).pending = s.pending := by
  simp [State.flushNotes, State.deliverNote_frame _ _]

theorem State.startRefused_frame (s : State) (reason : ℕ) (param : ℕ) :
    (State.startRefused s reason param).unit = s.unit ∧ (State.startRefused s reason param).opUs = s.opUs ∧
    (State.startRefused s reason param).savedOpUs = s.savedOpUs ∧
    (State.startRefused s reason param).powerCycle = s.powerCycle ∧
    (State.startRefused s reason param).epoch = s.epoch ∧ (State.startRefused s reason param).power = s.power ∧
    (State.startRefused s reason param).rt = s.rt ∧ (State.startRefused s reason param).sec = s.sec ∧
    (State.startRefused s reason param).station = s.station ∧ (State.startRefused s reason param).bench = s.bench ∧
    (State.startRefused s reason param).vote = s.vote ∧ (State.startRefused s reason param).ash = s.ash ∧
    (State.startRefused s reason param).field = s.field ∧ (State.startRefused s reason param).can = s.can ∧
    (State.startRefused s reason param).net = s.net ∧ (State.startRefused s reason param).xings = s.xings ∧
    (State.startRefused s reason param).recorder = s.recorder ∧ (State.startRefused s reason param).log = s.log ∧
    (State.startRefused s reason param).test = s.test ∧ (State.startRefused s reason param).update = s.update ∧
    (State.startRefused s reason param).draws = s.draws ∧ (State.startRefused s reason param).diag = s.diag ∧
    (State.startRefused s reason param).pending = s.pending := by
  unfold State.startRefused
  refine ⟨(State.foldl_unit _ (fun s w => ?_) _ _), (State.foldl_opUs _ (fun s w => ?_) _ _), (State.foldl_savedOpUs _ (fun s w => ?_) _ _), (State.foldl_powerCycle _ (fun s w => ?_) _ _), (State.foldl_epoch _ (fun s w => ?_) _ _), (State.foldl_power _ (fun s w => ?_) _ _), (State.foldl_rt _ (fun s w => ?_) _ _), (State.foldl_sec _ (fun s w => ?_) _ _), (State.foldl_station _ (fun s w => ?_) _ _), (State.foldl_bench _ (fun s w => ?_) _ _), (State.foldl_vote _ (fun s w => ?_) _ _), (State.foldl_ash _ (fun s w => ?_) _ _), (State.foldl_field _ (fun s w => ?_) _ _), (State.foldl_can _ (fun s w => ?_) _ _), (State.foldl_net _ (fun s w => ?_) _ _), (State.foldl_xings _ (fun s w => ?_) _ _), (State.foldl_recorder _ (fun s w => ?_) _ _), (State.foldl_log _ (fun s w => ?_) _ _), (State.foldl_test _ (fun s w => ?_) _ _), (State.foldl_update _ (fun s w => ?_) _ _), (State.foldl_draws _ (fun s w => ?_) _ _), (State.foldl_diag _ (fun s w => ?_) _ _), (State.foldl_pending _ (fun s w => ?_) _ _)⟩ <;> (cases w <;> simp [State.deliver_frame _ _])

theorem State.startFailed_frame (s : State) (code : ℕ) :
    (State.startFailed s code).unit = s.unit ∧ (State.startFailed s code).opUs = s.opUs ∧
    (State.startFailed s code).savedOpUs = s.savedOpUs ∧ (State.startFailed s code).powerCycle = s.powerCycle ∧
    (State.startFailed s code).epoch = s.epoch ∧ (State.startFailed s code).power = s.power ∧
    (State.startFailed s code).rt = s.rt ∧ (State.startFailed s code).sec = s.sec ∧
    (State.startFailed s code).station = s.station ∧ (State.startFailed s code).bench = s.bench ∧
    (State.startFailed s code).vote = s.vote ∧ (State.startFailed s code).ash = s.ash ∧
    (State.startFailed s code).field = s.field ∧ (State.startFailed s code).can = s.can ∧
    (State.startFailed s code).net = s.net ∧ (State.startFailed s code).xings = s.xings ∧
    (State.startFailed s code).recorder = s.recorder ∧ (State.startFailed s code).log = s.log ∧
    (State.startFailed s code).test = s.test ∧ (State.startFailed s code).update = s.update ∧
    (State.startFailed s code).draws = s.draws ∧ (State.startFailed s code).diag = s.diag ∧
    (State.startFailed s code).pending = s.pending := by
  simp [State.startFailed, State.startRefused_frame _ _ _]

theorem State.sendHalt_frame (s : State) :
    (State.sendHalt s).unit = s.unit ∧ (State.sendHalt s).opUs = s.opUs ∧ (State.sendHalt s).savedOpUs = s.savedOpUs ∧
    (State.sendHalt s).powerCycle = s.powerCycle ∧ (State.sendHalt s).epoch = s.epoch ∧
    (State.sendHalt s).power = s.power ∧ (State.sendHalt s).rt = s.rt ∧ (State.sendHalt s).sec = s.sec ∧
    (State.sendHalt s).station = s.station ∧ (State.sendHalt s).eng = s.eng ∧ (State.sendHalt s).vote = s.vote ∧
    (State.sendHalt s).ash = s.ash ∧ (State.sendHalt s).field = s.field ∧ (State.sendHalt s).can = s.can ∧
    (State.sendHalt s).net = s.net ∧ (State.sendHalt s).hi = s.hi ∧ (State.sendHalt s).xings = s.xings ∧
    (State.sendHalt s).mg = s.mg ∧ (State.sendHalt s).recorder = s.recorder ∧ (State.sendHalt s).log = s.log ∧
    (State.sendHalt s).test = s.test ∧ (State.sendHalt s).update = s.update ∧ (State.sendHalt s).draws = s.draws ∧
    (State.sendHalt s).outbox = s.outbox ∧ (State.sendHalt s).diag = s.diag ∧ (State.sendHalt s).pending = s.pending
    := by
  simp [State.sendHalt]

theorem State.dwellPause_frame (s : State) :
    (State.dwellPause s).unit = s.unit ∧ (State.dwellPause s).opUs = s.opUs ∧
    (State.dwellPause s).savedOpUs = s.savedOpUs ∧ (State.dwellPause s).powerCycle = s.powerCycle ∧
    (State.dwellPause s).epoch = s.epoch ∧ (State.dwellPause s).power = s.power ∧ (State.dwellPause s).rt = s.rt ∧
    (State.dwellPause s).sec = s.sec ∧ (State.dwellPause s).station = s.station ∧ (State.dwellPause s).bench = s.bench
    ∧ (State.dwellPause s).eng = s.eng ∧ (State.dwellPause s).ash = s.ash ∧ (State.dwellPause s).field = s.field ∧
    (State.dwellPause s).can = s.can ∧ (State.dwellPause s).net = s.net ∧ (State.dwellPause s).hi = s.hi ∧
    (State.dwellPause s).xings = s.xings ∧ (State.dwellPause s).mg = s.mg ∧ (State.dwellPause s).recorder = s.recorder
    ∧ (State.dwellPause s).log = s.log ∧ (State.dwellPause s).test = s.test ∧ (State.dwellPause s).update = s.update ∧
    (State.dwellPause s).draws = s.draws ∧ (State.dwellPause s).outbox = s.outbox ∧ (State.dwellPause s).diag = s.diag
    ∧ (State.dwellPause s).pending = s.pending := by
  unfold State.dwellPause; (repeat' split) <;> simp

theorem State.dropNotes_frame (s : State) :
    (State.dropNotes s).unit = s.unit ∧ (State.dropNotes s).opUs = s.opUs ∧ (State.dropNotes s).savedOpUs =
    s.savedOpUs ∧ (State.dropNotes s).powerCycle = s.powerCycle ∧ (State.dropNotes s).epoch = s.epoch ∧
    (State.dropNotes s).power = s.power ∧ (State.dropNotes s).rt = s.rt ∧ (State.dropNotes s).sec = s.sec ∧
    (State.dropNotes s).station = s.station ∧ (State.dropNotes s).eng = s.eng ∧ (State.dropNotes s).vote = s.vote ∧
    (State.dropNotes s).ash = s.ash ∧ (State.dropNotes s).field = s.field ∧ (State.dropNotes s).can = s.can ∧
    (State.dropNotes s).net = s.net ∧ (State.dropNotes s).hi = s.hi ∧ (State.dropNotes s).xings = s.xings ∧
    (State.dropNotes s).mg = s.mg ∧ (State.dropNotes s).recorder = s.recorder ∧ (State.dropNotes s).log = s.log ∧
    (State.dropNotes s).test = s.test ∧ (State.dropNotes s).update = s.update ∧ (State.dropNotes s).draws = s.draws ∧
    (State.dropNotes s).diag = s.diag ∧ (State.dropNotes s).outbox = s.outbox ∧ (State.dropNotes s).pending =
    s.pending := by
  simp [State.dropNotes]

theorem State.uncycled_frame (s : State) :
    (State.uncycled s).unit = s.unit ∧ (State.uncycled s).opUs = s.opUs ∧ (State.uncycled s).savedOpUs = s.savedOpUs ∧
    (State.uncycled s).powerCycle = s.powerCycle ∧ (State.uncycled s).epoch = s.epoch ∧ (State.uncycled s).power =
    s.power ∧ (State.uncycled s).rt = s.rt ∧ (State.uncycled s).sec = s.sec ∧ (State.uncycled s).station = s.station ∧
    (State.uncycled s).eng = s.eng ∧ (State.uncycled s).vote = s.vote ∧ (State.uncycled s).ash = s.ash ∧
    (State.uncycled s).field = s.field ∧ (State.uncycled s).can = s.can ∧ (State.uncycled s).net = s.net ∧
    (State.uncycled s).hi = s.hi ∧ (State.uncycled s).xings = s.xings ∧ (State.uncycled s).mg = s.mg ∧ (State.uncycled
    s).recorder = s.recorder ∧ (State.uncycled s).log = s.log ∧ (State.uncycled s).test = s.test ∧ (State.uncycled
    s).update = s.update ∧ (State.uncycled s).draws = s.draws ∧ (State.uncycled s).diag = s.diag ∧ (State.uncycled
    s).outbox = s.outbox ∧ (State.uncycled s).pending = s.pending := by
  simp [State.uncycled]

theorem State.standDown_frame (s : State) (halt : Bool) :
    (State.standDown s halt).unit = s.unit ∧ (State.standDown s halt).opUs = s.opUs ∧
    (State.standDown s halt).savedOpUs = s.savedOpUs ∧ (State.standDown s halt).powerCycle = s.powerCycle ∧
    (State.standDown s halt).epoch = s.epoch ∧ (State.standDown s halt).power = s.power ∧
    (State.standDown s halt).rt = s.rt ∧ (State.standDown s halt).station = s.station ∧
    (State.standDown s halt).ash = s.ash ∧ (State.standDown s halt).net = s.net ∧
    (State.standDown s halt).xings = s.xings ∧ (State.standDown s halt).log = s.log ∧
    (State.standDown s halt).test = s.test ∧ (State.standDown s halt).update = s.update ∧
    (State.standDown s halt).draws = s.draws ∧ (State.standDown s halt).diag = s.diag ∧
    (State.standDown s halt).pending = s.pending := by
  simp [State.standDown, State.dwellPause_frame _, State.dropNotes_frame _, State.uncycled_frame _, State.flushNotes_frame _, State.discardWork_frame _ _,
        State.clearForces_frame _ _, State.sendHalt_frame _]

theorem State.enterLockout_frame (s : State) (cause : ℕ) (halt : optParam Bool Bool.false) (repeated : optParam Bool
    Bool.false) :
    (State.enterLockout s cause halt repeated).unit = s.unit ∧
    (State.enterLockout s cause halt repeated).opUs = s.opUs ∧
    (State.enterLockout s cause halt repeated).savedOpUs = s.savedOpUs ∧
    (State.enterLockout s cause halt repeated).powerCycle = s.powerCycle ∧
    (State.enterLockout s cause halt repeated).epoch = s.epoch ∧ (State.enterLockout s cause halt repeated).rt = s.rt
    ∧ (State.enterLockout s cause halt repeated).station = s.station ∧
    (State.enterLockout s cause halt repeated).ash = s.ash ∧ (State.enterLockout s cause halt repeated).net = s.net ∧
    (State.enterLockout s cause halt repeated).xings = s.xings ∧
    (State.enterLockout s cause halt repeated).log = s.log ∧ (State.enterLockout s cause halt repeated).test = s.test
    ∧ (State.enterLockout s cause halt repeated).update = s.update ∧
    (State.enterLockout s cause halt repeated).draws = s.draws ∧
    (State.enterLockout s cause halt repeated).diag = s.diag ∧
    (State.enterLockout s cause halt repeated).pending = s.pending := by
  unfold State.enterLockout; (repeat' split) <;> simp [State.standDown_frame _ _, State.note_frame _ _ _,
        State.event_frame _ _ _ _ _ _ _ _]

theorem State.keepLockout_frame (s : State) :
    (State.keepLockout s).unit = s.unit ∧ (State.keepLockout s).opUs = s.opUs ∧ (State.keepLockout s).savedOpUs =
    s.savedOpUs ∧ (State.keepLockout s).powerCycle = s.powerCycle ∧ (State.keepLockout s).epoch = s.epoch ∧
    (State.keepLockout s).rt = s.rt ∧ (State.keepLockout s).sec = s.sec ∧ (State.keepLockout s).station = s.station ∧
    (State.keepLockout s).bench = s.bench ∧ (State.keepLockout s).eng = s.eng ∧ (State.keepLockout s).vote = s.vote ∧
    (State.keepLockout s).ash = s.ash ∧ (State.keepLockout s).field = s.field ∧ (State.keepLockout s).can = s.can ∧
    (State.keepLockout s).net = s.net ∧ (State.keepLockout s).hi = s.hi ∧ (State.keepLockout s).xings = s.xings ∧
    (State.keepLockout s).mg = s.mg ∧ (State.keepLockout s).recorder = s.recorder ∧ (State.keepLockout s).log = s.log
    ∧ (State.keepLockout s).test = s.test ∧ (State.keepLockout s).update = s.update ∧ (State.keepLockout s).draws =
    s.draws ∧ (State.keepLockout s).diag = s.diag ∧ (State.keepLockout s).outbox = s.outbox ∧ (State.keepLockout
    s).pending = s.pending := by
  simp [State.keepLockout]

theorem State.enterSafeNow_frame (s : State) (cause : ℕ) (halt : Bool) :
    (State.enterSafeNow s cause halt).unit = s.unit ∧ (State.enterSafeNow s cause halt).opUs = s.opUs ∧
    (State.enterSafeNow s cause halt).savedOpUs = s.savedOpUs ∧
    (State.enterSafeNow s cause halt).powerCycle = s.powerCycle ∧ (State.enterSafeNow s cause halt).epoch = s.epoch ∧
    (State.enterSafeNow s cause halt).rt = s.rt ∧ (State.enterSafeNow s cause halt).station = s.station ∧
    (State.enterSafeNow s cause halt).ash = s.ash ∧ (State.enterSafeNow s cause halt).net = s.net ∧
    (State.enterSafeNow s cause halt).xings = s.xings ∧ (State.enterSafeNow s cause halt).log = s.log ∧
    (State.enterSafeNow s cause halt).test = s.test ∧ (State.enterSafeNow s cause halt).update = s.update ∧
    (State.enterSafeNow s cause halt).draws = s.draws ∧ (State.enterSafeNow s cause halt).diag = s.diag ∧
    (State.enterSafeNow s cause halt).pending = s.pending := by
  simp only [State.enterSafeNow]; (repeat' split) <;> simp [State.standDown_frame _ _, State.enterLockout_frame _ _ _ _,
        State.note_frame _ _ _, State.event_frame _ _ _ _ _ _ _ _]

theorem State.enterSafe_frame (s : State) (cause : ℕ) (halt : optParam Bool Bool.true) :
    (State.enterSafe s cause halt).unit = s.unit ∧ (State.enterSafe s cause halt).opUs = s.opUs ∧
    (State.enterSafe s cause halt).savedOpUs = s.savedOpUs ∧ (State.enterSafe s cause halt).powerCycle = s.powerCycle
    ∧ (State.enterSafe s cause halt).epoch = s.epoch ∧ (State.enterSafe s cause halt).rt = s.rt ∧
    (State.enterSafe s cause halt).station = s.station ∧ (State.enterSafe s cause halt).ash = s.ash ∧
    (State.enterSafe s cause halt).net = s.net ∧ (State.enterSafe s cause halt).xings = s.xings ∧
    (State.enterSafe s cause halt).log = s.log ∧ (State.enterSafe s cause halt).test = s.test ∧
    (State.enterSafe s cause halt).update = s.update ∧ (State.enterSafe s cause halt).draws = s.draws ∧
    (State.enterSafe s cause halt).diag = s.diag ∧ (State.enterSafe s cause halt).pending = s.pending := by
  unfold State.enterSafe; (repeat' split) <;> simp [State.enterSafeNow_frame _ _ _, State.keepLockout_frame _]

theorem State.causeOn_frame (s : State) (code : ℕ) :
    (State.causeOn s code).unit = s.unit ∧ (State.causeOn s code).opUs = s.opUs ∧
    (State.causeOn s code).savedOpUs = s.savedOpUs ∧ (State.causeOn s code).powerCycle = s.powerCycle ∧
    (State.causeOn s code).epoch = s.epoch ∧ (State.causeOn s code).rt = s.rt ∧ (State.causeOn s code).sec = s.sec ∧
    (State.causeOn s code).station = s.station ∧ (State.causeOn s code).bench = s.bench ∧
    (State.causeOn s code).eng = s.eng ∧ (State.causeOn s code).vote = s.vote ∧ (State.causeOn s code).ash = s.ash ∧
    (State.causeOn s code).field = s.field ∧ (State.causeOn s code).can = s.can ∧ (State.causeOn s code).net = s.net ∧
    (State.causeOn s code).hi = s.hi ∧ (State.causeOn s code).xings = s.xings ∧ (State.causeOn s code).mg = s.mg ∧
    (State.causeOn s code).recorder = s.recorder ∧ (State.causeOn s code).log = s.log ∧
    (State.causeOn s code).test = s.test ∧ (State.causeOn s code).update = s.update ∧
    (State.causeOn s code).draws = s.draws ∧ (State.causeOn s code).outbox = s.outbox ∧
    (State.causeOn s code).diag = s.diag ∧ (State.causeOn s code).pending = s.pending := by
  simp [State.causeOn]

theorem State.causeOff_frame (s : State) (code : ℕ) :
    (State.causeOff s code).unit = s.unit ∧ (State.causeOff s code).opUs = s.opUs ∧
    (State.causeOff s code).savedOpUs = s.savedOpUs ∧ (State.causeOff s code).powerCycle = s.powerCycle ∧
    (State.causeOff s code).epoch = s.epoch ∧ (State.causeOff s code).rt = s.rt ∧ (State.causeOff s code).sec = s.sec
    ∧ (State.causeOff s code).station = s.station ∧ (State.causeOff s code).bench = s.bench ∧
    (State.causeOff s code).eng = s.eng ∧ (State.causeOff s code).vote = s.vote ∧ (State.causeOff s code).ash = s.ash
    ∧ (State.causeOff s code).field = s.field ∧ (State.causeOff s code).can = s.can ∧
    (State.causeOff s code).net = s.net ∧ (State.causeOff s code).hi = s.hi ∧ (State.causeOff s code).xings = s.xings
    ∧ (State.causeOff s code).mg = s.mg ∧ (State.causeOff s code).recorder = s.recorder ∧
    (State.causeOff s code).log = s.log ∧ (State.causeOff s code).test = s.test ∧
    (State.causeOff s code).update = s.update ∧ (State.causeOff s code).draws = s.draws ∧
    (State.causeOff s code).outbox = s.outbox ∧ (State.causeOff s code).diag = s.diag ∧
    (State.causeOff s code).pending = s.pending := by
  simp [State.causeOff]

theorem State.enterStop_frame (s : State) (keep : optParam (Option Req) Option.none) :
    (State.enterStop s keep).unit = s.unit ∧ (State.enterStop s keep).opUs = s.opUs ∧
    (State.enterStop s keep).powerCycle = s.powerCycle ∧ (State.enterStop s keep).epoch = s.epoch ∧
    (State.enterStop s keep).rt = s.rt ∧ (State.enterStop s keep).station = s.station ∧
    (State.enterStop s keep).ash = s.ash ∧ (State.enterStop s keep).net = s.net ∧
    (State.enterStop s keep).xings = s.xings ∧ (State.enterStop s keep).recorder = s.recorder ∧
    (State.enterStop s keep).log = s.log ∧ (State.enterStop s keep).test = s.test ∧
    (State.enterStop s keep).update = s.update ∧ (State.enterStop s keep).draws = s.draws ∧
    (State.enterStop s keep).diag = s.diag ∧ (State.enterStop s keep).pending = s.pending := by
  simp [State.enterStop, State.dwellPause_frame _, State.flushNotes_frame _, State.discardWork_frame _ _,
        State.sendHalt_frame _]

theorem State.setXing_frame (s : State) (x : Crossing) (v : Xing) :
    (State.setXing s x v).unit = s.unit ∧ (State.setXing s x v).opUs = s.opUs ∧
    (State.setXing s x v).savedOpUs = s.savedOpUs ∧ (State.setXing s x v).powerCycle = s.powerCycle ∧
    (State.setXing s x v).epoch = s.epoch ∧ (State.setXing s x v).power = s.power ∧ (State.setXing s x v).rt = s.rt ∧
    (State.setXing s x v).sec = s.sec ∧ (State.setXing s x v).station = s.station ∧
    (State.setXing s x v).bench = s.bench ∧ (State.setXing s x v).eng = s.eng ∧ (State.setXing s x v).vote = s.vote ∧
    (State.setXing s x v).ash = s.ash ∧ (State.setXing s x v).field = s.field ∧ (State.setXing s x v).can = s.can ∧
    (State.setXing s x v).net = s.net ∧ (State.setXing s x v).hi = s.hi ∧ (State.setXing s x v).mg = s.mg ∧
    (State.setXing s x v).recorder = s.recorder ∧ (State.setXing s x v).log = s.log ∧
    (State.setXing s x v).test = s.test ∧ (State.setXing s x v).update = s.update ∧
    (State.setXing s x v).draws = s.draws ∧ (State.setXing s x v).outbox = s.outbox ∧
    (State.setXing s x v).diag = s.diag ∧ (State.setXing s x v).pending = s.pending := by
  simp [State.setXing]

theorem State.fence_frame (s : State) (x : Crossing) :
    (State.fence s x).unit = s.unit ∧ (State.fence s x).opUs = s.opUs ∧ (State.fence s x).savedOpUs = s.savedOpUs ∧
    (State.fence s x).powerCycle = s.powerCycle ∧ (State.fence s x).epoch = s.epoch ∧
    (State.fence s x).power = s.power ∧ (State.fence s x).rt = s.rt ∧ (State.fence s x).sec = s.sec ∧
    (State.fence s x).station = s.station ∧ (State.fence s x).bench = s.bench ∧ (State.fence s x).eng = s.eng ∧
    (State.fence s x).vote = s.vote ∧ (State.fence s x).ash = s.ash ∧ (State.fence s x).field = s.field ∧
    (State.fence s x).can = s.can ∧ (State.fence s x).net = s.net ∧ (State.fence s x).hi = s.hi ∧
    (State.fence s x).mg = s.mg ∧ (State.fence s x).log = s.log ∧ (State.fence s x).test = s.test ∧
    (State.fence s x).update = s.update ∧ (State.fence s x).draws = s.draws ∧ (State.fence s x).outbox = s.outbox ∧
    (State.fence s x).diag = s.diag ∧ (State.fence s x).pending = s.pending := by
  simp [State.fence, State.event_frame _ _ _ _ _ _ _ _, State.setXing_frame _ _ _]

theorem State.fenceDest_frame (s : State) (x : Crossing) :
    (State.fenceDest s x).unit = s.unit ∧ (State.fenceDest s x).opUs = s.opUs ∧
    (State.fenceDest s x).savedOpUs = s.savedOpUs ∧ (State.fenceDest s x).powerCycle = s.powerCycle ∧
    (State.fenceDest s x).epoch = s.epoch ∧ (State.fenceDest s x).power = s.power ∧ (State.fenceDest s x).rt = s.rt ∧
    (State.fenceDest s x).sec = s.sec ∧ (State.fenceDest s x).station = s.station ∧
    (State.fenceDest s x).bench = s.bench ∧ (State.fenceDest s x).eng = s.eng ∧ (State.fenceDest s x).vote = s.vote ∧
    (State.fenceDest s x).ash = s.ash ∧ (State.fenceDest s x).field = s.field ∧ (State.fenceDest s x).can = s.can ∧
    (State.fenceDest s x).net = s.net ∧ (State.fenceDest s x).hi = s.hi ∧ (State.fenceDest s x).mg = s.mg ∧
    (State.fenceDest s x).log = s.log ∧ (State.fenceDest s x).test = s.test ∧ (State.fenceDest s x).update = s.update
    ∧ (State.fenceDest s x).draws = s.draws ∧ (State.fenceDest s x).diag = s.diag ∧
    (State.fenceDest s x).outbox = s.outbox ∧ (State.fenceDest s x).pending = s.pending := by
  simp [State.fenceDest, State.fence_frame _ _, State.setXing_frame _ _ _]

theorem State.fenceAll_frame (s : State) (l : List Crossing) :
    (State.fenceAll s l).unit = s.unit ∧ (State.fenceAll s l).opUs = s.opUs ∧
    (State.fenceAll s l).savedOpUs = s.savedOpUs ∧ (State.fenceAll s l).powerCycle = s.powerCycle ∧
    (State.fenceAll s l).epoch = s.epoch ∧ (State.fenceAll s l).power = s.power ∧ (State.fenceAll s l).rt = s.rt ∧
    (State.fenceAll s l).sec = s.sec ∧ (State.fenceAll s l).station = s.station ∧ (State.fenceAll s l).bench = s.bench
    ∧ (State.fenceAll s l).eng = s.eng ∧ (State.fenceAll s l).vote = s.vote ∧ (State.fenceAll s l).ash = s.ash ∧
    (State.fenceAll s l).field = s.field ∧ (State.fenceAll s l).can = s.can ∧ (State.fenceAll s l).net = s.net ∧
    (State.fenceAll s l).hi = s.hi ∧ (State.fenceAll s l).mg = s.mg ∧ (State.fenceAll s l).log = s.log ∧
    (State.fenceAll s l).test = s.test ∧ (State.fenceAll s l).update = s.update ∧ (State.fenceAll s l).draws = s.draws
    ∧ (State.fenceAll s l).outbox = s.outbox ∧ (State.fenceAll s l).diag = s.diag ∧
    (State.fenceAll s l).pending = s.pending := by
  simp [State.fenceAll, State.fence_frame _ _]

/-! ### Within a part of the state that it writes -/

theorem State.tick_rt_frame (s : State) :
    (State.tick s).rt.alive = s.rt.alive ∧ (State.tick s).rt.timeSet = s.rt.timeSet ∧
    (State.tick s).rt.sealPat = s.rt.sealPat ∧ (State.tick s).rt.sealEdge = s.rt.sealEdge ∧
    (State.tick s).rt.hot = s.rt.hot ∧ (State.tick s).rt.cellLow = s.rt.cellLow ∧
    (State.tick s).rt.calLost = s.rt.calLost ∧ (State.tick s).rt.found = s.rt.found ∧
    (State.tick s).rt.stagedMirror = s.rt.stagedMirror := by
  unfold State.tick; (repeat' split) <;> simp

theorem State.event_recorder_frame (s : State) (code : ℕ) (src : Source) (sev : Severity) (p0 : optParam ℕ
    0) (p1 : optParam ℕ 0) (p2 : optParam ℕ 0) (recovered : optParam Bool Bool.false) :
    (State.event s code src sev p0 p1 p2 recovered).recorder.ring = s.recorder.ring ∧
    (State.event s code src sev p0 p1 p2 recovered).recorder.next = s.recorder.next ∧
    (State.event s code src sev p0 p1 p2 recovered).recorder.capacity = s.recorder.capacity ∧
    (State.event s code src sev p0 p1 p2 recovered).recorder.badBlocks = s.recorder.badBlocks ∧
    (State.event s code src sev p0 p1 p2 recovered).recorder.buckets = s.recorder.buckets ∧
    (State.event s code src sev p0 p1 p2 recovered).recorder.rates = s.recorder.rates ∧
    (State.event s code src sev p0 p1 p2 recovered).recorder.frozenUntil = s.recorder.frozenUntil ∧
    (State.event s code src sev p0 p1 p2 recovered).recorder.staging = s.recorder.staging ∧
    (State.event s code src sev p0 p1 p2 recovered).recorder.lost = s.recorder.lost ∧
    (State.event s code src sev p0 p1 p2 recovered).recorder.firstLost = s.recorder.firstLost := by
  simp [State.event]

theorem State.irq_hi_frame (s : State) (v : ℕ) :
    (State.irq s v).hi.state = s.hi.state ∧ (State.irq s v).hi.m2 = s.hi.m2 ∧
    (State.irq s v).hi.unstableCount = s.hi.unstableCount ∧ (State.irq s v).hi.eventMg = s.hi.eventMg ∧
    (State.irq s v).hi.eventCl = s.hi.eventCl ∧ (State.irq s v).hi.downMg = s.hi.downMg ∧
    (State.irq s v).hi.downCl = s.hi.downCl ∧ (State.irq s v).hi.stale = s.hi.stale ∧
    (State.irq s v).hi.unstable = s.hi.unstable ∧ (State.irq s v).hi.scratch = s.hi.scratch ∧
    (State.irq s v).hi.done = s.hi.done ∧ (State.irq s v).hi.busy = s.hi.busy ∧ (State.irq s v).hi.head = s.hi.head ∧
    (State.irq s v).hi.tail = s.hi.tail ∧ (State.irq s v).hi.irqMask = s.hi.irqMask ∧
    (State.irq s v).hi.vectors = s.hi.vectors ∧ (State.irq s v).hi.bar2 = s.hi.bar2 ∧
    (State.irq s v).hi.readData = s.hi.readData ∧ (State.irq s v).hi.noteSeq = s.hi.noteSeq ∧
    (State.irq s v).hi.heldNotes = s.hi.heldNotes ∧ (State.irq s v).hi.lostNotes = s.hi.lostNotes ∧
    (State.irq s v).hi.unread = s.hi.unread ∧ (State.irq s v).hi.heldDone = s.hi.heldDone ∧
    (State.irq s v).hi.subscribed = s.hi.subscribed ∧ (State.irq s v).hi.x8Subscribed = s.hi.x8Subscribed ∧
    (State.irq s v).hi.x8Dest = s.hi.x8Dest ∧ (State.irq s v).hi.x8Last = s.hi.x8Last ∧
    (State.irq s v).hi.x8Seq = s.hi.x8Seq ∧ (State.irq s v).hi.x8Unsent = s.hi.x8Unsent ∧
    (State.irq s v).hi.x8Short = s.hi.x8Short ∧ (State.irq s v).hi.x8 = s.hi.x8 ∧
    (State.irq s v).hi.x8Address = s.hi.x8Address ∧ (State.irq s v).hi.x8Plen = s.hi.x8Plen ∧
    (State.irq s v).hi.x8Gateway = s.hi.x8Gateway ∧ (State.irq s v).hi.x8New = s.hi.x8New := by
  simp only [State.irq]; split <;> simp [State.msi_frame _ _]

theorem State.ringWrite_hi_frame (s : State) (seqNo : ℕ) (n : Note) :
    (State.ringWrite s seqNo n).hi.state = s.hi.state ∧ (State.ringWrite s seqNo n).hi.m2 = s.hi.m2 ∧
    (State.ringWrite s seqNo n).hi.unstableCount = s.hi.unstableCount ∧
    (State.ringWrite s seqNo n).hi.eventMg = s.hi.eventMg ∧ (State.ringWrite s seqNo n).hi.eventCl = s.hi.eventCl ∧
    (State.ringWrite s seqNo n).hi.downMg = s.hi.downMg ∧ (State.ringWrite s seqNo n).hi.downCl = s.hi.downCl ∧
    (State.ringWrite s seqNo n).hi.stale = s.hi.stale ∧ (State.ringWrite s seqNo n).hi.unstable = s.hi.unstable ∧
    (State.ringWrite s seqNo n).hi.scratch = s.hi.scratch ∧ (State.ringWrite s seqNo n).hi.done = s.hi.done ∧
    (State.ringWrite s seqNo n).hi.busy = s.hi.busy ∧ (State.ringWrite s seqNo n).hi.tail = s.hi.tail ∧
    (State.ringWrite s seqNo n).hi.irqMask = s.hi.irqMask ∧ (State.ringWrite s seqNo n).hi.vectors = s.hi.vectors ∧
    (State.ringWrite s seqNo n).hi.readData = s.hi.readData ∧ (State.ringWrite s seqNo n).hi.noteSeq = s.hi.noteSeq
    ∧ (State.ringWrite s seqNo n).hi.heldNotes = s.hi.heldNotes ∧
    (State.ringWrite s seqNo n).hi.lostNotes = s.hi.lostNotes ∧ (State.ringWrite s seqNo n).hi.unread = s.hi.unread
    ∧ (State.ringWrite s seqNo n).hi.heldDone = s.hi.heldDone ∧
    (State.ringWrite s seqNo n).hi.subscribed = s.hi.subscribed ∧
    (State.ringWrite s seqNo n).hi.x8Subscribed = s.hi.x8Subscribed ∧
    (State.ringWrite s seqNo n).hi.x8Dest = s.hi.x8Dest ∧ (State.ringWrite s seqNo n).hi.x8Last = s.hi.x8Last ∧
    (State.ringWrite s seqNo n).hi.x8Seq = s.hi.x8Seq ∧ (State.ringWrite s seqNo n).hi.x8Unsent = s.hi.x8Unsent ∧
    (State.ringWrite s seqNo n).hi.x8Short = s.hi.x8Short ∧ (State.ringWrite s seqNo n).hi.x8 = s.hi.x8 ∧
    (State.ringWrite s seqNo n).hi.x8Address = s.hi.x8Address ∧ (State.ringWrite s seqNo n).hi.x8Plen = s.hi.x8Plen
    ∧ (State.ringWrite s seqNo n).hi.x8Gateway = s.hi.x8Gateway ∧ (State.ringWrite s seqNo n).hi.x8New = s.hi.x8New := by
  simp [State.ringWrite, State.irq_hi_frame _ _]

theorem State.notePcie_hi_frame (s : State) (n : Note) :
    (State.notePcie s n).hi.state = s.hi.state ∧ (State.notePcie s n).hi.m2 = s.hi.m2 ∧
    (State.notePcie s n).hi.unstableCount = s.hi.unstableCount ∧ (State.notePcie s n).hi.eventMg = s.hi.eventMg ∧
    (State.notePcie s n).hi.eventCl = s.hi.eventCl ∧ (State.notePcie s n).hi.downMg = s.hi.downMg ∧
    (State.notePcie s n).hi.downCl = s.hi.downCl ∧ (State.notePcie s n).hi.stale = s.hi.stale ∧
    (State.notePcie s n).hi.unstable = s.hi.unstable ∧ (State.notePcie s n).hi.scratch = s.hi.scratch ∧
    (State.notePcie s n).hi.done = s.hi.done ∧ (State.notePcie s n).hi.busy = s.hi.busy ∧
    (State.notePcie s n).hi.tail = s.hi.tail ∧ (State.notePcie s n).hi.irqMask = s.hi.irqMask ∧
    (State.notePcie s n).hi.vectors = s.hi.vectors ∧ (State.notePcie s n).hi.readData = s.hi.readData ∧
    (State.notePcie s n).hi.unread = s.hi.unread ∧ (State.notePcie s n).hi.heldDone = s.hi.heldDone ∧
    (State.notePcie s n).hi.subscribed = s.hi.subscribed ∧ (State.notePcie s n).hi.x8Subscribed = s.hi.x8Subscribed
    ∧ (State.notePcie s n).hi.x8Dest = s.hi.x8Dest ∧ (State.notePcie s n).hi.x8Last = s.hi.x8Last ∧
    (State.notePcie s n).hi.x8Seq = s.hi.x8Seq ∧ (State.notePcie s n).hi.x8Unsent = s.hi.x8Unsent ∧
    (State.notePcie s n).hi.x8Short = s.hi.x8Short ∧ (State.notePcie s n).hi.x8 = s.hi.x8 ∧
    (State.notePcie s n).hi.x8Address = s.hi.x8Address ∧ (State.notePcie s n).hi.x8Plen = s.hi.x8Plen ∧
    (State.notePcie s n).hi.x8Gateway = s.hi.x8Gateway ∧ (State.notePcie s n).hi.x8New = s.hi.x8New := by
  unfold State.notePcie; (repeat' split) <;> simp [State.ringWrite_hi_frame _ _ _]

theorem State.noteX8_hi_frame (s : State) (n : Note) :
    (State.noteX8 s n).hi.state = s.hi.state ∧ (State.noteX8 s n).hi.m2 = s.hi.m2 ∧
    (State.noteX8 s n).hi.unstableCount = s.hi.unstableCount ∧ (State.noteX8 s n).hi.eventMg = s.hi.eventMg ∧
    (State.noteX8 s n).hi.eventCl = s.hi.eventCl ∧ (State.noteX8 s n).hi.downMg = s.hi.downMg ∧
    (State.noteX8 s n).hi.downCl = s.hi.downCl ∧ (State.noteX8 s n).hi.stale = s.hi.stale ∧
    (State.noteX8 s n).hi.unstable = s.hi.unstable ∧ (State.noteX8 s n).hi.scratch = s.hi.scratch ∧
    (State.noteX8 s n).hi.done = s.hi.done ∧ (State.noteX8 s n).hi.busy = s.hi.busy ∧
    (State.noteX8 s n).hi.head = s.hi.head ∧ (State.noteX8 s n).hi.tail = s.hi.tail ∧
    (State.noteX8 s n).hi.irqStat = s.hi.irqStat ∧ (State.noteX8 s n).hi.irqMask = s.hi.irqMask ∧
    (State.noteX8 s n).hi.vectors = s.hi.vectors ∧ (State.noteX8 s n).hi.bar2 = s.hi.bar2 ∧
    (State.noteX8 s n).hi.readData = s.hi.readData ∧ (State.noteX8 s n).hi.noteSeq = s.hi.noteSeq ∧
    (State.noteX8 s n).hi.heldNotes = s.hi.heldNotes ∧ (State.noteX8 s n).hi.lostNotes = s.hi.lostNotes ∧
    (State.noteX8 s n).hi.unread = s.hi.unread ∧ (State.noteX8 s n).hi.heldDone = s.hi.heldDone ∧
    (State.noteX8 s n).hi.subscribed = s.hi.subscribed ∧ (State.noteX8 s n).hi.x8Subscribed = s.hi.x8Subscribed ∧
    (State.noteX8 s n).hi.x8Dest = s.hi.x8Dest ∧ (State.noteX8 s n).hi.x8Last = s.hi.x8Last ∧
    (State.noteX8 s n).hi.x8Short = s.hi.x8Short ∧ (State.noteX8 s n).hi.x8 = s.hi.x8 ∧
    (State.noteX8 s n).hi.x8Address = s.hi.x8Address ∧ (State.noteX8 s n).hi.x8Plen = s.hi.x8Plen ∧
    (State.noteX8 s n).hi.x8Gateway = s.hi.x8Gateway ∧ (State.noteX8 s n).hi.x8New = s.hi.x8New := by
  unfold State.noteX8; (repeat' split) <;> simp

theorem State.deliverNote_hi_frame (s : State) (n : Note) :
    (State.deliverNote s n).hi.state = s.hi.state ∧ (State.deliverNote s n).hi.m2 = s.hi.m2 ∧
    (State.deliverNote s n).hi.unstableCount = s.hi.unstableCount ∧
    (State.deliverNote s n).hi.eventMg = s.hi.eventMg ∧ (State.deliverNote s n).hi.eventCl = s.hi.eventCl ∧
    (State.deliverNote s n).hi.downMg = s.hi.downMg ∧ (State.deliverNote s n).hi.downCl = s.hi.downCl ∧
    (State.deliverNote s n).hi.stale = s.hi.stale ∧ (State.deliverNote s n).hi.unstable = s.hi.unstable ∧
    (State.deliverNote s n).hi.scratch = s.hi.scratch ∧ (State.deliverNote s n).hi.done = s.hi.done ∧
    (State.deliverNote s n).hi.busy = s.hi.busy ∧ (State.deliverNote s n).hi.tail = s.hi.tail ∧
    (State.deliverNote s n).hi.irqMask = s.hi.irqMask ∧ (State.deliverNote s n).hi.vectors = s.hi.vectors ∧
    (State.deliverNote s n).hi.readData = s.hi.readData ∧ (State.deliverNote s n).hi.unread = s.hi.unread ∧
    (State.deliverNote s n).hi.heldDone = s.hi.heldDone ∧ (State.deliverNote s n).hi.subscribed = s.hi.subscribed ∧
    (State.deliverNote s n).hi.x8Subscribed = s.hi.x8Subscribed ∧ (State.deliverNote s n).hi.x8Dest = s.hi.x8Dest ∧
    (State.deliverNote s n).hi.x8Last = s.hi.x8Last ∧ (State.deliverNote s n).hi.x8Short = s.hi.x8Short ∧
    (State.deliverNote s n).hi.x8 = s.hi.x8 ∧ (State.deliverNote s n).hi.x8Address = s.hi.x8Address ∧
    (State.deliverNote s n).hi.x8Plen = s.hi.x8Plen ∧ (State.deliverNote s n).hi.x8Gateway = s.hi.x8Gateway ∧
    (State.deliverNote s n).hi.x8New = s.hi.x8New := by
  simp only [State.deliverNote]; (repeat' split) <;> simp [State.notePcie_hi_frame _ _, State.noteX8_hi_frame _ _]

theorem State.noteCluster_bench_frame (s : State) (kind : ℕ) (data : List Byte) :
    (State.noteCluster s kind data).bench.cycle = s.bench.cycle ∧
    (State.noteCluster s kind data).bench.nextCycle = s.bench.nextCycle ∧
    (State.noteCluster s kind data).bench.lastO = s.bench.lastO ∧
    (State.noteCluster s kind data).bench.freezeUs = s.bench.freezeUs ∧
    (State.noteCluster s kind data).bench.nextFreezeUs = s.bench.nextFreezeUs ∧
    (State.noteCluster s kind data).bench.frozen = s.bench.frozen ∧
    (State.noteCluster s kind data).bench.evaluated = s.bench.evaluated ∧
    (State.noteCluster s kind data).bench.first = s.bench.first ∧
    (State.noteCluster s kind data).bench.requests = s.bench.requests ∧
    (State.noteCluster s kind data).bench.overran = s.bench.overran ∧
    (State.noteCluster s kind data).bench.discard = s.bench.discard ∧
    (State.noteCluster s kind data).bench.noCode = s.bench.noCode ∧
    (State.noteCluster s kind data).bench.constants = s.bench.constants ∧
    (State.noteCluster s kind data).bench.newConstants = s.bench.newConstants ∧
    (State.noteCluster s kind data).bench.forces = s.bench.forces ∧
    (State.noteCluster s kind data).bench.newForces = s.bench.newForces ∧
    (State.noteCluster s kind data).bench.forcedShown = s.bench.forcedShown ∧
    (State.noteCluster s kind data).bench.reminderUs = s.bench.reminderUs ∧
    (State.noteCluster s kind data).bench.completions = s.bench.completions ∧
    (State.noteCluster s kind data).bench.challenge = s.bench.challenge ∧
    (State.noteCluster s kind data).bench.codes = s.bench.codes ∧
    (State.noteCluster s kind data).bench.stopping = s.bench.stopping := by
  unfold State.noteCluster; (repeat' split) <;> simp [State.deliverNote_frame _ _]

theorem State.noteCluster_hi_frame (s : State) (kind : ℕ) (data : List Byte) :
    (State.noteCluster s kind data).hi.state = s.hi.state ∧ (State.noteCluster s kind data).hi.m2 = s.hi.m2 ∧
    (State.noteCluster s kind data).hi.unstableCount = s.hi.unstableCount ∧
    (State.noteCluster s kind data).hi.eventMg = s.hi.eventMg ∧
    (State.noteCluster s kind data).hi.eventCl = s.hi.eventCl ∧
    (State.noteCluster s kind data).hi.downMg = s.hi.downMg ∧
    (State.noteCluster s kind data).hi.downCl = s.hi.downCl ∧ (State.noteCluster s kind data).hi.stale = s.hi.stale
    ∧ (State.noteCluster s kind data).hi.unstable = s.hi.unstable ∧
    (State.noteCluster s kind data).hi.scratch = s.hi.scratch ∧ (State.noteCluster s kind data).hi.done = s.hi.done
    ∧ (State.noteCluster s kind data).hi.busy = s.hi.busy ∧ (State.noteCluster s kind data).hi.tail = s.hi.tail ∧
    (State.noteCluster s kind data).hi.irqMask = s.hi.irqMask ∧
    (State.noteCluster s kind data).hi.vectors = s.hi.vectors ∧
    (State.noteCluster s kind data).hi.readData = s.hi.readData ∧
    (State.noteCluster s kind data).hi.unread = s.hi.unread ∧
    (State.noteCluster s kind data).hi.heldDone = s.hi.heldDone ∧
    (State.noteCluster s kind data).hi.subscribed = s.hi.subscribed ∧
    (State.noteCluster s kind data).hi.x8Subscribed = s.hi.x8Subscribed ∧
    (State.noteCluster s kind data).hi.x8Dest = s.hi.x8Dest ∧
    (State.noteCluster s kind data).hi.x8Last = s.hi.x8Last ∧
    (State.noteCluster s kind data).hi.x8Short = s.hi.x8Short ∧ (State.noteCluster s kind data).hi.x8 = s.hi.x8 ∧
    (State.noteCluster s kind data).hi.x8Address = s.hi.x8Address ∧
    (State.noteCluster s kind data).hi.x8Plen = s.hi.x8Plen ∧
    (State.noteCluster s kind data).hi.x8Gateway = s.hi.x8Gateway ∧
    (State.noteCluster s kind data).hi.x8New = s.hi.x8New := by
  unfold State.noteCluster; (repeat' split) <;> simp [State.deliverNote_hi_frame _ _]

theorem State.note_hi_frame (s : State) (kind : ℕ) (data : List Byte) :
    (State.note s kind data).hi.state = s.hi.state ∧ (State.note s kind data).hi.m2 = s.hi.m2 ∧
    (State.note s kind data).hi.unstableCount = s.hi.unstableCount ∧
    (State.note s kind data).hi.eventMg = s.hi.eventMg ∧ (State.note s kind data).hi.eventCl = s.hi.eventCl ∧
    (State.note s kind data).hi.downMg = s.hi.downMg ∧ (State.note s kind data).hi.downCl = s.hi.downCl ∧
    (State.note s kind data).hi.stale = s.hi.stale ∧ (State.note s kind data).hi.unstable = s.hi.unstable ∧
    (State.note s kind data).hi.scratch = s.hi.scratch ∧ (State.note s kind data).hi.done = s.hi.done ∧
    (State.note s kind data).hi.busy = s.hi.busy ∧ (State.note s kind data).hi.tail = s.hi.tail ∧
    (State.note s kind data).hi.irqMask = s.hi.irqMask ∧ (State.note s kind data).hi.vectors = s.hi.vectors ∧
    (State.note s kind data).hi.readData = s.hi.readData ∧ (State.note s kind data).hi.unread = s.hi.unread ∧
    (State.note s kind data).hi.heldDone = s.hi.heldDone ∧ (State.note s kind data).hi.subscribed = s.hi.subscribed
    ∧ (State.note s kind data).hi.x8Subscribed = s.hi.x8Subscribed ∧
    (State.note s kind data).hi.x8Dest = s.hi.x8Dest ∧ (State.note s kind data).hi.x8Last = s.hi.x8Last ∧
    (State.note s kind data).hi.x8Short = s.hi.x8Short ∧ (State.note s kind data).hi.x8 = s.hi.x8 ∧
    (State.note s kind data).hi.x8Address = s.hi.x8Address ∧ (State.note s kind data).hi.x8Plen = s.hi.x8Plen ∧
    (State.note s kind data).hi.x8Gateway = s.hi.x8Gateway ∧ (State.note s kind data).hi.x8New = s.hi.x8New := by
  simp [State.note, State.deliverNote_hi_frame _ _]

theorem State.voteNote_hi_frame (s : State) (code : ℕ) (p0 : ℕ) (p1 : ℕ) :
    (State.voteNote s code p0 p1).hi.state = s.hi.state ∧ (State.voteNote s code p0 p1).hi.m2 = s.hi.m2 ∧
    (State.voteNote s code p0 p1).hi.unstableCount = s.hi.unstableCount ∧
    (State.voteNote s code p0 p1).hi.eventMg = s.hi.eventMg ∧
    (State.voteNote s code p0 p1).hi.eventCl = s.hi.eventCl ∧ (State.voteNote s code p0 p1).hi.downMg = s.hi.downMg
    ∧ (State.voteNote s code p0 p1).hi.downCl = s.hi.downCl ∧ (State.voteNote s code p0 p1).hi.stale = s.hi.stale ∧
    (State.voteNote s code p0 p1).hi.unstable = s.hi.unstable ∧
    (State.voteNote s code p0 p1).hi.scratch = s.hi.scratch ∧ (State.voteNote s code p0 p1).hi.done = s.hi.done ∧
    (State.voteNote s code p0 p1).hi.busy = s.hi.busy ∧ (State.voteNote s code p0 p1).hi.tail = s.hi.tail ∧
    (State.voteNote s code p0 p1).hi.irqMask = s.hi.irqMask ∧
    (State.voteNote s code p0 p1).hi.vectors = s.hi.vectors ∧
    (State.voteNote s code p0 p1).hi.readData = s.hi.readData ∧
    (State.voteNote s code p0 p1).hi.unread = s.hi.unread ∧
    (State.voteNote s code p0 p1).hi.heldDone = s.hi.heldDone ∧
    (State.voteNote s code p0 p1).hi.subscribed = s.hi.subscribed ∧
    (State.voteNote s code p0 p1).hi.x8Subscribed = s.hi.x8Subscribed ∧
    (State.voteNote s code p0 p1).hi.x8Dest = s.hi.x8Dest ∧ (State.voteNote s code p0 p1).hi.x8Last = s.hi.x8Last ∧
    (State.voteNote s code p0 p1).hi.x8Short = s.hi.x8Short ∧ (State.voteNote s code p0 p1).hi.x8 = s.hi.x8 ∧
    (State.voteNote s code p0 p1).hi.x8Address = s.hi.x8Address ∧
    (State.voteNote s code p0 p1).hi.x8Plen = s.hi.x8Plen ∧
    (State.voteNote s code p0 p1).hi.x8Gateway = s.hi.x8Gateway ∧
    (State.voteNote s code p0 p1).hi.x8New = s.hi.x8New := by
  simp [State.voteNote, State.note_hi_frame _ _ _]

theorem State.writeResponse_hi_frame (s : State) (r : Response) :
    (State.writeResponse s r).hi.state = s.hi.state ∧ (State.writeResponse s r).hi.m2 = s.hi.m2 ∧
    (State.writeResponse s r).hi.unstableCount = s.hi.unstableCount ∧
    (State.writeResponse s r).hi.eventMg = s.hi.eventMg ∧ (State.writeResponse s r).hi.eventCl = s.hi.eventCl ∧
    (State.writeResponse s r).hi.downMg = s.hi.downMg ∧ (State.writeResponse s r).hi.downCl = s.hi.downCl ∧
    (State.writeResponse s r).hi.stale = s.hi.stale ∧ (State.writeResponse s r).hi.unstable = s.hi.unstable ∧
    (State.writeResponse s r).hi.scratch = s.hi.scratch ∧ (State.writeResponse s r).hi.busy = s.hi.busy ∧
    (State.writeResponse s r).hi.head = s.hi.head ∧ (State.writeResponse s r).hi.tail = s.hi.tail ∧
    (State.writeResponse s r).hi.irqMask = s.hi.irqMask ∧ (State.writeResponse s r).hi.vectors = s.hi.vectors ∧
    (State.writeResponse s r).hi.readData = s.hi.readData ∧ (State.writeResponse s r).hi.noteSeq = s.hi.noteSeq ∧
    (State.writeResponse s r).hi.heldNotes = s.hi.heldNotes ∧
    (State.writeResponse s r).hi.lostNotes = s.hi.lostNotes ∧ (State.writeResponse s r).hi.unread = s.hi.unread ∧
    (State.writeResponse s r).hi.heldDone = s.hi.heldDone ∧
    (State.writeResponse s r).hi.subscribed = s.hi.subscribed ∧
    (State.writeResponse s r).hi.x8Subscribed = s.hi.x8Subscribed ∧
    (State.writeResponse s r).hi.x8Dest = s.hi.x8Dest ∧ (State.writeResponse s r).hi.x8Last = s.hi.x8Last ∧
    (State.writeResponse s r).hi.x8Seq = s.hi.x8Seq ∧ (State.writeResponse s r).hi.x8Unsent = s.hi.x8Unsent ∧
    (State.writeResponse s r).hi.x8Short = s.hi.x8Short ∧ (State.writeResponse s r).hi.x8 = s.hi.x8 ∧
    (State.writeResponse s r).hi.x8Address = s.hi.x8Address ∧ (State.writeResponse s r).hi.x8Plen = s.hi.x8Plen ∧
    (State.writeResponse s r).hi.x8Gateway = s.hi.x8Gateway ∧ (State.writeResponse s r).hi.x8New = s.hi.x8New := by
  simp [State.writeResponse, State.irq_hi_frame _ _]

theorem State.sendX8_hi_frame (s : State) (r : Response) :
    (State.sendX8 s r).hi.state = s.hi.state ∧ (State.sendX8 s r).hi.m2 = s.hi.m2 ∧
    (State.sendX8 s r).hi.unstableCount = s.hi.unstableCount ∧ (State.sendX8 s r).hi.eventMg = s.hi.eventMg ∧
    (State.sendX8 s r).hi.eventCl = s.hi.eventCl ∧ (State.sendX8 s r).hi.downMg = s.hi.downMg ∧
    (State.sendX8 s r).hi.downCl = s.hi.downCl ∧ (State.sendX8 s r).hi.stale = s.hi.stale ∧
    (State.sendX8 s r).hi.unstable = s.hi.unstable ∧ (State.sendX8 s r).hi.scratch = s.hi.scratch ∧
    (State.sendX8 s r).hi.done = s.hi.done ∧ (State.sendX8 s r).hi.busy = s.hi.busy ∧
    (State.sendX8 s r).hi.head = s.hi.head ∧ (State.sendX8 s r).hi.tail = s.hi.tail ∧
    (State.sendX8 s r).hi.irqStat = s.hi.irqStat ∧ (State.sendX8 s r).hi.irqMask = s.hi.irqMask ∧
    (State.sendX8 s r).hi.vectors = s.hi.vectors ∧ (State.sendX8 s r).hi.bar2 = s.hi.bar2 ∧
    (State.sendX8 s r).hi.readData = s.hi.readData ∧ (State.sendX8 s r).hi.noteSeq = s.hi.noteSeq ∧
    (State.sendX8 s r).hi.heldNotes = s.hi.heldNotes ∧ (State.sendX8 s r).hi.lostNotes = s.hi.lostNotes ∧
    (State.sendX8 s r).hi.unread = s.hi.unread ∧ (State.sendX8 s r).hi.heldDone = s.hi.heldDone ∧
    (State.sendX8 s r).hi.subscribed = s.hi.subscribed ∧ (State.sendX8 s r).hi.x8Subscribed = s.hi.x8Subscribed ∧
    (State.sendX8 s r).hi.x8Dest = s.hi.x8Dest ∧ (State.sendX8 s r).hi.x8Last = s.hi.x8Last ∧
    (State.sendX8 s r).hi.x8Seq = s.hi.x8Seq ∧ (State.sendX8 s r).hi.x8Unsent = s.hi.x8Unsent ∧
    (State.sendX8 s r).hi.x8Short = s.hi.x8Short ∧ (State.sendX8 s r).hi.x8Address = s.hi.x8Address ∧
    (State.sendX8 s r).hi.x8Plen = s.hi.x8Plen ∧ (State.sendX8 s r).hi.x8Gateway = s.hi.x8Gateway ∧
    (State.sendX8 s r).hi.x8New = s.hi.x8New := by
  simp [State.sendX8]

theorem State.deliver_hi_frame (s : State) (r : Response) :
    (State.deliver s r).hi.state = s.hi.state ∧ (State.deliver s r).hi.m2 = s.hi.m2 ∧
    (State.deliver s r).hi.unstableCount = s.hi.unstableCount ∧ (State.deliver s r).hi.eventMg = s.hi.eventMg ∧
    (State.deliver s r).hi.eventCl = s.hi.eventCl ∧ (State.deliver s r).hi.downMg = s.hi.downMg ∧
    (State.deliver s r).hi.downCl = s.hi.downCl ∧ (State.deliver s r).hi.stale = s.hi.stale ∧
    (State.deliver s r).hi.unstable = s.hi.unstable ∧ (State.deliver s r).hi.scratch = s.hi.scratch ∧
    (State.deliver s r).hi.busy = s.hi.busy ∧ (State.deliver s r).hi.head = s.hi.head ∧
    (State.deliver s r).hi.tail = s.hi.tail ∧ (State.deliver s r).hi.irqMask = s.hi.irqMask ∧
    (State.deliver s r).hi.vectors = s.hi.vectors ∧ (State.deliver s r).hi.readData = s.hi.readData ∧
    (State.deliver s r).hi.noteSeq = s.hi.noteSeq ∧ (State.deliver s r).hi.heldNotes = s.hi.heldNotes ∧
    (State.deliver s r).hi.lostNotes = s.hi.lostNotes ∧ (State.deliver s r).hi.unread = s.hi.unread ∧
    (State.deliver s r).hi.subscribed = s.hi.subscribed ∧ (State.deliver s r).hi.x8Subscribed = s.hi.x8Subscribed ∧
    (State.deliver s r).hi.x8Dest = s.hi.x8Dest ∧ (State.deliver s r).hi.x8Last = s.hi.x8Last ∧
    (State.deliver s r).hi.x8Seq = s.hi.x8Seq ∧ (State.deliver s r).hi.x8Unsent = s.hi.x8Unsent ∧
    (State.deliver s r).hi.x8Short = s.hi.x8Short ∧ (State.deliver s r).hi.x8Address = s.hi.x8Address ∧
    (State.deliver s r).hi.x8Plen = s.hi.x8Plen ∧ (State.deliver s r).hi.x8Gateway = s.hi.x8Gateway ∧
    (State.deliver s r).hi.x8New = s.hi.x8New := by
  unfold State.deliver; (repeat' split) <;> simp [State.writeResponse_hi_frame _ _, State.sendX8_hi_frame _ _]

theorem State.deliver_mg_frame (s : State) (r : Response) :
    (State.deliver s r).mg.alive = s.mg.alive ∧ (State.deliver s r).mg.arrival = s.mg.arrival ∧
    (State.deliver s r).mg.queue = s.mg.queue ∧ (State.deliver s r).mg.sessions = s.mg.sessions ∧
    (State.deliver s r).mg.usedIds = s.mg.usedIds := by
  unfold State.deliver; (repeat' split) <;> simp [State.writeResponse_frame _ _, State.sendX8_frame _ _]

theorem State.answer_hi_frame (s : State) (opcode : ℕ) (q : Req) (st : Status) (p0 : optParam ℕ 0) (p1 :
    optParam ℕ 0) (data : optParam (List Byte) []) :
    (State.answer s opcode q st p0 p1 data).hi.state = s.hi.state ∧
    (State.answer s opcode q st p0 p1 data).hi.m2 = s.hi.m2 ∧
    (State.answer s opcode q st p0 p1 data).hi.unstableCount = s.hi.unstableCount ∧
    (State.answer s opcode q st p0 p1 data).hi.eventMg = s.hi.eventMg ∧
    (State.answer s opcode q st p0 p1 data).hi.eventCl = s.hi.eventCl ∧
    (State.answer s opcode q st p0 p1 data).hi.downMg = s.hi.downMg ∧
    (State.answer s opcode q st p0 p1 data).hi.downCl = s.hi.downCl ∧
    (State.answer s opcode q st p0 p1 data).hi.stale = s.hi.stale ∧
    (State.answer s opcode q st p0 p1 data).hi.unstable = s.hi.unstable ∧
    (State.answer s opcode q st p0 p1 data).hi.scratch = s.hi.scratch ∧
    (State.answer s opcode q st p0 p1 data).hi.busy = s.hi.busy ∧
    (State.answer s opcode q st p0 p1 data).hi.head = s.hi.head ∧
    (State.answer s opcode q st p0 p1 data).hi.tail = s.hi.tail ∧
    (State.answer s opcode q st p0 p1 data).hi.irqMask = s.hi.irqMask ∧
    (State.answer s opcode q st p0 p1 data).hi.vectors = s.hi.vectors ∧
    (State.answer s opcode q st p0 p1 data).hi.readData = s.hi.readData ∧
    (State.answer s opcode q st p0 p1 data).hi.noteSeq = s.hi.noteSeq ∧
    (State.answer s opcode q st p0 p1 data).hi.heldNotes = s.hi.heldNotes ∧
    (State.answer s opcode q st p0 p1 data).hi.lostNotes = s.hi.lostNotes ∧
    (State.answer s opcode q st p0 p1 data).hi.unread = s.hi.unread ∧
    (State.answer s opcode q st p0 p1 data).hi.subscribed = s.hi.subscribed ∧
    (State.answer s opcode q st p0 p1 data).hi.x8Subscribed = s.hi.x8Subscribed ∧
    (State.answer s opcode q st p0 p1 data).hi.x8Dest = s.hi.x8Dest ∧
    (State.answer s opcode q st p0 p1 data).hi.x8Last = s.hi.x8Last ∧
    (State.answer s opcode q st p0 p1 data).hi.x8Seq = s.hi.x8Seq ∧
    (State.answer s opcode q st p0 p1 data).hi.x8Unsent = s.hi.x8Unsent ∧
    (State.answer s opcode q st p0 p1 data).hi.x8Short = s.hi.x8Short ∧
    (State.answer s opcode q st p0 p1 data).hi.x8Address = s.hi.x8Address ∧
    (State.answer s opcode q st p0 p1 data).hi.x8Plen = s.hi.x8Plen ∧
    (State.answer s opcode q st p0 p1 data).hi.x8Gateway = s.hi.x8Gateway ∧
    (State.answer s opcode q st p0 p1 data).hi.x8New = s.hi.x8New := by
  simp [State.answer, State.deliver_hi_frame _ _]

theorem State.answer_mg_frame (s : State) (opcode : ℕ) (q : Req) (st : Status) (p0 : optParam ℕ 0) (p1 :
    optParam ℕ 0) (data : optParam (List Byte) []) :
    (State.answer s opcode q st p0 p1 data).mg.alive = s.mg.alive ∧
    (State.answer s opcode q st p0 p1 data).mg.arrival = s.mg.arrival ∧
    (State.answer s opcode q st p0 p1 data).mg.queue = s.mg.queue ∧
    (State.answer s opcode q st p0 p1 data).mg.sessions = s.mg.sessions ∧
    (State.answer s opcode q st p0 p1 data).mg.usedIds = s.mg.usedIds := by
  simp [State.answer, State.deliver_mg_frame _ _]

theorem State.complete_bench_frame (s : State) (opcode : ℕ) (q : Req) (st : Status) (p0 : optParam ℕ 0) (p1
    : optParam ℕ 0) (data : optParam (List Byte) []) :
    (State.complete s opcode q st p0 p1 data).bench.cycle = s.bench.cycle ∧
    (State.complete s opcode q st p0 p1 data).bench.nextCycle = s.bench.nextCycle ∧
    (State.complete s opcode q st p0 p1 data).bench.lastO = s.bench.lastO ∧
    (State.complete s opcode q st p0 p1 data).bench.freezeUs = s.bench.freezeUs ∧
    (State.complete s opcode q st p0 p1 data).bench.nextFreezeUs = s.bench.nextFreezeUs ∧
    (State.complete s opcode q st p0 p1 data).bench.frozen = s.bench.frozen ∧
    (State.complete s opcode q st p0 p1 data).bench.evaluated = s.bench.evaluated ∧
    (State.complete s opcode q st p0 p1 data).bench.first = s.bench.first ∧
    (State.complete s opcode q st p0 p1 data).bench.requests = s.bench.requests ∧
    (State.complete s opcode q st p0 p1 data).bench.overran = s.bench.overran ∧
    (State.complete s opcode q st p0 p1 data).bench.discard = s.bench.discard ∧
    (State.complete s opcode q st p0 p1 data).bench.noCode = s.bench.noCode ∧
    (State.complete s opcode q st p0 p1 data).bench.constants = s.bench.constants ∧
    (State.complete s opcode q st p0 p1 data).bench.newConstants = s.bench.newConstants ∧
    (State.complete s opcode q st p0 p1 data).bench.forces = s.bench.forces ∧
    (State.complete s opcode q st p0 p1 data).bench.newForces = s.bench.newForces ∧
    (State.complete s opcode q st p0 p1 data).bench.forcedShown = s.bench.forcedShown ∧
    (State.complete s opcode q st p0 p1 data).bench.reminderUs = s.bench.reminderUs ∧
    (State.complete s opcode q st p0 p1 data).bench.notes = s.bench.notes ∧
    (State.complete s opcode q st p0 p1 data).bench.challenge = s.bench.challenge ∧
    (State.complete s opcode q st p0 p1 data).bench.codes = s.bench.codes ∧
    (State.complete s opcode q st p0 p1 data).bench.stopping = s.bench.stopping := by
  unfold State.complete; (repeat' split) <;> simp [State.deliver_frame _ _]

theorem State.complete_hi_frame (s : State) (opcode : ℕ) (q : Req) (st : Status) (p0 : optParam ℕ 0) (p1 :
    optParam ℕ 0) (data : optParam (List Byte) []) :
    (State.complete s opcode q st p0 p1 data).hi.state = s.hi.state ∧
    (State.complete s opcode q st p0 p1 data).hi.m2 = s.hi.m2 ∧
    (State.complete s opcode q st p0 p1 data).hi.unstableCount = s.hi.unstableCount ∧
    (State.complete s opcode q st p0 p1 data).hi.eventMg = s.hi.eventMg ∧
    (State.complete s opcode q st p0 p1 data).hi.eventCl = s.hi.eventCl ∧
    (State.complete s opcode q st p0 p1 data).hi.downMg = s.hi.downMg ∧
    (State.complete s opcode q st p0 p1 data).hi.downCl = s.hi.downCl ∧
    (State.complete s opcode q st p0 p1 data).hi.stale = s.hi.stale ∧
    (State.complete s opcode q st p0 p1 data).hi.unstable = s.hi.unstable ∧
    (State.complete s opcode q st p0 p1 data).hi.scratch = s.hi.scratch ∧
    (State.complete s opcode q st p0 p1 data).hi.busy = s.hi.busy ∧
    (State.complete s opcode q st p0 p1 data).hi.head = s.hi.head ∧
    (State.complete s opcode q st p0 p1 data).hi.tail = s.hi.tail ∧
    (State.complete s opcode q st p0 p1 data).hi.irqMask = s.hi.irqMask ∧
    (State.complete s opcode q st p0 p1 data).hi.vectors = s.hi.vectors ∧
    (State.complete s opcode q st p0 p1 data).hi.readData = s.hi.readData ∧
    (State.complete s opcode q st p0 p1 data).hi.noteSeq = s.hi.noteSeq ∧
    (State.complete s opcode q st p0 p1 data).hi.heldNotes = s.hi.heldNotes ∧
    (State.complete s opcode q st p0 p1 data).hi.lostNotes = s.hi.lostNotes ∧
    (State.complete s opcode q st p0 p1 data).hi.unread = s.hi.unread ∧
    (State.complete s opcode q st p0 p1 data).hi.subscribed = s.hi.subscribed ∧
    (State.complete s opcode q st p0 p1 data).hi.x8Subscribed = s.hi.x8Subscribed ∧
    (State.complete s opcode q st p0 p1 data).hi.x8Dest = s.hi.x8Dest ∧
    (State.complete s opcode q st p0 p1 data).hi.x8Last = s.hi.x8Last ∧
    (State.complete s opcode q st p0 p1 data).hi.x8Seq = s.hi.x8Seq ∧
    (State.complete s opcode q st p0 p1 data).hi.x8Unsent = s.hi.x8Unsent ∧
    (State.complete s opcode q st p0 p1 data).hi.x8Short = s.hi.x8Short ∧
    (State.complete s opcode q st p0 p1 data).hi.x8Address = s.hi.x8Address ∧
    (State.complete s opcode q st p0 p1 data).hi.x8Plen = s.hi.x8Plen ∧
    (State.complete s opcode q st p0 p1 data).hi.x8Gateway = s.hi.x8Gateway ∧
    (State.complete s opcode q st p0 p1 data).hi.x8New = s.hi.x8New := by
  unfold State.complete; (repeat' split) <;> simp [State.deliver_hi_frame _ _]

theorem State.complete_mg_frame (s : State) (opcode : ℕ) (q : Req) (st : Status) (p0 : optParam ℕ 0) (p1 :
    optParam ℕ 0) (data : optParam (List Byte) []) :
    (State.complete s opcode q st p0 p1 data).mg.alive = s.mg.alive ∧
    (State.complete s opcode q st p0 p1 data).mg.arrival = s.mg.arrival ∧
    (State.complete s opcode q st p0 p1 data).mg.queue = s.mg.queue ∧
    (State.complete s opcode q st p0 p1 data).mg.sessions = s.mg.sessions ∧
    (State.complete s opcode q st p0 p1 data).mg.usedIds = s.mg.usedIds := by
  unfold State.complete; (repeat' split) <;> simp [State.deliver_mg_frame _ _]

theorem State.logChange_recorder_frame (s : State) (e : LogEntry) :
    (State.logChange s e).recorder.ring = s.recorder.ring ∧ (State.logChange s e).recorder.next = s.recorder.next ∧
    (State.logChange s e).recorder.capacity = s.recorder.capacity ∧
    (State.logChange s e).recorder.badBlocks = s.recorder.badBlocks ∧
    (State.logChange s e).recorder.buckets = s.recorder.buckets ∧
    (State.logChange s e).recorder.rates = s.recorder.rates ∧
    (State.logChange s e).recorder.frozenUntil = s.recorder.frozenUntil ∧
    (State.logChange s e).recorder.staging = s.recorder.staging ∧
    (State.logChange s e).recorder.lost = s.recorder.lost ∧
    (State.logChange s e).recorder.firstLost = s.recorder.firstLost := by
  simp only [State.logChange]; (repeat' split) <;> simp [State.event_recorder_frame _ _ _ _ _ _ _ _]

theorem State.forceEnded_bench_frame (s : State) (f : Force) (cause : ℕ) :
    (State.forceEnded s f cause).bench.cycle = s.bench.cycle ∧
    (State.forceEnded s f cause).bench.nextCycle = s.bench.nextCycle ∧
    (State.forceEnded s f cause).bench.lastO = s.bench.lastO ∧
    (State.forceEnded s f cause).bench.freezeUs = s.bench.freezeUs ∧
    (State.forceEnded s f cause).bench.nextFreezeUs = s.bench.nextFreezeUs ∧
    (State.forceEnded s f cause).bench.frozen = s.bench.frozen ∧
    (State.forceEnded s f cause).bench.evaluated = s.bench.evaluated ∧
    (State.forceEnded s f cause).bench.first = s.bench.first ∧
    (State.forceEnded s f cause).bench.requests = s.bench.requests ∧
    (State.forceEnded s f cause).bench.overran = s.bench.overran ∧
    (State.forceEnded s f cause).bench.discard = s.bench.discard ∧
    (State.forceEnded s f cause).bench.noCode = s.bench.noCode ∧
    (State.forceEnded s f cause).bench.constants = s.bench.constants ∧
    (State.forceEnded s f cause).bench.newConstants = s.bench.newConstants ∧
    (State.forceEnded s f cause).bench.forces = s.bench.forces ∧
    (State.forceEnded s f cause).bench.newForces = s.bench.newForces ∧
    (State.forceEnded s f cause).bench.forcedShown = s.bench.forcedShown ∧
    (State.forceEnded s f cause).bench.reminderUs = s.bench.reminderUs ∧
    (State.forceEnded s f cause).bench.completions = s.bench.completions ∧
    (State.forceEnded s f cause).bench.challenge = s.bench.challenge ∧
    (State.forceEnded s f cause).bench.codes = s.bench.codes ∧
    (State.forceEnded s f cause).bench.stopping = s.bench.stopping := by
  simp [State.forceEnded, State.noteCluster_bench_frame _ _ _, State.event_frame _ _ _ _ _ _ _ _]

theorem State.forceEnded_hi_frame (s : State) (f : Force) (cause : ℕ) :
    (State.forceEnded s f cause).hi.state = s.hi.state ∧ (State.forceEnded s f cause).hi.m2 = s.hi.m2 ∧
    (State.forceEnded s f cause).hi.unstableCount = s.hi.unstableCount ∧
    (State.forceEnded s f cause).hi.eventMg = s.hi.eventMg ∧ (State.forceEnded s f cause).hi.eventCl = s.hi.eventCl
    ∧ (State.forceEnded s f cause).hi.downMg = s.hi.downMg ∧ (State.forceEnded s f cause).hi.downCl = s.hi.downCl ∧
    (State.forceEnded s f cause).hi.stale = s.hi.stale ∧ (State.forceEnded s f cause).hi.unstable = s.hi.unstable ∧
    (State.forceEnded s f cause).hi.scratch = s.hi.scratch ∧ (State.forceEnded s f cause).hi.done = s.hi.done ∧
    (State.forceEnded s f cause).hi.busy = s.hi.busy ∧ (State.forceEnded s f cause).hi.tail = s.hi.tail ∧
    (State.forceEnded s f cause).hi.irqMask = s.hi.irqMask ∧ (State.forceEnded s f cause).hi.vectors = s.hi.vectors
    ∧ (State.forceEnded s f cause).hi.readData = s.hi.readData ∧
    (State.forceEnded s f cause).hi.unread = s.hi.unread ∧ (State.forceEnded s f cause).hi.heldDone = s.hi.heldDone
    ∧ (State.forceEnded s f cause).hi.subscribed = s.hi.subscribed ∧
    (State.forceEnded s f cause).hi.x8Subscribed = s.hi.x8Subscribed ∧
    (State.forceEnded s f cause).hi.x8Dest = s.hi.x8Dest ∧ (State.forceEnded s f cause).hi.x8Last = s.hi.x8Last ∧
    (State.forceEnded s f cause).hi.x8Short = s.hi.x8Short ∧ (State.forceEnded s f cause).hi.x8 = s.hi.x8 ∧
    (State.forceEnded s f cause).hi.x8Address = s.hi.x8Address ∧
    (State.forceEnded s f cause).hi.x8Plen = s.hi.x8Plen ∧
    (State.forceEnded s f cause).hi.x8Gateway = s.hi.x8Gateway ∧ (State.forceEnded s f cause).hi.x8New = s.hi.x8New := by
  simp [State.forceEnded, State.noteCluster_hi_frame _ _ _, State.event_frame _ _ _ _ _ _ _ _]

theorem State.forceEnded_recorder_frame (s : State) (f : Force) (cause : ℕ) :
    (State.forceEnded s f cause).recorder.ring = s.recorder.ring ∧
    (State.forceEnded s f cause).recorder.next = s.recorder.next ∧
    (State.forceEnded s f cause).recorder.capacity = s.recorder.capacity ∧
    (State.forceEnded s f cause).recorder.badBlocks = s.recorder.badBlocks ∧
    (State.forceEnded s f cause).recorder.buckets = s.recorder.buckets ∧
    (State.forceEnded s f cause).recorder.rates = s.recorder.rates ∧
    (State.forceEnded s f cause).recorder.frozenUntil = s.recorder.frozenUntil ∧
    (State.forceEnded s f cause).recorder.staging = s.recorder.staging ∧
    (State.forceEnded s f cause).recorder.lost = s.recorder.lost ∧
    (State.forceEnded s f cause).recorder.firstLost = s.recorder.firstLost := by
  simp [State.forceEnded, State.noteCluster_frame _ _ _, State.event_recorder_frame _ _ _ _ _ _ _ _]

theorem State.clearForces_bench_frame (s : State) (cause : ℕ) :
    (State.clearForces s cause).bench.cycle = s.bench.cycle ∧
    (State.clearForces s cause).bench.nextCycle = s.bench.nextCycle ∧
    (State.clearForces s cause).bench.lastO = s.bench.lastO ∧
    (State.clearForces s cause).bench.freezeUs = s.bench.freezeUs ∧
    (State.clearForces s cause).bench.nextFreezeUs = s.bench.nextFreezeUs ∧
    (State.clearForces s cause).bench.frozen = s.bench.frozen ∧
    (State.clearForces s cause).bench.evaluated = s.bench.evaluated ∧
    (State.clearForces s cause).bench.first = s.bench.first ∧
    (State.clearForces s cause).bench.requests = s.bench.requests ∧
    (State.clearForces s cause).bench.overran = s.bench.overran ∧
    (State.clearForces s cause).bench.discard = s.bench.discard ∧
    (State.clearForces s cause).bench.noCode = s.bench.noCode ∧
    (State.clearForces s cause).bench.constants = s.bench.constants ∧
    (State.clearForces s cause).bench.newConstants = s.bench.newConstants ∧
    (State.clearForces s cause).bench.reminderUs = s.bench.reminderUs ∧
    (State.clearForces s cause).bench.completions = s.bench.completions ∧
    (State.clearForces s cause).bench.challenge = s.bench.challenge ∧
    (State.clearForces s cause).bench.codes = s.bench.codes ∧
    (State.clearForces s cause).bench.stopping = s.bench.stopping := by
  simp [State.clearForces, State.forceEnded_frame _ _ _, State.forceEnded_bench_frame _ _ _]

theorem State.clearForces_hi_frame (s : State) (cause : ℕ) :
    (State.clearForces s cause).hi.state = s.hi.state ∧ (State.clearForces s cause).hi.m2 = s.hi.m2 ∧
    (State.clearForces s cause).hi.unstableCount = s.hi.unstableCount ∧
    (State.clearForces s cause).hi.eventMg = s.hi.eventMg ∧ (State.clearForces s cause).hi.eventCl = s.hi.eventCl ∧
    (State.clearForces s cause).hi.downMg = s.hi.downMg ∧ (State.clearForces s cause).hi.downCl = s.hi.downCl ∧
    (State.clearForces s cause).hi.stale = s.hi.stale ∧ (State.clearForces s cause).hi.unstable = s.hi.unstable ∧
    (State.clearForces s cause).hi.scratch = s.hi.scratch ∧ (State.clearForces s cause).hi.done = s.hi.done ∧
    (State.clearForces s cause).hi.busy = s.hi.busy ∧ (State.clearForces s cause).hi.tail = s.hi.tail ∧
    (State.clearForces s cause).hi.irqMask = s.hi.irqMask ∧ (State.clearForces s cause).hi.vectors = s.hi.vectors ∧
    (State.clearForces s cause).hi.readData = s.hi.readData ∧ (State.clearForces s cause).hi.unread = s.hi.unread ∧
    (State.clearForces s cause).hi.heldDone = s.hi.heldDone ∧
    (State.clearForces s cause).hi.subscribed = s.hi.subscribed ∧
    (State.clearForces s cause).hi.x8Subscribed = s.hi.x8Subscribed ∧
    (State.clearForces s cause).hi.x8Dest = s.hi.x8Dest ∧ (State.clearForces s cause).hi.x8Last = s.hi.x8Last ∧
    (State.clearForces s cause).hi.x8Short = s.hi.x8Short ∧ (State.clearForces s cause).hi.x8 = s.hi.x8 ∧
    (State.clearForces s cause).hi.x8Address = s.hi.x8Address ∧ (State.clearForces s cause).hi.x8Plen = s.hi.x8Plen
    ∧ (State.clearForces s cause).hi.x8Gateway = s.hi.x8Gateway ∧ (State.clearForces s cause).hi.x8New = s.hi.x8New := by
  simp [State.clearForces, State.forceEnded_frame _ _ _, State.forceEnded_bench_frame _ _ _,
        State.forceEnded_hi_frame _ _ _]

theorem State.clearForces_recorder_frame (s : State) (cause : ℕ) :
    (State.clearForces s cause).recorder.ring = s.recorder.ring ∧
    (State.clearForces s cause).recorder.next = s.recorder.next ∧
    (State.clearForces s cause).recorder.capacity = s.recorder.capacity ∧
    (State.clearForces s cause).recorder.badBlocks = s.recorder.badBlocks ∧
    (State.clearForces s cause).recorder.buckets = s.recorder.buckets ∧
    (State.clearForces s cause).recorder.rates = s.recorder.rates ∧
    (State.clearForces s cause).recorder.frozenUntil = s.recorder.frozenUntil ∧
    (State.clearForces s cause).recorder.staging = s.recorder.staging ∧
    (State.clearForces s cause).recorder.lost = s.recorder.lost ∧
    (State.clearForces s cause).recorder.firstLost = s.recorder.firstLost := by
  simp [State.clearForces, State.forceEnded_frame _ _ _, State.forceEnded_bench_frame _ _ _,
        State.forceEnded_recorder_frame _ _ _]

theorem State.voidPrepare_bench_frame (s : State) (p : Prepare) (reason : ℕ) :
    (State.voidPrepare s p reason).bench.cycle = s.bench.cycle ∧
    (State.voidPrepare s p reason).bench.nextCycle = s.bench.nextCycle ∧
    (State.voidPrepare s p reason).bench.lastO = s.bench.lastO ∧
    (State.voidPrepare s p reason).bench.freezeUs = s.bench.freezeUs ∧
    (State.voidPrepare s p reason).bench.nextFreezeUs = s.bench.nextFreezeUs ∧
    (State.voidPrepare s p reason).bench.frozen = s.bench.frozen ∧
    (State.voidPrepare s p reason).bench.evaluated = s.bench.evaluated ∧
    (State.voidPrepare s p reason).bench.first = s.bench.first ∧
    (State.voidPrepare s p reason).bench.requests = s.bench.requests ∧
    (State.voidPrepare s p reason).bench.overran = s.bench.overran ∧
    (State.voidPrepare s p reason).bench.discard = s.bench.discard ∧
    (State.voidPrepare s p reason).bench.noCode = s.bench.noCode ∧
    (State.voidPrepare s p reason).bench.constants = s.bench.constants ∧
    (State.voidPrepare s p reason).bench.newConstants = s.bench.newConstants ∧
    (State.voidPrepare s p reason).bench.forces = s.bench.forces ∧
    (State.voidPrepare s p reason).bench.newForces = s.bench.newForces ∧
    (State.voidPrepare s p reason).bench.forcedShown = s.bench.forcedShown ∧
    (State.voidPrepare s p reason).bench.reminderUs = s.bench.reminderUs ∧
    (State.voidPrepare s p reason).bench.completions = s.bench.completions ∧
    (State.voidPrepare s p reason).bench.challenge = s.bench.challenge ∧
    (State.voidPrepare s p reason).bench.codes = s.bench.codes ∧
    (State.voidPrepare s p reason).bench.stopping = s.bench.stopping := by
  simp [State.voidPrepare, State.noteCluster_bench_frame _ _ _]

theorem State.voidPrepare_hi_frame (s : State) (p : Prepare) (reason : ℕ) :
    (State.voidPrepare s p reason).hi.state = s.hi.state ∧ (State.voidPrepare s p reason).hi.m2 = s.hi.m2 ∧
    (State.voidPrepare s p reason).hi.unstableCount = s.hi.unstableCount ∧
    (State.voidPrepare s p reason).hi.eventMg = s.hi.eventMg ∧
    (State.voidPrepare s p reason).hi.eventCl = s.hi.eventCl ∧
    (State.voidPrepare s p reason).hi.downMg = s.hi.downMg ∧ (State.voidPrepare s p reason).hi.downCl = s.hi.downCl
    ∧ (State.voidPrepare s p reason).hi.stale = s.hi.stale ∧
    (State.voidPrepare s p reason).hi.unstable = s.hi.unstable ∧
    (State.voidPrepare s p reason).hi.scratch = s.hi.scratch ∧ (State.voidPrepare s p reason).hi.done = s.hi.done ∧
    (State.voidPrepare s p reason).hi.busy = s.hi.busy ∧ (State.voidPrepare s p reason).hi.tail = s.hi.tail ∧
    (State.voidPrepare s p reason).hi.irqMask = s.hi.irqMask ∧
    (State.voidPrepare s p reason).hi.vectors = s.hi.vectors ∧
    (State.voidPrepare s p reason).hi.readData = s.hi.readData ∧
    (State.voidPrepare s p reason).hi.unread = s.hi.unread ∧
    (State.voidPrepare s p reason).hi.heldDone = s.hi.heldDone ∧
    (State.voidPrepare s p reason).hi.subscribed = s.hi.subscribed ∧
    (State.voidPrepare s p reason).hi.x8Subscribed = s.hi.x8Subscribed ∧
    (State.voidPrepare s p reason).hi.x8Dest = s.hi.x8Dest ∧ (State.voidPrepare s p reason).hi.x8Last = s.hi.x8Last
    ∧ (State.voidPrepare s p reason).hi.x8Short = s.hi.x8Short ∧ (State.voidPrepare s p reason).hi.x8 = s.hi.x8 ∧
    (State.voidPrepare s p reason).hi.x8Address = s.hi.x8Address ∧
    (State.voidPrepare s p reason).hi.x8Plen = s.hi.x8Plen ∧
    (State.voidPrepare s p reason).hi.x8Gateway = s.hi.x8Gateway ∧
    (State.voidPrepare s p reason).hi.x8New = s.hi.x8New := by
  simp [State.voidPrepare, State.noteCluster_hi_frame _ _ _]

theorem State.takeBack_bench_frame (s : State) :
    (State.takeBack s).bench.cycle = s.bench.cycle ∧ (State.takeBack s).bench.nextCycle = s.bench.nextCycle ∧
    (State.takeBack s).bench.lastO = s.bench.lastO ∧ (State.takeBack s).bench.freezeUs = s.bench.freezeUs ∧
    (State.takeBack s).bench.nextFreezeUs = s.bench.nextFreezeUs ∧ (State.takeBack s).bench.frozen = s.bench.frozen ∧
    (State.takeBack s).bench.evaluated = s.bench.evaluated ∧ (State.takeBack s).bench.housekept = s.bench.housekept ∧
    (State.takeBack s).bench.first = s.bench.first ∧ (State.takeBack s).bench.requests = s.bench.requests ∧
    (State.takeBack s).bench.overran = s.bench.overran ∧ (State.takeBack s).bench.discard = s.bench.discard ∧
    (State.takeBack s).bench.noCode = s.bench.noCode ∧ (State.takeBack s).bench.constants = s.bench.constants ∧
    (State.takeBack s).bench.newConstants = s.bench.newConstants ∧ (State.takeBack s).bench.forces = s.bench.forces ∧
    (State.takeBack s).bench.newForces = s.bench.newForces ∧ (State.takeBack s).bench.forcedShown =
    s.bench.forcedShown ∧ (State.takeBack s).bench.reminderUs = s.bench.reminderUs ∧ (State.takeBack
    s).bench.completions = s.bench.completions ∧ (State.takeBack s).bench.notes = s.bench.notes ∧ (State.takeBack
    s).bench.challenge = s.bench.challenge ∧ (State.takeBack s).bench.codes = s.bench.codes ∧ (State.takeBack
    s).bench.stopping = s.bench.stopping ∧ (State.takeBack s).bench.newLog = s.bench.newLog := by
  unfold State.takeBack; split <;> simp

theorem State.takeBack_mg_frame (s : State) :
    (State.takeBack s).mg.alive = s.mg.alive ∧ (State.takeBack s).mg.arrival = s.mg.arrival ∧ (State.takeBack
    s).mg.queue = s.mg.queue ∧ (State.takeBack s).mg.outstanding = s.mg.outstanding ∧ (State.takeBack s).mg.voided =
    s.mg.voided ∧ (State.takeBack s).mg.heartbeats = s.mg.heartbeats ∧ (State.takeBack s).mg.usedIds = s.mg.usedIds
    := by
  unfold State.takeBack; split <;> simp

theorem State.takeBack_sec_frame (s : State) :
    (State.takeBack s).sec.lcP = s.sec.lcP ∧ (State.takeBack s).sec.lcC = s.sec.lcC ∧ (State.takeBack s).sec.lcO =
    s.sec.lcO ∧ (State.takeBack s).sec.lcR = s.sec.lcR ∧ (State.takeBack s).sec.mode = s.sec.mode ∧ (State.takeBack
    s).sec.advance = s.sec.advance ∧ (State.takeBack s).sec.keyId = s.sec.keyId ∧ (State.takeBack s).sec.key =
    s.sec.key ∧ (State.takeBack s).sec.maintainer = s.sec.maintainer ∧ (State.takeBack s).sec.authority =
    s.sec.authority ∧ (State.takeBack s).sec.debug = s.sec.debug ∧ (State.takeBack s).sec.sealPat = s.sec.sealPat
    := by
  unfold State.takeBack; split <;> simp

theorem State.discardWork_bench_frame (s : State) (keep : optParam (Option Req) Option.none) :
    (State.discardWork s keep).bench.cycle = s.bench.cycle ∧
    (State.discardWork s keep).bench.nextCycle = s.bench.nextCycle ∧
    (State.discardWork s keep).bench.lastO = s.bench.lastO ∧
    (State.discardWork s keep).bench.freezeUs = s.bench.freezeUs ∧
    (State.discardWork s keep).bench.nextFreezeUs = s.bench.nextFreezeUs ∧
    (State.discardWork s keep).bench.first = s.bench.first ∧
    (State.discardWork s keep).bench.overran = s.bench.overran ∧
    (State.discardWork s keep).bench.noCode = s.bench.noCode ∧
    (State.discardWork s keep).bench.challenge = s.bench.challenge ∧
    (State.discardWork s keep).bench.codes = s.bench.codes := by
  simp [State.discardWork, State.takeBack_frame _, State.takeBack_bench_frame _, State.voidPrepare_frame _ _ _, State.voidPrepare_bench_frame _ _ _, State.deliver_frame _ _]

theorem State.discardWork_field_frame (s : State) (keep : optParam (Option Req) Option.none) :
    (State.discardWork s keep).field.inputs = s.field.inputs ∧
    (State.discardWork s keep).field.sources = s.field.sources ∧
    (State.discardWork s keep).field.outputs = s.field.outputs ∧
    (State.discardWork s keep).field.groups = s.field.groups ∧
    (State.discardWork s keep).field.gridUs = s.field.gridUs ∧ (State.discardWork s keep).field.fsSeq = s.field.fsSeq
    ∧ (State.discardWork s keep).field.flSeq = s.field.flSeq ∧
    (State.discardWork s keep).field.fsSent = s.field.fsSent ∧
    (State.discardWork s keep).field.flSent = s.field.flSent ∧
    (State.discardWork s keep).field.fsMissed = s.field.fsMissed ∧
    (State.discardWork s keep).field.flMissed = s.field.flMissed ∧
    (State.discardWork s keep).field.missed = s.field.missed ∧
    (State.discardWork s keep).field.missedFs = s.field.missedFs ∧
    (State.discardWork s keep).field.missedFl = s.field.missedFl ∧
    (State.discardWork s keep).field.fsMost = s.field.fsMost ∧
    (State.discardWork s keep).field.flMost = s.field.flMost ∧
    (State.discardWork s keep).field.reports = s.field.reports ∧
    (State.discardWork s keep).field.edgeLog = s.field.edgeLog ∧
    (State.discardWork s keep).field.fsEpoch = s.field.fsEpoch ∧
    (State.discardWork s keep).field.coreEpoch = s.field.coreEpoch ∧
    (State.discardWork s keep).field.coreEdges = s.field.coreEdges ∧
    (State.discardWork s keep).field.frames = s.field.frames ∧
    (State.discardWork s keep).field.ashSeq = s.field.ashSeq ∧
    (State.discardWork s keep).field.ashSent = s.field.ashSent ∧
    (State.discardWork s keep).field.ashMissed = s.field.ashMissed ∧
    (State.discardWork s keep).field.imageSwitches = s.field.imageSwitches ∧
    (State.discardWork s keep).field.linkLost = s.field.linkLost ∧
    (State.discardWork s keep).field.config = s.field.config ∧
    (State.discardWork s keep).field.configCrc = s.field.configCrc ∧
    (State.discardWork s keep).field.collect = s.field.collect ∧
    (State.discardWork s keep).field.lastSetCrc = s.field.lastSetCrc ∧
    (State.discardWork s keep).field.segment = s.field.segment ∧
    (State.discardWork s keep).field.values = s.field.values ∧ (State.discardWork s keep).field.valid = s.field.valid
    ∧ (State.discardWork s keep).field.stale = s.field.stale ∧
    (State.discardWork s keep).field.arrivalUs = s.field.arrivalUs ∧
    (State.discardWork s keep).field.crcSeen = s.field.crcSeen ∧
    (State.discardWork s keep).field.crcGood = s.field.crcGood ∧
    (State.discardWork s keep).field.imageOutputs = s.field.imageOutputs ∧
    (State.discardWork s keep).field.imageGroups = s.field.imageGroups ∧
    (State.discardWork s keep).field.prior = s.field.prior := by
  simp [State.discardWork, State.takeBack_frame _, State.voidPrepare_frame _ _ _, State.voidPrepare_bench_frame _ _ _, State.deliver_frame _ _]

theorem State.discardWork_hi_frame (s : State) (keep : optParam (Option Req) Option.none) :
    (State.discardWork s keep).hi.state = s.hi.state ∧ (State.discardWork s keep).hi.m2 = s.hi.m2 ∧
    (State.discardWork s keep).hi.unstableCount = s.hi.unstableCount ∧
    (State.discardWork s keep).hi.eventMg = s.hi.eventMg ∧ (State.discardWork s keep).hi.eventCl = s.hi.eventCl ∧
    (State.discardWork s keep).hi.downMg = s.hi.downMg ∧ (State.discardWork s keep).hi.downCl = s.hi.downCl ∧
    (State.discardWork s keep).hi.stale = s.hi.stale ∧ (State.discardWork s keep).hi.unstable = s.hi.unstable ∧
    (State.discardWork s keep).hi.scratch = s.hi.scratch ∧ (State.discardWork s keep).hi.busy = s.hi.busy ∧
    (State.discardWork s keep).hi.tail = s.hi.tail ∧ (State.discardWork s keep).hi.irqMask = s.hi.irqMask ∧
    (State.discardWork s keep).hi.vectors = s.hi.vectors ∧ (State.discardWork s keep).hi.readData = s.hi.readData ∧
    (State.discardWork s keep).hi.unread = s.hi.unread ∧ (State.discardWork s keep).hi.subscribed = s.hi.subscribed ∧
    (State.discardWork s keep).hi.x8Subscribed = s.hi.x8Subscribed ∧
    (State.discardWork s keep).hi.x8Dest = s.hi.x8Dest ∧ (State.discardWork s keep).hi.x8Last = s.hi.x8Last ∧
    (State.discardWork s keep).hi.x8Short = s.hi.x8Short ∧ (State.discardWork s keep).hi.x8Address = s.hi.x8Address ∧
    (State.discardWork s keep).hi.x8Plen = s.hi.x8Plen ∧ (State.discardWork s keep).hi.x8Gateway = s.hi.x8Gateway ∧
    (State.discardWork s keep).hi.x8New = s.hi.x8New := by
  simp [State.discardWork, State.takeBack_frame _, State.voidPrepare_frame _ _ _, State.voidPrepare_bench_frame _ _ _,
        State.deliver_hi_frame _ _, State.voidPrepare_hi_frame _ _ _]

theorem State.discardWork_mg_frame (s : State) (keep : optParam (Option Req) Option.none) :
    (State.discardWork s keep).mg.alive = s.mg.alive ∧ (State.discardWork s keep).mg.arrival = s.mg.arrival ∧
    (State.discardWork s keep).mg.usedIds = s.mg.usedIds := by
  simp [State.discardWork, State.takeBack_frame _, State.takeBack_mg_frame _, State.voidPrepare_frame _ _ _, State.voidPrepare_bench_frame _ _ _,
        State.deliver_mg_frame _ _]

theorem State.flushNotes_bench_frame (s : State) :
    (State.flushNotes s).bench.cycle = s.bench.cycle ∧ (State.flushNotes s).bench.nextCycle = s.bench.nextCycle ∧
    (State.flushNotes s).bench.lastO = s.bench.lastO ∧ (State.flushNotes s).bench.freezeUs = s.bench.freezeUs ∧
    (State.flushNotes s).bench.nextFreezeUs = s.bench.nextFreezeUs ∧
    (State.flushNotes s).bench.frozen = s.bench.frozen ∧ (State.flushNotes s).bench.evaluated = s.bench.evaluated ∧
    (State.flushNotes s).bench.first = s.bench.first ∧ (State.flushNotes s).bench.requests = s.bench.requests ∧
    (State.flushNotes s).bench.overran = s.bench.overran ∧ (State.flushNotes s).bench.discard = s.bench.discard ∧
    (State.flushNotes s).bench.noCode = s.bench.noCode ∧ (State.flushNotes s).bench.constants = s.bench.constants ∧
    (State.flushNotes s).bench.newConstants = s.bench.newConstants ∧
    (State.flushNotes s).bench.forces = s.bench.forces ∧ (State.flushNotes s).bench.newForces = s.bench.newForces ∧
    (State.flushNotes s).bench.forcedShown = s.bench.forcedShown ∧
    (State.flushNotes s).bench.reminderUs = s.bench.reminderUs ∧
    (State.flushNotes s).bench.completions = s.bench.completions ∧
    (State.flushNotes s).bench.challenge = s.bench.challenge ∧ (State.flushNotes s).bench.codes = s.bench.codes ∧
    (State.flushNotes s).bench.stopping = s.bench.stopping := by
  simp [State.flushNotes, State.deliverNote_frame _ _]

theorem State.flushNotes_hi_frame (s : State) :
    (State.flushNotes s).hi.state = s.hi.state ∧ (State.flushNotes s).hi.m2 = s.hi.m2 ∧
    (State.flushNotes s).hi.unstableCount = s.hi.unstableCount ∧ (State.flushNotes s).hi.eventMg = s.hi.eventMg ∧
    (State.flushNotes s).hi.eventCl = s.hi.eventCl ∧ (State.flushNotes s).hi.downMg = s.hi.downMg ∧
    (State.flushNotes s).hi.downCl = s.hi.downCl ∧ (State.flushNotes s).hi.stale = s.hi.stale ∧
    (State.flushNotes s).hi.unstable = s.hi.unstable ∧ (State.flushNotes s).hi.scratch = s.hi.scratch ∧
    (State.flushNotes s).hi.done = s.hi.done ∧ (State.flushNotes s).hi.busy = s.hi.busy ∧
    (State.flushNotes s).hi.tail = s.hi.tail ∧ (State.flushNotes s).hi.irqMask = s.hi.irqMask ∧
    (State.flushNotes s).hi.vectors = s.hi.vectors ∧ (State.flushNotes s).hi.readData = s.hi.readData ∧
    (State.flushNotes s).hi.unread = s.hi.unread ∧ (State.flushNotes s).hi.heldDone = s.hi.heldDone ∧
    (State.flushNotes s).hi.subscribed = s.hi.subscribed ∧ (State.flushNotes s).hi.x8Subscribed = s.hi.x8Subscribed
    ∧ (State.flushNotes s).hi.x8Dest = s.hi.x8Dest ∧ (State.flushNotes s).hi.x8Last = s.hi.x8Last ∧
    (State.flushNotes s).hi.x8Short = s.hi.x8Short ∧ (State.flushNotes s).hi.x8 = s.hi.x8 ∧
    (State.flushNotes s).hi.x8Address = s.hi.x8Address ∧ (State.flushNotes s).hi.x8Plen = s.hi.x8Plen ∧
    (State.flushNotes s).hi.x8Gateway = s.hi.x8Gateway ∧ (State.flushNotes s).hi.x8New = s.hi.x8New := by
  simp [State.flushNotes, State.deliverNote_hi_frame _ _]

theorem State.startRefused_eng_frame (s : State) (reason : ℕ) (param : ℕ) :
    (State.startRefused s reason param).eng.elems = s.eng.elems ∧
    (State.startRefused s reason param).eng.routes = s.eng.routes ∧
    (State.startRefused s reason param).eng.queue = s.eng.queue ∧
    (State.startRefused s reason param).eng.txns = s.eng.txns ∧
    (State.startRefused s reason param).eng.prepares = s.eng.prepares ∧
    (State.startRefused s reason param).eng.holdEnd = s.eng.holdEnd ∧
    (State.startRefused s reason param).eng.heldAreas = s.eng.heldAreas ∧
    (State.startRefused s reason param).eng.lastSeq = s.eng.lastSeq := by
  unfold State.startRefused; refine ⟨State.foldl_eng_elems _ (fun s w => ?_) _ _, State.foldl_eng_routes _ (fun s w => ?_) _ _, State.foldl_eng_queue _ (fun s w => ?_) _ _, State.foldl_eng_txns _ (fun s w => ?_) _ _, State.foldl_eng_prepares _ (fun s w => ?_) _ _, State.foldl_eng_holdEnd _ (fun s w => ?_) _ _, State.foldl_eng_heldAreas _ (fun s w => ?_) _ _, State.foldl_eng_lastSeq _ (fun s w => ?_) _ _⟩ <;> cases w <;> simp [State.deliver_frame _ _]

theorem State.startRefused_hi_frame (s : State) (reason : ℕ) (param : ℕ) :
    (State.startRefused s reason param).hi.state = s.hi.state ∧ (State.startRefused s reason param).hi.m2 = s.hi.m2
    ∧ (State.startRefused s reason param).hi.unstableCount = s.hi.unstableCount ∧
    (State.startRefused s reason param).hi.eventMg = s.hi.eventMg ∧
    (State.startRefused s reason param).hi.eventCl = s.hi.eventCl ∧
    (State.startRefused s reason param).hi.downMg = s.hi.downMg ∧
    (State.startRefused s reason param).hi.downCl = s.hi.downCl ∧
    (State.startRefused s reason param).hi.stale = s.hi.stale ∧
    (State.startRefused s reason param).hi.unstable = s.hi.unstable ∧
    (State.startRefused s reason param).hi.scratch = s.hi.scratch ∧
    (State.startRefused s reason param).hi.busy = s.hi.busy ∧
    (State.startRefused s reason param).hi.head = s.hi.head ∧
    (State.startRefused s reason param).hi.tail = s.hi.tail ∧
    (State.startRefused s reason param).hi.irqMask = s.hi.irqMask ∧
    (State.startRefused s reason param).hi.vectors = s.hi.vectors ∧
    (State.startRefused s reason param).hi.readData = s.hi.readData ∧
    (State.startRefused s reason param).hi.noteSeq = s.hi.noteSeq ∧
    (State.startRefused s reason param).hi.heldNotes = s.hi.heldNotes ∧
    (State.startRefused s reason param).hi.lostNotes = s.hi.lostNotes ∧
    (State.startRefused s reason param).hi.unread = s.hi.unread ∧
    (State.startRefused s reason param).hi.subscribed = s.hi.subscribed ∧
    (State.startRefused s reason param).hi.x8Subscribed = s.hi.x8Subscribed ∧
    (State.startRefused s reason param).hi.x8Dest = s.hi.x8Dest ∧
    (State.startRefused s reason param).hi.x8Last = s.hi.x8Last ∧
    (State.startRefused s reason param).hi.x8Seq = s.hi.x8Seq ∧
    (State.startRefused s reason param).hi.x8Unsent = s.hi.x8Unsent ∧
    (State.startRefused s reason param).hi.x8Short = s.hi.x8Short ∧
    (State.startRefused s reason param).hi.x8Address = s.hi.x8Address ∧
    (State.startRefused s reason param).hi.x8Plen = s.hi.x8Plen ∧
    (State.startRefused s reason param).hi.x8Gateway = s.hi.x8Gateway ∧
    (State.startRefused s reason param).hi.x8New = s.hi.x8New := by
  unfold State.startRefused; refine ⟨State.foldl_hi_state _ (fun s w => ?_) _ _, State.foldl_hi_m2 _ (fun s w => ?_) _ _, State.foldl_hi_unstableCount _ (fun s w => ?_) _ _, State.foldl_hi_eventMg _ (fun s w => ?_) _ _, State.foldl_hi_eventCl _ (fun s w => ?_) _ _, State.foldl_hi_downMg _ (fun s w => ?_) _ _, State.foldl_hi_downCl _ (fun s w => ?_) _ _, State.foldl_hi_stale _ (fun s w => ?_) _ _, State.foldl_hi_unstable _ (fun s w => ?_) _ _, State.foldl_hi_scratch _ (fun s w => ?_) _ _, State.foldl_hi_busy _ (fun s w => ?_) _ _, State.foldl_hi_head _ (fun s w => ?_) _ _, State.foldl_hi_tail _ (fun s w => ?_) _ _, State.foldl_hi_irqMask _ (fun s w => ?_) _ _, State.foldl_hi_vectors _ (fun s w => ?_) _ _, State.foldl_hi_readData _ (fun s w => ?_) _ _, State.foldl_hi_noteSeq _ (fun s w => ?_) _ _, State.foldl_hi_heldNotes _ (fun s w => ?_) _ _, State.foldl_hi_lostNotes _ (fun s w => ?_) _ _, State.foldl_hi_unread _ (fun s w => ?_) _ _, State.foldl_hi_subscribed _ (fun s w => ?_) _ _, State.foldl_hi_x8Subscribed _ (fun s w => ?_) _ _, State.foldl_hi_x8Dest _ (fun s w => ?_) _ _, State.foldl_hi_x8Last _ (fun s w => ?_) _ _, State.foldl_hi_x8Seq _ (fun s w => ?_) _ _, State.foldl_hi_x8Unsent _ (fun s w => ?_) _ _, State.foldl_hi_x8Short _ (fun s w => ?_) _ _, State.foldl_hi_x8Address _ (fun s w => ?_) _ _, State.foldl_hi_x8Plen _ (fun s w => ?_) _ _, State.foldl_hi_x8Gateway _ (fun s w => ?_) _ _, State.foldl_hi_x8New _ (fun s w => ?_) _ _⟩ <;> cases w <;> simp [State.deliver_hi_frame _ _]

theorem State.startRefused_mg_frame (s : State) (reason : ℕ) (param : ℕ) :
    (State.startRefused s reason param).mg.alive = s.mg.alive ∧
    (State.startRefused s reason param).mg.arrival = s.mg.arrival ∧
    (State.startRefused s reason param).mg.queue = s.mg.queue ∧
    (State.startRefused s reason param).mg.sessions = s.mg.sessions ∧
    (State.startRefused s reason param).mg.usedIds = s.mg.usedIds := by
  unfold State.startRefused; refine ⟨State.foldl_mg_alive _ (fun s w => ?_) _ _, State.foldl_mg_arrival _ (fun s w => ?_) _ _, State.foldl_mg_queue _ (fun s w => ?_) _ _, State.foldl_mg_sessions _ (fun s w => ?_) _ _, State.foldl_mg_usedIds _ (fun s w => ?_) _ _⟩ <;> cases w <;> simp [State.deliver_mg_frame _ _]

theorem State.startFailed_eng_frame (s : State) (code : ℕ) :
    (State.startFailed s code).eng.elems = s.eng.elems ∧ (State.startFailed s code).eng.routes = s.eng.routes ∧
    (State.startFailed s code).eng.queue = s.eng.queue ∧ (State.startFailed s code).eng.txns = s.eng.txns ∧
    (State.startFailed s code).eng.prepares = s.eng.prepares ∧
    (State.startFailed s code).eng.holdEnd = s.eng.holdEnd ∧
    (State.startFailed s code).eng.heldAreas = s.eng.heldAreas ∧
    (State.startFailed s code).eng.lastSeq = s.eng.lastSeq := by
  unfold State.startFailed; (repeat' split) <;> simp [State.startRefused_eng_frame _ _ _]

theorem State.startFailed_hi_frame (s : State) (code : ℕ) :
    (State.startFailed s code).hi.state = s.hi.state ∧ (State.startFailed s code).hi.m2 = s.hi.m2 ∧
    (State.startFailed s code).hi.unstableCount = s.hi.unstableCount ∧
    (State.startFailed s code).hi.eventMg = s.hi.eventMg ∧ (State.startFailed s code).hi.eventCl = s.hi.eventCl ∧
    (State.startFailed s code).hi.downMg = s.hi.downMg ∧ (State.startFailed s code).hi.downCl = s.hi.downCl ∧
    (State.startFailed s code).hi.stale = s.hi.stale ∧ (State.startFailed s code).hi.unstable = s.hi.unstable ∧
    (State.startFailed s code).hi.scratch = s.hi.scratch ∧ (State.startFailed s code).hi.busy = s.hi.busy ∧
    (State.startFailed s code).hi.head = s.hi.head ∧ (State.startFailed s code).hi.tail = s.hi.tail ∧
    (State.startFailed s code).hi.irqMask = s.hi.irqMask ∧ (State.startFailed s code).hi.vectors = s.hi.vectors ∧
    (State.startFailed s code).hi.readData = s.hi.readData ∧ (State.startFailed s code).hi.noteSeq = s.hi.noteSeq ∧
    (State.startFailed s code).hi.heldNotes = s.hi.heldNotes ∧
    (State.startFailed s code).hi.lostNotes = s.hi.lostNotes ∧ (State.startFailed s code).hi.unread = s.hi.unread ∧
    (State.startFailed s code).hi.subscribed = s.hi.subscribed ∧
    (State.startFailed s code).hi.x8Subscribed = s.hi.x8Subscribed ∧
    (State.startFailed s code).hi.x8Dest = s.hi.x8Dest ∧ (State.startFailed s code).hi.x8Last = s.hi.x8Last ∧
    (State.startFailed s code).hi.x8Seq = s.hi.x8Seq ∧ (State.startFailed s code).hi.x8Unsent = s.hi.x8Unsent ∧
    (State.startFailed s code).hi.x8Short = s.hi.x8Short ∧ (State.startFailed s code).hi.x8Address = s.hi.x8Address
    ∧ (State.startFailed s code).hi.x8Plen = s.hi.x8Plen ∧ (State.startFailed s code).hi.x8Gateway = s.hi.x8Gateway
    ∧ (State.startFailed s code).hi.x8New = s.hi.x8New := by
  unfold State.startFailed; (repeat' split) <;> simp [State.startRefused_hi_frame _ _ _]

theorem State.startFailed_mg_frame (s : State) (code : ℕ) :
    (State.startFailed s code).mg.alive = s.mg.alive ∧ (State.startFailed s code).mg.arrival = s.mg.arrival ∧
    (State.startFailed s code).mg.queue = s.mg.queue ∧ (State.startFailed s code).mg.sessions = s.mg.sessions ∧
    (State.startFailed s code).mg.usedIds = s.mg.usedIds := by
  unfold State.startFailed; (repeat' split) <;> simp [State.startRefused_mg_frame _ _ _]

theorem State.sendHalt_bench_frame (s : State) :
    (State.sendHalt s).bench.cycle = s.bench.cycle ∧ (State.sendHalt s).bench.nextCycle = s.bench.nextCycle ∧
    (State.sendHalt s).bench.lastO = s.bench.lastO ∧ (State.sendHalt s).bench.freezeUs = s.bench.freezeUs ∧
    (State.sendHalt s).bench.nextFreezeUs = s.bench.nextFreezeUs ∧ (State.sendHalt s).bench.frozen = s.bench.frozen
    ∧ (State.sendHalt s).bench.evaluated = s.bench.evaluated ∧ (State.sendHalt s).bench.first = s.bench.first ∧
    (State.sendHalt s).bench.requests = s.bench.requests ∧ (State.sendHalt s).bench.overran = s.bench.overran ∧
    (State.sendHalt s).bench.discard = s.bench.discard ∧ (State.sendHalt s).bench.noCode = s.bench.noCode ∧
    (State.sendHalt s).bench.constants = s.bench.constants ∧
    (State.sendHalt s).bench.newConstants = s.bench.newConstants ∧ (State.sendHalt s).bench.forces = s.bench.forces
    ∧ (State.sendHalt s).bench.newForces = s.bench.newForces ∧
    (State.sendHalt s).bench.forcedShown = s.bench.forcedShown ∧
    (State.sendHalt s).bench.reminderUs = s.bench.reminderUs ∧
    (State.sendHalt s).bench.completions = s.bench.completions ∧ (State.sendHalt s).bench.notes = s.bench.notes ∧
    (State.sendHalt s).bench.challenge = s.bench.challenge ∧ (State.sendHalt s).bench.stopping = s.bench.stopping := by
  simp [State.sendHalt]

theorem State.dwellPause_vote_frame (s : State) :
    (State.dwellPause s).vote.slots = s.vote.slots ∧ (State.dwellPause s).vote.lanes = s.vote.lanes ∧
    (State.dwellPause s).vote.cores = s.vote.cores ∧ (State.dwellPause s).vote.transients = s.vote.transients ∧
    (State.dwellPause s).vote.testing = s.vote.testing ∧ (State.dwellPause s).vote.laneCheck = s.vote.laneCheck ∧
    (State.dwellPause s).vote.joining = s.vote.joining ∧ (State.dwellPause s).vote.joinReady = s.vote.joinReady ∧
    (State.dwellPause s).vote.laneTurn = s.vote.laneTurn ∧
    (State.dwellPause s).vote.dwellSavedS = s.vote.dwellSavedS ∧
    (State.dwellPause s).vote.dwellEntered = s.vote.dwellEntered ∧
    (State.dwellPause s).vote.warned60 = s.vote.warned60 ∧ (State.dwellPause s).vote.warned10 = s.vote.warned10 ∧
    (State.dwellPause s).vote.dwellExpired = s.vote.dwellExpired ∧
    (State.dwellPause s).vote.accusations = s.vote.accusations ∧
    (State.dwellPause s).vote.lastAccuse = s.vote.lastAccuse ∧ (State.dwellPause s).vote.sigGood = s.vote.sigGood ∧
    (State.dwellPause s).vote.sigExpected = s.vote.sigExpected ∧
    (State.dwellPause s).vote.lockstepBroken = s.vote.lockstepBroken ∧
    (State.dwellPause s).vote.cause = s.vote.cause ∧ (State.dwellPause s).vote.verdictWord = s.vote.verdictWord := by
  unfold State.dwellPause; (repeat' split) <;> simp

theorem State.dropNotes_bench_frame (s : State) :
    (State.dropNotes s).bench.cycle = s.bench.cycle ∧ (State.dropNotes s).bench.nextCycle = s.bench.nextCycle ∧
    (State.dropNotes s).bench.lastO = s.bench.lastO ∧ (State.dropNotes s).bench.freezeUs = s.bench.freezeUs ∧
    (State.dropNotes s).bench.nextFreezeUs = s.bench.nextFreezeUs ∧ (State.dropNotes s).bench.frozen = s.bench.frozen
    ∧ (State.dropNotes s).bench.evaluated = s.bench.evaluated ∧ (State.dropNotes s).bench.housekept =
    s.bench.housekept ∧ (State.dropNotes s).bench.first = s.bench.first ∧ (State.dropNotes s).bench.requests =
    s.bench.requests ∧ (State.dropNotes s).bench.overran = s.bench.overran ∧ (State.dropNotes s).bench.discard =
    s.bench.discard ∧ (State.dropNotes s).bench.noCode = s.bench.noCode ∧ (State.dropNotes s).bench.constants =
    s.bench.constants ∧ (State.dropNotes s).bench.newConstants = s.bench.newConstants ∧ (State.dropNotes
    s).bench.forces = s.bench.forces ∧ (State.dropNotes s).bench.newForces = s.bench.newForces ∧ (State.dropNotes
    s).bench.forcedShown = s.bench.forcedShown ∧ (State.dropNotes s).bench.reminderUs = s.bench.reminderUs ∧
    (State.dropNotes s).bench.completions = s.bench.completions ∧ (State.dropNotes s).bench.challenge =
    s.bench.challenge ∧ (State.dropNotes s).bench.codes = s.bench.codes ∧ (State.dropNotes s).bench.stopping =
    s.bench.stopping ∧ (State.dropNotes s).bench.newLog = s.bench.newLog ∧ (State.dropNotes s).bench.undo =
    s.bench.undo := by
  simp [State.dropNotes]

theorem State.uncycled_bench_frame (s : State) :
    (State.uncycled s).bench.cycle = s.bench.cycle ∧ (State.uncycled s).bench.nextCycle = s.bench.nextCycle ∧
    (State.uncycled s).bench.lastO = s.bench.lastO ∧ (State.uncycled s).bench.freezeUs = s.bench.freezeUs ∧
    (State.uncycled s).bench.nextFreezeUs = s.bench.nextFreezeUs ∧ (State.uncycled s).bench.frozen = s.bench.frozen ∧
    (State.uncycled s).bench.evaluated = s.bench.evaluated ∧ (State.uncycled s).bench.housekept = s.bench.housekept ∧
    (State.uncycled s).bench.first = s.bench.first ∧ (State.uncycled s).bench.requests = s.bench.requests ∧
    (State.uncycled s).bench.overran = s.bench.overran ∧ (State.uncycled s).bench.discard = s.bench.discard ∧
    (State.uncycled s).bench.noCode = s.bench.noCode ∧ (State.uncycled s).bench.constants = s.bench.constants ∧
    (State.uncycled s).bench.newConstants = s.bench.newConstants ∧ (State.uncycled s).bench.forces = s.bench.forces ∧
    (State.uncycled s).bench.newForces = s.bench.newForces ∧ (State.uncycled s).bench.forcedShown =
    s.bench.forcedShown ∧ (State.uncycled s).bench.reminderUs = s.bench.reminderUs ∧ (State.uncycled
    s).bench.completions = s.bench.completions ∧ (State.uncycled s).bench.challenge = s.bench.challenge ∧
    (State.uncycled s).bench.codes = s.bench.codes ∧ (State.uncycled s).bench.stopping = s.bench.stopping ∧
    (State.uncycled s).bench.newLog = s.bench.newLog ∧ (State.uncycled s).bench.undo = s.bench.undo := by
  simp [State.uncycled]

theorem State.standDown_bench_frame (s : State) (halt : Bool) :
    (State.standDown s halt).bench.cycle = s.bench.cycle ∧
    (State.standDown s halt).bench.nextCycle = s.bench.nextCycle ∧
    (State.standDown s halt).bench.lastO = s.bench.lastO ∧ (State.standDown s halt).bench.freezeUs = s.bench.freezeUs
    ∧ (State.standDown s halt).bench.nextFreezeUs = s.bench.nextFreezeUs ∧
    (State.standDown s halt).bench.first = s.bench.first ∧ (State.standDown s halt).bench.overran = s.bench.overran ∧
    (State.standDown s halt).bench.noCode = s.bench.noCode ∧
    (State.standDown s halt).bench.challenge = s.bench.challenge := by
  unfold State.standDown; (repeat' split) <;> simp [State.dwellPause_frame _, State.dropNotes_bench_frame _, State.uncycled_bench_frame _, State.flushNotes_bench_frame _,
        State.discardWork_bench_frame _ _, State.clearForces_bench_frame _ _, State.sendHalt_bench_frame _]

theorem State.standDown_vote_frame (s : State) (halt : Bool) :
    (State.standDown s halt).vote.slots = s.vote.slots ∧ (State.standDown s halt).vote.lanes = s.vote.lanes ∧
    (State.standDown s halt).vote.cores = s.vote.cores ∧ (State.standDown s halt).vote.transients = s.vote.transients
    ∧ (State.standDown s halt).vote.testing = s.vote.testing ∧
    (State.standDown s halt).vote.laneCheck = s.vote.laneCheck ∧
    (State.standDown s halt).vote.joining = s.vote.joining ∧
    (State.standDown s halt).vote.joinReady = s.vote.joinReady ∧
    (State.standDown s halt).vote.laneTurn = s.vote.laneTurn ∧
    (State.standDown s halt).vote.dwellSavedS = s.vote.dwellSavedS ∧
    (State.standDown s halt).vote.dwellEntered = s.vote.dwellEntered ∧
    (State.standDown s halt).vote.warned60 = s.vote.warned60 ∧
    (State.standDown s halt).vote.warned10 = s.vote.warned10 ∧
    (State.standDown s halt).vote.dwellExpired = s.vote.dwellExpired ∧
    (State.standDown s halt).vote.accusations = s.vote.accusations ∧
    (State.standDown s halt).vote.lastAccuse = s.vote.lastAccuse ∧
    (State.standDown s halt).vote.sigGood = s.vote.sigGood ∧
    (State.standDown s halt).vote.sigExpected = s.vote.sigExpected ∧
    (State.standDown s halt).vote.lockstepBroken = s.vote.lockstepBroken ∧
    (State.standDown s halt).vote.cause = s.vote.cause ∧
    (State.standDown s halt).vote.verdictWord = s.vote.verdictWord := by
  simp [State.standDown, State.dwellPause_vote_frame _, State.dropNotes_frame _, State.uncycled_frame _, State.flushNotes_frame _, State.discardWork_frame _ _,
        State.clearForces_frame _ _, State.sendHalt_frame _]

theorem State.standDown_field_frame (s : State) (halt : Bool) :
    (State.standDown s halt).field.inputs = s.field.inputs ∧ (State.standDown s halt).field.sources = s.field.sources
    ∧ (State.standDown s halt).field.outputs = s.field.outputs ∧
    (State.standDown s halt).field.groups = s.field.groups ∧ (State.standDown s halt).field.gridUs = s.field.gridUs ∧
    (State.standDown s halt).field.fsSeq = s.field.fsSeq ∧ (State.standDown s halt).field.flSeq = s.field.flSeq ∧
    (State.standDown s halt).field.fsSent = s.field.fsSent ∧ (State.standDown s halt).field.flSent = s.field.flSent ∧
    (State.standDown s halt).field.fsMissed = s.field.fsMissed ∧
    (State.standDown s halt).field.flMissed = s.field.flMissed ∧
    (State.standDown s halt).field.missed = s.field.missed ∧
    (State.standDown s halt).field.missedFs = s.field.missedFs ∧
    (State.standDown s halt).field.missedFl = s.field.missedFl ∧
    (State.standDown s halt).field.fsMost = s.field.fsMost ∧ (State.standDown s halt).field.flMost = s.field.flMost ∧
    (State.standDown s halt).field.reports = s.field.reports ∧
    (State.standDown s halt).field.edgeLog = s.field.edgeLog ∧
    (State.standDown s halt).field.fsEpoch = s.field.fsEpoch ∧
    (State.standDown s halt).field.coreEpoch = s.field.coreEpoch ∧
    (State.standDown s halt).field.coreEdges = s.field.coreEdges ∧
    (State.standDown s halt).field.frames = s.field.frames ∧ (State.standDown s halt).field.ashSeq = s.field.ashSeq ∧
    (State.standDown s halt).field.ashSent = s.field.ashSent ∧
    (State.standDown s halt).field.ashMissed = s.field.ashMissed ∧
    (State.standDown s halt).field.imageSwitches = s.field.imageSwitches ∧
    (State.standDown s halt).field.linkLost = s.field.linkLost ∧
    (State.standDown s halt).field.config = s.field.config ∧
    (State.standDown s halt).field.configCrc = s.field.configCrc ∧
    (State.standDown s halt).field.collect = s.field.collect ∧
    (State.standDown s halt).field.lastSetCrc = s.field.lastSetCrc ∧
    (State.standDown s halt).field.segment = s.field.segment ∧ (State.standDown s halt).field.values = s.field.values
    ∧ (State.standDown s halt).field.valid = s.field.valid ∧ (State.standDown s halt).field.stale = s.field.stale ∧
    (State.standDown s halt).field.arrivalUs = s.field.arrivalUs ∧
    (State.standDown s halt).field.crcSeen = s.field.crcSeen ∧
    (State.standDown s halt).field.crcGood = s.field.crcGood ∧
    (State.standDown s halt).field.imageOutputs = s.field.imageOutputs ∧
    (State.standDown s halt).field.imageGroups = s.field.imageGroups ∧
    (State.standDown s halt).field.prior = s.field.prior := by
  simp [State.standDown, State.dwellPause_frame _, State.dropNotes_frame _, State.uncycled_frame _, State.flushNotes_frame _, State.discardWork_field_frame _ _,
        State.clearForces_frame _ _, State.sendHalt_frame _]

theorem State.standDown_hi_frame (s : State) (halt : Bool) :
    (State.standDown s halt).hi.state = s.hi.state ∧ (State.standDown s halt).hi.m2 = s.hi.m2 ∧
    (State.standDown s halt).hi.unstableCount = s.hi.unstableCount ∧
    (State.standDown s halt).hi.eventMg = s.hi.eventMg ∧ (State.standDown s halt).hi.eventCl = s.hi.eventCl ∧
    (State.standDown s halt).hi.downMg = s.hi.downMg ∧ (State.standDown s halt).hi.downCl = s.hi.downCl ∧
    (State.standDown s halt).hi.stale = s.hi.stale ∧ (State.standDown s halt).hi.unstable = s.hi.unstable ∧
    (State.standDown s halt).hi.scratch = s.hi.scratch ∧ (State.standDown s halt).hi.busy = s.hi.busy ∧
    (State.standDown s halt).hi.tail = s.hi.tail ∧ (State.standDown s halt).hi.irqMask = s.hi.irqMask ∧
    (State.standDown s halt).hi.vectors = s.hi.vectors ∧ (State.standDown s halt).hi.readData = s.hi.readData ∧
    (State.standDown s halt).hi.unread = s.hi.unread ∧ (State.standDown s halt).hi.subscribed = s.hi.subscribed ∧
    (State.standDown s halt).hi.x8Subscribed = s.hi.x8Subscribed ∧ (State.standDown s halt).hi.x8Dest = s.hi.x8Dest ∧
    (State.standDown s halt).hi.x8Last = s.hi.x8Last ∧ (State.standDown s halt).hi.x8Short = s.hi.x8Short ∧
    (State.standDown s halt).hi.x8Address = s.hi.x8Address ∧ (State.standDown s halt).hi.x8Plen = s.hi.x8Plen ∧
    (State.standDown s halt).hi.x8Gateway = s.hi.x8Gateway ∧ (State.standDown s halt).hi.x8New = s.hi.x8New := by
  simp [State.standDown, State.dwellPause_frame _, State.dropNotes_frame _, State.uncycled_frame _, State.flushNotes_hi_frame _, State.discardWork_hi_frame _ _,
        State.clearForces_hi_frame _ _, State.sendHalt_frame _]

theorem State.standDown_mg_frame (s : State) (halt : Bool) :
    (State.standDown s halt).mg.alive = s.mg.alive ∧ (State.standDown s halt).mg.arrival = s.mg.arrival ∧
    (State.standDown s halt).mg.usedIds = s.mg.usedIds := by
  simp [State.standDown, State.dwellPause_frame _, State.dropNotes_frame _, State.uncycled_frame _, State.flushNotes_frame _, State.discardWork_mg_frame _ _,
        State.clearForces_frame _ _, State.sendHalt_frame _]

theorem State.standDown_recorder_frame (s : State) (halt : Bool) :
    (State.standDown s halt).recorder.ring = s.recorder.ring ∧
    (State.standDown s halt).recorder.next = s.recorder.next ∧
    (State.standDown s halt).recorder.capacity = s.recorder.capacity ∧
    (State.standDown s halt).recorder.badBlocks = s.recorder.badBlocks ∧
    (State.standDown s halt).recorder.buckets = s.recorder.buckets ∧
    (State.standDown s halt).recorder.rates = s.recorder.rates ∧
    (State.standDown s halt).recorder.frozenUntil = s.recorder.frozenUntil ∧
    (State.standDown s halt).recorder.staging = s.recorder.staging ∧
    (State.standDown s halt).recorder.lost = s.recorder.lost ∧
    (State.standDown s halt).recorder.firstLost = s.recorder.firstLost := by
  simp [State.standDown, State.dwellPause_frame _, State.dropNotes_frame _, State.uncycled_frame _, State.flushNotes_frame _, State.discardWork_frame _ _,
        State.clearForces_recorder_frame _ _, State.sendHalt_frame _]

theorem State.enterLockout_bench_frame (s : State) (cause : ℕ) (halt : optParam Bool Bool.false) (repeated : optParam
    Bool Bool.false) :
    (State.enterLockout s cause halt repeated).bench.cycle = s.bench.cycle ∧
    (State.enterLockout s cause halt repeated).bench.nextCycle = s.bench.nextCycle ∧
    (State.enterLockout s cause halt repeated).bench.lastO = s.bench.lastO ∧
    (State.enterLockout s cause halt repeated).bench.freezeUs = s.bench.freezeUs ∧
    (State.enterLockout s cause halt repeated).bench.nextFreezeUs = s.bench.nextFreezeUs ∧
    (State.enterLockout s cause halt repeated).bench.first = s.bench.first ∧
    (State.enterLockout s cause halt repeated).bench.overran = s.bench.overran ∧
    (State.enterLockout s cause halt repeated).bench.noCode = s.bench.noCode ∧
    (State.enterLockout s cause halt repeated).bench.challenge = s.bench.challenge := by
  unfold State.enterLockout; (repeat' split) <;> simp [State.standDown_frame _ _, State.note_frame _ _ _,
        State.event_frame _ _ _ _ _ _ _ _, State.standDown_bench_frame _ _]

theorem State.enterLockout_vote_frame (s : State) (cause : ℕ) (halt : optParam Bool Bool.false) (repeated :
    optParam Bool Bool.false) :
    (State.enterLockout s cause halt repeated).vote.slots = s.vote.slots ∧
    (State.enterLockout s cause halt repeated).vote.lanes = s.vote.lanes ∧
    (State.enterLockout s cause halt repeated).vote.cores = s.vote.cores ∧
    (State.enterLockout s cause halt repeated).vote.transients = s.vote.transients ∧
    (State.enterLockout s cause halt repeated).vote.testing = s.vote.testing ∧
    (State.enterLockout s cause halt repeated).vote.laneCheck = s.vote.laneCheck ∧
    (State.enterLockout s cause halt repeated).vote.joining = s.vote.joining ∧
    (State.enterLockout s cause halt repeated).vote.joinReady = s.vote.joinReady ∧
    (State.enterLockout s cause halt repeated).vote.laneTurn = s.vote.laneTurn ∧
    (State.enterLockout s cause halt repeated).vote.dwellSavedS = s.vote.dwellSavedS ∧
    (State.enterLockout s cause halt repeated).vote.dwellEntered = s.vote.dwellEntered ∧
    (State.enterLockout s cause halt repeated).vote.warned60 = s.vote.warned60 ∧
    (State.enterLockout s cause halt repeated).vote.warned10 = s.vote.warned10 ∧
    (State.enterLockout s cause halt repeated).vote.dwellExpired = s.vote.dwellExpired ∧
    (State.enterLockout s cause halt repeated).vote.accusations = s.vote.accusations ∧
    (State.enterLockout s cause halt repeated).vote.lastAccuse = s.vote.lastAccuse ∧
    (State.enterLockout s cause halt repeated).vote.sigGood = s.vote.sigGood ∧
    (State.enterLockout s cause halt repeated).vote.sigExpected = s.vote.sigExpected ∧
    (State.enterLockout s cause halt repeated).vote.lockstepBroken = s.vote.lockstepBroken ∧
    (State.enterLockout s cause halt repeated).vote.cause = s.vote.cause ∧
    (State.enterLockout s cause halt repeated).vote.verdictWord = s.vote.verdictWord := by
  unfold State.enterLockout; (repeat' split) <;> simp [State.standDown_frame _ _, State.note_frame _ _ _,
        State.event_frame _ _ _ _ _ _ _ _, State.standDown_vote_frame _ _]

theorem State.enterLockout_field_frame (s : State) (cause : ℕ) (halt : optParam Bool Bool.false) (repeated : optParam
    Bool Bool.false) :
    (State.enterLockout s cause halt repeated).field.inputs = s.field.inputs ∧
    (State.enterLockout s cause halt repeated).field.sources = s.field.sources ∧
    (State.enterLockout s cause halt repeated).field.outputs = s.field.outputs ∧
    (State.enterLockout s cause halt repeated).field.groups = s.field.groups ∧
    (State.enterLockout s cause halt repeated).field.gridUs = s.field.gridUs ∧
    (State.enterLockout s cause halt repeated).field.fsSeq = s.field.fsSeq ∧
    (State.enterLockout s cause halt repeated).field.flSeq = s.field.flSeq ∧
    (State.enterLockout s cause halt repeated).field.fsSent = s.field.fsSent ∧
    (State.enterLockout s cause halt repeated).field.flSent = s.field.flSent ∧
    (State.enterLockout s cause halt repeated).field.fsMissed = s.field.fsMissed ∧
    (State.enterLockout s cause halt repeated).field.flMissed = s.field.flMissed ∧
    (State.enterLockout s cause halt repeated).field.missed = s.field.missed ∧
    (State.enterLockout s cause halt repeated).field.missedFs = s.field.missedFs ∧
    (State.enterLockout s cause halt repeated).field.missedFl = s.field.missedFl ∧
    (State.enterLockout s cause halt repeated).field.fsMost = s.field.fsMost ∧
    (State.enterLockout s cause halt repeated).field.flMost = s.field.flMost ∧
    (State.enterLockout s cause halt repeated).field.reports = s.field.reports ∧
    (State.enterLockout s cause halt repeated).field.edgeLog = s.field.edgeLog ∧
    (State.enterLockout s cause halt repeated).field.fsEpoch = s.field.fsEpoch ∧
    (State.enterLockout s cause halt repeated).field.coreEpoch = s.field.coreEpoch ∧
    (State.enterLockout s cause halt repeated).field.coreEdges = s.field.coreEdges ∧
    (State.enterLockout s cause halt repeated).field.frames = s.field.frames ∧
    (State.enterLockout s cause halt repeated).field.ashSeq = s.field.ashSeq ∧
    (State.enterLockout s cause halt repeated).field.ashSent = s.field.ashSent ∧
    (State.enterLockout s cause halt repeated).field.ashMissed = s.field.ashMissed ∧
    (State.enterLockout s cause halt repeated).field.imageSwitches = s.field.imageSwitches ∧
    (State.enterLockout s cause halt repeated).field.linkLost = s.field.linkLost ∧
    (State.enterLockout s cause halt repeated).field.config = s.field.config ∧
    (State.enterLockout s cause halt repeated).field.configCrc = s.field.configCrc ∧
    (State.enterLockout s cause halt repeated).field.collect = s.field.collect ∧
    (State.enterLockout s cause halt repeated).field.lastSetCrc = s.field.lastSetCrc ∧
    (State.enterLockout s cause halt repeated).field.segment = s.field.segment ∧
    (State.enterLockout s cause halt repeated).field.values = s.field.values ∧
    (State.enterLockout s cause halt repeated).field.valid = s.field.valid ∧
    (State.enterLockout s cause halt repeated).field.stale = s.field.stale ∧
    (State.enterLockout s cause halt repeated).field.arrivalUs = s.field.arrivalUs ∧
    (State.enterLockout s cause halt repeated).field.crcSeen = s.field.crcSeen ∧
    (State.enterLockout s cause halt repeated).field.crcGood = s.field.crcGood ∧
    (State.enterLockout s cause halt repeated).field.imageOutputs = s.field.imageOutputs ∧
    (State.enterLockout s cause halt repeated).field.imageGroups = s.field.imageGroups ∧
    (State.enterLockout s cause halt repeated).field.prior = s.field.prior := by
  unfold State.enterLockout; (repeat' split) <;> simp [State.standDown_frame _ _, State.note_frame _ _ _,
        State.event_frame _ _ _ _ _ _ _ _, State.standDown_field_frame _ _]

theorem State.enterLockout_hi_frame (s : State) (cause : ℕ) (halt : optParam Bool Bool.false) (repeated :
    optParam Bool Bool.false) :
    (State.enterLockout s cause halt repeated).hi.state = s.hi.state ∧
    (State.enterLockout s cause halt repeated).hi.m2 = s.hi.m2 ∧
    (State.enterLockout s cause halt repeated).hi.unstableCount = s.hi.unstableCount ∧
    (State.enterLockout s cause halt repeated).hi.eventMg = s.hi.eventMg ∧
    (State.enterLockout s cause halt repeated).hi.eventCl = s.hi.eventCl ∧
    (State.enterLockout s cause halt repeated).hi.downMg = s.hi.downMg ∧
    (State.enterLockout s cause halt repeated).hi.downCl = s.hi.downCl ∧
    (State.enterLockout s cause halt repeated).hi.stale = s.hi.stale ∧
    (State.enterLockout s cause halt repeated).hi.unstable = s.hi.unstable ∧
    (State.enterLockout s cause halt repeated).hi.scratch = s.hi.scratch ∧
    (State.enterLockout s cause halt repeated).hi.busy = s.hi.busy ∧
    (State.enterLockout s cause halt repeated).hi.tail = s.hi.tail ∧
    (State.enterLockout s cause halt repeated).hi.irqMask = s.hi.irqMask ∧
    (State.enterLockout s cause halt repeated).hi.vectors = s.hi.vectors ∧
    (State.enterLockout s cause halt repeated).hi.readData = s.hi.readData ∧
    (State.enterLockout s cause halt repeated).hi.unread = s.hi.unread ∧
    (State.enterLockout s cause halt repeated).hi.subscribed = s.hi.subscribed ∧
    (State.enterLockout s cause halt repeated).hi.x8Subscribed = s.hi.x8Subscribed ∧
    (State.enterLockout s cause halt repeated).hi.x8Dest = s.hi.x8Dest ∧
    (State.enterLockout s cause halt repeated).hi.x8Last = s.hi.x8Last ∧
    (State.enterLockout s cause halt repeated).hi.x8Short = s.hi.x8Short ∧
    (State.enterLockout s cause halt repeated).hi.x8Address = s.hi.x8Address ∧
    (State.enterLockout s cause halt repeated).hi.x8Plen = s.hi.x8Plen ∧
    (State.enterLockout s cause halt repeated).hi.x8Gateway = s.hi.x8Gateway ∧
    (State.enterLockout s cause halt repeated).hi.x8New = s.hi.x8New := by
  unfold State.enterLockout; (repeat' split) <;> simp [State.standDown_frame _ _, State.note_hi_frame _ _ _,
        State.event_frame _ _ _ _ _ _ _ _, State.standDown_hi_frame _ _]

theorem State.enterLockout_mg_frame (s : State) (cause : ℕ) (halt : optParam Bool Bool.false) (repeated : optParam
    Bool Bool.false) :
    (State.enterLockout s cause halt repeated).mg.alive = s.mg.alive ∧
    (State.enterLockout s cause halt repeated).mg.arrival = s.mg.arrival ∧
    (State.enterLockout s cause halt repeated).mg.usedIds = s.mg.usedIds := by
  unfold State.enterLockout; (repeat' split) <;> simp [State.standDown_frame _ _, State.note_frame _ _ _,
        State.event_frame _ _ _ _ _ _ _ _, State.standDown_mg_frame _ _]

theorem State.enterLockout_recorder_frame (s : State) (cause : ℕ) (halt : optParam Bool Bool.false)
    (repeated : optParam Bool Bool.false) :
    (State.enterLockout s cause halt repeated).recorder.ring = s.recorder.ring ∧
    (State.enterLockout s cause halt repeated).recorder.next = s.recorder.next ∧
    (State.enterLockout s cause halt repeated).recorder.capacity = s.recorder.capacity ∧
    (State.enterLockout s cause halt repeated).recorder.badBlocks = s.recorder.badBlocks ∧
    (State.enterLockout s cause halt repeated).recorder.buckets = s.recorder.buckets ∧
    (State.enterLockout s cause halt repeated).recorder.rates = s.recorder.rates ∧
    (State.enterLockout s cause halt repeated).recorder.frozenUntil = s.recorder.frozenUntil ∧
    (State.enterLockout s cause halt repeated).recorder.staging = s.recorder.staging ∧
    (State.enterLockout s cause halt repeated).recorder.lost = s.recorder.lost ∧
    (State.enterLockout s cause halt repeated).recorder.firstLost = s.recorder.firstLost := by
  unfold State.enterLockout; (repeat' split) <;> simp [State.standDown_frame _ _, State.note_frame _ _ _,
        State.event_recorder_frame _ _ _ _ _ _ _ _, State.standDown_recorder_frame _ _]

theorem State.enterLockout_power_frame (s : State) (cause : ℕ) (halt : optParam Bool Bool.false) (repeated :
    optParam Bool Bool.false) :
    (State.enterLockout s cause halt repeated).power.cause = s.power.cause ∧
    (State.enterLockout s cause halt repeated).power.fullForm = s.power.fullForm ∧
    (State.enterLockout s cause halt repeated).power.startUs = s.power.startUs ∧
    (State.enterLockout s cause halt repeated).power.supply = s.power.supply ∧
    (State.enterLockout s cause halt repeated).power.logicMv = s.power.logicMv ∧
    (State.enterLockout s cause halt repeated).power.boardTemp = s.power.boardTemp ∧
    (State.enterLockout s cause halt repeated).power.hotTold = s.power.hotTold ∧
    (State.enterLockout s cause halt repeated).power.cellFitted = s.power.cellFitted ∧
    (State.enterLockout s cause halt repeated).power.cellMv = s.power.cellMv ∧
    (State.enterLockout s cause halt repeated).power.cellLowTold = s.power.cellLowTold ∧
    (State.enterLockout s cause halt repeated).power.cellGoneTold = s.power.cellGoneTold ∧
    (State.enterLockout s cause halt repeated).power.slot = s.power.slot ∧
    (State.enterLockout s cause halt repeated).power.causes = s.power.causes ∧
    (State.enterLockout s cause halt repeated).power.entries = s.power.entries ∧
    (State.enterLockout s cause halt repeated).power.testPassed = s.power.testPassed ∧
    (State.enterLockout s cause halt repeated).power.testPassedUs = s.power.testPassedUs ∧
    (State.enterLockout s cause halt repeated).power.dead = s.power.dead ∧
    (State.enterLockout s cause halt repeated).power.faultLed = s.power.faultLed := by
  unfold State.enterLockout; (repeat' split) <;> simp [State.standDown_frame _ _, State.note_frame _ _ _,
        State.event_frame _ _ _ _ _ _ _ _]

theorem State.keepLockout_power_frame (s : State) :
    (State.keepLockout s).power.cause = s.power.cause ∧ (State.keepLockout s).power.fullForm = s.power.fullForm ∧
    (State.keepLockout s).power.startUs = s.power.startUs ∧ (State.keepLockout s).power.supply = s.power.supply ∧
    (State.keepLockout s).power.logicMv = s.power.logicMv ∧ (State.keepLockout s).power.boardTemp = s.power.boardTemp
    ∧ (State.keepLockout s).power.hotTold = s.power.hotTold ∧ (State.keepLockout s).power.cellFitted =
    s.power.cellFitted ∧ (State.keepLockout s).power.cellMv = s.power.cellMv ∧ (State.keepLockout s).power.cellLowTold
    = s.power.cellLowTold ∧ (State.keepLockout s).power.cellGoneTold = s.power.cellGoneTold ∧ (State.keepLockout
    s).power.slot = s.power.slot ∧ (State.keepLockout s).power.causes = s.power.causes ∧ (State.keepLockout
    s).power.repeated = s.power.repeated ∧ (State.keepLockout s).power.lockoutCause = s.power.lockoutCause ∧
    (State.keepLockout s).power.comparatorsBad = s.power.comparatorsBad ∧ (State.keepLockout s).power.entries =
    s.power.entries ∧ (State.keepLockout s).power.testPassedUs = s.power.testPassedUs ∧ (State.keepLockout
    s).power.dead = s.power.dead ∧ (State.keepLockout s).power.faultLed = s.power.faultLed := by
  simp [State.keepLockout]

theorem State.enterSafeNow_bench_frame (s : State) (cause : ℕ) (halt : Bool) :
    (State.enterSafeNow s cause halt).bench.cycle = s.bench.cycle ∧
    (State.enterSafeNow s cause halt).bench.nextCycle = s.bench.nextCycle ∧
    (State.enterSafeNow s cause halt).bench.lastO = s.bench.lastO ∧
    (State.enterSafeNow s cause halt).bench.freezeUs = s.bench.freezeUs ∧
    (State.enterSafeNow s cause halt).bench.nextFreezeUs = s.bench.nextFreezeUs ∧
    (State.enterSafeNow s cause halt).bench.first = s.bench.first ∧
    (State.enterSafeNow s cause halt).bench.overran = s.bench.overran ∧
    (State.enterSafeNow s cause halt).bench.noCode = s.bench.noCode ∧
    (State.enterSafeNow s cause halt).bench.challenge = s.bench.challenge := by
  simp only [State.enterSafeNow]; (repeat' split) <;> simp [State.standDown_frame _ _, State.note_frame _ _ _,
        State.event_frame _ _ _ _ _ _ _ _, State.standDown_bench_frame _ _, State.enterLockout_bench_frame _ _ _ _]

theorem State.enterSafe_bench_frame (s : State) (cause : ℕ) (halt : optParam Bool Bool.true) :
    (State.enterSafe s cause halt).bench.cycle = s.bench.cycle ∧
    (State.enterSafe s cause halt).bench.nextCycle = s.bench.nextCycle ∧
    (State.enterSafe s cause halt).bench.lastO = s.bench.lastO ∧
    (State.enterSafe s cause halt).bench.freezeUs = s.bench.freezeUs ∧
    (State.enterSafe s cause halt).bench.nextFreezeUs = s.bench.nextFreezeUs ∧
    (State.enterSafe s cause halt).bench.first = s.bench.first ∧
    (State.enterSafe s cause halt).bench.overran = s.bench.overran ∧
    (State.enterSafe s cause halt).bench.noCode = s.bench.noCode ∧
    (State.enterSafe s cause halt).bench.challenge = s.bench.challenge := by
  unfold State.enterSafe; (repeat' split) <;> simp [State.enterSafeNow_bench_frame _ _ _, State.keepLockout_frame _]

theorem State.enterSafeNow_vote_frame (s : State) (cause : ℕ) (halt : Bool) :
    (State.enterSafeNow s cause halt).vote.slots = s.vote.slots ∧
    (State.enterSafeNow s cause halt).vote.lanes = s.vote.lanes ∧
    (State.enterSafeNow s cause halt).vote.cores = s.vote.cores ∧
    (State.enterSafeNow s cause halt).vote.transients = s.vote.transients ∧
    (State.enterSafeNow s cause halt).vote.testing = s.vote.testing ∧
    (State.enterSafeNow s cause halt).vote.laneCheck = s.vote.laneCheck ∧
    (State.enterSafeNow s cause halt).vote.joining = s.vote.joining ∧
    (State.enterSafeNow s cause halt).vote.joinReady = s.vote.joinReady ∧
    (State.enterSafeNow s cause halt).vote.laneTurn = s.vote.laneTurn ∧
    (State.enterSafeNow s cause halt).vote.dwellSavedS = s.vote.dwellSavedS ∧
    (State.enterSafeNow s cause halt).vote.dwellEntered = s.vote.dwellEntered ∧
    (State.enterSafeNow s cause halt).vote.warned60 = s.vote.warned60 ∧
    (State.enterSafeNow s cause halt).vote.warned10 = s.vote.warned10 ∧
    (State.enterSafeNow s cause halt).vote.dwellExpired = s.vote.dwellExpired ∧
    (State.enterSafeNow s cause halt).vote.accusations = s.vote.accusations ∧
    (State.enterSafeNow s cause halt).vote.lastAccuse = s.vote.lastAccuse ∧
    (State.enterSafeNow s cause halt).vote.sigGood = s.vote.sigGood ∧
    (State.enterSafeNow s cause halt).vote.sigExpected = s.vote.sigExpected ∧
    (State.enterSafeNow s cause halt).vote.lockstepBroken = s.vote.lockstepBroken ∧
    (State.enterSafeNow s cause halt).vote.cause = s.vote.cause ∧
    (State.enterSafeNow s cause halt).vote.verdictWord = s.vote.verdictWord := by
  simp only [State.enterSafeNow]; (repeat' split) <;> simp [State.standDown_frame _ _, State.note_frame _ _ _,
        State.event_frame _ _ _ _ _ _ _ _, State.standDown_vote_frame _ _, State.enterLockout_vote_frame _ _ _ _]

theorem State.enterSafe_vote_frame (s : State) (cause : ℕ) (halt : optParam Bool Bool.true) :
    (State.enterSafe s cause halt).vote.slots = s.vote.slots ∧
    (State.enterSafe s cause halt).vote.lanes = s.vote.lanes ∧
    (State.enterSafe s cause halt).vote.cores = s.vote.cores ∧
    (State.enterSafe s cause halt).vote.transients = s.vote.transients ∧
    (State.enterSafe s cause halt).vote.testing = s.vote.testing ∧
    (State.enterSafe s cause halt).vote.laneCheck = s.vote.laneCheck ∧
    (State.enterSafe s cause halt).vote.joining = s.vote.joining ∧
    (State.enterSafe s cause halt).vote.joinReady = s.vote.joinReady ∧
    (State.enterSafe s cause halt).vote.laneTurn = s.vote.laneTurn ∧
    (State.enterSafe s cause halt).vote.dwellSavedS = s.vote.dwellSavedS ∧
    (State.enterSafe s cause halt).vote.dwellEntered = s.vote.dwellEntered ∧
    (State.enterSafe s cause halt).vote.warned60 = s.vote.warned60 ∧
    (State.enterSafe s cause halt).vote.warned10 = s.vote.warned10 ∧
    (State.enterSafe s cause halt).vote.dwellExpired = s.vote.dwellExpired ∧
    (State.enterSafe s cause halt).vote.accusations = s.vote.accusations ∧
    (State.enterSafe s cause halt).vote.lastAccuse = s.vote.lastAccuse ∧
    (State.enterSafe s cause halt).vote.sigGood = s.vote.sigGood ∧
    (State.enterSafe s cause halt).vote.sigExpected = s.vote.sigExpected ∧
    (State.enterSafe s cause halt).vote.lockstepBroken = s.vote.lockstepBroken ∧
    (State.enterSafe s cause halt).vote.cause = s.vote.cause ∧
    (State.enterSafe s cause halt).vote.verdictWord = s.vote.verdictWord := by
  unfold State.enterSafe; (repeat' split) <;> simp [State.enterSafeNow_vote_frame _ _ _, State.keepLockout_frame _]

theorem State.enterSafeNow_field_frame (s : State) (cause : ℕ) (halt : Bool) :
    (State.enterSafeNow s cause halt).field.inputs = s.field.inputs ∧
    (State.enterSafeNow s cause halt).field.sources = s.field.sources ∧
    (State.enterSafeNow s cause halt).field.outputs = s.field.outputs ∧
    (State.enterSafeNow s cause halt).field.groups = s.field.groups ∧
    (State.enterSafeNow s cause halt).field.gridUs = s.field.gridUs ∧
    (State.enterSafeNow s cause halt).field.fsSeq = s.field.fsSeq ∧
    (State.enterSafeNow s cause halt).field.flSeq = s.field.flSeq ∧
    (State.enterSafeNow s cause halt).field.fsSent = s.field.fsSent ∧
    (State.enterSafeNow s cause halt).field.flSent = s.field.flSent ∧
    (State.enterSafeNow s cause halt).field.fsMissed = s.field.fsMissed ∧
    (State.enterSafeNow s cause halt).field.flMissed = s.field.flMissed ∧
    (State.enterSafeNow s cause halt).field.missed = s.field.missed ∧
    (State.enterSafeNow s cause halt).field.missedFs = s.field.missedFs ∧
    (State.enterSafeNow s cause halt).field.missedFl = s.field.missedFl ∧
    (State.enterSafeNow s cause halt).field.fsMost = s.field.fsMost ∧
    (State.enterSafeNow s cause halt).field.flMost = s.field.flMost ∧
    (State.enterSafeNow s cause halt).field.reports = s.field.reports ∧
    (State.enterSafeNow s cause halt).field.edgeLog = s.field.edgeLog ∧
    (State.enterSafeNow s cause halt).field.fsEpoch = s.field.fsEpoch ∧
    (State.enterSafeNow s cause halt).field.coreEpoch = s.field.coreEpoch ∧
    (State.enterSafeNow s cause halt).field.coreEdges = s.field.coreEdges ∧
    (State.enterSafeNow s cause halt).field.frames = s.field.frames ∧
    (State.enterSafeNow s cause halt).field.ashSeq = s.field.ashSeq ∧
    (State.enterSafeNow s cause halt).field.ashSent = s.field.ashSent ∧
    (State.enterSafeNow s cause halt).field.ashMissed = s.field.ashMissed ∧
    (State.enterSafeNow s cause halt).field.imageSwitches = s.field.imageSwitches ∧
    (State.enterSafeNow s cause halt).field.linkLost = s.field.linkLost ∧
    (State.enterSafeNow s cause halt).field.config = s.field.config ∧
    (State.enterSafeNow s cause halt).field.configCrc = s.field.configCrc ∧
    (State.enterSafeNow s cause halt).field.collect = s.field.collect ∧
    (State.enterSafeNow s cause halt).field.lastSetCrc = s.field.lastSetCrc ∧
    (State.enterSafeNow s cause halt).field.segment = s.field.segment ∧
    (State.enterSafeNow s cause halt).field.values = s.field.values ∧
    (State.enterSafeNow s cause halt).field.valid = s.field.valid ∧
    (State.enterSafeNow s cause halt).field.stale = s.field.stale ∧
    (State.enterSafeNow s cause halt).field.arrivalUs = s.field.arrivalUs ∧
    (State.enterSafeNow s cause halt).field.crcSeen = s.field.crcSeen ∧
    (State.enterSafeNow s cause halt).field.crcGood = s.field.crcGood ∧
    (State.enterSafeNow s cause halt).field.imageOutputs = s.field.imageOutputs ∧
    (State.enterSafeNow s cause halt).field.imageGroups = s.field.imageGroups ∧
    (State.enterSafeNow s cause halt).field.prior = s.field.prior := by
  simp only [State.enterSafeNow]; (repeat' split) <;> simp [State.standDown_frame _ _, State.note_frame _ _ _,
        State.event_frame _ _ _ _ _ _ _ _, State.standDown_field_frame _ _, State.enterLockout_field_frame _ _ _ _]

theorem State.enterSafe_field_frame (s : State) (cause : ℕ) (halt : optParam Bool Bool.true) :
    (State.enterSafe s cause halt).field.inputs = s.field.inputs ∧
    (State.enterSafe s cause halt).field.sources = s.field.sources ∧
    (State.enterSafe s cause halt).field.outputs = s.field.outputs ∧
    (State.enterSafe s cause halt).field.groups = s.field.groups ∧
    (State.enterSafe s cause halt).field.gridUs = s.field.gridUs ∧
    (State.enterSafe s cause halt).field.fsSeq = s.field.fsSeq ∧
    (State.enterSafe s cause halt).field.flSeq = s.field.flSeq ∧
    (State.enterSafe s cause halt).field.fsSent = s.field.fsSent ∧
    (State.enterSafe s cause halt).field.flSent = s.field.flSent ∧
    (State.enterSafe s cause halt).field.fsMissed = s.field.fsMissed ∧
    (State.enterSafe s cause halt).field.flMissed = s.field.flMissed ∧
    (State.enterSafe s cause halt).field.missed = s.field.missed ∧
    (State.enterSafe s cause halt).field.missedFs = s.field.missedFs ∧
    (State.enterSafe s cause halt).field.missedFl = s.field.missedFl ∧
    (State.enterSafe s cause halt).field.fsMost = s.field.fsMost ∧
    (State.enterSafe s cause halt).field.flMost = s.field.flMost ∧
    (State.enterSafe s cause halt).field.reports = s.field.reports ∧
    (State.enterSafe s cause halt).field.edgeLog = s.field.edgeLog ∧
    (State.enterSafe s cause halt).field.fsEpoch = s.field.fsEpoch ∧
    (State.enterSafe s cause halt).field.coreEpoch = s.field.coreEpoch ∧
    (State.enterSafe s cause halt).field.coreEdges = s.field.coreEdges ∧
    (State.enterSafe s cause halt).field.frames = s.field.frames ∧
    (State.enterSafe s cause halt).field.ashSeq = s.field.ashSeq ∧
    (State.enterSafe s cause halt).field.ashSent = s.field.ashSent ∧
    (State.enterSafe s cause halt).field.ashMissed = s.field.ashMissed ∧
    (State.enterSafe s cause halt).field.imageSwitches = s.field.imageSwitches ∧
    (State.enterSafe s cause halt).field.linkLost = s.field.linkLost ∧
    (State.enterSafe s cause halt).field.config = s.field.config ∧
    (State.enterSafe s cause halt).field.configCrc = s.field.configCrc ∧
    (State.enterSafe s cause halt).field.collect = s.field.collect ∧
    (State.enterSafe s cause halt).field.lastSetCrc = s.field.lastSetCrc ∧
    (State.enterSafe s cause halt).field.segment = s.field.segment ∧
    (State.enterSafe s cause halt).field.values = s.field.values ∧
    (State.enterSafe s cause halt).field.valid = s.field.valid ∧
    (State.enterSafe s cause halt).field.stale = s.field.stale ∧
    (State.enterSafe s cause halt).field.arrivalUs = s.field.arrivalUs ∧
    (State.enterSafe s cause halt).field.crcSeen = s.field.crcSeen ∧
    (State.enterSafe s cause halt).field.crcGood = s.field.crcGood ∧
    (State.enterSafe s cause halt).field.imageOutputs = s.field.imageOutputs ∧
    (State.enterSafe s cause halt).field.imageGroups = s.field.imageGroups ∧
    (State.enterSafe s cause halt).field.prior = s.field.prior := by
  unfold State.enterSafe; (repeat' split) <;> simp [State.enterSafeNow_field_frame _ _ _, State.keepLockout_frame _]

theorem State.enterSafeNow_hi_frame (s : State) (cause : ℕ) (halt : Bool) :
    (State.enterSafeNow s cause halt).hi.state = s.hi.state ∧ (State.enterSafeNow s cause halt).hi.m2 = s.hi.m2 ∧
    (State.enterSafeNow s cause halt).hi.unstableCount = s.hi.unstableCount ∧
    (State.enterSafeNow s cause halt).hi.eventMg = s.hi.eventMg ∧
    (State.enterSafeNow s cause halt).hi.eventCl = s.hi.eventCl ∧
    (State.enterSafeNow s cause halt).hi.downMg = s.hi.downMg ∧
    (State.enterSafeNow s cause halt).hi.downCl = s.hi.downCl ∧
    (State.enterSafeNow s cause halt).hi.stale = s.hi.stale ∧
    (State.enterSafeNow s cause halt).hi.unstable = s.hi.unstable ∧
    (State.enterSafeNow s cause halt).hi.scratch = s.hi.scratch ∧
    (State.enterSafeNow s cause halt).hi.busy = s.hi.busy ∧ (State.enterSafeNow s cause halt).hi.tail = s.hi.tail ∧
    (State.enterSafeNow s cause halt).hi.irqMask = s.hi.irqMask ∧
    (State.enterSafeNow s cause halt).hi.vectors = s.hi.vectors ∧
    (State.enterSafeNow s cause halt).hi.readData = s.hi.readData ∧
    (State.enterSafeNow s cause halt).hi.unread = s.hi.unread ∧
    (State.enterSafeNow s cause halt).hi.subscribed = s.hi.subscribed ∧
    (State.enterSafeNow s cause halt).hi.x8Subscribed = s.hi.x8Subscribed ∧
    (State.enterSafeNow s cause halt).hi.x8Dest = s.hi.x8Dest ∧
    (State.enterSafeNow s cause halt).hi.x8Last = s.hi.x8Last ∧
    (State.enterSafeNow s cause halt).hi.x8Short = s.hi.x8Short ∧
    (State.enterSafeNow s cause halt).hi.x8Address = s.hi.x8Address ∧
    (State.enterSafeNow s cause halt).hi.x8Plen = s.hi.x8Plen ∧
    (State.enterSafeNow s cause halt).hi.x8Gateway = s.hi.x8Gateway ∧
    (State.enterSafeNow s cause halt).hi.x8New = s.hi.x8New := by
  simp only [State.enterSafeNow]; (repeat' split) <;> simp [State.standDown_frame _ _, State.note_hi_frame _ _ _,
        State.event_frame _ _ _ _ _ _ _ _, State.standDown_hi_frame _ _, State.enterLockout_hi_frame _ _ _ _]

theorem State.enterSafe_hi_frame (s : State) (cause : ℕ) (halt : optParam Bool Bool.true) :
    (State.enterSafe s cause halt).hi.state = s.hi.state ∧ (State.enterSafe s cause halt).hi.m2 = s.hi.m2 ∧
    (State.enterSafe s cause halt).hi.unstableCount = s.hi.unstableCount ∧
    (State.enterSafe s cause halt).hi.eventMg = s.hi.eventMg ∧
    (State.enterSafe s cause halt).hi.eventCl = s.hi.eventCl ∧ (State.enterSafe s cause halt).hi.downMg = s.hi.downMg
    ∧ (State.enterSafe s cause halt).hi.downCl = s.hi.downCl ∧ (State.enterSafe s cause halt).hi.stale = s.hi.stale ∧
    (State.enterSafe s cause halt).hi.unstable = s.hi.unstable ∧
    (State.enterSafe s cause halt).hi.scratch = s.hi.scratch ∧ (State.enterSafe s cause halt).hi.busy = s.hi.busy ∧
    (State.enterSafe s cause halt).hi.tail = s.hi.tail ∧ (State.enterSafe s cause halt).hi.irqMask = s.hi.irqMask ∧
    (State.enterSafe s cause halt).hi.vectors = s.hi.vectors ∧
    (State.enterSafe s cause halt).hi.readData = s.hi.readData ∧
    (State.enterSafe s cause halt).hi.unread = s.hi.unread ∧
    (State.enterSafe s cause halt).hi.subscribed = s.hi.subscribed ∧
    (State.enterSafe s cause halt).hi.x8Subscribed = s.hi.x8Subscribed ∧
    (State.enterSafe s cause halt).hi.x8Dest = s.hi.x8Dest ∧ (State.enterSafe s cause halt).hi.x8Last = s.hi.x8Last ∧
    (State.enterSafe s cause halt).hi.x8Short = s.hi.x8Short ∧
    (State.enterSafe s cause halt).hi.x8Address = s.hi.x8Address ∧
    (State.enterSafe s cause halt).hi.x8Plen = s.hi.x8Plen ∧
    (State.enterSafe s cause halt).hi.x8Gateway = s.hi.x8Gateway ∧
    (State.enterSafe s cause halt).hi.x8New = s.hi.x8New := by
  unfold State.enterSafe; (repeat' split) <;> simp [State.enterSafeNow_hi_frame _ _ _, State.keepLockout_frame _]

theorem State.enterSafeNow_mg_frame (s : State) (cause : ℕ) (halt : Bool) :
    (State.enterSafeNow s cause halt).mg.alive = s.mg.alive ∧
    (State.enterSafeNow s cause halt).mg.arrival = s.mg.arrival ∧
    (State.enterSafeNow s cause halt).mg.usedIds = s.mg.usedIds := by
  simp only [State.enterSafeNow]; (repeat' split) <;> simp [State.standDown_frame _ _, State.note_frame _ _ _,
        State.event_frame _ _ _ _ _ _ _ _, State.standDown_mg_frame _ _, State.enterLockout_mg_frame _ _ _ _]

theorem State.enterSafe_mg_frame (s : State) (cause : ℕ) (halt : optParam Bool Bool.true) :
    (State.enterSafe s cause halt).mg.alive = s.mg.alive ∧ (State.enterSafe s cause halt).mg.arrival = s.mg.arrival ∧
    (State.enterSafe s cause halt).mg.usedIds = s.mg.usedIds := by
  unfold State.enterSafe; (repeat' split) <;> simp [State.enterSafeNow_mg_frame _ _ _, State.keepLockout_frame _]

theorem State.enterSafeNow_recorder_frame (s : State) (cause : ℕ) (halt : Bool) :
    (State.enterSafeNow s cause halt).recorder.ring = s.recorder.ring ∧
    (State.enterSafeNow s cause halt).recorder.next = s.recorder.next ∧
    (State.enterSafeNow s cause halt).recorder.capacity = s.recorder.capacity ∧
    (State.enterSafeNow s cause halt).recorder.badBlocks = s.recorder.badBlocks ∧
    (State.enterSafeNow s cause halt).recorder.buckets = s.recorder.buckets ∧
    (State.enterSafeNow s cause halt).recorder.rates = s.recorder.rates ∧
    (State.enterSafeNow s cause halt).recorder.frozenUntil = s.recorder.frozenUntil ∧
    (State.enterSafeNow s cause halt).recorder.staging = s.recorder.staging ∧
    (State.enterSafeNow s cause halt).recorder.lost = s.recorder.lost ∧
    (State.enterSafeNow s cause halt).recorder.firstLost = s.recorder.firstLost := by
  simp only [State.enterSafeNow]; (repeat' split) <;> simp [State.standDown_frame _ _, State.note_frame _ _ _,
        State.event_recorder_frame _ _ _ _ _ _ _ _, State.standDown_recorder_frame _ _,
        State.enterLockout_recorder_frame _ _ _ _]

theorem State.enterSafe_recorder_frame (s : State) (cause : ℕ) (halt : optParam Bool Bool.true) :
    (State.enterSafe s cause halt).recorder.ring = s.recorder.ring ∧
    (State.enterSafe s cause halt).recorder.next = s.recorder.next ∧
    (State.enterSafe s cause halt).recorder.capacity = s.recorder.capacity ∧
    (State.enterSafe s cause halt).recorder.badBlocks = s.recorder.badBlocks ∧
    (State.enterSafe s cause halt).recorder.buckets = s.recorder.buckets ∧
    (State.enterSafe s cause halt).recorder.rates = s.recorder.rates ∧
    (State.enterSafe s cause halt).recorder.frozenUntil = s.recorder.frozenUntil ∧
    (State.enterSafe s cause halt).recorder.staging = s.recorder.staging ∧
    (State.enterSafe s cause halt).recorder.lost = s.recorder.lost ∧
    (State.enterSafe s cause halt).recorder.firstLost = s.recorder.firstLost := by
  unfold State.enterSafe; (repeat' split) <;> simp [State.enterSafeNow_recorder_frame _ _ _, State.keepLockout_frame _]

theorem State.enterSafeNow_power_frame (s : State) (cause : ℕ) (halt : Bool) :
    (State.enterSafeNow s cause halt).power.cause = s.power.cause ∧
    (State.enterSafeNow s cause halt).power.fullForm = s.power.fullForm ∧
    (State.enterSafeNow s cause halt).power.startUs = s.power.startUs ∧
    (State.enterSafeNow s cause halt).power.supply = s.power.supply ∧
    (State.enterSafeNow s cause halt).power.logicMv = s.power.logicMv ∧
    (State.enterSafeNow s cause halt).power.boardTemp = s.power.boardTemp ∧
    (State.enterSafeNow s cause halt).power.hotTold = s.power.hotTold ∧
    (State.enterSafeNow s cause halt).power.cellFitted = s.power.cellFitted ∧
    (State.enterSafeNow s cause halt).power.cellMv = s.power.cellMv ∧
    (State.enterSafeNow s cause halt).power.cellLowTold = s.power.cellLowTold ∧
    (State.enterSafeNow s cause halt).power.cellGoneTold = s.power.cellGoneTold ∧
    (State.enterSafeNow s cause halt).power.slot = s.power.slot ∧
    (State.enterSafeNow s cause halt).power.causes = s.power.causes ∧
    (State.enterSafeNow s cause halt).power.testPassed = s.power.testPassed ∧
    (State.enterSafeNow s cause halt).power.testPassedUs = s.power.testPassedUs ∧
    (State.enterSafeNow s cause halt).power.dead = s.power.dead ∧
    (State.enterSafeNow s cause halt).power.faultLed = s.power.faultLed := by
  simp only [State.enterSafeNow]; (repeat' split) <;> simp [State.standDown_frame _ _, State.note_frame _ _ _,
        State.event_frame _ _ _ _ _ _ _ _, State.enterLockout_power_frame _ _ _ _]

theorem State.enterSafe_power_frame (s : State) (cause : ℕ) (halt : optParam Bool Bool.true) :
    (State.enterSafe s cause halt).power.cause = s.power.cause ∧
    (State.enterSafe s cause halt).power.fullForm = s.power.fullForm ∧
    (State.enterSafe s cause halt).power.startUs = s.power.startUs ∧
    (State.enterSafe s cause halt).power.supply = s.power.supply ∧
    (State.enterSafe s cause halt).power.logicMv = s.power.logicMv ∧
    (State.enterSafe s cause halt).power.boardTemp = s.power.boardTemp ∧
    (State.enterSafe s cause halt).power.hotTold = s.power.hotTold ∧
    (State.enterSafe s cause halt).power.cellFitted = s.power.cellFitted ∧
    (State.enterSafe s cause halt).power.cellMv = s.power.cellMv ∧
    (State.enterSafe s cause halt).power.cellLowTold = s.power.cellLowTold ∧
    (State.enterSafe s cause halt).power.cellGoneTold = s.power.cellGoneTold ∧
    (State.enterSafe s cause halt).power.slot = s.power.slot ∧
    (State.enterSafe s cause halt).power.causes = s.power.causes ∧
    (State.enterSafe s cause halt).power.testPassedUs = s.power.testPassedUs ∧
    (State.enterSafe s cause halt).power.dead = s.power.dead ∧
    (State.enterSafe s cause halt).power.faultLed = s.power.faultLed := by
  unfold State.enterSafe; (repeat' split) <;> simp [State.enterSafeNow_power_frame _ _ _, State.keepLockout_power_frame _]

theorem State.causeOn_power_frame (s : State) (code : ℕ) :
    (State.causeOn s code).power.state = s.power.state ∧ (State.causeOn s code).power.ledTest = s.power.ledTest ∧
    (State.causeOn s code).power.cause = s.power.cause ∧ (State.causeOn s code).power.fullForm = s.power.fullForm ∧
    (State.causeOn s code).power.startUs = s.power.startUs ∧ (State.causeOn s code).power.supply = s.power.supply ∧
    (State.causeOn s code).power.logicMv = s.power.logicMv ∧
    (State.causeOn s code).power.boardTemp = s.power.boardTemp ∧
    (State.causeOn s code).power.hotTold = s.power.hotTold ∧
    (State.causeOn s code).power.cellFitted = s.power.cellFitted ∧
    (State.causeOn s code).power.cellMv = s.power.cellMv ∧
    (State.causeOn s code).power.cellLowTold = s.power.cellLowTold ∧
    (State.causeOn s code).power.cellGoneTold = s.power.cellGoneTold ∧
    (State.causeOn s code).power.readyOff = s.power.readyOff ∧ (State.causeOn s code).power.slot = s.power.slot ∧
    (State.causeOn s code).power.record = s.power.record ∧ (State.causeOn s code).power.repeated = s.power.repeated
    ∧ (State.causeOn s code).power.lockoutCause = s.power.lockoutCause ∧
    (State.causeOn s code).power.entries = s.power.entries ∧ (State.causeOn s code).power.wasSafe = s.power.wasSafe
    ∧ (State.causeOn s code).power.testPassed = s.power.testPassed ∧
    (State.causeOn s code).power.testPassedUs = s.power.testPassedUs ∧
    (State.causeOn s code).power.dead = s.power.dead ∧ (State.causeOn s code).power.faultLed = s.power.faultLed := by
  unfold State.causeOn; (repeat' split) <;> simp

theorem State.causeOff_power_frame (s : State) (code : ℕ) :
    (State.causeOff s code).power.state = s.power.state ∧ (State.causeOff s code).power.ledTest = s.power.ledTest ∧
    (State.causeOff s code).power.cause = s.power.cause ∧ (State.causeOff s code).power.fullForm = s.power.fullForm
    ∧ (State.causeOff s code).power.startUs = s.power.startUs ∧
    (State.causeOff s code).power.supply = s.power.supply ∧ (State.causeOff s code).power.logicMv = s.power.logicMv
    ∧ (State.causeOff s code).power.boardTemp = s.power.boardTemp ∧
    (State.causeOff s code).power.hotTold = s.power.hotTold ∧
    (State.causeOff s code).power.cellFitted = s.power.cellFitted ∧
    (State.causeOff s code).power.cellMv = s.power.cellMv ∧
    (State.causeOff s code).power.cellLowTold = s.power.cellLowTold ∧
    (State.causeOff s code).power.cellGoneTold = s.power.cellGoneTold ∧
    (State.causeOff s code).power.readyOff = s.power.readyOff ∧ (State.causeOff s code).power.slot = s.power.slot ∧
    (State.causeOff s code).power.record = s.power.record ∧
    (State.causeOff s code).power.repeated = s.power.repeated ∧
    (State.causeOff s code).power.lockoutCause = s.power.lockoutCause ∧
    (State.causeOff s code).power.entries = s.power.entries ∧
    (State.causeOff s code).power.wasSafe = s.power.wasSafe ∧
    (State.causeOff s code).power.testPassed = s.power.testPassed ∧
    (State.causeOff s code).power.testPassedUs = s.power.testPassedUs ∧
    (State.causeOff s code).power.dead = s.power.dead ∧ (State.causeOff s code).power.faultLed = s.power.faultLed := by
  simp [State.causeOff]

theorem State.enterStop_bench_frame (s : State) (keep : optParam (Option Req) Option.none) :
    (State.enterStop s keep).bench.cycle = s.bench.cycle ∧
    (State.enterStop s keep).bench.nextCycle = s.bench.nextCycle ∧
    (State.enterStop s keep).bench.lastO = s.bench.lastO ∧ (State.enterStop s keep).bench.freezeUs = s.bench.freezeUs
    ∧ (State.enterStop s keep).bench.nextFreezeUs = s.bench.nextFreezeUs ∧
    (State.enterStop s keep).bench.first = s.bench.first ∧ (State.enterStop s keep).bench.overran = s.bench.overran ∧
    (State.enterStop s keep).bench.noCode = s.bench.noCode ∧
    (State.enterStop s keep).bench.challenge = s.bench.challenge := by
  simp [State.enterStop, State.dwellPause_frame _, State.flushNotes_frame _, State.discardWork_frame _ _,
        State.sendHalt_frame _, State.dwellPause_vote_frame _, State.flushNotes_bench_frame _,
        State.discardWork_bench_frame _ _, State.sendHalt_bench_frame _]

theorem State.enterStop_vote_frame (s : State) (keep : optParam (Option Req) Option.none) :
    (State.enterStop s keep).vote.slots = s.vote.slots ∧ (State.enterStop s keep).vote.lanes = s.vote.lanes ∧
    (State.enterStop s keep).vote.cores = s.vote.cores ∧
    (State.enterStop s keep).vote.transients = s.vote.transients ∧
    (State.enterStop s keep).vote.testing = s.vote.testing ∧
    (State.enterStop s keep).vote.laneCheck = s.vote.laneCheck ∧
    (State.enterStop s keep).vote.joining = s.vote.joining ∧
    (State.enterStop s keep).vote.joinReady = s.vote.joinReady ∧
    (State.enterStop s keep).vote.laneTurn = s.vote.laneTurn ∧
    (State.enterStop s keep).vote.dwellEntered = s.vote.dwellEntered ∧
    (State.enterStop s keep).vote.warned60 = s.vote.warned60 ∧
    (State.enterStop s keep).vote.warned10 = s.vote.warned10 ∧
    (State.enterStop s keep).vote.dwellExpired = s.vote.dwellExpired ∧
    (State.enterStop s keep).vote.accusations = s.vote.accusations ∧
    (State.enterStop s keep).vote.lastAccuse = s.vote.lastAccuse ∧
    (State.enterStop s keep).vote.sigGood = s.vote.sigGood ∧
    (State.enterStop s keep).vote.sigExpected = s.vote.sigExpected ∧
    (State.enterStop s keep).vote.lockstepBroken = s.vote.lockstepBroken ∧
    (State.enterStop s keep).vote.cause = s.vote.cause ∧
    (State.enterStop s keep).vote.verdictWord = s.vote.verdictWord := by
  simp [State.enterStop, State.dwellPause_frame _, State.flushNotes_frame _, State.discardWork_frame _ _,
        State.sendHalt_frame _, State.dwellPause_vote_frame _]

theorem State.enterStop_field_frame (s : State) (keep : optParam (Option Req) Option.none) :
    (State.enterStop s keep).field.inputs = s.field.inputs ∧ (State.enterStop s keep).field.sources = s.field.sources
    ∧ (State.enterStop s keep).field.outputs = s.field.outputs ∧
    (State.enterStop s keep).field.groups = s.field.groups ∧ (State.enterStop s keep).field.gridUs = s.field.gridUs ∧
    (State.enterStop s keep).field.fsSeq = s.field.fsSeq ∧ (State.enterStop s keep).field.flSeq = s.field.flSeq ∧
    (State.enterStop s keep).field.fsSent = s.field.fsSent ∧ (State.enterStop s keep).field.flSent = s.field.flSent ∧
    (State.enterStop s keep).field.fsMissed = s.field.fsMissed ∧
    (State.enterStop s keep).field.flMissed = s.field.flMissed ∧
    (State.enterStop s keep).field.missed = s.field.missed ∧
    (State.enterStop s keep).field.missedFs = s.field.missedFs ∧
    (State.enterStop s keep).field.missedFl = s.field.missedFl ∧
    (State.enterStop s keep).field.fsMost = s.field.fsMost ∧ (State.enterStop s keep).field.flMost = s.field.flMost ∧
    (State.enterStop s keep).field.reports = s.field.reports ∧
    (State.enterStop s keep).field.edgeLog = s.field.edgeLog ∧
    (State.enterStop s keep).field.fsEpoch = s.field.fsEpoch ∧
    (State.enterStop s keep).field.coreEpoch = s.field.coreEpoch ∧
    (State.enterStop s keep).field.coreEdges = s.field.coreEdges ∧
    (State.enterStop s keep).field.frames = s.field.frames ∧ (State.enterStop s keep).field.ashSeq = s.field.ashSeq ∧
    (State.enterStop s keep).field.ashSent = s.field.ashSent ∧
    (State.enterStop s keep).field.ashMissed = s.field.ashMissed ∧
    (State.enterStop s keep).field.imageSwitches = s.field.imageSwitches ∧
    (State.enterStop s keep).field.linkLost = s.field.linkLost ∧
    (State.enterStop s keep).field.config = s.field.config ∧
    (State.enterStop s keep).field.configCrc = s.field.configCrc ∧
    (State.enterStop s keep).field.collect = s.field.collect ∧
    (State.enterStop s keep).field.lastSetCrc = s.field.lastSetCrc ∧
    (State.enterStop s keep).field.segment = s.field.segment ∧ (State.enterStop s keep).field.values = s.field.values
    ∧ (State.enterStop s keep).field.valid = s.field.valid ∧ (State.enterStop s keep).field.stale = s.field.stale ∧
    (State.enterStop s keep).field.arrivalUs = s.field.arrivalUs ∧
    (State.enterStop s keep).field.crcSeen = s.field.crcSeen ∧
    (State.enterStop s keep).field.crcGood = s.field.crcGood ∧
    (State.enterStop s keep).field.imageOutputs = s.field.imageOutputs ∧
    (State.enterStop s keep).field.imageGroups = s.field.imageGroups ∧
    (State.enterStop s keep).field.prior = s.field.prior := by
  simp [State.enterStop, State.dwellPause_frame _, State.flushNotes_frame _, State.discardWork_frame _ _,
        State.sendHalt_frame _, State.dwellPause_vote_frame _, State.discardWork_field_frame _ _]

theorem State.enterStop_hi_frame (s : State) (keep : optParam (Option Req) Option.none) :
    (State.enterStop s keep).hi.state = s.hi.state ∧ (State.enterStop s keep).hi.m2 = s.hi.m2 ∧
    (State.enterStop s keep).hi.unstableCount = s.hi.unstableCount ∧
    (State.enterStop s keep).hi.eventMg = s.hi.eventMg ∧ (State.enterStop s keep).hi.eventCl = s.hi.eventCl ∧
    (State.enterStop s keep).hi.downMg = s.hi.downMg ∧ (State.enterStop s keep).hi.downCl = s.hi.downCl ∧
    (State.enterStop s keep).hi.stale = s.hi.stale ∧ (State.enterStop s keep).hi.unstable = s.hi.unstable ∧
    (State.enterStop s keep).hi.scratch = s.hi.scratch ∧ (State.enterStop s keep).hi.busy = s.hi.busy ∧
    (State.enterStop s keep).hi.tail = s.hi.tail ∧ (State.enterStop s keep).hi.irqMask = s.hi.irqMask ∧
    (State.enterStop s keep).hi.vectors = s.hi.vectors ∧ (State.enterStop s keep).hi.readData = s.hi.readData ∧
    (State.enterStop s keep).hi.unread = s.hi.unread ∧ (State.enterStop s keep).hi.subscribed = s.hi.subscribed ∧
    (State.enterStop s keep).hi.x8Subscribed = s.hi.x8Subscribed ∧ (State.enterStop s keep).hi.x8Dest = s.hi.x8Dest
    ∧ (State.enterStop s keep).hi.x8Last = s.hi.x8Last ∧ (State.enterStop s keep).hi.x8Short = s.hi.x8Short ∧
    (State.enterStop s keep).hi.x8Address = s.hi.x8Address ∧ (State.enterStop s keep).hi.x8Plen = s.hi.x8Plen ∧
    (State.enterStop s keep).hi.x8Gateway = s.hi.x8Gateway ∧ (State.enterStop s keep).hi.x8New = s.hi.x8New := by
  simp [State.enterStop, State.dwellPause_frame _, State.flushNotes_frame _, State.discardWork_frame _ _,
        State.sendHalt_frame _, State.dwellPause_vote_frame _, State.flushNotes_hi_frame _,
        State.discardWork_hi_frame _ _]

theorem State.enterStop_mg_frame (s : State) (keep : optParam (Option Req) Option.none) :
    (State.enterStop s keep).mg.alive = s.mg.alive ∧ (State.enterStop s keep).mg.arrival = s.mg.arrival ∧
    (State.enterStop s keep).mg.usedIds = s.mg.usedIds := by
  simp [State.enterStop, State.dwellPause_frame _, State.flushNotes_frame _, State.discardWork_frame _ _,
        State.sendHalt_frame _, State.dwellPause_vote_frame _, State.discardWork_mg_frame _ _]

theorem State.enterStop_power_frame (s : State) (keep : optParam (Option Req) Option.none) :
    (State.enterStop s keep).power.ledTest = s.power.ledTest ∧ (State.enterStop s keep).power.cause = s.power.cause
    ∧ (State.enterStop s keep).power.fullForm = s.power.fullForm ∧
    (State.enterStop s keep).power.startUs = s.power.startUs ∧
    (State.enterStop s keep).power.supply = s.power.supply ∧
    (State.enterStop s keep).power.logicMv = s.power.logicMv ∧
    (State.enterStop s keep).power.boardTemp = s.power.boardTemp ∧
    (State.enterStop s keep).power.hotTold = s.power.hotTold ∧
    (State.enterStop s keep).power.cellFitted = s.power.cellFitted ∧
    (State.enterStop s keep).power.cellMv = s.power.cellMv ∧
    (State.enterStop s keep).power.cellLowTold = s.power.cellLowTold ∧
    (State.enterStop s keep).power.cellGoneTold = s.power.cellGoneTold ∧
    (State.enterStop s keep).power.readyOff = s.power.readyOff ∧ (State.enterStop s keep).power.slot = s.power.slot
    ∧ (State.enterStop s keep).power.causes = s.power.causes ∧
    (State.enterStop s keep).power.record = s.power.record ∧
    (State.enterStop s keep).power.repeated = s.power.repeated ∧
    (State.enterStop s keep).power.lockoutCause = s.power.lockoutCause ∧
    (State.enterStop s keep).power.entries = s.power.entries ∧
    (State.enterStop s keep).power.wasSafe = s.power.wasSafe ∧
    (State.enterStop s keep).power.testPassed = s.power.testPassed ∧
    (State.enterStop s keep).power.testPassedUs = s.power.testPassedUs ∧
    (State.enterStop s keep).power.dead = s.power.dead ∧ (State.enterStop s keep).power.faultLed = s.power.faultLed := by
  simp [State.enterStop, State.dwellPause_frame _, State.flushNotes_frame _, State.discardWork_frame _ _,
        State.sendHalt_frame _, State.dwellPause_vote_frame _]

theorem State.fence_recorder_frame (s : State) (x : Crossing) :
    (State.fence s x).recorder.ring = s.recorder.ring ∧ (State.fence s x).recorder.next = s.recorder.next ∧
    (State.fence s x).recorder.capacity = s.recorder.capacity ∧
    (State.fence s x).recorder.badBlocks = s.recorder.badBlocks ∧
    (State.fence s x).recorder.buckets = s.recorder.buckets ∧ (State.fence s x).recorder.rates = s.recorder.rates ∧
    (State.fence s x).recorder.frozenUntil = s.recorder.frozenUntil ∧
    (State.fence s x).recorder.staging = s.recorder.staging ∧ (State.fence s x).recorder.lost = s.recorder.lost ∧
    (State.fence s x).recorder.firstLost = s.recorder.firstLost := by
  simp only [State.fence]; (repeat' split) <;> simp [State.event_recorder_frame _ _ _ _ _ _ _ _,
        State.setXing_frame _ _ _]

theorem State.fenceAll_recorder_frame (s : State) (l : List Crossing) :
    (State.fenceAll s l).recorder.ring = s.recorder.ring ∧ (State.fenceAll s l).recorder.next = s.recorder.next ∧
    (State.fenceAll s l).recorder.capacity = s.recorder.capacity ∧
    (State.fenceAll s l).recorder.badBlocks = s.recorder.badBlocks ∧
    (State.fenceAll s l).recorder.buckets = s.recorder.buckets ∧
    (State.fenceAll s l).recorder.rates = s.recorder.rates ∧
    (State.fenceAll s l).recorder.frozenUntil = s.recorder.frozenUntil ∧
    (State.fenceAll s l).recorder.staging = s.recorder.staging ∧
    (State.fenceAll s l).recorder.lost = s.recorder.lost ∧
    (State.fenceAll s l).recorder.firstLost = s.recorder.firstLost := by
  simp [State.fenceAll, State.fence_recorder_frame _ _]

end Sys2Proof.Machine
end

