-- ==== Sys2Proof/Laws/Operands.lean ====
section
/-! SUPPORT. What the operations of Machine/Operands.lean leave alone: one lemma for each, naming every part of the state that
it does not write. -/

namespace Sys2Proof.Machine

open Sys2Proof

theorem State.modDyn_frame (s : State) (i : ℕ) (f : ElemDyn → ElemDyn) :
    (State.modDyn s i f).unit = s.unit ∧ (State.modDyn s i f).opUs = s.opUs ∧
    (State.modDyn s i f).savedOpUs = s.savedOpUs ∧ (State.modDyn s i f).powerCycle = s.powerCycle ∧
    (State.modDyn s i f).epoch = s.epoch ∧ (State.modDyn s i f).power = s.power ∧ (State.modDyn s i f).rt = s.rt ∧
    (State.modDyn s i f).sec = s.sec ∧ (State.modDyn s i f).station = s.station ∧ (State.modDyn s i f).bench = s.bench
    ∧ (State.modDyn s i f).vote = s.vote ∧ (State.modDyn s i f).ash = s.ash ∧ (State.modDyn s i f).field = s.field ∧
    (State.modDyn s i f).can = s.can ∧ (State.modDyn s i f).net = s.net ∧ (State.modDyn s i f).hi = s.hi ∧
    (State.modDyn s i f).xings = s.xings ∧ (State.modDyn s i f).mg = s.mg ∧ (State.modDyn s i f).recorder = s.recorder
    ∧ (State.modDyn s i f).log = s.log ∧ (State.modDyn s i f).test = s.test ∧ (State.modDyn s i f).update = s.update ∧
    (State.modDyn s i f).draws = s.draws ∧ (State.modDyn s i f).outbox = s.outbox ∧ (State.modDyn s i f).diag = s.diag
    ∧ (State.modDyn s i f).pending = s.pending := by
  simp [State.modDyn]

theorem State.modRoute_frame (s : State) (n : ℕ) (f : RouteDyn → RouteDyn) :
    (State.modRoute s n f).unit = s.unit ∧ (State.modRoute s n f).opUs = s.opUs ∧
    (State.modRoute s n f).savedOpUs = s.savedOpUs ∧ (State.modRoute s n f).powerCycle = s.powerCycle ∧
    (State.modRoute s n f).epoch = s.epoch ∧ (State.modRoute s n f).power = s.power ∧ (State.modRoute s n f).rt = s.rt
    ∧ (State.modRoute s n f).sec = s.sec ∧ (State.modRoute s n f).station = s.station ∧
    (State.modRoute s n f).bench = s.bench ∧ (State.modRoute s n f).vote = s.vote ∧ (State.modRoute s n f).ash = s.ash
    ∧ (State.modRoute s n f).field = s.field ∧ (State.modRoute s n f).can = s.can ∧ (State.modRoute s n f).net = s.net
    ∧ (State.modRoute s n f).hi = s.hi ∧ (State.modRoute s n f).xings = s.xings ∧ (State.modRoute s n f).mg = s.mg ∧
    (State.modRoute s n f).recorder = s.recorder ∧ (State.modRoute s n f).log = s.log ∧
    (State.modRoute s n f).test = s.test ∧ (State.modRoute s n f).update = s.update ∧
    (State.modRoute s n f).draws = s.draws ∧ (State.modRoute s n f).outbox = s.outbox ∧
    (State.modRoute s n f).diag = s.diag ∧ (State.modRoute s n f).pending = s.pending := by
  simp [State.modRoute]

theorem State.modNode_frame (s : State) (id : ℕ) (f : NodeDyn → NodeDyn) :
    (State.modNode s id f).unit = s.unit ∧ (State.modNode s id f).opUs = s.opUs ∧
    (State.modNode s id f).savedOpUs = s.savedOpUs ∧ (State.modNode s id f).powerCycle = s.powerCycle ∧
    (State.modNode s id f).epoch = s.epoch ∧ (State.modNode s id f).power = s.power ∧ (State.modNode s id f).rt = s.rt
    ∧ (State.modNode s id f).sec = s.sec ∧ (State.modNode s id f).station = s.station ∧
    (State.modNode s id f).bench = s.bench ∧ (State.modNode s id f).eng = s.eng ∧ (State.modNode s id f).vote = s.vote
    ∧ (State.modNode s id f).ash = s.ash ∧ (State.modNode s id f).field = s.field ∧ (State.modNode s id f).can = s.can
    ∧ (State.modNode s id f).hi = s.hi ∧ (State.modNode s id f).xings = s.xings ∧ (State.modNode s id f).mg = s.mg ∧
    (State.modNode s id f).recorder = s.recorder ∧ (State.modNode s id f).log = s.log ∧
    (State.modNode s id f).test = s.test ∧ (State.modNode s id f).update = s.update ∧
    (State.modNode s id f).draws = s.draws ∧ (State.modNode s id f).outbox = s.outbox ∧
    (State.modNode s id f).diag = s.diag ∧ (State.modNode s id f).pending = s.pending := by
  simp [State.modNode]

theorem State.heard_frame (s : State) (q : Req) :
    (State.heard s q).unit = s.unit ∧ (State.heard s q).opUs = s.opUs ∧ (State.heard s q).savedOpUs = s.savedOpUs ∧
    (State.heard s q).powerCycle = s.powerCycle ∧ (State.heard s q).epoch = s.epoch ∧
    (State.heard s q).power = s.power ∧ (State.heard s q).rt = s.rt ∧ (State.heard s q).sec = s.sec ∧
    (State.heard s q).station = s.station ∧ (State.heard s q).bench = s.bench ∧ (State.heard s q).eng = s.eng ∧
    (State.heard s q).vote = s.vote ∧ (State.heard s q).ash = s.ash ∧ (State.heard s q).field = s.field ∧
    (State.heard s q).can = s.can ∧ (State.heard s q).net = s.net ∧ (State.heard s q).hi = s.hi ∧
    (State.heard s q).xings = s.xings ∧ (State.heard s q).recorder = s.recorder ∧ (State.heard s q).log = s.log ∧
    (State.heard s q).test = s.test ∧ (State.heard s q).update = s.update ∧ (State.heard s q).draws = s.draws ∧
    (State.heard s q).outbox = s.outbox ∧ (State.heard s q).diag = s.diag ∧ (State.heard s q).pending = s.pending
    := by
  simp [State.heard]

/-! ### Within a part of the state that it writes -/

theorem State.modDyn_eng_frame (s : State) (i : ℕ) (f : ElemDyn → ElemDyn) :
    (State.modDyn s i f).eng.routes = s.eng.routes ∧ (State.modDyn s i f).eng.queue = s.eng.queue ∧
    (State.modDyn s i f).eng.txns = s.eng.txns ∧ (State.modDyn s i f).eng.prepares = s.eng.prepares ∧
    (State.modDyn s i f).eng.waiting = s.eng.waiting ∧ (State.modDyn s i f).eng.holdEnd = s.eng.holdEnd ∧
    (State.modDyn s i f).eng.heldAreas = s.eng.heldAreas ∧ (State.modDyn s i f).eng.lastSeq = s.eng.lastSeq := by
  simp [State.modDyn]

theorem State.modRoute_eng_frame (s : State) (n : ℕ) (f : RouteDyn → RouteDyn) :
    (State.modRoute s n f).eng.elems = s.eng.elems ∧ (State.modRoute s n f).eng.queue = s.eng.queue ∧
    (State.modRoute s n f).eng.txns = s.eng.txns ∧ (State.modRoute s n f).eng.prepares = s.eng.prepares ∧
    (State.modRoute s n f).eng.waiting = s.eng.waiting ∧ (State.modRoute s n f).eng.holdEnd = s.eng.holdEnd ∧
    (State.modRoute s n f).eng.heldAreas = s.eng.heldAreas ∧ (State.modRoute s n f).eng.lastSeq = s.eng.lastSeq := by
  simp [State.modRoute]

theorem State.modNode_net_frame (s : State) (id : ℕ) (f : NodeDyn → NodeDyn) :
    (State.modNode s id f).net.buffer = s.net.buffer ∧
    (State.modNode s id f).net.bufferDropped = s.net.bufferDropped ∧
    (State.modNode s id f).net.accepted = s.net.accepted ∧ (State.modNode s id f).net.seen = s.net.seen ∧
    (State.modNode s id f).net.lans = s.net.lans ∧ (State.modNode s id f).net.listed = s.net.listed ∧
    (State.modNode s id f).net.listMalformed = s.net.listMalformed ∧
    (State.modNode s id f).net.disagreements = s.net.disagreements ∧
    (State.modNode s id f).net.counters = s.net.counters ∧ (State.modNode s id f).net.prpSeq = s.net.prpSeq ∧
    (State.modNode s id f).net.supervisionUs = s.net.supervisionUs := by
  simp [State.modNode]

theorem State.heard_mg_frame (s : State) (q : Req) :
    (State.heard s q).mg.alive = s.mg.alive ∧ (State.heard s q).mg.arrival = s.mg.arrival ∧
    (State.heard s q).mg.queue = s.mg.queue ∧ (State.heard s q).mg.outstanding = s.mg.outstanding ∧
    (State.heard s q).mg.voided = s.mg.voided ∧ (State.heard s q).mg.usedIds = s.mg.usedIds := by
  simp [State.heard]

end Sys2Proof.Machine
end

