-- ==== Sys2Proof/Laws/Flags.lean ====
section
/-! SUPPORT. What the operations of Machine/Flags.lean leave alone: one lemma for each, naming every part of the state that
it does not write. -/

namespace Sys2Proof.Machine

open Sys2Proof

theorem State.settle_frame (s : State) :
    (State.settle s).unit = s.unit ∧ (State.settle s).opUs = s.opUs ∧ (State.settle s).savedOpUs = s.savedOpUs ∧
    (State.settle s).powerCycle = s.powerCycle ∧ (State.settle s).epoch = s.epoch ∧ (State.settle s).power = s.power ∧
    (State.settle s).rt = s.rt ∧ (State.settle s).sec = s.sec ∧ (State.settle s).station = s.station ∧
    (State.settle s).bench = s.bench ∧ (State.settle s).eng = s.eng ∧ (State.settle s).vote = s.vote ∧
    (State.settle s).ash = s.ash ∧ (State.settle s).field = s.field ∧ (State.settle s).can = s.can ∧
    (State.settle s).net = s.net ∧ (State.settle s).xings = s.xings ∧ (State.settle s).mg = s.mg ∧
    (State.settle s).recorder = s.recorder ∧ (State.settle s).log = s.log ∧ (State.settle s).test = s.test ∧
    (State.settle s).update = s.update ∧ (State.settle s).draws = s.draws ∧ (State.settle s).outbox = s.outbox ∧
    (State.settle s).diag = s.diag ∧ (State.settle s).pending = s.pending := by
  simp [State.settle]

end Sys2Proof.Machine
end

