-- ==== Sys2Proof/Laws/Engine.lean ====
section
/-! SUPPORT. What the operations of Machine/Engine.lean leave alone: one lemma for each, naming every part of the state that
it does not write. -/

namespace Sys2Proof.Machine

open Sys2Proof

theorem State.setValue_frame (s : State) (i : ℕ) (v : ℕ) :
    (State.setValue s i v).unit = s.unit ∧ (State.setValue s i v).opUs = s.opUs ∧
    (State.setValue s i v).savedOpUs = s.savedOpUs ∧ (State.setValue s i v).powerCycle = s.powerCycle ∧
    (State.setValue s i v).epoch = s.epoch ∧ (State.setValue s i v).power = s.power ∧ (State.setValue s i v).rt = s.rt
    ∧ (State.setValue s i v).sec = s.sec ∧ (State.setValue s i v).station = s.station ∧
    (State.setValue s i v).bench = s.bench ∧ (State.setValue s i v).vote = s.vote ∧ (State.setValue s i v).ash = s.ash
    ∧ (State.setValue s i v).field = s.field ∧ (State.setValue s i v).can = s.can ∧ (State.setValue s i v).net = s.net
    ∧ (State.setValue s i v).hi = s.hi ∧ (State.setValue s i v).xings = s.xings ∧ (State.setValue s i v).mg = s.mg ∧
    (State.setValue s i v).recorder = s.recorder ∧ (State.setValue s i v).log = s.log ∧
    (State.setValue s i v).test = s.test ∧ (State.setValue s i v).update = s.update ∧
    (State.setValue s i v).draws = s.draws ∧ (State.setValue s i v).outbox = s.outbox ∧
    (State.setValue s i v).diag = s.diag ∧ (State.setValue s i v).pending = s.pending := by
  simp [State.setValue, State.modDyn_frame _ _ _]

theorem State.demandOf_frame (s : State) (i : ℕ) (v : ℕ) :
    (State.demandOf s i v).unit = s.unit ∧ (State.demandOf s i v).opUs = s.opUs ∧
    (State.demandOf s i v).savedOpUs = s.savedOpUs ∧ (State.demandOf s i v).powerCycle = s.powerCycle ∧
    (State.demandOf s i v).epoch = s.epoch ∧ (State.demandOf s i v).power = s.power ∧ (State.demandOf s i v).rt = s.rt
    ∧ (State.demandOf s i v).sec = s.sec ∧ (State.demandOf s i v).station = s.station ∧
    (State.demandOf s i v).bench = s.bench ∧ (State.demandOf s i v).vote = s.vote ∧ (State.demandOf s i v).ash = s.ash
    ∧ (State.demandOf s i v).field = s.field ∧ (State.demandOf s i v).can = s.can ∧ (State.demandOf s i v).net = s.net
    ∧ (State.demandOf s i v).hi = s.hi ∧ (State.demandOf s i v).xings = s.xings ∧ (State.demandOf s i v).mg = s.mg ∧
    (State.demandOf s i v).recorder = s.recorder ∧ (State.demandOf s i v).log = s.log ∧
    (State.demandOf s i v).test = s.test ∧ (State.demandOf s i v).update = s.update ∧
    (State.demandOf s i v).draws = s.draws ∧ (State.demandOf s i v).outbox = s.outbox ∧
    (State.demandOf s i v).diag = s.diag ∧ (State.demandOf s i v).pending = s.pending := by
  simp [State.demandOf, State.modDyn_frame _ _ _]

theorem State.startTxn_frame (s : State) (k : TxnKind) (i : ℕ) (v : ℕ) (limitUs : ℕ) :
    (State.startTxn s k i v limitUs).unit = s.unit ∧ (State.startTxn s k i v limitUs).opUs = s.opUs ∧
    (State.startTxn s k i v limitUs).savedOpUs = s.savedOpUs ∧
    (State.startTxn s k i v limitUs).powerCycle = s.powerCycle ∧ (State.startTxn s k i v limitUs).epoch = s.epoch ∧
    (State.startTxn s k i v limitUs).power = s.power ∧ (State.startTxn s k i v limitUs).rt = s.rt ∧
    (State.startTxn s k i v limitUs).sec = s.sec ∧ (State.startTxn s k i v limitUs).station = s.station ∧
    (State.startTxn s k i v limitUs).bench = s.bench ∧ (State.startTxn s k i v limitUs).vote = s.vote ∧
    (State.startTxn s k i v limitUs).ash = s.ash ∧ (State.startTxn s k i v limitUs).field = s.field ∧
    (State.startTxn s k i v limitUs).can = s.can ∧ (State.startTxn s k i v limitUs).net = s.net ∧
    (State.startTxn s k i v limitUs).hi = s.hi ∧ (State.startTxn s k i v limitUs).xings = s.xings ∧
    (State.startTxn s k i v limitUs).mg = s.mg ∧ (State.startTxn s k i v limitUs).recorder = s.recorder ∧
    (State.startTxn s k i v limitUs).log = s.log ∧ (State.startTxn s k i v limitUs).test = s.test ∧
    (State.startTxn s k i v limitUs).update = s.update ∧ (State.startTxn s k i v limitUs).draws = s.draws ∧
    (State.startTxn s k i v limitUs).outbox = s.outbox ∧ (State.startTxn s k i v limitUs).diag = s.diag ∧
    (State.startTxn s k i v limitUs).pending = s.pending := by
  simp [State.startTxn]

theorem State.slotLate_frame (s : State) :
    (State.slotLate s).unit = s.unit ∧ (State.slotLate s).opUs = s.opUs ∧ (State.slotLate s).savedOpUs = s.savedOpUs ∧
    (State.slotLate s).powerCycle = s.powerCycle ∧ (State.slotLate s).epoch = s.epoch ∧
    (State.slotLate s).power = s.power ∧ (State.slotLate s).rt = s.rt ∧ (State.slotLate s).sec = s.sec ∧
    (State.slotLate s).station = s.station ∧ (State.slotLate s).bench = s.bench ∧ (State.slotLate s).vote = s.vote ∧
    (State.slotLate s).ash = s.ash ∧ (State.slotLate s).field = s.field ∧ (State.slotLate s).can = s.can ∧
    (State.slotLate s).net = s.net ∧ (State.slotLate s).hi = s.hi ∧ (State.slotLate s).xings = s.xings ∧
    (State.slotLate s).mg = s.mg ∧ (State.slotLate s).recorder = s.recorder ∧ (State.slotLate s).log = s.log ∧
    (State.slotLate s).test = s.test ∧ (State.slotLate s).update = s.update ∧ (State.slotLate s).draws = s.draws ∧
    (State.slotLate s).outbox = s.outbox ∧ (State.slotLate s).diag = s.diag ∧ (State.slotLate s).pending = s.pending
    := by
  simp [State.slotLate]

theorem State.commandStop_frame (s : State) (i : ℕ) :
    (State.commandStop s i).unit = s.unit ∧ (State.commandStop s i).opUs = s.opUs ∧
    (State.commandStop s i).savedOpUs = s.savedOpUs ∧ (State.commandStop s i).powerCycle = s.powerCycle ∧
    (State.commandStop s i).epoch = s.epoch ∧ (State.commandStop s i).power = s.power ∧
    (State.commandStop s i).rt = s.rt ∧ (State.commandStop s i).sec = s.sec ∧
    (State.commandStop s i).station = s.station ∧ (State.commandStop s i).bench = s.bench ∧
    (State.commandStop s i).vote = s.vote ∧ (State.commandStop s i).ash = s.ash ∧
    (State.commandStop s i).field = s.field ∧ (State.commandStop s i).can = s.can ∧
    (State.commandStop s i).net = s.net ∧ (State.commandStop s i).hi = s.hi ∧ (State.commandStop s i).xings = s.xings
    ∧ (State.commandStop s i).mg = s.mg ∧ (State.commandStop s i).recorder = s.recorder ∧
    (State.commandStop s i).log = s.log ∧ (State.commandStop s i).test = s.test ∧
    (State.commandStop s i).update = s.update ∧ (State.commandStop s i).draws = s.draws ∧
    (State.commandStop s i).outbox = s.outbox ∧ (State.commandStop s i).diag = s.diag ∧
    (State.commandStop s i).pending = s.pending := by
  simp [State.commandStop, State.demandOf_frame _ _ _, State.startTxn_frame _ _ _ _ _]

theorem State.takeLocks_frame (s : State) (n : ℕ) (r : Route) :
    (State.takeLocks s n r).unit = s.unit ∧ (State.takeLocks s n r).opUs = s.opUs ∧
    (State.takeLocks s n r).savedOpUs = s.savedOpUs ∧ (State.takeLocks s n r).powerCycle = s.powerCycle ∧
    (State.takeLocks s n r).epoch = s.epoch ∧ (State.takeLocks s n r).power = s.power ∧
    (State.takeLocks s n r).rt = s.rt ∧ (State.takeLocks s n r).sec = s.sec ∧
    (State.takeLocks s n r).station = s.station ∧ (State.takeLocks s n r).bench = s.bench ∧
    (State.takeLocks s n r).vote = s.vote ∧ (State.takeLocks s n r).ash = s.ash ∧
    (State.takeLocks s n r).field = s.field ∧ (State.takeLocks s n r).can = s.can ∧
    (State.takeLocks s n r).net = s.net ∧ (State.takeLocks s n r).hi = s.hi ∧ (State.takeLocks s n r).xings = s.xings
    ∧ (State.takeLocks s n r).mg = s.mg ∧ (State.takeLocks s n r).recorder = s.recorder ∧
    (State.takeLocks s n r).log = s.log ∧ (State.takeLocks s n r).test = s.test ∧
    (State.takeLocks s n r).update = s.update ∧ (State.takeLocks s n r).draws = s.draws ∧
    (State.takeLocks s n r).outbox = s.outbox ∧ (State.takeLocks s n r).diag = s.diag ∧
    (State.takeLocks s n r).pending = s.pending := by
  simp [State.takeLocks, State.modDyn_frame _ _ _]

theorem State.dropLocks_frame (s : State) (n : ℕ) :
    (State.dropLocks s n).unit = s.unit ∧ (State.dropLocks s n).opUs = s.opUs ∧
    (State.dropLocks s n).savedOpUs = s.savedOpUs ∧ (State.dropLocks s n).powerCycle = s.powerCycle ∧
    (State.dropLocks s n).epoch = s.epoch ∧ (State.dropLocks s n).power = s.power ∧ (State.dropLocks s n).rt = s.rt ∧
    (State.dropLocks s n).sec = s.sec ∧ (State.dropLocks s n).station = s.station ∧
    (State.dropLocks s n).bench = s.bench ∧ (State.dropLocks s n).vote = s.vote ∧ (State.dropLocks s n).ash = s.ash ∧
    (State.dropLocks s n).field = s.field ∧ (State.dropLocks s n).can = s.can ∧ (State.dropLocks s n).net = s.net ∧
    (State.dropLocks s n).hi = s.hi ∧ (State.dropLocks s n).xings = s.xings ∧ (State.dropLocks s n).mg = s.mg ∧
    (State.dropLocks s n).recorder = s.recorder ∧ (State.dropLocks s n).log = s.log ∧
    (State.dropLocks s n).test = s.test ∧ (State.dropLocks s n).update = s.update ∧
    (State.dropLocks s n).draws = s.draws ∧ (State.dropLocks s n).outbox = s.outbox ∧
    (State.dropLocks s n).diag = s.diag ∧ (State.dropLocks s n).pending = s.pending := by
  simp [State.dropLocks]

theorem State.releaseGroup_frame (s : State) (n : ℕ) (r : Route) (g : ℕ) :
    (State.releaseGroup s n r g).unit = s.unit ∧ (State.releaseGroup s n r g).opUs = s.opUs ∧
    (State.releaseGroup s n r g).savedOpUs = s.savedOpUs ∧ (State.releaseGroup s n r g).powerCycle = s.powerCycle ∧
    (State.releaseGroup s n r g).epoch = s.epoch ∧ (State.releaseGroup s n r g).power = s.power ∧
    (State.releaseGroup s n r g).rt = s.rt ∧ (State.releaseGroup s n r g).sec = s.sec ∧
    (State.releaseGroup s n r g).station = s.station ∧ (State.releaseGroup s n r g).bench = s.bench ∧
    (State.releaseGroup s n r g).vote = s.vote ∧ (State.releaseGroup s n r g).ash = s.ash ∧
    (State.releaseGroup s n r g).field = s.field ∧ (State.releaseGroup s n r g).can = s.can ∧
    (State.releaseGroup s n r g).net = s.net ∧ (State.releaseGroup s n r g).hi = s.hi ∧
    (State.releaseGroup s n r g).xings = s.xings ∧ (State.releaseGroup s n r g).mg = s.mg ∧
    (State.releaseGroup s n r g).recorder = s.recorder ∧ (State.releaseGroup s n r g).log = s.log ∧
    (State.releaseGroup s n r g).test = s.test ∧ (State.releaseGroup s n r g).update = s.update ∧
    (State.releaseGroup s n r g).draws = s.draws ∧ (State.releaseGroup s n r g).outbox = s.outbox ∧
    (State.releaseGroup s n r g).diag = s.diag ∧ (State.releaseGroup s n r g).pending = s.pending := by
  simp [State.releaseGroup, State.modDyn_frame _ _ _]

theorem State.learnThrow_frame (s : State) (i : ℕ) (ms : ℕ) :
    (State.learnThrow s i ms).unit = s.unit ∧ (State.learnThrow s i ms).opUs = s.opUs ∧
    (State.learnThrow s i ms).savedOpUs = s.savedOpUs ∧ (State.learnThrow s i ms).powerCycle = s.powerCycle ∧
    (State.learnThrow s i ms).epoch = s.epoch ∧ (State.learnThrow s i ms).power = s.power ∧
    (State.learnThrow s i ms).rt = s.rt ∧ (State.learnThrow s i ms).sec = s.sec ∧
    (State.learnThrow s i ms).station = s.station ∧ (State.learnThrow s i ms).bench = s.bench ∧
    (State.learnThrow s i ms).vote = s.vote ∧ (State.learnThrow s i ms).ash = s.ash ∧
    (State.learnThrow s i ms).field = s.field ∧ (State.learnThrow s i ms).can = s.can ∧
    (State.learnThrow s i ms).net = s.net ∧ (State.learnThrow s i ms).hi = s.hi ∧
    (State.learnThrow s i ms).xings = s.xings ∧ (State.learnThrow s i ms).mg = s.mg ∧
    (State.learnThrow s i ms).log = s.log ∧ (State.learnThrow s i ms).test = s.test ∧
    (State.learnThrow s i ms).update = s.update ∧ (State.learnThrow s i ms).draws = s.draws ∧
    (State.learnThrow s i ms).outbox = s.outbox ∧ (State.learnThrow s i ms).diag = s.diag ∧
    (State.learnThrow s i ms).pending = s.pending := by
  simp [State.learnThrow, State.event_frame _ _ _ _ _ _ _ _, State.modDyn_frame _ _ _]

theorem State.learnLeaf_frame (s : State) (i : ℕ) :
    (State.learnLeaf s i).unit = s.unit ∧ (State.learnLeaf s i).opUs = s.opUs ∧
    (State.learnLeaf s i).savedOpUs = s.savedOpUs ∧ (State.learnLeaf s i).powerCycle = s.powerCycle ∧
    (State.learnLeaf s i).epoch = s.epoch ∧ (State.learnLeaf s i).power = s.power ∧ (State.learnLeaf s i).rt = s.rt ∧
    (State.learnLeaf s i).sec = s.sec ∧ (State.learnLeaf s i).station = s.station ∧
    (State.learnLeaf s i).bench = s.bench ∧ (State.learnLeaf s i).vote = s.vote ∧ (State.learnLeaf s i).ash = s.ash ∧
    (State.learnLeaf s i).field = s.field ∧ (State.learnLeaf s i).can = s.can ∧ (State.learnLeaf s i).net = s.net ∧
    (State.learnLeaf s i).hi = s.hi ∧ (State.learnLeaf s i).xings = s.xings ∧ (State.learnLeaf s i).mg = s.mg ∧
    (State.learnLeaf s i).log = s.log ∧ (State.learnLeaf s i).test = s.test ∧ (State.learnLeaf s i).update = s.update
    ∧ (State.learnLeaf s i).draws = s.draws ∧ (State.learnLeaf s i).outbox = s.outbox ∧
    (State.learnLeaf s i).diag = s.diag ∧ (State.learnLeaf s i).pending = s.pending := by
  simp [State.learnLeaf, State.modDyn_frame _ _ _, State.event_frame _ _ _ _ _ _ _ _]

theorem State.tellFault_frame (s : State) (i : ℕ) :
    (State.tellFault s i).unit = s.unit ∧ (State.tellFault s i).opUs = s.opUs ∧
    (State.tellFault s i).savedOpUs = s.savedOpUs ∧ (State.tellFault s i).powerCycle = s.powerCycle ∧
    (State.tellFault s i).epoch = s.epoch ∧ (State.tellFault s i).power = s.power ∧ (State.tellFault s i).rt = s.rt ∧
    (State.tellFault s i).sec = s.sec ∧ (State.tellFault s i).station = s.station ∧
    (State.tellFault s i).vote = s.vote ∧ (State.tellFault s i).ash = s.ash ∧ (State.tellFault s i).field = s.field ∧
    (State.tellFault s i).can = s.can ∧ (State.tellFault s i).net = s.net ∧ (State.tellFault s i).xings = s.xings ∧
    (State.tellFault s i).mg = s.mg ∧ (State.tellFault s i).recorder = s.recorder ∧ (State.tellFault s i).log = s.log
    ∧ (State.tellFault s i).test = s.test ∧ (State.tellFault s i).update = s.update ∧
    (State.tellFault s i).draws = s.draws ∧ (State.tellFault s i).diag = s.diag ∧
    (State.tellFault s i).pending = s.pending := by
  simp [State.tellFault, State.modDyn_frame _ _ _, State.noteCluster_frame _ _ _]

theorem State.tellFaults_frame (s : State) :
    (State.tellFaults s).unit = s.unit ∧ (State.tellFaults s).opUs = s.opUs ∧
    (State.tellFaults s).savedOpUs = s.savedOpUs ∧ (State.tellFaults s).powerCycle = s.powerCycle ∧
    (State.tellFaults s).epoch = s.epoch ∧ (State.tellFaults s).power = s.power ∧ (State.tellFaults s).rt = s.rt ∧
    (State.tellFaults s).sec = s.sec ∧ (State.tellFaults s).station = s.station ∧ (State.tellFaults s).vote = s.vote ∧
    (State.tellFaults s).ash = s.ash ∧ (State.tellFaults s).field = s.field ∧ (State.tellFaults s).can = s.can ∧
    (State.tellFaults s).net = s.net ∧ (State.tellFaults s).xings = s.xings ∧ (State.tellFaults s).mg = s.mg ∧
    (State.tellFaults s).recorder = s.recorder ∧ (State.tellFaults s).log = s.log ∧ (State.tellFaults s).test = s.test
    ∧ (State.tellFaults s).update = s.update ∧ (State.tellFaults s).draws = s.draws ∧
    (State.tellFaults s).diag = s.diag ∧ (State.tellFaults s).pending = s.pending := by
  simp [State.tellFaults, State.tellFault_frame _ _]

/-! ### Within a part of the state that it writes -/

theorem State.setValue_eng_frame (s : State) (i : ℕ) (v : ℕ) :
    (State.setValue s i v).eng.routes = s.eng.routes ∧ (State.setValue s i v).eng.queue = s.eng.queue ∧
    (State.setValue s i v).eng.txns = s.eng.txns ∧ (State.setValue s i v).eng.prepares = s.eng.prepares ∧
    (State.setValue s i v).eng.waiting = s.eng.waiting ∧ (State.setValue s i v).eng.holdEnd = s.eng.holdEnd ∧
    (State.setValue s i v).eng.heldAreas = s.eng.heldAreas ∧ (State.setValue s i v).eng.lastSeq = s.eng.lastSeq := by
  simp [State.setValue, State.modDyn_eng_frame _ _ _]

theorem State.demandOf_eng_frame (s : State) (i : ℕ) (v : ℕ) :
    (State.demandOf s i v).eng.routes = s.eng.routes ∧ (State.demandOf s i v).eng.queue = s.eng.queue ∧
    (State.demandOf s i v).eng.txns = s.eng.txns ∧ (State.demandOf s i v).eng.prepares = s.eng.prepares ∧
    (State.demandOf s i v).eng.waiting = s.eng.waiting ∧ (State.demandOf s i v).eng.holdEnd = s.eng.holdEnd ∧
    (State.demandOf s i v).eng.heldAreas = s.eng.heldAreas ∧ (State.demandOf s i v).eng.lastSeq = s.eng.lastSeq := by
  simp [State.demandOf, State.modDyn_eng_frame _ _ _]

theorem State.startTxn_eng_frame (s : State) (k : TxnKind) (i : ℕ) (v : ℕ) (limitUs : ℕ) :
    (State.startTxn s k i v limitUs).eng.elems = s.eng.elems ∧
    (State.startTxn s k i v limitUs).eng.routes = s.eng.routes ∧
    (State.startTxn s k i v limitUs).eng.queue = s.eng.queue ∧
    (State.startTxn s k i v limitUs).eng.prepares = s.eng.prepares ∧
    (State.startTxn s k i v limitUs).eng.waiting = s.eng.waiting ∧
    (State.startTxn s k i v limitUs).eng.holdEnd = s.eng.holdEnd ∧
    (State.startTxn s k i v limitUs).eng.heldAreas = s.eng.heldAreas ∧
    (State.startTxn s k i v limitUs).eng.lastSeq = s.eng.lastSeq := by
  simp [State.startTxn]

theorem State.slotLate_eng_frame (s : State) :
    (State.slotLate s).eng.elems = s.eng.elems ∧ (State.slotLate s).eng.routes = s.eng.routes ∧
    (State.slotLate s).eng.queue = s.eng.queue ∧ (State.slotLate s).eng.prepares = s.eng.prepares ∧
    (State.slotLate s).eng.waiting = s.eng.waiting ∧ (State.slotLate s).eng.holdEnd = s.eng.holdEnd ∧
    (State.slotLate s).eng.heldAreas = s.eng.heldAreas ∧ (State.slotLate s).eng.lastSeq = s.eng.lastSeq := by
  simp [State.slotLate]

theorem State.commandStop_eng_frame (s : State) (i : ℕ) :
    (State.commandStop s i).eng.routes = s.eng.routes ∧ (State.commandStop s i).eng.queue = s.eng.queue ∧
    (State.commandStop s i).eng.prepares = s.eng.prepares ∧ (State.commandStop s i).eng.waiting = s.eng.waiting ∧
    (State.commandStop s i).eng.holdEnd = s.eng.holdEnd ∧ (State.commandStop s i).eng.heldAreas = s.eng.heldAreas ∧
    (State.commandStop s i).eng.lastSeq = s.eng.lastSeq := by
  simp only [State.commandStop]; (repeat' split) <;> simp [State.startTxn_eng_frame _ _ _ _ _,
        State.demandOf_eng_frame _ _ _]

theorem State.takeLocks_eng_frame (s : State) (n : ℕ) (r : Route) :
    (State.takeLocks s n r).eng.routes = s.eng.routes ∧ (State.takeLocks s n r).eng.queue = s.eng.queue ∧
    (State.takeLocks s n r).eng.txns = s.eng.txns ∧ (State.takeLocks s n r).eng.prepares = s.eng.prepares ∧
    (State.takeLocks s n r).eng.waiting = s.eng.waiting ∧ (State.takeLocks s n r).eng.holdEnd = s.eng.holdEnd ∧
    (State.takeLocks s n r).eng.heldAreas = s.eng.heldAreas ∧ (State.takeLocks s n r).eng.lastSeq = s.eng.lastSeq := by
  simp [State.takeLocks, State.modDyn_eng_frame _ _ _]

theorem State.dropLocks_eng_frame (s : State) (n : ℕ) :
    (State.dropLocks s n).eng.routes = s.eng.routes ∧ (State.dropLocks s n).eng.queue = s.eng.queue ∧
    (State.dropLocks s n).eng.txns = s.eng.txns ∧ (State.dropLocks s n).eng.prepares = s.eng.prepares ∧
    (State.dropLocks s n).eng.waiting = s.eng.waiting ∧ (State.dropLocks s n).eng.holdEnd = s.eng.holdEnd ∧
    (State.dropLocks s n).eng.heldAreas = s.eng.heldAreas ∧ (State.dropLocks s n).eng.lastSeq = s.eng.lastSeq := by
  simp [State.dropLocks]

theorem State.releaseGroup_eng_frame (s : State) (n : ℕ) (r : Route) (g : ℕ) :
    (State.releaseGroup s n r g).eng.routes = s.eng.routes ∧ (State.releaseGroup s n r g).eng.queue = s.eng.queue ∧
    (State.releaseGroup s n r g).eng.txns = s.eng.txns ∧ (State.releaseGroup s n r g).eng.prepares = s.eng.prepares
    ∧ (State.releaseGroup s n r g).eng.waiting = s.eng.waiting ∧
    (State.releaseGroup s n r g).eng.holdEnd = s.eng.holdEnd ∧
    (State.releaseGroup s n r g).eng.heldAreas = s.eng.heldAreas ∧
    (State.releaseGroup s n r g).eng.lastSeq = s.eng.lastSeq := by
  simp [State.releaseGroup, State.modDyn_eng_frame _ _ _]

theorem State.learnThrow_eng_frame (s : State) (i : ℕ) (ms : ℕ) :
    (State.learnThrow s i ms).eng.routes = s.eng.routes ∧ (State.learnThrow s i ms).eng.queue = s.eng.queue ∧
    (State.learnThrow s i ms).eng.txns = s.eng.txns ∧ (State.learnThrow s i ms).eng.prepares = s.eng.prepares ∧
    (State.learnThrow s i ms).eng.waiting = s.eng.waiting ∧ (State.learnThrow s i ms).eng.holdEnd = s.eng.holdEnd ∧
    (State.learnThrow s i ms).eng.heldAreas = s.eng.heldAreas ∧
    (State.learnThrow s i ms).eng.lastSeq = s.eng.lastSeq := by
  unfold State.learnThrow; (repeat' split) <;> simp [State.event_frame _ _ _ _ _ _ _ _, State.modDyn_eng_frame _ _ _]

theorem State.learnThrow_recorder_frame (s : State) (i : ℕ) (ms : ℕ) :
    (State.learnThrow s i ms).recorder.ring = s.recorder.ring ∧
    (State.learnThrow s i ms).recorder.next = s.recorder.next ∧
    (State.learnThrow s i ms).recorder.capacity = s.recorder.capacity ∧
    (State.learnThrow s i ms).recorder.badBlocks = s.recorder.badBlocks ∧
    (State.learnThrow s i ms).recorder.buckets = s.recorder.buckets ∧
    (State.learnThrow s i ms).recorder.rates = s.recorder.rates ∧
    (State.learnThrow s i ms).recorder.frozenUntil = s.recorder.frozenUntil ∧
    (State.learnThrow s i ms).recorder.staging = s.recorder.staging ∧
    (State.learnThrow s i ms).recorder.lost = s.recorder.lost ∧
    (State.learnThrow s i ms).recorder.firstLost = s.recorder.firstLost := by
  simp only [State.learnThrow]; (repeat' split) <;> simp [State.modDyn_frame _ _ _,
        State.event_recorder_frame _ _ _ _ _ _ _ _]

theorem State.learnLeaf_eng_frame (s : State) (i : ℕ) :
    (State.learnLeaf s i).eng.routes = s.eng.routes ∧ (State.learnLeaf s i).eng.queue = s.eng.queue ∧
    (State.learnLeaf s i).eng.txns = s.eng.txns ∧ (State.learnLeaf s i).eng.prepares = s.eng.prepares ∧
    (State.learnLeaf s i).eng.waiting = s.eng.waiting ∧ (State.learnLeaf s i).eng.holdEnd = s.eng.holdEnd ∧
    (State.learnLeaf s i).eng.heldAreas = s.eng.heldAreas ∧ (State.learnLeaf s i).eng.lastSeq = s.eng.lastSeq := by
  simp only [State.learnLeaf]; (repeat' split) <;> simp [State.modDyn_eng_frame _ _ _,
        State.event_frame _ _ _ _ _ _ _ _]

theorem State.learnLeaf_recorder_frame (s : State) (i : ℕ) :
    (State.learnLeaf s i).recorder.ring = s.recorder.ring ∧ (State.learnLeaf s i).recorder.next = s.recorder.next ∧
    (State.learnLeaf s i).recorder.capacity = s.recorder.capacity ∧
    (State.learnLeaf s i).recorder.badBlocks = s.recorder.badBlocks ∧
    (State.learnLeaf s i).recorder.buckets = s.recorder.buckets ∧
    (State.learnLeaf s i).recorder.rates = s.recorder.rates ∧
    (State.learnLeaf s i).recorder.frozenUntil = s.recorder.frozenUntil ∧
    (State.learnLeaf s i).recorder.staging = s.recorder.staging ∧
    (State.learnLeaf s i).recorder.lost = s.recorder.lost ∧
    (State.learnLeaf s i).recorder.firstLost = s.recorder.firstLost := by
  simp only [State.learnLeaf]; (repeat' split) <;> simp [State.modDyn_frame _ _ _,
        State.event_recorder_frame _ _ _ _ _ _ _ _]

theorem State.tellFault_eng_frame (s : State) (i : ℕ) :
    (State.tellFault s i).eng.routes = s.eng.routes ∧ (State.tellFault s i).eng.queue = s.eng.queue ∧
    (State.tellFault s i).eng.txns = s.eng.txns ∧ (State.tellFault s i).eng.prepares = s.eng.prepares ∧
    (State.tellFault s i).eng.waiting = s.eng.waiting ∧ (State.tellFault s i).eng.holdEnd = s.eng.holdEnd ∧
    (State.tellFault s i).eng.heldAreas = s.eng.heldAreas ∧ (State.tellFault s i).eng.lastSeq = s.eng.lastSeq := by
  simp only [State.tellFault]; (repeat' split) <;> simp [State.modDyn_eng_frame _ _ _, State.noteCluster_frame _ _ _]

theorem State.tellFault_bench_frame (s : State) (i : ℕ) :
    (State.tellFault s i).bench.cycle = s.bench.cycle ∧ (State.tellFault s i).bench.nextCycle = s.bench.nextCycle ∧
    (State.tellFault s i).bench.lastO = s.bench.lastO ∧ (State.tellFault s i).bench.freezeUs = s.bench.freezeUs ∧
    (State.tellFault s i).bench.nextFreezeUs = s.bench.nextFreezeUs ∧
    (State.tellFault s i).bench.frozen = s.bench.frozen ∧ (State.tellFault s i).bench.evaluated = s.bench.evaluated
    ∧ (State.tellFault s i).bench.first = s.bench.first ∧ (State.tellFault s i).bench.requests = s.bench.requests ∧
    (State.tellFault s i).bench.overran = s.bench.overran ∧ (State.tellFault s i).bench.discard = s.bench.discard ∧
    (State.tellFault s i).bench.noCode = s.bench.noCode ∧ (State.tellFault s i).bench.constants = s.bench.constants
    ∧ (State.tellFault s i).bench.newConstants = s.bench.newConstants ∧
    (State.tellFault s i).bench.forces = s.bench.forces ∧ (State.tellFault s i).bench.newForces = s.bench.newForces
    ∧ (State.tellFault s i).bench.forcedShown = s.bench.forcedShown ∧
    (State.tellFault s i).bench.reminderUs = s.bench.reminderUs ∧
    (State.tellFault s i).bench.completions = s.bench.completions ∧
    (State.tellFault s i).bench.challenge = s.bench.challenge ∧ (State.tellFault s i).bench.codes = s.bench.codes ∧
    (State.tellFault s i).bench.stopping = s.bench.stopping := by
  simp only [State.tellFault]; (repeat' split) <;> simp [State.modDyn_frame _ _ _, State.noteCluster_bench_frame _ _ _]

theorem State.tellFault_hi_frame (s : State) (i : ℕ) :
    (State.tellFault s i).hi.state = s.hi.state ∧ (State.tellFault s i).hi.m2 = s.hi.m2 ∧
    (State.tellFault s i).hi.unstableCount = s.hi.unstableCount ∧ (State.tellFault s i).hi.eventMg = s.hi.eventMg ∧
    (State.tellFault s i).hi.eventCl = s.hi.eventCl ∧ (State.tellFault s i).hi.downMg = s.hi.downMg ∧
    (State.tellFault s i).hi.downCl = s.hi.downCl ∧ (State.tellFault s i).hi.stale = s.hi.stale ∧
    (State.tellFault s i).hi.unstable = s.hi.unstable ∧ (State.tellFault s i).hi.scratch = s.hi.scratch ∧
    (State.tellFault s i).hi.done = s.hi.done ∧ (State.tellFault s i).hi.busy = s.hi.busy ∧
    (State.tellFault s i).hi.tail = s.hi.tail ∧ (State.tellFault s i).hi.irqMask = s.hi.irqMask ∧
    (State.tellFault s i).hi.vectors = s.hi.vectors ∧ (State.tellFault s i).hi.readData = s.hi.readData ∧
    (State.tellFault s i).hi.unread = s.hi.unread ∧ (State.tellFault s i).hi.heldDone = s.hi.heldDone ∧
    (State.tellFault s i).hi.subscribed = s.hi.subscribed ∧
    (State.tellFault s i).hi.x8Subscribed = s.hi.x8Subscribed ∧ (State.tellFault s i).hi.x8Dest = s.hi.x8Dest ∧
    (State.tellFault s i).hi.x8Last = s.hi.x8Last ∧ (State.tellFault s i).hi.x8Short = s.hi.x8Short ∧
    (State.tellFault s i).hi.x8 = s.hi.x8 ∧ (State.tellFault s i).hi.x8Address = s.hi.x8Address ∧
    (State.tellFault s i).hi.x8Plen = s.hi.x8Plen ∧ (State.tellFault s i).hi.x8Gateway = s.hi.x8Gateway ∧
    (State.tellFault s i).hi.x8New = s.hi.x8New := by
  simp only [State.tellFault]; (repeat' split) <;> simp [State.modDyn_frame _ _ _, State.noteCluster_hi_frame _ _ _]

theorem State.tellFaults_eng_frame (s : State) :
    (State.tellFaults s).eng.routes = s.eng.routes ∧ (State.tellFaults s).eng.queue = s.eng.queue ∧
    (State.tellFaults s).eng.txns = s.eng.txns ∧ (State.tellFaults s).eng.prepares = s.eng.prepares ∧
    (State.tellFaults s).eng.waiting = s.eng.waiting ∧ (State.tellFaults s).eng.holdEnd = s.eng.holdEnd ∧
    (State.tellFaults s).eng.heldAreas = s.eng.heldAreas ∧ (State.tellFaults s).eng.lastSeq = s.eng.lastSeq := by
  simp [State.tellFaults, State.tellFault_eng_frame _ _]

theorem State.tellFaults_bench_frame (s : State) :
    (State.tellFaults s).bench.cycle = s.bench.cycle ∧ (State.tellFaults s).bench.nextCycle = s.bench.nextCycle ∧
    (State.tellFaults s).bench.lastO = s.bench.lastO ∧ (State.tellFaults s).bench.freezeUs = s.bench.freezeUs ∧
    (State.tellFaults s).bench.nextFreezeUs = s.bench.nextFreezeUs ∧
    (State.tellFaults s).bench.frozen = s.bench.frozen ∧ (State.tellFaults s).bench.evaluated = s.bench.evaluated ∧
    (State.tellFaults s).bench.first = s.bench.first ∧ (State.tellFaults s).bench.requests = s.bench.requests ∧
    (State.tellFaults s).bench.overran = s.bench.overran ∧ (State.tellFaults s).bench.discard = s.bench.discard ∧
    (State.tellFaults s).bench.noCode = s.bench.noCode ∧ (State.tellFaults s).bench.constants = s.bench.constants ∧
    (State.tellFaults s).bench.newConstants = s.bench.newConstants ∧
    (State.tellFaults s).bench.forces = s.bench.forces ∧ (State.tellFaults s).bench.newForces = s.bench.newForces ∧
    (State.tellFaults s).bench.forcedShown = s.bench.forcedShown ∧
    (State.tellFaults s).bench.reminderUs = s.bench.reminderUs ∧
    (State.tellFaults s).bench.completions = s.bench.completions ∧
    (State.tellFaults s).bench.challenge = s.bench.challenge ∧ (State.tellFaults s).bench.codes = s.bench.codes ∧
    (State.tellFaults s).bench.stopping = s.bench.stopping := by
  simp [State.tellFaults, State.tellFault_bench_frame _ _]

theorem State.tellFaults_hi_frame (s : State) :
    (State.tellFaults s).hi.state = s.hi.state ∧ (State.tellFaults s).hi.m2 = s.hi.m2 ∧
    (State.tellFaults s).hi.unstableCount = s.hi.unstableCount ∧ (State.tellFaults s).hi.eventMg = s.hi.eventMg ∧
    (State.tellFaults s).hi.eventCl = s.hi.eventCl ∧ (State.tellFaults s).hi.downMg = s.hi.downMg ∧
    (State.tellFaults s).hi.downCl = s.hi.downCl ∧ (State.tellFaults s).hi.stale = s.hi.stale ∧
    (State.tellFaults s).hi.unstable = s.hi.unstable ∧ (State.tellFaults s).hi.scratch = s.hi.scratch ∧
    (State.tellFaults s).hi.done = s.hi.done ∧ (State.tellFaults s).hi.busy = s.hi.busy ∧
    (State.tellFaults s).hi.tail = s.hi.tail ∧ (State.tellFaults s).hi.irqMask = s.hi.irqMask ∧
    (State.tellFaults s).hi.vectors = s.hi.vectors ∧ (State.tellFaults s).hi.readData = s.hi.readData ∧
    (State.tellFaults s).hi.unread = s.hi.unread ∧ (State.tellFaults s).hi.heldDone = s.hi.heldDone ∧
    (State.tellFaults s).hi.subscribed = s.hi.subscribed ∧ (State.tellFaults s).hi.x8Subscribed = s.hi.x8Subscribed
    ∧ (State.tellFaults s).hi.x8Dest = s.hi.x8Dest ∧ (State.tellFaults s).hi.x8Last = s.hi.x8Last ∧
    (State.tellFaults s).hi.x8Short = s.hi.x8Short ∧ (State.tellFaults s).hi.x8 = s.hi.x8 ∧
    (State.tellFaults s).hi.x8Address = s.hi.x8Address ∧ (State.tellFaults s).hi.x8Plen = s.hi.x8Plen ∧
    (State.tellFaults s).hi.x8Gateway = s.hi.x8Gateway ∧ (State.tellFaults s).hi.x8New = s.hi.x8New := by
  simp [State.tellFaults, State.tellFault_hi_frame _ _]

end Sys2Proof.Machine
end

