-- ==== Sys2Proof/Laws/Doors.lean ====
section
/-! SUPPORT. What the operations of Machine/Doors.lean leave alone: one lemma for each, naming every part of the state that
it does not write. -/

namespace Sys2Proof.Machine

open Sys2Proof

theorem State.neverOpen_frame (s : State) (i : ℕ) :
    (State.neverOpen s i).unit = s.unit ∧ (State.neverOpen s i).opUs = s.opUs ∧
    (State.neverOpen s i).savedOpUs = s.savedOpUs ∧ (State.neverOpen s i).powerCycle = s.powerCycle ∧
    (State.neverOpen s i).epoch = s.epoch ∧ (State.neverOpen s i).power = s.power ∧ (State.neverOpen s i).rt = s.rt ∧
    (State.neverOpen s i).sec = s.sec ∧ (State.neverOpen s i).station = s.station ∧
    (State.neverOpen s i).bench = s.bench ∧ (State.neverOpen s i).vote = s.vote ∧ (State.neverOpen s i).ash = s.ash ∧
    (State.neverOpen s i).field = s.field ∧ (State.neverOpen s i).can = s.can ∧ (State.neverOpen s i).net = s.net ∧
    (State.neverOpen s i).hi = s.hi ∧ (State.neverOpen s i).xings = s.xings ∧ (State.neverOpen s i).mg = s.mg ∧
    (State.neverOpen s i).recorder = s.recorder ∧ (State.neverOpen s i).log = s.log ∧
    (State.neverOpen s i).test = s.test ∧ (State.neverOpen s i).update = s.update ∧
    (State.neverOpen s i).draws = s.draws ∧ (State.neverOpen s i).outbox = s.outbox ∧
    (State.neverOpen s i).diag = s.diag ∧ (State.neverOpen s i).pending = s.pending := by
  simp [State.neverOpen, State.demandOf_frame _ _ _]

theorem State.leafFails_frame (s : State) (i : ℕ) (cause : ℕ) :
    (State.leafFails s i cause).unit = s.unit ∧ (State.leafFails s i cause).opUs = s.opUs ∧
    (State.leafFails s i cause).savedOpUs = s.savedOpUs ∧ (State.leafFails s i cause).powerCycle = s.powerCycle ∧
    (State.leafFails s i cause).epoch = s.epoch ∧ (State.leafFails s i cause).power = s.power ∧
    (State.leafFails s i cause).rt = s.rt ∧ (State.leafFails s i cause).sec = s.sec ∧
    (State.leafFails s i cause).station = s.station ∧ (State.leafFails s i cause).bench = s.bench ∧
    (State.leafFails s i cause).vote = s.vote ∧ (State.leafFails s i cause).ash = s.ash ∧
    (State.leafFails s i cause).field = s.field ∧ (State.leafFails s i cause).can = s.can ∧
    (State.leafFails s i cause).net = s.net ∧ (State.leafFails s i cause).hi = s.hi ∧
    (State.leafFails s i cause).xings = s.xings ∧ (State.leafFails s i cause).mg = s.mg ∧
    (State.leafFails s i cause).log = s.log ∧ (State.leafFails s i cause).test = s.test ∧
    (State.leafFails s i cause).update = s.update ∧ (State.leafFails s i cause).draws = s.draws ∧
    (State.leafFails s i cause).outbox = s.outbox ∧ (State.leafFails s i cause).diag = s.diag ∧
    (State.leafFails s i cause).pending = s.pending := by
  simp [State.leafFails, State.event_frame _ _ _ _ _ _ _ _, State.modDyn_frame _ _ _]

theorem State.doorNote_frame (s : State) (edge : ℕ) (cause : ℕ) (leaves : ℕ) (element : ℕ) :
    (State.doorNote s edge cause leaves element).unit = s.unit ∧
    (State.doorNote s edge cause leaves element).opUs = s.opUs ∧
    (State.doorNote s edge cause leaves element).savedOpUs = s.savedOpUs ∧
    (State.doorNote s edge cause leaves element).powerCycle = s.powerCycle ∧
    (State.doorNote s edge cause leaves element).epoch = s.epoch ∧
    (State.doorNote s edge cause leaves element).power = s.power ∧
    (State.doorNote s edge cause leaves element).rt = s.rt ∧ (State.doorNote s edge cause leaves element).sec = s.sec
    ∧ (State.doorNote s edge cause leaves element).station = s.station ∧
    (State.doorNote s edge cause leaves element).eng = s.eng ∧
    (State.doorNote s edge cause leaves element).vote = s.vote ∧
    (State.doorNote s edge cause leaves element).ash = s.ash ∧
    (State.doorNote s edge cause leaves element).field = s.field ∧
    (State.doorNote s edge cause leaves element).can = s.can ∧
    (State.doorNote s edge cause leaves element).net = s.net ∧
    (State.doorNote s edge cause leaves element).xings = s.xings ∧
    (State.doorNote s edge cause leaves element).mg = s.mg ∧
    (State.doorNote s edge cause leaves element).recorder = s.recorder ∧
    (State.doorNote s edge cause leaves element).log = s.log ∧
    (State.doorNote s edge cause leaves element).test = s.test ∧
    (State.doorNote s edge cause leaves element).update = s.update ∧
    (State.doorNote s edge cause leaves element).draws = s.draws ∧
    (State.doorNote s edge cause leaves element).diag = s.diag ∧
    (State.doorNote s edge cause leaves element).pending = s.pending := by
  simp [State.doorNote, State.noteCluster_frame _ _ _]

theorem State.checkObstructed_frame (s : State) (i : ℕ) :
    (State.checkObstructed s i).unit = s.unit ∧ (State.checkObstructed s i).opUs = s.opUs ∧
    (State.checkObstructed s i).savedOpUs = s.savedOpUs ∧ (State.checkObstructed s i).powerCycle = s.powerCycle ∧
    (State.checkObstructed s i).epoch = s.epoch ∧ (State.checkObstructed s i).power = s.power ∧
    (State.checkObstructed s i).rt = s.rt ∧ (State.checkObstructed s i).sec = s.sec ∧
    (State.checkObstructed s i).station = s.station ∧ (State.checkObstructed s i).vote = s.vote ∧
    (State.checkObstructed s i).ash = s.ash ∧ (State.checkObstructed s i).field = s.field ∧
    (State.checkObstructed s i).can = s.can ∧ (State.checkObstructed s i).net = s.net ∧
    (State.checkObstructed s i).xings = s.xings ∧ (State.checkObstructed s i).mg = s.mg ∧
    (State.checkObstructed s i).log = s.log ∧ (State.checkObstructed s i).test = s.test ∧
    (State.checkObstructed s i).update = s.update ∧ (State.checkObstructed s i).draws = s.draws ∧
    (State.checkObstructed s i).diag = s.diag ∧ (State.checkObstructed s i).pending = s.pending := by
  simp only [State.checkObstructed]; (repeat' split) <;> simp [State.doorNote_frame _ _ _ _ _,
        State.event_frame _ _ _ _ _ _ _ _, State.modDyn_frame _ _ _]

theorem State.checkMoving_frame (s : State) (i : ℕ) :
    (State.checkMoving s i).unit = s.unit ∧ (State.checkMoving s i).opUs = s.opUs ∧
    (State.checkMoving s i).savedOpUs = s.savedOpUs ∧ (State.checkMoving s i).powerCycle = s.powerCycle ∧
    (State.checkMoving s i).epoch = s.epoch ∧ (State.checkMoving s i).power = s.power ∧
    (State.checkMoving s i).rt = s.rt ∧ (State.checkMoving s i).sec = s.sec ∧
    (State.checkMoving s i).station = s.station ∧ (State.checkMoving s i).bench = s.bench ∧
    (State.checkMoving s i).vote = s.vote ∧ (State.checkMoving s i).ash = s.ash ∧
    (State.checkMoving s i).field = s.field ∧ (State.checkMoving s i).can = s.can ∧
    (State.checkMoving s i).net = s.net ∧ (State.checkMoving s i).hi = s.hi ∧ (State.checkMoving s i).xings = s.xings
    ∧ (State.checkMoving s i).mg = s.mg ∧ (State.checkMoving s i).log = s.log ∧ (State.checkMoving s i).test = s.test
    ∧ (State.checkMoving s i).update = s.update ∧ (State.checkMoving s i).draws = s.draws ∧
    (State.checkMoving s i).outbox = s.outbox ∧ (State.checkMoving s i).diag = s.diag ∧
    (State.checkMoving s i).pending = s.pending := by
  unfold State.checkMoving; (repeat' split) <;> simp [State.setValue_frame _ _ _, State.leafFails_frame _ _ _]

theorem State.leafTimers_frame (s : State) (i : ℕ) (v : ℕ) :
    (State.leafTimers s i v).unit = s.unit ∧ (State.leafTimers s i v).opUs = s.opUs ∧
    (State.leafTimers s i v).savedOpUs = s.savedOpUs ∧ (State.leafTimers s i v).powerCycle = s.powerCycle ∧
    (State.leafTimers s i v).epoch = s.epoch ∧ (State.leafTimers s i v).power = s.power ∧
    (State.leafTimers s i v).rt = s.rt ∧ (State.leafTimers s i v).sec = s.sec ∧
    (State.leafTimers s i v).station = s.station ∧ (State.leafTimers s i v).bench = s.bench ∧
    (State.leafTimers s i v).vote = s.vote ∧ (State.leafTimers s i v).ash = s.ash ∧
    (State.leafTimers s i v).field = s.field ∧ (State.leafTimers s i v).can = s.can ∧
    (State.leafTimers s i v).net = s.net ∧ (State.leafTimers s i v).hi = s.hi ∧
    (State.leafTimers s i v).xings = s.xings ∧ (State.leafTimers s i v).mg = s.mg ∧
    (State.leafTimers s i v).recorder = s.recorder ∧ (State.leafTimers s i v).log = s.log ∧
    (State.leafTimers s i v).test = s.test ∧ (State.leafTimers s i v).update = s.update ∧
    (State.leafTimers s i v).draws = s.draws ∧ (State.leafTimers s i v).outbox = s.outbox ∧
    (State.leafTimers s i v).diag = s.diag ∧ (State.leafTimers s i v).pending = s.pending := by
  simp [State.leafTimers, State.modDyn_frame _ _ _]

theorem State.leafRecover_frame (s : State) (i : ℕ) (v : ℕ) (isoAllowed : Bool) :
    (State.leafRecover s i v isoAllowed).unit = s.unit ∧ (State.leafRecover s i v isoAllowed).opUs = s.opUs ∧
    (State.leafRecover s i v isoAllowed).savedOpUs = s.savedOpUs ∧
    (State.leafRecover s i v isoAllowed).powerCycle = s.powerCycle ∧
    (State.leafRecover s i v isoAllowed).epoch = s.epoch ∧ (State.leafRecover s i v isoAllowed).power = s.power ∧
    (State.leafRecover s i v isoAllowed).rt = s.rt ∧ (State.leafRecover s i v isoAllowed).sec = s.sec ∧
    (State.leafRecover s i v isoAllowed).station = s.station ∧ (State.leafRecover s i v isoAllowed).bench = s.bench ∧
    (State.leafRecover s i v isoAllowed).vote = s.vote ∧ (State.leafRecover s i v isoAllowed).ash = s.ash ∧
    (State.leafRecover s i v isoAllowed).field = s.field ∧ (State.leafRecover s i v isoAllowed).can = s.can ∧
    (State.leafRecover s i v isoAllowed).net = s.net ∧ (State.leafRecover s i v isoAllowed).hi = s.hi ∧
    (State.leafRecover s i v isoAllowed).xings = s.xings ∧ (State.leafRecover s i v isoAllowed).mg = s.mg ∧
    (State.leafRecover s i v isoAllowed).recorder = s.recorder ∧ (State.leafRecover s i v isoAllowed).log = s.log ∧
    (State.leafRecover s i v isoAllowed).test = s.test ∧ (State.leafRecover s i v isoAllowed).update = s.update ∧
    (State.leafRecover s i v isoAllowed).draws = s.draws ∧ (State.leafRecover s i v isoAllowed).outbox = s.outbox ∧
    (State.leafRecover s i v isoAllowed).diag = s.diag ∧ (State.leafRecover s i v isoAllowed).pending = s.pending
    := by
  simp [State.leafRecover, State.modDyn_frame _ _ _]

theorem State.leafDeclare_frame (s : State) (i : ℕ) (v : ℕ) (isoAllowed : Bool) (limit : ℕ) :
    (State.leafDeclare s i v isoAllowed limit).unit = s.unit ∧
    (State.leafDeclare s i v isoAllowed limit).opUs = s.opUs ∧
    (State.leafDeclare s i v isoAllowed limit).savedOpUs = s.savedOpUs ∧
    (State.leafDeclare s i v isoAllowed limit).powerCycle = s.powerCycle ∧
    (State.leafDeclare s i v isoAllowed limit).epoch = s.epoch ∧
    (State.leafDeclare s i v isoAllowed limit).power = s.power ∧ (State.leafDeclare s i v isoAllowed limit).rt = s.rt
    ∧ (State.leafDeclare s i v isoAllowed limit).sec = s.sec ∧
    (State.leafDeclare s i v isoAllowed limit).station = s.station ∧
    (State.leafDeclare s i v isoAllowed limit).bench = s.bench ∧
    (State.leafDeclare s i v isoAllowed limit).vote = s.vote ∧ (State.leafDeclare s i v isoAllowed limit).ash = s.ash
    ∧ (State.leafDeclare s i v isoAllowed limit).field = s.field ∧
    (State.leafDeclare s i v isoAllowed limit).can = s.can ∧ (State.leafDeclare s i v isoAllowed limit).net = s.net ∧
    (State.leafDeclare s i v isoAllowed limit).hi = s.hi ∧ (State.leafDeclare s i v isoAllowed limit).xings = s.xings
    ∧ (State.leafDeclare s i v isoAllowed limit).mg = s.mg ∧ (State.leafDeclare s i v isoAllowed limit).log = s.log ∧
    (State.leafDeclare s i v isoAllowed limit).test = s.test ∧
    (State.leafDeclare s i v isoAllowed limit).update = s.update ∧
    (State.leafDeclare s i v isoAllowed limit).draws = s.draws ∧
    (State.leafDeclare s i v isoAllowed limit).outbox = s.outbox ∧
    (State.leafDeclare s i v isoAllowed limit).diag = s.diag ∧
    (State.leafDeclare s i v isoAllowed limit).pending = s.pending := by
  unfold State.leafDeclare; (repeat' split) <;> simp [State.leafFails_frame _ _ _, State.checkMoving_frame _ _,
        State.modDyn_frame _ _ _]

theorem State.leafState_frame (s : State) (i : ℕ) (v : ℕ) :
    (State.leafState s i v).unit = s.unit ∧ (State.leafState s i v).opUs = s.opUs ∧
    (State.leafState s i v).savedOpUs = s.savedOpUs ∧ (State.leafState s i v).powerCycle = s.powerCycle ∧
    (State.leafState s i v).epoch = s.epoch ∧ (State.leafState s i v).power = s.power ∧
    (State.leafState s i v).rt = s.rt ∧ (State.leafState s i v).sec = s.sec ∧
    (State.leafState s i v).station = s.station ∧ (State.leafState s i v).bench = s.bench ∧
    (State.leafState s i v).vote = s.vote ∧ (State.leafState s i v).ash = s.ash ∧
    (State.leafState s i v).field = s.field ∧ (State.leafState s i v).can = s.can ∧
    (State.leafState s i v).net = s.net ∧ (State.leafState s i v).hi = s.hi ∧ (State.leafState s i v).xings = s.xings
    ∧ (State.leafState s i v).mg = s.mg ∧ (State.leafState s i v).log = s.log ∧ (State.leafState s i v).test = s.test
    ∧ (State.leafState s i v).update = s.update ∧ (State.leafState s i v).draws = s.draws ∧
    (State.leafState s i v).outbox = s.outbox ∧ (State.leafState s i v).diag = s.diag ∧
    (State.leafState s i v).pending = s.pending := by
  simp [State.leafState, State.neverOpen_frame _ _, State.setValue_frame _ _ _, State.event_frame _ _ _ _ _ _ _ _,
        State.modDyn_frame _ _ _]

theorem State.leafStep_frame (s : State) (i : ℕ) :
    (State.leafStep s i).unit = s.unit ∧ (State.leafStep s i).opUs = s.opUs ∧
    (State.leafStep s i).savedOpUs = s.savedOpUs ∧ (State.leafStep s i).powerCycle = s.powerCycle ∧
    (State.leafStep s i).epoch = s.epoch ∧ (State.leafStep s i).power = s.power ∧ (State.leafStep s i).rt = s.rt ∧
    (State.leafStep s i).sec = s.sec ∧ (State.leafStep s i).station = s.station ∧ (State.leafStep s i).vote = s.vote ∧
    (State.leafStep s i).ash = s.ash ∧ (State.leafStep s i).field = s.field ∧ (State.leafStep s i).can = s.can ∧
    (State.leafStep s i).net = s.net ∧ (State.leafStep s i).xings = s.xings ∧ (State.leafStep s i).mg = s.mg ∧
    (State.leafStep s i).log = s.log ∧ (State.leafStep s i).test = s.test ∧ (State.leafStep s i).update = s.update ∧
    (State.leafStep s i).draws = s.draws ∧ (State.leafStep s i).diag = s.diag ∧
    (State.leafStep s i).pending = s.pending := by
  unfold State.leafStep; (repeat' split) <;> simp [State.checkObstructed_frame _ _, State.leafState_frame _ _ _,
        State.leafFails_frame _ _ _, State.leafDeclare_frame _ _ _ _ _,
        State.leafRecover_frame _ _ _ _]

theorem State.berthWatch_frame (s : State) (i : ℕ) :
    (State.berthWatch s i).unit = s.unit ∧ (State.berthWatch s i).opUs = s.opUs ∧ (State.berthWatch s i).savedOpUs =
    s.savedOpUs ∧ (State.berthWatch s i).powerCycle = s.powerCycle ∧ (State.berthWatch s i).epoch = s.epoch ∧
    (State.berthWatch s i).power = s.power ∧ (State.berthWatch s i).rt = s.rt ∧ (State.berthWatch s i).sec = s.sec ∧
    (State.berthWatch s i).station = s.station ∧ (State.berthWatch s i).bench = s.bench ∧ (State.berthWatch s i).vote
    = s.vote ∧ (State.berthWatch s i).ash = s.ash ∧ (State.berthWatch s i).field = s.field ∧ (State.berthWatch s
    i).can = s.can ∧ (State.berthWatch s i).net = s.net ∧ (State.berthWatch s i).hi = s.hi ∧ (State.berthWatch s
    i).xings = s.xings ∧ (State.berthWatch s i).mg = s.mg ∧ (State.berthWatch s i).recorder = s.recorder ∧
    (State.berthWatch s i).log = s.log ∧ (State.berthWatch s i).test = s.test ∧ (State.berthWatch s i).update =
    s.update ∧ (State.berthWatch s i).draws = s.draws ∧ (State.berthWatch s i).diag = s.diag ∧ (State.berthWatch s
    i).outbox = s.outbox ∧ (State.berthWatch s i).pending = s.pending := by
  simp only [State.berthWatch]; (repeat' split) <;> simp [State.modDyn_frame _ _ _]

theorem State.watchFreeze_frame (s : State) (i : ℕ) :
    (State.watchFreeze s i).unit = s.unit ∧ (State.watchFreeze s i).opUs = s.opUs ∧ (State.watchFreeze s i).savedOpUs
    = s.savedOpUs ∧ (State.watchFreeze s i).powerCycle = s.powerCycle ∧ (State.watchFreeze s i).epoch = s.epoch ∧
    (State.watchFreeze s i).power = s.power ∧ (State.watchFreeze s i).rt = s.rt ∧ (State.watchFreeze s i).sec = s.sec
    ∧ (State.watchFreeze s i).station = s.station ∧ (State.watchFreeze s i).bench = s.bench ∧ (State.watchFreeze s
    i).vote = s.vote ∧ (State.watchFreeze s i).ash = s.ash ∧ (State.watchFreeze s i).field = s.field ∧
    (State.watchFreeze s i).can = s.can ∧ (State.watchFreeze s i).net = s.net ∧ (State.watchFreeze s i).hi = s.hi ∧
    (State.watchFreeze s i).xings = s.xings ∧ (State.watchFreeze s i).mg = s.mg ∧ (State.watchFreeze s i).recorder =
    s.recorder ∧ (State.watchFreeze s i).log = s.log ∧ (State.watchFreeze s i).test = s.test ∧ (State.watchFreeze s
    i).update = s.update ∧ (State.watchFreeze s i).draws = s.draws ∧ (State.watchFreeze s i).diag = s.diag ∧
    (State.watchFreeze s i).outbox = s.outbox ∧ (State.watchFreeze s i).pending = s.pending := by
  simp only [State.watchFreeze]; (repeat' split) <;> simp [State.leafTimers_frame _ _ _, State.berthWatch_frame _ _]

theorem State.berthStep_frame (s : State) (i : ℕ) :
    (State.berthStep s i).unit = s.unit ∧ (State.berthStep s i).opUs = s.opUs ∧
    (State.berthStep s i).savedOpUs = s.savedOpUs ∧ (State.berthStep s i).powerCycle = s.powerCycle ∧
    (State.berthStep s i).epoch = s.epoch ∧ (State.berthStep s i).power = s.power ∧ (State.berthStep s i).rt = s.rt ∧
    (State.berthStep s i).sec = s.sec ∧ (State.berthStep s i).station = s.station ∧
    (State.berthStep s i).bench = s.bench ∧ (State.berthStep s i).vote = s.vote ∧ (State.berthStep s i).ash = s.ash ∧
    (State.berthStep s i).field = s.field ∧ (State.berthStep s i).can = s.can ∧ (State.berthStep s i).net = s.net ∧
    (State.berthStep s i).hi = s.hi ∧ (State.berthStep s i).xings = s.xings ∧ (State.berthStep s i).mg = s.mg ∧
    (State.berthStep s i).recorder = s.recorder ∧ (State.berthStep s i).log = s.log ∧
    (State.berthStep s i).test = s.test ∧ (State.berthStep s i).update = s.update ∧
    (State.berthStep s i).draws = s.draws ∧ (State.berthStep s i).outbox = s.outbox ∧
    (State.berthStep s i).diag = s.diag ∧ (State.berthStep s i).pending = s.pending := by
  simp only [State.berthStep]; (repeat' split) <;> simp [State.setValue_frame _ _ _]

theorem State.edgeStep_frame (s : State) (g : ℕ) :
    (State.edgeStep s g).unit = s.unit ∧ (State.edgeStep s g).opUs = s.opUs ∧
    (State.edgeStep s g).savedOpUs = s.savedOpUs ∧ (State.edgeStep s g).powerCycle = s.powerCycle ∧
    (State.edgeStep s g).epoch = s.epoch ∧ (State.edgeStep s g).power = s.power ∧ (State.edgeStep s g).rt = s.rt ∧
    (State.edgeStep s g).sec = s.sec ∧ (State.edgeStep s g).station = s.station ∧ (State.edgeStep s g).bench = s.bench
    ∧ (State.edgeStep s g).vote = s.vote ∧ (State.edgeStep s g).ash = s.ash ∧ (State.edgeStep s g).field = s.field ∧
    (State.edgeStep s g).can = s.can ∧ (State.edgeStep s g).net = s.net ∧ (State.edgeStep s g).hi = s.hi ∧
    (State.edgeStep s g).xings = s.xings ∧ (State.edgeStep s g).mg = s.mg ∧ (State.edgeStep s g).recorder = s.recorder
    ∧ (State.edgeStep s g).log = s.log ∧ (State.edgeStep s g).test = s.test ∧ (State.edgeStep s g).update = s.update ∧
    (State.edgeStep s g).draws = s.draws ∧ (State.edgeStep s g).outbox = s.outbox ∧ (State.edgeStep s g).diag = s.diag
    ∧ (State.edgeStep s g).pending = s.pending := by
  simp [State.edgeStep, State.setValue_frame _ _ _, State.modDyn_frame _ _ _]

theorem State.openDoors_frame (s : State) (g : ℕ) (mask : ℕ) :
    (State.openDoors s g mask).unit = s.unit ∧ (State.openDoors s g mask).opUs = s.opUs ∧
    (State.openDoors s g mask).savedOpUs = s.savedOpUs ∧ (State.openDoors s g mask).powerCycle = s.powerCycle ∧
    (State.openDoors s g mask).epoch = s.epoch ∧ (State.openDoors s g mask).power = s.power ∧
    (State.openDoors s g mask).rt = s.rt ∧ (State.openDoors s g mask).sec = s.sec ∧
    (State.openDoors s g mask).station = s.station ∧ (State.openDoors s g mask).bench = s.bench ∧
    (State.openDoors s g mask).vote = s.vote ∧ (State.openDoors s g mask).ash = s.ash ∧
    (State.openDoors s g mask).field = s.field ∧ (State.openDoors s g mask).can = s.can ∧
    (State.openDoors s g mask).net = s.net ∧ (State.openDoors s g mask).hi = s.hi ∧
    (State.openDoors s g mask).xings = s.xings ∧ (State.openDoors s g mask).mg = s.mg ∧
    (State.openDoors s g mask).recorder = s.recorder ∧ (State.openDoors s g mask).log = s.log ∧
    (State.openDoors s g mask).test = s.test ∧ (State.openDoors s g mask).update = s.update ∧
    (State.openDoors s g mask).draws = s.draws ∧ (State.openDoors s g mask).outbox = s.outbox ∧
    (State.openDoors s g mask).diag = s.diag ∧ (State.openDoors s g mask).pending = s.pending := by
  simp [State.openDoors, State.modDyn_frame _ _ _, State.startTxn_frame _ _ _ _ _, State.demandOf_frame _ _ _]

theorem State.checkOpening_frame (s : State) (g : ℕ) :
    (State.checkOpening s g).unit = s.unit ∧ (State.checkOpening s g).opUs = s.opUs ∧
    (State.checkOpening s g).savedOpUs = s.savedOpUs ∧ (State.checkOpening s g).powerCycle = s.powerCycle ∧
    (State.checkOpening s g).epoch = s.epoch ∧ (State.checkOpening s g).power = s.power ∧
    (State.checkOpening s g).rt = s.rt ∧ (State.checkOpening s g).sec = s.sec ∧
    (State.checkOpening s g).station = s.station ∧ (State.checkOpening s g).vote = s.vote ∧
    (State.checkOpening s g).ash = s.ash ∧ (State.checkOpening s g).field = s.field ∧
    (State.checkOpening s g).can = s.can ∧ (State.checkOpening s g).net = s.net ∧
    (State.checkOpening s g).xings = s.xings ∧ (State.checkOpening s g).mg = s.mg ∧
    (State.checkOpening s g).recorder = s.recorder ∧ (State.checkOpening s g).log = s.log ∧
    (State.checkOpening s g).test = s.test ∧ (State.checkOpening s g).update = s.update ∧
    (State.checkOpening s g).draws = s.draws ∧ (State.checkOpening s g).diag = s.diag ∧
    (State.checkOpening s g).pending = s.pending := by
  simp [State.checkOpening, State.doorNote_frame _ _ _ _ _, State.modDyn_frame _ _ _]

theorem State.closeLeaf_frame (s : State) (l : ℕ) :
    (State.closeLeaf s l).unit = s.unit ∧ (State.closeLeaf s l).opUs = s.opUs ∧
    (State.closeLeaf s l).savedOpUs = s.savedOpUs ∧ (State.closeLeaf s l).powerCycle = s.powerCycle ∧
    (State.closeLeaf s l).epoch = s.epoch ∧ (State.closeLeaf s l).power = s.power ∧ (State.closeLeaf s l).rt = s.rt ∧
    (State.closeLeaf s l).sec = s.sec ∧ (State.closeLeaf s l).station = s.station ∧
    (State.closeLeaf s l).bench = s.bench ∧ (State.closeLeaf s l).vote = s.vote ∧ (State.closeLeaf s l).ash = s.ash ∧
    (State.closeLeaf s l).field = s.field ∧ (State.closeLeaf s l).can = s.can ∧ (State.closeLeaf s l).net = s.net ∧
    (State.closeLeaf s l).hi = s.hi ∧ (State.closeLeaf s l).xings = s.xings ∧ (State.closeLeaf s l).mg = s.mg ∧
    (State.closeLeaf s l).recorder = s.recorder ∧ (State.closeLeaf s l).log = s.log ∧
    (State.closeLeaf s l).test = s.test ∧ (State.closeLeaf s l).update = s.update ∧
    (State.closeLeaf s l).draws = s.draws ∧ (State.closeLeaf s l).outbox = s.outbox ∧
    (State.closeLeaf s l).diag = s.diag ∧ (State.closeLeaf s l).pending = s.pending := by
  unfold State.closeLeaf; (repeat' split) <;> simp [State.startTxn_frame _ _ _ _ _, State.demandOf_frame _ _ _]

theorem State.closeEdge_frame (s : State) (g : ℕ) :
    (State.closeEdge s g).unit = s.unit ∧ (State.closeEdge s g).opUs = s.opUs ∧
    (State.closeEdge s g).savedOpUs = s.savedOpUs ∧ (State.closeEdge s g).powerCycle = s.powerCycle ∧
    (State.closeEdge s g).epoch = s.epoch ∧ (State.closeEdge s g).power = s.power ∧ (State.closeEdge s g).rt = s.rt ∧
    (State.closeEdge s g).sec = s.sec ∧ (State.closeEdge s g).station = s.station ∧
    (State.closeEdge s g).bench = s.bench ∧ (State.closeEdge s g).vote = s.vote ∧ (State.closeEdge s g).ash = s.ash ∧
    (State.closeEdge s g).field = s.field ∧ (State.closeEdge s g).can = s.can ∧ (State.closeEdge s g).net = s.net ∧
    (State.closeEdge s g).hi = s.hi ∧ (State.closeEdge s g).xings = s.xings ∧ (State.closeEdge s g).mg = s.mg ∧
    (State.closeEdge s g).recorder = s.recorder ∧ (State.closeEdge s g).log = s.log ∧
    (State.closeEdge s g).test = s.test ∧ (State.closeEdge s g).update = s.update ∧
    (State.closeEdge s g).draws = s.draws ∧ (State.closeEdge s g).outbox = s.outbox ∧
    (State.closeEdge s g).diag = s.diag ∧ (State.closeEdge s g).pending = s.pending := by
  simp [State.closeEdge, State.closeLeaf_frame _ _, State.modDyn_frame _ _ _]

theorem State.autoClose_frame (s : State) (g : ℕ) :
    (State.autoClose s g).unit = s.unit ∧ (State.autoClose s g).opUs = s.opUs ∧
    (State.autoClose s g).savedOpUs = s.savedOpUs ∧ (State.autoClose s g).powerCycle = s.powerCycle ∧
    (State.autoClose s g).epoch = s.epoch ∧ (State.autoClose s g).power = s.power ∧ (State.autoClose s g).rt = s.rt ∧
    (State.autoClose s g).sec = s.sec ∧ (State.autoClose s g).station = s.station ∧
    (State.autoClose s g).vote = s.vote ∧ (State.autoClose s g).ash = s.ash ∧ (State.autoClose s g).field = s.field ∧
    (State.autoClose s g).can = s.can ∧ (State.autoClose s g).net = s.net ∧ (State.autoClose s g).xings = s.xings ∧
    (State.autoClose s g).mg = s.mg ∧ (State.autoClose s g).log = s.log ∧ (State.autoClose s g).test = s.test ∧
    (State.autoClose s g).update = s.update ∧ (State.autoClose s g).draws = s.draws ∧
    (State.autoClose s g).diag = s.diag ∧ (State.autoClose s g).pending = s.pending := by
  unfold State.autoClose; (repeat' split) <;> simp [State.closeEdge_frame _ _, State.doorNote_frame _ _ _ _ _,
        State.event_frame _ _ _ _ _ _ _ _]

theorem State.decideDoorHealth_frame (s : State) (q : Req) :
    (State.decideDoorHealth s q).unit = s.unit ∧ (State.decideDoorHealth s q).opUs = s.opUs ∧
    (State.decideDoorHealth s q).savedOpUs = s.savedOpUs ∧ (State.decideDoorHealth s q).powerCycle = s.powerCycle ∧
    (State.decideDoorHealth s q).epoch = s.epoch ∧ (State.decideDoorHealth s q).power = s.power ∧
    (State.decideDoorHealth s q).rt = s.rt ∧ (State.decideDoorHealth s q).sec = s.sec ∧
    (State.decideDoorHealth s q).station = s.station ∧ (State.decideDoorHealth s q).bench = s.bench ∧
    (State.decideDoorHealth s q).eng = s.eng ∧ (State.decideDoorHealth s q).vote = s.vote ∧
    (State.decideDoorHealth s q).ash = s.ash ∧ (State.decideDoorHealth s q).field = s.field ∧
    (State.decideDoorHealth s q).can = s.can ∧ (State.decideDoorHealth s q).net = s.net ∧
    (State.decideDoorHealth s q).xings = s.xings ∧ (State.decideDoorHealth s q).recorder = s.recorder ∧
    (State.decideDoorHealth s q).log = s.log ∧ (State.decideDoorHealth s q).test = s.test ∧
    (State.decideDoorHealth s q).update = s.update ∧ (State.decideDoorHealth s q).draws = s.draws ∧
    (State.decideDoorHealth s q).diag = s.diag ∧ (State.decideDoorHealth s q).pending = s.pending := by
  simp only [State.decideDoorHealth, State.mgCommand]; (repeat' split) <;> simp [State.answer_frame _ _ _ _ _ _ _,
        State.heard_frame _ _]

end Sys2Proof.Machine
end

