-- ==== Sys2Proof/Laws/Routes.lean ====
section
/-! SUPPORT. What the operations of Machine/Routes.lean leave alone: one lemma for each, naming every part of the state that
it does not write. -/

namespace Sys2Proof.Machine

open Sys2Proof

theorem State.throwPoint_frame (s : State) (i : ℕ) (pos : ℕ) :
    (State.throwPoint s i pos).unit = s.unit ∧ (State.throwPoint s i pos).opUs = s.opUs ∧
    (State.throwPoint s i pos).savedOpUs = s.savedOpUs ∧ (State.throwPoint s i pos).powerCycle = s.powerCycle ∧
    (State.throwPoint s i pos).epoch = s.epoch ∧ (State.throwPoint s i pos).power = s.power ∧
    (State.throwPoint s i pos).rt = s.rt ∧ (State.throwPoint s i pos).sec = s.sec ∧
    (State.throwPoint s i pos).station = s.station ∧ (State.throwPoint s i pos).bench = s.bench ∧
    (State.throwPoint s i pos).vote = s.vote ∧ (State.throwPoint s i pos).ash = s.ash ∧
    (State.throwPoint s i pos).field = s.field ∧ (State.throwPoint s i pos).can = s.can ∧
    (State.throwPoint s i pos).net = s.net ∧ (State.throwPoint s i pos).hi = s.hi ∧
    (State.throwPoint s i pos).xings = s.xings ∧ (State.throwPoint s i pos).mg = s.mg ∧
    (State.throwPoint s i pos).recorder = s.recorder ∧ (State.throwPoint s i pos).log = s.log ∧
    (State.throwPoint s i pos).test = s.test ∧ (State.throwPoint s i pos).update = s.update ∧
    (State.throwPoint s i pos).draws = s.draws ∧ (State.throwPoint s i pos).outbox = s.outbox ∧
    (State.throwPoint s i pos).diag = s.diag ∧ (State.throwPoint s i pos).pending = s.pending := by
  simp [State.throwPoint, State.modDyn_frame _ _ _, State.startTxn_frame _ _ _ _ _, State.demandOf_frame _ _ _]

theorem State.routeReason_frame (s : State) (n : ℕ) (reason : ℕ) (param : ℕ) :
    (State.routeReason s n reason param).unit = s.unit ∧ (State.routeReason s n reason param).opUs = s.opUs ∧
    (State.routeReason s n reason param).savedOpUs = s.savedOpUs ∧
    (State.routeReason s n reason param).powerCycle = s.powerCycle ∧
    (State.routeReason s n reason param).epoch = s.epoch ∧ (State.routeReason s n reason param).power = s.power ∧
    (State.routeReason s n reason param).rt = s.rt ∧ (State.routeReason s n reason param).sec = s.sec ∧
    (State.routeReason s n reason param).station = s.station ∧ (State.routeReason s n reason param).bench = s.bench ∧
    (State.routeReason s n reason param).vote = s.vote ∧ (State.routeReason s n reason param).ash = s.ash ∧
    (State.routeReason s n reason param).field = s.field ∧ (State.routeReason s n reason param).can = s.can ∧
    (State.routeReason s n reason param).net = s.net ∧ (State.routeReason s n reason param).hi = s.hi ∧
    (State.routeReason s n reason param).xings = s.xings ∧ (State.routeReason s n reason param).mg = s.mg ∧
    (State.routeReason s n reason param).recorder = s.recorder ∧ (State.routeReason s n reason param).log = s.log ∧
    (State.routeReason s n reason param).test = s.test ∧ (State.routeReason s n reason param).update = s.update ∧
    (State.routeReason s n reason param).draws = s.draws ∧ (State.routeReason s n reason param).outbox = s.outbox ∧
    (State.routeReason s n reason param).diag = s.diag ∧ (State.routeReason s n reason param).pending = s.pending
    := by
  simp [State.routeReason, State.modRoute_frame _ _ _]

theorem State.enterLocked_frame (s : State) (n : ℕ) (r : Route) :
    (State.enterLocked s n r).unit = s.unit ∧ (State.enterLocked s n r).opUs = s.opUs ∧
    (State.enterLocked s n r).savedOpUs = s.savedOpUs ∧ (State.enterLocked s n r).powerCycle = s.powerCycle ∧
    (State.enterLocked s n r).epoch = s.epoch ∧ (State.enterLocked s n r).power = s.power ∧
    (State.enterLocked s n r).rt = s.rt ∧ (State.enterLocked s n r).sec = s.sec ∧
    (State.enterLocked s n r).station = s.station ∧ (State.enterLocked s n r).bench = s.bench ∧
    (State.enterLocked s n r).vote = s.vote ∧ (State.enterLocked s n r).ash = s.ash ∧
    (State.enterLocked s n r).field = s.field ∧ (State.enterLocked s n r).can = s.can ∧
    (State.enterLocked s n r).hi = s.hi ∧ (State.enterLocked s n r).xings = s.xings ∧
    (State.enterLocked s n r).mg = s.mg ∧ (State.enterLocked s n r).recorder = s.recorder ∧
    (State.enterLocked s n r).log = s.log ∧ (State.enterLocked s n r).test = s.test ∧
    (State.enterLocked s n r).update = s.update ∧ (State.enterLocked s n r).draws = s.draws ∧
    (State.enterLocked s n r).outbox = s.outbox ∧ (State.enterLocked s n r).diag = s.diag ∧
    (State.enterLocked s n r).pending = s.pending := by
  simp [State.enterLocked, State.modNode_frame _ _ _, State.modRoute_frame _ _ _]

theorem State.freeRoute_frame (s : State) (n : ℕ) (reason : ℕ) (param : ℕ) :
    (State.freeRoute s n reason param).unit = s.unit ∧ (State.freeRoute s n reason param).opUs = s.opUs ∧
    (State.freeRoute s n reason param).savedOpUs = s.savedOpUs ∧
    (State.freeRoute s n reason param).powerCycle = s.powerCycle ∧ (State.freeRoute s n reason param).epoch = s.epoch
    ∧ (State.freeRoute s n reason param).power = s.power ∧ (State.freeRoute s n reason param).rt = s.rt ∧
    (State.freeRoute s n reason param).sec = s.sec ∧ (State.freeRoute s n reason param).station = s.station ∧
    (State.freeRoute s n reason param).bench = s.bench ∧ (State.freeRoute s n reason param).vote = s.vote ∧
    (State.freeRoute s n reason param).ash = s.ash ∧ (State.freeRoute s n reason param).field = s.field ∧
    (State.freeRoute s n reason param).can = s.can ∧ (State.freeRoute s n reason param).net = s.net ∧
    (State.freeRoute s n reason param).hi = s.hi ∧ (State.freeRoute s n reason param).xings = s.xings ∧
    (State.freeRoute s n reason param).mg = s.mg ∧ (State.freeRoute s n reason param).recorder = s.recorder ∧
    (State.freeRoute s n reason param).log = s.log ∧ (State.freeRoute s n reason param).test = s.test ∧
    (State.freeRoute s n reason param).update = s.update ∧ (State.freeRoute s n reason param).draws = s.draws ∧
    (State.freeRoute s n reason param).outbox = s.outbox ∧ (State.freeRoute s n reason param).diag = s.diag ∧
    (State.freeRoute s n reason param).pending = s.pending := by
  simp [State.freeRoute, State.modRoute_frame _ _ _, State.dropLocks_frame _ _]

theorem State.grantRoute_frame (s : State) (n : ℕ) (r : Route) :
    (State.grantRoute s n r).unit = s.unit ∧ (State.grantRoute s n r).opUs = s.opUs ∧
    (State.grantRoute s n r).savedOpUs = s.savedOpUs ∧ (State.grantRoute s n r).powerCycle = s.powerCycle ∧
    (State.grantRoute s n r).epoch = s.epoch ∧ (State.grantRoute s n r).power = s.power ∧
    (State.grantRoute s n r).rt = s.rt ∧ (State.grantRoute s n r).sec = s.sec ∧
    (State.grantRoute s n r).station = s.station ∧ (State.grantRoute s n r).bench = s.bench ∧
    (State.grantRoute s n r).vote = s.vote ∧ (State.grantRoute s n r).ash = s.ash ∧
    (State.grantRoute s n r).field = s.field ∧ (State.grantRoute s n r).can = s.can ∧
    (State.grantRoute s n r).hi = s.hi ∧ (State.grantRoute s n r).xings = s.xings ∧ (State.grantRoute s n r).mg = s.mg
    ∧ (State.grantRoute s n r).recorder = s.recorder ∧ (State.grantRoute s n r).log = s.log ∧
    (State.grantRoute s n r).test = s.test ∧ (State.grantRoute s n r).update = s.update ∧
    (State.grantRoute s n r).draws = s.draws ∧ (State.grantRoute s n r).outbox = s.outbox ∧
    (State.grantRoute s n r).diag = s.diag ∧ (State.grantRoute s n r).pending = s.pending := by
  simp [State.grantRoute, State.enterLocked_frame _ _ _, State.takeLocks_frame _ _ _, State.modRoute_frame _ _ _,
        State.throwPoint_frame _ _ _]

theorem State.withdrawClear_frame (s : State) (n : ℕ) (r : Route) :
    (State.withdrawClear s n r).unit = s.unit ∧ (State.withdrawClear s n r).opUs = s.opUs ∧
    (State.withdrawClear s n r).savedOpUs = s.savedOpUs ∧ (State.withdrawClear s n r).powerCycle = s.powerCycle ∧
    (State.withdrawClear s n r).epoch = s.epoch ∧ (State.withdrawClear s n r).power = s.power ∧
    (State.withdrawClear s n r).rt = s.rt ∧ (State.withdrawClear s n r).sec = s.sec ∧
    (State.withdrawClear s n r).station = s.station ∧ (State.withdrawClear s n r).bench = s.bench ∧
    (State.withdrawClear s n r).vote = s.vote ∧ (State.withdrawClear s n r).ash = s.ash ∧
    (State.withdrawClear s n r).field = s.field ∧ (State.withdrawClear s n r).can = s.can ∧
    (State.withdrawClear s n r).net = s.net ∧ (State.withdrawClear s n r).hi = s.hi ∧
    (State.withdrawClear s n r).xings = s.xings ∧ (State.withdrawClear s n r).mg = s.mg ∧
    (State.withdrawClear s n r).recorder = s.recorder ∧ (State.withdrawClear s n r).log = s.log ∧
    (State.withdrawClear s n r).test = s.test ∧ (State.withdrawClear s n r).update = s.update ∧
    (State.withdrawClear s n r).draws = s.draws ∧ (State.withdrawClear s n r).outbox = s.outbox ∧
    (State.withdrawClear s n r).diag = s.diag ∧ (State.withdrawClear s n r).pending = s.pending := by
  simp [State.withdrawClear, State.demandOf_frame _ _ _, State.demandOf_eng_frame _ _ _]

theorem State.enterCancelling_frame (s : State) (n : ℕ) (r : Route) (reason : ℕ) (param : ℕ) :
    (State.enterCancelling s n r reason param).unit = s.unit ∧
    (State.enterCancelling s n r reason param).opUs = s.opUs ∧
    (State.enterCancelling s n r reason param).savedOpUs = s.savedOpUs ∧
    (State.enterCancelling s n r reason param).powerCycle = s.powerCycle ∧
    (State.enterCancelling s n r reason param).epoch = s.epoch ∧
    (State.enterCancelling s n r reason param).power = s.power ∧ (State.enterCancelling s n r reason param).rt = s.rt
    ∧ (State.enterCancelling s n r reason param).sec = s.sec ∧
    (State.enterCancelling s n r reason param).station = s.station ∧
    (State.enterCancelling s n r reason param).bench = s.bench ∧
    (State.enterCancelling s n r reason param).vote = s.vote ∧ (State.enterCancelling s n r reason param).ash = s.ash
    ∧ (State.enterCancelling s n r reason param).field = s.field ∧
    (State.enterCancelling s n r reason param).can = s.can ∧ (State.enterCancelling s n r reason param).net = s.net ∧
    (State.enterCancelling s n r reason param).hi = s.hi ∧ (State.enterCancelling s n r reason param).xings = s.xings
    ∧ (State.enterCancelling s n r reason param).mg = s.mg ∧
    (State.enterCancelling s n r reason param).recorder = s.recorder ∧
    (State.enterCancelling s n r reason param).log = s.log ∧ (State.enterCancelling s n r reason param).test = s.test
    ∧ (State.enterCancelling s n r reason param).update = s.update ∧
    (State.enterCancelling s n r reason param).draws = s.draws ∧
    (State.enterCancelling s n r reason param).outbox = s.outbox ∧
    (State.enterCancelling s n r reason param).diag = s.diag ∧
    (State.enterCancelling s n r reason param).pending = s.pending := by
  simp [State.enterCancelling, State.modRoute_frame _ _ _, State.commandStop_frame _ _]

theorem State.enterOccupied_frame (s : State) (n : ℕ) (r : Route) :
    (State.enterOccupied s n r).unit = s.unit ∧ (State.enterOccupied s n r).opUs = s.opUs ∧
    (State.enterOccupied s n r).savedOpUs = s.savedOpUs ∧ (State.enterOccupied s n r).powerCycle = s.powerCycle ∧
    (State.enterOccupied s n r).epoch = s.epoch ∧ (State.enterOccupied s n r).power = s.power ∧
    (State.enterOccupied s n r).rt = s.rt ∧ (State.enterOccupied s n r).sec = s.sec ∧
    (State.enterOccupied s n r).station = s.station ∧ (State.enterOccupied s n r).bench = s.bench ∧
    (State.enterOccupied s n r).vote = s.vote ∧ (State.enterOccupied s n r).ash = s.ash ∧
    (State.enterOccupied s n r).field = s.field ∧ (State.enterOccupied s n r).can = s.can ∧
    (State.enterOccupied s n r).net = s.net ∧ (State.enterOccupied s n r).hi = s.hi ∧
    (State.enterOccupied s n r).xings = s.xings ∧ (State.enterOccupied s n r).mg = s.mg ∧
    (State.enterOccupied s n r).recorder = s.recorder ∧ (State.enterOccupied s n r).log = s.log ∧
    (State.enterOccupied s n r).test = s.test ∧ (State.enterOccupied s n r).update = s.update ∧
    (State.enterOccupied s n r).draws = s.draws ∧ (State.enterOccupied s n r).outbox = s.outbox ∧
    (State.enterOccupied s n r).diag = s.diag ∧ (State.enterOccupied s n r).pending = s.pending := by
  simp [State.enterOccupied, State.modRoute_frame _ _ _, State.commandStop_frame _ _]

theorem State.tryClear_frame (s : State) (n : ℕ) (r : Route) :
    (State.tryClear s n r).unit = s.unit ∧ (State.tryClear s n r).opUs = s.opUs ∧
    (State.tryClear s n r).savedOpUs = s.savedOpUs ∧ (State.tryClear s n r).powerCycle = s.powerCycle ∧
    (State.tryClear s n r).epoch = s.epoch ∧ (State.tryClear s n r).power = s.power ∧ (State.tryClear s n r).rt = s.rt
    ∧ (State.tryClear s n r).sec = s.sec ∧ (State.tryClear s n r).station = s.station ∧
    (State.tryClear s n r).bench = s.bench ∧ (State.tryClear s n r).vote = s.vote ∧ (State.tryClear s n r).ash = s.ash
    ∧ (State.tryClear s n r).field = s.field ∧ (State.tryClear s n r).can = s.can ∧ (State.tryClear s n r).net = s.net
    ∧ (State.tryClear s n r).hi = s.hi ∧ (State.tryClear s n r).xings = s.xings ∧ (State.tryClear s n r).mg = s.mg ∧
    (State.tryClear s n r).recorder = s.recorder ∧ (State.tryClear s n r).log = s.log ∧
    (State.tryClear s n r).test = s.test ∧ (State.tryClear s n r).update = s.update ∧
    (State.tryClear s n r).draws = s.draws ∧ (State.tryClear s n r).outbox = s.outbox ∧
    (State.tryClear s n r).diag = s.diag ∧ (State.tryClear s n r).pending = s.pending := by
  simp only [State.tryClear]; (repeat' split) <;> simp [State.routeReason_frame _ _ _ _, State.modRoute_frame _ _ _,
        State.startTxn_frame _ _ _ _ _, State.demandOf_frame _ _ _]

theorem State.clearProven_frame (s : State) :
    (State.clearProven s).unit = s.unit ∧ (State.clearProven s).opUs = s.opUs ∧ (State.clearProven s).savedOpUs =
    s.savedOpUs ∧ (State.clearProven s).powerCycle = s.powerCycle ∧ (State.clearProven s).epoch = s.epoch ∧
    (State.clearProven s).power = s.power ∧ (State.clearProven s).rt = s.rt ∧ (State.clearProven s).sec = s.sec ∧
    (State.clearProven s).station = s.station ∧ (State.clearProven s).bench = s.bench ∧ (State.clearProven s).vote =
    s.vote ∧ (State.clearProven s).ash = s.ash ∧ (State.clearProven s).field = s.field ∧ (State.clearProven s).can =
    s.can ∧ (State.clearProven s).net = s.net ∧ (State.clearProven s).hi = s.hi ∧ (State.clearProven s).xings =
    s.xings ∧ (State.clearProven s).mg = s.mg ∧ (State.clearProven s).recorder = s.recorder ∧ (State.clearProven
    s).log = s.log ∧ (State.clearProven s).test = s.test ∧ (State.clearProven s).update = s.update ∧
    (State.clearProven s).draws = s.draws ∧ (State.clearProven s).diag = s.diag ∧ (State.clearProven s).outbox =
    s.outbox ∧ (State.clearProven s).pending = s.pending := by
  unfold State.clearProven
  refine ⟨State.foldl_unit _ (fun s w => ?_) _ _, State.foldl_opUs _ (fun s w => ?_) _ _, State.foldl_savedOpUs _ (fun s w
    => ?_) _ _, State.foldl_powerCycle _ (fun s w => ?_) _ _, State.foldl_epoch _ (fun s w => ?_) _ _,
    State.foldl_power _ (fun s w => ?_) _ _, State.foldl_rt _ (fun s w => ?_) _ _, State.foldl_sec _ (fun s w =>
    ?_) _ _, State.foldl_station _ (fun s w => ?_) _ _, State.foldl_bench _ (fun s w => ?_) _ _,
    State.foldl_vote _ (fun s w => ?_) _ _, State.foldl_ash _ (fun s w => ?_) _ _, State.foldl_field _ (fun s w
    => ?_) _ _, State.foldl_can _ (fun s w => ?_) _ _, State.foldl_net _ (fun s w => ?_) _ _, State.foldl_hi _
    (fun s w => ?_) _ _, State.foldl_xings _ (fun s w => ?_) _ _, State.foldl_mg _ (fun s w => ?_) _ _,
    State.foldl_recorder _ (fun s w => ?_) _ _, State.foldl_log _ (fun s w => ?_) _ _, State.foldl_test _ (fun s
    w => ?_) _ _, State.foldl_update _ (fun s w => ?_) _ _, State.foldl_draws _ (fun s w => ?_) _ _,
    State.foldl_diag _ (fun s w => ?_) _ _, State.foldl_outbox _ (fun s w => ?_) _ _, State.foldl_pending _ (fun
    s w => ?_) _ _⟩ <;>
    (split <;> simp [State.tryClear_frame _ _ _])

theorem State.stepSetting_frame (s : State) (n : ℕ) (r : Route) :
    (State.stepSetting s n r).unit = s.unit ∧ (State.stepSetting s n r).opUs = s.opUs ∧
    (State.stepSetting s n r).savedOpUs = s.savedOpUs ∧ (State.stepSetting s n r).powerCycle = s.powerCycle ∧
    (State.stepSetting s n r).epoch = s.epoch ∧ (State.stepSetting s n r).power = s.power ∧
    (State.stepSetting s n r).rt = s.rt ∧ (State.stepSetting s n r).sec = s.sec ∧
    (State.stepSetting s n r).station = s.station ∧ (State.stepSetting s n r).bench = s.bench ∧
    (State.stepSetting s n r).vote = s.vote ∧ (State.stepSetting s n r).ash = s.ash ∧
    (State.stepSetting s n r).field = s.field ∧ (State.stepSetting s n r).can = s.can ∧
    (State.stepSetting s n r).hi = s.hi ∧ (State.stepSetting s n r).xings = s.xings ∧
    (State.stepSetting s n r).mg = s.mg ∧ (State.stepSetting s n r).recorder = s.recorder ∧
    (State.stepSetting s n r).log = s.log ∧ (State.stepSetting s n r).test = s.test ∧
    (State.stepSetting s n r).update = s.update ∧ (State.stepSetting s n r).draws = s.draws ∧
    (State.stepSetting s n r).outbox = s.outbox ∧ (State.stepSetting s n r).diag = s.diag ∧
    (State.stepSetting s n r).pending = s.pending := by
  unfold State.stepSetting; (repeat' split) <;> simp [State.freeRoute_frame _ _ _ _, State.enterLocked_frame _ _ _]

theorem State.proofExpiry_frame (s : State) (n : ℕ) (r : Route) :
    (State.proofExpiry s n r).unit = s.unit ∧ (State.proofExpiry s n r).opUs = s.opUs ∧
    (State.proofExpiry s n r).savedOpUs = s.savedOpUs ∧ (State.proofExpiry s n r).powerCycle = s.powerCycle ∧
    (State.proofExpiry s n r).epoch = s.epoch ∧ (State.proofExpiry s n r).power = s.power ∧
    (State.proofExpiry s n r).rt = s.rt ∧ (State.proofExpiry s n r).sec = s.sec ∧
    (State.proofExpiry s n r).station = s.station ∧ (State.proofExpiry s n r).bench = s.bench ∧
    (State.proofExpiry s n r).vote = s.vote ∧ (State.proofExpiry s n r).ash = s.ash ∧
    (State.proofExpiry s n r).field = s.field ∧ (State.proofExpiry s n r).can = s.can ∧
    (State.proofExpiry s n r).net = s.net ∧ (State.proofExpiry s n r).hi = s.hi ∧
    (State.proofExpiry s n r).xings = s.xings ∧ (State.proofExpiry s n r).mg = s.mg ∧
    (State.proofExpiry s n r).recorder = s.recorder ∧ (State.proofExpiry s n r).log = s.log ∧
    (State.proofExpiry s n r).test = s.test ∧ (State.proofExpiry s n r).update = s.update ∧
    (State.proofExpiry s n r).draws = s.draws ∧ (State.proofExpiry s n r).outbox = s.outbox ∧
    (State.proofExpiry s n r).diag = s.diag ∧ (State.proofExpiry s n r).pending = s.pending := by
  unfold State.proofExpiry; (repeat' split) <;> simp [State.freeRoute_frame _ _ _ _]

theorem State.stepLocked_frame (s : State) (n : ℕ) (r : Route) :
    (State.stepLocked s n r).unit = s.unit ∧ (State.stepLocked s n r).opUs = s.opUs ∧
    (State.stepLocked s n r).savedOpUs = s.savedOpUs ∧ (State.stepLocked s n r).powerCycle = s.powerCycle ∧
    (State.stepLocked s n r).epoch = s.epoch ∧ (State.stepLocked s n r).power = s.power ∧
    (State.stepLocked s n r).rt = s.rt ∧ (State.stepLocked s n r).sec = s.sec ∧
    (State.stepLocked s n r).station = s.station ∧ (State.stepLocked s n r).bench = s.bench ∧
    (State.stepLocked s n r).vote = s.vote ∧ (State.stepLocked s n r).ash = s.ash ∧
    (State.stepLocked s n r).field = s.field ∧ (State.stepLocked s n r).can = s.can ∧
    (State.stepLocked s n r).net = s.net ∧ (State.stepLocked s n r).hi = s.hi ∧
    (State.stepLocked s n r).xings = s.xings ∧ (State.stepLocked s n r).mg = s.mg ∧
    (State.stepLocked s n r).recorder = s.recorder ∧ (State.stepLocked s n r).log = s.log ∧
    (State.stepLocked s n r).test = s.test ∧ (State.stepLocked s n r).update = s.update ∧
    (State.stepLocked s n r).draws = s.draws ∧ (State.stepLocked s n r).outbox = s.outbox ∧
    (State.stepLocked s n r).diag = s.diag ∧ (State.stepLocked s n r).pending = s.pending := by
  unfold State.stepLocked; (repeat' split) <;> simp [State.freeRoute_frame _ _ _ _,
        State.modRoute_frame _ _ _, State.proofExpiry_frame _ _ _, State.routeReason_frame _ _ _ _]

theorem State.stepProven_frame (s : State) (n : ℕ) (r : Route) :
    (State.stepProven s n r).unit = s.unit ∧ (State.stepProven s n r).opUs = s.opUs ∧
    (State.stepProven s n r).savedOpUs = s.savedOpUs ∧ (State.stepProven s n r).powerCycle = s.powerCycle ∧
    (State.stepProven s n r).epoch = s.epoch ∧ (State.stepProven s n r).power = s.power ∧
    (State.stepProven s n r).rt = s.rt ∧ (State.stepProven s n r).sec = s.sec ∧
    (State.stepProven s n r).station = s.station ∧ (State.stepProven s n r).bench = s.bench ∧
    (State.stepProven s n r).vote = s.vote ∧ (State.stepProven s n r).ash = s.ash ∧
    (State.stepProven s n r).field = s.field ∧ (State.stepProven s n r).can = s.can ∧
    (State.stepProven s n r).net = s.net ∧ (State.stepProven s n r).hi = s.hi ∧
    (State.stepProven s n r).xings = s.xings ∧ (State.stepProven s n r).mg = s.mg ∧
    (State.stepProven s n r).recorder = s.recorder ∧ (State.stepProven s n r).log = s.log ∧
    (State.stepProven s n r).test = s.test ∧ (State.stepProven s n r).update = s.update ∧
    (State.stepProven s n r).draws = s.draws ∧ (State.stepProven s n r).outbox = s.outbox ∧
    (State.stepProven s n r).diag = s.diag ∧ (State.stepProven s n r).pending = s.pending := by
  simp only [State.stepProven]; (repeat' split) <;> simp [State.freeRoute_frame _ _ _ _,
        State.withdrawClear_frame _ _ _, State.enterCancelling_frame _ _ _ _ _,
        State.modRoute_frame _ _ _]

theorem State.stepClear_frame (s : State) (n : ℕ) (r : Route) :
    (State.stepClear s n r).unit = s.unit ∧ (State.stepClear s n r).opUs = s.opUs ∧
    (State.stepClear s n r).savedOpUs = s.savedOpUs ∧ (State.stepClear s n r).powerCycle = s.powerCycle ∧
    (State.stepClear s n r).epoch = s.epoch ∧ (State.stepClear s n r).power = s.power ∧
    (State.stepClear s n r).rt = s.rt ∧ (State.stepClear s n r).sec = s.sec ∧
    (State.stepClear s n r).station = s.station ∧ (State.stepClear s n r).bench = s.bench ∧
    (State.stepClear s n r).vote = s.vote ∧ (State.stepClear s n r).ash = s.ash ∧
    (State.stepClear s n r).field = s.field ∧ (State.stepClear s n r).can = s.can ∧
    (State.stepClear s n r).net = s.net ∧ (State.stepClear s n r).hi = s.hi ∧ (State.stepClear s n r).xings = s.xings
    ∧ (State.stepClear s n r).mg = s.mg ∧ (State.stepClear s n r).recorder = s.recorder ∧
    (State.stepClear s n r).log = s.log ∧ (State.stepClear s n r).test = s.test ∧
    (State.stepClear s n r).update = s.update ∧ (State.stepClear s n r).draws = s.draws ∧
    (State.stepClear s n r).outbox = s.outbox ∧ (State.stepClear s n r).diag = s.diag ∧
    (State.stepClear s n r).pending = s.pending := by
  unfold State.stepClear; (repeat' split) <;> simp [State.enterCancelling_frame _ _ _ _ _,
        State.enterOccupied_frame _ _ _]

theorem State.approachRelease_frame (s : State) (n : ℕ) (r : Route) :
    (State.approachRelease s n r).unit = s.unit ∧ (State.approachRelease s n r).opUs = s.opUs ∧
    (State.approachRelease s n r).savedOpUs = s.savedOpUs ∧ (State.approachRelease s n r).powerCycle = s.powerCycle ∧
    (State.approachRelease s n r).epoch = s.epoch ∧ (State.approachRelease s n r).power = s.power ∧
    (State.approachRelease s n r).rt = s.rt ∧ (State.approachRelease s n r).sec = s.sec ∧
    (State.approachRelease s n r).station = s.station ∧ (State.approachRelease s n r).bench = s.bench ∧
    (State.approachRelease s n r).vote = s.vote ∧ (State.approachRelease s n r).ash = s.ash ∧
    (State.approachRelease s n r).field = s.field ∧ (State.approachRelease s n r).can = s.can ∧
    (State.approachRelease s n r).net = s.net ∧ (State.approachRelease s n r).hi = s.hi ∧
    (State.approachRelease s n r).xings = s.xings ∧ (State.approachRelease s n r).mg = s.mg ∧
    (State.approachRelease s n r).recorder = s.recorder ∧ (State.approachRelease s n r).log = s.log ∧
    (State.approachRelease s n r).test = s.test ∧ (State.approachRelease s n r).update = s.update ∧
    (State.approachRelease s n r).draws = s.draws ∧ (State.approachRelease s n r).outbox = s.outbox ∧
    (State.approachRelease s n r).diag = s.diag ∧ (State.approachRelease s n r).pending = s.pending := by
  simp only [State.approachRelease]; (repeat' split) <;> simp [State.freeRoute_frame _ _ _ _,
        State.modRoute_frame _ _ _]

theorem State.stepCancelling_frame (s : State) (n : ℕ) (r : Route) :
    (State.stepCancelling s n r).unit = s.unit ∧ (State.stepCancelling s n r).opUs = s.opUs ∧
    (State.stepCancelling s n r).savedOpUs = s.savedOpUs ∧ (State.stepCancelling s n r).powerCycle = s.powerCycle ∧
    (State.stepCancelling s n r).epoch = s.epoch ∧ (State.stepCancelling s n r).power = s.power ∧
    (State.stepCancelling s n r).rt = s.rt ∧ (State.stepCancelling s n r).sec = s.sec ∧
    (State.stepCancelling s n r).station = s.station ∧ (State.stepCancelling s n r).bench = s.bench ∧
    (State.stepCancelling s n r).vote = s.vote ∧ (State.stepCancelling s n r).ash = s.ash ∧
    (State.stepCancelling s n r).field = s.field ∧ (State.stepCancelling s n r).can = s.can ∧
    (State.stepCancelling s n r).net = s.net ∧ (State.stepCancelling s n r).hi = s.hi ∧
    (State.stepCancelling s n r).xings = s.xings ∧ (State.stepCancelling s n r).mg = s.mg ∧
    (State.stepCancelling s n r).recorder = s.recorder ∧ (State.stepCancelling s n r).log = s.log ∧
    (State.stepCancelling s n r).test = s.test ∧ (State.stepCancelling s n r).update = s.update ∧
    (State.stepCancelling s n r).draws = s.draws ∧ (State.stepCancelling s n r).outbox = s.outbox ∧
    (State.stepCancelling s n r).diag = s.diag ∧ (State.stepCancelling s n r).pending = s.pending := by
  simp [State.stepCancelling, State.enterOccupied_frame _ _ _, State.approachRelease_frame _ _ _]

theorem State.releaseNext_frame (s : State) (n : ℕ) (r : Route) (p : (ℕ × ℕ) × ℕ) :
    (State.releaseNext s n r p).unit = s.unit ∧ (State.releaseNext s n r p).opUs = s.opUs ∧
    (State.releaseNext s n r p).savedOpUs = s.savedOpUs ∧ (State.releaseNext s n r p).powerCycle = s.powerCycle ∧
    (State.releaseNext s n r p).epoch = s.epoch ∧ (State.releaseNext s n r p).power = s.power ∧
    (State.releaseNext s n r p).rt = s.rt ∧ (State.releaseNext s n r p).sec = s.sec ∧
    (State.releaseNext s n r p).station = s.station ∧ (State.releaseNext s n r p).bench = s.bench ∧
    (State.releaseNext s n r p).vote = s.vote ∧ (State.releaseNext s n r p).ash = s.ash ∧
    (State.releaseNext s n r p).field = s.field ∧ (State.releaseNext s n r p).can = s.can ∧
    (State.releaseNext s n r p).net = s.net ∧ (State.releaseNext s n r p).hi = s.hi ∧
    (State.releaseNext s n r p).xings = s.xings ∧ (State.releaseNext s n r p).mg = s.mg ∧
    (State.releaseNext s n r p).recorder = s.recorder ∧ (State.releaseNext s n r p).log = s.log ∧
    (State.releaseNext s n r p).test = s.test ∧ (State.releaseNext s n r p).update = s.update ∧
    (State.releaseNext s n r p).draws = s.draws ∧ (State.releaseNext s n r p).outbox = s.outbox ∧
    (State.releaseNext s n r p).diag = s.diag ∧ (State.releaseNext s n r p).pending = s.pending := by
  simp [State.releaseNext, State.modRoute_frame _ _ _, State.releaseGroup_frame _ _ _ _]

theorem State.overlapRelease_frame (s : State) (n : ℕ) (r : Route) :
    (State.overlapRelease s n r).unit = s.unit ∧ (State.overlapRelease s n r).opUs = s.opUs ∧
    (State.overlapRelease s n r).savedOpUs = s.savedOpUs ∧ (State.overlapRelease s n r).powerCycle = s.powerCycle ∧
    (State.overlapRelease s n r).epoch = s.epoch ∧ (State.overlapRelease s n r).power = s.power ∧
    (State.overlapRelease s n r).rt = s.rt ∧ (State.overlapRelease s n r).sec = s.sec ∧
    (State.overlapRelease s n r).station = s.station ∧ (State.overlapRelease s n r).bench = s.bench ∧
    (State.overlapRelease s n r).vote = s.vote ∧ (State.overlapRelease s n r).ash = s.ash ∧
    (State.overlapRelease s n r).field = s.field ∧ (State.overlapRelease s n r).can = s.can ∧
    (State.overlapRelease s n r).net = s.net ∧ (State.overlapRelease s n r).hi = s.hi ∧
    (State.overlapRelease s n r).xings = s.xings ∧ (State.overlapRelease s n r).mg = s.mg ∧
    (State.overlapRelease s n r).recorder = s.recorder ∧ (State.overlapRelease s n r).log = s.log ∧
    (State.overlapRelease s n r).test = s.test ∧ (State.overlapRelease s n r).update = s.update ∧
    (State.overlapRelease s n r).draws = s.draws ∧ (State.overlapRelease s n r).outbox = s.outbox ∧
    (State.overlapRelease s n r).diag = s.diag ∧ (State.overlapRelease s n r).pending = s.pending := by
  unfold State.overlapRelease; (repeat' split) <;> simp [State.freeRoute_frame _ _ _ _]

theorem State.stepOccupied_frame (s : State) (n : ℕ) (r : Route) :
    (State.stepOccupied s n r).unit = s.unit ∧ (State.stepOccupied s n r).opUs = s.opUs ∧
    (State.stepOccupied s n r).savedOpUs = s.savedOpUs ∧ (State.stepOccupied s n r).powerCycle = s.powerCycle ∧
    (State.stepOccupied s n r).epoch = s.epoch ∧ (State.stepOccupied s n r).power = s.power ∧
    (State.stepOccupied s n r).rt = s.rt ∧ (State.stepOccupied s n r).sec = s.sec ∧
    (State.stepOccupied s n r).station = s.station ∧ (State.stepOccupied s n r).bench = s.bench ∧
    (State.stepOccupied s n r).vote = s.vote ∧ (State.stepOccupied s n r).ash = s.ash ∧
    (State.stepOccupied s n r).field = s.field ∧ (State.stepOccupied s n r).can = s.can ∧
    (State.stepOccupied s n r).net = s.net ∧ (State.stepOccupied s n r).hi = s.hi ∧
    (State.stepOccupied s n r).xings = s.xings ∧ (State.stepOccupied s n r).mg = s.mg ∧
    (State.stepOccupied s n r).recorder = s.recorder ∧ (State.stepOccupied s n r).log = s.log ∧
    (State.stepOccupied s n r).test = s.test ∧ (State.stepOccupied s n r).update = s.update ∧
    (State.stepOccupied s n r).draws = s.draws ∧ (State.stepOccupied s n r).outbox = s.outbox ∧
    (State.stepOccupied s n r).diag = s.diag ∧ (State.stepOccupied s n r).pending = s.pending := by
  simp [State.stepOccupied, State.overlapRelease_frame _ _ _, State.releaseNext_frame _ _ _ _,
        State.modRoute_frame _ _ _]

theorem State.emergencyRelease_frame (s : State) (n : ℕ) (r : Route) :
    (State.emergencyRelease s n r).unit = s.unit ∧ (State.emergencyRelease s n r).opUs = s.opUs ∧
    (State.emergencyRelease s n r).savedOpUs = s.savedOpUs ∧ (State.emergencyRelease s n r).powerCycle = s.powerCycle
    ∧ (State.emergencyRelease s n r).epoch = s.epoch ∧ (State.emergencyRelease s n r).power = s.power ∧
    (State.emergencyRelease s n r).rt = s.rt ∧ (State.emergencyRelease s n r).sec = s.sec ∧
    (State.emergencyRelease s n r).station = s.station ∧ (State.emergencyRelease s n r).bench = s.bench ∧
    (State.emergencyRelease s n r).vote = s.vote ∧ (State.emergencyRelease s n r).ash = s.ash ∧
    (State.emergencyRelease s n r).field = s.field ∧ (State.emergencyRelease s n r).can = s.can ∧
    (State.emergencyRelease s n r).net = s.net ∧ (State.emergencyRelease s n r).hi = s.hi ∧
    (State.emergencyRelease s n r).xings = s.xings ∧ (State.emergencyRelease s n r).mg = s.mg ∧
    (State.emergencyRelease s n r).recorder = s.recorder ∧ (State.emergencyRelease s n r).log = s.log ∧
    (State.emergencyRelease s n r).test = s.test ∧ (State.emergencyRelease s n r).update = s.update ∧
    (State.emergencyRelease s n r).draws = s.draws ∧ (State.emergencyRelease s n r).outbox = s.outbox ∧
    (State.emergencyRelease s n r).diag = s.diag ∧ (State.emergencyRelease s n r).pending = s.pending := by
  simp only [State.emergencyRelease]; (repeat' split) <;> simp [State.modRoute_frame _ _ _,
        State.freeRoute_frame _ _ _ _]

theorem State.superviseRoute_frame (s : State) (n : ℕ) :
    (State.superviseRoute s n).unit = s.unit ∧ (State.superviseRoute s n).opUs = s.opUs ∧
    (State.superviseRoute s n).savedOpUs = s.savedOpUs ∧ (State.superviseRoute s n).powerCycle = s.powerCycle ∧
    (State.superviseRoute s n).epoch = s.epoch ∧ (State.superviseRoute s n).power = s.power ∧
    (State.superviseRoute s n).rt = s.rt ∧ (State.superviseRoute s n).sec = s.sec ∧
    (State.superviseRoute s n).station = s.station ∧ (State.superviseRoute s n).bench = s.bench ∧
    (State.superviseRoute s n).vote = s.vote ∧ (State.superviseRoute s n).ash = s.ash ∧
    (State.superviseRoute s n).field = s.field ∧ (State.superviseRoute s n).can = s.can ∧
    (State.superviseRoute s n).hi = s.hi ∧ (State.superviseRoute s n).xings = s.xings ∧
    (State.superviseRoute s n).mg = s.mg ∧ (State.superviseRoute s n).recorder = s.recorder ∧
    (State.superviseRoute s n).log = s.log ∧ (State.superviseRoute s n).test = s.test ∧
    (State.superviseRoute s n).update = s.update ∧ (State.superviseRoute s n).draws = s.draws ∧
    (State.superviseRoute s n).outbox = s.outbox ∧ (State.superviseRoute s n).diag = s.diag ∧
    (State.superviseRoute s n).pending = s.pending := by
  simp only [State.superviseRoute]; (repeat' split) <;> simp [State.emergencyRelease_frame _ _ _,
        State.stepOccupied_frame _ _ _, State.stepSetting_frame _ _ _, State.stepLocked_frame _ _ _,
        State.stepProven_frame _ _ _, State.stepClear_frame _ _ _, State.stepCancelling_frame _ _ _]

theorem State.superviseRoutes_frame (s : State) :
    (State.superviseRoutes s).unit = s.unit ∧ (State.superviseRoutes s).opUs = s.opUs ∧
    (State.superviseRoutes s).savedOpUs = s.savedOpUs ∧ (State.superviseRoutes s).powerCycle = s.powerCycle ∧
    (State.superviseRoutes s).epoch = s.epoch ∧ (State.superviseRoutes s).power = s.power ∧
    (State.superviseRoutes s).rt = s.rt ∧ (State.superviseRoutes s).sec = s.sec ∧
    (State.superviseRoutes s).station = s.station ∧ (State.superviseRoutes s).bench = s.bench ∧
    (State.superviseRoutes s).vote = s.vote ∧ (State.superviseRoutes s).ash = s.ash ∧
    (State.superviseRoutes s).field = s.field ∧ (State.superviseRoutes s).can = s.can ∧
    (State.superviseRoutes s).hi = s.hi ∧ (State.superviseRoutes s).xings = s.xings ∧
    (State.superviseRoutes s).mg = s.mg ∧ (State.superviseRoutes s).recorder = s.recorder ∧
    (State.superviseRoutes s).log = s.log ∧ (State.superviseRoutes s).test = s.test ∧
    (State.superviseRoutes s).update = s.update ∧ (State.superviseRoutes s).draws = s.draws ∧
    (State.superviseRoutes s).outbox = s.outbox ∧ (State.superviseRoutes s).diag = s.diag ∧
    (State.superviseRoutes s).pending = s.pending := by
  simp [State.superviseRoutes, State.superviseRoute_frame _ _, State.clearProven_frame _]

theorem State.afterDone_frame (s : State) (t : Txn) (commit : ℕ) :
    (State.afterDone s t commit).unit = s.unit ∧ (State.afterDone s t commit).opUs = s.opUs ∧
    (State.afterDone s t commit).savedOpUs = s.savedOpUs ∧ (State.afterDone s t commit).powerCycle = s.powerCycle ∧
    (State.afterDone s t commit).epoch = s.epoch ∧ (State.afterDone s t commit).power = s.power ∧
    (State.afterDone s t commit).rt = s.rt ∧ (State.afterDone s t commit).sec = s.sec ∧
    (State.afterDone s t commit).station = s.station ∧ (State.afterDone s t commit).bench = s.bench ∧
    (State.afterDone s t commit).vote = s.vote ∧ (State.afterDone s t commit).ash = s.ash ∧
    (State.afterDone s t commit).field = s.field ∧ (State.afterDone s t commit).can = s.can ∧
    (State.afterDone s t commit).net = s.net ∧ (State.afterDone s t commit).hi = s.hi ∧
    (State.afterDone s t commit).xings = s.xings ∧ (State.afterDone s t commit).mg = s.mg ∧
    (State.afterDone s t commit).log = s.log ∧ (State.afterDone s t commit).test = s.test ∧
    (State.afterDone s t commit).update = s.update ∧ (State.afterDone s t commit).draws = s.draws ∧
    (State.afterDone s t commit).outbox = s.outbox ∧ (State.afterDone s t commit).diag = s.diag ∧
    (State.afterDone s t commit).pending = s.pending := by
  unfold State.afterDone; (repeat' split) <;> simp [State.learnThrow_frame _ _ _, State.modDyn_frame _ _ _]

theorem State.afterTimeout_frame (s : State) (t : Txn) :
    (State.afterTimeout s t).unit = s.unit ∧ (State.afterTimeout s t).opUs = s.opUs ∧
    (State.afterTimeout s t).savedOpUs = s.savedOpUs ∧ (State.afterTimeout s t).powerCycle = s.powerCycle ∧
    (State.afterTimeout s t).epoch = s.epoch ∧ (State.afterTimeout s t).power = s.power ∧
    (State.afterTimeout s t).rt = s.rt ∧ (State.afterTimeout s t).sec = s.sec ∧
    (State.afterTimeout s t).station = s.station ∧ (State.afterTimeout s t).bench = s.bench ∧
    (State.afterTimeout s t).vote = s.vote ∧ (State.afterTimeout s t).ash = s.ash ∧
    (State.afterTimeout s t).field = s.field ∧ (State.afterTimeout s t).can = s.can ∧
    (State.afterTimeout s t).net = s.net ∧ (State.afterTimeout s t).hi = s.hi ∧
    (State.afterTimeout s t).xings = s.xings ∧ (State.afterTimeout s t).mg = s.mg ∧
    (State.afterTimeout s t).log = s.log ∧ (State.afterTimeout s t).test = s.test ∧
    (State.afterTimeout s t).update = s.update ∧ (State.afterTimeout s t).draws = s.draws ∧
    (State.afterTimeout s t).outbox = s.outbox ∧ (State.afterTimeout s t).diag = s.diag ∧
    (State.afterTimeout s t).pending = s.pending := by
  unfold State.afterTimeout; (repeat' split) <;> simp [State.event_frame _ _ _ _ _ _ _ _, State.modDyn_frame _ _ _,
        State.leafFails_frame _ _ _]

theorem State.suspendCloses_frame (s : State) :
    (State.suspendCloses s).unit = s.unit ∧ (State.suspendCloses s).opUs = s.opUs ∧ (State.suspendCloses s).savedOpUs
    = s.savedOpUs ∧ (State.suspendCloses s).powerCycle = s.powerCycle ∧ (State.suspendCloses s).epoch = s.epoch ∧
    (State.suspendCloses s).power = s.power ∧ (State.suspendCloses s).rt = s.rt ∧ (State.suspendCloses s).sec = s.sec
    ∧ (State.suspendCloses s).station = s.station ∧ (State.suspendCloses s).bench = s.bench ∧ (State.suspendCloses
    s).vote = s.vote ∧ (State.suspendCloses s).ash = s.ash ∧ (State.suspendCloses s).field = s.field ∧
    (State.suspendCloses s).can = s.can ∧ (State.suspendCloses s).net = s.net ∧ (State.suspendCloses s).hi = s.hi ∧
    (State.suspendCloses s).xings = s.xings ∧ (State.suspendCloses s).mg = s.mg ∧ (State.suspendCloses s).recorder =
    s.recorder ∧ (State.suspendCloses s).log = s.log ∧ (State.suspendCloses s).test = s.test ∧ (State.suspendCloses
    s).update = s.update ∧ (State.suspendCloses s).draws = s.draws ∧ (State.suspendCloses s).diag = s.diag ∧
    (State.suspendCloses s).outbox = s.outbox ∧ (State.suspendCloses s).pending = s.pending := by
  simp [State.suspendCloses]

theorem State.txnStep_frame (s : State) (k : ℕ) :
    (State.txnStep s k).unit = s.unit ∧ (State.txnStep s k).opUs = s.opUs ∧
    (State.txnStep s k).savedOpUs = s.savedOpUs ∧ (State.txnStep s k).powerCycle = s.powerCycle ∧
    (State.txnStep s k).epoch = s.epoch ∧ (State.txnStep s k).power = s.power ∧ (State.txnStep s k).rt = s.rt ∧
    (State.txnStep s k).sec = s.sec ∧ (State.txnStep s k).station = s.station ∧ (State.txnStep s k).bench = s.bench ∧
    (State.txnStep s k).vote = s.vote ∧ (State.txnStep s k).ash = s.ash ∧ (State.txnStep s k).field = s.field ∧
    (State.txnStep s k).can = s.can ∧ (State.txnStep s k).net = s.net ∧ (State.txnStep s k).hi = s.hi ∧
    (State.txnStep s k).xings = s.xings ∧ (State.txnStep s k).mg = s.mg ∧ (State.txnStep s k).log = s.log ∧
    (State.txnStep s k).test = s.test ∧ (State.txnStep s k).update = s.update ∧ (State.txnStep s k).draws = s.draws ∧
    (State.txnStep s k).outbox = s.outbox ∧ (State.txnStep s k).diag = s.diag ∧
    (State.txnStep s k).pending = s.pending := by
  unfold State.txnStep; (repeat' split) <;> simp [State.afterTimeout_frame _ _, State.afterDone_frame _ _ _]

theorem State.txnSteps_frame (s : State) (which : Txn → Bool) :
    (State.txnSteps s which).unit = s.unit ∧ (State.txnSteps s which).opUs = s.opUs ∧
    (State.txnSteps s which).savedOpUs = s.savedOpUs ∧ (State.txnSteps s which).powerCycle = s.powerCycle ∧
    (State.txnSteps s which).epoch = s.epoch ∧ (State.txnSteps s which).power = s.power ∧
    (State.txnSteps s which).rt = s.rt ∧ (State.txnSteps s which).sec = s.sec ∧
    (State.txnSteps s which).station = s.station ∧ (State.txnSteps s which).bench = s.bench ∧
    (State.txnSteps s which).vote = s.vote ∧ (State.txnSteps s which).ash = s.ash ∧
    (State.txnSteps s which).field = s.field ∧ (State.txnSteps s which).can = s.can ∧
    (State.txnSteps s which).net = s.net ∧ (State.txnSteps s which).hi = s.hi ∧
    (State.txnSteps s which).xings = s.xings ∧ (State.txnSteps s which).mg = s.mg ∧
    (State.txnSteps s which).log = s.log ∧ (State.txnSteps s which).test = s.test ∧
    (State.txnSteps s which).update = s.update ∧ (State.txnSteps s which).draws = s.draws ∧
    (State.txnSteps s which).outbox = s.outbox ∧ (State.txnSteps s which).diag = s.diag ∧
    (State.txnSteps s which).pending = s.pending := by
  simp [State.txnSteps, State.txnStep_frame _ _]

theorem State.pointStep_frame (s : State) (i : ℕ) :
    (State.pointStep s i).unit = s.unit ∧ (State.pointStep s i).opUs = s.opUs ∧
    (State.pointStep s i).savedOpUs = s.savedOpUs ∧ (State.pointStep s i).powerCycle = s.powerCycle ∧
    (State.pointStep s i).epoch = s.epoch ∧ (State.pointStep s i).power = s.power ∧ (State.pointStep s i).rt = s.rt ∧
    (State.pointStep s i).sec = s.sec ∧ (State.pointStep s i).station = s.station ∧
    (State.pointStep s i).bench = s.bench ∧ (State.pointStep s i).vote = s.vote ∧ (State.pointStep s i).ash = s.ash ∧
    (State.pointStep s i).field = s.field ∧ (State.pointStep s i).can = s.can ∧ (State.pointStep s i).net = s.net ∧
    (State.pointStep s i).hi = s.hi ∧ (State.pointStep s i).xings = s.xings ∧ (State.pointStep s i).mg = s.mg ∧
    (State.pointStep s i).recorder = s.recorder ∧ (State.pointStep s i).log = s.log ∧
    (State.pointStep s i).test = s.test ∧ (State.pointStep s i).update = s.update ∧
    (State.pointStep s i).draws = s.draws ∧ (State.pointStep s i).outbox = s.outbox ∧
    (State.pointStep s i).diag = s.diag ∧ (State.pointStep s i).pending = s.pending := by
  simp [State.pointStep, State.setValue_frame _ _ _, State.modDyn_frame _ _ _]

theorem State.signalStep_frame (s : State) (i : ℕ) :
    (State.signalStep s i).unit = s.unit ∧ (State.signalStep s i).opUs = s.opUs ∧
    (State.signalStep s i).savedOpUs = s.savedOpUs ∧ (State.signalStep s i).powerCycle = s.powerCycle ∧
    (State.signalStep s i).epoch = s.epoch ∧ (State.signalStep s i).power = s.power ∧ (State.signalStep s i).rt = s.rt
    ∧ (State.signalStep s i).sec = s.sec ∧ (State.signalStep s i).station = s.station ∧
    (State.signalStep s i).bench = s.bench ∧ (State.signalStep s i).vote = s.vote ∧ (State.signalStep s i).ash = s.ash
    ∧ (State.signalStep s i).field = s.field ∧ (State.signalStep s i).can = s.can ∧ (State.signalStep s i).net = s.net
    ∧ (State.signalStep s i).hi = s.hi ∧ (State.signalStep s i).xings = s.xings ∧ (State.signalStep s i).mg = s.mg ∧
    (State.signalStep s i).recorder = s.recorder ∧ (State.signalStep s i).log = s.log ∧
    (State.signalStep s i).test = s.test ∧ (State.signalStep s i).update = s.update ∧
    (State.signalStep s i).draws = s.draws ∧ (State.signalStep s i).outbox = s.outbox ∧
    (State.signalStep s i).diag = s.diag ∧ (State.signalStep s i).pending = s.pending := by
  unfold State.signalStep; (repeat' split) <;> simp [State.demandOf_frame _ _ _, State.setValue_frame _ _ _,
        State.modDyn_frame _ _ _]

theorem State.fieldStep_frame (s : State) :
    (State.fieldStep s).unit = s.unit ∧ (State.fieldStep s).opUs = s.opUs ∧
    (State.fieldStep s).savedOpUs = s.savedOpUs ∧ (State.fieldStep s).powerCycle = s.powerCycle ∧
    (State.fieldStep s).epoch = s.epoch ∧ (State.fieldStep s).power = s.power ∧ (State.fieldStep s).rt = s.rt ∧
    (State.fieldStep s).sec = s.sec ∧ (State.fieldStep s).station = s.station ∧ (State.fieldStep s).vote = s.vote ∧
    (State.fieldStep s).ash = s.ash ∧ (State.fieldStep s).field = s.field ∧ (State.fieldStep s).can = s.can ∧
    (State.fieldStep s).net = s.net ∧ (State.fieldStep s).xings = s.xings ∧ (State.fieldStep s).mg = s.mg ∧
    (State.fieldStep s).log = s.log ∧ (State.fieldStep s).test = s.test ∧ (State.fieldStep s).update = s.update ∧
    (State.fieldStep s).draws = s.draws ∧ (State.fieldStep s).diag = s.diag ∧ (State.fieldStep s).pending = s.pending
    := by
  simp [State.fieldStep, State.checkOpening_frame _ _, State.edgeStep_frame _ _, State.berthStep_frame _ _,
        State.leafStep_frame _ _, State.signalStep_frame _ _, State.pointStep_frame _ _, State.txnSteps_frame _ _]

theorem State.cancelRoute_frame (s : State) (n : ℕ) (reason : ℕ) (param : ℕ) :
    (State.cancelRoute s n reason param).unit = s.unit ∧ (State.cancelRoute s n reason param).opUs = s.opUs ∧
    (State.cancelRoute s n reason param).savedOpUs = s.savedOpUs ∧
    (State.cancelRoute s n reason param).powerCycle = s.powerCycle ∧
    (State.cancelRoute s n reason param).epoch = s.epoch ∧ (State.cancelRoute s n reason param).power = s.power ∧
    (State.cancelRoute s n reason param).rt = s.rt ∧ (State.cancelRoute s n reason param).sec = s.sec ∧
    (State.cancelRoute s n reason param).station = s.station ∧ (State.cancelRoute s n reason param).bench = s.bench ∧
    (State.cancelRoute s n reason param).vote = s.vote ∧ (State.cancelRoute s n reason param).ash = s.ash ∧
    (State.cancelRoute s n reason param).field = s.field ∧ (State.cancelRoute s n reason param).can = s.can ∧
    (State.cancelRoute s n reason param).net = s.net ∧ (State.cancelRoute s n reason param).hi = s.hi ∧
    (State.cancelRoute s n reason param).xings = s.xings ∧ (State.cancelRoute s n reason param).mg = s.mg ∧
    (State.cancelRoute s n reason param).recorder = s.recorder ∧ (State.cancelRoute s n reason param).log = s.log ∧
    (State.cancelRoute s n reason param).test = s.test ∧ (State.cancelRoute s n reason param).update = s.update ∧
    (State.cancelRoute s n reason param).draws = s.draws ∧ (State.cancelRoute s n reason param).outbox = s.outbox ∧
    (State.cancelRoute s n reason param).diag = s.diag ∧ (State.cancelRoute s n reason param).pending = s.pending
    := by
  unfold State.cancelRoute; (repeat' split) <;> simp [State.freeRoute_frame _ _ _ _, State.withdrawClear_frame _ _ _,
        State.enterCancelling_frame _ _ _ _ _]

theorem State.withdraw_frame (s : State) (n : ℕ) (tag : ℕ) (arrival : ℕ) :
    (State.withdraw s n tag arrival).unit = s.unit ∧ (State.withdraw s n tag arrival).opUs = s.opUs ∧
    (State.withdraw s n tag arrival).savedOpUs = s.savedOpUs ∧
    (State.withdraw s n tag arrival).powerCycle = s.powerCycle ∧ (State.withdraw s n tag arrival).epoch = s.epoch ∧
    (State.withdraw s n tag arrival).power = s.power ∧ (State.withdraw s n tag arrival).rt = s.rt ∧
    (State.withdraw s n tag arrival).sec = s.sec ∧ (State.withdraw s n tag arrival).station = s.station ∧
    (State.withdraw s n tag arrival).vote = s.vote ∧ (State.withdraw s n tag arrival).ash = s.ash ∧
    (State.withdraw s n tag arrival).field = s.field ∧ (State.withdraw s n tag arrival).can = s.can ∧
    (State.withdraw s n tag arrival).net = s.net ∧ (State.withdraw s n tag arrival).xings = s.xings ∧
    (State.withdraw s n tag arrival).recorder = s.recorder ∧ (State.withdraw s n tag arrival).log = s.log ∧
    (State.withdraw s n tag arrival).test = s.test ∧ (State.withdraw s n tag arrival).update = s.update ∧
    (State.withdraw s n tag arrival).draws = s.draws ∧ (State.withdraw s n tag arrival).diag = s.diag ∧
    (State.withdraw s n tag arrival).pending = s.pending := by
  simp only [State.withdraw]; (repeat' split) <;> simp (disch := (intros; (try dsimp only); (repeat' split) <;> simp [State.modRoute_frame _ _ _,
        State.complete_frame _ _ _ _ _ _ _])) [State.modRoute_frame _ _ _]

theorem State.strikeRequests_frame (s : State) (n : ℕ) (tag : ℕ) (arrival : ℕ) :
    (State.strikeRequests s n tag arrival).unit = s.unit ∧ (State.strikeRequests s n tag arrival).opUs = s.opUs ∧
    (State.strikeRequests s n tag arrival).savedOpUs = s.savedOpUs ∧
    (State.strikeRequests s n tag arrival).powerCycle = s.powerCycle ∧
    (State.strikeRequests s n tag arrival).epoch = s.epoch ∧ (State.strikeRequests s n tag arrival).power = s.power ∧
    (State.strikeRequests s n tag arrival).rt = s.rt ∧ (State.strikeRequests s n tag arrival).sec = s.sec ∧
    (State.strikeRequests s n tag arrival).station = s.station ∧ (State.strikeRequests s n tag arrival).eng = s.eng ∧
    (State.strikeRequests s n tag arrival).vote = s.vote ∧ (State.strikeRequests s n tag arrival).ash = s.ash ∧
    (State.strikeRequests s n tag arrival).field = s.field ∧ (State.strikeRequests s n tag arrival).can = s.can ∧
    (State.strikeRequests s n tag arrival).net = s.net ∧ (State.strikeRequests s n tag arrival).xings = s.xings ∧
    (State.strikeRequests s n tag arrival).recorder = s.recorder ∧ (State.strikeRequests s n tag arrival).log = s.log
    ∧ (State.strikeRequests s n tag arrival).test = s.test ∧ (State.strikeRequests s n tag arrival).update = s.update
    ∧ (State.strikeRequests s n tag arrival).draws = s.draws ∧ (State.strikeRequests s n tag arrival).diag = s.diag ∧
    (State.strikeRequests s n tag arrival).pending = s.pending := by
  simp [State.strikeRequests, State.complete_frame _ _ _ _ _ _ _, State.heard_frame _ _]

theorem State.decideRouteCancel_frame (s : State) (q : Req) :
    (State.decideRouteCancel s q).unit = s.unit ∧ (State.decideRouteCancel s q).opUs = s.opUs ∧
    (State.decideRouteCancel s q).savedOpUs = s.savedOpUs ∧ (State.decideRouteCancel s q).powerCycle = s.powerCycle ∧
    (State.decideRouteCancel s q).epoch = s.epoch ∧ (State.decideRouteCancel s q).power = s.power ∧
    (State.decideRouteCancel s q).rt = s.rt ∧ (State.decideRouteCancel s q).sec = s.sec ∧
    (State.decideRouteCancel s q).station = s.station ∧ (State.decideRouteCancel s q).vote = s.vote ∧
    (State.decideRouteCancel s q).ash = s.ash ∧ (State.decideRouteCancel s q).field = s.field ∧
    (State.decideRouteCancel s q).can = s.can ∧ (State.decideRouteCancel s q).net = s.net ∧
    (State.decideRouteCancel s q).xings = s.xings ∧ (State.decideRouteCancel s q).recorder = s.recorder ∧
    (State.decideRouteCancel s q).log = s.log ∧ (State.decideRouteCancel s q).test = s.test ∧
    (State.decideRouteCancel s q).update = s.update ∧ (State.decideRouteCancel s q).draws = s.draws ∧
    (State.decideRouteCancel s q).diag = s.diag ∧ (State.decideRouteCancel s q).pending = s.pending := by
  simp only [State.decideRouteCancel, State.clCommand]; (repeat' split) <;> simp [State.complete_frame _ _ _ _ _ _ _,
        State.heard_frame _ _, State.cancelRoute_frame _ _ _ _, State.strikeRequests_frame _ _ _ _,
        State.withdraw_frame _ _ _ _]

theorem State.decideSignalStop_frame (s : State) (q : Req) :
    (State.decideSignalStop s q).unit = s.unit ∧ (State.decideSignalStop s q).opUs = s.opUs ∧
    (State.decideSignalStop s q).savedOpUs = s.savedOpUs ∧ (State.decideSignalStop s q).powerCycle = s.powerCycle ∧
    (State.decideSignalStop s q).epoch = s.epoch ∧ (State.decideSignalStop s q).power = s.power ∧
    (State.decideSignalStop s q).rt = s.rt ∧ (State.decideSignalStop s q).sec = s.sec ∧
    (State.decideSignalStop s q).station = s.station ∧ (State.decideSignalStop s q).vote = s.vote ∧
    (State.decideSignalStop s q).ash = s.ash ∧ (State.decideSignalStop s q).field = s.field ∧
    (State.decideSignalStop s q).can = s.can ∧ (State.decideSignalStop s q).net = s.net ∧
    (State.decideSignalStop s q).xings = s.xings ∧ (State.decideSignalStop s q).recorder = s.recorder ∧
    (State.decideSignalStop s q).log = s.log ∧ (State.decideSignalStop s q).test = s.test ∧
    (State.decideSignalStop s q).update = s.update ∧ (State.decideSignalStop s q).draws = s.draws ∧
    (State.decideSignalStop s q).diag = s.diag ∧ (State.decideSignalStop s q).pending = s.pending := by
  simp only [State.decideSignalStop, State.clCommand]; (repeat' split) <;> simp [State.complete_frame _ _ _ _ _ _ _,
        State.heard_frame _ _, State.commandStop_frame _ _, State.cancelRoute_frame _ _ _ _]

theorem State.decideDoorClose_frame (s : State) (q : Req) :
    (State.decideDoorClose s q).unit = s.unit ∧ (State.decideDoorClose s q).opUs = s.opUs ∧
    (State.decideDoorClose s q).savedOpUs = s.savedOpUs ∧ (State.decideDoorClose s q).powerCycle = s.powerCycle ∧
    (State.decideDoorClose s q).epoch = s.epoch ∧ (State.decideDoorClose s q).power = s.power ∧
    (State.decideDoorClose s q).rt = s.rt ∧ (State.decideDoorClose s q).sec = s.sec ∧
    (State.decideDoorClose s q).station = s.station ∧ (State.decideDoorClose s q).vote = s.vote ∧
    (State.decideDoorClose s q).ash = s.ash ∧ (State.decideDoorClose s q).field = s.field ∧
    (State.decideDoorClose s q).can = s.can ∧ (State.decideDoorClose s q).net = s.net ∧
    (State.decideDoorClose s q).xings = s.xings ∧ (State.decideDoorClose s q).recorder = s.recorder ∧
    (State.decideDoorClose s q).log = s.log ∧ (State.decideDoorClose s q).test = s.test ∧
    (State.decideDoorClose s q).update = s.update ∧ (State.decideDoorClose s q).draws = s.draws ∧
    (State.decideDoorClose s q).diag = s.diag ∧ (State.decideDoorClose s q).pending = s.pending := by
  simp only [State.decideDoorClose, State.clCommand]; (repeat' split) <;> simp [State.complete_frame _ _ _ _ _ _ _,
        State.heard_frame _ _, State.closeEdge_frame _ _]

theorem State.keepImage_frame (s : State) :
    (State.keepImage s).unit = s.unit ∧ (State.keepImage s).opUs = s.opUs ∧ (State.keepImage s).savedOpUs =
    s.savedOpUs ∧ (State.keepImage s).powerCycle = s.powerCycle ∧ (State.keepImage s).epoch = s.epoch ∧
    (State.keepImage s).power = s.power ∧ (State.keepImage s).rt = s.rt ∧ (State.keepImage s).sec = s.sec ∧
    (State.keepImage s).station = s.station ∧ (State.keepImage s).bench = s.bench ∧ (State.keepImage s).vote = s.vote
    ∧ (State.keepImage s).ash = s.ash ∧ (State.keepImage s).field = s.field ∧ (State.keepImage s).can = s.can ∧
    (State.keepImage s).net = s.net ∧ (State.keepImage s).hi = s.hi ∧ (State.keepImage s).xings = s.xings ∧
    (State.keepImage s).mg = s.mg ∧ (State.keepImage s).recorder = s.recorder ∧ (State.keepImage s).log = s.log ∧
    (State.keepImage s).test = s.test ∧ (State.keepImage s).update = s.update ∧ (State.keepImage s).draws = s.draws ∧
    (State.keepImage s).diag = s.diag ∧ (State.keepImage s).outbox = s.outbox ∧ (State.keepImage s).pending =
    s.pending := by
  simp [State.keepImage]

theorem State.finishWaiting_frame (s : State) :
    (State.finishWaiting s).unit = s.unit ∧ (State.finishWaiting s).opUs = s.opUs ∧
    (State.finishWaiting s).savedOpUs = s.savedOpUs ∧ (State.finishWaiting s).powerCycle = s.powerCycle ∧
    (State.finishWaiting s).epoch = s.epoch ∧ (State.finishWaiting s).power = s.power ∧
    (State.finishWaiting s).rt = s.rt ∧ (State.finishWaiting s).sec = s.sec ∧
    (State.finishWaiting s).station = s.station ∧ (State.finishWaiting s).vote = s.vote ∧
    (State.finishWaiting s).ash = s.ash ∧ (State.finishWaiting s).field = s.field ∧
    (State.finishWaiting s).can = s.can ∧ (State.finishWaiting s).net = s.net ∧
    (State.finishWaiting s).xings = s.xings ∧ (State.finishWaiting s).recorder = s.recorder ∧
    (State.finishWaiting s).log = s.log ∧ (State.finishWaiting s).test = s.test ∧
    (State.finishWaiting s).update = s.update ∧ (State.finishWaiting s).draws = s.draws ∧
    (State.finishWaiting s).diag = s.diag ∧ (State.finishWaiting s).pending = s.pending := by
  unfold State.finishWaiting
  refine ⟨(State.foldl_unit _ (fun s w => ?_) _ _), (State.foldl_opUs _ (fun s w => ?_) _ _), (State.foldl_savedOpUs _ (fun s w => ?_) _ _), (State.foldl_powerCycle _ (fun s w => ?_) _ _), (State.foldl_epoch _ (fun s w => ?_) _ _), (State.foldl_power _ (fun s w => ?_) _ _), (State.foldl_rt _ (fun s w => ?_) _ _), (State.foldl_sec _ (fun s w => ?_) _ _), (State.foldl_station _ (fun s w => ?_) _ _), (State.foldl_vote _ (fun s w => ?_) _ _), (State.foldl_ash _ (fun s w => ?_) _ _), (State.foldl_field _ (fun s w => ?_) _ _), (State.foldl_can _ (fun s w => ?_) _ _), (State.foldl_net _ (fun s w => ?_) _ _), (State.foldl_xings _ (fun s w => ?_) _ _), (State.foldl_recorder _ (fun s w => ?_) _ _), (State.foldl_log _ (fun s w => ?_) _ _), (State.foldl_test _ (fun s w => ?_) _ _), (State.foldl_update _ (fun s w => ?_) _ _), (State.foldl_draws _ (fun s w => ?_) _ _), (State.foldl_diag _ (fun s w => ?_) _ _), (State.foldl_pending _ (fun s w => ?_) _ _)⟩ <;> (dsimp only; cases w <;> (repeat' split) <;> simp [State.complete_frame _ _ _ _ _ _ _])

theorem State.requestNote_frame (s : State) (p : Pend) (st : Status) (reason : ℕ) (param : ℕ) :
    (State.requestNote s p st reason param).unit = s.unit ∧ (State.requestNote s p st reason param).opUs = s.opUs ∧
    (State.requestNote s p st reason param).savedOpUs = s.savedOpUs ∧
    (State.requestNote s p st reason param).powerCycle = s.powerCycle ∧
    (State.requestNote s p st reason param).epoch = s.epoch ∧ (State.requestNote s p st reason param).power = s.power
    ∧ (State.requestNote s p st reason param).rt = s.rt ∧ (State.requestNote s p st reason param).sec = s.sec ∧
    (State.requestNote s p st reason param).station = s.station ∧ (State.requestNote s p st reason param).eng = s.eng
    ∧ (State.requestNote s p st reason param).vote = s.vote ∧ (State.requestNote s p st reason param).ash = s.ash ∧
    (State.requestNote s p st reason param).field = s.field ∧ (State.requestNote s p st reason param).can = s.can ∧
    (State.requestNote s p st reason param).net = s.net ∧ (State.requestNote s p st reason param).xings = s.xings ∧
    (State.requestNote s p st reason param).mg = s.mg ∧ (State.requestNote s p st reason param).recorder = s.recorder
    ∧ (State.requestNote s p st reason param).log = s.log ∧ (State.requestNote s p st reason param).test = s.test ∧
    (State.requestNote s p st reason param).update = s.update ∧
    (State.requestNote s p st reason param).draws = s.draws ∧ (State.requestNote s p st reason param).diag = s.diag ∧
    (State.requestNote s p st reason param).pending = s.pending := by
  unfold State.requestNote; (repeat' split) <;> simp [State.noteCluster_frame _ _ _]

theorem State.tell_frame (s : State) (p : Pend) (st : Status) (reason : ℕ) (param : ℕ) :
    (State.tell s p st reason param).unit = s.unit ∧ (State.tell s p st reason param).opUs = s.opUs ∧
    (State.tell s p st reason param).savedOpUs = s.savedOpUs ∧
    (State.tell s p st reason param).powerCycle = s.powerCycle ∧ (State.tell s p st reason param).epoch = s.epoch ∧
    (State.tell s p st reason param).power = s.power ∧ (State.tell s p st reason param).rt = s.rt ∧
    (State.tell s p st reason param).sec = s.sec ∧ (State.tell s p st reason param).station = s.station ∧
    (State.tell s p st reason param).vote = s.vote ∧ (State.tell s p st reason param).ash = s.ash ∧
    (State.tell s p st reason param).field = s.field ∧ (State.tell s p st reason param).can = s.can ∧
    (State.tell s p st reason param).net = s.net ∧ (State.tell s p st reason param).xings = s.xings ∧
    (State.tell s p st reason param).recorder = s.recorder ∧ (State.tell s p st reason param).log = s.log ∧
    (State.tell s p st reason param).test = s.test ∧ (State.tell s p st reason param).update = s.update ∧
    (State.tell s p st reason param).draws = s.draws ∧ (State.tell s p st reason param).diag = s.diag ∧
    (State.tell s p st reason param).pending = s.pending := by
  unfold State.tell; (repeat' split) <;> simp [State.modRoute_frame _ _ _, State.complete_frame _ _ _ _ _ _ _,
        State.requestNote_frame _ _ _ _ _]

theorem State.keepReason_frame (s : State) (p : Pend) (reason : ℕ) (param : ℕ) :
    (State.keepReason s p reason param).unit = s.unit ∧ (State.keepReason s p reason param).opUs = s.opUs ∧
    (State.keepReason s p reason param).savedOpUs = s.savedOpUs ∧
    (State.keepReason s p reason param).powerCycle = s.powerCycle ∧
    (State.keepReason s p reason param).epoch = s.epoch ∧ (State.keepReason s p reason param).power = s.power ∧
    (State.keepReason s p reason param).rt = s.rt ∧ (State.keepReason s p reason param).sec = s.sec ∧
    (State.keepReason s p reason param).station = s.station ∧ (State.keepReason s p reason param).bench = s.bench ∧
    (State.keepReason s p reason param).vote = s.vote ∧ (State.keepReason s p reason param).ash = s.ash ∧
    (State.keepReason s p reason param).field = s.field ∧ (State.keepReason s p reason param).can = s.can ∧
    (State.keepReason s p reason param).net = s.net ∧ (State.keepReason s p reason param).hi = s.hi ∧
    (State.keepReason s p reason param).xings = s.xings ∧ (State.keepReason s p reason param).mg = s.mg ∧
    (State.keepReason s p reason param).recorder = s.recorder ∧ (State.keepReason s p reason param).log = s.log ∧
    (State.keepReason s p reason param).test = s.test ∧ (State.keepReason s p reason param).update = s.update ∧
    (State.keepReason s p reason param).draws = s.draws ∧ (State.keepReason s p reason param).outbox = s.outbox ∧
    (State.keepReason s p reason param).diag = s.diag ∧ (State.keepReason s p reason param).pending = s.pending := by
  unfold State.keepReason; (repeat' split) <;> simp [State.routeReason_frame _ _ _ _, State.modDyn_frame _ _ _]

theorem State.dropPend_frame (s : State) (p : Pend) :
    (State.dropPend s p).unit = s.unit ∧ (State.dropPend s p).opUs = s.opUs ∧
    (State.dropPend s p).savedOpUs = s.savedOpUs ∧ (State.dropPend s p).powerCycle = s.powerCycle ∧
    (State.dropPend s p).epoch = s.epoch ∧ (State.dropPend s p).power = s.power ∧ (State.dropPend s p).rt = s.rt ∧
    (State.dropPend s p).sec = s.sec ∧ (State.dropPend s p).station = s.station ∧ (State.dropPend s p).bench = s.bench
    ∧ (State.dropPend s p).vote = s.vote ∧ (State.dropPend s p).ash = s.ash ∧ (State.dropPend s p).field = s.field ∧
    (State.dropPend s p).can = s.can ∧ (State.dropPend s p).net = s.net ∧ (State.dropPend s p).hi = s.hi ∧
    (State.dropPend s p).xings = s.xings ∧ (State.dropPend s p).mg = s.mg ∧ (State.dropPend s p).recorder = s.recorder
    ∧ (State.dropPend s p).log = s.log ∧ (State.dropPend s p).test = s.test ∧ (State.dropPend s p).update = s.update ∧
    (State.dropPend s p).draws = s.draws ∧ (State.dropPend s p).outbox = s.outbox ∧ (State.dropPend s p).diag = s.diag
    ∧ (State.dropPend s p).pending = s.pending := by
  simp [State.dropPend]

theorem State.refusePend_frame (s : State) (p : Pend) (reason : ℕ) (param : ℕ) :
    (State.refusePend s p reason param).unit = s.unit ∧ (State.refusePend s p reason param).opUs = s.opUs ∧
    (State.refusePend s p reason param).savedOpUs = s.savedOpUs ∧
    (State.refusePend s p reason param).powerCycle = s.powerCycle ∧
    (State.refusePend s p reason param).epoch = s.epoch ∧ (State.refusePend s p reason param).power = s.power ∧
    (State.refusePend s p reason param).rt = s.rt ∧ (State.refusePend s p reason param).sec = s.sec ∧
    (State.refusePend s p reason param).station = s.station ∧ (State.refusePend s p reason param).vote = s.vote ∧
    (State.refusePend s p reason param).ash = s.ash ∧ (State.refusePend s p reason param).field = s.field ∧
    (State.refusePend s p reason param).can = s.can ∧ (State.refusePend s p reason param).net = s.net ∧
    (State.refusePend s p reason param).xings = s.xings ∧ (State.refusePend s p reason param).recorder = s.recorder ∧
    (State.refusePend s p reason param).log = s.log ∧ (State.refusePend s p reason param).test = s.test ∧
    (State.refusePend s p reason param).update = s.update ∧ (State.refusePend s p reason param).draws = s.draws ∧
    (State.refusePend s p reason param).diag = s.diag ∧ (State.refusePend s p reason param).pending = s.pending := by
  unfold State.refusePend; (repeat' split) <;> simp [State.tell_frame _ _ _ _ _, State.modRoute_frame _ _ _,
        State.keepReason_frame _ _ _ _, State.dropPend_frame _ _]

theorem State.grantPend_frame (s : State) (p : Pend) (st : Status) :
    (State.grantPend s p st).unit = s.unit ∧ (State.grantPend s p st).opUs = s.opUs ∧
    (State.grantPend s p st).savedOpUs = s.savedOpUs ∧ (State.grantPend s p st).powerCycle = s.powerCycle ∧
    (State.grantPend s p st).epoch = s.epoch ∧ (State.grantPend s p st).power = s.power ∧
    (State.grantPend s p st).rt = s.rt ∧ (State.grantPend s p st).sec = s.sec ∧
    (State.grantPend s p st).station = s.station ∧ (State.grantPend s p st).vote = s.vote ∧
    (State.grantPend s p st).ash = s.ash ∧ (State.grantPend s p st).field = s.field ∧
    (State.grantPend s p st).can = s.can ∧ (State.grantPend s p st).net = s.net ∧
    (State.grantPend s p st).xings = s.xings ∧ (State.grantPend s p st).recorder = s.recorder ∧
    (State.grantPend s p st).log = s.log ∧ (State.grantPend s p st).test = s.test ∧
    (State.grantPend s p st).update = s.update ∧ (State.grantPend s p st).draws = s.draws ∧
    (State.grantPend s p st).diag = s.diag ∧ (State.grantPend s p st).pending = s.pending := by
  unfold State.grantPend; (repeat' split) <;> simp [State.tell_frame _ _ _ _ _, State.dropPend_frame _ _,
        State.keepReason_frame _ _ _ _]

theorem State.waitPend_frame (s : State) (p : Pend) (reason : ℕ) (param : ℕ) :
    (State.waitPend s p reason param).unit = s.unit ∧ (State.waitPend s p reason param).opUs = s.opUs ∧
    (State.waitPend s p reason param).savedOpUs = s.savedOpUs ∧
    (State.waitPend s p reason param).powerCycle = s.powerCycle ∧ (State.waitPend s p reason param).epoch = s.epoch ∧
    (State.waitPend s p reason param).power = s.power ∧ (State.waitPend s p reason param).rt = s.rt ∧
    (State.waitPend s p reason param).sec = s.sec ∧ (State.waitPend s p reason param).station = s.station ∧
    (State.waitPend s p reason param).vote = s.vote ∧ (State.waitPend s p reason param).ash = s.ash ∧
    (State.waitPend s p reason param).field = s.field ∧ (State.waitPend s p reason param).can = s.can ∧
    (State.waitPend s p reason param).net = s.net ∧ (State.waitPend s p reason param).xings = s.xings ∧
    (State.waitPend s p reason param).recorder = s.recorder ∧ (State.waitPend s p reason param).log = s.log ∧
    (State.waitPend s p reason param).test = s.test ∧ (State.waitPend s p reason param).update = s.update ∧
    (State.waitPend s p reason param).draws = s.draws ∧ (State.waitPend s p reason param).diag = s.diag ∧
    (State.waitPend s p reason param).pending = s.pending := by
  simp [State.waitPend, State.keepReason_frame _ _ _ _, State.tell_frame _ _ _ _ _]

theorem State.evalPend_frame (s : State) (p : Pend) :
    (State.evalPend s p).unit = s.unit ∧ (State.evalPend s p).opUs = s.opUs ∧
    (State.evalPend s p).savedOpUs = s.savedOpUs ∧ (State.evalPend s p).powerCycle = s.powerCycle ∧
    (State.evalPend s p).epoch = s.epoch ∧ (State.evalPend s p).power = s.power ∧ (State.evalPend s p).rt = s.rt ∧
    (State.evalPend s p).sec = s.sec ∧ (State.evalPend s p).station = s.station ∧ (State.evalPend s p).vote = s.vote ∧
    (State.evalPend s p).ash = s.ash ∧ (State.evalPend s p).field = s.field ∧ (State.evalPend s p).can = s.can ∧
    (State.evalPend s p).xings = s.xings ∧ (State.evalPend s p).recorder = s.recorder ∧
    (State.evalPend s p).log = s.log ∧ (State.evalPend s p).test = s.test ∧ (State.evalPend s p).update = s.update ∧
    (State.evalPend s p).draws = s.draws ∧ (State.evalPend s p).diag = s.diag ∧
    (State.evalPend s p).pending = s.pending := by
  simp only [State.evalPend]; (repeat' split) <;> simp [State.dropPend_frame _ _, State.startTxn_frame _ _ _ _ _,
        State.demandOf_frame _ _ _, State.refusePend_frame _ _ _ _, State.waitPend_frame _ _ _ _,
        State.grantPend_frame _ _ _, State.grantRoute_frame _ _ _, State.throwPoint_frame _ _ _,
        State.openDoors_frame _ _ _]

theorem State.enqueue_frame (s : State) (opcode : ℕ) (q : Req) (w : Want) :
    (State.enqueue s opcode q w).unit = s.unit ∧ (State.enqueue s opcode q w).opUs = s.opUs ∧
    (State.enqueue s opcode q w).savedOpUs = s.savedOpUs ∧ (State.enqueue s opcode q w).powerCycle = s.powerCycle ∧
    (State.enqueue s opcode q w).epoch = s.epoch ∧ (State.enqueue s opcode q w).power = s.power ∧
    (State.enqueue s opcode q w).rt = s.rt ∧ (State.enqueue s opcode q w).sec = s.sec ∧
    (State.enqueue s opcode q w).station = s.station ∧ (State.enqueue s opcode q w).vote = s.vote ∧
    (State.enqueue s opcode q w).ash = s.ash ∧ (State.enqueue s opcode q w).field = s.field ∧
    (State.enqueue s opcode q w).can = s.can ∧ (State.enqueue s opcode q w).xings = s.xings ∧
    (State.enqueue s opcode q w).recorder = s.recorder ∧ (State.enqueue s opcode q w).log = s.log ∧
    (State.enqueue s opcode q w).test = s.test ∧ (State.enqueue s opcode q w).update = s.update ∧
    (State.enqueue s opcode q w).draws = s.draws ∧ (State.enqueue s opcode q w).diag = s.diag ∧
    (State.enqueue s opcode q w).pending = s.pending := by
  by_cases h : 512 ≤ s.counted
  · simp [State.enqueue, h, State.complete_frame _ _ _ _ _ _ _]
  · cases w <;> simp [State.enqueue, h, State.evalPend_frame _ _, State.modRoute_frame _ _ _]

theorem State.decideRouteSet_frame (s : State) (q : Req) :
    (State.decideRouteSet s q).unit = s.unit ∧ (State.decideRouteSet s q).opUs = s.opUs ∧
    (State.decideRouteSet s q).savedOpUs = s.savedOpUs ∧ (State.decideRouteSet s q).powerCycle = s.powerCycle ∧
    (State.decideRouteSet s q).epoch = s.epoch ∧ (State.decideRouteSet s q).power = s.power ∧
    (State.decideRouteSet s q).rt = s.rt ∧ (State.decideRouteSet s q).sec = s.sec ∧
    (State.decideRouteSet s q).station = s.station ∧ (State.decideRouteSet s q).vote = s.vote ∧
    (State.decideRouteSet s q).ash = s.ash ∧ (State.decideRouteSet s q).field = s.field ∧
    (State.decideRouteSet s q).can = s.can ∧ (State.decideRouteSet s q).xings = s.xings ∧
    (State.decideRouteSet s q).recorder = s.recorder ∧ (State.decideRouteSet s q).log = s.log ∧
    (State.decideRouteSet s q).test = s.test ∧ (State.decideRouteSet s q).update = s.update ∧
    (State.decideRouteSet s q).draws = s.draws ∧ (State.decideRouteSet s q).diag = s.diag ∧
    (State.decideRouteSet s q).pending = s.pending := by
  simp only [State.decideRouteSet, State.clCommand]; (repeat' split) <;> simp [State.complete_frame _ _ _ _ _ _ _,
        State.heard_frame _ _, State.modRoute_frame _ _ _, State.enqueue_frame _ _ _ _]

theorem State.decidePointMove_frame (s : State) (q : Req) :
    (State.decidePointMove s q).unit = s.unit ∧ (State.decidePointMove s q).opUs = s.opUs ∧
    (State.decidePointMove s q).savedOpUs = s.savedOpUs ∧ (State.decidePointMove s q).powerCycle = s.powerCycle ∧
    (State.decidePointMove s q).epoch = s.epoch ∧ (State.decidePointMove s q).power = s.power ∧
    (State.decidePointMove s q).rt = s.rt ∧ (State.decidePointMove s q).sec = s.sec ∧
    (State.decidePointMove s q).station = s.station ∧ (State.decidePointMove s q).vote = s.vote ∧
    (State.decidePointMove s q).ash = s.ash ∧ (State.decidePointMove s q).field = s.field ∧
    (State.decidePointMove s q).can = s.can ∧ (State.decidePointMove s q).xings = s.xings ∧
    (State.decidePointMove s q).recorder = s.recorder ∧ (State.decidePointMove s q).log = s.log ∧
    (State.decidePointMove s q).test = s.test ∧ (State.decidePointMove s q).update = s.update ∧
    (State.decidePointMove s q).draws = s.draws ∧ (State.decidePointMove s q).diag = s.diag ∧
    (State.decidePointMove s q).pending = s.pending := by
  simp only [State.decidePointMove, State.clCommand]; (repeat' split) <;> simp [State.complete_frame _ _ _ _ _ _ _,
        State.heard_frame _ _, State.enqueue_frame _ _ _ _]

theorem State.decideDoorOpen_frame (s : State) (q : Req) :
    (State.decideDoorOpen s q).unit = s.unit ∧ (State.decideDoorOpen s q).opUs = s.opUs ∧
    (State.decideDoorOpen s q).savedOpUs = s.savedOpUs ∧ (State.decideDoorOpen s q).powerCycle = s.powerCycle ∧
    (State.decideDoorOpen s q).epoch = s.epoch ∧ (State.decideDoorOpen s q).power = s.power ∧
    (State.decideDoorOpen s q).rt = s.rt ∧ (State.decideDoorOpen s q).sec = s.sec ∧
    (State.decideDoorOpen s q).station = s.station ∧ (State.decideDoorOpen s q).vote = s.vote ∧
    (State.decideDoorOpen s q).ash = s.ash ∧ (State.decideDoorOpen s q).field = s.field ∧
    (State.decideDoorOpen s q).can = s.can ∧ (State.decideDoorOpen s q).xings = s.xings ∧
    (State.decideDoorOpen s q).recorder = s.recorder ∧ (State.decideDoorOpen s q).log = s.log ∧
    (State.decideDoorOpen s q).test = s.test ∧ (State.decideDoorOpen s q).update = s.update ∧
    (State.decideDoorOpen s q).draws = s.draws ∧ (State.decideDoorOpen s q).diag = s.diag ∧
    (State.decideDoorOpen s q).pending = s.pending := by
  simp only [State.decideDoorOpen, State.clCommand]; (repeat' split) <;> simp [State.complete_frame _ _ _ _ _ _ _,
        State.heard_frame _ _, State.enqueue_frame _ _ _ _]

theorem State.decideAuxPrepare_frame (s : State) (q : Req) :
    (State.decideAuxPrepare s q).unit = s.unit ∧ (State.decideAuxPrepare s q).opUs = s.opUs ∧
    (State.decideAuxPrepare s q).savedOpUs = s.savedOpUs ∧ (State.decideAuxPrepare s q).powerCycle = s.powerCycle ∧
    (State.decideAuxPrepare s q).epoch = s.epoch ∧ (State.decideAuxPrepare s q).power = s.power ∧
    (State.decideAuxPrepare s q).rt = s.rt ∧ (State.decideAuxPrepare s q).sec = s.sec ∧
    (State.decideAuxPrepare s q).station = s.station ∧ (State.decideAuxPrepare s q).vote = s.vote ∧
    (State.decideAuxPrepare s q).ash = s.ash ∧ (State.decideAuxPrepare s q).field = s.field ∧
    (State.decideAuxPrepare s q).can = s.can ∧ (State.decideAuxPrepare s q).net = s.net ∧
    (State.decideAuxPrepare s q).xings = s.xings ∧ (State.decideAuxPrepare s q).log = s.log ∧
    (State.decideAuxPrepare s q).test = s.test ∧ (State.decideAuxPrepare s q).update = s.update ∧
    (State.decideAuxPrepare s q).diag = s.diag ∧ (State.decideAuxPrepare s q).pending = s.pending := by
  simp only [State.decideAuxPrepare, State.clCommand]; (repeat' split) <;> simp [State.complete_frame _ _ _ _ _ _ _,
        State.heard_frame _ _, State.event_frame _ _ _ _ _ _ _ _]

theorem State.emergency_frame (s : State) (n : ℕ) :
    (State.emergency s n).unit = s.unit ∧ (State.emergency s n).opUs = s.opUs ∧
    (State.emergency s n).savedOpUs = s.savedOpUs ∧ (State.emergency s n).powerCycle = s.powerCycle ∧
    (State.emergency s n).epoch = s.epoch ∧ (State.emergency s n).power = s.power ∧ (State.emergency s n).rt = s.rt ∧
    (State.emergency s n).sec = s.sec ∧ (State.emergency s n).station = s.station ∧
    (State.emergency s n).bench = s.bench ∧ (State.emergency s n).vote = s.vote ∧ (State.emergency s n).ash = s.ash ∧
    (State.emergency s n).field = s.field ∧ (State.emergency s n).can = s.can ∧ (State.emergency s n).net = s.net ∧
    (State.emergency s n).hi = s.hi ∧ (State.emergency s n).xings = s.xings ∧ (State.emergency s n).mg = s.mg ∧
    (State.emergency s n).recorder = s.recorder ∧ (State.emergency s n).log = s.log ∧
    (State.emergency s n).test = s.test ∧ (State.emergency s n).update = s.update ∧
    (State.emergency s n).draws = s.draws ∧ (State.emergency s n).outbox = s.outbox ∧
    (State.emergency s n).diag = s.diag ∧ (State.emergency s n).pending = s.pending := by
  unfold State.emergency; (repeat' split) <;> simp [State.modRoute_frame _ _ _, State.commandStop_frame _ _,
        State.withdrawClear_frame _ _ _]

theorem State.endHold_frame (s : State) (area : ℕ) :
    (State.endHold s area).unit = s.unit ∧ (State.endHold s area).opUs = s.opUs ∧
    (State.endHold s area).savedOpUs = s.savedOpUs ∧ (State.endHold s area).powerCycle = s.powerCycle ∧
    (State.endHold s area).epoch = s.epoch ∧ (State.endHold s area).power = s.power ∧ (State.endHold s area).rt = s.rt
    ∧ (State.endHold s area).sec = s.sec ∧ (State.endHold s area).station = s.station ∧
    (State.endHold s area).bench = s.bench ∧ (State.endHold s area).vote = s.vote ∧ (State.endHold s area).ash = s.ash
    ∧ (State.endHold s area).field = s.field ∧ (State.endHold s area).can = s.can ∧ (State.endHold s area).net = s.net
    ∧ (State.endHold s area).hi = s.hi ∧ (State.endHold s area).xings = s.xings ∧ (State.endHold s area).mg = s.mg ∧
    (State.endHold s area).log = s.log ∧ (State.endHold s area).test = s.test ∧
    (State.endHold s area).update = s.update ∧ (State.endHold s area).draws = s.draws ∧
    (State.endHold s area).outbox = s.outbox ∧ (State.endHold s area).diag = s.diag ∧
    (State.endHold s area).pending = s.pending := by
  simp [State.endHold, State.modDyn_frame _ _ _, State.event_frame _ _ _ _ _ _ _ _]

theorem State.releaseArea_frame (s : State) (area : ℕ) (arrival : ℕ) :
    (State.releaseArea s area arrival).unit = s.unit ∧ (State.releaseArea s area arrival).opUs = s.opUs ∧
    (State.releaseArea s area arrival).savedOpUs = s.savedOpUs ∧
    (State.releaseArea s area arrival).powerCycle = s.powerCycle ∧ (State.releaseArea s area arrival).epoch = s.epoch
    ∧ (State.releaseArea s area arrival).power = s.power ∧ (State.releaseArea s area arrival).rt = s.rt ∧
    (State.releaseArea s area arrival).sec = s.sec ∧ (State.releaseArea s area arrival).station = s.station ∧
    (State.releaseArea s area arrival).bench = s.bench ∧ (State.releaseArea s area arrival).vote = s.vote ∧
    (State.releaseArea s area arrival).ash = s.ash ∧ (State.releaseArea s area arrival).field = s.field ∧
    (State.releaseArea s area arrival).can = s.can ∧ (State.releaseArea s area arrival).net = s.net ∧
    (State.releaseArea s area arrival).hi = s.hi ∧ (State.releaseArea s area arrival).xings = s.xings ∧
    (State.releaseArea s area arrival).mg = s.mg ∧ (State.releaseArea s area arrival).log = s.log ∧
    (State.releaseArea s area arrival).test = s.test ∧ (State.releaseArea s area arrival).update = s.update ∧
    (State.releaseArea s area arrival).draws = s.draws ∧ (State.releaseArea s area arrival).outbox = s.outbox ∧
    (State.releaseArea s area arrival).diag = s.diag ∧ (State.releaseArea s area arrival).pending = s.pending := by
  simp [State.releaseArea, State.endHold_frame _ _]

theorem State.auxExecute_frame (s : State) (kind : ℕ) (pos : ℕ) (target : ℕ) (q : Req) :
    (State.auxExecute s kind pos target q).unit = s.unit ∧ (State.auxExecute s kind pos target q).opUs = s.opUs ∧
    (State.auxExecute s kind pos target q).savedOpUs = s.savedOpUs ∧
    (State.auxExecute s kind pos target q).powerCycle = s.powerCycle ∧
    (State.auxExecute s kind pos target q).epoch = s.epoch ∧ (State.auxExecute s kind pos target q).power = s.power ∧
    (State.auxExecute s kind pos target q).rt = s.rt ∧ (State.auxExecute s kind pos target q).sec = s.sec ∧
    (State.auxExecute s kind pos target q).station = s.station ∧
    (State.auxExecute s kind pos target q).bench = s.bench ∧ (State.auxExecute s kind pos target q).vote = s.vote ∧
    (State.auxExecute s kind pos target q).ash = s.ash ∧ (State.auxExecute s kind pos target q).field = s.field ∧
    (State.auxExecute s kind pos target q).can = s.can ∧ (State.auxExecute s kind pos target q).net = s.net ∧
    (State.auxExecute s kind pos target q).hi = s.hi ∧ (State.auxExecute s kind pos target q).xings = s.xings ∧
    (State.auxExecute s kind pos target q).mg = s.mg ∧ (State.auxExecute s kind pos target q).log = s.log ∧
    (State.auxExecute s kind pos target q).test = s.test ∧ (State.auxExecute s kind pos target q).update = s.update ∧
    (State.auxExecute s kind pos target q).draws = s.draws ∧ (State.auxExecute s kind pos target q).outbox = s.outbox
    ∧ (State.auxExecute s kind pos target q).diag = s.diag ∧
    (State.auxExecute s kind pos target q).pending = s.pending := by
  unfold State.auxExecute; (repeat' split) <;> simp [State.emergency_frame _ _, State.releaseArea_frame _ _ _]

theorem State.dropPrepare_frame (s : State) (p : Prepare) :
    (State.dropPrepare s p).unit = s.unit ∧ (State.dropPrepare s p).opUs = s.opUs ∧
    (State.dropPrepare s p).savedOpUs = s.savedOpUs ∧ (State.dropPrepare s p).powerCycle = s.powerCycle ∧
    (State.dropPrepare s p).epoch = s.epoch ∧ (State.dropPrepare s p).power = s.power ∧
    (State.dropPrepare s p).rt = s.rt ∧ (State.dropPrepare s p).sec = s.sec ∧
    (State.dropPrepare s p).station = s.station ∧ (State.dropPrepare s p).bench = s.bench ∧
    (State.dropPrepare s p).vote = s.vote ∧ (State.dropPrepare s p).ash = s.ash ∧
    (State.dropPrepare s p).field = s.field ∧ (State.dropPrepare s p).can = s.can ∧
    (State.dropPrepare s p).net = s.net ∧ (State.dropPrepare s p).hi = s.hi ∧ (State.dropPrepare s p).xings = s.xings
    ∧ (State.dropPrepare s p).mg = s.mg ∧ (State.dropPrepare s p).recorder = s.recorder ∧
    (State.dropPrepare s p).log = s.log ∧ (State.dropPrepare s p).test = s.test ∧
    (State.dropPrepare s p).update = s.update ∧ (State.dropPrepare s p).draws = s.draws ∧
    (State.dropPrepare s p).outbox = s.outbox ∧ (State.dropPrepare s p).diag = s.diag ∧
    (State.dropPrepare s p).pending = s.pending := by
  simp [State.dropPrepare]

theorem State.decideAuxConfirm_frame (s : State) (q : Req) :
    (State.decideAuxConfirm s q).unit = s.unit ∧ (State.decideAuxConfirm s q).opUs = s.opUs ∧
    (State.decideAuxConfirm s q).savedOpUs = s.savedOpUs ∧ (State.decideAuxConfirm s q).powerCycle = s.powerCycle ∧
    (State.decideAuxConfirm s q).epoch = s.epoch ∧ (State.decideAuxConfirm s q).power = s.power ∧
    (State.decideAuxConfirm s q).rt = s.rt ∧ (State.decideAuxConfirm s q).sec = s.sec ∧
    (State.decideAuxConfirm s q).station = s.station ∧ (State.decideAuxConfirm s q).vote = s.vote ∧
    (State.decideAuxConfirm s q).ash = s.ash ∧ (State.decideAuxConfirm s q).field = s.field ∧
    (State.decideAuxConfirm s q).can = s.can ∧ (State.decideAuxConfirm s q).net = s.net ∧
    (State.decideAuxConfirm s q).xings = s.xings ∧ (State.decideAuxConfirm s q).log = s.log ∧
    (State.decideAuxConfirm s q).test = s.test ∧ (State.decideAuxConfirm s q).update = s.update ∧
    (State.decideAuxConfirm s q).draws = s.draws ∧ (State.decideAuxConfirm s q).diag = s.diag ∧
    (State.decideAuxConfirm s q).pending = s.pending := by
  simp only [State.decideAuxConfirm, State.clCommand]; (repeat' split) <;> simp [State.complete_frame _ _ _ _ _ _ _,
        State.heard_frame _ _, State.event_frame _ _ _ _ _ _ _ _, State.voidPrepare_frame _ _ _,
        State.dropPrepare_frame _ _, State.auxExecute_frame _ _ _ _ _]

theorem State.expirePrepare_frame (s : State) (p : Prepare) :
    (State.expirePrepare s p).unit = s.unit ∧ (State.expirePrepare s p).opUs = s.opUs ∧
    (State.expirePrepare s p).savedOpUs = s.savedOpUs ∧ (State.expirePrepare s p).powerCycle = s.powerCycle ∧
    (State.expirePrepare s p).epoch = s.epoch ∧ (State.expirePrepare s p).power = s.power ∧
    (State.expirePrepare s p).rt = s.rt ∧ (State.expirePrepare s p).sec = s.sec ∧
    (State.expirePrepare s p).station = s.station ∧ (State.expirePrepare s p).vote = s.vote ∧
    (State.expirePrepare s p).ash = s.ash ∧ (State.expirePrepare s p).field = s.field ∧
    (State.expirePrepare s p).can = s.can ∧ (State.expirePrepare s p).net = s.net ∧
    (State.expirePrepare s p).xings = s.xings ∧ (State.expirePrepare s p).mg = s.mg ∧
    (State.expirePrepare s p).log = s.log ∧ (State.expirePrepare s p).test = s.test ∧
    (State.expirePrepare s p).update = s.update ∧ (State.expirePrepare s p).draws = s.draws ∧
    (State.expirePrepare s p).diag = s.diag ∧ (State.expirePrepare s p).pending = s.pending := by
  unfold State.expirePrepare; (repeat' split) <;> simp [State.voidPrepare_frame _ _ _,
        State.event_frame _ _ _ _ _ _ _ _]

theorem State.expirePrepares_frame (s : State) :
    (State.expirePrepares s).unit = s.unit ∧ (State.expirePrepares s).opUs = s.opUs ∧
    (State.expirePrepares s).savedOpUs = s.savedOpUs ∧ (State.expirePrepares s).powerCycle = s.powerCycle ∧
    (State.expirePrepares s).epoch = s.epoch ∧ (State.expirePrepares s).power = s.power ∧
    (State.expirePrepares s).rt = s.rt ∧ (State.expirePrepares s).sec = s.sec ∧
    (State.expirePrepares s).station = s.station ∧ (State.expirePrepares s).vote = s.vote ∧
    (State.expirePrepares s).ash = s.ash ∧ (State.expirePrepares s).field = s.field ∧
    (State.expirePrepares s).can = s.can ∧ (State.expirePrepares s).net = s.net ∧
    (State.expirePrepares s).xings = s.xings ∧ (State.expirePrepares s).mg = s.mg ∧
    (State.expirePrepares s).log = s.log ∧ (State.expirePrepares s).test = s.test ∧
    (State.expirePrepares s).update = s.update ∧ (State.expirePrepares s).draws = s.draws ∧
    (State.expirePrepares s).diag = s.diag ∧ (State.expirePrepares s).pending = s.pending := by
  simp [State.expirePrepares, State.expirePrepare_frame _ _]

theorem State.holdExpiry_frame (s : State) :
    (State.holdExpiry s).unit = s.unit ∧ (State.holdExpiry s).opUs = s.opUs ∧
    (State.holdExpiry s).savedOpUs = s.savedOpUs ∧ (State.holdExpiry s).powerCycle = s.powerCycle ∧
    (State.holdExpiry s).epoch = s.epoch ∧ (State.holdExpiry s).power = s.power ∧ (State.holdExpiry s).rt = s.rt ∧
    (State.holdExpiry s).sec = s.sec ∧ (State.holdExpiry s).station = s.station ∧ (State.holdExpiry s).bench = s.bench
    ∧ (State.holdExpiry s).vote = s.vote ∧ (State.holdExpiry s).ash = s.ash ∧ (State.holdExpiry s).field = s.field ∧
    (State.holdExpiry s).can = s.can ∧ (State.holdExpiry s).net = s.net ∧ (State.holdExpiry s).hi = s.hi ∧
    (State.holdExpiry s).xings = s.xings ∧ (State.holdExpiry s).mg = s.mg ∧ (State.holdExpiry s).log = s.log ∧
    (State.holdExpiry s).test = s.test ∧ (State.holdExpiry s).update = s.update ∧ (State.holdExpiry s).draws = s.draws
    ∧ (State.holdExpiry s).outbox = s.outbox ∧ (State.holdExpiry s).diag = s.diag ∧
    (State.holdExpiry s).pending = s.pending := by
  unfold State.holdExpiry; (repeat' split) <;> simp [State.event_frame _ _ _ _ _ _ _ _]

theorem State.query_frame (s : State) (op : ℕ) (q : Req) (n : ℕ) (record : State → ℕ → List Byte) :
    (State.query s op q n record).unit = s.unit ∧ (State.query s op q n record).opUs = s.opUs ∧
    (State.query s op q n record).savedOpUs = s.savedOpUs ∧ (State.query s op q n record).powerCycle = s.powerCycle ∧
    (State.query s op q n record).epoch = s.epoch ∧ (State.query s op q n record).power = s.power ∧
    (State.query s op q n record).rt = s.rt ∧ (State.query s op q n record).sec = s.sec ∧
    (State.query s op q n record).station = s.station ∧ (State.query s op q n record).eng = s.eng ∧
    (State.query s op q n record).vote = s.vote ∧ (State.query s op q n record).ash = s.ash ∧
    (State.query s op q n record).field = s.field ∧ (State.query s op q n record).can = s.can ∧
    (State.query s op q n record).net = s.net ∧ (State.query s op q n record).xings = s.xings ∧
    (State.query s op q n record).recorder = s.recorder ∧ (State.query s op q n record).log = s.log ∧
    (State.query s op q n record).test = s.test ∧ (State.query s op q n record).update = s.update ∧
    (State.query s op q n record).draws = s.draws ∧ (State.query s op q n record).diag = s.diag ∧
    (State.query s op q n record).pending = s.pending := by
  simp only [State.query, State.clCommand]; (repeat' split) <;> simp [State.complete_frame _ _ _ _ _ _ _,
        State.heard_frame _ _]

theorem State.decideRouteState_frame (s : State) (q : Req) :
    (State.decideRouteState s q).unit = s.unit ∧ (State.decideRouteState s q).opUs = s.opUs ∧
    (State.decideRouteState s q).savedOpUs = s.savedOpUs ∧ (State.decideRouteState s q).powerCycle = s.powerCycle ∧
    (State.decideRouteState s q).epoch = s.epoch ∧ (State.decideRouteState s q).power = s.power ∧
    (State.decideRouteState s q).rt = s.rt ∧ (State.decideRouteState s q).sec = s.sec ∧
    (State.decideRouteState s q).station = s.station ∧ (State.decideRouteState s q).eng = s.eng ∧
    (State.decideRouteState s q).vote = s.vote ∧ (State.decideRouteState s q).ash = s.ash ∧
    (State.decideRouteState s q).field = s.field ∧ (State.decideRouteState s q).can = s.can ∧
    (State.decideRouteState s q).net = s.net ∧ (State.decideRouteState s q).xings = s.xings ∧
    (State.decideRouteState s q).recorder = s.recorder ∧ (State.decideRouteState s q).log = s.log ∧
    (State.decideRouteState s q).test = s.test ∧ (State.decideRouteState s q).update = s.update ∧
    (State.decideRouteState s q).draws = s.draws ∧ (State.decideRouteState s q).diag = s.diag ∧
    (State.decideRouteState s q).pending = s.pending := by
  simp [State.decideRouteState, State.query_frame _ _ _ _ _]

theorem State.decideElementState_frame (s : State) (q : Req) :
    (State.decideElementState s q).unit = s.unit ∧ (State.decideElementState s q).opUs = s.opUs ∧
    (State.decideElementState s q).savedOpUs = s.savedOpUs ∧ (State.decideElementState s q).powerCycle = s.powerCycle
    ∧ (State.decideElementState s q).epoch = s.epoch ∧ (State.decideElementState s q).power = s.power ∧
    (State.decideElementState s q).rt = s.rt ∧ (State.decideElementState s q).sec = s.sec ∧
    (State.decideElementState s q).station = s.station ∧ (State.decideElementState s q).eng = s.eng ∧
    (State.decideElementState s q).vote = s.vote ∧ (State.decideElementState s q).ash = s.ash ∧
    (State.decideElementState s q).field = s.field ∧ (State.decideElementState s q).can = s.can ∧
    (State.decideElementState s q).net = s.net ∧ (State.decideElementState s q).xings = s.xings ∧
    (State.decideElementState s q).recorder = s.recorder ∧ (State.decideElementState s q).log = s.log ∧
    (State.decideElementState s q).test = s.test ∧ (State.decideElementState s q).update = s.update ∧
    (State.decideElementState s q).draws = s.draws ∧ (State.decideElementState s q).diag = s.diag ∧
    (State.decideElementState s q).pending = s.pending := by
  simp [State.decideElementState, State.query_frame _ _ _ _ _]

end Sys2Proof.Machine
end

