-- ==== Sys2Proof/Laws/Restart.lean ====
section
/-! SUPPORT. What the operations of Machine/Restart.lean leave alone: one lemma for each, naming every part of the state that
it does not write. -/

namespace Sys2Proof.Machine

open Sys2Proof

theorem State.fieldRestart_frame (s : State) :
    (State.fieldRestart s).unit = s.unit ∧ (State.fieldRestart s).opUs = s.opUs ∧
    (State.fieldRestart s).savedOpUs = s.savedOpUs ∧ (State.fieldRestart s).powerCycle = s.powerCycle ∧
    (State.fieldRestart s).epoch = s.epoch ∧ (State.fieldRestart s).power = s.power ∧ (State.fieldRestart s).rt = s.rt
    ∧ (State.fieldRestart s).sec = s.sec ∧ (State.fieldRestart s).station = s.station ∧
    (State.fieldRestart s).bench = s.bench ∧ (State.fieldRestart s).eng = s.eng ∧ (State.fieldRestart s).vote = s.vote
    ∧ (State.fieldRestart s).ash = s.ash ∧ (State.fieldRestart s).can = s.can ∧ (State.fieldRestart s).net = s.net ∧
    (State.fieldRestart s).hi = s.hi ∧ (State.fieldRestart s).xings = s.xings ∧ (State.fieldRestart s).mg = s.mg ∧
    (State.fieldRestart s).recorder = s.recorder ∧ (State.fieldRestart s).log = s.log ∧
    (State.fieldRestart s).test = s.test ∧ (State.fieldRestart s).update = s.update ∧
    (State.fieldRestart s).draws = s.draws ∧ (State.fieldRestart s).outbox = s.outbox ∧
    (State.fieldRestart s).diag = s.diag ∧ (State.fieldRestart s).pending = s.pending := by
  simp [State.fieldRestart]

theorem State.startDone_frame (s : State) (waiting : List Waiting) :
    (State.startDone s waiting).unit = s.unit ∧ (State.startDone s waiting).opUs = s.opUs ∧
    (State.startDone s waiting).savedOpUs = s.savedOpUs ∧ (State.startDone s waiting).powerCycle = s.powerCycle ∧
    (State.startDone s waiting).epoch = s.epoch ∧ (State.startDone s waiting).power = s.power ∧
    (State.startDone s waiting).rt = s.rt ∧ (State.startDone s waiting).sec = s.sec ∧
    (State.startDone s waiting).station = s.station ∧ (State.startDone s waiting).bench = s.bench ∧
    (State.startDone s waiting).eng = s.eng ∧ (State.startDone s waiting).vote = s.vote ∧
    (State.startDone s waiting).ash = s.ash ∧ (State.startDone s waiting).field = s.field ∧
    (State.startDone s waiting).can = s.can ∧ (State.startDone s waiting).net = s.net ∧
    (State.startDone s waiting).xings = s.xings ∧ (State.startDone s waiting).recorder = s.recorder ∧
    (State.startDone s waiting).log = s.log ∧ (State.startDone s waiting).test = s.test ∧
    (State.startDone s waiting).update = s.update ∧ (State.startDone s waiting).draws = s.draws ∧
    (State.startDone s waiting).diag = s.diag ∧ (State.startDone s waiting).pending = s.pending := by
  unfold State.startDone
  refine ⟨(State.foldl_unit _ (fun s w => ?_) _ _), (State.foldl_opUs _ (fun s w => ?_) _ _), (State.foldl_savedOpUs _ (fun s w => ?_) _ _), (State.foldl_powerCycle _ (fun s w => ?_) _ _), (State.foldl_epoch _ (fun s w => ?_) _ _), (State.foldl_power _ (fun s w => ?_) _ _), (State.foldl_rt _ (fun s w => ?_) _ _), (State.foldl_sec _ (fun s w => ?_) _ _), (State.foldl_station _ (fun s w => ?_) _ _), (State.foldl_bench _ (fun s w => ?_) _ _), (State.foldl_eng _ (fun s w => ?_) _ _), (State.foldl_vote _ (fun s w => ?_) _ _), (State.foldl_ash _ (fun s w => ?_) _ _), (State.foldl_field _ (fun s w => ?_) _ _), (State.foldl_can _ (fun s w => ?_) _ _), (State.foldl_net _ (fun s w => ?_) _ _), (State.foldl_xings _ (fun s w => ?_) _ _), (State.foldl_recorder _ (fun s w => ?_) _ _), (State.foldl_log _ (fun s w => ?_) _ _), (State.foldl_test _ (fun s w => ?_) _ _), (State.foldl_update _ (fun s w => ?_) _ _), (State.foldl_draws _ (fun s w => ?_) _ _), (State.foldl_diag _ (fun s w => ?_) _ _), (State.foldl_pending _ (fun s w => ?_) _ _)⟩ <;> (cases w <;> simp [State.deliver_frame _ _])

theorem State.enterRun_frame (s : State) :
    (State.enterRun s).unit = s.unit ∧ (State.enterRun s).opUs = s.opUs ∧ (State.enterRun s).savedOpUs = s.savedOpUs ∧
    (State.enterRun s).powerCycle = s.powerCycle ∧ (State.enterRun s).rt = s.rt ∧ (State.enterRun s).sec = s.sec ∧
    (State.enterRun s).station = s.station ∧ (State.enterRun s).ash = s.ash ∧ (State.enterRun s).can = s.can ∧
    (State.enterRun s).xings = s.xings ∧ (State.enterRun s).log = s.log ∧ (State.enterRun s).test = s.test ∧
    (State.enterRun s).update = s.update ∧ (State.enterRun s).draws = s.draws ∧ (State.enterRun s).diag = s.diag ∧
    (State.enterRun s).pending = s.pending := by
  simp [State.enterRun, State.fieldRestart_frame _, State.clearForces_frame _ _, State.clearForces_bench_frame _ _,
        State.startDone_frame _ _]

theorem State.tryRun_frame (s : State) :
    (State.tryRun s).unit = s.unit ∧ (State.tryRun s).opUs = s.opUs ∧ (State.tryRun s).savedOpUs = s.savedOpUs ∧
    (State.tryRun s).powerCycle = s.powerCycle ∧ (State.tryRun s).rt = s.rt ∧ (State.tryRun s).sec = s.sec ∧
    (State.tryRun s).station = s.station ∧ (State.tryRun s).ash = s.ash ∧ (State.tryRun s).can = s.can ∧
    (State.tryRun s).xings = s.xings ∧ (State.tryRun s).log = s.log ∧ (State.tryRun s).test = s.test ∧
    (State.tryRun s).update = s.update ∧ (State.tryRun s).draws = s.draws ∧ (State.tryRun s).diag = s.diag ∧
    (State.tryRun s).pending = s.pending := by
  simp [State.tryRun, State.enterRun_frame _]

end Sys2Proof.Machine
end

