-- ==== Sys2Proof/Laws/Cluster.lean ====
section
/-! SUPPORT. What the operations of Machine/Cluster.lean leave alone: one lemma for each, naming every part of the state that
it does not write. -/

namespace Sys2Proof.Machine

open Sys2Proof

theorem State.putRepair_frame (s : State) (f : Repair → Repair) :
    (State.putRepair s f).unit = s.unit ∧ (State.putRepair s f).opUs = s.opUs ∧
    (State.putRepair s f).savedOpUs = s.savedOpUs ∧ (State.putRepair s f).powerCycle = s.powerCycle ∧
    (State.putRepair s f).epoch = s.epoch ∧ (State.putRepair s f).power = s.power ∧ (State.putRepair s f).rt = s.rt ∧
    (State.putRepair s f).sec = s.sec ∧ (State.putRepair s f).station = s.station ∧
    (State.putRepair s f).bench = s.bench ∧ (State.putRepair s f).eng = s.eng ∧ (State.putRepair s f).vote = s.vote ∧
    (State.putRepair s f).ash = s.ash ∧ (State.putRepair s f).field = s.field ∧ (State.putRepair s f).can = s.can ∧
    (State.putRepair s f).net = s.net ∧ (State.putRepair s f).hi = s.hi ∧ (State.putRepair s f).xings = s.xings ∧
    (State.putRepair s f).mg = s.mg ∧ (State.putRepair s f).recorder = s.recorder ∧ (State.putRepair s f).log = s.log
    ∧ (State.putRepair s f).update = s.update ∧ (State.putRepair s f).draws = s.draws ∧
    (State.putRepair s f).outbox = s.outbox ∧ (State.putRepair s f).diag = s.diag ∧
    (State.putRepair s f).pending = s.pending := by
  simp [State.putRepair]

theorem State.setCore_frame (s : State) (c : ℕ) (x : CoreState) :
    (State.setCore s c x).unit = s.unit ∧ (State.setCore s c x).opUs = s.opUs ∧
    (State.setCore s c x).savedOpUs = s.savedOpUs ∧ (State.setCore s c x).powerCycle = s.powerCycle ∧
    (State.setCore s c x).epoch = s.epoch ∧ (State.setCore s c x).power = s.power ∧ (State.setCore s c x).rt = s.rt ∧
    (State.setCore s c x).sec = s.sec ∧ (State.setCore s c x).station = s.station ∧
    (State.setCore s c x).bench = s.bench ∧ (State.setCore s c x).eng = s.eng ∧ (State.setCore s c x).ash = s.ash ∧
    (State.setCore s c x).field = s.field ∧ (State.setCore s c x).can = s.can ∧ (State.setCore s c x).net = s.net ∧
    (State.setCore s c x).hi = s.hi ∧ (State.setCore s c x).xings = s.xings ∧ (State.setCore s c x).mg = s.mg ∧
    (State.setCore s c x).recorder = s.recorder ∧ (State.setCore s c x).log = s.log ∧
    (State.setCore s c x).test = s.test ∧ (State.setCore s c x).update = s.update ∧
    (State.setCore s c x).draws = s.draws ∧ (State.setCore s c x).outbox = s.outbox ∧
    (State.setCore s c x).diag = s.diag ∧ (State.setCore s c x).pending = s.pending := by
  simp [State.setCore]

theorem State.modSlot_frame (s : State) (v : ℕ) (f : Slot → Slot) :
    (State.modSlot s v f).unit = s.unit ∧ (State.modSlot s v f).opUs = s.opUs ∧
    (State.modSlot s v f).savedOpUs = s.savedOpUs ∧ (State.modSlot s v f).powerCycle = s.powerCycle ∧
    (State.modSlot s v f).epoch = s.epoch ∧ (State.modSlot s v f).power = s.power ∧ (State.modSlot s v f).rt = s.rt ∧
    (State.modSlot s v f).sec = s.sec ∧ (State.modSlot s v f).station = s.station ∧
    (State.modSlot s v f).bench = s.bench ∧ (State.modSlot s v f).eng = s.eng ∧ (State.modSlot s v f).ash = s.ash ∧
    (State.modSlot s v f).field = s.field ∧ (State.modSlot s v f).can = s.can ∧ (State.modSlot s v f).net = s.net ∧
    (State.modSlot s v f).hi = s.hi ∧ (State.modSlot s v f).xings = s.xings ∧ (State.modSlot s v f).mg = s.mg ∧
    (State.modSlot s v f).recorder = s.recorder ∧ (State.modSlot s v f).log = s.log ∧
    (State.modSlot s v f).test = s.test ∧ (State.modSlot s v f).update = s.update ∧
    (State.modSlot s v f).draws = s.draws ∧ (State.modSlot s v f).outbox = s.outbox ∧
    (State.modSlot s v f).diag = s.diag ∧ (State.modSlot s v f).pending = s.pending := by
  simp [State.modSlot]

theorem State.voteEvent_frame (s : State) (code : ℕ) (sev : Severity) (p1 : ℕ) (p2 : ℕ) :
    (State.voteEvent s code sev p1 p2).unit = s.unit ∧ (State.voteEvent s code sev p1 p2).opUs = s.opUs ∧
    (State.voteEvent s code sev p1 p2).savedOpUs = s.savedOpUs ∧
    (State.voteEvent s code sev p1 p2).powerCycle = s.powerCycle ∧ (State.voteEvent s code sev p1 p2).epoch = s.epoch
    ∧ (State.voteEvent s code sev p1 p2).power = s.power ∧ (State.voteEvent s code sev p1 p2).rt = s.rt ∧
    (State.voteEvent s code sev p1 p2).sec = s.sec ∧ (State.voteEvent s code sev p1 p2).station = s.station ∧
    (State.voteEvent s code sev p1 p2).bench = s.bench ∧ (State.voteEvent s code sev p1 p2).eng = s.eng ∧
    (State.voteEvent s code sev p1 p2).vote = s.vote ∧ (State.voteEvent s code sev p1 p2).ash = s.ash ∧
    (State.voteEvent s code sev p1 p2).field = s.field ∧ (State.voteEvent s code sev p1 p2).can = s.can ∧
    (State.voteEvent s code sev p1 p2).net = s.net ∧ (State.voteEvent s code sev p1 p2).hi = s.hi ∧
    (State.voteEvent s code sev p1 p2).xings = s.xings ∧ (State.voteEvent s code sev p1 p2).mg = s.mg ∧
    (State.voteEvent s code sev p1 p2).log = s.log ∧ (State.voteEvent s code sev p1 p2).test = s.test ∧
    (State.voteEvent s code sev p1 p2).update = s.update ∧ (State.voteEvent s code sev p1 p2).draws = s.draws ∧
    (State.voteEvent s code sev p1 p2).outbox = s.outbox ∧ (State.voteEvent s code sev p1 p2).diag = s.diag ∧
    (State.voteEvent s code sev p1 p2).pending = s.pending := by
  simp [State.voteEvent, State.event_frame _ _ _ _ _ _ _ _]

theorem State.markFailed_frame (s : State) (core : ℕ) (cause : ℕ) :
    (State.markFailed s core cause).unit = s.unit ∧ (State.markFailed s core cause).opUs = s.opUs ∧
    (State.markFailed s core cause).savedOpUs = s.savedOpUs ∧
    (State.markFailed s core cause).powerCycle = s.powerCycle ∧ (State.markFailed s core cause).epoch = s.epoch ∧
    (State.markFailed s core cause).power = s.power ∧ (State.markFailed s core cause).rt = s.rt ∧
    (State.markFailed s core cause).sec = s.sec ∧ (State.markFailed s core cause).station = s.station ∧
    (State.markFailed s core cause).bench = s.bench ∧ (State.markFailed s core cause).eng = s.eng ∧
    (State.markFailed s core cause).ash = s.ash ∧ (State.markFailed s core cause).field = s.field ∧
    (State.markFailed s core cause).can = s.can ∧ (State.markFailed s core cause).net = s.net ∧
    (State.markFailed s core cause).xings = s.xings ∧ (State.markFailed s core cause).mg = s.mg ∧
    (State.markFailed s core cause).log = s.log ∧ (State.markFailed s core cause).update = s.update ∧
    (State.markFailed s core cause).draws = s.draws ∧ (State.markFailed s core cause).diag = s.diag ∧
    (State.markFailed s core cause).pending = s.pending := by
  simp [State.markFailed, State.putRepair_frame _ _, State.setCore_frame _ _ _, State.voteNote_frame _ _ _ _,
        State.voteEvent_frame _ _ _ _ _]

theorem State.markUnhealthy_frame (s : State) :
    (State.markUnhealthy s).unit = s.unit ∧ (State.markUnhealthy s).opUs = s.opUs ∧
    (State.markUnhealthy s).savedOpUs = s.savedOpUs ∧ (State.markUnhealthy s).powerCycle = s.powerCycle ∧
    (State.markUnhealthy s).epoch = s.epoch ∧ (State.markUnhealthy s).power = s.power ∧
    (State.markUnhealthy s).rt = s.rt ∧ (State.markUnhealthy s).sec = s.sec ∧
    (State.markUnhealthy s).station = s.station ∧ (State.markUnhealthy s).bench = s.bench ∧
    (State.markUnhealthy s).eng = s.eng ∧ (State.markUnhealthy s).ash = s.ash ∧
    (State.markUnhealthy s).field = s.field ∧ (State.markUnhealthy s).can = s.can ∧
    (State.markUnhealthy s).net = s.net ∧ (State.markUnhealthy s).hi = s.hi ∧ (State.markUnhealthy s).xings = s.xings
    ∧ (State.markUnhealthy s).mg = s.mg ∧ (State.markUnhealthy s).recorder = s.recorder ∧
    (State.markUnhealthy s).log = s.log ∧ (State.markUnhealthy s).update = s.update ∧
    (State.markUnhealthy s).draws = s.draws ∧ (State.markUnhealthy s).outbox = s.outbox ∧
    (State.markUnhealthy s).diag = s.diag ∧ (State.markUnhealthy s).pending = s.pending := by
  simp [State.markUnhealthy, State.putRepair_frame _ _, State.setCore_frame _ _ _]

theorem State.substitute_frame (s : State) (slot : ℕ) :
    (State.substitute s slot).unit = s.unit ∧ (State.substitute s slot).opUs = s.opUs ∧
    (State.substitute s slot).savedOpUs = s.savedOpUs ∧ (State.substitute s slot).powerCycle = s.powerCycle ∧
    (State.substitute s slot).epoch = s.epoch ∧ (State.substitute s slot).power = s.power ∧
    (State.substitute s slot).rt = s.rt ∧ (State.substitute s slot).sec = s.sec ∧
    (State.substitute s slot).station = s.station ∧ (State.substitute s slot).bench = s.bench ∧
    (State.substitute s slot).eng = s.eng ∧ (State.substitute s slot).ash = s.ash ∧
    (State.substitute s slot).field = s.field ∧ (State.substitute s slot).can = s.can ∧
    (State.substitute s slot).net = s.net ∧ (State.substitute s slot).hi = s.hi ∧
    (State.substitute s slot).xings = s.xings ∧ (State.substitute s slot).mg = s.mg ∧
    (State.substitute s slot).recorder = s.recorder ∧ (State.substitute s slot).log = s.log ∧
    (State.substitute s slot).test = s.test ∧ (State.substitute s slot).update = s.update ∧
    (State.substitute s slot).draws = s.draws ∧ (State.substitute s slot).outbox = s.outbox ∧
    (State.substitute s slot).diag = s.diag ∧ (State.substitute s slot).pending = s.pending := by
  simp [State.substitute, State.setCore_frame _ _ _]

theorem State.permanent_frame (s : State) (slot : ℕ) (core : ℕ) (cause : ℕ) :
    (State.permanent s slot core cause).unit = s.unit ∧ (State.permanent s slot core cause).opUs = s.opUs ∧
    (State.permanent s slot core cause).savedOpUs = s.savedOpUs ∧
    (State.permanent s slot core cause).powerCycle = s.powerCycle ∧
    (State.permanent s slot core cause).epoch = s.epoch ∧ (State.permanent s slot core cause).power = s.power ∧
    (State.permanent s slot core cause).rt = s.rt ∧ (State.permanent s slot core cause).sec = s.sec ∧
    (State.permanent s slot core cause).station = s.station ∧ (State.permanent s slot core cause).bench = s.bench ∧
    (State.permanent s slot core cause).eng = s.eng ∧ (State.permanent s slot core cause).ash = s.ash ∧
    (State.permanent s slot core cause).field = s.field ∧ (State.permanent s slot core cause).can = s.can ∧
    (State.permanent s slot core cause).net = s.net ∧ (State.permanent s slot core cause).xings = s.xings ∧
    (State.permanent s slot core cause).mg = s.mg ∧ (State.permanent s slot core cause).log = s.log ∧
    (State.permanent s slot core cause).update = s.update ∧ (State.permanent s slot core cause).draws = s.draws ∧
    (State.permanent s slot core cause).diag = s.diag ∧ (State.permanent s slot core cause).pending = s.pending := by
  simp [State.permanent, State.substitute_frame _ _, State.markFailed_frame _ _ _]

theorem State.dwellSay_frame (s : State) (left : ℕ) :
    (State.dwellSay s left).unit = s.unit ∧ (State.dwellSay s left).opUs = s.opUs ∧
    (State.dwellSay s left).savedOpUs = s.savedOpUs ∧ (State.dwellSay s left).powerCycle = s.powerCycle ∧
    (State.dwellSay s left).epoch = s.epoch ∧ (State.dwellSay s left).power = s.power ∧
    (State.dwellSay s left).rt = s.rt ∧ (State.dwellSay s left).sec = s.sec ∧
    (State.dwellSay s left).station = s.station ∧ (State.dwellSay s left).bench = s.bench ∧
    (State.dwellSay s left).eng = s.eng ∧ (State.dwellSay s left).vote = s.vote ∧ (State.dwellSay s left).ash = s.ash
    ∧ (State.dwellSay s left).field = s.field ∧ (State.dwellSay s left).can = s.can ∧
    (State.dwellSay s left).net = s.net ∧ (State.dwellSay s left).xings = s.xings ∧ (State.dwellSay s left).mg = s.mg
    ∧ (State.dwellSay s left).log = s.log ∧ (State.dwellSay s left).test = s.test ∧
    (State.dwellSay s left).update = s.update ∧ (State.dwellSay s left).draws = s.draws ∧
    (State.dwellSay s left).diag = s.diag ∧ (State.dwellSay s left).pending = s.pending := by
  simp [State.dwellSay, State.voteNote_frame _ _ _ _, State.voteEvent_frame _ _ _ _ _]

theorem State.dwellWarn60_frame (s : State) (left : ℕ) :
    (State.dwellWarn60 s left).unit = s.unit ∧ (State.dwellWarn60 s left).opUs = s.opUs ∧
    (State.dwellWarn60 s left).savedOpUs = s.savedOpUs ∧ (State.dwellWarn60 s left).powerCycle = s.powerCycle ∧
    (State.dwellWarn60 s left).epoch = s.epoch ∧ (State.dwellWarn60 s left).power = s.power ∧
    (State.dwellWarn60 s left).rt = s.rt ∧ (State.dwellWarn60 s left).sec = s.sec ∧
    (State.dwellWarn60 s left).station = s.station ∧ (State.dwellWarn60 s left).bench = s.bench ∧
    (State.dwellWarn60 s left).eng = s.eng ∧ (State.dwellWarn60 s left).ash = s.ash ∧
    (State.dwellWarn60 s left).field = s.field ∧ (State.dwellWarn60 s left).can = s.can ∧
    (State.dwellWarn60 s left).net = s.net ∧ (State.dwellWarn60 s left).xings = s.xings ∧
    (State.dwellWarn60 s left).mg = s.mg ∧ (State.dwellWarn60 s left).log = s.log ∧
    (State.dwellWarn60 s left).test = s.test ∧ (State.dwellWarn60 s left).update = s.update ∧
    (State.dwellWarn60 s left).draws = s.draws ∧ (State.dwellWarn60 s left).diag = s.diag ∧
    (State.dwellWarn60 s left).pending = s.pending := by
  unfold State.dwellWarn60; generalize (3600000000 : Nat) = a; split <;> simp [State.dwellSay_frame _ _]

theorem State.dwellWarn10_frame (s : State) (left : ℕ) :
    (State.dwellWarn10 s left).unit = s.unit ∧ (State.dwellWarn10 s left).opUs = s.opUs ∧
    (State.dwellWarn10 s left).savedOpUs = s.savedOpUs ∧ (State.dwellWarn10 s left).powerCycle = s.powerCycle ∧
    (State.dwellWarn10 s left).epoch = s.epoch ∧ (State.dwellWarn10 s left).power = s.power ∧
    (State.dwellWarn10 s left).rt = s.rt ∧ (State.dwellWarn10 s left).sec = s.sec ∧
    (State.dwellWarn10 s left).station = s.station ∧ (State.dwellWarn10 s left).bench = s.bench ∧
    (State.dwellWarn10 s left).eng = s.eng ∧ (State.dwellWarn10 s left).ash = s.ash ∧
    (State.dwellWarn10 s left).field = s.field ∧ (State.dwellWarn10 s left).can = s.can ∧
    (State.dwellWarn10 s left).net = s.net ∧ (State.dwellWarn10 s left).xings = s.xings ∧
    (State.dwellWarn10 s left).mg = s.mg ∧ (State.dwellWarn10 s left).log = s.log ∧
    (State.dwellWarn10 s left).test = s.test ∧ (State.dwellWarn10 s left).update = s.update ∧
    (State.dwellWarn10 s left).draws = s.draws ∧ (State.dwellWarn10 s left).diag = s.diag ∧
    (State.dwellWarn10 s left).pending = s.pending := by
  unfold State.dwellWarn10; generalize (600000000 : Nat) = a; split <;> simp [State.dwellSay_frame _ _]

theorem State.dwellWarn_frame (s : State) :
    (State.dwellWarn s).unit = s.unit ∧ (State.dwellWarn s).opUs = s.opUs ∧
    (State.dwellWarn s).savedOpUs = s.savedOpUs ∧ (State.dwellWarn s).powerCycle = s.powerCycle ∧
    (State.dwellWarn s).epoch = s.epoch ∧ (State.dwellWarn s).power = s.power ∧ (State.dwellWarn s).rt = s.rt ∧
    (State.dwellWarn s).sec = s.sec ∧ (State.dwellWarn s).station = s.station ∧ (State.dwellWarn s).bench = s.bench ∧
    (State.dwellWarn s).eng = s.eng ∧ (State.dwellWarn s).ash = s.ash ∧ (State.dwellWarn s).field = s.field ∧
    (State.dwellWarn s).can = s.can ∧ (State.dwellWarn s).net = s.net ∧ (State.dwellWarn s).xings = s.xings ∧
    (State.dwellWarn s).mg = s.mg ∧ (State.dwellWarn s).log = s.log ∧ (State.dwellWarn s).test = s.test ∧
    (State.dwellWarn s).update = s.update ∧ (State.dwellWarn s).draws = s.draws ∧ (State.dwellWarn s).diag = s.diag ∧
    (State.dwellWarn s).pending = s.pending := by
  simp [State.dwellWarn, State.dwellWarn10_frame _ _, State.dwellWarn60_frame _ _]

theorem State.dwellSync_frame (s : State) :
    (State.dwellSync s).unit = s.unit ∧ (State.dwellSync s).opUs = s.opUs ∧
    (State.dwellSync s).savedOpUs = s.savedOpUs ∧ (State.dwellSync s).powerCycle = s.powerCycle ∧
    (State.dwellSync s).epoch = s.epoch ∧ (State.dwellSync s).power = s.power ∧ (State.dwellSync s).rt = s.rt ∧
    (State.dwellSync s).sec = s.sec ∧ (State.dwellSync s).station = s.station ∧ (State.dwellSync s).bench = s.bench ∧
    (State.dwellSync s).eng = s.eng ∧ (State.dwellSync s).ash = s.ash ∧ (State.dwellSync s).field = s.field ∧
    (State.dwellSync s).can = s.can ∧ (State.dwellSync s).net = s.net ∧ (State.dwellSync s).xings = s.xings ∧
    (State.dwellSync s).mg = s.mg ∧ (State.dwellSync s).log = s.log ∧ (State.dwellSync s).test = s.test ∧
    (State.dwellSync s).update = s.update ∧ (State.dwellSync s).draws = s.draws ∧ (State.dwellSync s).diag = s.diag ∧
    (State.dwellSync s).pending = s.pending := by
  simp [State.dwellSync, State.dwellWarn_frame _, State.voteNote_frame _ _ _ _, State.voteEvent_frame _ _ _ _ _,
        State.dwellPause_frame _]

theorem State.dwellExpire_frame (s : State) :
    (State.dwellExpire s).unit = s.unit ∧ (State.dwellExpire s).opUs = s.opUs ∧
    (State.dwellExpire s).savedOpUs = s.savedOpUs ∧ (State.dwellExpire s).powerCycle = s.powerCycle ∧
    (State.dwellExpire s).epoch = s.epoch ∧ (State.dwellExpire s).power = s.power ∧ (State.dwellExpire s).rt = s.rt ∧
    (State.dwellExpire s).sec = s.sec ∧ (State.dwellExpire s).station = s.station ∧ (State.dwellExpire s).eng = s.eng
    ∧ (State.dwellExpire s).ash = s.ash ∧ (State.dwellExpire s).field = s.field ∧ (State.dwellExpire s).can = s.can ∧
    (State.dwellExpire s).net = s.net ∧ (State.dwellExpire s).xings = s.xings ∧ (State.dwellExpire s).mg = s.mg ∧
    (State.dwellExpire s).log = s.log ∧ (State.dwellExpire s).test = s.test ∧ (State.dwellExpire s).update = s.update
    ∧ (State.dwellExpire s).draws = s.draws ∧ (State.dwellExpire s).diag = s.diag ∧
    (State.dwellExpire s).pending = s.pending := by
  simp [State.dwellExpire, State.voteNote_frame _ _ _ _, State.voteEvent_frame _ _ _ _ _]

theorem State.dwellCheck_frame (s : State) :
    (State.dwellCheck s).unit = s.unit ∧ (State.dwellCheck s).opUs = s.opUs ∧
    (State.dwellCheck s).savedOpUs = s.savedOpUs ∧ (State.dwellCheck s).powerCycle = s.powerCycle ∧
    (State.dwellCheck s).epoch = s.epoch ∧ (State.dwellCheck s).power = s.power ∧ (State.dwellCheck s).rt = s.rt ∧
    (State.dwellCheck s).sec = s.sec ∧ (State.dwellCheck s).station = s.station ∧ (State.dwellCheck s).eng = s.eng ∧
    (State.dwellCheck s).ash = s.ash ∧ (State.dwellCheck s).field = s.field ∧ (State.dwellCheck s).can = s.can ∧
    (State.dwellCheck s).net = s.net ∧ (State.dwellCheck s).xings = s.xings ∧ (State.dwellCheck s).mg = s.mg ∧
    (State.dwellCheck s).log = s.log ∧ (State.dwellCheck s).test = s.test ∧ (State.dwellCheck s).update = s.update ∧
    (State.dwellCheck s).draws = s.draws ∧ (State.dwellCheck s).diag = s.diag ∧
    (State.dwellCheck s).pending = s.pending := by
  simp [State.dwellCheck, State.dwellExpire_frame _, State.dwellWarn_frame _, State.dwellSync_frame _]

theorem State.carry_frame (s : State) (w : Word) :
    (State.carry s w).unit = s.unit ∧ (State.carry s w).opUs = s.opUs ∧ (State.carry s w).savedOpUs = s.savedOpUs ∧
    (State.carry s w).powerCycle = s.powerCycle ∧ (State.carry s w).epoch = s.epoch ∧ (State.carry s w).power =
    s.power ∧ (State.carry s w).rt = s.rt ∧ (State.carry s w).sec = s.sec ∧ (State.carry s w).station = s.station ∧
    (State.carry s w).bench = s.bench ∧ (State.carry s w).eng = s.eng ∧ (State.carry s w).ash = s.ash ∧ (State.carry s
    w).field = s.field ∧ (State.carry s w).can = s.can ∧ (State.carry s w).net = s.net ∧ (State.carry s w).hi = s.hi ∧
    (State.carry s w).xings = s.xings ∧ (State.carry s w).mg = s.mg ∧ (State.carry s w).recorder = s.recorder ∧
    (State.carry s w).log = s.log ∧ (State.carry s w).test = s.test ∧ (State.carry s w).update = s.update ∧
    (State.carry s w).draws = s.draws ∧ (State.carry s w).diag = s.diag ∧ (State.carry s w).outbox = s.outbox ∧
    (State.carry s w).pending = s.pending := by
  simp [State.carry]

theorem State.busPoint_frame (s : State) (bus : List BusAccess) :
    (State.busPoint s bus).unit = s.unit ∧ (State.busPoint s bus).opUs = s.opUs ∧ (State.busPoint s bus).savedOpUs =
    s.savedOpUs ∧ (State.busPoint s bus).powerCycle = s.powerCycle ∧ (State.busPoint s bus).epoch = s.epoch ∧
    (State.busPoint s bus).power = s.power ∧ (State.busPoint s bus).rt = s.rt ∧ (State.busPoint s bus).sec = s.sec ∧
    (State.busPoint s bus).station = s.station ∧ (State.busPoint s bus).bench = s.bench ∧ (State.busPoint s bus).eng =
    s.eng ∧ (State.busPoint s bus).ash = s.ash ∧ (State.busPoint s bus).field = s.field ∧ (State.busPoint s bus).can =
    s.can ∧ (State.busPoint s bus).net = s.net ∧ (State.busPoint s bus).hi = s.hi ∧ (State.busPoint s bus).xings =
    s.xings ∧ (State.busPoint s bus).mg = s.mg ∧ (State.busPoint s bus).recorder = s.recorder ∧ (State.busPoint s
    bus).log = s.log ∧ (State.busPoint s bus).test = s.test ∧ (State.busPoint s bus).update = s.update ∧
    (State.busPoint s bus).draws = s.draws ∧ (State.busPoint s bus).diag = s.diag ∧ (State.busPoint s bus).outbox =
    s.outbox ∧ (State.busPoint s bus).pending = s.pending := by
  unfold State.busPoint; split <;> simp [State.carry_frame _ _]

theorem State.modStore_frame (s : State) (c : ℕ) (f : CoreStore → CoreStore) :
    (State.modStore s c f).unit = s.unit ∧ (State.modStore s c f).opUs = s.opUs ∧ (State.modStore s c f).savedOpUs =
    s.savedOpUs ∧ (State.modStore s c f).powerCycle = s.powerCycle ∧ (State.modStore s c f).epoch = s.epoch ∧
    (State.modStore s c f).power = s.power ∧ (State.modStore s c f).rt = s.rt ∧ (State.modStore s c f).sec = s.sec ∧
    (State.modStore s c f).station = s.station ∧ (State.modStore s c f).bench = s.bench ∧ (State.modStore s c f).eng =
    s.eng ∧ (State.modStore s c f).ash = s.ash ∧ (State.modStore s c f).field = s.field ∧ (State.modStore s c f).can =
    s.can ∧ (State.modStore s c f).net = s.net ∧ (State.modStore s c f).hi = s.hi ∧ (State.modStore s c f).xings =
    s.xings ∧ (State.modStore s c f).mg = s.mg ∧ (State.modStore s c f).recorder = s.recorder ∧ (State.modStore s c
    f).log = s.log ∧ (State.modStore s c f).test = s.test ∧ (State.modStore s c f).update = s.update ∧ (State.modStore
    s c f).draws = s.draws ∧ (State.modStore s c f).diag = s.diag ∧ (State.modStore s c f).outbox = s.outbox ∧
    (State.modStore s c f).pending = s.pending := by
  simp [State.modStore]

theorem State.destroyStore_frame (s : State) (c : ℕ) :
    (State.destroyStore s c).unit = s.unit ∧ (State.destroyStore s c).opUs = s.opUs ∧ (State.destroyStore s
    c).savedOpUs = s.savedOpUs ∧ (State.destroyStore s c).powerCycle = s.powerCycle ∧ (State.destroyStore s c).epoch =
    s.epoch ∧ (State.destroyStore s c).power = s.power ∧ (State.destroyStore s c).rt = s.rt ∧ (State.destroyStore s
    c).sec = s.sec ∧ (State.destroyStore s c).station = s.station ∧ (State.destroyStore s c).bench = s.bench ∧
    (State.destroyStore s c).eng = s.eng ∧ (State.destroyStore s c).ash = s.ash ∧ (State.destroyStore s c).field =
    s.field ∧ (State.destroyStore s c).can = s.can ∧ (State.destroyStore s c).net = s.net ∧ (State.destroyStore s
    c).hi = s.hi ∧ (State.destroyStore s c).xings = s.xings ∧ (State.destroyStore s c).mg = s.mg ∧ (State.destroyStore
    s c).recorder = s.recorder ∧ (State.destroyStore s c).log = s.log ∧ (State.destroyStore s c).test = s.test ∧
    (State.destroyStore s c).update = s.update ∧ (State.destroyStore s c).draws = s.draws ∧ (State.destroyStore s
    c).diag = s.diag ∧ (State.destroyStore s c).outbox = s.outbox ∧ (State.destroyStore s c).pending = s.pending := by
  simp [State.destroyStore, State.modStore_frame _ _ _]

theorem State.bootStores_frame (s : State) :
    (State.bootStores s).unit = s.unit ∧ (State.bootStores s).opUs = s.opUs ∧ (State.bootStores s).savedOpUs =
    s.savedOpUs ∧ (State.bootStores s).powerCycle = s.powerCycle ∧ (State.bootStores s).epoch = s.epoch ∧
    (State.bootStores s).power = s.power ∧ (State.bootStores s).rt = s.rt ∧ (State.bootStores s).sec = s.sec ∧
    (State.bootStores s).station = s.station ∧ (State.bootStores s).bench = s.bench ∧ (State.bootStores s).eng = s.eng
    ∧ (State.bootStores s).ash = s.ash ∧ (State.bootStores s).field = s.field ∧ (State.bootStores s).can = s.can ∧
    (State.bootStores s).net = s.net ∧ (State.bootStores s).hi = s.hi ∧ (State.bootStores s).xings = s.xings ∧
    (State.bootStores s).mg = s.mg ∧ (State.bootStores s).recorder = s.recorder ∧ (State.bootStores s).log = s.log ∧
    (State.bootStores s).test = s.test ∧ (State.bootStores s).update = s.update ∧ (State.bootStores s).draws = s.draws
    ∧ (State.bootStores s).diag = s.diag ∧ (State.bootStores s).outbox = s.outbox ∧ (State.bootStores s).pending =
    s.pending := by
  simp [State.bootStores]

theorem State.copyCore_frame (s : State) (core : ℕ) :
    (State.copyCore s core).unit = s.unit ∧ (State.copyCore s core).opUs = s.opUs ∧ (State.copyCore s core).savedOpUs
    = s.savedOpUs ∧ (State.copyCore s core).powerCycle = s.powerCycle ∧ (State.copyCore s core).epoch = s.epoch ∧
    (State.copyCore s core).power = s.power ∧ (State.copyCore s core).rt = s.rt ∧ (State.copyCore s core).sec = s.sec
    ∧ (State.copyCore s core).station = s.station ∧ (State.copyCore s core).bench = s.bench ∧ (State.copyCore s
    core).eng = s.eng ∧ (State.copyCore s core).ash = s.ash ∧ (State.copyCore s core).field = s.field ∧
    (State.copyCore s core).can = s.can ∧ (State.copyCore s core).net = s.net ∧ (State.copyCore s core).hi = s.hi ∧
    (State.copyCore s core).xings = s.xings ∧ (State.copyCore s core).mg = s.mg ∧ (State.copyCore s core).recorder =
    s.recorder ∧ (State.copyCore s core).log = s.log ∧ (State.copyCore s core).test = s.test ∧ (State.copyCore s
    core).update = s.update ∧ (State.copyCore s core).draws = s.draws ∧ (State.copyCore s core).diag = s.diag ∧
    (State.copyCore s core).outbox = s.outbox ∧ (State.copyCore s core).pending = s.pending := by
  simp [State.copyCore, State.modStore_frame _ _ _]

theorem State.accuse_frame (s : State) (slot : ℕ) (item : ℕ) (bus : List BusAccess) :
    (State.accuse s slot item bus).unit = s.unit ∧ (State.accuse s slot item bus).opUs = s.opUs ∧
    (State.accuse s slot item bus).savedOpUs = s.savedOpUs ∧ (State.accuse s slot item bus).powerCycle = s.powerCycle
    ∧ (State.accuse s slot item bus).epoch = s.epoch ∧ (State.accuse s slot item bus).power = s.power ∧
    (State.accuse s slot item bus).rt = s.rt ∧ (State.accuse s slot item bus).sec = s.sec ∧
    (State.accuse s slot item bus).station = s.station ∧ (State.accuse s slot item bus).bench = s.bench ∧
    (State.accuse s slot item bus).eng = s.eng ∧ (State.accuse s slot item bus).ash = s.ash ∧
    (State.accuse s slot item bus).field = s.field ∧ (State.accuse s slot item bus).can = s.can ∧
    (State.accuse s slot item bus).net = s.net ∧ (State.accuse s slot item bus).xings = s.xings ∧
    (State.accuse s slot item bus).mg = s.mg ∧ (State.accuse s slot item bus).log = s.log ∧
    (State.accuse s slot item bus).update = s.update ∧ (State.accuse s slot item bus).draws = s.draws ∧
    (State.accuse s slot item bus).diag = s.diag ∧ (State.accuse s slot item bus).pending = s.pending := by
  unfold State.accuse; (repeat' split) <;> simp [State.modSlot_frame _ _ _, State.busPoint_frame _ _, State.destroyStore_frame _ _, State.setCore_frame _ _ _,
        State.voteNote_frame _ _ _ _, State.voteEvent_frame _ _ _ _ _, State.dwellSync_frame _,
        State.markUnhealthy_frame _, State.permanent_frame _ _ _ _]

theorem State.comparatorsDiffer_frame (s : State) (x : Byte) (y : Byte) :
    (State.comparatorsDiffer s x y).unit = s.unit ∧ (State.comparatorsDiffer s x y).opUs = s.opUs ∧
    (State.comparatorsDiffer s x y).savedOpUs = s.savedOpUs ∧ (State.comparatorsDiffer s x y).powerCycle =
    s.powerCycle ∧ (State.comparatorsDiffer s x y).epoch = s.epoch ∧ (State.comparatorsDiffer s x y).rt = s.rt ∧
    (State.comparatorsDiffer s x y).station = s.station ∧ (State.comparatorsDiffer s x y).ash = s.ash ∧
    (State.comparatorsDiffer s x y).net = s.net ∧ (State.comparatorsDiffer s x y).xings = s.xings ∧
    (State.comparatorsDiffer s x y).log = s.log ∧ (State.comparatorsDiffer s x y).test = s.test ∧
    (State.comparatorsDiffer s x y).update = s.update ∧ (State.comparatorsDiffer s x y).draws = s.draws ∧
    (State.comparatorsDiffer s x y).diag = s.diag ∧ (State.comparatorsDiffer s x y).pending = s.pending := by
  simp [State.comparatorsDiffer, State.enterLockout_frame _ _ _ _, State.voteEvent_frame _ _ _ _ _]

theorem State.selfTested_frame (s : State) (block : ℕ) :
    (State.selfTested s block).unit = s.unit ∧ (State.selfTested s block).opUs = s.opUs ∧
    (State.selfTested s block).savedOpUs = s.savedOpUs ∧ (State.selfTested s block).powerCycle = s.powerCycle ∧
    (State.selfTested s block).epoch = s.epoch ∧ (State.selfTested s block).power = s.power ∧
    (State.selfTested s block).rt = s.rt ∧ (State.selfTested s block).sec = s.sec ∧
    (State.selfTested s block).station = s.station ∧ (State.selfTested s block).bench = s.bench ∧
    (State.selfTested s block).eng = s.eng ∧ (State.selfTested s block).ash = s.ash ∧
    (State.selfTested s block).field = s.field ∧ (State.selfTested s block).can = s.can ∧
    (State.selfTested s block).net = s.net ∧ (State.selfTested s block).xings = s.xings ∧
    (State.selfTested s block).mg = s.mg ∧ (State.selfTested s block).log = s.log ∧
    (State.selfTested s block).update = s.update ∧ (State.selfTested s block).draws = s.draws ∧
    (State.selfTested s block).diag = s.diag ∧ (State.selfTested s block).pending = s.pending := by
  unfold State.selfTested; (repeat' split) <;> simp [State.voteEvent_frame _ _ _ _ _, State.dwellSync_frame _,
        State.permanent_frame _ _ _ _]

theorem State.countTransient_frame (s : State) (core : Nat) :
    (State.countTransient s core).1.unit = s.unit ∧ (State.countTransient s core).1.opUs = s.opUs ∧
    (State.countTransient s core).1.savedOpUs = s.savedOpUs ∧
    (State.countTransient s core).1.powerCycle = s.powerCycle ∧ (State.countTransient s core).1.epoch = s.epoch ∧
    (State.countTransient s core).1.power = s.power ∧ (State.countTransient s core).1.rt = s.rt ∧
    (State.countTransient s core).1.sec = s.sec ∧ (State.countTransient s core).1.station = s.station ∧
    (State.countTransient s core).1.bench = s.bench ∧ (State.countTransient s core).1.eng = s.eng ∧
    (State.countTransient s core).1.ash = s.ash ∧ (State.countTransient s core).1.field = s.field ∧
    (State.countTransient s core).1.can = s.can ∧ (State.countTransient s core).1.net = s.net ∧
    (State.countTransient s core).1.hi = s.hi ∧ (State.countTransient s core).1.xings = s.xings ∧
    (State.countTransient s core).1.mg = s.mg ∧ (State.countTransient s core).1.recorder = s.recorder ∧
    (State.countTransient s core).1.log = s.log ∧ (State.countTransient s core).1.test = s.test ∧
    (State.countTransient s core).1.update = s.update ∧ (State.countTransient s core).1.draws = s.draws ∧
    (State.countTransient s core).1.outbox = s.outbox ∧ (State.countTransient s core).1.diag = s.diag ∧
    (State.countTransient s core).1.pending = s.pending := by
  simp [State.countTransient]

theorem State.transientFault_frame (s : State) (slot : ℕ) :
    (State.transientFault s slot).unit = s.unit ∧ (State.transientFault s slot).opUs = s.opUs ∧
    (State.transientFault s slot).savedOpUs = s.savedOpUs ∧ (State.transientFault s slot).powerCycle = s.powerCycle ∧
    (State.transientFault s slot).epoch = s.epoch ∧ (State.transientFault s slot).power = s.power ∧
    (State.transientFault s slot).rt = s.rt ∧ (State.transientFault s slot).sec = s.sec ∧
    (State.transientFault s slot).station = s.station ∧ (State.transientFault s slot).bench = s.bench ∧
    (State.transientFault s slot).eng = s.eng ∧ (State.transientFault s slot).ash = s.ash ∧
    (State.transientFault s slot).field = s.field ∧ (State.transientFault s slot).can = s.can ∧
    (State.transientFault s slot).net = s.net ∧ (State.transientFault s slot).xings = s.xings ∧
    (State.transientFault s slot).mg = s.mg ∧ (State.transientFault s slot).log = s.log ∧
    (State.transientFault s slot).update = s.update ∧ (State.transientFault s slot).draws = s.draws ∧
    (State.transientFault s slot).diag = s.diag ∧ (State.transientFault s slot).pending = s.pending := by
  unfold State.transientFault; dsimp only; split <;> simp [State.setCore_frame _ _ _, State.countTransient_frame _ _,
        State.dwellSync_frame _, State.permanent_frame _ _ _ _, State.voteEvent_frame _ _ _ _ _]

theorem State.laneFault_frame (s : State) (lane : ℕ) :
    (State.laneFault s lane).unit = s.unit ∧ (State.laneFault s lane).opUs = s.opUs ∧
    (State.laneFault s lane).savedOpUs = s.savedOpUs ∧ (State.laneFault s lane).powerCycle = s.powerCycle ∧
    (State.laneFault s lane).epoch = s.epoch ∧ (State.laneFault s lane).rt = s.rt ∧
    (State.laneFault s lane).station = s.station ∧ (State.laneFault s lane).ash = s.ash ∧
    (State.laneFault s lane).net = s.net ∧ (State.laneFault s lane).xings = s.xings ∧
    (State.laneFault s lane).log = s.log ∧ (State.laneFault s lane).update = s.update ∧
    (State.laneFault s lane).draws = s.draws ∧ (State.laneFault s lane).diag = s.diag ∧
    (State.laneFault s lane).pending = s.pending := by
  simp only [State.laneFault]; (repeat' split) <;> simp [State.voteEvent_frame _ _ _ _ _, State.enterSafe_frame _ _ _,
        State.putRepair_frame _ _, State.enterLockout_frame _ _ _ _]

theorem State.disagreement_frame (s : State) (code : ℕ) (verdict : ℕ) :
    (State.disagreement s code verdict).unit = s.unit ∧ (State.disagreement s code verdict).opUs = s.opUs ∧
    (State.disagreement s code verdict).savedOpUs = s.savedOpUs ∧
    (State.disagreement s code verdict).powerCycle = s.powerCycle ∧
    (State.disagreement s code verdict).epoch = s.epoch ∧ (State.disagreement s code verdict).rt = s.rt ∧
    (State.disagreement s code verdict).station = s.station ∧ (State.disagreement s code verdict).ash = s.ash ∧
    (State.disagreement s code verdict).net = s.net ∧ (State.disagreement s code verdict).xings = s.xings ∧
    (State.disagreement s code verdict).log = s.log ∧ (State.disagreement s code verdict).test = s.test ∧
    (State.disagreement s code verdict).update = s.update ∧ (State.disagreement s code verdict).draws = s.draws ∧
    (State.disagreement s code verdict).diag = s.diag ∧ (State.disagreement s code verdict).pending = s.pending := by
  simp [State.disagreement, State.setCore_frame _ _ _, State.destroyStore_frame _ _, State.enterSafe_frame _ _ _]

theorem State.rebuildSlots_frame (s : State) :
    (State.rebuildSlots s).unit = s.unit ∧ (State.rebuildSlots s).opUs = s.opUs ∧
    (State.rebuildSlots s).savedOpUs = s.savedOpUs ∧ (State.rebuildSlots s).powerCycle = s.powerCycle ∧
    (State.rebuildSlots s).epoch = s.epoch ∧ (State.rebuildSlots s).power = s.power ∧ (State.rebuildSlots s).rt = s.rt
    ∧ (State.rebuildSlots s).sec = s.sec ∧ (State.rebuildSlots s).station = s.station ∧
    (State.rebuildSlots s).bench = s.bench ∧ (State.rebuildSlots s).eng = s.eng ∧ (State.rebuildSlots s).ash = s.ash ∧
    (State.rebuildSlots s).field = s.field ∧ (State.rebuildSlots s).can = s.can ∧ (State.rebuildSlots s).net = s.net ∧
    (State.rebuildSlots s).hi = s.hi ∧ (State.rebuildSlots s).xings = s.xings ∧ (State.rebuildSlots s).mg = s.mg ∧
    (State.rebuildSlots s).recorder = s.recorder ∧ (State.rebuildSlots s).log = s.log ∧
    (State.rebuildSlots s).update = s.update ∧ (State.rebuildSlots s).draws = s.draws ∧
    (State.rebuildSlots s).outbox = s.outbox ∧ (State.rebuildSlots s).diag = s.diag ∧
    (State.rebuildSlots s).pending = s.pending := by
  simp [State.rebuildSlots, State.putRepair_frame _ _]

theorem State.countOrMark_frame (s : State) (c : ℕ) :
    (State.countOrMark s c).unit = s.unit ∧ (State.countOrMark s c).opUs = s.opUs ∧
    (State.countOrMark s c).savedOpUs = s.savedOpUs ∧ (State.countOrMark s c).powerCycle = s.powerCycle ∧
    (State.countOrMark s c).epoch = s.epoch ∧ (State.countOrMark s c).power = s.power ∧
    (State.countOrMark s c).rt = s.rt ∧ (State.countOrMark s c).sec = s.sec ∧
    (State.countOrMark s c).station = s.station ∧ (State.countOrMark s c).bench = s.bench ∧
    (State.countOrMark s c).eng = s.eng ∧ (State.countOrMark s c).ash = s.ash ∧
    (State.countOrMark s c).field = s.field ∧ (State.countOrMark s c).can = s.can ∧
    (State.countOrMark s c).net = s.net ∧ (State.countOrMark s c).xings = s.xings ∧ (State.countOrMark s c).mg = s.mg
    ∧ (State.countOrMark s c).log = s.log ∧ (State.countOrMark s c).update = s.update ∧
    (State.countOrMark s c).draws = s.draws ∧ (State.countOrMark s c).diag = s.diag ∧
    (State.countOrMark s c).pending = s.pending := by
  simp [State.countOrMark, State.markFailed_frame _ _ _, State.voteEvent_frame _ _ _ _ _,
        State.countTransient_frame _ _]

theorem State.voteAgain_frame (s : State) (c : ℕ) :
    (State.voteAgain s c).unit = s.unit ∧ (State.voteAgain s c).opUs = s.opUs ∧
    (State.voteAgain s c).savedOpUs = s.savedOpUs ∧ (State.voteAgain s c).powerCycle = s.powerCycle ∧
    (State.voteAgain s c).epoch = s.epoch ∧ (State.voteAgain s c).power = s.power ∧ (State.voteAgain s c).rt = s.rt ∧
    (State.voteAgain s c).sec = s.sec ∧ (State.voteAgain s c).station = s.station ∧
    (State.voteAgain s c).bench = s.bench ∧ (State.voteAgain s c).eng = s.eng ∧ (State.voteAgain s c).ash = s.ash ∧
    (State.voteAgain s c).field = s.field ∧ (State.voteAgain s c).can = s.can ∧ (State.voteAgain s c).net = s.net ∧
    (State.voteAgain s c).hi = s.hi ∧ (State.voteAgain s c).xings = s.xings ∧ (State.voteAgain s c).mg = s.mg ∧
    (State.voteAgain s c).recorder = s.recorder ∧ (State.voteAgain s c).log = s.log ∧
    (State.voteAgain s c).test = s.test ∧ (State.voteAgain s c).update = s.update ∧
    (State.voteAgain s c).draws = s.draws ∧ (State.voteAgain s c).outbox = s.outbox ∧
    (State.voteAgain s c).diag = s.diag ∧ (State.voteAgain s c).pending = s.pending := by
  simp [State.voteAgain, State.setCore_frame _ _ _]

theorem State.safeTested_frame (s : State) (failed : List ℕ) :
    (State.safeTested s failed).unit = s.unit ∧ (State.safeTested s failed).opUs = s.opUs ∧
    (State.safeTested s failed).savedOpUs = s.savedOpUs ∧ (State.safeTested s failed).powerCycle = s.powerCycle ∧
    (State.safeTested s failed).epoch = s.epoch ∧ (State.safeTested s failed).rt = s.rt ∧
    (State.safeTested s failed).station = s.station ∧ (State.safeTested s failed).ash = s.ash ∧
    (State.safeTested s failed).net = s.net ∧ (State.safeTested s failed).xings = s.xings ∧
    (State.safeTested s failed).log = s.log ∧ (State.safeTested s failed).update = s.update ∧
    (State.safeTested s failed).draws = s.draws ∧ (State.safeTested s failed).diag = s.diag ∧
    (State.safeTested s failed).pending = s.pending := by
  simp [State.safeTested, State.event_frame _ _ _ _ _ _ _ _, State.enterLockout_frame _ _ _ _,
        State.voteAgain_frame _ _, State.countOrMark_frame _ _, State.markFailed_frame _ _ _,
        State.rebuildSlots_frame _]

theorem State.syncDone_frame (s : State) (differ : Bool) :
    (State.syncDone s differ).unit = s.unit ∧ (State.syncDone s differ).opUs = s.opUs ∧
    (State.syncDone s differ).savedOpUs = s.savedOpUs ∧ (State.syncDone s differ).powerCycle = s.powerCycle ∧
    (State.syncDone s differ).epoch = s.epoch ∧ (State.syncDone s differ).rt = s.rt ∧
    (State.syncDone s differ).station = s.station ∧ (State.syncDone s differ).ash = s.ash ∧
    (State.syncDone s differ).net = s.net ∧ (State.syncDone s differ).xings = s.xings ∧
    (State.syncDone s differ).log = s.log ∧ (State.syncDone s differ).test = s.test ∧
    (State.syncDone s differ).update = s.update ∧ (State.syncDone s differ).draws = s.draws ∧
    (State.syncDone s differ).diag = s.diag ∧ (State.syncDone s differ).pending = s.pending := by
  simp [State.syncDone,State.copyCore_frame _ _,  State.disagreement_frame _ _ _]

theorem State.joinCore_frame (s : State) (cycle : ℕ) :
    (State.joinCore s cycle).unit = s.unit ∧ (State.joinCore s cycle).opUs = s.opUs ∧
    (State.joinCore s cycle).savedOpUs = s.savedOpUs ∧ (State.joinCore s cycle).powerCycle = s.powerCycle ∧
    (State.joinCore s cycle).epoch = s.epoch ∧ (State.joinCore s cycle).power = s.power ∧
    (State.joinCore s cycle).rt = s.rt ∧ (State.joinCore s cycle).sec = s.sec ∧
    (State.joinCore s cycle).station = s.station ∧ (State.joinCore s cycle).bench = s.bench ∧
    (State.joinCore s cycle).eng = s.eng ∧ (State.joinCore s cycle).ash = s.ash ∧
    (State.joinCore s cycle).field = s.field ∧ (State.joinCore s cycle).can = s.can ∧
    (State.joinCore s cycle).net = s.net ∧ (State.joinCore s cycle).xings = s.xings ∧
    (State.joinCore s cycle).mg = s.mg ∧ (State.joinCore s cycle).log = s.log ∧
    (State.joinCore s cycle).update = s.update ∧ (State.joinCore s cycle).draws = s.draws ∧
    (State.joinCore s cycle).diag = s.diag ∧ (State.joinCore s cycle).pending = s.pending := by
  unfold State.joinCore; (repeat' split) <;> simp [State.setCore_frame _ _ _, State.modSlot_frame _ _ _,
        State.dwellSync_frame _, State.voteNote_frame _ _ _ _, State.event_frame _ _ _ _ _ _ _ _,
        State.putRepair_frame _ _]

/-! ### Within a part of the state that it writes -/

theorem State.putRepair_test_frame (s : State) (f : Repair → Repair) :
    (State.putRepair s f).test.record = s.test.record ∧ (State.putRepair s f).test.step = s.test.step ∧
    (State.putRepair s f).test.stepUs = s.test.stepUs ∧ (State.putRepair s f).test.beganUs = s.test.beganUs ∧
    (State.putRepair s f).test.verdicts = s.test.verdicts ∧ (State.putRepair s f).test.matched = s.test.matched ∧
    (State.putRepair s f).test.fused = s.test.fused ∧ (State.putRepair s f).test.expected = s.test.expected ∧
    (State.putRepair s f).test.ageBaseUs = s.test.ageBaseUs ∧
    (State.putRepair s f).test.fromState = s.test.fromState ∧ (State.putRepair s f).test.hotEnded = s.test.hotEnded
    ∧ (State.putRepair s f).test.pendingFuses = s.test.pendingFuses := by
  simp [State.putRepair]

theorem State.setCore_vote_frame (s : State) (c : ℕ) (x : CoreState) :
    (State.setCore s c x).vote.slots = s.vote.slots ∧ (State.setCore s c x).vote.lanes = s.vote.lanes ∧
    (State.setCore s c x).vote.transients = s.vote.transients ∧ (State.setCore s c x).vote.testing = s.vote.testing
    ∧ (State.setCore s c x).vote.laneCheck = s.vote.laneCheck ∧ (State.setCore s c x).vote.joining = s.vote.joining
    ∧ (State.setCore s c x).vote.joinReady = s.vote.joinReady ∧
    (State.setCore s c x).vote.laneTurn = s.vote.laneTurn ∧ (State.setCore s c x).vote.dwellUs = s.vote.dwellUs ∧
    (State.setCore s c x).vote.dwellMarkUs = s.vote.dwellMarkUs ∧
    (State.setCore s c x).vote.dwellSavedS = s.vote.dwellSavedS ∧
    (State.setCore s c x).vote.dwellEntered = s.vote.dwellEntered ∧
    (State.setCore s c x).vote.warned60 = s.vote.warned60 ∧ (State.setCore s c x).vote.warned10 = s.vote.warned10 ∧
    (State.setCore s c x).vote.dwellExpired = s.vote.dwellExpired ∧
    (State.setCore s c x).vote.accusations = s.vote.accusations ∧
    (State.setCore s c x).vote.lastAccuse = s.vote.lastAccuse ∧ (State.setCore s c x).vote.sigGood = s.vote.sigGood
    ∧ (State.setCore s c x).vote.sigExpected = s.vote.sigExpected ∧
    (State.setCore s c x).vote.lockstepBroken = s.vote.lockstepBroken ∧
    (State.setCore s c x).vote.cause = s.vote.cause ∧ (State.setCore s c x).vote.verdictWord = s.vote.verdictWord := by
  simp [State.setCore]

theorem State.modSlot_vote_frame (s : State) (v : ℕ) (f : Slot → Slot) :
    (State.modSlot s v f).vote.lanes = s.vote.lanes ∧ (State.modSlot s v f).vote.cores = s.vote.cores ∧
    (State.modSlot s v f).vote.transients = s.vote.transients ∧ (State.modSlot s v f).vote.testing = s.vote.testing
    ∧ (State.modSlot s v f).vote.laneCheck = s.vote.laneCheck ∧ (State.modSlot s v f).vote.joining = s.vote.joining
    ∧ (State.modSlot s v f).vote.joinReady = s.vote.joinReady ∧
    (State.modSlot s v f).vote.laneTurn = s.vote.laneTurn ∧ (State.modSlot s v f).vote.dwellUs = s.vote.dwellUs ∧
    (State.modSlot s v f).vote.dwellMarkUs = s.vote.dwellMarkUs ∧
    (State.modSlot s v f).vote.dwellSavedS = s.vote.dwellSavedS ∧
    (State.modSlot s v f).vote.dwellEntered = s.vote.dwellEntered ∧
    (State.modSlot s v f).vote.warned60 = s.vote.warned60 ∧ (State.modSlot s v f).vote.warned10 = s.vote.warned10 ∧
    (State.modSlot s v f).vote.dwellExpired = s.vote.dwellExpired ∧
    (State.modSlot s v f).vote.accusations = s.vote.accusations ∧
    (State.modSlot s v f).vote.lastAccuse = s.vote.lastAccuse ∧ (State.modSlot s v f).vote.sigGood = s.vote.sigGood
    ∧ (State.modSlot s v f).vote.sigExpected = s.vote.sigExpected ∧
    (State.modSlot s v f).vote.lockstepBroken = s.vote.lockstepBroken ∧
    (State.modSlot s v f).vote.cause = s.vote.cause ∧ (State.modSlot s v f).vote.verdictWord = s.vote.verdictWord := by
  simp [State.modSlot]

theorem State.voteEvent_recorder_frame (s : State) (code : ℕ) (sev : Severity) (p1 : ℕ) (p2 : ℕ) :
    (State.voteEvent s code sev p1 p2).recorder.ring = s.recorder.ring ∧
    (State.voteEvent s code sev p1 p2).recorder.next = s.recorder.next ∧
    (State.voteEvent s code sev p1 p2).recorder.capacity = s.recorder.capacity ∧
    (State.voteEvent s code sev p1 p2).recorder.badBlocks = s.recorder.badBlocks ∧
    (State.voteEvent s code sev p1 p2).recorder.buckets = s.recorder.buckets ∧
    (State.voteEvent s code sev p1 p2).recorder.rates = s.recorder.rates ∧
    (State.voteEvent s code sev p1 p2).recorder.frozenUntil = s.recorder.frozenUntil ∧
    (State.voteEvent s code sev p1 p2).recorder.staging = s.recorder.staging ∧
    (State.voteEvent s code sev p1 p2).recorder.lost = s.recorder.lost ∧
    (State.voteEvent s code sev p1 p2).recorder.firstLost = s.recorder.firstLost := by
  simp [State.voteEvent, State.event_recorder_frame _ _ _ _ _ _ _ _]

theorem State.markFailed_vote_frame (s : State) (core : ℕ) (cause : ℕ) :
    (State.markFailed s core cause).vote.lanes = s.vote.lanes ∧
    (State.markFailed s core cause).vote.transients = s.vote.transients ∧
    (State.markFailed s core cause).vote.testing = s.vote.testing ∧
    (State.markFailed s core cause).vote.laneCheck = s.vote.laneCheck ∧
    (State.markFailed s core cause).vote.joining = s.vote.joining ∧
    (State.markFailed s core cause).vote.joinReady = s.vote.joinReady ∧
    (State.markFailed s core cause).vote.laneTurn = s.vote.laneTurn ∧
    (State.markFailed s core cause).vote.dwellUs = s.vote.dwellUs ∧
    (State.markFailed s core cause).vote.dwellMarkUs = s.vote.dwellMarkUs ∧
    (State.markFailed s core cause).vote.dwellSavedS = s.vote.dwellSavedS ∧
    (State.markFailed s core cause).vote.dwellEntered = s.vote.dwellEntered ∧
    (State.markFailed s core cause).vote.warned60 = s.vote.warned60 ∧
    (State.markFailed s core cause).vote.warned10 = s.vote.warned10 ∧
    (State.markFailed s core cause).vote.dwellExpired = s.vote.dwellExpired ∧
    (State.markFailed s core cause).vote.accusations = s.vote.accusations ∧
    (State.markFailed s core cause).vote.lastAccuse = s.vote.lastAccuse ∧
    (State.markFailed s core cause).vote.sigGood = s.vote.sigGood ∧
    (State.markFailed s core cause).vote.sigExpected = s.vote.sigExpected ∧
    (State.markFailed s core cause).vote.lockstepBroken = s.vote.lockstepBroken ∧
    (State.markFailed s core cause).vote.cause = s.vote.cause ∧
    (State.markFailed s core cause).vote.verdictWord = s.vote.verdictWord := by
  simp [State.markFailed, State.putRepair_frame _ _, State.setCore_frame _ _ _, State.setCore_vote_frame _ _ _,
        State.putRepair_test_frame _ _, State.voteNote_frame _ _ _ _, State.voteEvent_frame _ _ _ _ _]

theorem State.markFailed_hi_frame (s : State) (core : ℕ) (cause : ℕ) :
    (State.markFailed s core cause).hi.state = s.hi.state ∧ (State.markFailed s core cause).hi.m2 = s.hi.m2 ∧
    (State.markFailed s core cause).hi.unstableCount = s.hi.unstableCount ∧
    (State.markFailed s core cause).hi.eventMg = s.hi.eventMg ∧
    (State.markFailed s core cause).hi.eventCl = s.hi.eventCl ∧
    (State.markFailed s core cause).hi.downMg = s.hi.downMg ∧
    (State.markFailed s core cause).hi.downCl = s.hi.downCl ∧ (State.markFailed s core cause).hi.stale = s.hi.stale
    ∧ (State.markFailed s core cause).hi.unstable = s.hi.unstable ∧
    (State.markFailed s core cause).hi.scratch = s.hi.scratch ∧ (State.markFailed s core cause).hi.done = s.hi.done
    ∧ (State.markFailed s core cause).hi.busy = s.hi.busy ∧ (State.markFailed s core cause).hi.tail = s.hi.tail ∧
    (State.markFailed s core cause).hi.irqMask = s.hi.irqMask ∧
    (State.markFailed s core cause).hi.vectors = s.hi.vectors ∧
    (State.markFailed s core cause).hi.readData = s.hi.readData ∧
    (State.markFailed s core cause).hi.unread = s.hi.unread ∧
    (State.markFailed s core cause).hi.heldDone = s.hi.heldDone ∧
    (State.markFailed s core cause).hi.subscribed = s.hi.subscribed ∧
    (State.markFailed s core cause).hi.x8Subscribed = s.hi.x8Subscribed ∧
    (State.markFailed s core cause).hi.x8Dest = s.hi.x8Dest ∧
    (State.markFailed s core cause).hi.x8Last = s.hi.x8Last ∧
    (State.markFailed s core cause).hi.x8Short = s.hi.x8Short ∧ (State.markFailed s core cause).hi.x8 = s.hi.x8 ∧
    (State.markFailed s core cause).hi.x8Address = s.hi.x8Address ∧
    (State.markFailed s core cause).hi.x8Plen = s.hi.x8Plen ∧
    (State.markFailed s core cause).hi.x8Gateway = s.hi.x8Gateway ∧
    (State.markFailed s core cause).hi.x8New = s.hi.x8New := by
  simp [State.markFailed, State.putRepair_frame _ _, State.setCore_frame _ _ _, State.setCore_vote_frame _ _ _,
        State.putRepair_test_frame _ _, State.voteNote_hi_frame _ _ _ _, State.voteEvent_frame _ _ _ _ _]

theorem State.markFailed_recorder_frame (s : State) (core : ℕ) (cause : ℕ) :
    (State.markFailed s core cause).recorder.ring = s.recorder.ring ∧
    (State.markFailed s core cause).recorder.next = s.recorder.next ∧
    (State.markFailed s core cause).recorder.capacity = s.recorder.capacity ∧
    (State.markFailed s core cause).recorder.badBlocks = s.recorder.badBlocks ∧
    (State.markFailed s core cause).recorder.buckets = s.recorder.buckets ∧
    (State.markFailed s core cause).recorder.rates = s.recorder.rates ∧
    (State.markFailed s core cause).recorder.frozenUntil = s.recorder.frozenUntil ∧
    (State.markFailed s core cause).recorder.staging = s.recorder.staging ∧
    (State.markFailed s core cause).recorder.lost = s.recorder.lost ∧
    (State.markFailed s core cause).recorder.firstLost = s.recorder.firstLost := by
  simp [State.markFailed, State.putRepair_frame _ _, State.setCore_frame _ _ _, State.setCore_vote_frame _ _ _,
        State.putRepair_test_frame _ _, State.voteNote_frame _ _ _ _, State.voteEvent_recorder_frame _ _ _ _ _]

theorem State.markFailed_test_frame (s : State) (core : ℕ) (cause : ℕ) :
    (State.markFailed s core cause).test.record = s.test.record ∧
    (State.markFailed s core cause).test.step = s.test.step ∧
    (State.markFailed s core cause).test.stepUs = s.test.stepUs ∧
    (State.markFailed s core cause).test.beganUs = s.test.beganUs ∧
    (State.markFailed s core cause).test.verdicts = s.test.verdicts ∧
    (State.markFailed s core cause).test.matched = s.test.matched ∧
    (State.markFailed s core cause).test.fused = s.test.fused ∧
    (State.markFailed s core cause).test.expected = s.test.expected ∧
    (State.markFailed s core cause).test.fromState = s.test.fromState ∧
    (State.markFailed s core cause).test.hotEnded = s.test.hotEnded ∧
    (State.markFailed s core cause).test.pendingFuses = s.test.pendingFuses := by
  simp [State.markFailed, State.putRepair_frame _ _, State.setCore_frame _ _ _, State.setCore_vote_frame _ _ _,
        State.putRepair_test_frame _ _, State.voteNote_frame _ _ _ _, State.voteEvent_frame _ _ _ _ _]

theorem State.markUnhealthy_vote_frame (s : State) :
    (State.markUnhealthy s).vote.slots = s.vote.slots ∧ (State.markUnhealthy s).vote.lanes = s.vote.lanes ∧
    (State.markUnhealthy s).vote.transients = s.vote.transients ∧
    (State.markUnhealthy s).vote.testing = s.vote.testing ∧
    (State.markUnhealthy s).vote.laneCheck = s.vote.laneCheck ∧
    (State.markUnhealthy s).vote.joining = s.vote.joining ∧
    (State.markUnhealthy s).vote.joinReady = s.vote.joinReady ∧
    (State.markUnhealthy s).vote.laneTurn = s.vote.laneTurn ∧ (State.markUnhealthy s).vote.dwellUs = s.vote.dwellUs
    ∧ (State.markUnhealthy s).vote.dwellMarkUs = s.vote.dwellMarkUs ∧
    (State.markUnhealthy s).vote.dwellSavedS = s.vote.dwellSavedS ∧
    (State.markUnhealthy s).vote.dwellEntered = s.vote.dwellEntered ∧
    (State.markUnhealthy s).vote.warned60 = s.vote.warned60 ∧
    (State.markUnhealthy s).vote.warned10 = s.vote.warned10 ∧
    (State.markUnhealthy s).vote.dwellExpired = s.vote.dwellExpired ∧
    (State.markUnhealthy s).vote.accusations = s.vote.accusations ∧
    (State.markUnhealthy s).vote.lastAccuse = s.vote.lastAccuse ∧
    (State.markUnhealthy s).vote.sigExpected = s.vote.sigExpected ∧
    (State.markUnhealthy s).vote.lockstepBroken = s.vote.lockstepBroken ∧
    (State.markUnhealthy s).vote.cause = s.vote.cause ∧
    (State.markUnhealthy s).vote.verdictWord = s.vote.verdictWord := by
  simp [State.markUnhealthy, State.putRepair_frame _ _, State.setCore_frame _ _ _, State.setCore_vote_frame _ _ _,
        State.putRepair_test_frame _ _]

theorem State.markUnhealthy_test_frame (s : State) :
    (State.markUnhealthy s).test.record = s.test.record ∧ (State.markUnhealthy s).test.step = s.test.step ∧
    (State.markUnhealthy s).test.stepUs = s.test.stepUs ∧ (State.markUnhealthy s).test.beganUs = s.test.beganUs ∧
    (State.markUnhealthy s).test.verdicts = s.test.verdicts ∧ (State.markUnhealthy s).test.matched = s.test.matched
    ∧ (State.markUnhealthy s).test.fused = s.test.fused ∧ (State.markUnhealthy s).test.expected = s.test.expected ∧
    (State.markUnhealthy s).test.fromState = s.test.fromState ∧
    (State.markUnhealthy s).test.hotEnded = s.test.hotEnded ∧
    (State.markUnhealthy s).test.pendingFuses = s.test.pendingFuses := by
  simp [State.markUnhealthy, State.putRepair_frame _ _, State.setCore_frame _ _ _, State.setCore_vote_frame _ _ _,
        State.putRepair_test_frame _ _]

theorem State.substitute_vote_frame (s : State) (slot : ℕ) :
    (State.substitute s slot).vote.slots = s.vote.slots ∧ (State.substitute s slot).vote.lanes = s.vote.lanes ∧
    (State.substitute s slot).vote.transients = s.vote.transients ∧
    (State.substitute s slot).vote.testing = s.vote.testing ∧
    (State.substitute s slot).vote.laneCheck = s.vote.laneCheck ∧
    (State.substitute s slot).vote.laneTurn = s.vote.laneTurn ∧
    (State.substitute s slot).vote.dwellUs = s.vote.dwellUs ∧
    (State.substitute s slot).vote.dwellMarkUs = s.vote.dwellMarkUs ∧
    (State.substitute s slot).vote.dwellSavedS = s.vote.dwellSavedS ∧
    (State.substitute s slot).vote.dwellEntered = s.vote.dwellEntered ∧
    (State.substitute s slot).vote.warned60 = s.vote.warned60 ∧
    (State.substitute s slot).vote.warned10 = s.vote.warned10 ∧
    (State.substitute s slot).vote.dwellExpired = s.vote.dwellExpired ∧
    (State.substitute s slot).vote.accusations = s.vote.accusations ∧
    (State.substitute s slot).vote.lastAccuse = s.vote.lastAccuse ∧
    (State.substitute s slot).vote.sigGood = s.vote.sigGood ∧
    (State.substitute s slot).vote.sigExpected = s.vote.sigExpected ∧
    (State.substitute s slot).vote.lockstepBroken = s.vote.lockstepBroken ∧
    (State.substitute s slot).vote.cause = s.vote.cause ∧
    (State.substitute s slot).vote.verdictWord = s.vote.verdictWord := by
  unfold State.substitute; (repeat' split) <;> simp [State.setCore_vote_frame _ _ _]

theorem State.permanent_vote_frame (s : State) (slot : ℕ) (core : ℕ) (cause : ℕ) :
    (State.permanent s slot core cause).vote.lanes = s.vote.lanes ∧
    (State.permanent s slot core cause).vote.transients = s.vote.transients ∧
    (State.permanent s slot core cause).vote.testing = s.vote.testing ∧
    (State.permanent s slot core cause).vote.laneCheck = s.vote.laneCheck ∧
    (State.permanent s slot core cause).vote.laneTurn = s.vote.laneTurn ∧
    (State.permanent s slot core cause).vote.dwellUs = s.vote.dwellUs ∧
    (State.permanent s slot core cause).vote.dwellMarkUs = s.vote.dwellMarkUs ∧
    (State.permanent s slot core cause).vote.dwellSavedS = s.vote.dwellSavedS ∧
    (State.permanent s slot core cause).vote.dwellEntered = s.vote.dwellEntered ∧
    (State.permanent s slot core cause).vote.warned60 = s.vote.warned60 ∧
    (State.permanent s slot core cause).vote.warned10 = s.vote.warned10 ∧
    (State.permanent s slot core cause).vote.dwellExpired = s.vote.dwellExpired ∧
    (State.permanent s slot core cause).vote.accusations = s.vote.accusations ∧
    (State.permanent s slot core cause).vote.lastAccuse = s.vote.lastAccuse ∧
    (State.permanent s slot core cause).vote.sigGood = s.vote.sigGood ∧
    (State.permanent s slot core cause).vote.sigExpected = s.vote.sigExpected ∧
    (State.permanent s slot core cause).vote.lockstepBroken = s.vote.lockstepBroken ∧
    (State.permanent s slot core cause).vote.cause = s.vote.cause ∧
    (State.permanent s slot core cause).vote.verdictWord = s.vote.verdictWord := by
  simp [State.permanent, State.substitute_vote_frame _ _, State.markFailed_vote_frame _ _ _]

theorem State.permanent_hi_frame (s : State) (slot : ℕ) (core : ℕ) (cause : ℕ) :
    (State.permanent s slot core cause).hi.state = s.hi.state ∧ (State.permanent s slot core cause).hi.m2 = s.hi.m2
    ∧ (State.permanent s slot core cause).hi.unstableCount = s.hi.unstableCount ∧
    (State.permanent s slot core cause).hi.eventMg = s.hi.eventMg ∧
    (State.permanent s slot core cause).hi.eventCl = s.hi.eventCl ∧
    (State.permanent s slot core cause).hi.downMg = s.hi.downMg ∧
    (State.permanent s slot core cause).hi.downCl = s.hi.downCl ∧
    (State.permanent s slot core cause).hi.stale = s.hi.stale ∧
    (State.permanent s slot core cause).hi.unstable = s.hi.unstable ∧
    (State.permanent s slot core cause).hi.scratch = s.hi.scratch ∧
    (State.permanent s slot core cause).hi.done = s.hi.done ∧
    (State.permanent s slot core cause).hi.busy = s.hi.busy ∧
    (State.permanent s slot core cause).hi.tail = s.hi.tail ∧
    (State.permanent s slot core cause).hi.irqMask = s.hi.irqMask ∧
    (State.permanent s slot core cause).hi.vectors = s.hi.vectors ∧
    (State.permanent s slot core cause).hi.readData = s.hi.readData ∧
    (State.permanent s slot core cause).hi.unread = s.hi.unread ∧
    (State.permanent s slot core cause).hi.heldDone = s.hi.heldDone ∧
    (State.permanent s slot core cause).hi.subscribed = s.hi.subscribed ∧
    (State.permanent s slot core cause).hi.x8Subscribed = s.hi.x8Subscribed ∧
    (State.permanent s slot core cause).hi.x8Dest = s.hi.x8Dest ∧
    (State.permanent s slot core cause).hi.x8Last = s.hi.x8Last ∧
    (State.permanent s slot core cause).hi.x8Short = s.hi.x8Short ∧
    (State.permanent s slot core cause).hi.x8 = s.hi.x8 ∧
    (State.permanent s slot core cause).hi.x8Address = s.hi.x8Address ∧
    (State.permanent s slot core cause).hi.x8Plen = s.hi.x8Plen ∧
    (State.permanent s slot core cause).hi.x8Gateway = s.hi.x8Gateway ∧
    (State.permanent s slot core cause).hi.x8New = s.hi.x8New := by
  simp [State.permanent, State.substitute_frame _ _, State.markFailed_hi_frame _ _ _]

theorem State.permanent_recorder_frame (s : State) (slot : ℕ) (core : ℕ) (cause : ℕ) :
    (State.permanent s slot core cause).recorder.ring = s.recorder.ring ∧
    (State.permanent s slot core cause).recorder.next = s.recorder.next ∧
    (State.permanent s slot core cause).recorder.capacity = s.recorder.capacity ∧
    (State.permanent s slot core cause).recorder.badBlocks = s.recorder.badBlocks ∧
    (State.permanent s slot core cause).recorder.buckets = s.recorder.buckets ∧
    (State.permanent s slot core cause).recorder.rates = s.recorder.rates ∧
    (State.permanent s slot core cause).recorder.frozenUntil = s.recorder.frozenUntil ∧
    (State.permanent s slot core cause).recorder.staging = s.recorder.staging ∧
    (State.permanent s slot core cause).recorder.lost = s.recorder.lost ∧
    (State.permanent s slot core cause).recorder.firstLost = s.recorder.firstLost := by
  simp [State.permanent, State.substitute_frame _ _, State.markFailed_recorder_frame _ _ _]

theorem State.permanent_test_frame (s : State) (slot : ℕ) (core : ℕ) (cause : ℕ) :
    (State.permanent s slot core cause).test.record = s.test.record ∧
    (State.permanent s slot core cause).test.step = s.test.step ∧
    (State.permanent s slot core cause).test.stepUs = s.test.stepUs ∧
    (State.permanent s slot core cause).test.beganUs = s.test.beganUs ∧
    (State.permanent s slot core cause).test.verdicts = s.test.verdicts ∧
    (State.permanent s slot core cause).test.matched = s.test.matched ∧
    (State.permanent s slot core cause).test.fused = s.test.fused ∧
    (State.permanent s slot core cause).test.expected = s.test.expected ∧
    (State.permanent s slot core cause).test.fromState = s.test.fromState ∧
    (State.permanent s slot core cause).test.hotEnded = s.test.hotEnded ∧
    (State.permanent s slot core cause).test.pendingFuses = s.test.pendingFuses := by
  simp [State.permanent, State.substitute_frame _ _, State.markFailed_test_frame _ _ _]

theorem State.dwellSay_hi_frame (s : State) (left : ℕ) :
    (State.dwellSay s left).hi.state = s.hi.state ∧ (State.dwellSay s left).hi.m2 = s.hi.m2 ∧
    (State.dwellSay s left).hi.unstableCount = s.hi.unstableCount ∧
    (State.dwellSay s left).hi.eventMg = s.hi.eventMg ∧ (State.dwellSay s left).hi.eventCl = s.hi.eventCl ∧
    (State.dwellSay s left).hi.downMg = s.hi.downMg ∧ (State.dwellSay s left).hi.downCl = s.hi.downCl ∧
    (State.dwellSay s left).hi.stale = s.hi.stale ∧ (State.dwellSay s left).hi.unstable = s.hi.unstable ∧
    (State.dwellSay s left).hi.scratch = s.hi.scratch ∧ (State.dwellSay s left).hi.done = s.hi.done ∧
    (State.dwellSay s left).hi.busy = s.hi.busy ∧ (State.dwellSay s left).hi.tail = s.hi.tail ∧
    (State.dwellSay s left).hi.irqMask = s.hi.irqMask ∧ (State.dwellSay s left).hi.vectors = s.hi.vectors ∧
    (State.dwellSay s left).hi.readData = s.hi.readData ∧ (State.dwellSay s left).hi.unread = s.hi.unread ∧
    (State.dwellSay s left).hi.heldDone = s.hi.heldDone ∧ (State.dwellSay s left).hi.subscribed = s.hi.subscribed ∧
    (State.dwellSay s left).hi.x8Subscribed = s.hi.x8Subscribed ∧ (State.dwellSay s left).hi.x8Dest = s.hi.x8Dest ∧
    (State.dwellSay s left).hi.x8Last = s.hi.x8Last ∧ (State.dwellSay s left).hi.x8Short = s.hi.x8Short ∧
    (State.dwellSay s left).hi.x8 = s.hi.x8 ∧ (State.dwellSay s left).hi.x8Address = s.hi.x8Address ∧
    (State.dwellSay s left).hi.x8Plen = s.hi.x8Plen ∧ (State.dwellSay s left).hi.x8Gateway = s.hi.x8Gateway ∧
    (State.dwellSay s left).hi.x8New = s.hi.x8New := by
  simp [State.dwellSay, State.voteNote_hi_frame _ _ _ _, State.voteEvent_frame _ _ _ _ _]

theorem State.dwellSay_recorder_frame (s : State) (left : ℕ) :
    (State.dwellSay s left).recorder.ring = s.recorder.ring ∧
    (State.dwellSay s left).recorder.next = s.recorder.next ∧
    (State.dwellSay s left).recorder.capacity = s.recorder.capacity ∧
    (State.dwellSay s left).recorder.badBlocks = s.recorder.badBlocks ∧
    (State.dwellSay s left).recorder.buckets = s.recorder.buckets ∧
    (State.dwellSay s left).recorder.rates = s.recorder.rates ∧
    (State.dwellSay s left).recorder.frozenUntil = s.recorder.frozenUntil ∧
    (State.dwellSay s left).recorder.staging = s.recorder.staging ∧
    (State.dwellSay s left).recorder.lost = s.recorder.lost ∧
    (State.dwellSay s left).recorder.firstLost = s.recorder.firstLost := by
  simp [State.dwellSay, State.voteNote_frame _ _ _ _, State.voteEvent_recorder_frame _ _ _ _ _]

theorem State.dwellWarn60_vote_frame (s : State) (left : ℕ) :
    (State.dwellWarn60 s left).vote.slots = s.vote.slots ∧ (State.dwellWarn60 s left).vote.lanes = s.vote.lanes ∧
    (State.dwellWarn60 s left).vote.cores = s.vote.cores ∧
    (State.dwellWarn60 s left).vote.transients = s.vote.transients ∧
    (State.dwellWarn60 s left).vote.testing = s.vote.testing ∧
    (State.dwellWarn60 s left).vote.laneCheck = s.vote.laneCheck ∧
    (State.dwellWarn60 s left).vote.joining = s.vote.joining ∧
    (State.dwellWarn60 s left).vote.joinReady = s.vote.joinReady ∧
    (State.dwellWarn60 s left).vote.laneTurn = s.vote.laneTurn ∧
    (State.dwellWarn60 s left).vote.dwellUs = s.vote.dwellUs ∧
    (State.dwellWarn60 s left).vote.dwellMarkUs = s.vote.dwellMarkUs ∧
    (State.dwellWarn60 s left).vote.dwellSavedS = s.vote.dwellSavedS ∧
    (State.dwellWarn60 s left).vote.dwellEntered = s.vote.dwellEntered ∧
    (State.dwellWarn60 s left).vote.warned10 = s.vote.warned10 ∧
    (State.dwellWarn60 s left).vote.dwellExpired = s.vote.dwellExpired ∧
    (State.dwellWarn60 s left).vote.accusations = s.vote.accusations ∧
    (State.dwellWarn60 s left).vote.lastAccuse = s.vote.lastAccuse ∧
    (State.dwellWarn60 s left).vote.sigGood = s.vote.sigGood ∧
    (State.dwellWarn60 s left).vote.sigExpected = s.vote.sigExpected ∧
    (State.dwellWarn60 s left).vote.lockstepBroken = s.vote.lockstepBroken ∧
    (State.dwellWarn60 s left).vote.cause = s.vote.cause ∧
    (State.dwellWarn60 s left).vote.verdictWord = s.vote.verdictWord := by
  unfold State.dwellWarn60; (repeat' split) <;> simp [State.dwellSay_frame _ _]

theorem State.dwellWarn60_hi_frame (s : State) (left : ℕ) :
    (State.dwellWarn60 s left).hi.state = s.hi.state ∧ (State.dwellWarn60 s left).hi.m2 = s.hi.m2 ∧
    (State.dwellWarn60 s left).hi.unstableCount = s.hi.unstableCount ∧
    (State.dwellWarn60 s left).hi.eventMg = s.hi.eventMg ∧ (State.dwellWarn60 s left).hi.eventCl = s.hi.eventCl ∧
    (State.dwellWarn60 s left).hi.downMg = s.hi.downMg ∧ (State.dwellWarn60 s left).hi.downCl = s.hi.downCl ∧
    (State.dwellWarn60 s left).hi.stale = s.hi.stale ∧ (State.dwellWarn60 s left).hi.unstable = s.hi.unstable ∧
    (State.dwellWarn60 s left).hi.scratch = s.hi.scratch ∧ (State.dwellWarn60 s left).hi.done = s.hi.done ∧
    (State.dwellWarn60 s left).hi.busy = s.hi.busy ∧ (State.dwellWarn60 s left).hi.tail = s.hi.tail ∧
    (State.dwellWarn60 s left).hi.irqMask = s.hi.irqMask ∧ (State.dwellWarn60 s left).hi.vectors = s.hi.vectors ∧
    (State.dwellWarn60 s left).hi.readData = s.hi.readData ∧ (State.dwellWarn60 s left).hi.unread = s.hi.unread ∧
    (State.dwellWarn60 s left).hi.heldDone = s.hi.heldDone ∧
    (State.dwellWarn60 s left).hi.subscribed = s.hi.subscribed ∧
    (State.dwellWarn60 s left).hi.x8Subscribed = s.hi.x8Subscribed ∧
    (State.dwellWarn60 s left).hi.x8Dest = s.hi.x8Dest ∧ (State.dwellWarn60 s left).hi.x8Last = s.hi.x8Last ∧
    (State.dwellWarn60 s left).hi.x8Short = s.hi.x8Short ∧ (State.dwellWarn60 s left).hi.x8 = s.hi.x8 ∧
    (State.dwellWarn60 s left).hi.x8Address = s.hi.x8Address ∧ (State.dwellWarn60 s left).hi.x8Plen = s.hi.x8Plen ∧
    (State.dwellWarn60 s left).hi.x8Gateway = s.hi.x8Gateway ∧ (State.dwellWarn60 s left).hi.x8New = s.hi.x8New := by
  unfold State.dwellWarn60; (repeat' split) <;> simp [State.dwellSay_hi_frame _ _]

theorem State.dwellWarn60_recorder_frame (s : State) (left : ℕ) :
    (State.dwellWarn60 s left).recorder.ring = s.recorder.ring ∧
    (State.dwellWarn60 s left).recorder.next = s.recorder.next ∧
    (State.dwellWarn60 s left).recorder.capacity = s.recorder.capacity ∧
    (State.dwellWarn60 s left).recorder.badBlocks = s.recorder.badBlocks ∧
    (State.dwellWarn60 s left).recorder.buckets = s.recorder.buckets ∧
    (State.dwellWarn60 s left).recorder.rates = s.recorder.rates ∧
    (State.dwellWarn60 s left).recorder.frozenUntil = s.recorder.frozenUntil ∧
    (State.dwellWarn60 s left).recorder.staging = s.recorder.staging ∧
    (State.dwellWarn60 s left).recorder.lost = s.recorder.lost ∧
    (State.dwellWarn60 s left).recorder.firstLost = s.recorder.firstLost := by
  unfold State.dwellWarn60; (repeat' split) <;> simp [State.dwellSay_recorder_frame _ _]

theorem State.dwellWarn10_vote_frame (s : State) (left : ℕ) :
    (State.dwellWarn10 s left).vote.slots = s.vote.slots ∧ (State.dwellWarn10 s left).vote.lanes = s.vote.lanes ∧
    (State.dwellWarn10 s left).vote.cores = s.vote.cores ∧
    (State.dwellWarn10 s left).vote.transients = s.vote.transients ∧
    (State.dwellWarn10 s left).vote.testing = s.vote.testing ∧
    (State.dwellWarn10 s left).vote.laneCheck = s.vote.laneCheck ∧
    (State.dwellWarn10 s left).vote.joining = s.vote.joining ∧
    (State.dwellWarn10 s left).vote.joinReady = s.vote.joinReady ∧
    (State.dwellWarn10 s left).vote.laneTurn = s.vote.laneTurn ∧
    (State.dwellWarn10 s left).vote.dwellUs = s.vote.dwellUs ∧
    (State.dwellWarn10 s left).vote.dwellMarkUs = s.vote.dwellMarkUs ∧
    (State.dwellWarn10 s left).vote.dwellSavedS = s.vote.dwellSavedS ∧
    (State.dwellWarn10 s left).vote.dwellEntered = s.vote.dwellEntered ∧
    (State.dwellWarn10 s left).vote.warned60 = s.vote.warned60 ∧
    (State.dwellWarn10 s left).vote.dwellExpired = s.vote.dwellExpired ∧
    (State.dwellWarn10 s left).vote.accusations = s.vote.accusations ∧
    (State.dwellWarn10 s left).vote.lastAccuse = s.vote.lastAccuse ∧
    (State.dwellWarn10 s left).vote.sigGood = s.vote.sigGood ∧
    (State.dwellWarn10 s left).vote.sigExpected = s.vote.sigExpected ∧
    (State.dwellWarn10 s left).vote.lockstepBroken = s.vote.lockstepBroken ∧
    (State.dwellWarn10 s left).vote.cause = s.vote.cause ∧
    (State.dwellWarn10 s left).vote.verdictWord = s.vote.verdictWord := by
  unfold State.dwellWarn10; (repeat' split) <;> simp [State.dwellSay_frame _ _]

theorem State.dwellWarn10_hi_frame (s : State) (left : ℕ) :
    (State.dwellWarn10 s left).hi.state = s.hi.state ∧ (State.dwellWarn10 s left).hi.m2 = s.hi.m2 ∧
    (State.dwellWarn10 s left).hi.unstableCount = s.hi.unstableCount ∧
    (State.dwellWarn10 s left).hi.eventMg = s.hi.eventMg ∧ (State.dwellWarn10 s left).hi.eventCl = s.hi.eventCl ∧
    (State.dwellWarn10 s left).hi.downMg = s.hi.downMg ∧ (State.dwellWarn10 s left).hi.downCl = s.hi.downCl ∧
    (State.dwellWarn10 s left).hi.stale = s.hi.stale ∧ (State.dwellWarn10 s left).hi.unstable = s.hi.unstable ∧
    (State.dwellWarn10 s left).hi.scratch = s.hi.scratch ∧ (State.dwellWarn10 s left).hi.done = s.hi.done ∧
    (State.dwellWarn10 s left).hi.busy = s.hi.busy ∧ (State.dwellWarn10 s left).hi.tail = s.hi.tail ∧
    (State.dwellWarn10 s left).hi.irqMask = s.hi.irqMask ∧ (State.dwellWarn10 s left).hi.vectors = s.hi.vectors ∧
    (State.dwellWarn10 s left).hi.readData = s.hi.readData ∧ (State.dwellWarn10 s left).hi.unread = s.hi.unread ∧
    (State.dwellWarn10 s left).hi.heldDone = s.hi.heldDone ∧
    (State.dwellWarn10 s left).hi.subscribed = s.hi.subscribed ∧
    (State.dwellWarn10 s left).hi.x8Subscribed = s.hi.x8Subscribed ∧
    (State.dwellWarn10 s left).hi.x8Dest = s.hi.x8Dest ∧ (State.dwellWarn10 s left).hi.x8Last = s.hi.x8Last ∧
    (State.dwellWarn10 s left).hi.x8Short = s.hi.x8Short ∧ (State.dwellWarn10 s left).hi.x8 = s.hi.x8 ∧
    (State.dwellWarn10 s left).hi.x8Address = s.hi.x8Address ∧ (State.dwellWarn10 s left).hi.x8Plen = s.hi.x8Plen ∧
    (State.dwellWarn10 s left).hi.x8Gateway = s.hi.x8Gateway ∧ (State.dwellWarn10 s left).hi.x8New = s.hi.x8New := by
  unfold State.dwellWarn10; (repeat' split) <;> simp [State.dwellSay_hi_frame _ _]

theorem State.dwellWarn10_recorder_frame (s : State) (left : ℕ) :
    (State.dwellWarn10 s left).recorder.ring = s.recorder.ring ∧
    (State.dwellWarn10 s left).recorder.next = s.recorder.next ∧
    (State.dwellWarn10 s left).recorder.capacity = s.recorder.capacity ∧
    (State.dwellWarn10 s left).recorder.badBlocks = s.recorder.badBlocks ∧
    (State.dwellWarn10 s left).recorder.buckets = s.recorder.buckets ∧
    (State.dwellWarn10 s left).recorder.rates = s.recorder.rates ∧
    (State.dwellWarn10 s left).recorder.frozenUntil = s.recorder.frozenUntil ∧
    (State.dwellWarn10 s left).recorder.staging = s.recorder.staging ∧
    (State.dwellWarn10 s left).recorder.lost = s.recorder.lost ∧
    (State.dwellWarn10 s left).recorder.firstLost = s.recorder.firstLost := by
  unfold State.dwellWarn10; (repeat' split) <;> simp [State.dwellSay_recorder_frame _ _]

theorem State.dwellWarn_vote_frame (s : State) :
    (State.dwellWarn s).vote.slots = s.vote.slots ∧ (State.dwellWarn s).vote.lanes = s.vote.lanes ∧
    (State.dwellWarn s).vote.cores = s.vote.cores ∧ (State.dwellWarn s).vote.transients = s.vote.transients ∧
    (State.dwellWarn s).vote.testing = s.vote.testing ∧ (State.dwellWarn s).vote.laneCheck = s.vote.laneCheck ∧
    (State.dwellWarn s).vote.joining = s.vote.joining ∧ (State.dwellWarn s).vote.joinReady = s.vote.joinReady ∧
    (State.dwellWarn s).vote.laneTurn = s.vote.laneTurn ∧ (State.dwellWarn s).vote.dwellUs = s.vote.dwellUs ∧
    (State.dwellWarn s).vote.dwellMarkUs = s.vote.dwellMarkUs ∧
    (State.dwellWarn s).vote.dwellSavedS = s.vote.dwellSavedS ∧
    (State.dwellWarn s).vote.dwellEntered = s.vote.dwellEntered ∧
    (State.dwellWarn s).vote.dwellExpired = s.vote.dwellExpired ∧
    (State.dwellWarn s).vote.accusations = s.vote.accusations ∧
    (State.dwellWarn s).vote.lastAccuse = s.vote.lastAccuse ∧ (State.dwellWarn s).vote.sigGood = s.vote.sigGood ∧
    (State.dwellWarn s).vote.sigExpected = s.vote.sigExpected ∧
    (State.dwellWarn s).vote.lockstepBroken = s.vote.lockstepBroken ∧ (State.dwellWarn s).vote.cause = s.vote.cause
    ∧ (State.dwellWarn s).vote.verdictWord = s.vote.verdictWord := by
  unfold State.dwellWarn; dsimp only; split <;> simp [State.dwellWarn10_vote_frame _ _,
        State.dwellWarn60_vote_frame _ _]

theorem State.dwellWarn_hi_frame (s : State) :
    (State.dwellWarn s).hi.state = s.hi.state ∧ (State.dwellWarn s).hi.m2 = s.hi.m2 ∧
    (State.dwellWarn s).hi.unstableCount = s.hi.unstableCount ∧ (State.dwellWarn s).hi.eventMg = s.hi.eventMg ∧
    (State.dwellWarn s).hi.eventCl = s.hi.eventCl ∧ (State.dwellWarn s).hi.downMg = s.hi.downMg ∧
    (State.dwellWarn s).hi.downCl = s.hi.downCl ∧ (State.dwellWarn s).hi.stale = s.hi.stale ∧
    (State.dwellWarn s).hi.unstable = s.hi.unstable ∧ (State.dwellWarn s).hi.scratch = s.hi.scratch ∧
    (State.dwellWarn s).hi.done = s.hi.done ∧ (State.dwellWarn s).hi.busy = s.hi.busy ∧
    (State.dwellWarn s).hi.tail = s.hi.tail ∧ (State.dwellWarn s).hi.irqMask = s.hi.irqMask ∧
    (State.dwellWarn s).hi.vectors = s.hi.vectors ∧ (State.dwellWarn s).hi.readData = s.hi.readData ∧
    (State.dwellWarn s).hi.unread = s.hi.unread ∧ (State.dwellWarn s).hi.heldDone = s.hi.heldDone ∧
    (State.dwellWarn s).hi.subscribed = s.hi.subscribed ∧ (State.dwellWarn s).hi.x8Subscribed = s.hi.x8Subscribed ∧
    (State.dwellWarn s).hi.x8Dest = s.hi.x8Dest ∧ (State.dwellWarn s).hi.x8Last = s.hi.x8Last ∧
    (State.dwellWarn s).hi.x8Short = s.hi.x8Short ∧ (State.dwellWarn s).hi.x8 = s.hi.x8 ∧
    (State.dwellWarn s).hi.x8Address = s.hi.x8Address ∧ (State.dwellWarn s).hi.x8Plen = s.hi.x8Plen ∧
    (State.dwellWarn s).hi.x8Gateway = s.hi.x8Gateway ∧ (State.dwellWarn s).hi.x8New = s.hi.x8New := by
  unfold State.dwellWarn; dsimp only; split <;> simp [State.dwellWarn10_hi_frame _ _, State.dwellWarn60_hi_frame _ _]

theorem State.dwellWarn_recorder_frame (s : State) :
    (State.dwellWarn s).recorder.ring = s.recorder.ring ∧ (State.dwellWarn s).recorder.next = s.recorder.next ∧
    (State.dwellWarn s).recorder.capacity = s.recorder.capacity ∧
    (State.dwellWarn s).recorder.badBlocks = s.recorder.badBlocks ∧
    (State.dwellWarn s).recorder.buckets = s.recorder.buckets ∧
    (State.dwellWarn s).recorder.rates = s.recorder.rates ∧
    (State.dwellWarn s).recorder.frozenUntil = s.recorder.frozenUntil ∧
    (State.dwellWarn s).recorder.staging = s.recorder.staging ∧ (State.dwellWarn s).recorder.lost = s.recorder.lost
    ∧ (State.dwellWarn s).recorder.firstLost = s.recorder.firstLost := by
  unfold State.dwellWarn; dsimp only; split <;> simp [State.dwellWarn10_recorder_frame _ _,
        State.dwellWarn60_recorder_frame _ _]

theorem State.dwellSync_vote_frame (s : State) :
    (State.dwellSync s).vote.slots = s.vote.slots ∧ (State.dwellSync s).vote.lanes = s.vote.lanes ∧
    (State.dwellSync s).vote.cores = s.vote.cores ∧ (State.dwellSync s).vote.transients = s.vote.transients ∧
    (State.dwellSync s).vote.testing = s.vote.testing ∧ (State.dwellSync s).vote.laneCheck = s.vote.laneCheck ∧
    (State.dwellSync s).vote.joining = s.vote.joining ∧ (State.dwellSync s).vote.joinReady = s.vote.joinReady ∧
    (State.dwellSync s).vote.laneTurn = s.vote.laneTurn ∧ (State.dwellSync s).vote.dwellSavedS = s.vote.dwellSavedS
    ∧ (State.dwellSync s).vote.dwellExpired = s.vote.dwellExpired ∧
    (State.dwellSync s).vote.accusations = s.vote.accusations ∧
    (State.dwellSync s).vote.lastAccuse = s.vote.lastAccuse ∧ (State.dwellSync s).vote.sigGood = s.vote.sigGood ∧
    (State.dwellSync s).vote.sigExpected = s.vote.sigExpected ∧
    (State.dwellSync s).vote.lockstepBroken = s.vote.lockstepBroken ∧ (State.dwellSync s).vote.cause = s.vote.cause
    ∧ (State.dwellSync s).vote.verdictWord = s.vote.verdictWord := by
  simp only [State.dwellSync]; (repeat' split) <;> simp [State.dwellPause_vote_frame _, State.dwellWarn_vote_frame _,
        State.voteNote_frame _ _ _ _, State.voteEvent_frame _ _ _ _ _]

theorem State.dwellSync_hi_frame (s : State) :
    (State.dwellSync s).hi.state = s.hi.state ∧ (State.dwellSync s).hi.m2 = s.hi.m2 ∧
    (State.dwellSync s).hi.unstableCount = s.hi.unstableCount ∧ (State.dwellSync s).hi.eventMg = s.hi.eventMg ∧
    (State.dwellSync s).hi.eventCl = s.hi.eventCl ∧ (State.dwellSync s).hi.downMg = s.hi.downMg ∧
    (State.dwellSync s).hi.downCl = s.hi.downCl ∧ (State.dwellSync s).hi.stale = s.hi.stale ∧
    (State.dwellSync s).hi.unstable = s.hi.unstable ∧ (State.dwellSync s).hi.scratch = s.hi.scratch ∧
    (State.dwellSync s).hi.done = s.hi.done ∧ (State.dwellSync s).hi.busy = s.hi.busy ∧
    (State.dwellSync s).hi.tail = s.hi.tail ∧ (State.dwellSync s).hi.irqMask = s.hi.irqMask ∧
    (State.dwellSync s).hi.vectors = s.hi.vectors ∧ (State.dwellSync s).hi.readData = s.hi.readData ∧
    (State.dwellSync s).hi.unread = s.hi.unread ∧ (State.dwellSync s).hi.heldDone = s.hi.heldDone ∧
    (State.dwellSync s).hi.subscribed = s.hi.subscribed ∧ (State.dwellSync s).hi.x8Subscribed = s.hi.x8Subscribed ∧
    (State.dwellSync s).hi.x8Dest = s.hi.x8Dest ∧ (State.dwellSync s).hi.x8Last = s.hi.x8Last ∧
    (State.dwellSync s).hi.x8Short = s.hi.x8Short ∧ (State.dwellSync s).hi.x8 = s.hi.x8 ∧
    (State.dwellSync s).hi.x8Address = s.hi.x8Address ∧ (State.dwellSync s).hi.x8Plen = s.hi.x8Plen ∧
    (State.dwellSync s).hi.x8Gateway = s.hi.x8Gateway ∧ (State.dwellSync s).hi.x8New = s.hi.x8New := by
  simp only [State.dwellSync]; (repeat' split) <;> simp [State.dwellPause_frame _, State.dwellWarn_hi_frame _,
        State.voteNote_hi_frame _ _ _ _, State.voteEvent_frame _ _ _ _ _]

theorem State.dwellSync_recorder_frame (s : State) :
    (State.dwellSync s).recorder.ring = s.recorder.ring ∧ (State.dwellSync s).recorder.next = s.recorder.next ∧
    (State.dwellSync s).recorder.capacity = s.recorder.capacity ∧
    (State.dwellSync s).recorder.badBlocks = s.recorder.badBlocks ∧
    (State.dwellSync s).recorder.buckets = s.recorder.buckets ∧
    (State.dwellSync s).recorder.rates = s.recorder.rates ∧
    (State.dwellSync s).recorder.frozenUntil = s.recorder.frozenUntil ∧
    (State.dwellSync s).recorder.staging = s.recorder.staging ∧ (State.dwellSync s).recorder.lost = s.recorder.lost
    ∧ (State.dwellSync s).recorder.firstLost = s.recorder.firstLost := by
  simp only [State.dwellSync]; (repeat' split) <;> simp [State.dwellPause_frame _, State.dwellWarn_recorder_frame _,
        State.voteNote_frame _ _ _ _, State.voteEvent_recorder_frame _ _ _ _ _]

theorem State.dwellExpire_bench_frame (s : State) :
    (State.dwellExpire s).bench.cycle = s.bench.cycle ∧ (State.dwellExpire s).bench.nextCycle = s.bench.nextCycle ∧
    (State.dwellExpire s).bench.lastO = s.bench.lastO ∧ (State.dwellExpire s).bench.freezeUs = s.bench.freezeUs ∧
    (State.dwellExpire s).bench.nextFreezeUs = s.bench.nextFreezeUs ∧
    (State.dwellExpire s).bench.frozen = s.bench.frozen ∧ (State.dwellExpire s).bench.evaluated = s.bench.evaluated
    ∧ (State.dwellExpire s).bench.first = s.bench.first ∧ (State.dwellExpire s).bench.requests = s.bench.requests ∧
    (State.dwellExpire s).bench.overran = s.bench.overran ∧ (State.dwellExpire s).bench.discard = s.bench.discard ∧
    (State.dwellExpire s).bench.noCode = s.bench.noCode ∧ (State.dwellExpire s).bench.constants = s.bench.constants
    ∧ (State.dwellExpire s).bench.newConstants = s.bench.newConstants ∧
    (State.dwellExpire s).bench.forces = s.bench.forces ∧ (State.dwellExpire s).bench.newForces = s.bench.newForces
    ∧ (State.dwellExpire s).bench.forcedShown = s.bench.forcedShown ∧
    (State.dwellExpire s).bench.reminderUs = s.bench.reminderUs ∧
    (State.dwellExpire s).bench.completions = s.bench.completions ∧
    (State.dwellExpire s).bench.notes = s.bench.notes ∧ (State.dwellExpire s).bench.challenge = s.bench.challenge ∧
    (State.dwellExpire s).bench.codes = s.bench.codes := by
  unfold State.dwellExpire; (repeat' split) <;> simp [State.voteNote_frame _ _ _ _, State.voteEvent_frame _ _ _ _ _]

theorem State.dwellExpire_vote_frame (s : State) :
    (State.dwellExpire s).vote.slots = s.vote.slots ∧ (State.dwellExpire s).vote.lanes = s.vote.lanes ∧
    (State.dwellExpire s).vote.cores = s.vote.cores ∧ (State.dwellExpire s).vote.transients = s.vote.transients ∧
    (State.dwellExpire s).vote.testing = s.vote.testing ∧ (State.dwellExpire s).vote.laneCheck = s.vote.laneCheck ∧
    (State.dwellExpire s).vote.joining = s.vote.joining ∧ (State.dwellExpire s).vote.joinReady = s.vote.joinReady ∧
    (State.dwellExpire s).vote.laneTurn = s.vote.laneTurn ∧ (State.dwellExpire s).vote.dwellUs = s.vote.dwellUs ∧
    (State.dwellExpire s).vote.dwellMarkUs = s.vote.dwellMarkUs ∧
    (State.dwellExpire s).vote.dwellSavedS = s.vote.dwellSavedS ∧
    (State.dwellExpire s).vote.dwellEntered = s.vote.dwellEntered ∧
    (State.dwellExpire s).vote.warned60 = s.vote.warned60 ∧ (State.dwellExpire s).vote.warned10 = s.vote.warned10 ∧
    (State.dwellExpire s).vote.accusations = s.vote.accusations ∧
    (State.dwellExpire s).vote.lastAccuse = s.vote.lastAccuse ∧ (State.dwellExpire s).vote.sigGood = s.vote.sigGood
    ∧ (State.dwellExpire s).vote.sigExpected = s.vote.sigExpected ∧
    (State.dwellExpire s).vote.lockstepBroken = s.vote.lockstepBroken ∧
    (State.dwellExpire s).vote.cause = s.vote.cause ∧ (State.dwellExpire s).vote.verdictWord = s.vote.verdictWord := by
  unfold State.dwellExpire; (repeat' split) <;> simp [State.voteNote_frame _ _ _ _, State.voteEvent_frame _ _ _ _ _]

theorem State.dwellExpire_hi_frame (s : State) :
    (State.dwellExpire s).hi.state = s.hi.state ∧ (State.dwellExpire s).hi.m2 = s.hi.m2 ∧
    (State.dwellExpire s).hi.unstableCount = s.hi.unstableCount ∧ (State.dwellExpire s).hi.eventMg = s.hi.eventMg ∧
    (State.dwellExpire s).hi.eventCl = s.hi.eventCl ∧ (State.dwellExpire s).hi.downMg = s.hi.downMg ∧
    (State.dwellExpire s).hi.downCl = s.hi.downCl ∧ (State.dwellExpire s).hi.stale = s.hi.stale ∧
    (State.dwellExpire s).hi.unstable = s.hi.unstable ∧ (State.dwellExpire s).hi.scratch = s.hi.scratch ∧
    (State.dwellExpire s).hi.done = s.hi.done ∧ (State.dwellExpire s).hi.busy = s.hi.busy ∧
    (State.dwellExpire s).hi.tail = s.hi.tail ∧ (State.dwellExpire s).hi.irqMask = s.hi.irqMask ∧
    (State.dwellExpire s).hi.vectors = s.hi.vectors ∧ (State.dwellExpire s).hi.readData = s.hi.readData ∧
    (State.dwellExpire s).hi.unread = s.hi.unread ∧ (State.dwellExpire s).hi.heldDone = s.hi.heldDone ∧
    (State.dwellExpire s).hi.subscribed = s.hi.subscribed ∧
    (State.dwellExpire s).hi.x8Subscribed = s.hi.x8Subscribed ∧ (State.dwellExpire s).hi.x8Dest = s.hi.x8Dest ∧
    (State.dwellExpire s).hi.x8Last = s.hi.x8Last ∧ (State.dwellExpire s).hi.x8Short = s.hi.x8Short ∧
    (State.dwellExpire s).hi.x8 = s.hi.x8 ∧ (State.dwellExpire s).hi.x8Address = s.hi.x8Address ∧
    (State.dwellExpire s).hi.x8Plen = s.hi.x8Plen ∧ (State.dwellExpire s).hi.x8Gateway = s.hi.x8Gateway ∧
    (State.dwellExpire s).hi.x8New = s.hi.x8New := by
  unfold State.dwellExpire; (repeat' split) <;> simp [State.voteNote_hi_frame _ _ _ _, State.voteEvent_frame _ _ _ _ _]

theorem State.dwellExpire_recorder_frame (s : State) :
    (State.dwellExpire s).recorder.ring = s.recorder.ring ∧ (State.dwellExpire s).recorder.next = s.recorder.next ∧
    (State.dwellExpire s).recorder.capacity = s.recorder.capacity ∧
    (State.dwellExpire s).recorder.badBlocks = s.recorder.badBlocks ∧
    (State.dwellExpire s).recorder.buckets = s.recorder.buckets ∧
    (State.dwellExpire s).recorder.rates = s.recorder.rates ∧
    (State.dwellExpire s).recorder.frozenUntil = s.recorder.frozenUntil ∧
    (State.dwellExpire s).recorder.staging = s.recorder.staging ∧
    (State.dwellExpire s).recorder.lost = s.recorder.lost ∧
    (State.dwellExpire s).recorder.firstLost = s.recorder.firstLost := by
  unfold State.dwellExpire; (repeat' split) <;> simp [State.voteNote_frame _ _ _ _,
        State.voteEvent_recorder_frame _ _ _ _ _]

theorem State.dwellCheck_bench_frame (s : State) :
    (State.dwellCheck s).bench.cycle = s.bench.cycle ∧ (State.dwellCheck s).bench.nextCycle = s.bench.nextCycle ∧
    (State.dwellCheck s).bench.lastO = s.bench.lastO ∧ (State.dwellCheck s).bench.freezeUs = s.bench.freezeUs ∧
    (State.dwellCheck s).bench.nextFreezeUs = s.bench.nextFreezeUs ∧
    (State.dwellCheck s).bench.frozen = s.bench.frozen ∧ (State.dwellCheck s).bench.evaluated = s.bench.evaluated ∧
    (State.dwellCheck s).bench.first = s.bench.first ∧ (State.dwellCheck s).bench.requests = s.bench.requests ∧
    (State.dwellCheck s).bench.overran = s.bench.overran ∧ (State.dwellCheck s).bench.discard = s.bench.discard ∧
    (State.dwellCheck s).bench.noCode = s.bench.noCode ∧ (State.dwellCheck s).bench.constants = s.bench.constants ∧
    (State.dwellCheck s).bench.newConstants = s.bench.newConstants ∧
    (State.dwellCheck s).bench.forces = s.bench.forces ∧ (State.dwellCheck s).bench.newForces = s.bench.newForces ∧
    (State.dwellCheck s).bench.forcedShown = s.bench.forcedShown ∧
    (State.dwellCheck s).bench.reminderUs = s.bench.reminderUs ∧
    (State.dwellCheck s).bench.completions = s.bench.completions ∧ (State.dwellCheck s).bench.notes = s.bench.notes
    ∧ (State.dwellCheck s).bench.challenge = s.bench.challenge ∧ (State.dwellCheck s).bench.codes = s.bench.codes := by
  simp [State.dwellCheck, State.dwellExpire_bench_frame _, State.dwellWarn_frame _, State.dwellSync_frame _]

theorem State.dwellCheck_vote_frame (s : State) :
    (State.dwellCheck s).vote.slots = s.vote.slots ∧ (State.dwellCheck s).vote.lanes = s.vote.lanes ∧
    (State.dwellCheck s).vote.cores = s.vote.cores ∧ (State.dwellCheck s).vote.transients = s.vote.transients ∧
    (State.dwellCheck s).vote.testing = s.vote.testing ∧ (State.dwellCheck s).vote.laneCheck = s.vote.laneCheck ∧
    (State.dwellCheck s).vote.joining = s.vote.joining ∧ (State.dwellCheck s).vote.joinReady = s.vote.joinReady ∧
    (State.dwellCheck s).vote.laneTurn = s.vote.laneTurn ∧
    (State.dwellCheck s).vote.dwellSavedS = s.vote.dwellSavedS ∧
    (State.dwellCheck s).vote.accusations = s.vote.accusations ∧
    (State.dwellCheck s).vote.lastAccuse = s.vote.lastAccuse ∧ (State.dwellCheck s).vote.sigGood = s.vote.sigGood ∧
    (State.dwellCheck s).vote.sigExpected = s.vote.sigExpected ∧
    (State.dwellCheck s).vote.lockstepBroken = s.vote.lockstepBroken ∧
    (State.dwellCheck s).vote.cause = s.vote.cause ∧ (State.dwellCheck s).vote.verdictWord = s.vote.verdictWord := by
  simp [State.dwellCheck, State.dwellExpire_vote_frame _, State.dwellWarn_vote_frame _, State.dwellSync_vote_frame _]

theorem State.dwellCheck_hi_frame (s : State) :
    (State.dwellCheck s).hi.state = s.hi.state ∧ (State.dwellCheck s).hi.m2 = s.hi.m2 ∧
    (State.dwellCheck s).hi.unstableCount = s.hi.unstableCount ∧ (State.dwellCheck s).hi.eventMg = s.hi.eventMg ∧
    (State.dwellCheck s).hi.eventCl = s.hi.eventCl ∧ (State.dwellCheck s).hi.downMg = s.hi.downMg ∧
    (State.dwellCheck s).hi.downCl = s.hi.downCl ∧ (State.dwellCheck s).hi.stale = s.hi.stale ∧
    (State.dwellCheck s).hi.unstable = s.hi.unstable ∧ (State.dwellCheck s).hi.scratch = s.hi.scratch ∧
    (State.dwellCheck s).hi.done = s.hi.done ∧ (State.dwellCheck s).hi.busy = s.hi.busy ∧
    (State.dwellCheck s).hi.tail = s.hi.tail ∧ (State.dwellCheck s).hi.irqMask = s.hi.irqMask ∧
    (State.dwellCheck s).hi.vectors = s.hi.vectors ∧ (State.dwellCheck s).hi.readData = s.hi.readData ∧
    (State.dwellCheck s).hi.unread = s.hi.unread ∧ (State.dwellCheck s).hi.heldDone = s.hi.heldDone ∧
    (State.dwellCheck s).hi.subscribed = s.hi.subscribed ∧ (State.dwellCheck s).hi.x8Subscribed = s.hi.x8Subscribed
    ∧ (State.dwellCheck s).hi.x8Dest = s.hi.x8Dest ∧ (State.dwellCheck s).hi.x8Last = s.hi.x8Last ∧
    (State.dwellCheck s).hi.x8Short = s.hi.x8Short ∧ (State.dwellCheck s).hi.x8 = s.hi.x8 ∧
    (State.dwellCheck s).hi.x8Address = s.hi.x8Address ∧ (State.dwellCheck s).hi.x8Plen = s.hi.x8Plen ∧
    (State.dwellCheck s).hi.x8Gateway = s.hi.x8Gateway ∧ (State.dwellCheck s).hi.x8New = s.hi.x8New := by
  simp [State.dwellCheck, State.dwellExpire_hi_frame _, State.dwellWarn_hi_frame _, State.dwellSync_hi_frame _]

theorem State.dwellCheck_recorder_frame (s : State) :
    (State.dwellCheck s).recorder.ring = s.recorder.ring ∧ (State.dwellCheck s).recorder.next = s.recorder.next ∧
    (State.dwellCheck s).recorder.capacity = s.recorder.capacity ∧
    (State.dwellCheck s).recorder.badBlocks = s.recorder.badBlocks ∧
    (State.dwellCheck s).recorder.buckets = s.recorder.buckets ∧
    (State.dwellCheck s).recorder.rates = s.recorder.rates ∧
    (State.dwellCheck s).recorder.frozenUntil = s.recorder.frozenUntil ∧
    (State.dwellCheck s).recorder.staging = s.recorder.staging ∧
    (State.dwellCheck s).recorder.lost = s.recorder.lost ∧
    (State.dwellCheck s).recorder.firstLost = s.recorder.firstLost := by
  simp [State.dwellCheck, State.dwellExpire_recorder_frame _, State.dwellWarn_recorder_frame _,
        State.dwellSync_recorder_frame _]

theorem State.carry_vote_frame (s : State) (w : Word) :
    (State.carry s w).vote.slots = s.vote.slots ∧ (State.carry s w).vote.lanes = s.vote.lanes ∧ (State.carry s
    w).vote.cores = s.vote.cores ∧ (State.carry s w).vote.transients = s.vote.transients ∧ (State.carry s
    w).vote.testing = s.vote.testing ∧ (State.carry s w).vote.laneCheck = s.vote.laneCheck ∧ (State.carry s
    w).vote.joining = s.vote.joining ∧ (State.carry s w).vote.joinReady = s.vote.joinReady ∧ (State.carry s
    w).vote.laneTurn = s.vote.laneTurn ∧ (State.carry s w).vote.ramSlices = s.vote.ramSlices ∧ (State.carry s
    w).vote.dwellUs = s.vote.dwellUs ∧ (State.carry s w).vote.dwellMarkUs = s.vote.dwellMarkUs ∧ (State.carry s
    w).vote.dwellSavedS = s.vote.dwellSavedS ∧ (State.carry s w).vote.dwellEntered = s.vote.dwellEntered ∧
    (State.carry s w).vote.warned60 = s.vote.warned60 ∧ (State.carry s w).vote.warned10 = s.vote.warned10 ∧
    (State.carry s w).vote.dwellExpired = s.vote.dwellExpired ∧ (State.carry s w).vote.accusations =
    s.vote.accusations ∧ (State.carry s w).vote.lastAccuse = s.vote.lastAccuse ∧ (State.carry s w).vote.sigGood =
    s.vote.sigGood ∧ (State.carry s w).vote.sigExpected = s.vote.sigExpected ∧ (State.carry s w).vote.lockstepBroken =
    s.vote.lockstepBroken ∧ (State.carry s w).vote.cause = s.vote.cause ∧ (State.carry s w).vote.verdictWord =
    s.vote.verdictWord ∧ (State.carry s w).vote.stores = s.vote.stores ∧ (State.carry s w).vote.sram = s.vote.sram
    := by
  simp [State.carry]

theorem State.busPoint_vote_frame (s : State) (bus : List BusAccess) :
    (State.busPoint s bus).vote.slots = s.vote.slots ∧ (State.busPoint s bus).vote.lanes = s.vote.lanes ∧
    (State.busPoint s bus).vote.cores = s.vote.cores ∧ (State.busPoint s bus).vote.transients = s.vote.transients ∧
    (State.busPoint s bus).vote.testing = s.vote.testing ∧ (State.busPoint s bus).vote.laneCheck = s.vote.laneCheck ∧
    (State.busPoint s bus).vote.joining = s.vote.joining ∧ (State.busPoint s bus).vote.joinReady = s.vote.joinReady ∧
    (State.busPoint s bus).vote.laneTurn = s.vote.laneTurn ∧ (State.busPoint s bus).vote.ramSlices = s.vote.ramSlices
    ∧ (State.busPoint s bus).vote.dwellUs = s.vote.dwellUs ∧ (State.busPoint s bus).vote.dwellMarkUs =
    s.vote.dwellMarkUs ∧ (State.busPoint s bus).vote.dwellSavedS = s.vote.dwellSavedS ∧ (State.busPoint s
    bus).vote.dwellEntered = s.vote.dwellEntered ∧ (State.busPoint s bus).vote.warned60 = s.vote.warned60 ∧
    (State.busPoint s bus).vote.warned10 = s.vote.warned10 ∧ (State.busPoint s bus).vote.dwellExpired =
    s.vote.dwellExpired ∧ (State.busPoint s bus).vote.accusations = s.vote.accusations ∧ (State.busPoint s
    bus).vote.lastAccuse = s.vote.lastAccuse ∧ (State.busPoint s bus).vote.sigGood = s.vote.sigGood ∧ (State.busPoint
    s bus).vote.sigExpected = s.vote.sigExpected ∧ (State.busPoint s bus).vote.lockstepBroken = s.vote.lockstepBroken
    ∧ (State.busPoint s bus).vote.cause = s.vote.cause ∧ (State.busPoint s bus).vote.verdictWord = s.vote.verdictWord
    ∧ (State.busPoint s bus).vote.stores = s.vote.stores := by
  unfold State.busPoint; split <;> simp [State.carry_vote_frame _ _]

theorem State.modStore_vote_frame (s : State) (c : ℕ) (f : CoreStore → CoreStore) :
    (State.modStore s c f).vote.slots = s.vote.slots ∧ (State.modStore s c f).vote.lanes = s.vote.lanes ∧
    (State.modStore s c f).vote.cores = s.vote.cores ∧ (State.modStore s c f).vote.transients = s.vote.transients ∧
    (State.modStore s c f).vote.testing = s.vote.testing ∧ (State.modStore s c f).vote.laneCheck = s.vote.laneCheck ∧
    (State.modStore s c f).vote.joining = s.vote.joining ∧ (State.modStore s c f).vote.joinReady = s.vote.joinReady ∧
    (State.modStore s c f).vote.laneTurn = s.vote.laneTurn ∧ (State.modStore s c f).vote.ramSlices = s.vote.ramSlices
    ∧ (State.modStore s c f).vote.dwellUs = s.vote.dwellUs ∧ (State.modStore s c f).vote.dwellMarkUs =
    s.vote.dwellMarkUs ∧ (State.modStore s c f).vote.dwellSavedS = s.vote.dwellSavedS ∧ (State.modStore s c
    f).vote.dwellEntered = s.vote.dwellEntered ∧ (State.modStore s c f).vote.warned60 = s.vote.warned60 ∧
    (State.modStore s c f).vote.warned10 = s.vote.warned10 ∧ (State.modStore s c f).vote.dwellExpired =
    s.vote.dwellExpired ∧ (State.modStore s c f).vote.accusations = s.vote.accusations ∧ (State.modStore s c
    f).vote.lastAccuse = s.vote.lastAccuse ∧ (State.modStore s c f).vote.sigGood = s.vote.sigGood ∧ (State.modStore s
    c f).vote.sigExpected = s.vote.sigExpected ∧ (State.modStore s c f).vote.lockstepBroken = s.vote.lockstepBroken ∧
    (State.modStore s c f).vote.cause = s.vote.cause ∧ (State.modStore s c f).vote.verdictWord = s.vote.verdictWord ∧
    (State.modStore s c f).vote.sram = s.vote.sram ∧ (State.modStore s c f).vote.carried = s.vote.carried := by
  simp [State.modStore]

theorem State.destroyStore_vote_frame (s : State) (c : ℕ) :
    (State.destroyStore s c).vote.slots = s.vote.slots ∧ (State.destroyStore s c).vote.lanes = s.vote.lanes ∧
    (State.destroyStore s c).vote.cores = s.vote.cores ∧ (State.destroyStore s c).vote.transients = s.vote.transients
    ∧ (State.destroyStore s c).vote.testing = s.vote.testing ∧ (State.destroyStore s c).vote.laneCheck =
    s.vote.laneCheck ∧ (State.destroyStore s c).vote.joining = s.vote.joining ∧ (State.destroyStore s
    c).vote.joinReady = s.vote.joinReady ∧ (State.destroyStore s c).vote.laneTurn = s.vote.laneTurn ∧
    (State.destroyStore s c).vote.ramSlices = s.vote.ramSlices ∧ (State.destroyStore s c).vote.dwellUs =
    s.vote.dwellUs ∧ (State.destroyStore s c).vote.dwellMarkUs = s.vote.dwellMarkUs ∧ (State.destroyStore s
    c).vote.dwellSavedS = s.vote.dwellSavedS ∧ (State.destroyStore s c).vote.dwellEntered = s.vote.dwellEntered ∧
    (State.destroyStore s c).vote.warned60 = s.vote.warned60 ∧ (State.destroyStore s c).vote.warned10 =
    s.vote.warned10 ∧ (State.destroyStore s c).vote.dwellExpired = s.vote.dwellExpired ∧ (State.destroyStore s
    c).vote.accusations = s.vote.accusations ∧ (State.destroyStore s c).vote.lastAccuse = s.vote.lastAccuse ∧
    (State.destroyStore s c).vote.sigGood = s.vote.sigGood ∧ (State.destroyStore s c).vote.sigExpected =
    s.vote.sigExpected ∧ (State.destroyStore s c).vote.lockstepBroken = s.vote.lockstepBroken ∧ (State.destroyStore s
    c).vote.cause = s.vote.cause ∧ (State.destroyStore s c).vote.verdictWord = s.vote.verdictWord ∧
    (State.destroyStore s c).vote.sram = s.vote.sram ∧ (State.destroyStore s c).vote.carried = s.vote.carried := by
  simp [State.destroyStore, State.modStore_vote_frame _ _ _]

theorem State.bootStores_vote_frame (s : State) :
    (State.bootStores s).vote.slots = s.vote.slots ∧ (State.bootStores s).vote.lanes = s.vote.lanes ∧
    (State.bootStores s).vote.cores = s.vote.cores ∧ (State.bootStores s).vote.transients = s.vote.transients ∧
    (State.bootStores s).vote.testing = s.vote.testing ∧ (State.bootStores s).vote.laneCheck = s.vote.laneCheck ∧
    (State.bootStores s).vote.joining = s.vote.joining ∧ (State.bootStores s).vote.joinReady = s.vote.joinReady ∧
    (State.bootStores s).vote.laneTurn = s.vote.laneTurn ∧ (State.bootStores s).vote.ramSlices = s.vote.ramSlices ∧
    (State.bootStores s).vote.dwellUs = s.vote.dwellUs ∧ (State.bootStores s).vote.dwellMarkUs = s.vote.dwellMarkUs ∧
    (State.bootStores s).vote.dwellSavedS = s.vote.dwellSavedS ∧ (State.bootStores s).vote.dwellEntered =
    s.vote.dwellEntered ∧ (State.bootStores s).vote.warned60 = s.vote.warned60 ∧ (State.bootStores s).vote.warned10 =
    s.vote.warned10 ∧ (State.bootStores s).vote.dwellExpired = s.vote.dwellExpired ∧ (State.bootStores
    s).vote.accusations = s.vote.accusations ∧ (State.bootStores s).vote.lastAccuse = s.vote.lastAccuse ∧
    (State.bootStores s).vote.sigGood = s.vote.sigGood ∧ (State.bootStores s).vote.sigExpected = s.vote.sigExpected ∧
    (State.bootStores s).vote.lockstepBroken = s.vote.lockstepBroken ∧ (State.bootStores s).vote.cause = s.vote.cause
    ∧ (State.bootStores s).vote.verdictWord = s.vote.verdictWord ∧ (State.bootStores s).vote.sram = s.vote.sram ∧
    (State.bootStores s).vote.carried = s.vote.carried := by
  simp [State.bootStores]

theorem State.copyCore_vote_frame (s : State) (core : ℕ) :
    (State.copyCore s core).vote.slots = s.vote.slots ∧ (State.copyCore s core).vote.lanes = s.vote.lanes ∧
    (State.copyCore s core).vote.cores = s.vote.cores ∧ (State.copyCore s core).vote.transients = s.vote.transients ∧
    (State.copyCore s core).vote.testing = s.vote.testing ∧ (State.copyCore s core).vote.laneCheck = s.vote.laneCheck
    ∧ (State.copyCore s core).vote.joining = s.vote.joining ∧ (State.copyCore s core).vote.joinReady =
    s.vote.joinReady ∧ (State.copyCore s core).vote.laneTurn = s.vote.laneTurn ∧ (State.copyCore s
    core).vote.ramSlices = s.vote.ramSlices ∧ (State.copyCore s core).vote.dwellUs = s.vote.dwellUs ∧ (State.copyCore
    s core).vote.dwellMarkUs = s.vote.dwellMarkUs ∧ (State.copyCore s core).vote.dwellSavedS = s.vote.dwellSavedS ∧
    (State.copyCore s core).vote.dwellEntered = s.vote.dwellEntered ∧ (State.copyCore s core).vote.warned60 =
    s.vote.warned60 ∧ (State.copyCore s core).vote.warned10 = s.vote.warned10 ∧ (State.copyCore s
    core).vote.dwellExpired = s.vote.dwellExpired ∧ (State.copyCore s core).vote.accusations = s.vote.accusations ∧
    (State.copyCore s core).vote.lastAccuse = s.vote.lastAccuse ∧ (State.copyCore s core).vote.sigGood =
    s.vote.sigGood ∧ (State.copyCore s core).vote.sigExpected = s.vote.sigExpected ∧ (State.copyCore s
    core).vote.lockstepBroken = s.vote.lockstepBroken ∧ (State.copyCore s core).vote.cause = s.vote.cause ∧
    (State.copyCore s core).vote.verdictWord = s.vote.verdictWord ∧ (State.copyCore s core).vote.sram = s.vote.sram ∧
    (State.copyCore s core).vote.carried = s.vote.carried := by
  simp [State.copyCore, State.modStore_vote_frame _ _ _]

theorem State.accuse_vote_frame (s : State) (slot : ℕ) (item : ℕ) (bus : List BusAccess) :
    (State.accuse s slot item bus).vote.lanes = s.vote.lanes ∧
    (State.accuse s slot item bus).vote.transients = s.vote.transients ∧
    (State.accuse s slot item bus).vote.laneCheck = s.vote.laneCheck ∧
    (State.accuse s slot item bus).vote.laneTurn = s.vote.laneTurn ∧
    (State.accuse s slot item bus).vote.dwellSavedS = s.vote.dwellSavedS ∧
    (State.accuse s slot item bus).vote.dwellExpired = s.vote.dwellExpired ∧
    (State.accuse s slot item bus).vote.sigExpected = s.vote.sigExpected ∧
    (State.accuse s slot item bus).vote.lockstepBroken = s.vote.lockstepBroken ∧
    (State.accuse s slot item bus).vote.cause = s.vote.cause ∧
    (State.accuse s slot item bus).vote.verdictWord = s.vote.verdictWord := by
  simp only [State.accuse]; (repeat' split) <;> simp [State.modSlot_frame _ _ _, State.busPoint_frame _ _, State.destroyStore_frame _ _, State.busPoint_vote_frame _ _, State.destroyStore_vote_frame _ _, State.modSlot_vote_frame _ _ _,
        State.setCore_frame _ _ _, State.voteNote_frame _ _ _ _, State.voteEvent_frame _ _ _ _ _,
        State.setCore_vote_frame _ _ _, State.dwellSync_vote_frame _, State.permanent_vote_frame _ _ _ _,
        State.markUnhealthy_vote_frame _]

theorem State.accuse_hi_frame (s : State) (slot : ℕ) (item : ℕ) (bus : List BusAccess) :
    (State.accuse s slot item bus).hi.state = s.hi.state ∧ (State.accuse s slot item bus).hi.m2 = s.hi.m2 ∧
    (State.accuse s slot item bus).hi.unstableCount = s.hi.unstableCount ∧
    (State.accuse s slot item bus).hi.eventMg = s.hi.eventMg ∧
    (State.accuse s slot item bus).hi.eventCl = s.hi.eventCl ∧ (State.accuse s slot item bus).hi.downMg = s.hi.downMg
    ∧ (State.accuse s slot item bus).hi.downCl = s.hi.downCl ∧ (State.accuse s slot item bus).hi.stale = s.hi.stale ∧
    (State.accuse s slot item bus).hi.unstable = s.hi.unstable ∧
    (State.accuse s slot item bus).hi.scratch = s.hi.scratch ∧ (State.accuse s slot item bus).hi.done = s.hi.done ∧
    (State.accuse s slot item bus).hi.busy = s.hi.busy ∧ (State.accuse s slot item bus).hi.tail = s.hi.tail ∧
    (State.accuse s slot item bus).hi.irqMask = s.hi.irqMask ∧
    (State.accuse s slot item bus).hi.vectors = s.hi.vectors ∧
    (State.accuse s slot item bus).hi.readData = s.hi.readData ∧
    (State.accuse s slot item bus).hi.unread = s.hi.unread ∧
    (State.accuse s slot item bus).hi.heldDone = s.hi.heldDone ∧
    (State.accuse s slot item bus).hi.subscribed = s.hi.subscribed ∧
    (State.accuse s slot item bus).hi.x8Subscribed = s.hi.x8Subscribed ∧
    (State.accuse s slot item bus).hi.x8Dest = s.hi.x8Dest ∧ (State.accuse s slot item bus).hi.x8Last = s.hi.x8Last ∧
    (State.accuse s slot item bus).hi.x8Short = s.hi.x8Short ∧ (State.accuse s slot item bus).hi.x8 = s.hi.x8 ∧
    (State.accuse s slot item bus).hi.x8Address = s.hi.x8Address ∧
    (State.accuse s slot item bus).hi.x8Plen = s.hi.x8Plen ∧
    (State.accuse s slot item bus).hi.x8Gateway = s.hi.x8Gateway ∧
    (State.accuse s slot item bus).hi.x8New = s.hi.x8New := by
  simp only [State.accuse]; (repeat' split) <;> simp [State.modSlot_frame _ _ _, State.busPoint_frame _ _, State.destroyStore_frame _ _, State.modSlot_vote_frame _ _ _,
        State.setCore_frame _ _ _, State.voteNote_frame _ _ _ _, State.voteEvent_frame _ _ _ _ _,
        State.dwellSync_hi_frame _, State.voteNote_hi_frame _ _ _ _,
        State.permanent_hi_frame _ _ _ _, State.markUnhealthy_frame _]

theorem State.accuse_recorder_frame (s : State) (slot : ℕ) (item : ℕ) (bus : List BusAccess) :
    (State.accuse s slot item bus).recorder.ring = s.recorder.ring ∧
    (State.accuse s slot item bus).recorder.next = s.recorder.next ∧
    (State.accuse s slot item bus).recorder.capacity = s.recorder.capacity ∧
    (State.accuse s slot item bus).recorder.badBlocks = s.recorder.badBlocks ∧
    (State.accuse s slot item bus).recorder.buckets = s.recorder.buckets ∧
    (State.accuse s slot item bus).recorder.rates = s.recorder.rates ∧
    (State.accuse s slot item bus).recorder.frozenUntil = s.recorder.frozenUntil ∧
    (State.accuse s slot item bus).recorder.staging = s.recorder.staging ∧
    (State.accuse s slot item bus).recorder.lost = s.recorder.lost ∧
    (State.accuse s slot item bus).recorder.firstLost = s.recorder.firstLost := by
  simp only [State.accuse]; (repeat' split) <;> simp [State.modSlot_frame _ _ _, State.busPoint_frame _ _, State.destroyStore_frame _ _, State.modSlot_vote_frame _ _ _,
        State.setCore_frame _ _ _, State.voteNote_frame _ _ _ _, State.voteEvent_frame _ _ _ _ _,
        State.dwellSync_recorder_frame _, State.voteEvent_recorder_frame _ _ _ _ _,
        State.permanent_recorder_frame _ _ _ _, State.markUnhealthy_frame _]

theorem State.accuse_test_frame (s : State) (slot : ℕ) (item : ℕ) (bus : List BusAccess) :
    (State.accuse s slot item bus).test.record = s.test.record ∧
    (State.accuse s slot item bus).test.step = s.test.step ∧
    (State.accuse s slot item bus).test.stepUs = s.test.stepUs ∧
    (State.accuse s slot item bus).test.beganUs = s.test.beganUs ∧
    (State.accuse s slot item bus).test.verdicts = s.test.verdicts ∧
    (State.accuse s slot item bus).test.matched = s.test.matched ∧
    (State.accuse s slot item bus).test.fused = s.test.fused ∧
    (State.accuse s slot item bus).test.expected = s.test.expected ∧
    (State.accuse s slot item bus).test.fromState = s.test.fromState ∧
    (State.accuse s slot item bus).test.hotEnded = s.test.hotEnded ∧
    (State.accuse s slot item bus).test.pendingFuses = s.test.pendingFuses := by
  simp only [State.accuse]; (repeat' split) <;> simp [State.modSlot_frame _ _ _, State.busPoint_frame _ _, State.destroyStore_frame _ _, State.modSlot_vote_frame _ _ _,
        State.setCore_frame _ _ _, State.voteNote_frame _ _ _ _, State.voteEvent_frame _ _ _ _ _,
        State.dwellSync_frame _, State.permanent_test_frame _ _ _ _,
        State.markUnhealthy_test_frame _]

theorem State.selfTested_vote_frame (s : State) (block : ℕ) :
    (State.selfTested s block).vote.lanes = s.vote.lanes ∧
    (State.selfTested s block).vote.transients = s.vote.transients ∧
    (State.selfTested s block).vote.laneTurn = s.vote.laneTurn ∧
    (State.selfTested s block).vote.dwellSavedS = s.vote.dwellSavedS ∧
    (State.selfTested s block).vote.dwellExpired = s.vote.dwellExpired ∧
    (State.selfTested s block).vote.accusations = s.vote.accusations ∧
    (State.selfTested s block).vote.lastAccuse = s.vote.lastAccuse ∧
    (State.selfTested s block).vote.sigGood = s.vote.sigGood ∧
    (State.selfTested s block).vote.sigExpected = s.vote.sigExpected ∧
    (State.selfTested s block).vote.lockstepBroken = s.vote.lockstepBroken ∧
    (State.selfTested s block).vote.cause = s.vote.cause ∧
    (State.selfTested s block).vote.verdictWord = s.vote.verdictWord := by
  unfold State.selfTested; (repeat' split) <;> simp [State.voteEvent_frame _ _ _ _ _, State.dwellSync_vote_frame _,
        State.permanent_vote_frame _ _ _ _]

theorem State.selfTested_hi_frame (s : State) (block : ℕ) :
    (State.selfTested s block).hi.state = s.hi.state ∧ (State.selfTested s block).hi.m2 = s.hi.m2 ∧
    (State.selfTested s block).hi.unstableCount = s.hi.unstableCount ∧
    (State.selfTested s block).hi.eventMg = s.hi.eventMg ∧ (State.selfTested s block).hi.eventCl = s.hi.eventCl ∧
    (State.selfTested s block).hi.downMg = s.hi.downMg ∧ (State.selfTested s block).hi.downCl = s.hi.downCl ∧
    (State.selfTested s block).hi.stale = s.hi.stale ∧ (State.selfTested s block).hi.unstable = s.hi.unstable ∧
    (State.selfTested s block).hi.scratch = s.hi.scratch ∧ (State.selfTested s block).hi.done = s.hi.done ∧
    (State.selfTested s block).hi.busy = s.hi.busy ∧ (State.selfTested s block).hi.tail = s.hi.tail ∧
    (State.selfTested s block).hi.irqMask = s.hi.irqMask ∧ (State.selfTested s block).hi.vectors = s.hi.vectors ∧
    (State.selfTested s block).hi.readData = s.hi.readData ∧ (State.selfTested s block).hi.unread = s.hi.unread ∧
    (State.selfTested s block).hi.heldDone = s.hi.heldDone ∧
    (State.selfTested s block).hi.subscribed = s.hi.subscribed ∧
    (State.selfTested s block).hi.x8Subscribed = s.hi.x8Subscribed ∧
    (State.selfTested s block).hi.x8Dest = s.hi.x8Dest ∧ (State.selfTested s block).hi.x8Last = s.hi.x8Last ∧
    (State.selfTested s block).hi.x8Short = s.hi.x8Short ∧ (State.selfTested s block).hi.x8 = s.hi.x8 ∧
    (State.selfTested s block).hi.x8Address = s.hi.x8Address ∧ (State.selfTested s block).hi.x8Plen = s.hi.x8Plen ∧
    (State.selfTested s block).hi.x8Gateway = s.hi.x8Gateway ∧ (State.selfTested s block).hi.x8New = s.hi.x8New := by
  unfold State.selfTested; (repeat' split) <;> simp [State.voteEvent_frame _ _ _ _ _, State.dwellSync_hi_frame _,
        State.permanent_hi_frame _ _ _ _]

theorem State.selfTested_recorder_frame (s : State) (block : ℕ) :
    (State.selfTested s block).recorder.ring = s.recorder.ring ∧
    (State.selfTested s block).recorder.next = s.recorder.next ∧
    (State.selfTested s block).recorder.capacity = s.recorder.capacity ∧
    (State.selfTested s block).recorder.badBlocks = s.recorder.badBlocks ∧
    (State.selfTested s block).recorder.buckets = s.recorder.buckets ∧
    (State.selfTested s block).recorder.rates = s.recorder.rates ∧
    (State.selfTested s block).recorder.frozenUntil = s.recorder.frozenUntil ∧
    (State.selfTested s block).recorder.staging = s.recorder.staging ∧
    (State.selfTested s block).recorder.lost = s.recorder.lost ∧
    (State.selfTested s block).recorder.firstLost = s.recorder.firstLost := by
  unfold State.selfTested; (repeat' split) <;> simp [State.voteEvent_frame _ _ _ _ _,
        State.dwellSync_recorder_frame _, State.permanent_recorder_frame _ _ _ _,
        State.voteEvent_recorder_frame _ _ _ _ _]

theorem State.selfTested_test_frame (s : State) (block : ℕ) :
    (State.selfTested s block).test.record = s.test.record ∧ (State.selfTested s block).test.step = s.test.step ∧
    (State.selfTested s block).test.stepUs = s.test.stepUs ∧
    (State.selfTested s block).test.beganUs = s.test.beganUs ∧
    (State.selfTested s block).test.verdicts = s.test.verdicts ∧
    (State.selfTested s block).test.matched = s.test.matched ∧ (State.selfTested s block).test.fused = s.test.fused
    ∧ (State.selfTested s block).test.expected = s.test.expected ∧
    (State.selfTested s block).test.fromState = s.test.fromState ∧
    (State.selfTested s block).test.hotEnded = s.test.hotEnded ∧
    (State.selfTested s block).test.pendingFuses = s.test.pendingFuses := by
  unfold State.selfTested; (repeat' split) <;> simp [State.voteEvent_frame _ _ _ _ _, State.dwellSync_frame _,
        State.permanent_test_frame _ _ _ _]

theorem State.countTransient_vote_frame (s : State) (core : Nat) :
    (State.countTransient s core).1.vote.slots = s.vote.slots ∧
    (State.countTransient s core).1.vote.lanes = s.vote.lanes ∧
    (State.countTransient s core).1.vote.cores = s.vote.cores ∧
    (State.countTransient s core).1.vote.testing = s.vote.testing ∧
    (State.countTransient s core).1.vote.laneCheck = s.vote.laneCheck ∧
    (State.countTransient s core).1.vote.joining = s.vote.joining ∧
    (State.countTransient s core).1.vote.joinReady = s.vote.joinReady ∧
    (State.countTransient s core).1.vote.laneTurn = s.vote.laneTurn ∧
    (State.countTransient s core).1.vote.dwellUs = s.vote.dwellUs ∧
    (State.countTransient s core).1.vote.dwellMarkUs = s.vote.dwellMarkUs ∧
    (State.countTransient s core).1.vote.dwellSavedS = s.vote.dwellSavedS ∧
    (State.countTransient s core).1.vote.dwellEntered = s.vote.dwellEntered ∧
    (State.countTransient s core).1.vote.warned60 = s.vote.warned60 ∧
    (State.countTransient s core).1.vote.warned10 = s.vote.warned10 ∧
    (State.countTransient s core).1.vote.dwellExpired = s.vote.dwellExpired ∧
    (State.countTransient s core).1.vote.accusations = s.vote.accusations ∧
    (State.countTransient s core).1.vote.lastAccuse = s.vote.lastAccuse ∧
    (State.countTransient s core).1.vote.sigGood = s.vote.sigGood ∧
    (State.countTransient s core).1.vote.sigExpected = s.vote.sigExpected ∧
    (State.countTransient s core).1.vote.lockstepBroken = s.vote.lockstepBroken ∧
    (State.countTransient s core).1.vote.cause = s.vote.cause ∧
    (State.countTransient s core).1.vote.verdictWord = s.vote.verdictWord := by
  simp [State.countTransient]

theorem State.transientFault_vote_frame (s : State) (slot : ℕ) :
    (State.transientFault s slot).vote.lanes = s.vote.lanes ∧
    (State.transientFault s slot).vote.testing = s.vote.testing ∧
    (State.transientFault s slot).vote.laneTurn = s.vote.laneTurn ∧
    (State.transientFault s slot).vote.dwellSavedS = s.vote.dwellSavedS ∧
    (State.transientFault s slot).vote.dwellExpired = s.vote.dwellExpired ∧
    (State.transientFault s slot).vote.accusations = s.vote.accusations ∧
    (State.transientFault s slot).vote.lastAccuse = s.vote.lastAccuse ∧
    (State.transientFault s slot).vote.sigGood = s.vote.sigGood ∧
    (State.transientFault s slot).vote.sigExpected = s.vote.sigExpected ∧
    (State.transientFault s slot).vote.lockstepBroken = s.vote.lockstepBroken ∧
    (State.transientFault s slot).vote.cause = s.vote.cause ∧
    (State.transientFault s slot).vote.verdictWord = s.vote.verdictWord := by
  simp only [State.transientFault]; (repeat' split) <;> simp [State.setCore_vote_frame _ _ _,
        State.countTransient_vote_frame _ _, State.dwellSync_vote_frame _, State.permanent_vote_frame _ _ _ _,
        State.voteEvent_frame _ _ _ _ _]

theorem State.transientFault_hi_frame (s : State) (slot : ℕ) :
    (State.transientFault s slot).hi.state = s.hi.state ∧ (State.transientFault s slot).hi.m2 = s.hi.m2 ∧
    (State.transientFault s slot).hi.unstableCount = s.hi.unstableCount ∧
    (State.transientFault s slot).hi.eventMg = s.hi.eventMg ∧
    (State.transientFault s slot).hi.eventCl = s.hi.eventCl ∧ (State.transientFault s slot).hi.downMg = s.hi.downMg
    ∧ (State.transientFault s slot).hi.downCl = s.hi.downCl ∧ (State.transientFault s slot).hi.stale = s.hi.stale ∧
    (State.transientFault s slot).hi.unstable = s.hi.unstable ∧
    (State.transientFault s slot).hi.scratch = s.hi.scratch ∧ (State.transientFault s slot).hi.done = s.hi.done ∧
    (State.transientFault s slot).hi.busy = s.hi.busy ∧ (State.transientFault s slot).hi.tail = s.hi.tail ∧
    (State.transientFault s slot).hi.irqMask = s.hi.irqMask ∧
    (State.transientFault s slot).hi.vectors = s.hi.vectors ∧
    (State.transientFault s slot).hi.readData = s.hi.readData ∧
    (State.transientFault s slot).hi.unread = s.hi.unread ∧
    (State.transientFault s slot).hi.heldDone = s.hi.heldDone ∧
    (State.transientFault s slot).hi.subscribed = s.hi.subscribed ∧
    (State.transientFault s slot).hi.x8Subscribed = s.hi.x8Subscribed ∧
    (State.transientFault s slot).hi.x8Dest = s.hi.x8Dest ∧ (State.transientFault s slot).hi.x8Last = s.hi.x8Last ∧
    (State.transientFault s slot).hi.x8Short = s.hi.x8Short ∧ (State.transientFault s slot).hi.x8 = s.hi.x8 ∧
    (State.transientFault s slot).hi.x8Address = s.hi.x8Address ∧
    (State.transientFault s slot).hi.x8Plen = s.hi.x8Plen ∧
    (State.transientFault s slot).hi.x8Gateway = s.hi.x8Gateway ∧
    (State.transientFault s slot).hi.x8New = s.hi.x8New := by
  simp only [State.transientFault]; (repeat' split) <;> simp [State.setCore_frame _ _ _,
        State.countTransient_frame _ _, State.dwellSync_hi_frame _, State.permanent_hi_frame _ _ _ _,
        State.voteEvent_frame _ _ _ _ _]

theorem State.transientFault_recorder_frame (s : State) (slot : ℕ) :
    (State.transientFault s slot).recorder.ring = s.recorder.ring ∧
    (State.transientFault s slot).recorder.next = s.recorder.next ∧
    (State.transientFault s slot).recorder.capacity = s.recorder.capacity ∧
    (State.transientFault s slot).recorder.badBlocks = s.recorder.badBlocks ∧
    (State.transientFault s slot).recorder.buckets = s.recorder.buckets ∧
    (State.transientFault s slot).recorder.rates = s.recorder.rates ∧
    (State.transientFault s slot).recorder.frozenUntil = s.recorder.frozenUntil ∧
    (State.transientFault s slot).recorder.staging = s.recorder.staging ∧
    (State.transientFault s slot).recorder.lost = s.recorder.lost ∧
    (State.transientFault s slot).recorder.firstLost = s.recorder.firstLost := by
  simp only [State.transientFault]; (repeat' split) <;> simp [State.setCore_frame _ _ _,
        State.countTransient_frame _ _, State.dwellSync_recorder_frame _, State.permanent_recorder_frame _ _ _ _,
        State.voteEvent_recorder_frame _ _ _ _ _]

theorem State.transientFault_test_frame (s : State) (slot : ℕ) :
    (State.transientFault s slot).test.record = s.test.record ∧
    (State.transientFault s slot).test.step = s.test.step ∧
    (State.transientFault s slot).test.stepUs = s.test.stepUs ∧
    (State.transientFault s slot).test.beganUs = s.test.beganUs ∧
    (State.transientFault s slot).test.verdicts = s.test.verdicts ∧
    (State.transientFault s slot).test.matched = s.test.matched ∧
    (State.transientFault s slot).test.fused = s.test.fused ∧
    (State.transientFault s slot).test.expected = s.test.expected ∧
    (State.transientFault s slot).test.fromState = s.test.fromState ∧
    (State.transientFault s slot).test.hotEnded = s.test.hotEnded ∧
    (State.transientFault s slot).test.pendingFuses = s.test.pendingFuses := by
  simp only [State.transientFault]; (repeat' split) <;> simp [State.setCore_frame _ _ _,
        State.countTransient_frame _ _, State.dwellSync_frame _, State.permanent_test_frame _ _ _ _,
        State.voteEvent_frame _ _ _ _ _]

theorem State.laneFault_bench_frame (s : State) (lane : ℕ) :
    (State.laneFault s lane).bench.cycle = s.bench.cycle ∧
    (State.laneFault s lane).bench.nextCycle = s.bench.nextCycle ∧
    (State.laneFault s lane).bench.lastO = s.bench.lastO ∧ (State.laneFault s lane).bench.freezeUs = s.bench.freezeUs
    ∧ (State.laneFault s lane).bench.nextFreezeUs = s.bench.nextFreezeUs ∧
    (State.laneFault s lane).bench.first = s.bench.first ∧ (State.laneFault s lane).bench.overran = s.bench.overran ∧
    (State.laneFault s lane).bench.noCode = s.bench.noCode ∧
    (State.laneFault s lane).bench.challenge = s.bench.challenge := by
  simp only [State.laneFault]; (repeat' split) <;> simp [State.voteEvent_frame _ _ _ _ _,
        State.enterSafe_bench_frame _ _ _, State.putRepair_frame _ _, State.enterLockout_bench_frame _ _ _ _]

theorem State.laneFault_vote_frame (s : State) (lane : ℕ) :
    (State.laneFault s lane).vote.slots = s.vote.slots ∧ (State.laneFault s lane).vote.lanes = s.vote.lanes ∧
    (State.laneFault s lane).vote.cores = s.vote.cores ∧
    (State.laneFault s lane).vote.transients = s.vote.transients ∧
    (State.laneFault s lane).vote.testing = s.vote.testing ∧ (State.laneFault s lane).vote.joining = s.vote.joining
    ∧ (State.laneFault s lane).vote.joinReady = s.vote.joinReady ∧
    (State.laneFault s lane).vote.laneTurn = s.vote.laneTurn ∧
    (State.laneFault s lane).vote.dwellSavedS = s.vote.dwellSavedS ∧
    (State.laneFault s lane).vote.dwellEntered = s.vote.dwellEntered ∧
    (State.laneFault s lane).vote.warned60 = s.vote.warned60 ∧
    (State.laneFault s lane).vote.warned10 = s.vote.warned10 ∧
    (State.laneFault s lane).vote.dwellExpired = s.vote.dwellExpired ∧
    (State.laneFault s lane).vote.accusations = s.vote.accusations ∧
    (State.laneFault s lane).vote.lastAccuse = s.vote.lastAccuse ∧
    (State.laneFault s lane).vote.sigGood = s.vote.sigGood ∧
    (State.laneFault s lane).vote.sigExpected = s.vote.sigExpected ∧
    (State.laneFault s lane).vote.lockstepBroken = s.vote.lockstepBroken ∧
    (State.laneFault s lane).vote.cause = s.vote.cause ∧
    (State.laneFault s lane).vote.verdictWord = s.vote.verdictWord := by
  simp only [State.laneFault]; (repeat' split) <;> simp [State.voteEvent_frame _ _ _ _ _,
        State.enterSafe_vote_frame _ _ _, State.putRepair_frame _ _, State.enterLockout_vote_frame _ _ _ _]

theorem State.laneFault_field_frame (s : State) (lane : ℕ) :
    (State.laneFault s lane).field.inputs = s.field.inputs ∧
    (State.laneFault s lane).field.sources = s.field.sources ∧
    (State.laneFault s lane).field.outputs = s.field.outputs ∧
    (State.laneFault s lane).field.groups = s.field.groups ∧ (State.laneFault s lane).field.gridUs = s.field.gridUs
    ∧ (State.laneFault s lane).field.fsSeq = s.field.fsSeq ∧ (State.laneFault s lane).field.flSeq = s.field.flSeq ∧
    (State.laneFault s lane).field.fsSent = s.field.fsSent ∧ (State.laneFault s lane).field.flSent = s.field.flSent
    ∧ (State.laneFault s lane).field.fsMissed = s.field.fsMissed ∧
    (State.laneFault s lane).field.flMissed = s.field.flMissed ∧
    (State.laneFault s lane).field.missed = s.field.missed ∧
    (State.laneFault s lane).field.linkLost = s.field.linkLost ∧
    (State.laneFault s lane).field.config = s.field.config ∧
    (State.laneFault s lane).field.configCrc = s.field.configCrc ∧
    (State.laneFault s lane).field.collect = s.field.collect ∧
    (State.laneFault s lane).field.lastSetCrc = s.field.lastSetCrc ∧
    (State.laneFault s lane).field.segment = s.field.segment ∧
    (State.laneFault s lane).field.values = s.field.values ∧ (State.laneFault s lane).field.valid = s.field.valid ∧
    (State.laneFault s lane).field.stale = s.field.stale ∧
    (State.laneFault s lane).field.arrivalUs = s.field.arrivalUs ∧
    (State.laneFault s lane).field.crcSeen = s.field.crcSeen ∧
    (State.laneFault s lane).field.crcGood = s.field.crcGood ∧
    (State.laneFault s lane).field.imageOutputs = s.field.imageOutputs ∧
    (State.laneFault s lane).field.imageGroups = s.field.imageGroups := by
  simp only [State.laneFault]; (repeat' split) <;> simp [State.voteEvent_frame _ _ _ _ _,
        State.enterSafe_field_frame _ _ _, State.putRepair_frame _ _, State.enterLockout_field_frame _ _ _ _]

theorem State.laneFault_hi_frame (s : State) (lane : ℕ) :
    (State.laneFault s lane).hi.state = s.hi.state ∧ (State.laneFault s lane).hi.m2 = s.hi.m2 ∧
    (State.laneFault s lane).hi.unstableCount = s.hi.unstableCount ∧
    (State.laneFault s lane).hi.eventMg = s.hi.eventMg ∧ (State.laneFault s lane).hi.eventCl = s.hi.eventCl ∧
    (State.laneFault s lane).hi.downMg = s.hi.downMg ∧ (State.laneFault s lane).hi.downCl = s.hi.downCl ∧
    (State.laneFault s lane).hi.stale = s.hi.stale ∧ (State.laneFault s lane).hi.unstable = s.hi.unstable ∧
    (State.laneFault s lane).hi.scratch = s.hi.scratch ∧ (State.laneFault s lane).hi.busy = s.hi.busy ∧
    (State.laneFault s lane).hi.tail = s.hi.tail ∧ (State.laneFault s lane).hi.irqMask = s.hi.irqMask ∧
    (State.laneFault s lane).hi.vectors = s.hi.vectors ∧ (State.laneFault s lane).hi.readData = s.hi.readData ∧
    (State.laneFault s lane).hi.unread = s.hi.unread ∧ (State.laneFault s lane).hi.subscribed = s.hi.subscribed ∧
    (State.laneFault s lane).hi.x8Subscribed = s.hi.x8Subscribed ∧ (State.laneFault s lane).hi.x8Dest = s.hi.x8Dest
    ∧ (State.laneFault s lane).hi.x8Last = s.hi.x8Last ∧ (State.laneFault s lane).hi.x8Short = s.hi.x8Short ∧
    (State.laneFault s lane).hi.x8Address = s.hi.x8Address ∧ (State.laneFault s lane).hi.x8Plen = s.hi.x8Plen ∧
    (State.laneFault s lane).hi.x8Gateway = s.hi.x8Gateway ∧ (State.laneFault s lane).hi.x8New = s.hi.x8New := by
  simp only [State.laneFault]; (repeat' split) <;> simp [State.voteEvent_frame _ _ _ _ _,
        State.enterSafe_hi_frame _ _ _, State.putRepair_frame _ _, State.enterLockout_hi_frame _ _ _ _]

theorem State.laneFault_mg_frame (s : State) (lane : ℕ) :
    (State.laneFault s lane).mg.alive = s.mg.alive ∧ (State.laneFault s lane).mg.arrival = s.mg.arrival ∧
    (State.laneFault s lane).mg.usedIds = s.mg.usedIds := by
  simp only [State.laneFault]; (repeat' split) <;> simp [State.voteEvent_frame _ _ _ _ _,
        State.enterSafe_mg_frame _ _ _, State.putRepair_frame _ _, State.enterLockout_mg_frame _ _ _ _]

theorem State.laneFault_recorder_frame (s : State) (lane : ℕ) :
    (State.laneFault s lane).recorder.ring = s.recorder.ring ∧
    (State.laneFault s lane).recorder.next = s.recorder.next ∧
    (State.laneFault s lane).recorder.capacity = s.recorder.capacity ∧
    (State.laneFault s lane).recorder.badBlocks = s.recorder.badBlocks ∧
    (State.laneFault s lane).recorder.buckets = s.recorder.buckets ∧
    (State.laneFault s lane).recorder.rates = s.recorder.rates ∧
    (State.laneFault s lane).recorder.frozenUntil = s.recorder.frozenUntil ∧
    (State.laneFault s lane).recorder.staging = s.recorder.staging ∧
    (State.laneFault s lane).recorder.lost = s.recorder.lost ∧
    (State.laneFault s lane).recorder.firstLost = s.recorder.firstLost := by
  simp only [State.laneFault]; (repeat' split) <;> simp [State.voteEvent_frame _ _ _ _ _,
        State.enterSafe_recorder_frame _ _ _, State.putRepair_frame _ _, State.voteEvent_recorder_frame _ _ _ _ _,
        State.enterLockout_recorder_frame _ _ _ _]

theorem State.laneFault_power_frame (s : State) (lane : ℕ) :
    (State.laneFault s lane).power.cause = s.power.cause ∧ (State.laneFault s lane).power.fullForm = s.power.fullForm
    ∧ (State.laneFault s lane).power.startUs = s.power.startUs ∧
    (State.laneFault s lane).power.supply = s.power.supply ∧ (State.laneFault s lane).power.logicMv = s.power.logicMv
    ∧ (State.laneFault s lane).power.boardTemp = s.power.boardTemp ∧
    (State.laneFault s lane).power.hotTold = s.power.hotTold ∧
    (State.laneFault s lane).power.cellFitted = s.power.cellFitted ∧
    (State.laneFault s lane).power.cellMv = s.power.cellMv ∧
    (State.laneFault s lane).power.cellLowTold = s.power.cellLowTold ∧
    (State.laneFault s lane).power.cellGoneTold = s.power.cellGoneTold ∧
    (State.laneFault s lane).power.slot = s.power.slot ∧ (State.laneFault s lane).power.causes = s.power.causes ∧
    (State.laneFault s lane).power.testPassedUs = s.power.testPassedUs ∧
    (State.laneFault s lane).power.dead = s.power.dead ∧ (State.laneFault s lane).power.faultLed = s.power.faultLed
    := by
  simp only [State.laneFault]; (repeat' split) <;> simp [State.voteEvent_frame _ _ _ _ _,
        State.enterSafe_power_frame _ _ _, State.putRepair_frame _ _, State.enterLockout_power_frame _ _ _ _]

theorem State.laneFault_test_frame (s : State) (lane : ℕ) :
    (State.laneFault s lane).test.record = s.test.record ∧ (State.laneFault s lane).test.step = s.test.step ∧
    (State.laneFault s lane).test.stepUs = s.test.stepUs ∧ (State.laneFault s lane).test.beganUs = s.test.beganUs ∧
    (State.laneFault s lane).test.verdicts = s.test.verdicts ∧
    (State.laneFault s lane).test.matched = s.test.matched ∧ (State.laneFault s lane).test.fused = s.test.fused ∧
    (State.laneFault s lane).test.expected = s.test.expected ∧
    (State.laneFault s lane).test.ageBaseUs = s.test.ageBaseUs ∧
    (State.laneFault s lane).test.fromState = s.test.fromState ∧
    (State.laneFault s lane).test.hotEnded = s.test.hotEnded ∧
    (State.laneFault s lane).test.pendingFuses = s.test.pendingFuses := by
  simp only [State.laneFault]; (repeat' split) <;> simp [State.voteEvent_frame _ _ _ _ _, State.enterSafe_frame _ _ _,
        State.putRepair_test_frame _ _, State.enterLockout_frame _ _ _ _]

theorem State.disagreement_bench_frame (s : State) (code : ℕ) (verdict : ℕ) :
    (State.disagreement s code verdict).bench.cycle = s.bench.cycle ∧
    (State.disagreement s code verdict).bench.nextCycle = s.bench.nextCycle ∧
    (State.disagreement s code verdict).bench.lastO = s.bench.lastO ∧
    (State.disagreement s code verdict).bench.freezeUs = s.bench.freezeUs ∧
    (State.disagreement s code verdict).bench.nextFreezeUs = s.bench.nextFreezeUs ∧
    (State.disagreement s code verdict).bench.first = s.bench.first ∧
    (State.disagreement s code verdict).bench.overran = s.bench.overran ∧
    (State.disagreement s code verdict).bench.noCode = s.bench.noCode ∧
    (State.disagreement s code verdict).bench.challenge = s.bench.challenge := by
  simp [State.disagreement, State.setCore_frame _ _ _, State.destroyStore_frame _ _,
        State.enterSafe_bench_frame _ _ _]

theorem State.disagreement_vote_frame (s : State) (code : ℕ) (verdict : ℕ) :
    (State.disagreement s code verdict).vote.slots = s.vote.slots ∧
    (State.disagreement s code verdict).vote.lanes = s.vote.lanes ∧
    (State.disagreement s code verdict).vote.transients = s.vote.transients ∧
    (State.disagreement s code verdict).vote.laneTurn = s.vote.laneTurn ∧
    (State.disagreement s code verdict).vote.dwellSavedS = s.vote.dwellSavedS ∧
    (State.disagreement s code verdict).vote.dwellEntered = s.vote.dwellEntered ∧
    (State.disagreement s code verdict).vote.warned60 = s.vote.warned60 ∧
    (State.disagreement s code verdict).vote.warned10 = s.vote.warned10 ∧
    (State.disagreement s code verdict).vote.dwellExpired = s.vote.dwellExpired ∧
    (State.disagreement s code verdict).vote.accusations = s.vote.accusations ∧
    (State.disagreement s code verdict).vote.lastAccuse = s.vote.lastAccuse ∧
    (State.disagreement s code verdict).vote.sigGood = s.vote.sigGood ∧
    (State.disagreement s code verdict).vote.sigExpected = s.vote.sigExpected ∧
    (State.disagreement s code verdict).vote.lockstepBroken = s.vote.lockstepBroken := by
  simp [State.disagreement, State.setCore_frame _ _ _, State.destroyStore_frame _ _, State.destroyStore_vote_frame _ _, State.setCore_vote_frame _ _ _, State.enterSafe_vote_frame _ _ _]

theorem State.disagreement_field_frame (s : State) (code : ℕ) (verdict : ℕ) :
    (State.disagreement s code verdict).field.inputs = s.field.inputs ∧
    (State.disagreement s code verdict).field.sources = s.field.sources ∧
    (State.disagreement s code verdict).field.outputs = s.field.outputs ∧
    (State.disagreement s code verdict).field.groups = s.field.groups ∧
    (State.disagreement s code verdict).field.gridUs = s.field.gridUs ∧
    (State.disagreement s code verdict).field.fsSeq = s.field.fsSeq ∧
    (State.disagreement s code verdict).field.flSeq = s.field.flSeq ∧
    (State.disagreement s code verdict).field.fsSent = s.field.fsSent ∧
    (State.disagreement s code verdict).field.flSent = s.field.flSent ∧
    (State.disagreement s code verdict).field.fsMissed = s.field.fsMissed ∧
    (State.disagreement s code verdict).field.flMissed = s.field.flMissed ∧
    (State.disagreement s code verdict).field.missed = s.field.missed ∧
    (State.disagreement s code verdict).field.linkLost = s.field.linkLost ∧
    (State.disagreement s code verdict).field.config = s.field.config ∧
    (State.disagreement s code verdict).field.configCrc = s.field.configCrc ∧
    (State.disagreement s code verdict).field.collect = s.field.collect ∧
    (State.disagreement s code verdict).field.lastSetCrc = s.field.lastSetCrc ∧
    (State.disagreement s code verdict).field.segment = s.field.segment ∧
    (State.disagreement s code verdict).field.values = s.field.values ∧
    (State.disagreement s code verdict).field.valid = s.field.valid ∧
    (State.disagreement s code verdict).field.stale = s.field.stale ∧
    (State.disagreement s code verdict).field.arrivalUs = s.field.arrivalUs ∧
    (State.disagreement s code verdict).field.crcSeen = s.field.crcSeen ∧
    (State.disagreement s code verdict).field.crcGood = s.field.crcGood ∧
    (State.disagreement s code verdict).field.imageOutputs = s.field.imageOutputs ∧
    (State.disagreement s code verdict).field.imageGroups = s.field.imageGroups := by
  simp [State.disagreement, State.setCore_frame _ _ _, State.destroyStore_frame _ _,
        State.enterSafe_field_frame _ _ _]

theorem State.disagreement_hi_frame (s : State) (code : ℕ) (verdict : ℕ) :
    (State.disagreement s code verdict).hi.state = s.hi.state ∧ (State.disagreement s code verdict).hi.m2 = s.hi.m2 ∧
    (State.disagreement s code verdict).hi.unstableCount = s.hi.unstableCount ∧
    (State.disagreement s code verdict).hi.eventMg = s.hi.eventMg ∧
    (State.disagreement s code verdict).hi.eventCl = s.hi.eventCl ∧
    (State.disagreement s code verdict).hi.downMg = s.hi.downMg ∧
    (State.disagreement s code verdict).hi.downCl = s.hi.downCl ∧
    (State.disagreement s code verdict).hi.stale = s.hi.stale ∧
    (State.disagreement s code verdict).hi.unstable = s.hi.unstable ∧
    (State.disagreement s code verdict).hi.scratch = s.hi.scratch ∧
    (State.disagreement s code verdict).hi.busy = s.hi.busy ∧ (State.disagreement s code verdict).hi.tail = s.hi.tail
    ∧ (State.disagreement s code verdict).hi.irqMask = s.hi.irqMask ∧
    (State.disagreement s code verdict).hi.vectors = s.hi.vectors ∧
    (State.disagreement s code verdict).hi.readData = s.hi.readData ∧
    (State.disagreement s code verdict).hi.unread = s.hi.unread ∧
    (State.disagreement s code verdict).hi.subscribed = s.hi.subscribed ∧
    (State.disagreement s code verdict).hi.x8Subscribed = s.hi.x8Subscribed ∧
    (State.disagreement s code verdict).hi.x8Dest = s.hi.x8Dest ∧
    (State.disagreement s code verdict).hi.x8Last = s.hi.x8Last ∧
    (State.disagreement s code verdict).hi.x8Short = s.hi.x8Short ∧
    (State.disagreement s code verdict).hi.x8Address = s.hi.x8Address ∧
    (State.disagreement s code verdict).hi.x8Plen = s.hi.x8Plen ∧
    (State.disagreement s code verdict).hi.x8Gateway = s.hi.x8Gateway ∧
    (State.disagreement s code verdict).hi.x8New = s.hi.x8New := by
  simp [State.disagreement, State.setCore_frame _ _ _, State.destroyStore_frame _ _, State.enterSafe_hi_frame _ _ _]

theorem State.disagreement_mg_frame (s : State) (code : ℕ) (verdict : ℕ) :
    (State.disagreement s code verdict).mg.alive = s.mg.alive ∧
    (State.disagreement s code verdict).mg.arrival = s.mg.arrival ∧
    (State.disagreement s code verdict).mg.usedIds = s.mg.usedIds := by
  simp [State.disagreement, State.setCore_frame _ _ _, State.destroyStore_frame _ _, State.enterSafe_mg_frame _ _ _]

theorem State.disagreement_recorder_frame (s : State) (code : ℕ) (verdict : ℕ) :
    (State.disagreement s code verdict).recorder.ring = s.recorder.ring ∧
    (State.disagreement s code verdict).recorder.next = s.recorder.next ∧
    (State.disagreement s code verdict).recorder.capacity = s.recorder.capacity ∧
    (State.disagreement s code verdict).recorder.badBlocks = s.recorder.badBlocks ∧
    (State.disagreement s code verdict).recorder.buckets = s.recorder.buckets ∧
    (State.disagreement s code verdict).recorder.rates = s.recorder.rates ∧
    (State.disagreement s code verdict).recorder.frozenUntil = s.recorder.frozenUntil ∧
    (State.disagreement s code verdict).recorder.staging = s.recorder.staging ∧
    (State.disagreement s code verdict).recorder.lost = s.recorder.lost ∧
    (State.disagreement s code verdict).recorder.firstLost = s.recorder.firstLost := by
  simp [State.disagreement, State.setCore_frame _ _ _, State.destroyStore_frame _ _,
        State.enterSafe_recorder_frame _ _ _]

theorem State.disagreement_power_frame (s : State) (code : ℕ) (verdict : ℕ) :
    (State.disagreement s code verdict).power.cause = s.power.cause ∧
    (State.disagreement s code verdict).power.fullForm = s.power.fullForm ∧
    (State.disagreement s code verdict).power.startUs = s.power.startUs ∧
    (State.disagreement s code verdict).power.supply = s.power.supply ∧
    (State.disagreement s code verdict).power.logicMv = s.power.logicMv ∧
    (State.disagreement s code verdict).power.boardTemp = s.power.boardTemp ∧
    (State.disagreement s code verdict).power.hotTold = s.power.hotTold ∧
    (State.disagreement s code verdict).power.cellFitted = s.power.cellFitted ∧
    (State.disagreement s code verdict).power.cellMv = s.power.cellMv ∧
    (State.disagreement s code verdict).power.cellLowTold = s.power.cellLowTold ∧
    (State.disagreement s code verdict).power.cellGoneTold = s.power.cellGoneTold ∧
    (State.disagreement s code verdict).power.slot = s.power.slot ∧
    (State.disagreement s code verdict).power.causes = s.power.causes ∧
    (State.disagreement s code verdict).power.testPassedUs = s.power.testPassedUs ∧
    (State.disagreement s code verdict).power.dead = s.power.dead ∧
    (State.disagreement s code verdict).power.faultLed = s.power.faultLed := by
  simp [State.disagreement, State.setCore_frame _ _ _, State.destroyStore_frame _ _,
        State.enterSafe_power_frame _ _ _]

theorem State.rebuildSlots_vote_frame (s : State) :
    (State.rebuildSlots s).vote.lanes = s.vote.lanes ∧ (State.rebuildSlots s).vote.transients = s.vote.transients ∧
    (State.rebuildSlots s).vote.testing = s.vote.testing ∧ (State.rebuildSlots s).vote.laneCheck = s.vote.laneCheck
    ∧ (State.rebuildSlots s).vote.joining = s.vote.joining ∧
    (State.rebuildSlots s).vote.joinReady = s.vote.joinReady ∧
    (State.rebuildSlots s).vote.laneTurn = s.vote.laneTurn ∧ (State.rebuildSlots s).vote.dwellUs = s.vote.dwellUs ∧
    (State.rebuildSlots s).vote.dwellMarkUs = s.vote.dwellMarkUs ∧
    (State.rebuildSlots s).vote.dwellSavedS = s.vote.dwellSavedS ∧
    (State.rebuildSlots s).vote.dwellEntered = s.vote.dwellEntered ∧
    (State.rebuildSlots s).vote.warned60 = s.vote.warned60 ∧ (State.rebuildSlots s).vote.warned10 = s.vote.warned10
    ∧ (State.rebuildSlots s).vote.dwellExpired = s.vote.dwellExpired ∧
    (State.rebuildSlots s).vote.accusations = s.vote.accusations ∧
    (State.rebuildSlots s).vote.lastAccuse = s.vote.lastAccuse ∧
    (State.rebuildSlots s).vote.sigGood = s.vote.sigGood ∧
    (State.rebuildSlots s).vote.sigExpected = s.vote.sigExpected ∧
    (State.rebuildSlots s).vote.lockstepBroken = s.vote.lockstepBroken ∧
    (State.rebuildSlots s).vote.cause = s.vote.cause ∧ (State.rebuildSlots s).vote.verdictWord = s.vote.verdictWord := by
  simp [State.rebuildSlots, State.putRepair_frame _ _]

theorem State.rebuildSlots_test_frame (s : State) :
    (State.rebuildSlots s).test.record = s.test.record ∧ (State.rebuildSlots s).test.step = s.test.step ∧
    (State.rebuildSlots s).test.stepUs = s.test.stepUs ∧ (State.rebuildSlots s).test.beganUs = s.test.beganUs ∧
    (State.rebuildSlots s).test.verdicts = s.test.verdicts ∧ (State.rebuildSlots s).test.matched = s.test.matched ∧
    (State.rebuildSlots s).test.fused = s.test.fused ∧ (State.rebuildSlots s).test.expected = s.test.expected ∧
    (State.rebuildSlots s).test.ageBaseUs = s.test.ageBaseUs ∧
    (State.rebuildSlots s).test.fromState = s.test.fromState ∧
    (State.rebuildSlots s).test.hotEnded = s.test.hotEnded ∧
    (State.rebuildSlots s).test.pendingFuses = s.test.pendingFuses := by
  simp [State.rebuildSlots, State.putRepair_test_frame _ _]

theorem State.countOrMark_vote_frame (s : State) (c : ℕ) :
    (State.countOrMark s c).vote.lanes = s.vote.lanes ∧ (State.countOrMark s c).vote.testing = s.vote.testing ∧
    (State.countOrMark s c).vote.laneCheck = s.vote.laneCheck ∧
    (State.countOrMark s c).vote.joining = s.vote.joining ∧
    (State.countOrMark s c).vote.joinReady = s.vote.joinReady ∧
    (State.countOrMark s c).vote.laneTurn = s.vote.laneTurn ∧ (State.countOrMark s c).vote.dwellUs = s.vote.dwellUs
    ∧ (State.countOrMark s c).vote.dwellMarkUs = s.vote.dwellMarkUs ∧
    (State.countOrMark s c).vote.dwellSavedS = s.vote.dwellSavedS ∧
    (State.countOrMark s c).vote.dwellEntered = s.vote.dwellEntered ∧
    (State.countOrMark s c).vote.warned60 = s.vote.warned60 ∧
    (State.countOrMark s c).vote.warned10 = s.vote.warned10 ∧
    (State.countOrMark s c).vote.dwellExpired = s.vote.dwellExpired ∧
    (State.countOrMark s c).vote.accusations = s.vote.accusations ∧
    (State.countOrMark s c).vote.lastAccuse = s.vote.lastAccuse ∧
    (State.countOrMark s c).vote.sigGood = s.vote.sigGood ∧
    (State.countOrMark s c).vote.sigExpected = s.vote.sigExpected ∧
    (State.countOrMark s c).vote.lockstepBroken = s.vote.lockstepBroken ∧
    (State.countOrMark s c).vote.cause = s.vote.cause ∧
    (State.countOrMark s c).vote.verdictWord = s.vote.verdictWord := by
  simp only [State.countOrMark]; (repeat' split) <;> simp [State.countTransient_vote_frame _ _,
        State.markFailed_vote_frame _ _ _, State.voteEvent_frame _ _ _ _ _]

theorem State.countOrMark_hi_frame (s : State) (c : ℕ) :
    (State.countOrMark s c).hi.state = s.hi.state ∧ (State.countOrMark s c).hi.m2 = s.hi.m2 ∧
    (State.countOrMark s c).hi.unstableCount = s.hi.unstableCount ∧
    (State.countOrMark s c).hi.eventMg = s.hi.eventMg ∧ (State.countOrMark s c).hi.eventCl = s.hi.eventCl ∧
    (State.countOrMark s c).hi.downMg = s.hi.downMg ∧ (State.countOrMark s c).hi.downCl = s.hi.downCl ∧
    (State.countOrMark s c).hi.stale = s.hi.stale ∧ (State.countOrMark s c).hi.unstable = s.hi.unstable ∧
    (State.countOrMark s c).hi.scratch = s.hi.scratch ∧ (State.countOrMark s c).hi.done = s.hi.done ∧
    (State.countOrMark s c).hi.busy = s.hi.busy ∧ (State.countOrMark s c).hi.tail = s.hi.tail ∧
    (State.countOrMark s c).hi.irqMask = s.hi.irqMask ∧ (State.countOrMark s c).hi.vectors = s.hi.vectors ∧
    (State.countOrMark s c).hi.readData = s.hi.readData ∧ (State.countOrMark s c).hi.unread = s.hi.unread ∧
    (State.countOrMark s c).hi.heldDone = s.hi.heldDone ∧ (State.countOrMark s c).hi.subscribed = s.hi.subscribed ∧
    (State.countOrMark s c).hi.x8Subscribed = s.hi.x8Subscribed ∧ (State.countOrMark s c).hi.x8Dest = s.hi.x8Dest ∧
    (State.countOrMark s c).hi.x8Last = s.hi.x8Last ∧ (State.countOrMark s c).hi.x8Short = s.hi.x8Short ∧
    (State.countOrMark s c).hi.x8 = s.hi.x8 ∧ (State.countOrMark s c).hi.x8Address = s.hi.x8Address ∧
    (State.countOrMark s c).hi.x8Plen = s.hi.x8Plen ∧ (State.countOrMark s c).hi.x8Gateway = s.hi.x8Gateway ∧
    (State.countOrMark s c).hi.x8New = s.hi.x8New := by
  simp only [State.countOrMark]; (repeat' split) <;> simp [State.countTransient_frame _ _,
        State.markFailed_hi_frame _ _ _, State.voteEvent_frame _ _ _ _ _]

theorem State.countOrMark_recorder_frame (s : State) (c : ℕ) :
    (State.countOrMark s c).recorder.ring = s.recorder.ring ∧
    (State.countOrMark s c).recorder.next = s.recorder.next ∧
    (State.countOrMark s c).recorder.capacity = s.recorder.capacity ∧
    (State.countOrMark s c).recorder.badBlocks = s.recorder.badBlocks ∧
    (State.countOrMark s c).recorder.buckets = s.recorder.buckets ∧
    (State.countOrMark s c).recorder.rates = s.recorder.rates ∧
    (State.countOrMark s c).recorder.frozenUntil = s.recorder.frozenUntil ∧
    (State.countOrMark s c).recorder.staging = s.recorder.staging ∧
    (State.countOrMark s c).recorder.lost = s.recorder.lost ∧
    (State.countOrMark s c).recorder.firstLost = s.recorder.firstLost := by
  simp only [State.countOrMark]; (repeat' split) <;> simp [State.countTransient_frame _ _,
        State.markFailed_recorder_frame _ _ _, State.voteEvent_recorder_frame _ _ _ _ _]

theorem State.countOrMark_test_frame (s : State) (c : ℕ) :
    (State.countOrMark s c).test.record = s.test.record ∧ (State.countOrMark s c).test.step = s.test.step ∧
    (State.countOrMark s c).test.stepUs = s.test.stepUs ∧ (State.countOrMark s c).test.beganUs = s.test.beganUs ∧
    (State.countOrMark s c).test.verdicts = s.test.verdicts ∧ (State.countOrMark s c).test.matched = s.test.matched
    ∧ (State.countOrMark s c).test.fused = s.test.fused ∧ (State.countOrMark s c).test.expected = s.test.expected ∧
    (State.countOrMark s c).test.fromState = s.test.fromState ∧
    (State.countOrMark s c).test.hotEnded = s.test.hotEnded ∧
    (State.countOrMark s c).test.pendingFuses = s.test.pendingFuses := by
  simp only [State.countOrMark]; (repeat' split) <;> simp [State.countTransient_frame _ _,
        State.markFailed_test_frame _ _ _, State.voteEvent_frame _ _ _ _ _]

theorem State.voteAgain_vote_frame (s : State) (c : ℕ) :
    (State.voteAgain s c).vote.slots = s.vote.slots ∧ (State.voteAgain s c).vote.lanes = s.vote.lanes ∧
    (State.voteAgain s c).vote.transients = s.vote.transients ∧ (State.voteAgain s c).vote.testing = s.vote.testing
    ∧ (State.voteAgain s c).vote.laneCheck = s.vote.laneCheck ∧ (State.voteAgain s c).vote.joining = s.vote.joining
    ∧ (State.voteAgain s c).vote.joinReady = s.vote.joinReady ∧
    (State.voteAgain s c).vote.laneTurn = s.vote.laneTurn ∧ (State.voteAgain s c).vote.dwellUs = s.vote.dwellUs ∧
    (State.voteAgain s c).vote.dwellMarkUs = s.vote.dwellMarkUs ∧
    (State.voteAgain s c).vote.dwellSavedS = s.vote.dwellSavedS ∧
    (State.voteAgain s c).vote.dwellEntered = s.vote.dwellEntered ∧
    (State.voteAgain s c).vote.warned60 = s.vote.warned60 ∧ (State.voteAgain s c).vote.warned10 = s.vote.warned10 ∧
    (State.voteAgain s c).vote.dwellExpired = s.vote.dwellExpired ∧
    (State.voteAgain s c).vote.accusations = s.vote.accusations ∧
    (State.voteAgain s c).vote.lastAccuse = s.vote.lastAccuse ∧ (State.voteAgain s c).vote.sigGood = s.vote.sigGood
    ∧ (State.voteAgain s c).vote.sigExpected = s.vote.sigExpected ∧
    (State.voteAgain s c).vote.lockstepBroken = s.vote.lockstepBroken ∧
    (State.voteAgain s c).vote.cause = s.vote.cause ∧ (State.voteAgain s c).vote.verdictWord = s.vote.verdictWord := by
  unfold State.voteAgain; (repeat' split) <;> simp [State.setCore_vote_frame _ _ _]

theorem State.safeTested_bench_frame (s : State) (failed : List ℕ) :
    (State.safeTested s failed).bench.cycle = s.bench.cycle ∧
    (State.safeTested s failed).bench.nextCycle = s.bench.nextCycle ∧
    (State.safeTested s failed).bench.lastO = s.bench.lastO ∧
    (State.safeTested s failed).bench.freezeUs = s.bench.freezeUs ∧
    (State.safeTested s failed).bench.nextFreezeUs = s.bench.nextFreezeUs ∧
    (State.safeTested s failed).bench.first = s.bench.first ∧
    (State.safeTested s failed).bench.overran = s.bench.overran ∧
    (State.safeTested s failed).bench.noCode = s.bench.noCode ∧
    (State.safeTested s failed).bench.challenge = s.bench.challenge := by
  simp only [State.safeTested]; (repeat' split) <;> simp [State.event_frame _ _ _ _ _ _ _ _,
        State.rebuildSlots_frame _, State.markFailed_frame _ _ _, State.enterLockout_bench_frame _ _ _ _,
        State.voteAgain_frame _ _, State.countOrMark_frame _ _]

theorem State.safeTested_vote_frame (s : State) (failed : List ℕ) :
    (State.safeTested s failed).vote.lanes = s.vote.lanes ∧
    (State.safeTested s failed).vote.testing = s.vote.testing ∧
    (State.safeTested s failed).vote.laneCheck = s.vote.laneCheck ∧
    (State.safeTested s failed).vote.joining = s.vote.joining ∧
    (State.safeTested s failed).vote.joinReady = s.vote.joinReady ∧
    (State.safeTested s failed).vote.laneTurn = s.vote.laneTurn ∧
    (State.safeTested s failed).vote.dwellSavedS = s.vote.dwellSavedS ∧
    (State.safeTested s failed).vote.dwellEntered = s.vote.dwellEntered ∧
    (State.safeTested s failed).vote.warned60 = s.vote.warned60 ∧
    (State.safeTested s failed).vote.warned10 = s.vote.warned10 ∧
    (State.safeTested s failed).vote.dwellExpired = s.vote.dwellExpired ∧
    (State.safeTested s failed).vote.accusations = s.vote.accusations ∧
    (State.safeTested s failed).vote.lastAccuse = s.vote.lastAccuse ∧
    (State.safeTested s failed).vote.sigGood = s.vote.sigGood ∧
    (State.safeTested s failed).vote.sigExpected = s.vote.sigExpected ∧
    (State.safeTested s failed).vote.lockstepBroken = s.vote.lockstepBroken ∧
    (State.safeTested s failed).vote.verdictWord = s.vote.verdictWord := by
  simp only [State.safeTested]; (repeat' split) <;> simp [State.event_frame _ _ _ _ _ _ _ _,
        State.rebuildSlots_vote_frame _, State.markFailed_vote_frame _ _ _, State.enterLockout_vote_frame _ _ _ _,
        State.voteAgain_vote_frame _ _, State.countOrMark_vote_frame _ _]

theorem State.safeTested_field_frame (s : State) (failed : List ℕ) :
    (State.safeTested s failed).field.inputs = s.field.inputs ∧
    (State.safeTested s failed).field.sources = s.field.sources ∧
    (State.safeTested s failed).field.outputs = s.field.outputs ∧
    (State.safeTested s failed).field.groups = s.field.groups ∧
    (State.safeTested s failed).field.gridUs = s.field.gridUs ∧
    (State.safeTested s failed).field.fsSeq = s.field.fsSeq ∧
    (State.safeTested s failed).field.flSeq = s.field.flSeq ∧
    (State.safeTested s failed).field.fsSent = s.field.fsSent ∧
    (State.safeTested s failed).field.flSent = s.field.flSent ∧
    (State.safeTested s failed).field.fsMissed = s.field.fsMissed ∧
    (State.safeTested s failed).field.flMissed = s.field.flMissed ∧
    (State.safeTested s failed).field.missed = s.field.missed ∧
    (State.safeTested s failed).field.linkLost = s.field.linkLost ∧
    (State.safeTested s failed).field.config = s.field.config ∧
    (State.safeTested s failed).field.configCrc = s.field.configCrc ∧
    (State.safeTested s failed).field.collect = s.field.collect ∧
    (State.safeTested s failed).field.lastSetCrc = s.field.lastSetCrc ∧
    (State.safeTested s failed).field.segment = s.field.segment ∧
    (State.safeTested s failed).field.values = s.field.values ∧
    (State.safeTested s failed).field.valid = s.field.valid ∧
    (State.safeTested s failed).field.stale = s.field.stale ∧
    (State.safeTested s failed).field.arrivalUs = s.field.arrivalUs ∧
    (State.safeTested s failed).field.crcSeen = s.field.crcSeen ∧
    (State.safeTested s failed).field.crcGood = s.field.crcGood ∧
    (State.safeTested s failed).field.imageOutputs = s.field.imageOutputs ∧
    (State.safeTested s failed).field.imageGroups = s.field.imageGroups := by
  simp only [State.safeTested]; (repeat' split) <;> simp [State.event_frame _ _ _ _ _ _ _ _,
        State.rebuildSlots_frame _, State.markFailed_frame _ _ _, State.enterLockout_field_frame _ _ _ _,
        State.voteAgain_frame _ _, State.countOrMark_frame _ _]

theorem State.safeTested_hi_frame (s : State) (failed : List ℕ) :
    (State.safeTested s failed).hi.state = s.hi.state ∧ (State.safeTested s failed).hi.m2 = s.hi.m2 ∧
    (State.safeTested s failed).hi.unstableCount = s.hi.unstableCount ∧
    (State.safeTested s failed).hi.eventMg = s.hi.eventMg ∧ (State.safeTested s failed).hi.eventCl = s.hi.eventCl ∧
    (State.safeTested s failed).hi.downMg = s.hi.downMg ∧ (State.safeTested s failed).hi.downCl = s.hi.downCl ∧
    (State.safeTested s failed).hi.stale = s.hi.stale ∧ (State.safeTested s failed).hi.unstable = s.hi.unstable ∧
    (State.safeTested s failed).hi.scratch = s.hi.scratch ∧ (State.safeTested s failed).hi.busy = s.hi.busy ∧
    (State.safeTested s failed).hi.tail = s.hi.tail ∧ (State.safeTested s failed).hi.irqMask = s.hi.irqMask ∧
    (State.safeTested s failed).hi.vectors = s.hi.vectors ∧ (State.safeTested s failed).hi.readData = s.hi.readData
    ∧ (State.safeTested s failed).hi.unread = s.hi.unread ∧
    (State.safeTested s failed).hi.subscribed = s.hi.subscribed ∧
    (State.safeTested s failed).hi.x8Subscribed = s.hi.x8Subscribed ∧
    (State.safeTested s failed).hi.x8Dest = s.hi.x8Dest ∧ (State.safeTested s failed).hi.x8Last = s.hi.x8Last ∧
    (State.safeTested s failed).hi.x8Short = s.hi.x8Short ∧
    (State.safeTested s failed).hi.x8Address = s.hi.x8Address ∧ (State.safeTested s failed).hi.x8Plen = s.hi.x8Plen
    ∧ (State.safeTested s failed).hi.x8Gateway = s.hi.x8Gateway ∧ (State.safeTested s failed).hi.x8New = s.hi.x8New := by
  simp only [State.safeTested]; (repeat' split) <;> simp [State.event_frame _ _ _ _ _ _ _ _,
        State.rebuildSlots_frame _, State.markFailed_hi_frame _ _ _, State.enterLockout_hi_frame _ _ _ _,
        State.voteAgain_frame _ _, State.countOrMark_hi_frame _ _]

theorem State.safeTested_mg_frame (s : State) (failed : List ℕ) :
    (State.safeTested s failed).mg.alive = s.mg.alive ∧ (State.safeTested s failed).mg.arrival = s.mg.arrival ∧
    (State.safeTested s failed).mg.usedIds = s.mg.usedIds := by
  simp only [State.safeTested]; (repeat' split) <;> simp [State.event_frame _ _ _ _ _ _ _ _,
        State.rebuildSlots_frame _, State.markFailed_frame _ _ _, State.enterLockout_mg_frame _ _ _ _,
        State.voteAgain_frame _ _, State.countOrMark_frame _ _]

theorem State.safeTested_recorder_frame (s : State) (failed : List ℕ) :
    (State.safeTested s failed).recorder.ring = s.recorder.ring ∧
    (State.safeTested s failed).recorder.next = s.recorder.next ∧
    (State.safeTested s failed).recorder.capacity = s.recorder.capacity ∧
    (State.safeTested s failed).recorder.badBlocks = s.recorder.badBlocks ∧
    (State.safeTested s failed).recorder.buckets = s.recorder.buckets ∧
    (State.safeTested s failed).recorder.rates = s.recorder.rates ∧
    (State.safeTested s failed).recorder.frozenUntil = s.recorder.frozenUntil ∧
    (State.safeTested s failed).recorder.staging = s.recorder.staging ∧
    (State.safeTested s failed).recorder.lost = s.recorder.lost ∧
    (State.safeTested s failed).recorder.firstLost = s.recorder.firstLost := by
  simp only [State.safeTested]; (repeat' split) <;> simp [State.event_frame _ _ _ _ _ _ _ _,
        State.rebuildSlots_frame _, State.markFailed_recorder_frame _ _ _, State.event_recorder_frame _ _ _ _ _ _ _ _,
        State.enterLockout_recorder_frame _ _ _ _, State.voteAgain_frame _ _, State.countOrMark_recorder_frame _ _]

theorem State.safeTested_power_frame (s : State) (failed : List ℕ) :
    (State.safeTested s failed).power.cause = s.power.cause ∧
    (State.safeTested s failed).power.fullForm = s.power.fullForm ∧
    (State.safeTested s failed).power.startUs = s.power.startUs ∧
    (State.safeTested s failed).power.supply = s.power.supply ∧
    (State.safeTested s failed).power.logicMv = s.power.logicMv ∧
    (State.safeTested s failed).power.boardTemp = s.power.boardTemp ∧
    (State.safeTested s failed).power.hotTold = s.power.hotTold ∧
    (State.safeTested s failed).power.cellFitted = s.power.cellFitted ∧
    (State.safeTested s failed).power.cellMv = s.power.cellMv ∧
    (State.safeTested s failed).power.cellLowTold = s.power.cellLowTold ∧
    (State.safeTested s failed).power.cellGoneTold = s.power.cellGoneTold ∧
    (State.safeTested s failed).power.slot = s.power.slot ∧
    (State.safeTested s failed).power.causes = s.power.causes ∧
    (State.safeTested s failed).power.entries = s.power.entries ∧
    (State.safeTested s failed).power.testPassed = s.power.testPassed ∧
    (State.safeTested s failed).power.testPassedUs = s.power.testPassedUs ∧
    (State.safeTested s failed).power.dead = s.power.dead ∧
    (State.safeTested s failed).power.faultLed = s.power.faultLed := by
  simp only [State.safeTested]; (repeat' split) <;> simp [State.event_frame _ _ _ _ _ _ _ _,
        State.rebuildSlots_frame _, State.markFailed_frame _ _ _, State.enterLockout_power_frame _ _ _ _,
        State.voteAgain_frame _ _, State.countOrMark_frame _ _]

theorem State.safeTested_test_frame (s : State) (failed : List ℕ) :
    (State.safeTested s failed).test.record = s.test.record ∧ (State.safeTested s failed).test.step = s.test.step ∧
    (State.safeTested s failed).test.stepUs = s.test.stepUs ∧
    (State.safeTested s failed).test.beganUs = s.test.beganUs ∧
    (State.safeTested s failed).test.verdicts = s.test.verdicts ∧
    (State.safeTested s failed).test.matched = s.test.matched ∧
    (State.safeTested s failed).test.fused = s.test.fused ∧
    (State.safeTested s failed).test.expected = s.test.expected ∧
    (State.safeTested s failed).test.fromState = s.test.fromState ∧
    (State.safeTested s failed).test.hotEnded = s.test.hotEnded ∧
    (State.safeTested s failed).test.pendingFuses = s.test.pendingFuses := by
  simp only [State.safeTested]; (repeat' split) <;> simp [State.event_frame _ _ _ _ _ _ _ _,
        State.rebuildSlots_test_frame _, State.markFailed_test_frame _ _ _, State.enterLockout_frame _ _ _ _,
        State.voteAgain_frame _ _, State.countOrMark_test_frame _ _]

theorem State.syncDone_bench_frame (s : State) (differ : Bool) :
    (State.syncDone s differ).bench.cycle = s.bench.cycle ∧
    (State.syncDone s differ).bench.nextCycle = s.bench.nextCycle ∧
    (State.syncDone s differ).bench.lastO = s.bench.lastO ∧
    (State.syncDone s differ).bench.freezeUs = s.bench.freezeUs ∧
    (State.syncDone s differ).bench.nextFreezeUs = s.bench.nextFreezeUs ∧
    (State.syncDone s differ).bench.first = s.bench.first ∧ (State.syncDone s differ).bench.overran = s.bench.overran
    ∧ (State.syncDone s differ).bench.noCode = s.bench.noCode ∧
    (State.syncDone s differ).bench.challenge = s.bench.challenge := by
  simp only [State.syncDone]; (repeat' split) <;> simp [State.copyCore_frame _ _, State.disagreement_bench_frame _ _ _]

theorem State.syncDone_vote_frame (s : State) (differ : Bool) :
    (State.syncDone s differ).vote.slots = s.vote.slots ∧ (State.syncDone s differ).vote.lanes = s.vote.lanes ∧
    (State.syncDone s differ).vote.transients = s.vote.transients ∧
    (State.syncDone s differ).vote.laneTurn = s.vote.laneTurn ∧
    (State.syncDone s differ).vote.dwellSavedS = s.vote.dwellSavedS ∧
    (State.syncDone s differ).vote.dwellEntered = s.vote.dwellEntered ∧
    (State.syncDone s differ).vote.warned60 = s.vote.warned60 ∧
    (State.syncDone s differ).vote.warned10 = s.vote.warned10 ∧
    (State.syncDone s differ).vote.dwellExpired = s.vote.dwellExpired ∧
    (State.syncDone s differ).vote.accusations = s.vote.accusations ∧
    (State.syncDone s differ).vote.lastAccuse = s.vote.lastAccuse ∧
    (State.syncDone s differ).vote.sigGood = s.vote.sigGood ∧
    (State.syncDone s differ).vote.sigExpected = s.vote.sigExpected ∧
    (State.syncDone s differ).vote.lockstepBroken = s.vote.lockstepBroken := by
  simp only [State.syncDone]; (repeat' split) <;> simp [State.copyCore_vote_frame _ _, State.disagreement_vote_frame _ _ _]

theorem State.syncDone_field_frame (s : State) (differ : Bool) :
    (State.syncDone s differ).field.inputs = s.field.inputs ∧
    (State.syncDone s differ).field.sources = s.field.sources ∧
    (State.syncDone s differ).field.outputs = s.field.outputs ∧
    (State.syncDone s differ).field.groups = s.field.groups ∧ (State.syncDone s differ).field.gridUs = s.field.gridUs
    ∧ (State.syncDone s differ).field.fsSeq = s.field.fsSeq ∧ (State.syncDone s differ).field.flSeq = s.field.flSeq ∧
    (State.syncDone s differ).field.fsSent = s.field.fsSent ∧ (State.syncDone s differ).field.flSent = s.field.flSent
    ∧ (State.syncDone s differ).field.fsMissed = s.field.fsMissed ∧
    (State.syncDone s differ).field.flMissed = s.field.flMissed ∧
    (State.syncDone s differ).field.missed = s.field.missed ∧
    (State.syncDone s differ).field.linkLost = s.field.linkLost ∧
    (State.syncDone s differ).field.config = s.field.config ∧
    (State.syncDone s differ).field.configCrc = s.field.configCrc ∧
    (State.syncDone s differ).field.collect = s.field.collect ∧
    (State.syncDone s differ).field.lastSetCrc = s.field.lastSetCrc ∧
    (State.syncDone s differ).field.segment = s.field.segment ∧
    (State.syncDone s differ).field.values = s.field.values ∧ (State.syncDone s differ).field.valid = s.field.valid ∧
    (State.syncDone s differ).field.stale = s.field.stale ∧
    (State.syncDone s differ).field.arrivalUs = s.field.arrivalUs ∧
    (State.syncDone s differ).field.crcSeen = s.field.crcSeen ∧
    (State.syncDone s differ).field.crcGood = s.field.crcGood ∧
    (State.syncDone s differ).field.imageOutputs = s.field.imageOutputs ∧
    (State.syncDone s differ).field.imageGroups = s.field.imageGroups := by
  simp only [State.syncDone]; (repeat' split) <;> simp [State.copyCore_frame _ _, State.disagreement_field_frame _ _ _]

theorem State.syncDone_hi_frame (s : State) (differ : Bool) :
    (State.syncDone s differ).hi.state = s.hi.state ∧ (State.syncDone s differ).hi.m2 = s.hi.m2 ∧
    (State.syncDone s differ).hi.unstableCount = s.hi.unstableCount ∧
    (State.syncDone s differ).hi.eventMg = s.hi.eventMg ∧ (State.syncDone s differ).hi.eventCl = s.hi.eventCl ∧
    (State.syncDone s differ).hi.downMg = s.hi.downMg ∧ (State.syncDone s differ).hi.downCl = s.hi.downCl ∧
    (State.syncDone s differ).hi.stale = s.hi.stale ∧ (State.syncDone s differ).hi.unstable = s.hi.unstable ∧
    (State.syncDone s differ).hi.scratch = s.hi.scratch ∧ (State.syncDone s differ).hi.busy = s.hi.busy ∧
    (State.syncDone s differ).hi.tail = s.hi.tail ∧ (State.syncDone s differ).hi.irqMask = s.hi.irqMask ∧
    (State.syncDone s differ).hi.vectors = s.hi.vectors ∧ (State.syncDone s differ).hi.readData = s.hi.readData ∧
    (State.syncDone s differ).hi.unread = s.hi.unread ∧ (State.syncDone s differ).hi.subscribed = s.hi.subscribed ∧
    (State.syncDone s differ).hi.x8Subscribed = s.hi.x8Subscribed ∧ (State.syncDone s differ).hi.x8Dest = s.hi.x8Dest
    ∧ (State.syncDone s differ).hi.x8Last = s.hi.x8Last ∧ (State.syncDone s differ).hi.x8Short = s.hi.x8Short ∧
    (State.syncDone s differ).hi.x8Address = s.hi.x8Address ∧ (State.syncDone s differ).hi.x8Plen = s.hi.x8Plen ∧
    (State.syncDone s differ).hi.x8Gateway = s.hi.x8Gateway ∧ (State.syncDone s differ).hi.x8New = s.hi.x8New := by
  simp only [State.syncDone]; (repeat' split) <;> simp [State.copyCore_frame _ _, State.disagreement_hi_frame _ _ _]

theorem State.syncDone_mg_frame (s : State) (differ : Bool) :
    (State.syncDone s differ).mg.alive = s.mg.alive ∧ (State.syncDone s differ).mg.arrival = s.mg.arrival ∧
    (State.syncDone s differ).mg.usedIds = s.mg.usedIds := by
  simp only [State.syncDone]; (repeat' split) <;> simp [State.copyCore_frame _ _, State.disagreement_mg_frame _ _ _]

theorem State.syncDone_recorder_frame (s : State) (differ : Bool) :
    (State.syncDone s differ).recorder.ring = s.recorder.ring ∧
    (State.syncDone s differ).recorder.next = s.recorder.next ∧
    (State.syncDone s differ).recorder.capacity = s.recorder.capacity ∧
    (State.syncDone s differ).recorder.badBlocks = s.recorder.badBlocks ∧
    (State.syncDone s differ).recorder.buckets = s.recorder.buckets ∧
    (State.syncDone s differ).recorder.rates = s.recorder.rates ∧
    (State.syncDone s differ).recorder.frozenUntil = s.recorder.frozenUntil ∧
    (State.syncDone s differ).recorder.staging = s.recorder.staging ∧
    (State.syncDone s differ).recorder.lost = s.recorder.lost ∧
    (State.syncDone s differ).recorder.firstLost = s.recorder.firstLost := by
  simp only [State.syncDone]; (repeat' split) <;> simp [State.copyCore_frame _ _, State.disagreement_recorder_frame _ _ _]

theorem State.syncDone_power_frame (s : State) (differ : Bool) :
    (State.syncDone s differ).power.cause = s.power.cause ∧
    (State.syncDone s differ).power.fullForm = s.power.fullForm ∧
    (State.syncDone s differ).power.startUs = s.power.startUs ∧
    (State.syncDone s differ).power.supply = s.power.supply ∧
    (State.syncDone s differ).power.logicMv = s.power.logicMv ∧
    (State.syncDone s differ).power.boardTemp = s.power.boardTemp ∧
    (State.syncDone s differ).power.hotTold = s.power.hotTold ∧
    (State.syncDone s differ).power.cellFitted = s.power.cellFitted ∧
    (State.syncDone s differ).power.cellMv = s.power.cellMv ∧
    (State.syncDone s differ).power.cellLowTold = s.power.cellLowTold ∧
    (State.syncDone s differ).power.cellGoneTold = s.power.cellGoneTold ∧
    (State.syncDone s differ).power.slot = s.power.slot ∧ (State.syncDone s differ).power.causes = s.power.causes ∧
    (State.syncDone s differ).power.testPassedUs = s.power.testPassedUs ∧
    (State.syncDone s differ).power.dead = s.power.dead ∧ (State.syncDone s differ).power.faultLed = s.power.faultLed
    := by
  simp only [State.syncDone]; (repeat' split) <;> simp [State.copyCore_frame _ _, State.disagreement_power_frame _ _ _]

theorem State.joinCore_vote_frame (s : State) (cycle : ℕ) :
    (State.joinCore s cycle).vote.lanes = s.vote.lanes ∧
    (State.joinCore s cycle).vote.transients = s.vote.transients ∧
    (State.joinCore s cycle).vote.testing = s.vote.testing ∧
    (State.joinCore s cycle).vote.laneCheck = s.vote.laneCheck ∧
    (State.joinCore s cycle).vote.laneTurn = s.vote.laneTurn ∧
    (State.joinCore s cycle).vote.dwellSavedS = s.vote.dwellSavedS ∧
    (State.joinCore s cycle).vote.dwellExpired = s.vote.dwellExpired ∧
    (State.joinCore s cycle).vote.accusations = s.vote.accusations ∧
    (State.joinCore s cycle).vote.lastAccuse = s.vote.lastAccuse ∧
    (State.joinCore s cycle).vote.sigGood = s.vote.sigGood ∧
    (State.joinCore s cycle).vote.sigExpected = s.vote.sigExpected ∧
    (State.joinCore s cycle).vote.lockstepBroken = s.vote.lockstepBroken ∧
    (State.joinCore s cycle).vote.cause = s.vote.cause ∧
    (State.joinCore s cycle).vote.verdictWord = s.vote.verdictWord := by
  simp only [State.joinCore]; (repeat' split) <;> simp [State.setCore_frame _ _ _, State.modSlot_frame _ _ _,
        State.setCore_vote_frame _ _ _, State.modSlot_vote_frame _ _ _, State.dwellSync_vote_frame _,
        State.event_frame _ _ _ _ _ _ _ _, State.voteNote_frame _ _ _ _, State.putRepair_frame _ _]

theorem State.joinCore_hi_frame (s : State) (cycle : ℕ) :
    (State.joinCore s cycle).hi.state = s.hi.state ∧ (State.joinCore s cycle).hi.m2 = s.hi.m2 ∧
    (State.joinCore s cycle).hi.unstableCount = s.hi.unstableCount ∧
    (State.joinCore s cycle).hi.eventMg = s.hi.eventMg ∧ (State.joinCore s cycle).hi.eventCl = s.hi.eventCl ∧
    (State.joinCore s cycle).hi.downMg = s.hi.downMg ∧ (State.joinCore s cycle).hi.downCl = s.hi.downCl ∧
    (State.joinCore s cycle).hi.stale = s.hi.stale ∧ (State.joinCore s cycle).hi.unstable = s.hi.unstable ∧
    (State.joinCore s cycle).hi.scratch = s.hi.scratch ∧ (State.joinCore s cycle).hi.done = s.hi.done ∧
    (State.joinCore s cycle).hi.busy = s.hi.busy ∧ (State.joinCore s cycle).hi.tail = s.hi.tail ∧
    (State.joinCore s cycle).hi.irqMask = s.hi.irqMask ∧ (State.joinCore s cycle).hi.vectors = s.hi.vectors ∧
    (State.joinCore s cycle).hi.readData = s.hi.readData ∧ (State.joinCore s cycle).hi.unread = s.hi.unread ∧
    (State.joinCore s cycle).hi.heldDone = s.hi.heldDone ∧ (State.joinCore s cycle).hi.subscribed = s.hi.subscribed
    ∧ (State.joinCore s cycle).hi.x8Subscribed = s.hi.x8Subscribed ∧
    (State.joinCore s cycle).hi.x8Dest = s.hi.x8Dest ∧ (State.joinCore s cycle).hi.x8Last = s.hi.x8Last ∧
    (State.joinCore s cycle).hi.x8Short = s.hi.x8Short ∧ (State.joinCore s cycle).hi.x8 = s.hi.x8 ∧
    (State.joinCore s cycle).hi.x8Address = s.hi.x8Address ∧ (State.joinCore s cycle).hi.x8Plen = s.hi.x8Plen ∧
    (State.joinCore s cycle).hi.x8Gateway = s.hi.x8Gateway ∧ (State.joinCore s cycle).hi.x8New = s.hi.x8New := by
  simp only [State.joinCore]; (repeat' split) <;> simp [State.setCore_frame _ _ _, State.modSlot_frame _ _ _,
        State.setCore_vote_frame _ _ _, State.modSlot_vote_frame _ _ _, State.dwellSync_hi_frame _,
        State.event_frame _ _ _ _ _ _ _ _, State.voteNote_hi_frame _ _ _ _, State.putRepair_frame _ _]

theorem State.joinCore_recorder_frame (s : State) (cycle : ℕ) :
    (State.joinCore s cycle).recorder.ring = s.recorder.ring ∧
    (State.joinCore s cycle).recorder.next = s.recorder.next ∧
    (State.joinCore s cycle).recorder.capacity = s.recorder.capacity ∧
    (State.joinCore s cycle).recorder.badBlocks = s.recorder.badBlocks ∧
    (State.joinCore s cycle).recorder.buckets = s.recorder.buckets ∧
    (State.joinCore s cycle).recorder.rates = s.recorder.rates ∧
    (State.joinCore s cycle).recorder.frozenUntil = s.recorder.frozenUntil ∧
    (State.joinCore s cycle).recorder.staging = s.recorder.staging ∧
    (State.joinCore s cycle).recorder.lost = s.recorder.lost ∧
    (State.joinCore s cycle).recorder.firstLost = s.recorder.firstLost := by
  simp only [State.joinCore]; (repeat' split) <;> simp [State.setCore_frame _ _ _, State.modSlot_frame _ _ _,
        State.setCore_vote_frame _ _ _, State.modSlot_vote_frame _ _ _, State.dwellSync_recorder_frame _,
        State.event_recorder_frame _ _ _ _ _ _ _ _, State.voteNote_frame _ _ _ _, State.putRepair_frame _ _]

theorem State.joinCore_test_frame (s : State) (cycle : ℕ) :
    (State.joinCore s cycle).test.record = s.test.record ∧ (State.joinCore s cycle).test.step = s.test.step ∧
    (State.joinCore s cycle).test.stepUs = s.test.stepUs ∧ (State.joinCore s cycle).test.beganUs = s.test.beganUs ∧
    (State.joinCore s cycle).test.verdicts = s.test.verdicts ∧
    (State.joinCore s cycle).test.matched = s.test.matched ∧ (State.joinCore s cycle).test.fused = s.test.fused ∧
    (State.joinCore s cycle).test.expected = s.test.expected ∧
    (State.joinCore s cycle).test.ageBaseUs = s.test.ageBaseUs ∧
    (State.joinCore s cycle).test.fromState = s.test.fromState ∧
    (State.joinCore s cycle).test.hotEnded = s.test.hotEnded ∧
    (State.joinCore s cycle).test.pendingFuses = s.test.pendingFuses := by
  simp only [State.joinCore]; (repeat' split) <;> simp [State.setCore_frame _ _ _, State.modSlot_frame _ _ _,
        State.setCore_vote_frame _ _ _, State.modSlot_vote_frame _ _ _, State.dwellSync_frame _,
        State.event_frame _ _ _ _ _ _ _ _, State.voteNote_frame _ _ _ _, State.putRepair_test_frame _ _]

end Sys2Proof.Machine
end

