-- ==== Sys2Proof/Laws/FieldIo.lean ====
section
/-! SUPPORT. What the operations of Machine/FieldIo.lean leave alone: one lemma for each, naming every part of the state that
it does not write. -/

namespace Sys2Proof.Machine

open Sys2Proof

theorem State.modInput_frame (s : State) (n : ℕ) (f : FieldInput → FieldInput) :
    (State.modInput s n f).unit = s.unit ∧ (State.modInput s n f).opUs = s.opUs ∧
    (State.modInput s n f).savedOpUs = s.savedOpUs ∧ (State.modInput s n f).powerCycle = s.powerCycle ∧
    (State.modInput s n f).epoch = s.epoch ∧ (State.modInput s n f).power = s.power ∧ (State.modInput s n f).rt = s.rt
    ∧ (State.modInput s n f).sec = s.sec ∧ (State.modInput s n f).station = s.station ∧
    (State.modInput s n f).bench = s.bench ∧ (State.modInput s n f).eng = s.eng ∧ (State.modInput s n f).vote = s.vote
    ∧ (State.modInput s n f).ash = s.ash ∧ (State.modInput s n f).can = s.can ∧ (State.modInput s n f).net = s.net ∧
    (State.modInput s n f).hi = s.hi ∧ (State.modInput s n f).xings = s.xings ∧ (State.modInput s n f).mg = s.mg ∧
    (State.modInput s n f).recorder = s.recorder ∧ (State.modInput s n f).log = s.log ∧
    (State.modInput s n f).test = s.test ∧ (State.modInput s n f).update = s.update ∧
    (State.modInput s n f).draws = s.draws ∧ (State.modInput s n f).outbox = s.outbox ∧
    (State.modInput s n f).diag = s.diag ∧ (State.modInput s n f).pending = s.pending := by
  simp [State.modInput]

theorem State.modSource_frame (s : State) (k : ℕ) (f : FieldSource → FieldSource) :
    (State.modSource s k f).unit = s.unit ∧ (State.modSource s k f).opUs = s.opUs ∧
    (State.modSource s k f).savedOpUs = s.savedOpUs ∧ (State.modSource s k f).powerCycle = s.powerCycle ∧
    (State.modSource s k f).epoch = s.epoch ∧ (State.modSource s k f).power = s.power ∧
    (State.modSource s k f).rt = s.rt ∧ (State.modSource s k f).sec = s.sec ∧
    (State.modSource s k f).station = s.station ∧ (State.modSource s k f).bench = s.bench ∧
    (State.modSource s k f).eng = s.eng ∧ (State.modSource s k f).vote = s.vote ∧ (State.modSource s k f).ash = s.ash
    ∧ (State.modSource s k f).can = s.can ∧ (State.modSource s k f).net = s.net ∧ (State.modSource s k f).hi = s.hi ∧
    (State.modSource s k f).xings = s.xings ∧ (State.modSource s k f).mg = s.mg ∧
    (State.modSource s k f).recorder = s.recorder ∧ (State.modSource s k f).log = s.log ∧
    (State.modSource s k f).test = s.test ∧ (State.modSource s k f).update = s.update ∧
    (State.modSource s k f).draws = s.draws ∧ (State.modSource s k f).outbox = s.outbox ∧
    (State.modSource s k f).diag = s.diag ∧ (State.modSource s k f).pending = s.pending := by
  simp [State.modSource]

theorem State.modOutput_frame (s : State) (n : ℕ) (f : FieldOutput → FieldOutput) :
    (State.modOutput s n f).unit = s.unit ∧ (State.modOutput s n f).opUs = s.opUs ∧
    (State.modOutput s n f).savedOpUs = s.savedOpUs ∧ (State.modOutput s n f).powerCycle = s.powerCycle ∧
    (State.modOutput s n f).epoch = s.epoch ∧ (State.modOutput s n f).power = s.power ∧
    (State.modOutput s n f).rt = s.rt ∧ (State.modOutput s n f).sec = s.sec ∧
    (State.modOutput s n f).station = s.station ∧ (State.modOutput s n f).bench = s.bench ∧
    (State.modOutput s n f).eng = s.eng ∧ (State.modOutput s n f).vote = s.vote ∧ (State.modOutput s n f).ash = s.ash
    ∧ (State.modOutput s n f).can = s.can ∧ (State.modOutput s n f).net = s.net ∧ (State.modOutput s n f).hi = s.hi ∧
    (State.modOutput s n f).xings = s.xings ∧ (State.modOutput s n f).mg = s.mg ∧
    (State.modOutput s n f).recorder = s.recorder ∧ (State.modOutput s n f).log = s.log ∧
    (State.modOutput s n f).test = s.test ∧ (State.modOutput s n f).update = s.update ∧
    (State.modOutput s n f).draws = s.draws ∧ (State.modOutput s n f).outbox = s.outbox ∧
    (State.modOutput s n f).diag = s.diag ∧ (State.modOutput s n f).pending = s.pending := by
  simp [State.modOutput]

theorem State.modGroup_frame (s : State) (g : ℕ) (f : FieldGroup → FieldGroup) :
    (State.modGroup s g f).unit = s.unit ∧ (State.modGroup s g f).opUs = s.opUs ∧
    (State.modGroup s g f).savedOpUs = s.savedOpUs ∧ (State.modGroup s g f).powerCycle = s.powerCycle ∧
    (State.modGroup s g f).epoch = s.epoch ∧ (State.modGroup s g f).power = s.power ∧ (State.modGroup s g f).rt = s.rt
    ∧ (State.modGroup s g f).sec = s.sec ∧ (State.modGroup s g f).station = s.station ∧
    (State.modGroup s g f).bench = s.bench ∧ (State.modGroup s g f).eng = s.eng ∧ (State.modGroup s g f).vote = s.vote
    ∧ (State.modGroup s g f).ash = s.ash ∧ (State.modGroup s g f).can = s.can ∧ (State.modGroup s g f).net = s.net ∧
    (State.modGroup s g f).hi = s.hi ∧ (State.modGroup s g f).xings = s.xings ∧ (State.modGroup s g f).mg = s.mg ∧
    (State.modGroup s g f).recorder = s.recorder ∧ (State.modGroup s g f).log = s.log ∧
    (State.modGroup s g f).test = s.test ∧ (State.modGroup s g f).update = s.update ∧
    (State.modGroup s g f).draws = s.draws ∧ (State.modGroup s g f).outbox = s.outbox ∧
    (State.modGroup s g f).diag = s.diag ∧ (State.modGroup s g f).pending = s.pending := by
  simp [State.modGroup]

theorem State.report_frame (s : State) (code : ℕ) (p0 : ℕ) (p1 : ℕ) (p2 : ℕ) :
    (State.report s code p0 p1 p2).unit = s.unit ∧ (State.report s code p0 p1 p2).opUs = s.opUs ∧ (State.report s code
    p0 p1 p2).savedOpUs = s.savedOpUs ∧ (State.report s code p0 p1 p2).powerCycle = s.powerCycle ∧ (State.report s
    code p0 p1 p2).epoch = s.epoch ∧ (State.report s code p0 p1 p2).power = s.power ∧ (State.report s code p0 p1
    p2).rt = s.rt ∧ (State.report s code p0 p1 p2).sec = s.sec ∧ (State.report s code p0 p1 p2).station = s.station ∧
    (State.report s code p0 p1 p2).bench = s.bench ∧ (State.report s code p0 p1 p2).eng = s.eng ∧ (State.report s code
    p0 p1 p2).vote = s.vote ∧ (State.report s code p0 p1 p2).ash = s.ash ∧ (State.report s code p0 p1 p2).can = s.can
    ∧ (State.report s code p0 p1 p2).net = s.net ∧ (State.report s code p0 p1 p2).hi = s.hi ∧ (State.report s code p0
    p1 p2).xings = s.xings ∧ (State.report s code p0 p1 p2).mg = s.mg ∧ (State.report s code p0 p1 p2).recorder =
    s.recorder ∧ (State.report s code p0 p1 p2).log = s.log ∧ (State.report s code p0 p1 p2).test = s.test ∧
    (State.report s code p0 p1 p2).update = s.update ∧ (State.report s code p0 p1 p2).draws = s.draws ∧ (State.report
    s code p0 p1 p2).diag = s.diag ∧ (State.report s code p0 p1 p2).outbox = s.outbox ∧ (State.report s code p0 p1
    p2).pending = s.pending := by
  simp [State.report]

theorem State.inputFails_frame (s : State) (n : ℕ) (fault : ℕ) (source : ℕ) :
    (State.inputFails s n fault source).unit = s.unit ∧ (State.inputFails s n fault source).opUs = s.opUs ∧
    (State.inputFails s n fault source).savedOpUs = s.savedOpUs ∧
    (State.inputFails s n fault source).powerCycle = s.powerCycle ∧
    (State.inputFails s n fault source).epoch = s.epoch ∧ (State.inputFails s n fault source).power = s.power ∧
    (State.inputFails s n fault source).rt = s.rt ∧ (State.inputFails s n fault source).sec = s.sec ∧
    (State.inputFails s n fault source).station = s.station ∧ (State.inputFails s n fault source).bench = s.bench ∧
    (State.inputFails s n fault source).eng = s.eng ∧ (State.inputFails s n fault source).vote = s.vote ∧
    (State.inputFails s n fault source).ash = s.ash ∧ (State.inputFails s n fault source).can = s.can ∧
    (State.inputFails s n fault source).net = s.net ∧ (State.inputFails s n fault source).hi = s.hi ∧
    (State.inputFails s n fault source).xings = s.xings ∧ (State.inputFails s n fault source).mg = s.mg ∧
    (State.inputFails s n fault source).recorder = s.recorder ∧ (State.inputFails s n fault source).log = s.log ∧
    (State.inputFails s n fault source).test = s.test ∧ (State.inputFails s n fault source).update = s.update ∧
    (State.inputFails s n fault source).draws = s.draws ∧ (State.inputFails s n fault source).outbox = s.outbox ∧
    (State.inputFails s n fault source).diag = s.diag ∧ (State.inputFails s n fault source).pending = s.pending := by
  simp [State.inputFails, State.report_frame _ _ _ _ _, State.modInput_frame _ _ _]

theorem State.inputChange_frame (s : State) (n : ℕ) (level : Bool) (since : ℕ) :
    (State.inputChange s n level since).unit = s.unit ∧ (State.inputChange s n level since).opUs = s.opUs ∧
    (State.inputChange s n level since).savedOpUs = s.savedOpUs ∧
    (State.inputChange s n level since).powerCycle = s.powerCycle ∧
    (State.inputChange s n level since).epoch = s.epoch ∧ (State.inputChange s n level since).power = s.power ∧
    (State.inputChange s n level since).rt = s.rt ∧ (State.inputChange s n level since).sec = s.sec ∧
    (State.inputChange s n level since).station = s.station ∧ (State.inputChange s n level since).bench = s.bench ∧
    (State.inputChange s n level since).eng = s.eng ∧ (State.inputChange s n level since).vote = s.vote ∧
    (State.inputChange s n level since).ash = s.ash ∧ (State.inputChange s n level since).can = s.can ∧
    (State.inputChange s n level since).net = s.net ∧ (State.inputChange s n level since).hi = s.hi ∧
    (State.inputChange s n level since).xings = s.xings ∧ (State.inputChange s n level since).mg = s.mg ∧
    (State.inputChange s n level since).recorder = s.recorder ∧ (State.inputChange s n level since).log = s.log ∧
    (State.inputChange s n level since).test = s.test ∧ (State.inputChange s n level since).update = s.update ∧
    (State.inputChange s n level since).draws = s.draws ∧ (State.inputChange s n level since).outbox = s.outbox ∧
    (State.inputChange s n level since).diag = s.diag ∧ (State.inputChange s n level since).pending = s.pending := by
  simp [State.inputChange, State.modInput_frame _ _ _]

theorem State.sourceFails_frame (s : State) (k : ℕ) (cause : ℕ) :
    (State.sourceFails s k cause).unit = s.unit ∧ (State.sourceFails s k cause).opUs = s.opUs ∧
    (State.sourceFails s k cause).savedOpUs = s.savedOpUs ∧ (State.sourceFails s k cause).powerCycle = s.powerCycle ∧
    (State.sourceFails s k cause).epoch = s.epoch ∧ (State.sourceFails s k cause).power = s.power ∧
    (State.sourceFails s k cause).rt = s.rt ∧ (State.sourceFails s k cause).sec = s.sec ∧
    (State.sourceFails s k cause).station = s.station ∧ (State.sourceFails s k cause).bench = s.bench ∧
    (State.sourceFails s k cause).eng = s.eng ∧ (State.sourceFails s k cause).vote = s.vote ∧
    (State.sourceFails s k cause).ash = s.ash ∧ (State.sourceFails s k cause).can = s.can ∧
    (State.sourceFails s k cause).net = s.net ∧ (State.sourceFails s k cause).hi = s.hi ∧
    (State.sourceFails s k cause).xings = s.xings ∧ (State.sourceFails s k cause).mg = s.mg ∧
    (State.sourceFails s k cause).recorder = s.recorder ∧ (State.sourceFails s k cause).log = s.log ∧
    (State.sourceFails s k cause).test = s.test ∧ (State.sourceFails s k cause).update = s.update ∧
    (State.sourceFails s k cause).draws = s.draws ∧ (State.sourceFails s k cause).outbox = s.outbox ∧
    (State.sourceFails s k cause).diag = s.diag ∧ (State.sourceFails s k cause).pending = s.pending := by
  simp [State.sourceFails, State.inputFails_frame _ _ _ _, State.report_frame _ _ _ _ _,
        State.modSource_frame _ _ _]

theorem State.judgeInput_frame (s : State) (c : PulseCheck) (n : ℕ) :
    (State.judgeInput s c n).unit = s.unit ∧ (State.judgeInput s c n).opUs = s.opUs ∧
    (State.judgeInput s c n).savedOpUs = s.savedOpUs ∧ (State.judgeInput s c n).powerCycle = s.powerCycle ∧
    (State.judgeInput s c n).epoch = s.epoch ∧ (State.judgeInput s c n).power = s.power ∧
    (State.judgeInput s c n).rt = s.rt ∧ (State.judgeInput s c n).sec = s.sec ∧
    (State.judgeInput s c n).station = s.station ∧ (State.judgeInput s c n).bench = s.bench ∧
    (State.judgeInput s c n).eng = s.eng ∧ (State.judgeInput s c n).vote = s.vote ∧
    (State.judgeInput s c n).ash = s.ash ∧ (State.judgeInput s c n).can = s.can ∧ (State.judgeInput s c n).net = s.net
    ∧ (State.judgeInput s c n).hi = s.hi ∧ (State.judgeInput s c n).xings = s.xings ∧
    (State.judgeInput s c n).mg = s.mg ∧ (State.judgeInput s c n).recorder = s.recorder ∧
    (State.judgeInput s c n).log = s.log ∧ (State.judgeInput s c n).test = s.test ∧
    (State.judgeInput s c n).update = s.update ∧ (State.judgeInput s c n).draws = s.draws ∧
    (State.judgeInput s c n).outbox = s.outbox ∧ (State.judgeInput s c n).diag = s.diag ∧
    (State.judgeInput s c n).pending = s.pending := by
  simp [State.judgeInput, State.inputFails_frame _ _ _ _, State.modInput_frame _ _ _, State.report_frame _ _ _ _ _]

theorem State.pulseCheck_frame (s : State) (c : PulseCheck) :
    (State.pulseCheck s c).unit = s.unit ∧ (State.pulseCheck s c).opUs = s.opUs ∧
    (State.pulseCheck s c).savedOpUs = s.savedOpUs ∧ (State.pulseCheck s c).powerCycle = s.powerCycle ∧
    (State.pulseCheck s c).epoch = s.epoch ∧ (State.pulseCheck s c).power = s.power ∧ (State.pulseCheck s c).rt = s.rt
    ∧ (State.pulseCheck s c).sec = s.sec ∧ (State.pulseCheck s c).station = s.station ∧
    (State.pulseCheck s c).bench = s.bench ∧ (State.pulseCheck s c).eng = s.eng ∧ (State.pulseCheck s c).vote = s.vote
    ∧ (State.pulseCheck s c).ash = s.ash ∧ (State.pulseCheck s c).can = s.can ∧ (State.pulseCheck s c).net = s.net ∧
    (State.pulseCheck s c).hi = s.hi ∧ (State.pulseCheck s c).xings = s.xings ∧ (State.pulseCheck s c).mg = s.mg ∧
    (State.pulseCheck s c).recorder = s.recorder ∧ (State.pulseCheck s c).log = s.log ∧
    (State.pulseCheck s c).test = s.test ∧ (State.pulseCheck s c).update = s.update ∧
    (State.pulseCheck s c).draws = s.draws ∧ (State.pulseCheck s c).outbox = s.outbox ∧
    (State.pulseCheck s c).diag = s.diag ∧ (State.pulseCheck s c).pending = s.pending := by
  simp only [State.pulseCheck]; (repeat' split) <;>
    simp [State.judgeInput_frame _ _ _, State.sourceFails_frame _ _ _, State.modSource_frame _ _ _]

theorem State.externalFault_frame (s : State) (n : ℕ) (cause : ℕ) (up : ℤ) (um : ℤ) (ma : ℕ) :
    (State.externalFault s n cause up um ma).unit = s.unit ∧ (State.externalFault s n cause up um ma).opUs = s.opUs ∧
    (State.externalFault s n cause up um ma).savedOpUs = s.savedOpUs ∧
    (State.externalFault s n cause up um ma).powerCycle = s.powerCycle ∧
    (State.externalFault s n cause up um ma).epoch = s.epoch ∧
    (State.externalFault s n cause up um ma).power = s.power ∧ (State.externalFault s n cause up um ma).rt = s.rt ∧
    (State.externalFault s n cause up um ma).sec = s.sec ∧
    (State.externalFault s n cause up um ma).station = s.station ∧
    (State.externalFault s n cause up um ma).bench = s.bench ∧ (State.externalFault s n cause up um ma).eng = s.eng ∧
    (State.externalFault s n cause up um ma).vote = s.vote ∧ (State.externalFault s n cause up um ma).ash = s.ash ∧
    (State.externalFault s n cause up um ma).can = s.can ∧ (State.externalFault s n cause up um ma).net = s.net ∧
    (State.externalFault s n cause up um ma).hi = s.hi ∧ (State.externalFault s n cause up um ma).xings = s.xings ∧
    (State.externalFault s n cause up um ma).mg = s.mg ∧
    (State.externalFault s n cause up um ma).recorder = s.recorder ∧
    (State.externalFault s n cause up um ma).log = s.log ∧ (State.externalFault s n cause up um ma).test = s.test ∧
    (State.externalFault s n cause up um ma).update = s.update ∧
    (State.externalFault s n cause up um ma).draws = s.draws ∧
    (State.externalFault s n cause up um ma).outbox = s.outbox ∧
    (State.externalFault s n cause up um ma).diag = s.diag ∧
    (State.externalFault s n cause up um ma).pending = s.pending := by
  simp [State.externalFault, State.report_frame _ _ _ _ _, State.modOutput_frame _ _ _]

theorem State.crossFeed_frame (s : State) (m : ℕ) (p : ℕ × ℕ) :
    (State.crossFeed s m p).unit = s.unit ∧ (State.crossFeed s m p).opUs = s.opUs ∧
    (State.crossFeed s m p).savedOpUs = s.savedOpUs ∧ (State.crossFeed s m p).powerCycle = s.powerCycle ∧
    (State.crossFeed s m p).epoch = s.epoch ∧ (State.crossFeed s m p).power = s.power ∧
    (State.crossFeed s m p).rt = s.rt ∧ (State.crossFeed s m p).sec = s.sec ∧
    (State.crossFeed s m p).station = s.station ∧ (State.crossFeed s m p).bench = s.bench ∧
    (State.crossFeed s m p).eng = s.eng ∧ (State.crossFeed s m p).vote = s.vote ∧ (State.crossFeed s m p).ash = s.ash
    ∧ (State.crossFeed s m p).can = s.can ∧ (State.crossFeed s m p).net = s.net ∧ (State.crossFeed s m p).hi = s.hi ∧
    (State.crossFeed s m p).xings = s.xings ∧ (State.crossFeed s m p).mg = s.mg ∧
    (State.crossFeed s m p).recorder = s.recorder ∧ (State.crossFeed s m p).log = s.log ∧
    (State.crossFeed s m p).test = s.test ∧ (State.crossFeed s m p).update = s.update ∧
    (State.crossFeed s m p).draws = s.draws ∧ (State.crossFeed s m p).outbox = s.outbox ∧
    (State.crossFeed s m p).diag = s.diag ∧ (State.crossFeed s m p).pending = s.pending := by
  simp [State.crossFeed, State.report_frame _ _ _ _ _, State.modOutput_frame _ _ _]

theorem State.switchTest_frame (s : State) (t : SwitchTest) :
    (State.switchTest s t).unit = s.unit ∧ (State.switchTest s t).opUs = s.opUs ∧
    (State.switchTest s t).savedOpUs = s.savedOpUs ∧ (State.switchTest s t).powerCycle = s.powerCycle ∧
    (State.switchTest s t).epoch = s.epoch ∧ (State.switchTest s t).power = s.power ∧ (State.switchTest s t).rt = s.rt
    ∧ (State.switchTest s t).sec = s.sec ∧ (State.switchTest s t).station = s.station ∧
    (State.switchTest s t).bench = s.bench ∧ (State.switchTest s t).eng = s.eng ∧ (State.switchTest s t).vote = s.vote
    ∧ (State.switchTest s t).ash = s.ash ∧ (State.switchTest s t).can = s.can ∧ (State.switchTest s t).net = s.net ∧
    (State.switchTest s t).hi = s.hi ∧ (State.switchTest s t).xings = s.xings ∧ (State.switchTest s t).mg = s.mg ∧
    (State.switchTest s t).recorder = s.recorder ∧ (State.switchTest s t).log = s.log ∧
    (State.switchTest s t).test = s.test ∧ (State.switchTest s t).update = s.update ∧
    (State.switchTest s t).draws = s.draws ∧ (State.switchTest s t).outbox = s.outbox ∧
    (State.switchTest s t).diag = s.diag ∧ (State.switchTest s t).pending = s.pending := by
  simp [State.switchTest, State.crossFeed_frame _ _ _, State.modOutput_frame _ _ _,
        State.externalFault_frame _ _ _ _ _ _]

theorem State.measureOff_frame (s : State) (m : FeedMeasure) :
    (State.measureOff s m).unit = s.unit ∧ (State.measureOff s m).opUs = s.opUs ∧
    (State.measureOff s m).savedOpUs = s.savedOpUs ∧ (State.measureOff s m).powerCycle = s.powerCycle ∧
    (State.measureOff s m).epoch = s.epoch ∧ (State.measureOff s m).power = s.power ∧ (State.measureOff s m).rt = s.rt
    ∧ (State.measureOff s m).sec = s.sec ∧ (State.measureOff s m).station = s.station ∧
    (State.measureOff s m).bench = s.bench ∧ (State.measureOff s m).eng = s.eng ∧ (State.measureOff s m).vote = s.vote
    ∧ (State.measureOff s m).ash = s.ash ∧ (State.measureOff s m).can = s.can ∧ (State.measureOff s m).net = s.net ∧
    (State.measureOff s m).hi = s.hi ∧ (State.measureOff s m).xings = s.xings ∧ (State.measureOff s m).mg = s.mg ∧
    (State.measureOff s m).recorder = s.recorder ∧ (State.measureOff s m).log = s.log ∧
    (State.measureOff s m).test = s.test ∧ (State.measureOff s m).update = s.update ∧
    (State.measureOff s m).draws = s.draws ∧ (State.measureOff s m).outbox = s.outbox ∧
    (State.measureOff s m).diag = s.diag ∧ (State.measureOff s m).pending = s.pending := by
  simp [State.measureOff, State.externalFault_frame _ _ _ _ _ _, State.modOutput_frame _ _ _]

theorem State.overload_frame (s : State) (n : ℕ) :
    (State.overload s n).unit = s.unit ∧ (State.overload s n).opUs = s.opUs ∧
    (State.overload s n).savedOpUs = s.savedOpUs ∧ (State.overload s n).powerCycle = s.powerCycle ∧
    (State.overload s n).epoch = s.epoch ∧ (State.overload s n).power = s.power ∧ (State.overload s n).rt = s.rt ∧
    (State.overload s n).sec = s.sec ∧ (State.overload s n).station = s.station ∧ (State.overload s n).bench = s.bench
    ∧ (State.overload s n).eng = s.eng ∧ (State.overload s n).vote = s.vote ∧ (State.overload s n).ash = s.ash ∧
    (State.overload s n).can = s.can ∧ (State.overload s n).net = s.net ∧ (State.overload s n).hi = s.hi ∧
    (State.overload s n).xings = s.xings ∧ (State.overload s n).mg = s.mg ∧ (State.overload s n).recorder = s.recorder
    ∧ (State.overload s n).log = s.log ∧ (State.overload s n).test = s.test ∧ (State.overload s n).update = s.update ∧
    (State.overload s n).draws = s.draws ∧ (State.overload s n).outbox = s.outbox ∧ (State.overload s n).diag = s.diag
    ∧ (State.overload s n).pending = s.pending := by
  simp [State.overload, State.modOutput_frame _ _ _]

theorem State.takeDemands_frame (s : State) (w : Word) :
    (State.takeDemands s w).unit = s.unit ∧ (State.takeDemands s w).opUs = s.opUs ∧
    (State.takeDemands s w).savedOpUs = s.savedOpUs ∧ (State.takeDemands s w).powerCycle = s.powerCycle ∧
    (State.takeDemands s w).epoch = s.epoch ∧ (State.takeDemands s w).power = s.power ∧
    (State.takeDemands s w).rt = s.rt ∧ (State.takeDemands s w).sec = s.sec ∧
    (State.takeDemands s w).station = s.station ∧ (State.takeDemands s w).bench = s.bench ∧
    (State.takeDemands s w).eng = s.eng ∧ (State.takeDemands s w).vote = s.vote ∧ (State.takeDemands s w).ash = s.ash
    ∧ (State.takeDemands s w).can = s.can ∧ (State.takeDemands s w).net = s.net ∧ (State.takeDemands s w).hi = s.hi ∧
    (State.takeDemands s w).xings = s.xings ∧ (State.takeDemands s w).mg = s.mg ∧
    (State.takeDemands s w).recorder = s.recorder ∧ (State.takeDemands s w).log = s.log ∧
    (State.takeDemands s w).test = s.test ∧ (State.takeDemands s w).update = s.update ∧
    (State.takeDemands s w).draws = s.draws ∧ (State.takeDemands s w).outbox = s.outbox ∧
    (State.takeDemands s w).diag = s.diag ∧ (State.takeDemands s w).pending = s.pending := by
  simp [State.takeDemands]

theorem State.pulseStart_frame (s : State) (k : ℕ) :
    (State.pulseStart s k).unit = s.unit ∧ (State.pulseStart s k).opUs = s.opUs ∧ (State.pulseStart s k).savedOpUs =
    s.savedOpUs ∧ (State.pulseStart s k).powerCycle = s.powerCycle ∧ (State.pulseStart s k).epoch = s.epoch ∧
    (State.pulseStart s k).power = s.power ∧ (State.pulseStart s k).rt = s.rt ∧ (State.pulseStart s k).sec = s.sec ∧
    (State.pulseStart s k).station = s.station ∧ (State.pulseStart s k).bench = s.bench ∧ (State.pulseStart s k).eng =
    s.eng ∧ (State.pulseStart s k).vote = s.vote ∧ (State.pulseStart s k).ash = s.ash ∧ (State.pulseStart s k).can =
    s.can ∧ (State.pulseStart s k).net = s.net ∧ (State.pulseStart s k).hi = s.hi ∧ (State.pulseStart s k).xings =
    s.xings ∧ (State.pulseStart s k).mg = s.mg ∧ (State.pulseStart s k).recorder = s.recorder ∧ (State.pulseStart s
    k).log = s.log ∧ (State.pulseStart s k).test = s.test ∧ (State.pulseStart s k).update = s.update ∧
    (State.pulseStart s k).draws = s.draws ∧ (State.pulseStart s k).diag = s.diag ∧ (State.pulseStart s k).outbox =
    s.outbox ∧ (State.pulseStart s k).pending = s.pending := by
  simp [State.pulseStart, State.modSource_frame _ _ _]

theorem State.measureGroup_frame (s : State) (g : ℕ) (inputSide : Bool) (mv : ℕ) :
    (State.measureGroup s g inputSide mv).unit = s.unit ∧ (State.measureGroup s g inputSide mv).opUs = s.opUs ∧
    (State.measureGroup s g inputSide mv).savedOpUs = s.savedOpUs ∧
    (State.measureGroup s g inputSide mv).powerCycle = s.powerCycle ∧
    (State.measureGroup s g inputSide mv).epoch = s.epoch ∧ (State.measureGroup s g inputSide mv).power = s.power ∧
    (State.measureGroup s g inputSide mv).rt = s.rt ∧ (State.measureGroup s g inputSide mv).sec = s.sec ∧
    (State.measureGroup s g inputSide mv).station = s.station ∧ (State.measureGroup s g inputSide mv).bench = s.bench
    ∧ (State.measureGroup s g inputSide mv).eng = s.eng ∧ (State.measureGroup s g inputSide mv).vote = s.vote ∧
    (State.measureGroup s g inputSide mv).ash = s.ash ∧ (State.measureGroup s g inputSide mv).can = s.can ∧
    (State.measureGroup s g inputSide mv).net = s.net ∧ (State.measureGroup s g inputSide mv).hi = s.hi ∧
    (State.measureGroup s g inputSide mv).xings = s.xings ∧ (State.measureGroup s g inputSide mv).mg = s.mg ∧
    (State.measureGroup s g inputSide mv).recorder = s.recorder ∧ (State.measureGroup s g inputSide mv).log = s.log ∧
    (State.measureGroup s g inputSide mv).test = s.test ∧ (State.measureGroup s g inputSide mv).update = s.update ∧
    (State.measureGroup s g inputSide mv).draws = s.draws ∧ (State.measureGroup s g inputSide mv).outbox = s.outbox ∧
    (State.measureGroup s g inputSide mv).diag = s.diag ∧ (State.measureGroup s g inputSide mv).pending = s.pending
    := by
  simp [State.measureGroup, State.modGroup_frame _ _ _, State.report_frame _ _ _ _ _]

theorem State.linkBack_frame (s : State) :
    (State.linkBack s).unit = s.unit ∧ (State.linkBack s).opUs = s.opUs ∧ (State.linkBack s).savedOpUs = s.savedOpUs ∧
    (State.linkBack s).powerCycle = s.powerCycle ∧ (State.linkBack s).epoch = s.epoch ∧ (State.linkBack s).rt = s.rt ∧
    (State.linkBack s).sec = s.sec ∧ (State.linkBack s).station = s.station ∧ (State.linkBack s).bench = s.bench ∧
    (State.linkBack s).eng = s.eng ∧ (State.linkBack s).vote = s.vote ∧ (State.linkBack s).ash = s.ash ∧
    (State.linkBack s).field = s.field ∧ (State.linkBack s).can = s.can ∧ (State.linkBack s).net = s.net ∧
    (State.linkBack s).hi = s.hi ∧ (State.linkBack s).xings = s.xings ∧ (State.linkBack s).mg = s.mg ∧
    (State.linkBack s).recorder = s.recorder ∧ (State.linkBack s).log = s.log ∧ (State.linkBack s).test = s.test ∧
    (State.linkBack s).update = s.update ∧ (State.linkBack s).draws = s.draws ∧ (State.linkBack s).outbox = s.outbox ∧
    (State.linkBack s).diag = s.diag ∧ (State.linkBack s).pending = s.pending := by
  simp [State.linkBack, State.causeOff_frame _ _]

theorem State.takeReport_frame (s : State) :
    (State.takeReport s).unit = s.unit ∧ (State.takeReport s).opUs = s.opUs ∧ (State.takeReport s).savedOpUs =
    s.savedOpUs ∧ (State.takeReport s).powerCycle = s.powerCycle ∧ (State.takeReport s).epoch = s.epoch ∧
    (State.takeReport s).power = s.power ∧ (State.takeReport s).rt = s.rt ∧ (State.takeReport s).sec = s.sec ∧
    (State.takeReport s).station = s.station ∧ (State.takeReport s).bench = s.bench ∧ (State.takeReport s).eng = s.eng
    ∧ (State.takeReport s).vote = s.vote ∧ (State.takeReport s).ash = s.ash ∧ (State.takeReport s).can = s.can ∧
    (State.takeReport s).net = s.net ∧ (State.takeReport s).hi = s.hi ∧ (State.takeReport s).xings = s.xings ∧
    (State.takeReport s).mg = s.mg ∧ (State.takeReport s).log = s.log ∧ (State.takeReport s).test = s.test ∧
    (State.takeReport s).update = s.update ∧ (State.takeReport s).draws = s.draws ∧ (State.takeReport s).diag = s.diag
    ∧ (State.takeReport s).outbox = s.outbox ∧ (State.takeReport s).pending = s.pending := by
  unfold State.takeReport; split <;> simp [State.event_frame _ _ _ _ _ _ _ _]

theorem State.takeEdges_frame (s : State) :
    (State.takeEdges s).unit = s.unit ∧ (State.takeEdges s).opUs = s.opUs ∧ (State.takeEdges s).savedOpUs =
    s.savedOpUs ∧ (State.takeEdges s).powerCycle = s.powerCycle ∧ (State.takeEdges s).epoch = s.epoch ∧
    (State.takeEdges s).power = s.power ∧ (State.takeEdges s).rt = s.rt ∧ (State.takeEdges s).sec = s.sec ∧
    (State.takeEdges s).station = s.station ∧ (State.takeEdges s).bench = s.bench ∧ (State.takeEdges s).eng = s.eng ∧
    (State.takeEdges s).vote = s.vote ∧ (State.takeEdges s).ash = s.ash ∧ (State.takeEdges s).can = s.can ∧
    (State.takeEdges s).net = s.net ∧ (State.takeEdges s).hi = s.hi ∧ (State.takeEdges s).xings = s.xings ∧
    (State.takeEdges s).mg = s.mg ∧ (State.takeEdges s).log = s.log ∧ (State.takeEdges s).test = s.test ∧
    (State.takeEdges s).update = s.update ∧ (State.takeEdges s).draws = s.draws ∧ (State.takeEdges s).diag = s.diag ∧
    (State.takeEdges s).outbox = s.outbox ∧ (State.takeEdges s).pending = s.pending := by
  simp [State.takeEdges, State.event_frame _ _ _ _ _ _ _ _]

theorem State.demandDrops_frame (s : State) (was : List FieldOutput) (drops : List (ℕ × ℕ × ℕ)) :
    (State.demandDrops s was drops).unit = s.unit ∧ (State.demandDrops s was drops).opUs = s.opUs ∧ (State.demandDrops
    s was drops).savedOpUs = s.savedOpUs ∧ (State.demandDrops s was drops).powerCycle = s.powerCycle ∧
    (State.demandDrops s was drops).epoch = s.epoch ∧ (State.demandDrops s was drops).power = s.power ∧
    (State.demandDrops s was drops).rt = s.rt ∧ (State.demandDrops s was drops).sec = s.sec ∧ (State.demandDrops s was
    drops).station = s.station ∧ (State.demandDrops s was drops).bench = s.bench ∧ (State.demandDrops s was drops).eng
    = s.eng ∧ (State.demandDrops s was drops).vote = s.vote ∧ (State.demandDrops s was drops).ash = s.ash ∧
    (State.demandDrops s was drops).can = s.can ∧ (State.demandDrops s was drops).net = s.net ∧ (State.demandDrops s
    was drops).hi = s.hi ∧ (State.demandDrops s was drops).xings = s.xings ∧ (State.demandDrops s was drops).mg = s.mg
    ∧ (State.demandDrops s was drops).recorder = s.recorder ∧ (State.demandDrops s was drops).log = s.log ∧
    (State.demandDrops s was drops).test = s.test ∧ (State.demandDrops s was drops).update = s.update ∧
    (State.demandDrops s was drops).draws = s.draws ∧ (State.demandDrops s was drops).diag = s.diag ∧
    (State.demandDrops s was drops).outbox = s.outbox ∧ (State.demandDrops s was drops).pending = s.pending := by
  simp [State.demandDrops, State.crossFeed_frame _ _ _]

theorem State.coreFrame_frame (s : State) (intact : Bool) (drops : List (ℕ × ℕ × ℕ)) :
    (State.coreFrame s intact drops).unit = s.unit ∧ (State.coreFrame s intact drops).opUs = s.opUs ∧
    (State.coreFrame s intact drops).savedOpUs = s.savedOpUs ∧
    (State.coreFrame s intact drops).powerCycle = s.powerCycle ∧ (State.coreFrame s intact drops).epoch = s.epoch ∧
    (State.coreFrame s intact drops).rt = s.rt ∧ (State.coreFrame s intact drops).sec = s.sec ∧
    (State.coreFrame s intact drops).station = s.station ∧ (State.coreFrame s intact drops).bench = s.bench ∧
    (State.coreFrame s intact drops).eng = s.eng ∧ (State.coreFrame s intact drops).vote = s.vote ∧
    (State.coreFrame s intact drops).ash = s.ash ∧ (State.coreFrame s intact drops).can = s.can ∧
    (State.coreFrame s intact drops).net = s.net ∧ (State.coreFrame s intact drops).hi = s.hi ∧
    (State.coreFrame s intact drops).xings = s.xings ∧ (State.coreFrame s intact drops).mg = s.mg ∧
    (State.coreFrame s intact drops).log = s.log ∧ (State.coreFrame s intact drops).test = s.test ∧
    (State.coreFrame s intact drops).update = s.update ∧ (State.coreFrame s intact drops).draws = s.draws ∧
    (State.coreFrame s intact drops).outbox = s.outbox ∧ (State.coreFrame s intact drops).diag = s.diag ∧
    (State.coreFrame s intact drops).pending = s.pending := by
  simp [State.coreFrame, State.linkBack_frame _, State.demandDrops_frame _ _ _, State.takeDemands_frame _ _, State.event_frame _ _ _ _ _ _ _ _]

theorem State.fieldFrame_frame (s : State) (intact : Bool) :
    (State.fieldFrame s intact).unit = s.unit ∧ (State.fieldFrame s intact).opUs = s.opUs ∧
    (State.fieldFrame s intact).savedOpUs = s.savedOpUs ∧ (State.fieldFrame s intact).powerCycle = s.powerCycle ∧
    (State.fieldFrame s intact).rt = s.rt ∧ (State.fieldFrame s intact).sec = s.sec ∧
    (State.fieldFrame s intact).station = s.station ∧ (State.fieldFrame s intact).ash = s.ash ∧
    (State.fieldFrame s intact).can = s.can ∧ (State.fieldFrame s intact).xings = s.xings ∧
    (State.fieldFrame s intact).log = s.log ∧ (State.fieldFrame s intact).test = s.test ∧
    (State.fieldFrame s intact).update = s.update ∧ (State.fieldFrame s intact).draws = s.draws ∧
    (State.fieldFrame s intact).diag = s.diag ∧ (State.fieldFrame s intact).pending = s.pending := by
  simp [State.fieldFrame, State.tryRun_frame _, State.linkBack_frame _, State.takeReport_frame _, State.takeEdges_frame _, State.event_frame _ _ _ _ _ _ _ _]

theorem State.linkLoss_frame (s : State) (d : LinkLoss) :
    (State.linkLoss s d).unit = s.unit ∧ (State.linkLoss s d).opUs = s.opUs ∧
    (State.linkLoss s d).savedOpUs = s.savedOpUs ∧ (State.linkLoss s d).powerCycle = s.powerCycle ∧
    (State.linkLoss s d).epoch = s.epoch ∧ (State.linkLoss s d).rt = s.rt ∧ (State.linkLoss s d).station = s.station ∧
    (State.linkLoss s d).ash = s.ash ∧ (State.linkLoss s d).net = s.net ∧ (State.linkLoss s d).xings = s.xings ∧
    (State.linkLoss s d).log = s.log ∧ (State.linkLoss s d).test = s.test ∧ (State.linkLoss s d).update = s.update ∧
    (State.linkLoss s d).draws = s.draws ∧ (State.linkLoss s d).diag = s.diag ∧
    (State.linkLoss s d).pending = s.pending := by
  simp [State.linkLoss, State.enterSafe_frame _ _ _, State.causeOn_frame _ _, State.event_frame _ _ _ _ _ _ _ _]

theorem State.resetField_frame (s : State) :
    (State.resetField s).unit = s.unit ∧ (State.resetField s).opUs = s.opUs ∧
    (State.resetField s).savedOpUs = s.savedOpUs ∧ (State.resetField s).powerCycle = s.powerCycle ∧
    (State.resetField s).epoch = s.epoch ∧ (State.resetField s).power = s.power ∧ (State.resetField s).rt = s.rt ∧
    (State.resetField s).sec = s.sec ∧ (State.resetField s).station = s.station ∧ (State.resetField s).bench = s.bench
    ∧ (State.resetField s).eng = s.eng ∧ (State.resetField s).vote = s.vote ∧ (State.resetField s).ash = s.ash ∧
    (State.resetField s).can = s.can ∧ (State.resetField s).net = s.net ∧ (State.resetField s).hi = s.hi ∧
    (State.resetField s).xings = s.xings ∧ (State.resetField s).mg = s.mg ∧ (State.resetField s).recorder = s.recorder
    ∧ (State.resetField s).log = s.log ∧ (State.resetField s).test = s.test ∧ (State.resetField s).update = s.update ∧
    (State.resetField s).draws = s.draws ∧ (State.resetField s).outbox = s.outbox ∧ (State.resetField s).diag = s.diag
    ∧ (State.resetField s).pending = s.pending := by
  simp [State.resetField]

end Sys2Proof.Machine
end

