-- ==== Sys2Proof/Laws/Permit.lean ====
section
/-! SUPPORT. What the operations of Machine/Permit.lean leave alone: one lemma for each, naming every part of the state that
it does not write. -/

namespace Sys2Proof.Machine

open Sys2Proof

theorem State.ashEval_frame (s : State) :
    (State.ashEval s).unit = s.unit ∧ (State.ashEval s).opUs = s.opUs ∧ (State.ashEval s).savedOpUs = s.savedOpUs ∧
    (State.ashEval s).powerCycle = s.powerCycle ∧ (State.ashEval s).epoch = s.epoch ∧
    (State.ashEval s).power = s.power ∧ (State.ashEval s).rt = s.rt ∧ (State.ashEval s).sec = s.sec ∧
    (State.ashEval s).station = s.station ∧ (State.ashEval s).bench = s.bench ∧ (State.ashEval s).eng = s.eng ∧
    (State.ashEval s).vote = s.vote ∧ (State.ashEval s).field = s.field ∧ (State.ashEval s).can = s.can ∧
    (State.ashEval s).net = s.net ∧ (State.ashEval s).hi = s.hi ∧ (State.ashEval s).xings = s.xings ∧
    (State.ashEval s).mg = s.mg ∧ (State.ashEval s).log = s.log ∧ (State.ashEval s).test = s.test ∧
    (State.ashEval s).update = s.update ∧ (State.ashEval s).draws = s.draws ∧ (State.ashEval s).outbox = s.outbox ∧
    (State.ashEval s).diag = s.diag ∧ (State.ashEval s).pending = s.pending := by
  simp [State.ashEval, State.event_frame _ _ _ _ _ _ _ _]

theorem State.holdLines_frame (s : State) (lines : HoldLines) :
    (State.holdLines s lines).unit = s.unit ∧ (State.holdLines s lines).opUs = s.opUs ∧
    (State.holdLines s lines).savedOpUs = s.savedOpUs ∧ (State.holdLines s lines).powerCycle = s.powerCycle ∧
    (State.holdLines s lines).epoch = s.epoch ∧ (State.holdLines s lines).power = s.power ∧
    (State.holdLines s lines).rt = s.rt ∧ (State.holdLines s lines).sec = s.sec ∧
    (State.holdLines s lines).station = s.station ∧ (State.holdLines s lines).bench = s.bench ∧
    (State.holdLines s lines).eng = s.eng ∧ (State.holdLines s lines).vote = s.vote ∧
    (State.holdLines s lines).field = s.field ∧ (State.holdLines s lines).can = s.can ∧
    (State.holdLines s lines).net = s.net ∧ (State.holdLines s lines).hi = s.hi ∧
    (State.holdLines s lines).xings = s.xings ∧ (State.holdLines s lines).mg = s.mg ∧
    (State.holdLines s lines).log = s.log ∧ (State.holdLines s lines).test = s.test ∧
    (State.holdLines s lines).update = s.update ∧ (State.holdLines s lines).draws = s.draws ∧
    (State.holdLines s lines).outbox = s.outbox ∧ (State.holdLines s lines).diag = s.diag ∧
    (State.holdLines s lines).pending = s.pending := by
  unfold State.holdLines; split <;> simp [State.ashEval_frame _, State.event_frame _ _ _ _ _ _ _ _]

theorem State.holdLockstep_frame (s : State) (on : Bool) :
    (State.holdLockstep s on).unit = s.unit ∧ (State.holdLockstep s on).opUs = s.opUs ∧
    (State.holdLockstep s on).savedOpUs = s.savedOpUs ∧ (State.holdLockstep s on).powerCycle = s.powerCycle ∧
    (State.holdLockstep s on).epoch = s.epoch ∧ (State.holdLockstep s on).power = s.power ∧
    (State.holdLockstep s on).rt = s.rt ∧ (State.holdLockstep s on).sec = s.sec ∧
    (State.holdLockstep s on).station = s.station ∧ (State.holdLockstep s on).bench = s.bench ∧
    (State.holdLockstep s on).eng = s.eng ∧ (State.holdLockstep s on).vote = s.vote ∧
    (State.holdLockstep s on).field = s.field ∧ (State.holdLockstep s on).can = s.can ∧
    (State.holdLockstep s on).net = s.net ∧ (State.holdLockstep s on).hi = s.hi ∧
    (State.holdLockstep s on).xings = s.xings ∧ (State.holdLockstep s on).mg = s.mg ∧
    (State.holdLockstep s on).log = s.log ∧ (State.holdLockstep s on).test = s.test ∧
    (State.holdLockstep s on).update = s.update ∧ (State.holdLockstep s on).draws = s.draws ∧
    (State.holdLockstep s on).outbox = s.outbox ∧ (State.holdLockstep s on).diag = s.diag ∧
    (State.holdLockstep s on).pending = s.pending := by
  simp [State.holdLockstep, State.holdLines_frame _ _]

theorem State.holdDebug_frame (s : State) (on : Bool) :
    (State.holdDebug s on).unit = s.unit ∧ (State.holdDebug s on).opUs = s.opUs ∧
    (State.holdDebug s on).savedOpUs = s.savedOpUs ∧ (State.holdDebug s on).powerCycle = s.powerCycle ∧
    (State.holdDebug s on).epoch = s.epoch ∧ (State.holdDebug s on).power = s.power ∧ (State.holdDebug s on).rt = s.rt
    ∧ (State.holdDebug s on).sec = s.sec ∧ (State.holdDebug s on).station = s.station ∧
    (State.holdDebug s on).bench = s.bench ∧ (State.holdDebug s on).eng = s.eng ∧ (State.holdDebug s on).vote = s.vote
    ∧ (State.holdDebug s on).field = s.field ∧ (State.holdDebug s on).can = s.can ∧ (State.holdDebug s on).net = s.net
    ∧ (State.holdDebug s on).hi = s.hi ∧ (State.holdDebug s on).xings = s.xings ∧ (State.holdDebug s on).mg = s.mg ∧
    (State.holdDebug s on).log = s.log ∧ (State.holdDebug s on).test = s.test ∧
    (State.holdDebug s on).update = s.update ∧ (State.holdDebug s on).draws = s.draws ∧
    (State.holdDebug s on).outbox = s.outbox ∧ (State.holdDebug s on).diag = s.diag ∧
    (State.holdDebug s on).pending = s.pending := by
  simp [State.holdDebug, State.holdLines_frame _ _]

theorem State.holdLifecycle_frame (s : State) :
    (State.holdLifecycle s).unit = s.unit ∧ (State.holdLifecycle s).opUs = s.opUs ∧
    (State.holdLifecycle s).savedOpUs = s.savedOpUs ∧ (State.holdLifecycle s).powerCycle = s.powerCycle ∧
    (State.holdLifecycle s).epoch = s.epoch ∧ (State.holdLifecycle s).power = s.power ∧
    (State.holdLifecycle s).rt = s.rt ∧ (State.holdLifecycle s).sec = s.sec ∧
    (State.holdLifecycle s).station = s.station ∧ (State.holdLifecycle s).bench = s.bench ∧
    (State.holdLifecycle s).eng = s.eng ∧ (State.holdLifecycle s).vote = s.vote ∧
    (State.holdLifecycle s).field = s.field ∧ (State.holdLifecycle s).can = s.can ∧
    (State.holdLifecycle s).net = s.net ∧ (State.holdLifecycle s).hi = s.hi ∧ (State.holdLifecycle s).xings = s.xings
    ∧ (State.holdLifecycle s).mg = s.mg ∧ (State.holdLifecycle s).log = s.log ∧ (State.holdLifecycle s).test = s.test
    ∧ (State.holdLifecycle s).update = s.update ∧ (State.holdLifecycle s).draws = s.draws ∧
    (State.holdLifecycle s).outbox = s.outbox ∧ (State.holdLifecycle s).diag = s.diag ∧
    (State.holdLifecycle s).pending = s.pending := by
  simp [State.holdLifecycle, State.holdLines_frame _ _]

theorem State.resetAshlar_frame (s : State) :
    (State.resetAshlar s).unit = s.unit ∧ (State.resetAshlar s).opUs = s.opUs ∧
    (State.resetAshlar s).savedOpUs = s.savedOpUs ∧ (State.resetAshlar s).powerCycle = s.powerCycle ∧
    (State.resetAshlar s).epoch = s.epoch ∧ (State.resetAshlar s).power = s.power ∧ (State.resetAshlar s).rt = s.rt ∧
    (State.resetAshlar s).sec = s.sec ∧ (State.resetAshlar s).station = s.station ∧
    (State.resetAshlar s).bench = s.bench ∧ (State.resetAshlar s).eng = s.eng ∧ (State.resetAshlar s).vote = s.vote ∧
    (State.resetAshlar s).field = s.field ∧ (State.resetAshlar s).can = s.can ∧ (State.resetAshlar s).net = s.net ∧
    (State.resetAshlar s).hi = s.hi ∧ (State.resetAshlar s).mg = s.mg ∧ (State.resetAshlar s).log = s.log ∧
    (State.resetAshlar s).test = s.test ∧ (State.resetAshlar s).update = s.update ∧
    (State.resetAshlar s).draws = s.draws ∧ (State.resetAshlar s).outbox = s.outbox ∧
    (State.resetAshlar s).diag = s.diag ∧ (State.resetAshlar s).pending = s.pending := by
  simp [State.resetAshlar, State.fenceAll_frame _ _, State.ashEval_frame _]

theorem State.drawChallenge_frame (s : State) :
    (State.drawChallenge s).unit = s.unit ∧ (State.drawChallenge s).opUs = s.opUs ∧
    (State.drawChallenge s).savedOpUs = s.savedOpUs ∧ (State.drawChallenge s).powerCycle = s.powerCycle ∧
    (State.drawChallenge s).epoch = s.epoch ∧ (State.drawChallenge s).power = s.power ∧
    (State.drawChallenge s).rt = s.rt ∧ (State.drawChallenge s).sec = s.sec ∧
    (State.drawChallenge s).station = s.station ∧ (State.drawChallenge s).bench = s.bench ∧
    (State.drawChallenge s).eng = s.eng ∧ (State.drawChallenge s).vote = s.vote ∧
    (State.drawChallenge s).field = s.field ∧ (State.drawChallenge s).can = s.can ∧
    (State.drawChallenge s).net = s.net ∧ (State.drawChallenge s).hi = s.hi ∧ (State.drawChallenge s).xings = s.xings
    ∧ (State.drawChallenge s).mg = s.mg ∧ (State.drawChallenge s).recorder = s.recorder ∧
    (State.drawChallenge s).log = s.log ∧ (State.drawChallenge s).test = s.test ∧
    (State.drawChallenge s).update = s.update ∧ (State.drawChallenge s).outbox = s.outbox ∧
    (State.drawChallenge s).diag = s.diag ∧ (State.drawChallenge s).pending = s.pending := by
  simp [State.drawChallenge]

theorem State.ashReady_frame (s : State) :
    (State.ashReady s).unit = s.unit ∧ (State.ashReady s).opUs = s.opUs ∧ (State.ashReady s).savedOpUs = s.savedOpUs ∧
    (State.ashReady s).powerCycle = s.powerCycle ∧ (State.ashReady s).epoch = s.epoch ∧
    (State.ashReady s).power = s.power ∧ (State.ashReady s).rt = s.rt ∧ (State.ashReady s).sec = s.sec ∧
    (State.ashReady s).station = s.station ∧ (State.ashReady s).bench = s.bench ∧ (State.ashReady s).eng = s.eng ∧
    (State.ashReady s).vote = s.vote ∧ (State.ashReady s).field = s.field ∧ (State.ashReady s).can = s.can ∧
    (State.ashReady s).net = s.net ∧ (State.ashReady s).hi = s.hi ∧ (State.ashReady s).xings = s.xings ∧
    (State.ashReady s).mg = s.mg ∧ (State.ashReady s).log = s.log ∧ (State.ashReady s).test = s.test ∧
    (State.ashReady s).update = s.update ∧ (State.ashReady s).outbox = s.outbox ∧ (State.ashReady s).diag = s.diag ∧
    (State.ashReady s).pending = s.pending := by
  simp [State.ashReady, State.ashEval_frame _, State.drawChallenge_frame _]

theorem State.ashTrip_frame (s : State) (cause : ℕ) (expected : ℕ) (seen : ℕ) :
    (State.ashTrip s cause expected seen).unit = s.unit ∧ (State.ashTrip s cause expected seen).opUs = s.opUs ∧
    (State.ashTrip s cause expected seen).savedOpUs = s.savedOpUs ∧
    (State.ashTrip s cause expected seen).powerCycle = s.powerCycle ∧
    (State.ashTrip s cause expected seen).epoch = s.epoch ∧ (State.ashTrip s cause expected seen).rt = s.rt ∧
    (State.ashTrip s cause expected seen).station = s.station ∧ (State.ashTrip s cause expected seen).net = s.net ∧
    (State.ashTrip s cause expected seen).xings = s.xings ∧ (State.ashTrip s cause expected seen).log = s.log ∧
    (State.ashTrip s cause expected seen).test = s.test ∧ (State.ashTrip s cause expected seen).update = s.update ∧
    (State.ashTrip s cause expected seen).draws = s.draws ∧ (State.ashTrip s cause expected seen).diag = s.diag ∧
    (State.ashTrip s cause expected seen).pending = s.pending := by
  simp [State.ashTrip, State.enterSafe_frame _ _ _, State.event_frame _ _ _ _ _ _ _ _, State.ashEval_frame _]

theorem State.acceptCode_frame (s : State) (c : Word) (d : Word) (st : AshlarState) :
    (State.acceptCode s c d st).unit = s.unit ∧ (State.acceptCode s c d st).opUs = s.opUs ∧
    (State.acceptCode s c d st).savedOpUs = s.savedOpUs ∧ (State.acceptCode s c d st).powerCycle = s.powerCycle ∧
    (State.acceptCode s c d st).epoch = s.epoch ∧ (State.acceptCode s c d st).power = s.power ∧
    (State.acceptCode s c d st).rt = s.rt ∧ (State.acceptCode s c d st).sec = s.sec ∧
    (State.acceptCode s c d st).station = s.station ∧ (State.acceptCode s c d st).bench = s.bench ∧
    (State.acceptCode s c d st).eng = s.eng ∧ (State.acceptCode s c d st).vote = s.vote ∧
    (State.acceptCode s c d st).field = s.field ∧ (State.acceptCode s c d st).can = s.can ∧
    (State.acceptCode s c d st).net = s.net ∧ (State.acceptCode s c d st).hi = s.hi ∧
    (State.acceptCode s c d st).xings = s.xings ∧ (State.acceptCode s c d st).mg = s.mg ∧
    (State.acceptCode s c d st).log = s.log ∧ (State.acceptCode s c d st).test = s.test ∧
    (State.acceptCode s c d st).update = s.update ∧ (State.acceptCode s c d st).outbox = s.outbox ∧
    (State.acceptCode s c d st).diag = s.diag ∧ (State.acceptCode s c d st).pending = s.pending := by
  simp [State.acceptCode, State.ashEval_frame _, State.drawChallenge_frame _]

theorem State.codeInReady_frame (s : State) (c : Word) (d : Word) :
    (State.codeInReady s c d).unit = s.unit ∧ (State.codeInReady s c d).opUs = s.opUs ∧
    (State.codeInReady s c d).savedOpUs = s.savedOpUs ∧ (State.codeInReady s c d).powerCycle = s.powerCycle ∧
    (State.codeInReady s c d).epoch = s.epoch ∧ (State.codeInReady s c d).power = s.power ∧
    (State.codeInReady s c d).rt = s.rt ∧ (State.codeInReady s c d).sec = s.sec ∧
    (State.codeInReady s c d).station = s.station ∧ (State.codeInReady s c d).bench = s.bench ∧
    (State.codeInReady s c d).eng = s.eng ∧ (State.codeInReady s c d).vote = s.vote ∧
    (State.codeInReady s c d).field = s.field ∧ (State.codeInReady s c d).can = s.can ∧
    (State.codeInReady s c d).net = s.net ∧ (State.codeInReady s c d).hi = s.hi ∧
    (State.codeInReady s c d).xings = s.xings ∧ (State.codeInReady s c d).mg = s.mg ∧
    (State.codeInReady s c d).log = s.log ∧ (State.codeInReady s c d).test = s.test ∧
    (State.codeInReady s c d).update = s.update ∧ (State.codeInReady s c d).outbox = s.outbox ∧
    (State.codeInReady s c d).diag = s.diag ∧ (State.codeInReady s c d).pending = s.pending := by
  simp only [State.codeInReady]; (repeat' split) <;> simp [State.ashReady_frame _, State.acceptCode_frame _ _ _ _]

theorem State.haltAccepted_frame (s : State) :
    (State.haltAccepted s).unit = s.unit ∧ (State.haltAccepted s).opUs = s.opUs ∧
    (State.haltAccepted s).savedOpUs = s.savedOpUs ∧ (State.haltAccepted s).powerCycle = s.powerCycle ∧
    (State.haltAccepted s).epoch = s.epoch ∧ (State.haltAccepted s).power = s.power ∧ (State.haltAccepted s).rt = s.rt
    ∧ (State.haltAccepted s).sec = s.sec ∧ (State.haltAccepted s).station = s.station ∧
    (State.haltAccepted s).bench = s.bench ∧ (State.haltAccepted s).vote = s.vote ∧ (State.haltAccepted s).ash = s.ash
    ∧ (State.haltAccepted s).field = s.field ∧ (State.haltAccepted s).can = s.can ∧ (State.haltAccepted s).net = s.net
    ∧ (State.haltAccepted s).xings = s.xings ∧ (State.haltAccepted s).recorder = s.recorder ∧
    (State.haltAccepted s).log = s.log ∧ (State.haltAccepted s).test = s.test ∧
    (State.haltAccepted s).update = s.update ∧ (State.haltAccepted s).draws = s.draws ∧
    (State.haltAccepted s).diag = s.diag ∧ (State.haltAccepted s).pending = s.pending := by
  unfold State.haltAccepted
  refine ⟨(State.foldl_unit _ (fun s w => ?_) _ _), (State.foldl_opUs _ (fun s w => ?_) _ _), (State.foldl_savedOpUs _ (fun s w => ?_) _ _), (State.foldl_powerCycle _ (fun s w => ?_) _ _), (State.foldl_epoch _ (fun s w => ?_) _ _), (State.foldl_power _ (fun s w => ?_) _ _), (State.foldl_rt _ (fun s w => ?_) _ _), (State.foldl_sec _ (fun s w => ?_) _ _), (State.foldl_station _ (fun s w => ?_) _ _), (State.foldl_bench _ (fun s w => ?_) _ _), (State.foldl_vote _ (fun s w => ?_) _ _), (State.foldl_ash _ (fun s w => ?_) _ _), (State.foldl_field _ (fun s w => ?_) _ _), (State.foldl_can _ (fun s w => ?_) _ _), (State.foldl_net _ (fun s w => ?_) _ _), (State.foldl_xings _ (fun s w => ?_) _ _), (State.foldl_recorder _ (fun s w => ?_) _ _), (State.foldl_log _ (fun s w => ?_) _ _), (State.foldl_test _ (fun s w => ?_) _ _), (State.foldl_update _ (fun s w => ?_) _ _), (State.foldl_draws _ (fun s w => ?_) _ _), (State.foldl_diag _ (fun s w => ?_) _ _), (State.foldl_pending _ (fun s w => ?_) _ _)⟩ <;> (cases w <;> simp [State.deliver_frame _ _])

theorem State.codeInArmed_frame (s : State) (c : Word) (d : Word) :
    (State.codeInArmed s c d).unit = s.unit ∧ (State.codeInArmed s c d).opUs = s.opUs ∧
    (State.codeInArmed s c d).savedOpUs = s.savedOpUs ∧ (State.codeInArmed s c d).powerCycle = s.powerCycle ∧
    (State.codeInArmed s c d).epoch = s.epoch ∧ (State.codeInArmed s c d).rt = s.rt ∧
    (State.codeInArmed s c d).station = s.station ∧ (State.codeInArmed s c d).net = s.net ∧
    (State.codeInArmed s c d).xings = s.xings ∧ (State.codeInArmed s c d).log = s.log ∧
    (State.codeInArmed s c d).test = s.test ∧ (State.codeInArmed s c d).update = s.update ∧
    (State.codeInArmed s c d).diag = s.diag ∧ (State.codeInArmed s c d).pending = s.pending := by
  simp [State.codeInArmed, State.ashTrip_frame _ _ _ _, State.haltAccepted_frame _, State.event_frame _ _ _ _ _ _ _ _,
        State.ashReady_frame _, State.acceptCode_frame _ _ _ _]

theorem State.codeAt_frame (s : State) (c : Word) (d : Word) :
    (State.codeAt s c d).unit = s.unit ∧ (State.codeAt s c d).opUs = s.opUs ∧
    (State.codeAt s c d).savedOpUs = s.savedOpUs ∧ (State.codeAt s c d).powerCycle = s.powerCycle ∧
    (State.codeAt s c d).epoch = s.epoch ∧ (State.codeAt s c d).rt = s.rt ∧ (State.codeAt s c d).station = s.station ∧
    (State.codeAt s c d).net = s.net ∧ (State.codeAt s c d).xings = s.xings ∧ (State.codeAt s c d).log = s.log ∧
    (State.codeAt s c d).test = s.test ∧ (State.codeAt s c d).update = s.update ∧ (State.codeAt s c d).diag = s.diag ∧
    (State.codeAt s c d).pending = s.pending := by
  unfold State.codeAt; (repeat' split) <;> simp [State.codeInReady_frame _ _ _, State.codeInArmed_frame _ _ _]

theorem State.takeCode_frame (s : State) (seen : Option (Word × Word)) :
    (State.takeCode s seen).unit = s.unit ∧ (State.takeCode s seen).opUs = s.opUs ∧
    (State.takeCode s seen).savedOpUs = s.savedOpUs ∧ (State.takeCode s seen).powerCycle = s.powerCycle ∧
    (State.takeCode s seen).epoch = s.epoch ∧ (State.takeCode s seen).rt = s.rt ∧
    (State.takeCode s seen).station = s.station ∧ (State.takeCode s seen).net = s.net ∧
    (State.takeCode s seen).xings = s.xings ∧ (State.takeCode s seen).log = s.log ∧
    (State.takeCode s seen).test = s.test ∧ (State.takeCode s seen).update = s.update ∧
    (State.takeCode s seen).diag = s.diag ∧ (State.takeCode s seen).pending = s.pending := by
  unfold State.takeCode; (repeat' split) <;> simp [State.codeAt_frame _ _ _, State.haltAccepted_frame _]

theorem State.relatched_frame (s : State) :
    (State.relatched s).unit = s.unit ∧ (State.relatched s).opUs = s.opUs ∧
    (State.relatched s).savedOpUs = s.savedOpUs ∧ (State.relatched s).powerCycle = s.powerCycle ∧
    (State.relatched s).epoch = s.epoch ∧ (State.relatched s).power = s.power ∧ (State.relatched s).rt = s.rt ∧
    (State.relatched s).sec = s.sec ∧ (State.relatched s).station = s.station ∧ (State.relatched s).bench = s.bench ∧
    (State.relatched s).vote = s.vote ∧ (State.relatched s).ash = s.ash ∧ (State.relatched s).field = s.field ∧
    (State.relatched s).can = s.can ∧ (State.relatched s).net = s.net ∧ (State.relatched s).xings = s.xings ∧
    (State.relatched s).recorder = s.recorder ∧ (State.relatched s).log = s.log ∧ (State.relatched s).test = s.test ∧
    (State.relatched s).update = s.update ∧ (State.relatched s).draws = s.draws ∧ (State.relatched s).diag = s.diag ∧
    (State.relatched s).pending = s.pending := by
  unfold State.relatched
  refine ⟨(State.foldl_unit _ (fun s w => ?_) _ _), (State.foldl_opUs _ (fun s w => ?_) _ _), (State.foldl_savedOpUs _ (fun s w => ?_) _ _), (State.foldl_powerCycle _ (fun s w => ?_) _ _), (State.foldl_epoch _ (fun s w => ?_) _ _), (State.foldl_power _ (fun s w => ?_) _ _), (State.foldl_rt _ (fun s w => ?_) _ _), (State.foldl_sec _ (fun s w => ?_) _ _), (State.foldl_station _ (fun s w => ?_) _ _), (State.foldl_bench _ (fun s w => ?_) _ _), (State.foldl_vote _ (fun s w => ?_) _ _), (State.foldl_ash _ (fun s w => ?_) _ _), (State.foldl_field _ (fun s w => ?_) _ _), (State.foldl_can _ (fun s w => ?_) _ _), (State.foldl_net _ (fun s w => ?_) _ _), (State.foldl_xings _ (fun s w => ?_) _ _), (State.foldl_recorder _ (fun s w => ?_) _ _), (State.foldl_log _ (fun s w => ?_) _ _), (State.foldl_test _ (fun s w => ?_) _ _), (State.foldl_update _ (fun s w => ?_) _ _), (State.foldl_draws _ (fun s w => ?_) _ _), (State.foldl_diag _ (fun s w => ?_) _ _), (State.foldl_pending _ (fun s w => ?_) _ _)⟩ <;> (cases w <;> simp [State.deliver_frame _ _])

theorem State.loadFails_frame (s : State) (src : Source) (cause : ℕ) (expected : Word) (computed : Word) :
    (State.loadFails s src cause expected computed).unit = s.unit ∧
    (State.loadFails s src cause expected computed).opUs = s.opUs ∧
    (State.loadFails s src cause expected computed).savedOpUs = s.savedOpUs ∧
    (State.loadFails s src cause expected computed).powerCycle = s.powerCycle ∧
    (State.loadFails s src cause expected computed).epoch = s.epoch ∧
    (State.loadFails s src cause expected computed).rt = s.rt ∧
    (State.loadFails s src cause expected computed).station = s.station ∧
    (State.loadFails s src cause expected computed).ash = s.ash ∧
    (State.loadFails s src cause expected computed).net = s.net ∧
    (State.loadFails s src cause expected computed).xings = s.xings ∧
    (State.loadFails s src cause expected computed).log = s.log ∧
    (State.loadFails s src cause expected computed).test = s.test ∧
    (State.loadFails s src cause expected computed).update = s.update ∧
    (State.loadFails s src cause expected computed).draws = s.draws ∧
    (State.loadFails s src cause expected computed).diag = s.diag ∧
    (State.loadFails s src cause expected computed).pending = s.pending := by
  simp [State.loadFails, State.enterSafe_frame _ _ _, State.startFailed_frame _ _, State.event_frame _ _ _ _ _ _ _ _]

theorem State.tableLoaded_frame (s : State) (seen : Option (List Byte)) (back : Option (List Byte)) :
    (State.tableLoaded s seen back).unit = s.unit ∧ (State.tableLoaded s seen back).opUs = s.opUs ∧
    (State.tableLoaded s seen back).savedOpUs = s.savedOpUs ∧
    (State.tableLoaded s seen back).powerCycle = s.powerCycle ∧ (State.tableLoaded s seen back).rt = s.rt ∧
    (State.tableLoaded s seen back).station = s.station ∧ (State.tableLoaded s seen back).xings = s.xings ∧
    (State.tableLoaded s seen back).log = s.log ∧ (State.tableLoaded s seen back).test = s.test ∧
    (State.tableLoaded s seen back).update = s.update ∧ (State.tableLoaded s seen back).diag = s.diag ∧
    (State.tableLoaded s seen back).pending = s.pending := by
  unfold State.tableLoaded; (repeat' split) <;> simp [State.tryRun_frame _, State.relatched_frame _,
        State.event_frame _ _ _ _ _ _ _ _, State.ashReady_frame _, State.loadFails_frame _ _ _ _ _]

theorem State.ashCount_frame (s : State) (n : ℕ) :
    (State.ashCount s n).unit = s.unit ∧ (State.ashCount s n).opUs = s.opUs ∧
    (State.ashCount s n).savedOpUs = s.savedOpUs ∧ (State.ashCount s n).powerCycle = s.powerCycle ∧
    (State.ashCount s n).epoch = s.epoch ∧ (State.ashCount s n).rt = s.rt ∧ (State.ashCount s n).station = s.station ∧
    (State.ashCount s n).net = s.net ∧ (State.ashCount s n).xings = s.xings ∧ (State.ashCount s n).log = s.log ∧
    (State.ashCount s n).test = s.test ∧ (State.ashCount s n).update = s.update ∧ (State.ashCount s n).draws = s.draws
    ∧ (State.ashCount s n).diag = s.diag ∧ (State.ashCount s n).pending = s.pending := by
  simp only [State.ashCount]; (repeat' split) <;> simp [State.ashTrip_frame _ _ _ _, State.event_frame _ _ _ _ _ _ _ _]

theorem State.clusterCount_frame (s : State) (n : ℕ) :
    (State.clusterCount s n).unit = s.unit ∧ (State.clusterCount s n).opUs = s.opUs ∧
    (State.clusterCount s n).savedOpUs = s.savedOpUs ∧ (State.clusterCount s n).powerCycle = s.powerCycle ∧
    (State.clusterCount s n).epoch = s.epoch ∧ (State.clusterCount s n).rt = s.rt ∧
    (State.clusterCount s n).station = s.station ∧ (State.clusterCount s n).net = s.net ∧
    (State.clusterCount s n).xings = s.xings ∧ (State.clusterCount s n).log = s.log ∧
    (State.clusterCount s n).test = s.test ∧ (State.clusterCount s n).update = s.update ∧
    (State.clusterCount s n).draws = s.draws ∧ (State.clusterCount s n).diag = s.diag ∧
    (State.clusterCount s n).pending = s.pending := by
  simp [State.clusterCount, State.causeOff_frame _ _, State.enterSafe_frame _ _ _, State.causeOn_frame _ _,
        State.event_frame _ _ _ _ _ _ _ _]

theorem State.ashInputs_frame (s : State) :
    (State.ashInputs s).unit = s.unit ∧ (State.ashInputs s).opUs = s.opUs ∧
    (State.ashInputs s).savedOpUs = s.savedOpUs ∧ (State.ashInputs s).powerCycle = s.powerCycle ∧
    (State.ashInputs s).epoch = s.epoch ∧ (State.ashInputs s).rt = s.rt ∧ (State.ashInputs s).sec = s.sec ∧
    (State.ashInputs s).station = s.station ∧ (State.ashInputs s).bench = s.bench ∧ (State.ashInputs s).eng = s.eng ∧
    (State.ashInputs s).vote = s.vote ∧ (State.ashInputs s).field = s.field ∧ (State.ashInputs s).can = s.can ∧
    (State.ashInputs s).net = s.net ∧ (State.ashInputs s).hi = s.hi ∧ (State.ashInputs s).xings = s.xings ∧
    (State.ashInputs s).mg = s.mg ∧ (State.ashInputs s).log = s.log ∧ (State.ashInputs s).test = s.test ∧
    (State.ashInputs s).update = s.update ∧ (State.ashInputs s).draws = s.draws ∧
    (State.ashInputs s).outbox = s.outbox ∧ (State.ashInputs s).diag = s.diag ∧
    (State.ashInputs s).pending = s.pending := by
  simp [State.ashInputs, State.ashEval_frame _, State.causeOff_frame _ _]

theorem State.ashStale_frame (s : State) :
    (State.ashStale s).unit = s.unit ∧ (State.ashStale s).opUs = s.opUs ∧ (State.ashStale s).savedOpUs = s.savedOpUs ∧
    (State.ashStale s).powerCycle = s.powerCycle ∧ (State.ashStale s).epoch = s.epoch ∧ (State.ashStale s).rt = s.rt ∧
    (State.ashStale s).station = s.station ∧ (State.ashStale s).net = s.net ∧ (State.ashStale s).xings = s.xings ∧
    (State.ashStale s).log = s.log ∧ (State.ashStale s).test = s.test ∧ (State.ashStale s).update = s.update ∧
    (State.ashStale s).draws = s.draws ∧ (State.ashStale s).diag = s.diag ∧ (State.ashStale s).pending = s.pending
    := by
  simp [State.ashStale, State.enterSafe_frame _ _ _, State.causeOn_frame _ _, State.event_frame _ _ _ _ _ _ _ _,
        State.ashEval_frame _]

theorem State.fieldPermits_frame (s : State) (permit : Word) (sw : BitVec 4) :
    (State.fieldPermits s permit sw).unit = s.unit ∧ (State.fieldPermits s permit sw).opUs = s.opUs ∧
    (State.fieldPermits s permit sw).savedOpUs = s.savedOpUs ∧
    (State.fieldPermits s permit sw).powerCycle = s.powerCycle ∧ (State.fieldPermits s permit sw).epoch = s.epoch ∧
    (State.fieldPermits s permit sw).power = s.power ∧ (State.fieldPermits s permit sw).rt = s.rt ∧
    (State.fieldPermits s permit sw).sec = s.sec ∧ (State.fieldPermits s permit sw).station = s.station ∧
    (State.fieldPermits s permit sw).bench = s.bench ∧ (State.fieldPermits s permit sw).eng = s.eng ∧
    (State.fieldPermits s permit sw).vote = s.vote ∧ (State.fieldPermits s permit sw).ash = s.ash ∧
    (State.fieldPermits s permit sw).can = s.can ∧ (State.fieldPermits s permit sw).net = s.net ∧
    (State.fieldPermits s permit sw).hi = s.hi ∧ (State.fieldPermits s permit sw).xings = s.xings ∧
    (State.fieldPermits s permit sw).mg = s.mg ∧ (State.fieldPermits s permit sw).recorder = s.recorder ∧
    (State.fieldPermits s permit sw).log = s.log ∧ (State.fieldPermits s permit sw).test = s.test ∧
    (State.fieldPermits s permit sw).update = s.update ∧ (State.fieldPermits s permit sw).draws = s.draws ∧
    (State.fieldPermits s permit sw).outbox = s.outbox ∧ (State.fieldPermits s permit sw).diag = s.diag ∧
    (State.fieldPermits s permit sw).pending = s.pending := by
  simp [State.fieldPermits]

theorem State.ashFrame_frame (s : State) (intact : Bool) :
    (State.ashFrame s intact).unit = s.unit ∧ (State.ashFrame s intact).opUs = s.opUs ∧ (State.ashFrame s
    intact).savedOpUs = s.savedOpUs ∧ (State.ashFrame s intact).powerCycle = s.powerCycle ∧ (State.ashFrame s
    intact).epoch = s.epoch ∧ (State.ashFrame s intact).power = s.power ∧ (State.ashFrame s intact).rt = s.rt ∧
    (State.ashFrame s intact).sec = s.sec ∧ (State.ashFrame s intact).station = s.station ∧ (State.ashFrame s
    intact).bench = s.bench ∧ (State.ashFrame s intact).eng = s.eng ∧ (State.ashFrame s intact).vote = s.vote ∧
    (State.ashFrame s intact).ash = s.ash ∧ (State.ashFrame s intact).can = s.can ∧ (State.ashFrame s intact).net =
    s.net ∧ (State.ashFrame s intact).hi = s.hi ∧ (State.ashFrame s intact).xings = s.xings ∧ (State.ashFrame s
    intact).mg = s.mg ∧ (State.ashFrame s intact).recorder = s.recorder ∧ (State.ashFrame s intact).log = s.log ∧
    (State.ashFrame s intact).test = s.test ∧ (State.ashFrame s intact).update = s.update ∧ (State.ashFrame s
    intact).draws = s.draws ∧ (State.ashFrame s intact).diag = s.diag ∧ (State.ashFrame s intact).outbox = s.outbox ∧
    (State.ashFrame s intact).pending = s.pending := by
  simp [State.ashFrame, State.fieldPermits_frame _ _ _]

end Sys2Proof.Machine
end

