-- ==== Sys2Proof/Laws/Can.lean ====
section
/-! SUPPORT. What the operations of Machine/Can.lean leave alone: one lemma for each, naming every part of the state that
it does not write. -/

namespace Sys2Proof.Machine

open Sys2Proof

theorem State.modPort_frame (s : State) (k : ℕ) (f : CanPort → CanPort) :
    (State.modPort s k f).unit = s.unit ∧ (State.modPort s k f).opUs = s.opUs ∧
    (State.modPort s k f).savedOpUs = s.savedOpUs ∧ (State.modPort s k f).powerCycle = s.powerCycle ∧
    (State.modPort s k f).epoch = s.epoch ∧ (State.modPort s k f).power = s.power ∧ (State.modPort s k f).rt = s.rt ∧
    (State.modPort s k f).sec = s.sec ∧ (State.modPort s k f).station = s.station ∧
    (State.modPort s k f).bench = s.bench ∧ (State.modPort s k f).eng = s.eng ∧ (State.modPort s k f).vote = s.vote ∧
    (State.modPort s k f).ash = s.ash ∧ (State.modPort s k f).field = s.field ∧ (State.modPort s k f).net = s.net ∧
    (State.modPort s k f).hi = s.hi ∧ (State.modPort s k f).xings = s.xings ∧ (State.modPort s k f).mg = s.mg ∧
    (State.modPort s k f).recorder = s.recorder ∧ (State.modPort s k f).log = s.log ∧
    (State.modPort s k f).test = s.test ∧ (State.modPort s k f).update = s.update ∧
    (State.modPort s k f).draws = s.draws ∧ (State.modPort s k f).outbox = s.outbox ∧
    (State.modPort s k f).diag = s.diag ∧ (State.modPort s k f).pending = s.pending := by
  simp [State.modPort]

theorem State.busTaken_frame (s : State) (k : ℕ) (brs : Bool) :
    (State.busTaken s k brs).unit = s.unit ∧ (State.busTaken s k brs).opUs = s.opUs ∧
    (State.busTaken s k brs).savedOpUs = s.savedOpUs ∧ (State.busTaken s k brs).powerCycle = s.powerCycle ∧
    (State.busTaken s k brs).epoch = s.epoch ∧ (State.busTaken s k brs).power = s.power ∧
    (State.busTaken s k brs).rt = s.rt ∧ (State.busTaken s k brs).sec = s.sec ∧
    (State.busTaken s k brs).station = s.station ∧ (State.busTaken s k brs).bench = s.bench ∧
    (State.busTaken s k brs).eng = s.eng ∧ (State.busTaken s k brs).vote = s.vote ∧
    (State.busTaken s k brs).ash = s.ash ∧ (State.busTaken s k brs).field = s.field ∧
    (State.busTaken s k brs).net = s.net ∧ (State.busTaken s k brs).hi = s.hi ∧
    (State.busTaken s k brs).xings = s.xings ∧ (State.busTaken s k brs).mg = s.mg ∧
    (State.busTaken s k brs).recorder = s.recorder ∧ (State.busTaken s k brs).log = s.log ∧
    (State.busTaken s k brs).test = s.test ∧ (State.busTaken s k brs).update = s.update ∧
    (State.busTaken s k brs).outbox = s.outbox ∧ (State.busTaken s k brs).diag = s.diag ∧
    (State.busTaken s k brs).pending = s.pending := by
  simp [State.busTaken, State.modPort_frame _ _ _]

theorem State.confine_frame (s : State) (k : ℕ) :
    (State.confine s k).unit = s.unit ∧ (State.confine s k).opUs = s.opUs ∧
    (State.confine s k).savedOpUs = s.savedOpUs ∧ (State.confine s k).powerCycle = s.powerCycle ∧
    (State.confine s k).epoch = s.epoch ∧ (State.confine s k).power = s.power ∧ (State.confine s k).rt = s.rt ∧
    (State.confine s k).sec = s.sec ∧ (State.confine s k).station = s.station ∧ (State.confine s k).bench = s.bench ∧
    (State.confine s k).eng = s.eng ∧ (State.confine s k).vote = s.vote ∧ (State.confine s k).ash = s.ash ∧
    (State.confine s k).field = s.field ∧ (State.confine s k).net = s.net ∧ (State.confine s k).hi = s.hi ∧
    (State.confine s k).xings = s.xings ∧ (State.confine s k).mg = s.mg ∧ (State.confine s k).log = s.log ∧
    (State.confine s k).test = s.test ∧ (State.confine s k).update = s.update ∧ (State.confine s k).draws = s.draws ∧
    (State.confine s k).outbox = s.outbox ∧ (State.confine s k).diag = s.diag ∧
    (State.confine s k).pending = s.pending := by
  simp [State.confine, State.event_frame _ _ _ _ _ _ _ _, State.modPort_frame _ _ _]

theorem State.busOff_frame (s : State) (k : ℕ) :
    (State.busOff s k).unit = s.unit ∧ (State.busOff s k).opUs = s.opUs ∧ (State.busOff s k).savedOpUs = s.savedOpUs ∧
    (State.busOff s k).powerCycle = s.powerCycle ∧ (State.busOff s k).epoch = s.epoch ∧
    (State.busOff s k).power = s.power ∧ (State.busOff s k).rt = s.rt ∧ (State.busOff s k).sec = s.sec ∧
    (State.busOff s k).station = s.station ∧ (State.busOff s k).bench = s.bench ∧ (State.busOff s k).eng = s.eng ∧
    (State.busOff s k).vote = s.vote ∧ (State.busOff s k).ash = s.ash ∧ (State.busOff s k).field = s.field ∧
    (State.busOff s k).net = s.net ∧ (State.busOff s k).hi = s.hi ∧ (State.busOff s k).xings = s.xings ∧
    (State.busOff s k).mg = s.mg ∧ (State.busOff s k).log = s.log ∧ (State.busOff s k).test = s.test ∧
    (State.busOff s k).update = s.update ∧ (State.busOff s k).draws = s.draws ∧ (State.busOff s k).outbox = s.outbox ∧
    (State.busOff s k).diag = s.diag ∧ (State.busOff s k).pending = s.pending := by
  simp [State.busOff, State.event_frame _ _ _ _ _ _ _ _, State.modPort_frame _ _ _]

theorem State.txDone_frame (s : State) (k : ℕ) :
    (State.txDone s k).unit = s.unit ∧ (State.txDone s k).opUs = s.opUs ∧ (State.txDone s k).savedOpUs = s.savedOpUs ∧
    (State.txDone s k).powerCycle = s.powerCycle ∧ (State.txDone s k).epoch = s.epoch ∧
    (State.txDone s k).power = s.power ∧ (State.txDone s k).rt = s.rt ∧ (State.txDone s k).sec = s.sec ∧
    (State.txDone s k).station = s.station ∧ (State.txDone s k).bench = s.bench ∧ (State.txDone s k).eng = s.eng ∧
    (State.txDone s k).vote = s.vote ∧ (State.txDone s k).ash = s.ash ∧ (State.txDone s k).field = s.field ∧
    (State.txDone s k).net = s.net ∧ (State.txDone s k).hi = s.hi ∧ (State.txDone s k).xings = s.xings ∧
    (State.txDone s k).mg = s.mg ∧ (State.txDone s k).log = s.log ∧ (State.txDone s k).test = s.test ∧
    (State.txDone s k).update = s.update ∧ (State.txDone s k).diag = s.diag ∧ (State.txDone s k).pending = s.pending
    := by
  unfold State.txDone; (repeat' split) <;> simp [State.modPort_frame _ _ _, State.confine_frame _ _,
        State.busTaken_frame _ _ _]

theorem State.postArbError_frame (s : State) (k : ℕ) :
    (State.postArbError s k).unit = s.unit ∧ (State.postArbError s k).opUs = s.opUs ∧
    (State.postArbError s k).savedOpUs = s.savedOpUs ∧ (State.postArbError s k).powerCycle = s.powerCycle ∧
    (State.postArbError s k).epoch = s.epoch ∧ (State.postArbError s k).power = s.power ∧
    (State.postArbError s k).rt = s.rt ∧ (State.postArbError s k).sec = s.sec ∧
    (State.postArbError s k).station = s.station ∧ (State.postArbError s k).bench = s.bench ∧
    (State.postArbError s k).eng = s.eng ∧ (State.postArbError s k).vote = s.vote ∧
    (State.postArbError s k).ash = s.ash ∧ (State.postArbError s k).field = s.field ∧
    (State.postArbError s k).net = s.net ∧ (State.postArbError s k).hi = s.hi ∧
    (State.postArbError s k).xings = s.xings ∧ (State.postArbError s k).mg = s.mg ∧
    (State.postArbError s k).log = s.log ∧ (State.postArbError s k).test = s.test ∧
    (State.postArbError s k).update = s.update ∧ (State.postArbError s k).draws = s.draws ∧
    (State.postArbError s k).outbox = s.outbox ∧ (State.postArbError s k).diag = s.diag ∧
    (State.postArbError s k).pending = s.pending := by
  unfold State.postArbError; (repeat' split) <;> simp [State.modPort_frame _ _ _, State.event_frame _ _ _ _ _ _ _ _]

theorem State.busError_frame (s : State) (port : ℕ) (e : BusError) :
    (State.busError s port e).unit = s.unit ∧ (State.busError s port e).opUs = s.opUs ∧ (State.busError s port
    e).savedOpUs = s.savedOpUs ∧ (State.busError s port e).powerCycle = s.powerCycle ∧ (State.busError s port e).epoch
    = s.epoch ∧ (State.busError s port e).power = s.power ∧ (State.busError s port e).rt = s.rt ∧ (State.busError s
    port e).sec = s.sec ∧ (State.busError s port e).station = s.station ∧ (State.busError s port e).bench = s.bench ∧
    (State.busError s port e).eng = s.eng ∧ (State.busError s port e).vote = s.vote ∧ (State.busError s port e).ash =
    s.ash ∧ (State.busError s port e).field = s.field ∧ (State.busError s port e).hi = s.hi ∧ (State.busError s port
    e).xings = s.xings ∧ (State.busError s port e).mg = s.mg ∧ (State.busError s port e).log = s.log ∧ (State.busError
    s port e).test = s.test ∧ (State.busError s port e).update = s.update ∧ (State.busError s port e).diag = s.diag ∧
    (State.busError s port e).outbox = s.outbox ∧ (State.busError s port e).pending = s.pending := by
  simp [State.busError, State.busTaken_frame _ _ _, State.modPort_frame _ _ _, State.busOff_frame _ _, State.confine_frame _ _,
    State.postArbError_frame _ _]

theorem State.rateLocked_frame (s : State) (k : ℕ) :
    (State.rateLocked s k).unit = s.unit ∧ (State.rateLocked s k).opUs = s.opUs ∧
    (State.rateLocked s k).savedOpUs = s.savedOpUs ∧ (State.rateLocked s k).powerCycle = s.powerCycle ∧
    (State.rateLocked s k).epoch = s.epoch ∧ (State.rateLocked s k).power = s.power ∧ (State.rateLocked s k).rt = s.rt
    ∧ (State.rateLocked s k).sec = s.sec ∧ (State.rateLocked s k).station = s.station ∧
    (State.rateLocked s k).bench = s.bench ∧ (State.rateLocked s k).eng = s.eng ∧ (State.rateLocked s k).vote = s.vote
    ∧ (State.rateLocked s k).ash = s.ash ∧ (State.rateLocked s k).field = s.field ∧ (State.rateLocked s k).can = s.can
    ∧ (State.rateLocked s k).net = s.net ∧ (State.rateLocked s k).hi = s.hi ∧ (State.rateLocked s k).xings = s.xings ∧
    (State.rateLocked s k).mg = s.mg ∧ (State.rateLocked s k).log = s.log ∧ (State.rateLocked s k).test = s.test ∧
    (State.rateLocked s k).update = s.update ∧ (State.rateLocked s k).draws = s.draws ∧
    (State.rateLocked s k).outbox = s.outbox ∧ (State.rateLocked s k).diag = s.diag ∧
    (State.rateLocked s k).pending = s.pending := by
  simp [State.rateLocked, State.event_frame _ _ _ _ _ _ _ _]

theorem State.nextNominal_frame (s : State) (k : ℕ) :
    (State.nextNominal s k).unit = s.unit ∧ (State.nextNominal s k).opUs = s.opUs ∧
    (State.nextNominal s k).savedOpUs = s.savedOpUs ∧ (State.nextNominal s k).powerCycle = s.powerCycle ∧
    (State.nextNominal s k).epoch = s.epoch ∧ (State.nextNominal s k).power = s.power ∧
    (State.nextNominal s k).rt = s.rt ∧ (State.nextNominal s k).sec = s.sec ∧
    (State.nextNominal s k).station = s.station ∧ (State.nextNominal s k).bench = s.bench ∧
    (State.nextNominal s k).eng = s.eng ∧ (State.nextNominal s k).vote = s.vote ∧ (State.nextNominal s k).ash = s.ash
    ∧ (State.nextNominal s k).field = s.field ∧ (State.nextNominal s k).net = s.net ∧
    (State.nextNominal s k).hi = s.hi ∧ (State.nextNominal s k).xings = s.xings ∧ (State.nextNominal s k).mg = s.mg ∧
    (State.nextNominal s k).recorder = s.recorder ∧ (State.nextNominal s k).log = s.log ∧
    (State.nextNominal s k).test = s.test ∧ (State.nextNominal s k).update = s.update ∧
    (State.nextNominal s k).draws = s.draws ∧ (State.nextNominal s k).outbox = s.outbox ∧
    (State.nextNominal s k).diag = s.diag ∧ (State.nextNominal s k).pending = s.pending := by
  simp [State.nextNominal, State.modPort_frame _ _ _]

theorem State.goodFrame_frame (s : State) (k : ℕ) (brs : Bool) :
    (State.goodFrame s k brs).unit = s.unit ∧ (State.goodFrame s k brs).opUs = s.opUs ∧
    (State.goodFrame s k brs).savedOpUs = s.savedOpUs ∧ (State.goodFrame s k brs).powerCycle = s.powerCycle ∧
    (State.goodFrame s k brs).epoch = s.epoch ∧ (State.goodFrame s k brs).power = s.power ∧
    (State.goodFrame s k brs).rt = s.rt ∧ (State.goodFrame s k brs).sec = s.sec ∧
    (State.goodFrame s k brs).station = s.station ∧ (State.goodFrame s k brs).bench = s.bench ∧
    (State.goodFrame s k brs).eng = s.eng ∧ (State.goodFrame s k brs).vote = s.vote ∧
    (State.goodFrame s k brs).ash = s.ash ∧ (State.goodFrame s k brs).field = s.field ∧
    (State.goodFrame s k brs).net = s.net ∧ (State.goodFrame s k brs).hi = s.hi ∧
    (State.goodFrame s k brs).xings = s.xings ∧ (State.goodFrame s k brs).mg = s.mg ∧
    (State.goodFrame s k brs).log = s.log ∧ (State.goodFrame s k brs).test = s.test ∧
    (State.goodFrame s k brs).update = s.update ∧ (State.goodFrame s k brs).draws = s.draws ∧
    (State.goodFrame s k brs).outbox = s.outbox ∧ (State.goodFrame s k brs).diag = s.diag ∧
    (State.goodFrame s k brs).pending = s.pending := by
  simp [State.goodFrame, State.rateLocked_frame _ _, State.modPort_frame _ _ _]

theorem State.detectError_frame (s : State) (k : ℕ) (e : BusError) :
    (State.detectError s k e).unit = s.unit ∧ (State.detectError s k e).opUs = s.opUs ∧
    (State.detectError s k e).savedOpUs = s.savedOpUs ∧ (State.detectError s k e).powerCycle = s.powerCycle ∧
    (State.detectError s k e).epoch = s.epoch ∧ (State.detectError s k e).power = s.power ∧
    (State.detectError s k e).rt = s.rt ∧ (State.detectError s k e).sec = s.sec ∧
    (State.detectError s k e).station = s.station ∧ (State.detectError s k e).bench = s.bench ∧
    (State.detectError s k e).eng = s.eng ∧ (State.detectError s k e).vote = s.vote ∧
    (State.detectError s k e).ash = s.ash ∧ (State.detectError s k e).field = s.field ∧
    (State.detectError s k e).net = s.net ∧ (State.detectError s k e).hi = s.hi ∧
    (State.detectError s k e).xings = s.xings ∧ (State.detectError s k e).mg = s.mg ∧
    (State.detectError s k e).recorder = s.recorder ∧ (State.detectError s k e).log = s.log ∧
    (State.detectError s k e).test = s.test ∧ (State.detectError s k e).update = s.update ∧
    (State.detectError s k e).draws = s.draws ∧ (State.detectError s k e).outbox = s.outbox ∧
    (State.detectError s k e).diag = s.diag ∧ (State.detectError s k e).pending = s.pending := by
  simp [State.detectError, State.modPort_frame _ _ _, State.nextNominal_frame _ _]

theorem State.queueFrame_frame (s : State) (k : ℕ) (second : Bool) (f : CanFrame) :
    (State.queueFrame s k second f).unit = s.unit ∧ (State.queueFrame s k second f).opUs = s.opUs ∧
    (State.queueFrame s k second f).savedOpUs = s.savedOpUs ∧
    (State.queueFrame s k second f).powerCycle = s.powerCycle ∧ (State.queueFrame s k second f).epoch = s.epoch ∧
    (State.queueFrame s k second f).power = s.power ∧ (State.queueFrame s k second f).rt = s.rt ∧
    (State.queueFrame s k second f).sec = s.sec ∧ (State.queueFrame s k second f).station = s.station ∧
    (State.queueFrame s k second f).bench = s.bench ∧ (State.queueFrame s k second f).eng = s.eng ∧
    (State.queueFrame s k second f).vote = s.vote ∧ (State.queueFrame s k second f).ash = s.ash ∧
    (State.queueFrame s k second f).field = s.field ∧ (State.queueFrame s k second f).net = s.net ∧
    (State.queueFrame s k second f).hi = s.hi ∧ (State.queueFrame s k second f).xings = s.xings ∧
    (State.queueFrame s k second f).mg = s.mg ∧ (State.queueFrame s k second f).log = s.log ∧
    (State.queueFrame s k second f).test = s.test ∧ (State.queueFrame s k second f).update = s.update ∧
    (State.queueFrame s k second f).draws = s.draws ∧ (State.queueFrame s k second f).outbox = s.outbox ∧
    (State.queueFrame s k second f).diag = s.diag ∧ (State.queueFrame s k second f).pending = s.pending := by
  simp [State.queueFrame, State.modPort_frame _ _ _, State.event_frame _ _ _ _ _ _ _ _]

theorem State.receiveFrame_frame (s : State) (k : ℕ) (f : CanFrame) :
    (State.receiveFrame s k f).unit = s.unit ∧ (State.receiveFrame s k f).opUs = s.opUs ∧
    (State.receiveFrame s k f).savedOpUs = s.savedOpUs ∧ (State.receiveFrame s k f).powerCycle = s.powerCycle ∧
    (State.receiveFrame s k f).epoch = s.epoch ∧ (State.receiveFrame s k f).power = s.power ∧
    (State.receiveFrame s k f).rt = s.rt ∧ (State.receiveFrame s k f).sec = s.sec ∧
    (State.receiveFrame s k f).station = s.station ∧ (State.receiveFrame s k f).bench = s.bench ∧
    (State.receiveFrame s k f).eng = s.eng ∧ (State.receiveFrame s k f).vote = s.vote ∧
    (State.receiveFrame s k f).ash = s.ash ∧ (State.receiveFrame s k f).field = s.field ∧
    (State.receiveFrame s k f).net = s.net ∧ (State.receiveFrame s k f).hi = s.hi ∧
    (State.receiveFrame s k f).xings = s.xings ∧ (State.receiveFrame s k f).mg = s.mg ∧
    (State.receiveFrame s k f).log = s.log ∧ (State.receiveFrame s k f).test = s.test ∧
    (State.receiveFrame s k f).update = s.update ∧ (State.receiveFrame s k f).outbox = s.outbox ∧
    (State.receiveFrame s k f).diag = s.diag ∧ (State.receiveFrame s k f).pending = s.pending := by
  unfold State.receiveFrame; (repeat' split) <;> simp [State.queueFrame_frame _ _ _ _, State.busTaken_frame _ _ _,
        State.confine_frame _ _, State.modPort_frame _ _ _]

theorem State.drainPort_frame (s : State) (k : ℕ) :
    (State.drainPort s k).unit = s.unit ∧ (State.drainPort s k).opUs = s.opUs ∧
    (State.drainPort s k).savedOpUs = s.savedOpUs ∧ (State.drainPort s k).powerCycle = s.powerCycle ∧
    (State.drainPort s k).epoch = s.epoch ∧ (State.drainPort s k).power = s.power ∧ (State.drainPort s k).rt = s.rt ∧
    (State.drainPort s k).sec = s.sec ∧ (State.drainPort s k).station = s.station ∧
    (State.drainPort s k).bench = s.bench ∧ (State.drainPort s k).eng = s.eng ∧ (State.drainPort s k).vote = s.vote ∧
    (State.drainPort s k).ash = s.ash ∧ (State.drainPort s k).field = s.field ∧ (State.drainPort s k).hi = s.hi ∧
    (State.drainPort s k).xings = s.xings ∧ (State.drainPort s k).mg = s.mg ∧ (State.drainPort s k).log = s.log ∧
    (State.drainPort s k).test = s.test ∧ (State.drainPort s k).update = s.update ∧
    (State.drainPort s k).draws = s.draws ∧ (State.drainPort s k).outbox = s.outbox ∧
    (State.drainPort s k).diag = s.diag ∧ (State.drainPort s k).pending = s.pending := by
  unfold State.drainPort
  refine ⟨(State.foldl_unit _ (fun s w => ?_) _ _).trans (by simp [State.modPort_frame _ _ _]), (State.foldl_opUs _ (fun s w => ?_) _ _).trans (by simp [State.modPort_frame _ _ _]), (State.foldl_savedOpUs _ (fun s w => ?_) _ _).trans (by simp [State.modPort_frame _ _ _]), (State.foldl_powerCycle _ (fun s w => ?_) _ _).trans (by simp [State.modPort_frame _ _ _]), (State.foldl_epoch _ (fun s w => ?_) _ _).trans (by simp [State.modPort_frame _ _ _]), (State.foldl_power _ (fun s w => ?_) _ _).trans (by simp [State.modPort_frame _ _ _]), (State.foldl_rt _ (fun s w => ?_) _ _).trans (by simp [State.modPort_frame _ _ _]), (State.foldl_sec _ (fun s w => ?_) _ _).trans (by simp [State.modPort_frame _ _ _]), (State.foldl_station _ (fun s w => ?_) _ _).trans (by simp [State.modPort_frame _ _ _]), (State.foldl_bench _ (fun s w => ?_) _ _).trans (by simp [State.modPort_frame _ _ _]), (State.foldl_eng _ (fun s w => ?_) _ _).trans (by simp [State.modPort_frame _ _ _]), (State.foldl_vote _ (fun s w => ?_) _ _).trans (by simp [State.modPort_frame _ _ _]), (State.foldl_ash _ (fun s w => ?_) _ _).trans (by simp [State.modPort_frame _ _ _]), (State.foldl_field _ (fun s w => ?_) _ _).trans (by simp [State.modPort_frame _ _ _]), (State.foldl_hi _ (fun s w => ?_) _ _).trans (by simp [State.modPort_frame _ _ _]), (State.foldl_xings _ (fun s w => ?_) _ _).trans (by simp [State.modPort_frame _ _ _]), (State.foldl_mg _ (fun s w => ?_) _ _).trans (by simp [State.modPort_frame _ _ _]), (State.foldl_log _ (fun s w => ?_) _ _).trans (by simp [State.modPort_frame _ _ _]), (State.foldl_test _ (fun s w => ?_) _ _).trans (by simp [State.modPort_frame _ _ _]), (State.foldl_update _ (fun s w => ?_) _ _).trans (by simp [State.modPort_frame _ _ _]), (State.foldl_draws _ (fun s w => ?_) _ _).trans (by simp [State.modPort_frame _ _ _]), (State.foldl_outbox _ (fun s w => ?_) _ _).trans (by simp [State.modPort_frame _ _ _]), (State.foldl_diag _ (fun s w => ?_) _ _).trans (by simp [State.modPort_frame _ _ _]), (State.foldl_pending _ (fun s w => ?_) _ _).trans (by simp [State.modPort_frame _ _ _])⟩ <;> (dsimp only; (repeat' split) <;> simp [State.event_frame _ _ _ _ _ _ _ _, State.modPort_frame _ _ _])

theorem State.drainPorts_frame (s : State) :
    (State.drainPorts s).unit = s.unit ∧ (State.drainPorts s).opUs = s.opUs ∧
    (State.drainPorts s).savedOpUs = s.savedOpUs ∧ (State.drainPorts s).powerCycle = s.powerCycle ∧
    (State.drainPorts s).epoch = s.epoch ∧ (State.drainPorts s).power = s.power ∧ (State.drainPorts s).rt = s.rt ∧
    (State.drainPorts s).sec = s.sec ∧ (State.drainPorts s).station = s.station ∧ (State.drainPorts s).bench = s.bench
    ∧ (State.drainPorts s).eng = s.eng ∧ (State.drainPorts s).vote = s.vote ∧ (State.drainPorts s).ash = s.ash ∧
    (State.drainPorts s).field = s.field ∧ (State.drainPorts s).hi = s.hi ∧ (State.drainPorts s).xings = s.xings ∧
    (State.drainPorts s).mg = s.mg ∧ (State.drainPorts s).log = s.log ∧ (State.drainPorts s).test = s.test ∧
    (State.drainPorts s).update = s.update ∧ (State.drainPorts s).draws = s.draws ∧
    (State.drainPorts s).outbox = s.outbox ∧ (State.drainPorts s).diag = s.diag ∧
    (State.drainPorts s).pending = s.pending := by
  simp [State.drainPorts, State.drainPort_frame _ _]

end Sys2Proof.Machine
end

