-- ==== Sys2Proof/Laws/Telegrams.lean ====
section
/-! SUPPORT. What the operations of Machine/Telegrams.lean leave alone: one lemma for each, naming every part of the state that
it does not write. -/

namespace Sys2Proof.Machine

open Sys2Proof

theorem State.sendTelegram_frame (s : State) (n : Node) (prio : ℕ) (b : List Byte) :
    (State.sendTelegram s n prio b).unit = s.unit ∧ (State.sendTelegram s n prio b).opUs = s.opUs ∧
    (State.sendTelegram s n prio b).savedOpUs = s.savedOpUs ∧
    (State.sendTelegram s n prio b).powerCycle = s.powerCycle ∧ (State.sendTelegram s n prio b).epoch = s.epoch ∧
    (State.sendTelegram s n prio b).power = s.power ∧ (State.sendTelegram s n prio b).rt = s.rt ∧
    (State.sendTelegram s n prio b).sec = s.sec ∧ (State.sendTelegram s n prio b).station = s.station ∧
    (State.sendTelegram s n prio b).bench = s.bench ∧ (State.sendTelegram s n prio b).eng = s.eng ∧
    (State.sendTelegram s n prio b).vote = s.vote ∧ (State.sendTelegram s n prio b).ash = s.ash ∧
    (State.sendTelegram s n prio b).field = s.field ∧ (State.sendTelegram s n prio b).hi = s.hi ∧
    (State.sendTelegram s n prio b).xings = s.xings ∧ (State.sendTelegram s n prio b).mg = s.mg ∧
    (State.sendTelegram s n prio b).recorder = s.recorder ∧ (State.sendTelegram s n prio b).log = s.log ∧
    (State.sendTelegram s n prio b).test = s.test ∧ (State.sendTelegram s n prio b).update = s.update ∧
    (State.sendTelegram s n prio b).draws = s.draws ∧ (State.sendTelegram s n prio b).diag = s.diag ∧
    (State.sendTelegram s n prio b).pending = s.pending := by
  simp [State.sendTelegram, State.modNode_frame _ _ _, State.modNode_net_frame _ _ _, State.modPort_frame _ _ _]

theorem State.buildFor_frame (s : State) (n : Node) (cycle : ℕ) (changes : Bool) :
    (State.buildFor s n cycle changes).unit = s.unit ∧ (State.buildFor s n cycle changes).opUs = s.opUs ∧
    (State.buildFor s n cycle changes).savedOpUs = s.savedOpUs ∧
    (State.buildFor s n cycle changes).powerCycle = s.powerCycle ∧ (State.buildFor s n cycle changes).epoch = s.epoch
    ∧ (State.buildFor s n cycle changes).power = s.power ∧ (State.buildFor s n cycle changes).rt = s.rt ∧
    (State.buildFor s n cycle changes).sec = s.sec ∧ (State.buildFor s n cycle changes).station = s.station ∧
    (State.buildFor s n cycle changes).bench = s.bench ∧ (State.buildFor s n cycle changes).eng = s.eng ∧
    (State.buildFor s n cycle changes).vote = s.vote ∧ (State.buildFor s n cycle changes).ash = s.ash ∧
    (State.buildFor s n cycle changes).field = s.field ∧ (State.buildFor s n cycle changes).hi = s.hi ∧
    (State.buildFor s n cycle changes).xings = s.xings ∧ (State.buildFor s n cycle changes).mg = s.mg ∧
    (State.buildFor s n cycle changes).recorder = s.recorder ∧ (State.buildFor s n cycle changes).log = s.log ∧
    (State.buildFor s n cycle changes).test = s.test ∧ (State.buildFor s n cycle changes).update = s.update ∧
    (State.buildFor s n cycle changes).diag = s.diag ∧ (State.buildFor s n cycle changes).pending = s.pending := by
  unfold State.buildFor; (repeat' split) <;> simp [State.sendTelegram_frame _ _ _ _, State.modNode_frame _ _ _]

theorem State.buildTelegrams_frame (s : State) (cycle : ℕ) (changes : Bool) :
    (State.buildTelegrams s cycle changes).unit = s.unit ∧ (State.buildTelegrams s cycle changes).opUs = s.opUs ∧
    (State.buildTelegrams s cycle changes).savedOpUs = s.savedOpUs ∧
    (State.buildTelegrams s cycle changes).powerCycle = s.powerCycle ∧
    (State.buildTelegrams s cycle changes).epoch = s.epoch ∧ (State.buildTelegrams s cycle changes).power = s.power ∧
    (State.buildTelegrams s cycle changes).rt = s.rt ∧ (State.buildTelegrams s cycle changes).sec = s.sec ∧
    (State.buildTelegrams s cycle changes).station = s.station ∧
    (State.buildTelegrams s cycle changes).bench = s.bench ∧ (State.buildTelegrams s cycle changes).eng = s.eng ∧
    (State.buildTelegrams s cycle changes).vote = s.vote ∧ (State.buildTelegrams s cycle changes).ash = s.ash ∧
    (State.buildTelegrams s cycle changes).field = s.field ∧ (State.buildTelegrams s cycle changes).hi = s.hi ∧
    (State.buildTelegrams s cycle changes).xings = s.xings ∧ (State.buildTelegrams s cycle changes).mg = s.mg ∧
    (State.buildTelegrams s cycle changes).recorder = s.recorder ∧ (State.buildTelegrams s cycle changes).log = s.log
    ∧ (State.buildTelegrams s cycle changes).test = s.test ∧ (State.buildTelegrams s cycle changes).update = s.update
    ∧ (State.buildTelegrams s cycle changes).diag = s.diag ∧
    (State.buildTelegrams s cycle changes).pending = s.pending := by
  simp [State.buildTelegrams, State.buildFor_frame _ _ _ _]

theorem State.discarded_frame (s : State) (source : ℕ) (code : ℕ) :
    (State.discarded s source code).unit = s.unit ∧ (State.discarded s source code).opUs = s.opUs ∧
    (State.discarded s source code).savedOpUs = s.savedOpUs ∧
    (State.discarded s source code).powerCycle = s.powerCycle ∧ (State.discarded s source code).epoch = s.epoch ∧
    (State.discarded s source code).power = s.power ∧ (State.discarded s source code).rt = s.rt ∧
    (State.discarded s source code).sec = s.sec ∧ (State.discarded s source code).station = s.station ∧
    (State.discarded s source code).bench = s.bench ∧ (State.discarded s source code).eng = s.eng ∧
    (State.discarded s source code).vote = s.vote ∧ (State.discarded s source code).ash = s.ash ∧
    (State.discarded s source code).field = s.field ∧ (State.discarded s source code).can = s.can ∧
    (State.discarded s source code).net = s.net ∧ (State.discarded s source code).hi = s.hi ∧
    (State.discarded s source code).xings = s.xings ∧ (State.discarded s source code).mg = s.mg ∧
    (State.discarded s source code).log = s.log ∧ (State.discarded s source code).test = s.test ∧
    (State.discarded s source code).update = s.update ∧ (State.discarded s source code).draws = s.draws ∧
    (State.discarded s source code).outbox = s.outbox ∧ (State.discarded s source code).diag = s.diag ∧
    (State.discarded s source code).pending = s.pending := by
  simp [State.discarded, State.event_frame _ _ _ _ _ _ _ _]

theorem State.countPort_frame (s : State) (port : ℕ) (unknown : Bool) :
    (State.countPort s port unknown).unit = s.unit ∧ (State.countPort s port unknown).opUs = s.opUs ∧
    (State.countPort s port unknown).savedOpUs = s.savedOpUs ∧
    (State.countPort s port unknown).powerCycle = s.powerCycle ∧ (State.countPort s port unknown).epoch = s.epoch ∧
    (State.countPort s port unknown).power = s.power ∧ (State.countPort s port unknown).rt = s.rt ∧
    (State.countPort s port unknown).sec = s.sec ∧ (State.countPort s port unknown).station = s.station ∧
    (State.countPort s port unknown).bench = s.bench ∧ (State.countPort s port unknown).eng = s.eng ∧
    (State.countPort s port unknown).vote = s.vote ∧ (State.countPort s port unknown).ash = s.ash ∧
    (State.countPort s port unknown).field = s.field ∧ (State.countPort s port unknown).hi = s.hi ∧
    (State.countPort s port unknown).xings = s.xings ∧ (State.countPort s port unknown).mg = s.mg ∧
    (State.countPort s port unknown).recorder = s.recorder ∧ (State.countPort s port unknown).log = s.log ∧
    (State.countPort s port unknown).test = s.test ∧ (State.countPort s port unknown).update = s.update ∧
    (State.countPort s port unknown).draws = s.draws ∧ (State.countPort s port unknown).outbox = s.outbox ∧
    (State.countPort s port unknown).diag = s.diag ∧ (State.countPort s port unknown).pending = s.pending := by
  simp [State.countPort, State.modPort_frame _ _ _]

theorem State.acceptTelegram_frame (s : State) (t : RxTelegram) (newEpoch : Bool) (resynced : Bool) :
    (State.acceptTelegram s t newEpoch resynced).unit = s.unit ∧
    (State.acceptTelegram s t newEpoch resynced).opUs = s.opUs ∧
    (State.acceptTelegram s t newEpoch resynced).savedOpUs = s.savedOpUs ∧
    (State.acceptTelegram s t newEpoch resynced).powerCycle = s.powerCycle ∧
    (State.acceptTelegram s t newEpoch resynced).epoch = s.epoch ∧
    (State.acceptTelegram s t newEpoch resynced).power = s.power ∧
    (State.acceptTelegram s t newEpoch resynced).rt = s.rt ∧ (State.acceptTelegram s t newEpoch resynced).sec = s.sec
    ∧ (State.acceptTelegram s t newEpoch resynced).station = s.station ∧
    (State.acceptTelegram s t newEpoch resynced).bench = s.bench ∧
    (State.acceptTelegram s t newEpoch resynced).eng = s.eng ∧
    (State.acceptTelegram s t newEpoch resynced).vote = s.vote ∧
    (State.acceptTelegram s t newEpoch resynced).ash = s.ash ∧
    (State.acceptTelegram s t newEpoch resynced).field = s.field ∧
    (State.acceptTelegram s t newEpoch resynced).can = s.can ∧
    (State.acceptTelegram s t newEpoch resynced).xings = s.xings ∧
    (State.acceptTelegram s t newEpoch resynced).mg = s.mg ∧ (State.acceptTelegram s t newEpoch resynced).log = s.log
    ∧ (State.acceptTelegram s t newEpoch resynced).test = s.test ∧
    (State.acceptTelegram s t newEpoch resynced).update = s.update ∧
    (State.acceptTelegram s t newEpoch resynced).draws = s.draws ∧
    (State.acceptTelegram s t newEpoch resynced).diag = s.diag ∧
    (State.acceptTelegram s t newEpoch resynced).pending = s.pending := by
  simp [State.acceptTelegram, State.discarded_frame _ _ _, State.modNode_frame _ _ _,
        State.event_frame _ _ _ _ _ _ _ _, State.note_frame _ _ _, State.modNode_net_frame _ _ _]

theorem State.combined_frame (s : State) (t : RxTelegram) (seqStep : SeqStep) (x : ℕ) (y : ℕ) :
    (State.combined s t seqStep x y).unit = s.unit ∧ (State.combined s t seqStep x y).opUs = s.opUs ∧
    (State.combined s t seqStep x y).savedOpUs = s.savedOpUs ∧
    (State.combined s t seqStep x y).powerCycle = s.powerCycle ∧ (State.combined s t seqStep x y).epoch = s.epoch ∧
    (State.combined s t seqStep x y).rt = s.rt ∧ (State.combined s t seqStep x y).station = s.station ∧
    (State.combined s t seqStep x y).ash = s.ash ∧ (State.combined s t seqStep x y).xings = s.xings ∧
    (State.combined s t seqStep x y).log = s.log ∧ (State.combined s t seqStep x y).test = s.test ∧
    (State.combined s t seqStep x y).update = s.update ∧ (State.combined s t seqStep x y).draws = s.draws ∧
    (State.combined s t seqStep x y).diag = s.diag ∧ (State.combined s t seqStep x y).pending = s.pending := by
  unfold State.combined; (repeat' split) <;> simp [State.discarded_frame _ _ _, State.modNode_frame _ _ _,
        State.countPort_frame _ _ _, State.acceptTelegram_frame _ _ _ _, State.enterSafe_frame _ _ _,
        State.event_frame _ _ _ _ _ _ _ _]

theorem State.noteHeard_frame (s : State) :
    (State.noteHeard s).unit = s.unit ∧ (State.noteHeard s).opUs = s.opUs ∧ (State.noteHeard s).savedOpUs =
    s.savedOpUs ∧ (State.noteHeard s).powerCycle = s.powerCycle ∧ (State.noteHeard s).epoch = s.epoch ∧
    (State.noteHeard s).power = s.power ∧ (State.noteHeard s).rt = s.rt ∧ (State.noteHeard s).sec = s.sec ∧
    (State.noteHeard s).station = s.station ∧ (State.noteHeard s).bench = s.bench ∧ (State.noteHeard s).eng = s.eng ∧
    (State.noteHeard s).vote = s.vote ∧ (State.noteHeard s).ash = s.ash ∧ (State.noteHeard s).field = s.field ∧
    (State.noteHeard s).can = s.can ∧ (State.noteHeard s).hi = s.hi ∧ (State.noteHeard s).xings = s.xings ∧
    (State.noteHeard s).mg = s.mg ∧ (State.noteHeard s).recorder = s.recorder ∧ (State.noteHeard s).log = s.log ∧
    (State.noteHeard s).test = s.test ∧ (State.noteHeard s).update = s.update ∧ (State.noteHeard s).draws = s.draws ∧
    (State.noteHeard s).diag = s.diag ∧ (State.noteHeard s).outbox = s.outbox ∧ (State.noteHeard s).pending =
    s.pending := by
  simp [State.noteHeard]

theorem State.listTelegram_frame (s : State) (t : RxTelegram) :
    (State.listTelegram s t).unit = s.unit ∧ (State.listTelegram s t).opUs = s.opUs ∧
    (State.listTelegram s t).savedOpUs = s.savedOpUs ∧ (State.listTelegram s t).powerCycle = s.powerCycle ∧
    (State.listTelegram s t).epoch = s.epoch ∧ (State.listTelegram s t).power = s.power ∧
    (State.listTelegram s t).rt = s.rt ∧ (State.listTelegram s t).sec = s.sec ∧
    (State.listTelegram s t).station = s.station ∧ (State.listTelegram s t).bench = s.bench ∧
    (State.listTelegram s t).eng = s.eng ∧ (State.listTelegram s t).vote = s.vote ∧
    (State.listTelegram s t).ash = s.ash ∧ (State.listTelegram s t).field = s.field ∧
    (State.listTelegram s t).hi = s.hi ∧ (State.listTelegram s t).xings = s.xings ∧ (State.listTelegram s t).mg = s.mg
    ∧ (State.listTelegram s t).log = s.log ∧ (State.listTelegram s t).test = s.test ∧
    (State.listTelegram s t).update = s.update ∧ (State.listTelegram s t).draws = s.draws ∧
    (State.listTelegram s t).outbox = s.outbox ∧ (State.listTelegram s t).diag = s.diag ∧
    (State.listTelegram s t).pending = s.pending := by
  simp [State.listTelegram, State.discarded_frame _ _ _, State.countPort_frame _ _ _]

theorem State.checkNext_frame (s : State) (faultX : Option ℕ) (faultY : Option ℕ) :
    (State.checkNext s faultX faultY).unit = s.unit ∧ (State.checkNext s faultX faultY).opUs = s.opUs ∧
    (State.checkNext s faultX faultY).savedOpUs = s.savedOpUs ∧
    (State.checkNext s faultX faultY).powerCycle = s.powerCycle ∧ (State.checkNext s faultX faultY).epoch = s.epoch ∧
    (State.checkNext s faultX faultY).rt = s.rt ∧ (State.checkNext s faultX faultY).station = s.station ∧
    (State.checkNext s faultX faultY).ash = s.ash ∧ (State.checkNext s faultX faultY).xings = s.xings ∧
    (State.checkNext s faultX faultY).log = s.log ∧ (State.checkNext s faultX faultY).test = s.test ∧
    (State.checkNext s faultX faultY).update = s.update ∧ (State.checkNext s faultX faultY).draws = s.draws ∧
    (State.checkNext s faultX faultY).diag = s.diag ∧ (State.checkNext s faultX faultY).pending = s.pending := by
  simp only [State.checkNext]; (repeat' split) <;> simp [State.drainPorts_frame _, State.combined_frame _ _ _ _ _,
        State.listTelegram_frame _ _, State.noteHeard_frame _]

theorem State.arpLearn_frame (s : State) (ip : Word) (mac : BitVec 48) :
    (State.arpLearn s ip mac).unit = s.unit ∧ (State.arpLearn s ip mac).opUs = s.opUs ∧ (State.arpLearn s ip
    mac).savedOpUs = s.savedOpUs ∧ (State.arpLearn s ip mac).powerCycle = s.powerCycle ∧ (State.arpLearn s ip
    mac).epoch = s.epoch ∧ (State.arpLearn s ip mac).power = s.power ∧ (State.arpLearn s ip mac).rt = s.rt ∧
    (State.arpLearn s ip mac).sec = s.sec ∧ (State.arpLearn s ip mac).station = s.station ∧ (State.arpLearn s ip
    mac).bench = s.bench ∧ (State.arpLearn s ip mac).eng = s.eng ∧ (State.arpLearn s ip mac).vote = s.vote ∧
    (State.arpLearn s ip mac).ash = s.ash ∧ (State.arpLearn s ip mac).field = s.field ∧ (State.arpLearn s ip mac).can
    = s.can ∧ (State.arpLearn s ip mac).hi = s.hi ∧ (State.arpLearn s ip mac).xings = s.xings ∧ (State.arpLearn s ip
    mac).mg = s.mg ∧ (State.arpLearn s ip mac).recorder = s.recorder ∧ (State.arpLearn s ip mac).log = s.log ∧
    (State.arpLearn s ip mac).test = s.test ∧ (State.arpLearn s ip mac).update = s.update ∧ (State.arpLearn s ip
    mac).draws = s.draws ∧ (State.arpLearn s ip mac).diag = s.diag ∧ (State.arpLearn s ip mac).outbox = s.outbox ∧
    (State.arpLearn s ip mac).pending = s.pending := by
  simp [State.arpLearn]

theorem State.lanHeard_frame (s : State) (lan : ℕ) :
    (State.lanHeard s lan).unit = s.unit ∧ (State.lanHeard s lan).opUs = s.opUs ∧
    (State.lanHeard s lan).savedOpUs = s.savedOpUs ∧ (State.lanHeard s lan).powerCycle = s.powerCycle ∧
    (State.lanHeard s lan).epoch = s.epoch ∧ (State.lanHeard s lan).power = s.power ∧ (State.lanHeard s lan).rt = s.rt
    ∧ (State.lanHeard s lan).sec = s.sec ∧ (State.lanHeard s lan).station = s.station ∧
    (State.lanHeard s lan).bench = s.bench ∧ (State.lanHeard s lan).eng = s.eng ∧ (State.lanHeard s lan).vote = s.vote
    ∧ (State.lanHeard s lan).ash = s.ash ∧ (State.lanHeard s lan).field = s.field ∧ (State.lanHeard s lan).can = s.can
    ∧ (State.lanHeard s lan).hi = s.hi ∧ (State.lanHeard s lan).xings = s.xings ∧ (State.lanHeard s lan).mg = s.mg ∧
    (State.lanHeard s lan).log = s.log ∧ (State.lanHeard s lan).test = s.test ∧
    (State.lanHeard s lan).update = s.update ∧ (State.lanHeard s lan).draws = s.draws ∧
    (State.lanHeard s lan).outbox = s.outbox ∧ (State.lanHeard s lan).diag = s.diag ∧
    (State.lanHeard s lan).pending = s.pending := by
  simp [State.lanHeard, State.event_frame _ _ _ _ _ _ _ _]

theorem State.duplicateCopy_frame (s : State) (lan : ℕ) (b : List Byte) :
    (State.duplicateCopy s lan b).unit = s.unit ∧ (State.duplicateCopy s lan b).opUs = s.opUs ∧
    (State.duplicateCopy s lan b).savedOpUs = s.savedOpUs ∧ (State.duplicateCopy s lan b).powerCycle = s.powerCycle ∧
    (State.duplicateCopy s lan b).epoch = s.epoch ∧ (State.duplicateCopy s lan b).power = s.power ∧
    (State.duplicateCopy s lan b).rt = s.rt ∧ (State.duplicateCopy s lan b).sec = s.sec ∧
    (State.duplicateCopy s lan b).station = s.station ∧ (State.duplicateCopy s lan b).bench = s.bench ∧
    (State.duplicateCopy s lan b).eng = s.eng ∧ (State.duplicateCopy s lan b).vote = s.vote ∧
    (State.duplicateCopy s lan b).ash = s.ash ∧ (State.duplicateCopy s lan b).field = s.field ∧
    (State.duplicateCopy s lan b).can = s.can ∧ (State.duplicateCopy s lan b).hi = s.hi ∧
    (State.duplicateCopy s lan b).xings = s.xings ∧ (State.duplicateCopy s lan b).mg = s.mg ∧
    (State.duplicateCopy s lan b).recorder = s.recorder ∧ (State.duplicateCopy s lan b).log = s.log ∧
    (State.duplicateCopy s lan b).test = s.test ∧ (State.duplicateCopy s lan b).update = s.update ∧
    (State.duplicateCopy s lan b).draws = s.draws ∧ (State.duplicateCopy s lan b).outbox = s.outbox ∧
    (State.duplicateCopy s lan b).diag = s.diag ∧ (State.duplicateCopy s lan b).pending = s.pending := by
  simp [State.duplicateCopy, State.modNode_frame _ _ _]

theorem State.toBuffer_frame (s : State) (t : RxTelegram) :
    (State.toBuffer s t).unit = s.unit ∧ (State.toBuffer s t).opUs = s.opUs ∧
    (State.toBuffer s t).savedOpUs = s.savedOpUs ∧ (State.toBuffer s t).powerCycle = s.powerCycle ∧
    (State.toBuffer s t).epoch = s.epoch ∧ (State.toBuffer s t).power = s.power ∧ (State.toBuffer s t).rt = s.rt ∧
    (State.toBuffer s t).sec = s.sec ∧ (State.toBuffer s t).station = s.station ∧ (State.toBuffer s t).bench = s.bench
    ∧ (State.toBuffer s t).eng = s.eng ∧ (State.toBuffer s t).vote = s.vote ∧ (State.toBuffer s t).ash = s.ash ∧
    (State.toBuffer s t).field = s.field ∧ (State.toBuffer s t).can = s.can ∧ (State.toBuffer s t).hi = s.hi ∧
    (State.toBuffer s t).xings = s.xings ∧ (State.toBuffer s t).mg = s.mg ∧ (State.toBuffer s t).log = s.log ∧
    (State.toBuffer s t).test = s.test ∧ (State.toBuffer s t).update = s.update ∧ (State.toBuffer s t).draws = s.draws
    ∧ (State.toBuffer s t).outbox = s.outbox ∧ (State.toBuffer s t).diag = s.diag ∧
    (State.toBuffer s t).pending = s.pending := by
  simp [State.toBuffer, State.event_frame _ _ _ _ _ _ _ _]

theorem State.datagram_frame (s : State) (d : Datagram) :
    (State.datagram s d).unit = s.unit ∧ (State.datagram s d).opUs = s.opUs ∧
    (State.datagram s d).savedOpUs = s.savedOpUs ∧ (State.datagram s d).powerCycle = s.powerCycle ∧
    (State.datagram s d).epoch = s.epoch ∧ (State.datagram s d).power = s.power ∧ (State.datagram s d).rt = s.rt ∧
    (State.datagram s d).sec = s.sec ∧ (State.datagram s d).station = s.station ∧ (State.datagram s d).bench = s.bench
    ∧ (State.datagram s d).eng = s.eng ∧ (State.datagram s d).vote = s.vote ∧ (State.datagram s d).ash = s.ash ∧
    (State.datagram s d).field = s.field ∧ (State.datagram s d).can = s.can ∧ (State.datagram s d).hi = s.hi ∧
    (State.datagram s d).xings = s.xings ∧ (State.datagram s d).mg = s.mg ∧ (State.datagram s d).log = s.log ∧
    (State.datagram s d).test = s.test ∧ (State.datagram s d).update = s.update ∧ (State.datagram s d).draws = s.draws
    ∧ (State.datagram s d).outbox = s.outbox ∧ (State.datagram s d).diag = s.diag ∧
    (State.datagram s d).pending = s.pending := by
  simp [State.datagram, State.lanHeard_frame _ _, State.duplicateCopy_frame _ _ _, State.toBuffer_frame _ _]

end Sys2Proof.Machine
end

