-- ==== Sys2Proof/Laws/HostIf.lean ====
section
/-! SUPPORT. What the operations of Machine/HostIf.lean leave alone: one lemma for each, naming every part of the state that
it does not write. -/

namespace Sys2Proof.Machine

open Sys2Proof

theorem State.restartCounter_frame (s : State) (x : Crossing) :
    (State.restartCounter s x).unit = s.unit ∧ (State.restartCounter s x).opUs = s.opUs ∧
    (State.restartCounter s x).savedOpUs = s.savedOpUs ∧ (State.restartCounter s x).powerCycle = s.powerCycle ∧
    (State.restartCounter s x).epoch = s.epoch ∧ (State.restartCounter s x).power = s.power ∧
    (State.restartCounter s x).rt = s.rt ∧ (State.restartCounter s x).sec = s.sec ∧
    (State.restartCounter s x).station = s.station ∧ (State.restartCounter s x).bench = s.bench ∧
    (State.restartCounter s x).eng = s.eng ∧ (State.restartCounter s x).vote = s.vote ∧
    (State.restartCounter s x).ash = s.ash ∧ (State.restartCounter s x).field = s.field ∧
    (State.restartCounter s x).can = s.can ∧ (State.restartCounter s x).net = s.net ∧
    (State.restartCounter s x).hi = s.hi ∧ (State.restartCounter s x).mg = s.mg ∧
    (State.restartCounter s x).recorder = s.recorder ∧ (State.restartCounter s x).log = s.log ∧
    (State.restartCounter s x).test = s.test ∧ (State.restartCounter s x).update = s.update ∧
    (State.restartCounter s x).draws = s.draws ∧ (State.restartCounter s x).outbox = s.outbox ∧
    (State.restartCounter s x).diag = s.diag ∧ (State.restartCounter s x).pending = s.pending := by
  simp [State.restartCounter, State.setXing_frame _ _ _]

theorem State.linkFlags_frame (s : State) :
    (State.linkFlags s).unit = s.unit ∧ (State.linkFlags s).opUs = s.opUs ∧
    (State.linkFlags s).savedOpUs = s.savedOpUs ∧ (State.linkFlags s).powerCycle = s.powerCycle ∧
    (State.linkFlags s).epoch = s.epoch ∧ (State.linkFlags s).power = s.power ∧ (State.linkFlags s).rt = s.rt ∧
    (State.linkFlags s).sec = s.sec ∧ (State.linkFlags s).station = s.station ∧ (State.linkFlags s).bench = s.bench ∧
    (State.linkFlags s).eng = s.eng ∧ (State.linkFlags s).vote = s.vote ∧ (State.linkFlags s).ash = s.ash ∧
    (State.linkFlags s).field = s.field ∧ (State.linkFlags s).can = s.can ∧ (State.linkFlags s).net = s.net ∧
    (State.linkFlags s).xings = s.xings ∧ (State.linkFlags s).mg = s.mg ∧ (State.linkFlags s).recorder = s.recorder ∧
    (State.linkFlags s).log = s.log ∧ (State.linkFlags s).test = s.test ∧ (State.linkFlags s).update = s.update ∧
    (State.linkFlags s).draws = s.draws ∧ (State.linkFlags s).diag = s.diag ∧ (State.linkFlags s).pending = s.pending
    := by
  simp [State.linkFlags, State.irq_frame _ _]

theorem State.countsUp_frame (s : State) (x : Crossing) :
    (State.countsUp s x).unit = s.unit ∧ (State.countsUp s x).opUs = s.opUs ∧ (State.countsUp s x).savedOpUs =
    s.savedOpUs ∧ (State.countsUp s x).powerCycle = s.powerCycle ∧ (State.countsUp s x).epoch = s.epoch ∧
    (State.countsUp s x).power = s.power ∧ (State.countsUp s x).rt = s.rt ∧ (State.countsUp s x).sec = s.sec ∧
    (State.countsUp s x).station = s.station ∧ (State.countsUp s x).bench = s.bench ∧ (State.countsUp s x).eng = s.eng
    ∧ (State.countsUp s x).vote = s.vote ∧ (State.countsUp s x).ash = s.ash ∧ (State.countsUp s x).xings = s.xings ∧
    (State.countsUp s x).recorder = s.recorder ∧ (State.countsUp s x).log = s.log ∧ (State.countsUp s x).test = s.test
    ∧ (State.countsUp s x).update = s.update ∧ (State.countsUp s x).draws = s.draws ∧ (State.countsUp s x).diag =
    s.diag ∧ (State.countsUp s x).outbox = s.outbox ∧ (State.countsUp s x).pending = s.pending := by
  unfold State.countsUp; split <;> simp

theorem State.linkUp_frame (s : State) (x : Crossing) :
    (State.linkUp s x).unit = s.unit ∧ (State.linkUp s x).opUs = s.opUs ∧ (State.linkUp s x).savedOpUs = s.savedOpUs ∧
    (State.linkUp s x).powerCycle = s.powerCycle ∧ (State.linkUp s x).epoch = s.epoch ∧
    (State.linkUp s x).power = s.power ∧ (State.linkUp s x).rt = s.rt ∧ (State.linkUp s x).sec = s.sec ∧
    (State.linkUp s x).station = s.station ∧ (State.linkUp s x).bench = s.bench ∧ (State.linkUp s x).eng = s.eng ∧
    (State.linkUp s x).vote = s.vote ∧ (State.linkUp s x).ash = s.ash ∧ (State.linkUp s x).log = s.log ∧
    (State.linkUp s x).test = s.test ∧ (State.linkUp s x).update = s.update ∧ (State.linkUp s x).draws = s.draws ∧
    (State.linkUp s x).diag = s.diag ∧ (State.linkUp s x).pending = s.pending := by
  simp [State.linkUp, State.linkFlags_frame _, State.countsUp_frame _ _, State.event_frame _ _ _ _ _ _ _ _, State.setXing_frame _ _ _]

theorem State.flushReset_frame (s : State) :
    (State.flushReset s).unit = s.unit ∧ (State.flushReset s).opUs = s.opUs ∧ (State.flushReset s).savedOpUs =
    s.savedOpUs ∧ (State.flushReset s).powerCycle = s.powerCycle ∧ (State.flushReset s).epoch = s.epoch ∧
    (State.flushReset s).power = s.power ∧ (State.flushReset s).rt = s.rt ∧ (State.flushReset s).sec = s.sec ∧
    (State.flushReset s).station = s.station ∧ (State.flushReset s).bench = s.bench ∧ (State.flushReset s).eng = s.eng
    ∧ (State.flushReset s).vote = s.vote ∧ (State.flushReset s).ash = s.ash ∧ (State.flushReset s).field = s.field ∧
    (State.flushReset s).can = s.can ∧ (State.flushReset s).net = s.net ∧ (State.flushReset s).xings = s.xings ∧
    (State.flushReset s).mg = s.mg ∧ (State.flushReset s).recorder = s.recorder ∧ (State.flushReset s).log = s.log ∧
    (State.flushReset s).test = s.test ∧ (State.flushReset s).update = s.update ∧ (State.flushReset s).draws = s.draws
    ∧ (State.flushReset s).diag = s.diag ∧ (State.flushReset s).pending = s.pending := by
  unfold State.flushReset; (repeat' split) <;> simp [State.ringWrite_frame _ _ _]

theorem State.flushHeld_frame (s : State) :
    (State.flushHeld s).unit = s.unit ∧ (State.flushHeld s).opUs = s.opUs ∧
    (State.flushHeld s).savedOpUs = s.savedOpUs ∧ (State.flushHeld s).powerCycle = s.powerCycle ∧
    (State.flushHeld s).epoch = s.epoch ∧ (State.flushHeld s).power = s.power ∧ (State.flushHeld s).rt = s.rt ∧
    (State.flushHeld s).sec = s.sec ∧ (State.flushHeld s).station = s.station ∧ (State.flushHeld s).bench = s.bench ∧
    (State.flushHeld s).eng = s.eng ∧ (State.flushHeld s).vote = s.vote ∧ (State.flushHeld s).ash = s.ash ∧
    (State.flushHeld s).field = s.field ∧ (State.flushHeld s).can = s.can ∧ (State.flushHeld s).net = s.net ∧
    (State.flushHeld s).xings = s.xings ∧ (State.flushHeld s).mg = s.mg ∧ (State.flushHeld s).recorder = s.recorder ∧
    (State.flushHeld s).log = s.log ∧ (State.flushHeld s).test = s.test ∧ (State.flushHeld s).update = s.update ∧
    (State.flushHeld s).draws = s.draws ∧ (State.flushHeld s).diag = s.diag ∧ (State.flushHeld s).pending = s.pending
    := by
  simp [State.flushHeld, State.ringWrite_frame _ _ _, State.flushReset_frame _]

theorem State.restartRing_frame (s : State) (cause : ℕ) (kept : List (ℕ × Note)) :
    (State.restartRing s cause kept).unit = s.unit ∧ (State.restartRing s cause kept).opUs = s.opUs ∧
    (State.restartRing s cause kept).savedOpUs = s.savedOpUs ∧
    (State.restartRing s cause kept).powerCycle = s.powerCycle ∧ (State.restartRing s cause kept).epoch = s.epoch ∧
    (State.restartRing s cause kept).power = s.power ∧ (State.restartRing s cause kept).rt = s.rt ∧
    (State.restartRing s cause kept).sec = s.sec ∧ (State.restartRing s cause kept).station = s.station ∧
    (State.restartRing s cause kept).bench = s.bench ∧ (State.restartRing s cause kept).eng = s.eng ∧
    (State.restartRing s cause kept).vote = s.vote ∧ (State.restartRing s cause kept).ash = s.ash ∧
    (State.restartRing s cause kept).field = s.field ∧ (State.restartRing s cause kept).can = s.can ∧
    (State.restartRing s cause kept).net = s.net ∧ (State.restartRing s cause kept).xings = s.xings ∧
    (State.restartRing s cause kept).mg = s.mg ∧ (State.restartRing s cause kept).recorder = s.recorder ∧
    (State.restartRing s cause kept).log = s.log ∧ (State.restartRing s cause kept).test = s.test ∧
    (State.restartRing s cause kept).update = s.update ∧ (State.restartRing s cause kept).draws = s.draws ∧
    (State.restartRing s cause kept).outbox = s.outbox ∧ (State.restartRing s cause kept).diag = s.diag ∧
    (State.restartRing s cause kept).pending = s.pending := by
  simp [State.restartRing]

theorem State.hostReset_frame (s : State) :
    (State.hostReset s).unit = s.unit ∧ (State.hostReset s).opUs = s.opUs ∧
    (State.hostReset s).savedOpUs = s.savedOpUs ∧ (State.hostReset s).powerCycle = s.powerCycle ∧
    (State.hostReset s).epoch = s.epoch ∧ (State.hostReset s).power = s.power ∧ (State.hostReset s).rt = s.rt ∧
    (State.hostReset s).sec = s.sec ∧ (State.hostReset s).station = s.station ∧ (State.hostReset s).eng = s.eng ∧
    (State.hostReset s).vote = s.vote ∧ (State.hostReset s).ash = s.ash ∧ (State.hostReset s).field = s.field ∧
    (State.hostReset s).can = s.can ∧ (State.hostReset s).net = s.net ∧ (State.hostReset s).log = s.log ∧
    (State.hostReset s).test = s.test ∧ (State.hostReset s).update = s.update ∧ (State.hostReset s).draws = s.draws ∧
    (State.hostReset s).outbox = s.outbox ∧ (State.hostReset s).diag = s.diag ∧
    (State.hostReset s).pending = s.pending := by
  simp [State.hostReset, State.restartCounter_frame _ _, State.fence_frame _ _, State.fenceDest_frame _ _, State.restartRing_frame _ _ _]

theorem State.mgLost_frame (s : State) :
    (State.mgLost s).unit = s.unit ∧ (State.mgLost s).opUs = s.opUs ∧ (State.mgLost s).savedOpUs = s.savedOpUs ∧
    (State.mgLost s).powerCycle = s.powerCycle ∧ (State.mgLost s).epoch = s.epoch ∧ (State.mgLost s).power = s.power ∧
    (State.mgLost s).rt = s.rt ∧ (State.mgLost s).sec = s.sec ∧ (State.mgLost s).station = s.station ∧
    (State.mgLost s).eng = s.eng ∧ (State.mgLost s).vote = s.vote ∧ (State.mgLost s).ash = s.ash ∧
    (State.mgLost s).field = s.field ∧ (State.mgLost s).net = s.net ∧ (State.mgLost s).log = s.log ∧
    (State.mgLost s).test = s.test ∧ (State.mgLost s).update = s.update ∧ (State.mgLost s).draws = s.draws ∧
    (State.mgLost s).pending = s.pending := by
  simp [State.mgLost, State.restartCounter_frame _ _, State.linkFlags_frame _, State.fenceAll_frame _ _, State.fenceDest_frame _ _,
        State.note_frame _ _ _, State.event_frame _ _ _ _ _ _ _ _]

theorem State.mgRestart_frame (s : State) :
    (State.mgRestart s).unit = s.unit ∧ (State.mgRestart s).opUs = s.opUs ∧
    (State.mgRestart s).savedOpUs = s.savedOpUs ∧ (State.mgRestart s).powerCycle = s.powerCycle ∧
    (State.mgRestart s).epoch = s.epoch ∧ (State.mgRestart s).power = s.power ∧ (State.mgRestart s).sec = s.sec ∧
    (State.mgRestart s).station = s.station ∧ (State.mgRestart s).bench = s.bench ∧ (State.mgRestart s).vote = s.vote
    ∧ (State.mgRestart s).ash = s.ash ∧ (State.mgRestart s).field = s.field ∧ (State.mgRestart s).can = s.can ∧
    (State.mgRestart s).net = s.net ∧ (State.mgRestart s).xings = s.xings ∧ (State.mgRestart s).log = s.log ∧
    (State.mgRestart s).test = s.test ∧ (State.mgRestart s).update = s.update ∧ (State.mgRestart s).draws = s.draws ∧
    (State.mgRestart s).diag = s.diag ∧ (State.mgRestart s).pending = s.pending := by
  simp [State.mgRestart, State.deliver_frame _ _, State.restartRing_frame _ _ _, State.deliver_mg_frame _ _,
        State.event_frame _ _ _ _ _ _ _ _]

theorem State.clearDone_frame (s : State) (high : Bool) (value : Word) :
    (State.clearDone s high value).unit = s.unit ∧ (State.clearDone s high value).opUs = s.opUs ∧
    (State.clearDone s high value).savedOpUs = s.savedOpUs ∧ (State.clearDone s high value).powerCycle = s.powerCycle
    ∧ (State.clearDone s high value).epoch = s.epoch ∧ (State.clearDone s high value).power = s.power ∧
    (State.clearDone s high value).rt = s.rt ∧ (State.clearDone s high value).sec = s.sec ∧
    (State.clearDone s high value).station = s.station ∧ (State.clearDone s high value).bench = s.bench ∧
    (State.clearDone s high value).eng = s.eng ∧ (State.clearDone s high value).vote = s.vote ∧
    (State.clearDone s high value).ash = s.ash ∧ (State.clearDone s high value).field = s.field ∧
    (State.clearDone s high value).can = s.can ∧ (State.clearDone s high value).net = s.net ∧
    (State.clearDone s high value).xings = s.xings ∧ (State.clearDone s high value).mg = s.mg ∧
    (State.clearDone s high value).recorder = s.recorder ∧ (State.clearDone s high value).log = s.log ∧
    (State.clearDone s high value).test = s.test ∧ (State.clearDone s high value).update = s.update ∧
    (State.clearDone s high value).draws = s.draws ∧ (State.clearDone s high value).outbox = s.outbox ∧
    (State.clearDone s high value).diag = s.diag ∧ (State.clearDone s high value).pending = s.pending := by
  simp [State.clearDone]

theorem State.clearIrq_frame (s : State) (value : Word) :
    (State.clearIrq s value).unit = s.unit ∧ (State.clearIrq s value).opUs = s.opUs ∧
    (State.clearIrq s value).savedOpUs = s.savedOpUs ∧ (State.clearIrq s value).powerCycle = s.powerCycle ∧
    (State.clearIrq s value).epoch = s.epoch ∧ (State.clearIrq s value).power = s.power ∧
    (State.clearIrq s value).rt = s.rt ∧ (State.clearIrq s value).sec = s.sec ∧
    (State.clearIrq s value).station = s.station ∧ (State.clearIrq s value).bench = s.bench ∧
    (State.clearIrq s value).eng = s.eng ∧ (State.clearIrq s value).vote = s.vote ∧
    (State.clearIrq s value).ash = s.ash ∧ (State.clearIrq s value).field = s.field ∧
    (State.clearIrq s value).can = s.can ∧ (State.clearIrq s value).net = s.net ∧
    (State.clearIrq s value).xings = s.xings ∧ (State.clearIrq s value).mg = s.mg ∧
    (State.clearIrq s value).recorder = s.recorder ∧ (State.clearIrq s value).log = s.log ∧
    (State.clearIrq s value).test = s.test ∧ (State.clearIrq s value).update = s.update ∧
    (State.clearIrq s value).draws = s.draws ∧ (State.clearIrq s value).outbox = s.outbox ∧
    (State.clearIrq s value).diag = s.diag ∧ (State.clearIrq s value).pending = s.pending := by
  simp [State.clearIrq]

theorem State.writeMask_frame (s : State) (value : Word) :
    (State.writeMask s value).unit = s.unit ∧ (State.writeMask s value).opUs = s.opUs ∧
    (State.writeMask s value).savedOpUs = s.savedOpUs ∧ (State.writeMask s value).powerCycle = s.powerCycle ∧
    (State.writeMask s value).epoch = s.epoch ∧ (State.writeMask s value).power = s.power ∧
    (State.writeMask s value).rt = s.rt ∧ (State.writeMask s value).sec = s.sec ∧
    (State.writeMask s value).station = s.station ∧ (State.writeMask s value).bench = s.bench ∧
    (State.writeMask s value).eng = s.eng ∧ (State.writeMask s value).vote = s.vote ∧
    (State.writeMask s value).ash = s.ash ∧ (State.writeMask s value).field = s.field ∧
    (State.writeMask s value).can = s.can ∧ (State.writeMask s value).net = s.net ∧
    (State.writeMask s value).xings = s.xings ∧ (State.writeMask s value).mg = s.mg ∧
    (State.writeMask s value).recorder = s.recorder ∧ (State.writeMask s value).log = s.log ∧
    (State.writeMask s value).test = s.test ∧ (State.writeMask s value).update = s.update ∧
    (State.writeMask s value).draws = s.draws ∧ (State.writeMask s value).diag = s.diag ∧
    (State.writeMask s value).pending = s.pending := by
  simp [State.writeMask, State.msi_frame _ _]

theorem State.writeTail_frame (s : State) (value : Word) :
    (State.writeTail s value).unit = s.unit ∧ (State.writeTail s value).opUs = s.opUs ∧
    (State.writeTail s value).savedOpUs = s.savedOpUs ∧ (State.writeTail s value).powerCycle = s.powerCycle ∧
    (State.writeTail s value).epoch = s.epoch ∧ (State.writeTail s value).power = s.power ∧
    (State.writeTail s value).rt = s.rt ∧ (State.writeTail s value).sec = s.sec ∧
    (State.writeTail s value).station = s.station ∧ (State.writeTail s value).bench = s.bench ∧
    (State.writeTail s value).eng = s.eng ∧ (State.writeTail s value).vote = s.vote ∧
    (State.writeTail s value).ash = s.ash ∧ (State.writeTail s value).field = s.field ∧
    (State.writeTail s value).can = s.can ∧ (State.writeTail s value).net = s.net ∧
    (State.writeTail s value).xings = s.xings ∧ (State.writeTail s value).mg = s.mg ∧
    (State.writeTail s value).recorder = s.recorder ∧ (State.writeTail s value).log = s.log ∧
    (State.writeTail s value).test = s.test ∧ (State.writeTail s value).update = s.update ∧
    (State.writeTail s value).draws = s.draws ∧ (State.writeTail s value).outbox = s.outbox ∧
    (State.writeTail s value).diag = s.diag ∧ (State.writeTail s value).pending = s.pending := by
  simp [State.writeTail]

theorem State.writeM2_frame (s : State) (value : Bool) :
    (State.writeM2 s value).unit = s.unit ∧ (State.writeM2 s value).opUs = s.opUs ∧
    (State.writeM2 s value).savedOpUs = s.savedOpUs ∧ (State.writeM2 s value).powerCycle = s.powerCycle ∧
    (State.writeM2 s value).epoch = s.epoch ∧ (State.writeM2 s value).power = s.power ∧
    (State.writeM2 s value).rt = s.rt ∧ (State.writeM2 s value).sec = s.sec ∧
    (State.writeM2 s value).station = s.station ∧ (State.writeM2 s value).bench = s.bench ∧
    (State.writeM2 s value).eng = s.eng ∧ (State.writeM2 s value).vote = s.vote ∧ (State.writeM2 s value).ash = s.ash
    ∧ (State.writeM2 s value).field = s.field ∧ (State.writeM2 s value).can = s.can ∧
    (State.writeM2 s value).net = s.net ∧ (State.writeM2 s value).xings = s.xings ∧ (State.writeM2 s value).mg = s.mg
    ∧ (State.writeM2 s value).recorder = s.recorder ∧ (State.writeM2 s value).log = s.log ∧
    (State.writeM2 s value).test = s.test ∧ (State.writeM2 s value).update = s.update ∧
    (State.writeM2 s value).draws = s.draws ∧ (State.writeM2 s value).outbox = s.outbox ∧
    (State.writeM2 s value).diag = s.diag ∧ (State.writeM2 s value).pending = s.pending := by
  simp [State.writeM2]

theorem State.clearLinkEvents_frame (s : State) (mg : Bool) (cl : Bool) :
    (State.clearLinkEvents s mg cl).unit = s.unit ∧ (State.clearLinkEvents s mg cl).opUs = s.opUs ∧
    (State.clearLinkEvents s mg cl).savedOpUs = s.savedOpUs ∧
    (State.clearLinkEvents s mg cl).powerCycle = s.powerCycle ∧ (State.clearLinkEvents s mg cl).epoch = s.epoch ∧
    (State.clearLinkEvents s mg cl).power = s.power ∧ (State.clearLinkEvents s mg cl).rt = s.rt ∧
    (State.clearLinkEvents s mg cl).sec = s.sec ∧ (State.clearLinkEvents s mg cl).station = s.station ∧
    (State.clearLinkEvents s mg cl).bench = s.bench ∧ (State.clearLinkEvents s mg cl).eng = s.eng ∧
    (State.clearLinkEvents s mg cl).vote = s.vote ∧ (State.clearLinkEvents s mg cl).ash = s.ash ∧
    (State.clearLinkEvents s mg cl).field = s.field ∧ (State.clearLinkEvents s mg cl).can = s.can ∧
    (State.clearLinkEvents s mg cl).net = s.net ∧ (State.clearLinkEvents s mg cl).xings = s.xings ∧
    (State.clearLinkEvents s mg cl).mg = s.mg ∧ (State.clearLinkEvents s mg cl).recorder = s.recorder ∧
    (State.clearLinkEvents s mg cl).log = s.log ∧ (State.clearLinkEvents s mg cl).test = s.test ∧
    (State.clearLinkEvents s mg cl).update = s.update ∧ (State.clearLinkEvents s mg cl).draws = s.draws ∧
    (State.clearLinkEvents s mg cl).outbox = s.outbox ∧ (State.clearLinkEvents s mg cl).diag = s.diag ∧
    (State.clearLinkEvents s mg cl).pending = s.pending := by
  simp [State.clearLinkEvents]

theorem State.mirror_frame (s : State) (samples : List Word) :
    (State.mirror s samples).unit = s.unit ∧ (State.mirror s samples).opUs = s.opUs ∧
    (State.mirror s samples).savedOpUs = s.savedOpUs ∧ (State.mirror s samples).powerCycle = s.powerCycle ∧
    (State.mirror s samples).epoch = s.epoch ∧ (State.mirror s samples).power = s.power ∧
    (State.mirror s samples).rt = s.rt ∧ (State.mirror s samples).sec = s.sec ∧
    (State.mirror s samples).station = s.station ∧ (State.mirror s samples).bench = s.bench ∧
    (State.mirror s samples).eng = s.eng ∧ (State.mirror s samples).vote = s.vote ∧
    (State.mirror s samples).ash = s.ash ∧ (State.mirror s samples).field = s.field ∧
    (State.mirror s samples).can = s.can ∧ (State.mirror s samples).net = s.net ∧
    (State.mirror s samples).xings = s.xings ∧ (State.mirror s samples).mg = s.mg ∧
    (State.mirror s samples).log = s.log ∧ (State.mirror s samples).test = s.test ∧
    (State.mirror s samples).update = s.update ∧ (State.mirror s samples).draws = s.draws ∧
    (State.mirror s samples).outbox = s.outbox ∧ (State.mirror s samples).diag = s.diag ∧
    (State.mirror s samples).pending = s.pending := by
  unfold State.mirror; (repeat' split) <;> simp [State.event_frame _ _ _ _ _ _ _ _]

end Sys2Proof.Machine
end

