-- ==== Sys2Proof/Laws/Recorder.lean ====
section
/-! SUPPORT. What the operations of Machine/Recorder.lean leave alone: one lemma for each, naming every part of the state that
it does not write. -/

namespace Sys2Proof.Machine

open Sys2Proof

theorem State.thaw_frame (s : State) :
    (State.thaw s).unit = s.unit ∧ (State.thaw s).opUs = s.opUs ∧ (State.thaw s).savedOpUs = s.savedOpUs ∧
    (State.thaw s).powerCycle = s.powerCycle ∧ (State.thaw s).epoch = s.epoch ∧ (State.thaw s).power = s.power ∧
    (State.thaw s).sec = s.sec ∧ (State.thaw s).station = s.station ∧ (State.thaw s).bench = s.bench ∧
    (State.thaw s).eng = s.eng ∧ (State.thaw s).vote = s.vote ∧ (State.thaw s).ash = s.ash ∧
    (State.thaw s).field = s.field ∧ (State.thaw s).can = s.can ∧ (State.thaw s).net = s.net ∧
    (State.thaw s).hi = s.hi ∧ (State.thaw s).xings = s.xings ∧ (State.thaw s).mg = s.mg ∧ (State.thaw s).log = s.log
    ∧ (State.thaw s).test = s.test ∧ (State.thaw s).update = s.update ∧ (State.thaw s).draws = s.draws ∧
    (State.thaw s).outbox = s.outbox ∧ (State.thaw s).diag = s.diag ∧ (State.thaw s).pending = s.pending := by
  simp [State.thaw]

theorem State.store_frame (s : State) (r : Record) :
    (State.store s r).unit = s.unit ∧ (State.store s r).opUs = s.opUs ∧ (State.store s r).savedOpUs = s.savedOpUs ∧
    (State.store s r).powerCycle = s.powerCycle ∧ (State.store s r).epoch = s.epoch ∧
    (State.store s r).power = s.power ∧ (State.store s r).sec = s.sec ∧ (State.store s r).station = s.station ∧
    (State.store s r).bench = s.bench ∧ (State.store s r).eng = s.eng ∧ (State.store s r).vote = s.vote ∧
    (State.store s r).ash = s.ash ∧ (State.store s r).field = s.field ∧ (State.store s r).can = s.can ∧
    (State.store s r).net = s.net ∧ (State.store s r).hi = s.hi ∧ (State.store s r).xings = s.xings ∧
    (State.store s r).mg = s.mg ∧ (State.store s r).log = s.log ∧ (State.store s r).test = s.test ∧
    (State.store s r).update = s.update ∧ (State.store s r).draws = s.draws ∧ (State.store s r).outbox = s.outbox ∧
    (State.store s r).diag = s.diag ∧ (State.store s r).pending = s.pending := by
  simp [State.store, State.thaw_frame _]

theorem State.summarise_frame (s : State) (code : ℕ) :
    (State.summarise s code).unit = s.unit ∧ (State.summarise s code).opUs = s.opUs ∧
    (State.summarise s code).savedOpUs = s.savedOpUs ∧ (State.summarise s code).powerCycle = s.powerCycle ∧
    (State.summarise s code).epoch = s.epoch ∧ (State.summarise s code).power = s.power ∧
    (State.summarise s code).sec = s.sec ∧ (State.summarise s code).station = s.station ∧
    (State.summarise s code).bench = s.bench ∧ (State.summarise s code).eng = s.eng ∧
    (State.summarise s code).vote = s.vote ∧ (State.summarise s code).ash = s.ash ∧
    (State.summarise s code).field = s.field ∧ (State.summarise s code).can = s.can ∧
    (State.summarise s code).net = s.net ∧ (State.summarise s code).hi = s.hi ∧
    (State.summarise s code).xings = s.xings ∧ (State.summarise s code).mg = s.mg ∧
    (State.summarise s code).log = s.log ∧ (State.summarise s code).test = s.test ∧
    (State.summarise s code).update = s.update ∧ (State.summarise s code).draws = s.draws ∧
    (State.summarise s code).outbox = s.outbox ∧ (State.summarise s code).diag = s.diag ∧
    (State.summarise s code).pending = s.pending := by
  simp [State.summarise, State.store_frame _ _]

theorem State.refill_frame (s : State) (code : ℕ) :
    (State.refill s code).unit = s.unit ∧ (State.refill s code).opUs = s.opUs ∧
    (State.refill s code).savedOpUs = s.savedOpUs ∧ (State.refill s code).powerCycle = s.powerCycle ∧
    (State.refill s code).epoch = s.epoch ∧ (State.refill s code).power = s.power ∧ (State.refill s code).sec = s.sec
    ∧ (State.refill s code).station = s.station ∧ (State.refill s code).bench = s.bench ∧
    (State.refill s code).eng = s.eng ∧ (State.refill s code).vote = s.vote ∧ (State.refill s code).ash = s.ash ∧
    (State.refill s code).field = s.field ∧ (State.refill s code).can = s.can ∧ (State.refill s code).net = s.net ∧
    (State.refill s code).hi = s.hi ∧ (State.refill s code).xings = s.xings ∧ (State.refill s code).mg = s.mg ∧
    (State.refill s code).log = s.log ∧ (State.refill s code).test = s.test ∧ (State.refill s code).update = s.update
    ∧ (State.refill s code).draws = s.draws ∧ (State.refill s code).outbox = s.outbox ∧
    (State.refill s code).diag = s.diag ∧ (State.refill s code).pending = s.pending := by
  simp [State.refill, State.summarise_frame _ _]

theorem State.pass_frame (s : State) (r : Record) :
    (State.pass s r).unit = s.unit ∧ (State.pass s r).opUs = s.opUs ∧ (State.pass s r).savedOpUs = s.savedOpUs ∧
    (State.pass s r).powerCycle = s.powerCycle ∧ (State.pass s r).epoch = s.epoch ∧ (State.pass s r).power = s.power ∧
    (State.pass s r).sec = s.sec ∧ (State.pass s r).station = s.station ∧ (State.pass s r).bench = s.bench ∧
    (State.pass s r).eng = s.eng ∧ (State.pass s r).vote = s.vote ∧ (State.pass s r).ash = s.ash ∧
    (State.pass s r).field = s.field ∧ (State.pass s r).can = s.can ∧ (State.pass s r).hi = s.hi ∧
    (State.pass s r).xings = s.xings ∧ (State.pass s r).mg = s.mg ∧ (State.pass s r).log = s.log ∧
    (State.pass s r).test = s.test ∧ (State.pass s r).update = s.update ∧ (State.pass s r).draws = s.draws ∧
    (State.pass s r).outbox = s.outbox ∧ (State.pass s r).diag = s.diag ∧ (State.pass s r).pending = s.pending := by
  simp [State.pass, State.store_frame _ _]

theorem State.suppress_frame (s : State) (r : Record) (b : Bucket) :
    (State.suppress s r b).unit = s.unit ∧ (State.suppress s r b).opUs = s.opUs ∧
    (State.suppress s r b).savedOpUs = s.savedOpUs ∧ (State.suppress s r b).powerCycle = s.powerCycle ∧
    (State.suppress s r b).epoch = s.epoch ∧ (State.suppress s r b).power = s.power ∧ (State.suppress s r b).rt = s.rt
    ∧ (State.suppress s r b).sec = s.sec ∧ (State.suppress s r b).station = s.station ∧
    (State.suppress s r b).bench = s.bench ∧ (State.suppress s r b).eng = s.eng ∧ (State.suppress s r b).vote = s.vote
    ∧ (State.suppress s r b).ash = s.ash ∧ (State.suppress s r b).field = s.field ∧ (State.suppress s r b).can = s.can
    ∧ (State.suppress s r b).hi = s.hi ∧ (State.suppress s r b).xings = s.xings ∧ (State.suppress s r b).mg = s.mg ∧
    (State.suppress s r b).log = s.log ∧ (State.suppress s r b).test = s.test ∧
    (State.suppress s r b).update = s.update ∧ (State.suppress s r b).draws = s.draws ∧
    (State.suppress s r b).outbox = s.outbox ∧ (State.suppress s r b).diag = s.diag ∧
    (State.suppress s r b).pending = s.pending := by
  simp [State.suppress]

theorem State.record_frame (s : State) (r : Record) :
    (State.record s r).unit = s.unit ∧ (State.record s r).opUs = s.opUs ∧ (State.record s r).savedOpUs = s.savedOpUs ∧
    (State.record s r).powerCycle = s.powerCycle ∧ (State.record s r).epoch = s.epoch ∧
    (State.record s r).power = s.power ∧ (State.record s r).sec = s.sec ∧ (State.record s r).station = s.station ∧
    (State.record s r).bench = s.bench ∧ (State.record s r).eng = s.eng ∧ (State.record s r).vote = s.vote ∧
    (State.record s r).ash = s.ash ∧ (State.record s r).field = s.field ∧ (State.record s r).can = s.can ∧
    (State.record s r).hi = s.hi ∧ (State.record s r).xings = s.xings ∧ (State.record s r).mg = s.mg ∧
    (State.record s r).log = s.log ∧ (State.record s r).test = s.test ∧ (State.record s r).update = s.update ∧
    (State.record s r).draws = s.draws ∧ (State.record s r).outbox = s.outbox ∧ (State.record s r).diag = s.diag ∧
    (State.record s r).pending = s.pending := by
  simp [State.record, State.refill_frame _ _, State.pass_frame _ _, State.suppress_frame _ _ _]

theorem State.writeNext_frame (s : State) :
    (State.writeNext s).unit = s.unit ∧ (State.writeNext s).opUs = s.opUs ∧
    (State.writeNext s).savedOpUs = s.savedOpUs ∧ (State.writeNext s).powerCycle = s.powerCycle ∧
    (State.writeNext s).epoch = s.epoch ∧ (State.writeNext s).power = s.power ∧ (State.writeNext s).sec = s.sec ∧
    (State.writeNext s).station = s.station ∧ (State.writeNext s).bench = s.bench ∧ (State.writeNext s).eng = s.eng ∧
    (State.writeNext s).vote = s.vote ∧ (State.writeNext s).ash = s.ash ∧ (State.writeNext s).field = s.field ∧
    (State.writeNext s).can = s.can ∧ (State.writeNext s).hi = s.hi ∧ (State.writeNext s).xings = s.xings ∧
    (State.writeNext s).mg = s.mg ∧ (State.writeNext s).log = s.log ∧ (State.writeNext s).test = s.test ∧
    (State.writeNext s).update = s.update ∧ (State.writeNext s).draws = s.draws ∧
    (State.writeNext s).outbox = s.outbox ∧ (State.writeNext s).diag = s.diag ∧
    (State.writeNext s).pending = s.pending := by
  unfold State.writeNext; (repeat' split) <;> simp [State.record_frame _ _]

theorem State.writeAll_frame (s : State) :
    (State.writeAll s).unit = s.unit ∧ (State.writeAll s).opUs = s.opUs ∧ (State.writeAll s).savedOpUs = s.savedOpUs ∧
    (State.writeAll s).powerCycle = s.powerCycle ∧ (State.writeAll s).epoch = s.epoch ∧
    (State.writeAll s).power = s.power ∧ (State.writeAll s).sec = s.sec ∧ (State.writeAll s).station = s.station ∧
    (State.writeAll s).bench = s.bench ∧ (State.writeAll s).eng = s.eng ∧ (State.writeAll s).vote = s.vote ∧
    (State.writeAll s).ash = s.ash ∧ (State.writeAll s).field = s.field ∧ (State.writeAll s).can = s.can ∧
    (State.writeAll s).hi = s.hi ∧ (State.writeAll s).xings = s.xings ∧ (State.writeAll s).mg = s.mg ∧
    (State.writeAll s).log = s.log ∧ (State.writeAll s).test = s.test ∧ (State.writeAll s).update = s.update ∧
    (State.writeAll s).draws = s.draws ∧ (State.writeAll s).outbox = s.outbox ∧ (State.writeAll s).diag = s.diag ∧
    (State.writeAll s).pending = s.pending := by
  simp [State.writeAll, State.record_frame _ _]

theorem State.withdrawBlock_frame (s : State) (b : ℕ) :
    (State.withdrawBlock s b).unit = s.unit ∧ (State.withdrawBlock s b).opUs = s.opUs ∧ (State.withdrawBlock s
    b).savedOpUs = s.savedOpUs ∧ (State.withdrawBlock s b).powerCycle = s.powerCycle ∧ (State.withdrawBlock s b).epoch
    = s.epoch ∧ (State.withdrawBlock s b).power = s.power ∧ (State.withdrawBlock s b).rt = s.rt ∧ (State.withdrawBlock
    s b).station = s.station ∧ (State.withdrawBlock s b).bench = s.bench ∧ (State.withdrawBlock s b).eng = s.eng ∧
    (State.withdrawBlock s b).vote = s.vote ∧ (State.withdrawBlock s b).ash = s.ash ∧ (State.withdrawBlock s b).field
    = s.field ∧ (State.withdrawBlock s b).can = s.can ∧ (State.withdrawBlock s b).net = s.net ∧ (State.withdrawBlock s
    b).hi = s.hi ∧ (State.withdrawBlock s b).xings = s.xings ∧ (State.withdrawBlock s b).mg = s.mg ∧
    (State.withdrawBlock s b).log = s.log ∧ (State.withdrawBlock s b).test = s.test ∧ (State.withdrawBlock s b).update
    = s.update ∧ (State.withdrawBlock s b).draws = s.draws ∧ (State.withdrawBlock s b).diag = s.diag ∧
    (State.withdrawBlock s b).outbox = s.outbox ∧ (State.withdrawBlock s b).pending = s.pending := by
  simp [State.withdrawBlock, State.event_frame _ _ _ _ _ _ _ _]

theorem State.writeFailing_frame (s : State) :
    (State.writeFailing s).unit = s.unit ∧ (State.writeFailing s).opUs = s.opUs ∧ (State.writeFailing s).savedOpUs =
    s.savedOpUs ∧ (State.writeFailing s).powerCycle = s.powerCycle ∧ (State.writeFailing s).epoch = s.epoch ∧
    (State.writeFailing s).power = s.power ∧ (State.writeFailing s).sec = s.sec ∧ (State.writeFailing s).station =
    s.station ∧ (State.writeFailing s).bench = s.bench ∧ (State.writeFailing s).eng = s.eng ∧ (State.writeFailing
    s).vote = s.vote ∧ (State.writeFailing s).ash = s.ash ∧ (State.writeFailing s).field = s.field ∧
    (State.writeFailing s).can = s.can ∧ (State.writeFailing s).hi = s.hi ∧ (State.writeFailing s).xings = s.xings ∧
    (State.writeFailing s).mg = s.mg ∧ (State.writeFailing s).log = s.log ∧ (State.writeFailing s).test = s.test ∧
    (State.writeFailing s).update = s.update ∧ (State.writeFailing s).draws = s.draws ∧ (State.writeFailing s).diag =
    s.diag ∧ (State.writeFailing s).outbox = s.outbox ∧ (State.writeFailing s).pending = s.pending := by
  unfold State.writeFailing; split <;> simp [State.writeAll_frame _]

theorem State.anchor_frame (s : State) (why : ℕ) :
    (State.anchor s why).unit = s.unit ∧ (State.anchor s why).opUs = s.opUs ∧
    (State.anchor s why).savedOpUs = s.savedOpUs ∧ (State.anchor s why).powerCycle = s.powerCycle ∧
    (State.anchor s why).epoch = s.epoch ∧ (State.anchor s why).power = s.power ∧ (State.anchor s why).rt = s.rt ∧
    (State.anchor s why).sec = s.sec ∧ (State.anchor s why).station = s.station ∧ (State.anchor s why).bench = s.bench
    ∧ (State.anchor s why).eng = s.eng ∧ (State.anchor s why).vote = s.vote ∧ (State.anchor s why).ash = s.ash ∧
    (State.anchor s why).field = s.field ∧ (State.anchor s why).can = s.can ∧ (State.anchor s why).net = s.net ∧
    (State.anchor s why).hi = s.hi ∧ (State.anchor s why).xings = s.xings ∧ (State.anchor s why).mg = s.mg ∧
    (State.anchor s why).log = s.log ∧ (State.anchor s why).test = s.test ∧ (State.anchor s why).update = s.update ∧
    (State.anchor s why).draws = s.draws ∧ (State.anchor s why).outbox = s.outbox ∧ (State.anchor s why).diag = s.diag
    ∧ (State.anchor s why).pending = s.pending := by
  simp [State.anchor, State.event_frame _ _ _ _ _ _ _ _]

theorem State.decideEventInfo_frame (s : State) (q : Req) :
    (State.decideEventInfo s q).unit = s.unit ∧ (State.decideEventInfo s q).opUs = s.opUs ∧
    (State.decideEventInfo s q).savedOpUs = s.savedOpUs ∧ (State.decideEventInfo s q).powerCycle = s.powerCycle ∧
    (State.decideEventInfo s q).epoch = s.epoch ∧ (State.decideEventInfo s q).power = s.power ∧
    (State.decideEventInfo s q).rt = s.rt ∧ (State.decideEventInfo s q).sec = s.sec ∧
    (State.decideEventInfo s q).station = s.station ∧ (State.decideEventInfo s q).bench = s.bench ∧
    (State.decideEventInfo s q).eng = s.eng ∧ (State.decideEventInfo s q).vote = s.vote ∧
    (State.decideEventInfo s q).ash = s.ash ∧ (State.decideEventInfo s q).field = s.field ∧
    (State.decideEventInfo s q).can = s.can ∧ (State.decideEventInfo s q).net = s.net ∧
    (State.decideEventInfo s q).xings = s.xings ∧ (State.decideEventInfo s q).recorder = s.recorder ∧
    (State.decideEventInfo s q).log = s.log ∧ (State.decideEventInfo s q).test = s.test ∧
    (State.decideEventInfo s q).update = s.update ∧ (State.decideEventInfo s q).draws = s.draws ∧
    (State.decideEventInfo s q).diag = s.diag ∧ (State.decideEventInfo s q).pending = s.pending := by
  simp only [State.decideEventInfo, State.mgCommand]; (repeat' split) <;> simp [State.answer_frame _ _ _ _ _ _ _,
        State.heard_frame _ _]

theorem State.decideEventRead_frame (s : State) (q : Req) :
    (State.decideEventRead s q).unit = s.unit ∧ (State.decideEventRead s q).opUs = s.opUs ∧
    (State.decideEventRead s q).savedOpUs = s.savedOpUs ∧ (State.decideEventRead s q).powerCycle = s.powerCycle ∧
    (State.decideEventRead s q).epoch = s.epoch ∧ (State.decideEventRead s q).power = s.power ∧
    (State.decideEventRead s q).rt = s.rt ∧ (State.decideEventRead s q).sec = s.sec ∧
    (State.decideEventRead s q).station = s.station ∧ (State.decideEventRead s q).bench = s.bench ∧
    (State.decideEventRead s q).eng = s.eng ∧ (State.decideEventRead s q).vote = s.vote ∧
    (State.decideEventRead s q).ash = s.ash ∧ (State.decideEventRead s q).field = s.field ∧
    (State.decideEventRead s q).can = s.can ∧ (State.decideEventRead s q).net = s.net ∧
    (State.decideEventRead s q).xings = s.xings ∧ (State.decideEventRead s q).recorder = s.recorder ∧
    (State.decideEventRead s q).log = s.log ∧ (State.decideEventRead s q).test = s.test ∧
    (State.decideEventRead s q).update = s.update ∧ (State.decideEventRead s q).draws = s.draws ∧
    (State.decideEventRead s q).diag = s.diag ∧ (State.decideEventRead s q).pending = s.pending := by
  simp only [State.decideEventRead, State.mgCommand]; (repeat' split) <;> simp [State.answer_frame _ _ _ _ _ _ _,
        State.heard_frame _ _]

theorem State.decideEventFreeze_frame (s : State) (q : Req) :
    (State.decideEventFreeze s q).unit = s.unit ∧ (State.decideEventFreeze s q).opUs = s.opUs ∧
    (State.decideEventFreeze s q).savedOpUs = s.savedOpUs ∧ (State.decideEventFreeze s q).powerCycle = s.powerCycle ∧
    (State.decideEventFreeze s q).epoch = s.epoch ∧ (State.decideEventFreeze s q).power = s.power ∧
    (State.decideEventFreeze s q).rt = s.rt ∧ (State.decideEventFreeze s q).sec = s.sec ∧
    (State.decideEventFreeze s q).station = s.station ∧ (State.decideEventFreeze s q).bench = s.bench ∧
    (State.decideEventFreeze s q).eng = s.eng ∧ (State.decideEventFreeze s q).vote = s.vote ∧
    (State.decideEventFreeze s q).ash = s.ash ∧ (State.decideEventFreeze s q).field = s.field ∧
    (State.decideEventFreeze s q).can = s.can ∧ (State.decideEventFreeze s q).net = s.net ∧
    (State.decideEventFreeze s q).xings = s.xings ∧ (State.decideEventFreeze s q).log = s.log ∧
    (State.decideEventFreeze s q).test = s.test ∧ (State.decideEventFreeze s q).update = s.update ∧
    (State.decideEventFreeze s q).draws = s.draws ∧ (State.decideEventFreeze s q).diag = s.diag ∧
    (State.decideEventFreeze s q).pending = s.pending := by
  simp only [State.decideEventFreeze, State.mgCommand]; (repeat' split) <;> simp [State.answer_frame _ _ _ _ _ _ _,
        State.heard_frame _ _]

theorem State.decideEventThaw_frame (s : State) (q : Req) :
    (State.decideEventThaw s q).unit = s.unit ∧ (State.decideEventThaw s q).opUs = s.opUs ∧
    (State.decideEventThaw s q).savedOpUs = s.savedOpUs ∧ (State.decideEventThaw s q).powerCycle = s.powerCycle ∧
    (State.decideEventThaw s q).epoch = s.epoch ∧ (State.decideEventThaw s q).power = s.power ∧
    (State.decideEventThaw s q).sec = s.sec ∧ (State.decideEventThaw s q).station = s.station ∧
    (State.decideEventThaw s q).bench = s.bench ∧ (State.decideEventThaw s q).eng = s.eng ∧
    (State.decideEventThaw s q).vote = s.vote ∧ (State.decideEventThaw s q).ash = s.ash ∧
    (State.decideEventThaw s q).field = s.field ∧ (State.decideEventThaw s q).can = s.can ∧
    (State.decideEventThaw s q).net = s.net ∧ (State.decideEventThaw s q).xings = s.xings ∧
    (State.decideEventThaw s q).log = s.log ∧ (State.decideEventThaw s q).test = s.test ∧
    (State.decideEventThaw s q).update = s.update ∧ (State.decideEventThaw s q).draws = s.draws ∧
    (State.decideEventThaw s q).diag = s.diag ∧ (State.decideEventThaw s q).pending = s.pending := by
  simp only [State.decideEventThaw, State.mgCommand]; (repeat' split) <;> simp [State.answer_frame _ _ _ _ _ _ _,
        State.heard_frame _ _, State.thaw_frame _]

theorem State.decideEventSetRate_frame (s : State) (q : Req) :
    (State.decideEventSetRate s q).unit = s.unit ∧ (State.decideEventSetRate s q).opUs = s.opUs ∧
    (State.decideEventSetRate s q).savedOpUs = s.savedOpUs ∧ (State.decideEventSetRate s q).powerCycle = s.powerCycle
    ∧ (State.decideEventSetRate s q).epoch = s.epoch ∧ (State.decideEventSetRate s q).power = s.power ∧
    (State.decideEventSetRate s q).rt = s.rt ∧ (State.decideEventSetRate s q).sec = s.sec ∧
    (State.decideEventSetRate s q).station = s.station ∧ (State.decideEventSetRate s q).bench = s.bench ∧
    (State.decideEventSetRate s q).eng = s.eng ∧ (State.decideEventSetRate s q).vote = s.vote ∧
    (State.decideEventSetRate s q).ash = s.ash ∧ (State.decideEventSetRate s q).field = s.field ∧
    (State.decideEventSetRate s q).can = s.can ∧ (State.decideEventSetRate s q).net = s.net ∧
    (State.decideEventSetRate s q).xings = s.xings ∧ (State.decideEventSetRate s q).test = s.test ∧
    (State.decideEventSetRate s q).update = s.update ∧ (State.decideEventSetRate s q).draws = s.draws ∧
    (State.decideEventSetRate s q).diag = s.diag ∧ (State.decideEventSetRate s q).pending = s.pending := by
  simp only [State.decideEventSetRate, State.mgCommand]; (repeat' split) <;> simp [State.answer_frame _ _ _ _ _ _ _,
        State.heard_frame _ _, State.logChange_frame _ _, State.logChange_recorder_frame _ _]

end Sys2Proof.Machine
end

