-- ==== Sys2Proof/Laws/Mailbox.lean ====
section
/-! SUPPORT. What the operations of Machine/Mailbox.lean leave alone: one lemma for each, naming every part of the state that
it does not write. -/

namespace Sys2Proof.Machine

open Sys2Proof

theorem State.plain_frame (s : State) (op : ℕ) (q : Req) (p0 : ℕ) (data : List Byte) :
    (State.plain s op q p0 data).unit = s.unit ∧ (State.plain s op q p0 data).opUs = s.opUs ∧
    (State.plain s op q p0 data).savedOpUs = s.savedOpUs ∧ (State.plain s op q p0 data).powerCycle = s.powerCycle ∧
    (State.plain s op q p0 data).epoch = s.epoch ∧ (State.plain s op q p0 data).power = s.power ∧
    (State.plain s op q p0 data).rt = s.rt ∧ (State.plain s op q p0 data).sec = s.sec ∧
    (State.plain s op q p0 data).station = s.station ∧ (State.plain s op q p0 data).bench = s.bench ∧
    (State.plain s op q p0 data).eng = s.eng ∧ (State.plain s op q p0 data).vote = s.vote ∧
    (State.plain s op q p0 data).ash = s.ash ∧ (State.plain s op q p0 data).field = s.field ∧
    (State.plain s op q p0 data).can = s.can ∧ (State.plain s op q p0 data).net = s.net ∧
    (State.plain s op q p0 data).xings = s.xings ∧ (State.plain s op q p0 data).recorder = s.recorder ∧
    (State.plain s op q p0 data).log = s.log ∧ (State.plain s op q p0 data).test = s.test ∧
    (State.plain s op q p0 data).update = s.update ∧ (State.plain s op q p0 data).draws = s.draws ∧
    (State.plain s op q p0 data).diag = s.diag ∧ (State.plain s op q p0 data).pending = s.pending := by
  simp only [State.plain, State.mgCommand]; (repeat' split) <;> simp [State.answer_frame _ _ _ _ _ _ _,
        State.heard_frame _ _]

theorem State.decideIdentify_frame (s : State) (q : Req) :
    (State.decideIdentify s q).unit = s.unit ∧ (State.decideIdentify s q).opUs = s.opUs ∧
    (State.decideIdentify s q).savedOpUs = s.savedOpUs ∧ (State.decideIdentify s q).powerCycle = s.powerCycle ∧
    (State.decideIdentify s q).epoch = s.epoch ∧ (State.decideIdentify s q).power = s.power ∧
    (State.decideIdentify s q).rt = s.rt ∧ (State.decideIdentify s q).sec = s.sec ∧
    (State.decideIdentify s q).station = s.station ∧ (State.decideIdentify s q).bench = s.bench ∧
    (State.decideIdentify s q).eng = s.eng ∧ (State.decideIdentify s q).vote = s.vote ∧
    (State.decideIdentify s q).ash = s.ash ∧ (State.decideIdentify s q).field = s.field ∧
    (State.decideIdentify s q).can = s.can ∧ (State.decideIdentify s q).net = s.net ∧
    (State.decideIdentify s q).xings = s.xings ∧ (State.decideIdentify s q).recorder = s.recorder ∧
    (State.decideIdentify s q).log = s.log ∧ (State.decideIdentify s q).test = s.test ∧
    (State.decideIdentify s q).update = s.update ∧ (State.decideIdentify s q).draws = s.draws ∧
    (State.decideIdentify s q).diag = s.diag ∧ (State.decideIdentify s q).pending = s.pending := by
  simp [State.decideIdentify, State.plain_frame _ _ _ _ _]

theorem State.decideCapabilities_frame (s : State) (q : Req) :
    (State.decideCapabilities s q).unit = s.unit ∧ (State.decideCapabilities s q).opUs = s.opUs ∧
    (State.decideCapabilities s q).savedOpUs = s.savedOpUs ∧ (State.decideCapabilities s q).powerCycle = s.powerCycle
    ∧ (State.decideCapabilities s q).epoch = s.epoch ∧ (State.decideCapabilities s q).power = s.power ∧
    (State.decideCapabilities s q).rt = s.rt ∧ (State.decideCapabilities s q).sec = s.sec ∧
    (State.decideCapabilities s q).station = s.station ∧ (State.decideCapabilities s q).bench = s.bench ∧
    (State.decideCapabilities s q).eng = s.eng ∧ (State.decideCapabilities s q).vote = s.vote ∧
    (State.decideCapabilities s q).ash = s.ash ∧ (State.decideCapabilities s q).field = s.field ∧
    (State.decideCapabilities s q).can = s.can ∧ (State.decideCapabilities s q).net = s.net ∧
    (State.decideCapabilities s q).xings = s.xings ∧ (State.decideCapabilities s q).recorder = s.recorder ∧
    (State.decideCapabilities s q).log = s.log ∧ (State.decideCapabilities s q).test = s.test ∧
    (State.decideCapabilities s q).update = s.update ∧ (State.decideCapabilities s q).draws = s.draws ∧
    (State.decideCapabilities s q).diag = s.diag ∧ (State.decideCapabilities s q).pending = s.pending := by
  simp [State.decideCapabilities, State.plain_frame _ _ _ _ _]

theorem State.decideGetStatus_frame (s : State) (q : Req) :
    (State.decideGetStatus s q).unit = s.unit ∧ (State.decideGetStatus s q).opUs = s.opUs ∧
    (State.decideGetStatus s q).savedOpUs = s.savedOpUs ∧ (State.decideGetStatus s q).powerCycle = s.powerCycle ∧
    (State.decideGetStatus s q).epoch = s.epoch ∧ (State.decideGetStatus s q).power = s.power ∧
    (State.decideGetStatus s q).rt = s.rt ∧ (State.decideGetStatus s q).sec = s.sec ∧
    (State.decideGetStatus s q).station = s.station ∧ (State.decideGetStatus s q).bench = s.bench ∧
    (State.decideGetStatus s q).eng = s.eng ∧ (State.decideGetStatus s q).vote = s.vote ∧
    (State.decideGetStatus s q).ash = s.ash ∧ (State.decideGetStatus s q).field = s.field ∧
    (State.decideGetStatus s q).can = s.can ∧ (State.decideGetStatus s q).net = s.net ∧
    (State.decideGetStatus s q).xings = s.xings ∧ (State.decideGetStatus s q).recorder = s.recorder ∧
    (State.decideGetStatus s q).log = s.log ∧ (State.decideGetStatus s q).test = s.test ∧
    (State.decideGetStatus s q).update = s.update ∧ (State.decideGetStatus s q).draws = s.draws ∧
    (State.decideGetStatus s q).diag = s.diag ∧ (State.decideGetStatus s q).pending = s.pending := by
  simp [State.decideGetStatus, State.plain_frame _ _ _ _ _]

theorem State.decideGetTime_frame (s : State) (q : Req) :
    (State.decideGetTime s q).unit = s.unit ∧ (State.decideGetTime s q).opUs = s.opUs ∧
    (State.decideGetTime s q).savedOpUs = s.savedOpUs ∧ (State.decideGetTime s q).powerCycle = s.powerCycle ∧
    (State.decideGetTime s q).epoch = s.epoch ∧ (State.decideGetTime s q).power = s.power ∧
    (State.decideGetTime s q).rt = s.rt ∧ (State.decideGetTime s q).sec = s.sec ∧
    (State.decideGetTime s q).station = s.station ∧ (State.decideGetTime s q).bench = s.bench ∧
    (State.decideGetTime s q).eng = s.eng ∧ (State.decideGetTime s q).vote = s.vote ∧
    (State.decideGetTime s q).ash = s.ash ∧ (State.decideGetTime s q).field = s.field ∧
    (State.decideGetTime s q).can = s.can ∧ (State.decideGetTime s q).net = s.net ∧
    (State.decideGetTime s q).xings = s.xings ∧ (State.decideGetTime s q).recorder = s.recorder ∧
    (State.decideGetTime s q).log = s.log ∧ (State.decideGetTime s q).test = s.test ∧
    (State.decideGetTime s q).update = s.update ∧ (State.decideGetTime s q).draws = s.draws ∧
    (State.decideGetTime s q).diag = s.diag ∧ (State.decideGetTime s q).pending = s.pending := by
  simp [State.decideGetTime, State.plain_frame _ _ _ _ _]

theorem State.decideSetTime_frame (s : State) (q : Req) :
    (State.decideSetTime s q).unit = s.unit ∧ (State.decideSetTime s q).opUs = s.opUs ∧
    (State.decideSetTime s q).savedOpUs = s.savedOpUs ∧ (State.decideSetTime s q).powerCycle = s.powerCycle ∧
    (State.decideSetTime s q).epoch = s.epoch ∧ (State.decideSetTime s q).power = s.power ∧
    (State.decideSetTime s q).sec = s.sec ∧ (State.decideSetTime s q).station = s.station ∧
    (State.decideSetTime s q).bench = s.bench ∧ (State.decideSetTime s q).eng = s.eng ∧
    (State.decideSetTime s q).vote = s.vote ∧ (State.decideSetTime s q).ash = s.ash ∧
    (State.decideSetTime s q).field = s.field ∧ (State.decideSetTime s q).can = s.can ∧
    (State.decideSetTime s q).net = s.net ∧ (State.decideSetTime s q).xings = s.xings ∧
    (State.decideSetTime s q).log = s.log ∧ (State.decideSetTime s q).test = s.test ∧
    (State.decideSetTime s q).update = s.update ∧ (State.decideSetTime s q).draws = s.draws ∧
    (State.decideSetTime s q).diag = s.diag ∧ (State.decideSetTime s q).pending = s.pending := by
  simp only [State.decideSetTime, State.mgCommand]; (repeat' split) <;> simp [State.answer_frame _ _ _ _ _ _ _,
        State.heard_frame _ _, State.anchor_frame _ _]

theorem State.listUnits_frame (s : State) (op : ℕ) (q : Req) (all : ℕ) (present : ℕ) (units : DiagCopy → List (List
    Byte)) :
    (State.listUnits s op q all present units).unit = s.unit ∧
    (State.listUnits s op q all present units).opUs = s.opUs ∧
    (State.listUnits s op q all present units).savedOpUs = s.savedOpUs ∧
    (State.listUnits s op q all present units).powerCycle = s.powerCycle ∧
    (State.listUnits s op q all present units).epoch = s.epoch ∧
    (State.listUnits s op q all present units).power = s.power ∧ (State.listUnits s op q all present units).rt = s.rt
    ∧ (State.listUnits s op q all present units).sec = s.sec ∧
    (State.listUnits s op q all present units).station = s.station ∧
    (State.listUnits s op q all present units).bench = s.bench ∧
    (State.listUnits s op q all present units).eng = s.eng ∧ (State.listUnits s op q all present units).vote = s.vote
    ∧ (State.listUnits s op q all present units).ash = s.ash ∧
    (State.listUnits s op q all present units).field = s.field ∧
    (State.listUnits s op q all present units).can = s.can ∧ (State.listUnits s op q all present units).net = s.net ∧
    (State.listUnits s op q all present units).xings = s.xings ∧
    (State.listUnits s op q all present units).recorder = s.recorder ∧
    (State.listUnits s op q all present units).log = s.log ∧ (State.listUnits s op q all present units).test = s.test
    ∧ (State.listUnits s op q all present units).update = s.update ∧
    (State.listUnits s op q all present units).draws = s.draws ∧
    (State.listUnits s op q all present units).diag = s.diag ∧
    (State.listUnits s op q all present units).pending = s.pending := by
  simp only [State.listUnits, State.mgCommand]; (repeat' split) <;> simp [State.answer_frame _ _ _ _ _ _ _,
        State.heard_frame _ _]

theorem State.decideDiagVote_frame (s : State) (q : Req) :
    (State.decideDiagVote s q).unit = s.unit ∧ (State.decideDiagVote s q).opUs = s.opUs ∧
    (State.decideDiagVote s q).savedOpUs = s.savedOpUs ∧ (State.decideDiagVote s q).powerCycle = s.powerCycle ∧
    (State.decideDiagVote s q).epoch = s.epoch ∧ (State.decideDiagVote s q).power = s.power ∧
    (State.decideDiagVote s q).rt = s.rt ∧ (State.decideDiagVote s q).sec = s.sec ∧
    (State.decideDiagVote s q).station = s.station ∧ (State.decideDiagVote s q).bench = s.bench ∧
    (State.decideDiagVote s q).eng = s.eng ∧ (State.decideDiagVote s q).vote = s.vote ∧
    (State.decideDiagVote s q).ash = s.ash ∧ (State.decideDiagVote s q).field = s.field ∧
    (State.decideDiagVote s q).can = s.can ∧ (State.decideDiagVote s q).net = s.net ∧
    (State.decideDiagVote s q).xings = s.xings ∧ (State.decideDiagVote s q).recorder = s.recorder ∧
    (State.decideDiagVote s q).log = s.log ∧ (State.decideDiagVote s q).test = s.test ∧
    (State.decideDiagVote s q).update = s.update ∧ (State.decideDiagVote s q).draws = s.draws ∧
    (State.decideDiagVote s q).diag = s.diag ∧ (State.decideDiagVote s q).pending = s.pending := by
  simp [State.decideDiagVote, State.plain_frame _ _ _ _ _]

theorem State.decideDiagAshlar_frame (s : State) (q : Req) :
    (State.decideDiagAshlar s q).unit = s.unit ∧ (State.decideDiagAshlar s q).opUs = s.opUs ∧
    (State.decideDiagAshlar s q).savedOpUs = s.savedOpUs ∧ (State.decideDiagAshlar s q).powerCycle = s.powerCycle ∧
    (State.decideDiagAshlar s q).epoch = s.epoch ∧ (State.decideDiagAshlar s q).power = s.power ∧
    (State.decideDiagAshlar s q).rt = s.rt ∧ (State.decideDiagAshlar s q).sec = s.sec ∧
    (State.decideDiagAshlar s q).station = s.station ∧ (State.decideDiagAshlar s q).bench = s.bench ∧
    (State.decideDiagAshlar s q).eng = s.eng ∧ (State.decideDiagAshlar s q).vote = s.vote ∧
    (State.decideDiagAshlar s q).ash = s.ash ∧ (State.decideDiagAshlar s q).field = s.field ∧
    (State.decideDiagAshlar s q).can = s.can ∧ (State.decideDiagAshlar s q).net = s.net ∧
    (State.decideDiagAshlar s q).xings = s.xings ∧ (State.decideDiagAshlar s q).recorder = s.recorder ∧
    (State.decideDiagAshlar s q).log = s.log ∧ (State.decideDiagAshlar s q).test = s.test ∧
    (State.decideDiagAshlar s q).update = s.update ∧ (State.decideDiagAshlar s q).draws = s.draws ∧
    (State.decideDiagAshlar s q).diag = s.diag ∧ (State.decideDiagAshlar s q).pending = s.pending := by
  simp [State.decideDiagAshlar, State.plain_frame _ _ _ _ _]

theorem State.decideDiagSafeRecord_frame (s : State) (q : Req) :
    (State.decideDiagSafeRecord s q).unit = s.unit ∧ (State.decideDiagSafeRecord s q).opUs = s.opUs ∧
    (State.decideDiagSafeRecord s q).savedOpUs = s.savedOpUs ∧
    (State.decideDiagSafeRecord s q).powerCycle = s.powerCycle ∧ (State.decideDiagSafeRecord s q).epoch = s.epoch ∧
    (State.decideDiagSafeRecord s q).power = s.power ∧ (State.decideDiagSafeRecord s q).rt = s.rt ∧
    (State.decideDiagSafeRecord s q).sec = s.sec ∧ (State.decideDiagSafeRecord s q).station = s.station ∧
    (State.decideDiagSafeRecord s q).bench = s.bench ∧ (State.decideDiagSafeRecord s q).eng = s.eng ∧
    (State.decideDiagSafeRecord s q).vote = s.vote ∧ (State.decideDiagSafeRecord s q).ash = s.ash ∧
    (State.decideDiagSafeRecord s q).field = s.field ∧ (State.decideDiagSafeRecord s q).can = s.can ∧
    (State.decideDiagSafeRecord s q).net = s.net ∧ (State.decideDiagSafeRecord s q).xings = s.xings ∧
    (State.decideDiagSafeRecord s q).recorder = s.recorder ∧ (State.decideDiagSafeRecord s q).log = s.log ∧
    (State.decideDiagSafeRecord s q).test = s.test ∧ (State.decideDiagSafeRecord s q).update = s.update ∧
    (State.decideDiagSafeRecord s q).draws = s.draws ∧ (State.decideDiagSafeRecord s q).diag = s.diag ∧
    (State.decideDiagSafeRecord s q).pending = s.pending := by
  simp [State.decideDiagSafeRecord, State.plain_frame _ _ _ _ _]

theorem State.decideDiagInputs_frame (s : State) (q : Req) :
    (State.decideDiagInputs s q).unit = s.unit ∧ (State.decideDiagInputs s q).opUs = s.opUs ∧
    (State.decideDiagInputs s q).savedOpUs = s.savedOpUs ∧ (State.decideDiagInputs s q).powerCycle = s.powerCycle ∧
    (State.decideDiagInputs s q).epoch = s.epoch ∧ (State.decideDiagInputs s q).power = s.power ∧
    (State.decideDiagInputs s q).rt = s.rt ∧ (State.decideDiagInputs s q).sec = s.sec ∧
    (State.decideDiagInputs s q).station = s.station ∧ (State.decideDiagInputs s q).bench = s.bench ∧
    (State.decideDiagInputs s q).eng = s.eng ∧ (State.decideDiagInputs s q).vote = s.vote ∧
    (State.decideDiagInputs s q).ash = s.ash ∧ (State.decideDiagInputs s q).field = s.field ∧
    (State.decideDiagInputs s q).can = s.can ∧ (State.decideDiagInputs s q).net = s.net ∧
    (State.decideDiagInputs s q).xings = s.xings ∧ (State.decideDiagInputs s q).recorder = s.recorder ∧
    (State.decideDiagInputs s q).log = s.log ∧ (State.decideDiagInputs s q).test = s.test ∧
    (State.decideDiagInputs s q).update = s.update ∧ (State.decideDiagInputs s q).draws = s.draws ∧
    (State.decideDiagInputs s q).diag = s.diag ∧ (State.decideDiagInputs s q).pending = s.pending := by
  simp [State.decideDiagInputs, State.listUnits_frame _ _ _ _ _ _]

theorem State.decideDiagOutputs_frame (s : State) (q : Req) :
    (State.decideDiagOutputs s q).unit = s.unit ∧ (State.decideDiagOutputs s q).opUs = s.opUs ∧
    (State.decideDiagOutputs s q).savedOpUs = s.savedOpUs ∧ (State.decideDiagOutputs s q).powerCycle = s.powerCycle ∧
    (State.decideDiagOutputs s q).epoch = s.epoch ∧ (State.decideDiagOutputs s q).power = s.power ∧
    (State.decideDiagOutputs s q).rt = s.rt ∧ (State.decideDiagOutputs s q).sec = s.sec ∧
    (State.decideDiagOutputs s q).station = s.station ∧ (State.decideDiagOutputs s q).bench = s.bench ∧
    (State.decideDiagOutputs s q).eng = s.eng ∧ (State.decideDiagOutputs s q).vote = s.vote ∧
    (State.decideDiagOutputs s q).ash = s.ash ∧ (State.decideDiagOutputs s q).field = s.field ∧
    (State.decideDiagOutputs s q).can = s.can ∧ (State.decideDiagOutputs s q).net = s.net ∧
    (State.decideDiagOutputs s q).xings = s.xings ∧ (State.decideDiagOutputs s q).recorder = s.recorder ∧
    (State.decideDiagOutputs s q).log = s.log ∧ (State.decideDiagOutputs s q).test = s.test ∧
    (State.decideDiagOutputs s q).update = s.update ∧ (State.decideDiagOutputs s q).draws = s.draws ∧
    (State.decideDiagOutputs s q).diag = s.diag ∧ (State.decideDiagOutputs s q).pending = s.pending := by
  simp [State.decideDiagOutputs, State.listUnits_frame _ _ _ _ _ _]

theorem State.decideDiagGroups_frame (s : State) (q : Req) :
    (State.decideDiagGroups s q).unit = s.unit ∧ (State.decideDiagGroups s q).opUs = s.opUs ∧
    (State.decideDiagGroups s q).savedOpUs = s.savedOpUs ∧ (State.decideDiagGroups s q).powerCycle = s.powerCycle ∧
    (State.decideDiagGroups s q).epoch = s.epoch ∧ (State.decideDiagGroups s q).power = s.power ∧
    (State.decideDiagGroups s q).rt = s.rt ∧ (State.decideDiagGroups s q).sec = s.sec ∧
    (State.decideDiagGroups s q).station = s.station ∧ (State.decideDiagGroups s q).bench = s.bench ∧
    (State.decideDiagGroups s q).eng = s.eng ∧ (State.decideDiagGroups s q).vote = s.vote ∧
    (State.decideDiagGroups s q).ash = s.ash ∧ (State.decideDiagGroups s q).field = s.field ∧
    (State.decideDiagGroups s q).can = s.can ∧ (State.decideDiagGroups s q).net = s.net ∧
    (State.decideDiagGroups s q).xings = s.xings ∧ (State.decideDiagGroups s q).recorder = s.recorder ∧
    (State.decideDiagGroups s q).log = s.log ∧ (State.decideDiagGroups s q).test = s.test ∧
    (State.decideDiagGroups s q).update = s.update ∧ (State.decideDiagGroups s q).draws = s.draws ∧
    (State.decideDiagGroups s q).diag = s.diag ∧ (State.decideDiagGroups s q).pending = s.pending := by
  simp [State.decideDiagGroups, State.listUnits_frame _ _ _ _ _ _]

theorem State.decideDiagCanPort_frame (s : State) (q : Req) :
    (State.decideDiagCanPort s q).unit = s.unit ∧ (State.decideDiagCanPort s q).opUs = s.opUs ∧
    (State.decideDiagCanPort s q).savedOpUs = s.savedOpUs ∧ (State.decideDiagCanPort s q).powerCycle = s.powerCycle ∧
    (State.decideDiagCanPort s q).epoch = s.epoch ∧ (State.decideDiagCanPort s q).power = s.power ∧
    (State.decideDiagCanPort s q).rt = s.rt ∧ (State.decideDiagCanPort s q).sec = s.sec ∧
    (State.decideDiagCanPort s q).station = s.station ∧ (State.decideDiagCanPort s q).bench = s.bench ∧
    (State.decideDiagCanPort s q).eng = s.eng ∧ (State.decideDiagCanPort s q).vote = s.vote ∧
    (State.decideDiagCanPort s q).ash = s.ash ∧ (State.decideDiagCanPort s q).field = s.field ∧
    (State.decideDiagCanPort s q).can = s.can ∧ (State.decideDiagCanPort s q).net = s.net ∧
    (State.decideDiagCanPort s q).xings = s.xings ∧ (State.decideDiagCanPort s q).recorder = s.recorder ∧
    (State.decideDiagCanPort s q).log = s.log ∧ (State.decideDiagCanPort s q).test = s.test ∧
    (State.decideDiagCanPort s q).update = s.update ∧ (State.decideDiagCanPort s q).draws = s.draws ∧
    (State.decideDiagCanPort s q).diag = s.diag ∧ (State.decideDiagCanPort s q).pending = s.pending := by
  simp only [State.decideDiagCanPort, State.mgCommand]; (repeat' split) <;> simp [State.answer_frame _ _ _ _ _ _ _,
        State.heard_frame _ _]

theorem State.decideDiagPortCounters_frame (s : State) (q : Req) :
    (State.decideDiagPortCounters s q).unit = s.unit ∧ (State.decideDiagPortCounters s q).opUs = s.opUs ∧
    (State.decideDiagPortCounters s q).savedOpUs = s.savedOpUs ∧
    (State.decideDiagPortCounters s q).powerCycle = s.powerCycle ∧ (State.decideDiagPortCounters s q).epoch = s.epoch
    ∧ (State.decideDiagPortCounters s q).power = s.power ∧ (State.decideDiagPortCounters s q).rt = s.rt ∧
    (State.decideDiagPortCounters s q).sec = s.sec ∧ (State.decideDiagPortCounters s q).station = s.station ∧
    (State.decideDiagPortCounters s q).bench = s.bench ∧ (State.decideDiagPortCounters s q).eng = s.eng ∧
    (State.decideDiagPortCounters s q).vote = s.vote ∧ (State.decideDiagPortCounters s q).ash = s.ash ∧
    (State.decideDiagPortCounters s q).field = s.field ∧ (State.decideDiagPortCounters s q).can = s.can ∧
    (State.decideDiagPortCounters s q).net = s.net ∧ (State.decideDiagPortCounters s q).xings = s.xings ∧
    (State.decideDiagPortCounters s q).recorder = s.recorder ∧ (State.decideDiagPortCounters s q).log = s.log ∧
    (State.decideDiagPortCounters s q).test = s.test ∧ (State.decideDiagPortCounters s q).update = s.update ∧
    (State.decideDiagPortCounters s q).draws = s.draws ∧ (State.decideDiagPortCounters s q).diag = s.diag ∧
    (State.decideDiagPortCounters s q).pending = s.pending := by
  simp only [State.decideDiagPortCounters,
        State.mgCommand]; (repeat' split) <;> simp [State.answer_frame _ _ _ _ _ _ _, State.heard_frame _ _]

theorem State.decideDiagNode_frame (s : State) (q : Req) :
    (State.decideDiagNode s q).unit = s.unit ∧ (State.decideDiagNode s q).opUs = s.opUs ∧
    (State.decideDiagNode s q).savedOpUs = s.savedOpUs ∧ (State.decideDiagNode s q).powerCycle = s.powerCycle ∧
    (State.decideDiagNode s q).epoch = s.epoch ∧ (State.decideDiagNode s q).power = s.power ∧
    (State.decideDiagNode s q).rt = s.rt ∧ (State.decideDiagNode s q).sec = s.sec ∧
    (State.decideDiagNode s q).station = s.station ∧ (State.decideDiagNode s q).bench = s.bench ∧
    (State.decideDiagNode s q).eng = s.eng ∧ (State.decideDiagNode s q).vote = s.vote ∧
    (State.decideDiagNode s q).ash = s.ash ∧ (State.decideDiagNode s q).field = s.field ∧
    (State.decideDiagNode s q).can = s.can ∧ (State.decideDiagNode s q).net = s.net ∧
    (State.decideDiagNode s q).xings = s.xings ∧ (State.decideDiagNode s q).recorder = s.recorder ∧
    (State.decideDiagNode s q).log = s.log ∧ (State.decideDiagNode s q).test = s.test ∧
    (State.decideDiagNode s q).update = s.update ∧ (State.decideDiagNode s q).draws = s.draws ∧
    (State.decideDiagNode s q).diag = s.diag ∧ (State.decideDiagNode s q).pending = s.pending := by
  simp only [State.decideDiagNode, State.mgCommand]; (repeat' split) <;> simp [State.answer_frame _ _ _ _ _ _ _,
        State.heard_frame _ _]

theorem State.decideDiagNodeList_frame (s : State) (q : Req) :
    (State.decideDiagNodeList s q).unit = s.unit ∧ (State.decideDiagNodeList s q).opUs = s.opUs ∧
    (State.decideDiagNodeList s q).savedOpUs = s.savedOpUs ∧ (State.decideDiagNodeList s q).powerCycle = s.powerCycle
    ∧ (State.decideDiagNodeList s q).epoch = s.epoch ∧ (State.decideDiagNodeList s q).power = s.power ∧
    (State.decideDiagNodeList s q).rt = s.rt ∧ (State.decideDiagNodeList s q).sec = s.sec ∧
    (State.decideDiagNodeList s q).station = s.station ∧ (State.decideDiagNodeList s q).bench = s.bench ∧
    (State.decideDiagNodeList s q).eng = s.eng ∧ (State.decideDiagNodeList s q).vote = s.vote ∧
    (State.decideDiagNodeList s q).ash = s.ash ∧ (State.decideDiagNodeList s q).field = s.field ∧
    (State.decideDiagNodeList s q).can = s.can ∧ (State.decideDiagNodeList s q).net = s.net ∧
    (State.decideDiagNodeList s q).xings = s.xings ∧ (State.decideDiagNodeList s q).recorder = s.recorder ∧
    (State.decideDiagNodeList s q).log = s.log ∧ (State.decideDiagNodeList s q).test = s.test ∧
    (State.decideDiagNodeList s q).update = s.update ∧ (State.decideDiagNodeList s q).draws = s.draws ∧
    (State.decideDiagNodeList s q).diag = s.diag ∧ (State.decideDiagNodeList s q).pending = s.pending := by
  simp only [State.decideDiagNodeList, State.mgCommand]; (repeat' split) <;> simp [State.answer_frame _ _ _ _ _ _ _,
        State.heard_frame _ _]

theorem State.decideSubscribe_frame (s : State) (q : Req) :
    (State.decideSubscribe s q).unit = s.unit ∧ (State.decideSubscribe s q).opUs = s.opUs ∧
    (State.decideSubscribe s q).savedOpUs = s.savedOpUs ∧ (State.decideSubscribe s q).powerCycle = s.powerCycle ∧
    (State.decideSubscribe s q).epoch = s.epoch ∧ (State.decideSubscribe s q).power = s.power ∧
    (State.decideSubscribe s q).rt = s.rt ∧ (State.decideSubscribe s q).sec = s.sec ∧
    (State.decideSubscribe s q).station = s.station ∧ (State.decideSubscribe s q).bench = s.bench ∧
    (State.decideSubscribe s q).eng = s.eng ∧ (State.decideSubscribe s q).vote = s.vote ∧
    (State.decideSubscribe s q).ash = s.ash ∧ (State.decideSubscribe s q).field = s.field ∧
    (State.decideSubscribe s q).can = s.can ∧ (State.decideSubscribe s q).net = s.net ∧
    (State.decideSubscribe s q).xings = s.xings ∧ (State.decideSubscribe s q).recorder = s.recorder ∧
    (State.decideSubscribe s q).log = s.log ∧ (State.decideSubscribe s q).test = s.test ∧
    (State.decideSubscribe s q).update = s.update ∧ (State.decideSubscribe s q).draws = s.draws ∧
    (State.decideSubscribe s q).diag = s.diag ∧ (State.decideSubscribe s q).pending = s.pending := by
  simp only [State.decideSubscribe, State.mgCommand]; (repeat' split) <;> simp [State.answer_frame _ _ _ _ _ _ _,
        State.heard_frame _ _]

theorem State.decideSubscriptionGet_frame (s : State) (q : Req) :
    (State.decideSubscriptionGet s q).unit = s.unit ∧ (State.decideSubscriptionGet s q).opUs = s.opUs ∧
    (State.decideSubscriptionGet s q).savedOpUs = s.savedOpUs ∧
    (State.decideSubscriptionGet s q).powerCycle = s.powerCycle ∧ (State.decideSubscriptionGet s q).epoch = s.epoch ∧
    (State.decideSubscriptionGet s q).power = s.power ∧ (State.decideSubscriptionGet s q).rt = s.rt ∧
    (State.decideSubscriptionGet s q).sec = s.sec ∧ (State.decideSubscriptionGet s q).station = s.station ∧
    (State.decideSubscriptionGet s q).bench = s.bench ∧ (State.decideSubscriptionGet s q).eng = s.eng ∧
    (State.decideSubscriptionGet s q).vote = s.vote ∧ (State.decideSubscriptionGet s q).ash = s.ash ∧
    (State.decideSubscriptionGet s q).field = s.field ∧ (State.decideSubscriptionGet s q).can = s.can ∧
    (State.decideSubscriptionGet s q).net = s.net ∧ (State.decideSubscriptionGet s q).xings = s.xings ∧
    (State.decideSubscriptionGet s q).recorder = s.recorder ∧ (State.decideSubscriptionGet s q).log = s.log ∧
    (State.decideSubscriptionGet s q).test = s.test ∧ (State.decideSubscriptionGet s q).update = s.update ∧
    (State.decideSubscriptionGet s q).draws = s.draws ∧ (State.decideSubscriptionGet s q).diag = s.diag ∧
    (State.decideSubscriptionGet s q).pending = s.pending := by
  simp [State.decideSubscriptionGet, State.plain_frame _ _ _ _ _]

end Sys2Proof.Machine
end

