-- ==== Sys2Proof/Laws/Security.lean ====
section
/-! SUPPORT. What the operations of Machine/Security.lean leave alone: one lemma for each, naming every part of the state that
it does not write. -/

namespace Sys2Proof.Machine

open Sys2Proof

theorem State.decideChangeLogRead_frame (s : State) (q : Req) :
    (State.decideChangeLogRead s q).unit = s.unit ∧ (State.decideChangeLogRead s q).opUs = s.opUs ∧
    (State.decideChangeLogRead s q).savedOpUs = s.savedOpUs ∧
    (State.decideChangeLogRead s q).powerCycle = s.powerCycle ∧ (State.decideChangeLogRead s q).epoch = s.epoch ∧
    (State.decideChangeLogRead s q).power = s.power ∧ (State.decideChangeLogRead s q).rt = s.rt ∧
    (State.decideChangeLogRead s q).sec = s.sec ∧ (State.decideChangeLogRead s q).station = s.station ∧
    (State.decideChangeLogRead s q).bench = s.bench ∧ (State.decideChangeLogRead s q).eng = s.eng ∧
    (State.decideChangeLogRead s q).vote = s.vote ∧ (State.decideChangeLogRead s q).ash = s.ash ∧
    (State.decideChangeLogRead s q).field = s.field ∧ (State.decideChangeLogRead s q).can = s.can ∧
    (State.decideChangeLogRead s q).net = s.net ∧ (State.decideChangeLogRead s q).xings = s.xings ∧
    (State.decideChangeLogRead s q).recorder = s.recorder ∧ (State.decideChangeLogRead s q).log = s.log ∧
    (State.decideChangeLogRead s q).test = s.test ∧ (State.decideChangeLogRead s q).update = s.update ∧
    (State.decideChangeLogRead s q).draws = s.draws ∧ (State.decideChangeLogRead s q).diag = s.diag ∧
    (State.decideChangeLogRead s q).pending = s.pending := by
  simp only [State.decideChangeLogRead, State.mgCommand]; (repeat' split) <;> simp [State.answer_frame _ _ _ _ _ _ _,
        State.heard_frame _ _]

theorem State.logFull_frame (s : State) (op : ℕ) (q : Req) :
    (State.logFull s op q).unit = s.unit ∧ (State.logFull s op q).opUs = s.opUs ∧
    (State.logFull s op q).savedOpUs = s.savedOpUs ∧ (State.logFull s op q).powerCycle = s.powerCycle ∧
    (State.logFull s op q).epoch = s.epoch ∧ (State.logFull s op q).power = s.power ∧ (State.logFull s op q).rt = s.rt
    ∧ (State.logFull s op q).sec = s.sec ∧ (State.logFull s op q).station = s.station ∧
    (State.logFull s op q).eng = s.eng ∧ (State.logFull s op q).vote = s.vote ∧ (State.logFull s op q).ash = s.ash ∧
    (State.logFull s op q).field = s.field ∧ (State.logFull s op q).can = s.can ∧ (State.logFull s op q).net = s.net ∧
    (State.logFull s op q).xings = s.xings ∧ (State.logFull s op q).recorder = s.recorder ∧
    (State.logFull s op q).log = s.log ∧ (State.logFull s op q).test = s.test ∧
    (State.logFull s op q).update = s.update ∧ (State.logFull s op q).draws = s.draws ∧
    (State.logFull s op q).diag = s.diag ∧ (State.logFull s op q).pending = s.pending := by
  simp [State.logFull, State.complete_frame _ _ _ _ _ _ _]

theorem State.acknowledge_frame (s : State) :
    (State.acknowledge s).unit = s.unit ∧ (State.acknowledge s).opUs = s.opUs ∧
    (State.acknowledge s).savedOpUs = s.savedOpUs ∧ (State.acknowledge s).powerCycle = s.powerCycle ∧
    (State.acknowledge s).epoch = s.epoch ∧ (State.acknowledge s).power = s.power ∧ (State.acknowledge s).rt = s.rt ∧
    (State.acknowledge s).station = s.station ∧ (State.acknowledge s).bench = s.bench ∧
    (State.acknowledge s).eng = s.eng ∧ (State.acknowledge s).vote = s.vote ∧ (State.acknowledge s).ash = s.ash ∧
    (State.acknowledge s).field = s.field ∧ (State.acknowledge s).can = s.can ∧ (State.acknowledge s).net = s.net ∧
    (State.acknowledge s).hi = s.hi ∧ (State.acknowledge s).xings = s.xings ∧ (State.acknowledge s).mg = s.mg ∧
    (State.acknowledge s).log = s.log ∧ (State.acknowledge s).test = s.test ∧ (State.acknowledge s).update = s.update
    ∧ (State.acknowledge s).draws = s.draws ∧ (State.acknowledge s).outbox = s.outbox ∧
    (State.acknowledge s).diag = s.diag ∧ (State.acknowledge s).pending = s.pending := by
  simp [State.acknowledge, State.event_frame _ _ _ _ _ _ _ _]

theorem State.openSession_frame (s : State) (q : Req) (r : Role) :
    (State.openSession s q r).unit = s.unit ∧ (State.openSession s q r).opUs = s.opUs ∧
    (State.openSession s q r).savedOpUs = s.savedOpUs ∧ (State.openSession s q r).powerCycle = s.powerCycle ∧
    (State.openSession s q r).epoch = s.epoch ∧ (State.openSession s q r).power = s.power ∧
    (State.openSession s q r).rt = s.rt ∧ (State.openSession s q r).station = s.station ∧
    (State.openSession s q r).eng = s.eng ∧ (State.openSession s q r).vote = s.vote ∧
    (State.openSession s q r).ash = s.ash ∧ (State.openSession s q r).field = s.field ∧
    (State.openSession s q r).can = s.can ∧ (State.openSession s q r).net = s.net ∧
    (State.openSession s q r).xings = s.xings ∧ (State.openSession s q r).log = s.log ∧
    (State.openSession s q r).test = s.test ∧ (State.openSession s q r).update = s.update ∧
    (State.openSession s q r).diag = s.diag ∧ (State.openSession s q r).pending = s.pending := by
  simp [State.openSession, State.complete_frame _ _ _ _ _ _ _, State.acknowledge_frame _,
        State.event_frame _ _ _ _ _ _ _ _]

theorem State.loginFails_frame (s : State) (q : Req) (r : Role) :
    (State.loginFails s q r).unit = s.unit ∧ (State.loginFails s q r).opUs = s.opUs ∧
    (State.loginFails s q r).savedOpUs = s.savedOpUs ∧ (State.loginFails s q r).powerCycle = s.powerCycle ∧
    (State.loginFails s q r).epoch = s.epoch ∧ (State.loginFails s q r).power = s.power ∧
    (State.loginFails s q r).rt = s.rt ∧ (State.loginFails s q r).station = s.station ∧
    (State.loginFails s q r).eng = s.eng ∧ (State.loginFails s q r).vote = s.vote ∧
    (State.loginFails s q r).ash = s.ash ∧ (State.loginFails s q r).field = s.field ∧
    (State.loginFails s q r).can = s.can ∧ (State.loginFails s q r).net = s.net ∧
    (State.loginFails s q r).xings = s.xings ∧ (State.loginFails s q r).log = s.log ∧
    (State.loginFails s q r).test = s.test ∧ (State.loginFails s q r).update = s.update ∧
    (State.loginFails s q r).draws = s.draws ∧ (State.loginFails s q r).diag = s.diag ∧
    (State.loginFails s q r).pending = s.pending := by
  simp [State.loginFails, State.event_frame _ _ _ _ _ _ _ _, State.complete_frame _ _ _ _ _ _ _]

theorem State.decideRoleLogin_frame (s : State) (q : Req) :
    (State.decideRoleLogin s q).unit = s.unit ∧ (State.decideRoleLogin s q).opUs = s.opUs ∧
    (State.decideRoleLogin s q).savedOpUs = s.savedOpUs ∧ (State.decideRoleLogin s q).powerCycle = s.powerCycle ∧
    (State.decideRoleLogin s q).epoch = s.epoch ∧ (State.decideRoleLogin s q).power = s.power ∧
    (State.decideRoleLogin s q).rt = s.rt ∧ (State.decideRoleLogin s q).station = s.station ∧
    (State.decideRoleLogin s q).eng = s.eng ∧ (State.decideRoleLogin s q).vote = s.vote ∧
    (State.decideRoleLogin s q).ash = s.ash ∧ (State.decideRoleLogin s q).field = s.field ∧
    (State.decideRoleLogin s q).can = s.can ∧ (State.decideRoleLogin s q).net = s.net ∧
    (State.decideRoleLogin s q).xings = s.xings ∧ (State.decideRoleLogin s q).log = s.log ∧
    (State.decideRoleLogin s q).test = s.test ∧ (State.decideRoleLogin s q).update = s.update ∧
    (State.decideRoleLogin s q).diag = s.diag ∧ (State.decideRoleLogin s q).pending = s.pending := by
  simp only [State.decideRoleLogin, State.clCommand]; (repeat' split) <;> simp [State.complete_frame _ _ _ _ _ _ _,
        State.heard_frame _ _, State.loginFails_frame _ _ _, State.openSession_frame _ _ _]

theorem State.decideRoleLogout_frame (s : State) (q : Req) :
    (State.decideRoleLogout s q).unit = s.unit ∧ (State.decideRoleLogout s q).opUs = s.opUs ∧
    (State.decideRoleLogout s q).savedOpUs = s.savedOpUs ∧ (State.decideRoleLogout s q).powerCycle = s.powerCycle ∧
    (State.decideRoleLogout s q).epoch = s.epoch ∧ (State.decideRoleLogout s q).power = s.power ∧
    (State.decideRoleLogout s q).rt = s.rt ∧ (State.decideRoleLogout s q).sec = s.sec ∧
    (State.decideRoleLogout s q).station = s.station ∧ (State.decideRoleLogout s q).eng = s.eng ∧
    (State.decideRoleLogout s q).vote = s.vote ∧ (State.decideRoleLogout s q).ash = s.ash ∧
    (State.decideRoleLogout s q).field = s.field ∧ (State.decideRoleLogout s q).can = s.can ∧
    (State.decideRoleLogout s q).net = s.net ∧ (State.decideRoleLogout s q).xings = s.xings ∧
    (State.decideRoleLogout s q).recorder = s.recorder ∧ (State.decideRoleLogout s q).log = s.log ∧
    (State.decideRoleLogout s q).test = s.test ∧ (State.decideRoleLogout s q).update = s.update ∧
    (State.decideRoleLogout s q).draws = s.draws ∧ (State.decideRoleLogout s q).diag = s.diag ∧
    (State.decideRoleLogout s q).pending = s.pending := by
  simp only [State.decideRoleLogout, State.clCommand]; (repeat' split) <;> simp [State.complete_frame _ _ _ _ _ _ _,
        State.heard_frame _ _, State.heard_mg_frame _ _]

theorem State.decidePasswordSet_frame (s : State) (q : Req) :
    (State.decidePasswordSet s q).unit = s.unit ∧ (State.decidePasswordSet s q).opUs = s.opUs ∧
    (State.decidePasswordSet s q).savedOpUs = s.savedOpUs ∧ (State.decidePasswordSet s q).powerCycle = s.powerCycle ∧
    (State.decidePasswordSet s q).epoch = s.epoch ∧ (State.decidePasswordSet s q).power = s.power ∧
    (State.decidePasswordSet s q).rt = s.rt ∧ (State.decidePasswordSet s q).station = s.station ∧
    (State.decidePasswordSet s q).eng = s.eng ∧ (State.decidePasswordSet s q).vote = s.vote ∧
    (State.decidePasswordSet s q).ash = s.ash ∧ (State.decidePasswordSet s q).field = s.field ∧
    (State.decidePasswordSet s q).can = s.can ∧ (State.decidePasswordSet s q).net = s.net ∧
    (State.decidePasswordSet s q).xings = s.xings ∧ (State.decidePasswordSet s q).test = s.test ∧
    (State.decidePasswordSet s q).update = s.update ∧ (State.decidePasswordSet s q).diag = s.diag ∧
    (State.decidePasswordSet s q).pending = s.pending := by
  simp only [State.decidePasswordSet, State.clCommand]; (repeat' split) <;> simp [State.complete_frame _ _ _ _ _ _ _,
        State.heard_frame _ _, State.logChange_frame _ _, State.heard_mg_frame _ _, State.logFull_frame _ _ _]

theorem State.decideKeyInstall_frame (s : State) (q : Req) :
    (State.decideKeyInstall s q).unit = s.unit ∧ (State.decideKeyInstall s q).opUs = s.opUs ∧
    (State.decideKeyInstall s q).savedOpUs = s.savedOpUs ∧ (State.decideKeyInstall s q).powerCycle = s.powerCycle ∧
    (State.decideKeyInstall s q).epoch = s.epoch ∧ (State.decideKeyInstall s q).power = s.power ∧
    (State.decideKeyInstall s q).rt = s.rt ∧ (State.decideKeyInstall s q).station = s.station ∧
    (State.decideKeyInstall s q).eng = s.eng ∧ (State.decideKeyInstall s q).vote = s.vote ∧
    (State.decideKeyInstall s q).ash = s.ash ∧ (State.decideKeyInstall s q).field = s.field ∧
    (State.decideKeyInstall s q).can = s.can ∧ (State.decideKeyInstall s q).net = s.net ∧
    (State.decideKeyInstall s q).xings = s.xings ∧ (State.decideKeyInstall s q).test = s.test ∧
    (State.decideKeyInstall s q).update = s.update ∧ (State.decideKeyInstall s q).draws = s.draws ∧
    (State.decideKeyInstall s q).diag = s.diag ∧ (State.decideKeyInstall s q).pending = s.pending := by
  simp only [State.decideKeyInstall, State.clCommand]; (repeat' split) <;> simp [State.complete_frame _ _ _ _ _ _ _,
        State.heard_frame _ _, State.logChange_frame _ _, State.logFull_frame _ _ _]

theorem State.endDebug_frame (s : State) (cause : ℕ) :
    (State.endDebug s cause).unit = s.unit ∧ (State.endDebug s cause).opUs = s.opUs ∧
    (State.endDebug s cause).savedOpUs = s.savedOpUs ∧ (State.endDebug s cause).powerCycle = s.powerCycle ∧
    (State.endDebug s cause).epoch = s.epoch ∧ (State.endDebug s cause).power = s.power ∧
    (State.endDebug s cause).rt = s.rt ∧ (State.endDebug s cause).station = s.station ∧
    (State.endDebug s cause).bench = s.bench ∧ (State.endDebug s cause).eng = s.eng ∧
    (State.endDebug s cause).vote = s.vote ∧ (State.endDebug s cause).field = s.field ∧
    (State.endDebug s cause).can = s.can ∧ (State.endDebug s cause).net = s.net ∧ (State.endDebug s cause).hi = s.hi ∧
    (State.endDebug s cause).xings = s.xings ∧ (State.endDebug s cause).mg = s.mg ∧
    (State.endDebug s cause).log = s.log ∧ (State.endDebug s cause).test = s.test ∧
    (State.endDebug s cause).update = s.update ∧ (State.endDebug s cause).draws = s.draws ∧
    (State.endDebug s cause).outbox = s.outbox ∧ (State.endDebug s cause).diag = s.diag ∧
    (State.endDebug s cause).pending = s.pending := by
  simp [State.endDebug, State.holdDebug_frame _ _, State.event_frame _ _ _ _ _ _ _ _]

theorem State.breakLockstep_frame (s : State) (core : ℕ) (k : DebugKind) :
    (State.breakLockstep s core k).unit = s.unit ∧ (State.breakLockstep s core k).opUs = s.opUs ∧
    (State.breakLockstep s core k).powerCycle = s.powerCycle ∧ (State.breakLockstep s core k).epoch = s.epoch ∧
    (State.breakLockstep s core k).rt = s.rt ∧ (State.breakLockstep s core k).station = s.station ∧
    (State.breakLockstep s core k).net = s.net ∧ (State.breakLockstep s core k).xings = s.xings ∧
    (State.breakLockstep s core k).log = s.log ∧ (State.breakLockstep s core k).test = s.test ∧
    (State.breakLockstep s core k).update = s.update ∧ (State.breakLockstep s core k).draws = s.draws ∧
    (State.breakLockstep s core k).diag = s.diag ∧ (State.breakLockstep s core k).pending = s.pending := by
  simp [State.breakLockstep, State.holdDebug_frame _ _, State.holdLockstep_frame _ _,
        State.event_frame _ _ _ _ _ _ _ _, State.enterStop_frame _ _]

theorem State.attach_frame (s : State) (k : DebugKind) (core : ℕ) :
    (State.attach s k core).unit = s.unit ∧ (State.attach s k core).opUs = s.opUs ∧
    (State.attach s k core).powerCycle = s.powerCycle ∧ (State.attach s k core).epoch = s.epoch ∧
    (State.attach s k core).rt = s.rt ∧ (State.attach s k core).station = s.station ∧
    (State.attach s k core).net = s.net ∧ (State.attach s k core).xings = s.xings ∧
    (State.attach s k core).log = s.log ∧ (State.attach s k core).test = s.test ∧
    (State.attach s k core).update = s.update ∧ (State.attach s k core).draws = s.draws ∧
    (State.attach s k core).diag = s.diag ∧ (State.attach s k core).pending = s.pending := by
  simp [State.attach, State.endDebug_frame _ _, State.event_frame _ _ _ _ _ _ _ _, State.breakLockstep_frame _ _ _]

theorem State.sealAccepted_frame (s : State) (p : BitVec 4) :
    (State.sealAccepted s p).unit = s.unit ∧ (State.sealAccepted s p).opUs = s.opUs ∧
    (State.sealAccepted s p).savedOpUs = s.savedOpUs ∧ (State.sealAccepted s p).powerCycle = s.powerCycle ∧
    (State.sealAccepted s p).epoch = s.epoch ∧ (State.sealAccepted s p).power = s.power ∧
    (State.sealAccepted s p).rt = s.rt ∧ (State.sealAccepted s p).station = s.station ∧
    (State.sealAccepted s p).bench = s.bench ∧ (State.sealAccepted s p).eng = s.eng ∧
    (State.sealAccepted s p).vote = s.vote ∧ (State.sealAccepted s p).field = s.field ∧
    (State.sealAccepted s p).can = s.can ∧ (State.sealAccepted s p).net = s.net ∧ (State.sealAccepted s p).hi = s.hi ∧
    (State.sealAccepted s p).xings = s.xings ∧ (State.sealAccepted s p).mg = s.mg ∧
    (State.sealAccepted s p).log = s.log ∧ (State.sealAccepted s p).test = s.test ∧
    (State.sealAccepted s p).update = s.update ∧ (State.sealAccepted s p).draws = s.draws ∧
    (State.sealAccepted s p).outbox = s.outbox ∧ (State.sealAccepted s p).diag = s.diag ∧
    (State.sealAccepted s p).pending = s.pending := by
  simp [State.sealAccepted, State.endDebug_frame _ _, State.event_frame _ _ _ _ _ _ _ _]

theorem State.eraseRetired_frame (s : State) :
    (State.eraseRetired s).unit = s.unit ∧ (State.eraseRetired s).opUs = s.opUs ∧
    (State.eraseRetired s).savedOpUs = s.savedOpUs ∧ (State.eraseRetired s).powerCycle = s.powerCycle ∧
    (State.eraseRetired s).epoch = s.epoch ∧ (State.eraseRetired s).power = s.power ∧ (State.eraseRetired s).rt = s.rt
    ∧ (State.eraseRetired s).station = s.station ∧ (State.eraseRetired s).bench = s.bench ∧
    (State.eraseRetired s).eng = s.eng ∧ (State.eraseRetired s).vote = s.vote ∧ (State.eraseRetired s).ash = s.ash ∧
    (State.eraseRetired s).field = s.field ∧ (State.eraseRetired s).can = s.can ∧ (State.eraseRetired s).net = s.net ∧
    (State.eraseRetired s).hi = s.hi ∧ (State.eraseRetired s).xings = s.xings ∧
    (State.eraseRetired s).recorder = s.recorder ∧ (State.eraseRetired s).test = s.test ∧
    (State.eraseRetired s).update = s.update ∧ (State.eraseRetired s).draws = s.draws ∧
    (State.eraseRetired s).outbox = s.outbox ∧ (State.eraseRetired s).diag = s.diag ∧
    (State.eraseRetired s).pending = s.pending := by
  simp [State.eraseRetired]

theorem State.finishAdvance_frame (s : State) (e : LogEntry) (old : ℕ) (new : ℕ) (recovered : Bool) :
    (State.finishAdvance s e old new recovered).unit = s.unit ∧
    (State.finishAdvance s e old new recovered).opUs = s.opUs ∧
    (State.finishAdvance s e old new recovered).savedOpUs = s.savedOpUs ∧
    (State.finishAdvance s e old new recovered).powerCycle = s.powerCycle ∧
    (State.finishAdvance s e old new recovered).epoch = s.epoch ∧
    (State.finishAdvance s e old new recovered).power = s.power ∧
    (State.finishAdvance s e old new recovered).rt = s.rt ∧
    (State.finishAdvance s e old new recovered).station = s.station ∧
    (State.finishAdvance s e old new recovered).bench = s.bench ∧
    (State.finishAdvance s e old new recovered).eng = s.eng ∧
    (State.finishAdvance s e old new recovered).vote = s.vote ∧
    (State.finishAdvance s e old new recovered).field = s.field ∧
    (State.finishAdvance s e old new recovered).can = s.can ∧ (State.finishAdvance s e old new recovered).net = s.net
    ∧ (State.finishAdvance s e old new recovered).hi = s.hi ∧
    (State.finishAdvance s e old new recovered).xings = s.xings ∧
    (State.finishAdvance s e old new recovered).test = s.test ∧
    (State.finishAdvance s e old new recovered).update = s.update ∧
    (State.finishAdvance s e old new recovered).draws = s.draws ∧
    (State.finishAdvance s e old new recovered).outbox = s.outbox ∧
    (State.finishAdvance s e old new recovered).diag = s.diag ∧
    (State.finishAdvance s e old new recovered).pending = s.pending := by
  simp [State.finishAdvance, State.logChange_frame _ _, State.eraseRetired_frame _, State.endDebug_frame _ _,
        State.event_frame _ _ _ _ _ _ _ _]

theorem State.decideLifecycleAdvance_frame (s : State) (q : Req) :
    (State.decideLifecycleAdvance s q).unit = s.unit ∧ (State.decideLifecycleAdvance s q).opUs = s.opUs ∧
    (State.decideLifecycleAdvance s q).savedOpUs = s.savedOpUs ∧
    (State.decideLifecycleAdvance s q).powerCycle = s.powerCycle ∧ (State.decideLifecycleAdvance s q).epoch = s.epoch
    ∧ (State.decideLifecycleAdvance s q).power = s.power ∧ (State.decideLifecycleAdvance s q).rt = s.rt ∧
    (State.decideLifecycleAdvance s q).station = s.station ∧ (State.decideLifecycleAdvance s q).eng = s.eng ∧
    (State.decideLifecycleAdvance s q).vote = s.vote ∧ (State.decideLifecycleAdvance s q).field = s.field ∧
    (State.decideLifecycleAdvance s q).can = s.can ∧ (State.decideLifecycleAdvance s q).net = s.net ∧
    (State.decideLifecycleAdvance s q).xings = s.xings ∧ (State.decideLifecycleAdvance s q).test = s.test ∧
    (State.decideLifecycleAdvance s q).update = s.update ∧ (State.decideLifecycleAdvance s q).draws = s.draws ∧
    (State.decideLifecycleAdvance s q).diag = s.diag ∧ (State.decideLifecycleAdvance s q).pending = s.pending := by
  simp only [State.decideLifecycleAdvance,
        State.clCommand]; (repeat' split) <;> simp [State.complete_frame _ _ _ _ _ _ _, State.heard_frame _ _,
        State.finishAdvance_frame _ _ _ _ _, State.holdLifecycle_frame _, State.logFull_frame _ _ _]

theorem State.decideLockoutRelease_frame (s : State) (q : Req) :
    (State.decideLockoutRelease s q).unit = s.unit ∧ (State.decideLockoutRelease s q).opUs = s.opUs ∧
    (State.decideLockoutRelease s q).savedOpUs = s.savedOpUs ∧
    (State.decideLockoutRelease s q).powerCycle = s.powerCycle ∧ (State.decideLockoutRelease s q).epoch = s.epoch ∧
    (State.decideLockoutRelease s q).rt = s.rt ∧ (State.decideLockoutRelease s q).sec = s.sec ∧
    (State.decideLockoutRelease s q).station = s.station ∧ (State.decideLockoutRelease s q).eng = s.eng ∧
    (State.decideLockoutRelease s q).vote = s.vote ∧ (State.decideLockoutRelease s q).ash = s.ash ∧
    (State.decideLockoutRelease s q).field = s.field ∧ (State.decideLockoutRelease s q).can = s.can ∧
    (State.decideLockoutRelease s q).net = s.net ∧ (State.decideLockoutRelease s q).xings = s.xings ∧
    (State.decideLockoutRelease s q).test = s.test ∧ (State.decideLockoutRelease s q).update = s.update ∧
    (State.decideLockoutRelease s q).draws = s.draws ∧ (State.decideLockoutRelease s q).diag = s.diag ∧
    (State.decideLockoutRelease s q).pending = s.pending := by
  simp only [State.decideLockoutRelease,
        State.clCommand]; (repeat' split) <;> simp [State.complete_frame _ _ _ _ _ _ _, State.heard_frame _ _,
        State.logChange_frame _ _, State.event_frame _ _ _ _ _ _ _ _, State.logFull_frame _ _ _]

theorem State.decideMaintAddress_frame (s : State) (q : Req) :
    (State.decideMaintAddress s q).unit = s.unit ∧ (State.decideMaintAddress s q).opUs = s.opUs ∧
    (State.decideMaintAddress s q).savedOpUs = s.savedOpUs ∧ (State.decideMaintAddress s q).powerCycle = s.powerCycle
    ∧ (State.decideMaintAddress s q).epoch = s.epoch ∧ (State.decideMaintAddress s q).power = s.power ∧
    (State.decideMaintAddress s q).rt = s.rt ∧ (State.decideMaintAddress s q).sec = s.sec ∧
    (State.decideMaintAddress s q).station = s.station ∧ (State.decideMaintAddress s q).bench = s.bench ∧
    (State.decideMaintAddress s q).eng = s.eng ∧ (State.decideMaintAddress s q).vote = s.vote ∧
    (State.decideMaintAddress s q).ash = s.ash ∧ (State.decideMaintAddress s q).field = s.field ∧
    (State.decideMaintAddress s q).can = s.can ∧ (State.decideMaintAddress s q).net = s.net ∧
    (State.decideMaintAddress s q).xings = s.xings ∧ (State.decideMaintAddress s q).test = s.test ∧
    (State.decideMaintAddress s q).update = s.update ∧ (State.decideMaintAddress s q).draws = s.draws ∧
    (State.decideMaintAddress s q).diag = s.diag ∧ (State.decideMaintAddress s q).pending = s.pending := by
  simp only [State.decideMaintAddress, State.mgCommand]; (repeat' split) <;> simp [State.answer_frame _ _ _ _ _ _ _,
        State.heard_frame _ _, State.logChange_frame _ _]

end Sys2Proof.Machine
end

