-- ==== Sys2Proof/Laws/SelfTest.lean ====
section
/-! SUPPORT. What the operations of Machine/SelfTest.lean leave alone: one lemma for each, naming every part of the state that
it does not write. -/

namespace Sys2Proof.Machine

open Sys2Proof

theorem State.allocate_frame (s : State) (m : MemFail) :
    (State.allocate s m).1.unit = s.unit ∧ (State.allocate s m).1.opUs = s.opUs ∧
    (State.allocate s m).1.savedOpUs = s.savedOpUs ∧ (State.allocate s m).1.powerCycle = s.powerCycle ∧
    (State.allocate s m).1.epoch = s.epoch ∧ (State.allocate s m).1.power = s.power ∧ (State.allocate s m).1.rt = s.rt
    ∧ (State.allocate s m).1.sec = s.sec ∧ (State.allocate s m).1.station = s.station ∧
    (State.allocate s m).1.bench = s.bench ∧ (State.allocate s m).1.eng = s.eng ∧ (State.allocate s m).1.vote = s.vote
    ∧ (State.allocate s m).1.ash = s.ash ∧ (State.allocate s m).1.field = s.field ∧ (State.allocate s m).1.can = s.can
    ∧ (State.allocate s m).1.net = s.net ∧ (State.allocate s m).1.hi = s.hi ∧ (State.allocate s m).1.xings = s.xings ∧
    (State.allocate s m).1.mg = s.mg ∧ (State.allocate s m).1.log = s.log ∧ (State.allocate s m).1.update = s.update ∧
    (State.allocate s m).1.draws = s.draws ∧ (State.allocate s m).1.outbox = s.outbox ∧
    (State.allocate s m).1.diag = s.diag ∧ (State.allocate s m).1.pending = s.pending := by
  unfold State.allocate; (repeat' split) <;> simp [State.event_frame _ _ _ _ _ _ _ _, State.putRepair_frame _ _]

theorem State.allocateAll_frame (s : State) (l : List MemFail) :
    (State.allocateAll s l).1.unit = s.unit ∧ (State.allocateAll s l).1.opUs = s.opUs ∧
    (State.allocateAll s l).1.savedOpUs = s.savedOpUs ∧ (State.allocateAll s l).1.powerCycle = s.powerCycle ∧
    (State.allocateAll s l).1.epoch = s.epoch ∧ (State.allocateAll s l).1.power = s.power ∧
    (State.allocateAll s l).1.rt = s.rt ∧ (State.allocateAll s l).1.sec = s.sec ∧
    (State.allocateAll s l).1.station = s.station ∧ (State.allocateAll s l).1.bench = s.bench ∧
    (State.allocateAll s l).1.eng = s.eng ∧ (State.allocateAll s l).1.vote = s.vote ∧
    (State.allocateAll s l).1.ash = s.ash ∧ (State.allocateAll s l).1.field = s.field ∧
    (State.allocateAll s l).1.can = s.can ∧ (State.allocateAll s l).1.net = s.net ∧
    (State.allocateAll s l).1.hi = s.hi ∧ (State.allocateAll s l).1.xings = s.xings ∧
    (State.allocateAll s l).1.mg = s.mg ∧ (State.allocateAll s l).1.log = s.log ∧
    (State.allocateAll s l).1.update = s.update ∧ (State.allocateAll s l).1.draws = s.draws ∧
    (State.allocateAll s l).1.outbox = s.outbox ∧ (State.allocateAll s l).1.diag = s.diag ∧
    (State.allocateAll s l).1.pending = s.pending := by
  unfold State.allocateAll
  have h : ∀ (b : Bool) (s : State), let t := (l.foldl (fun (p : State × Bool) m => ((p.1.allocate m).1, p.2 && (p.1.allocate m).2)) (s, b)).1
      t.unit = s.unit ∧ t.opUs = s.opUs ∧ t.savedOpUs = s.savedOpUs ∧ t.powerCycle = s.powerCycle ∧ t.epoch = s.epoch ∧ t.power = s.power ∧ t.rt = s.rt ∧ t.sec = s.sec ∧ t.station = s.station ∧ t.bench = s.bench ∧ t.eng = s.eng ∧ t.vote = s.vote ∧ t.ash = s.ash ∧ t.field = s.field ∧ t.can = s.can ∧ t.net = s.net ∧ t.hi = s.hi ∧ t.xings = s.xings ∧ t.mg = s.mg ∧ t.log = s.log ∧ t.update = s.update ∧ t.draws = s.draws ∧ t.outbox = s.outbox ∧ t.diag = s.diag ∧ t.pending = s.pending := by
    induction l with
    | nil => intro b s; simp
    | cons a l ih => intro b s; simpa [State.allocate_frame _ _] using ih _ (s.allocate a).1
  exact h true s

theorem State.verifyEntries_frame (s : State) (block : ℕ) (l : List MemFail) :
    (State.verifyEntries s block l).unit = s.unit ∧ (State.verifyEntries s block l).opUs = s.opUs ∧
    (State.verifyEntries s block l).savedOpUs = s.savedOpUs ∧
    (State.verifyEntries s block l).powerCycle = s.powerCycle ∧ (State.verifyEntries s block l).epoch = s.epoch ∧
    (State.verifyEntries s block l).power = s.power ∧ (State.verifyEntries s block l).rt = s.rt ∧
    (State.verifyEntries s block l).sec = s.sec ∧ (State.verifyEntries s block l).station = s.station ∧
    (State.verifyEntries s block l).bench = s.bench ∧ (State.verifyEntries s block l).eng = s.eng ∧
    (State.verifyEntries s block l).vote = s.vote ∧ (State.verifyEntries s block l).ash = s.ash ∧
    (State.verifyEntries s block l).field = s.field ∧ (State.verifyEntries s block l).can = s.can ∧
    (State.verifyEntries s block l).net = s.net ∧ (State.verifyEntries s block l).hi = s.hi ∧
    (State.verifyEntries s block l).xings = s.xings ∧ (State.verifyEntries s block l).mg = s.mg ∧
    (State.verifyEntries s block l).recorder = s.recorder ∧ (State.verifyEntries s block l).log = s.log ∧
    (State.verifyEntries s block l).update = s.update ∧ (State.verifyEntries s block l).draws = s.draws ∧
    (State.verifyEntries s block l).outbox = s.outbox ∧ (State.verifyEntries s block l).diag = s.diag ∧
    (State.verifyEntries s block l).pending = s.pending := by
  simp [State.verifyEntries, State.putRepair_frame _ _]

theorem State.corePassed_frame (s : State) (c : ℕ) :
    (State.corePassed s c).unit = s.unit ∧ (State.corePassed s c).opUs = s.opUs ∧
    (State.corePassed s c).savedOpUs = s.savedOpUs ∧ (State.corePassed s c).powerCycle = s.powerCycle ∧
    (State.corePassed s c).epoch = s.epoch ∧ (State.corePassed s c).power = s.power ∧ (State.corePassed s c).rt = s.rt
    ∧ (State.corePassed s c).sec = s.sec ∧ (State.corePassed s c).station = s.station ∧
    (State.corePassed s c).bench = s.bench ∧ (State.corePassed s c).eng = s.eng ∧ (State.corePassed s c).ash = s.ash ∧
    (State.corePassed s c).field = s.field ∧ (State.corePassed s c).can = s.can ∧ (State.corePassed s c).net = s.net ∧
    (State.corePassed s c).hi = s.hi ∧ (State.corePassed s c).xings = s.xings ∧ (State.corePassed s c).mg = s.mg ∧
    (State.corePassed s c).recorder = s.recorder ∧ (State.corePassed s c).log = s.log ∧
    (State.corePassed s c).update = s.update ∧ (State.corePassed s c).draws = s.draws ∧
    (State.corePassed s c).outbox = s.outbox ∧ (State.corePassed s c).diag = s.diag ∧
    (State.corePassed s c).pending = s.pending := by
  simp only [State.corePassed]; (repeat' split) <;> simp [State.modSlot_frame _ _ _, State.setCore_frame _ _ _,
        State.putRepair_frame _ _]

theorem State.coreFails_frame (s : State) (c : ℕ) (cause : ℕ) :
    (State.coreFails s c cause).unit = s.unit ∧ (State.coreFails s c cause).opUs = s.opUs ∧
    (State.coreFails s c cause).savedOpUs = s.savedOpUs ∧ (State.coreFails s c cause).powerCycle = s.powerCycle ∧
    (State.coreFails s c cause).epoch = s.epoch ∧ (State.coreFails s c cause).power = s.power ∧
    (State.coreFails s c cause).rt = s.rt ∧ (State.coreFails s c cause).sec = s.sec ∧
    (State.coreFails s c cause).station = s.station ∧ (State.coreFails s c cause).bench = s.bench ∧
    (State.coreFails s c cause).eng = s.eng ∧ (State.coreFails s c cause).ash = s.ash ∧
    (State.coreFails s c cause).field = s.field ∧ (State.coreFails s c cause).can = s.can ∧
    (State.coreFails s c cause).net = s.net ∧ (State.coreFails s c cause).xings = s.xings ∧
    (State.coreFails s c cause).mg = s.mg ∧ (State.coreFails s c cause).log = s.log ∧
    (State.coreFails s c cause).update = s.update ∧ (State.coreFails s c cause).draws = s.draws ∧
    (State.coreFails s c cause).diag = s.diag ∧ (State.coreFails s c cause).pending = s.pending := by
  unfold State.coreFails; (repeat' split) <;> simp [State.markFailed_frame _ _ _]

theorem State.fillSlot_frame (s : State) (v : ℕ) :
    (State.fillSlot s v).unit = s.unit ∧ (State.fillSlot s v).opUs = s.opUs ∧
    (State.fillSlot s v).savedOpUs = s.savedOpUs ∧ (State.fillSlot s v).powerCycle = s.powerCycle ∧
    (State.fillSlot s v).epoch = s.epoch ∧ (State.fillSlot s v).power = s.power ∧ (State.fillSlot s v).rt = s.rt ∧
    (State.fillSlot s v).sec = s.sec ∧ (State.fillSlot s v).station = s.station ∧ (State.fillSlot s v).bench = s.bench
    ∧ (State.fillSlot s v).eng = s.eng ∧ (State.fillSlot s v).ash = s.ash ∧ (State.fillSlot s v).field = s.field ∧
    (State.fillSlot s v).can = s.can ∧ (State.fillSlot s v).net = s.net ∧ (State.fillSlot s v).xings = s.xings ∧
    (State.fillSlot s v).mg = s.mg ∧ (State.fillSlot s v).log = s.log ∧ (State.fillSlot s v).test = s.test ∧
    (State.fillSlot s v).update = s.update ∧ (State.fillSlot s v).draws = s.draws ∧ (State.fillSlot s v).diag = s.diag
    ∧ (State.fillSlot s v).pending = s.pending := by
  unfold State.fillSlot; (repeat' split) <;> simp [State.setCore_frame _ _ _, State.modSlot_frame _ _ _,
        State.voteNote_frame _ _ _ _, State.voteEvent_frame _ _ _ _ _]

theorem State.settleSlots_frame (s : State) :
    (State.settleSlots s).unit = s.unit ∧ (State.settleSlots s).opUs = s.opUs ∧
    (State.settleSlots s).savedOpUs = s.savedOpUs ∧ (State.settleSlots s).powerCycle = s.powerCycle ∧
    (State.settleSlots s).epoch = s.epoch ∧ (State.settleSlots s).power = s.power ∧ (State.settleSlots s).rt = s.rt ∧
    (State.settleSlots s).sec = s.sec ∧ (State.settleSlots s).station = s.station ∧
    (State.settleSlots s).bench = s.bench ∧ (State.settleSlots s).eng = s.eng ∧ (State.settleSlots s).ash = s.ash ∧
    (State.settleSlots s).field = s.field ∧ (State.settleSlots s).can = s.can ∧ (State.settleSlots s).net = s.net ∧
    (State.settleSlots s).xings = s.xings ∧ (State.settleSlots s).mg = s.mg ∧ (State.settleSlots s).log = s.log ∧
    (State.settleSlots s).update = s.update ∧ (State.settleSlots s).draws = s.draws ∧
    (State.settleSlots s).diag = s.diag ∧ (State.settleSlots s).pending = s.pending := by
  simp [State.settleSlots, State.dwellSync_frame _, State.fillSlot_frame _ _, State.putRepair_frame _ _]

theorem State.selectLanes_frame (s : State) :
    (State.selectLanes s).unit = s.unit ∧ (State.selectLanes s).opUs = s.opUs ∧ (State.selectLanes s).savedOpUs =
    s.savedOpUs ∧ (State.selectLanes s).powerCycle = s.powerCycle ∧ (State.selectLanes s).epoch = s.epoch ∧
    (State.selectLanes s).power = s.power ∧ (State.selectLanes s).rt = s.rt ∧ (State.selectLanes s).sec = s.sec ∧
    (State.selectLanes s).station = s.station ∧ (State.selectLanes s).bench = s.bench ∧ (State.selectLanes s).eng =
    s.eng ∧ (State.selectLanes s).ash = s.ash ∧ (State.selectLanes s).field = s.field ∧ (State.selectLanes s).can =
    s.can ∧ (State.selectLanes s).net = s.net ∧ (State.selectLanes s).hi = s.hi ∧ (State.selectLanes s).xings =
    s.xings ∧ (State.selectLanes s).mg = s.mg ∧ (State.selectLanes s).recorder = s.recorder ∧ (State.selectLanes
    s).log = s.log ∧ (State.selectLanes s).update = s.update ∧ (State.selectLanes s).draws = s.draws ∧
    (State.selectLanes s).diag = s.diag ∧ (State.selectLanes s).outbox = s.outbox ∧ (State.selectLanes s).pending =
    s.pending := by
  simp [State.selectLanes, State.putRepair_frame _ _]

theorem State.beginStart_frame (s : State) (cause : StartCause) (leaving : Bool) :
    (State.beginStart s cause leaving).unit = s.unit ∧ (State.beginStart s cause leaving).opUs = s.opUs ∧
    (State.beginStart s cause leaving).savedOpUs = s.savedOpUs ∧
    (State.beginStart s cause leaving).powerCycle = s.powerCycle ∧ (State.beginStart s cause leaving).epoch = s.epoch
    ∧ (State.beginStart s cause leaving).rt = s.rt ∧ (State.beginStart s cause leaving).sec = s.sec ∧
    (State.beginStart s cause leaving).station = s.station ∧ (State.beginStart s cause leaving).field = s.field ∧
    (State.beginStart s cause leaving).can = s.can ∧ (State.beginStart s cause leaving).hi = s.hi ∧
    (State.beginStart s cause leaving).mg = s.mg ∧ (State.beginStart s cause leaving).log = s.log ∧
    (State.beginStart s cause leaving).update = s.update ∧ (State.beginStart s cause leaving).draws = s.draws ∧
    (State.beginStart s cause leaving).outbox = s.outbox ∧ (State.beginStart s cause leaving).diag = s.diag ∧
    (State.beginStart s cause leaving).pending = s.pending := by
  simp [State.beginStart, State.selectLanes_frame _, State.bootStores_frame _, State.resetAshlar_frame _]

theorem State.startLane_frame (s : State) (bad : List Nat) :
    (State.startLane s bad).1.unit = s.unit ∧ (State.startLane s bad).1.opUs = s.opUs ∧
    (State.startLane s bad).1.savedOpUs = s.savedOpUs ∧ (State.startLane s bad).1.powerCycle = s.powerCycle ∧
    (State.startLane s bad).1.epoch = s.epoch ∧ (State.startLane s bad).1.power = s.power ∧
    (State.startLane s bad).1.rt = s.rt ∧ (State.startLane s bad).1.sec = s.sec ∧
    (State.startLane s bad).1.station = s.station ∧ (State.startLane s bad).1.bench = s.bench ∧
    (State.startLane s bad).1.eng = s.eng ∧ (State.startLane s bad).1.ash = s.ash ∧
    (State.startLane s bad).1.field = s.field ∧ (State.startLane s bad).1.can = s.can ∧
    (State.startLane s bad).1.net = s.net ∧ (State.startLane s bad).1.hi = s.hi ∧
    (State.startLane s bad).1.xings = s.xings ∧ (State.startLane s bad).1.mg = s.mg ∧
    (State.startLane s bad).1.log = s.log ∧ (State.startLane s bad).1.update = s.update ∧
    (State.startLane s bad).1.draws = s.draws ∧ (State.startLane s bad).1.outbox = s.outbox ∧
    (State.startLane s bad).1.diag = s.diag ∧ (State.startLane s bad).1.pending = s.pending := by
  unfold State.startLane; dsimp only; (repeat' split) <;> simp [State.voteEvent_frame _ _ _ _ _,
        State.putRepair_frame _ _]

theorem State.startSources_frame (s : State) (bad : List ℕ) :
    (State.startSources s bad).unit = s.unit ∧ (State.startSources s bad).opUs = s.opUs ∧
    (State.startSources s bad).savedOpUs = s.savedOpUs ∧ (State.startSources s bad).powerCycle = s.powerCycle ∧
    (State.startSources s bad).epoch = s.epoch ∧ (State.startSources s bad).power = s.power ∧
    (State.startSources s bad).rt = s.rt ∧ (State.startSources s bad).sec = s.sec ∧
    (State.startSources s bad).station = s.station ∧ (State.startSources s bad).bench = s.bench ∧
    (State.startSources s bad).eng = s.eng ∧ (State.startSources s bad).vote = s.vote ∧
    (State.startSources s bad).ash = s.ash ∧ (State.startSources s bad).can = s.can ∧
    (State.startSources s bad).net = s.net ∧ (State.startSources s bad).hi = s.hi ∧
    (State.startSources s bad).xings = s.xings ∧ (State.startSources s bad).mg = s.mg ∧
    (State.startSources s bad).log = s.log ∧ (State.startSources s bad).test = s.test ∧
    (State.startSources s bad).update = s.update ∧ (State.startSources s bad).draws = s.draws ∧
    (State.startSources s bad).outbox = s.outbox ∧ (State.startSources s bad).diag = s.diag ∧
    (State.startSources s bad).pending = s.pending := by
  simp [State.startSources, State.sourceFails_frame _ _ _, State.modSource_frame _ _ _]

theorem State.startCores_frame (s : State) (l : List (ℕ × Verdict)) :
    (State.startCores s l).unit = s.unit ∧ (State.startCores s l).opUs = s.opUs ∧
    (State.startCores s l).savedOpUs = s.savedOpUs ∧ (State.startCores s l).powerCycle = s.powerCycle ∧
    (State.startCores s l).epoch = s.epoch ∧ (State.startCores s l).power = s.power ∧ (State.startCores s l).rt = s.rt
    ∧ (State.startCores s l).sec = s.sec ∧ (State.startCores s l).station = s.station ∧
    (State.startCores s l).bench = s.bench ∧ (State.startCores s l).eng = s.eng ∧ (State.startCores s l).ash = s.ash ∧
    (State.startCores s l).field = s.field ∧ (State.startCores s l).can = s.can ∧ (State.startCores s l).net = s.net ∧
    (State.startCores s l).xings = s.xings ∧ (State.startCores s l).mg = s.mg ∧ (State.startCores s l).log = s.log ∧
    (State.startCores s l).update = s.update ∧ (State.startCores s l).draws = s.draws ∧
    (State.startCores s l).diag = s.diag ∧ (State.startCores s l).pending = s.pending := by
  simp only [State.startCores]; (repeat' split) <;> simp (disch := (intros; (try dsimp only); (repeat' split) <;> simp [State.corePassed_frame _ _,
        State.coreFails_frame _ _ _]))

theorem State.startMemory_frame (s : State) (r : StartResult) (l : List (Nat × Verdict)) :
    (State.startMemory s r l).1.unit = s.unit ∧ (State.startMemory s r l).1.opUs = s.opUs ∧
    (State.startMemory s r l).1.savedOpUs = s.savedOpUs ∧ (State.startMemory s r l).1.powerCycle = s.powerCycle ∧
    (State.startMemory s r l).1.epoch = s.epoch ∧ (State.startMemory s r l).1.power = s.power ∧
    (State.startMemory s r l).1.rt = s.rt ∧ (State.startMemory s r l).1.sec = s.sec ∧
    (State.startMemory s r l).1.station = s.station ∧ (State.startMemory s r l).1.bench = s.bench ∧
    (State.startMemory s r l).1.eng = s.eng ∧ (State.startMemory s r l).1.vote = s.vote ∧
    (State.startMemory s r l).1.ash = s.ash ∧ (State.startMemory s r l).1.field = s.field ∧
    (State.startMemory s r l).1.can = s.can ∧ (State.startMemory s r l).1.net = s.net ∧
    (State.startMemory s r l).1.hi = s.hi ∧ (State.startMemory s r l).1.xings = s.xings ∧
    (State.startMemory s r l).1.mg = s.mg ∧ (State.startMemory s r l).1.log = s.log ∧
    (State.startMemory s r l).1.update = s.update ∧ (State.startMemory s r l).1.draws = s.draws ∧
    (State.startMemory s r l).1.outbox = s.outbox ∧ (State.startMemory s r l).1.diag = s.diag ∧
    (State.startMemory s r l).1.pending = s.pending := by
  unfold State.startMemory; (repeat' split) <;> simp [State.allocateAll_frame _ _, State.verifyEntries_frame _ _ _]

theorem State.endStartIn_frame (s : State) (p : PowerState) :
    (State.endStartIn s p).unit = s.unit ∧ (State.endStartIn s p).opUs = s.opUs ∧
    (State.endStartIn s p).savedOpUs = s.savedOpUs ∧ (State.endStartIn s p).powerCycle = s.powerCycle ∧
    (State.endStartIn s p).epoch = s.epoch ∧ (State.endStartIn s p).rt = s.rt ∧ (State.endStartIn s p).sec = s.sec ∧
    (State.endStartIn s p).station = s.station ∧ (State.endStartIn s p).bench = s.bench ∧
    (State.endStartIn s p).eng = s.eng ∧ (State.endStartIn s p).vote = s.vote ∧ (State.endStartIn s p).ash = s.ash ∧
    (State.endStartIn s p).field = s.field ∧ (State.endStartIn s p).can = s.can ∧ (State.endStartIn s p).net = s.net ∧
    (State.endStartIn s p).hi = s.hi ∧ (State.endStartIn s p).xings = s.xings ∧ (State.endStartIn s p).mg = s.mg ∧
    (State.endStartIn s p).recorder = s.recorder ∧ (State.endStartIn s p).log = s.log ∧
    (State.endStartIn s p).test = s.test ∧ (State.endStartIn s p).update = s.update ∧
    (State.endStartIn s p).draws = s.draws ∧ (State.endStartIn s p).outbox = s.outbox ∧
    (State.endStartIn s p).diag = s.diag ∧ (State.endStartIn s p).pending = s.pending := by
  simp [State.endStartIn]

theorem State.fullRestart_frame (s : State) :
    (State.fullRestart s).unit = s.unit ∧ (State.fullRestart s).opUs = s.opUs ∧ (State.fullRestart s).savedOpUs =
    s.savedOpUs ∧ (State.fullRestart s).powerCycle = s.powerCycle ∧ (State.fullRestart s).epoch = s.epoch ∧
    (State.fullRestart s).power = s.power ∧ (State.fullRestart s).rt = s.rt ∧ (State.fullRestart s).sec = s.sec ∧
    (State.fullRestart s).station = s.station ∧ (State.fullRestart s).bench = s.bench ∧ (State.fullRestart s).eng =
    s.eng ∧ (State.fullRestart s).field = s.field ∧ (State.fullRestart s).can = s.can ∧ (State.fullRestart s).net =
    s.net ∧ (State.fullRestart s).hi = s.hi ∧ (State.fullRestart s).xings = s.xings ∧ (State.fullRestart s).mg = s.mg
    ∧ (State.fullRestart s).log = s.log ∧ (State.fullRestart s).test = s.test ∧ (State.fullRestart s).update =
    s.update ∧ (State.fullRestart s).draws = s.draws ∧ (State.fullRestart s).diag = s.diag ∧ (State.fullRestart
    s).outbox = s.outbox ∧ (State.fullRestart s).pending = s.pending := by
  simp [State.fullRestart, State.holdLockstep_frame _ _]

theorem State.startPassed_frame (s : State) (complete : Bool) :
    (State.startPassed s complete).unit = s.unit ∧ (State.startPassed s complete).opUs = s.opUs ∧
    (State.startPassed s complete).savedOpUs = s.savedOpUs ∧ (State.startPassed s complete).powerCycle = s.powerCycle
    ∧ (State.startPassed s complete).rt = s.rt ∧ (State.startPassed s complete).sec = s.sec ∧
    (State.startPassed s complete).station = s.station ∧ (State.startPassed s complete).can = s.can ∧
    (State.startPassed s complete).xings = s.xings ∧ (State.startPassed s complete).log = s.log ∧
    (State.startPassed s complete).update = s.update ∧ (State.startPassed s complete).draws = s.draws ∧
    (State.startPassed s complete).diag = s.diag ∧ (State.startPassed s complete).pending = s.pending := by
  simp [State.startPassed, State.endStartIn_frame _ _, State.startRefused_frame _ _ _,
        State.tryRun_frame _]

theorem State.noStation_frame (s : State) :
    (State.noStation s).unit = s.unit ∧ (State.noStation s).opUs = s.opUs ∧ (State.noStation s).savedOpUs =
    s.savedOpUs ∧ (State.noStation s).powerCycle = s.powerCycle ∧ (State.noStation s).epoch = s.epoch ∧
    (State.noStation s).power = s.power ∧ (State.noStation s).rt = s.rt ∧ (State.noStation s).sec = s.sec ∧
    (State.noStation s).bench = s.bench ∧ (State.noStation s).vote = s.vote ∧ (State.noStation s).ash = s.ash ∧
    (State.noStation s).field = s.field ∧ (State.noStation s).can = s.can ∧ (State.noStation s).hi = s.hi ∧
    (State.noStation s).xings = s.xings ∧ (State.noStation s).mg = s.mg ∧ (State.noStation s).recorder = s.recorder ∧
    (State.noStation s).log = s.log ∧ (State.noStation s).test = s.test ∧ (State.noStation s).update = s.update ∧
    (State.noStation s).draws = s.draws ∧ (State.noStation s).diag = s.diag ∧ (State.noStation s).outbox = s.outbox ∧
    (State.noStation s).pending = s.pending := by
  simp [State.noStation]

theorem State.checkStation_frame (s : State) :
    (State.checkStation s).unit = s.unit ∧ (State.checkStation s).opUs = s.opUs ∧ (State.checkStation s).savedOpUs =
    s.savedOpUs ∧ (State.checkStation s).powerCycle = s.powerCycle ∧ (State.checkStation s).epoch = s.epoch ∧
    (State.checkStation s).power = s.power ∧ (State.checkStation s).rt = s.rt ∧ (State.checkStation s).sec = s.sec ∧
    (State.checkStation s).bench = s.bench ∧ (State.checkStation s).vote = s.vote ∧ (State.checkStation s).ash = s.ash
    ∧ (State.checkStation s).field = s.field ∧ (State.checkStation s).can = s.can ∧ (State.checkStation s).hi = s.hi ∧
    (State.checkStation s).xings = s.xings ∧ (State.checkStation s).mg = s.mg ∧ (State.checkStation s).log = s.log ∧
    (State.checkStation s).test = s.test ∧ (State.checkStation s).update = s.update ∧ (State.checkStation s).draws =
    s.draws ∧ (State.checkStation s).diag = s.diag ∧ (State.checkStation s).outbox = s.outbox ∧ (State.checkStation
    s).pending = s.pending := by
  unfold State.checkStation; dsimp only; (repeat' split) <;> simp [State.noStation_frame _, State.event_frame _ _ _ _ _ _ _ _]

theorem State.startJudged_frame (s : State) (r : StartResult) :
    (State.startJudged s r).unit = s.unit ∧ (State.startJudged s r).opUs = s.opUs ∧
    (State.startJudged s r).savedOpUs = s.savedOpUs ∧ (State.startJudged s r).powerCycle = s.powerCycle ∧
    (State.startJudged s r).rt = s.rt ∧ (State.startJudged s r).station = s.station ∧
    (State.startJudged s r).xings = s.xings ∧ (State.startJudged s r).log = s.log ∧
    (State.startJudged s r).update = s.update ∧ (State.startJudged s r).draws = s.draws ∧
    (State.startJudged s r).diag = s.diag ∧ (State.startJudged s r).pending = s.pending := by
  unfold State.startJudged; dsimp only; (repeat' split) <;> simp [State.startPassed_frame _ _, State.fullRestart_frame _,
        State.event_frame _ _ _ _ _ _ _ _, State.settleSlots_frame _, State.startMemory_frame _ _ _,
        State.startCores_frame _ _, State.startLane_frame _ _, State.startSources_frame _ _,
        State.endStartIn_frame _ _, State.enterSafe_frame _ _ _, State.startFailed_frame _ _,
        State.enterLockout_frame _ _ _ _]

theorem State.startDoneWith_frame (s : State) (r : StartResult) :
    (State.startDoneWith s r).unit = s.unit ∧ (State.startDoneWith s r).opUs = s.opUs ∧
    (State.startDoneWith s r).savedOpUs = s.savedOpUs ∧ (State.startDoneWith s r).powerCycle = s.powerCycle ∧
    (State.startDoneWith s r).rt = s.rt ∧ (State.startDoneWith s r).xings = s.xings ∧
    (State.startDoneWith s r).log = s.log ∧ (State.startDoneWith s r).update = s.update ∧
    (State.startDoneWith s r).draws = s.draws ∧ (State.startDoneWith s r).diag = s.diag ∧
    (State.startDoneWith s r).pending = s.pending := by
  simp [State.startDoneWith, State.startJudged_frame _ _, State.checkStation_frame _]

theorem State.decideShutdown_frame (s : State) (q : Req) :
    (State.decideShutdown s q).unit = s.unit ∧ (State.decideShutdown s q).opUs = s.opUs ∧
    (State.decideShutdown s q).savedOpUs = s.savedOpUs ∧ (State.decideShutdown s q).powerCycle = s.powerCycle ∧
    (State.decideShutdown s q).epoch = s.epoch ∧ (State.decideShutdown s q).rt = s.rt ∧
    (State.decideShutdown s q).station = s.station ∧ (State.decideShutdown s q).vote = s.vote ∧
    (State.decideShutdown s q).can = s.can ∧ (State.decideShutdown s q).net = s.net ∧
    (State.decideShutdown s q).xings = s.xings ∧ (State.decideShutdown s q).log = s.log ∧
    (State.decideShutdown s q).update = s.update ∧ (State.decideShutdown s q).draws = s.draws ∧
    (State.decideShutdown s q).diag = s.diag ∧ (State.decideShutdown s q).pending = s.pending := by
  simp only [State.decideShutdown, State.clCommand]; (repeat' split) <;> simp [State.complete_frame _ _ _ _ _ _ _,
        State.heard_frame _ _, State.event_frame _ _ _ _ _ _ _ _, State.endDebug_frame _ _]

theorem State.nextStep_frame (s : State) (n : ℕ) :
    (State.nextStep s n).unit = s.unit ∧ (State.nextStep s n).opUs = s.opUs ∧
    (State.nextStep s n).savedOpUs = s.savedOpUs ∧ (State.nextStep s n).powerCycle = s.powerCycle ∧
    (State.nextStep s n).epoch = s.epoch ∧ (State.nextStep s n).power = s.power ∧ (State.nextStep s n).rt = s.rt ∧
    (State.nextStep s n).sec = s.sec ∧ (State.nextStep s n).station = s.station ∧ (State.nextStep s n).bench = s.bench
    ∧ (State.nextStep s n).eng = s.eng ∧ (State.nextStep s n).vote = s.vote ∧ (State.nextStep s n).field = s.field ∧
    (State.nextStep s n).can = s.can ∧ (State.nextStep s n).net = s.net ∧ (State.nextStep s n).hi = s.hi ∧
    (State.nextStep s n).xings = s.xings ∧ (State.nextStep s n).mg = s.mg ∧ (State.nextStep s n).recorder = s.recorder
    ∧ (State.nextStep s n).log = s.log ∧ (State.nextStep s n).update = s.update ∧ (State.nextStep s n).draws = s.draws
    ∧ (State.nextStep s n).outbox = s.outbox ∧ (State.nextStep s n).diag = s.diag ∧
    (State.nextStep s n).pending = s.pending := by
  simp [State.nextStep]

theorem State.noteVerdict_frame (s : State) (block : ℕ) (v : Verdict) (count : ℕ) :
    (State.noteVerdict s block v count).unit = s.unit ∧ (State.noteVerdict s block v count).opUs = s.opUs ∧
    (State.noteVerdict s block v count).savedOpUs = s.savedOpUs ∧
    (State.noteVerdict s block v count).powerCycle = s.powerCycle ∧
    (State.noteVerdict s block v count).epoch = s.epoch ∧ (State.noteVerdict s block v count).power = s.power ∧
    (State.noteVerdict s block v count).rt = s.rt ∧ (State.noteVerdict s block v count).sec = s.sec ∧
    (State.noteVerdict s block v count).station = s.station ∧ (State.noteVerdict s block v count).bench = s.bench ∧
    (State.noteVerdict s block v count).eng = s.eng ∧ (State.noteVerdict s block v count).vote = s.vote ∧
    (State.noteVerdict s block v count).ash = s.ash ∧ (State.noteVerdict s block v count).field = s.field ∧
    (State.noteVerdict s block v count).can = s.can ∧ (State.noteVerdict s block v count).net = s.net ∧
    (State.noteVerdict s block v count).hi = s.hi ∧ (State.noteVerdict s block v count).xings = s.xings ∧
    (State.noteVerdict s block v count).mg = s.mg ∧ (State.noteVerdict s block v count).log = s.log ∧
    (State.noteVerdict s block v count).update = s.update ∧ (State.noteVerdict s block v count).draws = s.draws ∧
    (State.noteVerdict s block v count).outbox = s.outbox ∧ (State.noteVerdict s block v count).diag = s.diag ∧
    (State.noteVerdict s block v count).pending = s.pending := by
  simp [State.noteVerdict, State.event_frame _ _ _ _ _ _ _ _]

theorem State.settleFuses_frame (s : State) (oks : List Bool) :
    (State.settleFuses s oks).unit = s.unit ∧ (State.settleFuses s oks).opUs = s.opUs ∧
    (State.settleFuses s oks).savedOpUs = s.savedOpUs ∧ (State.settleFuses s oks).powerCycle = s.powerCycle ∧
    (State.settleFuses s oks).epoch = s.epoch ∧ (State.settleFuses s oks).power = s.power ∧
    (State.settleFuses s oks).rt = s.rt ∧ (State.settleFuses s oks).sec = s.sec ∧
    (State.settleFuses s oks).station = s.station ∧ (State.settleFuses s oks).bench = s.bench ∧
    (State.settleFuses s oks).eng = s.eng ∧ (State.settleFuses s oks).vote = s.vote ∧
    (State.settleFuses s oks).ash = s.ash ∧ (State.settleFuses s oks).field = s.field ∧
    (State.settleFuses s oks).can = s.can ∧ (State.settleFuses s oks).net = s.net ∧
    (State.settleFuses s oks).hi = s.hi ∧ (State.settleFuses s oks).xings = s.xings ∧
    (State.settleFuses s oks).mg = s.mg ∧ (State.settleFuses s oks).recorder = s.recorder ∧
    (State.settleFuses s oks).log = s.log ∧ (State.settleFuses s oks).update = s.update ∧
    (State.settleFuses s oks).draws = s.draws ∧ (State.settleFuses s oks).outbox = s.outbox ∧
    (State.settleFuses s oks).diag = s.diag ∧ (State.settleFuses s oks).pending = s.pending := by
  simp [State.settleFuses, State.putRepair_frame _ _, State.putRepair_test_frame _ _]

theorem State.shutdownCores_frame (s : State) :
    (State.shutdownCores s).unit = s.unit ∧ (State.shutdownCores s).opUs = s.opUs ∧
    (State.shutdownCores s).savedOpUs = s.savedOpUs ∧ (State.shutdownCores s).powerCycle = s.powerCycle ∧
    (State.shutdownCores s).epoch = s.epoch ∧ (State.shutdownCores s).power = s.power ∧
    (State.shutdownCores s).rt = s.rt ∧ (State.shutdownCores s).sec = s.sec ∧
    (State.shutdownCores s).station = s.station ∧ (State.shutdownCores s).bench = s.bench ∧
    (State.shutdownCores s).eng = s.eng ∧ (State.shutdownCores s).ash = s.ash ∧
    (State.shutdownCores s).field = s.field ∧ (State.shutdownCores s).can = s.can ∧
    (State.shutdownCores s).net = s.net ∧ (State.shutdownCores s).xings = s.xings ∧ (State.shutdownCores s).mg = s.mg
    ∧ (State.shutdownCores s).log = s.log ∧ (State.shutdownCores s).update = s.update ∧
    (State.shutdownCores s).draws = s.draws ∧ (State.shutdownCores s).diag = s.diag ∧
    (State.shutdownCores s).pending = s.pending := by
  unfold State.shutdownCores
  refine ⟨(State.foldl_unit _ (fun s w => ?_) _ _), (State.foldl_opUs _ (fun s w => ?_) _ _), (State.foldl_savedOpUs _ (fun s w => ?_) _ _), (State.foldl_powerCycle _ (fun s w => ?_) _ _), (State.foldl_epoch _ (fun s w => ?_) _ _), (State.foldl_power _ (fun s w => ?_) _ _), (State.foldl_rt _ (fun s w => ?_) _ _), (State.foldl_sec _ (fun s w => ?_) _ _), (State.foldl_station _ (fun s w => ?_) _ _), (State.foldl_bench _ (fun s w => ?_) _ _), (State.foldl_eng _ (fun s w => ?_) _ _), (State.foldl_ash _ (fun s w => ?_) _ _), (State.foldl_field _ (fun s w => ?_) _ _), (State.foldl_can _ (fun s w => ?_) _ _), (State.foldl_net _ (fun s w => ?_) _ _), (State.foldl_xings _ (fun s w => ?_) _ _), (State.foldl_mg _ (fun s w => ?_) _ _), (State.foldl_log _ (fun s w => ?_) _ _), (State.foldl_update _ (fun s w => ?_) _ _), (State.foldl_draws _ (fun s w => ?_) _ _), (State.foldl_diag _ (fun s w => ?_) _ _), (State.foldl_pending _ (fun s w => ?_) _ _)⟩ <;> ((repeat' split) <;> simp [State.corePassed_frame _ _, State.putRepair_frame _ _, State.coreFails_frame _ _ _])

theorem State.enterFuses_frame (s : State) :
    (State.enterFuses s).unit = s.unit ∧ (State.enterFuses s).opUs = s.opUs ∧
    (State.enterFuses s).savedOpUs = s.savedOpUs ∧ (State.enterFuses s).powerCycle = s.powerCycle ∧
    (State.enterFuses s).epoch = s.epoch ∧ (State.enterFuses s).power = s.power ∧ (State.enterFuses s).rt = s.rt ∧
    (State.enterFuses s).sec = s.sec ∧ (State.enterFuses s).station = s.station ∧ (State.enterFuses s).bench = s.bench
    ∧ (State.enterFuses s).eng = s.eng ∧ (State.enterFuses s).field = s.field ∧ (State.enterFuses s).can = s.can ∧
    (State.enterFuses s).net = s.net ∧ (State.enterFuses s).xings = s.xings ∧ (State.enterFuses s).mg = s.mg ∧
    (State.enterFuses s).log = s.log ∧ (State.enterFuses s).update = s.update ∧ (State.enterFuses s).draws = s.draws ∧
    (State.enterFuses s).diag = s.diag ∧ (State.enterFuses s).pending = s.pending := by
  simp [State.enterFuses, State.putRepair_frame _ _, State.nextStep_frame _ _, State.shutdownCores_frame _,
        State.putRepair_test_frame _ _, State.event_frame _ _ _ _ _ _ _ _]

theorem State.afterBlock_frame (s : State) (block : ℕ) :
    (State.afterBlock s block).unit = s.unit ∧ (State.afterBlock s block).opUs = s.opUs ∧
    (State.afterBlock s block).savedOpUs = s.savedOpUs ∧ (State.afterBlock s block).powerCycle = s.powerCycle ∧
    (State.afterBlock s block).epoch = s.epoch ∧ (State.afterBlock s block).power = s.power ∧
    (State.afterBlock s block).rt = s.rt ∧ (State.afterBlock s block).sec = s.sec ∧
    (State.afterBlock s block).station = s.station ∧ (State.afterBlock s block).bench = s.bench ∧
    (State.afterBlock s block).eng = s.eng ∧ (State.afterBlock s block).field = s.field ∧
    (State.afterBlock s block).can = s.can ∧ (State.afterBlock s block).net = s.net ∧
    (State.afterBlock s block).xings = s.xings ∧ (State.afterBlock s block).mg = s.mg ∧
    (State.afterBlock s block).log = s.log ∧ (State.afterBlock s block).update = s.update ∧
    (State.afterBlock s block).draws = s.draws ∧ (State.afterBlock s block).diag = s.diag ∧
    (State.afterBlock s block).pending = s.pending := by
  simp [State.afterBlock, State.enterFuses_frame _, State.nextStep_frame _ _]

theorem State.blockVerdict_frame (s : State) (b : BlockResult) :
    (State.blockVerdict s b).1.unit = s.unit ∧ (State.blockVerdict s b).1.opUs = s.opUs ∧
    (State.blockVerdict s b).1.savedOpUs = s.savedOpUs ∧ (State.blockVerdict s b).1.powerCycle = s.powerCycle ∧
    (State.blockVerdict s b).1.epoch = s.epoch ∧ (State.blockVerdict s b).1.power = s.power ∧
    (State.blockVerdict s b).1.rt = s.rt ∧ (State.blockVerdict s b).1.sec = s.sec ∧
    (State.blockVerdict s b).1.station = s.station ∧ (State.blockVerdict s b).1.bench = s.bench ∧
    (State.blockVerdict s b).1.eng = s.eng ∧ (State.blockVerdict s b).1.vote = s.vote ∧
    (State.blockVerdict s b).1.ash = s.ash ∧ (State.blockVerdict s b).1.field = s.field ∧
    (State.blockVerdict s b).1.can = s.can ∧ (State.blockVerdict s b).1.net = s.net ∧
    (State.blockVerdict s b).1.hi = s.hi ∧ (State.blockVerdict s b).1.xings = s.xings ∧
    (State.blockVerdict s b).1.mg = s.mg ∧ (State.blockVerdict s b).1.log = s.log ∧
    (State.blockVerdict s b).1.update = s.update ∧ (State.blockVerdict s b).1.draws = s.draws ∧
    (State.blockVerdict s b).1.outbox = s.outbox ∧ (State.blockVerdict s b).1.diag = s.diag ∧
    (State.blockVerdict s b).1.pending = s.pending := by
  unfold State.blockVerdict; dsimp only; (repeat' split) <;> simp [State.allocateAll_frame _ _,
        State.verifyEntries_frame _ _ _]

theorem State.fusesBlown_frame (s : State) (oks : List Bool) :
    (State.fusesBlown s oks).unit = s.unit ∧ (State.fusesBlown s oks).opUs = s.opUs ∧
    (State.fusesBlown s oks).savedOpUs = s.savedOpUs ∧ (State.fusesBlown s oks).powerCycle = s.powerCycle ∧
    (State.fusesBlown s oks).epoch = s.epoch ∧ (State.fusesBlown s oks).power = s.power ∧
    (State.fusesBlown s oks).rt = s.rt ∧ (State.fusesBlown s oks).sec = s.sec ∧
    (State.fusesBlown s oks).station = s.station ∧ (State.fusesBlown s oks).bench = s.bench ∧
    (State.fusesBlown s oks).eng = s.eng ∧ (State.fusesBlown s oks).vote = s.vote ∧
    (State.fusesBlown s oks).field = s.field ∧ (State.fusesBlown s oks).can = s.can ∧
    (State.fusesBlown s oks).net = s.net ∧ (State.fusesBlown s oks).hi = s.hi ∧
    (State.fusesBlown s oks).xings = s.xings ∧ (State.fusesBlown s oks).mg = s.mg ∧
    (State.fusesBlown s oks).log = s.log ∧ (State.fusesBlown s oks).update = s.update ∧
    (State.fusesBlown s oks).draws = s.draws ∧ (State.fusesBlown s oks).outbox = s.outbox ∧
    (State.fusesBlown s oks).diag = s.diag ∧ (State.fusesBlown s oks).pending = s.pending := by
  simp [State.fusesBlown, State.event_frame _ _ _ _ _ _ _ _, State.nextStep_frame _ _, State.settleFuses_frame _ _]

theorem State.blockDone_frame (s : State) (b : BlockResult) :
    (State.blockDone s b).unit = s.unit ∧ (State.blockDone s b).opUs = s.opUs ∧
    (State.blockDone s b).savedOpUs = s.savedOpUs ∧ (State.blockDone s b).powerCycle = s.powerCycle ∧
    (State.blockDone s b).epoch = s.epoch ∧ (State.blockDone s b).power = s.power ∧ (State.blockDone s b).rt = s.rt ∧
    (State.blockDone s b).sec = s.sec ∧ (State.blockDone s b).station = s.station ∧
    (State.blockDone s b).bench = s.bench ∧ (State.blockDone s b).eng = s.eng ∧ (State.blockDone s b).field = s.field
    ∧ (State.blockDone s b).can = s.can ∧ (State.blockDone s b).net = s.net ∧ (State.blockDone s b).xings = s.xings ∧
    (State.blockDone s b).mg = s.mg ∧ (State.blockDone s b).log = s.log ∧ (State.blockDone s b).update = s.update ∧
    (State.blockDone s b).draws = s.draws ∧ (State.blockDone s b).diag = s.diag ∧
    (State.blockDone s b).pending = s.pending := by
  unfold State.blockDone; dsimp only; (repeat' split) <;> simp [State.blockVerdict_frame _ _,
        State.afterBlock_frame _ _, State.noteVerdict_frame _ _ _ _, State.fusesBlown_frame _ _]

theorem State.blockTimeout_frame (s : State) (block : ℕ) (ashlarCount : ℕ) :
    (State.blockTimeout s block ashlarCount).unit = s.unit ∧ (State.blockTimeout s block ashlarCount).opUs = s.opUs ∧
    (State.blockTimeout s block ashlarCount).savedOpUs = s.savedOpUs ∧
    (State.blockTimeout s block ashlarCount).powerCycle = s.powerCycle ∧
    (State.blockTimeout s block ashlarCount).epoch = s.epoch ∧
    (State.blockTimeout s block ashlarCount).power = s.power ∧ (State.blockTimeout s block ashlarCount).rt = s.rt ∧
    (State.blockTimeout s block ashlarCount).sec = s.sec ∧
    (State.blockTimeout s block ashlarCount).station = s.station ∧
    (State.blockTimeout s block ashlarCount).bench = s.bench ∧ (State.blockTimeout s block ashlarCount).eng = s.eng ∧
    (State.blockTimeout s block ashlarCount).field = s.field ∧ (State.blockTimeout s block ashlarCount).can = s.can ∧
    (State.blockTimeout s block ashlarCount).net = s.net ∧ (State.blockTimeout s block ashlarCount).xings = s.xings ∧
    (State.blockTimeout s block ashlarCount).mg = s.mg ∧ (State.blockTimeout s block ashlarCount).log = s.log ∧
    (State.blockTimeout s block ashlarCount).update = s.update ∧
    (State.blockTimeout s block ashlarCount).draws = s.draws ∧ (State.blockTimeout s block ashlarCount).diag = s.diag
    ∧ (State.blockTimeout s block ashlarCount).pending = s.pending := by
  simp [State.blockTimeout, State.afterBlock_frame _ _, State.noteVerdict_frame _ _ _ _]

theorem State.shutdownHot_frame (s : State) :
    (State.shutdownHot s).unit = s.unit ∧ (State.shutdownHot s).opUs = s.opUs ∧
    (State.shutdownHot s).savedOpUs = s.savedOpUs ∧ (State.shutdownHot s).powerCycle = s.powerCycle ∧
    (State.shutdownHot s).epoch = s.epoch ∧ (State.shutdownHot s).power = s.power ∧ (State.shutdownHot s).rt = s.rt ∧
    (State.shutdownHot s).sec = s.sec ∧ (State.shutdownHot s).station = s.station ∧
    (State.shutdownHot s).bench = s.bench ∧ (State.shutdownHot s).eng = s.eng ∧ (State.shutdownHot s).vote = s.vote ∧
    (State.shutdownHot s).field = s.field ∧ (State.shutdownHot s).can = s.can ∧ (State.shutdownHot s).net = s.net ∧
    (State.shutdownHot s).hi = s.hi ∧ (State.shutdownHot s).xings = s.xings ∧ (State.shutdownHot s).mg = s.mg ∧
    (State.shutdownHot s).log = s.log ∧ (State.shutdownHot s).update = s.update ∧
    (State.shutdownHot s).outbox = s.outbox ∧ (State.shutdownHot s).diag = s.diag ∧
    (State.shutdownHot s).pending = s.pending := by
  simp [State.shutdownHot, State.nextStep_frame _ _, State.noteVerdict_frame _ _ _ _]

theorem State.endLockout_frame (s : State) (l : List (ℕ × Verdict)) :
    (State.endLockout s l).unit = s.unit ∧ (State.endLockout s l).opUs = s.opUs ∧
    (State.endLockout s l).savedOpUs = s.savedOpUs ∧ (State.endLockout s l).powerCycle = s.powerCycle ∧
    (State.endLockout s l).epoch = s.epoch ∧ (State.endLockout s l).rt = s.rt ∧ (State.endLockout s l).sec = s.sec ∧
    (State.endLockout s l).station = s.station ∧ (State.endLockout s l).bench = s.bench ∧
    (State.endLockout s l).eng = s.eng ∧ (State.endLockout s l).vote = s.vote ∧ (State.endLockout s l).ash = s.ash ∧
    (State.endLockout s l).field = s.field ∧ (State.endLockout s l).can = s.can ∧ (State.endLockout s l).net = s.net ∧
    (State.endLockout s l).hi = s.hi ∧ (State.endLockout s l).xings = s.xings ∧ (State.endLockout s l).mg = s.mg ∧
    (State.endLockout s l).log = s.log ∧ (State.endLockout s l).test = s.test ∧
    (State.endLockout s l).update = s.update ∧ (State.endLockout s l).draws = s.draws ∧
    (State.endLockout s l).outbox = s.outbox ∧ (State.endLockout s l).diag = s.diag ∧
    (State.endLockout s l).pending = s.pending := by
  simp [State.endLockout, State.event_frame _ _ _ _ _ _ _ _]

theorem State.completeShutdown_frame (s : State) (r : ShutdownRecord) :
    (State.completeShutdown s r).unit = s.unit ∧ (State.completeShutdown s r).opUs = s.opUs ∧
    (State.completeShutdown s r).savedOpUs = s.savedOpUs ∧ (State.completeShutdown s r).powerCycle = s.powerCycle ∧
    (State.completeShutdown s r).epoch = s.epoch ∧ (State.completeShutdown s r).power = s.power ∧
    (State.completeShutdown s r).rt = s.rt ∧ (State.completeShutdown s r).sec = s.sec ∧
    (State.completeShutdown s r).station = s.station ∧ (State.completeShutdown s r).bench = s.bench ∧
    (State.completeShutdown s r).vote = s.vote ∧ (State.completeShutdown s r).ash = s.ash ∧
    (State.completeShutdown s r).field = s.field ∧ (State.completeShutdown s r).can = s.can ∧
    (State.completeShutdown s r).net = s.net ∧ (State.completeShutdown s r).xings = s.xings ∧
    (State.completeShutdown s r).recorder = s.recorder ∧ (State.completeShutdown s r).log = s.log ∧
    (State.completeShutdown s r).test = s.test ∧ (State.completeShutdown s r).update = s.update ∧
    (State.completeShutdown s r).draws = s.draws ∧ (State.completeShutdown s r).diag = s.diag ∧
    (State.completeShutdown s r).pending = s.pending := by
  unfold State.completeShutdown
  refine ⟨(State.foldl_unit _ (fun s w => ?_) _ _), (State.foldl_opUs _ (fun s w => ?_) _ _), (State.foldl_savedOpUs _ (fun s w => ?_) _ _), (State.foldl_powerCycle _ (fun s w => ?_) _ _), (State.foldl_epoch _ (fun s w => ?_) _ _), (State.foldl_power _ (fun s w => ?_) _ _), (State.foldl_rt _ (fun s w => ?_) _ _), (State.foldl_sec _ (fun s w => ?_) _ _), (State.foldl_station _ (fun s w => ?_) _ _), (State.foldl_bench _ (fun s w => ?_) _ _), (State.foldl_vote _ (fun s w => ?_) _ _), (State.foldl_ash _ (fun s w => ?_) _ _), (State.foldl_field _ (fun s w => ?_) _ _), (State.foldl_can _ (fun s w => ?_) _ _), (State.foldl_net _ (fun s w => ?_) _ _), (State.foldl_xings _ (fun s w => ?_) _ _), (State.foldl_recorder _ (fun s w => ?_) _ _), (State.foldl_log _ (fun s w => ?_) _ _), (State.foldl_test _ (fun s w => ?_) _ _), (State.foldl_update _ (fun s w => ?_) _ _), (State.foldl_draws _ (fun s w => ?_) _ _), (State.foldl_diag _ (fun s w => ?_) _ _), (State.foldl_pending _ (fun s w => ?_) _ _)⟩ <;> (cases w <;> simp [State.deliver_frame _ _])

theorem State.shutdownDone_frame (s : State) :
    (State.shutdownDone s).unit = s.unit ∧ (State.shutdownDone s).opUs = s.opUs ∧
    (State.shutdownDone s).powerCycle = s.powerCycle ∧ (State.shutdownDone s).epoch = s.epoch ∧
    (State.shutdownDone s).sec = s.sec ∧ (State.shutdownDone s).station = s.station ∧
    (State.shutdownDone s).bench = s.bench ∧ (State.shutdownDone s).ash = s.ash ∧
    (State.shutdownDone s).field = s.field ∧ (State.shutdownDone s).can = s.can ∧ (State.shutdownDone s).net = s.net ∧
    (State.shutdownDone s).xings = s.xings ∧ (State.shutdownDone s).log = s.log ∧
    (State.shutdownDone s).update = s.update ∧ (State.shutdownDone s).draws = s.draws ∧
    (State.shutdownDone s).diag = s.diag ∧ (State.shutdownDone s).pending = s.pending := by
  simp only [State.shutdownDone]; (repeat' split) <;> simp [State.completeShutdown_frame _ _, State.thaw_frame _,
    State.endLockout_frame _ _, State.event_frame _ _ _ _ _ _ _ _]

end Sys2Proof.Machine
end

