-- ==== Sys2Proof/Laws/UpdateOps.lean ====
section
/-! SUPPORT. What the operations of Machine/UpdateOps.lean leave alone: one lemma for each, naming every part of the state that
it does not write. -/

namespace Sys2Proof.Machine

open Sys2Proof

theorem State.modTarget_frame (s : State) (t : ℕ) (f : UpdateTarget → UpdateTarget) :
    (State.modTarget s t f).unit = s.unit ∧ (State.modTarget s t f).opUs = s.opUs ∧
    (State.modTarget s t f).savedOpUs = s.savedOpUs ∧ (State.modTarget s t f).powerCycle = s.powerCycle ∧
    (State.modTarget s t f).epoch = s.epoch ∧ (State.modTarget s t f).power = s.power ∧
    (State.modTarget s t f).rt = s.rt ∧ (State.modTarget s t f).sec = s.sec ∧
    (State.modTarget s t f).station = s.station ∧ (State.modTarget s t f).bench = s.bench ∧
    (State.modTarget s t f).eng = s.eng ∧ (State.modTarget s t f).vote = s.vote ∧ (State.modTarget s t f).ash = s.ash
    ∧ (State.modTarget s t f).field = s.field ∧ (State.modTarget s t f).can = s.can ∧
    (State.modTarget s t f).net = s.net ∧ (State.modTarget s t f).hi = s.hi ∧ (State.modTarget s t f).xings = s.xings
    ∧ (State.modTarget s t f).mg = s.mg ∧ (State.modTarget s t f).recorder = s.recorder ∧
    (State.modTarget s t f).log = s.log ∧ (State.modTarget s t f).test = s.test ∧
    (State.modTarget s t f).draws = s.draws ∧ (State.modTarget s t f).outbox = s.outbox ∧
    (State.modTarget s t f).diag = s.diag ∧ (State.modTarget s t f).pending = s.pending := by
  simp [State.modTarget]

theorem State.lastReason_frame (s : State) (t : ℕ) (reason : ℕ) :
    (State.lastReason s t reason).unit = s.unit ∧ (State.lastReason s t reason).opUs = s.opUs ∧ (State.lastReason s t
    reason).savedOpUs = s.savedOpUs ∧ (State.lastReason s t reason).powerCycle = s.powerCycle ∧ (State.lastReason s t
    reason).epoch = s.epoch ∧ (State.lastReason s t reason).power = s.power ∧ (State.lastReason s t reason).rt = s.rt
    ∧ (State.lastReason s t reason).sec = s.sec ∧ (State.lastReason s t reason).station = s.station ∧
    (State.lastReason s t reason).bench = s.bench ∧ (State.lastReason s t reason).eng = s.eng ∧ (State.lastReason s t
    reason).vote = s.vote ∧ (State.lastReason s t reason).ash = s.ash ∧ (State.lastReason s t reason).field = s.field
    ∧ (State.lastReason s t reason).can = s.can ∧ (State.lastReason s t reason).net = s.net ∧ (State.lastReason s t
    reason).hi = s.hi ∧ (State.lastReason s t reason).xings = s.xings ∧ (State.lastReason s t reason).mg = s.mg ∧
    (State.lastReason s t reason).recorder = s.recorder ∧ (State.lastReason s t reason).log = s.log ∧
    (State.lastReason s t reason).test = s.test ∧ (State.lastReason s t reason).draws = s.draws ∧ (State.lastReason s
    t reason).diag = s.diag ∧ (State.lastReason s t reason).outbox = s.outbox ∧ (State.lastReason s t reason).pending
    = s.pending := by
  simp [State.lastReason, State.modTarget_frame _ _ _]

theorem State.setStage_frame (s : State) (t : ℕ) (stage : ℕ) :
    (State.setStage s t stage).unit = s.unit ∧ (State.setStage s t stage).opUs = s.opUs ∧
    (State.setStage s t stage).savedOpUs = s.savedOpUs ∧ (State.setStage s t stage).powerCycle = s.powerCycle ∧
    (State.setStage s t stage).epoch = s.epoch ∧ (State.setStage s t stage).power = s.power ∧
    (State.setStage s t stage).rt = s.rt ∧ (State.setStage s t stage).sec = s.sec ∧
    (State.setStage s t stage).station = s.station ∧ (State.setStage s t stage).bench = s.bench ∧
    (State.setStage s t stage).eng = s.eng ∧ (State.setStage s t stage).vote = s.vote ∧
    (State.setStage s t stage).ash = s.ash ∧ (State.setStage s t stage).field = s.field ∧
    (State.setStage s t stage).can = s.can ∧ (State.setStage s t stage).net = s.net ∧
    (State.setStage s t stage).xings = s.xings ∧ (State.setStage s t stage).mg = s.mg ∧
    (State.setStage s t stage).recorder = s.recorder ∧ (State.setStage s t stage).log = s.log ∧
    (State.setStage s t stage).test = s.test ∧ (State.setStage s t stage).draws = s.draws ∧
    (State.setStage s t stage).diag = s.diag ∧ (State.setStage s t stage).pending = s.pending := by
  simp [State.setStage, State.note_frame _ _ _, State.modTarget_frame _ _ _]

theorem State.decideUpdateBegin_frame (s : State) (q : Req) :
    (State.decideUpdateBegin s q).unit = s.unit ∧ (State.decideUpdateBegin s q).opUs = s.opUs ∧
    (State.decideUpdateBegin s q).savedOpUs = s.savedOpUs ∧ (State.decideUpdateBegin s q).powerCycle = s.powerCycle ∧
    (State.decideUpdateBegin s q).epoch = s.epoch ∧ (State.decideUpdateBegin s q).power = s.power ∧
    (State.decideUpdateBegin s q).rt = s.rt ∧ (State.decideUpdateBegin s q).sec = s.sec ∧
    (State.decideUpdateBegin s q).station = s.station ∧ (State.decideUpdateBegin s q).bench = s.bench ∧
    (State.decideUpdateBegin s q).eng = s.eng ∧ (State.decideUpdateBegin s q).vote = s.vote ∧
    (State.decideUpdateBegin s q).ash = s.ash ∧ (State.decideUpdateBegin s q).field = s.field ∧
    (State.decideUpdateBegin s q).can = s.can ∧ (State.decideUpdateBegin s q).net = s.net ∧
    (State.decideUpdateBegin s q).xings = s.xings ∧ (State.decideUpdateBegin s q).log = s.log ∧
    (State.decideUpdateBegin s q).test = s.test ∧ (State.decideUpdateBegin s q).draws = s.draws ∧
    (State.decideUpdateBegin s q).diag = s.diag ∧ (State.decideUpdateBegin s q).pending = s.pending := by
  simp only [State.decideUpdateBegin, State.mgCommand]; (repeat' split) <;> simp [State.answer_frame _ _ _ _ _ _ _,
        State.heard_frame _ _, State.event_frame _ _ _ _ _ _ _ _, State.setStage_frame _ _ _,
        State.modTarget_frame _ _ _]

theorem State.downloaded_frame (s : State) (t : ℕ) :
    (State.downloaded s t).unit = s.unit ∧ (State.downloaded s t).opUs = s.opUs ∧
    (State.downloaded s t).savedOpUs = s.savedOpUs ∧ (State.downloaded s t).powerCycle = s.powerCycle ∧
    (State.downloaded s t).epoch = s.epoch ∧ (State.downloaded s t).power = s.power ∧ (State.downloaded s t).rt = s.rt
    ∧ (State.downloaded s t).sec = s.sec ∧ (State.downloaded s t).station = s.station ∧
    (State.downloaded s t).bench = s.bench ∧ (State.downloaded s t).eng = s.eng ∧ (State.downloaded s t).vote = s.vote
    ∧ (State.downloaded s t).ash = s.ash ∧ (State.downloaded s t).field = s.field ∧ (State.downloaded s t).can = s.can
    ∧ (State.downloaded s t).net = s.net ∧ (State.downloaded s t).xings = s.xings ∧ (State.downloaded s t).mg = s.mg ∧
    (State.downloaded s t).log = s.log ∧ (State.downloaded s t).test = s.test ∧ (State.downloaded s t).draws = s.draws
    ∧ (State.downloaded s t).diag = s.diag ∧ (State.downloaded s t).pending = s.pending := by
  simp [State.downloaded, State.event_frame _ _ _ _ _ _ _ _, State.setStage_frame _ _ _, State.modTarget_frame _ _ _]

theorem State.decideUpdateData_frame (s : State) (q : Req) :
    (State.decideUpdateData s q).unit = s.unit ∧ (State.decideUpdateData s q).opUs = s.opUs ∧
    (State.decideUpdateData s q).savedOpUs = s.savedOpUs ∧ (State.decideUpdateData s q).powerCycle = s.powerCycle ∧
    (State.decideUpdateData s q).epoch = s.epoch ∧ (State.decideUpdateData s q).power = s.power ∧
    (State.decideUpdateData s q).rt = s.rt ∧ (State.decideUpdateData s q).sec = s.sec ∧
    (State.decideUpdateData s q).station = s.station ∧ (State.decideUpdateData s q).bench = s.bench ∧
    (State.decideUpdateData s q).eng = s.eng ∧ (State.decideUpdateData s q).vote = s.vote ∧
    (State.decideUpdateData s q).ash = s.ash ∧ (State.decideUpdateData s q).field = s.field ∧
    (State.decideUpdateData s q).can = s.can ∧ (State.decideUpdateData s q).net = s.net ∧
    (State.decideUpdateData s q).xings = s.xings ∧ (State.decideUpdateData s q).log = s.log ∧
    (State.decideUpdateData s q).test = s.test ∧ (State.decideUpdateData s q).draws = s.draws ∧
    (State.decideUpdateData s q).diag = s.diag ∧ (State.decideUpdateData s q).pending = s.pending := by
  simp only [State.decideUpdateData, State.mgCommand]; (repeat' split) <;> simp [State.answer_frame _ _ _ _ _ _ _,
        State.heard_frame _ _, State.lastReason_frame _ _ _, State.modTarget_frame _ _ _, State.event_frame _ _ _ _ _ _ _ _,
        State.downloaded_frame _ _]

theorem State.verifyImage_frame (s : State) (t : ℕ) :
    (State.verifyImage s t).unit = s.unit ∧ (State.verifyImage s t).opUs = s.opUs ∧
    (State.verifyImage s t).savedOpUs = s.savedOpUs ∧ (State.verifyImage s t).powerCycle = s.powerCycle ∧
    (State.verifyImage s t).epoch = s.epoch ∧ (State.verifyImage s t).power = s.power ∧
    (State.verifyImage s t).rt = s.rt ∧ (State.verifyImage s t).sec = s.sec ∧
    (State.verifyImage s t).station = s.station ∧ (State.verifyImage s t).bench = s.bench ∧
    (State.verifyImage s t).eng = s.eng ∧ (State.verifyImage s t).vote = s.vote ∧ (State.verifyImage s t).ash = s.ash
    ∧ (State.verifyImage s t).field = s.field ∧ (State.verifyImage s t).can = s.can ∧
    (State.verifyImage s t).net = s.net ∧ (State.verifyImage s t).xings = s.xings ∧ (State.verifyImage s t).mg = s.mg
    ∧ (State.verifyImage s t).recorder = s.recorder ∧ (State.verifyImage s t).log = s.log ∧
    (State.verifyImage s t).test = s.test ∧ (State.verifyImage s t).draws = s.draws ∧
    (State.verifyImage s t).diag = s.diag ∧ (State.verifyImage s t).pending = s.pending := by
  unfold State.verifyImage; (repeat' split) <;> simp [State.setStage_frame _ _ _, State.lastReason_frame _ _ _]

theorem State.decideUpdateVerify_frame (s : State) (q : Req) :
    (State.decideUpdateVerify s q).unit = s.unit ∧ (State.decideUpdateVerify s q).opUs = s.opUs ∧
    (State.decideUpdateVerify s q).savedOpUs = s.savedOpUs ∧ (State.decideUpdateVerify s q).powerCycle = s.powerCycle
    ∧ (State.decideUpdateVerify s q).epoch = s.epoch ∧ (State.decideUpdateVerify s q).power = s.power ∧
    (State.decideUpdateVerify s q).rt = s.rt ∧ (State.decideUpdateVerify s q).sec = s.sec ∧
    (State.decideUpdateVerify s q).station = s.station ∧ (State.decideUpdateVerify s q).bench = s.bench ∧
    (State.decideUpdateVerify s q).eng = s.eng ∧ (State.decideUpdateVerify s q).vote = s.vote ∧
    (State.decideUpdateVerify s q).ash = s.ash ∧ (State.decideUpdateVerify s q).field = s.field ∧
    (State.decideUpdateVerify s q).can = s.can ∧ (State.decideUpdateVerify s q).net = s.net ∧
    (State.decideUpdateVerify s q).xings = s.xings ∧ (State.decideUpdateVerify s q).log = s.log ∧
    (State.decideUpdateVerify s q).test = s.test ∧ (State.decideUpdateVerify s q).draws = s.draws ∧
    (State.decideUpdateVerify s q).diag = s.diag ∧ (State.decideUpdateVerify s q).pending = s.pending := by
  simp only [State.decideUpdateVerify, State.mgCommand]; (repeat' split) <;> simp [State.answer_frame _ _ _ _ _ _ _,
        State.heard_frame _ _, State.event_frame _ _ _ _ _ _ _ _, State.verifyImage_frame _ _]

theorem State.activateFirmware_frame (s : State) (q : Req) :
    (State.activateFirmware s q).unit = s.unit ∧ (State.activateFirmware s q).opUs = s.opUs ∧
    (State.activateFirmware s q).savedOpUs = s.savedOpUs ∧ (State.activateFirmware s q).powerCycle = s.powerCycle ∧
    (State.activateFirmware s q).epoch = s.epoch ∧ (State.activateFirmware s q).power = s.power ∧
    (State.activateFirmware s q).rt = s.rt ∧ (State.activateFirmware s q).sec = s.sec ∧
    (State.activateFirmware s q).station = s.station ∧ (State.activateFirmware s q).eng = s.eng ∧
    (State.activateFirmware s q).vote = s.vote ∧ (State.activateFirmware s q).ash = s.ash ∧
    (State.activateFirmware s q).field = s.field ∧ (State.activateFirmware s q).can = s.can ∧
    (State.activateFirmware s q).net = s.net ∧ (State.activateFirmware s q).xings = s.xings ∧
    (State.activateFirmware s q).test = s.test ∧ (State.activateFirmware s q).draws = s.draws ∧
    (State.activateFirmware s q).diag = s.diag ∧ (State.activateFirmware s q).pending = s.pending := by
  simp [State.activateFirmware, State.event_frame _ _ _ _ _ _ _ _, State.setStage_frame _ _ _,
        State.modTarget_frame _ _ _, State.logChange_frame _ _, State.complete_frame _ _ _ _ _ _ _]

theorem State.decideUpdateActivate_frame (s : State) (q : Req) :
    (State.decideUpdateActivate s q).unit = s.unit ∧ (State.decideUpdateActivate s q).opUs = s.opUs ∧
    (State.decideUpdateActivate s q).savedOpUs = s.savedOpUs ∧
    (State.decideUpdateActivate s q).powerCycle = s.powerCycle ∧ (State.decideUpdateActivate s q).epoch = s.epoch ∧
    (State.decideUpdateActivate s q).power = s.power ∧ (State.decideUpdateActivate s q).rt = s.rt ∧
    (State.decideUpdateActivate s q).sec = s.sec ∧ (State.decideUpdateActivate s q).station = s.station ∧
    (State.decideUpdateActivate s q).vote = s.vote ∧ (State.decideUpdateActivate s q).ash = s.ash ∧
    (State.decideUpdateActivate s q).field = s.field ∧ (State.decideUpdateActivate s q).can = s.can ∧
    (State.decideUpdateActivate s q).net = s.net ∧ (State.decideUpdateActivate s q).xings = s.xings ∧
    (State.decideUpdateActivate s q).test = s.test ∧ (State.decideUpdateActivate s q).draws = s.draws ∧
    (State.decideUpdateActivate s q).diag = s.diag ∧ (State.decideUpdateActivate s q).pending = s.pending := by
  simp only [State.decideUpdateActivate,
        State.clCommand]; (repeat' split) <;> simp [State.complete_frame _ _ _ _ _ _ _, State.heard_frame _ _, State.lastReason_frame _ _ _,
        State.logFull_frame _ _ _, State.activateFirmware_frame _ _]

theorem State.decideUpdateConfirm_frame (s : State) (q : Req) :
    (State.decideUpdateConfirm s q).unit = s.unit ∧ (State.decideUpdateConfirm s q).opUs = s.opUs ∧
    (State.decideUpdateConfirm s q).savedOpUs = s.savedOpUs ∧
    (State.decideUpdateConfirm s q).powerCycle = s.powerCycle ∧ (State.decideUpdateConfirm s q).epoch = s.epoch ∧
    (State.decideUpdateConfirm s q).power = s.power ∧ (State.decideUpdateConfirm s q).rt = s.rt ∧
    (State.decideUpdateConfirm s q).sec = s.sec ∧ (State.decideUpdateConfirm s q).station = s.station ∧
    (State.decideUpdateConfirm s q).bench = s.bench ∧ (State.decideUpdateConfirm s q).eng = s.eng ∧
    (State.decideUpdateConfirm s q).vote = s.vote ∧ (State.decideUpdateConfirm s q).ash = s.ash ∧
    (State.decideUpdateConfirm s q).field = s.field ∧ (State.decideUpdateConfirm s q).can = s.can ∧
    (State.decideUpdateConfirm s q).net = s.net ∧ (State.decideUpdateConfirm s q).xings = s.xings ∧
    (State.decideUpdateConfirm s q).log = s.log ∧ (State.decideUpdateConfirm s q).test = s.test ∧
    (State.decideUpdateConfirm s q).draws = s.draws ∧ (State.decideUpdateConfirm s q).diag = s.diag ∧
    (State.decideUpdateConfirm s q).pending = s.pending := by
  simp only [State.decideUpdateConfirm, State.mgCommand]; (repeat' split) <;> simp [State.answer_frame _ _ _ _ _ _ _,
        State.heard_frame _ _, State.lastReason_frame _ _ _, State.event_frame _ _ _ _ _ _ _ _, State.setStage_frame _ _ _,
        State.modTarget_frame _ _ _]

theorem State.decideUpdateStatus_frame (s : State) (q : Req) :
    (State.decideUpdateStatus s q).unit = s.unit ∧ (State.decideUpdateStatus s q).opUs = s.opUs ∧
    (State.decideUpdateStatus s q).savedOpUs = s.savedOpUs ∧ (State.decideUpdateStatus s q).powerCycle = s.powerCycle
    ∧ (State.decideUpdateStatus s q).epoch = s.epoch ∧ (State.decideUpdateStatus s q).power = s.power ∧
    (State.decideUpdateStatus s q).rt = s.rt ∧ (State.decideUpdateStatus s q).sec = s.sec ∧
    (State.decideUpdateStatus s q).station = s.station ∧ (State.decideUpdateStatus s q).bench = s.bench ∧
    (State.decideUpdateStatus s q).eng = s.eng ∧ (State.decideUpdateStatus s q).vote = s.vote ∧
    (State.decideUpdateStatus s q).ash = s.ash ∧ (State.decideUpdateStatus s q).field = s.field ∧
    (State.decideUpdateStatus s q).can = s.can ∧ (State.decideUpdateStatus s q).net = s.net ∧
    (State.decideUpdateStatus s q).xings = s.xings ∧ (State.decideUpdateStatus s q).recorder = s.recorder ∧
    (State.decideUpdateStatus s q).log = s.log ∧ (State.decideUpdateStatus s q).test = s.test ∧
    (State.decideUpdateStatus s q).update = s.update ∧ (State.decideUpdateStatus s q).draws = s.draws ∧
    (State.decideUpdateStatus s q).diag = s.diag ∧ (State.decideUpdateStatus s q).pending = s.pending := by
  simp only [State.decideUpdateStatus, State.mgCommand]; (repeat' split) <;> simp [State.answer_frame _ _ _ _ _ _ _,
        State.heard_frame _ _]

theorem State.decideUpdateAbort_frame (s : State) (q : Req) :
    (State.decideUpdateAbort s q).unit = s.unit ∧ (State.decideUpdateAbort s q).opUs = s.opUs ∧
    (State.decideUpdateAbort s q).savedOpUs = s.savedOpUs ∧ (State.decideUpdateAbort s q).powerCycle = s.powerCycle ∧
    (State.decideUpdateAbort s q).epoch = s.epoch ∧ (State.decideUpdateAbort s q).power = s.power ∧
    (State.decideUpdateAbort s q).rt = s.rt ∧ (State.decideUpdateAbort s q).sec = s.sec ∧
    (State.decideUpdateAbort s q).station = s.station ∧ (State.decideUpdateAbort s q).bench = s.bench ∧
    (State.decideUpdateAbort s q).eng = s.eng ∧ (State.decideUpdateAbort s q).vote = s.vote ∧
    (State.decideUpdateAbort s q).ash = s.ash ∧ (State.decideUpdateAbort s q).field = s.field ∧
    (State.decideUpdateAbort s q).can = s.can ∧ (State.decideUpdateAbort s q).net = s.net ∧
    (State.decideUpdateAbort s q).xings = s.xings ∧ (State.decideUpdateAbort s q).recorder = s.recorder ∧
    (State.decideUpdateAbort s q).log = s.log ∧ (State.decideUpdateAbort s q).test = s.test ∧
    (State.decideUpdateAbort s q).draws = s.draws ∧ (State.decideUpdateAbort s q).diag = s.diag ∧
    (State.decideUpdateAbort s q).pending = s.pending := by
  simp only [State.decideUpdateAbort, State.mgCommand]; (repeat' split) <;> simp [State.answer_frame _ _ _ _ _ _ _,
        State.heard_frame _ _, State.setStage_frame _ _ _, State.modTarget_frame _ _ _]

theorem State.configurePorts_frame (s : State) (st : Station) :
    (State.configurePorts s st).unit = s.unit ∧ (State.configurePorts s st).opUs = s.opUs ∧
    (State.configurePorts s st).savedOpUs = s.savedOpUs ∧ (State.configurePorts s st).powerCycle = s.powerCycle ∧
    (State.configurePorts s st).epoch = s.epoch ∧ (State.configurePorts s st).power = s.power ∧
    (State.configurePorts s st).rt = s.rt ∧ (State.configurePorts s st).sec = s.sec ∧
    (State.configurePorts s st).station = s.station ∧ (State.configurePorts s st).bench = s.bench ∧
    (State.configurePorts s st).eng = s.eng ∧ (State.configurePorts s st).vote = s.vote ∧
    (State.configurePorts s st).ash = s.ash ∧ (State.configurePorts s st).field = s.field ∧
    (State.configurePorts s st).net = s.net ∧ (State.configurePorts s st).hi = s.hi ∧
    (State.configurePorts s st).xings = s.xings ∧ (State.configurePorts s st).mg = s.mg ∧
    (State.configurePorts s st).log = s.log ∧ (State.configurePorts s st).test = s.test ∧
    (State.configurePorts s st).update = s.update ∧ (State.configurePorts s st).draws = s.draws ∧
    (State.configurePorts s st).outbox = s.outbox ∧ (State.configurePorts s st).diag = s.diag ∧
    (State.configurePorts s st).pending = s.pending := by
  simp [State.configurePorts, State.event_frame _ _ _ _ _ _ _ _, State.modPort_frame _ _ _]

theorem State.install_frame (s : State) (st : Station) :
    (State.install s st).unit = s.unit ∧ (State.install s st).opUs = s.opUs ∧
    (State.install s st).savedOpUs = s.savedOpUs ∧ (State.install s st).powerCycle = s.powerCycle ∧
    (State.install s st).epoch = s.epoch ∧ (State.install s st).power = s.power ∧ (State.install s st).rt = s.rt ∧
    (State.install s st).sec = s.sec ∧ (State.install s st).bench = s.bench ∧ (State.install s st).vote = s.vote ∧
    (State.install s st).ash = s.ash ∧ (State.install s st).hi = s.hi ∧ (State.install s st).xings = s.xings ∧
    (State.install s st).mg = s.mg ∧ (State.install s st).log = s.log ∧ (State.install s st).test = s.test ∧
    (State.install s st).update = s.update ∧ (State.install s st).draws = s.draws ∧
    (State.install s st).outbox = s.outbox ∧ (State.install s st).diag = s.diag ∧
    (State.install s st).pending = s.pending := by
  simp [State.install, State.configurePorts_frame _ _]

theorem State.discardConstants_frame (s : State) (q : Req) (st : Station) :
    (State.discardConstants s q st).unit = s.unit ∧ (State.discardConstants s q st).opUs = s.opUs ∧
    (State.discardConstants s q st).savedOpUs = s.savedOpUs ∧
    (State.discardConstants s q st).powerCycle = s.powerCycle ∧ (State.discardConstants s q st).epoch = s.epoch ∧
    (State.discardConstants s q st).power = s.power ∧ (State.discardConstants s q st).rt = s.rt ∧
    (State.discardConstants s q st).sec = s.sec ∧ (State.discardConstants s q st).station = s.station ∧
    (State.discardConstants s q st).eng = s.eng ∧ (State.discardConstants s q st).vote = s.vote ∧
    (State.discardConstants s q st).ash = s.ash ∧ (State.discardConstants s q st).field = s.field ∧
    (State.discardConstants s q st).can = s.can ∧ (State.discardConstants s q st).net = s.net ∧
    (State.discardConstants s q st).hi = s.hi ∧ (State.discardConstants s q st).xings = s.xings ∧
    (State.discardConstants s q st).mg = s.mg ∧ (State.discardConstants s q st).test = s.test ∧
    (State.discardConstants s q st).update = s.update ∧ (State.discardConstants s q st).draws = s.draws ∧
    (State.discardConstants s q st).outbox = s.outbox ∧ (State.discardConstants s q st).diag = s.diag ∧
    (State.discardConstants s q st).pending = s.pending := by
  simp [State.discardConstants, State.logChange_frame _ _]

theorem State.activateData_frame (s : State) (q : Req) (st : Station) :
    (State.activateData s q st).unit = s.unit ∧ (State.activateData s q st).opUs = s.opUs ∧
    (State.activateData s q st).savedOpUs = s.savedOpUs ∧ (State.activateData s q st).powerCycle = s.powerCycle ∧
    (State.activateData s q st).epoch = s.epoch ∧ (State.activateData s q st).power = s.power ∧
    (State.activateData s q st).rt = s.rt ∧ (State.activateData s q st).sec = s.sec ∧
    (State.activateData s q st).vote = s.vote ∧ (State.activateData s q st).mg = s.mg ∧
    (State.activateData s q st).test = s.test ∧ (State.activateData s q st).draws = s.draws ∧
    (State.activateData s q st).diag = s.diag ∧ (State.activateData s q st).pending = s.pending := by
  simp [State.activateData, State.event_frame _ _ _ _ _ _ _ _, State.setStage_frame _ _ _, State.logChange_frame _ _,
        State.modTarget_frame _ _ _, State.install_frame _ _, State.discardConstants_frame _ _ _,
        State.clearForces_frame _ _, State.resetAshlar_frame _]

theorem State.refuseActivation_frame (s : State) (q : Req) (reason : ℕ) (param : ℕ) :
    (State.refuseActivation s q reason param).unit = s.unit ∧ (State.refuseActivation s q reason param).opUs = s.opUs
    ∧ (State.refuseActivation s q reason param).savedOpUs = s.savedOpUs ∧
    (State.refuseActivation s q reason param).powerCycle = s.powerCycle ∧
    (State.refuseActivation s q reason param).epoch = s.epoch ∧
    (State.refuseActivation s q reason param).power = s.power ∧ (State.refuseActivation s q reason param).rt = s.rt ∧
    (State.refuseActivation s q reason param).sec = s.sec ∧
    (State.refuseActivation s q reason param).station = s.station ∧
    (State.refuseActivation s q reason param).vote = s.vote ∧ (State.refuseActivation s q reason param).ash = s.ash ∧
    (State.refuseActivation s q reason param).field = s.field ∧ (State.refuseActivation s q reason param).can = s.can
    ∧ (State.refuseActivation s q reason param).net = s.net ∧
    (State.refuseActivation s q reason param).xings = s.xings ∧
    (State.refuseActivation s q reason param).recorder = s.recorder ∧
    (State.refuseActivation s q reason param).log = s.log ∧ (State.refuseActivation s q reason param).test = s.test ∧
    (State.refuseActivation s q reason param).draws = s.draws ∧
    (State.refuseActivation s q reason param).diag = s.diag ∧
    (State.refuseActivation s q reason param).pending = s.pending := by
  simp [State.refuseActivation, State.lastReason_frame _ _ _, State.complete_frame _ _ _ _ _ _ _]

theorem State.validationDone_frame (s : State) :
    (State.validationDone s).unit = s.unit ∧ (State.validationDone s).opUs = s.opUs ∧
    (State.validationDone s).savedOpUs = s.savedOpUs ∧ (State.validationDone s).powerCycle = s.powerCycle ∧
    (State.validationDone s).epoch = s.epoch ∧ (State.validationDone s).power = s.power ∧
    (State.validationDone s).rt = s.rt ∧ (State.validationDone s).sec = s.sec ∧ (State.validationDone s).vote = s.vote
    ∧ (State.validationDone s).test = s.test ∧ (State.validationDone s).draws = s.draws ∧
    (State.validationDone s).diag = s.diag ∧ (State.validationDone s).pending = s.pending := by
  simp only [State.validationDone]; (repeat' split) <;> simp [State.refuseActivation_frame _ _ _ _,
        State.event_frame _ _ _ _ _ _ _ _, State.activateData_frame _ _ _]

end Sys2Proof.Machine
end

