-- ==== Sys2Proof/Laws/PowerOps.lean ====
section
/-! SUPPORT. What the operations of Machine/PowerOps.lean leave alone: one lemma for each, naming every part of the state that
it does not write. -/

namespace Sys2Proof.Machine

open Sys2Proof

theorem State.powerReset_frame (s : State) :
    (State.powerReset s).unit = s.unit ∧ (State.powerReset s).savedOpUs = s.savedOpUs ∧
    (State.powerReset s).epoch = s.epoch ∧ (State.powerReset s).station = s.station ∧ (State.powerReset s).log = s.log
    ∧ (State.powerReset s).draws = s.draws ∧ (State.powerReset s).outbox = s.outbox ∧
    (State.powerReset s).pending = s.pending := by
  simp [State.powerReset]

theorem State.boot_frame (s : State) (ok0 : Bool) (ok1 : Bool) :
    (State.boot s ok0 ok1).unit = s.unit ∧ (State.boot s ok0 ok1).opUs = s.opUs ∧
    (State.boot s ok0 ok1).savedOpUs = s.savedOpUs ∧ (State.boot s ok0 ok1).powerCycle = s.powerCycle ∧
    (State.boot s ok0 ok1).epoch = s.epoch ∧ (State.boot s ok0 ok1).rt = s.rt ∧ (State.boot s ok0 ok1).sec = s.sec ∧
    (State.boot s ok0 ok1).station = s.station ∧ (State.boot s ok0 ok1).bench = s.bench ∧
    (State.boot s ok0 ok1).eng = s.eng ∧ (State.boot s ok0 ok1).vote = s.vote ∧ (State.boot s ok0 ok1).ash = s.ash ∧
    (State.boot s ok0 ok1).field = s.field ∧ (State.boot s ok0 ok1).can = s.can ∧ (State.boot s ok0 ok1).net = s.net ∧
    (State.boot s ok0 ok1).hi = s.hi ∧ (State.boot s ok0 ok1).xings = s.xings ∧ (State.boot s ok0 ok1).mg = s.mg ∧
    (State.boot s ok0 ok1).log = s.log ∧ (State.boot s ok0 ok1).test = s.test ∧ (State.boot s ok0 ok1).draws = s.draws
    ∧ (State.boot s ok0 ok1).outbox = s.outbox ∧ (State.boot s ok0 ok1).diag = s.diag ∧
    (State.boot s ok0 ok1).pending = s.pending := by
  simp [State.boot, State.event_frame _ _ _ _ _ _ _ _, State.modTarget_frame _ _ _]

theorem State.migrate_frame (s : State) (types : ℕ) :
    (State.migrate s types).unit = s.unit ∧ (State.migrate s types).opUs = s.opUs ∧
    (State.migrate s types).savedOpUs = s.savedOpUs ∧ (State.migrate s types).powerCycle = s.powerCycle ∧
    (State.migrate s types).epoch = s.epoch ∧ (State.migrate s types).power = s.power ∧
    (State.migrate s types).rt = s.rt ∧ (State.migrate s types).sec = s.sec ∧
    (State.migrate s types).station = s.station ∧ (State.migrate s types).bench = s.bench ∧
    (State.migrate s types).eng = s.eng ∧ (State.migrate s types).vote = s.vote ∧ (State.migrate s types).ash = s.ash
    ∧ (State.migrate s types).field = s.field ∧ (State.migrate s types).can = s.can ∧
    (State.migrate s types).net = s.net ∧ (State.migrate s types).hi = s.hi ∧ (State.migrate s types).xings = s.xings
    ∧ (State.migrate s types).mg = s.mg ∧ (State.migrate s types).log = s.log ∧ (State.migrate s types).test = s.test
    ∧ (State.migrate s types).draws = s.draws ∧ (State.migrate s types).outbox = s.outbox ∧
    (State.migrate s types).diag = s.diag ∧ (State.migrate s types).pending = s.pending := by
  simp [State.migrate, State.event_frame _ _ _ _ _ _ _ _]

theorem State.readMode_frame (s : State) :
    (State.readMode s).unit = s.unit ∧ (State.readMode s).opUs = s.opUs ∧ (State.readMode s).savedOpUs = s.savedOpUs ∧
    (State.readMode s).powerCycle = s.powerCycle ∧ (State.readMode s).epoch = s.epoch ∧
    (State.readMode s).power = s.power ∧ (State.readMode s).rt = s.rt ∧ (State.readMode s).station = s.station ∧
    (State.readMode s).bench = s.bench ∧ (State.readMode s).eng = s.eng ∧ (State.readMode s).vote = s.vote ∧
    (State.readMode s).ash = s.ash ∧ (State.readMode s).field = s.field ∧ (State.readMode s).can = s.can ∧
    (State.readMode s).net = s.net ∧ (State.readMode s).hi = s.hi ∧ (State.readMode s).xings = s.xings ∧
    (State.readMode s).mg = s.mg ∧ (State.readMode s).log = s.log ∧ (State.readMode s).test = s.test ∧
    (State.readMode s).update = s.update ∧ (State.readMode s).draws = s.draws ∧ (State.readMode s).outbox = s.outbox ∧
    (State.readMode s).diag = s.diag ∧ (State.readMode s).pending = s.pending := by
  simp [State.readMode, State.event_frame _ _ _ _ _ _ _ _]

theorem State.readRepair_frame (s : State) :
    (State.readRepair s).unit = s.unit ∧ (State.readRepair s).opUs = s.opUs ∧
    (State.readRepair s).savedOpUs = s.savedOpUs ∧ (State.readRepair s).powerCycle = s.powerCycle ∧
    (State.readRepair s).epoch = s.epoch ∧ (State.readRepair s).power = s.power ∧ (State.readRepair s).rt = s.rt ∧
    (State.readRepair s).sec = s.sec ∧ (State.readRepair s).station = s.station ∧ (State.readRepair s).bench = s.bench
    ∧ (State.readRepair s).eng = s.eng ∧ (State.readRepair s).vote = s.vote ∧ (State.readRepair s).ash = s.ash ∧
    (State.readRepair s).field = s.field ∧ (State.readRepair s).can = s.can ∧ (State.readRepair s).net = s.net ∧
    (State.readRepair s).hi = s.hi ∧ (State.readRepair s).xings = s.xings ∧ (State.readRepair s).mg = s.mg ∧
    (State.readRepair s).log = s.log ∧ (State.readRepair s).update = s.update ∧ (State.readRepair s).draws = s.draws ∧
    (State.readRepair s).outbox = s.outbox ∧ (State.readRepair s).diag = s.diag ∧
    (State.readRepair s).pending = s.pending := by
  simp [State.readRepair, State.event_frame _ _ _ _ _ _ _ _]

theorem State.readFuses_frame (s : State) (oks : List Bool) :
    (State.readFuses s oks).unit = s.unit ∧ (State.readFuses s oks).opUs = s.opUs ∧
    (State.readFuses s oks).savedOpUs = s.savedOpUs ∧ (State.readFuses s oks).powerCycle = s.powerCycle ∧
    (State.readFuses s oks).epoch = s.epoch ∧ (State.readFuses s oks).power = s.power ∧
    (State.readFuses s oks).rt = s.rt ∧ (State.readFuses s oks).sec = s.sec ∧
    (State.readFuses s oks).station = s.station ∧ (State.readFuses s oks).bench = s.bench ∧
    (State.readFuses s oks).eng = s.eng ∧ (State.readFuses s oks).vote = s.vote ∧ (State.readFuses s oks).ash = s.ash
    ∧ (State.readFuses s oks).field = s.field ∧ (State.readFuses s oks).can = s.can ∧
    (State.readFuses s oks).net = s.net ∧ (State.readFuses s oks).hi = s.hi ∧ (State.readFuses s oks).xings = s.xings
    ∧ (State.readFuses s oks).mg = s.mg ∧ (State.readFuses s oks).log = s.log ∧
    (State.readFuses s oks).update = s.update ∧ (State.readFuses s oks).draws = s.draws ∧
    (State.readFuses s oks).outbox = s.outbox ∧ (State.readFuses s oks).diag = s.diag ∧
    (State.readFuses s oks).pending = s.pending := by
  simp [State.readFuses, State.event_frame _ _ _ _ _ _ _ _, State.settleFuses_frame _ _]

theorem State.readAdvance_frame (s : State) :
    (State.readAdvance s).unit = s.unit ∧ (State.readAdvance s).opUs = s.opUs ∧
    (State.readAdvance s).savedOpUs = s.savedOpUs ∧ (State.readAdvance s).powerCycle = s.powerCycle ∧
    (State.readAdvance s).epoch = s.epoch ∧ (State.readAdvance s).power = s.power ∧ (State.readAdvance s).rt = s.rt ∧
    (State.readAdvance s).station = s.station ∧ (State.readAdvance s).bench = s.bench ∧
    (State.readAdvance s).eng = s.eng ∧ (State.readAdvance s).vote = s.vote ∧ (State.readAdvance s).field = s.field ∧
    (State.readAdvance s).can = s.can ∧ (State.readAdvance s).net = s.net ∧ (State.readAdvance s).hi = s.hi ∧
    (State.readAdvance s).xings = s.xings ∧ (State.readAdvance s).test = s.test ∧
    (State.readAdvance s).update = s.update ∧ (State.readAdvance s).draws = s.draws ∧
    (State.readAdvance s).outbox = s.outbox ∧ (State.readAdvance s).diag = s.diag ∧
    (State.readAdvance s).pending = s.pending := by
  unfold State.readAdvance; (repeat' split) <;> simp [State.finishAdvance_frame _ _ _ _ _]

theorem State.readRt_frame (s : State) (cellMv : ℕ) (wasAlive : Bool) :
    (State.readRt s cellMv wasAlive).unit = s.unit ∧ (State.readRt s cellMv wasAlive).opUs = s.opUs ∧
    (State.readRt s cellMv wasAlive).savedOpUs = s.savedOpUs ∧
    (State.readRt s cellMv wasAlive).powerCycle = s.powerCycle ∧ (State.readRt s cellMv wasAlive).epoch = s.epoch ∧
    (State.readRt s cellMv wasAlive).power = s.power ∧ (State.readRt s cellMv wasAlive).station = s.station ∧
    (State.readRt s cellMv wasAlive).bench = s.bench ∧ (State.readRt s cellMv wasAlive).eng = s.eng ∧
    (State.readRt s cellMv wasAlive).vote = s.vote ∧ (State.readRt s cellMv wasAlive).ash = s.ash ∧
    (State.readRt s cellMv wasAlive).field = s.field ∧ (State.readRt s cellMv wasAlive).can = s.can ∧
    (State.readRt s cellMv wasAlive).net = s.net ∧ (State.readRt s cellMv wasAlive).hi = s.hi ∧
    (State.readRt s cellMv wasAlive).xings = s.xings ∧ (State.readRt s cellMv wasAlive).mg = s.mg ∧
    (State.readRt s cellMv wasAlive).log = s.log ∧ (State.readRt s cellMv wasAlive).test = s.test ∧
    (State.readRt s cellMv wasAlive).update = s.update ∧ (State.readRt s cellMv wasAlive).draws = s.draws ∧
    (State.readRt s cellMv wasAlive).outbox = s.outbox ∧ (State.readRt s cellMv wasAlive).diag = s.diag ∧
    (State.readRt s cellMv wasAlive).pending = s.pending := by
  simp [State.readRt, State.event_frame _ _ _ _ _ _ _ _, State.anchor_frame _ _]

theorem State.readStaged_frame (s : State) (frozen : Bool) :
    (State.readStaged s frozen).unit = s.unit ∧ (State.readStaged s frozen).opUs = s.opUs ∧
    (State.readStaged s frozen).savedOpUs = s.savedOpUs ∧ (State.readStaged s frozen).powerCycle = s.powerCycle ∧
    (State.readStaged s frozen).epoch = s.epoch ∧ (State.readStaged s frozen).power = s.power ∧
    (State.readStaged s frozen).sec = s.sec ∧ (State.readStaged s frozen).station = s.station ∧
    (State.readStaged s frozen).bench = s.bench ∧ (State.readStaged s frozen).eng = s.eng ∧
    (State.readStaged s frozen).vote = s.vote ∧ (State.readStaged s frozen).ash = s.ash ∧
    (State.readStaged s frozen).field = s.field ∧ (State.readStaged s frozen).can = s.can ∧
    (State.readStaged s frozen).net = s.net ∧ (State.readStaged s frozen).hi = s.hi ∧
    (State.readStaged s frozen).xings = s.xings ∧ (State.readStaged s frozen).mg = s.mg ∧
    (State.readStaged s frozen).log = s.log ∧ (State.readStaged s frozen).test = s.test ∧
    (State.readStaged s frozen).update = s.update ∧ (State.readStaged s frozen).draws = s.draws ∧
    (State.readStaged s frozen).outbox = s.outbox ∧ (State.readStaged s frozen).diag = s.diag ∧
    (State.readStaged s frozen).pending = s.pending := by
  simp [State.readStaged, State.event_frame _ _ _ _ _ _ _ _]

theorem State.loadStation_frame (s : State) :
    (State.loadStation s).unit = s.unit ∧ (State.loadStation s).opUs = s.opUs ∧
    (State.loadStation s).savedOpUs = s.savedOpUs ∧ (State.loadStation s).powerCycle = s.powerCycle ∧
    (State.loadStation s).epoch = s.epoch ∧ (State.loadStation s).power = s.power ∧ (State.loadStation s).rt = s.rt ∧
    (State.loadStation s).sec = s.sec ∧ (State.loadStation s).bench = s.bench ∧ (State.loadStation s).vote = s.vote ∧
    (State.loadStation s).ash = s.ash ∧ (State.loadStation s).field = s.field ∧ (State.loadStation s).hi = s.hi ∧
    (State.loadStation s).xings = s.xings ∧ (State.loadStation s).mg = s.mg ∧ (State.loadStation s).log = s.log ∧
    (State.loadStation s).test = s.test ∧ (State.loadStation s).update = s.update ∧
    (State.loadStation s).draws = s.draws ∧ (State.loadStation s).outbox = s.outbox ∧
    (State.loadStation s).diag = s.diag ∧ (State.loadStation s).pending = s.pending := by
  unfold State.loadStation; dsimp only; (repeat' split) <;> simp [State.noStation_frame _, State.event_frame _ _ _ _ _ _ _ _]

theorem State.readUpdate_frame (s : State) (t : ℕ) :
    (State.readUpdate s t).unit = s.unit ∧ (State.readUpdate s t).opUs = s.opUs ∧
    (State.readUpdate s t).savedOpUs = s.savedOpUs ∧ (State.readUpdate s t).powerCycle = s.powerCycle ∧
    (State.readUpdate s t).epoch = s.epoch ∧ (State.readUpdate s t).power = s.power ∧ (State.readUpdate s t).rt = s.rt
    ∧ (State.readUpdate s t).sec = s.sec ∧ (State.readUpdate s t).station = s.station ∧
    (State.readUpdate s t).bench = s.bench ∧ (State.readUpdate s t).eng = s.eng ∧ (State.readUpdate s t).vote = s.vote
    ∧ (State.readUpdate s t).ash = s.ash ∧ (State.readUpdate s t).field = s.field ∧ (State.readUpdate s t).can = s.can
    ∧ (State.readUpdate s t).net = s.net ∧ (State.readUpdate s t).hi = s.hi ∧ (State.readUpdate s t).xings = s.xings ∧
    (State.readUpdate s t).mg = s.mg ∧ (State.readUpdate s t).log = s.log ∧ (State.readUpdate s t).test = s.test ∧
    (State.readUpdate s t).draws = s.draws ∧ (State.readUpdate s t).outbox = s.outbox ∧
    (State.readUpdate s t).diag = s.diag ∧ (State.readUpdate s t).pending = s.pending := by
  simp only [State.readUpdate]; (repeat' split) <;> simp [State.modTarget_frame _ _ _,
        State.event_frame _ _ _ _ _ _ _ _]

theorem State.powerOn_frame (s : State) (p : PowerOn) (wasAlive : Bool) :
    (State.powerOn s p wasAlive).unit = s.unit ∧ (State.powerOn s p wasAlive).savedOpUs = s.savedOpUs ∧
    (State.powerOn s p wasAlive).epoch = s.epoch ∧ (State.powerOn s p wasAlive).draws = s.draws ∧
    (State.powerOn s p wasAlive).outbox = s.outbox ∧ (State.powerOn s p wasAlive).pending = s.pending := by
  simp [State.powerOn, State.boot_frame _ _ _, State.powerReset_frame _, State.readRepair_frame _,
        State.readUpdate_frame _ _, State.loadStation_frame _, State.migrate_frame _ _, State.readFuses_frame _ _,
        State.readAdvance_frame _, State.readMode_frame _, State.readStaged_frame _ _,
        State.event_frame _ _ _ _ _ _ _ _, State.readRt_frame _ _ _, State.beginStart_frame _ _ _]

theorem State.abandonTest_frame (s : State) :
    (State.abandonTest s).unit = s.unit ∧ (State.abandonTest s).opUs = s.opUs ∧
    (State.abandonTest s).savedOpUs = s.savedOpUs ∧ (State.abandonTest s).powerCycle = s.powerCycle ∧
    (State.abandonTest s).epoch = s.epoch ∧ (State.abandonTest s).power = s.power ∧ (State.abandonTest s).rt = s.rt ∧
    (State.abandonTest s).sec = s.sec ∧ (State.abandonTest s).station = s.station ∧
    (State.abandonTest s).bench = s.bench ∧ (State.abandonTest s).vote = s.vote ∧ (State.abandonTest s).ash = s.ash ∧
    (State.abandonTest s).field = s.field ∧ (State.abandonTest s).can = s.can ∧ (State.abandonTest s).net = s.net ∧
    (State.abandonTest s).hi = s.hi ∧ (State.abandonTest s).xings = s.xings ∧ (State.abandonTest s).mg = s.mg ∧
    (State.abandonTest s).recorder = s.recorder ∧ (State.abandonTest s).log = s.log ∧
    (State.abandonTest s).update = s.update ∧ (State.abandonTest s).draws = s.draws ∧
    (State.abandonTest s).outbox = s.outbox ∧ (State.abandonTest s).diag = s.diag ∧
    (State.abandonTest s).pending = s.pending := by
  simp [State.abandonTest]

theorem State.supplyLow_frame (s : State) (mv : ℕ) :
    (State.supplyLow s mv).unit = s.unit ∧ (State.supplyLow s mv).opUs = s.opUs ∧
    (State.supplyLow s mv).savedOpUs = s.savedOpUs ∧ (State.supplyLow s mv).powerCycle = s.powerCycle ∧
    (State.supplyLow s mv).epoch = s.epoch ∧ (State.supplyLow s mv).station = s.station ∧
    (State.supplyLow s mv).ash = s.ash ∧ (State.supplyLow s mv).xings = s.xings ∧ (State.supplyLow s mv).log = s.log ∧
    (State.supplyLow s mv).update = s.update ∧ (State.supplyLow s mv).draws = s.draws ∧
    (State.supplyLow s mv).diag = s.diag ∧ (State.supplyLow s mv).pending = s.pending := by
  simp [State.supplyLow, State.writeFailing_frame _, State.enterSafe_frame _ _ _, State.abandonTest_frame _,
        State.causeOn_frame _ _, State.event_frame _ _ _ _ _ _ _ _]

theorem State.supplyGone_frame (s : State) :
    (State.supplyGone s).unit = s.unit ∧ (State.supplyGone s).opUs = s.opUs ∧
    (State.supplyGone s).savedOpUs = s.savedOpUs ∧ (State.supplyGone s).powerCycle = s.powerCycle ∧
    (State.supplyGone s).epoch = s.epoch ∧ (State.supplyGone s).station = s.station ∧
    (State.supplyGone s).xings = s.xings ∧ (State.supplyGone s).log = s.log ∧ (State.supplyGone s).update = s.update ∧
    (State.supplyGone s).draws = s.draws ∧ (State.supplyGone s).diag = s.diag ∧
    (State.supplyGone s).pending = s.pending := by
  simp [State.supplyGone, State.supplyLow_frame _ _]

theorem State.temperature_frame (s : State) (t : ℤ) :
    (State.temperature s t).unit = s.unit ∧ (State.temperature s t).opUs = s.opUs ∧
    (State.temperature s t).savedOpUs = s.savedOpUs ∧ (State.temperature s t).powerCycle = s.powerCycle ∧
    (State.temperature s t).epoch = s.epoch ∧ (State.temperature s t).rt = s.rt ∧
    (State.temperature s t).station = s.station ∧ (State.temperature s t).net = s.net ∧
    (State.temperature s t).xings = s.xings ∧ (State.temperature s t).log = s.log ∧
    (State.temperature s t).update = s.update ∧ (State.temperature s t).diag = s.diag ∧
    (State.temperature s t).pending = s.pending := by
  simp [State.temperature, State.shutdownHot_frame _, State.note_frame _ _ _, State.event_frame _ _ _ _ _ _ _ _,
        State.enterSafe_frame _ _ _, State.causeOn_frame _ _, State.causeOff_frame _ _]

theorem State.cellMeasured_frame (s : State) (mv : ℕ) :
    (State.cellMeasured s mv).unit = s.unit ∧ (State.cellMeasured s mv).opUs = s.opUs ∧
    (State.cellMeasured s mv).savedOpUs = s.savedOpUs ∧ (State.cellMeasured s mv).powerCycle = s.powerCycle ∧
    (State.cellMeasured s mv).epoch = s.epoch ∧ (State.cellMeasured s mv).rt = s.rt ∧
    (State.cellMeasured s mv).sec = s.sec ∧ (State.cellMeasured s mv).station = s.station ∧
    (State.cellMeasured s mv).bench = s.bench ∧ (State.cellMeasured s mv).eng = s.eng ∧
    (State.cellMeasured s mv).vote = s.vote ∧ (State.cellMeasured s mv).ash = s.ash ∧
    (State.cellMeasured s mv).field = s.field ∧ (State.cellMeasured s mv).can = s.can ∧
    (State.cellMeasured s mv).net = s.net ∧ (State.cellMeasured s mv).hi = s.hi ∧
    (State.cellMeasured s mv).xings = s.xings ∧ (State.cellMeasured s mv).mg = s.mg ∧
    (State.cellMeasured s mv).log = s.log ∧ (State.cellMeasured s mv).test = s.test ∧
    (State.cellMeasured s mv).update = s.update ∧ (State.cellMeasured s mv).draws = s.draws ∧
    (State.cellMeasured s mv).outbox = s.outbox ∧ (State.cellMeasured s mv).diag = s.diag ∧
    (State.cellMeasured s mv).pending = s.pending := by
  simp [State.cellMeasured, State.event_frame _ _ _ _ _ _ _ _]

end Sys2Proof.Machine
end

