-- ==== Sys2Proof/Laws/Forcing.lean ====
section
/-! SUPPORT. What the operations of Machine/Forcing.lean leave alone: one lemma for each, naming every part of the state that
it does not write. -/

namespace Sys2Proof.Machine

open Sys2Proof

theorem State.forceSetNote_frame (s : State) (f : Force) :
    (State.forceSetNote s f).unit = s.unit ∧ (State.forceSetNote s f).opUs = s.opUs ∧
    (State.forceSetNote s f).savedOpUs = s.savedOpUs ∧ (State.forceSetNote s f).powerCycle = s.powerCycle ∧
    (State.forceSetNote s f).epoch = s.epoch ∧ (State.forceSetNote s f).power = s.power ∧
    (State.forceSetNote s f).rt = s.rt ∧ (State.forceSetNote s f).sec = s.sec ∧
    (State.forceSetNote s f).station = s.station ∧ (State.forceSetNote s f).eng = s.eng ∧
    (State.forceSetNote s f).vote = s.vote ∧ (State.forceSetNote s f).ash = s.ash ∧
    (State.forceSetNote s f).field = s.field ∧ (State.forceSetNote s f).can = s.can ∧
    (State.forceSetNote s f).net = s.net ∧ (State.forceSetNote s f).xings = s.xings ∧
    (State.forceSetNote s f).mg = s.mg ∧ (State.forceSetNote s f).log = s.log ∧ (State.forceSetNote s f).test = s.test
    ∧ (State.forceSetNote s f).update = s.update ∧ (State.forceSetNote s f).draws = s.draws ∧
    (State.forceSetNote s f).diag = s.diag ∧ (State.forceSetNote s f).pending = s.pending := by
  simp [State.forceSetNote, State.noteCluster_frame _ _ _, State.event_frame _ _ _ _ _ _ _ _]

theorem State.showForcing_frame (s : State) :
    (State.showForcing s).unit = s.unit ∧ (State.showForcing s).opUs = s.opUs ∧
    (State.showForcing s).savedOpUs = s.savedOpUs ∧ (State.showForcing s).powerCycle = s.powerCycle ∧
    (State.showForcing s).epoch = s.epoch ∧ (State.showForcing s).power = s.power ∧ (State.showForcing s).rt = s.rt ∧
    (State.showForcing s).sec = s.sec ∧ (State.showForcing s).station = s.station ∧ (State.showForcing s).eng = s.eng
    ∧ (State.showForcing s).vote = s.vote ∧ (State.showForcing s).ash = s.ash ∧ (State.showForcing s).field = s.field
    ∧ (State.showForcing s).can = s.can ∧ (State.showForcing s).net = s.net ∧ (State.showForcing s).hi = s.hi ∧
    (State.showForcing s).xings = s.xings ∧ (State.showForcing s).mg = s.mg ∧
    (State.showForcing s).recorder = s.recorder ∧ (State.showForcing s).log = s.log ∧
    (State.showForcing s).test = s.test ∧ (State.showForcing s).update = s.update ∧
    (State.showForcing s).draws = s.draws ∧ (State.showForcing s).outbox = s.outbox ∧
    (State.showForcing s).diag = s.diag ∧ (State.showForcing s).pending = s.pending := by
  simp [State.showForcing]

theorem State.putForces_frame (s : State) (l : List Force) :
    (State.putForces s l).unit = s.unit ∧ (State.putForces s l).opUs = s.opUs ∧
    (State.putForces s l).savedOpUs = s.savedOpUs ∧ (State.putForces s l).powerCycle = s.powerCycle ∧
    (State.putForces s l).epoch = s.epoch ∧ (State.putForces s l).power = s.power ∧ (State.putForces s l).rt = s.rt ∧
    (State.putForces s l).sec = s.sec ∧ (State.putForces s l).station = s.station ∧ (State.putForces s l).eng = s.eng
    ∧ (State.putForces s l).vote = s.vote ∧ (State.putForces s l).ash = s.ash ∧ (State.putForces s l).field = s.field
    ∧ (State.putForces s l).can = s.can ∧ (State.putForces s l).net = s.net ∧ (State.putForces s l).hi = s.hi ∧
    (State.putForces s l).xings = s.xings ∧ (State.putForces s l).mg = s.mg ∧
    (State.putForces s l).recorder = s.recorder ∧ (State.putForces s l).log = s.log ∧
    (State.putForces s l).test = s.test ∧ (State.putForces s l).update = s.update ∧
    (State.putForces s l).draws = s.draws ∧ (State.putForces s l).outbox = s.outbox ∧
    (State.putForces s l).diag = s.diag ∧ (State.putForces s l).pending = s.pending := by
  simp [State.putForces]

theorem State.changeForce_frame (s : State) (c : ForceChange) :
    (State.changeForce s c).unit = s.unit ∧ (State.changeForce s c).opUs = s.opUs ∧
    (State.changeForce s c).savedOpUs = s.savedOpUs ∧ (State.changeForce s c).powerCycle = s.powerCycle ∧
    (State.changeForce s c).epoch = s.epoch ∧ (State.changeForce s c).power = s.power ∧
    (State.changeForce s c).rt = s.rt ∧ (State.changeForce s c).sec = s.sec ∧
    (State.changeForce s c).station = s.station ∧ (State.changeForce s c).eng = s.eng ∧
    (State.changeForce s c).vote = s.vote ∧ (State.changeForce s c).ash = s.ash ∧
    (State.changeForce s c).field = s.field ∧ (State.changeForce s c).can = s.can ∧
    (State.changeForce s c).net = s.net ∧ (State.changeForce s c).hi = s.hi ∧ (State.changeForce s c).xings = s.xings
    ∧ (State.changeForce s c).mg = s.mg ∧ (State.changeForce s c).recorder = s.recorder ∧
    (State.changeForce s c).log = s.log ∧ (State.changeForce s c).test = s.test ∧
    (State.changeForce s c).update = s.update ∧ (State.changeForce s c).draws = s.draws ∧
    (State.changeForce s c).outbox = s.outbox ∧ (State.changeForce s c).diag = s.diag ∧
    (State.changeForce s c).pending = s.pending := by
  simp [State.changeForce, State.showForcing_frame _, State.putForces_frame _ _]

theorem State.decideForceSet_frame (s : State) (q : Req) :
    (State.decideForceSet s q).unit = s.unit ∧ (State.decideForceSet s q).opUs = s.opUs ∧
    (State.decideForceSet s q).savedOpUs = s.savedOpUs ∧ (State.decideForceSet s q).powerCycle = s.powerCycle ∧
    (State.decideForceSet s q).epoch = s.epoch ∧ (State.decideForceSet s q).power = s.power ∧
    (State.decideForceSet s q).rt = s.rt ∧ (State.decideForceSet s q).sec = s.sec ∧
    (State.decideForceSet s q).station = s.station ∧ (State.decideForceSet s q).eng = s.eng ∧
    (State.decideForceSet s q).vote = s.vote ∧ (State.decideForceSet s q).ash = s.ash ∧
    (State.decideForceSet s q).field = s.field ∧ (State.decideForceSet s q).can = s.can ∧
    (State.decideForceSet s q).net = s.net ∧ (State.decideForceSet s q).xings = s.xings ∧
    (State.decideForceSet s q).log = s.log ∧ (State.decideForceSet s q).test = s.test ∧
    (State.decideForceSet s q).update = s.update ∧ (State.decideForceSet s q).draws = s.draws ∧
    (State.decideForceSet s q).diag = s.diag ∧ (State.decideForceSet s q).pending = s.pending := by
  simp only [State.decideForceSet, State.clCommand]; (repeat' split) <;> simp [State.complete_frame _ _ _ _ _ _ _,
        State.heard_frame _ _, State.changeForce_frame _ _, State.forceSetNote_frame _ _,
        State.forceEnded_frame _ _ _]

theorem State.decideForceClear_frame (s : State) (q : Req) :
    (State.decideForceClear s q).unit = s.unit ∧ (State.decideForceClear s q).opUs = s.opUs ∧
    (State.decideForceClear s q).savedOpUs = s.savedOpUs ∧ (State.decideForceClear s q).powerCycle = s.powerCycle ∧
    (State.decideForceClear s q).epoch = s.epoch ∧ (State.decideForceClear s q).power = s.power ∧
    (State.decideForceClear s q).rt = s.rt ∧ (State.decideForceClear s q).sec = s.sec ∧
    (State.decideForceClear s q).station = s.station ∧ (State.decideForceClear s q).eng = s.eng ∧
    (State.decideForceClear s q).vote = s.vote ∧ (State.decideForceClear s q).ash = s.ash ∧
    (State.decideForceClear s q).field = s.field ∧ (State.decideForceClear s q).can = s.can ∧
    (State.decideForceClear s q).net = s.net ∧ (State.decideForceClear s q).xings = s.xings ∧
    (State.decideForceClear s q).log = s.log ∧ (State.decideForceClear s q).test = s.test ∧
    (State.decideForceClear s q).update = s.update ∧ (State.decideForceClear s q).draws = s.draws ∧
    (State.decideForceClear s q).diag = s.diag ∧ (State.decideForceClear s q).pending = s.pending := by
  simp only [State.decideForceClear, State.clCommand]; (repeat' split) <;> simp [State.complete_frame _ _ _ _ _ _ _,
        State.heard_frame _ _, State.changeForce_frame _ _, State.forceEnded_frame _ _ _]

theorem State.decideForceList_frame (s : State) (q : Req) :
    (State.decideForceList s q).unit = s.unit ∧ (State.decideForceList s q).opUs = s.opUs ∧
    (State.decideForceList s q).savedOpUs = s.savedOpUs ∧ (State.decideForceList s q).powerCycle = s.powerCycle ∧
    (State.decideForceList s q).epoch = s.epoch ∧ (State.decideForceList s q).power = s.power ∧
    (State.decideForceList s q).rt = s.rt ∧ (State.decideForceList s q).sec = s.sec ∧
    (State.decideForceList s q).station = s.station ∧ (State.decideForceList s q).eng = s.eng ∧
    (State.decideForceList s q).vote = s.vote ∧ (State.decideForceList s q).ash = s.ash ∧
    (State.decideForceList s q).field = s.field ∧ (State.decideForceList s q).can = s.can ∧
    (State.decideForceList s q).net = s.net ∧ (State.decideForceList s q).xings = s.xings ∧
    (State.decideForceList s q).recorder = s.recorder ∧ (State.decideForceList s q).log = s.log ∧
    (State.decideForceList s q).test = s.test ∧ (State.decideForceList s q).update = s.update ∧
    (State.decideForceList s q).draws = s.draws ∧ (State.decideForceList s q).diag = s.diag ∧
    (State.decideForceList s q).pending = s.pending := by
  simp only [State.decideForceList, State.clCommand]; (repeat' split) <;> simp [State.complete_frame _ _ _ _ _ _ _,
        State.heard_frame _ _]

theorem State.constantTouches_frame (s : State) (i : ℕ) :
    (State.constantTouches s i).unit = s.unit ∧ (State.constantTouches s i).opUs = s.opUs ∧
    (State.constantTouches s i).savedOpUs = s.savedOpUs ∧ (State.constantTouches s i).powerCycle = s.powerCycle ∧
    (State.constantTouches s i).epoch = s.epoch ∧ (State.constantTouches s i).power = s.power ∧
    (State.constantTouches s i).rt = s.rt ∧ (State.constantTouches s i).sec = s.sec ∧
    (State.constantTouches s i).station = s.station ∧ (State.constantTouches s i).bench = s.bench ∧
    (State.constantTouches s i).eng = s.eng ∧ (State.constantTouches s i).vote = s.vote ∧
    (State.constantTouches s i).ash = s.ash ∧ (State.constantTouches s i).field = s.field ∧
    (State.constantTouches s i).can = s.can ∧ (State.constantTouches s i).hi = s.hi ∧
    (State.constantTouches s i).xings = s.xings ∧ (State.constantTouches s i).mg = s.mg ∧
    (State.constantTouches s i).recorder = s.recorder ∧ (State.constantTouches s i).log = s.log ∧
    (State.constantTouches s i).test = s.test ∧ (State.constantTouches s i).update = s.update ∧
    (State.constantTouches s i).draws = s.draws ∧ (State.constantTouches s i).outbox = s.outbox ∧
    (State.constantTouches s i).diag = s.diag ∧ (State.constantTouches s i).pending = s.pending := by
  simp [State.constantTouches, State.modNode_frame _ _ _]

theorem State.applyConstants_frame (s : State) :
    (State.applyConstants s).unit = s.unit ∧ (State.applyConstants s).opUs = s.opUs ∧
    (State.applyConstants s).savedOpUs = s.savedOpUs ∧ (State.applyConstants s).powerCycle = s.powerCycle ∧
    (State.applyConstants s).epoch = s.epoch ∧ (State.applyConstants s).power = s.power ∧
    (State.applyConstants s).rt = s.rt ∧ (State.applyConstants s).sec = s.sec ∧
    (State.applyConstants s).station = s.station ∧ (State.applyConstants s).eng = s.eng ∧
    (State.applyConstants s).vote = s.vote ∧ (State.applyConstants s).ash = s.ash ∧
    (State.applyConstants s).field = s.field ∧ (State.applyConstants s).can = s.can ∧
    (State.applyConstants s).hi = s.hi ∧ (State.applyConstants s).xings = s.xings ∧ (State.applyConstants s).mg = s.mg
    ∧ (State.applyConstants s).recorder = s.recorder ∧ (State.applyConstants s).log = s.log ∧
    (State.applyConstants s).test = s.test ∧ (State.applyConstants s).update = s.update ∧
    (State.applyConstants s).draws = s.draws ∧ (State.applyConstants s).outbox = s.outbox ∧
    (State.applyConstants s).diag = s.diag ∧ (State.applyConstants s).pending = s.pending := by
  simp [State.applyConstants, State.constantTouches_frame _ _]

theorem State.constantLogged_frame (s : State) (e : LogEntry) :
    (State.constantLogged s e).unit = s.unit ∧ (State.constantLogged s e).opUs = s.opUs ∧ (State.constantLogged s
    e).savedOpUs = s.savedOpUs ∧ (State.constantLogged s e).powerCycle = s.powerCycle ∧ (State.constantLogged s
    e).epoch = s.epoch ∧ (State.constantLogged s e).power = s.power ∧ (State.constantLogged s e).rt = s.rt ∧
    (State.constantLogged s e).sec = s.sec ∧ (State.constantLogged s e).station = s.station ∧ (State.constantLogged s
    e).bench = s.bench ∧ (State.constantLogged s e).eng = s.eng ∧ (State.constantLogged s e).vote = s.vote ∧
    (State.constantLogged s e).ash = s.ash ∧ (State.constantLogged s e).field = s.field ∧ (State.constantLogged s
    e).can = s.can ∧ (State.constantLogged s e).net = s.net ∧ (State.constantLogged s e).hi = s.hi ∧
    (State.constantLogged s e).xings = s.xings ∧ (State.constantLogged s e).mg = s.mg ∧ (State.constantLogged s
    e).test = s.test ∧ (State.constantLogged s e).update = s.update ∧ (State.constantLogged s e).draws = s.draws ∧
    (State.constantLogged s e).diag = s.diag ∧ (State.constantLogged s e).outbox = s.outbox ∧ (State.constantLogged s
    e).pending = s.pending := by
  simp [State.constantLogged, State.logChange_frame _ _, State.event_frame _ _ _ _ _ _ _ _]

theorem State.logConstants_frame (s : State) :
    (State.logConstants s).unit = s.unit ∧ (State.logConstants s).opUs = s.opUs ∧ (State.logConstants s).savedOpUs =
    s.savedOpUs ∧ (State.logConstants s).powerCycle = s.powerCycle ∧ (State.logConstants s).epoch = s.epoch ∧
    (State.logConstants s).power = s.power ∧ (State.logConstants s).rt = s.rt ∧ (State.logConstants s).sec = s.sec ∧
    (State.logConstants s).station = s.station ∧ (State.logConstants s).eng = s.eng ∧ (State.logConstants s).vote =
    s.vote ∧ (State.logConstants s).ash = s.ash ∧ (State.logConstants s).field = s.field ∧ (State.logConstants s).can
    = s.can ∧ (State.logConstants s).net = s.net ∧ (State.logConstants s).hi = s.hi ∧ (State.logConstants s).xings =
    s.xings ∧ (State.logConstants s).mg = s.mg ∧ (State.logConstants s).test = s.test ∧ (State.logConstants s).update
    = s.update ∧ (State.logConstants s).draws = s.draws ∧ (State.logConstants s).diag = s.diag ∧ (State.logConstants
    s).outbox = s.outbox ∧ (State.logConstants s).pending = s.pending := by
  simp [State.logConstants, State.constantLogged_frame _ _]

theorem State.decideConstantSet_frame (s : State) (q : Req) :
    (State.decideConstantSet s q).unit = s.unit ∧ (State.decideConstantSet s q).opUs = s.opUs ∧
    (State.decideConstantSet s q).savedOpUs = s.savedOpUs ∧ (State.decideConstantSet s q).powerCycle = s.powerCycle ∧
    (State.decideConstantSet s q).epoch = s.epoch ∧ (State.decideConstantSet s q).power = s.power ∧
    (State.decideConstantSet s q).rt = s.rt ∧ (State.decideConstantSet s q).sec = s.sec ∧
    (State.decideConstantSet s q).station = s.station ∧ (State.decideConstantSet s q).eng = s.eng ∧
    (State.decideConstantSet s q).vote = s.vote ∧ (State.decideConstantSet s q).ash = s.ash ∧
    (State.decideConstantSet s q).field = s.field ∧ (State.decideConstantSet s q).can = s.can ∧
    (State.decideConstantSet s q).xings = s.xings ∧ (State.decideConstantSet s q).test = s.test ∧
    (State.decideConstantSet s q).update = s.update ∧ (State.decideConstantSet s q).draws = s.draws ∧
    (State.decideConstantSet s q).diag = s.diag ∧ (State.decideConstantSet s q).pending = s.pending := by
  simp only [State.decideConstantSet, State.clCommand]; (repeat' split) <;> simp [State.complete_frame _ _ _ _ _ _ _,
        State.heard_frame _ _, State.applyConstants_frame _, State.noteCluster_frame _ _ _,
        State.constantLogged_frame _ _, State.logFull_frame _ _ _]

theorem State.decideConstantGet_frame (s : State) (q : Req) :
    (State.decideConstantGet s q).unit = s.unit ∧ (State.decideConstantGet s q).opUs = s.opUs ∧
    (State.decideConstantGet s q).savedOpUs = s.savedOpUs ∧ (State.decideConstantGet s q).powerCycle = s.powerCycle ∧
    (State.decideConstantGet s q).epoch = s.epoch ∧ (State.decideConstantGet s q).power = s.power ∧
    (State.decideConstantGet s q).rt = s.rt ∧ (State.decideConstantGet s q).sec = s.sec ∧
    (State.decideConstantGet s q).station = s.station ∧ (State.decideConstantGet s q).eng = s.eng ∧
    (State.decideConstantGet s q).vote = s.vote ∧ (State.decideConstantGet s q).ash = s.ash ∧
    (State.decideConstantGet s q).field = s.field ∧ (State.decideConstantGet s q).can = s.can ∧
    (State.decideConstantGet s q).net = s.net ∧ (State.decideConstantGet s q).xings = s.xings ∧
    (State.decideConstantGet s q).recorder = s.recorder ∧ (State.decideConstantGet s q).log = s.log ∧
    (State.decideConstantGet s q).test = s.test ∧ (State.decideConstantGet s q).update = s.update ∧
    (State.decideConstantGet s q).draws = s.draws ∧ (State.decideConstantGet s q).diag = s.diag ∧
    (State.decideConstantGet s q).pending = s.pending := by
  simp only [State.decideConstantGet, State.clCommand]; (repeat' split) <;> simp [State.complete_frame _ _ _ _ _ _ _,
        State.heard_frame _ _]

theorem State.await_frame (s : State) (w : Waiting) :
    (State.await s w).unit = s.unit ∧ (State.await s w).opUs = s.opUs ∧ (State.await s w).savedOpUs = s.savedOpUs ∧
    (State.await s w).powerCycle = s.powerCycle ∧ (State.await s w).epoch = s.epoch ∧
    (State.await s w).power = s.power ∧ (State.await s w).rt = s.rt ∧ (State.await s w).sec = s.sec ∧
    (State.await s w).station = s.station ∧ (State.await s w).bench = s.bench ∧ (State.await s w).vote = s.vote ∧
    (State.await s w).ash = s.ash ∧ (State.await s w).field = s.field ∧ (State.await s w).can = s.can ∧
    (State.await s w).net = s.net ∧ (State.await s w).hi = s.hi ∧ (State.await s w).xings = s.xings ∧
    (State.await s w).mg = s.mg ∧ (State.await s w).recorder = s.recorder ∧ (State.await s w).log = s.log ∧
    (State.await s w).test = s.test ∧ (State.await s w).update = s.update ∧ (State.await s w).draws = s.draws ∧
    (State.await s w).outbox = s.outbox ∧ (State.await s w).diag = s.diag ∧ (State.await s w).pending = s.pending
    := by
  simp [State.await]

theorem State.decideBenchStart_frame (s : State) (q : Req) :
    (State.decideBenchStart s q).unit = s.unit ∧ (State.decideBenchStart s q).opUs = s.opUs ∧
    (State.decideBenchStart s q).savedOpUs = s.savedOpUs ∧ (State.decideBenchStart s q).powerCycle = s.powerCycle ∧
    (State.decideBenchStart s q).epoch = s.epoch ∧ (State.decideBenchStart s q).rt = s.rt ∧
    (State.decideBenchStart s q).sec = s.sec ∧ (State.decideBenchStart s q).station = s.station ∧
    (State.decideBenchStart s q).field = s.field ∧ (State.decideBenchStart s q).can = s.can ∧
    (State.decideBenchStart s q).log = s.log ∧ (State.decideBenchStart s q).update = s.update ∧
    (State.decideBenchStart s q).draws = s.draws ∧ (State.decideBenchStart s q).diag = s.diag ∧
    (State.decideBenchStart s q).pending = s.pending := by
  simp only [State.decideBenchStart, State.clCommand]; (repeat' split) <;> simp [State.complete_frame _ _ _ _ _ _ _,
        State.heard_frame _ _, State.beginStart_frame _ _ _, State.await_frame _ _]

theorem State.decideBenchStop_frame (s : State) (q : Req) :
    (State.decideBenchStop s q).unit = s.unit ∧ (State.decideBenchStop s q).opUs = s.opUs ∧
    (State.decideBenchStop s q).savedOpUs = s.savedOpUs ∧ (State.decideBenchStop s q).powerCycle = s.powerCycle ∧
    (State.decideBenchStop s q).epoch = s.epoch ∧ (State.decideBenchStop s q).power = s.power ∧
    (State.decideBenchStop s q).rt = s.rt ∧ (State.decideBenchStop s q).sec = s.sec ∧
    (State.decideBenchStop s q).station = s.station ∧ (State.decideBenchStop s q).vote = s.vote ∧
    (State.decideBenchStop s q).ash = s.ash ∧ (State.decideBenchStop s q).field = s.field ∧
    (State.decideBenchStop s q).can = s.can ∧ (State.decideBenchStop s q).net = s.net ∧
    (State.decideBenchStop s q).xings = s.xings ∧ (State.decideBenchStop s q).recorder = s.recorder ∧
    (State.decideBenchStop s q).log = s.log ∧ (State.decideBenchStop s q).test = s.test ∧
    (State.decideBenchStop s q).update = s.update ∧ (State.decideBenchStop s q).draws = s.draws ∧
    (State.decideBenchStop s q).diag = s.diag ∧ (State.decideBenchStop s q).pending = s.pending := by
  simp only [State.decideBenchStop, State.clCommand]; (repeat' split) <;> simp [State.complete_frame _ _ _ _ _ _ _,
        State.heard_frame _ _, State.await_frame _ _]

theorem State.decideBenchRestart_frame (s : State) (q : Req) :
    (State.decideBenchRestart s q).unit = s.unit ∧ (State.decideBenchRestart s q).opUs = s.opUs ∧
    (State.decideBenchRestart s q).savedOpUs = s.savedOpUs ∧ (State.decideBenchRestart s q).powerCycle = s.powerCycle
    ∧ (State.decideBenchRestart s q).epoch = s.epoch ∧ (State.decideBenchRestart s q).rt = s.rt ∧
    (State.decideBenchRestart s q).sec = s.sec ∧ (State.decideBenchRestart s q).station = s.station ∧
    (State.decideBenchRestart s q).field = s.field ∧ (State.decideBenchRestart s q).can = s.can ∧
    (State.decideBenchRestart s q).log = s.log ∧ (State.decideBenchRestart s q).update = s.update ∧
    (State.decideBenchRestart s q).draws = s.draws ∧ (State.decideBenchRestart s q).diag = s.diag ∧
    (State.decideBenchRestart s q).pending = s.pending := by
  simp only [State.decideBenchRestart, State.clCommand]; (repeat' split) <;> simp [State.complete_frame _ _ _ _ _ _ _,
        State.heard_frame _ _, State.beginStart_frame _ _ _, State.await_frame _ _, State.event_frame _ _ _ _ _ _ _ _]

end Sys2Proof.Machine
end

