-- ==== Sys2Proof/Laws/Bench.lean ====
section
/-! SUPPORT. What the operations of Machine/Bench.lean leave alone: one lemma for each, naming every part of the state that
it does not write. -/

namespace Sys2Proof.Machine

open Sys2Proof

theorem State.decideCluster_frame (s : State) (op : ℕ) (q : Req) :
    (State.decideCluster s op q).unit = s.unit ∧ (State.decideCluster s op q).opUs = s.opUs ∧
    (State.decideCluster s op q).savedOpUs = s.savedOpUs ∧ (State.decideCluster s op q).powerCycle = s.powerCycle ∧
    (State.decideCluster s op q).epoch = s.epoch ∧ (State.decideCluster s op q).rt = s.rt ∧
    (State.decideCluster s op q).station = s.station ∧ (State.decideCluster s op q).can = s.can ∧
    (State.decideCluster s op q).diag = s.diag ∧ (State.decideCluster s op q).pending = s.pending := by
  unfold State.decideCluster; (repeat' split) <;> simp [State.decideShutdown_frame _ _,
        State.decideRouteSet_frame _ _, State.decideRouteCancel_frame _ _, State.decidePointMove_frame _ _,
        State.decideSignalStop_frame _ _, State.decideRouteState_frame _ _, State.decideElementState_frame _ _,
        State.decideAuxPrepare_frame _ _, State.decideAuxConfirm_frame _ _, State.decideDoorOpen_frame _ _,
        State.decideDoorClose_frame _ _, State.decideBenchStart_frame _ _, State.decideBenchStop_frame _ _,
        State.decideBenchRestart_frame _ _, State.decideForceSet_frame _ _, State.decideForceClear_frame _ _,
        State.decideForceList_frame _ _, State.decideConstantSet_frame _ _, State.decideConstantGet_frame _ _,
        State.decideUpdateActivate_frame _ _, State.decideRoleLogin_frame _ _, State.decideRoleLogout_frame _ _,
        State.decidePasswordSet_frame _ _, State.decideKeyInstall_frame _ _, State.decideLifecycleAdvance_frame _ _,
        State.decideLockoutRelease_frame _ _]

theorem State.takeQueue_frame (s : State) (due : Queued → Bool) :
    (State.takeQueue s due).1.unit = s.unit ∧ (State.takeQueue s due).1.opUs = s.opUs ∧
    (State.takeQueue s due).1.savedOpUs = s.savedOpUs ∧ (State.takeQueue s due).1.powerCycle = s.powerCycle ∧
    (State.takeQueue s due).1.epoch = s.epoch ∧ (State.takeQueue s due).1.power = s.power ∧
    (State.takeQueue s due).1.rt = s.rt ∧ (State.takeQueue s due).1.sec = s.sec ∧
    (State.takeQueue s due).1.station = s.station ∧ (State.takeQueue s due).1.bench = s.bench ∧
    (State.takeQueue s due).1.vote = s.vote ∧ (State.takeQueue s due).1.ash = s.ash ∧
    (State.takeQueue s due).1.field = s.field ∧ (State.takeQueue s due).1.can = s.can ∧
    (State.takeQueue s due).1.net = s.net ∧ (State.takeQueue s due).1.hi = s.hi ∧
    (State.takeQueue s due).1.recorder = s.recorder ∧ (State.takeQueue s due).1.log = s.log ∧
    (State.takeQueue s due).1.test = s.test ∧ (State.takeQueue s due).1.update = s.update ∧
    (State.takeQueue s due).1.draws = s.draws ∧ (State.takeQueue s due).1.outbox = s.outbox ∧
    (State.takeQueue s due).1.diag = s.diag ∧ (State.takeQueue s due).1.pending = s.pending := by
  simp [State.takeQueue, State.setXing_frame _ _ _]

theorem State.freezeRequests_frame (s : State) :
    (State.freezeRequests s).unit = s.unit ∧ (State.freezeRequests s).opUs = s.opUs ∧
    (State.freezeRequests s).savedOpUs = s.savedOpUs ∧ (State.freezeRequests s).powerCycle = s.powerCycle ∧
    (State.freezeRequests s).epoch = s.epoch ∧ (State.freezeRequests s).power = s.power ∧
    (State.freezeRequests s).rt = s.rt ∧ (State.freezeRequests s).sec = s.sec ∧
    (State.freezeRequests s).station = s.station ∧ (State.freezeRequests s).vote = s.vote ∧
    (State.freezeRequests s).ash = s.ash ∧ (State.freezeRequests s).field = s.field ∧
    (State.freezeRequests s).can = s.can ∧ (State.freezeRequests s).net = s.net ∧
    (State.freezeRequests s).recorder = s.recorder ∧ (State.freezeRequests s).log = s.log ∧
    (State.freezeRequests s).test = s.test ∧ (State.freezeRequests s).update = s.update ∧
    (State.freezeRequests s).draws = s.draws ∧ (State.freezeRequests s).diag = s.diag ∧
    (State.freezeRequests s).pending = s.pending := by
  unfold State.freezeRequests; dsimp only; split <;> simp [State.takeQueue_frame _ _, State.complete_frame _ _ _ _ _ _ _]

theorem State.localValue_frame (s : State) (i : ℕ) (e : Element) :
    (State.localValue s i e).unit = s.unit ∧ (State.localValue s i e).opUs = s.opUs ∧
    (State.localValue s i e).savedOpUs = s.savedOpUs ∧ (State.localValue s i e).powerCycle = s.powerCycle ∧
    (State.localValue s i e).epoch = s.epoch ∧ (State.localValue s i e).power = s.power ∧
    (State.localValue s i e).rt = s.rt ∧ (State.localValue s i e).sec = s.sec ∧
    (State.localValue s i e).station = s.station ∧ (State.localValue s i e).bench = s.bench ∧
    (State.localValue s i e).vote = s.vote ∧ (State.localValue s i e).ash = s.ash ∧
    (State.localValue s i e).field = s.field ∧ (State.localValue s i e).can = s.can ∧
    (State.localValue s i e).net = s.net ∧ (State.localValue s i e).hi = s.hi ∧
    (State.localValue s i e).xings = s.xings ∧ (State.localValue s i e).mg = s.mg ∧
    (State.localValue s i e).recorder = s.recorder ∧ (State.localValue s i e).log = s.log ∧
    (State.localValue s i e).test = s.test ∧ (State.localValue s i e).update = s.update ∧
    (State.localValue s i e).draws = s.draws ∧ (State.localValue s i e).outbox = s.outbox ∧
    (State.localValue s i e).diag = s.diag ∧ (State.localValue s i e).pending = s.pending := by
  unfold State.localValue; (repeat' split) <;> simp [State.modDyn_frame _ _ _]

theorem State.takeValue_frame (s : State) (i : ℕ) (t : ℕ) (v : ℕ) (sampled : ℕ) :
    (State.takeValue s i t v sampled).unit = s.unit ∧ (State.takeValue s i t v sampled).opUs = s.opUs ∧
    (State.takeValue s i t v sampled).savedOpUs = s.savedOpUs ∧
    (State.takeValue s i t v sampled).powerCycle = s.powerCycle ∧ (State.takeValue s i t v sampled).epoch = s.epoch ∧
    (State.takeValue s i t v sampled).power = s.power ∧ (State.takeValue s i t v sampled).rt = s.rt ∧
    (State.takeValue s i t v sampled).sec = s.sec ∧ (State.takeValue s i t v sampled).station = s.station ∧
    (State.takeValue s i t v sampled).bench = s.bench ∧ (State.takeValue s i t v sampled).vote = s.vote ∧
    (State.takeValue s i t v sampled).ash = s.ash ∧ (State.takeValue s i t v sampled).field = s.field ∧
    (State.takeValue s i t v sampled).can = s.can ∧ (State.takeValue s i t v sampled).net = s.net ∧
    (State.takeValue s i t v sampled).hi = s.hi ∧ (State.takeValue s i t v sampled).xings = s.xings ∧
    (State.takeValue s i t v sampled).mg = s.mg ∧ (State.takeValue s i t v sampled).recorder = s.recorder ∧
    (State.takeValue s i t v sampled).log = s.log ∧ (State.takeValue s i t v sampled).test = s.test ∧
    (State.takeValue s i t v sampled).update = s.update ∧ (State.takeValue s i t v sampled).draws = s.draws ∧
    (State.takeValue s i t v sampled).outbox = s.outbox ∧ (State.takeValue s i t v sampled).diag = s.diag ∧
    (State.takeValue s i t v sampled).pending = s.pending := by
  simp [State.takeValue, State.modDyn_frame _ _ _]

theorem State.takeRecord_frame (s : State) (n : Node) (t : Accepted) (poll : Option ℕ) (r : ℕ × ℕ × ℕ) :
    (State.takeRecord s n t poll r).unit = s.unit ∧ (State.takeRecord s n t poll r).opUs = s.opUs ∧
    (State.takeRecord s n t poll r).savedOpUs = s.savedOpUs ∧
    (State.takeRecord s n t poll r).powerCycle = s.powerCycle ∧ (State.takeRecord s n t poll r).epoch = s.epoch ∧
    (State.takeRecord s n t poll r).power = s.power ∧ (State.takeRecord s n t poll r).rt = s.rt ∧
    (State.takeRecord s n t poll r).sec = s.sec ∧ (State.takeRecord s n t poll r).station = s.station ∧
    (State.takeRecord s n t poll r).bench = s.bench ∧ (State.takeRecord s n t poll r).vote = s.vote ∧
    (State.takeRecord s n t poll r).ash = s.ash ∧ (State.takeRecord s n t poll r).field = s.field ∧
    (State.takeRecord s n t poll r).can = s.can ∧ (State.takeRecord s n t poll r).net = s.net ∧
    (State.takeRecord s n t poll r).hi = s.hi ∧ (State.takeRecord s n t poll r).xings = s.xings ∧
    (State.takeRecord s n t poll r).mg = s.mg ∧ (State.takeRecord s n t poll r).log = s.log ∧
    (State.takeRecord s n t poll r).test = s.test ∧ (State.takeRecord s n t poll r).update = s.update ∧
    (State.takeRecord s n t poll r).draws = s.draws ∧ (State.takeRecord s n t poll r).outbox = s.outbox ∧
    (State.takeRecord s n t poll r).diag = s.diag ∧ (State.takeRecord s n t poll r).pending = s.pending := by
  simp only [State.takeRecord]; (repeat' split) <;> simp [State.modDyn_frame _ _ _, State.event_frame _ _ _ _ _ _ _ _,
        State.takeValue_frame _ _ _ _ _]

theorem State.takeLife_frame (s : State) (n : Node) (t : Accepted) :
    (State.takeLife s n t).unit = s.unit ∧ (State.takeLife s n t).opUs = s.opUs ∧
    (State.takeLife s n t).savedOpUs = s.savedOpUs ∧ (State.takeLife s n t).powerCycle = s.powerCycle ∧
    (State.takeLife s n t).epoch = s.epoch ∧ (State.takeLife s n t).power = s.power ∧ (State.takeLife s n t).rt = s.rt
    ∧ (State.takeLife s n t).sec = s.sec ∧ (State.takeLife s n t).station = s.station ∧
    (State.takeLife s n t).bench = s.bench ∧ (State.takeLife s n t).vote = s.vote ∧ (State.takeLife s n t).ash = s.ash
    ∧ (State.takeLife s n t).field = s.field ∧ (State.takeLife s n t).can = s.can ∧ (State.takeLife s n t).net = s.net
    ∧ (State.takeLife s n t).hi = s.hi ∧ (State.takeLife s n t).xings = s.xings ∧ (State.takeLife s n t).mg = s.mg ∧
    (State.takeLife s n t).recorder = s.recorder ∧ (State.takeLife s n t).log = s.log ∧
    (State.takeLife s n t).test = s.test ∧ (State.takeLife s n t).update = s.update ∧
    (State.takeLife s n t).draws = s.draws ∧ (State.takeLife s n t).outbox = s.outbox ∧
    (State.takeLife s n t).diag = s.diag ∧ (State.takeLife s n t).pending = s.pending := by
  simp [State.takeLife, State.modDyn_frame _ _ _]

theorem State.takeTelegram_frame (s : State) (n : Node) (t : Accepted) (poll : Option ℕ) :
    (State.takeTelegram s n t poll).unit = s.unit ∧ (State.takeTelegram s n t poll).opUs = s.opUs ∧
    (State.takeTelegram s n t poll).savedOpUs = s.savedOpUs ∧
    (State.takeTelegram s n t poll).powerCycle = s.powerCycle ∧ (State.takeTelegram s n t poll).epoch = s.epoch ∧
    (State.takeTelegram s n t poll).power = s.power ∧ (State.takeTelegram s n t poll).rt = s.rt ∧
    (State.takeTelegram s n t poll).sec = s.sec ∧ (State.takeTelegram s n t poll).station = s.station ∧
    (State.takeTelegram s n t poll).bench = s.bench ∧ (State.takeTelegram s n t poll).vote = s.vote ∧
    (State.takeTelegram s n t poll).ash = s.ash ∧ (State.takeTelegram s n t poll).field = s.field ∧
    (State.takeTelegram s n t poll).can = s.can ∧ (State.takeTelegram s n t poll).hi = s.hi ∧
    (State.takeTelegram s n t poll).xings = s.xings ∧ (State.takeTelegram s n t poll).mg = s.mg ∧
    (State.takeTelegram s n t poll).log = s.log ∧ (State.takeTelegram s n t poll).test = s.test ∧
    (State.takeTelegram s n t poll).update = s.update ∧ (State.takeTelegram s n t poll).draws = s.draws ∧
    (State.takeTelegram s n t poll).outbox = s.outbox ∧ (State.takeTelegram s n t poll).diag = s.diag ∧
    (State.takeTelegram s n t poll).pending = s.pending := by
  simp [State.takeTelegram, State.takeLife_frame _ _ _, State.modNode_frame _ _ _, State.takeRecord_frame _ _ _ _ _]

theorem State.takeNode_frame (s : State) (n : Node) :
    (State.takeNode s n).unit = s.unit ∧ (State.takeNode s n).opUs = s.opUs ∧
    (State.takeNode s n).savedOpUs = s.savedOpUs ∧ (State.takeNode s n).powerCycle = s.powerCycle ∧
    (State.takeNode s n).epoch = s.epoch ∧ (State.takeNode s n).power = s.power ∧ (State.takeNode s n).rt = s.rt ∧
    (State.takeNode s n).sec = s.sec ∧ (State.takeNode s n).station = s.station ∧ (State.takeNode s n).bench = s.bench
    ∧ (State.takeNode s n).vote = s.vote ∧ (State.takeNode s n).ash = s.ash ∧ (State.takeNode s n).field = s.field ∧
    (State.takeNode s n).can = s.can ∧ (State.takeNode s n).hi = s.hi ∧ (State.takeNode s n).xings = s.xings ∧
    (State.takeNode s n).mg = s.mg ∧ (State.takeNode s n).log = s.log ∧ (State.takeNode s n).test = s.test ∧
    (State.takeNode s n).update = s.update ∧ (State.takeNode s n).draws = s.draws ∧
    (State.takeNode s n).outbox = s.outbox ∧ (State.takeNode s n).diag = s.diag ∧
    (State.takeNode s n).pending = s.pending := by
  simp only [State.takeNode]; (repeat' split) <;> simp [State.takeTelegram_frame _ _ _ _, State.modNode_frame _ _ _]

theorem State.baseTimeout_frame (s : State) (n : Node) :
    (State.baseTimeout s n).unit = s.unit ∧ (State.baseTimeout s n).opUs = s.opUs ∧
    (State.baseTimeout s n).savedOpUs = s.savedOpUs ∧ (State.baseTimeout s n).powerCycle = s.powerCycle ∧
    (State.baseTimeout s n).epoch = s.epoch ∧ (State.baseTimeout s n).power = s.power ∧
    (State.baseTimeout s n).rt = s.rt ∧ (State.baseTimeout s n).sec = s.sec ∧
    (State.baseTimeout s n).station = s.station ∧ (State.baseTimeout s n).bench = s.bench ∧
    (State.baseTimeout s n).eng = s.eng ∧ (State.baseTimeout s n).vote = s.vote ∧ (State.baseTimeout s n).ash = s.ash
    ∧ (State.baseTimeout s n).field = s.field ∧ (State.baseTimeout s n).can = s.can ∧
    (State.baseTimeout s n).hi = s.hi ∧ (State.baseTimeout s n).xings = s.xings ∧ (State.baseTimeout s n).mg = s.mg ∧
    (State.baseTimeout s n).recorder = s.recorder ∧ (State.baseTimeout s n).log = s.log ∧
    (State.baseTimeout s n).test = s.test ∧ (State.baseTimeout s n).update = s.update ∧
    (State.baseTimeout s n).draws = s.draws ∧ (State.baseTimeout s n).outbox = s.outbox ∧
    (State.baseTimeout s n).diag = s.diag ∧ (State.baseTimeout s n).pending = s.pending := by
  simp [State.baseTimeout, State.modNode_frame _ _ _]

theorem State.nodeNote_frame (s : State) (d : NodeDyn) (cause : ℕ) :
    (State.nodeNote s d cause).unit = s.unit ∧ (State.nodeNote s d cause).opUs = s.opUs ∧
    (State.nodeNote s d cause).savedOpUs = s.savedOpUs ∧ (State.nodeNote s d cause).powerCycle = s.powerCycle ∧
    (State.nodeNote s d cause).epoch = s.epoch ∧ (State.nodeNote s d cause).power = s.power ∧
    (State.nodeNote s d cause).rt = s.rt ∧ (State.nodeNote s d cause).sec = s.sec ∧
    (State.nodeNote s d cause).station = s.station ∧ (State.nodeNote s d cause).eng = s.eng ∧
    (State.nodeNote s d cause).vote = s.vote ∧ (State.nodeNote s d cause).ash = s.ash ∧
    (State.nodeNote s d cause).field = s.field ∧ (State.nodeNote s d cause).can = s.can ∧
    (State.nodeNote s d cause).net = s.net ∧ (State.nodeNote s d cause).xings = s.xings ∧
    (State.nodeNote s d cause).mg = s.mg ∧ (State.nodeNote s d cause).recorder = s.recorder ∧
    (State.nodeNote s d cause).log = s.log ∧ (State.nodeNote s d cause).test = s.test ∧
    (State.nodeNote s d cause).update = s.update ∧ (State.nodeNote s d cause).draws = s.draws ∧
    (State.nodeNote s d cause).diag = s.diag ∧ (State.nodeNote s d cause).pending = s.pending := by
  simp [State.nodeNote, State.noteCluster_frame _ _ _]

theorem State.judgeNode_frame (s : State) (n : Node) :
    (State.judgeNode s n).unit = s.unit ∧ (State.judgeNode s n).opUs = s.opUs ∧
    (State.judgeNode s n).savedOpUs = s.savedOpUs ∧ (State.judgeNode s n).powerCycle = s.powerCycle ∧
    (State.judgeNode s n).epoch = s.epoch ∧ (State.judgeNode s n).power = s.power ∧ (State.judgeNode s n).rt = s.rt ∧
    (State.judgeNode s n).sec = s.sec ∧ (State.judgeNode s n).station = s.station ∧ (State.judgeNode s n).eng = s.eng
    ∧ (State.judgeNode s n).vote = s.vote ∧ (State.judgeNode s n).ash = s.ash ∧ (State.judgeNode s n).field = s.field
    ∧ (State.judgeNode s n).can = s.can ∧ (State.judgeNode s n).xings = s.xings ∧ (State.judgeNode s n).mg = s.mg ∧
    (State.judgeNode s n).log = s.log ∧ (State.judgeNode s n).test = s.test ∧ (State.judgeNode s n).update = s.update
    ∧ (State.judgeNode s n).draws = s.draws ∧ (State.judgeNode s n).diag = s.diag ∧
    (State.judgeNode s n).pending = s.pending := by
  unfold State.judgeNode; (repeat' split) <;> simp [State.nodeNote_frame _ _ _, State.event_frame _ _ _ _ _ _ _ _,
        State.modNode_frame _ _ _]

theorem State.markElement_frame (s : State) (i : ℕ) (e : Element) :
    (State.markElement s i e).unit = s.unit ∧ (State.markElement s i e).opUs = s.opUs ∧
    (State.markElement s i e).savedOpUs = s.savedOpUs ∧ (State.markElement s i e).powerCycle = s.powerCycle ∧
    (State.markElement s i e).epoch = s.epoch ∧ (State.markElement s i e).power = s.power ∧
    (State.markElement s i e).rt = s.rt ∧ (State.markElement s i e).sec = s.sec ∧
    (State.markElement s i e).station = s.station ∧ (State.markElement s i e).bench = s.bench ∧
    (State.markElement s i e).vote = s.vote ∧ (State.markElement s i e).ash = s.ash ∧
    (State.markElement s i e).field = s.field ∧ (State.markElement s i e).can = s.can ∧
    (State.markElement s i e).net = s.net ∧ (State.markElement s i e).hi = s.hi ∧
    (State.markElement s i e).xings = s.xings ∧ (State.markElement s i e).mg = s.mg ∧
    (State.markElement s i e).recorder = s.recorder ∧ (State.markElement s i e).log = s.log ∧
    (State.markElement s i e).test = s.test ∧ (State.markElement s i e).update = s.update ∧
    (State.markElement s i e).draws = s.draws ∧ (State.markElement s i e).outbox = s.outbox ∧
    (State.markElement s i e).diag = s.diag ∧ (State.markElement s i e).pending = s.pending := by
  unfold State.markElement; (repeat' split) <;> simp [State.modDyn_frame _ _ _]

theorem State.takeThrowTimeout_frame (s : State) (i : ℕ) :
    (State.takeThrowTimeout s i).unit = s.unit ∧ (State.takeThrowTimeout s i).opUs = s.opUs ∧
    (State.takeThrowTimeout s i).savedOpUs = s.savedOpUs ∧ (State.takeThrowTimeout s i).powerCycle = s.powerCycle ∧
    (State.takeThrowTimeout s i).epoch = s.epoch ∧ (State.takeThrowTimeout s i).power = s.power ∧
    (State.takeThrowTimeout s i).rt = s.rt ∧ (State.takeThrowTimeout s i).sec = s.sec ∧
    (State.takeThrowTimeout s i).station = s.station ∧ (State.takeThrowTimeout s i).bench = s.bench ∧
    (State.takeThrowTimeout s i).vote = s.vote ∧ (State.takeThrowTimeout s i).ash = s.ash ∧
    (State.takeThrowTimeout s i).field = s.field ∧ (State.takeThrowTimeout s i).can = s.can ∧
    (State.takeThrowTimeout s i).net = s.net ∧ (State.takeThrowTimeout s i).hi = s.hi ∧
    (State.takeThrowTimeout s i).xings = s.xings ∧ (State.takeThrowTimeout s i).mg = s.mg ∧
    (State.takeThrowTimeout s i).recorder = s.recorder ∧ (State.takeThrowTimeout s i).log = s.log ∧
    (State.takeThrowTimeout s i).test = s.test ∧ (State.takeThrowTimeout s i).update = s.update ∧
    (State.takeThrowTimeout s i).draws = s.draws ∧ (State.takeThrowTimeout s i).outbox = s.outbox ∧
    (State.takeThrowTimeout s i).diag = s.diag ∧ (State.takeThrowTimeout s i).pending = s.pending := by
  unfold State.takeThrowTimeout; (repeat' split) <;> simp [State.modDyn_frame _ _ _]

theorem State.sectionStep_frame (s : State) (i : ℕ) :
    (State.sectionStep s i).unit = s.unit ∧ (State.sectionStep s i).opUs = s.opUs ∧
    (State.sectionStep s i).savedOpUs = s.savedOpUs ∧ (State.sectionStep s i).powerCycle = s.powerCycle ∧
    (State.sectionStep s i).epoch = s.epoch ∧ (State.sectionStep s i).power = s.power ∧
    (State.sectionStep s i).rt = s.rt ∧ (State.sectionStep s i).sec = s.sec ∧
    (State.sectionStep s i).station = s.station ∧ (State.sectionStep s i).bench = s.bench ∧
    (State.sectionStep s i).vote = s.vote ∧ (State.sectionStep s i).ash = s.ash ∧
    (State.sectionStep s i).field = s.field ∧ (State.sectionStep s i).can = s.can ∧
    (State.sectionStep s i).net = s.net ∧ (State.sectionStep s i).hi = s.hi ∧ (State.sectionStep s i).xings = s.xings
    ∧ (State.sectionStep s i).mg = s.mg ∧ (State.sectionStep s i).recorder = s.recorder ∧
    (State.sectionStep s i).log = s.log ∧ (State.sectionStep s i).test = s.test ∧
    (State.sectionStep s i).update = s.update ∧ (State.sectionStep s i).draws = s.draws ∧
    (State.sectionStep s i).outbox = s.outbox ∧ (State.sectionStep s i).diag = s.diag ∧
    (State.sectionStep s i).pending = s.pending := by
  unfold State.sectionStep; (repeat' split) <;> simp [State.setValue_frame _ _ _, State.modDyn_frame _ _ _]

theorem State.underlying_frame (s : State) (i : ℕ) (e : Element) :
    (State.underlying s i e).unit = s.unit ∧ (State.underlying s i e).opUs = s.opUs ∧
    (State.underlying s i e).savedOpUs = s.savedOpUs ∧ (State.underlying s i e).powerCycle = s.powerCycle ∧
    (State.underlying s i e).epoch = s.epoch ∧ (State.underlying s i e).power = s.power ∧
    (State.underlying s i e).rt = s.rt ∧ (State.underlying s i e).sec = s.sec ∧
    (State.underlying s i e).station = s.station ∧ (State.underlying s i e).bench = s.bench ∧
    (State.underlying s i e).vote = s.vote ∧ (State.underlying s i e).ash = s.ash ∧
    (State.underlying s i e).field = s.field ∧ (State.underlying s i e).can = s.can ∧
    (State.underlying s i e).net = s.net ∧ (State.underlying s i e).hi = s.hi ∧
    (State.underlying s i e).xings = s.xings ∧ (State.underlying s i e).mg = s.mg ∧
    (State.underlying s i e).recorder = s.recorder ∧ (State.underlying s i e).log = s.log ∧
    (State.underlying s i e).test = s.test ∧ (State.underlying s i e).update = s.update ∧
    (State.underlying s i e).draws = s.draws ∧ (State.underlying s i e).outbox = s.outbox ∧
    (State.underlying s i e).diag = s.diag ∧ (State.underlying s i e).pending = s.pending := by
  unfold State.underlying; (repeat' split) <;> simp [State.setValue_frame _ _ _, State.modDyn_frame _ _ _,
        State.sectionStep_frame _ _]

theorem State.freezeElement_frame (s : State) (i : ℕ) :
    (State.freezeElement s i).unit = s.unit ∧ (State.freezeElement s i).opUs = s.opUs ∧
    (State.freezeElement s i).savedOpUs = s.savedOpUs ∧ (State.freezeElement s i).powerCycle = s.powerCycle ∧
    (State.freezeElement s i).epoch = s.epoch ∧ (State.freezeElement s i).power = s.power ∧
    (State.freezeElement s i).rt = s.rt ∧ (State.freezeElement s i).sec = s.sec ∧
    (State.freezeElement s i).station = s.station ∧ (State.freezeElement s i).bench = s.bench ∧
    (State.freezeElement s i).vote = s.vote ∧ (State.freezeElement s i).ash = s.ash ∧
    (State.freezeElement s i).field = s.field ∧ (State.freezeElement s i).can = s.can ∧
    (State.freezeElement s i).net = s.net ∧ (State.freezeElement s i).hi = s.hi ∧
    (State.freezeElement s i).xings = s.xings ∧ (State.freezeElement s i).mg = s.mg ∧
    (State.freezeElement s i).recorder = s.recorder ∧ (State.freezeElement s i).log = s.log ∧
    (State.freezeElement s i).test = s.test ∧ (State.freezeElement s i).update = s.update ∧
    (State.freezeElement s i).draws = s.draws ∧ (State.freezeElement s i).outbox = s.outbox ∧
    (State.freezeElement s i).diag = s.diag ∧ (State.freezeElement s i).pending = s.pending := by
  unfold State.freezeElement; (repeat' split) <;> simp [State.modDyn_frame _ _ _, State.underlying_frame _ _ _]

theorem State.openCycle_frame (s : State) :
    (State.openCycle s).unit = s.unit ∧ (State.openCycle s).opUs = s.opUs ∧
    (State.openCycle s).savedOpUs = s.savedOpUs ∧ (State.openCycle s).powerCycle = s.powerCycle ∧
    (State.openCycle s).epoch = s.epoch ∧ (State.openCycle s).power = s.power ∧ (State.openCycle s).rt = s.rt ∧
    (State.openCycle s).sec = s.sec ∧ (State.openCycle s).station = s.station ∧ (State.openCycle s).eng = s.eng ∧
    (State.openCycle s).vote = s.vote ∧ (State.openCycle s).ash = s.ash ∧ (State.openCycle s).field = s.field ∧
    (State.openCycle s).can = s.can ∧ (State.openCycle s).hi = s.hi ∧ (State.openCycle s).xings = s.xings ∧
    (State.openCycle s).mg = s.mg ∧ (State.openCycle s).recorder = s.recorder ∧ (State.openCycle s).log = s.log ∧
    (State.openCycle s).test = s.test ∧ (State.openCycle s).update = s.update ∧ (State.openCycle s).draws = s.draws ∧
    (State.openCycle s).outbox = s.outbox ∧ (State.openCycle s).diag = s.diag ∧
    (State.openCycle s).pending = s.pending := by
  simp [State.openCycle, State.applyConstants_frame _, State.putForces_frame _ _]

theorem State.sampleXing_frame (s : State) (x : Crossing) (samples : List Word) :
    (State.sampleXing s x samples).unit = s.unit ∧ (State.sampleXing s x samples).opUs = s.opUs ∧ (State.sampleXing s
    x samples).savedOpUs = s.savedOpUs ∧ (State.sampleXing s x samples).powerCycle = s.powerCycle ∧ (State.sampleXing
    s x samples).epoch = s.epoch ∧ (State.sampleXing s x samples).power = s.power ∧ (State.sampleXing s x samples).rt
    = s.rt ∧ (State.sampleXing s x samples).sec = s.sec ∧ (State.sampleXing s x samples).station = s.station ∧
    (State.sampleXing s x samples).bench = s.bench ∧ (State.sampleXing s x samples).eng = s.eng ∧ (State.sampleXing s
    x samples).vote = s.vote ∧ (State.sampleXing s x samples).ash = s.ash ∧ (State.sampleXing s x samples).field =
    s.field ∧ (State.sampleXing s x samples).can = s.can ∧ (State.sampleXing s x samples).net = s.net ∧
    (State.sampleXing s x samples).hi = s.hi ∧ (State.sampleXing s x samples).mg = s.mg ∧ (State.sampleXing s x
    samples).log = s.log ∧ (State.sampleXing s x samples).test = s.test ∧ (State.sampleXing s x samples).update =
    s.update ∧ (State.sampleXing s x samples).draws = s.draws ∧ (State.sampleXing s x samples).diag = s.diag ∧
    (State.sampleXing s x samples).outbox = s.outbox ∧ (State.sampleXing s x samples).pending = s.pending := by
  unfold State.sampleXing; dsimp only; (repeat' split) <;> simp [State.setXing_frame _ _ _, State.event_frame _ _ _ _ _ _ _ _]

theorem State.sampleInputs_frame (s : State) (samples : List (Crossing × List Word)) :
    (State.sampleInputs s samples).unit = s.unit ∧ (State.sampleInputs s samples).opUs = s.opUs ∧ (State.sampleInputs
    s samples).savedOpUs = s.savedOpUs ∧ (State.sampleInputs s samples).powerCycle = s.powerCycle ∧
    (State.sampleInputs s samples).epoch = s.epoch ∧ (State.sampleInputs s samples).power = s.power ∧
    (State.sampleInputs s samples).rt = s.rt ∧ (State.sampleInputs s samples).sec = s.sec ∧ (State.sampleInputs s
    samples).station = s.station ∧ (State.sampleInputs s samples).bench = s.bench ∧ (State.sampleInputs s samples).eng
    = s.eng ∧ (State.sampleInputs s samples).vote = s.vote ∧ (State.sampleInputs s samples).ash = s.ash ∧
    (State.sampleInputs s samples).field = s.field ∧ (State.sampleInputs s samples).can = s.can ∧ (State.sampleInputs
    s samples).net = s.net ∧ (State.sampleInputs s samples).hi = s.hi ∧ (State.sampleInputs s samples).mg = s.mg ∧
    (State.sampleInputs s samples).log = s.log ∧ (State.sampleInputs s samples).test = s.test ∧ (State.sampleInputs s
    samples).update = s.update ∧ (State.sampleInputs s samples).draws = s.draws ∧ (State.sampleInputs s samples).diag
    = s.diag ∧ (State.sampleInputs s samples).outbox = s.outbox ∧ (State.sampleInputs s samples).pending = s.pending
    := by
  simp [State.sampleInputs, State.sampleXing_frame _ _ _]

theorem State.missFrame_frame (s : State) :
    (State.missFrame s).unit = s.unit ∧ (State.missFrame s).opUs = s.opUs ∧ (State.missFrame s).savedOpUs =
    s.savedOpUs ∧ (State.missFrame s).powerCycle = s.powerCycle ∧ (State.missFrame s).epoch = s.epoch ∧
    (State.missFrame s).power = s.power ∧ (State.missFrame s).rt = s.rt ∧ (State.missFrame s).sec = s.sec ∧
    (State.missFrame s).station = s.station ∧ (State.missFrame s).bench = s.bench ∧ (State.missFrame s).eng = s.eng ∧
    (State.missFrame s).vote = s.vote ∧ (State.missFrame s).ash = s.ash ∧ (State.missFrame s).can = s.can ∧
    (State.missFrame s).net = s.net ∧ (State.missFrame s).hi = s.hi ∧ (State.missFrame s).xings = s.xings ∧
    (State.missFrame s).mg = s.mg ∧ (State.missFrame s).recorder = s.recorder ∧ (State.missFrame s).log = s.log ∧
    (State.missFrame s).test = s.test ∧ (State.missFrame s).update = s.update ∧ (State.missFrame s).draws = s.draws ∧
    (State.missFrame s).diag = s.diag ∧ (State.missFrame s).outbox = s.outbox ∧ (State.missFrame s).pending =
    s.pending := by
  simp [State.missFrame]

theorem State.dropDescriptors_frame (s : State) :
    (State.dropDescriptors s).unit = s.unit ∧ (State.dropDescriptors s).opUs = s.opUs ∧ (State.dropDescriptors
    s).savedOpUs = s.savedOpUs ∧ (State.dropDescriptors s).powerCycle = s.powerCycle ∧ (State.dropDescriptors s).epoch
    = s.epoch ∧ (State.dropDescriptors s).power = s.power ∧ (State.dropDescriptors s).rt = s.rt ∧
    (State.dropDescriptors s).sec = s.sec ∧ (State.dropDescriptors s).station = s.station ∧ (State.dropDescriptors
    s).bench = s.bench ∧ (State.dropDescriptors s).eng = s.eng ∧ (State.dropDescriptors s).vote = s.vote ∧
    (State.dropDescriptors s).ash = s.ash ∧ (State.dropDescriptors s).field = s.field ∧ (State.dropDescriptors s).can
    = s.can ∧ (State.dropDescriptors s).hi = s.hi ∧ (State.dropDescriptors s).xings = s.xings ∧ (State.dropDescriptors
    s).mg = s.mg ∧ (State.dropDescriptors s).recorder = s.recorder ∧ (State.dropDescriptors s).log = s.log ∧
    (State.dropDescriptors s).test = s.test ∧ (State.dropDescriptors s).update = s.update ∧ (State.dropDescriptors
    s).draws = s.draws ∧ (State.dropDescriptors s).diag = s.diag ∧ (State.dropDescriptors s).outbox = s.outbox ∧
    (State.dropDescriptors s).pending = s.pending := by
  simp [-List.foldl_reverse, State.dropDescriptors, State.modNode_frame _ _ _]

theorem State.takeInputs_frame (s : State) :
    (State.takeInputs s).unit = s.unit ∧ (State.takeInputs s).opUs = s.opUs ∧
    (State.takeInputs s).savedOpUs = s.savedOpUs ∧ (State.takeInputs s).powerCycle = s.powerCycle ∧
    (State.takeInputs s).epoch = s.epoch ∧ (State.takeInputs s).power = s.power ∧ (State.takeInputs s).rt = s.rt ∧
    (State.takeInputs s).sec = s.sec ∧ (State.takeInputs s).station = s.station ∧ (State.takeInputs s).ash = s.ash ∧
    (State.takeInputs s).can = s.can ∧ (State.takeInputs s).log = s.log ∧ (State.takeInputs s).test = s.test ∧
    (State.takeInputs s).update = s.update ∧ (State.takeInputs s).draws = s.draws ∧ (State.takeInputs s).diag = s.diag
    ∧ (State.takeInputs s).pending = s.pending := by
  simp only [State.takeInputs, State.eachElement]; simp [State.missFrame_frame _, State.dropDescriptors_frame _, State.carry_frame _ _, State.takeNode_frame _ _, State.localValue_frame _ _ _,
        State.freezeRequests_frame _]

theorem State.buildImage_frame (s : State) :
    (State.buildImage s).unit = s.unit ∧ (State.buildImage s).opUs = s.opUs ∧
    (State.buildImage s).savedOpUs = s.savedOpUs ∧ (State.buildImage s).powerCycle = s.powerCycle ∧
    (State.buildImage s).epoch = s.epoch ∧ (State.buildImage s).power = s.power ∧ (State.buildImage s).rt = s.rt ∧
    (State.buildImage s).sec = s.sec ∧ (State.buildImage s).station = s.station ∧ (State.buildImage s).vote = s.vote ∧
    (State.buildImage s).ash = s.ash ∧ (State.buildImage s).field = s.field ∧ (State.buildImage s).xings = s.xings ∧
    (State.buildImage s).mg = s.mg ∧ (State.buildImage s).log = s.log ∧ (State.buildImage s).test = s.test ∧
    (State.buildImage s).update = s.update ∧ (State.buildImage s).draws = s.draws ∧ (State.buildImage s).diag = s.diag
    ∧ (State.buildImage s).pending = s.pending := by
  simp only [State.buildImage, State.eachElement]; simp [State.watchFreeze_frame _ _, State.suspendCloses_frame _, State.keepImage_frame _, State.freezeElement_frame _ _, State.markElement_frame _ _ _,
        State.judgeNode_frame _ _, State.baseTimeout_frame _ _]

theorem State.refreshDiag_frame (s : State) :
    (State.refreshDiag s).unit = s.unit ∧ (State.refreshDiag s).opUs = s.opUs ∧ (State.refreshDiag s).savedOpUs =
    s.savedOpUs ∧ (State.refreshDiag s).powerCycle = s.powerCycle ∧ (State.refreshDiag s).epoch = s.epoch ∧
    (State.refreshDiag s).power = s.power ∧ (State.refreshDiag s).rt = s.rt ∧ (State.refreshDiag s).sec = s.sec ∧
    (State.refreshDiag s).station = s.station ∧ (State.refreshDiag s).bench = s.bench ∧ (State.refreshDiag s).eng =
    s.eng ∧ (State.refreshDiag s).vote = s.vote ∧ (State.refreshDiag s).ash = s.ash ∧ (State.refreshDiag s).field =
    s.field ∧ (State.refreshDiag s).can = s.can ∧ (State.refreshDiag s).net = s.net ∧ (State.refreshDiag s).hi = s.hi
    ∧ (State.refreshDiag s).xings = s.xings ∧ (State.refreshDiag s).mg = s.mg ∧ (State.refreshDiag s).recorder =
    s.recorder ∧ (State.refreshDiag s).log = s.log ∧ (State.refreshDiag s).test = s.test ∧ (State.refreshDiag
    s).update = s.update ∧ (State.refreshDiag s).draws = s.draws ∧ (State.refreshDiag s).outbox = s.outbox ∧
    (State.refreshDiag s).pending = s.pending := by
  simp [State.refreshDiag]

theorem State.phaseI_frame (s : State) (samples : List (Crossing × List Word)) :
    (State.phaseI s samples).unit = s.unit ∧ (State.phaseI s samples).opUs = s.opUs ∧
    (State.phaseI s samples).savedOpUs = s.savedOpUs ∧ (State.phaseI s samples).powerCycle = s.powerCycle ∧
    (State.phaseI s samples).epoch = s.epoch ∧ (State.phaseI s samples).power = s.power ∧
    (State.phaseI s samples).rt = s.rt ∧ (State.phaseI s samples).sec = s.sec ∧
    (State.phaseI s samples).station = s.station ∧ (State.phaseI s samples).ash = s.ash ∧
    (State.phaseI s samples).log = s.log ∧ (State.phaseI s samples).update = s.update ∧
    (State.phaseI s samples).draws = s.draws ∧ (State.phaseI s samples).diag = s.diag ∧
    (State.phaseI s samples).pending = s.pending := by
  simp [State.phaseI, State.sampleInputs_frame _ _, State.dwellSync_frame _, State.takeThrowTimeout_frame _ _, State.learnLeaf_frame _ _,
        State.joinCore_frame _ _, State.buildImage_frame _, State.takeInputs_frame _, State.openCycle_frame _]

theorem State.workStep_frame (s : State) (w : Work) :
    (State.workStep s w).unit = s.unit ∧ (State.workStep s w).opUs = s.opUs ∧
    (State.workStep s w).savedOpUs = s.savedOpUs ∧ (State.workStep s w).powerCycle = s.powerCycle ∧
    (State.workStep s w).epoch = s.epoch ∧ (State.workStep s w).rt = s.rt ∧ (State.workStep s w).station = s.station ∧
    (State.workStep s w).can = s.can ∧ (State.workStep s w).diag = s.diag ∧ (State.workStep s w).pending = s.pending
    := by
  unfold State.workStep; (repeat' split) <;> simp [State.evalPend_frame _ _, State.decideCluster_frame _ _ _]

theorem State.decideThese_frame (s : State) (which : ℕ → Bool) :
    (State.decideThese s which).unit = s.unit ∧ (State.decideThese s which).opUs = s.opUs ∧
    (State.decideThese s which).savedOpUs = s.savedOpUs ∧ (State.decideThese s which).powerCycle = s.powerCycle ∧
    (State.decideThese s which).epoch = s.epoch ∧ (State.decideThese s which).rt = s.rt ∧
    (State.decideThese s which).station = s.station ∧ (State.decideThese s which).can = s.can ∧
    (State.decideThese s which).diag = s.diag ∧ (State.decideThese s which).pending = s.pending := by
  simp [State.decideThese, State.decideCluster_frame _ _ _]

theorem State.stepFive_frame (s : State) :
    (State.stepFive s).unit = s.unit ∧ (State.stepFive s).opUs = s.opUs ∧ (State.stepFive s).savedOpUs = s.savedOpUs ∧
    (State.stepFive s).powerCycle = s.powerCycle ∧ (State.stepFive s).epoch = s.epoch ∧ (State.stepFive s).rt = s.rt ∧
    (State.stepFive s).station = s.station ∧ (State.stepFive s).can = s.can ∧ (State.stepFive s).diag = s.diag ∧
    (State.stepFive s).pending = s.pending := by
  simp [State.stepFive, State.workStep_frame _ _]

theorem State.auxDemands_frame (s : State) :
    (State.auxDemands s).unit = s.unit ∧ (State.auxDemands s).opUs = s.opUs ∧
    (State.auxDemands s).savedOpUs = s.savedOpUs ∧ (State.auxDemands s).powerCycle = s.powerCycle ∧
    (State.auxDemands s).epoch = s.epoch ∧ (State.auxDemands s).power = s.power ∧ (State.auxDemands s).rt = s.rt ∧
    (State.auxDemands s).sec = s.sec ∧ (State.auxDemands s).station = s.station ∧ (State.auxDemands s).bench = s.bench
    ∧ (State.auxDemands s).vote = s.vote ∧ (State.auxDemands s).ash = s.ash ∧ (State.auxDemands s).field = s.field ∧
    (State.auxDemands s).can = s.can ∧ (State.auxDemands s).net = s.net ∧ (State.auxDemands s).hi = s.hi ∧
    (State.auxDemands s).xings = s.xings ∧ (State.auxDemands s).mg = s.mg ∧ (State.auxDemands s).recorder = s.recorder
    ∧ (State.auxDemands s).log = s.log ∧ (State.auxDemands s).test = s.test ∧ (State.auxDemands s).update = s.update ∧
    (State.auxDemands s).draws = s.draws ∧ (State.auxDemands s).outbox = s.outbox ∧ (State.auxDemands s).diag = s.diag
    ∧ (State.auxDemands s).pending = s.pending := by
  unfold State.auxDemands
  refine ⟨(State.foldl_unit _ (fun s w => ?_) _ _), (State.foldl_opUs _ (fun s w => ?_) _ _), (State.foldl_savedOpUs _ (fun s w => ?_) _ _), (State.foldl_powerCycle _ (fun s w => ?_) _ _), (State.foldl_epoch _ (fun s w => ?_) _ _), (State.foldl_power _ (fun s w => ?_) _ _), (State.foldl_rt _ (fun s w => ?_) _ _), (State.foldl_sec _ (fun s w => ?_) _ _), (State.foldl_station _ (fun s w => ?_) _ _), (State.foldl_bench _ (fun s w => ?_) _ _), (State.foldl_vote _ (fun s w => ?_) _ _), (State.foldl_ash _ (fun s w => ?_) _ _), (State.foldl_field _ (fun s w => ?_) _ _), (State.foldl_can _ (fun s w => ?_) _ _), (State.foldl_net _ (fun s w => ?_) _ _), (State.foldl_hi _ (fun s w => ?_) _ _), (State.foldl_xings _ (fun s w => ?_) _ _), (State.foldl_mg _ (fun s w => ?_) _ _), (State.foldl_recorder _ (fun s w => ?_) _ _), (State.foldl_log _ (fun s w => ?_) _ _), (State.foldl_test _ (fun s w => ?_) _ _), (State.foldl_update _ (fun s w => ?_) _ _), (State.foldl_draws _ (fun s w => ?_) _ _), (State.foldl_outbox _ (fun s w => ?_) _ _), (State.foldl_diag _ (fun s w => ?_) _ _), (State.foldl_pending _ (fun s w => ?_) _ _)⟩ <;> ((repeat' split) <;> simp [State.demandOf_frame _ _ _])

theorem State.autoCloses_frame (s : State) :
    (State.autoCloses s).unit = s.unit ∧ (State.autoCloses s).opUs = s.opUs ∧
    (State.autoCloses s).savedOpUs = s.savedOpUs ∧ (State.autoCloses s).powerCycle = s.powerCycle ∧
    (State.autoCloses s).epoch = s.epoch ∧ (State.autoCloses s).power = s.power ∧ (State.autoCloses s).rt = s.rt ∧
    (State.autoCloses s).sec = s.sec ∧ (State.autoCloses s).station = s.station ∧ (State.autoCloses s).vote = s.vote ∧
    (State.autoCloses s).ash = s.ash ∧ (State.autoCloses s).field = s.field ∧ (State.autoCloses s).can = s.can ∧
    (State.autoCloses s).net = s.net ∧ (State.autoCloses s).xings = s.xings ∧ (State.autoCloses s).mg = s.mg ∧
    (State.autoCloses s).log = s.log ∧ (State.autoCloses s).test = s.test ∧ (State.autoCloses s).update = s.update ∧
    (State.autoCloses s).draws = s.draws ∧ (State.autoCloses s).diag = s.diag ∧
    (State.autoCloses s).pending = s.pending := by
  simp [State.autoCloses, State.closeEdge_frame _ _, State.autoClose_frame _ _]

theorem State.freeSlots_frame (s : State) :
    (State.freeSlots s).unit = s.unit ∧ (State.freeSlots s).opUs = s.opUs ∧
    (State.freeSlots s).savedOpUs = s.savedOpUs ∧ (State.freeSlots s).powerCycle = s.powerCycle ∧
    (State.freeSlots s).epoch = s.epoch ∧ (State.freeSlots s).power = s.power ∧ (State.freeSlots s).rt = s.rt ∧
    (State.freeSlots s).sec = s.sec ∧ (State.freeSlots s).station = s.station ∧ (State.freeSlots s).bench = s.bench ∧
    (State.freeSlots s).vote = s.vote ∧ (State.freeSlots s).ash = s.ash ∧ (State.freeSlots s).field = s.field ∧
    (State.freeSlots s).can = s.can ∧ (State.freeSlots s).net = s.net ∧ (State.freeSlots s).hi = s.hi ∧
    (State.freeSlots s).xings = s.xings ∧ (State.freeSlots s).mg = s.mg ∧ (State.freeSlots s).recorder = s.recorder ∧
    (State.freeSlots s).log = s.log ∧ (State.freeSlots s).test = s.test ∧ (State.freeSlots s).update = s.update ∧
    (State.freeSlots s).draws = s.draws ∧ (State.freeSlots s).outbox = s.outbox ∧ (State.freeSlots s).diag = s.diag ∧
    (State.freeSlots s).pending = s.pending := by
  simp [State.freeSlots, State.slotLate_frame _]

theorem State.engineExcess_frame (s : State) (cycles : ℕ) :
    (State.engineExcess s cycles).unit = s.unit ∧ (State.engineExcess s cycles).opUs = s.opUs ∧ (State.engineExcess s
    cycles).savedOpUs = s.savedOpUs ∧ (State.engineExcess s cycles).powerCycle = s.powerCycle ∧ (State.engineExcess s
    cycles).epoch = s.epoch ∧ (State.engineExcess s cycles).power = s.power ∧ (State.engineExcess s cycles).rt = s.rt
    ∧ (State.engineExcess s cycles).sec = s.sec ∧ (State.engineExcess s cycles).station = s.station ∧
    (State.engineExcess s cycles).bench = s.bench ∧ (State.engineExcess s cycles).eng = s.eng ∧ (State.engineExcess s
    cycles).vote = s.vote ∧ (State.engineExcess s cycles).ash = s.ash ∧ (State.engineExcess s cycles).field = s.field
    ∧ (State.engineExcess s cycles).can = s.can ∧ (State.engineExcess s cycles).net = s.net ∧ (State.engineExcess s
    cycles).hi = s.hi ∧ (State.engineExcess s cycles).xings = s.xings ∧ (State.engineExcess s cycles).mg = s.mg ∧
    (State.engineExcess s cycles).log = s.log ∧ (State.engineExcess s cycles).test = s.test ∧ (State.engineExcess s
    cycles).update = s.update ∧ (State.engineExcess s cycles).draws = s.draws ∧ (State.engineExcess s cycles).diag =
    s.diag ∧ (State.engineExcess s cycles).outbox = s.outbox ∧ (State.engineExcess s cycles).pending = s.pending := by
  simp [State.engineExcess, State.event_frame _ _ _ _ _ _ _ _]

theorem State.openUndo_frame (s : State) :
    (State.openUndo s).unit = s.unit ∧ (State.openUndo s).opUs = s.opUs ∧ (State.openUndo s).savedOpUs = s.savedOpUs ∧
    (State.openUndo s).powerCycle = s.powerCycle ∧ (State.openUndo s).epoch = s.epoch ∧ (State.openUndo s).power =
    s.power ∧ (State.openUndo s).rt = s.rt ∧ (State.openUndo s).sec = s.sec ∧ (State.openUndo s).station = s.station ∧
    (State.openUndo s).eng = s.eng ∧ (State.openUndo s).vote = s.vote ∧ (State.openUndo s).ash = s.ash ∧
    (State.openUndo s).field = s.field ∧ (State.openUndo s).can = s.can ∧ (State.openUndo s).net = s.net ∧
    (State.openUndo s).hi = s.hi ∧ (State.openUndo s).xings = s.xings ∧ (State.openUndo s).mg = s.mg ∧ (State.openUndo
    s).recorder = s.recorder ∧ (State.openUndo s).log = s.log ∧ (State.openUndo s).test = s.test ∧ (State.openUndo
    s).update = s.update ∧ (State.openUndo s).draws = s.draws ∧ (State.openUndo s).diag = s.diag ∧ (State.openUndo
    s).outbox = s.outbox ∧ (State.openUndo s).pending = s.pending := by
  simp [State.openUndo]

theorem State.phaseE_frame (s : State) (cycles : ℕ) :
    (State.phaseE s cycles).unit = s.unit ∧ (State.phaseE s cycles).opUs = s.opUs ∧
    (State.phaseE s cycles).savedOpUs = s.savedOpUs ∧ (State.phaseE s cycles).powerCycle = s.powerCycle ∧
    (State.phaseE s cycles).epoch = s.epoch ∧ (State.phaseE s cycles).rt = s.rt ∧
    (State.phaseE s cycles).station = s.station ∧ (State.phaseE s cycles).can = s.can ∧
    (State.phaseE s cycles).diag = s.diag ∧ (State.phaseE s cycles).pending = s.pending := by
  simp [State.phaseE, State.openUndo_frame _, State.engineExcess_frame _ _, State.dwellCheck_frame _, State.tellFaults_frame _, State.auxDemands_frame _,
        State.finishWaiting_frame _, State.decideThese_frame _ _, State.stepFive_frame _,
        State.expirePrepares_frame _, State.autoCloses_frame _, State.superviseRoutes_frame _,
        State.fieldStep_frame _, State.holdExpiry_frame _, State.freeSlots_frame _, State.dwellCheck_bench_frame _,
        State.tellFaults_bench_frame _]

theorem State.commitElement_frame (s : State) (i : ℕ) (e : Element) :
    (State.commitElement s i e).unit = s.unit ∧ (State.commitElement s i e).opUs = s.opUs ∧
    (State.commitElement s i e).savedOpUs = s.savedOpUs ∧ (State.commitElement s i e).powerCycle = s.powerCycle ∧
    (State.commitElement s i e).epoch = s.epoch ∧ (State.commitElement s i e).power = s.power ∧
    (State.commitElement s i e).rt = s.rt ∧ (State.commitElement s i e).sec = s.sec ∧
    (State.commitElement s i e).station = s.station ∧ (State.commitElement s i e).bench = s.bench ∧
    (State.commitElement s i e).vote = s.vote ∧ (State.commitElement s i e).ash = s.ash ∧
    (State.commitElement s i e).field = s.field ∧ (State.commitElement s i e).can = s.can ∧
    (State.commitElement s i e).hi = s.hi ∧ (State.commitElement s i e).xings = s.xings ∧
    (State.commitElement s i e).mg = s.mg ∧ (State.commitElement s i e).recorder = s.recorder ∧
    (State.commitElement s i e).log = s.log ∧ (State.commitElement s i e).test = s.test ∧
    (State.commitElement s i e).update = s.update ∧ (State.commitElement s i e).draws = s.draws ∧
    (State.commitElement s i e).outbox = s.outbox ∧ (State.commitElement s i e).diag = s.diag ∧
    (State.commitElement s i e).pending = s.pending := by
  simp [State.commitElement, State.modNode_frame _ _ _, State.modDyn_frame _ _ _]

theorem State.commitDemands_frame (s : State) :
    (State.commitDemands s).unit = s.unit ∧ (State.commitDemands s).opUs = s.opUs ∧
    (State.commitDemands s).savedOpUs = s.savedOpUs ∧ (State.commitDemands s).powerCycle = s.powerCycle ∧
    (State.commitDemands s).epoch = s.epoch ∧ (State.commitDemands s).power = s.power ∧
    (State.commitDemands s).rt = s.rt ∧ (State.commitDemands s).sec = s.sec ∧
    (State.commitDemands s).station = s.station ∧ (State.commitDemands s).bench = s.bench ∧
    (State.commitDemands s).vote = s.vote ∧ (State.commitDemands s).ash = s.ash ∧
    (State.commitDemands s).field = s.field ∧ (State.commitDemands s).can = s.can ∧ (State.commitDemands s).hi = s.hi
    ∧ (State.commitDemands s).xings = s.xings ∧ (State.commitDemands s).mg = s.mg ∧
    (State.commitDemands s).recorder = s.recorder ∧ (State.commitDemands s).log = s.log ∧
    (State.commitDemands s).test = s.test ∧ (State.commitDemands s).update = s.update ∧
    (State.commitDemands s).draws = s.draws ∧ (State.commitDemands s).outbox = s.outbox ∧
    (State.commitDemands s).diag = s.diag ∧ (State.commitDemands s).pending = s.pending := by
  simp only [State.commitDemands, State.eachElement]; simp [State.commitElement_frame _ _ _]

theorem State.routeNote_frame (s : State) (n : ℕ) :
    (State.routeNote s n).unit = s.unit ∧ (State.routeNote s n).opUs = s.opUs ∧
    (State.routeNote s n).savedOpUs = s.savedOpUs ∧ (State.routeNote s n).powerCycle = s.powerCycle ∧
    (State.routeNote s n).epoch = s.epoch ∧ (State.routeNote s n).power = s.power ∧ (State.routeNote s n).rt = s.rt ∧
    (State.routeNote s n).sec = s.sec ∧ (State.routeNote s n).station = s.station ∧
    (State.routeNote s n).vote = s.vote ∧ (State.routeNote s n).ash = s.ash ∧ (State.routeNote s n).field = s.field ∧
    (State.routeNote s n).can = s.can ∧ (State.routeNote s n).net = s.net ∧ (State.routeNote s n).xings = s.xings ∧
    (State.routeNote s n).mg = s.mg ∧ (State.routeNote s n).recorder = s.recorder ∧ (State.routeNote s n).log = s.log
    ∧ (State.routeNote s n).test = s.test ∧ (State.routeNote s n).update = s.update ∧
    (State.routeNote s n).draws = s.draws ∧ (State.routeNote s n).diag = s.diag ∧
    (State.routeNote s n).pending = s.pending := by
  simp [State.routeNote, State.modRoute_frame _ _ _, State.noteCluster_frame _ _ _]

theorem State.handOver_frame (s : State) :
    (State.handOver s).unit = s.unit ∧ (State.handOver s).opUs = s.opUs ∧ (State.handOver s).savedOpUs = s.savedOpUs ∧
    (State.handOver s).powerCycle = s.powerCycle ∧ (State.handOver s).epoch = s.epoch ∧
    (State.handOver s).power = s.power ∧ (State.handOver s).rt = s.rt ∧ (State.handOver s).sec = s.sec ∧
    (State.handOver s).station = s.station ∧ (State.handOver s).vote = s.vote ∧ (State.handOver s).ash = s.ash ∧
    (State.handOver s).field = s.field ∧ (State.handOver s).can = s.can ∧ (State.handOver s).net = s.net ∧
    (State.handOver s).xings = s.xings ∧ (State.handOver s).recorder = s.recorder ∧ (State.handOver s).log = s.log ∧
    (State.handOver s).test = s.test ∧ (State.handOver s).update = s.update ∧ (State.handOver s).draws = s.draws ∧
    (State.handOver s).diag = s.diag ∧ (State.handOver s).pending = s.pending := by
  simp [State.handOver, State.flushNotes_frame _, State.deliver_frame _ _, State.routeNote_frame _ _]

theorem State.deliverCode_frame (s : State) :
    (State.deliverCode s).unit = s.unit ∧ (State.deliverCode s).opUs = s.opUs ∧
    (State.deliverCode s).savedOpUs = s.savedOpUs ∧ (State.deliverCode s).powerCycle = s.powerCycle ∧
    (State.deliverCode s).epoch = s.epoch ∧ (State.deliverCode s).power = s.power ∧ (State.deliverCode s).rt = s.rt ∧
    (State.deliverCode s).sec = s.sec ∧ (State.deliverCode s).station = s.station ∧ (State.deliverCode s).eng = s.eng
    ∧ (State.deliverCode s).vote = s.vote ∧ (State.deliverCode s).ash = s.ash ∧ (State.deliverCode s).field = s.field
    ∧ (State.deliverCode s).can = s.can ∧ (State.deliverCode s).net = s.net ∧ (State.deliverCode s).hi = s.hi ∧
    (State.deliverCode s).xings = s.xings ∧ (State.deliverCode s).mg = s.mg ∧
    (State.deliverCode s).recorder = s.recorder ∧ (State.deliverCode s).log = s.log ∧
    (State.deliverCode s).test = s.test ∧ (State.deliverCode s).update = s.update ∧
    (State.deliverCode s).draws = s.draws ∧ (State.deliverCode s).outbox = s.outbox ∧
    (State.deliverCode s).diag = s.diag ∧ (State.deliverCode s).pending = s.pending := by
  simp [State.deliverCode]

theorem State.phaseO_frame (s : State) (samples : List Word) :
    (State.phaseO s samples).unit = s.unit ∧ (State.phaseO s samples).opUs = s.opUs ∧
    (State.phaseO s samples).powerCycle = s.powerCycle ∧ (State.phaseO s samples).epoch = s.epoch ∧
    (State.phaseO s samples).rt = s.rt ∧ (State.phaseO s samples).station = s.station ∧
    (State.phaseO s samples).ash = s.ash ∧ (State.phaseO s samples).xings = s.xings ∧
    (State.phaseO s samples).test = s.test ∧ (State.phaseO s samples).update = s.update ∧
    (State.phaseO s samples).pending = s.pending := by
  simp [State.phaseO, State.commitDemands_frame _, State.showForcing_frame _, State.deliverCode_frame _,
        State.buildTelegrams_frame _ _ _, State.handOver_frame _, State.logConstants_frame _, State.refreshDiag_frame _, State.mirror_frame _ _, State.enterStop_frame _ _]

theorem State.laneTest_frame (s : State) (passed : Bool) :
    (State.laneTest s passed).unit = s.unit ∧ (State.laneTest s passed).opUs = s.opUs ∧
    (State.laneTest s passed).savedOpUs = s.savedOpUs ∧ (State.laneTest s passed).powerCycle = s.powerCycle ∧
    (State.laneTest s passed).epoch = s.epoch ∧ (State.laneTest s passed).rt = s.rt ∧
    (State.laneTest s passed).station = s.station ∧ (State.laneTest s passed).ash = s.ash ∧
    (State.laneTest s passed).net = s.net ∧ (State.laneTest s passed).xings = s.xings ∧
    (State.laneTest s passed).log = s.log ∧ (State.laneTest s passed).update = s.update ∧
    (State.laneTest s passed).draws = s.draws ∧ (State.laneTest s passed).diag = s.diag ∧
    (State.laneTest s passed).pending = s.pending := by
  unfold State.laneTest; (repeat' split) <;> simp [State.laneFault_frame _ _, State.transientFault_frame _ _]

theorem State.ramSlice_frame (s : State) :
    (State.ramSlice s).unit = s.unit ∧ (State.ramSlice s).opUs = s.opUs ∧ (State.ramSlice s).savedOpUs = s.savedOpUs ∧
    (State.ramSlice s).powerCycle = s.powerCycle ∧ (State.ramSlice s).epoch = s.epoch ∧ (State.ramSlice s).power =
    s.power ∧ (State.ramSlice s).rt = s.rt ∧ (State.ramSlice s).sec = s.sec ∧ (State.ramSlice s).station = s.station ∧
    (State.ramSlice s).bench = s.bench ∧ (State.ramSlice s).eng = s.eng ∧ (State.ramSlice s).ash = s.ash ∧
    (State.ramSlice s).field = s.field ∧ (State.ramSlice s).can = s.can ∧ (State.ramSlice s).net = s.net ∧
    (State.ramSlice s).hi = s.hi ∧ (State.ramSlice s).xings = s.xings ∧ (State.ramSlice s).mg = s.mg ∧ (State.ramSlice
    s).recorder = s.recorder ∧ (State.ramSlice s).log = s.log ∧ (State.ramSlice s).test = s.test ∧ (State.ramSlice
    s).update = s.update ∧ (State.ramSlice s).draws = s.draws ∧ (State.ramSlice s).diag = s.diag ∧ (State.ramSlice
    s).outbox = s.outbox ∧ (State.ramSlice s).pending = s.pending := by
  simp [State.ramSlice]

theorem State.phaseH_frame (s : State) (h : PhaseHWork) :
    (State.phaseH s h).unit = s.unit ∧ (State.phaseH s h).opUs = s.opUs ∧ (State.phaseH s h).savedOpUs = s.savedOpUs ∧
    (State.phaseH s h).powerCycle = s.powerCycle ∧ (State.phaseH s h).epoch = s.epoch ∧ (State.phaseH s h).rt = s.rt ∧
    (State.phaseH s h).station = s.station ∧ (State.phaseH s h).ash = s.ash ∧ (State.phaseH s h).net = s.net ∧
    (State.phaseH s h).xings = s.xings ∧ (State.phaseH s h).log = s.log ∧ (State.phaseH s h).update = s.update ∧
    (State.phaseH s h).draws = s.draws ∧ (State.phaseH s h).diag = s.diag ∧ (State.phaseH s h).pending = s.pending
    := by
  simp [State.phaseH, State.ramSlice_frame _, State.laneTest_frame _ _, State.syncDone_frame _ _]

theorem State.stopPhaseE_frame (s : State) (phase : Phase) (engine : ℕ) :
    (State.stopPhaseE s phase engine).unit = s.unit ∧ (State.stopPhaseE s phase engine).opUs = s.opUs ∧
    (State.stopPhaseE s phase engine).savedOpUs = s.savedOpUs ∧
    (State.stopPhaseE s phase engine).powerCycle = s.powerCycle ∧ (State.stopPhaseE s phase engine).epoch = s.epoch ∧
    (State.stopPhaseE s phase engine).power = s.power ∧ (State.stopPhaseE s phase engine).rt = s.rt ∧
    (State.stopPhaseE s phase engine).sec = s.sec ∧ (State.stopPhaseE s phase engine).station = s.station ∧
    (State.stopPhaseE s phase engine).eng = s.eng ∧ (State.stopPhaseE s phase engine).vote = s.vote ∧
    (State.stopPhaseE s phase engine).ash = s.ash ∧ (State.stopPhaseE s phase engine).field = s.field ∧
    (State.stopPhaseE s phase engine).can = s.can ∧ (State.stopPhaseE s phase engine).net = s.net ∧
    (State.stopPhaseE s phase engine).hi = s.hi ∧ (State.stopPhaseE s phase engine).xings = s.xings ∧
    (State.stopPhaseE s phase engine).mg = s.mg ∧ (State.stopPhaseE s phase engine).log = s.log ∧
    (State.stopPhaseE s phase engine).test = s.test ∧ (State.stopPhaseE s phase engine).update = s.update ∧
    (State.stopPhaseE s phase engine).draws = s.draws ∧ (State.stopPhaseE s phase engine).outbox = s.outbox ∧
    (State.stopPhaseE s phase engine).diag = s.diag ∧ (State.stopPhaseE s phase engine).pending = s.pending := by
  simp [State.stopPhaseE, State.engineExcess_frame _ _]

theorem State.overrun_frame (s : State) (phase : Phase) (cycles : ℕ) (engine : ℕ) :
    (State.overrun s phase cycles engine).unit = s.unit ∧ (State.overrun s phase cycles engine).opUs = s.opUs ∧
    (State.overrun s phase cycles engine).savedOpUs = s.savedOpUs ∧
    (State.overrun s phase cycles engine).powerCycle = s.powerCycle ∧
    (State.overrun s phase cycles engine).epoch = s.epoch ∧ (State.overrun s phase cycles engine).rt = s.rt ∧
    (State.overrun s phase cycles engine).station = s.station ∧ (State.overrun s phase cycles engine).ash = s.ash ∧
    (State.overrun s phase cycles engine).net = s.net ∧ (State.overrun s phase cycles engine).xings = s.xings ∧
    (State.overrun s phase cycles engine).log = s.log ∧ (State.overrun s phase cycles engine).test = s.test ∧
    (State.overrun s phase cycles engine).update = s.update ∧ (State.overrun s phase cycles engine).draws = s.draws ∧
    (State.overrun s phase cycles engine).diag = s.diag ∧ (State.overrun s phase cycles engine).pending = s.pending
    := by
  simp [State.overrun, State.event_frame _ _ _ _ _ _ _ _, State.stopPhaseE_frame _ _ _, State.enterSafe_frame _ _ _]

theorem State.recompute_frame (s : State) (n : Node) :
    (State.recompute s n).unit = s.unit ∧ (State.recompute s n).opUs = s.opUs ∧
    (State.recompute s n).savedOpUs = s.savedOpUs ∧ (State.recompute s n).powerCycle = s.powerCycle ∧
    (State.recompute s n).epoch = s.epoch ∧ (State.recompute s n).power = s.power ∧ (State.recompute s n).rt = s.rt ∧
    (State.recompute s n).sec = s.sec ∧ (State.recompute s n).station = s.station ∧
    (State.recompute s n).bench = s.bench ∧ (State.recompute s n).eng = s.eng ∧ (State.recompute s n).vote = s.vote ∧
    (State.recompute s n).ash = s.ash ∧ (State.recompute s n).field = s.field ∧ (State.recompute s n).can = s.can ∧
    (State.recompute s n).hi = s.hi ∧ (State.recompute s n).xings = s.xings ∧ (State.recompute s n).mg = s.mg ∧
    (State.recompute s n).recorder = s.recorder ∧ (State.recompute s n).log = s.log ∧
    (State.recompute s n).test = s.test ∧ (State.recompute s n).update = s.update ∧
    (State.recompute s n).draws = s.draws ∧ (State.recompute s n).outbox = s.outbox ∧
    (State.recompute s n).diag = s.diag ∧ (State.recompute s n).pending = s.pending := by
  simp [State.recompute, State.modNode_frame _ _ _]

theorem State.recomputeAll_frame (s : State) :
    (State.recomputeAll s).unit = s.unit ∧ (State.recomputeAll s).opUs = s.opUs ∧ (State.recomputeAll s).savedOpUs =
    s.savedOpUs ∧ (State.recomputeAll s).powerCycle = s.powerCycle ∧ (State.recomputeAll s).epoch = s.epoch ∧
    (State.recomputeAll s).power = s.power ∧ (State.recomputeAll s).rt = s.rt ∧ (State.recomputeAll s).sec = s.sec ∧
    (State.recomputeAll s).station = s.station ∧ (State.recomputeAll s).bench = s.bench ∧ (State.recomputeAll s).eng =
    s.eng ∧ (State.recomputeAll s).vote = s.vote ∧ (State.recomputeAll s).ash = s.ash ∧ (State.recomputeAll s).field =
    s.field ∧ (State.recomputeAll s).can = s.can ∧ (State.recomputeAll s).hi = s.hi ∧ (State.recomputeAll s).xings =
    s.xings ∧ (State.recomputeAll s).mg = s.mg ∧ (State.recomputeAll s).recorder = s.recorder ∧ (State.recomputeAll
    s).log = s.log ∧ (State.recomputeAll s).test = s.test ∧ (State.recomputeAll s).update = s.update ∧
    (State.recomputeAll s).draws = s.draws ∧ (State.recomputeAll s).diag = s.diag ∧ (State.recomputeAll s).outbox =
    s.outbox ∧ (State.recomputeAll s).pending = s.pending := by
  simp [State.recomputeAll, State.recompute_frame _ _]

theorem State.serveQueue_frame (s : State) :
    (State.serveQueue s).unit = s.unit ∧ (State.serveQueue s).opUs = s.opUs ∧
    (State.serveQueue s).savedOpUs = s.savedOpUs ∧ (State.serveQueue s).powerCycle = s.powerCycle ∧
    (State.serveQueue s).epoch = s.epoch ∧ (State.serveQueue s).rt = s.rt ∧ (State.serveQueue s).station = s.station ∧
    (State.serveQueue s).can = s.can ∧ (State.serveQueue s).pending = s.pending := by
  unfold State.serveQueue; dsimp only; (repeat' split) <;> simp [State.refreshDiag_frame _, State.complete_frame _ _ _ _ _ _ _,
        State.takeQueue_frame _ _, State.decideCluster_frame _ _ _]

end Sys2Proof.Machine
end

