-- ==== Sys2Proof/Laws/Commands.lean ====
section
/-! SUPPORT. What the operations of Machine/Commands.lean leave alone: one lemma for each, naming every part of the state that
it does not write. -/

namespace Sys2Proof.Machine

open Sys2Proof

theorem State.decideMg_frame (s : State) (op : ℕ) (q : Req) :
    (State.decideMg s op q).unit = s.unit ∧ (State.decideMg s op q).opUs = s.opUs ∧
    (State.decideMg s op q).savedOpUs = s.savedOpUs ∧ (State.decideMg s op q).powerCycle = s.powerCycle ∧
    (State.decideMg s op q).epoch = s.epoch ∧ (State.decideMg s op q).power = s.power ∧
    (State.decideMg s op q).sec = s.sec ∧ (State.decideMg s op q).station = s.station ∧
    (State.decideMg s op q).bench = s.bench ∧ (State.decideMg s op q).eng = s.eng ∧
    (State.decideMg s op q).vote = s.vote ∧ (State.decideMg s op q).ash = s.ash ∧
    (State.decideMg s op q).field = s.field ∧ (State.decideMg s op q).can = s.can ∧
    (State.decideMg s op q).net = s.net ∧ (State.decideMg s op q).xings = s.xings ∧
    (State.decideMg s op q).test = s.test ∧ (State.decideMg s op q).draws = s.draws ∧
    (State.decideMg s op q).diag = s.diag ∧ (State.decideMg s op q).pending = s.pending := by
  unfold State.decideMg; (repeat' split) <;> simp [State.decideIdentify_frame _ _, State.decideCapabilities_frame _ _,
        State.decideGetStatus_frame _ _, State.decideSetTime_frame _ _, State.decideGetTime_frame _ _,
        State.decideDoorHealth_frame _ _, State.decideEventInfo_frame _ _, State.decideEventRead_frame _ _,
        State.decideEventFreeze_frame _ _, State.decideEventThaw_frame _ _, State.decideEventSetRate_frame _ _,
        State.decideUpdateBegin_frame _ _, State.decideUpdateData_frame _ _, State.decideUpdateVerify_frame _ _,
        State.decideUpdateConfirm_frame _ _, State.decideUpdateStatus_frame _ _, State.decideUpdateAbort_frame _ _,
        State.decideChangeLogRead_frame _ _, State.decideMaintAddress_frame _ _, State.decideDiagVote_frame _ _,
        State.decideDiagAshlar_frame _ _, State.decideDiagSafeRecord_frame _ _, State.decideDiagInputs_frame _ _,
        State.decideDiagOutputs_frame _ _, State.decideDiagGroups_frame _ _, State.decideDiagCanPort_frame _ _,
        State.decideDiagPortCounters_frame _ _, State.decideDiagNode_frame _ _, State.decideDiagNodeList_frame _ _,
        State.decideSubscribe_frame _ _, State.decideSubscriptionGet_frame _ _]

theorem State.accept_frame (s : State) (op : ℕ) (q : Req) :
    (State.accept s op q).unit = s.unit ∧ (State.accept s op q).opUs = s.opUs ∧
    (State.accept s op q).savedOpUs = s.savedOpUs ∧ (State.accept s op q).powerCycle = s.powerCycle ∧
    (State.accept s op q).epoch = s.epoch ∧ (State.accept s op q).power = s.power ∧ (State.accept s op q).sec = s.sec
    ∧ (State.accept s op q).station = s.station ∧ (State.accept s op q).bench = s.bench ∧
    (State.accept s op q).eng = s.eng ∧ (State.accept s op q).vote = s.vote ∧ (State.accept s op q).ash = s.ash ∧
    (State.accept s op q).field = s.field ∧ (State.accept s op q).can = s.can ∧ (State.accept s op q).net = s.net ∧
    (State.accept s op q).test = s.test ∧ (State.accept s op q).draws = s.draws ∧ (State.accept s op q).diag = s.diag
    ∧ (State.accept s op q).pending = s.pending := by
  simp [State.accept, State.setXing_frame _ _ _, State.decideMg_frame _ _ _]

theorem State.respondAt_frame (s : State) (slot : ℕ) (r : Response) :
    (State.respondAt s slot r).unit = s.unit ∧ (State.respondAt s slot r).opUs = s.opUs ∧
    (State.respondAt s slot r).savedOpUs = s.savedOpUs ∧ (State.respondAt s slot r).powerCycle = s.powerCycle ∧
    (State.respondAt s slot r).epoch = s.epoch ∧ (State.respondAt s slot r).power = s.power ∧
    (State.respondAt s slot r).rt = s.rt ∧ (State.respondAt s slot r).sec = s.sec ∧
    (State.respondAt s slot r).station = s.station ∧ (State.respondAt s slot r).bench = s.bench ∧
    (State.respondAt s slot r).eng = s.eng ∧ (State.respondAt s slot r).vote = s.vote ∧
    (State.respondAt s slot r).ash = s.ash ∧ (State.respondAt s slot r).field = s.field ∧
    (State.respondAt s slot r).can = s.can ∧ (State.respondAt s slot r).net = s.net ∧
    (State.respondAt s slot r).xings = s.xings ∧ (State.respondAt s slot r).mg = s.mg ∧
    (State.respondAt s slot r).recorder = s.recorder ∧ (State.respondAt s slot r).log = s.log ∧
    (State.respondAt s slot r).test = s.test ∧ (State.respondAt s slot r).update = s.update ∧
    (State.respondAt s slot r).draws = s.draws ∧ (State.respondAt s slot r).diag = s.diag ∧
    (State.respondAt s slot r).pending = s.pending := by
  simp [State.respondAt, State.irq_frame _ _]

theorem State.ring_frame (s : State) (value : Word) :
    (State.ring s value).unit = s.unit ∧ (State.ring s value).opUs = s.opUs ∧
    (State.ring s value).savedOpUs = s.savedOpUs ∧ (State.ring s value).powerCycle = s.powerCycle ∧
    (State.ring s value).epoch = s.epoch ∧ (State.ring s value).power = s.power ∧ (State.ring s value).sec = s.sec ∧
    (State.ring s value).station = s.station ∧ (State.ring s value).bench = s.bench ∧ (State.ring s value).eng = s.eng
    ∧ (State.ring s value).vote = s.vote ∧ (State.ring s value).ash = s.ash ∧ (State.ring s value).field = s.field ∧
    (State.ring s value).can = s.can ∧ (State.ring s value).net = s.net ∧ (State.ring s value).test = s.test ∧
    (State.ring s value).draws = s.draws ∧ (State.ring s value).diag = s.diag ∧
    (State.ring s value).pending = s.pending := by
  simp only [State.ring]; (repeat' split) <;> simp [State.respondAt_frame _ _ _, State.accept_frame _ _ _,
        State.notePcie_frame _ _]

theorem State.writeSlot_frame (s : State) (slot : ℕ) (block : List Byte) :
    (State.writeSlot s slot block).unit = s.unit ∧ (State.writeSlot s slot block).opUs = s.opUs ∧
    (State.writeSlot s slot block).savedOpUs = s.savedOpUs ∧ (State.writeSlot s slot block).powerCycle = s.powerCycle
    ∧ (State.writeSlot s slot block).epoch = s.epoch ∧ (State.writeSlot s slot block).power = s.power ∧
    (State.writeSlot s slot block).rt = s.rt ∧ (State.writeSlot s slot block).sec = s.sec ∧
    (State.writeSlot s slot block).station = s.station ∧ (State.writeSlot s slot block).bench = s.bench ∧
    (State.writeSlot s slot block).eng = s.eng ∧ (State.writeSlot s slot block).vote = s.vote ∧
    (State.writeSlot s slot block).ash = s.ash ∧ (State.writeSlot s slot block).field = s.field ∧
    (State.writeSlot s slot block).can = s.can ∧ (State.writeSlot s slot block).net = s.net ∧
    (State.writeSlot s slot block).xings = s.xings ∧ (State.writeSlot s slot block).mg = s.mg ∧
    (State.writeSlot s slot block).recorder = s.recorder ∧ (State.writeSlot s slot block).log = s.log ∧
    (State.writeSlot s slot block).test = s.test ∧ (State.writeSlot s slot block).update = s.update ∧
    (State.writeSlot s slot block).draws = s.draws ∧ (State.writeSlot s slot block).outbox = s.outbox ∧
    (State.writeSlot s slot block).diag = s.diag ∧ (State.writeSlot s slot block).pending = s.pending := by
  simp [State.writeSlot]

theorem State.x8Send_frame (s : State) (ip : Word) (port : ℕ) (data : List Byte) :
    (State.x8Send s ip port data).unit = s.unit ∧ (State.x8Send s ip port data).opUs = s.opUs ∧
    (State.x8Send s ip port data).savedOpUs = s.savedOpUs ∧ (State.x8Send s ip port data).powerCycle = s.powerCycle ∧
    (State.x8Send s ip port data).epoch = s.epoch ∧ (State.x8Send s ip port data).power = s.power ∧
    (State.x8Send s ip port data).rt = s.rt ∧ (State.x8Send s ip port data).sec = s.sec ∧
    (State.x8Send s ip port data).station = s.station ∧ (State.x8Send s ip port data).bench = s.bench ∧
    (State.x8Send s ip port data).eng = s.eng ∧ (State.x8Send s ip port data).vote = s.vote ∧
    (State.x8Send s ip port data).ash = s.ash ∧ (State.x8Send s ip port data).field = s.field ∧
    (State.x8Send s ip port data).can = s.can ∧ (State.x8Send s ip port data).net = s.net ∧
    (State.x8Send s ip port data).hi = s.hi ∧ (State.x8Send s ip port data).xings = s.xings ∧
    (State.x8Send s ip port data).mg = s.mg ∧ (State.x8Send s ip port data).recorder = s.recorder ∧
    (State.x8Send s ip port data).log = s.log ∧ (State.x8Send s ip port data).test = s.test ∧
    (State.x8Send s ip port data).update = s.update ∧ (State.x8Send s ip port data).draws = s.draws ∧
    (State.x8Send s ip port data).diag = s.diag ∧ (State.x8Send s ip port data).pending = s.pending := by
  simp [State.x8Send]

theorem State.x8Accept_frame (s : State) (d : X8Datagram) (slot : ℕ) :
    (State.x8Accept s d slot).unit = s.unit ∧ (State.x8Accept s d slot).opUs = s.opUs ∧
    (State.x8Accept s d slot).savedOpUs = s.savedOpUs ∧ (State.x8Accept s d slot).powerCycle = s.powerCycle ∧
    (State.x8Accept s d slot).epoch = s.epoch ∧ (State.x8Accept s d slot).power = s.power ∧
    (State.x8Accept s d slot).sec = s.sec ∧ (State.x8Accept s d slot).station = s.station ∧
    (State.x8Accept s d slot).bench = s.bench ∧ (State.x8Accept s d slot).eng = s.eng ∧
    (State.x8Accept s d slot).vote = s.vote ∧ (State.x8Accept s d slot).ash = s.ash ∧
    (State.x8Accept s d slot).field = s.field ∧ (State.x8Accept s d slot).can = s.can ∧
    (State.x8Accept s d slot).net = s.net ∧ (State.x8Accept s d slot).test = s.test ∧
    (State.x8Accept s d slot).draws = s.draws ∧ (State.x8Accept s d slot).diag = s.diag ∧
    (State.x8Accept s d slot).pending = s.pending := by
  simp only [State.x8Accept]; (repeat' split) <;> simp [State.x8Send_frame _ _ _ _, State.accept_frame _ _ _]

theorem State.x8Request_frame (s : State) (d : X8Datagram) :
    (State.x8Request s d).unit = s.unit ∧ (State.x8Request s d).opUs = s.opUs ∧
    (State.x8Request s d).savedOpUs = s.savedOpUs ∧ (State.x8Request s d).powerCycle = s.powerCycle ∧
    (State.x8Request s d).epoch = s.epoch ∧ (State.x8Request s d).power = s.power ∧ (State.x8Request s d).sec = s.sec
    ∧ (State.x8Request s d).station = s.station ∧ (State.x8Request s d).bench = s.bench ∧
    (State.x8Request s d).eng = s.eng ∧ (State.x8Request s d).vote = s.vote ∧ (State.x8Request s d).ash = s.ash ∧
    (State.x8Request s d).field = s.field ∧ (State.x8Request s d).can = s.can ∧ (State.x8Request s d).net = s.net ∧
    (State.x8Request s d).test = s.test ∧ (State.x8Request s d).draws = s.draws ∧ (State.x8Request s d).diag = s.diag
    ∧ (State.x8Request s d).pending = s.pending := by
  simp only [State.x8Request]; (repeat' split) <;> simp [State.x8Accept_frame _ _ _, State.x8Send_frame _ _ _ _]

theorem State.writeRegister_frame (s : State) (offset : ℕ) (value : Word) :
    (State.writeRegister s offset value).unit = s.unit ∧ (State.writeRegister s offset value).opUs = s.opUs ∧
    (State.writeRegister s offset value).savedOpUs = s.savedOpUs ∧
    (State.writeRegister s offset value).powerCycle = s.powerCycle ∧
    (State.writeRegister s offset value).epoch = s.epoch ∧ (State.writeRegister s offset value).power = s.power ∧
    (State.writeRegister s offset value).sec = s.sec ∧ (State.writeRegister s offset value).station = s.station ∧
    (State.writeRegister s offset value).bench = s.bench ∧ (State.writeRegister s offset value).eng = s.eng ∧
    (State.writeRegister s offset value).vote = s.vote ∧ (State.writeRegister s offset value).ash = s.ash ∧
    (State.writeRegister s offset value).field = s.field ∧ (State.writeRegister s offset value).can = s.can ∧
    (State.writeRegister s offset value).net = s.net ∧ (State.writeRegister s offset value).test = s.test ∧
    (State.writeRegister s offset value).draws = s.draws ∧ (State.writeRegister s offset value).diag = s.diag ∧
    (State.writeRegister s offset value).pending = s.pending := by
  unfold State.writeRegister; (repeat' split) <;> simp [State.clearLinkEvents_frame _ _ _, State.writeM2_frame _ _,
        State.ring_frame _ _, State.clearDone_frame _ _ _, State.writeTail_frame _ _, State.clearIrq_frame _ _,
        State.writeMask_frame _ _]

end Sys2Proof.Machine
end

