-- ==== Sys2Proof/Laws/Memory.lean ====
section
/-! SUPPORT. The laws of the BAR2 window's memory: what a write leaves, and that every operation keeps the canonical form. -/

namespace Sys2Proof.Machine

/-- Every address of a list lies above `a`. -/
def Memory.above (a : Nat) (m : List Host.Cell) : Prop := ∀ c ∈ m, a < c.1

theorem Memory.wf_cons (k : Nat) (v : Byte) (m : List Host.Cell) :
    Memory.wf ((k, v) :: m) = true ↔
      k < 0x100000 ∧ v ≠ Memory.empty ∧ Memory.above k m ∧ Memory.wf m = true := by
  induction m generalizing k v with
  | nil => simp [Memory.wf, Memory.above]
  | cons c m ih =>
    obtain ⟨k', v'⟩ := c
    simp only [Memory.wf, Bool.and_eq_true, decide_eq_true_eq, bne_iff_ne, Memory.above, List.mem_cons,
      forall_eq_or_imp]
    constructor
    · rintro ⟨⟨⟨hk, hb⟩, hv⟩, hm⟩
      exact ⟨hb, hv, ⟨hk, fun c hc => Nat.lt_trans hk (((ih k' v').1 hm).2.2.1 c hc)⟩, hm⟩
    · rintro ⟨hb, hv, ⟨hk, _⟩, hm⟩
      exact ⟨⟨⟨hk, hb⟩, hv⟩, hm⟩

theorem Memory.above_write {a k : Nat} {b : Byte} {m : List Host.Cell} (hm : Memory.above k m) (ha : k < a) :
    Memory.above k (Memory.write m a b) := by
  induction m with
  | nil =>
    simp only [Memory.write]
    split <;> simp [Memory.above, ha]
  | cons c m ih =>
    obtain ⟨k', v'⟩ := c
    have hk : k < k' := hm (k', v') (by simp)
    have hr : Memory.above k m := fun x hx => hm x (List.mem_cons_of_mem _ hx)
    simp only [Memory.write]
    split
    · split
      · exact hm
      · intro x hx
        rcases List.mem_cons.1 hx with rfl | hx
        · exact ha
        · exact hm x hx
    · split
      · split
        · exact hr
        · intro x hx
          rcases List.mem_cons.1 hx with rfl | hx
          · exact ha
          · exact hr x hx
      · intro x hx
        rcases List.mem_cons.1 hx with rfl | hx
        · exact hk
        · exact ih hr x hx

/-- A write inside the window keeps the canonical form. -/
theorem Memory.write_wf {m : List Host.Cell} {a : Nat} (b : Byte) (hm : Memory.wf m = true) (ha : a < 0x100000) :
    Memory.wf (Memory.write m a b) = true := by
  induction m with
  | nil =>
    simp only [Memory.write]
    split
    · rfl
    · rw [Memory.wf_cons]; exact ⟨ha, ‹_›, by simp [Memory.above], rfl⟩
  | cons c m ih =>
    obtain ⟨k, v⟩ := c
    obtain ⟨hk, hv, hab, hw⟩ := (Memory.wf_cons k v m).1 hm
    simp only [Memory.write]
    split
    · split
      · exact hm
      · rw [Memory.wf_cons]
        refine ⟨ha, ‹_›, ?_, hm⟩
        intro x hx
        rcases List.mem_cons.1 hx with rfl | hx
        · assumption
        · exact Nat.lt_trans ‹_› (hab x hx)
    · split
      · subst a
        split
        · exact hw
        · rw [Memory.wf_cons]; exact ⟨hk, ‹_›, hab, hw⟩
      · rw [Memory.wf_cons]
        exact ⟨hk, hv, Memory.above_write hab (by omega), ih hw⟩

/-- Bytes written inside the window keep the canonical form. -/
theorem Memory.writeBytes_wf {m : List Host.Cell} {a : Nat} (bs : List Byte) (hm : Memory.wf m = true)
    (ha : a + bs.length ≤ 0x100000) : Memory.wf (Memory.writeBytes m a bs) = true := by
  induction bs generalizing m a with
  | nil => exact hm
  | cons b bs ih =>
    rw [List.length_cons] at ha
    exact ih (Memory.write_wf b hm (by omega)) (by omega)

theorem Memory.read_of_above {m : List Host.Cell} {k a : Nat} (hm : Memory.above k m) (ha : a ≤ k) :
    Memory.read m a = Memory.empty := by
  induction m with
  | nil => rfl
  | cons c m ih =>
    obtain ⟨k', v'⟩ := c
    have hk : k < k' := hm (k', v') (by simp)
    simp only [Memory.read]
    rw [if_neg (by omega)]
    exact ih (fun x hx => hm x (List.mem_cons_of_mem _ hx))

/-- A byte reads back as it was written. -/
theorem Memory.read_write_same {m : List Host.Cell} (a : Nat) (b : Byte) (hm : Memory.wf m = true) :
    Memory.read (Memory.write m a b) a = b := by
  induction m with
  | nil =>
    simp only [Memory.write]
    split
    · subst b; rfl
    · simp [Memory.read]
  | cons c m ih =>
    obtain ⟨k, v⟩ := c
    obtain ⟨_, _, hab, hw⟩ := (Memory.wf_cons k v m).1 hm
    simp only [Memory.write]
    split
    · rename_i h
      split
      · subst b
        simp only [Memory.read]
        rw [if_neg (by omega)]
        exact Memory.read_of_above hab (Nat.le_of_lt h)
      · simp [Memory.read]
    · split
      · subst a
        split
        · subst b; exact Memory.read_of_above hab (Nat.le_refl _)
        · simp [Memory.read]
      · simp only [Memory.read]
        rw [if_neg (by omega)]
        exact ih hw

/-- A write leaves every other byte as it was. -/
theorem Memory.read_write_other {m : List Host.Cell} {a c : Nat} (b : Byte) (hm : Memory.wf m = true) (h : c ≠ a) :
    Memory.read (Memory.write m a b) c = Memory.read m c := by
  induction m with
  | nil =>
    simp only [Memory.write]
    split
    · rfl
    · simp only [Memory.read]; rw [if_neg (by omega)]
  | cons x m ih =>
    obtain ⟨k, v⟩ := x
    obtain ⟨_, _, hab, hw⟩ := (Memory.wf_cons k v m).1 hm
    simp only [Memory.write]
    split
    · split
      · rfl
      · rw [Memory.read, if_neg (by omega)]
    · split
      · subst a
        split
        · rw [Memory.read, if_neg (by omega)]
        · rw [Memory.read, Memory.read, if_neg (by omega), if_neg (by omega)]
      · rw [Memory.read, Memory.read]
        split
        · rfl
        · exact ih hw

/-- Bytes written leave every byte outside them as it was. -/
theorem Memory.read_writeBytes_other {m : List Host.Cell} {a c : Nat} (bs : List Byte) (hm : Memory.wf m = true)
    (ha : a + bs.length ≤ 0x100000) (h : c < a ∨ a + bs.length ≤ c) :
    Memory.read (Memory.writeBytes m a bs) c = Memory.read m c := by
  induction bs generalizing m a with
  | nil => rfl
  | cons b bs ih =>
    rw [List.length_cons] at ha h
    rw [Memory.writeBytes, ih (Memory.write_wf b hm (by omega)) (by omega) (by omega),
      Memory.read_write_other b hm (by omega)]

/-- Bytes read back as they were written. -/
theorem Memory.readBytes_writeBytes {m : List Host.Cell} {a : Nat} (bs : List Byte) (hm : Memory.wf m = true)
    (ha : a + bs.length ≤ 0x100000) : Memory.readBytes (Memory.writeBytes m a bs) a bs.length = bs := by
  induction bs generalizing m a with
  | nil => rfl
  | cons b bs ih =>
    rw [List.length_cons] at ha
    have hw := Memory.write_wf b hm (show a < 0x100000 by omega)
    rw [List.length_cons, Memory.readBytes, Memory.writeBytes,
      Memory.read_writeBytes_other bs hw (by omega) (.inl (by omega)), Memory.read_write_same a b hm, ih hw (by omega)]

end Sys2Proof.Machine
end

