-- ==== Sys2Proof/Laws/Step.lean ====
section
/-! SUPPORT. What the operations of Machine/Step.lean leave alone: one lemma for each, naming every part of the state that
it does not write. -/

namespace Sys2Proof.Machine

open Sys2Proof

theorem State.withFetchWord_frame (s : State) (nbits : ℕ) (w : ℕ) :
    (State.withFetchWord s nbits w).unit = s.unit ∧ (State.withFetchWord s nbits w).opUs = s.opUs ∧
    (State.withFetchWord s nbits w).savedOpUs = s.savedOpUs ∧
    (State.withFetchWord s nbits w).powerCycle = s.powerCycle ∧ (State.withFetchWord s nbits w).epoch = s.epoch ∧
    (State.withFetchWord s nbits w).power = s.power ∧ (State.withFetchWord s nbits w).rt = s.rt ∧
    (State.withFetchWord s nbits w).sec = s.sec ∧ (State.withFetchWord s nbits w).station = s.station ∧
    (State.withFetchWord s nbits w).bench = s.bench ∧ (State.withFetchWord s nbits w).eng = s.eng ∧
    (State.withFetchWord s nbits w).vote = s.vote ∧ (State.withFetchWord s nbits w).ash = s.ash ∧
    (State.withFetchWord s nbits w).field = s.field ∧ (State.withFetchWord s nbits w).can = s.can ∧
    (State.withFetchWord s nbits w).net = s.net ∧ (State.withFetchWord s nbits w).hi = s.hi ∧
    (State.withFetchWord s nbits w).xings = s.xings ∧ (State.withFetchWord s nbits w).mg = s.mg ∧
    (State.withFetchWord s nbits w).recorder = s.recorder ∧ (State.withFetchWord s nbits w).log = s.log ∧
    (State.withFetchWord s nbits w).test = s.test ∧ (State.withFetchWord s nbits w).update = s.update ∧
    (State.withFetchWord s nbits w).draws = s.draws ∧ (State.withFetchWord s nbits w).diag = s.diag ∧
    (State.withFetchWord s nbits w).outbox = s.outbox := by
  unfold State.withFetchWord; (repeat' split) <;> simp

end Sys2Proof.Machine
end

