-- ==== Sys2Proof/Laws/Shared.lean ====
section
/-! SUPPORT. What the operations that every meaning shares can do, once each: the mirror, the recorder's inbox, work given
up, and the entry into SAFE. -/

namespace Sys2Proof.Machine

open Sys2Proof

/-! ### The mirror -/

/-- The refresh of the mirror writes HI_STATE and the UNSTABLE bit of its transfer, and nothing else. -/
theorem State.settle_eq (s : State) :
    s.settle = { s with hi := { s.hi with state := s.settle.hi.state, unstable := s.settle.hi.unstable } } := by
  unfold State.settle
  split <;> rfl

@[simp] theorem State.settle_hi_m2 (s : State) : s.settle.hi.m2 = s.hi.m2 := by rw [State.settle_eq]

@[simp] theorem State.settle_hi_unstableCount (s : State) : s.settle.hi.unstableCount = s.hi.unstableCount := by rw [State.settle_eq]

@[simp] theorem State.settle_hi_eventMg (s : State) : s.settle.hi.eventMg = s.hi.eventMg := by rw [State.settle_eq]

@[simp] theorem State.settle_hi_eventCl (s : State) : s.settle.hi.eventCl = s.hi.eventCl := by rw [State.settle_eq]

@[simp] theorem State.settle_hi_downMg (s : State) : s.settle.hi.downMg = s.hi.downMg := by rw [State.settle_eq]

@[simp] theorem State.settle_hi_downCl (s : State) : s.settle.hi.downCl = s.hi.downCl := by rw [State.settle_eq]

@[simp] theorem State.settle_hi_stale (s : State) : s.settle.hi.stale = s.hi.stale := by rw [State.settle_eq]

/-- The refresh sets no UNSTABLE bit; it clears one when a word that differs passes. -/
theorem State.settle_hi_unstable (s : State) : s.settle.hi.unstable = true → s.hi.unstable = true := by
  unfold State.settle
  split <;> simp

@[simp] theorem State.settle_hi_failedWord (s : State) : s.settle.hi.failedWord = s.hi.failedWord := by rw [State.settle_eq]

@[simp] theorem State.settle_hi_msiSent (s : State) : s.settle.hi.msiSent = s.hi.msiSent := by rw [State.settle_eq]

@[simp] theorem State.settle_hi_doorbells (s : State) : s.settle.hi.doorbells = s.hi.doorbells := by rw [State.settle_eq]

@[simp] theorem State.settle_hi_completions (s : State) : s.settle.hi.completions = s.hi.completions := by rw [State.settle_eq]

@[simp] theorem State.settle_hi_noteCount (s : State) : s.settle.hi.noteCount = s.hi.noteCount := by rw [State.settle_eq]

@[simp] theorem State.settle_hi_scratch (s : State) : s.settle.hi.scratch = s.hi.scratch := by rw [State.settle_eq]

@[simp] theorem State.settle_hi_done (s : State) : s.settle.hi.done = s.hi.done := by rw [State.settle_eq]

@[simp] theorem State.settle_hi_busy (s : State) : s.settle.hi.busy = s.hi.busy := by rw [State.settle_eq]

@[simp] theorem State.settle_hi_head (s : State) : s.settle.hi.head = s.hi.head := by rw [State.settle_eq]

@[simp] theorem State.settle_hi_tail (s : State) : s.settle.hi.tail = s.hi.tail := by rw [State.settle_eq]

@[simp] theorem State.settle_hi_irqStat (s : State) : s.settle.hi.irqStat = s.hi.irqStat := by rw [State.settle_eq]

@[simp] theorem State.settle_hi_irqMask (s : State) : s.settle.hi.irqMask = s.hi.irqMask := by rw [State.settle_eq]

@[simp] theorem State.settle_hi_vectors (s : State) : s.settle.hi.vectors = s.hi.vectors := by rw [State.settle_eq]

@[simp] theorem State.settle_hi_bar2 (s : State) : s.settle.hi.bar2 = s.hi.bar2 := by rw [State.settle_eq]

@[simp] theorem State.settle_hi_readData (s : State) : s.settle.hi.readData = s.hi.readData := by rw [State.settle_eq]

@[simp] theorem State.settle_hi_noteSeq (s : State) : s.settle.hi.noteSeq = s.hi.noteSeq := by rw [State.settle_eq]

@[simp] theorem State.settle_hi_heldNotes (s : State) : s.settle.hi.heldNotes = s.hi.heldNotes := by rw [State.settle_eq]

@[simp] theorem State.settle_hi_lostNotes (s : State) : s.settle.hi.lostNotes = s.hi.lostNotes := by rw [State.settle_eq]

@[simp] theorem State.settle_hi_unread (s : State) : s.settle.hi.unread = s.hi.unread := by rw [State.settle_eq]

@[simp] theorem State.settle_hi_heldDone (s : State) : s.settle.hi.heldDone = s.hi.heldDone := by rw [State.settle_eq]

@[simp] theorem State.settle_hi_subscribed (s : State) : s.settle.hi.subscribed = s.hi.subscribed := by rw [State.settle_eq]

@[simp] theorem State.settle_hi_x8Subscribed (s : State) : s.settle.hi.x8Subscribed = s.hi.x8Subscribed := by rw [State.settle_eq]

@[simp] theorem State.settle_hi_x8Dest (s : State) : s.settle.hi.x8Dest = s.hi.x8Dest := by rw [State.settle_eq]

@[simp] theorem State.settle_hi_x8Last (s : State) : s.settle.hi.x8Last = s.hi.x8Last := by rw [State.settle_eq]

@[simp] theorem State.settle_hi_x8Seq (s : State) : s.settle.hi.x8Seq = s.hi.x8Seq := by rw [State.settle_eq]

@[simp] theorem State.settle_hi_x8Unsent (s : State) : s.settle.hi.x8Unsent = s.hi.x8Unsent := by rw [State.settle_eq]

@[simp] theorem State.settle_hi_x8Short (s : State) : s.settle.hi.x8Short = s.hi.x8Short := by rw [State.settle_eq]

@[simp] theorem State.settle_hi_x8 (s : State) : s.settle.hi.x8 = s.hi.x8 := by rw [State.settle_eq]

@[simp] theorem State.settle_hi_x8Address (s : State) : s.settle.hi.x8Address = s.hi.x8Address := by rw [State.settle_eq]

@[simp] theorem State.settle_hi_x8Plen (s : State) : s.settle.hi.x8Plen = s.hi.x8Plen := by rw [State.settle_eq]

@[simp] theorem State.settle_hi_x8Gateway (s : State) : s.settle.hi.x8Gateway = s.hi.x8Gateway := by rw [State.settle_eq]

@[simp] theorem State.settle_hi_x8New (s : State) : s.settle.hi.x8New = s.hi.x8New := by rw [State.settle_eq]

/-! ### The inbox of the recorder -/

/-- An event is appended to the inbox; the rest of the recorder stays. -/
@[simp] theorem State.event_recorder (s : State) (code : Nat) (src : Source) (sev : Severity) (a b c : Nat) (x : Bool) :
    (s.event code src sev a b c x).recorder = { s.recorder with inbox := s.recorder.inbox ++
      [{ code := code, source := src.code, severity := sev.code, timeSet := s.calendar.2, fromCluster := src == .cl,
         recovered := x, powerCycle := s.powerCycle, opMs := s.opUs / 1000, p0 := word a, p1 := word b,
         p2 := word c }] } := rfl

/-! ### Work given up -/

/-- Work given up switches every local demand off. -/
@[simp] theorem State.discardWork_demands (s : State) (k : Option Req) : (s.discardWork k).field.demands = 0 := by
  simp [State.discardWork, State.takeBack_frame _, State.voidPrepare_frame _ _ _, State.deliver_frame _ _]

/-- Work given up leaves the force table as the last phase O completed it (R145, R208). -/
@[simp] theorem State.discardWork_forces (s : State) (k : Option Req) :
    (s.discardWork k).bench.forces = s.bench.keptForces := by
  simp [State.discardWork, Bench.keptForces, Bench.nextForces, State.takeBack_frame _, State.takeBack_bench_frame _,
    State.voidPrepare_frame _ _ _, State.voidPrepare_bench_frame _ _ _, State.deliver_frame _ _]

end Sys2Proof.Machine
end

