-- ==== Sys2Proof/WellFormed.lean ====
section
/-! DEFINITION. Which commands can be sent: operands within the ranges that the spec's registers, ports and channels
have. A command outside them names nothing, and its meaning changes nothing of what it names. -/

namespace Sys2Proof

/-- A mailbox request has a payload of at most 4,064 bytes (R310). -/
def Req.wellFormed (r : Req) : Bool := r.payload.length ≤ 4064

/-- Channels DI0 to DI63 (R231). -/
def inputOk (n : Nat) : Bool := n < 64
/-- Outputs DO0 to DO31 (R231). -/
def outputOk (n : Nat) : Bool := n < 32
/-- Sources TP0 to TP7 (R231). -/
def sourceOk (n : Nat) : Bool := n < 8
/-- Field groups 0 to 3 (R231). -/
def groupOk (n : Nat) : Bool := n < 4
/-- Ports CAN0 to CAN7 (R261). -/
def canOk (n : Nat) : Bool := n < 8
/-- LAN A and LAN B (R299). -/
def lanOk (n : Nat) : Bool := n < 2
/-- Cores A, B, C and S (R158). -/
def coreOk (n : Nat) : Bool := n < 4
/-- Element indices are 16 bits wide (R30). -/
def elementOk (n : Nat) : Bool := n < 16384

/-- Whether a command's operands lie in the ranges of what they name. -/
def Instr.wellFormed : Instr → Bool
  | .nodeDropout n => 1 ≤ n && n ≤ 4094
  | .throwTimeout n | .signalConfirmTimeout n | .transactionTimeout n | .clearDelayExpiry n | .berthConfirmation n
  | .moveLimitExpiry n | .obstruction60s n => elementOk n
  | .proofTimeout n | .approachReleaseExpiry n | .overlapReleaseExpiry n | .emergencyReleaseExpiry n => n < 4096
  | .auxPrepareExpiry kind _ => 1 ≤ kind && kind ≤ 3
  | .coreAccuse slot item bus => slot < 3 && 1 ≤ item && item ≤ 4 && bus.length ≤ 3
  | .noMajority bus | .mismatch bus => bus.length ≤ 3
  | .targetedSelfTestDone block => block ≤ 4
  | .safeSelfTestDone failed => failed.all coreOk
  | .debugAttach _ core => coreOk core
  | .markRequest _ group _ _ => group < 64
  | .debounceExpiry channel _ _ => inputOk channel
  | .testPulseStart source | .sourceOverload source => sourceOk source
  | .testPulseCheck c => sourceOk c.source && c.high.all (fun p => inputOk p.1)
  | .coreToFieldFrame _ drops => drops.all (fun d => outputOk d.1 && outputOk d.2.1)
  | .outputSwitchTest t => outputOk t.channel && t.dropped.all (fun p => outputOk p.1)
  | .externalFeed m => outputOk m.channel
  | .outputOverload channel whole _ => if whole then groupOk channel else outputOk channel
  | .groupSupplyState group _ _ | .groupSwitchFault group _ => groupOk group
  | .canFrameReceived port f => canOk port && f.data.length ≤ 64 && (f.ident < 2 ^ (if f.extended then 29 else 11))
  | .rateDetectTimeout port | .canCommitReorder port _ | .canTxDone port | .canTxCancelled port | .canBusError port _
  | .idClashBlockExpiry port _ | .busOffRecovery port => canOk port
  | .datagramReceived d => lanOk d.lan
  | .lanDown lan | .supervisionFrameReceived lan | .arpRequest _ lan _ _ _ => lanOk lan
  | .doorbell _ block => block.length ≤ 4096
  | .x8RequestDatagram d => d.data.length ≤ 4096
  | .registerWrite offset bits _ => offset < 4096 && (bits == 8 || bits == 16 || bits == 32)
  | .msiVectorEnable n => n == 1 || n == 2 || n == 4
  | .tokenRefill code | .suppressionSummaryTimer code => code < 65536
  | .bistBlockDone b => 1 ≤ b.block && b.block ≤ 12
  | .bistBlockTimeout block _ => 1 ≤ block && block ≤ 11
  | .identify r | .capabilities r | .getStatus r | .setTime r | .getTime r | .shutdown r | .routeSet r | .routeCancel r
  | .pointMove r | .signalStop r | .routeState r | .elementState r | .auxPrepare r | .auxConfirm r | .doorOpen r
  | .doorClose r | .doorHealth r | .benchStart r | .benchStop r | .benchRestart r | .forceSet r | .forceClear r
  | .forceList r | .constantSet r | .constantGet r | .eventInfo r | .eventRead r | .eventFreeze r | .eventThaw r
  | .eventSetRate r | .updateBegin r | .updateData r | .updateVerify r | .updateActivate r | .updateConfirm r
  | .updateStatus r | .updateAbort r | .roleLogin r | .roleLogout r | .passwordSet r | .keyInstall r
  | .lifecycleAdvance r | .lockoutRelease r | .changeLogRead r | .maintAddress r | .diagVote r | .diagAshlar r
  | .diagSafeRecord r | .diagInputs r | .diagOutputs r | .diagGroups r | .diagCanPort r | .diagPortCounters r
  | .diagNode r | .diagNodeList r | .subscribe r | .subscriptionGet r => r.wellFormed
  | .powerOnReset _ | .ledTestEnd | .startUpTestDone _ | .fieldConfigTimeout | .logicSupplyLow _ | .logicSupplyHigh _
  | .internalRailFault | .logicSupplyRemoved | .boardTemperature _ | .backupCellFitted _ | .backupCellRemoved
  | .rtComparatorSample _ | .cellMeasurement _ | .opTimeSave | .phaseI _ | .phaseE _ | .phaseO _ | .phaseH _
  | .nodeTimeoutRecompute | .benchOverrun _ _ _ | .requestQueueService | .pendingExpired _ | .restartHoldEnd
  | .dwellWarning | .dwellExpiry | .forceReminder | .comparatorsDiffer _ _
  | .syncWindowDone _ | .coreSSignature _ | .sramCorrectableError _ _ | .sramUncorrectableError _ _ | .debugDetach
  | .sealChange _ | .ashlarReset | .ashlarSupplyFault | .ashlarTableLoadDone _ _ | .cycleCode _ | .ashlarLate
  | .ashlarArmWindowExpiry | .ashlarTableCheck _ | .ashlarClockCount _ _ | .ashlarHoldChange _ | .ashlarInputFrame _
  | .ashlarInputStale | .ashlarPermitFrame _ | .ashlarFrameLoss | .fieldToCoreFrame _
  | .isolationLinkLoss _ | .fieldSideReset | .telegramCheck _ _ | .prpSupervisionSend | .icmpEcho _ _
  | .hiDoneClear _ _ | .hiIrqStatClear _ | .hiIrqMaskWrite _ | .hiNoteTailWrite _ | .m2Write _ | .linkEventClear _ _
  | .hiXingRead | .hostLinkReset | .mgHeartbeatLoss | .mgRestart | .crossingLinkUp _ | .heldCompletionDelivery
  | .notificationFlush | .recordWrite _ | .eventFreezeExpiry | .sessionExpiry _ | .roleLockExpiry _
  | .maintAddressApply | .activationValidationDone | .firmwareActivationReset _ | .shutdownTestDone
  | .dwellCountSave | .ashlarSupplyReturn => true

end Sys2Proof
end

