-- ==== Sys2Proof/Tests/Slice0.lean ====
section
/-! SUPPORT. The model's own tests: every check of WellFormed refuses an ill-formed command, every statement's hypotheses
are met by a small state, and single commands against values worked out from the spec. -/

namespace Sys2Proof.Tests

set_option linter.unusedVariables false
set_option Elab.async false

open Sys2Proof Sys2Proof.Machine Sys2Proof.Safety

/-! ### Small states -/

/-- A module fresh from manufacture in a power state, 100 s after its power-on, its crossings up. -/
def lab (p : PowerState) : State := { power := { state := p, ledTest := false }, opUs := 100000000, xings := [] }

/-- An element of the small station, in node 1. -/
def el (i : Nat) (p : ElemPart) : Element :=
  { index := i, loc := false, snapshot := false, node := 1, object := i, subst := 1, name := 0, area := 0, part := p }

/-- The small station's only node. -/
def miniNode : Node :=
  { id := 1, port := 0, poly := 0, linkKey := 7, tRef := 60, toMin := 100, toMax := 1000, tgroup := 0, cyclePoll := false,
    neighbour := false }

/-- The small station's only route: over section 0 with point end 1, overlap section 6. -/
def miniRoute : Route :=
  { no := 0, entry := 7, exit := none, aspect := 1, kind := 0, approachRelease := 1, overlapRelease := 1,
    condition := none, suffix := 0, name := 0, path := [⟨0, 0, 1⟩, ⟨1, 0, 1⟩], overlap := [⟨6, 0, 0⟩], flank := [] }

/-- A small station: a section, a point end, a signal, an edge with a leaf and a berth window, an overlap section, a route signal. -/
def mini : Station :=
  { stationId := 5, dataVersion := 1, networkId := 0, tBench := 20, changeMode := 1, requireSpare := false,
    engineCycles := 300, keyId := 0, prepTime := 0, imageCrc := 0,
    elements := [el 0 (.track 1 true 0), el 1 (.point none 100 200 150 0 true), el 2 (.signal 3 0 false none (some 3)),
      el 3 (.edge 4 1 2 5 1 1 9 1), el 4 (.leaf 3 0 true 100), el 5 (.berth 3 0 0), el 6 (.track 1 true 0),
      el 7 (.signal 3 0 false none none)],
    routes := [miniRoute], lists := [],
    constants := [⟨5, 1, 10, 1, true⟩, ⟨0, 0, 0, 0, false⟩, ⟨0, 0, 0, 0, false⟩, ⟨0, 0, 0, 0, false⟩,
      ⟨4, 1, 24, 3, false⟩, ⟨0, 0, 0, 0, false⟩, ⟨3, 2, 5, 5, false⟩, ⟨16, 1, 64, 5, false⟩, ⟨20, 1, 50, 4, false⟩],
    nodes := [miniNode], ashlar := [], ashlarSectionCrc := 0, ashlarOffset := 0,
    can := List.replicate 8 { enable := true, nominal := 3, dataRate := 1, filters := [⟨0, 0, 1, true⟩] },
    inputs := [], outputs := [], pulses := [], groups := [], localIo := [] }

/-- The small station in a power state, in COMMISSIONING, with a Safety Authority session 1 and the seal open. -/
def bench (p : PowerState) : State :=
  { lab p with
    sec := { lcP := true, lcC := true, sealPat := 0b1010#4 }
    station := some mini
    eng := { elems := List.replicate 8 {}, routes := [{}] }
    mg := { sessions := [⟨1, .pcie, .safetyAuthority, 0⟩] }
    net := { nodes := [{ id := 1, timeout := 100 }] }
    bench := { freezeUs := 90000000, nextFreezeUs := 90020000 } }

/-- The small station in RUN with a given engine. -/
def withEng (e : Engine) : State := { bench .run with eng := e }

/-- Eight elements, one of them given. -/
def elemsAt (i : Nat) (d : ElemDyn) : List ElemDyn := upd (List.replicate 8 {}) i (fun _ => d)

/-- The small station in RUN with its dwell limit of 4 h running. -/
def dwelling (t : Nat) : State := { bench .run with opUs := t }

/-- Two slots voting, the third vacant. -/
def twoSlots : List Slot := [⟨0, true, false, none⟩, ⟨1, true, false, none⟩, ⟨2, false, true, none⟩]

/-- A power-on that finds everything in order. -/
def on : PowerOn := ⟨24000, 0, true, true, 3000, 0, []⟩

/-- A request on PCIe in slot 0 with session 1. -/
def ask (a b : Nat) (p : List Byte := []) : Req :=
  ⟨.pcie, 0, 0, 1, BitVec.ofNat 32 a, BitVec.ofNat 32 b, p, 0, 0, 0⟩

/-- The first 508 bytes of a table. -/
def blank : List Byte := List.replicate 508 0

theorem blank_length : blank.length = 508 := List.length_replicate

/-- A table with a CRC. -/
def table (c : Word) : List Byte := blank ++ le 4 c.toNat

/-- A module in STOP with one request that has crossed to the cluster, and the arrival number seen last. -/
def queued (last : Option Nat) : State :=
  { lab .stop with
    mg := { queue := [⟨0x0101, ask 0 0, 0⟩] }
    eng := { lastSeq := last }
    xings := [(.mgCl, { linkDown := false, stale := false, counter := { count := 1 } })] }

/-- An intact Ashlar table of zeros. -/
def goodTable : List Byte := table (crc32c blank)

/-- A table whose CRC does not fit. -/
def badTable : List Byte := table (crc32c blank + 1)

theorem table_length (c : Word) : (table c).length = 512 := by rw [table, List.length_append, blank_length]; rfl

theorem table_take (c : Word) : (table c).take 508 = blank := by
  rw [table, ← blank_length, List.take_left]

theorem table_pad (c : Word) : padTo 512 (table c) = table c := by
  rw [padTo, table_length, Nat.sub_self, List.replicate_zero, List.append_nil, ← table_length c, List.take_length]

theorem table_word (c : Word) : word (u32 (table c) 508) = c := by
  have h : (table c).drop 508 = le 4 c.toNat := by rw [table, ← blank_length, List.drop_left]
  rw [u32, slice, h]
  apply BitVec.eq_of_toNat_eq
  simp only [le, ofLe, word, List.take, BitVec.toNat_ofNat]
  omega

theorem badTable_differs : crc32c (badTable.take 508) ≠ word (u32 badTable 508) := by
  rw [badTable, table_word, table_take]
  generalize crc32c blank = c
  bv_omega

/-- A field side with input 63 on source 0, debounced over 1 ms in windows of 1 ms, source 0 every 1 ms, and output 31. -/
def wired : Field :=
  { config := List.replicate 504 0 ++ [2, 0, 100, 0, 232, 3, 0, 0] ++ List.replicate 124 0 ++ [1, 0, 0, 0]
      ++ [1, 1, 0, 0] ++ List.replicate 60 0 }

/-- An output in use, switched on. -/
def lit : FieldOutput := { demand := true, permit := true, high := true, low := true }

/-- The wired field side with its 32 outputs switched on. -/
def lamps : Field := { wired with outputs := List.replicate 32 lit }

/-- The 60 bytes of a STATE telegram of node 1 for station 5, and its safety code. -/
def goodTelegram : List Byte :=
  [0x33, 0x00, 0x10, 0x05, 0, 0, 1, 8, 2, 0, 0, 0, 0, 1, 0, 0] ++ List.replicate 44 0 ++ [238, 78, 148, 155]

/-- The same with another safety code. -/
def badTelegram : List Byte := goodTelegram.take 60 ++ [0, 0, 0, 0]

/-- The small station in RUN with a telegram in the buffer. -/
def hearing (b : List Byte) : State :=
  { bench .run with
    net := { nodes := [{ id := 1, timeout := 100, reference := some (0, 0) }], buffer := [⟨0, b, 100, false⟩] } }

/-- The small station ready for its doors to open. -/
def doorsReady : State :=
  withEng { elems := upd (elemsAt 5 { image := 3 }) 2 (fun d => { d with demand := some 0 }), routes := [{}] }

/-- A login record for the Maintainer with ten letters A. -/
def loginRecord : List Byte := [1, 10, 0, 0] ++ List.replicate 10 0x41 ++ List.replicate 54 0

/-- What is stored for that password with an empty salt. -/
def stored : Password := storedPassword (List.replicate 10 0x41) []

/-- The payload that confirms a restart release of area 5 with challenge 1. -/
def confirming : List Byte := [3, 0, 5, 0, 1, 0, 0, 0, 0, 0, 0, 0]

/-- An update header of two blocks for the station data. -/
def updateHeader : List Byte :=
  List.replicate 8 0 ++ [2] ++ List.replicate 15 0 ++ [2, 0, 0, 0] ++ [0, 0, 1, 0] ++ List.replicate 480 0

/-- The same with one byte in its last block. -/
def smallHeader : List Byte :=
  List.replicate 8 0 ++ [2] ++ List.replicate 15 0 ++ [2, 0, 0, 0] ++ [1, 0, 0, 0] ++ List.replicate 480 0

/-- A SIGNAL_STOP block with tag 5. -/
def stopBlock : List Byte := [4, 1, 5, 0, 0, 0, 0, 0] ++ List.replicate 20 0 ++ [200, 0, 109, 177]

/-- A SIGNAL_STOP block whose CRC does not fit. -/
def badBlock : List Byte := [4, 1, 5, 0, 0, 0, 0, 0] ++ List.replicate 20 0 ++ [0, 0, 0, 0]

/-- An empty image fails validation. -/
theorem emptyImage : ∃ x, validate { bytes := [], variant := .v40, keyId := 0, key := [], activeStation := some 5, newStation := false } = some x := by
  have h : (validate { bytes := [], variant := .v40, keyId := 0, key := [], activeStation := some 5, newStation := false }).isSome = true := by
    decide +kernel
  exact Option.isSome_iff_exists.1 h

theorem witness_StepRunsFront_1 : ∃ (c : Instr) (rest : List Instr) (s : State), s.pending = c :: rest :=
  ⟨.ledTestEnd, [], { State.reset with pending := [.ledTestEnd] }, rfl⟩

theorem witness_IdleStepTicks_1 : ∃ (s : State), s.pending = [] :=
  ⟨State.reset, rfl⟩

theorem witness_StepKeepsUnitAndQueue_1 : ∃ (s t : State), Machine.step s = .next t :=
  ⟨State.reset, State.reset.tick, rfl⟩

theorem witness_StepKeepsPermitsOk_1 : ∃ (s t : State), PermitsOk s.ash ∧ Machine.step s = .next t :=
  ⟨State.reset, State.reset.tick, ⟨by unfold PermitsOk; decide, rfl⟩⟩

theorem witness_StepKeepsOutputsOff_1 : ∃ (s t : State), OutputsOff s ∧ Machine.step s = .next t :=
  ⟨State.reset, State.reset.tick, ⟨by unfold OutputsOff; decide, rfl⟩⟩

theorem witness_StepKeepsFuses_1 : ∃ (s t : State), Machine.step s = .next t :=
  ⟨State.reset, State.reset.tick, rfl⟩

theorem witness_StepKeepsMirror_1 : ∃ (s t : State), Mirrored s ∧ Machine.step s = .next t :=
  ⟨State.reset, State.reset.tick, ⟨by unfold Mirrored; decide, rfl⟩⟩

theorem witness_ResetState_1 : ∃ (cs : List Instr) (t : State), Machine.step { State.reset with pending := cs } =
    .next t :=
  ⟨[.ledTestEnd], _, rfl⟩

theorem witness_PowerUpResets_1 : ∃ (p : PowerOn) (s : State), s.power.state.powered = false ∧ 16800 ≤ p.mv :=
  ⟨on, lab .off, by decide +kernel⟩

theorem witness_PowerUpResets_2 : ∃ (p : PowerOn) (s : State) (u : Nat), s.power.state.powered = true ∧
    s.update.resetUs = some u ∧ u ≤ s.opUs :=
  ⟨on, { lab .stop with update := { resetUs := some 100000000 } }, 100000000, by decide +kernel⟩

theorem witness_StartRuns_1 : ∃ (s : State), s.power.state = .start ∧ s.power.ledTest = true ∧ s.power.startUs +
    1000000 ≤ s.opUs :=
  ⟨{ State.reset with opUs := 1000000 }, by decide +kernel⟩

theorem witness_StartRuns_2 : ∃ (r : StartResult) (s : State), s.power.state = .start ∧ s.power.ledTest = false ∧
    s.power.testPassed = false ∧ s.power.dead = false ∧ s.power.fullForm = false ∧ s.power.cause = .powerOn ∧
    s.power.wasSafe = false ∧ s.power.lockoutCause = 0 ∧ s.vote.dwellExpired = false ∧ (s.lifecycle ≠ 3 ∨ s.station =
    none) ∧ s.eng.waiting = [] ∧ VotingWhole s.vote ∧ 2 ≤ ((List.range 4).filter s.coreHealthy).length ∧ CleanStart r
    :=
  ⟨⟨[], [], true, [], true, true, true, [], 100⟩,
    { lab .start with power := { ledTest := false, fullForm := false } },
    by unfold VotingWhole CleanStart; decide +kernel⟩

theorem witness_StartRuns_3 : ∃ (r : StartResult) (s : State), s.power.state = .start ∧ s.power.ledTest = false ∧
    s.power.testPassed = false ∧ s.power.dead = false ∧ s.power.lockoutCause = 0 ∧ r.plantedOk = false :=
  ⟨⟨[], [], false, [], true, true, true, [], 100⟩, lab .start, by decide +kernel⟩

theorem witness_StartRuns_4 : ∃ (s : State), s.power.state = .start ∧ s.power.testPassed = true ∧ s.fieldConfirmed =
    false ∧ s.power.testPassedUs + 10000 ≤ s.opUs ∧ EntersSafe s :=
  ⟨{ lab .start with power := { ledTest := false, testPassed := true, testPassedUs := 99990000 } },
    by unfold EntersSafe; decide +kernel⟩

theorem witness_SupplyFaultsEnterSafe_1 : ∃ (mv : Nat) (s : State), EntersSafe s ∧ mv < 16800 :=
  ⟨16799, lab .run, by unfold EntersSafe; decide +kernel⟩

theorem witness_SupplyFaultsEnterSafe_2 : ∃ (mv : Nat) (s : State), EntersSafe s ∧ 30000 < mv ∧ mv ≤ 50000 :=
  ⟨30001, lab .run, by unfold EntersSafe; decide +kernel⟩

theorem witness_SupplyFaultsEnterSafe_3 : ∃ (s : State), EntersSafe s :=
  ⟨lab .stop, by unfold EntersSafe; decide +kernel⟩

theorem witness_SupplyFaultsEnterSafe_4 : ∃ (x : Int) (s : State), EntersSafe s ∧ (850 < x ∨ x < -450) ∧ 0xC020 ∉
    s.power.causes :=
  ⟨851, lab .start, by unfold EntersSafe; decide +kernel⟩

theorem witness_SupplyFaultsEnterSafe_5 : ∃ (s : State), (s.power.state = .run ∨ s.power.state = .start ∨
    s.power.state = .stop) ∧ (s.power.state = .start → s.power.lockoutCause = 0) ∧ 2 ≤ (s.power.entries.filter (fun t
    => s.opS < t + day)).length :=
  ⟨{ lab .start with power := { state := .start, entries := [0, 0] } }, by decide +kernel⟩

theorem witness_PowerLossAndBackup_1 : ∃ (s : State), s.power.state.powered = true :=
  ⟨lab .run, by decide +kernel⟩

theorem witness_PowerLossAndBackup_2 : ∃ (mv : Nat) (s : State), s.power.state = .off :=
  ⟨2000, lab .off, by decide +kernel⟩

theorem witness_PowerLossAndBackup_3 : ∃ (s : State), s.power.state = .standby :=
  ⟨lab .standby, by decide +kernel⟩

theorem witness_PowerLossAndBackup_4 : ∃ (s : State), s.power.state.powered = true :=
  ⟨lab .run, by decide +kernel⟩

theorem witness_PowerLossAndBackup_5 : ∃ (p : PowerOn) (s : State), s.power.state = .off ∧ s.rt.alive = false ∧ 16800
    ≤ p.mv ∧ (p.bank0Ok || p.bank1Ok) = true :=
  ⟨on, { lab .off with rt := { alive := false } }, by decide +kernel⟩

theorem witness_PowerLossAndBackup_6 : ∃ (c : RtSample) (s : State), s.power.state = .standby :=
  ⟨.cell 1999, lab .standby, by decide +kernel⟩

theorem witness_SavesAndCell_1 : ∃ (s : State), s.power.state.powered = true :=
  ⟨lab .run, by decide +kernel⟩

theorem witness_SavesAndCell_2 : ∃ (mv : Nat) (s : State), s.power.state.powered = true ∧ 2500 ≤ mv :=
  ⟨2500, lab .run, by decide +kernel⟩

theorem witness_SavesAndCell_3 : ∃ (mv : Nat) (s : State), s.power.state.powered = true ∧ 500 ≤ mv ∧ mv < 2500 ∧
    s.power.cellLowTold = false :=
  ⟨500, lab .run, by decide +kernel⟩

theorem witness_SavesAndCell_4 : ∃ (mv : Nat) (s : State), s.power.state.powered = true ∧ mv < 500 ∧
    s.power.cellLowTold = true ∧ s.power.cellGoneTold = false :=
  ⟨499, { lab .run with power := { state := .run, cellLowTold := true } }, by decide +kernel⟩

theorem witness_SavesAndCell_5 : ∃ (s : State), s.power.state.powered = true ∧ (s.vote.dwellSavedS + 60) * 1000000 ≤
    s.dwellNow :=
  ⟨{ lab .run with vote := { slots := twoSlots, dwellUs := 60000000 } }, by decide +kernel⟩

theorem witness_ShutdownBegins_1 : ∃ (q : Req) (s : State), s.mailboxLive = true ∧ (s.power.state = .stop ∨
    s.power.state = .safe ∨ s.power.state = .lockout) ∧ s.sec.debug ≠ .invasive ∧ s.sec.debug ≠ .testEngine ∧ s.holds
    q (some .maintainer) = true :=
  ⟨ask 0 0, lab .stop, by decide +kernel⟩

theorem witness_BistBlockVerdicts_1 : ∃ (b : BlockResult) (s : State), s.power.state = .shutdownTest ∧ s.test.step =
    b.block ∧ 1 ≤ b.block ∧ b.block ≤ 7 ∧ b.block ≠ 4 ∧ b.engineCount = terminal s.unit.variant.spare b.block ∧
    b.ashlarCount = b.engineCount :=
  ⟨⟨7, terminal true 7, terminal true 7, 0, [], [], []⟩, { lab .shutdownTest with test := { step := 7 } },
    by decide +kernel⟩

theorem witness_BistBlockVerdicts_2 : ∃ (block count : Nat) (s : State), s.power.state = .shutdownTest ∧ s.test.step =
    block ∧ 1 ≤ block ∧ block ≤ 10 ∧ s.test.stepUs + stepLimitUs block ≤ s.opUs :=
  ⟨10, 0, { lab .shutdownTest with test := { step := 10 }, opUs := stepLimitUs 10 }, by decide +kernel⟩

theorem witness_ShutdownEnds_1 : ∃ (s : State), s.power.state = .shutdownTest ∧ s.test.step = 13 :=
  ⟨{ lab .shutdownTest with test := { step := 13 } }, by decide +kernel⟩

theorem witness_PhaseIFreezes_1 : ∃ (samples : List (Crossing × List Word)) (s : State), s.power.state = .run ∧
    s.bench.frozen = false ∧ s.bench.nextFreezeUs ≤ s.opUs :=
  ⟨[], { bench .run with bench := { nextFreezeUs := 100000000 } }, by decide +kernel⟩

theorem witness_PhaseEEvaluates_1 : ∃ (cycles : Nat) (s : State), s.power.state = .run ∧ s.bench.frozen = true ∧
    s.bench.evaluated = false :=
  ⟨301, { bench .run with bench := { frozen := true } }, by decide +kernel⟩

theorem witness_PhaseOCommits_1 : ∃ (samples : List Word) (s : State), s.power.state = .run ∧ s.bench.frozen = true ∧
    s.bench.evaluated = true ∧ s.phaseOUs ≤ s.opUs ∧ s.bench.discard = false ∧ s.bench.stopping = false ∧
    s.bench.noCode = false :=
  ⟨[], { bench .run with bench := { frozen := true, evaluated := true, freezeUs := 99985000 } }, by decide +kernel⟩

theorem witness_PhaseODiscards_1 : ∃ (samples : List Word) (s : State), s.power.state = .run ∧ s.bench.frozen = true ∧
    s.bench.evaluated = true ∧ s.phaseOUs ≤ s.opUs ∧ s.bench.discard = true ∧ s.bench.stopping = false :=
  ⟨[], { bench .run with bench := { frozen := true, evaluated := true, discard := true, freezeUs := 99985000 } },
    by decide +kernel⟩

theorem witness_PhaseHTestsLanes_1 : ∃ (lane slice : Bool) (s : State), s.power.state = .run ∧ s.bench.frozen = false
    ∧ s.bench.housekept = false ∧ s.phaseOUs ≤ s.opUs ∧ s.vote.laneCheck = none :=
  ⟨false, true, { bench .run with bench := { housekept := false } }, by decide +kernel⟩

theorem witness_PhaseHTestsLanes_2 : ∃ (slice : Bool) (l1 l2 : List Nat) (s : State), s.power.state = .run ∧
    s.bench.frozen = false ∧ s.bench.housekept = false ∧ s.phaseOUs ≤ s.opUs ∧ s.vote.laneCheck = none ∧ s.vote.lanes
    = l1 ++ s.vote.laneTurn :: l2 ∧ s.vote.laneTurn ∉ l1 ∧ 3 ∉ s.vote.lanes ∧ EntersSafe s :=
  ⟨true, [0, 1], [], { bench .run with bench := { housekept := false }, vote := { laneTurn := 2 } },
    by unfold EntersSafe; decide +kernel⟩

theorem witness_OverrunsDiscardAndStop_1 : ∃ (phase : Phase) (cycles engine : Nat) (s : State), s.power.state = .run ∧
    s.overdue phase = true ∧ (∀ k, s.bench.overran = some k → k ≠ s.bench.cycle ∧ (k + 1) % 2 ^ 32 ≠ s.bench.cycle) :=
  ⟨.e, 9, 301, { bench .run with bench := { frozen := true, cycle := 5, overran := some 3 } },
    ⟨by decide +kernel, by decide +kernel, by intro k h; cases h; decide⟩⟩

theorem witness_OverrunsDiscardAndStop_2 : ∃ (phase : Phase) (cycles engine k : Nat) (s : State), s.overdue phase =
    true ∧ s.bench.overran = some k ∧ s.bench.cycle = (k + 1) % 2 ^ 32 ∧ k ≠ s.bench.cycle ∧ s.power.state = .run ∧
    EntersSafe s ∧ (phase = .e → engine ≤ ((s.station.map Station.engineCycles).getD 0)) :=
  ⟨.o, 9, 301, 4294967295,
    { bench .run with bench := { frozen := true, evaluated := true, overran := some 4294967295 } },
    by unfold EntersSafe; decide +kernel⟩

theorem witness_OverrunsDiscardAndStop_3 : ∃ (phase : Phase) (cycles engine : Nat) (s : State), s.overdue phase =
    false :=
  ⟨.h, 9, 9, bench .run, by decide +kernel⟩

theorem witness_QueueServedOutsideRun_1 : ∃ (l : List Queued) (s : State), s.power.state ≠ .run ∧ s.mailboxLive = true
    ∧ (s.xing .mgCl).unusable = false ∧ s.mg.queue = l ∧ l ≠ [] ∧ l.length ≤ (s.xing .mgCl).counter.received ∧
    inSequence s.eng.lastSeq l = true :=
  ⟨[⟨0x0101, ask 0 0, 0⟩], queued none, by decide +kernel⟩

theorem witness_QueueServedOutsideRun_2 : ∃ (l : List Queued) (s : State), s.power.state ≠ .run ∧ s.mailboxLive = true
    ∧ (s.xing .mgCl).unusable = false ∧ s.mg.queue = l ∧ l ≠ [] ∧ l.length ≤ (s.xing .mgCl).counter.received ∧
    inSequence s.eng.lastSeq l = false ∧ s.mg.alive = true ∧ s.mg.voided = [] ∧ s.hi.downMg = true ∧ (∀ x ∈ l,
    x.req.via = .pcie) :=
  ⟨[⟨0x0101, ask 0 0, 0⟩], queued (some 5), by decide +kernel⟩

theorem witness_QueueServedOutsideRun_3 : ∃ (s : State), s.power.state ≠ .run ∧ s.mailboxLive = true ∧ s.mg.alive =
    true ∧ (s.xing .clMg).linkDown = false ∧ (s.mg.queue = [] ∨ (s.xing .mgCl).linkDown = true) :=
  ⟨lab .stop, by decide +kernel⟩

theorem witness_NodeSupervision_1 : ∃ (id : Nat) (n : Node) (d : NodeDyn) (s : State), s.power.state = .run ∧ s.node
    id = some n ∧ s.nodeDyn id = some d ∧ s.nodeLate d = true ∧ d.dropped = false :=
  ⟨1, miniNode, { id := 1, timeout := 100, lastRxUs := some 89989999 },
    { bench .run with net := { nodes := [{ id := 1, timeout := 100, lastRxUs := some 89989999 }] } },
    by decide +kernel⟩

theorem witness_NodeSupervision_2 : ∃ (id : Nat) (n : Node) (d : NodeDyn) (s : State), s.power.state = .run ∧
    s.bench.frozen = false ∧ s.phaseOUs ≤ s.opUs ∧ s.net.recomputeUs ≤ s.opUs ∧ s.nodeTable.filter (fun x => x.id ==
    id) = [n] ∧ s.nodeDyn id = some d ∧ 200 ≤ d.intervals.length :=
  ⟨1, miniNode, { id := 1, intervals := List.replicate 200 5 },
    { bench .run with net := { nodes := [{ id := 1, intervals := List.replicate 200 5 }] } }, by decide +kernel⟩

theorem witness_TransactionLimits_1 : ∃ (i k c : Nat) (x : Txn) (s : State), s.power.state = .run ∧ i <
    s.eng.elems.length ∧ OnlyTxn s i k x ∧ x.kind = .pointThrow ∧ x.ended = false ∧ x.commitUs = some c ∧ s.image i ≠
    x.value ∧ c + x.limitUs ≤ s.bench.freezeUs :=
  ⟨1, 0, 89999990, ⟨.pointThrow, 1, 1, true, some 89999990, 10, false⟩,
    withEng { elems := List.replicate 8 {}, txns := [⟨.pointThrow, 1, 1, true, some 89999990, 10, false⟩] },
    by unfold OnlyTxn; decide +kernel⟩

theorem witness_TransactionLimits_2 : ∃ (i k c : Nat) (x : Txn) (s : State), s.power.state = .run ∧ OnlyTxn s i k x ∧
    (x.kind = .signalClear ∨ x.kind = .signalStop ∨ x.kind = .sectionReset) ∧ x.ended = false ∧ x.commitUs = some c ∧
    s.txnDone x = false ∧ c + x.limitUs ≤ s.bench.freezeUs :=
  ⟨2, 0, 89999990, ⟨.signalStop, 2, 0, true, some 89999990, 10, false⟩,
    withEng { elems := elemsAt 2 { image := 0x11 }, txns := [⟨.signalStop, 2, 0, true, some 89999990, 10, false⟩] },
    by unfold OnlyTxn; decide +kernel⟩

theorem witness_RouteTimersFree_1 : ∃ (n limit i : Nat) (r : Route) (s : State), s.power.state = .run ∧ n <
    s.eng.routes.length ∧ s.fullRoute n = some r ∧ (s.rdyn n).state = .locked ∧ s.proofLimitUs r = some limit ∧
    s.unproven n r = some i ∧ (s.rdyn n).lockedUs + limit < s.bench.freezeUs :=
  ⟨0, 10000, 0, miniRoute,
    withEng { elems := List.replicate 8 {}, routes := [{ state := .locked, lockedUs := 89989999 }] },
    by decide +kernel⟩

theorem witness_RouteTimersFree_2 : ∃ (n e : Nat) (r : Route) (s : State), s.power.state = .run ∧ n <
    s.eng.routes.length ∧ s.fullRoute n = some r ∧ (s.rdyn n).state = .cancelling ∧ (s.rdyn n).approachWait = false ∧
    (s.rdyn n).approachEnd = some e ∧ e ≤ s.bench.freezeUs ∧ s.showsStop r.entry = true :=
  ⟨0, 90000000, miniRoute,
    withEng { elems := List.replicate 8 {}, routes := [{ state := .cancelling, approachEnd := some 90000000 }] },
    by decide +kernel⟩

theorem witness_RouteTimersFree_3 : ∃ (n e : Nat) (r : Route) (s : State), s.power.state = .run ∧ n <
    s.eng.routes.length ∧ s.fullRoute n = some r ∧ (s.rdyn n).overlapEnd = some e ∧ e ≤ s.bench.freezeUs ∧ (∀ x ∈
    s.sections r.overlap, s.image x.element = 0) :=
  ⟨0, 90000000, miniRoute,
    withEng { elems := List.replicate 8 {}, routes := [{ state := .occupied, overlapEnd := some 90000000 }] },
    by decide +kernel⟩

theorem witness_RouteTimersFree_4 : ∃ (n e : Nat) (r : Route) (s : State), s.power.state = .run ∧ n <
    s.eng.routes.length ∧ s.fullRoute n = some r ∧ (s.rdyn n).emergencyEnd = some e ∧ e ≤ s.bench.freezeUs ∧
    s.showsStop r.entry = true :=
  ⟨0, 90000000, miniRoute,
    withEng { elems := List.replicate 8 {}, routes := [{ state := .occupied, emergencyEnd := some 90000000 }] },
    by decide +kernel⟩

theorem witness_QueueAndPrepareTimers_1 : ∃ (n : Nat) (p : Pend) (s : State), s.power.state = .run ∧ n <
    s.eng.routes.length ∧ p.want = .route n ∧ p.req = none ∧ s.eng.queue.filter (fun x => x.arrival == p.arrival &&
    x.enteredUs + 30000000 ≤ s.bench.freezeUs) = [p] :=
  ⟨0, ⟨.route 0, 3, 60000000, 0x0101, none, 0, 0⟩,
    withEng { elems := List.replicate 8 {}, routes := [{ state := .requested }], queue := [⟨.route 0, 3, 60000000, 0x0101, none, 0, 0⟩] },
    by decide +kernel⟩

theorem witness_QueueAndPrepareTimers_2 : ∃ (p : Prepare) (e : Nat) (s : State), s.power.state = .run ∧
    s.eng.prepares.filter (fun x => x.kind == p.kind && x.target == p.target) = [p] ∧ p.expired = false ∧ p.doneUs =
    some e ∧ e + 30000000 < s.bench.freezeUs :=
  ⟨⟨3, 0, 5, 123456, some 59999999, false⟩, 59999999,
    withEng { prepares := [⟨3, 0, 5, 123456, some 59999999, false⟩] }, by decide +kernel⟩

theorem witness_QueueAndPrepareTimers_3 : ∃ (e : Nat) (s : State), s.power.state = .run ∧ s.eng.holdEnd = some e ∧ e ≤
    s.bench.freezeUs :=
  ⟨90000000, withEng { elems := elemsAt 1 { held := true }, holdEnd := some 90000000 }, by decide +kernel⟩

theorem witness_ConfirmationTimers_1 : ∃ (i c : Nat) (e : Element) (s : State), s.power.state = .run ∧ i <
    s.eng.elems.length ∧ s.elem i = some e ∧ (s.dyn i).substituted = false ∧ (s.dyn i).failed = false ∧ (s.dyn
    i).confirmed = false ∧ (s.dyn i).committed = some c ∧ confirms e c (s.dyn i).value = false ∧ (s.dyn i).commitUs +
    2000000 ≤ s.bench.freezeUs :=
  ⟨2, 0x11, el 2 (.signal 3 0 false none (some 3)),
    withEng { elems := elemsAt 2 { confirmed := false, committed := some 0x11, commitUs := 88000000 } },
    by decide +kernel⟩

theorem witness_ConfirmationTimers_2 : ∃ (i k delay a : Nat) (b : Bool) (s : State), s.power.state = .run ∧ i <
    s.eng.elems.length ∧ s.part i = .track k b delay ∧ (s.dyn i).substituted = false ∧ (s.dyn i).reported = some 0 ∧
    (s.dyn i).clearSince = some a ∧ a + (s.dyn i).clearDelayUs ≤ s.bench.freezeUs :=
  ⟨0, 1, 0, 89000000, true,
    withEng { elems := elemsAt 0 { reported := some 0, clearSince := some 89000000, clearDelayUs := 1000000, value := 1 } },
    by decide +kernel⟩

theorem witness_ConfirmationTimers_3 : ∃ (i g pos sec a : Nat) (s : State), s.power.state = .run ∧ i <
    s.eng.elems.length ∧ s.part i = .berth g pos sec ∧ (s.dyn i).berthSince = some a ∧ a + (s.dyn i).confirmUs ≤
    s.bench.freezeUs :=
  ⟨5, 3, 0, 0, 89000000, withEng { elems := elemsAt 5 { berthSince := some 89000000, confirmUs := 1000000 } },
    by decide +kernel⟩

theorem witness_LeafTimers_1 : ∃ (i g pos limit : Nat) (b : Bool) (s : State), s.power.state = .run ∧ i <
    s.eng.elems.length ∧ s.part i = .leaf g pos b limit ∧ (s.dyn i).leafCause = 0 ∧ s.time10ms limit < (s.dyn
    i).movingUs :=
  ⟨4, 3, 0, 100, true, withEng { elems := elemsAt 4 { value := 2, movingUs := 1000001 } }, by decide +kernel⟩

theorem witness_LeafTimers_2 : ∃ (i a : Nat) (s : State), s.power.state = .run ∧ i < s.eng.elems.length ∧ (s.dyn
    i).obstructedSince = some a ∧ a + 60000000 ≤ s.bench.freezeUs ∧ (s.dyn i).obstructedTold = false :=
  ⟨4, 30000000, withEng { elems := elemsAt 4 { value := 4, image := 4, obstructedSince := some 30000000 } },
    by decide +kernel⟩

theorem witness_VotingFaults_1 : ∃ (slot item : Nat) (bus : List BusAccess) (v : Slot) (s : State),
    s.vote.slots[slot]? = some v ∧ v.active = true ∧ s.vote.activeSlots = 3 ∧ s.compares = true ∧ (∀ c, v.joinedCycle
    = some c → c + 4 ≤ s.bench.cycle) ∧ v.core < s.vote.cores.length :=
  ⟨0, 0, [], ⟨0, true, false, some 0⟩,
    { lab .run with vote := { slots := [⟨0, true, false, some 0⟩, ⟨1, true, false, none⟩, ⟨2, true, false, none⟩] }, bench := { cycle := 4 } },
    ⟨by decide, by decide, by decide, by decide, by intro c h; cases h; decide, by decide⟩⟩

theorem witness_VotingFaults_2 : ∃ (bus : List BusAccess) (s : State), s.vote.activeSlots = 3 ∧ s.compares = true ∧
    EntersSafe s :=
  ⟨[], lab .run, by unfold EntersSafe; decide +kernel⟩

theorem witness_VotingFaults_3 : ∃ (bus : List BusAccess) (s : State), s.vote.activeSlots = 2 ∧ s.compares = true ∧
    EntersSafe s :=
  ⟨[], { lab .run with vote := { slots := twoSlots } }, by unfold EntersSafe; decide +kernel⟩

theorem witness_VotingFaults_4 : ∃ (x y : Byte) (s : State), s.compares = true ∧ x ≠ y ∧ (s.power.state = .run ∨
    s.power.state = .start ∨ s.power.state = .stop ∨ s.power.state = .safe) :=
  ⟨1, 2, lab .safe, by decide +kernel⟩

theorem witness_VotingFaults_5 : ∃ (x y : Byte) (s : State), s.compares = true ∧ x ≠ y ∧ s.power.state = .lockout :=
  ⟨1, 2, { lab .lockout with power := { state := .lockout, lockoutCause := 2 } }, by decide +kernel⟩

theorem witness_SelfTestVerdicts_1 : ∃ (slot : Nat) (s : State), s.vote.testing = some slot :=
  ⟨0, { lab .run with vote := { testing := some 0 } }, by decide +kernel⟩

theorem witness_SelfTestVerdicts_2 : ∃ (slot block : Nat) (x : Slot) (s : State), s.vote.testing = some slot ∧
    s.vote.slots[slot]? = some x ∧ x.core < s.vote.cores.length ∧ x.core ≠ 3 ∧ block ≠ 0 :=
  ⟨0, 1, ⟨0, false, false, none⟩,
    { lab .run with vote := { testing := some 0, slots := [⟨0, false, false, none⟩, ⟨1, true, false, none⟩, ⟨2, true, false, none⟩] } },
    by decide +kernel⟩

theorem witness_SelfTestVerdicts_3 : ∃ (slot core : Nat) (s : State), s.power.state = .run ∧ s.vote.joining = some
    (slot, core) ∧ s.vote.joinReady = false :=
  ⟨2, 3, { lab .run with vote := { joining := some (2, 3) } }, by decide +kernel⟩

theorem witness_SelfTestVerdicts_4 : ∃ (slot core : Nat) (s : State), s.power.state = .run ∧ s.vote.joining = some
    (slot, core) ∧ s.vote.joinReady = false ∧ EntersSafe s :=
  ⟨2, 3, { lab .run with vote := { joining := some (2, 3) } }, by unfold EntersSafe; decide +kernel⟩

theorem witness_SafeSelfTestRebuilds_1 : ∃ (failed l : List Nat) (s : State), s.vote.cause ≠ 0 ∧ (∀ c ∈ failed, c < 4
    → s.core c ≠ .selfTest) ∧ l = (List.range 4).filter s.coreHealthy ∧ 2 ≤ l.length ∧ (∀ c, s.core c = .selfTest →
    (s.transientsOf c).length < 3) :=
  ⟨[3], [0, 1, 2, 3],
    { lab .safe with vote := { cause := 0x1020, cores := [.selfTest, .selfTest, .selfTest, .reserve], transients := [[1, 2], [], [], []] } },
    ⟨by decide, by decide, by decide, by decide, fun c _ => match c with | 0 => by decide | 1 => by decide | 2 => by decide | 3 => by decide | _ + 4 => by simp [State.transientsOf]⟩⟩

theorem witness_SafeSelfTestRebuilds_2 : ∃ (failed bad l : List Nat) (s : State), s.vote.cause ≠ 0 ∧
    s.vote.cores.length = 4 ∧ bad = (List.range 4).filter (fun c => s.core c == .selfTest && failed.contains c) ∧ bad
    ≠ [] ∧ l = (List.range 4).filter (fun c => s.coreHealthy c && !bad.contains c) :=
  ⟨[0, 1], [0, 1], [2, 3],
    { lab .safe with vote := { cause := 0x1020, cores := [.selfTest, .selfTest, .selfTest, .reserve] } }, by decide +kernel⟩

theorem witness_SpareAndMemoryErrors_1 : ∃ (s : State), s.unit.variant.spare = true ∧ s.core 3 = .reserve :=
  ⟨lab .run, by decide +kernel⟩

theorem witness_SpareAndMemoryErrors_2 : ∃ (x : Option Word) (s : State), s.unit.variant.spare = true ∧ s.core 3 =
    .reserve ∧ x ≠ some s.vote.sigExpected :=
  ⟨none, lab .run, by decide +kernel⟩

theorem witness_SpareAndMemoryErrors_3 : ∃ (a y : Word) (s : State), s.power.state.powered = true :=
  ⟨1, 2, lab .run, by decide +kernel⟩

theorem witness_SpareAndMemoryErrors_4 : ∃ (a y : Word) (s : State), EntersSafe s :=
  ⟨1, 2, lab .run, by unfold EntersSafe; decide +kernel⟩

theorem witness_DwellAndReminder_1 : ∃ (left : Nat) (s : State), s.dwellCounts = true ∧ left = s.dwellLimitUs -
    s.dwellNow ∧ 600000000 < left ∧ left ≤ 3600000000 ∧ s.vote.warned60 = false :=
  ⟨3600000000, { dwelling 10800000000 with vote := { slots := twoSlots, dwellMarkUs := some 0 } }, by decide +kernel⟩

theorem witness_DwellAndReminder_2 : ∃ (left : Nat) (s : State), s.dwellCounts = true ∧ left = s.dwellLimitUs -
    s.dwellNow ∧ left ≤ 600000000 ∧ s.vote.warned60 = true ∧ s.vote.warned10 = false :=
  ⟨600000000, { dwelling 13800000000 with vote := { slots := twoSlots, dwellMarkUs := some 0, warned60 := true } },
    by decide +kernel⟩

theorem witness_DwellAndReminder_3 : ∃ (s : State), s.dwellCounts = true ∧ 3600000000 < s.dwellLimitUs - s.dwellNow :=
  ⟨{ dwelling 10799999999 with vote := { slots := twoSlots, dwellMarkUs := some 0 } }, by decide +kernel⟩

theorem witness_DwellAndReminder_4 : ∃ (s : State), s.dwellCounts = true ∧ s.dwellLimitUs ≤ s.dwellNow ∧
    s.vote.dwellExpired = false :=
  ⟨{ dwelling 14400000000 with vote := { slots := twoSlots, dwellMarkUs := some 0 } }, by decide +kernel⟩

theorem witness_DwellAndReminder_5 : ∃ (s : State), s.bench.forces ≠ [] ∧ s.bench.reminderUs ≤ s.opUs :=
  ⟨{ bench .run with bench := { forces := [⟨1, 0, 1, 1, 0, 0⟩], reminderUs := 100000000 } }, by decide +kernel⟩

theorem witness_DebugAndSeal_1 : ∃ (k : DebugKind) (core : Nat) (s : State), s.power.state.powered = true ∧ k ≠ .none
    ∧ attachStates s.lifecycle k = [] :=
  ⟨.testEngine, 0, { lab .run with sec := { lcP := true, lcC := true, lcO := true } }, by decide +kernel⟩

theorem witness_DebugAndSeal_2 : ∃ (k : DebugKind) (core : Nat) (s : State), s.sec.debug = .none ∧ s.power.state ∈
    attachStates s.lifecycle k ∧ (s.lifecycle = 0 ∨ s.sealOpen = true) :=
  ⟨.invasive, 0, { lab .stop with sec := { lcP := true, lcC := true, sealPat := 0b1010#4 } }, by decide +kernel⟩

theorem witness_DebugAndSeal_3 : ∃ (s : State), s.sec.debug ≠ .none :=
  ⟨{ lab .run with sec := { debug := .invasive } }, by decide +kernel⟩

theorem witness_DebugAndSeal_4 : ∃ (p : BitVec 4) (s : State), s.power.state.powered = true ∧ sealEvent p ≠ sealEvent
    s.sec.sealPat :=
  ⟨0b1010#4, lab .run, by decide +kernel⟩

theorem witness_AshlarResetsAndLoads_1 : ∃ (st : Station) (s : State), s.station = some st ∧ s.ash.state = .disarmed ∧
    s.ash.supplyOk = true ∧ s.ash.latch = false ∧ st.ashlar.length = 512 ∧ crc32c (st.ashlar.take 508) = word (u32
    st.ashlar 508) ∧ crc32c st.ashlar = st.ashlarSectionCrc ∧ s.eng.waiting = [] ∧ s.power.state ≠ .start :=
  ⟨{ mini with ashlar := goodTable, ashlarSectionCrc := crc32c goodTable },
    { lab .stop with station := some { mini with ashlar := goodTable, ashlarSectionCrc := crc32c goodTable } },
    ⟨rfl, rfl, rfl, rfl, table_length _, by rw [goodTable, table_word, table_take], rfl, rfl, nofun⟩⟩

theorem witness_AshlarResetsAndLoads_2 : ∃ (x : List Byte) (b : Option (List Byte)) (st : Station) (s : State),
    s.station = some st ∧ s.ash.state = .disarmed ∧ s.ash.supplyOk = true ∧ s.ash.latch = false ∧ x.length = 512 ∧
    crc32c (x.take 508) ≠ word (u32 x 508) ∧ EntersSafe s :=
  ⟨badTable, none, mini, { lab .stop with station := some mini },
    ⟨rfl, rfl, rfl, rfl, table_length _, badTable_differs, by unfold EntersSafe; decide⟩⟩

theorem witness_CycleCodes_1 : ∃ (c d : Word) (s : State), (s.xing .clAs).linkDown = false ∧ s.ash.state = .ready ∧
    s.ash.period = none ∧ s.ash.validCode c = true :=
  ⟨cycleCodeWord 20 7 (response 0), 0, { lab .run with ash := { state := .ready } }, by decide +kernel⟩

theorem witness_CycleCodes_2 : ∃ (c d : Word) (p : Nat) (s : State), (s.xing .clAs).linkDown = false ∧ s.ash.state =
    .ready ∧ s.ash.period = some p ∧ s.ash.validCode c = true ∧ (codePeriod c).toNat = p ∧ codeCount c =
    s.ash.lastCount + 1 ∧ s.ash.lastUs + 800 * p ≤ s.opUs ∧ s.opUs ≤ s.ash.lastUs + 1250 * p :=
  ⟨cycleCodeWord 20 0 (response 0), 0, 20,
    { lab .run with ash := { state := .ready, period := some 20, lastCount := 255, lastUs := 99975000 } },
    by decide +kernel⟩

theorem witness_CycleCodes_3 : ∃ (c d : Word) (p : Nat) (s : State), (s.xing .clAs).linkDown = false ∧ s.ash.state =
    .armed ∧ s.ash.period = some p ∧ (codePeriod c).toNat = p ∧ p ≠ 0 ∧ codeCount c = s.ash.lastCount + 1 ∧
    codeResponse c = response s.ash.challenge ∧ s.ash.lastUs + 800 * p ≤ s.opUs ∧ s.opUs ≤ s.ash.lastUs + 1250 * p ∧
    s.ash.held = false :=
  ⟨cycleCodeWord 20 0 (response 0), 0, 20,
    { lab .run with ash := { state := .armed, period := some 20, lastCount := 255, lastUs := 99984000 } },
    by decide +kernel⟩

theorem witness_CycleCodes_4 : ∃ (c d : Word) (p : Nat) (s : State), (s.xing .clAs).linkDown = false ∧ s.ash.state =
    .armed ∧ s.ash.period = some p ∧ s.opUs ≤ s.ash.lastUs + 1250 * p ∧ s.ash.lastUs + 800 * p ≤ s.opUs ∧ codeCount c
    = s.ash.lastCount + 1 ∧ codeResponse c ≠ response s.ash.challenge ∧ EntersSafe s :=
  ⟨cycleCodeWord 20 8 0, 0, 20,
    { lab .run with ash := { state := .armed, period := some 20, lastCount := 7, lastUs := 99984000 } },
    by unfold EntersSafe; decide +kernel⟩

theorem witness_CycleCodes_5 : ∃ (c d : Word) (p : Nat) (s : State), (s.xing .clAs).linkDown = false ∧ s.ash.state =
    .armed ∧ s.ash.period = some p ∧ s.opUs ≤ s.ash.lastUs + 1250 * p ∧ codePeriod c = 0 ∧ codeCount c =
    s.ash.lastCount + 1 ∧ codeResponse c = response s.ash.challenge ∧ s.eng.waiting = [] :=
  ⟨cycleCodeWord 0 8 (response 0), 0, 20,
    { lab .run with ash := { state := .armed, period := some 20, lastCount := 7, lastUs := 99980000 } },
    by decide +kernel⟩

theorem witness_CycleCodes_6 : ∃ (c : Option (Word × Word)) (s : State), (s.xing .clAs).linkDown = true ∧
    s.eng.waiting = [] :=
  ⟨none, { lab .run with xings := [(.clAs, {})] }, by decide +kernel⟩

theorem witness_AshlarWatches_1 : ∃ (p : Nat) (s : State), s.ash.state = .armed ∧ s.ash.period = some p ∧ s.ash.lastUs
    + 1250 * p ≤ s.opUs ∧ EntersSafe s :=
  ⟨20, { lab .run with ash := { state := .armed, period := some 20, lastUs := 99975000 } },
    by unfold EntersSafe; decide +kernel⟩

theorem witness_AshlarWatches_2 : ∃ (p : Nat) (s : State), s.ash.state = .ready ∧ s.ash.period = some p ∧ s.ash.lastUs
    + 1250 * p ≤ s.opUs :=
  ⟨20, { lab .run with ash := { state := .ready, period := some 20, lastUs := 99975000 } }, by decide +kernel⟩

theorem witness_AshlarWatches_3 : ∃ (s : State), crc32c ((padTo 512 s.ash.table).take 508) = word (u32 (padTo 512
    s.ash.table) 508) :=
  ⟨{ lab .run with ash := { state := .armed, table := goodTable } },
    by
    show crc32c ((padTo 512 goodTable).take 508) = word (u32 (padTo 512 goodTable) 508)
    rw [goodTable, table_pad, table_word, table_take]⟩

theorem witness_AshlarWatches_4 : ∃ (x : List Byte) (s : State), s.ash.state = .armed ∧ x.length = 512 ∧ crc32c
    (x.take 508) ≠ word (u32 x 508) ∧ EntersSafe s :=
  ⟨badTable, { lab .run with ash := { state := .armed } },
    ⟨rfl, table_length _, badTable_differs, by unfold EntersSafe; decide⟩⟩

theorem witness_AshlarWatches_5 : ∃ (n : Nat) (s : State), 9094 ≤ n ∧ n ≤ 9656 :=
  ⟨9094, lab .run, by decide +kernel⟩

theorem witness_AshlarWatches_6 : ∃ (n : Nat) (s : State), (n < 9094 ∨ 9656 < n) ∧ EntersSafe s :=
  ⟨9657, { lab .run with ash := { state := .armed, badCounts := 1, clockSide1Bad := 1 } },
    by unfold EntersSafe; decide +kernel⟩

theorem witness_AshlarPermitsAndMarks_1 : ∃ (h : HoldLines) (s : State), (s.vote.lockstepBroken = true → h.lockstep =
    true) ∧ (debugHolds s.sec.debug = true → h.debug = true) ∧ (s.vitalLifecycle = false → h.lifecycle = true) ∧ h ≠
    s.ash.hold :=
  ⟨⟨true, false, true⟩, lab .run, by decide +kernel⟩

theorem witness_AshlarPermitsAndMarks_2 : ∃ (s : State), s.unit.variant.groups ≠ 0 ∧ s.ash.supplyOk = true ∧
    s.field.ashSent = s.ash.inSeq + 1 :=
  ⟨{ lab .run with ash := { inSeq := 255 }, field := { ashSent := 0 } }, by decide +kernel⟩

theorem witness_AshlarPermitsAndMarks_3 : ∃ (s : State), s.unit.variant.groups ≠ 0 ∧ s.ash.supplyOk = true ∧
    s.ash.inputStale = false ∧ s.ash.inputUs + 150 ≤ s.opUs ∧ EntersSafe s :=
  ⟨{ lab .run with ash := { inputUs := 99999850 } }, by unfold EntersSafe; decide +kernel⟩

theorem witness_AshlarPermitsAndMarks_4 : ∃ (x : Bool) (s : State), x = false ∨ s.field.ashSent ≠ s.ash.inSeq + 1 :=
  ⟨true, { lab .run with field := { ashSent := 2 } }, by decide +kernel⟩

theorem witness_AshlarPermitsAndMarks_5 : ∃ (s : State), s.unit.variant.groups ≠ 0 ∧ s.ash.outSeq = s.field.ashSeq + 1
    :=
  ⟨{ lab .run with ash := { outSeq := 0 }, field := { ashSeq := 255 } }, by decide +kernel⟩

theorem witness_AshlarPermitsAndMarks_6 : ∃ (x : Bool) (s : State), s.unit.variant.groups ≠ 0 ∧ (x = false ∨
    s.ash.outSeq ≠ s.field.ashSeq + 1) :=
  ⟨true, { lab .run with ash := { outSeq := 7 }, field := { ashSeq := 5 } }, by decide +kernel⟩

theorem witness_AshlarPermitsAndMarks_7 : ∃ (s : State), s.unit.variant.groups ≠ 0 ∧ 3 ≤ s.field.ashMissed :=
  ⟨{ lab .run with field := { ashMissed := 3 } }, by decide +kernel⟩

theorem witness_AshlarPermitsAndMarks_8 : ∃ (can : Bool) (g : Nat) (k : Word) (a : BitVec 16) (s : State), (s.xing
    (markPath can)).linkDown = true :=
  ⟨true, 0, 0, 0, { lab .run with xings := [(.fbAs, {})] }, by decide +kernel⟩

theorem witness_AshlarPermitsAndMarks_9 : ∃ (can : Bool) (g : Nat) (k : Word) (a : BitVec 16) (s : State), (s.xing
    (markPath can)).linkDown = false :=
  ⟨false, 63, 0, 0, lab .run, by decide +kernel⟩

theorem witness_IsolationLink_1 : ∃ (s : State), s.unit.variant.groups ≠ 0 ∧ s.field.flSent = s.field.fsSeq + 1 :=
  ⟨{ lab .run with field := { flSent := 0, fsSeq := 255 } }, by decide +kernel⟩

theorem witness_IsolationLink_2 : ∃ (x : Bool) (l : List (Nat × Nat × Nat)) (s : State), s.unit.variant.groups ≠ 0 ∧
    (x = false ∨ s.field.flSent ≠ s.field.fsSeq + 1) :=
  ⟨true, [(0, 1, 2)], { lab .run with field := { flSent := 2 } }, by decide +kernel⟩

theorem witness_IsolationLink_3 : ∃ (s : State), s.unit.variant.groups ≠ 0 ∧ s.field.fsSent = s.field.flSeq + 1 ∧
    (s.xing .fsFl).linkDown = false ∧ s.power.state ≠ .start ∧ (s.power.state = .run → s.field.configCrc =
    s.expectedConfig) :=
  ⟨{ lab .stop with field := { fsSent := 0, flSeq := 255 } }, by decide +kernel⟩

theorem witness_IsolationLink_4 : ∃ (x : Bool) (s : State), s.unit.variant.groups ≠ 0 ∧ (x = false ∨ s.field.fsSent ≠
    s.field.flSeq + 1 ∨ (s.xing .fsFl).linkDown = true ∨ (s.power.state = .run ∧ s.field.configCrc ≠
    s.expectedConfig)) :=
  ⟨true, { lab .stop with xings := [(.fsFl, {})] }, by decide +kernel⟩

theorem witness_IsolationLink_5 : ∃ (d : LinkLoss) (s : State), s.field.lost d = false :=
  ⟨.both, { lab .run with field := { fsMissed := 3, flMissed := 2 } }, by decide +kernel⟩

theorem witness_IsolationLink_6 : ∃ (d : LinkLoss) (s : State), s.unit.variant.groups ≠ 0 ∧ s.field.lost d = true ∧
    EntersSafe s :=
  ⟨.both, { lab .run with field := { fsMissed := 3, flMissed := 3 } }, by unfold EntersSafe; decide +kernel⟩

theorem witness_IsolationLink_7 : ∃ (s : State), s.unit.variant.groups ≠ 0 :=
  ⟨lab .run, by decide +kernel⟩

theorem witness_InputsAndPulses_1 : ∃ (n since : Nat) (level : Bool) (i : FieldInput) (s : State), n <
    s.unit.variant.inputs ∧ s.field.inMode n ≠ 0 ∧ s.field.inputs[n]? = some i ∧ i.value ≠ level ∧ s.masked n = false
    ∧ s.field.samplesAt n since = true ∧ since + s.field.debounceUs n + s.maskedUs n since ≤ s.opUs :=
  ⟨63, 99999000, true, {}, { lab .run with field := wired }, by decide +kernel⟩

theorem witness_InputsAndPulses_2 : ∃ (n k since p : Nat) (level : Bool) (x : FieldSource) (s : State),
    s.field.inSource n = some k ∧ s.field.sources[k]? = some x ∧ p ∈ x.pulses ∧ p ≤ s.opUs ∧ s.opUs < p + 500 :=
  ⟨63, 0, 0, 99999800, true, { pulses := [99999800] },
    { lab .run with field := { wired with sources := upd wired.sources 0 (fun _ => { pulses := [99999800] }) } },
    by decide +kernel⟩

theorem witness_InputsAndPulses_3 : ∃ (k : Nat) (x : FieldSource) (s : State), k < s.unit.variant.pulses ∧
    s.sourcePulses k = true ∧ s.field.sources[k]? = some x ∧ s.field.gridUs + 100 * k ≤ s.opUs ∧ s.field.periodUs k ∣
    s.opUs - (s.field.gridUs + 100 * k) :=
  ⟨0, {}, { lab .run with field := wired }, by decide +kernel⟩

theorem witness_InputsAndPulses_4 : ∃ (c : PulseCheck) (n p : Nat) (l : List Nat) (i : FieldInput) (x : FieldSource)
    (s : State), c.source < s.unit.variant.pulses ∧ s.sourcePulses c.source = true ∧ c.readbackOk = true ∧
    s.field.inputsOf c.source = [n] ∧ s.field.inputs[n]? = some i ∧ s.field.sources[c.source]? = some x ∧ i.fault = 0
    ∧ x.unchecked = p :: l ∧ p + 400 ≤ s.opUs :=
  ⟨⟨0, [], true⟩, 63, 99999600, [], {}, { unchecked := [99999600] },
    { lab .run with field := { wired with sources := upd wired.sources 0 (fun _ => { unchecked := [99999600] }) } },
    by decide +kernel⟩

theorem witness_InputsAndPulses_5 : ∃ (c : PulseCheck) (x : FieldSource) (s : State), s.field.sources[c.source]? =
    some x ∧ x.unchecked = [] :=
  ⟨⟨7, [], true⟩, {}, lab .run, by decide +kernel⟩

theorem witness_InputsAndPulses_6 : ∃ (k : Nat) (x : FieldSource) (s : State), k < s.unit.variant.pulses ∧
    s.field.sources[k]? = some x :=
  ⟨7, {}, lab .run, by decide +kernel⟩

theorem witness_OutputsAndGroups_1 : ∃ (c : SwitchTest) (o : FieldOutput) (s : State), c.channel <
    s.unit.variant.outputs ∧ s.field.outputs[c.channel]? = some o ∧ s.field.outUsed c.channel = true ∧ o.demand = true
    ∧ o.permit = true ∧ o.high = true ∧ o.low = true ∧ o.fault = 0 ∧ o.causes = [] ∧ s.testDue c o = true ∧ c.dropped
    = [] :=
  ⟨⟨31, true, false, [], 24000, 0, 5⟩, lit, { lab .run with opUs := 100465000, field := lamps }, by decide +kernel⟩

theorem witness_OutputsAndGroups_2 : ∃ (m : FeedMeasure) (o : FieldOutput) (s : State), m.channel <
    s.unit.variant.outputs ∧ s.field.outputs[m.channel]? = some o ∧ o.high = false ∧ o.low = false ∧ 3 ∉ o.causes ∧
    o.fault ≠ 4 ∧ 11000 < m.uPlusMv - m.uMinusMv :=
  ⟨⟨31, 11001, 0, 5⟩, {}, lab .run, by decide +kernel⟩

theorem witness_OutputsAndGroups_3 : ∃ (n ma : Nat) (o : FieldOutput) (s : State), n < s.unit.variant.outputs ∧
    s.field.outputs[n]? = some o ∧ o.fault = 0 :=
  ⟨31, 900, {}, lab .run, by decide +kernel⟩

theorem witness_OutputsAndGroups_4 : ∃ (g ma : Nat) (x : FieldGroup) (s : State), g < s.unit.variant.groups ∧
    s.field.groups[g]? = some x :=
  ⟨3, 11999, {}, lab .run, by decide +kernel⟩

theorem witness_OutputsAndGroups_5 : ∃ (g mv : Nat) (x y : FieldGroup) (s : State), g < s.unit.variant.groups ∧
    s.field.groupUsed g = true ∧ s.field.groups[g]? = some x ∧ y = x.measured true mv s.opUs :=
  ⟨3, 11999, {}, FieldGroup.measured {} true 11999 100000000, lab .run, by decide +kernel⟩

theorem witness_OutputsAndGroups_6 : ∃ (g : Nat) (back : Bool) (x : FieldGroup) (s : State), g < s.unit.variant.groups
    ∧ s.field.groups[g]? = some x ∧ x.switchOn ≠ back ∧ x.switchFault = false :=
  ⟨3, true, {}, lab .run, by decide +kernel⟩

theorem witness_CanReceives_1 : ∃ (k : Nat) (f : CanFrame) (s : State), s.canDetects k = false ∧ s.canRuns k = true ∧
    k < s.can.length ∧ (s.port k).busOff = false ∧ f.remote = false ∧ filterAction (((s.canConfig k).map
    CanConfig.filters).getD []) f = 1 :=
  ⟨0, ⟨5, true, true, true, false, [1, 2]⟩, (bench .run), by decide +kernel⟩

theorem witness_CanReceives_2 : ∃ (k : Nat) (f : CanFrame) (s : State), s.canDetects k = false ∧ s.canRuns k = true ∧
    k < s.can.length ∧ (s.port k).busOff = false ∧ (f.remote = true ∨ filterAction (((s.canConfig k).map
    CanConfig.filters).getD []) f = 3) :=
  ⟨7, ⟨5, true, false, false, true, []⟩, (bench .run), by decide +kernel⟩

theorem witness_CanReceives_3 : ∃ (k : Nat) (s : State), s.canDetects k = true ∧ k < s.can.length ∧ (s.port
    k).nominalLocked = false ∧ (s.port k).lastFrameUs + 250000 ≤ s.opUs :=
  ⟨0, lab .run, by decide +kernel⟩

theorem witness_CanReceives_4 : ∃ (k : Nat) (f : CanFrame) (s : State), s.canDetects k = true ∧ k < s.can.length ∧
    f.remote = false ∧ (s.port k).q1.length < 64 :=
  ⟨0, ⟨5, true, true, true, false, [1, 2]⟩, lab .run, by decide +kernel⟩

theorem witness_CanReceives_5 : ∃ (k : Nat) (e : BusError) (s : State), s.canDetects k = true ∧ k < s.can.length :=
  ⟨7, ⟨false, false, false, .crc⟩, lab .run, by decide +kernel⟩

theorem witness_CanTransmits_1 : ∃ (k : Nat) (s : State), s.canRuns k = true ∧ k < s.can.length ∧ (s.port k).busOff =
    false ∧ (s.xing .clFb).linkDown = false :=
  ⟨0, { bench .run with can := [{ fresh := [⟨9, 1, [1], false⟩], fifo := [⟨5, 2, [2], false⟩] }] },
    by decide +kernel⟩

theorem witness_CanTransmits_2 : ∃ (k : Nat) (f : TxFrame) (l : List TxFrame) (s : State), s.canRuns k = true ∧ k <
    s.can.length ∧ (s.port k).fifo = f :: l :=
  ⟨0, ⟨5, 2, [2], false⟩, [], { bench .run with can := [{ fifo := [⟨5, 2, [2], false⟩] }] }, by decide +kernel⟩

theorem witness_CanTransmits_3 : ∃ (k : Nat) (f : TxFrame) (l : List TxFrame) (s : State), s.canRuns k = true ∧ k <
    s.can.length ∧ (s.port k).fifo = f :: l ∧ f.tooLate = true :=
  ⟨0, ⟨5, 2, [2], true⟩, [], { bench .run with can := [{ fifo := [⟨5, 2, [2], true⟩] }] }, by decide +kernel⟩

theorem witness_CanFaults_1 : ∃ (k : Nat) (e : BusError) (s : State), s.canDetects k = false ∧ s.canRuns k = true ∧ k
    < s.can.length ∧ (s.port k).busOff = false :=
  ⟨0, ⟨true, true, false, .bit⟩, { bench .run with can := [{ tec := 248 }] }, by decide +kernel⟩

theorem witness_CanFaults_2 : ∃ (k : Nat) (e : BusError) (f : TxFrame) (l : List TxFrame) (s : State), s.canDetects k
    = false ∧ s.canRuns k = true ∧ k < s.can.length ∧ (s.port k).busOff = false ∧ e.transmitting = true ∧
    e.afterArbitration = true ∧ e.kind = .bit ∧ (s.port k).tec + 8 ≤ 255 ∧ (s.port k).fifo = f :: l ∧ countOf (s.port
    k).clash f.ident = 15 :=
  ⟨0, ⟨true, true, false, .bit⟩, ⟨5, 2, [2], false⟩, [],
    { bench .run with can := [{ tec := 247, fifo := [⟨5, 2, [2], false⟩], clash := [(5, 15)] }] }, by decide +kernel⟩

theorem witness_CanFaults_3 : ∃ (k : Nat) (s : State), (s.port k).busOff = true ∧ (s.port k).busOffUs + 1408000 /
    nominalRate (s.canRates k).1 ≤ s.opUs :=
  ⟨0, { bench .run with can := [{ busOff := true, busOffUs := 100000000 - 1408000 / 500 }] }, by decide +kernel⟩

theorem witness_TelegramsChecked_1 : ∃ (d : Datagram) (l : Lan) (s : State), s.unit.variant.ethernet = true ∧
    s.power.state.powered = true ∧ s.net.lans[d.lan]? = some l ∧ l.down = false ∧ d.vlanTagged = false ∧ d.options =
    false ∧ d.fragment = false ∧ d.port = 47217 ∧ d.checksumOk = true ∧ d.data.length % 64 = 0 ∧ d.data.length ≤ 1280
    ∧ d.data ≠ [] ∧ (∀ x ∈ s.net.seen, x.1 = d.source → x.2.1 = d.prpSeq → x.2.2 + 400000 ≤ s.opUs) ∧
    s.net.buffer.length + d.data.length / 64 ≤ 4096 :=
  ⟨⟨1, 9, 3, false, 47217, true, List.replicate 64 0, false, false⟩, {},
    { lab .run with net := { seen := [(9, 3, 99600000)] } }, by decide +kernel⟩

theorem witness_TelegramsChecked_2 : ∃ (x : RxTelegram) (l : List RxTelegram) (d : NodeDyn) (s : State), s.power.state
    = .run ∧ s.station.isSome = true ∧ CanQuiet s ∧ s.net.buffer = x :: l ∧ s.verdict x = (0, .accept false false) ∧
    (s.xing (descriptorPath x.port)).linkDown = false ∧ s.nodeDyn (tgSource x.data) = some d ∧ tgType x.data ≠ 0 ∧ (∀
    r ∈ tgRecords x.data, ∃ o ∈ s.objectsOf (tgSource x.data), o.1 = r.1) :=
  ⟨⟨0, goodTelegram, 100, false⟩, [], { id := 1, timeout := 100, reference := some (0, 0) }, hearing goodTelegram,
    by unfold CanQuiet; decide +kernel⟩

theorem witness_TelegramsChecked_3 : ∃ (x : RxTelegram) (l : List RxTelegram) (d : NodeDyn) (z : SeqStep) (s : State),
    s.power.state.powered = true ∧ s.station.isSome = true ∧ CanQuiet s ∧ s.net.buffer = x :: l ∧ s.verdict x = (5, z)
    ∧ s.nodeDyn (tgSource x.data) = some d :=
  ⟨⟨0, badTelegram, 100, false⟩, [], { id := 1, timeout := 100, reference := some (0, 0) }, .drop 5,
    hearing badTelegram, by unfold CanQuiet; decide +kernel⟩

theorem witness_TelegramsChecked_4 : ∃ (x : RxTelegram) (l : List RxTelegram) (y : Nat) (s : State),
    s.power.state.powered = true ∧ s.station.isSome = true ∧ CanQuiet s ∧ s.net.buffer = x :: l ∧ y ≠ (s.verdict x).1
    ∧ (s.net.disagreements.filter (fun i => s.opUs < i + 1000000)).length < 16 :=
  ⟨⟨0, badTelegram, 100, false⟩, [], 0, hearing badTelegram, by unfold CanQuiet; decide +kernel⟩

theorem witness_TelegramsChecked_5 : ∃ (k : Nat) (l : Lan) (s : State), s.unit.variant.ethernet = true ∧
    s.power.state.powered = true ∧ s.net.lans[k]? = some l ∧ l.down = false ∧ l.lastUs + 6000000 ≤ s.opUs :=
  ⟨1, { lastUs := 94000000 }, { lab .run with net := { lans := [{}, { lastUs := 94000000 }] } }, by decide +kernel⟩

theorem witness_EthernetServices_1 : ∃ (s : State), s.lanSends = true ∧ s.net.supervisionUs ≤ s.opUs :=
  ⟨{ bench .run with net := { supervisionUs := 100000000 } }, by decide +kernel⟩

theorem witness_EthernetServices_2 : ∃ (k : Nat) (a sender : Word) (mac : BitVec 48) (s : State), s.lanSends = true :=
  ⟨0, 1, 2, 3, bench .run, by decide +kernel⟩

theorem witness_EthernetServices_3 : ∃ (k : Nat) (a sender : Word) (mac : BitVec 48) (s : State),
    s.power.state.powered = true :=
  ⟨0, 1, 2, 3, lab .safe, by decide +kernel⟩

theorem witness_EthernetServices_4 : ∃ (a : Word) (b : List Byte) (s : State), s.power.state.powered = true ∧
    s.mg.alive = true :=
  ⟨1, [1], lab .safe, by decide +kernel⟩

theorem witness_EthernetServices_5 : ∃ (k : Nat) (l : Lan) (s : State), s.unit.variant.ethernet = true ∧
    s.power.state.powered = true ∧ s.net.lans[k]? = some l :=
  ⟨1, { down := true }, { lab .run with net := { lans := [{}, { down := true }] } }, by decide +kernel⟩

theorem witness_HostRegisters_1 : ∃ (n : Nat) (s : State), n = 1 ∨ n = 2 ∨ n = 4 :=
  ⟨4, lab .run, by decide +kernel⟩

theorem witness_HostRegisters_2 : ∃ (v : Word) (s : State), s.power.state.powered = true :=
  ⟨5, lab .run, by decide +kernel⟩

theorem witness_LinksAndRestarts_1 : ∃ (s : State), s.power.state.powered = true :=
  ⟨lab .run, by decide +kernel⟩

theorem witness_LinksAndRestarts_2 : ∃ (s : State), s.mg.alive = true ∧ s.power.state.powered = true :=
  ⟨lab .run, by decide +kernel⟩

theorem witness_LinksAndRestarts_3 : ∃ (s : State), s.mg.alive = false ∧ s.power.state.powered = true ∧ s.mg.voided =
    [] ∧ s.hi.downMg = true ∧ (∀ x ∈ s.mg.outstanding, x.1.via = .pcie) :=
  ⟨{ lab .run with mg := { alive := false, outstanding := [(ask 0 0, 0x0101)] } }, by decide +kernel⟩

theorem witness_LinksAndRestarts_4 : ∃ (x : Crossing) (s : State), (s.xing x).linkDown = true ∧ s.sidesUp x = true ∧
    s.power.state.powered = true :=
  ⟨.hiMg, { lab .run with xings := [(.hiMg, {})] }, by decide +kernel⟩

theorem witness_LinksAndRestarts_5 : ∃ (ip gw : Word) (plen e : Nat) (s : State), s.hi.x8New = some (ip, plen, gw, e)
    ∧ e ≤ s.opUs :=
  ⟨1, 2, 24, 100000000, { lab .run with hi := { x8New := some (1, 24, 2, 100000000) } }, by decide +kernel⟩

theorem witness_RecorderWrites_1 : ∃ (r : Record) (l : List Record) (s : State), s.mg.alive = true ∧
    s.power.state.powered = true ∧ s.recorder.inbox = r :: l ∧ 5 ≤ r.severity ∧ r.code ≠ 0x5001 ∧
    s.recorder.frozenUntil = none ∧ s.recorder.ring.length < s.recorder.capacity :=
  ⟨{ code := 0x2010, source := 1, severity := 5 }, [],
    { lab .run with recorder := { inbox := [{ code := 0x2010, source := 1, severity := 5 }] } }, by decide +kernel⟩

theorem witness_RecorderWrites_2 : ∃ (b : Nat) (s : State), s.mg.alive = true ∧ s.power.state.powered = true ∧ b ∉
    s.recorder.badBlocks :=
  ⟨7, lab .run, by decide +kernel⟩

theorem witness_RecorderWrites_3 : ∃ (r : Record) (l : List Record) (b : Bucket) (s : State), s.mg.alive = true ∧
    s.power.state.powered = true ∧ s.recorder.inbox = r :: l ∧ r.severity < 5 ∧ classOf r.code < 15 ∧ r.code ≠ 0x5001
    ∧ s.recorder.bucket r.code s.opUs = b ∧ b.code = r.code ∧ b.tokens = 0 ∧ b.given = 0 ∧ b.refillUs = s.opUs ∧
    (s.recorder.rateOf (classOf r.code)).2 ≠ 0 :=
  ⟨{ code := 0x3010, source := 1, severity := 0 }, [], ⟨0x3010, 0, 100000000, 0, 0, none⟩,
    { lab .run with recorder := { inbox := [{ code := 0x3010, source := 1, severity := 0 }], buckets := [⟨0x3010, 0, 100000000, 0, 0, none⟩] } },
    by decide +kernel⟩

theorem witness_RecorderWrites_4 : ∃ (b : Bucket) (rate burst : Nat) (s : State), s.mg.alive = true ∧ b ∈
    s.recorder.buckets ∧ s.recorder.bucket b.code s.opUs = b ∧ s.recorder.rateOf (classOf b.code) = (rate, burst) ∧
    b.suppressed = 0 :=
  ⟨⟨0x3010, 0, 99900000, 0, 0, none⟩, 10, 50,
    { lab .run with recorder := { buckets := [⟨0x3010, 0, 99900000, 0, 0, none⟩] } }, by decide +kernel⟩

theorem witness_RecorderWrites_5 : ∃ (b : Bucket) (first : Nat) (s : State), s.mg.alive = true ∧ s.recorder.bucket
    b.code s.opUs = b ∧ b.firstUs = some first ∧ first + 60000000 ≤ s.opUs ∧ b.suppressed ≠ 0 ∧ s.recorder.frozenUntil
    = none ∧ s.recorder.ring.length < s.recorder.capacity :=
  ⟨⟨0x3010, 0, 0, 0, 3, some 40000000⟩, 40000000,
    { lab .run with recorder := { buckets := [⟨0x3010, 0, 0, 0, 3, some 40000000⟩] } }, by decide +kernel⟩

theorem witness_RecorderWrites_6 : ∃ (e : Nat) (s : State), s.mg.alive = true ∧ s.recorder.frozenUntil = some e ∧ e ≤
    s.opUs ∧ s.recorder.lost = 0 ∧ s.recorder.ring.length + s.recorder.staging.length ≤ s.recorder.capacity :=
  ⟨100000000,
    { lab .run with recorder := { frozenUntil := some 100000000, staging := [{ code := 1, source := 1, severity := 0 }] } },
    by decide +kernel⟩

theorem witness_RouteCommands_1 : ∃ (q : Req) (r : Route) (s s1 : State), BenchOpen s ∧ q.p0 < s.eng.routes.length ∧
    s.fullRoute q.p0 = some r ∧ (s.rdyn q.p0).state = .free ∧ s.counted < 512 ∧ (∀ p ∈ s.eng.queue, p.arrival ≠
    q.arrival) ∧ s1 = (State.asked s 0x0101 q (.route q.p0)).modRoute q.p0 (fun d =>
    { d with state := .requested, arrival := q.arrival }) :=
  ⟨ask 0 0, miniRoute, (bench .run),
    ((State.asked (bench .run) 0x0101 (ask 0 0) (.route 0)).modRoute 0 (fun d => { d with state := .requested, arrival := 0 })),
    by unfold BenchOpen; and_intros <;> decide +kernel⟩

theorem witness_RouteCommands_2 : ∃ (q : Req) (r : Route) (s : State), BenchOpen s ∧ q.p0 < s.eng.routes.length ∧
    s.fullRoute q.p0 = some r ∧ (∀ x ∈ s.bench.requests, x.opcode ≠ 0x0101) :=
  ⟨ask 0 0, miniRoute, (bench .run), by unfold BenchOpen; decide +kernel⟩

theorem witness_RouteCommands_3 : ∃ (q : Req) (s s1 : State), BenchOpen s ∧ s.typeOf q.p0 = 2 ∧ q.p1 ≤ 1 ∧ s.counted <
    512 ∧ (∀ p ∈ s.eng.queue, p.arrival ≠ q.arrival) ∧ s1 = State.asked s 0x0103 q (.point q.p0 q.p1 false) :=
  ⟨ask 1 1, (bench .run), (State.asked (bench .run) 0x0103 (ask 1 1) (.point 1 1 false)),
    by unfold BenchOpen; and_intros <;> decide +kernel⟩

theorem witness_RouteCommands_4 : ∃ (q : Req) (s : State), BenchOpen s ∧ s.typeOf q.p0 = 3 ∧ s.routesFrom q.p0 = [] :=
  ⟨ask 2 0, (bench .run), by unfold BenchOpen; decide +kernel⟩

theorem witness_DoorAndAuxCommands_1 : ∃ (q : Req) (mask : Nat) (s s1 : State), BenchOpen s ∧ s.typeOf q.p0 = 4 ∧
    q.payload.length = 8 ∧ zeros q.payload 6 2 = true ∧ mask = ofLe (q.payload.take 6) ∧ mask < 2 ^ (s.part
    q.p0).leaves.length ∧ s.counted < 512 ∧ (∀ p ∈ s.eng.queue, p.arrival ≠ q.arrival) ∧ s1 = State.asked s 0x0301 q
    (.doors q.p0 mask) ∧ s1.openReasons q.p0 mask = [] ∧ s1.slotReasons q.arrival (s.leavesToOpen q.p0 mask).length =
    [] :=
  ⟨ask 3 0 (List.replicate 8 0), 0, doorsReady,
    (State.asked doorsReady 0x0301 (ask 3 0 (List.replicate 8 0)) (.doors 3 0)),
    by unfold BenchOpen; and_intros <;> decide +kernel⟩

theorem witness_DoorAndAuxCommands_2 : ∃ (q : Req) (s : State), BenchOpen s ∧ s.typeOf q.p0 = 4 :=
  ⟨ask 3 0, (bench .run), by unfold BenchOpen; decide +kernel⟩

theorem witness_DoorAndAuxCommands_3 : ∃ (q : Req) (kind pos ch : Nat) (s : State), BenchOpen s ∧ q.p0 = kind + pos *
    256 ∧ kind < 256 ∧ pos < 256 ∧ s.auxParams kind pos q.p1 = true ∧ s.auxRefusal kind q.p1 = none ∧ (∀ p ∈
    s.openPrepares, p.kind = kind → p.target ≠ q.p1) ∧ s.openPrepares.length < 16 ∧ ch = (Config.auxChallenge
    s.draws).toNat % 1000000 :=
  ⟨ask 3 63, 3, 0, (Config.auxChallenge 0).toNat % 1000000, withEng { heldAreas := [63] },
    by unfold BenchOpen; and_intros <;> first | decide +kernel | rfl⟩

theorem witness_DoorAndAuxCommands_4 : ∃ (q : Req) (p : Prepare) (s : State), BenchOpen s ∧ q.payload.length = 12 ∧
    s.auxParams (u8 q.payload 0) (u8 q.payload 1) (u16 q.payload 2) = true ∧ s.eng.prepares.find? (fun p => p.kind ==
    u8 q.payload 0 && p.position == u8 q.payload 1 && p.target == u16 q.payload 2) = some p :=
  ⟨ask 0 0 confirming, ⟨3, 0, 5, 1, some 60000000, false⟩,
    withEng { prepares := [⟨3, 0, 5, 1, some 60000000, false⟩], heldAreas := [5] },
    by unfold BenchOpen; decide +kernel⟩

theorem witness_BenchCommands_1 : ∃ (q : Req) (s : State), s.power.state = .stop ∧ s.power.dead = false ∧
    s.station.isSome = true ∧ s.benchLifecycle = true ∧ s.holds q (some .maintainer) = true ∧ s.vote.dwellExpired =
    false :=
  ⟨ask 0 0, bench .stop, by decide +kernel⟩

theorem witness_BenchCommands_2 : ∃ (q : Req) (s : State), BenchOpen s ∧ s.holds q (some .maintainer) = true :=
  ⟨ask 0 0, (bench .run), by unfold BenchOpen; decide +kernel⟩

theorem witness_BenchCommands_3 : ∃ (q : Req) (s : State), s.power.state = .safe ∧ s.power.dead = false ∧
    s.benchLifecycle = true ∧ s.holds q (some .maintainer) = true ∧ s.restartRefusal = none :=
  ⟨ask 0 0, bench .safe, by decide +kernel⟩

theorem witness_BenchCommands_4 : ∃ (q : Req) (s : State), s.power.state = .safe ∧ s.power.dead = false ∧ s.station =
    none ∧ s.lifecycle ≠ 5 ∧ s.holds q (some .maintainer) = true :=
  ⟨ask 0 0, { bench .safe with station := none }, by decide +kernel⟩

theorem witness_BenchCommands_5 : ∃ (q : Req) (kind target : Nat) (s : State), BenchReads s ∧ (s.lifecycle = 2 ∨
    s.lifecycle = 4) ∧ s.holds q (some .maintainer) = true ∧ q.p0 = kind + target * 65536 ∧ 1 ≤ kind ∧ kind ≤ 3 ∧ q.p1
    < 256 ∧ s.forceAbsent kind target = false ∧ s.forceRefusal kind target q.p1 = none ∧ s.bench.nextForces.find? (fun
    x => x.kind == kind && x.target == target) = none :=
  ⟨ask 0x60001 1, 1, 6, (bench .run), by unfold BenchReads; decide +kernel⟩

theorem witness_BenchCommands_6 : ∃ (q : Req) (s : State), BenchReads s ∧ (s.lifecycle = 2 ∨ s.lifecycle = 4) ∧
    s.holds q (some .maintainer) = true ∧ q.p0 % 256 = 0xFF ∧ q.p0 / 256 % 256 = 0 :=
  ⟨ask 0xFF 0, (bench .run), by unfold BenchReads; decide +kernel⟩

theorem witness_BenchCommands_7 : ∃ (q : Req) (st : Station) (s : State), BenchReads s ∧ s.benchLifecycle = true ∧
    s.station = some st ∧ st.changeMode = 2 ∧ s.holds q (some .maintainer) = true ∧ s.constantRefusal q.p0 q.p1 = none
    ∧ s.log.length + s.bench.newLog.length < logCapacity ∧ s.log.length ≠ 235930 :=
  ⟨ask 0 10, { mini with changeMode := 2 }, { bench .run with station := some { mini with changeMode := 2 } },
    by unfold BenchReads; decide +kernel⟩

theorem witness_QueriesAnswer_1 : ∃ (q : Req) (s : State), Answers s :=
  ⟨ask 0 0, lab .shutdownTest, by unfold Answers; decide +kernel⟩

theorem witness_QueriesAnswer_2 : ∃ (q : Req) (s : State), Answers s ∧ 1 ≤ q.p1 :=
  ⟨ask 63 64, lab .run, by unfold Answers; decide +kernel⟩

theorem witness_QueriesAnswer_3 : ∃ (q : Req) (s : State), Answers s :=
  ⟨ask 0 0, lab .shutdownTest, by unfold Answers; decide +kernel⟩

theorem witness_QueriesAnswer_4 : ∃ (q : Req) (s : State), BenchReads s :=
  ⟨ask 0 1, (bench .run), by unfold BenchReads; decide +kernel⟩

theorem witness_ManagementCommands_1 : ∃ (q : Req) (s : State), Settled s ∧ (s.xing .rtMg).linkDown = false ∧ s.holds
    q (some .maintainer) = true ∧ q.payload.length = 8 ∧ 946684800 ≤ u64 q.payload 0 ∧ u64 q.payload 0 ≤ 4102444799 ∧
    q.p0 ≤ 999 :=
  ⟨ask 999 0 (le 8 4102444799), lab .run, by unfold Settled Answers; decide +kernel⟩

theorem witness_ManagementCommands_2 : ∃ (q : Req) (s : State), Settled s :=
  ⟨ask 0 0, lab .safe, by unfold Settled Answers; decide +kernel⟩

theorem witness_ManagementCommands_3 : ∃ (q : Req) (s : State), Settled s ∧ s.recorder.frozenUntil.isSome = true ∧
    s.recorder.lost = 0 ∧ s.recorder.ring.length + s.recorder.staging.length ≤ s.recorder.capacity :=
  ⟨ask 0 0, { lab .run with recorder := { frozenUntil := some 100000001 } },
    by unfold Settled Answers; decide +kernel⟩

theorem witness_ManagementCommands_4 : ∃ (q : Req) (s : State), Settled s ∧ s.holds q (some .maintainer) = true ∧ q.p0
    ≤ 14 ∧ s.recorder.rates.length = 15 ∧ 1 ≤ q.p1 % 65536 ∧ q.p1 % 65536 ≤ 1000 ∧ 1 ≤ q.p1 / 65536 ∧ q.p1 / 65536 ≤
    1000 ∧ s.log.length < logCapacity ∧ s.log.length ≠ 235930 :=
  ⟨ask 14 (1000 + 1000 * 65536), lab .run, by unfold Settled Answers; decide +kernel⟩

theorem witness_ManagementCommands_5 : ∃ (q : Req) (s : State), Answers s ∧ q.payload.length = 8 ∧ u64 q.payload 0 <
    512 :=
  ⟨ask 0 0 (le 8 511), lab .start, by unfold Answers; decide +kernel⟩

theorem witness_ManagementCommands_6 : ∃ (q : Req) (s : State), Settled s ∧ s.holds q (some .maintainer) = true ∧
    q.payload.length = 12 ∧ 8 ≤ u8 q.payload 4 ∧ u8 q.payload 4 ≤ 30 ∧ zeros q.payload 5 3 = true ∧ s.log.length <
    logCapacity :=
  ⟨ask 0 0 [10, 0, 0, 1, 30, 0, 0, 0, 10, 0, 0, 2], lab .run, by unfold Settled Answers; decide +kernel⟩

theorem witness_RolesAndSessions_1 : ∃ (q : Req) (r : Role) (p : Password) (s : State), s.mailboxLive = true ∧
    s.power.state ≠ .start ∧ s.power.state ≠ .shutdownTest ∧ s.lifecycle ≠ 5 ∧ loginForm q.payload = true ∧ r = roleIn
    q.payload ∧ s.lockLeft r = 0 ∧ s.sec.password r = some p ∧ storedPassword (passwordOf q.payload) p.salt = p ∧
    (s.liveSessions q.via).length < 8 ∧ s.mg.usedIds.length + 2 ≤ 2 ^ 32 :=
  ⟨ask 0 0 loginRecord, .maintainer, stored, { lab .safe with sec := { maintainer := some (stored) } },
    by and_intros <;> first | decide +kernel | rfl⟩

theorem witness_RolesAndSessions_2 : ∃ (q : Req) (r : Role) (s : State), s.mailboxLive = true ∧ s.power.state ≠ .start
    ∧ s.power.state ≠ .shutdownTest ∧ s.lifecycle ≠ 5 ∧ loginForm q.payload = true ∧ r = roleIn q.payload ∧ s.lockLeft
    r = 0 ∧ (∀ p, s.sec.password r = some p → storedPassword (passwordOf q.payload) p.salt ≠ p) :=
  ⟨ask 0 0 loginRecord, .maintainer,
    { lab .safe with sec := { maintainer := some ⟨[], []⟩, maintainerLogin := { failures := 4, lockedUntil := some 100000000 } } },
    ⟨by decide +kernel, by decide +kernel, by decide +kernel, by decide +kernel, by decide +kernel, by decide +kernel, by decide +kernel, by
    intro p h e
    cases h
    exact absurd (congrArg (fun x => x.result.length) e) (by simp [storedPassword, be, le])⟩⟩

theorem witness_RolesAndSessions_3 : ∃ (q : Req) (s : State), s.mailboxLive = true ∧ s.power.state ≠ .start ∧
    s.power.state ≠ .shutdownTest ∧ s.lifecycle ≠ 5 :=
  ⟨ask 0 0, lab .safe, by decide +kernel⟩

theorem witness_RolesAndSessions_4 : ∃ (r : Role) (e : Nat) (s : State), (s.sec.login r).lockedUntil = some e ∧ e ≤
    s.opUs :=
  ⟨.maintainer, 100000000, { lab .run with sec := { maintainerLogin := { lockedUntil := some 100000000 } } },
    by decide +kernel⟩

theorem witness_SecurityCommands_1 : ∃ (q : Req) (s : State), s.power.state = .stop ∧ s.power.dead = false ∧ s.onTrial
    = false ∧ s.lifecycle ≠ 5 ∧ s.holds q (some .safetyAuthority) = true ∧ s.sealOpen = true ∧ loginForm q.payload =
    true ∧ badPasswordByte (passwordOf q.payload) = none ∧ 10 ≤ codePoints (passwordOf q.payload) ∧ s.log.length <
    logCapacity :=
  ⟨ask 0 0 loginRecord, { lab .stop with sec := { sealPat := 0b1010#4 } }, by decide +kernel⟩

theorem witness_SecurityCommands_2 : ∃ (q : Req) (s : State), s.power.state = .stop ∧ s.power.dead = false ∧ s.onTrial
    = false ∧ s.lifecycle = 1 ∧ s.holds q (some .safetyAuthority) = true ∧ s.sealOpen = true ∧ q.payload.length = 104
    ∧ u32 q.payload 0 ≠ 0 ∧ u8 q.payload 4 = 4 ∧ zeros q.payload 101 3 = true ∧ s.log.length < logCapacity :=
  ⟨ask 0 0 ([1, 0, 0, 0, 4] ++ List.replicate 99 0), { lab .stop with sec := { lcP := true, sealPat := 0b1010#4 } },
    by decide +kernel⟩

theorem witness_SecurityCommands_3 : ∃ (q : Req) (s : State), s.power.state = .stop ∧ s.power.dead = false ∧ s.onTrial
    = false ∧ s.lifecycle = 2 ∧ s.bench.forces = [] ∧ s.station.isSome = true ∧ s.holds q (some .safetyAuthority) =
    true ∧ s.sealOpen = true ∧ q.p0 = 3 ∧ s.log.length < logCapacity ∧ s.sec.debug = .none ∧ s.sec.lcC = true ∧
    s.sec.lcR = false :=
  ⟨ask 3 0, bench .stop, by decide +kernel⟩

theorem witness_SecurityCommands_4 : ∃ (q : Req) (s : State), (s.power.state = .stop ∨ s.power.state = .safe ∨
    s.power.state = .lockout) ∧ s.power.dead = false ∧ s.onTrial = false ∧ s.lifecycle ≠ 5 ∧ s.holds q (some
    .safetyAuthority) = true ∧ s.sealOpen = true ∧ q.p0 = 5 :=
  ⟨ask 5 0, bench .lockout, by decide +kernel⟩

theorem witness_SecurityCommands_5 : ∃ (q : Req) (s : State), s.power.state = .lockout ∧ s.power.dead = false ∧
    s.power.repeated = true ∧ s.power.comparatorsBad = false ∧ s.lifecycle ≠ 5 ∧ s.holds q (some .safetyAuthority) =
    true ∧ s.sealOpen = true ∧ s.log.length < logCapacity :=
  ⟨ask 0 0, { bench .lockout with power := { state := .lockout, repeated := true } }, by decide +kernel⟩

theorem witness_SecurityCommands_6 : ∃ (q : Req) (s : State), s.power.state = .lockout ∧ s.power.dead = false ∧
    s.power.comparatorsBad = true ∧ s.lifecycle ≠ 5 ∧ s.holds q (some .safetyAuthority) = true ∧ s.sealOpen = true :=
  ⟨ask 0 0, { bench .lockout with power := { state := .lockout, comparatorsBad := true } }, by decide +kernel⟩

theorem witness_UpdateCommands_1 : ∃ (q : Req) (s : State), Settled s ∧ s.holds q (some .maintainer) = true ∧ (q.p0 =
    1 ∨ q.p0 = 2) ∧ (q.p0 = 1 → s.onTrial = false) ∧ q.payload.length = 512 ∧ u8 q.payload 8 = q.p0 ∧ upBlocks
    q.payload ≠ 0 ∧ upBlocks q.payload ≤ maxBlocks q.p0 ∧ (s.target q.p0).stage = 0 :=
  ⟨ask 2 0 updateHeader, lab .run, by unfold Settled Answers; decide +kernel⟩

theorem witness_UpdateCommands_2 : ∃ (q : Req) (size : Nat) (s : State), Settled s ∧ s.holds q (some .maintainer) =
    true ∧ (q.p1 = 1 ∨ q.p1 = 2) ∧ q.p0 < 2 ^ 21 ∧ (s.target q.p1).stage = 1 ∧ q.p0 % 65536 * 32 + q.p0 / 65536 =
    (s.target q.p1).good * 32 + (s.target q.p1).chunk ∧ size = blockSize (s.target q.p1).header (s.target q.p1).good -
    2048 * (s.target q.p1).chunk ∧ 1 ≤ size ∧ q.payload.length = Nat.min 2048 size :=
  ⟨ask (31 * 65536) 2 (List.replicate 2048 7), 2048,
    { lab .run with update := { data := { stage := 1, header := updateHeader, chunk := 31 } } },
    by unfold Settled Answers; decide +kernel⟩

theorem witness_UpdateCommands_3 : ∃ (q : Req) (s : State), Settled s ∧ s.holds q (some .maintainer) = true ∧ (q.p0 =
    1 ∨ q.p0 = 2) :=
  ⟨ask 2 0, { lab .run with update := { data := { stage := 2 } } }, by unfold Settled Answers; decide +kernel⟩

theorem witness_UpdateCommands_4 : ∃ (q : Req) (s : State), s.power.state = .stop ∧ s.power.dead = false ∧ s.lifecycle
    ≠ 5 ∧ s.holds q (some .safetyAuthority) = true ∧ s.sealOpen = true ∧ (s.target q.p0).stage = 3 ∧ (∀ w ∈
    s.eng.waiting, ∀ r n, w ≠ .activate r n) :=
  ⟨ask 2 1, { bench .stop with update := { data := { stage := 3 } } },
    ⟨by decide +kernel, by decide +kernel, by decide +kernel, by decide +kernel, by decide +kernel, by decide +kernel, fun w h => nomatch h⟩⟩

theorem witness_UpdateCommands_5 : ∃ (q : Req) (s : State), Settled s ∧ s.holds q (some .maintainer) = true ∧
    s.onTrial = true :=
  ⟨ask 0 0,
    { lab .run with update := { firmware := { selector := ⟨{ trial := true }, { trial := true }, true, true, 1, 0⟩ } } },
    by unfold Settled Answers; decide +kernel⟩

theorem witness_UpdateCommands_6 : ∃ (q : Req) (s : State), Settled s ∧ s.holds q (some .maintainer) = true ∧ (q.p0 =
    1 ∨ q.p0 = 2) :=
  ⟨ask 2 0, { lab .run with update := { data := { stage := 2 } } }, by unfold Settled Answers; decide +kernel⟩

theorem witness_UpdateCommands_7 : ∃ (q : Req) (n : Bool) (l m : List Waiting) (f : Option ImageFault) (s : State),
    s.eng.waiting = l ++ .activate q n :: m ∧ (∀ w ∈ l ++ m, ∀ r k, w ≠ .activate r k) ∧ s.update.data.stage = 3 ∧ f =
    validate
    { bytes := s.update.data.bank s.update.data.inactive, variant := s.unit.variant, keyId := s.sec.keyId, key := s.sec.key, activeStation := s.station.map Station.stationId, newStation := n }
    :=
  ⟨ask 0 0, false, [], [],
    (validate { bytes := [], variant := .v40, keyId := 0, key := [], activeStation := some 5, newStation := false }),
    { bench .stop with eng := { waiting := [.activate (ask 0 0) false] }, update := { data := { stage := 3 } } },
    ⟨rfl, (fun w h => nomatch h), rfl, rfl⟩⟩

theorem witness_UpdateCommands_8 : ∃ (q : Req) (n : Bool) (l m : List Waiting) (s : State), s.eng.waiting = l ++
    .activate q n :: m ∧ (∀ w ∈ l ++ m, ∀ r k, w ≠ .activate r k) ∧ s.update.data.stage ≠ 3 :=
  ⟨ask 0 0, false, [], [],
    { bench .stop with eng := { waiting := [.activate (ask 0 0) false] }, update := { data := { stage := 2 } } },
    ⟨rfl, (fun w h => nomatch h), by decide⟩⟩

theorem witness_UpdateCommands_9 : ∃ (s : State), (∀ w ∈ s.eng.waiting, ∀ r k, w ≠ .activate r k) :=
  ⟨bench .run, fun w h => nomatch h⟩

theorem witness_MailboxTransports_1 : ∃ (v : Word) (b c : List Byte) (slot : Nat) (s : State), Answers s ∧ s.hi.downMg
    = false ∧ slot = v.toNat % 64 ∧ s.hi.busy.getLsbD slot = false ∧ c = (s.writeSlot slot b).hi.blockAt slot ∧
    transportCheck c slot true = none ∧ clusterDecides (blkOpcode c) = true :=
  ⟨5, stopBlock, stopBlock, 5, { lab .run with hi := { downMg := false } }, by unfold Answers; decide +kernel⟩

theorem witness_MailboxTransports_2 : ∃ (v : Word) (b c : List Byte) (slot : Nat) (st : Status) (s : State), Answers s
    ∧ WindowOk s ∧ s.hi.downMg = false ∧ slot = v.toNat % 64 ∧ s.hi.busy.getLsbD slot = false ∧ c = (s.writeSlot slot
    b).hi.blockAt slot ∧ transportCheck c slot true = some st :=
  ⟨5, badBlock, badBlock, 5, .resend, { lab .run with hi := { downMg := false } },
    by unfold Answers WindowOk; decide +kernel⟩

theorem witness_MailboxTransports_3 : ∃ (c : Instr) (op p0 : Nat) (data : List Byte) (q : Req) (s : State), Answers s
    ∧ WindowOk s ∧ Reaches s q ∧ ((c, op, p0, data) ∈ [(Instr.identify q, 0x0001, 0, s.identityRecord),
    (Instr.capabilities q, 0x0002, s.unit.variant.cap.toNat, s.unit.variant.capRecord), (Instr.getStatus q, 0x0003, 0,
    s.statusRecord), (Instr.getTime q, 0x0005, bit s.calendar.2 0, s.timeRecord), (Instr.eventInfo q, 0x0601, 0,
    s.infoRecord), (Instr.diagVote q, 0x0901, 0, s.diagNow.vote), (Instr.diagAshlar q, 0x0902, 0, s.diagNow.ashlar),
    (Instr.diagSafeRecord q, 0x0903, 0, s.diagNow.safeRecord), (Instr.subscriptionGet q, 0x0A02, 0, le 8
    s.hi.subscribed.toNat)] ∨ (c, op, p0, data) = (Instr.diagCanPort q, 0x0907, 0, s.diagNow.can.getD q.p0 []) ∧ q.p0
    < s.unit.variant.canPorts) ∧ data.length ≤ 4064 :=
  ⟨.subscriptionGet (ask 0 0), 0x0A02, 0, le 8 0, ask 0 0, { lab .run with hi := { downMg := false } },
    ⟨by unfold Answers; decide +kernel, by unfold WindowOk; decide +kernel, by unfold Reaches; decide +kernel,
     .inl (.tail _ (.tail _ (.tail _ (.tail _ (.tail _ (.tail _ (.tail _ (.tail _ (.head _))))))))), by decide +kernel⟩⟩

theorem witness_MailboxTransports_4 : ∃ (l : List Response) (s : State), s.hi.downMg = false ∧ s.mg.alive = true ∧
    WindowOk s ∧ s.hi.heldDone = l ∧ (∀ r ∈ l, r.bytes.length ≤ 4096) ∧ l.Pairwise (fun x y => x.req.slot ≠
    y.req.slot) :=
  ⟨[{ req := ask 0 0, opcode := 1, status := 0 }],
    { lab .run with hi := { downMg := false, heldDone := [{ req := ask 0 0, opcode := 1, status := 0 }] } },
    by unfold WindowOk; decide +kernel⟩

theorem witness_MailboxTransports_5 : ∃ (l : List (Nat × Note)) (s : State), s.hi.downMg = false ∧ s.mg.alive = true ∧
    WindowOk s ∧ s.hi.lostNotes = 0 ∧ s.hi.heldNotes = l ∧ (s.hi.head - s.hi.tail).toNat + l.length ≤ 255 :=
  ⟨[(7, ⟨0x0100, 0, 0, [1]⟩)], { lab .run with hi := { downMg := false, heldNotes := [(7, ⟨0x0100, 0, 0, [1]⟩)] } },
    by unfold WindowOk; decide +kernel⟩

theorem witness_MailboxTransports_6 : ∃ (d : X8Datagram) (s : State), Answers s ∧ d.port = 47218 ∧ 32 ≤ d.data.length
    ∧ d.data.length ≤ 4096 ∧ s.hi.x8Entry (blkTag d.data % 64) = none ∧ transportCheck d.data (blkTag d.data % 64)
    (d.data.length == 32 + blkLength d.data) = none ∧ clusterDecides (blkOpcode d.data) = true :=
  ⟨⟨1, 2, 47218, stopBlock⟩, lab .run, by unfold Answers; decide +kernel⟩

theorem witness_MailboxTransports_7 : ∃ (d : X8Datagram) (e : X8Stored) (s : State), Answers s ∧ d.port = 47218 ∧ 32 ≤
    d.data.length ∧ d.data.length ≤ 4096 ∧ s.hi.x8Entry (blkTag d.data % 64) = some e ∧ e.inFlight = false ∧ e.repeats
    d.data = true :=
  ⟨⟨1, 2, 47218, stopBlock⟩, ⟨5, 5, 0, 0, word (blkCrc stopBlock), false, [], 1, 2⟩,
    { lab .run with hi := { x8 := [⟨5, 5, 0, 0, word (blkCrc stopBlock), false, [], 1, 2⟩] } },
    by unfold Answers; decide +kernel⟩

theorem witness_BistBlockVerdicts_1a : ∃ (b : BlockResult) (s : State), s.power.state = .shutdownTest ∧ s.test.step =
    b.block ∧ 1 ≤ b.block ∧ b.block ≤ 7 ∧ b.block ≠ 4 ∧ b.engineCount = terminal s.unit.variant.spare b.block ∧
    b.ashlarCount = b.engineCount ∧ b.signature ≠ s.test.expected.getD (b.block - 1) 0 :=
  ⟨⟨1, terminal true 1, terminal true 1, 1, [], [], []⟩, { lab .shutdownTest with test := { step := 1 } },
    by decide +kernel⟩

theorem witness_RouteCommands_1a : ∃ (q : Req) (r : Route) (s s1 : State), BenchOpen s ∧ q.p0 < s.eng.routes.length ∧
    s.fullRoute q.p0 = some r ∧ (s.rdyn q.p0).state = .free ∧ s.counted < 512 ∧
    (∀ p ∈ s.eng.queue, p.arrival ≠ q.arrival) ∧
    s1 = (State.asked s 0x0101 q (.route q.p0)).modRoute q.p0 (fun d => { d with state := .requested, arrival := q.arrival }) ∧
    s1.routeReasons r q.arrival = [] :=
  ⟨ask 0 0, miniRoute, withEng { elems := List.replicate 8 {}, routes := [{}] },
    ((State.asked (withEng { elems := List.replicate 8 {}, routes := [{}] }) 0x0101 (ask 0 0) (.route 0)).modRoute 0 (fun d => { d with state := .requested, arrival := 0 })),
    by unfold BenchOpen; and_intros <;> decide +kernel⟩

theorem witness_RouteCommands_1b : ∃ (q : Req) (r : Route) (s s1 : State), BenchOpen s ∧ q.p0 < s.eng.routes.length ∧
    s.fullRoute q.p0 = some r ∧ (s.rdyn q.p0).state = .free ∧ s.counted < 512 ∧
    (∀ p ∈ s.eng.queue, p.arrival ≠ q.arrival) ∧
    s1 = (State.asked s 0x0101 q (.route q.p0)).modRoute q.p0 (fun d => { d with state := .requested, arrival := q.arrival }) ∧
    firstReason (s1.routeReasons r q.arrival) = some (0x0124, 1) ∧ waits 0x0124 = false :=
  ⟨ask 0 0, miniRoute, withEng { elems := elemsAt 1 { lost := true, image := 3 }, routes := [{}] },
    ((State.asked (withEng { elems := elemsAt 1 { lost := true, image := 3 }, routes := [{}] }) 0x0101 (ask 0 0) (.route 0)).modRoute 0 (fun d => { d with state := .requested, arrival := 0 })),
    by unfold BenchOpen; and_intros <;> decide +kernel⟩

theorem witness_RouteCommands_1c : ∃ (q : Req) (r : Route) (s s1 : State), BenchOpen s ∧ q.p0 < s.eng.routes.length ∧
    s.fullRoute q.p0 = some r ∧ (s.rdyn q.p0).state = .free ∧ s.counted < 512 ∧
    (∀ p ∈ s.eng.queue, p.arrival ≠ q.arrival) ∧
    s1 = (State.asked s 0x0101 q (.route q.p0)).modRoute q.p0 (fun d => { d with state := .requested, arrival := q.arrival }) ∧
    firstReason (s1.routeReasons r q.arrival) = some (0x0111, 1) ∧ waits 0x0111 = true :=
  ⟨ask 0 0, miniRoute,
    withEng { elems := elemsAt 1 { image := 1 }, routes := [{}], txns := [⟨.pointThrow, 1, 1, true, none, 10, false⟩] },
    ((State.asked (withEng { elems := elemsAt 1 { image := 1 }, routes := [{}], txns := [⟨.pointThrow, 1, 1, true, none, 10, false⟩] }) 0x0101 (ask 0 0) (.route 0)).modRoute 0 (fun d => { d with state := .requested, arrival := 0 })),
    by unfold BenchOpen; and_intros <;> decide +kernel⟩

theorem witness_RouteCommands_2a : ∃ (q : Req) (r : Route) (s : State), BenchOpen s ∧ q.p0 < s.eng.routes.length ∧
    s.fullRoute q.p0 = some r ∧ (∀ x ∈ s.bench.requests, x.opcode ≠ 0x0101) ∧ (s.rdyn q.p0).state = .setting :=
  ⟨ask 0 0, miniRoute, withEng { elems := List.replicate 8 {}, routes := [{ state := .setting }] },
    by unfold BenchOpen; decide +kernel⟩

theorem witness_RouteCommands_2b : ∃ (q : Req) (r : Route) (s : State), BenchOpen s ∧ q.p0 < s.eng.routes.length ∧
    s.fullRoute q.p0 = some r ∧ (∀ x ∈ s.bench.requests, x.opcode ≠ 0x0101) ∧ (s.rdyn q.p0).state = .occupied :=
  ⟨ask 0 0, miniRoute, withEng { elems := List.replicate 8 {}, routes := [{ state := .occupied }] },
    by unfold BenchOpen; decide +kernel⟩

theorem witness_RouteCommands_3a : ∃ (q : Req) (s s1 : State), BenchOpen s ∧ s.typeOf q.p0 = 2 ∧ q.p1 ≤ 1 ∧
    s.counted < 512 ∧ (∀ p ∈ s.eng.queue, p.arrival ≠ q.arrival) ∧
    s1 = State.asked s 0x0103 q (.point q.p0 q.p1 false) ∧ (∀ e ∈ s.pointEnds q.p0, s.image e = q.p1) :=
  ⟨ask 1 0, (bench .run), (State.asked (bench .run) 0x0103 (ask 1 0) (.point 1 0 false)),
    by unfold BenchOpen; and_intros <;> decide +kernel⟩

theorem witness_RouteCommands_3b : ∃ (q : Req) (s s1 : State), BenchOpen s ∧ s.typeOf q.p0 = 2 ∧ q.p1 ≤ 1 ∧
    s.counted < 512 ∧ (∀ p ∈ s.eng.queue, p.arrival ≠ q.arrival) ∧
    s1 = State.asked s 0x0103 q (.point q.p0 q.p1 false) ∧ (∃ e ∈ s.pointEnds q.p0, s.image e ≠ q.p1) ∧
    s1.moveReasons (s.pointEnds q.p0) false q.arrival = [] :=
  ⟨ask 1 1, (bench .run), (State.asked (bench .run) 0x0103 (ask 1 1) (.point 1 1 false)),
    by unfold BenchOpen; and_intros <;> decide +kernel⟩

theorem witness_RouteCommands_4a : ∃ (q : Req) (s : State), BenchOpen s ∧ s.typeOf q.p0 = 3 ∧ s.routesFrom q.p0 = [] ∧
    s.showsStop q.p0 = false :=
  ⟨ask 2 0, withEng { elems := elemsAt 2 { image := 0x11 }, routes := [{}] }, by unfold BenchOpen; decide +kernel⟩

theorem witness_DoorAndAuxCommands_4a : ∃ (q : Req) (p : Prepare) (s : State), BenchOpen s ∧ q.payload.length = 12 ∧
    s.auxParams (u8 q.payload 0) (u8 q.payload 1) (u16 q.payload 2) = true ∧
    s.eng.prepares.find? (fun p => p.kind == u8 q.payload 0 && p.position == u8 q.payload 1 && p.target == u16 q.payload 2) = some p ∧
    p.challenge ≠ u32 q.payload 4 :=
  ⟨ask 0 0 confirming, ⟨3, 0, 5, 2, some 60000000, false⟩,
    withEng { prepares := [⟨3, 0, 5, 2, some 60000000, false⟩], heldAreas := [5] },
    by unfold BenchOpen; decide +kernel⟩

theorem witness_DoorAndAuxCommands_4b : ∃ (q : Req) (p : Prepare) (s : State), BenchOpen s ∧ q.payload.length = 12 ∧
    s.auxParams (u8 q.payload 0) (u8 q.payload 1) (u16 q.payload 2) = true ∧
    s.eng.prepares.find? (fun p => p.kind == u8 q.payload 0 && p.position == u8 q.payload 1 && p.target == u16 q.payload 2) = some p ∧
    p.challenge = u32 q.payload 4 ∧ p.kind = 3 ∧ p.expired = false ∧ p.target ∈ s.eng.heldAreas ∧
    (∀ e, p.doneUs = some e → s.bench.freezeUs ≤ e + 30000000) :=
  ⟨ask 0 0 confirming, ⟨3, 0, 5, 1, some 60000000, false⟩,
    withEng { prepares := [⟨3, 0, 5, 1, some 60000000, false⟩], heldAreas := [5] },
    by
    unfold BenchOpen
    exact ⟨by decide +kernel, by decide +kernel, by decide +kernel, by decide +kernel, by decide +kernel, by decide +kernel,
      by decide +kernel, by decide +kernel, fun e h => by cases h; decide +kernel⟩⟩

theorem witness_BenchCommands_5a : ∃ (q : Req) (kind target : Nat) (s : State), BenchReads s ∧
    (s.lifecycle = 2 ∨ s.lifecycle = 4) ∧ s.holds q (some .maintainer) = true ∧ q.p0 = kind + target * 65536 ∧
    1 ≤ kind ∧ kind ≤ 3 ∧ q.p1 < 256 ∧ s.forceAbsent kind target = false ∧ s.forceRefusal kind target q.p1 = none ∧
    s.bench.nextForces.find? (fun x => x.kind == kind && x.target == target) = none ∧ s.power.state = .stop :=
  ⟨ask 0x60001 1, 1, 6, bench .stop, by unfold BenchReads; decide +kernel⟩

theorem witness_BenchCommands_6a : ∃ (q : Req) (s : State), BenchReads s ∧ (s.lifecycle = 2 ∨ s.lifecycle = 4) ∧
    s.holds q (some .maintainer) = true ∧ q.p0 % 256 = 0xFF ∧ q.p0 / 256 % 256 = 0 ∧ s.power.state = .stop ∧
    s.bench.nextForces.length = 1 :=
  ⟨ask 0xFF 0, { bench .stop with bench := { forces := [⟨1, 6, 1, 1, 0, 0⟩] } },
    by unfold BenchReads; decide +kernel⟩

theorem witness_BenchCommands_7a : ∃ (q : Req) (st : Station) (s : State), BenchReads s ∧ s.benchLifecycle = true ∧
    s.station = some st ∧ st.changeMode = 2 ∧ s.holds q (some .maintainer) = true ∧ s.constantRefusal q.p0 q.p1 = none
    ∧ s.log.length + s.bench.newLog.length < logCapacity ∧ s.log.length ≠ 235930 ∧ s.power.state = .stop :=
  ⟨ask 0 10, { mini with changeMode := 2 }, { bench .stop with station := some { mini with changeMode := 2 } },
    by unfold BenchReads; decide +kernel⟩

theorem witness_QueriesAnswer_2a : ∃ (q : Req) (s : State), Answers s ∧ 1 ≤ q.p1 ∧ q.p0 < s.unit.variant.inputs ∧
    q.p1 ≤ 64 :=
  ⟨ask 63 64, lab .run, by unfold Answers; decide +kernel⟩

theorem witness_QueriesAnswer_2b : ∃ (q : Req) (s : State), Answers s ∧ 1 ≤ q.p1 ∧ q.p0 < s.unit.variant.outputs ∧
    q.p1 ≤ 32 :=
  ⟨ask 31 32, lab .run, by unfold Answers; decide +kernel⟩

theorem witness_QueriesAnswer_2c : ∃ (q : Req) (s : State), Answers s ∧ 1 ≤ q.p1 ∧ q.p0 < s.unit.variant.groups ∧
    q.p1 ≤ 4 :=
  ⟨ask 3 4, lab .run, by unfold Answers; decide +kernel⟩

theorem witness_QueriesAnswer_2d : ∃ (q : Req) (s : State), Answers s ∧ 1 ≤ q.p1 ∧ q.p1 ≤ 127 :=
  ⟨ask 0 127, lab .run, by unfold Answers; decide +kernel⟩

theorem witness_QueriesAnswer_2e : ∃ (q : Req) (s : State), Answers s ∧ 1 ≤ q.p1 ∧ q.p1 ≤ 169 ∧
    s.station.isSome = true :=
  ⟨ask 0 169, bench .run, by unfold Answers; decide +kernel⟩

theorem witness_QueriesAnswer_2f : ∃ (q : Req) (s : State), Answers s ∧ 1 ≤ q.p1 ∧ q.p1 ≤ 63 ∧
    s.power.state ≠ .start ∧ s.power.state ≠ .shutdownTest :=
  ⟨ask 0 63, lab .run, by unfold Answers; decide +kernel⟩

theorem witness_QueriesAnswer_3a : ∃ (q : Req) (s : State), Answers s ∧ q.p0 < s.unit.variant.canPorts :=
  ⟨ask 7 0, lab .run, by unfold Answers; decide +kernel⟩

theorem witness_QueriesAnswer_3b : ∃ (q : Req) (s : State), Answers s ∧
    (q.p0 < s.unit.variant.canPorts ∨ (s.unit.variant.ethernet = true ∧ (q.p0 = 8 ∨ q.p0 = 9))) :=
  ⟨ask 9 0, lab .run, by unfold Answers; decide +kernel⟩

theorem witness_QueriesAnswer_3c : ∃ (q : Req) (s : State), Answers s ∧ Settled s ∧ (q.p0 = 1 ∨ q.p0 = 2) :=
  ⟨ask 2 0, lab .run, by unfold Settled Answers; decide +kernel⟩

theorem witness_QueriesAnswer_3d : ∃ (q : Req) (s : State), Answers s ∧ q.payload.length = 12 ∧ 1 ≤ u16 q.payload 8 ∧
    u16 q.payload 8 ≤ 126 ∧ u16 q.payload 10 = 0 :=
  ⟨ask 0 0 [0, 0, 0, 0, 0, 0, 0, 0, 126, 0, 0, 0], lab .run, by unfold Answers; decide +kernel⟩

theorem witness_QueriesAnswer_4a : ∃ (q : Req) (s : State), BenchReads s ∧ 1 ≤ q.p1 ∧ q.p1 ≤ 500 ∧
    q.p0 < s.routes.length :=
  ⟨ask 0 500, bench .run, by unfold BenchReads; decide +kernel⟩

theorem witness_QueriesAnswer_4b : ∃ (q : Req) (s : State), BenchReads s ∧ 1 ≤ q.p1 ∧ q.p1 ≤ 500 ∧
    q.p0 < s.elements.length :=
  ⟨ask 6 500, bench .stop, by unfold BenchReads; decide +kernel⟩

theorem witness_QueriesAnswer_4c : ∃ (q : Req) (s : State), BenchReads s ∧ 1 ≤ q.p1 ∧ q.p1 ≤ 254 ∧
    q.p0 < s.constantCount :=
  ⟨ask 8 254, bench .run, by unfold BenchReads; decide +kernel⟩

theorem witness_QueriesAnswer_4d : ∃ (q : Req) (s : State), BenchReads s ∧ Answers s ∧ s.typeOf q.p0 = 4 ∧
    1 ≤ q.p1 / 256 ∧ q.p1 / 256 ≤ 48 ∧ q.p1 % 256 + q.p1 / 256 ≤ (s.part q.p0).leaves.length :=
  ⟨ask 3 256, bench .run, by unfold BenchReads Answers; decide +kernel⟩

theorem witness_ManagementCommands_5a : ∃ (q : Req) (s : State), Answers s ∧ q.payload.length = 8 ∧
    u64 q.payload 0 < 512 ∧ q.via = .x8 :=
  ⟨{ ask 0 0 (le 8 511) with via := .x8 }, lab .run, by unfold Answers; decide +kernel⟩

theorem witness_LinksAndRestarts_3a : ∃ (s : State), s.mg.alive = false ∧ s.power.state.powered = true ∧
    s.mg.voided = [] ∧ s.hi.downMg = true ∧ (∀ x ∈ s.mg.outstanding, x.1.via = .pcie) ∧
    s.recorder.frozenUntil.isSome = true :=
  ⟨{ lab .run with mg := { alive := false }, recorder := { frozenUntil := some 100000001 } }, by decide +kernel⟩

theorem witness_RolesAndSessions_2a : ∃ (q : Req) (r : Role) (s : State), s.mailboxLive = true ∧
    s.power.state ≠ .start ∧ s.power.state ≠ .shutdownTest ∧ s.lifecycle ≠ 5 ∧ loginForm q.payload = true ∧
    r = roleIn q.payload ∧ s.lockLeft r = 0 ∧
    (∀ p, s.sec.password r = some p → storedPassword (passwordOf q.payload) p.salt ≠ p) ∧
    (s.sec.login r).failures < 4 :=
  ⟨ask 0 0 loginRecord, .maintainer, { lab .safe with sec := { maintainerLogin := { failures := 3 } } },
    ⟨by decide +kernel, by decide +kernel, by decide +kernel, by decide +kernel, by decide +kernel, by decide +kernel, by decide +kernel, (by intro p h; cases h), by decide +kernel⟩⟩

theorem witness_UpdateCommands_2a : ∃ (q : Req) (size : Nat) (s : State), Settled s ∧
    s.holds q (some .maintainer) = true ∧ (q.p1 = 1 ∨ q.p1 = 2) ∧ q.p0 < 2 ^ 21 ∧ (s.target q.p1).stage = 1 ∧
    q.p0 % 65536 * 32 + q.p0 / 65536 = (s.target q.p1).good * 32 + (s.target q.p1).chunk ∧
    size = blockSize (s.target q.p1).header (s.target q.p1).good - 2048 * (s.target q.p1).chunk ∧ 1 ≤ size ∧
    q.payload.length = Nat.min 2048 size ∧ 2048 < size :=
  ⟨ask 0 2 (List.replicate 2048 7), 65536,
    { lab .run with update := { data := { stage := 1, header := updateHeader } } },
    by unfold Settled Answers; decide +kernel⟩

theorem witness_UpdateCommands_2b : ∃ (q : Req) (size : Nat) (s : State), Settled s ∧
    s.holds q (some .maintainer) = true ∧ (q.p1 = 1 ∨ q.p1 = 2) ∧ q.p0 < 2 ^ 21 ∧ (s.target q.p1).stage = 1 ∧
    q.p0 % 65536 * 32 + q.p0 / 65536 = (s.target q.p1).good * 32 + (s.target q.p1).chunk ∧
    size = blockSize (s.target q.p1).header (s.target q.p1).good - 2048 * (s.target q.p1).chunk ∧ 1 ≤ size ∧
    q.payload.length = Nat.min 2048 size ∧ size ≤ 2048 ∧
    crc32c ((s.target q.p1).chunks ++ q.payload) ≠ (s.target q.p1).blockCrc (s.target q.p1).good :=
  ⟨ask 1 2 [7], 1,
    { lab .run with update := { data := { stage := 1, header := smallHeader, good := 1, chunks := [] } } },
    by unfold Settled Answers; decide +kernel⟩

theorem witness_UpdateCommands_2c : ∃ (q : Req) (size : Nat) (s : State), Settled s ∧
    s.holds q (some .maintainer) = true ∧ (q.p1 = 1 ∨ q.p1 = 2) ∧ q.p0 < 2 ^ 21 ∧ (s.target q.p1).stage = 1 ∧
    q.p0 % 65536 * 32 + q.p0 / 65536 = (s.target q.p1).good * 32 + (s.target q.p1).chunk ∧
    size = blockSize (s.target q.p1).header (s.target q.p1).good - 2048 * (s.target q.p1).chunk ∧ 1 ≤ size ∧
    q.payload.length = Nat.min 2048 size ∧ size ≤ 2048 ∧
    crc32c ((s.target q.p1).chunks ++ q.payload) = (s.target q.p1).blockCrc (s.target q.p1).good :=
  ⟨ask 1 2 [7], 1,
    { lab .run with update := { data := { stage := 1, header := smallHeader, table := [0, 0, 0, 0] ++ le 4 (crc32c [7]).toNat, good := 1, chunks := [] } } },
    by unfold Settled Answers; decide +kernel⟩

theorem witness_UpdateCommands_3a : ∃ (q : Req) (s : State), Settled s ∧ s.holds q (some .maintainer) = true ∧
    (q.p0 = 1 ∨ q.p0 = 2) ∧ s.verifyFault q.p0 = some (0x0715, 0) :=
  ⟨ask 1 0, lab .run, by unfold Settled Answers; decide +kernel⟩

theorem witness_UpdateCommands_4a : ∃ (q : Req) (s : State), s.power.state = .stop ∧ s.power.dead = false ∧
    s.lifecycle ≠ 5 ∧ s.holds q (some .safetyAuthority) = true ∧ s.sealOpen = true ∧ (s.target q.p0).stage = 3 ∧
    (∀ w ∈ s.eng.waiting, ∀ r n, w ≠ .activate r n) ∧ q.p0 = 1 ∧ q.p1 = 0 ∧ s.log.length < logCapacity :=
  ⟨ask 1 0, { bench .stop with update := { firmware := { stage := 3 } } },
    ⟨by decide +kernel, by decide +kernel, by decide +kernel, by decide +kernel, by decide +kernel, by decide +kernel, (by intro w h; cases h), by decide +kernel⟩⟩

theorem witness_UpdateCommands_4b : ∃ (q : Req) (s : State), s.power.state = .stop ∧ s.power.dead = false ∧
    s.lifecycle ≠ 5 ∧ s.holds q (some .safetyAuthority) = true ∧ s.sealOpen = true ∧ (s.target q.p0).stage = 3 ∧
    (∀ w ∈ s.eng.waiting, ∀ r n, w ≠ .activate r n) ∧ q.p0 = 2 ∧ q.p1 ≤ 1 ∧ s.benchLifecycle = true ∧
    s.onTrial = false ∧ s.station.isSome = true :=
  ⟨ask 2 1, { bench .stop with update := { data := { stage := 3 } } },
    ⟨by decide +kernel, by decide +kernel, by decide +kernel, by decide +kernel, by decide +kernel, by decide +kernel, (by intro w h; cases h), by decide +kernel⟩⟩

theorem witness_UpdateCommands_6a : ∃ (q : Req) (s : State), Settled s ∧ s.holds q (some .maintainer) = true ∧
    (q.p0 = 1 ∨ q.p0 = 2) ∧ 4 ≤ (s.target q.p0).stage :=
  ⟨ask 1 0, { lab .run with update := { firmware := { stage := 4 } } }, by unfold Settled Answers; decide +kernel⟩

theorem witness_UpdateCommands_7a : ∃ (q : Req) (n : Bool) (l m : List Waiting) (f : Option ImageFault) (s : State),
    s.eng.waiting = l ++ .activate q n :: m ∧ (∀ w ∈ l ++ m, ∀ r k, w ≠ .activate r k) ∧ s.update.data.stage = 3 ∧ f =
    validate
    { bytes := s.update.data.bank s.update.data.inactive, variant := s.unit.variant, keyId := s.sec.keyId, key := s.sec.key, activeStation := s.station.map Station.stationId, newStation := n }
    ∧ (∃ x, f = some x) :=
  ⟨ask 0 0, false, [], [],
    (validate { bytes := [], variant := .v40, keyId := 0, key := [], activeStation := some 5, newStation := false }),
    { bench .stop with eng := { waiting := [.activate (ask 0 0) false] }, update := { data := { stage := 3 } } },
    ⟨rfl, (fun w h => nomatch h), rfl, rfl, emptyImage⟩⟩

theorem witness_AshlarWatches_5a : ∃ (n : Nat) (s : State), 9094 ≤ n ∧ n ≤ 9656 ∧ s.ash.blocked = true :=
  ⟨9656, { lab .run with ash := { blocked := true, blockedUntil := some 1 } }, by decide +kernel⟩

theorem witness_AshlarWatches_6a : ∃ (n : Nat) (s : State), (n < 9094 ∨ 9656 < n) ∧ EntersSafe s ∧
    s.ash.state = .armed ∧ s.ash.badCounts = 1 :=
  ⟨9093, { lab .run with ash := { state := .armed, badCounts := 1 } }, by unfold EntersSafe; decide +kernel⟩

theorem witness_InputsAndPulses_1a : ∃ (n since : Nat) (level : Bool) (i : FieldInput) (s : State), n <
    s.unit.variant.inputs ∧ s.field.inMode n ≠ 0 ∧ s.field.inputs[n]? = some i ∧ i.value ≠ level ∧ s.masked n = false
    ∧ s.field.samplesAt n since = true ∧ since + s.field.debounceUs n + s.maskedUs n since ≤ s.opUs ∧ s.field.inCos n
    = 3 :=
  ⟨63, 99999000, true, {}, { lab .run with field := { wired with config := upd wired.config 510 (fun _ => 3) } },
    by decide +kernel⟩

theorem witness_InputsAndPulses_4a : ∃ (c : PulseCheck) (n p : Nat) (l : List Nat) (i : FieldInput) (x : FieldSource)
    (s : State), c.source < s.unit.variant.pulses ∧ s.sourcePulses c.source = true ∧ c.readbackOk = true ∧
    s.field.inputsOf c.source = [n] ∧ s.field.inputs[n]? = some i ∧ s.field.sources[c.source]? = some x ∧ i.fault = 0
    ∧ x.unchecked = p :: l ∧ p + 400 ≤ s.opUs ∧ s.field.checkFails c n = true ∧ i.failRun = 1 :=
  ⟨⟨0, [(63, 75), (63, 375)], true⟩, 63, 99999600, [], { failRun := 1 }, { unchecked := [99999600] },
    { lab .run with field := { wired with
      inputs := upd wired.inputs 63 (fun _ => { failRun := 1 })
      sources := upd wired.sources 0 (fun _ => { unchecked := [99999600] }) } },
    by decide +kernel⟩

theorem witness_OutputsAndGroups_1a : ∃ (c : SwitchTest) (o : FieldOutput) (s : State), c.channel <
    s.unit.variant.outputs ∧ s.field.outputs[c.channel]? = some o ∧ s.field.outUsed c.channel = true ∧ o.demand = true
    ∧ o.permit = true ∧ o.high = true ∧ o.low = true ∧ o.fault = 0 ∧ o.causes = [] ∧ s.testDue c o = true ∧ c.dropped
    = [] ∧ c.fell = true :=
  ⟨⟨31, false, true, [], 24000, 0, 5⟩, lit, { lab .run with opUs := 100965000, field := lamps }, by decide +kernel⟩

theorem witness_CanReceives_1a : ∃ (k : Nat) (f : CanFrame) (s : State), s.canDetects k = false ∧ s.canRuns k = true ∧
    k < s.can.length ∧ (s.port k).busOff = false ∧ f.remote = false ∧
    filterAction (((s.canConfig k).map CanConfig.filters).getD []) f = 1 ∧ 32 ≤ (s.port k).q0.length :=
  ⟨0, ⟨5, true, true, true, false, [1, 2]⟩,
    { bench .run with can := [{ q0 := List.replicate 32 ⟨[], 5, true, true, 0⟩ }] }, by decide +kernel⟩

theorem witness_CanReceives_2a : ∃ (k : Nat) (f : CanFrame) (s : State), s.canDetects k = false ∧ s.canRuns k = true ∧
    k < s.can.length ∧ (s.port k).busOff = false ∧
    (f.remote = true ∨ filterAction (((s.canConfig k).map CanConfig.filters).getD []) f = 3) ∧ f.remote = false :=
  ⟨0, ⟨5, false, false, false, false, []⟩, (bench .run), by decide +kernel⟩

theorem witness_CanTransmits_3a : ∃ (k : Nat) (f : TxFrame) (l : List TxFrame) (s : State), s.canRuns k = true ∧
    k < s.can.length ∧ (s.port k).fifo = f :: l ∧ f.tooLate = true ∧
    (∃ g ∈ l ++ (s.port k).rest, g.node = f.node) :=
  ⟨0, ⟨5, 2, [2], true⟩, [⟨6, 2, [3], false⟩],
    { bench .run with can := [{ fifo := [⟨5, 2, [2], true⟩, ⟨6, 2, [3], false⟩] }] }, by decide +kernel⟩

theorem witness_CanFaults_1a : ∃ (k : Nat) (e : BusError) (s : State), s.canDetects k = false ∧ s.canRuns k = true ∧ k
    < s.can.length ∧ (s.port k).busOff = false ∧ e.transmitting = false ∧ (s.port k).tec ≤ 255 :=
  ⟨0, ⟨false, true, false, .crc⟩, { bench .run with can := [{ recv := 255, tec := 255 }] }, by decide +kernel⟩

theorem witness_CanFaults_1b : ∃ (k : Nat) (e : BusError) (s : State), s.canDetects k = false ∧ s.canRuns k = true ∧ k
    < s.can.length ∧ (s.port k).busOff = false ∧ e.transmitting = true ∧ (s.port k).tec + tecRise (s.port k).passive e
    ≤ 255 :=
  ⟨0, ⟨true, true, false, .form⟩, { bench .run with can := [{ tec := 247 }] }, by decide +kernel⟩

theorem witness_EthernetServices_2a : ∃ (k : Nat) (a sender : Word) (mac : BitVec 48) (s : State), s.lanSends = true ∧
    a = word (10 * 2 ^ 24 + s.networkId.toNat % 256 * 65536 + s.ownId) :=
  ⟨0, 0x0A000005, 2, 3, (bench .run), by decide +kernel⟩

theorem witness_EthernetServices_3a : ∃ (k : Nat) (a sender : Word) (mac : BitVec 48) (s : State), s.power.state.powered = true ∧
    a = s.hi.x8Address :=
  ⟨0, 0xC0A8640A, 2, 3, lab .safe, by decide +kernel⟩

theorem witness_EthernetServices_5a : ∃ (k : Nat) (l : Lan) (s : State), s.unit.variant.ethernet = true ∧
    s.power.state.powered = true ∧ s.net.lans[k]? = some l ∧ l.down = false :=
  ⟨0, {}, lab .safe, by decide +kernel⟩

theorem witness_DebugAndSeal_2a : ∃ (k : DebugKind) (core : Nat) (s : State), s.sec.debug = .none ∧
    s.power.state ∈ attachStates s.lifecycle k ∧ (s.lifecycle = 0 ∨ s.sealOpen = true) ∧ k ≠ .nonInvasive ∧
    s.power.state = .run :=
  ⟨.invasive, 0, { lab .run with sec := { lcP := true, lcC := true, sealPat := 0b1010#4 } }, by decide +kernel⟩

theorem witness_DebugAndSeal_2b : ∃ (k : DebugKind) (core : Nat) (s : State), s.sec.debug = .none ∧
    s.power.state ∈ attachStates s.lifecycle k ∧ (s.lifecycle = 0 ∨ s.sealOpen = true) ∧ k = .nonInvasive :=
  ⟨.nonInvasive, 0, lab .run, by decide +kernel⟩

theorem witness_OutputsAndGroups_5a : ∃ (g mv : Nat) (x y : FieldGroup) (s : State), g < s.unit.variant.groups ∧
    s.field.groupUsed g = true ∧ s.field.groups[g]? = some x ∧ y = x.measured true mv s.opUs ∧ y.state = 3 :=
  ⟨3, 17999, { inputSince := [some 0, some 0, some 0, some 0, some 0, some 0] },
    FieldGroup.measured { inputSince := [some 0, some 0, some 0, some 0, some 0, some 0] } true 17999 100000000,
    { lab .run with field := { groups := List.replicate 4 { inputSince := [some 0, some 0, some 0, some 0, some 0, some 0] } } },
    by decide +kernel⟩

theorem witness_CanFaults_1c : ∃ (k : Nat) (e : BusError) (s : State), s.canDetects k = false ∧ s.canRuns k = true ∧ k
    < s.can.length ∧ (s.port k).busOff = false ∧ e.transmitting = true ∧ 255 < (s.port k).tec + tecRise (s.port
    k).passive e ∧ (s.xing .fbMg).linkDown = true :=
  ⟨7, ⟨true, true, false, .bit⟩,
    { bench .run with can := List.replicate 8 { tec := 255 }, xings := [(.fbMg, {})] }, by decide +kernel⟩

theorem witness_CycleCodes_3a : ∃ (c d : Word) (p : Nat) (s : State), (s.xing .clAs).linkDown = false ∧ s.ash.state =
    .armed ∧ s.ash.period = some p ∧ (codePeriod c).toNat = p ∧ p ≠ 0 ∧ codeCount c = s.ash.lastCount + 1 ∧
    codeResponse c = response s.ash.challenge ∧ s.ash.lastUs + 800 * p ≤ s.opUs ∧ s.opUs ≤ s.ash.lastUs + 1250 * p ∧
    s.ash.held = false ∧ s.ash.inputStale = true :=
  ⟨cycleCodeWord 20 0 (response 0), 0, 20,
    { lab .run with ash := { state := .armed, period := some 20, lastCount := 255, lastUs := 99984000, inputStale := true } },
    by decide +kernel⟩

theorem witness_SafeSelfTestRebuilds_2a : ∃ (failed bad l : List Nat) (s : State), s.vote.cause ≠ 0 ∧
    s.vote.cores.length = 4 ∧ bad = (List.range 4).filter (fun c => s.core c == .selfTest && failed.contains c) ∧ bad
    ≠ [] ∧ l = (List.range 4).filter (fun c => s.coreHealthy c && !bad.contains c) ∧ l.length < 2 ∧ s.power.state =
    .safe :=
  ⟨[0, 1, 2], [0, 1, 2], [3],
    { lab .safe with vote := { cause := 0x1020, cores := [.selfTest, .selfTest, .selfTest, .reserve] } }, by decide +kernel⟩

theorem witness_PhaseIFreezes_1a : ∃ (samples : List (Crossing × List Word)) (s : State), s.power.state = .run ∧
    s.bench.frozen = false ∧ s.bench.nextFreezeUs ≤ s.opUs ∧ (s.xing .asCl).linkDown = true :=
  ⟨[], { bench .run with bench := { nextFreezeUs := 100000000 }, xings := [(.asCl, {})] }, by decide +kernel⟩

theorem witness_CanReceives_5a : ∃ (k : Nat) (e : BusError) (s : State), s.canDetects k = true ∧ k < s.can.length ∧
    e.afterBrs = true :=
  ⟨7, ⟨false, false, true, .stuff⟩, lab .run, by decide +kernel⟩

/-! ### WellFormed refuses -/

/-- Each range check of WellFormed refuses a command beyond its range, and takes one at its end. -/
theorem test_wellFormed_nodes : Instr.wellFormed (.nodeDropout 0) = false ∧ Instr.wellFormed (.nodeDropout 4095) = false ∧
    Instr.wellFormed (.nodeDropout 4094) = true := by decide

theorem test_wellFormed_elements : Instr.wellFormed (.throwTimeout 16384) = false ∧
    Instr.wellFormed (.throwTimeout 16383) = true ∧ Instr.wellFormed (.signalConfirmTimeout 16384) = false ∧
    Instr.wellFormed (.obstruction60s 16384) = false := by decide

theorem test_wellFormed_routes : Instr.wellFormed (.proofTimeout 4096) = false ∧
    Instr.wellFormed (.overlapReleaseExpiry 4095) = true ∧ Instr.wellFormed (.auxPrepareExpiry 0 5) = false ∧
    Instr.wellFormed (.auxPrepareExpiry 4 5) = false := by decide

theorem test_wellFormed_voting : Instr.wellFormed (.coreAccuse 3 1 []) = false ∧ Instr.wellFormed (.coreAccuse 0 0 []) = false ∧
    Instr.wellFormed (.coreAccuse 0 5 []) = false ∧ Instr.wellFormed (.targetedSelfTestDone 5) = false ∧
    Instr.wellFormed (.safeSelfTestDone [4]) = false ∧ Instr.wellFormed (.debugAttach .invasive 4) = false := by decide

theorem test_wellFormed_field : Instr.wellFormed (.debounceExpiry 64 true 0) = false ∧
    Instr.wellFormed (.testPulseStart 8) = false ∧ Instr.wellFormed (.sourceOverload 8) = false ∧
    Instr.wellFormed (.testPulseCheck ⟨0, [(64, 0)], true⟩) = false ∧
    Instr.wellFormed (.outputSwitchTest ⟨32, true, true, [], 0, 0, 0⟩) = false ∧
    Instr.wellFormed (.externalFeed ⟨32, 0, 0, 0⟩) = false ∧ Instr.wellFormed (.outputOverload 32 false 0) = false ∧
    Instr.wellFormed (.outputOverload 4 true 0) = false ∧ Instr.wellFormed (.groupSupplyState 4 true 0) = false ∧
    Instr.wellFormed (.groupSwitchFault 4 true) = false ∧ Instr.wellFormed (.markRequest false 64 0 0) = false := by decide

theorem test_wellFormed_ports : Instr.wellFormed (.rateDetectTimeout 8) = false ∧ Instr.wellFormed (.canTxDone 8) = false ∧
    Instr.wellFormed (.canFrameReceived 0 ⟨2048, false, false, false, false, []⟩) = false ∧
    Instr.wellFormed (.canFrameReceived 0 ⟨2048, true, false, false, false, []⟩) = true ∧
    Instr.wellFormed (.canFrameReceived 0 ⟨0, true, true, false, false, List.replicate 65 0⟩) = false ∧
    Instr.wellFormed (.lanDown 2) = false ∧ Instr.wellFormed (.datagramReceived ⟨2, 0, 0, false, 47217, true, [], false, false⟩) = false := by
  decide

theorem test_wellFormed_host : Instr.wellFormed (.registerWrite 4096 32 0) = false ∧
    Instr.wellFormed (.registerWrite 0 24 0) = false ∧ Instr.wellFormed (.msiVectorEnable 3) = false ∧
    Instr.wellFormed (.tokenRefill 65536) = false ∧ Instr.wellFormed (.bistBlockDone ⟨13, 0, 0, 0, [], [], []⟩) = false ∧
    Instr.wellFormed (.bistBlockTimeout 0 0) = false := by decide

theorem test_wellFormed_blocks : Instr.wellFormed (.doorbell 0 (List.replicate 4097 0)) = false ∧
    Instr.wellFormed (.x8RequestDatagram ⟨0, 0, 0, List.replicate 4097 0⟩) = false ∧
    Instr.wellFormed (.identify (ask 0 0 (List.replicate 4065 0))) = false ∧
    Instr.wellFormed (.routeSet (ask 0 0 (List.replicate 4064 0))) = true := by decide +kernel

/-! ### Values that the spec works out -/

/-- R191's example: the challenge 0x1234 is answered 0xCA7F. -/
theorem test_response : response 0x1234 = 0xCA7F := by decide

/-- R191's example: at 20 ms in cycle 1,000 the cycle code is 0x14E8_CA7F. -/
theorem test_cycleCode : cycleCodeWord 20 (BitVec.ofNat 8 1000) (response 0x1234) = 0x14E8CA7F := by decide

/-- The worked example of point 417 (02): its record as a part. -/
theorem test_point417 : parseElement ([0x74, 0x04, 2, 1, 0xA7, 2, 0, 3, 0xA1, 1, 0, 0, 5, 0, 0, 0, 0xFF, 0xFF, 0xB8, 0x0B] ++
    [0xE0, 0x2E, 0x40, 0x1F, 0x9C, 1, 1, 0] ++ List.replicate 36 0) =
    { index := 1140, loc := false, snapshot := true, node := 679, object := 0, subst := 3, name := 417, area := 5,
      part := .point none 3000 12000 8000 412 true } := by decide +kernel

/-- A granted mark is never 0 in its low 24 bits (R199). -/
theorem test_mark_zero : (vitalMark 0 0).getLsbD 0 || (vitalMark 0 0).extractLsb' 0 24 ≠ 0 := by decide +kernel

/-- No word spells a command, for no row of the table gives bits. -/
theorem test_decode : decodeTableWord 32 0 = none := rfl

/-! ### Single commands -/

/-- The state a command leaves, or the state before where it stops. -/
def after (i : Instr) (s : State) : State :=
  match Machine.exec i s with
  | .next t => t
  | _ => s

/-- The codes of the records that a command reports. -/
def codes (i : Instr) (s : State) : List Nat := (after i s).recorder.inbox.map Record.code

/-- The third entry into SAFE within 24 operating hours is LOCKOUT (R211). -/
theorem test_third_safe : (after .internalRailFault { lab .run with power := { state := .run, entries := [0, 0] } }).power.state
    = .lockout := by decide +kernel

/-- Beyond 24 hours an entry no longer counts (R211). -/
theorem test_old_entries : (after .internalRailFault
    { lab .run with power := { state := .run, entries := [0, 0] }, opUs := 86400000000 }).power.state = .safe := by
  decide +kernel

/-- 16.8 V is full function, one millivolt less is not (R214, R432). -/
theorem test_supply_limits : codes (.logicSupplyLow 16800) (lab .run) = [] ∧
    (after (.logicSupplyLow 16799) (lab .run)).recorder.ring.map Record.code = [0xC010, 0x0100] := by decide +kernel

/-- Below 0.5 V both cell events (R442). -/
theorem test_cell : codes (.cellMeasurement 499) (lab .run) = [0xC042, 0xC043] := by decide +kernel

/-- A TAIL write past HEAD has no effect (R318). -/
theorem test_tail : (after (.hiNoteTailWrite 3) { lab .run with hi := { head := 2, tail := 1 } }).hi.tail = 1 ∧
    (after (.hiNoteTailWrite 2) { lab .run with hi := { head := 2, tail := 1 } }).hi.tail = 2 := by decide +kernel

/-- Unmasking a set status bit sends its MSI, vector 3 as vector 3 mod 2 (R306, R308). -/
theorem test_unmask : (after (.hiIrqMaskWrite 7) { lab .run with hi := { irqStat := 8, vectors := 2 } }).outbox
    = [.msi 1] := by decide +kernel

/-- A wrong RESPONSE in READY is no trip (R192), in ARMED it is one, cause 4 (R193, R201). -/
theorem test_response_wrong :
    (after (.cycleCode (some (cycleCodeWord 20 8 0, 0))) { lab .run with ash := { state := .ready } }).ash.state = .ready ∧
    (after (.cycleCode (some (cycleCodeWord 20 8 0, 0))) { lab .run with
      ash := { state := .armed, period := some 20, lastCount := 7, lastUs := 99980000 } }).ash.cause = 4 := by decide +kernel

/-- 9,375 ± 3 %: 9,094 and 9,656 are in range (R194). -/
theorem test_clock : (after (.ashlarClockCount false 9093) (lab .run)).ash.badCounts = 1 ∧
    (after (.ashlarClockCount false 9094) (lab .run)).ash.badCounts = 0 ∧
    (after (.ashlarClockCount false 9657) (lab .run)).ash.badCounts = 1 := by decide +kernel

/-- ROUTE_SET for a route whose point already stands right locks it at once, and a moving point waits (R68, R70). -/
theorem test_routeSet :
    ((after (.routeSet (ask 0 0)) (bench .run)).rdyn 0).state = .locked ∧
    ((after (.routeSet (ask 0 0)) (withEng { elems := elemsAt 1 { image := 1 }, routes := [{}] })).rdyn 0).state = .setting := by
  decide +kernel

/-- A lost point end refuses with POINT_LOST and its element (R69, R151). -/
theorem test_routeSet_lost : (after (.routeSet (ask 0 0))
    (withEng { elems := elemsAt 1 { lost := true, image := 3 }, routes := [{}] })).bench.completions
    = [done (ask 0 0) 0x0101 .refused 0x0124 1] := by decide +kernel

/-- SIGNAL_STOP demands STOP and waits for the report (R85). -/
theorem test_signalStop : ((after (.signalStop (ask 7 0)) (bench .run)).dyn 7).demand = some 0 ∧
    (after (.signalStop (ask 7 0)) (bench .run)).bench.completions = [] := by decide +kernel

/-- In stand-alone operation the bench commands complete DENIED_STATE (R20). -/
theorem test_standalone : ((after (.routeSet (ask 0 0)) { lab .run with mg := {} }).bench.completions).map Response.status
    = [0x11] := by decide +kernel

end Sys2Proof.Tests
end

section
/-! PROOF. What every meaning of the table leaves alone: the queue and the factory data. Each row is carried by the
frames of the operations that it calls (Laws/). -/

namespace Sys2Proof.Machine

open Sys2Proof

/-- Every next state of an outcome has the queue and the factory data of `s` (R2). -/
def KeepsUnitAndQueue (s : State) (o : Host.Outcome State Fault Refusal) : Prop :=
  ∀ t, o = .next t → t.pending = s.pending ∧ t.unit = s.unit

@[simp] theorem keepsUnitAndQueue_next (s t : State) :
    KeepsUnitAndQueue s (.next t) ↔ t.pending = s.pending ∧ t.unit = s.unit := by
  simp [KeepsUnitAndQueue]

@[simp] theorem keepsUnitAndQueue_fault (s : State) (f : Fault) : KeepsUnitAndQueue s (.fault f) := by
  simp [KeepsUnitAndQueue]

@[simp] theorem State.settle_pending (s : State) : s.settle.pending = s.pending := by rw [State.settle_eq]

@[simp] theorem State.settle_unit (s : State) : s.settle.unit = s.unit := by rw [State.settle_eq]

/-! ### Operations that run another one -/

@[simp] theorem State.timed_pending (f : State → State) (h : ∀ s, (f s).pending = s.pending) (s : State) :
    (s.timed f).pending = s.pending := by
  unfold State.timed; split
  · exact h s
  · rfl

@[simp] theorem State.timed_unit (f : State → State) (h : ∀ s, (f s).unit = s.unit) (s : State) :
    (s.timed f).unit = s.unit := by
  unfold State.timed; split
  · exact h s
  · rfl

@[simp] theorem State.forRoute_pending (f : State → Nat → Route → State)
    (h : ∀ s n r, (f s n r).pending = s.pending) (s : State) (n : Nat) : (s.forRoute n f).pending = s.pending := by
  unfold State.forRoute; split
  · exact h s n _
  · rfl

@[simp] theorem State.forRoute_unit (f : State → Nat → Route → State)
    (h : ∀ s n r, (f s n r).unit = s.unit) (s : State) (n : Nat) : (s.forRoute n f).unit = s.unit := by
  unfold State.forRoute; split
  · exact h s n _
  · rfl

/-! ### Rows with a case of their own -/

theorem execLogicSupplyHigh_keepsUnitAndQueue (mv : Nat) (s : State) :
    KeepsUnitAndQueue s (execLogicSupplyHigh mv s) := by
  unfold execLogicSupplyHigh; split
  · exact keepsUnitAndQueue_fault s _
  · simp [State.causeOff_frame, State.event_frame, State.causeOn_frame, State.enterSafe_frame]

theorem execNodeDropout_keepsUnitAndQueue (node : Nat) (s : State) :
    KeepsUnitAndQueue s (execNodeDropout node s) := by
  simp only [execNodeDropout, State.timed, keepsUnitAndQueue_next, State.settle_pending, State.settle_unit]
  split
  · split
    · split
      · simp only [State.tellFaults_frame, State.foldl_pending, State.foldl_unit, State.watchFreeze_frame,
          State.freezeElement_frame, implies_true]
        constructor
        · rw [State.foldl_pending]
          · simp [State.judgeNode_frame]
          · intro s i; split <;> simp [State.markElement_frame]
        · rw [State.foldl_unit]
          · simp [State.judgeNode_frame]
          · intro s i; split <;> simp [State.markElement_frame]
      · simp
    · simp
  · simp

theorem execAshlarArmWindowExpiry_keepsUnitAndQueue (s : State) :
    KeepsUnitAndQueue s (execAshlarArmWindowExpiry s) := by
  unfold execAshlarArmWindowExpiry; split <;> simp [State.ashReady_frame]

theorem execRecordWrite_keepsUnitAndQueue (bad : Option Nat) (s : State) :
    KeepsUnitAndQueue s (execRecordWrite bad s) := by
  cases bad <;> simp [execRecordWrite, State.writeNext_frame, State.withdrawBlock_frame]

theorem execMaintAddressApply_keepsUnitAndQueue (s : State) :
    KeepsUnitAndQueue s (execMaintAddressApply s) := by
  unfold execMaintAddressApply; split <;> simp

/-! ### Every row of the table -/

theorem exec_keepsUnitAndQueue (i : Instr) (s : State) : KeepsUnitAndQueue s (exec i s) := by
  cases i with
  | powerOnReset p => simp [exec, execPowerOnReset, State.powerOn_frame]
  | ledTestEnd => simp [exec, execLedTestEnd, State.event_frame]
  | startUpTestDone r => simp [exec, execStartUpTestDone, State.startDoneWith_frame]
  | fieldConfigTimeout =>
    simp [exec, execFieldConfigTimeout, State.event_frame, State.startFailed_frame, State.enterSafe_frame]
  | logicSupplyLow mv => simp [exec, execLogicSupplyLow, State.causeOff_frame, State.supplyLow_frame]
  | logicSupplyHigh mv => exact execLogicSupplyHigh_keepsUnitAndQueue mv s
  | internalRailFault =>
    simp [exec, execInternalRailFault, State.event_frame, State.causeOn_frame, State.enterSafe_frame]
  | logicSupplyRemoved => simp [exec, execLogicSupplyRemoved, State.supplyGone_frame]
  | boardTemperature tenths => simp [exec, execBoardTemperature, State.temperature_frame]
  | backupCellFitted mv => simp [exec, execBackupCellFitted]
  | backupCellRemoved => simp [exec, execBackupCellRemoved]
  | rtComparatorSample c => simp [exec, execRtComparatorSample]
  | cellMeasurement mv => simp [exec, execCellMeasurement, State.cellMeasured_frame]
  | opTimeSave => simp [exec, execOpTimeSave]
  | phaseI samples => simp [exec, execPhaseI, State.phaseI_frame]
  | phaseE cycles => simp [exec, execPhaseE, State.phaseE_frame]
  | phaseO samples => simp [exec, execPhaseO, State.phaseO_frame]
  | phaseH h => simp [exec, execPhaseH, State.phaseH_frame]
  | nodeTimeoutRecompute => simp [exec, execNodeTimeoutRecompute, State.recomputeAll_frame]
  | benchOverrun phase cycles engine => simp [exec, execBenchOverrun, State.overrun_frame]
  | requestQueueService => simp [exec, execRequestQueueService, State.serveQueue_frame]
  | nodeDropout node => exact execNodeDropout_keepsUnitAndQueue node s
  | throwTimeout element =>
    simp [exec, execThrowTimeout, State.txnSteps_frame, State.pointStep_frame, State.tellFaults_frame]
  | proofTimeout route => simp [exec, execProofTimeout, State.proofExpiry_frame]
  | signalConfirmTimeout element =>
    simp [exec, execSignalConfirmTimeout, State.signalStep_frame, State.tellFaults_frame]
  | transactionTimeout element => simp [exec, execTransactionTimeout, State.txnSteps_frame, State.tellFaults_frame]
  | pendingExpired arrival => simp [exec, execPendingExpired, State.evalPend_frame]
  | auxPrepareExpiry kind target => simp [exec, execAuxPrepareExpiry, State.expirePrepare_frame]
  | approachReleaseExpiry route => simp [exec, execApproachReleaseExpiry, State.approachRelease_frame]
  | overlapReleaseExpiry route => simp [exec, execOverlapReleaseExpiry, State.overlapRelease_frame]
  | emergencyReleaseExpiry route => simp [exec, execEmergencyReleaseExpiry, State.emergencyRelease_frame]
  | restartHoldEnd => simp [exec, execRestartHoldEnd, State.holdExpiry_frame]
  | clearDelayExpiry element => simp [exec, execClearDelayExpiry, State.sectionStep_frame]
  | berthConfirmation element => simp [exec, execBerthConfirmation, State.berthStep_frame]
  | moveLimitExpiry element => simp [exec, execMoveLimitExpiry, State.checkMoving_frame, State.tellFaults_frame]
  | obstruction60s element => simp [exec, execObstruction60s, State.checkObstructed_frame]
  | dwellWarning => simp [exec, execDwellWarning, State.dwellWarn_frame]
  | dwellExpiry => simp [exec, execDwellExpiry, State.dwellExpire_frame]
  | forceReminder => simp [exec, execForceReminder, State.event_frame]
  | coreAccuse slot item bus => simp [exec, execCoreAccuse, State.accuse_frame]
  | noMajority bus => simp [exec, execNoMajority, State.busPoint_frame, State.disagreement_frame]
  | mismatch bus => simp [exec, execMismatch, State.busPoint_frame, State.disagreement_frame]
  | comparatorsDiffer x y => simp [exec, execComparatorsDiffer, State.comparatorsDiffer_frame]
  | targetedSelfTestDone block => simp [exec, execTargetedSelfTestDone, State.selfTested_frame]
  | syncWindowDone streamsDiffer => simp [exec, execSyncWindowDone, State.syncDone_frame]
  | safeSelfTestDone failed => simp [exec, execSafeSelfTestDone, State.safeTested_frame]
  | coreSSignature seen => simp [exec, execCoreSSignature, State.voteEvent_frame, State.markUnhealthy_frame]
  | sramCorrectableError address syndrome => simp [exec, execSramCorrectableError, State.voteEvent_frame]
  | sramUncorrectableError address syndrome =>
    simp [exec, execSramUncorrectableError, State.voteEvent_frame, State.enterSafe_frame]
  | debugAttach kind core => simp [exec, execDebugAttach, State.attach_frame]
  | debugDetach => simp [exec, execDebugDetach, State.endDebug_frame]
  | sealChange pattern => simp [exec, execSealChange, State.sealAccepted_frame]
  | ashlarReset => simp [exec, execAshlarReset, State.resetAshlar_frame]
  | ashlarSupplyFault => simp [exec, execAshlarSupplyFault, State.resetAshlar_frame]
  | ashlarTableLoadDone seen back => simp [exec, execAshlarTableLoadDone, State.tableLoaded_frame]
  | cycleCode seen => simp [exec, execCycleCode, State.takeCode_frame]
  | ashlarLate => simp [exec, execAshlarLate, State.ashTrip_frame]
  | ashlarArmWindowExpiry => exact execAshlarArmWindowExpiry_keepsUnitAndQueue s
  | ashlarTableCheck seen => simp [exec, execAshlarTableCheck, State.ashTrip_frame]
  | ashlarClockCount cluster count => simp [exec, execAshlarClockCount, State.clusterCount_frame, State.ashCount_frame]
  | ashlarHoldChange lines => simp [exec, execAshlarHoldChange, State.holdLines_frame]
  | ashlarInputFrame intact => simp [exec, execAshlarInputFrame, State.ashInputs_frame]
  | ashlarInputStale => simp [exec, execAshlarInputStale, State.ashStale_frame]
  | ashlarPermitFrame intact => simp [exec, execAshlarPermitFrame, State.ashFrame_frame]
  | ashlarFrameLoss => simp [exec, execAshlarFrameLoss, State.fieldPermits_frame]
  | markRequest can group linkKey alive => simp [exec, execMarkRequest]
  | coreToFieldFrame intact drops => simp [exec, execCoreToFieldFrame, State.coreFrame_frame]
  | fieldToCoreFrame intact => simp [exec, execFieldToCoreFrame, State.fieldFrame_frame]
  | isolationLinkLoss direction => simp [exec, execIsolationLinkLoss, State.linkLoss_frame]
  | fieldSideReset => simp [exec, execFieldSideReset, State.resetField_frame, State.fence_frame]
  | debounceExpiry channel level since => simp [exec, execDebounceExpiry, State.inputChange_frame]
  | testPulseStart source => simp [exec, execTestPulseStart, State.pulseStart_frame]
  | testPulseCheck c => simp [exec, execTestPulseCheck, State.pulseCheck_frame]
  | sourceOverload source => simp [exec, execSourceOverload, State.sourceFails_frame]
  | outputSwitchTest t => simp [exec, execOutputSwitchTest, State.switchTest_frame]
  | externalFeed m => simp [exec, execExternalFeed, State.measureOff_frame]
  | outputOverload channel wholeGroup milliAmp =>
    simp [exec, execOutputOverload, State.overload_frame, State.modGroup_frame, State.report_frame,
      State.modOutput_frame]
  | groupSupplyState group inputSide mv => simp [exec, execGroupSupplyState, State.measureGroup_frame]
  | groupSwitchFault group readBack => simp [exec, execGroupSwitchFault, State.modGroup_frame, State.report_frame]
  | canFrameReceived port f =>
    simp [exec, execCanFrameReceived, State.goodFrame_frame, State.busTaken_frame, State.modPort_frame,
      State.queueFrame_frame, State.receiveFrame_frame]
  | rateDetectTimeout port => simp [exec, execRateDetectTimeout, State.nextNominal_frame]
  | canCommitReorder port headBegun => simp [exec, execCanCommitReorder, State.modPort_frame]
  | canTxDone port => simp [exec, execCanTxDone, State.txDone_frame]
  | canTxCancelled port => simp [exec, execCanTxCancelled, State.modPort_frame]
  | canBusError port e =>
    simp [exec, execCanBusError, State.busTaken_frame, State.detectError_frame, State.busError_frame]
  | idClashBlockExpiry port ident => simp [exec, execIdClashBlockExpiry, State.modPort_frame]
  | busOffRecovery port => simp [exec, execBusOffRecovery, State.modPort_frame, State.event_frame]
  | datagramReceived d => simp [exec, execDatagramReceived, State.datagram_frame]
  | telegramCheck faultX faultY => simp [exec, execTelegramCheck, State.checkNext_frame]
  | lanDown lan => simp [exec, execLanDown, State.event_frame]
  | prpSupervisionSend => simp [exec, execPrpSupervisionSend]
  | arpRequest maintenance lan target sender mac =>
    simp [exec, execArpRequest, State.lanHeard_frame, State.arpLearn_frame]
  | icmpEcho target data => simp [exec, execIcmpEcho]
  | x8RequestDatagram d => simp [exec, execX8RequestDatagram, State.x8Request_frame]
  | doorbell value block => simp [exec, execDoorbell, State.writeSlot_frame, State.ring_frame]
  | hiDoneClear high value => simp [exec, execHiDoneClear, State.clearDone_frame]
  | hiIrqStatClear value => simp [exec, execHiIrqStatClear, State.clearIrq_frame]
  | hiIrqMaskWrite value => simp [exec, execHiIrqMaskWrite, State.writeMask_frame]
  | hiNoteTailWrite value => simp [exec, execHiNoteTailWrite, State.writeTail_frame]
  | m2Write value => simp [exec, execM2Write, State.writeM2_frame]
  | linkEventClear mg cl => simp [exec, execLinkEventClear, State.clearLinkEvents_frame]
  | hiXingRead => simp [exec, execHiXingRead]
  | registerWrite offset bits value => simp [exec, execRegisterWrite, State.writeRegister_frame]
  | hostLinkReset => simp [exec, execHostLinkReset, State.hostReset_frame]
  | mgHeartbeatLoss => simp [exec, execMgHeartbeatLoss, State.mgLost_frame]
  | mgRestart => simp [exec, execMgRestart, State.mgRestart_frame]
  | crossingLinkUp x => simp [exec, execCrossingLinkUp, State.linkUp_frame]
  | heldCompletionDelivery => simp [exec, execHeldCompletionDelivery, State.writeResponse_frame]
  | notificationFlush => simp [exec, execNotificationFlush, State.flushHeld_frame]
  | recordWrite bad => exact execRecordWrite_keepsUnitAndQueue bad s
  | tokenRefill code => simp [exec, execTokenRefill, State.refill_frame]
  | suppressionSummaryTimer code => simp [exec, execSuppressionSummaryTimer, State.summarise_frame]
  | eventFreezeExpiry => simp [exec, execEventFreezeExpiry, State.thaw_frame]
  | sessionExpiry session => simp [exec, execSessionExpiry]
  | roleLockExpiry role => simp [exec, execRoleLockExpiry]
  | maintAddressApply => exact execMaintAddressApply_keepsUnitAndQueue s
  | activationValidationDone => simp [exec, execActivationValidationDone, State.validationDone_frame]
  | firmwareActivationReset p => simp [exec, execFirmwareActivationReset, State.thaw_frame, State.powerOn_frame]
  | bistBlockDone b => simp [exec, execBistBlockDone, State.blockDone_frame]
  | bistBlockTimeout block ashlarCount => simp [exec, execBistBlockTimeout, State.blockTimeout_frame]
  | shutdownTestDone => simp [exec, execShutdownTestDone, State.shutdownDone_frame]
  | identify r => simp [exec, execIdentify, State.decideIdentify_frame]
  | capabilities r => simp [exec, execCapabilities, State.decideCapabilities_frame]
  | getStatus r => simp [exec, execGetStatus, State.decideGetStatus_frame]
  | setTime r => simp [exec, execSetTime, State.decideSetTime_frame]
  | getTime r => simp [exec, execGetTime, State.decideGetTime_frame]
  | shutdown r => simp [exec, execShutdown, State.decideShutdown_frame]
  | routeSet r => simp [exec, execRouteSet, State.decideRouteSet_frame]
  | routeCancel r => simp [exec, execRouteCancel, State.decideRouteCancel_frame]
  | pointMove r => simp [exec, execPointMove, State.decidePointMove_frame]
  | signalStop r => simp [exec, execSignalStop, State.decideSignalStop_frame]
  | routeState r => simp [exec, execRouteState, State.decideRouteState_frame]
  | elementState r => simp [exec, execElementState, State.decideElementState_frame]
  | auxPrepare r => simp [exec, execAuxPrepare, State.decideAuxPrepare_frame]
  | auxConfirm r => simp [exec, execAuxConfirm, State.decideAuxConfirm_frame]
  | doorOpen r => simp [exec, execDoorOpen, State.decideDoorOpen_frame]
  | doorClose r => simp [exec, execDoorClose, State.decideDoorClose_frame]
  | doorHealth r => simp [exec, execDoorHealth, State.decideDoorHealth_frame]
  | benchStart r => simp [exec, execBenchStart, State.decideBenchStart_frame]
  | benchStop r => simp [exec, execBenchStop, State.decideBenchStop_frame]
  | benchRestart r => simp [exec, execBenchRestart, State.decideBenchRestart_frame]
  | forceSet r => simp [exec, execForceSet, State.decideForceSet_frame]
  | forceClear r => simp [exec, execForceClear, State.decideForceClear_frame]
  | forceList r => simp [exec, execForceList, State.decideForceList_frame]
  | constantSet r => simp [exec, execConstantSet, State.decideConstantSet_frame]
  | constantGet r => simp [exec, execConstantGet, State.decideConstantGet_frame]
  | eventInfo r => simp [exec, execEventInfo, State.decideEventInfo_frame]
  | eventRead r => simp [exec, execEventRead, State.decideEventRead_frame]
  | eventFreeze r => simp [exec, execEventFreeze, State.decideEventFreeze_frame]
  | eventThaw r => simp [exec, execEventThaw, State.decideEventThaw_frame]
  | eventSetRate r => simp [exec, execEventSetRate, State.decideEventSetRate_frame]
  | updateBegin r => simp [exec, execUpdateBegin, State.decideUpdateBegin_frame]
  | updateData r => simp [exec, execUpdateData, State.decideUpdateData_frame]
  | updateVerify r => simp [exec, execUpdateVerify, State.decideUpdateVerify_frame]
  | updateActivate r => simp [exec, execUpdateActivate, State.decideUpdateActivate_frame]
  | updateConfirm r => simp [exec, execUpdateConfirm, State.decideUpdateConfirm_frame]
  | updateStatus r => simp [exec, execUpdateStatus, State.decideUpdateStatus_frame]
  | updateAbort r => simp [exec, execUpdateAbort, State.decideUpdateAbort_frame]
  | roleLogin r => simp [exec, execRoleLogin, State.decideRoleLogin_frame]
  | roleLogout r => simp [exec, execRoleLogout, State.decideRoleLogout_frame]
  | passwordSet r => simp [exec, execPasswordSet, State.decidePasswordSet_frame]
  | keyInstall r => simp [exec, execKeyInstall, State.decideKeyInstall_frame]
  | lifecycleAdvance r => simp [exec, execLifecycleAdvance, State.decideLifecycleAdvance_frame]
  | lockoutRelease r => simp [exec, execLockoutRelease, State.decideLockoutRelease_frame]
  | changeLogRead r => simp [exec, execChangeLogRead, State.decideChangeLogRead_frame]
  | maintAddress r => simp [exec, execMaintAddress, State.decideMaintAddress_frame]
  | diagVote r => simp [exec, execDiagVote, State.decideDiagVote_frame]
  | diagAshlar r => simp [exec, execDiagAshlar, State.decideDiagAshlar_frame]
  | diagSafeRecord r => simp [exec, execDiagSafeRecord, State.decideDiagSafeRecord_frame]
  | diagInputs r => simp [exec, execDiagInputs, State.decideDiagInputs_frame]
  | diagOutputs r => simp [exec, execDiagOutputs, State.decideDiagOutputs_frame]
  | diagGroups r => simp [exec, execDiagGroups, State.decideDiagGroups_frame]
  | diagCanPort r => simp [exec, execDiagCanPort, State.decideDiagCanPort_frame]
  | diagPortCounters r => simp [exec, execDiagPortCounters, State.decideDiagPortCounters_frame]
  | diagNode r => simp [exec, execDiagNode, State.decideDiagNode_frame]
  | diagNodeList r => simp [exec, execDiagNodeList, State.decideDiagNodeList_frame]
  | subscribe r => simp [exec, execSubscribe, State.decideSubscribe_frame]
  | subscriptionGet r => simp [exec, execSubscriptionGet, State.decideSubscriptionGet_frame]
  | dwellCountSave => simp [exec, execDwellCountSave]
  | ashlarSupplyReturn => simp [exec, execAshlarSupplyReturn, State.resetAshlar_frame]
  | supervisionFrameReceived lan => simp [exec, execSupervisionFrameReceived, State.lanHeard_frame]
  | msiVectorEnable n => simp [exec, execMsiVectorEnable]

end Sys2Proof.Machine
end

section
/-! PROOF. The statements about every step. -/

namespace Sys2Proof.Proofs

open Sys2Proof Sys2Proof.Machine

/-- Settles O3: an idle step is a tick, and any other takes the front command off and runs a row of the table, which
keeps the rest. -/
theorem stepKeepsUnitAndQueue : Obligations.StepKeepsUnitAndQueue := by
  unfold Obligations.StepKeepsUnitAndQueue
  intro s t h
  cases hq : s.pending with
  | nil =>
    simp only [step, hq] at h
    cases h
    simp [State.tick_frame, hq]
  | cons c rest =>
    simp only [step, hq] at h
    exact exec_keepsUnitAndQueue c _ t h

end Sys2Proof.Proofs
end

section
/-! PROOF. The registers of BAR0 (R306 to R308, R318): which bits a write clears, and which MSIs an unmasking owes. -/

namespace Sys2Proof.Machine

open Sys2Proof Sys2Proof.Safety

/-! ### HI_DONE_CLEAR -/

/-- Whether a write of a word to the low or the high half of HI_DONE has a 1 at a bit. -/
def doneBit (high : Bool) (v : Word) (n : Nat) : Bool :=
  if high then decide (32 ≤ n) && v.getLsbD (n - 32) else v.getLsbD n

theorem getLsbD_doneBit (high : Bool) (v : Word) (n : Nat) (hn : n < 64) :
    (if high then v.setWidth 64 <<< 32 else v.setWidth 64 : BitVec 64).getLsbD n = doneBit high v n := by
  cases high <;> simp [doneBit, hn, ← decide_not]

/-- A write clears the DONE bits written 1 (R307). -/
theorem State.clearDone_done (high : Bool) (v : Word) (s : State) (n : Nat) (hn : n < 64) :
    (s.clearDone high v).hi.done.getLsbD n = (s.hi.done.getLsbD n && !doneBit high v n) := by
  simp only [State.clearDone, BitVec.getLsbD_and, BitVec.getLsbD_not, getLsbD_doneBit high v n hn, hn]
  cases s.hi.done.getLsbD n <;> simp

/-- The BUSY bits that a write clears are those of the tags whose DONE bit it clears (R313). -/
theorem State.clearDone_busy (high : Bool) (v : Word) (s : State) (n : Nat) (hn : n < 64) :
    (s.clearDone high v).hi.busy.getLsbD n =
      (s.hi.busy.getLsbD n && !(s.hi.done.getLsbD n && !(s.clearDone high v).hi.done.getLsbD n)) := by
  rw [State.clearDone_done high v s n hn]
  simp only [State.clearDone, BitVec.getLsbD_and, BitVec.getLsbD_not, getLsbD_doneBit high v n hn, hn]
  cases s.hi.done.getLsbD n <;> simp

theorem exec_hiDoneClear (high : Bool) (v : Word) (s : State) :
    ∃ t, exec (.hiDoneClear high v) s = .next t ∧
      (∀ n, n < 64 → t.hi.done.getLsbD n = (s.hi.done.getLsbD n && !doneBit high v n)) ∧
      (∀ n, n < 64 → t.hi.busy.getLsbD n = (s.hi.busy.getLsbD n && !(s.hi.done.getLsbD n && !t.hi.done.getLsbD n))) ∧
      t = { s with hi := { mirrorOf s t with done := t.hi.done, busy := t.hi.busy } } := by
  refine ⟨(s.clearDone high v).settle, rfl, ?_, ?_, ?_⟩ <;> simp only [State.settle_hi_done, State.settle_hi_busy]
  · exact State.clearDone_done high v s
  · exact State.clearDone_busy high v s
  · exact State.settle_eq _

/-! ### HI_IRQ_STAT -/

theorem exec_hiIrqStatClear (v : Word) (s : State) :
    ∃ t, exec (.hiIrqStatClear v) s = .next t ∧
      (∀ n, n < 4 → t.hi.irqStat.getLsbD n = (s.hi.irqStat.getLsbD n && !v.getLsbD n)) ∧
      t = { s with hi := { mirrorOf s t with
        irqStat := t.hi.irqStat, msiSent := s.hi.msiSent &&& ~~~(v.setWidth 4) } } := by
  refine ⟨(s.clearIrq v).settle, rfl, ?_, ?_⟩ <;> simp only [State.settle_hi_irqStat]
  · intro n hn; simp [State.clearIrq, hn]
  · exact State.settle_eq _

/-! ### HI_IRQ_MASK -/

/-- Whether a mask write that took the mask from `old` to the present one unmasks a vector that owes its MSI (R308). -/
def HostIf.unmaskOwes (h : HostIf) (old : BitVec 4) (n : Nat) : Bool :=
  old.getLsbD n && !h.irqMask.getLsbD n && h.msiOwed n

/-- The state once the vectors of a list have sent their MSIs. -/
def State.sendMsis (s : State) (l : List Nat) : State :=
  { s with
    hi := { s.hi with msiSent := l.foldl (fun w n => w ||| (1#4 <<< n)) s.hi.msiSent }
    outbox := s.outbox ++ l.map (fun n => Output.msi (n % s.hi.vectors)) }

theorem getLsbD_or_one_shiftLeft (w : BitVec 4) {n : Nat} (hn : n < 4) (m : Nat) :
    (w ||| (1#4 <<< m)).getLsbD n = (w.getLsbD n || n == m) := by
  rw [BitVec.getLsbD_or, ← BitVec.twoPow_eq, BitVec.getLsbD_twoPow]
  by_cases h : n = m
  · simp [← h, hn]
  · simp [h, Ne.symm h]

theorem getLsbD_foldl_or_one_shiftLeft (l : List Nat) (w : BitVec 4) {n : Nat} (hn : n < 4) :
    (l.foldl (fun w n => w ||| (1#4 <<< n)) w).getLsbD n = (w.getLsbD n || l.contains n) := by
  induction l generalizing w with
  | nil => simp
  | cons m l ih => rw [List.foldl_cons, ih, getLsbD_or_one_shiftLeft w hn, List.contains_cons, Bool.or_assoc]

/-- The MSI of one vector does not change what another owes. -/
theorem HostIf.unmaskOwes_or_of_ne (h : HostIf) (old : BitVec 4) {n m : Nat} (hm : m ≠ n) :
    ({ h with msiSent := h.msiSent ||| (1#4 <<< n) } : HostIf).unmaskOwes old m = h.unmaskOwes old m := by
  by_cases h4 : m < 4
  · simp [HostIf.unmaskOwes, HostIf.msiOwed, getLsbD_or_one_shiftLeft _ h4, beq_false_of_ne hm]
  · simp [HostIf.unmaskOwes, BitVec.getLsbD_of_ge old m (by omega)]

/-- The vectors of a list are gone through one by one, yet each sends its MSI as it stood before the first. -/
theorem State.unmask_foldl (old : BitVec 4) (l : List Nat) (hl : l.Nodup) (s : State) :
    l.foldl (fun s n => if s.hi.unmaskOwes old n then s.sendMsis [n] else s) s =
      s.sendMsis (l.filter (s.hi.unmaskOwes old)) := by
  induction l generalizing s with
  | nil => simp [State.sendMsis]
  | cons n l ih =>
    obtain ⟨hn, hl⟩ := List.nodup_cons.1 hl
    rw [List.foldl_cons, List.filter_cons, ih hl]
    split
    · have rest : l.filter ((s.sendMsis [n]).hi.unmaskOwes old) = l.filter (s.hi.unmaskOwes old) :=
        List.filter_congr fun m hm => s.hi.unmaskOwes_or_of_ne old (fun h => hn (h ▸ hm))
      rw [rest]
      simp [State.sendMsis]
    · rfl

/-- The vectors whose MSIs a mask write sends. -/
def HostIf.unmasked (h : HostIf) (v : Word) : List Nat :=
  (List.range 4).filter (fun n => h.irqMask.getLsbD n && !v.getLsbD n && h.msiOwed n)

theorem HostIf.contains_unmasked (h : HostIf) (v : Word) {n : Nat} (hn : n < 4) :
    (h.unmasked v).contains n = (h.irqMask.getLsbD n && !v.getLsbD n && h.msiOwed n) := by
  rw [Bool.eq_iff_iff]
  simp [HostIf.unmasked, hn]

/-- A mask write sends the MSIs of the vectors that it unmasks (R308). -/
theorem State.writeMask_eq (v : Word) (s : State) :
    s.writeMask v = ({ s with hi := { s.hi with irqMask := v.setWidth 4 } }).sendMsis (s.hi.unmasked v) := by
  calc s.writeMask v
    _ = (List.range 4).foldl (fun t n => if t.hi.unmaskOwes s.hi.irqMask n then t.sendMsis [n] else t)
          { s with hi := { s.hi with irqMask := v.setWidth 4 } } := rfl
    _ = _ := by
      rw [State.unmask_foldl _ _ List.nodup_range]
      congr 1
      refine List.filter_congr fun n hn => ?_
      simp [HostIf.unmaskOwes, HostIf.msiOwed, List.mem_range.1 hn]

theorem exec_hiIrqMaskWrite (v : Word) (s : State) :
    ∃ t l, exec (.hiIrqMaskWrite v) s = .next t ∧ t.hi.irqMask = v.setWidth 4 ∧
      t.outbox = s.outbox ++ l ∧ l = (s.hi.unmasked v).map (fun n => Output.msi (n % s.hi.vectors)) ∧
      (∀ n, n < 4 → t.hi.msiSent.getLsbD n =
        (s.hi.msiSent.getLsbD n || (s.hi.irqMask.getLsbD n && !v.getLsbD n && s.hi.msiOwed n))) ∧
      t = { s with
        hi := { mirrorOf s t with irqMask := t.hi.irqMask, msiSent := t.hi.msiSent }, outbox := t.outbox } := by
  refine ⟨(s.writeMask v).settle, _, rfl, ?_, ?_, rfl, ?_, ?_⟩ <;>
    simp only [State.settle_hi_irqMask, State.settle_hi_msiSent, State.settle_frame, State.writeMask_eq]
  · rfl
  · rfl
  · intro n hn
    rw [← HostIf.contains_unmasked s.hi v hn]
    exact getLsbD_foldl_or_one_shiftLeft _ _ hn
  · exact State.settle_eq _

/-! ### The other registers -/

/-- TAIL takes a value that is not past HEAD, and no other (R318). -/
theorem State.writeTail_eq (v : Word) (s : State) :
    s.writeTail v = { s with hi := { s.hi with
      tail := if ((v.setWidth 8 : Byte) - s.hi.tail).toNat ≤ (s.hi.head - s.hi.tail).toNat then v.setWidth 8
        else s.hi.tail } } := by
  simp only [State.writeTail]
  split <;> rfl

theorem exec_hiNoteTailWrite (v : Word) (s : State) :
    ∃ t, exec (.hiNoteTailWrite v) s = .next t ∧
      t.hi.tail = (if ((v.setWidth 8 : Byte) - s.hi.tail).toNat ≤ (s.hi.head - s.hi.tail).toNat then v.setWidth 8
        else s.hi.tail) ∧
      t = { s with hi := { mirrorOf s t with tail := t.hi.tail } } := by
  refine ⟨(s.writeTail v).settle, rfl, ?_, ?_⟩ <;> simp only [State.settle_hi_tail, State.writeTail_eq]
  exact State.settle_eq _

theorem exec_m2Write (b : Bool) (s : State) :
    ∃ t, exec (.m2Write b) s = .next t ∧ (b = true → t.hi.unstable = false) ∧
      t = { s with hi := { mirrorOf s t with m2 := b } } := by
  refine ⟨(s.writeM2 b).settle, rfl, ?_, State.settle_eq _⟩
  intro hb
  by_contra hu
  simpa [State.writeM2, hb] using State.settle_hi_unstable _ (Bool.eq_true_of_not_eq_false hu)

theorem exec_linkEventClear (mg cl : Bool) (s : State) :
    ∃ t, exec (.linkEventClear mg cl) s = .next t ∧
      t = { s with hi := { mirrorOf s t with eventMg := s.hi.eventMg && !mg, eventCl := s.hi.eventCl && !cl } } :=
  ⟨(s.clearLinkEvents mg cl).settle, rfl, State.settle_eq _⟩

/-- The read answers HI_XING as it was before it clears the count (R224). -/
theorem exec_hiXingRead (s : State) :
    ∃ t, exec .hiXingRead s = .next t ∧
      t = { s with hi := { mirrorOf s t with readData := s.hi.xingWord, unstableCount := 0 } } :=
  ⟨_, rfl, State.settle_eq _⟩

theorem exec_msiVectorEnable {n : Nat} (hn : n = 1 ∨ n = 2 ∨ n = 4) (s : State) :
    ∃ t, exec (.msiVectorEnable n) s = .next t ∧ t = { s with hi := { mirrorOf s t with vectors := n } } := by
  refine ⟨_, rfl, ?_⟩
  rw [if_pos hn]
  exact State.settle_eq _

theorem exec_registerWrite_scratch (v : Word) {s : State} (hp : s.power.state.powered = true) :
    ∃ t, exec (.registerWrite 0x010 32 v) s = .next t ∧ t = { s with hi := { mirrorOf s t with scratch := v } } := by
  refine ⟨_, rfl, ?_⟩
  rw [if_pos (by simp [hp])]
  exact State.settle_eq _

/-- A write narrower than the register has no effect (R10, R307). -/
theorem exec_registerWrite_narrow (offset : Nat) (v : Word) (s : State) {n : Nat} (hn : n < 32) :
    ∃ t, exec (.registerWrite offset n v) s = .next t ∧ t = { s with hi := mirrorOf s t } := by
  refine ⟨_, rfl, ?_⟩
  rw [if_neg (by simp; omega)]
  exact State.settle_eq _

end Sys2Proof.Machine
end

section
/-! PROOF. The statement about the registers of BAR0. -/

namespace Sys2Proof.Proofs

open Sys2Proof Sys2Proof.Machine

/-- Settles O49, register by register. -/
theorem hostRegisters : Obligations.HostRegisters := by
  unfold Obligations.HostRegisters
  refine ⟨exec_hiDoneClear, fun v s => ⟨exec_hiIrqStatClear v s, exec_hiIrqMaskWrite v s, exec_hiNoteTailWrite v s⟩,
    fun b mg cl s => ⟨exec_m2Write b s, exec_linkEventClear mg cl s, exec_hiXingRead s⟩,
    fun n s hn => exec_msiVectorEnable hn s,
    fun v s hp => ⟨exec_registerWrite_scratch v hp, fun n hn => exec_registerWrite_narrow _ v s hn⟩⟩

end Sys2Proof.Proofs
end

section
/-! PROOF. What the operations of the field side and the field link do to the demands handed over (R126): none of them
writes the demand word. -/

namespace Sys2Proof.Machine

open Sys2Proof

/-- A list run over by an operation that keeps the demand word. -/
theorem State.foldl_demands {α : Type} (f : State → α → State)
    (h : ∀ s a, (f s a).field.demands = s.field.demands) (l : List α) (s : State) :
    (l.foldl f s).field.demands = s.field.demands := by
  induction l generalizing s with
  | nil => rfl
  | cons a l ih => rw [List.foldl_cons, ih, h]

@[simp] theorem State.modInput_demands (s : State) (n : Nat) (f : FieldInput → FieldInput) :
    (s.modInput n f).field.demands = s.field.demands := rfl

@[simp] theorem State.modSource_demands (s : State) (k : Nat) (f : FieldSource → FieldSource) :
    (s.modSource k f).field.demands = s.field.demands := rfl

@[simp] theorem State.modOutput_demands (s : State) (n : Nat) (f : FieldOutput → FieldOutput) :
    (s.modOutput n f).field.demands = s.field.demands := rfl

@[simp] theorem State.modGroup_demands (s : State) (g : Nat) (f : FieldGroup → FieldGroup) :
    (s.modGroup g f).field.demands = s.field.demands := rfl

@[simp] theorem State.report_demands (s : State) (code p0 p1 p2 : Nat) :
    (s.report code p0 p1 p2).field.demands = s.field.demands := rfl

@[simp] theorem State.inputFails_demands (s : State) (n fault source : Nat) :
    (s.inputFails n fault source).field.demands = s.field.demands := rfl

@[simp] theorem State.takeReport_demands (s : State) : s.takeReport.field.demands = s.field.demands := by
  unfold State.takeReport
  split <;> rfl

@[simp] theorem State.takeEdges_demands (s : State) : s.takeEdges.field.demands = s.field.demands := rfl

@[simp] theorem State.inputChange_demands (s : State) (n : Nat) (level : Bool) (since : Nat) :
    (s.inputChange n level since).field.demands = s.field.demands := by
  simp only [State.inputChange]
  (repeat' split) <;> rfl

@[simp] theorem State.sourceFails_demands (s : State) (k cause : Nat) :
    (s.sourceFails k cause).field.demands = s.field.demands := by
  refine State.foldl_demands _ (fun s n => ?_) _ _
  split <;> simp

@[simp] theorem State.judgeInput_demands (s : State) (c : PulseCheck) (n : Nat) :
    (s.judgeInput c n).field.demands = s.field.demands := by
  simp only [State.judgeInput]
  (repeat' split) <;> simp

@[simp] theorem State.pulseCheck_demands (s : State) (c : PulseCheck) :
    (s.pulseCheck c).field.demands = s.field.demands := by
  simp only [State.pulseCheck]
  split
  · rfl
  · split
    · rfl
    · rw [State.foldl_demands _ (State.judgeInput_demands · c)]
      (repeat' split) <;> simp

@[simp] theorem State.pulseStart_demands (s : State) (k : Nat) : (s.pulseStart k).field.demands = s.field.demands := rfl

@[simp] theorem State.externalFault_demands (s : State) (n cause : Nat) (up um : Int) (ma : Nat) :
    (s.externalFault n cause up um ma).field.demands = s.field.demands := by
  simp only [State.externalFault]
  split <;> simp

@[simp] theorem State.crossFeed_demands (s : State) (m : Nat) (p : Nat × Nat) :
    (s.crossFeed m p).field.demands = s.field.demands := by
  simp only [State.crossFeed]
  split <;> simp

@[simp] theorem State.switchTest_demands (s : State) (t : SwitchTest) :
    (s.switchTest t).field.demands = s.field.demands := by
  simp only [State.switchTest]
  (repeat' split) <;> simp [State.foldl_demands _ (State.crossFeed_demands · t.channel)]

@[simp] theorem State.measureOff_demands (s : State) (m : FeedMeasure) :
    (s.measureOff m).field.demands = s.field.demands := by
  simp only [State.measureOff]
  (repeat' split) <;> simp

@[simp] theorem State.overload_demands (s : State) (n : Nat) : (s.overload n).field.demands = s.field.demands := rfl

@[simp] theorem State.takeDemands_demands (s : State) (w : Word) :
    (s.takeDemands w).field.demands = s.field.demands := rfl

@[simp] theorem State.demandDrops_demands (s : State) (was : List FieldOutput) (drops : List (Nat × Nat × Nat)) :
    (s.demandDrops was drops).field.demands = s.field.demands := by
  refine State.foldl_demands _ (fun s d => ?_) _ _
  split <;> simp

@[simp] theorem State.measureGroup_demands (s : State) (g : Nat) (inputSide : Bool) (mv : Nat) :
    (s.measureGroup g inputSide mv).field.demands = s.field.demands := by
  simp only [State.measureGroup]
  (repeat' split) <;> simp

@[simp] theorem State.fieldPermits_demands (s : State) (permit : Word) (sw : BitVec 4) :
    (s.fieldPermits permit sw).field.demands = s.field.demands := rfl

@[simp] theorem State.ashFrame_demands (s : State) (intact : Bool) :
    (s.ashFrame intact).field.demands = s.field.demands := by
  unfold State.ashFrame
  split <;> rfl

@[simp] theorem State.resetField_demands (s : State) : s.resetField.field.demands = s.field.demands := rfl

theorem Field.takeSegment_demands (f : Field) (k : Nat) (bytes : List Byte) (quiet : Bool) :
    (f.takeSegment k bytes quiet).demands = f.demands := by
  simp only [Field.takeSegment]
  (repeat' split) <;> rfl

@[simp] theorem State.coreFrame_demands (s : State) (intact : Bool) (drops : List (Nat × Nat × Nat)) :
    (s.coreFrame intact drops).field.demands = s.field.demands := by
  simp only [State.coreFrame]
  split
  · simp only [State.linkBack_frame, State.demandDrops_demands, State.takeDemands_demands]
    split
    · simp [Field.takeSegment_demands]
    · rfl
  · simp [State.event_frame]

/-! ### Other islands -/

@[simp] theorem State.countsUp_demands (s : State) (x : Crossing) : (s.countsUp x).field.demands = s.field.demands := by
  cases x <;> rfl

@[simp] theorem State.linkUp_demands (s : State) (x : Crossing) : (s.linkUp x).field.demands = s.field.demands := by
  simp only [State.linkUp]
  (repeat' split) <;> simp [State.linkFlags_frame, State.event_frame, State.setXing_frame]

@[simp] theorem State.startSources_demands (s : State) (bad : List Nat) :
    (s.startSources bad).field.demands = s.field.demands := by
  refine State.foldl_demands _ (fun s k => ?_) _ _
  (repeat' split) <;> simp

@[simp] theorem State.install_demands (s : State) (st : Station) : (s.install st).field.demands = s.field.demands := by
  simp [State.install, State.configurePorts_frame]

@[simp] theorem State.missFrame_demands (s : State) : s.missFrame.field.demands = s.field.demands := by
  unfold State.missFrame
  split <;> rfl

theorem State.eachElement_field (f : State → Nat → Element → State) (h : ∀ s i e, (f s i e).field = s.field)
    (s : State) : (s.eachElement f).field = s.field :=
  State.foldl_field (fun s (p : Element × Nat) => f s p.2 p.1) (fun s p => h s p.2 p.1) _ _

@[simp] theorem State.takeInputs_demands (s : State) : s.takeInputs.field.demands = s.field.demands := by
  simp only [State.takeInputs, State.freezeRequests_frame,
    State.foldl_field State.takeNode (fun s n => by simp [State.takeNode_frame])]
  rw [State.eachElement_field]
  · simp [State.foldl_field State.carry, State.carry_frame, State.dropDescriptors_frame]
  · intro s i e
    split <;> simp [State.localValue_frame]

@[simp] theorem State.phaseI_demands (s : State) (samples : List (Crossing × List Word)) :
    (s.phaseI samples).field.demands = s.field.demands := by
  simp [State.phaseI, State.dwellSync_frame, State.takeThrowTimeout_frame, State.learnLeaf_frame,
    State.joinCore_frame, State.buildImage_frame, State.openCycle_frame, State.sampleInputs_frame]

end Sys2Proof.Machine
end

section
/-! PROOF. What keeps Ashlar's permits withheld while it does not grant (R195, R197, R200) and local outputs off outside
RUN (R15, R206): the relation, and how it passes through the operations that leave RUN. -/

namespace Sys2Proof.Machine

open Sys2Proof Sys2Proof.Safety

/-- A change of state that demands no local output outside RUN and makes Ashlar permit nothing without a grant, where
neither was so before. -/
structure Stands (s t : State) : Prop where
  off : OutputsOff s → OutputsOff t
  permits : PermitsOk s.ash → PermitsOk t.ash

/-- The power state, the demand word and what Ashlar grants and permits as they were. -/
def SameVital (s t : State) : Prop :=
  t.power.state = s.power.state ∧ t.field.demands = s.field.demands ∧ t.ash.state = s.ash.state ∧
  t.ash.hold = s.ash.hold ∧ t.ash.permit = s.ash.permit ∧ t.ash.groupSw = s.ash.groupSw

/-- Nothing is demanded: outputs off in whatever power state. -/
theorem outputsOff_of_demands {s : State} (h : s.field.demands = 0) : OutputsOff s := fun _ => h

theorem outputsOff_of_run {s : State} (h : s.power.state = .run) : OutputsOff s := fun k => absurd h k

@[simp] theorem State.settle_power (s : State) : s.settle.power = s.power := by rw [State.settle_eq]

@[simp] theorem State.settle_field (s : State) : s.settle.field = s.field := by rw [State.settle_eq]

@[simp] theorem State.settle_ash (s : State) : s.settle.ash = s.ash := by rw [State.settle_eq]

@[simp] theorem State.standDown_demands (s : State) (halt : Bool) : (s.standDown halt).field.demands = 0 := by
  simp [State.standDown, State.dwellPause_frame, State.flushNotes_frame, State.uncycled_frame]

namespace Stands

variable {s t u : State}

theorem refl (s : State) : Stands s s := ⟨id, id⟩

theorem trans (h : Stands s t) (k : Stands t u) : Stands s u := ⟨k.off ∘ h.off, k.permits ∘ h.permits⟩

theorem same (h : Stands s t) (k : SameVital t u) : Stands s u := by
  obtain ⟨hp, hd, hs, hh, hw, hg⟩ := k
  exact ⟨fun o => by simpa only [OutputsOff, hp, hd] using h.off o, fun o => by
    simpa only [PermitsOk, Ashlar.grants, Ashlar.held, hs, hh, hw, hg] using h.permits o⟩

/-- An operation that leaves the power state, the demand word and what Ashlar grants. -/
theorem keeps {f : State → State} (hf : ∀ s, SameVital s (f s)) (h : Stands s t) : Stands s (f t) := h.same (hf t)

theorem ite {c : Prop} [Decidable c] (h : c → Stands s t) (k : ¬c → Stands s u) : Stands s (if c then t else u) := by
  split
  · exact h ‹_›
  · exact k ‹_›

theorem foldl {α : Type} {f : State → α → State} (hf : ∀ t a, Stands s t → Stands s (f t a)) (h : Stands s t)
    (l : List α) : Stands s (l.foldl f t) := by
  induction l generalizing t with
  | nil => exact h
  | cons a l ih => exact ih (hf t a h)

theorem settle (h : Stands s t) : Stands s t.settle := h.same (by simp [SameVital])

theorem timed {f : State → State} (hf : Stands s (f s)) : Stands s (s.timed f) := ite (fun _ => hf) fun _ => refl s

theorem event (h : Stands s t) (code : Nat) (src : Source) (sev : Severity) (a b c : Nat) (x : Bool) :
    Stands s (t.event code src sev a b c x) := h.same (by simp [SameVital, State.event_frame])

theorem causeOn (h : Stands s t) (code : Nat) : Stands s (t.causeOn code) :=
  h.same (by simp [SameVital, State.causeOn_frame, State.causeOn_power_frame])

theorem causeOff (h : Stands s t) (code : Nat) : Stands s (t.causeOff code) :=
  h.same (by simp [SameVital, State.causeOff_frame, State.causeOff_power_frame])

/-! ### Leaving RUN -/

/-- LOCKOUT is entered with no output demanded; where it is not entered nothing changes (R206, R212). -/
theorem enterLockout (h : Stands s t) (cause : Nat) (halt repeated : Bool) :
    Stands s (t.enterLockout cause halt repeated) := by
  refine h.trans ⟨fun o => ?_, fun o => by simpa [State.enterLockout_frame] using o⟩
  simp only [State.enterLockout]
  split
  on_goal 5 => exact o
  all_goals exact outputsOff_of_demands (by simp [State.note_frame, State.event_frame])

/-- SAFE, or LOCKOUT at the third entry, with no output demanded (R206, R211). -/
theorem enterSafeNow (h : Stands s t) (cause : Nat) (halt : Bool) : Stands s (t.enterSafeNow cause halt) := by
  simp only [State.enterSafeNow]
  refine ite (fun _ => (h.same (by simp [SameVital])).enterLockout cause halt true) fun _ => h.trans ?_
  exact ⟨fun _ => outputsOff_of_demands (by simp [State.note_frame, State.event_frame]),
    fun o => by simpa [State.note_frame, State.event_frame, State.standDown_frame] using o⟩

/-- An F3 cause: whatever the power state, no output is demanded outside RUN after it (R206, R212). -/
theorem enterSafe (h : Stands s t) (cause : Nat) (halt : Bool) : Stands s (t.enterSafe cause halt) := by
  unfold State.enterSafe
  split
  next hp =>
    refine ite (fun _ => h.trans ?_) fun _ => h.enterSafeNow cause halt
    exact ⟨fun o => outputsOff_of_demands (o (by simp [hp])), id⟩
  next => exact h.enterSafeNow cause halt
  next => exact h.enterSafeNow cause halt
  next => exact h.same (by simp [SameVital])
  next => exact h

/-- RUN left for STOP with the local demands off (R208). -/
theorem enterStop (h : Stands s t) (keep : Option Req) : Stands s (t.enterStop keep) :=
  h.trans ⟨fun _ => outputsOff_of_demands (by simp [State.enterStop, State.dwellPause_frame, State.flushNotes_frame]),
    fun o => by simpa [State.enterStop_frame] using o⟩

end Stands

end Sys2Proof.Machine
end

section
/-! PROOF. Ashlar: every operation that changes what it grants evaluates its permits again (R195, R197, R200). -/

namespace Sys2Proof.Machine

open Sys2Proof Sys2Proof.Safety

/-- The evaluation withholds every permit and every group switch that Ashlar does not grant (R195, R200). -/
theorem State.ashEval_permitsOk (s : State) : PermitsOk s.ashEval.ash := by
  intro h
  have kept (l : List Nat) (f : State → Nat → State) (hf : ∀ s n, (f s n).ash = s.ash) (s : State) :
      (l.foldl f s).ash = s.ash := State.foldl_ash f hf l s
  have hash : s.ashEval.ash = _ := kept _ _ (fun t n => by split <;> simp [State.event_frame]) _
  rw [hash] at h ⊢
  have hg : s.ash.grants = false := h
  simp [hg]

namespace Stands

variable {s t : State}

/-- A write to Ashlar that leaves its state, its hold lines and its permits. -/
theorem ash (h : Stands s t) {a : Ashlar} (k : SameVital t { t with ash := a } := by simp [SameVital]) :
    Stands s { t with ash := a } := h.same k

/-- Whatever Ashlar has become, an evaluation puts its permits right. -/
theorem evaluated (h : OutputsOff s → OutputsOff t) : Stands s t.ashEval :=
  ⟨fun o => by simpa [OutputsOff, State.ashEval_frame] using h o, fun _ => t.ashEval_permitsOk⟩

theorem ashEval (h : Stands s t) (a : Ashlar) : Stands s ({ t with ash := a }).ashEval := evaluated h.off

theorem holdLines (h : Stands s t) (lines : HoldLines) : Stands s (t.holdLines lines) := by
  unfold State.holdLines
  exact .ite (fun _ => h) fun _ => evaluated h.off

theorem holdDebug (h : Stands s t) (on : Bool) : Stands s (t.holdDebug on) := h.holdLines _

theorem holdLockstep (h : Stands s t) (on : Bool) : Stands s (t.holdLockstep on) := h.holdLines _

theorem holdLifecycle (h : Stands s t) : Stands s t.holdLifecycle := h.holdLines _

theorem fenceAll (h : Stands s t) (l : List Crossing) : Stands s (t.fenceAll l) :=
  h.same (by simp [SameVital, State.fenceAll_frame])

theorem resetAshlar (h : Stands s t) : Stands s t.resetAshlar := (h.ashEval _).fenceAll _

/-- With a new challenge drawn, Ashlar is evaluated again. -/
theorem drawn (h : Stands s t) (a : Ashlar) : Stands s (({ t with ash := a }).drawChallenge).ashEval :=
  evaluated h.off

theorem ashReady (h : Stands s t) : Stands s t.ashReady := h.drawn _

theorem acceptCode (h : Stands s t) (c d : Word) (st : AshlarState) : Stands s (t.acceptCode c d st) := h.drawn _

/-- A trip withholds everything, and the module enters SAFE (R195). -/
theorem ashTrip (h : Stands s t) (cause expected seen : Nat) : Stands s (t.ashTrip cause expected seen) :=
  ((h.ashEval _).event ..).enterSafe ..

theorem haltAccepted (h : Stands s t) : Stands s t.haltAccepted := h.same (by simp [SameVital, State.haltAccepted_frame])

theorem codeInReady (h : Stands s t) (c d : Word) : Stands s (t.codeInReady c d) := by
  simp only [State.codeInReady]
  split
  · exact .ite (fun _ => h.acceptCode ..) fun _ => h.ashReady
  · exact .ite (fun _ => h.acceptCode ..) fun _ => h.ashReady

theorem codeInArmed (h : Stands s t) (c d : Word) : Stands s (t.codeInArmed c d) := by
  simp only [State.codeInArmed]
  exact .ite (fun _ => h.ashTrip ..) fun _ => .ite (fun _ => h.ashTrip ..) fun _ => .ite (fun _ => h.ashTrip ..) fun _ =>
    .ite (fun _ => h.ashTrip ..) fun _ => .ite (fun _ => (h.ashReady.event ..).haltAccepted) fun _ =>
    .ite (fun _ => h.ashTrip ..) fun _ => h.acceptCode ..

theorem codeAt (h : Stands s t) (c d : Word) : Stands s (t.codeAt c d) := by
  unfold State.codeAt
  split
  · exact h.codeInReady c d
  · exact h.codeInArmed c d
  · exact h
  · exact h

theorem takeCode (h : Stands s t) (seen : Option (Word × Word)) : Stands s (t.takeCode seen) := by
  have taken : Stands s { t with bench := { t.bench with codes := t.bench.codes.tail } } :=
    h.same (by simp [SameVital])
  simp only [State.takeCode]
  refine .ite (fun _ => ?_) fun _ => ?_
  · split
    · exact taken.haltAccepted
    · exact taken
  · split
    · exact taken.codeAt ..
    · split
      · exact (taken.codeAt ..).haltAccepted
      · exact (taken.codeAt ..).haltAccepted
      · exact taken.codeAt ..
    · exact taken

/-! ### Entry into RUN, and the load that may lead there -/

/-- In RUN any demand may stand (R206). -/
theorem enterRun (h : Stands s t) : Stands s t.enterRun :=
  h.trans ⟨fun _ => outputsOff_of_run (by simp [State.enterRun, State.startDone_frame]),
    fun o => by simpa [State.enterRun_frame] using o⟩

theorem tryRun (h : Stands s t) : Stands s t.tryRun := .ite (fun _ => h.enterRun) fun _ => h

theorem startFailed (h : Stands s t) (code : Nat) : Stands s (t.startFailed code) :=
  h.same (by simp [SameVital, State.startFailed_frame])

theorem loadFails (h : Stands s t) (src : Source) (cause : Nat) (expected computed : Word) :
    Stands s (t.loadFails src cause expected computed) := ((h.event ..).startFailed _).enterSafe ..

theorem relatched (h : Stands s t) : Stands s t.relatched := h.same (by simp [SameVital, State.relatched_frame])

theorem tableLoaded (h : Stands s t) (seen back : Option (List Byte)) : Stands s (t.tableLoaded seen back) := by
  simp only [State.tableLoaded]
  split
  · exact h
  · have failed : Stands s { t with ash := { t.ash with loadFail := true } } := h.ash
    exact .ite (fun _ => h) fun _ => .ite (fun _ => failed.loadFails ..) fun _ => .ite (fun _ => failed.loadFails ..)
      fun _ => .ite (fun _ => loadFails (event (ashReady h.ash) ..) ..) fun _ =>
      tryRun (relatched (event (ashReady h.ash) ..))

/-! ### Clock counts and input frames -/

theorem ashCount (h : Stands s t) (n : Nat) : Stands s (t.ashCount n) := by
  simp only [State.ashCount]
  refine .ite (fun _ => h.ash) fun _ => .ite (fun _ => h.ash) fun _ => ?_
  split
  · exact ashTrip (h.ash) ..
  · exact h.ash
  all_goals exact .ite (fun _ => event (h.ash) ..) fun _ => h.ash

theorem clusterCount (h : Stands s t) (n : Nat) : Stands s (t.clusterCount n) := by
  simp only [State.clusterCount]
  exact .ite (fun _ => causeOff (h.ash) _) fun _ =>
    .ite (fun _ => enterSafe (causeOn (event (h.ash) ..) _) ..) fun _ => h.ash

theorem ashInputs (h : Stands s t) : Stands s t.ashInputs := by
  unfold State.ashInputs
  refine evaluated (off ?_)
  exact causeOff h.ash _

theorem ashStale (h : Stands s t) : Stands s t.ashStale :=
  .ite (fun _ => h) fun _ => (((h.ashEval _).event ..).causeOn _).enterSafe ..

end Stands

end Sys2Proof.Machine
end

section
/-! PROOF. The operations of the cluster, the field side, the networks, security, self-test and power that may change the
power state, a demand or what Ashlar grants. -/

namespace Sys2Proof.Machine

open Sys2Proof Sys2Proof.Safety

/-- What the checks of R327 have found of a command that they pass. -/
theorem State.judge_eq_none {s : State} {q : Req} {op : Nat} {absent stateOk : Bool} {need : Option Role}
    {code paramsOk : Bool} :
    s.judge q op absent stateOk need code paramsOk = none ↔
      absent = false ∧ s.openTo op = true ∧ stateOk = true ∧ s.holds q need = true ∧ (code = true → s.sealOpen = true) ∧
        paramsOk = true := by
  cases absent <;> cases h : s.openTo op <;> cases stateOk <;> cases k : s.holds q need <;> cases code <;>
    cases m : s.sealOpen <;> cases paramsOk <;> simp [State.judge, h, k, m]

namespace Stands

variable {s t : State}

theorem heard (h : Stands s t) (q : Req) : Stands s (t.heard q) := h.same (by simp [SameVital, State.heard_frame])

theorem complete (h : Stands s t) (op : Nat) (q : Req) (st : Status) (p0 p1 : Nat) (data : List Byte) :
    Stands s (t.complete op q st p0 p1 data) := h.same (by simp [SameVital, State.complete_frame])

/-- A command of the cluster: what it does where it passes its checks (R327). -/
theorem clCommand (h : Stands s t) (q : Req) (op : Nat) {v : Option Status} {k : State → State}
    (hk : v = none → Stands s (k (t.heard q))) : Stands s (t.clCommand q op v k) := by
  unfold State.clCommand
  refine .ite (fun _ => h) fun _ => ?_
  split
  · exact (h.heard q).complete ..
  · exact hk rfl

/-! ### The voting cluster -/

theorem voteEvent (h : Stands s t) (code : Nat) (sev : Severity) (p1 p2 : Nat) :
    Stands s (t.voteEvent code sev p1 p2) := h.event ..

theorem comparatorsDiffer (h : Stands s t) (x y : Byte) : Stands s (t.comparatorsDiffer x y) := by
  simp only [State.comparatorsDiffer]
  have locked : Stands s ((t.voteEvent 0x1022 .f4 x.toNat y.toNat).enterLockout 0x1022) :=
    (h.voteEvent ..).enterLockout ..
  exact locked.same (by simp [SameVital])

theorem laneFault (h : Stands s t) (lane : Nat) : Stands s (t.laneFault lane) := by
  simp only [State.laneFault]
  refine .ite (fun _ => enterLockout (h.same (by simp [SameVital, State.voteEvent_frame])) ..) fun _ => enterSafe ?_ ..
  split <;> exact h.same (by simp [SameVital, State.voteEvent_frame, State.putRepair_frame])

theorem disagreement (h : Stands s t) (code verdict : Nat) : Stands s (t.disagreement code verdict) :=
  enterSafe (h.same (by simp [SameVital, State.destroyStore_frame, State.setCore_frame])) ..

theorem safeTested (h : Stands s t) (failed : List Nat) : Stands s (t.safeTested failed) := by
  simp only [State.safeTested]
  refine .ite (fun _ => h) fun _ => .ite (fun _ => enterLockout (h.same ?_) ..) fun _ => h.same ?_ <;>
    split <;> simp [SameVital, State.rebuildSlots_frame, State.countOrMark_frame, State.markFailed_frame,
      State.voteAgain_frame, State.event_frame]

theorem syncDone (h : Stands s t) (differ : Bool) : Stands s (t.syncDone differ) := by
  simp only [State.syncDone]
  exact .ite (fun _ => h) fun _ => .ite (fun _ => h.disagreement ..) fun _ =>
    h.same (by simp [SameVital, State.copyCore_frame])

theorem laneTest (h : Stands s t) (passed : Bool) : Stands s (t.laneTest passed) := by
  unfold State.laneTest
  split
  · exact .ite (fun _ => h.same (by simp [SameVital, State.transientFault_frame])) fun _ => h.laneFault _
  · exact .ite (fun _ => h.same (by simp [SameVital])) fun _ => h.laneFault _

/-! ### The isolation link and the networks -/

theorem linkBack (h : Stands s t) : Stands s t.linkBack := .ite (fun _ => h.causeOff _) fun _ => h

theorem fieldFrame (h : Stands s t) (intact : Bool) : Stands s (t.fieldFrame intact) := by
  simp only [State.fieldFrame]
  exact .ite (fun _ => tryRun (linkBack (h.same (by simp [SameVital, State.takeReport_frame, State.takeEdges_frame]))))
    fun _ => event (h.same (by simp [SameVital])) ..

theorem coreFrame (h : Stands s t) (intact : Bool) (drops : List (Nat × Nat × Nat)) :
    Stands s (t.coreFrame intact drops) := by
  simp only [State.coreFrame]
  refine .ite (fun _ => linkBack (h.same ?_)) fun _ => event (h.same (by simp [SameVital])) ..
  split <;> simp [SameVital, State.demandDrops_frame, State.takeDemands_frame, Field.takeSegment_demands]

theorem linkLoss (h : Stands s t) (d : LinkLoss) : Stands s (t.linkLoss d) :=
  (((h.same (by simp [SameVital, Field.drive])).event ..).causeOn _).enterSafe ..

theorem combined (h : Stands s t) (x : RxTelegram) (step : SeqStep) (a b : Nat) :
    Stands s (t.combined x step a b) := by
  simp only [State.combined]
  have counted (d : List Nat) (f : NodeDyn → NodeDyn) (n : Nat) : Stands s
      (({ t with net := { t.net with disagreements := d } }).modNode n f) :=
    h.same (by simp [SameVital, State.modNode_frame])
  refine .ite (fun _ => .ite (fun _ => (((counted ..).event ..).event ..).enterSafe ..) fun _ => (counted ..).event ..)
    fun _ => .ite (fun _ => ?_) fun _ => .ite (fun _ => h.same ?_) fun _ => h.same ?_
  · split <;> exact h.same (by simp [SameVital, State.acceptTelegram_frame])
  · simp [SameVital, State.modNode_frame]
  · simp [SameVital, State.discarded_frame, State.countPort_frame, State.modNode_frame]

theorem checkNext (h : Stands s t) (faultX faultY : Option Nat) : Stands s (t.checkNext faultX faultY) := by
  simp only [State.checkNext]
  have drained : Stands s t.drainPorts := h.same (by simp [SameVital, State.drainPorts_frame])
  split
  · exact drained
  · exact .ite (fun _ => drained.same (by simp [SameVital, State.listTelegram_frame, State.noteHeard_frame]))
      fun _ => combined (drained.same (by simp [SameVital])) ..

/-! ### Security -/

theorem endDebug (h : Stands s t) (cause : Nat) : Stands s (t.endDebug cause) := by
  simp only [State.endDebug]
  have ended : Stands s (State.event { t with sec := { t.sec with debug := .none } } 0x9032 .cl .info
      (debugCode t.sec.debug) cause) := event (h.same (by simp [SameVital])) ..
  exact .ite (fun _ => h) fun _ => .ite (fun _ => ended.holdDebug _) fun _ => ended

theorem breakLockstep (h : Stands s t) (core : Nat) (k : DebugKind) : Stands s (t.breakLockstep core k) := by
  simp only [State.breakLockstep]
  refine .ite (fun _ => enterStop ?_ _) fun _ => ?_ <;>
    exact holdLockstep (event ((h.holdDebug true).same (by simp [SameVital])) ..) _

theorem attach (h : Stands s t) (k : DebugKind) (core : Nat) : Stands s (t.attach k core) := by
  simp only [State.attach]
  have attached : Stands s (State.event { t.endDebug 3 with sec := { (t.endDebug 3).sec with debug := k } } 0x9031 .cl
      .info (debugCode k)) := event ((h.endDebug 3).same (by simp [SameVital])) ..
  exact .ite (fun _ => h) fun _ => .ite (fun _ => h.event ..) fun _ => .ite (fun _ => attached) fun _ =>
    attached.breakLockstep ..

theorem sealAccepted (h : Stands s t) (p : BitVec 4) : Stands s (t.sealAccepted p) := by
  simp only [State.sealAccepted]
  have accepted : Stands s (if sealEvent p = sealEvent t.sec.sealPat then
      { t with sec := { t.sec with sealPat := p, pendSeal := t.sec.pendSeal || sealEvent p == 0x9022 } }
    else State.event { t with sec := { t.sec with sealPat := p, pendSeal := t.sec.pendSeal || sealEvent p == 0x9022 } }
      (sealEvent p) .hi .info p.toNat) := by
    split <;> exact h.same (by simp [SameVital, State.event_frame])
  exact .ite (fun _ => accepted.endDebug _) fun _ => accepted

theorem finishAdvance (h : Stands s t) (e : LogEntry) (old new : Nat) (recovered : Bool) :
    Stands s (t.finishAdvance e old new recovered) := by
  simp only [State.finishAdvance]
  refine .ite (fun _ => endDebug (h.same ?_) _) fun _ => h.same ?_ <;>
    simp [SameVital, State.event_frame, State.logChange_frame, State.eraseRetired_frame]

theorem decideLifecycleAdvance (h : Stands s t) (q : Req) : Stands s (t.decideLifecycleAdvance q) := by
  unfold State.decideLifecycleAdvance
  refine h.clCommand _ _ fun _ => ?_
  split
  · exact (h.heard q).complete ..
  · refine .ite (fun _ => (h.heard q).same (by simp [SameVital, State.logFull_frame])) fun _ => ?_
    exact complete (finishAdvance (holdLifecycle ((h.heard q).same (by simp [SameVital]))) ..) ..

/-- LOCKOUT is released into SAFE: outside RUN before and after (R212). -/
theorem decideLockoutRelease (h : Stands s t) (q : Req) : Stands s (t.decideLockoutRelease q) := by
  unfold State.decideLockoutRelease
  refine h.clCommand _ _ fun hv => ?_
  obtain ⟨-, -, hstate, -⟩ := State.judge_eq_none.1 hv
  have hp : t.power.state ≠ .run := by simp_all
  refine .ite (fun _ => (h.heard q).complete ..) fun _ => .ite (fun _ => (h.heard q).complete ..) fun _ =>
    .ite (fun _ => (h.heard q).same (by simp [SameVital, State.logFull_frame])) fun _ => complete (event (h.trans ?_) ..) ..
  exact ⟨fun o => outputsOff_of_demands (by simpa [State.logChange_frame, State.heard_frame] using o hp),
    fun o => by simpa [State.logChange_frame, State.heard_frame] using o⟩

end Stands

end Sys2Proof.Machine
end

section
/-! PROOF. Power, START, the shutdown test, activations and the bench: what they leave of outputs and permits. -/

namespace Sys2Proof.Machine

open Sys2Proof Sys2Proof.Safety

/-! ### Power-up -/

/-- A power-on reset leaves no demand handed over (R216). -/
@[simp] theorem State.powerOn_demands (s : State) (p : PowerOn) (wasAlive : Bool) :
    (s.powerOn p wasAlive).field.demands = 0 := by
  have booted (r : State) : (r.powerReset.boot p.bank0Ok p.bank1Ok).field.demands = 0 := by
    simp [State.boot_frame, State.powerReset]
  simp only [State.powerOn]
  split
  · exact booted _
  · simp [State.beginStart_frame, State.readUpdate_frame, State.loadStation_frame, State.migrate_frame,
      State.readFuses_frame, State.readAdvance_frame, State.readMode_frame, State.readStaged_frame, State.event_frame,
      State.readRt_frame, booted]

theorem State.fenceAll_ash (s : State) (l : List Crossing) : (s.fenceAll l).ash = s.ash := by
  simp [State.fenceAll_frame]

theorem State.resetAshlar_permitsOk (s : State) : PermitsOk s.resetAshlar.ash := by
  unfold State.resetAshlar
  rw [State.fenceAll_ash]
  exact State.ashEval_permitsOk _

/-- Ashlar leaves every power-on reset with nothing permitted (R185, R216). -/
theorem State.powerOn_permitsOk (s : State) (p : PowerOn) (wasAlive : Bool) : PermitsOk (s.powerOn p wasAlive).ash := by
  simp only [State.powerOn]
  split
  · intro _
    simp [State.boot_frame, State.powerReset]
  · exact State.resetAshlar_permitsOk _

/-! ### The start-up test -/

/-- The state in which the start-up test is judged: sources, lanes, cores and memories as it found them, the slots settled
(R376, R402). -/
def State.startTested (s : State) (r : StartResult) : State :=
  ((((s.startSources r.badSources).startLane (s.badLanes r)).1.startCores (s.startVerdicts r)).startMemory r
    (s.startVerdicts r)).1.settleSlots

/-- The F4 cause that the start-up test found, 0 for none (R402). -/
def State.startCause (s : State) (r : StartResult) : Nat :=
  (s.startTested r).startLockout r (s.startVerdicts r) ((s.startSources r.badSources).startLane (s.badLanes r)).2
    ((((s.startSources r.badSources).startLane (s.badLanes r)).1.startCores (s.startVerdicts r)).startMemory r
      (s.startVerdicts r)).2

/-- RESULT of event 0xA002 (R376, R398): an F4 or F3 cause beyond the verdicts is a failure. -/
def State.startResult (s : State) (r : StartResult) : Nat :=
  if s.startCause r ≠ 0 && resultOf (s.startVerdicts r) ≠ 1 then 1
  else if (s.startTested r).startUnsafe r (s.startVerdicts r) && resultOf (s.startVerdicts r) = 0 then 1
  else resultOf (s.startVerdicts r)

/-- The severity of event 0xA002 (R376). -/
def State.startSeverity (s : State) (r : StartResult) : Severity :=
  if s.startCause r ≠ 0 then .f4 else if (s.startTested r).startUnsafe r (s.startVerdicts r) then .f3
  else if resultOf (s.startVerdicts r) = 0 then .info else .f0

/-- The state once event 0xA002 has reported the test (R376). -/
def State.startReported (s : State) (r : StartResult) : State :=
  (if s.startCause r = 0 && !(s.startTested r).startUnsafe r (s.startVerdicts r) then (s.startTested r).fullRestart
    else s.startTested r).event 0xA002 .cl (s.startSeverity r) (s.startResult r) (firstNotPassed (s.startVerdicts r))
    r.durationMs

/-- The cases of R376 in their order (log entry 69). -/
theorem State.startJudged_eq (s : State) (r : StartResult) :
    s.startJudged r =
      if s.power.lockoutCause ≠ 0 then (s.startReported r).endStartIn .lockout
      else if s.startCause r ≠ 0 then ((s.startReported r).startFailed (s.startCause r)).enterLockout (s.startCause r)
      else if s.power.cause = StartCause.powerOn && s.power.wasSafe && !(s.startReported r).mayLeaveSafe then
        (s.startReported r).endStartIn .safe
      else if (s.startTested r).startUnsafe r (s.startVerdicts r) then
        ((s.startReported r).startFailed 0xA002).enterSafe 0xA002
      else (if s.power.cause = StartCause.powerOn && s.power.wasSafe then (s.startReported r).event 0x0102 .cl .info
        else s.startReported r).startPassed (s.power.fullForm && firstNotPassed (s.startVerdicts r) == 0) := rfl

theorem State.startTested_frame (s : State) (r : StartResult) :
    (s.startTested r).power = s.power ∧ (s.startTested r).ash = s.ash ∧
    (s.startTested r).field.demands = s.field.demands ∧ (s.startTested r).bench = s.bench ∧
    (s.startTested r).log = s.log ∧ (s.startTested r).update = s.update := by
  simp [State.startTested, State.settleSlots_frame, State.startMemory_frame, State.startCores_frame,
    State.startLane_frame, State.startSources_frame]

@[simp] theorem State.startReported_power (s : State) (r : StartResult) : (s.startReported r).power = s.power := by
  simp [State.startReported, State.event_frame, State.fullRestart_frame, State.startTested_frame]

@[simp] theorem State.endLockout_power_state (s : State) (l : List (Nat × Verdict)) :
    (s.endLockout l).power.state = s.power.state := by
  unfold State.endLockout
  split <;> simp [State.event_frame]

namespace Stands

variable {s t : State}

theorem powerOn (p : PowerOn) (wasAlive : Bool) : Stands s (t.powerOn p wasAlive) :=
  ⟨fun _ => outputsOff_of_demands (by simp), fun _ => t.powerOn_permitsOk p wasAlive⟩

/-! ### START -/

/-- Outside RUN another power state outside RUN may follow: nothing is demanded in either. -/
theorem halted (h : Stands s t) (hn : t.power.state ≠ .run) {u : State}
    (hd : u.field.demands = t.field.demands := by simp) (ha : u.ash = t.ash := by simp) : Stands s u :=
  ⟨fun o => outputsOff_of_demands (by rw [hd]; exact h.off o hn), fun o => by rw [ha]; exact h.permits o⟩

theorem endStartIn (h : Stands s t) (hn : t.power.state ≠ .run) (p : PowerState) : Stands s (t.endStartIn p) :=
  h.halted hn (by simp [State.endStartIn]) (by simp [State.endStartIn])

theorem beginStart (h : Stands s t) (hn : t.power.state ≠ .run) (cause : StartCause) (leaving : Bool) :
    Stands s (t.beginStart cause leaving) := by
  simp only [State.beginStart]
  refine resetAshlar (h.halted hn ?_ ?_) <;> simp [State.bootStores_frame, State.selectLanes_frame]

theorem fullRestart (h : Stands s t) : Stands s t.fullRestart :=
  .ite (fun _ => holdLockstep (h.same (by simp [SameVital])) _) fun _ => h

theorem startPassed (h : Stands s t) (hn : t.power.state ≠ .run) (complete : Bool) :
    Stands s (t.startPassed complete) := by
  have passed : Stands s { t with
      power := { t.power with testPassed := true, testPassedUs := t.opUs }
      test := { t.test with ageBaseUs := if complete then some t.opUs else t.test.ageBaseUs } } :=
    h.same (by simp [SameVital])
  simp only [State.startPassed]
  refine .ite (fun _ => endStartIn (passed.same ?_) ?_ _) fun _ => .ite (fun _ => endStartIn (passed.same ?_) ?_ _) fun _ =>
    .ite (fun _ => passed.endStartIn hn _) fun _ => passed.tryRun <;>
    simp [SameVital, State.startRefused_frame, hn]

/-- The judgement of the start-up test; START is not RUN, so nothing is demanded where it ends. -/
theorem startJudged (h : Stands s t) (hn : t.power.state ≠ .run) (r : StartResult) : Stands s (t.startJudged r) := by
  have tested : Stands s (t.startTested r) := h.same (by simp [SameVital, State.startTested_frame])
  have reported : Stands s (t.startReported r) :=
    event (.ite (fun _ => tested.fullRestart) fun _ => tested) ..
  have hr : (t.startReported r).power.state ≠ .run := by rwa [State.startReported_power]
  rw [State.startJudged_eq]
  refine .ite (fun _ => reported.endStartIn hr _) fun _ => .ite (fun _ => (reported.startFailed _).enterLockout ..)
    fun _ => .ite (fun _ => reported.endStartIn hr _) fun _ => .ite (fun _ => (reported.startFailed _).enterSafe ..)
    fun _ => startPassed ?_ ?_ _
  · exact .ite (fun _ => reported.event ..) fun _ => reported
  · simpa [State.event_frame]

theorem startDoneWith (h : Stands s t) (hn : t.power.state ≠ .run) (r : StartResult) : Stands s (t.startDoneWith r) :=
  startJudged (h.same (by simp [SameVital, State.checkStation_frame])) (by simpa [State.checkStation_frame]) r

/-! ### The shutdown test -/

theorem decideShutdown (h : Stands s t) (q : Req) : Stands s (t.decideShutdown q) := by
  unfold State.decideShutdown
  refine h.clCommand _ _ fun _ => ?_
  have begun : Stands s (((if t.power.state = .safe then (t.heard q).event 0x0102 .cl .info else t.heard q).endDebug
      4).event 0xA010 .cl .info (t.heard q).lifecycle t.power.state.code) := by
    refine event (endDebug (.ite (fun _ => ?_) fun _ => h.heard q) 4) ..
    exact (h.heard q).event ..
  exact begun.trans ⟨fun _ => outputsOff_of_demands rfl, (refl _).ash.permits⟩

theorem nextStep (h : Stands s t) (n : Nat) : Stands s (t.nextStep n) := h.same (by simp [SameVital, State.nextStep])

theorem enterFuses (h : Stands s t) : Stands s t.enterFuses := by
  simp only [State.enterFuses]
  have entered : Stands s (t.shutdownCores.nextStep 12) :=
    nextStep (h.same (by simp [SameVital, State.shutdownCores_frame])) _
  exact .ite (fun _ => entered) fun _ => .ite (fun _ => entered.same (by simp [SameVital, State.putRepair_frame])) fun _ =>
    entered.foldl (fun t f k => k.event ..) _

theorem afterBlock (h : Stands s t) (block : Nat) : Stands s (t.afterBlock block) :=
  .ite (fun _ => h.enterFuses) fun _ => h.nextStep _

theorem noteVerdict (h : Stands s t) (block : Nat) (v : Verdict) (count : Nat) :
    Stands s (t.noteVerdict block v count) := h.same (by simp [SameVital, State.noteVerdict_frame])

theorem settleFuses (h : Stands s t) (oks : List Bool) : Stands s (t.settleFuses oks) :=
  h.same (by simp [SameVital, State.settleFuses_frame])

theorem fusesBlown (h : Stands s t) (oks : List Bool) : Stands s (t.fusesBlown oks) := by
  simp only [State.fusesBlown]
  refine nextStep (.ite (fun _ => ?_) fun _ => settleFuses ?_ _) _
  all_goals
    refine h.foldl (fun t p k => ?_) _
    exact .ite (fun _ => k.same (by simp [SameVital, State.event_frame])) fun _ => k.event ..

theorem blockDone (h : Stands s t) (b : BlockResult) : Stands s (t.blockDone b) := by
  simp only [State.blockDone]
  refine .ite (fun _ => h) fun _ => .ite (fun _ => h.fusesBlown _) fun _ => afterBlock (noteVerdict (h.same ?_) ..) _
  split <;> simp [SameVital, State.blockVerdict_frame]

theorem blockTimeout (h : Stands s t) (block ashlarCount : Nat) : Stands s (t.blockTimeout block ashlarCount) :=
  .ite (fun _ => h) fun _ => afterBlock (noteVerdict h.ash ..) _

theorem shutdownHot (h : Stands s t) : Stands s t.shutdownHot :=
  .ite (fun _ => h) fun _ => nextStep (foldl (fun t b k => k.noteVerdict ..)
    (noteVerdict (h.same (by simp [SameVital])) ..) _) _

theorem shutdownDone (h : Stands s t) : Stands s t.shutdownDone := by
  simp only [State.shutdownDone]
  refine .ite (fun _ => h) fun _ => h.same ?_
  split <;> simp [SameVital, State.completeShutdown_frame, State.thaw_frame, State.endLockout_frame, State.event_frame]

/-! ### Supplies and temperature -/

theorem supplyLow (h : Stands s t) (mv : Nat) : Stands s (t.supplyLow mv) := by
  simp only [State.supplyLow]
  refine keeps (f := State.writeFailing) (fun s => by simp [SameVital, State.writeFailing_frame]) (enterSafe ?_ ..)
  refine keeps (f := State.abandonTest) (fun s => by simp [SameVital, State.abandonTest_frame]) (causeOn (event ?_ ..) _)
  exact h.same (by simp [SameVital])

theorem supplyGone (h : Stands s t) : Stands s t.supplyGone :=
  h.trans ⟨fun _ => outputsOff_of_demands rfl, fun _ _ => ⟨rfl, rfl⟩⟩

theorem temperature (h : Stands s t) (c : Int) : Stands s (t.temperature c) := by
  simp only [State.temperature]
  refine .ite (fun _ => .ite (fun _ => ?_) fun _ => enterSafe (causeOn (event ?_ ..) _) ..) fun _ =>
    .ite (fun _ => causeOff ?_ _) fun _ => ?_
  all_goals
    refine .ite (fun _ => shutdownHot (h.same ?_)) fun _ => h.same ?_ <;>
      split <;> simp [SameVital, State.note_frame, State.event_frame]

/-! ### Activations -/

theorem activateData (h : Stands s t) (q : Req) (st : Station) : Stands s (t.activateData q st) := by
  simp only [State.activateData]
  refine resetAshlar (h.same ?_)
  split <;> simp [SameVital, State.event_frame, State.setStage_frame, State.logChange_frame, State.modTarget_frame,
    State.install_frame, State.discardConstants_frame, State.clearForces_frame]

theorem validationDone (h : Stands s t) : Stands s t.validationDone := by
  have refused (q : Req) (a b : Nat) (t : State) (h : Stands s t) : Stands s (t.refuseActivation q a b) :=
    h.same (by simp [SameVital, State.refuseActivation_frame])
  simp only [State.validationDone]
  split
  · exact h
  · refine .ite (fun _ => refused _ _ _ _ h) fun _ => ?_
    split
    · exact refused _ _ _ _ (h.event ..)
    · exact .ite (fun _ => h.activateData ..) fun _ => refused _ _ _ _ h

/-! ### The bench -/

theorem decideBenchStart (h : Stands s t) (q : Req) : Stands s (t.decideBenchStart q) := by
  unfold State.decideBenchStart
  refine h.clCommand _ _ fun hv => ?_
  obtain ⟨-, -, hstate, -⟩ := State.judge_eq_none.1 hv
  have hp : t.power.state ≠ .run := by simp_all
  exact .ite (fun _ => (h.heard q).complete ..) fun _ =>
    beginStart ((h.heard q).same (by simp [SameVital, State.await])) (by simpa [State.await, State.heard_frame]) _ _

theorem decideBenchRestart (h : Stands s t) (q : Req) : Stands s (t.decideBenchRestart q) := by
  unfold State.decideBenchRestart
  refine h.clCommand _ _ fun hv => ?_
  obtain ⟨-, -, hstate, -⟩ := State.judge_eq_none.1 hv
  have hp : t.power.state ≠ .run := by simp_all
  split
  · exact (h.heard q).complete ..
  · exact beginStart ((h.heard q).same (by simp [SameVital, State.await, State.event_frame]))
      (by simpa [State.await, State.event_frame, State.heard_frame]) _ _

theorem decideCluster (h : Stands s t) (op : Nat) (q : Req) : Stands s (t.decideCluster op q) := by
  unfold State.decideCluster
  split
  · exact h.decideShutdown q
  · exact h.same (by simp [SameVital, State.decideRouteSet_frame])
  · exact h.same (by simp [SameVital, State.decideRouteCancel_frame])
  · exact h.same (by simp [SameVital, State.decidePointMove_frame])
  · exact h.same (by simp [SameVital, State.decideSignalStop_frame])
  · exact h.same (by simp [SameVital, State.decideRouteState_frame])
  · exact h.same (by simp [SameVital, State.decideElementState_frame])
  · exact h.same (by simp [SameVital, State.decideAuxPrepare_frame])
  · exact h.same (by simp [SameVital, State.decideAuxConfirm_frame])
  · exact h.same (by simp [SameVital, State.decideDoorOpen_frame])
  · exact h.same (by simp [SameVital, State.decideDoorClose_frame])
  · exact h.decideBenchStart q
  · exact h.same (by simp [SameVital, State.decideBenchStop_frame])
  · exact h.decideBenchRestart q
  · exact h.same (by simp [SameVital, State.decideForceSet_frame])
  · exact h.same (by simp [SameVital, State.decideForceClear_frame])
  · exact h.same (by simp [SameVital, State.decideForceList_frame])
  · exact h.same (by simp [SameVital, State.decideConstantSet_frame])
  · exact h.same (by simp [SameVital, State.decideConstantGet_frame])
  · exact h.same (by simp [SameVital, State.decideUpdateActivate_frame])
  · exact h.same (by simp [SameVital, State.decideRoleLogin_frame])
  · exact h.same (by simp [SameVital, State.decideRoleLogout_frame])
  · exact h.same (by simp [SameVital, State.decidePasswordSet_frame])
  · exact h.same (by simp [SameVital, State.decideKeyInstall_frame])
  · exact h.decideLifecycleAdvance q
  · exact h.decideLockoutRelease q
  · exact h

theorem workStep (h : Stands s t) (w : Work) : Stands s (t.workStep w) := by
  unfold State.workStep
  split
  · exact .ite (fun _ => h.same (by simp [SameVital, State.evalPend_frame])) fun _ => h
  · exact h.decideCluster ..

theorem decideThese (h : Stands s t) (which : Nat → Bool) : Stands s (t.decideThese which) :=
  h.foldl (fun _ _ k => k.decideCluster ..) _

theorem stepFive (h : Stands s t) : Stands s t.stepFive := h.foldl (fun _ _ k => k.workStep _) _

theorem phaseE (h : Stands s t) (cycles : Nat) : Stands s (t.phaseE cycles) := by
  have step2 := h.keeps (f := fun s => (s.openUndo.freeSlots.holdExpiry).fieldStep.superviseRoutes.autoCloses)
    (fun s => by simp [SameVital, State.autoCloses_frame, State.superviseRoutes_frame, State.fieldStep_frame,
      State.holdExpiry_frame, State.freeSlots_frame, State.openUndo_frame])
  have step4 := ((step2.decideThese restrictiveOp).decideThese auxOp).keeps (f := State.expirePrepares)
    (fun s => by simp [SameVital, State.expirePrepares_frame])
  exact (step4.stepFive.decideThese (fun op => !restrictiveOp op && !auxOp op && !queueOp op)).keeps
    (f := fun s => ({ s.finishWaiting.auxDemands.tellFaults.dwellCheck with
      bench := { s.finishWaiting.auxDemands.tellFaults.dwellCheck.bench with
        requests := [], evaluated := true, first := false } }).engineExcess cycles)
    (fun s => by simp [SameVital, State.engineExcess_frame, State.dwellCheck_frame, State.tellFaults_frame,
      State.auxDemands_frame, State.finishWaiting_frame])

/-- Phase O hands demands over in RUN, and where it ends the bench it switches them off (R126, R208). -/
theorem phaseO (h : Stands s t) (hr : t.power.state = .run) (samples : List Word) : Stands s (t.phaseO samples) := by
  simp only [State.phaseO]
  refine keeps (f := State.refreshDiag) (fun s => by simp [SameVital, State.refreshDiag_frame])
    (.ite (fun _ => enterStop (h.trans ?_) _) fun _ => h.trans ?_) <;>
  · refine ⟨fun _ => outputsOff_of_run ?_, fun o => ?_⟩ <;> split <;>
      simpa [State.mirror_frame, State.deliverCode_frame, State.handOver_frame, State.logConstants_frame,
        State.buildTelegrams_frame, State.commitDemands_frame, State.showForcing_frame]

theorem phaseH (h : Stands s t) (w : PhaseHWork) : Stands s (t.phaseH w) := by
  simp only [State.phaseH]
  have kept : Stands s { t with bench := { t.bench with housekept := true } } := h.same (by simp [SameVital])
  have synced : Stands s (if w.syncFinished then ({ t with bench := { t.bench with housekept := true } }).syncDone
      w.streamsDiffer else { t with bench := { t.bench with housekept := true } }) :=
    .ite (fun _ => kept.syncDone _) fun _ => kept
  refine .ite (fun _ => keeps (f := State.ramSlice) (fun s => by simp [SameVital, State.ramSlice]) ?_) fun _ => ?_ <;>
    exact .ite (fun _ => synced.laneTest _) fun _ => synced

theorem overrun (h : Stands s t) (phase : Phase) (cycles engine : Nat) : Stands s (t.overrun phase cycles engine) := by
  simp only [State.overrun]
  have stopped : Stands s (t.stopPhaseE phase engine) := h.same (by simp [SameVital, State.stopPhaseE_frame])
  exact .ite (fun _ => h) fun _ => .ite (fun _ => stopped) fun _ =>
    .ite (fun _ => enterSafe (event (stopped.same (by simp [SameVital, State.event_frame])) ..) ..) fun _ =>
      stopped.same (by simp [SameVital, State.event_frame])

theorem serveQueue (h : Stands s t) : Stands s t.serveQueue := by
  simp only [State.serveQueue]
  have taken : Stands s (t.takeQueue fun _ => true).1 := h.same (by simp [SameVital, State.takeQueue_frame])
  exact .ite (fun _ => h) fun _ => keeps (f := State.refreshDiag)
    (fun s => by simp [SameVital, State.refreshDiag_frame])
    (.ite (fun _ => taken.foldl (fun _ _ k => k.decideCluster ..) _) fun _ => taken.foldl (fun _ _ k => k.complete ..) _)

end Stands

end Sys2Proof.Machine
end

section
/-! PROOF. What every meaning of the table leaves of the outputs and of Ashlar's permits. -/

namespace Sys2Proof.Machine

open Sys2Proof Sys2Proof.Safety Stands

/-- Every next state of an outcome demands nothing outside RUN and permits nothing without a grant, where `s` does not. -/
def KeepsVital (s : State) (o : Host.Outcome State Fault Refusal) : Prop := ∀ t, o = .next t → Stands s t

theorem KeepsVital.next {s u : State} (h : Stands s u) : KeepsVital s (.next u) := by
  rintro t ⟨⟩
  exact h

theorem KeepsVital.of {s u : State} (h : Stands s u) : KeepsVital s (.next u.settle) := .next h.settle

/-- A row that changes neither the power state nor a demand nor what Ashlar grants. -/
theorem KeepsVital.plain {s u : State} (h : SameVital s u) : KeepsVital s (.next u.settle) := .of ((refl s).same h)

@[simp] theorem State.timed_power (f : State → State) (h : ∀ s, (f s).power = s.power) (s : State) :
    (s.timed f).power = s.power := by
  unfold State.timed; split
  · exact h s
  · rfl

@[simp] theorem State.timed_ash (f : State → State) (h : ∀ s, (f s).ash = s.ash) (s : State) : (s.timed f).ash = s.ash := by
  unfold State.timed; split
  · exact h s
  · rfl

@[simp] theorem State.timed_field (f : State → State) (h : ∀ s, (f s).field = s.field) (s : State) :
    (s.timed f).field = s.field := by
  unfold State.timed; split
  · exact h s
  · rfl

@[simp] theorem Field.ite_demands {c : Prop} [Decidable c] (f g : Field) :
    (if c then f else g).demands = if c then f.demands else g.demands := apply_ite ..

@[simp] theorem Power.ite_state {c : Prop} [Decidable c] (p q : Power) :
    (if c then p else q).state = if c then p.state else q.state := apply_ite ..

theorem State.forRoute_vital (f : State → Nat → Route → State) (hf : ∀ s n r, SameVital s (f s n r)) (n : Nat) (s : State) :
    SameVital s (s.forRoute n f) := by
  unfold State.forRoute; split
  · exact hf ..
  · simp [SameVital]

theorem Stands.forRoute {s : State} {f : State → Nat → Route → State} (hf : ∀ s n r, SameVital s (f s n r)) (n : Nat) :
    Stands s (s.timed fun s => s.forRoute n f) := timed (keeps (State.forRoute_vital f hf n) (refl s))

/-! ### Rows with a case of their own -/

theorem execLedTestEnd_keepsVital (s : State) : KeepsVital s (execLedTestEnd s) := by
  have tested : Stands s { s with power := { s.power with ledTest := false } } := (refl s).same (by simp [SameVital])
  exact .of (.ite (fun _ => .ite (fun _ => tested) fun _ => tested.event ..) fun _ => .refl s)

theorem execStartUpTestDone_keepsVital (r : StartResult) (s : State) : KeepsVital s (execStartUpTestDone r s) :=
  .of (.ite (fun h => startDoneWith (.refl s) (by simp_all) r) fun _ => .refl s)

theorem execLogicSupplyHigh_keepsVital (mv : Nat) (s : State) : KeepsVital s (execLogicSupplyHigh mv s) := by
  unfold execLogicSupplyHigh
  split
  · rintro t ⟨⟩
  · have measured : Stands s { s with power := { s.power with logicMv := mv } } := (refl s).same (by simp [SameVital])
    exact .of (.ite (fun _ => .refl s) fun _ => .ite (fun _ => measured.causeOff _) fun _ =>
      enterSafe (causeOn (measured.event ..) _) ..)

/-- OFF and STANDBY are both outside RUN. -/
theorem execBackupCellFitted_keepsVital (mv : Nat) (s : State) : KeepsVital s (execBackupCellFitted mv s) :=
  .of (.ite (fun h => halted (t := s) (.refl s) (by simp [h])) fun _ => (refl s).same (by simp [SameVital]))

theorem execBackupCellRemoved_keepsVital (s : State) : KeepsVital s (execBackupCellRemoved s) :=
  .of (.ite (fun h => halted (t := s) (.refl s) (by simp [h])) fun _ => (refl s).same (by simp [SameVital]))

theorem execPhaseO_keepsVital (samples : List Word) (s : State) : KeepsVital s (execPhaseO samples s) :=
  .of (.ite (fun h => phaseO (.refl s) (by simp_all [State.inRun]) samples) fun _ => .refl s)

theorem execNodeDropout_keepsVital (node : Nat) (s : State) : KeepsVital s (execNodeDropout node s) := by
  refine .of (timed ?_)
  split
  next n _ _ _ =>
    refine .ite (fun _ => ?_) fun _ => .refl s
    refine keeps (f := State.tellFaults) (by simp [SameVital, State.tellFaults_frame]) ?_
    refine foldl (f := State.watchFreeze) (fun _ _ k => k.same (by simp [SameVital, State.watchFreeze_frame])) ?_ _
    refine foldl (f := State.freezeElement) (fun _ _ k => k.same (by simp [SameVital, State.freezeElement_frame])) ?_ _
    refine foldl (fun t i k => ?_) ?_ _
    · split
      · exact k.same (by simp [SameVital, State.markElement_frame])
      · exact k
    · exact keeps (f := fun t => t.judgeNode n) (by simp [SameVital, State.judgeNode_frame]) (Stands.refl s)
  next => exact .refl s

theorem execAshlarArmWindowExpiry_keepsVital (s : State) : KeepsVital s (execAshlarArmWindowExpiry s) := by
  refine .of ?_
  split
  · exact .ite (fun _ => ashReady (.refl s)) fun _ => .refl s
  · exact .refl s

theorem execCellMeasurement_keepsVital (mv : Nat) (s : State) : KeepsVital s (execCellMeasurement mv s) := by
  have measured : SameVital s (s.cellMeasured mv) := by
    simp only [SameVital, State.cellMeasured]
    split <;> split <;> simp [State.event_frame]
  exact .of (.ite (fun _ => (refl s).same measured) fun _ => .refl s)

theorem execMarkRequest_keepsVital (can : Bool) (group : Nat) (linkKey : Word) (alive : BitVec 16) (s : State) :
    KeepsVital s (execMarkRequest can group linkKey alive s) :=
  .next (.ite (fun _ => .refl s) fun _ => ash (.refl s))

theorem execOutputOverload_keepsVital (channel : Nat) (wholeGroup : Bool) (milliAmp : Nat) (s : State) :
    KeepsVital s (execOutputOverload channel wholeGroup milliAmp s) := by
  have overloaded (l : List Nat) : Stands s (l.foldl State.overload s) :=
    foldl (fun _ _ k => k.same (by simp [SameVital, State.overload_frame])) (.refl s) l
  exact .of (.ite (fun _ => .ite (fun _ => (overloaded _).keeps (f := fun t =>
      (t.modGroup channel (fun x => { x with milliAmp := milliAmp })).report 0x3032 0xFF milliAmp channel)
      (fun t => by simp [SameVital, State.report_frame, State.modGroup_frame])) fun _ => .refl s) fun _ =>
    .ite (fun _ => same (.refl s) (by simp [SameVital, State.report_frame, State.modOutput_frame, State.overload_frame]))
      fun _ => .refl s)

theorem execRecordWrite_keepsVital (bad : Option Nat) (s : State) : KeepsVital s (execRecordWrite bad s) := by
  cases bad <;> exact .plain (by simp [SameVital, State.writeNext_frame, State.withdrawBlock_frame])

theorem execMaintAddressApply_keepsVital (s : State) : KeepsVital s (execMaintAddressApply s) := by
  refine .plain ?_
  split <;> simp [SameVital]

/-! ### Every row of the table -/

theorem exec_keepsVital (i : Instr) (s : State) : KeepsVital s (exec i s) := by
  cases i with
  | powerOnReset p => exact .of (.ite (fun _ => .refl s) fun _ => .powerOn p _)
  | ledTestEnd => exact execLedTestEnd_keepsVital s
  | startUpTestDone r => exact execStartUpTestDone_keepsVital r s
  | fieldConfigTimeout => exact .of (.ite (fun _ => enterSafe (startFailed (event (.refl s) ..) _) ..) fun _ => .refl s)
  | logicSupplyLow mv =>
    exact .of (.ite (fun _ => .refl s) fun _ => .ite (fun _ => causeOff (same (.refl s) (by simp [SameVital])) _) fun
      _ => supplyLow (.refl s) _)
  | logicSupplyHigh mv => exact execLogicSupplyHigh_keepsVital mv s
  | internalRailFault => exact .of (.ite (fun _ => enterSafe (causeOn (event (.refl s) ..) _) ..) fun _ => .refl s)
  | logicSupplyRemoved => exact .of (.ite (fun _ => supplyGone (.refl s)) fun _ => .refl s)
  | boardTemperature tenths => exact .of (.ite (fun _ => temperature (.refl s) _) fun _ => .refl s)
  | backupCellFitted mv => exact execBackupCellFitted_keepsVital mv s
  | backupCellRemoved => exact execBackupCellRemoved_keepsVital s
  | rtComparatorSample c => exact .plain (by simp [SameVital])
  | cellMeasurement mv => exact execCellMeasurement_keepsVital mv s
  | opTimeSave => exact .plain (by simp [SameVital])
  | phaseI samples => exact .plain (by simp [SameVital, State.phaseI_frame])
  | phaseE cycles => exact .of (.ite (fun _ => phaseE (.refl s) _) fun _ => .refl s)
  | phaseO samples => exact execPhaseO_keepsVital samples s
  | phaseH h => exact .of (.ite (fun _ => phaseH (.refl s) _) fun _ => .refl s)
  | nodeTimeoutRecompute => exact .plain (by simp [SameVital, State.recomputeAll_frame])
  | benchOverrun phase cycles engine => exact .of (timed (overrun (.refl s) ..))
  | requestQueueService => exact .of (serveQueue (.refl s))
  | nodeDropout node => exact execNodeDropout_keepsVital node s
  | throwTimeout element =>
    exact .plain (by simp [SameVital, State.txnSteps_frame, State.pointStep_frame, State.tellFaults_frame])
  | proofTimeout route => exact .of (forRoute (by simp [SameVital, State.proofExpiry_frame]) _)
  | signalConfirmTimeout element => exact .plain (by simp [SameVital, State.signalStep_frame, State.tellFaults_frame])
  | transactionTimeout element => exact .plain (by simp [SameVital, State.txnSteps_frame, State.tellFaults_frame])
  | pendingExpired arrival => exact .plain (by simp [SameVital, State.evalPend_frame])
  | auxPrepareExpiry kind target => exact .plain (by simp [SameVital, State.expirePrepare_frame])
  | approachReleaseExpiry route => exact .of (forRoute (by simp [SameVital, State.approachRelease_frame]) _)
  | overlapReleaseExpiry route => exact .of (forRoute (by simp [SameVital, State.overlapRelease_frame]) _)
  | emergencyReleaseExpiry route => exact .of (forRoute (by simp [SameVital, State.emergencyRelease_frame]) _)
  | restartHoldEnd => exact .plain (by simp [SameVital, State.holdExpiry_frame])
  | clearDelayExpiry element => exact .plain (by simp [SameVital, State.sectionStep_frame])
  | berthConfirmation element => exact .plain (by simp [SameVital, State.berthStep_frame])
  | moveLimitExpiry element => exact .plain (by simp [SameVital, State.checkMoving_frame, State.tellFaults_frame])
  | obstruction60s element => exact .plain (by simp [SameVital, State.checkObstructed_frame])
  | dwellWarning => exact .plain (by simp [SameVital, State.dwellWarn_frame])
  | dwellExpiry => exact .plain (by simp [SameVital, State.dwellExpire_frame])
  | forceReminder => exact .plain (by simp [SameVital, State.event_frame])
  | coreAccuse slot item bus => exact .plain (by simp [SameVital, State.accuse_frame])
  | noMajority bus =>
    exact .of (.ite (fun _ => disagreement (same (.refl s) (by simp [SameVital, State.busPoint_frame])) ..) fun _ =>
      .refl s)
  | mismatch bus =>
    exact .of (.ite (fun _ => disagreement (same (.refl s) (by simp [SameVital, State.busPoint_frame])) ..) fun _ =>
      .refl s)
  | comparatorsDiffer x y => exact .of (.ite (fun _ => comparatorsDiffer (.refl s) ..) fun _ => .refl s)
  | targetedSelfTestDone block => exact .plain (by simp [SameVital, State.selfTested_frame])
  | syncWindowDone streamsDiffer => exact .of (syncDone (.refl s) _)
  | safeSelfTestDone failed => exact .of (safeTested (.refl s) _)
  | coreSSignature seen => exact .plain (by simp [SameVital, State.voteEvent_frame, State.markUnhealthy_frame])
  | sramCorrectableError address syndrome => exact .plain (by simp [SameVital, State.voteEvent_frame])
  | sramUncorrectableError address syndrome =>
    exact .of (.ite (fun _ => enterSafe (voteEvent (.refl s) ..) ..) fun _ => .refl s)
  | debugAttach kind core => exact .of (attach (.refl s) ..)
  | debugDetach => exact .of (endDebug (.refl s) _)
  | sealChange pattern => exact .of (.ite (fun _ => sealAccepted (.refl s) _) fun _ => .refl s)
  | ashlarReset => exact .of (resetAshlar (.refl s))
  | ashlarSupplyFault => exact .of (resetAshlar (ash (.refl s)))
  | ashlarTableLoadDone seen back => exact .of (tableLoaded (.refl s) ..)
  | cycleCode seen => exact .of (takeCode (.refl s) _)
  | ashlarLate => exact .of (.ite (fun _ => ashTrip (.refl s) ..) fun _ => .refl s)
  | ashlarArmWindowExpiry => exact execAshlarArmWindowExpiry_keepsVital s
  | ashlarTableCheck seen => exact .of (.ite (fun _ => ashTrip (.refl s) ..) fun _ => .refl s)
  | ashlarClockCount cluster count => exact .of (.ite (fun _ => clusterCount (.refl s) _) fun _ => ashCount (.refl s) _)
  | ashlarHoldChange lines => exact .of (holdLines (.refl s) _)
  | ashlarInputFrame intact => exact .of (.ite (fun _ => ashInputs (.refl s)) fun _ => .refl s)
  | ashlarInputStale => exact .of (.ite (fun _ => ashStale (.refl s)) fun _ => .refl s)
  | ashlarPermitFrame intact => exact .plain (by simp [SameVital, State.ashFrame_frame])
  | ashlarFrameLoss => exact .plain (by simp [SameVital, State.fieldPermits_frame])
  | markRequest can group linkKey alive => exact execMarkRequest_keepsVital can group linkKey alive s
  | coreToFieldFrame intact drops => exact .of (.ite (fun _ => .refl s) fun _ => coreFrame (.refl s) ..)
  | fieldToCoreFrame intact => exact .of (.ite (fun _ => .refl s) fun _ => fieldFrame (.refl s) _)
  | isolationLinkLoss direction => exact .of (.ite (fun _ => .refl s) fun _ => linkLoss (.refl s) _)
  | fieldSideReset => exact .plain (by simp [SameVital, State.resetField_frame, State.fence_frame])
  | debounceExpiry channel level since => exact .plain (by simp [SameVital, State.inputChange_frame])
  | testPulseStart source => exact .plain (by simp [SameVital, State.pulseStart_frame])
  | testPulseCheck c => exact .plain (by simp [SameVital, State.pulseCheck_frame])
  | sourceOverload source => exact .plain (by simp [SameVital, State.sourceFails_frame])
  | outputSwitchTest t => exact .plain (by simp [SameVital, State.switchTest_frame])
  | externalFeed m => exact .plain (by simp [SameVital, State.measureOff_frame])
  | outputOverload channel wholeGroup milliAmp => exact execOutputOverload_keepsVital channel wholeGroup milliAmp s
  | groupSupplyState group inputSide mv => exact .plain (by simp [SameVital, State.measureGroup_frame])
  | groupSwitchFault group readBack => exact .plain (by simp [SameVital, State.modGroup_frame, State.report_frame])
  | canFrameReceived port f =>
    exact .plain (by simp [SameVital, State.goodFrame_frame, State.busTaken_frame, State.modPort_frame,
      State.queueFrame_frame, State.receiveFrame_frame])
  | rateDetectTimeout port => exact .plain (by simp [SameVital, State.nextNominal_frame])
  | canCommitReorder port headBegun => exact .plain (by simp [SameVital, State.modPort_frame])
  | canTxDone port => exact .plain (by simp [SameVital, State.txDone_frame])
  | canTxCancelled port => exact .plain (by simp [SameVital, State.modPort_frame])
  | canBusError port e =>
    exact .plain (by simp [SameVital, State.busTaken_frame, State.detectError_frame, State.busError_frame])
  | idClashBlockExpiry port ident => exact .plain (by simp [SameVital, State.modPort_frame])
  | busOffRecovery port => exact .plain (by simp [SameVital, State.modPort_frame, State.event_frame])
  | datagramReceived d => exact .plain (by simp [SameVital, State.datagram_frame])
  | telegramCheck faultX faultY => exact .of (.ite (fun _ => checkNext (.refl s) ..) fun _ => .refl s)
  | lanDown lan => exact .plain (by simp [SameVital, State.event_frame])
  | prpSupervisionSend => exact .plain (by simp [SameVital])
  | arpRequest maintenance lan target sender mac =>
    exact .plain (by simp [SameVital, State.lanHeard_frame, State.arpLearn_frame])
  | icmpEcho target data => exact .plain (by simp [SameVital])
  | x8RequestDatagram d => exact .plain (by simp [SameVital, State.x8Request_frame])
  | doorbell value block => exact .plain (by simp [SameVital, State.writeSlot_frame, State.ring_frame])
  | hiDoneClear high value => exact .plain (by simp [SameVital, State.clearDone_frame])
  | hiIrqStatClear value => exact .plain (by simp [SameVital, State.clearIrq_frame])
  | hiIrqMaskWrite value => exact .plain (by simp [SameVital, State.writeMask_frame])
  | hiNoteTailWrite value => exact .plain (by simp [SameVital, State.writeTail_frame])
  | m2Write value => exact .plain (by simp [SameVital, State.writeM2_frame])
  | linkEventClear mg cl => exact .plain (by simp [SameVital, State.clearLinkEvents_frame])
  | hiXingRead => exact .plain (by simp [SameVital])
  | registerWrite offset bits value => exact .plain (by simp [SameVital, State.writeRegister_frame])
  | hostLinkReset => exact .plain (by simp [SameVital, State.hostReset_frame])
  | mgHeartbeatLoss => exact .plain (by simp [SameVital, State.mgLost_frame])
  | mgRestart => exact .plain (by simp [SameVital, State.mgRestart_frame])
  | crossingLinkUp x => exact .plain (by simp [SameVital, State.linkUp_frame])
  | heldCompletionDelivery => exact .plain (by simp [SameVital, State.writeResponse_frame])
  | notificationFlush => exact .plain (by simp [SameVital, State.flushHeld_frame])
  | recordWrite bad => exact execRecordWrite_keepsVital bad s
  | tokenRefill code => exact .plain (by simp [SameVital, State.refill_frame])
  | suppressionSummaryTimer code => exact .plain (by simp [SameVital, State.summarise_frame])
  | eventFreezeExpiry => exact .plain (by simp [SameVital, State.thaw_frame])
  | sessionExpiry session => exact .plain (by simp [SameVital])
  | roleLockExpiry role => exact .plain (by simp [SameVital])
  | maintAddressApply => exact execMaintAddressApply_keepsVital s
  | activationValidationDone => exact .of (validationDone (.refl s))
  | firmwareActivationReset p => exact .of (.ite (fun _ => .powerOn p _) fun _ => .refl s)
  | bistBlockDone b => exact .of (blockDone (.refl s) _)
  | bistBlockTimeout block ashlarCount => exact .of (blockTimeout (.refl s) ..)
  | shutdownTestDone => exact .of (shutdownDone (.refl s))
  | identify r => exact .plain (by simp [SameVital, State.decideIdentify_frame])
  | capabilities r => exact .plain (by simp [SameVital, State.decideCapabilities_frame])
  | getStatus r => exact .plain (by simp [SameVital, State.decideGetStatus_frame])
  | setTime r => exact .plain (by simp [SameVital, State.decideSetTime_frame])
  | getTime r => exact .plain (by simp [SameVital, State.decideGetTime_frame])
  | shutdown r => exact .of (decideShutdown (.refl s) _)
  | routeSet r => exact .plain (by simp [SameVital, State.decideRouteSet_frame])
  | routeCancel r => exact .plain (by simp [SameVital, State.decideRouteCancel_frame])
  | pointMove r => exact .plain (by simp [SameVital, State.decidePointMove_frame])
  | signalStop r => exact .plain (by simp [SameVital, State.decideSignalStop_frame])
  | routeState r => exact .plain (by simp [SameVital, State.decideRouteState_frame])
  | elementState r => exact .plain (by simp [SameVital, State.decideElementState_frame])
  | auxPrepare r => exact .plain (by simp [SameVital, State.decideAuxPrepare_frame])
  | auxConfirm r => exact .plain (by simp [SameVital, State.decideAuxConfirm_frame])
  | doorOpen r => exact .plain (by simp [SameVital, State.decideDoorOpen_frame])
  | doorClose r => exact .plain (by simp [SameVital, State.decideDoorClose_frame])
  | doorHealth r => exact .plain (by simp [SameVital, State.decideDoorHealth_frame])
  | benchStart r => exact .of (decideBenchStart (.refl s) _)
  | benchStop r => exact .plain (by simp [SameVital, State.decideBenchStop_frame])
  | benchRestart r => exact .of (decideBenchRestart (.refl s) _)
  | forceSet r => exact .plain (by simp [SameVital, State.decideForceSet_frame])
  | forceClear r => exact .plain (by simp [SameVital, State.decideForceClear_frame])
  | forceList r => exact .plain (by simp [SameVital, State.decideForceList_frame])
  | constantSet r => exact .plain (by simp [SameVital, State.decideConstantSet_frame])
  | constantGet r => exact .plain (by simp [SameVital, State.decideConstantGet_frame])
  | eventInfo r => exact .plain (by simp [SameVital, State.decideEventInfo_frame])
  | eventRead r => exact .plain (by simp [SameVital, State.decideEventRead_frame])
  | eventFreeze r => exact .plain (by simp [SameVital, State.decideEventFreeze_frame])
  | eventThaw r => exact .plain (by simp [SameVital, State.decideEventThaw_frame])
  | eventSetRate r => exact .plain (by simp [SameVital, State.decideEventSetRate_frame])
  | updateBegin r => exact .plain (by simp [SameVital, State.decideUpdateBegin_frame])
  | updateData r => exact .plain (by simp [SameVital, State.decideUpdateData_frame])
  | updateVerify r => exact .plain (by simp [SameVital, State.decideUpdateVerify_frame])
  | updateActivate r => exact .plain (by simp [SameVital, State.decideUpdateActivate_frame])
  | updateConfirm r => exact .plain (by simp [SameVital, State.decideUpdateConfirm_frame])
  | updateStatus r => exact .plain (by simp [SameVital, State.decideUpdateStatus_frame])
  | updateAbort r => exact .plain (by simp [SameVital, State.decideUpdateAbort_frame])
  | roleLogin r => exact .plain (by simp [SameVital, State.decideRoleLogin_frame])
  | roleLogout r => exact .plain (by simp [SameVital, State.decideRoleLogout_frame])
  | passwordSet r => exact .plain (by simp [SameVital, State.decidePasswordSet_frame])
  | keyInstall r => exact .plain (by simp [SameVital, State.decideKeyInstall_frame])
  | lifecycleAdvance r => exact .of (decideLifecycleAdvance (.refl s) _)
  | lockoutRelease r => exact .of (decideLockoutRelease (.refl s) _)
  | changeLogRead r => exact .plain (by simp [SameVital, State.decideChangeLogRead_frame])
  | maintAddress r => exact .plain (by simp [SameVital, State.decideMaintAddress_frame])
  | diagVote r => exact .plain (by simp [SameVital, State.decideDiagVote_frame])
  | diagAshlar r => exact .plain (by simp [SameVital, State.decideDiagAshlar_frame])
  | diagSafeRecord r => exact .plain (by simp [SameVital, State.decideDiagSafeRecord_frame])
  | diagInputs r => exact .plain (by simp [SameVital, State.decideDiagInputs_frame])
  | diagOutputs r => exact .plain (by simp [SameVital, State.decideDiagOutputs_frame])
  | diagGroups r => exact .plain (by simp [SameVital, State.decideDiagGroups_frame])
  | diagCanPort r => exact .plain (by simp [SameVital, State.decideDiagCanPort_frame])
  | diagPortCounters r => exact .plain (by simp [SameVital, State.decideDiagPortCounters_frame])
  | diagNode r => exact .plain (by simp [SameVital, State.decideDiagNode_frame])
  | diagNodeList r => exact .plain (by simp [SameVital, State.decideDiagNodeList_frame])
  | subscribe r => exact .plain (by simp [SameVital, State.decideSubscribe_frame])
  | subscriptionGet r => exact .plain (by simp [SameVital, State.decideSubscriptionGet_frame])
  | dwellCountSave => exact .plain (by simp [SameVital])
  | ashlarSupplyReturn => exact .of (resetAshlar (ash (.refl s)))
  | supervisionFrameReceived lan => exact .plain (by simp [SameVital, State.lanHeard_frame])
  | msiVectorEnable n => exact .plain (by simp [SameVital])

theorem step_stands {s t : State} (h : step s = .next t) : Stands s t := by
  cases hq : s.pending with
  | nil =>
    simp only [step, hq] at h
    cases h
    exact (refl s).same (by simp [SameVital, State.tick_frame])
  | cons c rest =>
    simp only [step, hq] at h
    exact .trans ((refl s).same (by simp [SameVital])) (exec_keepsVital c _ t h)

end Sys2Proof.Machine
end

section
/-! PROOF. The statement about local outputs. -/

namespace Sys2Proof.Proofs

open Sys2Proof Sys2Proof.Machine

/-- Settles O5: every operation that leaves RUN switches the demands off, and phase O alone writes them, in RUN. -/
theorem stepKeepsOutputsOff : Obligations.StepKeepsOutputsOff := by
  unfold Obligations.StepKeepsOutputsOff
  exact fun s t hs h => (step_stands h).off hs

end Sys2Proof.Proofs
end

section
/-! PROOF. The mirror HI_STATE after a step (R219, R223, R307), and the reset state (R24). -/

namespace Sys2Proof.Machine

open Sys2Proof Sys2Proof.Safety

/-- HI_STATE's word reads neither the host island nor the clocks (R307). -/
theorem State.stateWord_congr {s t : State} (hunit : t.unit = s.unit) (hpower : t.power = s.power) (hsec : t.sec = s.sec)
    (hstation : t.station = s.station) (hbench : t.bench = s.bench) (heng : t.eng = s.eng) (hvote : t.vote = s.vote)
    (hfield : t.field = s.field) (hnet : t.net = s.net) : t.stateWord = s.stateWord := by
  simp only [State.stateWord, State.lifecycle, State.voteMode, State.sealOpen, State.faultActive, State.nodeDropped,
    hunit, hpower, hsec, hstation, hbench, heng, hvote, hfield, hnet]

theorem State.settle_stateWord (s : State) : s.settle.stateWord = s.stateWord := by
  apply State.stateWord_congr <;> simp only [State.settle_frame]

/-- Each operation ends with the refresh of the mirror, after which HI_STATE shows the word wherever its crossing is up
and steady. -/
theorem State.settle_mirrored (s : State) : Mirrored s.settle := by
  intro hd hu hp
  rw [State.settle_hi_downCl] at hd
  rw [State.settle_power] at hp
  rw [State.settle_stateWord]
  unfold State.settle at hu ⊢
  generalize s.stateWord = w at *
  split at hu
  next hc => simp [hd, hp, hu] at hc
  next hc => rw [if_neg hc]

/-- Every row of the table but MARK_REQUEST, which writes Ashlar's last mark alone, ends with the refresh of the mirror. -/
theorem exec_mirrored {i : Instr} {s t : State} (hs : Mirrored s) (h : exec i s = .next t) : Mirrored t := by
  cases i with
  | markRequest can group linkKey alive =>
    have hh : t.hi = s.hi ∧ t.power = s.power ∧ t.stateWord = s.stateWord := by
      cases h
      split
      · exact ⟨rfl, rfl, rfl⟩
      · exact ⟨rfl, rfl, State.stateWord_congr rfl rfl rfl rfl rfl rfl rfl rfl rfl⟩
    obtain ⟨hhi, hpower, hword⟩ := hh
    simpa only [Mirrored, hhi, hpower, hword] using hs
  | logicSupplyHigh mv =>
    simp only [exec, execLogicSupplyHigh] at h
    split at h
    · cases h
    · cases h
      exact State.settle_mirrored _
  | _ =>
    cases h
    exact State.settle_mirrored _

/-- The mirror follows the cluster's word through every step. -/
theorem step_mirrored {s t : State} (hs : Mirrored s) (h : step s = .next t) : Mirrored t := by
  cases hq : s.pending with
  | nil =>
    simp only [step, hq] at h
    cases h
    have hw : s.tick.stateWord = s.stateWord := State.stateWord_congr rfl rfl rfl rfl rfl rfl rfl rfl rfl
    simpa only [Mirrored, State.tick_frame, hw] using hs
  | cons c rest =>
    simp only [step, hq] at h
    exact exec_mirrored (s := { s with pending := rest }) hs h

end Sys2Proof.Machine
end

section
/-! PROOF. The statement about the reset state. -/

namespace Sys2Proof.Proofs

open Sys2Proof Sys2Proof.Machine Sys2Proof.Safety

theorem reset_permitsOk : PermitsOk State.reset.ash := fun _ => ⟨rfl, rfl⟩

theorem reset_outputsOff : OutputsOff State.reset := fun _ => rfl

/-- In the reset state the cluster's crossing to the host is down. -/
theorem reset_mirrored : Mirrored State.reset := by
  intro h
  cases h

/-- Settles O8: the reset values one by one; every step keeps the invariants, so its first step does too. -/
theorem resetState : Obligations.ResetState := by
  unfold Obligations.ResetState
  refine ⟨rfl, rfl, rfl, rfl, rfl, rfl, rfl, rfl, rfl, rfl, rfl, reset_permitsOk, reset_outputsOff, rfl, reset_mirrored,
    fun cs t h => ?_⟩
  have kept := step_stands h
  exact ⟨kept.permits reset_permitsOk, kept.off reset_outputsOff,
    step_mirrored (s := { State.reset with pending := cs }) reset_mirrored h⟩

end Sys2Proof.Proofs
end

section
/-! PROOF. The power-on reset: what each operation of the power-up writes of what R216 resets (R24, R358, R374, R418). -/

namespace Sys2Proof.Machine

open Sys2Proof Sys2Proof.Safety

/-! ### Ashlar's reset -/

/-- Evaluating its equations, Ashlar writes the inhibits, the permit word and the group switches alone (R195). -/
theorem State.ashEval_ash (s : State) :
    s.ashEval.ash =
      { s.ash with inhibit := s.ashEval.ash.inhibit, permit := s.ashEval.ash.permit, groupSw := s.ashEval.ash.groupSw } := by
  simp [State.ashEval, State.event_frame]

/-- Ashlar leaves its reset DISARMED, with no table and no latch, and permits nothing (R185). -/
theorem State.resetAshlar_disarmed (s : State) :
    s.resetAshlar.ash.state = .disarmed ∧ s.resetAshlar.ash.latch = false ∧ s.resetAshlar.ash.permit = 0 ∧
      s.resetAshlar.ash.table = [] := by
  have reset : s.resetAshlar.ash.state = .disarmed ∧ s.resetAshlar.ash.latch = false ∧ s.resetAshlar.ash.table = [] := by
    unfold State.resetAshlar
    rw [State.fenceAll_ash, State.ashEval_ash]
    exact ⟨rfl, rfl, rfl⟩
  obtain ⟨hs, hl, ht⟩ := reset
  exact ⟨hs, hl, (s.resetAshlar_permitsOk (by simp [Ashlar.grants, hs])).1, ht⟩

/-! ### The firmware bank -/

/-- The boot loader writes two fields of the power state, the fault LED and whether the firmware is dead: it is where
neither bank passes (R418). -/
theorem State.boot_power (s : State) (ok0 ok1 : Bool) (alive : s.power.dead = false) :
    (s.boot ok0 ok1).power =
      { s.power with dead := !(ok0 || ok1), faultLed := (s.boot ok0 ok1).power.faultLed } := by
  generalize hb : s.boot ok0 ok1 = b
  unfold State.boot at hb
  extract_lets ok u c put revert expired s1 now p s2 run at hb
  have reverted (r : State) (cause bank old : Nat) : (revert r cause bank old).power = r.power := by
    simp [revert, put, State.event_frame, State.modTarget_frame]
  have tried : s1.power = s.power := by
    simp only [s1]
    split
    · exact reverted ..
    · split
      · simp [put, State.modTarget_frame]
      · rfl
  have chosen : s2.power = { s.power with dead := !(ok0 || ok1), faultLed := s2.power.faultLed } := by
    have banks : (ok now.active || ok (1 - now.active)) = (ok0 || ok1) := by
      by_cases hn : now.active = 0
      · simp [ok, hn]
      · simp [ok, hn, show 1 - now.active = 0 by omega, Bool.or_comm]
    have lives : s.power = { s.power with dead := false } := by rw [← alive]
    simp only [s2, p, ← banks]
    split
    next h => simpa [h, tried] using lives
    next =>
      split
      next h => simpa [h, reverted, tried] using lives
      next h h' => simp [h, h', tried]
  rw [← hb]
  split
  · simpa [State.event_frame] using chosen
  · exact chosen

/-! ### The records and the station data -/

/-- An advance finished at the power-up leaves the mailbox's work (R371). -/
theorem State.readAdvance_mg (s : State) :
    s.readAdvance.mg.queue = s.mg.queue ∧ s.readAdvance.mg.outstanding = s.mg.outstanding := by
  unfold State.readAdvance
  split
  · unfold State.finishAdvance State.eraseRetired
    simp only [State.ite_mg, State.endDebug_frame, State.event_frame, State.logChange_frame]
    split <;> split <;> simp
  · exact ⟨rfl, rfl⟩

/-- Station data leave the engine's queue and transactions, and every route FREE (R63, R401). -/
theorem State.loadStation_eng (s : State) :
    s.loadStation.eng.queue = s.eng.queue ∧ s.loadStation.eng.txns = s.eng.txns ∧
      ∀ d ∈ s.loadStation.eng.routes, d.state = .free := by
  simp only [State.loadStation, State.noStation]
  split
  · simp
  · split
    · simp [State.event_frame]
    · split <;> simp

/-! ### START -/

theorem State.beginStart_eng (s : State) (cause : StartCause) (leaving : Bool) :
    (s.beginStart cause leaving).eng.queue = s.eng.queue ∧ (s.beginStart cause leaving).eng.txns = s.eng.txns ∧
      (s.beginStart cause leaving).eng.routes = s.eng.routes ∧
      (s.beginStart cause leaving).eng.waiting = s.eng.waiting := by
  simp [State.beginStart, State.resetAshlar_frame, State.bootStores_frame, State.selectLanes_frame]

theorem State.beginStart_power (s : State) (cause : StartCause) (leaving : Bool) :
    (s.beginStart cause leaving).power = { s.power with
      state := .start, ledTest := true, cause := cause, fullForm := !s.quickForm leaving, startUs := s.opUs,
      testPassed := false, readyOff := false } := by
  simp [State.beginStart, State.resetAshlar_frame, State.bootStores_frame, State.selectLanes_frame]

theorem State.beginStart_bench (s : State) (cause : StartCause) (leaving : Bool) :
    (s.beginStart cause leaving).bench = { s.bench with frozen := false, evaluated := false } := by
  simp [State.beginStart, State.resetAshlar_frame, State.bootStores_frame, State.selectLanes_frame]

theorem State.beginStart_ash (s : State) (cause : StartCause) (leaving : Bool) :
    (s.beginStart cause leaving).ash.state = .disarmed ∧ (s.beginStart cause leaving).ash.latch = false ∧
      (s.beginStart cause leaving).ash.permit = 0 ∧ (s.beginStart cause leaving).ash.table = [] := by
  unfold State.beginStart
  exact State.resetAshlar_disarmed _

end Sys2Proof.Machine
end

section
/-! PROOF. The power-up as a whole: the boot, what the start reads back, START (R216, R374). -/

namespace Sys2Proof.Machine

open Sys2Proof Sys2Proof.Safety

/-- The module with every island of R216 reset and its firmware bank chosen. -/
def State.booted (s : State) (p : PowerOn) : State :=
  let s1 := (s.readRepair.powerReset).boot p.bank0Ok p.bank1Ok
  { s1 with power := { s1.power with logicMv := p.mv, cellMv := p.cellMv, slot := p.slot } }

/-- What the start reads back before its tests: RT, the lost tokens, the records of the mode, an advance, the fuses, the
migrated types, the station data and the images. -/
def State.readBack (s : State) (p : PowerOn) (wasAlive frozen : Bool) : State :=
  let s3 := ((s.readRt p.cellMv wasAlive).event 0x0010 .mg .info p.slot.toNat).readStaged frozen
  let s4 := ((s3.readMode).readAdvance).readFuses p.fusesOk
  let s5 := (((s4.migrate p.newTypes).loadStation).readUpdate 1).readUpdate 2
  { s5 with test := { s5.test with ageBaseUs := s5.ageFromRecord } }

theorem State.powerOn_eq (s : State) (p : PowerOn) (wasAlive : Bool) :
    s.powerOn p wasAlive =
      if (s.booted p).power.dead then
        { s.booted p with power := { (s.booted p).power with ledTest := true, startUs := (s.booted p).opUs } }
      else
        let t := (s.booted p).readBack p wasAlive s.recorder.frozenUntil.isSome
        t.beginStart .powerOn
          ((s.power.wasSafe || s.power.lockoutCause ≠ 0) || t.onTrial || (!s.test.repair.aOk && !s.test.repair.bOk)) :=
  rfl

/-- What of a state the reset leaves at its power-on value, and what it keeps, outside the power state (R216). -/
def ResetTo (s t : State) : Prop :=
  t.powerCycle = (s.powerCycle + 1) % 2 ^ 32 ∧ t.opUs = Nat.max s.opUs (s.savedOpUs + 10000000) ∧
  t.bench = { constants := s.bench.constants } ∧ t.eng.queue = [] ∧ t.eng.txns = [] ∧
  (∀ d ∈ t.eng.routes, d.state = .free) ∧ t.field.demands = 0 ∧ t.mg.queue = [] ∧ t.mg.outstanding = [] ∧
  t.unit = s.unit ∧ t.savedOpUs = s.savedOpUs ∧ t.epoch = s.epoch ∧ t.draws = s.draws ∧ t.outbox = s.outbox ∧
  t.pending = s.pending

theorem State.booted_resetTo (s : State) (p : PowerOn) : ResetTo s (s.booted p) := by
  simp [ResetTo, State.booted, State.boot_frame, State.powerReset, State.readRepair_frame, State.resumedUs]

theorem State.booted_ash (s : State) (p : PowerOn) :
    (s.booted p).ash.state = .disarmed ∧ (s.booted p).ash.permit = 0 ∧ (s.booted p).ash.latch = false := by
  simp [State.booted, State.boot_frame, State.powerReset]

theorem State.booted_power (s : State) (p : PowerOn) :
    (s.booted p).power.state = .start ∧ (s.booted p).power.dead = !(p.bank0Ok || p.bank1Ok) ∧
      (s.booted p).power.logicMv = p.mv ∧ (s.booted p).power.cellMv = p.cellMv ∧ (s.booted p).power.slot = p.slot ∧
      (s.booted p).power.readyOff = false := by
  simp only [State.booted]
  rw [State.boot_power _ _ _ (by simp [State.powerReset])]
  simp [State.powerReset]

theorem State.readBack_power (s : State) (p : PowerOn) (wasAlive frozen : Bool) :
    (s.readBack p wasAlive frozen).power = s.power := by
  simp [State.readBack, State.readUpdate_frame, State.loadStation_frame, State.migrate_frame, State.readFuses_frame,
    State.readAdvance_frame, State.readMode_frame, State.readStaged_frame, State.event_frame, State.readRt_frame]

/-- Reading back keeps what the reset cleared; the station data leave every route FREE. -/
theorem State.readBack_resetTo {s t : State} (h : ResetTo s t) (p : PowerOn) (wasAlive frozen : Bool) :
    ResetTo s (t.readBack p wasAlive frozen) := by
  obtain ⟨hc, ho, hb, hq, hx, -, hd, hm, hu, h⟩ := h
  have free := (State.loadStation_eng (((((((t.readRt p.cellMv wasAlive).event 0x0010 .mg .info p.slot.toNat).readStaged
    frozen).readMode).readAdvance).readFuses p.fusesOk).migrate p.newTypes)).2.2
  simpa [ResetTo, State.readBack, State.readUpdate_frame, State.loadStation_frame, State.loadStation_eng,
    State.migrate_frame, State.readFuses_frame, State.readAdvance_frame, State.readAdvance_mg, State.readMode_frame,
    State.readStaged_frame, State.event_frame, State.readRt_frame, hc, ho, hb, hq, hx, hd, hm, hu, h] using free

theorem State.beginStart_resetTo {s t : State} (h : ResetTo s t) (cause : StartCause) (leaving : Bool) :
    ResetTo s (t.beginStart cause leaving) := by
  obtain ⟨hc, ho, hb, hq, hx, hr, hd, hm, hu, h⟩ := h
  simpa [ResetTo, State.beginStart_frame, State.beginStart_eng, State.beginStart_bench, hc, ho, hb, hq, hx, hd, hm, hu,
    h] using hr

theorem ResetTo.poweredUp {s t : State} {p : PowerOn} (cold : ResetTo s t)
    (power : t.power.state = .start ∧ t.power.dead = !(p.bank0Ok || p.bank1Ok) ∧ t.power.ledTest = true ∧
      t.power.startUs = t.opUs ∧ t.power.logicMv = p.mv ∧ t.power.cellMv = p.cellMv ∧ t.power.slot = p.slot ∧
      t.power.readyOff = false)
    (ash : t.ash.state = .disarmed ∧ t.ash.permit = 0 ∧ t.ash.latch = false) : PoweredUp s t p := by
  obtain ⟨hc, ho, h⟩ := cold
  obtain ⟨p1, p2, p3, p4, p5, p6, p7, p8⟩ := power
  obtain ⟨a1, a2, a3⟩ := ash
  exact ⟨p1, p2, p3, p4, p5, p6, p7, p8, hc, ho, a1, a2, a3, h⟩

/-- A power-on reset leaves the module in START, or dead where neither bank passes, with everything of R216 reset. -/
theorem State.powerOn_poweredUp (s : State) (p : PowerOn) (wasAlive : Bool) : PoweredUp s (s.powerOn p wasAlive) p := by
  obtain ⟨hstate, hdead, hmv, hcell, hslot, hoff⟩ := s.booted_power p
  have cold := s.booted_resetTo p
  rw [State.powerOn_eq]
  split
  · exact ResetTo.poweredUp cold ⟨hstate, hdead, rfl, rfl, hmv, hcell, hslot, hoff⟩ (s.booted_ash p)
  · refine (State.beginStart_resetTo (State.readBack_resetTo cold ..) ..).poweredUp ?_ ?_
    · simp [State.beginStart_power, State.readBack_power, State.beginStart_frame, hdead, hmv, hcell, hslot]
    · simp [State.beginStart_ash]

/-- What the reset of an activation does before the power-up, and the refresh of the mirror after it, change nothing that
the power-up continues. -/
theorem poweredUp_framed {r s t : State} {p : PowerOn} (h : PoweredUp r t p) (hcycle : r.powerCycle = s.powerCycle)
    (hop : r.opUs = s.opUs) (hsaved : r.savedOpUs = s.savedOpUs) (hbench : r.bench = s.bench) (hunit : r.unit = s.unit)
    (hepoch : r.epoch = s.epoch) (hdraws : r.draws = s.draws) (houtbox : r.outbox = s.outbox)
    (hpending : r.pending = s.pending) : PoweredUp s t.settle p := by
  simpa only [PoweredUp, State.settle_frame, hcycle, hop, hsaved, hbench, hunit, hepoch, hdraws, houtbox, hpending] using h

end Sys2Proof.Machine
end

section
/-! PROOF. The statement about the power-on reset. -/

namespace Sys2Proof.Proofs

open Sys2Proof Sys2Proof.Machine Sys2Proof.Safety

/-- Settles O9: both resets run the same power-up, the reset of an activation after the tokens held back by a freeze have
been let go. -/
theorem powerUpResets : Obligations.PowerUpResets := by
  unfold Obligations.PowerUpResets
  constructor
  · intro p s off supply
    refine ⟨_, rfl, ?_⟩
    rw [if_neg (by simp [off]; omega)]
    exact poweredUp_framed (s.powerOn_poweredUp p _) rfl rfl rfl rfl rfl rfl rfl rfl rfl
  · intro p s u on due past
    refine ⟨_, rfl, ?_⟩
    rw [if_pos (by simp [on, due, past])]
    apply poweredUp_framed (State.powerOn_poweredUp _ p true) <;> simp only [State.thaw_frame]

end Sys2Proof.Proofs
end

section
/-! PROOF. What standing down clears and keeps (R206, R208), and the entries into SAFE and LOCKOUT (R212, R213). -/

namespace Sys2Proof.Machine

open Sys2Proof Sys2Proof.Safety

/-! ### Standing down -/

theorem State.noteCluster_undo (s : State) (kind : Nat) (data : List Byte) :
    (s.noteCluster kind data).bench.undo = s.bench.undo := by
  unfold State.noteCluster
  split <;> simp [State.deliverNote_frame]

theorem State.foldl_bench_undo {α : Type} (f : State → α → State) (h : ∀ s a, (f s a).bench.undo = s.bench.undo)
    (l : List α) (s : State) : (l.foldl f s).bench.undo = s.bench.undo := by
  induction l generalizing s with
  | nil => rfl
  | cons a l ih => rw [List.foldl_cons, ih, h]

theorem State.clearForces_undo (s : State) (cause : Nat) : (s.clearForces cause).bench.undo = s.bench.undo := by
  simp only [State.clearForces]
  rw [State.foldl_bench_undo]
  simp [State.forceEnded, State.noteCluster_undo, State.event_frame]

theorem State.takeBack_sec_congr {s t : State} (hsec : t.sec = s.sec) (hundo : t.bench.undo = s.bench.undo) :
    t.takeBack.sec = s.takeBack.sec := by
  simp only [State.takeBack, hundo]
  split <;> simp [hsec]

/-- The engine's work given up: an empty queue, no transaction, no prepare, every route FREE (R208). -/
theorem State.discardWork_eng (s : State) (keep : Option Req) :
    (s.discardWork keep).eng.queue = [] ∧ (s.discardWork keep).eng.txns = [] ∧ (s.discardWork keep).eng.prepares = [] ∧
      ∀ d ∈ (s.discardWork keep).eng.routes, d.state = .free := by
  simp [State.discardWork, State.deliver_frame, Engine.cleared]

theorem State.discardWork_sec (s : State) (keep : Option Req) : (s.discardWork keep).sec = s.takeBack.sec := by
  simp [State.discardWork, State.deliver_frame, State.voidPrepare_frame]

/-- The indication of forcing follows the table that is kept (R149). -/
theorem State.discardWork_forcedShown (s : State) (keep : Option Req) :
    (s.discardWork keep).bench.forcedShown = !s.bench.keptForces.isEmpty := by
  have kept : (s.eng.prepares.foldl (fun s p => s.voidPrepare p 0) s.takeBack).bench.keptForces = s.bench.keptForces := by
    simp [Bench.keptForces, Bench.nextForces, State.voidPrepare_bench_frame, State.takeBack_bench_frame]
  simp [State.discardWork, State.deliver_frame, kept]

theorem State.standDown_eng (s : State) (halt : Bool) :
    (s.standDown halt).eng.queue = [] ∧ (s.standDown halt).eng.txns = [] ∧ (s.standDown halt).eng.prepares = [] ∧
      ∀ d ∈ (s.standDown halt).eng.routes, d.state = .free := by
  simpa only [State.standDown, State.dwellPause_frame, State.flushNotes_frame, State.uncycled_frame] using
    State.discardWork_eng _ _

theorem State.standDown_sec (s : State) (halt : Bool) : (s.standDown halt).sec = s.takeBack.sec := by
  simp only [State.standDown, State.dwellPause_frame, State.flushNotes_frame, State.uncycled_frame,
    State.discardWork_sec]
  apply State.takeBack_sec_congr
  · simp [State.clearForces_frame, State.dropNotes_frame, State.sendHalt_frame]
  · rw [State.clearForces_undo]
    split <;> rfl

theorem State.standDown_forces (s : State) (halt : Bool) :
    (s.standDown halt).bench.forces = [] ∧ (s.standDown halt).bench.forcedShown = false := by
  simp [State.standDown, State.dwellPause_frame, State.flushNotes_bench_frame, State.uncycled_bench_frame,
    State.discardWork_forcedShown, Bench.keptForces, Bench.nextForces, State.clearForces]

/-! ### The recorder's inbox -/

/-- An operation that only appends to the recorder's inbox. -/
def InboxKept (s t : State) : Prop := s.recorder.inbox <+: t.recorder.inbox

theorem InboxKept.framed {s t u : State} (h : InboxKept s t) (hu : u.recorder = t.recorder) : InboxKept s u := by
  simpa only [InboxKept, hu] using h

theorem InboxKept.event {s t : State} (h : InboxKept s t) (code : Nat) (src : Source) (sev : Severity) (a b c : Nat)
    (x : Bool) : InboxKept s (t.event code src sev a b c x) := List.IsPrefix.trans h (List.prefix_append ..)

theorem InboxKept.foldl {α : Type} {s t : State} {f : State → α → State} (hf : ∀ t a, InboxKept s t → InboxKept s (f t a))
    (h : InboxKept s t) (l : List α) : InboxKept s (l.foldl f t) := by
  induction l generalizing t with
  | nil => exact h
  | cons a l ih => exact ih (hf t a h)

theorem State.clearForces_inboxKept (s : State) (cause : Nat) : InboxKept s (s.clearForces cause) :=
  InboxKept.foldl (f := fun s f => s.forceEnded f cause)
    (fun t f h => (h.event 0x1061 .cl .info f.kind f.target cause false).framed (by
      simp [State.forceEnded, State.noteCluster_frame])) (List.prefix_refl _) _

theorem State.standDown_inboxKept (s : State) (halt : Bool) : InboxKept s (s.standDown halt) := by
  have cleared (t : State) (ht : t.recorder = s.recorder) : InboxKept s (t.clearForces 3) := by
    simpa only [InboxKept, ht] using t.clearForces_inboxKept 3
  unfold State.standDown
  refine (cleared (if halt && s.power.state = .run then s.sendHalt else s).dropNotes ?_).framed ?_
  · simp [State.dropNotes_frame, State.sendHalt_frame]
  · simp [State.dwellPause_frame, State.flushNotes_frame, State.uncycled_frame, State.discardWork_frame]

/-! ### SAFE and LOCKOUT -/

/-- LOCKOUT as entered from START (R212, R213). -/
theorem State.enterLockout_start {s : State} (h : s.power.state = .start) (cause : Nat) :
    (s.enterLockout cause).power = { s.power with
      state := .lockout, ledTest := false,
      record := some (s.newRecord 4 cause (s.power.entries.filter (fun t => s.opS < t + day)).length),
      lockoutCause := cause, repeated := false, readyOff := true, wasSafe := false } := by
  simp [State.enterLockout, h, State.note_frame, State.event_frame, State.standDown_frame]

theorem State.enterLockout_inboxKept (s : State) (cause : Nat) : InboxKept s (s.enterLockout cause) := by
  simp only [State.enterLockout]
  split
  on_goal 5 => exact List.prefix_refl _
  all_goals
    refine (List.IsPrefix.trans (s.standDown_inboxKept false) ?_ : InboxKept s _)
    simp [State.note_frame]

/-- An F3 cause outside SAFE and LOCKOUT, with fewer than two entries within 24 operating hours, leads to SAFE. -/
theorem State.enterSafe_eq {s : State} (h : EntersSafe s) (cause : Nat) :
    s.enterSafe cause = s.enterSafeNow cause true := by
  obtain ⟨hp, hl, -⟩ := h
  rcases hp with hp | hp | hp
  · simp [State.enterSafe, hp]
  · simp [State.enterSafe, hp, hl hp]
  · simp [State.enterSafe, hp]

theorem State.enterSafe_safeFrom {s : State} (h : EntersSafe s) (cause : Nat) : SafeFrom s (s.enterSafe cause) cause := by
  rw [State.enterSafe_eq h]
  obtain ⟨-, -, few⟩ := h
  simp only [State.enterSafeNow]
  rw [if_neg (by omega)]
  have free := (State.standDown_eng { s with power := { s.power with
    entries := s.opS :: s.power.entries.filter (fun t => s.opS < t + day) } } true).2.2.2
  simpa [SafeFrom, State.newRecord, State.note_frame, State.event_frame, State.standDown_eng, State.standDown_forces]
    using free

theorem State.enterSafe_sec {s : State} (h : EntersSafe s) (cause : Nat) : (s.enterSafe cause).sec = s.takeBack.sec := by
  rw [State.enterSafe_eq h]
  obtain ⟨-, -, few⟩ := h
  simp only [State.enterSafeNow]
  rw [if_neg (by omega)]
  simp only [State.note_frame, State.event_frame, State.standDown_sec]
  exact State.takeBack_sec_congr rfl rfl

end Sys2Proof.Machine
end

section
/-! PROOF. The course of START: its LED test, the judgement of its start-up test, its last condition (R24, R258, R376). -/

namespace Sys2Proof.Machine

open Sys2Proof Sys2Proof.Safety

/-! ### One event reported -/

theorem State.event_recorded {s t : State} (hrecorder : t.recorder = s.recorder) (hop : t.opUs = s.opUs)
    (hcycle : t.powerCycle = s.powerCycle) (code : Nat) (src : Source) (sev : Severity) (a b c : Nat) (x : Bool) :
    Recorded s (t.event code src sev a b c x) code a b c :=
  ⟨_, by rw [State.event_recorder, hrecorder], rfl, rfl, rfl, rfl, by rw [State.opMs, hop], hcycle⟩

theorem recorded_framed {s t u : State} {code a b c : Nat} (h : Recorded s t code a b c)
    (hu : u.recorder = t.recorder) : Recorded s u code a b c := by
  simpa only [Recorded, hu] using h

theorem recorded_settle {s t : State} {code a b c : Nat} (h : Recorded s t code a b c) :
    Recorded s t.settle code a b c := recorded_framed h (by simp only [State.settle_frame])

/-! ### The last condition of START -/

theorem State.startFailed_entersSafe {s : State} (h : EntersSafe s) (code a b : Nat) :
    EntersSafe ((s.event code .cl .f3 a b).startFailed code) := by
  have power : ((s.event code .cl .f3 a b).startFailed code).power = s.power := by
    simp [State.startFailed_frame, State.event_frame]
  have time : ((s.event code .cl .f3 a b).startFailed code).opS = s.opS := by
    simp [State.opS, State.startFailed_frame, State.event_frame]
  unfold EntersSafe
  rwa [power, time]

/-- A field side without its configuration is an F3 cause (R258). -/
theorem execFieldConfigTimeout_entersSafe {s : State} (start : s.power.state = .start) (passed : s.power.testPassed = true)
    (silent : s.fieldConfirmed = false) (due : s.power.testPassedUs + 10000 ≤ s.opUs) (h : EntersSafe s) :
    ∃ t, exec .fieldConfigTimeout s = .next t ∧ SafeFrom s t 0x3003 ∧ t.ash = s.ash ∧ t.sec = s.takeBack.sec ∧
      t.station = s.station ∧ t.test = s.test ∧ t.log = s.log := by
  refine ⟨_, rfl, ?_⟩
  rw [if_pos (by simp [start, passed, silent, due])]
  have enters := State.startFailed_entersSafe h 0x3003 s.expectedConfig.toNat s.field.crcSeen.toNat
  have safe := State.enterSafe_safeFrom enters 0x3003
  have sec := State.enterSafe_sec enters 0x3003
  rw [State.takeBack_sec_congr (s := s) (by simp [State.startFailed_frame, State.event_frame])
    (by simp [State.startFailed_frame, State.event_frame])] at sec
  refine ⟨?_, ?_⟩
  · simpa [SafeFrom, State.startFailed_frame, State.event_frame, State.settle_frame] using safe
  · simp [sec, State.enterSafe_frame, State.startFailed_frame, State.event_frame, State.settle_frame]

/-! ### The LED test -/

theorem execLedTestEnd_due {s : State} (start : s.power.state = .start) (lit : s.power.ledTest = true)
    (due : s.power.startUs + 1000000 ≤ s.opUs) :
    ∃ t, exec .ledTestEnd s = .next t ∧ t.power = { s.power with ledTest := false } ∧
      (s.power.dead = false → Recorded s t 0xA001 (if s.power.fullForm then 1 else 0) s.bistAge 0) ∧
      (s.power.dead = true → t.recorder = s.recorder) ∧
      t = { s with power := t.power, recorder := t.recorder, hi := mirrorOf s t } := by
  refine ⟨_, rfl, ?_⟩
  rw [if_pos (by simp [start, lit, due])]
  cases dead : s.power.dead with
  | true =>
    rw [State.settle_eq]
    simp [dead]
  | false =>
    simp only [dead, Bool.false_eq_true, if_false]
    refine ⟨by simp [State.event_frame], fun _ => recorded_settle (State.event_recorded rfl rfl rfl ..), by simp, ?_⟩
    rw [State.settle_eq]
    rfl

/-! ### A start-up test that finds its comparators wrong -/

theorem State.startCause_planted (s : State) {r : StartResult} (h : r.plantedOk = false) : s.startCause r = 0x1022 := by
  simp [State.startCause, State.startLockout, h]

theorem State.startResult_planted (s : State) {r : StartResult} (h : r.plantedOk = false) : s.startResult r = 1 := by
  by_cases hr : resultOf (s.startVerdicts r) = 1 <;> simp [State.startResult, State.startCause_planted s h, hr]

theorem execStartUpTestDone_planted {s : State} {r : StartResult} (start : s.power.state = .start)
    (dark : s.power.ledTest = false) (untested : s.power.testPassed = false) (alive : s.power.dead = false)
    (free : s.power.lockoutCause = 0) (h : r.plantedOk = false) :
    ∃ t x, exec (.startUpTestDone r) s = .next t ∧ t.power.state = .lockout ∧ t.power.lockoutCause = 0x1022 ∧
      t.power.readyOff = true ∧ t.power.record = some x ∧ x.cls = 4 ∧ x.fromState = 2 ∧ x.cause = 0x1022 ∧
      (∃ y ∈ t.recorder.inbox, y.code = 0xA002 ∧ y.p0 = word 1 ∧ y.p2 = word r.durationMs) ∧ t.log = s.log ∧
      t.update = s.update := by
  have judged : s.startDoneWith r =
      ((s.checkStation.startReported r).startFailed 0x1022).enterLockout 0x1022 := by
    rw [State.startDoneWith, State.startJudged_eq, State.startCause_planted _ h,
      if_neg (by simp [State.checkStation_frame, free]), if_pos (by decide)]
  generalize hb : (s.checkStation.startReported r).startFailed 0x1022 = b at judged
  have power : b.power = s.power := by
    simp [← hb, State.startFailed_frame, State.checkStation_frame]
  have run : exec (.startUpTestDone r) s = .next (b.enterLockout 0x1022).settle := by
    rw [← judged]
    exact congrArg (fun u : State => Host.Outcome.next u.settle)
      (if_pos (by simp [start, dark, untested, alive]))
  have entered := State.enterLockout_start (s := b) (by rw [power, start]) 0x1022
  refine ⟨_, b.newRecord 4 0x1022 (b.power.entries.filter (fun t => b.opS < t + day)).length, run, ?_⟩
  simp only [State.settle_frame, entered]
  refine ⟨trivial, trivial, trivial, trivial, rfl, by simp [State.newRecord, power, start, PowerState.code], rfl, ?_, ?_⟩
  · have told : ∃ y ∈ b.recorder.inbox, y.code = 0xA002 ∧ y.p0 = word 1 ∧ y.p2 = word r.durationMs := by
      refine ⟨(s.checkStation.startReported r).recorder.inbox.getLast (by simp [State.startReported]), ?_, ?_⟩
      · simp [← hb, State.startFailed_frame]
      · simp [State.startReported, State.startResult_planted _ h]
    obtain ⟨y, hy, hcode⟩ := told
    exact ⟨y, List.IsPrefix.subset (b.enterLockout_inboxKept 0x1022) hy, hcode⟩
  · have kept : b.log = s.log ∧ b.update = s.update := by
      simp [← hb, State.startFailed_frame, State.startReported, State.startCause_planted _ h, State.event_frame,
        State.startTested_frame, State.checkStation_frame]
    simpa only [State.enterLockout_frame] using kept

/-! ### A clean start-up test -/

theorem State.startVerdicts_clean {s : State} {r : StartResult} (quick : s.power.fullForm = false) (h : CleanStart r) :
    s.startVerdicts r = [] := by
  obtain ⟨-, lanes, -⟩ := h
  simp [State.startVerdicts, quick, lanes]

theorem State.badLanes_clean {s : State} {r : StartResult} (quick : s.power.fullForm = false) (h : CleanStart r) :
    s.badLanes r = [] := by
  obtain ⟨-, lanes, -⟩ := id h
  simp [State.badLanes, State.startVerdicts_clean quick h, lanes, verdictOf]

/-- With no bad source the readback writes the field side alone (R241, R242). -/
theorem State.startSources_clean (s : State) : s.startSources [] = { s with field := (s.startSources []).field } := by
  have passed (l : List Nat) (t : State) (ht : t = { s with field := t.field }) :
      let u := l.foldl (fun s k => if !s.field.pulsing k then s else if ([] : List Nat).contains k then
        (if ((s.field.sources.getD k {}).fault) then s else s.sourceFails k 1)
        else s.modSource k (fun x => { x with fault := false, failRun := 0 })) t
      u = { s with field := u.field } := by
    induction l generalizing t with
    | nil => exact ht
    | cons k l ih =>
      apply ih
      simp only [List.contains_nil, Bool.false_eq_true, if_false]
      split
      · exact ht
      · rw [ht]
        rfl
  exact passed _ s rfl

/-- A start fills no slot where none is vacant (R402). -/
theorem State.fillSlot_served {s : State} (h : ∀ x ∈ s.vote.slots, x.vacant = false) (v : Nat) : s.fillSlot v = s := by
  unfold State.fillSlot
  split
  · rfl
  next x hx => simp [h x (List.mem_of_getElem? hx)]

theorem State.fillSlots_served {s : State} (h : ∀ x ∈ s.vote.slots, x.vacant = false) (l : List Nat) :
    l.foldl State.fillSlot s = s := by
  induction l with
  | nil => rfl
  | cons v l ih => rw [List.foldl_cons, State.fillSlot_served h, ih]

/-- Where every slot has its core and no core test is under way, a start leaves the cores and the lanes as they are
(R175, R402). -/
theorem State.settleSlots_whole {s : State} (h : VotingWhole s.vote) :
    s.settleSlots = { s with vote := s.settleSlots.vote, test := s.settleSlots.test } ∧
      s.settleSlots.vote.cores = s.vote.cores ∧ s.settleSlots.vote.lanes = s.vote.lanes ∧
      s.settleSlots.vote.sigGood = s.vote.sigGood ∧ s.settleSlots.vote.dwellExpired = s.vote.dwellExpired ∧
      ∀ x ∈ s.settleSlots.vote.slots, x.vacant = false := by
  obtain ⟨served, steady⟩ := h
  generalize hb : s.settleSlots = b
  unfold State.settleSlots at hb
  extract_lets waits waiting cores slots v s1 s2 map s3 at hb
  have sameCores : cores = s.vote.cores := by
    calc cores = (withIndex s.vote.cores).map Prod.fst := by
          refine List.map_congr_left fun p hp => ?_
          obtain ⟨notTest, notSync⟩ := steady p.1 (List.fst_mem_of_mem_zipIdx hp)
          cases hc : p.1 <;> simp_all
      _ = s.vote.cores := List.zipIdx_map_fst ..
  have stays : ∀ x ∈ s1.vote.slots, x.vacant = false := by
    intro x hx
    obtain ⟨y, hy, rfl⟩ := List.mem_map.mp hx
    exact served y hy
  have filled : s2 = s1 := State.fillSlots_served stays _
  have mapped : s3.vote = s1.vote ∧ s3 = { s1 with test := s3.test } := by
    simp only [s3, filled]
    split <;> exact ⟨rfl, rfl⟩
  obtain ⟨vote3, eq3⟩ := mapped
  rw [State.dwellSync, if_pos (by simpa [vote3] using stays)] at hb
  subst hb
  refine ⟨?_, ?_, ?_, ?_, ?_, ?_⟩
  · rw [eq3]
  · simpa [vote3] using sameCores
  · simp [vote3, s1, v]
  · simp [vote3, s1, v]
  · simp [vote3, s1, v]
  · simpa [vote3] using stays

theorem State.startCores_quick {s : State} (quick : s.power.fullForm = false) (l : List (Nat × Verdict)) :
    s.startCores l = s := if_pos (by simp [quick])

theorem State.startMemory_quick {s : State} (quick : s.power.fullForm = false) (r : StartResult)
    (l : List (Nat × Verdict)) : s.startMemory r l = (s, false) := if_pos (by simp [quick])

/-- The state in which a clean quick test is judged: the sources passed, the slots settled. -/
theorem State.startTested_clean {s : State} {r : StartResult} (quick : s.power.fullForm = false) (h : CleanStart r) :
    s.startTested r = (s.startSources []).settleSlots := by
  obtain ⟨-, -, -, -, -, -, -, sources⟩ := id h
  have form : (s.startSources []).power.fullForm = false := by simp [State.startSources_frame, quick]
  simp [State.startTested, State.badLanes_clean quick h, sources, State.startLane, State.startCores_quick form,
    State.startMemory_quick form]

theorem State.startCause_clean {s : State} {r : StartResult} (quick : s.power.fullForm = false) (h : CleanStart r)
    (whole : VotingWhole s.vote) (cores : 2 ≤ ((List.range 4).filter s.coreHealthy).length) : s.startCause r = 0 := by
  obtain ⟨-, -, planted, -, -, -, -, sources⟩ := id h
  have form : (s.startSources []).power.fullForm = false := by simp [State.startSources_frame, quick]
  have vote : (s.startSources []).vote = s.vote := by simp [State.startSources_frame]
  obtain ⟨-, hcores, -, hsig, -, served⟩ := State.settleSlots_whole (s := s.startSources []) (by rwa [vote])
  have healthy : (s.startSources []).settleSlots.coreHealthy = s.coreHealthy := by
    funext c
    simp only [State.coreHealthy, State.core, hcores, hsig, vote]
  have unexpired : (s.startSources []).settleSlots.vacancyExpired = false := by
    have noVacancy : (s.startSources []).settleSlots.vote.slots.any Slot.vacant = false :=
      List.any_eq_false.mpr fun x hx => by simp [served x hx]
    simp only [State.vacancyExpired, noVacancy, Bool.and_false, Bool.false_and]
  have enough : ¬ ((List.range 4).filter s.coreHealthy).length < 2 := by omega
  simp [State.startCause, State.startLockout, State.startTested_clean quick h, State.startVerdicts_clean quick h,
    State.badLanes_clean quick h, sources, State.startLane, State.startCores_quick form, State.startMemory_quick form,
    planted, healthy, unexpired, verdictOf, enough]

theorem State.startUnsafe_clean {t : State} {r : StartResult} (quick : t.power.fullForm = false) (h : CleanStart r) :
    t.startUnsafe r [] = false := by
  obtain ⟨-, -, -, -, link, -⟩ := h
  simp [State.startUnsafe, quick, link, verdictOf]

theorem State.startReported_clean {s : State} {r : StartResult} (quick : s.power.fullForm = false) (h : CleanStart r)
    (whole : VotingWhole s.vote) (cores : 2 ≤ ((List.range 4).filter s.coreHealthy).length) :
    s.startReported r = (s.startTested r).event 0xA002 .cl .info 0 0 r.durationMs := by
  have form : (s.startTested r).power.fullForm = false := by simp [State.startTested_frame, quick]
  have full : (s.startTested r).fullRestart = s.startTested r := by
    unfold State.fullRestart
    simp [form]
  have passed : resultOf [] = 0 ∧ firstNotPassed [] = 0 := by decide
  simp only [State.startReported, State.startSeverity, State.startResult, State.startCause_clean quick h whole cores,
    State.startVerdicts_clean quick h, State.startUnsafe_clean form h, full, passed]
  simp

/-- A passed start-up test of a power-up outside OPERATIONAL, or without station data, ends in STOP (R57, R376). -/
theorem State.startPassed_stop {s : State} (dwell : s.vote.dwellExpired = false) (cause : s.power.cause = .powerOn)
    (life : s.lifecycle ≠ 3 ∨ s.station = none) (waiting : s.eng.waiting = []) :
    s.startPassed false = { s with power := { s.power with
      state := .stop, ledTest := false, readyOff := false, wasSafe := false, testPassed := false,
      testPassedUs := s.opUs } } := by
  have refused (t : State) (ht : t.eng = s.eng) (a b : Nat) : t.startRefused a b = t := by
    simp [State.startRefused, ht, waiting]
  have life' (t : State) (ht : t.sec = s.sec) : t.lifecycle = s.lifecycle := by simp only [State.lifecycle, ht]
  simp only [State.startPassed, dwell, Bool.false_eq_true, if_false]
  split
  · rw [refused]
    · rfl
    · rfl
  next station =>
    rw [if_pos]
    · rfl
    · rcases life with life | none
      · rw [life']
        · simp [cause, life]
        · rfl
      · simp [none] at station

/-- A clean quick start-up test at a power-up outside OPERATIONAL, or without station data, ends in STOP. -/
theorem execStartUpTestDone_clean {s : State} {r : StartResult} (start : s.power.state = .start)
    (dark : s.power.ledTest = false) (untested : s.power.testPassed = false) (alive : s.power.dead = false)
    (quick : s.power.fullForm = false) (cause : s.power.cause = .powerOn) (notSafe : s.power.wasSafe = false)
    (free : s.power.lockoutCause = 0) (dwell : s.vote.dwellExpired = false) (life : s.lifecycle ≠ 3 ∨ s.station = none)
    (waiting : s.eng.waiting = []) (whole : VotingWhole s.vote)
    (cores : 2 ≤ ((List.range 4).filter s.coreHealthy).length) (h : CleanStart r) :
    ∃ t, exec (.startUpTestDone r) s = .next t ∧ t.power.state = .stop ∧ t.power.readyOff = false ∧
      Recorded s t 0xA002 0 0 r.durationMs ∧ t.vote.cores = s.vote.cores ∧ t.vote.lanes = s.vote.lanes ∧
      t = { s with power := t.power, field := t.field, vote := t.vote, test := t.test, recorder := t.recorder,
                   hi := mirrorOf s t } := by
  have vote : (s.startSources []).vote = s.vote := by simp [State.startSources_frame]
  obtain ⟨whole', hcores, hlanes, -, hdwell, -⟩ := State.settleSlots_whole (s := s.startSources []) (by rwa [vote])
  rw [vote] at hcores hlanes hdwell
  generalize hu : (s.startSources []).settleSlots = u at whole' hcores hlanes hdwell
  rw [State.startSources_clean] at whole'
  have reported : s.startReported r = u.event 0xA002 .cl .info 0 0 r.durationMs := by
    rw [State.startReported_clean quick h whole cores, State.startTested_clean quick h, hu]
  have noF3 : (s.startTested r).startUnsafe r (s.startVerdicts r) = false := by
    rw [State.startVerdicts_clean quick h]
    exact State.startUnsafe_clean (by simp [State.startTested_frame, quick]) h
  have judged : s.startDoneWith r = (u.event 0xA002 .cl .info 0 0 r.durationMs).startPassed false := by
    have noCheck : s.checkStation = s := by simp [State.checkStation, cause]
    rw [State.startDoneWith, noCheck, State.startJudged_eq, State.startCause_clean quick h whole cores, reported, noF3]
    simp [free, notSafe, quick]
  have run : exec (.startUpTestDone r) s =
      .next ((u.event 0xA002 .cl .info 0 0 r.durationMs).startPassed false).settle := by
    rw [← judged]
    exact congrArg (fun u : State => Host.Outcome.next u.settle)
      (if_pos (by simp [start, dark, untested, alive]))
  refine ⟨_, run, ?_⟩
  rw [State.startPassed_stop (by simp [State.event_frame, hdwell, dwell]) (by rw [whole']; exact cause)
    (by rw [whole']; exact life) (by rw [whole']; exact waiting)]
  refine ⟨by simp, by simp, ?_, by simpa [State.settle_frame, State.event_frame] using hcores,
    by simpa [State.settle_frame, State.event_frame] using hlanes, ?_⟩
  · exact recorded_settle (recorded_framed (State.event_recorded (t := u) (by rw [whole']) (by rw [whole'])
      (by rw [whole']) 0xA002 .cl .info 0 0 r.durationMs false) rfl)
  · rw [State.settle_eq]
    rw [whole']
    rfl

end Sys2Proof.Machine
end

section
/-! PROOF. The statement about START. -/

namespace Sys2Proof.Proofs

open Sys2Proof Sys2Proof.Machine Sys2Proof.Safety

/-- Settles O10: the LED test, a clean quick test, one whose comparators are wrong, and the missing confirmation. -/
theorem startRuns : Obligations.StartRuns := by
  unfold Obligations.StartRuns
  refine ⟨fun s start lit due => execLedTestEnd_due start lit due, ?_, ?_, ?_⟩
  · intro r s start dark untested alive quick cause notSafe free dwell life waiting whole cores clean
    exact execStartUpTestDone_clean start dark untested alive quick cause notSafe free dwell life waiting whole cores clean
  · intro r s start dark untested alive free planted
    exact execStartUpTestDone_planted start dark untested alive free planted
  · intro s start passed silent due enters
    exact execFieldConfigTimeout_entersSafe start passed silent due enters

end Sys2Proof.Proofs
end

section
/-! PROOF. How the cluster's commands are accepted, completed and recorded (R126, R327 to R330, R348). -/

namespace Sys2Proof.Machine

open Sys2Proof Sys2Proof.Safety

/-! ### Acceptance -/

/-- Naming a live session keeps it alive, so that the session and its role are found as before (R348). -/
@[simp] theorem State.heard_roleOf (s : State) (q : Req) : (s.heard q).roleOf q = s.roleOf q := by
  simp only [State.roleOf, State.sessionOf, State.heard, List.find?_map, Option.map_map]
  congr 2
  · funext x
    simp only [Function.comp]
    split <;> rfl
  · congr 1
    funext x
    simp only [Function.comp]
    split
    next h => simp_all
    next => rfl

theorem State.clCommand_accepted {s : State} {q : Req} {op : Nat} {v : Option Status} (live : s.mailboxLive = true)
    (h : v = none) (k : State → State) : s.clCommand q op v k = k (s.heard q) := by
  simp [State.clCommand, live, h]

/-- In RUN and in STOP the mailbox works while the firmware runs (R373, R418). -/
theorem mailboxLive_of_reads {s : State} (h : BenchReads s) : s.mailboxLive = true := by
  obtain ⟨hp, hd, -⟩ := h
  rcases hp with hp | hp <;> simp [State.mailboxLive, hp, hd, PowerState.powered]

theorem benchReads_of_open {s : State} (h : BenchOpen s) : BenchReads s := ⟨.inl h.1, h.2⟩

/-- Where the bench's queries answer, every opcode of the bench is open (R331). -/
theorem openTo_of_reads {s : State} (h : BenchReads s) (op : Nat) (hop : opGroup op ≤ 5) : s.openTo op = true := by
  obtain ⟨hp, -, hs, hl⟩ := h
  have : opGroup op ≠ 7 ∧ opGroup op ≠ 8 := by omega
  rcases hp with hp | hp <;> simp [State.openTo, hp, hs, hl]

/-! ### Completion -/

theorem State.complete_run {s : State} (h : s.power.state = .run) (op : Nat) (q : Req) (p0 : Nat) :
    s.complete op q .ok p0 =
      { s with bench := { s.bench with completions := s.bench.completions ++ [done q op .ok p0] } } := if_pos h

theorem State.complete_halted_bench {s : State} (h : s.power.state ≠ .run) (op : Nat) (q : Req) (st : Status) (p0 p1 : Nat)
    (data : List Byte) : (s.complete op q st p0 p1 data).bench = s.bench := by
  simp [State.complete, h, State.deliver_frame]

end Sys2Proof.Machine
end

section
/-! PROOF. The commands that start and stop the bench (R210, R340). -/

namespace Sys2Proof.Machine

open Sys2Proof Sys2Proof.Safety

/-! ### START as a start command begins it -/

/-- Fencing crossings and evaluating Ashlar only append to the recorder's inbox. -/
theorem State.fence_inboxKept {s t : State} (h : InboxKept s t) (x : Crossing) : InboxKept s (t.fence x) := by
  simp only [State.fence]
  split
  · exact h
  · exact (h.framed (u := t.setXing x { t.xing x with linkDown := true, stale := true, downUs := t.opUs })
      (by simp [State.setXing])).event _ _ _ _ _ _ _

theorem State.ashEval_inboxKept (s : State) : InboxKept s s.ashEval := by
  simp only [State.ashEval]
  refine InboxKept.foldl (fun t n h => ?_) ?_ _
  · split
    · exact h
    · exact h.event _ _ _ _ _ _ _
  · exact List.prefix_refl _

theorem State.beginStart_inboxKept (s : State) (cause : StartCause) (leaving : Bool) :
    InboxKept s (s.beginStart cause leaving) := by
  have reset (t : State) : InboxKept t t.resetAshlar := by
    refine InboxKept.foldl (f := State.fence) (fun _ x h => State.fence_inboxKept h x) ?_ _
    exact State.ashEval_inboxKept { t with ash := { t.ash.reset with
      inSeq := t.field.ashSent - 1, outSeq := t.field.ashSeq + 1 } }
  refine List.IsPrefix.trans ?_ (reset _)
  simp [State.bootStores_frame, State.selectLanes_frame]

theorem State.putRepair_repair (s : State) (f : Repair → Repair) : (s.putRepair f).repair = f s.repair := by
  simp [State.putRepair, State.repair, Dup.put, Dup.current]

/-- Lane 3 serves in place of a faulty lane once the repair record has it, and is then soft (R178). -/
theorem State.selectLanes_repair (s : State) : s.selectLanes.repair = { s.repair with
    laneSoft := s.repair.laneSoft || (s.repair.laneMap.contains 3 && !s.repair.laneFused) } := by
  simp only [State.selectLanes]
  split
  next h =>
    rw [State.putRepair_repair]
    simp_all [State.repair]
  next h =>
    have same : (s.repair.laneSoft || (s.repair.laneMap.contains 3 && !s.repair.laneFused)) = s.repair.laneSoft := by
      cases hs : s.repair.laneSoft <;> simp_all
    rw [same]
    rfl

theorem State.beginStart_vote (s : State) (cause : StartCause) (leaving : Bool) :
    (s.beginStart cause leaving).vote = { s.vote with
      lanes := s.repair.laneMap, lastAccuse := 0xFFFFFFFF
      stores := s.vote.stores.map (fun _ => { itcm := s.firmwareTcm, written := true }) } := by
  simp only [State.beginStart, State.resetAshlar_frame, State.bootStores, State.selectLanes]
  split <;> rfl

theorem State.beginStart_test (s : State) (cause : StartCause) (leaving : Bool) :
    (s.beginStart cause leaving).test = { s.test with repair := (s.beginStart cause leaving).test.repair } := by
  simp only [State.beginStart, State.resetAshlar_frame, State.bootStores, State.selectLanes]
  split <;> rfl

theorem State.beginStart_repair (s : State) (cause : StartCause) (leaving : Bool) :
    (s.beginStart cause leaving).repair = { s.repair with
      laneSoft := s.repair.laneSoft || (s.repair.laneMap.contains 3 && !s.repair.laneFused) } := by
  have kept (t : State) : t.bootStores.resetAshlar.repair = t.repair := by
    simp only [State.repair, State.resetAshlar_frame, State.bootStores_frame]
  unfold State.beginStart
  rw [kept, State.selectLanes_repair]
  rfl

theorem State.beginStart_net (s : State) (cause : StartCause) (leaving : Bool) :
    (s.beginStart cause leaving).net = { s.net with listed := [], heardTelegram := false } := by
  simp [State.beginStart, State.resetAshlar_frame, State.bootStores_frame, State.selectLanes_frame]

/-- What a start command leaves as it is: all but START's own fields and what the command entered before. -/
theorem beginStart_leaves {s u : State}
    (hu : u = { s with eng := u.eng, recorder := u.recorder, mg := { s.mg with sessions := u.mg.sessions } })
    (cause : StartCause) (leaving : Bool) :
    let t := (u.beginStart cause leaving).settle
    t = { s with power := t.power, vote := t.vote, test := { s.test with repair := t.test.repair }, net := t.net,
                 eng := t.eng, bench := t.bench, ash := t.ash, xings := t.xings, recorder := t.recorder,
                 mg := { s.mg with sessions := t.mg.sessions }, hi := mirrorOf s t } := by
  intro t
  have mirrored : t.hi = mirrorOf s t := by
    have hi : (u.beginStart cause leaving).hi = s.hi := by
      rw [hu]
      simp only [State.beginStart_frame]
    simp only [t, mirrorOf, ← hi]
    rw [State.settle_eq]
  have tested : t.test = { s.test with repair := t.test.repair } := by
    have test : u.test = s.test := by rw [hu]
    simp only [t, State.settle_frame]
    rw [State.beginStart_test, test]
  have sessions : t.mg = { s.mg with sessions := t.mg.sessions } := by
    simp only [t, State.settle_frame, State.beginStart_frame]
    rw [hu]
  apply State.ext
  case hi => exact mirrored
  case test => exact tested
  case mg => exact sessions
  all_goals simp only [t, State.settle_frame, State.beginStart_frame]
  all_goals rw [hu]

/-- A start command begins START as R24, R375 and R401 say, whatever it entered before that. -/
theorem beginStart_startBegins {s u : State}
    (hu : u = { s with eng := u.eng, recorder := u.recorder, mg := { s.mg with sessions := u.mg.sessions } })
    (cause : StartCause) (leaving : Bool) : StartBegins s (u.beginStart cause leaving).settle cause := by
  have hrepair : u.repair = s.repair := by rw [hu]; rfl
  have htcm : u.firmwareTcm = s.firmwareTcm := by rw [hu]; rfl
  obtain ⟨disarmed, unlatched, withheld, empty⟩ := u.beginStart_ash cause leaving
  have repaired : (u.beginStart cause leaving).settle.repair = (u.beginStart cause leaving).repair := by
    simp only [State.repair, State.settle_frame]
  unfold StartBegins
  refine ⟨?_, ?_, ?_, ?_, ?_, ?_, ?_, ?_, ?_, beginStart_leaves hu cause leaving⟩
  · rw [State.settle_power, State.beginStart_power, hu]
  · simp only [State.settle_frame, State.beginStart_vote, hrepair, htcm]
    rw [hu]
  · rw [repaired, State.beginStart_repair, hrepair]
  · simp only [State.settle_frame, State.beginStart_net]
    rw [hu]
  · simp only [State.settle_frame, State.beginStart_bench]
    rw [hu]
  · rw [State.settle_ash, disarmed]
  · rw [State.settle_ash, unlatched]
  · rw [State.settle_ash, withheld]
  · rw [State.settle_ash, empty]

/-! ### BENCH_START, BENCH_STOP, BENCH_RESTART -/

theorem execBenchStart_accepted {s : State} {q : Req} (stopped : s.power.state = .stop) (alive : s.power.dead = false)
    (data : s.station.isSome = true) (life : s.benchLifecycle = true) (role : s.holds q (some .maintainer) = true)
    (dwell : s.vote.dwellExpired = false) :
    ∃ t, exec (.benchStart q) s = .next t ∧ StartBegins s t .benchStart ∧
      t.eng.waiting = s.eng.waiting ++ [.benchStart q] ∧ t.eng.routes = s.eng.routes := by
  have live : s.mailboxLive = true := by simp [State.mailboxLive, stopped, alive, PowerState.powered]
  have notRetired : s.lifecycle ≠ 5 := by
    intro h
    simp [State.benchLifecycle, h] at life
  have accepted : s.judge q 0x0401 false (s.power.state == .stop && s.benchLifecycle) (some .maintainer) false true = none :=
    State.judge_eq_none.mpr ⟨rfl, openTo_of_reads ⟨.inr stopped, alive, data, notRetired⟩ _ (by decide), by
      simp [stopped, life], role, by simp, rfl⟩
  have run : exec (.benchStart q) s =
      .next (((s.heard q).await (.benchStart q)).beginStart .benchStart false).settle := by
    simp only [exec, execBenchStart, State.decideBenchStart]
    rw [State.clCommand_accepted live accepted, if_neg (by simp [State.heard_frame, dwell])]
  refine ⟨_, run, beginStart_startBegins rfl _ _, ?_, ?_⟩
  · simp only [State.settle_frame, State.beginStart_eng]
    rfl
  · simp only [State.settle_frame, State.beginStart_eng]
    rfl

theorem execBenchStop_accepted {s : State} {q : Req} (benchOpen : BenchOpen s) (role : s.holds q (some .maintainer) = true) :
    ∃ t, exec (.benchStop q) s = .next t ∧
      t = { s with bench := { s.bench with stopping := true },
                   eng := { s.eng with waiting := s.eng.waiting ++ [.benchStop q] },
                   mg := { s.mg with sessions := t.mg.sessions }, hi := mirrorOf s t } := by
  have reads := benchReads_of_open benchOpen
  have accepted : s.judge q 0x0402 false (s.power.state == .run) (some .maintainer) false true = none :=
    State.judge_eq_none.mpr ⟨rfl, openTo_of_reads reads _ (by decide), by simp [benchOpen.1], role, by simp, rfl⟩
  refine ⟨_, rfl, ?_⟩
  unfold State.decideBenchStop
  rw [State.clCommand_accepted (mailboxLive_of_reads reads) accepted, State.settle_eq]
  rfl

/-- BENCH_RESTART in SAFE, with station data in a life-cycle state of the bench or in stand-alone operation, comes to
its own conditions (R20, R210, R331). -/
theorem benchRestart_judged {s : State} {q : Req} (safe : s.power.state = .safe)
    (life : s.benchLifecycle = true ∨ s.station = none) (notRetired : s.lifecycle ≠ 5)
    (role : s.holds q (some .maintainer) = true) :
    s.judge q 0x0403 false (s.power.state == .safe && (s.benchLifecycle || s.station.isNone)) (some .maintainer) false
      true = none := by
  have isOpen : s.openTo 0x0403 = true := by simp [State.openTo, safe, notRetired, opGroup]
  exact State.judge_eq_none.mpr ⟨rfl, isOpen, by rcases life with h | h <;> simp [safe, h], role, by simp, rfl⟩

theorem mailboxLive_of_safe {s : State} (safe : s.power.state = .safe) (alive : s.power.dead = false) :
    s.mailboxLive = true := by
  simp [State.mailboxLive, safe, alive, PowerState.powered]

theorem State.heard_restartRefusal (s : State) (q : Req) : (s.heard q).restartRefusal = s.restartRefusal := by
  simp only [State.restartRefusal, State.healthyCores, State.core, State.heard_frame]
  rfl

theorem firstReport_of_inboxKept {s u t : State} {code a b c : Nat} {src : Source} {sev : Severity} {x : Bool}
    (hu : u.recorder = s.recorder) (h : InboxKept (u.event code src sev a b c x) t) : FirstReport s t code a b c := by
  obtain ⟨l, hl⟩ := h
  exact ⟨_, l, by rw [← hl, State.event_recorder, hu, List.append_assoc]; rfl, rfl, rfl, rfl, rfl⟩

theorem execBenchRestart_accepted {s : State} {q : Req} (safe : s.power.state = .safe) (alive : s.power.dead = false)
    (life : s.benchLifecycle = true) (role : s.holds q (some .maintainer) = true) (clear : s.restartRefusal = none) :
    ∃ t, exec (.benchRestart q) s = .next t ∧ StartBegins s t .benchRestart ∧ FirstReport s t 0x0102 0 0 0 ∧
      t.eng.waiting = s.eng.waiting ++ [.benchRestart q] := by
  have notRetired : s.lifecycle ≠ 5 := by
    intro h
    simp [State.benchLifecycle, h] at life
  have run : exec (.benchRestart q) s =
      .next ((((s.heard q).event 0x0102 .cl .info).await (.benchRestart q)).beginStart .benchRestart true).settle := by
    simp only [exec, execBenchRestart, State.decideBenchRestart]
    rw [State.clCommand_accepted (mailboxLive_of_safe safe alive)
      (benchRestart_judged safe (.inl life) notRetired role), State.heard_restartRefusal, clear]
  refine ⟨_, run, beginStart_startBegins rfl _ _, ?_, ?_⟩
  · have kept := State.beginStart_inboxKept (((s.heard q).event 0x0102 .cl .info).await (.benchRestart q)) .benchRestart true
    exact firstReport_of_inboxKept (u := s.heard q) (src := .cl) (sev := .info) (x := false) rfl
      (kept.framed (by simp only [State.settle_frame]))
  · simp only [State.settle_frame, State.beginStart_eng]
    rfl

/-- In stand-alone operation BENCH_RESTART passes its state check and is refused for the data (R20, R210). -/
theorem execBenchRestart_noData {s : State} {q : Req} (safe : s.power.state = .safe) (alive : s.power.dead = false)
    (noData : s.station = none) (notRetired : s.lifecycle ≠ 5) (role : s.holds q (some .maintainer) = true) :
    exec (.benchRestart q) s = .next ((s.heard q).complete 0x0403 q .refused 0x0422 0).settle := by
  have refused : s.restartRefusal = some (0x0422, 0) := by simp [State.restartRefusal, noData]
  simp only [exec, execBenchRestart, State.decideBenchRestart]
  rw [State.clCommand_accepted (mailboxLive_of_safe safe alive)
    (benchRestart_judged safe (.inr noData) notRetired role), State.heard_restartRefusal, refused]

end Sys2Proof.Machine
end

section
/-! PROOF. Forcing (R141 to R151). -/

namespace Sys2Proof.Machine

open Sys2Proof Sys2Proof.Safety

/-! ### A change of the force table -/

theorem State.changeForce_run {s : State} (h : s.power.state = .run) (c : ForceChange) :
    s.changeForce c = { s with bench := { s.bench with newForces := s.bench.newForces ++ [c] } } :=
  if_pos (by simp [State.inRun, h])

theorem State.changeForce_halted {s : State} (h : s.power.state ≠ .run) (c : ForceChange) :
    (s.changeForce c).bench.forces = c.apply s.bench.forces ∧
      (s.changeForce c).bench.forcedShown = !(c.apply s.bench.forces).isEmpty := by
  simp [State.changeForce, State.inRun, h, State.putForces, State.showForcing]

/-- A command of forcing changed nothing but the bench, the recorder and what is delivered (R145, R149). -/
def ForcesOnly (s t : State) : Prop :=
  t = { s with bench := t.bench, recorder := t.recorder, mg := t.mg, hi := t.hi, outbox := t.outbox }

/-- A change of the force table answered, after the events and notes that tell of it (R126, R145). -/
theorem changed_forcesOnly {s u : State} (hu : ForcesOnly s u) (c : ForceChange) (op : Nat) (q : Req) (p0 : Nat) :
    ForcesOnly s ((u.changeForce c).complete op q .ok p0).settle := by
  apply State.ext
  all_goals simp only [State.settle_frame, State.complete_frame, State.changeForce_frame]
  all_goals rw [hu]

/-- In RUN a change waits for the next freeze, and its completion for phase O (R126, R145). -/
theorem changed_run {u : State} (run : u.power.state = .run) (c : ForceChange) (op : Nat) (q : Req) (p0 : Nat) :
    ((u.changeForce c).complete op q .ok p0).settle.bench = { u.bench with
      newForces := u.bench.newForces ++ [c], completions := u.bench.completions ++ [done q op .ok p0] } := by
  rw [State.changeForce_run run, State.complete_run (by exact run)]
  simp only [State.settle_frame]

/-- In STOP a change takes effect at once, with its indication (R146, R149). -/
theorem changed_halted {u : State} (halted : u.power.state ≠ .run) (c : ForceChange) (op : Nat) (q : Req) (p0 : Nat) :
    ((u.changeForce c).complete op q .ok p0).settle.bench.forces = c.apply u.bench.forces ∧
      ((u.changeForce c).complete op q .ok p0).settle.bench.forcedShown = !(c.apply u.bench.forces).isEmpty := by
  have still : (u.changeForce c).power.state ≠ .run := by simpa only [State.changeForce_frame] using halted
  simp only [State.settle_frame, State.complete_halted_bench still]
  exact State.changeForce_halted halted c

theorem changed_recorder (u : State) (c : ForceChange) (op : Nat) (q : Req) (p0 : Nat) :
    ((u.changeForce c).complete op q .ok p0).settle.recorder = u.recorder := by
  simp only [State.settle_frame, State.complete_frame, State.changeForce_frame]

/-! ### FORCE_SET -/

/-- The entry that a FORCE_SET makes (R142, R145). -/
def State.newForce (s : State) (q : Req) (kind target : Nat) : Force :=
  { kind := kind, target := target, value := q.p1, role := s.roleOf q, setTimeS := s.opS,
    setCycle := if s.inRun then (s.bench.cycle + 1) % 2 ^ 32 else 0xFFFFFFFF }

theorem State.forceOpen_of_reads {s : State} (reads : BenchReads s) (life : s.lifecycle = 2 ∨ s.lifecycle = 4) :
    s.forceOpen = true := by
  obtain ⟨hp, -⟩ := reads
  rcases hp with hp | hp <;> rcases life with life | life <;> simp [State.forceOpen, hp, life]

theorem State.heard_forceRefusal (s : State) (q : Req) (kind target value : Nat) :
    (s.heard q).forceRefusal kind target value = s.forceRefusal kind target value := rfl

/-- A FORCE_SET on a target that carries no force, accepted (R145, R151). -/
theorem execForceSet_eq {s : State} {q : Req} {kind target : Nat} (reads : BenchReads s)
    (life : s.lifecycle = 2 ∨ s.lifecycle = 4) (role : s.holds q (some .maintainer) = true)
    (p0 : q.p0 = kind + target * 65536) (kindLow : 1 ≤ kind) (kindHigh : kind ≤ 3) (value : q.p1 < 256)
    (present : s.forceAbsent kind target = false) (allowed : s.forceRefusal kind target q.p1 = none)
    (fresh : s.bench.nextForces.find? (fun x => x.kind == kind && x.target == target) = none) :
    exec (.forceSet q) s = .next (((((s.heard q).forceSetNote (s.newForce q kind target)).changeForce
      (.set (s.newForce q kind target))).complete 0x0410 q .ok).settle) := by
  have hkind : q.p0 % 256 = kind := by omega
  have hzero : q.p0 / 256 % 256 = 0 := by omega
  have htarget : q.p0 / 65536 = target := by omega
  have accepted : s.judge q 0x0410 (s.forceAbsent kind target) s.forceOpen (some .maintainer) false
      (1 ≤ kind && kind ≤ 3 && q.p0 / 256 % 256 == 0 && q.p1 < 256) = none :=
    State.judge_eq_none.mpr ⟨present, openTo_of_reads reads _ (by decide), State.forceOpen_of_reads reads life, role,
      by simp, by simp [kindLow, kindHigh, hzero, value]⟩
  simp only [exec, execForceSet, State.decideForceSet, hkind, htarget]
  rw [State.clCommand_accepted (mailboxLive_of_reads reads) accepted, State.heard_forceRefusal, allowed]
  simp only [State.heard_frame, fresh, State.heard_roleOf]
  rfl

/-- Telling of a new force writes one record and leaves the force tables and the completions. -/
theorem State.forceSetNote_bench (s : State) (f : Force) :
    (s.forceSetNote f).bench.forces = s.bench.forces ∧ (s.forceSetNote f).bench.newForces = s.bench.newForces ∧
      (s.forceSetNote f).bench.completions = s.bench.completions := by
  simp [State.forceSetNote, State.noteCluster_bench_frame, State.event_frame]

theorem execForceSet_accepted {s : State} {q : Req} {kind target : Nat} (reads : BenchReads s)
    (life : s.lifecycle = 2 ∨ s.lifecycle = 4) (role : s.holds q (some .maintainer) = true)
    (p0 : q.p0 = kind + target * 65536) (kindLow : 1 ≤ kind) (kindHigh : kind ≤ 3) (value : q.p1 < 256)
    (present : s.forceAbsent kind target = false) (allowed : s.forceRefusal kind target q.p1 = none)
    (fresh : s.bench.nextForces.find? (fun x => x.kind == kind && x.target == target) = none) :
    ∃ t f, exec (.forceSet q) s = .next t ∧ f.kind = kind ∧ f.target = target ∧ f.value = q.p1 ∧
      f.role = s.roleOf q ∧ FirstReport s t 0x1060 kind target (q.p1 + s.roleOf q * 256) ∧
      (s.power.state = .run → t.bench.forces = s.bench.forces ∧ t.bench.newForces = s.bench.newForces ++ [.set f] ∧
        t.bench.completions = s.bench.completions ++ [done q 0x0410 .ok]) ∧
      (s.power.state = .stop → t.bench.forces = ForceChange.apply s.bench.forces (.set f) ∧ f ∈ t.bench.forces ∧
        t.bench.forcedShown = true) ∧
      t = { s with bench := t.bench, recorder := t.recorder, mg := t.mg, hi := t.hi, outbox := t.outbox } := by
  refine ⟨_, s.newForce q kind target, execForceSet_eq reads life role p0 kindLow kindHigh value present allowed fresh,
    rfl, rfl, rfl, rfl, ?_, ?_, ?_, ?_⟩
  · have told : InboxKept ((s.heard q).event 0x1060 .cl .info kind target (q.p1 + s.roleOf q * 256))
        ((s.heard q).forceSetNote (s.newForce q kind target)) := by
      simp [InboxKept, State.forceSetNote, State.noteCluster_frame, State.newForce]
    exact firstReport_of_inboxKept (by simp only [State.heard_frame]) (told.framed (changed_recorder ..))
  · intro run
    rw [changed_run (by simpa only [State.forceSetNote_frame, State.heard_frame] using run)]
    simp [State.forceSetNote_bench, State.heard_frame]
  · intro stopped
    obtain ⟨forces, shown⟩ := changed_halted (u := (s.heard q).forceSetNote (s.newForce q kind target))
      (by simp [State.forceSetNote_frame, State.heard_frame, stopped]) (.set (s.newForce q kind target)) 0x0410 q 0
    rw [forces, shown]
    simp [State.forceSetNote_bench, State.heard_frame, ForceChange.apply]
  · refine changed_forcesOnly ?_ _ _ _ _
    apply State.ext <;> simp only [State.forceSetNote_frame, State.heard_frame]

/-! ### FORCE_CLEAR -/

/-- A FORCE_CLEAR of the whole table, accepted (R145, R340). -/
theorem execForceClear_eq {s : State} {q : Req} (reads : BenchReads s) (life : s.lifecycle = 2 ∨ s.lifecycle = 4)
    (role : s.holds q (some .maintainer) = true) (kind : q.p0 % 256 = 0xFF) (zero : q.p0 / 256 % 256 = 0) :
    exec (.forceClear q) s = .next ((((s.bench.nextForces.foldl (fun s f => s.forceEnded f 1) (s.heard q)).changeForce
      .clearAll).complete 0x0411 q .ok s.bench.nextForces.length).settle) := by
  have accepted : s.judge q 0x0411 (s.forceAbsent 0xFF (q.p0 / 65536)) s.forceOpen (some .maintainer) false
      (((1 ≤ 0xFF && 0xFF ≤ 3) || 0xFF == 0xFF) && q.p0 / 256 % 256 == 0) = none :=
    State.judge_eq_none.mpr ⟨rfl, openTo_of_reads reads _ (by decide), State.forceOpen_of_reads reads life, role,
      by simp, by simp [zero]⟩
  simp only [exec, execForceClear, State.decideForceClear, kind]
  rw [State.clCommand_accepted (mailboxLive_of_reads reads) accepted]
  rfl

/-- Every end of a force is told with one record and leaves the force tables and the completions. -/
theorem forcesEnded (l : List Force) (s : State) :
    let t := l.foldl (fun s f => s.forceEnded f 1) s
    t.bench.forces = s.bench.forces ∧ t.bench.newForces = s.bench.newForces ∧
      t.bench.completions = s.bench.completions ∧ t.recorder.inbox.length = s.recorder.inbox.length + l.length ∧
      t.power = s.power ∧ t = { s with bench := t.bench, recorder := t.recorder, hi := t.hi, outbox := t.outbox } := by
  induction l generalizing s with
  | nil => exact ⟨rfl, rfl, rfl, rfl, rfl, rfl⟩
  | cons f l ih =>
    obtain ⟨forces, new, completions, told, power, kept⟩ := ih (s.forceEnded f 1)
    have one : (s.forceEnded f 1).recorder.inbox.length = s.recorder.inbox.length + 1 := by
      simp [State.forceEnded, State.noteCluster_frame]
    simp only [State.forceEnded_bench_frame] at forces new completions
    refine ⟨forces, new, completions, ?_, ?_, ?_⟩
    · simp only [List.foldl_cons, List.length_cons, told, one]
      omega
    · simp only [List.foldl_cons, power, State.forceEnded_frame]
    · rw [List.foldl_cons, kept]
      apply State.ext <;> simp only [State.forceEnded_frame]

theorem execForceClear_accepted {s : State} {q : Req} (reads : BenchReads s) (life : s.lifecycle = 2 ∨ s.lifecycle = 4)
    (role : s.holds q (some .maintainer) = true) (kind : q.p0 % 256 = 0xFF) (zero : q.p0 / 256 % 256 = 0) :
    ∃ t, exec (.forceClear q) s = .next t ∧
      (s.power.state = .run → t.bench.forces = s.bench.forces ∧ t.bench.nextForces = [] ∧
        t.bench.completions = s.bench.completions ++ [done q 0x0411 .ok s.bench.nextForces.length]) ∧
      (s.power.state = .stop → t.bench.forces = [] ∧ t.bench.forcedShown = false) ∧
      t.recorder.inbox.length = s.recorder.inbox.length + s.bench.nextForces.length ∧
      t = { s with bench := t.bench, recorder := t.recorder, mg := t.mg, hi := t.hi, outbox := t.outbox } := by
  obtain ⟨forces, new, completions, told, power, kept⟩ := forcesEnded s.bench.nextForces (s.heard q)
  generalize hu : s.bench.nextForces.foldl (fun s f => s.forceEnded f 1) (s.heard q) = u at *
  refine ⟨_, execForceClear_eq reads life role kind zero, ?_, ?_, ?_, ?_⟩ <;> rw [hu]
  · intro run
    rw [changed_run (by rw [power]; exact run)]
    simp [forces, completions, Bench.nextForces, ForceChange.apply, State.heard_frame]
  · intro stopped
    obtain ⟨cleared, shown⟩ := changed_halted (u := u) (by rw [power]; simp [State.heard_frame, stopped]) .clearAll
      0x0411 q s.bench.nextForces.length
    exact ⟨cleared, shown⟩
  · rw [changed_recorder, told]
    simp only [State.heard_frame]
  · refine changed_forcesOnly ?_ _ _ _ _
    apply State.ext
    all_goals rw [kept]
    all_goals simp only [State.heard_frame]

end Sys2Proof.Machine
end

section
/-! PROOF. Online change of constants (R152 to R157, R341). -/

namespace Sys2Proof.Machine

open Sys2Proof Sys2Proof.Safety

theorem State.noteCluster_run {s : State} (h : s.power.state = .run) (kind : Nat) (data : List Byte) :
    s.noteCluster kind data =
      { s with bench := { s.bench with notes := s.bench.notes ++ [⟨kind, s.bench.cycle, s.opMs, data⟩] } } := if_pos h

theorem State.noteCluster_halted_bench {s : State} (h : s.power.state ≠ .run) (kind : Nat) (data : List Byte) :
    (s.noteCluster kind data).bench = s.bench := by
  simp [State.noteCluster, h, State.deliverNote_frame]

/-! ### The change log -/

/-- An entry with the number, the time and the seal pattern that the log gives it (R387). -/
def State.stamped (s : State) (e : LogEntry) : LogEntry :=
  { e with entry := s.log.length, sealPat := s.sec.sealPat.toNat, timeSet := s.calendar.2, opMs := s.opMs,
           calMs := s.calendar.1 / 1000 }

/-- A log with room takes the entry, without its own warning but at entry 235,930 (R387, R389). -/
theorem State.logChange_room {s : State} (room : s.log.length < logCapacity) (quiet : s.log.length ≠ 235930)
    (e : LogEntry) : s.logChange e = { s with log := s.log ++ [s.stamped e] } := by
  have hroom : s.logRoom 1 = true := by simpa [State.logRoom] using room
  simp only [State.logChange, hroom, if_true, quiet, if_false]
  rfl

/-! ### The constants in force -/

theorem find?_setCount (l : List (Nat × Nat)) (k v : Nat) :
    (setCount l k v).find? (fun p => p.1 == k) = some (k, v) := by
  simp [setCount]

/-- The last change of a constant is its value from then on (R154, R341). -/
theorem State.applyConstants_constant {s : State} {l : List (Nat × Nat)} {i value : Nat}
    (h : s.bench.newConstants = l ++ [(i, value)]) : s.applyConstants.constant i = value := by
  have constants : s.applyConstants.bench.constants = s.bench.nextConstants := by
    simp [State.applyConstants, State.constantTouches_frame]
  simp only [State.constant, constants, Bench.nextConstants, h, List.foldl_append, List.foldl_cons, List.foldl_nil,
    find?_setCount]

theorem State.applyConstants_newConstants (s : State) : s.applyConstants.bench.newConstants = [] := by
  simp [State.applyConstants, State.constantTouches_frame]

/-- Of the network, only what it holds for nodes changed. -/
def NodesOnly (s t : State) : Prop := t.net = { s.net with nodes := t.net.nodes }

theorem NodesOnly.foldl {α : Type} {s t : State} {f : State → α → State} (hf : ∀ t a, NodesOnly s t → NodesOnly s (f t a))
    (h : NodesOnly s t) (l : List α) : NodesOnly s (l.foldl f t) := by
  induction l generalizing t with
  | nil => exact h
  | cons a l ih => exact ih (hf t a h)

theorem NodesOnly.modNode {s t : State} (h : NodesOnly s t) (id : Nat) (f : NodeDyn → NodeDyn) :
    NodesOnly s (t.modNode id f) := by
  unfold NodesOnly State.modNode
  rw [h]

/-- Changed constants touch the receive time-outs of nodes alone (R298). -/
theorem State.applyConstants_nodesOnly (s : State) : NodesOnly s s.applyConstants := by
  refine NodesOnly.foldl (f := State.constantTouches) (fun t i h => NodesOnly.foldl (fun t n h => ?_) h _) rfl _
  split
  · exact h.modNode _ _
  · exact h

/-! ### CONSTANT_SET -/

/-- A constant's change that waits for the next freeze (R154). -/
def State.withConstant (s : State) (i value : Nat) : State :=
  { s with bench := { s.bench with newConstants := s.bench.newConstants ++ [(i, value)] } }

/-- The change-log entry of a constant's change (R153, R388). -/
def State.constantEntry (s : State) (q : Req) : LogEntry :=
  let u := s.withConstant q.p0 q.p1
  u.logBy q {
    item := 3, subject := word q.p0
    beforeCrc := { s with bench := { s.bench with constants := s.bench.nextConstants } }.constantsCrc
    afterCrc := { u with bench := { u.bench with constants := u.bench.nextConstants } }.constantsCrc
    before := word (s.nextConstant q.p0), after := word q.p1 }

/-- The notification of a constant's change (R153, R353). -/
def State.constantNote (s : State) (q : Req) : List Byte :=
  le 2 q.p0 ++ [0, 0] ++ le 4 (s.nextConstant q.p0) ++ le 4 q.p1 ++ [BitVec.ofNat 8 (s.roleOf q)]

/-- A CONSTANT_SET accepted (R153, R154): in RUN its entry waits for phase O, elsewhere it takes effect at once. -/
theorem execConstantSet_eq {s : State} {q : Req} {st : Station} (reads : BenchReads s) (life : s.benchLifecycle = true)
    (data : s.station = some st) (mode : st.changeMode = 2) (role : s.holds q (some .maintainer) = true)
    (allowed : s.constantRefusal q.p0 q.p1 = none) (room : s.log.length + s.bench.newLog.length < logCapacity) :
    let h := s.heard q
    let u := h.withConstant q.p0 q.p1
    exec (.constantSet q) s = .next ((if s.inRun then
        { u with bench := { u.bench with newLog := u.bench.newLog ++ [h.constantEntry q] } }.noteCluster 0x0107
          (h.constantNote q)
      else ((u.constantLogged (h.constantEntry q)).noteCluster 0x0107 (h.constantNote q)).applyConstants).complete
        0x0501 q .ok).settle := by
  have stateOk : ((s.power.state == .run || s.power.state == .stop)
      && (s.lifecycle == 2 || s.lifecycle == 3 || s.lifecycle == 4)
      && ((s.station.map Station.changeMode).getD 0) == 2) = true := by
    have bench : (s.lifecycle == 2 || s.lifecycle == 3 || s.lifecycle == 4) = true := life
    obtain ⟨hp, -⟩ := reads
    rw [bench, data]
    rcases hp with hp | hp <;> simp [hp, mode]
  have accepted : s.judge q 0x0501 false _ (some .maintainer) false true = none :=
    State.judge_eq_none.mpr ⟨rfl, openTo_of_reads reads _ (by decide), stateOk, role, by simp, rfl⟩
  have fits : (s.heard q).logRoom ((s.heard q).bench.newLog.length + 1) = true := by
    simp only [State.logRoom, State.heard_frame, decide_eq_true_eq]
    omega
  have passed : (s.heard q).constantRefusal q.p0 q.p1 = none := allowed
  have heardRun : (s.heard q).inRun = s.inRun := rfl
  simp only [exec, execConstantSet, State.decideConstantSet]
  rw [State.clCommand_accepted (mailboxLive_of_reads reads) accepted]
  simp only [passed, fits, heardRun]
  cases s.inRun <;> rfl

theorem execConstantSet_run {s : State} {q : Req} {st : Station} (run : s.power.state = .run) (reads : BenchReads s)
    (life : s.benchLifecycle = true) (data : s.station = some st) (mode : st.changeMode = 2)
    (role : s.holds q (some .maintainer) = true) (allowed : s.constantRefusal q.p0 q.p1 = none)
    (room : s.log.length + s.bench.newLog.length < logCapacity) :
    ∃ t, exec (.constantSet q) s = .next t ∧ t.log = s.log ∧
      t.bench.newLog = s.bench.newLog ++ [(s.heard q).constantEntry q] ∧ t.recorder = s.recorder ∧
      t.bench.constants = s.bench.constants ∧ t.bench.newConstants = s.bench.newConstants ++ [(q.p0, q.p1)] ∧
      t.bench.completions = s.bench.completions ++ [done q 0x0501 .ok] ∧
      t = { s with log := t.log, bench := t.bench, recorder := t.recorder, net := { s.net with nodes := t.net.nodes },
                   mg := t.mg, hi := t.hi, outbox := t.outbox } := by
  refine ⟨_, execConstantSet_eq reads life data mode role allowed room, ?_⟩
  rw [if_pos (by simp [State.inRun, run]), State.noteCluster_run (by exact run), State.complete_run (by exact run),
    State.settle_eq]
  exact ⟨rfl, rfl, rfl, rfl, rfl, rfl, rfl⟩

theorem word_toNat (w : Word) : word w.toNat = w := BitVec.ofNat_toNat _ w |>.trans (BitVec.setWidth_eq w)

/-- A record keeps of its parameters what a word holds (R354). -/
theorem recorded_words {s t : State} {code : Nat} {a b c : Nat}
    (h : Recorded s t code (word a).toNat (word b).toNat (word c).toNat) : Recorded s t code a b c := by
  simpa only [Recorded, word_toNat] using h

/-- A constant's change told: its entry in a log with room, and one record (R153). -/
theorem State.constantLogged_room {s : State} (room : s.log.length < logCapacity) (quiet : s.log.length ≠ 235930)
    (e : LogEntry) : (s.constantLogged e).log = s.log ++ [s.stamped e] ∧
      Recorded s (s.constantLogged e) 0x1070 e.subject.toNat e.before.toNat e.after.toNat := by
  unfold State.constantLogged
  rw [State.logChange_room room quiet]
  exact ⟨rfl, State.event_recorded rfl rfl rfl ..⟩

/-- In STOP the change is told, notified and in effect at once (R154). -/
def State.constantDone (s : State) (q : Req) : State :=
  let h := s.heard q
  (((h.withConstant q.p0 q.p1).constantLogged (h.constantEntry q)).noteCluster 0x0107 (h.constantNote q)).applyConstants

theorem State.constantDone_bench {s : State} (stopped : s.power.state = .stop) (q : Req) :
    (s.constantDone q).constant q.p0 = q.p1 ∧ (s.constantDone q).bench.newConstants = [] := by
  have still : ((s.heard q).withConstant q.p0 q.p1 |>.constantLogged ((s.heard q).constantEntry q)).power.state ≠ .run := by
    simp [State.constantLogged_frame, State.withConstant, State.heard_frame, stopped]
  refine ⟨State.applyConstants_constant (l := s.bench.newConstants) ?_, State.applyConstants_newConstants _⟩
  rw [State.noteCluster_halted_bench still]
  simp only [State.constantLogged_frame, State.withConstant, State.heard_frame]

theorem State.constantDone_leaves (s : State) (q : Req) :
    let t := s.constantDone q
    t = { s with log := t.log, bench := t.bench, recorder := t.recorder, net := { s.net with nodes := t.net.nodes },
                 mg := t.mg, hi := t.hi, outbox := t.outbox } := by
  intro t
  have before : ((((s.heard q).withConstant q.p0 q.p1).constantLogged ((s.heard q).constantEntry q)).noteCluster 0x0107
      ((s.heard q).constantNote q)).net = s.net := by
    simp only [State.noteCluster_frame, State.constantLogged_frame, State.withConstant, State.heard_frame]
  have net : t.net = { s.net with nodes := t.net.nodes } := by
    rw [← before]
    exact State.applyConstants_nodesOnly _
  apply State.ext
  case net => exact net
  all_goals simp only [t, State.constantDone, State.applyConstants_frame, State.noteCluster_frame,
    State.constantLogged_frame, State.withConstant, State.heard_frame]

theorem execConstantSet_stop {s : State} {q : Req} {st : Station} (stopped : s.power.state = .stop) (reads : BenchReads s)
    (life : s.benchLifecycle = true) (data : s.station = some st) (mode : st.changeMode = 2)
    (role : s.holds q (some .maintainer) = true) (allowed : s.constantRefusal q.p0 q.p1 = none)
    (room : s.log.length + s.bench.newLog.length < logCapacity) (quiet : s.log.length ≠ 235930) :
    ∃ t, exec (.constantSet q) s = .next t ∧ t.log = s.log ++ [s.stamped ((s.heard q).constantEntry q)] ∧
      Recorded s t 0x1070 q.p0 (s.nextConstant q.p0) q.p1 ∧ t.constant q.p0 = q.p1 ∧ t.bench.newConstants = [] ∧
      t = { s with log := t.log, bench := t.bench, recorder := t.recorder, net := { s.net with nodes := t.net.nodes },
                   mg := t.mg, hi := t.hi, outbox := t.outbox } := by
  have run : exec (.constantSet q) s = .next ((s.constantDone q).complete 0x0501 q .ok).settle := by
    rw [execConstantSet_eq reads life data mode role allowed room, if_neg (by simp [State.inRun, stopped])]
    rfl
  obtain ⟨log, told⟩ := State.constantLogged_room (s := (s.heard q).withConstant q.p0 q.p1)
    (by simp only [State.withConstant, State.heard_frame]; omega) quiet ((s.heard q).constantEntry q)
  obtain ⟨constant, none⟩ := State.constantDone_bench stopped q
  have bench : ((s.constantDone q).complete 0x0501 q .ok).settle.bench = (s.constantDone q).bench := by
    have still : (s.constantDone q).power.state ≠ .run := by
      rw [State.constantDone_leaves]
      simp [stopped]
    simp only [State.settle_frame, State.complete_halted_bench still]
  have station : ((s.constantDone q).complete 0x0501 q .ok).settle.station = (s.constantDone q).station := by
    simp only [State.settle_frame, State.complete_frame]
  refine ⟨_, run, ?_, ?_, ?_, ?_, ?_⟩
  · simp only [State.settle_frame, State.complete_frame, State.constantDone, State.applyConstants_frame,
      State.noteCluster_frame, log]
    rfl
  · refine recorded_words (recorded_framed told ?_)
    simp only [State.settle_frame, State.complete_frame, State.constantDone, State.applyConstants_frame,
      State.noteCluster_frame]
  · simpa only [State.constant, bench, station] using constant
  · rw [bench, none]
  · have leaves := State.constantDone_leaves s q
    apply State.ext
    all_goals simp only [State.settle_frame, State.complete_frame]
    all_goals rw [leaves]

end Sys2Proof.Machine
end

section
/-! PROOF. The statement about the bench's commands. -/

namespace Sys2Proof.Proofs

open Sys2Proof Sys2Proof.Machine Sys2Proof.Safety

/-- CONSTANT_SET in RUN and in STOP: the entry of the change log stands with the cycle's, or is written at once. -/
theorem constantSet_takesEffect {q : Req} {st : Station} {s : State} (reads : BenchReads s)
    (life : s.benchLifecycle = true) (data : s.station = some st) (mode : st.changeMode = 2)
    (role : s.holds q (some .maintainer) = true) (allowed : s.constantRefusal q.p0 q.p1 = none)
    (room : s.log.length + s.bench.newLog.length < logCapacity) (quiet : s.log.length ≠ 235930) :
    ∃ t e, Machine.exec (.constantSet q) s = .next t ∧ e.item = 3 ∧ e.subject = word q.p0 ∧
      e.before = word (s.nextConstant q.p0) ∧ e.after = word q.p1 ∧
      (s.power.state = .run → t.log = s.log ∧ t.bench.newLog = s.bench.newLog ++ [e] ∧ t.recorder = s.recorder ∧
        t.bench.constants = s.bench.constants ∧ t.bench.newConstants = s.bench.newConstants ++ [(q.p0, q.p1)] ∧
        t.bench.completions = s.bench.completions ++ [done q 0x0501 .ok]) ∧
      (s.power.state = .stop → t.log = s.log ++ [e] ∧ Recorded s t 0x1070 q.p0 (s.nextConstant q.p0) q.p1 ∧
        t.constant q.p0 = q.p1 ∧ t.bench.newConstants = []) ∧
      t = { s with log := t.log, bench := t.bench, recorder := t.recorder, net := { s.net with nodes := t.net.nodes },
                   mg := t.mg, hi := t.hi, outbox := t.outbox } := by
  obtain run | stopped := id reads.1
  · obtain ⟨t, ht, h1, h2, h3, h4, h5, h6, leaves⟩ := execConstantSet_run run reads life data mode role allowed room
    exact ⟨t, _, ht, rfl, rfl, rfl, rfl, fun _ => ⟨h1, h2, h3, h4, h5, h6⟩, fun h => by simp [run] at h, leaves⟩
  · obtain ⟨t, ht, h1, h2, h3, h4, leaves⟩ :=
      execConstantSet_stop stopped reads life data mode role allowed room quiet
    exact ⟨t, _, ht, rfl, rfl, rfl, rfl, fun h => by simp [stopped] at h, fun _ => ⟨h1, h2, h3, h4⟩, leaves⟩

/-- Settles O54: the start and stop commands, the two commands of forcing, and CONSTANT_SET. -/
theorem benchCommands : Obligations.BenchCommands := by
  unfold Obligations.BenchCommands
  refine ⟨?_, ?_, ?_, ?_, ?_, ?_, ?_⟩
  · intro q s stopped alive data life role dwell
    exact execBenchStart_accepted stopped alive data life role dwell
  · intro q s benchOpen role
    exact execBenchStop_accepted benchOpen role
  · intro q s safe alive life role clear
    exact execBenchRestart_accepted safe alive life role clear
  · intro q s safe alive noData notRetired role
    exact execBenchRestart_noData safe alive noData notRetired role
  · intro q kind target s reads life role p0 kindLow kindHigh value present allowed fresh
    exact execForceSet_accepted reads life role p0 kindLow kindHigh value present allowed fresh
  · intro q s reads life role kind zero
    exact execForceClear_accepted reads life role kind zero
  · intro q st s reads life data mode role allowed room quiet
    exact constantSet_takesEffect reads life data mode role allowed room quiet

end Sys2Proof.Proofs
end

section
/-! PROOF. What the engine holds for one element, after a change of it; and the begin and the end of faults told in RUN
(R353), which change no element's state. -/

namespace Sys2Proof.Machine

open Sys2Proof

/-! ### One element -/

theorem State.modDyn_dyn (s : State) (i j : Nat) (f : ElemDyn → ElemDyn) :
    (s.modDyn i f).dyn j = if j = i ∧ i < s.eng.elems.length then f (s.dyn j) else s.dyn j := by
  by_cases same : j = i
  · subst same
    by_cases inside : j < s.eng.elems.length <;> simp [State.dyn, State.modDyn, upd, inside]
  · simp [State.dyn, State.modDyn, upd, same, Ne.symm same]

theorem State.modDyn_dyn_same {s : State} {i : Nat} (inside : i < s.eng.elems.length) (f : ElemDyn → ElemDyn) :
    (s.modDyn i f).dyn i = f (s.dyn i) := by
  rw [State.modDyn_dyn, if_pos ⟨rfl, inside⟩]

theorem State.modDyn_dyn_of_ne {i j : Nat} (other : j ≠ i) (s : State) (f : ElemDyn → ElemDyn) :
    (s.modDyn i f).dyn j = s.dyn j := by
  rw [State.modDyn_dyn, if_neg fun h => other h.1]

@[simp] theorem State.modDyn_elems_length (s : State) (i : Nat) (f : ElemDyn → ElemDyn) :
    (s.modDyn i f).eng.elems.length = s.eng.elems.length := by
  simp [State.modDyn, upd]

@[simp] theorem State.setValue_elems_length (s : State) (i v : Nat) :
    (s.setValue i v).eng.elems.length = s.eng.elems.length := State.modDyn_elems_length ..

theorem State.setValue_dyn_same {s : State} {i : Nat} (inside : i < s.eng.elems.length) (v : Nat) :
    (s.setValue i v).dyn i = { s.dyn i with value := v, image := (s.forceOn 1 i).getD v } :=
  State.modDyn_dyn_same inside _

theorem State.demandOf_dyn_same {s : State} {i : Nat} (inside : i < s.eng.elems.length) (v : Nat) :
    (s.demandOf i v).dyn i = { s.dyn i with demand := some v } := by
  rw [State.demandOf, State.modDyn_dyn_same inside]
  split
  case isTrue same => rw [← same]
  case isFalse => rfl

/-- From `s` to `t` only what the engine holds for element `i` changes. -/
def OnlyElement (i : Nat) (s t : State) : Prop :=
  (∀ j, j ≠ i → t.dyn j = s.dyn j) ∧ t = { s with eng := { s.eng with elems := t.eng.elems } }

theorem OnlyElement.refl (i : Nat) (s : State) : OnlyElement i s s := ⟨fun _ _ => rfl, rfl⟩

theorem OnlyElement.modDyn {i : Nat} {s t : State} (h : OnlyElement i s t) (f : ElemDyn → ElemDyn) :
    OnlyElement i s (t.modDyn i f) := by
  obtain ⟨others, rest⟩ := h
  exact ⟨fun j other => (State.modDyn_dyn_of_ne other t f).trans (others j other), by rw [rest]; rfl⟩

theorem OnlyElement.setValue {i : Nat} {s t : State} (h : OnlyElement i s t) (v : Nat) :
    OnlyElement i s (t.setValue i v) := h.modDyn _

theorem OnlyElement.demandOf {i : Nat} {s t : State} (h : OnlyElement i s t) (v : Nat) :
    OnlyElement i s (t.demandOf i v) := h.modDyn _

/-! ### A row that leaves the mirror refreshed -/

theorem State.timed_run {s : State} (run : s.power.state = .run) (f : State → State) : s.timed f = f s :=
  if_pos (by simp [State.inRun, run])

@[simp] theorem State.settle_dyn (s : State) (i : Nat) : s.settle.dyn i = s.dyn i := by
  simp only [State.dyn, State.settle_frame]

theorem OnlyElement.settle_eq {i : Nat} {s t : State} (h : OnlyElement i s t) :
    t.settle = { s with eng := { s.eng with elems := t.settle.eng.elems }, hi := Safety.mirrorOf s t.settle } := by
  rw [State.settle_eq t, h.2]

/-! ### Faults told -/

/-- From `s` to `t` only the fault last notified of some elements and the notifications of the cycle change. -/
def FaultsTold (s t : State) : Prop :=
  (∀ i, ∃ cls code, t.dyn i = { s.dyn i with faultClass := cls, faultCode := code }) ∧
    t = { s with bench := t.bench, eng := { s.eng with elems := t.eng.elems } }

namespace FaultsTold

variable {s t : State}

theorem refl (s : State) : FaultsTold s s := ⟨fun _ => ⟨_, _, rfl⟩, rfl⟩

theorem power (h : FaultsTold s t) : t.power = s.power := by rw [h.2]

theorem noteCluster (h : FaultsTold s t) (run : s.power.state = .run) (kind : Nat) (data : List Byte) :
    FaultsTold s (t.noteCluster kind data) := by
  obtain ⟨elements, rest⟩ := id h
  rw [State.noteCluster_run (by rw [h.power, run])]
  exact ⟨elements, by rw [rest]⟩

theorem told (h : FaultsTold s t) (j cls code : Nat) :
    FaultsTold s (t.modDyn j fun d => { d with faultClass := cls, faultCode := code }) := by
  obtain ⟨elements, rest⟩ := h
  refine ⟨fun i => ?_, by rw [rest]; rfl⟩
  obtain ⟨_, _, element⟩ := elements i
  rw [State.modDyn_dyn, element]
  split
  · exact ⟨cls, code, rfl⟩
  · exact ⟨_, _, rfl⟩

theorem ite {u : State} {c : Prop} [Decidable c] (h : FaultsTold s t) (k : FaultsTold s u) :
    FaultsTold s (if c then t else u) := by
  split
  · exact h
  · exact k

theorem tellFault (h : FaultsTold s t) (run : s.power.state = .run) (j : Nat) : FaultsTold s (t.tellFault j) :=
  have ended : FaultsTold s (if (t.dyn j).faultClass = 0 then t else _) := h.ite (h.noteCluster run _ _)
  h.ite ((ended.ite (ended.noteCluster run _ _)).told j _ _)

end FaultsTold

theorem State.tellFaults_told {s : State} (run : s.power.state = .run) : FaultsTold s s.tellFaults :=
  List.foldlRecOn _ State.tellFault (FaultsTold.refl s) fun _ h j _ => h.tellFault run j

end Sys2Proof.Machine
end

section
/-! PROOF. The confirmation of a signal (R84), the clear delay of a section (R34) and the confirmation of a berth window
(R103), each at the end of its time. -/

namespace Sys2Proof.Machine

open Sys2Proof Sys2Proof.Safety

/-- A signal declared FAILED (R84). -/
def State.signalFailed (s : State) (i : Nat) : State :=
  ((s.modDyn i fun d => { d with failed := true, good := 0, goodUs := s.evalUs }).setValue i 2).demandOf i 0

theorem State.signalFailed_dyn {s : State} {i : Nat} (inside : i < s.eng.elems.length) :
    (s.signalFailed i).dyn i =
      { s.dyn i with failed := true, good := 0, goodUs := s.evalUs, value := 2, image := (s.forceOn 1 i).getD 2,
                     demand := some 0 } := by
  rw [State.signalFailed, State.demandOf_dyn_same (by simpa using inside),
    State.setValue_dyn_same (by simpa using inside), State.modDyn_dyn_same inside]
  rfl

theorem State.signalFailed_only (s : State) (i : Nat) : OnlyElement i s (s.signalFailed i) :=
  (((OnlyElement.refl i s).modDyn _).setValue 2).demandOf 0

/-- Two seconds after its commit an unconfirmed demand fails the signal, whatever else it shows. -/
theorem State.signalFails_late {s : State} {e : Element} {d : ElemDyn} {c : Nat} (unconfirmed : d.confirmed = false)
    (committed : d.committed = some c) (differs : confirms e c d.value = false)
    (late : d.commitUs + 2000000 ≤ s.bench.freezeUs) : s.signalFails e d = true := by
  simp [State.signalFails, unconfirmed, committed, differs, late]

theorem State.signalStep_late {s : State} {i c : Nat} {e : Element} (inside : i < s.eng.elems.length)
    (element : s.elem i = some e) (own : (s.dyn i).substituted = false) (sound : (s.dyn i).failed = false)
    (unconfirmed : (s.dyn i).confirmed = false) (committed : (s.dyn i).committed = some c)
    (differs : confirms e c (s.dyn i).value = false) (late : (s.dyn i).commitUs + 2000000 ≤ s.bench.freezeUs) :
    s.signalStep i = s.signalFailed i := by
  have fails : s.signalFails e (s.dyn i) = true := State.signalFails_late unconfirmed committed differs late
  simp [State.signalStep, element, own, sound, committed, differs, fails, State.modDyn_dyn_same inside,
    State.signalFailed]

/-- SIGNAL_CONFIRM_TIMEOUT of a signal that its step declares FAILED: after the declaration the begin of F1 is told. -/
theorem execSignalConfirmTimeout_failed {s : State} {i : Nat} (run : s.power.state = .run)
    (inside : i < s.eng.elems.length) (fails : s.signalStep i = s.signalFailed i) :
    ∃ t, exec (.signalConfirmTimeout i) s = .next t ∧ (t.dyn i).failed = true ∧ (t.dyn i).demand = some 0 ∧
      (t.dyn i).value = 2 ∧ (t.dyn i).image = (s.forceOn 1 i).getD 2 ∧ t.eng.txns = s.eng.txns ∧
      t.eng.routes = s.eng.routes ∧ t = { s with bench := t.bench, eng := t.eng, hi := mirrorOf s t } := by
  have ran : exec (.signalConfirmTimeout i) s = .next (s.signalFailed i).tellFaults.settle := by
    rw [← fails]
    exact congrArg (fun u : State => Host.Outcome.next u.settle) (State.timed_run run _)
  obtain ⟨-, only⟩ := State.signalFailed_only s i
  obtain ⟨elements, rest⟩ := State.tellFaults_told (s := s.signalFailed i) (by rw [only]; exact run)
  obtain ⟨_, _, element⟩ := elements i
  refine ⟨_, ran, ?_⟩
  simp only [State.settle_dyn, element, State.signalFailed_dyn inside, State.settle_frame]
  refine ⟨trivial, trivial, trivial, trivial, ?_, ?_, ?_⟩
  · rw [rest, only]
  · rw [rest, only]
  · rw [State.settle_eq, rest, only]

theorem State.sectionStep_cleared {s : State} {i k delay a : Nat} {b : Bool} (track : s.part i = .track k b delay)
    (own : (s.dyn i).substituted = false) (clear : (s.dyn i).reported = some 0) (since : (s.dyn i).clearSince = some a)
    (ended : a + (s.dyn i).clearDelayUs ≤ s.bench.freezeUs) :
    s.sectionStep i = (s.modDyn i fun d =>
      { d with clearSince := some a, clearDelayUs := (s.dyn i).clearDelayUs }).setValue i 0 := by
  simp [State.sectionStep, track, own, clear, since, ended]

theorem State.berthStep_confirmed {s : State} {i g pos sec a : Nat} (berth : s.part i = .berth g pos sec)
    (since : (s.dyn i).berthSince = some a) (ended : a + (s.dyn i).confirmUs ≤ s.bench.freezeUs) :
    s.berthStep i = s.setValue i 3 := by
  simp [State.berthStep, berth, since, ended]

theorem execClearDelayExpiry_run {s : State} (run : s.power.state = .run) (i : Nat) :
    exec (.clearDelayExpiry i) s = .next (s.sectionStep i).settle :=
  congrArg (fun u : State => Host.Outcome.next u.settle) (State.timed_run run _)

theorem execBerthConfirmation_run {s : State} (run : s.power.state = .run) (i : Nat) :
    exec (.berthConfirmation i) s = .next (s.berthStep i).settle :=
  congrArg (fun u : State => Host.Outcome.next u.settle) (State.timed_run run _)

/-- A value set, after changes of the same element only, and the mirror refreshed. -/
theorem OnlyElement.setValue_settle {s u : State} {i : Nat} (only : OnlyElement i s u)
    (inside : i < u.eng.elems.length) (v : Nat) :
    let t := (u.setValue i v).settle
    (t.dyn i).value = v ∧ (t.dyn i).image = (s.forceOn 1 i).getD v ∧ (∀ j, j ≠ i → t.dyn j = s.dyn j) ∧
      t = { s with eng := { s.eng with elems := t.eng.elems }, hi := mirrorOf s t } := by
  have forces : u.forceOn 1 i = s.forceOn 1 i := by rw [only.2]; rfl
  have set : OnlyElement i s (u.setValue i v) := only.setValue v
  obtain ⟨others, -⟩ := id set
  simp only [State.settle_dyn, State.setValue_dyn_same inside, forces]
  exact ⟨trivial, trivial, others, set.settle_eq⟩

end Sys2Proof.Machine
end

section
/-! PROOF. The statement about signals, sections and berth windows at the end of their delays. -/

namespace Sys2Proof.Proofs

open Sys2Proof Sys2Proof.Machine Sys2Proof.Safety

/-- Settles O29, timer by timer: the signal is FAILED for its late demand, and the other two set one value. -/
theorem confirmationTimers : Obligations.ConfirmationTimers := by
  unfold Obligations.ConfirmationTimers
  refine ⟨?signal, ?clearDelay, ?berth⟩
  case signal =>
    intro i c e s run inside element own sound unconfirmed committed differs late
    exact execSignalConfirmTimeout_failed run inside
      (State.signalStep_late inside element own sound unconfirmed committed differs late)
  case clearDelay =>
    intro i k delay a b s run inside track own clear since ended
    rw [execClearDelayExpiry_run run, State.sectionStep_cleared track own clear since ended]
    exact ⟨_, rfl, ((OnlyElement.refl i s).modDyn _).setValue_settle (by simpa using inside) 0⟩
  case berth =>
    intro i g pos sec a s run inside berth since ended
    rw [execBerthConfirmation_run run, State.berthStep_confirmed berth since ended]
    exact ⟨_, rfl, (OnlyElement.refl i s).setValue_settle inside 3⟩

end Sys2Proof.Proofs
end

section
/-! PROOF. What the engine holds for one route, after a change of it; and a route set FREE with its locks (R59, R63). -/

namespace Sys2Proof.Machine

open Sys2Proof Sys2Proof.Safety

/-! ### One route -/

theorem State.modRoute_rdyn (s : State) (n m : Nat) (f : RouteDyn → RouteDyn) :
    (s.modRoute n f).rdyn m = if m = n ∧ n < s.eng.routes.length then f (s.rdyn m) else s.rdyn m := by
  by_cases same : m = n
  · subst same
    by_cases inside : m < s.eng.routes.length <;> simp [State.rdyn, State.modRoute, upd, inside]
  · simp [State.rdyn, State.modRoute, upd, same, Ne.symm same]

theorem State.modRoute_rdyn_same {s : State} {n : Nat} (inside : n < s.eng.routes.length) (f : RouteDyn → RouteDyn) :
    (s.modRoute n f).rdyn n = f (s.rdyn n) := by
  rw [State.modRoute_rdyn, if_pos ⟨rfl, inside⟩]

theorem State.modRoute_rdyn_of_ne {n m : Nat} (other : m ≠ n) (s : State) (f : RouteDyn → RouteDyn) :
    (s.modRoute n f).rdyn m = s.rdyn m := by
  rw [State.modRoute_rdyn, if_neg fun h => other h.1]

@[simp] theorem State.modRoute_routes_length (s : State) (n : Nat) (f : RouteDyn → RouteDyn) :
    (s.modRoute n f).eng.routes.length = s.eng.routes.length := by
  simp [State.modRoute, upd]

@[simp] theorem State.settle_rdyn (s : State) (n : Nat) : s.settle.rdyn n = s.rdyn n := by
  simp only [State.rdyn, State.settle_frame]

/-! ### A route set FREE -/

/-- None of a route's locks is on an element that it has been taken off (R59). -/
theorem ElemDyn.without_unlocked (d : ElemDyn) (n : Nat) :
    n ∉ (d.without n).holders ∧ (d.without n).pathLock ≠ some n ∧ n ∉ (d.without n).overlapLocks ∧
      n ∉ (d.without n).stopLocks := by
  refine ⟨by simp [ElemDyn.without], ?_, by simp [ElemDyn.without], by simp [ElemDyn.without]⟩
  simp only [ElemDyn.without]
  split
  · exact nofun
  · assumption

/-- A route set FREE from a state that differs from `s` in its own record alone is a freed route of `s`. -/
theorem State.freeRoute_freedRoute {s u : State} {n : Nat} (inside : n < u.eng.routes.length)
    (others : ∀ m, m ≠ n → u.rdyn m = s.rdyn m) (only : u = { s with eng := { s.eng with routes := u.eng.routes } })
    (reason param : Nat) : FreedRoute s (u.freeRoute n reason param).settle n reason param := by
  have unlocked : ∀ d ∈ (u.freeRoute n reason param).eng.elems,
      n ∉ d.holders ∧ d.pathLock ≠ some n ∧ n ∉ d.overlapLocks ∧ n ∉ d.stopLocks := by
    intro d hd
    obtain ⟨d, -, rfl⟩ := List.mem_map.mp hd
    exact d.without_unlocked n
  have record := State.modRoute_rdyn_same (s := u.dropLocks n) (n := n) inside
  unfold FreedRoute
  simp only [State.settle_rdyn, State.settle_frame]
  refine ⟨?_, ?_, ?_, ?_, ?_, ?_, unlocked, ?_, ?_⟩
  iterate 6 rw [State.freeRoute, record]
  · intro m other
    rw [State.freeRoute, State.modRoute_rdyn_of_ne other]
    exact others m other
  · rw [State.settle_eq, State.freeRoute, only]
    rfl

end Sys2Proof.Machine
end

section
/-! PROOF. The timers of a route (R72, R73, R75, R91). -/

namespace Sys2Proof.Machine

open Sys2Proof Sys2Proof.Safety

/-- A route's timer in RUN, for a route that the station data hold. -/
theorem routeTimer_run {s : State} {n : Nat} {r : Route} (run : s.power.state = .run)
    (known : s.fullRoute n = some r) (f : State → Nat → Route → State) :
    (Host.Outcome.next (s.timed fun s => s.forRoute n f).settle : Host.Outcome State Fault Refusal) =
      .next (f s n r).settle := by
  rw [State.timed_run run]
  simp only [State.forRoute, known]

theorem State.proofExpiry_late {s : State} {n limit i : Nat} {r : Route} (locked : (s.rdyn n).state = .locked)
    (bound : s.proofLimitUs r = some limit) (open' : s.unproven n r = some i)
    (late : (s.rdyn n).lockedUs + limit < s.bench.freezeUs) : s.proofExpiry n r = s.freeRoute n 0x0129 i := by
  simp [State.proofExpiry, locked, bound, open', late]

theorem State.approachRelease_ended {s : State} {n e : Nat} {r : Route} (cancelling : (s.rdyn n).state = .cancelling)
    (runs : (s.rdyn n).approachWait = false) (timer : (s.rdyn n).approachEnd = some e) (ended : e ≤ s.bench.freezeUs)
    (stop : s.showsStop r.entry = true) : s.approachRelease n r = s.freeRoute n 0 0 := by
  simp [State.approachRelease, cancelling, runs, timer, ended, stop]

theorem State.overlapRelease_ended {s : State} {n e : Nat} {r : Route} (timer : (s.rdyn n).overlapEnd = some e)
    (ended : e ≤ s.bench.freezeUs) (clear : ∀ x ∈ s.sections r.overlap, s.image x.element = 0) :
    s.overlapRelease n r = s.freeRoute n 0 0 := by
  have all : ((s.sections r.overlap).all fun x => s.image x.element == 0) = true := by simpa using clear
  simp only [State.overlapRelease, timer, ended, all, decide_true, Bool.and_self, if_true]

theorem State.emergencyRelease_ended {s : State} {n e : Nat} {r : Route} (timer : (s.rdyn n).emergencyEnd = some e)
    (ended : e ≤ s.bench.freezeUs) (stop : s.showsStop r.entry = true) :
    ∃ failed, s.emergencyRelease n r = (s.modRoute n fun d => { d with emergencyFailed := failed }).freeRoute n 0 0 :=
  ⟨(s.rdyn n).emergencyFailed && s.image r.entry == 2, by simp [State.emergencyRelease, timer, ended, stop]⟩

end Sys2Proof.Machine
end

section
/-! PROOF. The statement about the timers of a route. -/

namespace Sys2Proof.Proofs

open Sys2Proof Sys2Proof.Machine Sys2Proof.Safety

/-- Settles O27, timer by timer: each frees the route, that of an emergency release after it has noted whether the entry
signal has been FAILED throughout. -/
theorem routeTimersFree : Obligations.RouteTimersFree := by
  unfold Obligations.RouteTimersFree
  refine ⟨?proof, ?approach, ?overlap, ?emergency⟩
  case proof =>
    intro n limit i r s run inside known locked bound unproven late
    refine ⟨_, routeTimer_run run known _, ?_⟩
    rw [State.proofExpiry_late locked bound unproven late]
    exact State.freeRoute_freedRoute inside (fun _ _ => rfl) rfl _ _
  case approach =>
    intro n e r s run inside known cancelling runs timer ended stop
    refine ⟨_, routeTimer_run run known _, ?_⟩
    rw [State.approachRelease_ended cancelling runs timer ended stop]
    exact State.freeRoute_freedRoute inside (fun _ _ => rfl) rfl _ _
  case overlap =>
    intro n e r s run inside known timer ended clear
    refine ⟨_, routeTimer_run run known _, ?_⟩
    rw [State.overlapRelease_ended timer ended clear]
    exact State.freeRoute_freedRoute inside (fun _ _ => rfl) rfl _ _
  case emergency =>
    intro n e r s run inside known timer ended stop
    obtain ⟨failed, freed⟩ := State.emergencyRelease_ended timer ended stop
    refine ⟨_, routeTimer_run run known _, ?_⟩
    rw [freed]
    exact State.freeRoute_freedRoute (by simpa using inside) (fun _ other => State.modRoute_rdyn_of_ne other s _) rfl _ _

end Sys2Proof.Proofs
end

section
/-! PROOF. A waiting request that its 30 s end (R70), a prepare that its 30 s end (R90), and the end of the restart hold
(R94). -/

namespace Sys2Proof.Machine

open Sys2Proof Sys2Proof.Safety

/-! ### A waiting request -/

theorem Pend.same_self (p : Pend) : p.same p = true := by simp [Pend.same]

theorem State.evalPend_late {s : State} {n : Nat} {p : Pend} (want : p.want = .route n)
    (late : p.enteredUs + 30000000 ≤ s.bench.freezeUs) : s.evalPend p = s.refusePend p 0x012C p.reason := by
  simp only [State.evalPend, want, late, if_true]

/-- A route request whose command has completed leaves the queue with its reason and nothing else (R68, R71). -/
theorem State.refusePend_completed {s : State} {n : Nat} {p : Pend} (want : p.want = .route n) (completed : p.req = none)
    (reason param : Nat) : s.refusePend p reason param =
      ((s.dropPend p).routeReason n reason param).modRoute n fun d => { d with state := .free } := by
  simp only [State.refusePend, State.keepReason, State.tell, State.requestNote, want, completed]

theorem State.mem_filter_queue {s : State} {p : Pend} {f : Pend → Bool} (only : s.eng.queue.filter f = [p]) :
    f p = true := (List.mem_filter.mp (by rw [only]; exact List.mem_singleton_self p)).2

theorem execPendingExpired_route {s : State} {n : Nat} {p : Pend} (run : s.power.state = .run)
    (inside : n < s.eng.routes.length) (want : p.want = .route n) (completed : p.req = none)
    (only : s.eng.queue.filter (fun x => x.arrival == p.arrival && x.enteredUs + 30000000 ≤ s.bench.freezeUs) = [p]) :
    ∃ t, exec (.pendingExpired p.arrival) s = .next t ∧ p ∉ t.eng.queue ∧ (t.rdyn n).state = .free ∧
      (t.rdyn n).reason = 0x012C ∧ (t.rdyn n).param = p.reason ∧ (∀ m, m ≠ n → t.rdyn m = s.rdyn m) ∧
      t = { s with eng := { s.eng with queue := t.eng.queue, routes := t.eng.routes }, hi := mirrorOf s t } := by
  have late : p.enteredUs + 30000000 ≤ s.bench.freezeUs := by simpa using State.mem_filter_queue only
  have ran : exec (.pendingExpired p.arrival) s =
      .next (((s.dropPend p).routeReason n 0x012C p.reason).modRoute n fun d => { d with state := .free }).settle := by
    rw [← State.refusePend_completed want completed, ← State.evalPend_late want late]
    refine congrArg (fun u : State => Host.Outcome.next u.settle) ((State.timed_run run _).trans ?_)
    rw [only]
    rfl
  have record : ((s.dropPend p).routeReason n 0x012C p.reason).rdyn n =
      { s.rdyn n with reason := 0x012C, param := p.reason, lastReason := 0x012C } :=
    State.modRoute_rdyn_same (s := s.dropPend p) inside _
  have gone : p ∉ (s.dropPend p).eng.queue := by simp [State.dropPend, Pend.same_self]
  refine ⟨_, ran, ?_⟩
  simp only [State.settle_rdyn, State.settle_frame]
  rw [State.modRoute_rdyn_same (by simpa [State.routeReason, State.dropPend] using inside), record]
  refine ⟨gone, rfl, rfl, rfl, fun m other => ?_, ?_⟩
  · rw [State.modRoute_rdyn_of_ne other, State.routeReason, State.modRoute_rdyn_of_ne other]
    rfl
  · rw [State.settle_eq]
    rfl

/-! ### A prepare -/

/-- A prepare marked expired in the list of prepares (R90). -/
def Engine.expired (e : Engine) (p : Prepare) : Engine :=
  { e with prepares := e.prepares.map fun x => if x = p then { x with expired := true } else x }

theorem Engine.expired_prepares {e : Engine} {p : Prepare} (mem : p ∈ e.prepares) (fresh : p.expired = false) :
    { p with expired := true } ∈ (e.expired p).prepares ∧ p ∉ (e.expired p).prepares := by
  refine ⟨List.mem_map.mpr ⟨p, mem, by simp⟩, fun h => ?_⟩
  obtain ⟨x, -, hx⟩ := List.mem_map.mp h
  split at hx
  case isTrue => simp [← hx] at fresh
  case isFalse other => exact other hx

theorem State.expirePrepare_late {s : State} {p : Prepare} {e : Nat} (fresh : p.expired = false)
    (completed : p.doneUs = some e) (late : e + 30000000 < s.bench.freezeUs) :
    s.expirePrepare p = (({ s with eng := s.eng.expired p }).event 0x6023 .cl .info
      (auxWord p.kind p.position p.target)).voidPrepare p 0x0162 := by
  simp only [State.expirePrepare, fresh, completed, late, if_true]
  rfl

theorem execAuxPrepareExpiry_late {s : State} {p : Prepare} {e : Nat} (run : s.power.state = .run)
    (only : s.eng.prepares.filter (fun x => x.kind == p.kind && x.target == p.target) = [p]) (fresh : p.expired = false)
    (completed : p.doneUs = some e) (late : e + 30000000 < s.bench.freezeUs) :
    ∃ t, exec (.auxPrepareExpiry p.kind p.target) s = .next t ∧ { p with expired := true } ∈ t.eng.prepares ∧
      p ∉ t.eng.prepares ∧ Recorded s t 0x6023 (auxWord p.kind p.position p.target) 0 0 ∧
      t = { s with bench := { s.bench with notes := t.bench.notes },
                   eng := { s.eng with prepares := t.eng.prepares }, recorder := t.recorder, hi := mirrorOf s t } := by
  have mem : p ∈ s.eng.prepares := (List.mem_filter.mp (by rw [only]; exact List.mem_singleton_self p)).1
  have ran : exec (.auxPrepareExpiry p.kind p.target) s = .next (s.expirePrepare p).settle := by
    refine congrArg (fun u : State => Host.Outcome.next u.settle) ((State.timed_run run _).trans ?_)
    rw [only]
    rfl
  obtain ⟨marked, gone⟩ := Engine.expired_prepares mem fresh
  rw [State.expirePrepare_late fresh completed late] at ran
  have told := State.event_recorded (s := s) (t := { s with eng := s.eng.expired p }) rfl rfl rfl 0x6023 .cl .info
    (auxWord p.kind p.position p.target) 0 0 false
  refine ⟨_, ran, ?_, ?_, recorded_settle (recorded_framed told ?_), ?_⟩
  · simpa only [State.settle_frame, State.voidPrepare_frame, State.event_frame] using marked
  · simpa only [State.settle_frame, State.voidPrepare_frame, State.event_frame] using gone
  · simp only [State.voidPrepare_frame]
  · rw [State.settle_eq, State.voidPrepare, State.noteCluster_run (by exact run)]
    rfl

/-! ### The restart hold -/

/-- The engine with no point held after the restart (R94). -/
def Engine.unheld (e : Engine) : Engine :=
  { e with holdEnd := none, heldAreas := [], elems := e.elems.map fun (d : ElemDyn) => { d with held := false } }

theorem execRestartHoldEnd_ended {s : State} {e : Nat} (run : s.power.state = .run) (hold : s.eng.holdEnd = some e)
    (ended : e ≤ s.bench.freezeUs) :
    ∃ t, exec .restartHoldEnd s = .next t ∧ t.eng.holdEnd = none ∧ t.eng.heldAreas = [] ∧
      (∀ d ∈ t.eng.elems, d.held = false) ∧ Recorded s t 0x6040 0xFF 0 0 ∧
      t = { s with eng := t.eng, recorder := t.recorder, hi := mirrorOf s t } := by
  have ran : exec .restartHoldEnd s = .next (({ s with eng := s.eng.unheld }).event 0x6040 .cl .info 0xFF).settle := by
    refine congrArg (fun u : State => Host.Outcome.next u.settle) ((State.timed_run run _).trans ?_)
    simp only [State.holdExpiry, hold, ended, if_true]
    rfl
  refine ⟨_, ran, ?_, ?_, ?_, recorded_settle (State.event_recorded rfl rfl rfl ..), ?_⟩
  · simp only [State.settle_frame, State.event_frame, Engine.unheld]
  · simp only [State.settle_frame, State.event_frame, Engine.unheld]
  · simp [State.settle_frame, State.event_frame, Engine.unheld]
  · rw [State.settle_eq]
    rfl

end Sys2Proof.Machine
end

section
/-! PROOF. The statement about the queue's and the prepares' 30 s and the restart hold. -/

namespace Sys2Proof.Proofs

open Sys2Proof Sys2Proof.Machine Sys2Proof.Safety

/-- Settles O28, timer by timer: the request leaves the queue, the prepare is marked expired, the hold ends. -/
theorem queueAndPrepareTimers : Obligations.QueueAndPrepareTimers := by
  unfold Obligations.QueueAndPrepareTimers
  refine ⟨?request, ?prepare, ?hold⟩
  case request =>
    intro n p s run inside want completed only
    exact execPendingExpired_route run inside want completed only
  case prepare =>
    intro p e s run only fresh completed late
    exact execAuxPrepareExpiry_late run only fresh completed late
  case hold =>
    intro e s run hold ended
    exact execRestartHoldEnd_ended run hold ended

end Sys2Proof.Proofs
end

section
/-! PROOF. A field transaction at its time limit (R77, R81, R89). -/

namespace Sys2Proof.Machine

open Sys2Proof Sys2Proof.Safety

/-! ### The only transaction of an element -/

theorem onlyTxn_get {s : State} {i k : Nat} {x : Txn} (only : OnlyTxn s i k x) :
    s.eng.txns[k]? = some x ∧ x.element = i := by
  have mem : (x, k) ∈ (withIndex s.eng.txns).filter (fun p => p.1.element == i) := by
    rw [only]
    exact List.mem_singleton_self _
  obtain ⟨mem, own⟩ := List.mem_filter.mp mem
  exact ⟨List.mem_zipIdx_iff_getElem?.mp mem, by simpa using own⟩

/-- Steps over the transactions of an element, of some kinds or of all, are one step of its only transaction. -/
theorem onlyTxn_txnSteps {s : State} {i k : Nat} {x : Txn} (only : OnlyTxn s i k x) (f : Txn → Bool) (hit : f x = true) :
    s.txnSteps (fun t => t.element == i && f t) = s.txnStep k := by
  have filtered : (withIndex s.eng.txns).filter (fun p => p.1.element == i && f p.1) = [(x, k)] := by
    have split := List.filter_filter (p := fun p : Txn × Nat => f p.1) (q := fun p => p.1.element == i)
      (l := withIndex s.eng.txns)
    rw [only, List.filter_singleton, hit, cond_true] at split
    simpa only [Bool.and_comm] using split.symm
  simp only [State.txnSteps, filtered, List.foldl_cons, List.foldl_nil]

/-- The transactions with the one at an index ended. -/
def State.endTxn (s : State) (k : Nat) (x : Txn) : State :=
  { s with eng := { s.eng with txns := s.eng.txns.set k { x with ended := true } } }

theorem State.txnStep_limit {s : State} {k c : Nat} {x : Txn} (present : s.eng.txns[k]? = some x)
    (flying : x.ended = false) (committed : x.commitUs = some c) (unmet : s.txnDone x = false)
    (limit : c + x.limitUs ≤ s.bench.freezeUs) : s.txnStep k = (s.endTxn k x).afterTimeout x := by
  simp [State.txnStep, State.endTxn, present, flying, committed, unmet, limit]

/-! ### A point throw -/

/-- A throw that has not ended in time leaves its point end LOST, with event 0x6030 (R77). -/
def State.throwFailed (s : State) (i : Nat) : State :=
  (s.modDyn i fun d => { d with lost := true, good := 0, goodUs := s.evalUs }).event 0x6030 .cl .f1

theorem State.throwFailed_dyn {s : State} {i : Nat} (inside : i < s.eng.elems.length) :
    (s.throwFailed i).dyn i = { s.dyn i with lost := true, good := 0, goodUs := s.evalUs } :=
  State.modDyn_dyn_same inside _

/-- One report counts no more than one good value. -/
theorem ElemDyn.countGood_le (d : ElemDyn) (toward : Bool) : (d.countGood toward).good ≤ d.good + 1 := by
  unfold ElemDyn.countGood
  (repeat' split) <;> simp

theorem ElemDyn.countGood_lost (d : ElemDyn) (toward : Bool) : (d.countGood toward).lost = d.lost := by
  unfold ElemDyn.countGood
  split <;> rfl

/-- A point end that has only just been declared LOST stays LOST and shows it: two good reports have yet to come. -/
theorem State.pointStep_lost {s : State} {i : Nat} (inside : i < s.eng.elems.length) (lost : (s.dyn i).lost = true)
    (none : (s.dyn i).good = 0) :
    ∃ home, s.pointStep i = (s.modDyn i fun d => d.countGood home).setValue i 3 := by
  refine ⟨!(s.dyn i).substituted && (s.dyn i).demand.getD (s.dyn i).position == (s.dyn i).value, ?_⟩
  generalize home : (!(s.dyn i).substituted && (s.dyn i).demand.getD (s.dyn i).position == (s.dyn i).value) = b
  have few : ¬2 ≤ ((s.modDyn i fun d => d.countGood b).dyn i).good := by
    have := (s.dyn i).countGood_le b
    rw [State.modDyn_dyn_same inside]
    omega
  have still : ((s.modDyn i fun d => d.countGood b).dyn i).lost = true := by
    rw [State.modDyn_dyn_same inside, ElemDyn.countGood_lost, lost]
  simp only [State.pointStep, home, lost, Bool.true_or, if_true, few, if_false, still]

theorem execThrowTimeout_limit {s : State} {i k c : Nat} {x : Txn} (run : s.power.state = .run)
    (inside : i < s.eng.elems.length) (only : OnlyTxn s i k x) (kind : x.kind = .pointThrow) (flying : x.ended = false)
    (committed : x.commitUs = some c) (away : s.image i ≠ x.value) (limit : c + x.limitUs ≤ s.bench.freezeUs) :
    ∃ t, exec (.throwTimeout i) s = .next t ∧ (t.dyn i).lost = true ∧ (t.dyn i).image = (s.forceOn 1 i).getD 3 ∧
      t.eng.txns = s.eng.txns.set k { x with ended := true } ∧
      (∃ r, t.recorder = { s.recorder with inbox := s.recorder.inbox ++ [r] } ∧ r.code = 0x6030) ∧
      t.eng.routes = s.eng.routes ∧ t.eng.queue = s.eng.queue ∧
      t = { s with bench := t.bench, eng := t.eng, recorder := t.recorder, hi := mirrorOf s t } := by
  obtain ⟨present, own⟩ := onlyTxn_get only
  have unmet : s.txnDone x = false := by simp [State.txnDone, kind, own, away]
  have stepped : (s.txnSteps fun t => t.element == i && t.kind == .pointThrow) = (s.endTxn k x).throwFailed i := by
    rw [onlyTxn_txnSteps only _ (by simp [kind]), State.txnStep_limit present flying committed unmet limit]
    simp only [State.afterTimeout, kind, own]
    rfl
  have insideFailed : i < ((s.endTxn k x).throwFailed i).eng.elems.length := by
    simpa [State.throwFailed, State.event_frame, State.endTxn] using inside
  have record : ((s.endTxn k x).throwFailed i).dyn i = _ := State.throwFailed_dyn inside
  obtain ⟨home, pointed⟩ := State.pointStep_lost insideFailed (by rw [record]) (by rw [record])
  have ran : exec (.throwTimeout i) s =
      .next ((((s.endTxn k x).throwFailed i).modDyn i fun d => d.countGood home).setValue i 3).tellFaults.settle := by
    rw [← pointed, ← stepped]
    exact congrArg (fun u : State => Host.Outcome.next u.settle) (State.timed_run run _)
  generalize shown : ((((s.endTxn k x).throwFailed i).modDyn i fun d => d.countGood home).setValue i 3) = u at ran
  have element : (u.dyn i).lost = true ∧ (u.dyn i).image = (s.forceOn 1 i).getD 3 := by
    rw [← shown, State.setValue_dyn_same (by simpa using insideFailed), State.modDyn_dyn_same insideFailed, record]
    exact ⟨ElemDyn.countGood_lost .., rfl⟩
  have one : Recorded s u 0x6030 0 0 0 := by
    rw [← shown]
    exact State.event_recorded (t := (s.endTxn k x).modDyn i _) rfl rfl rfl _ .cl .f1 ..
  obtain ⟨r, recorder, code, -⟩ := one
  have kept : u.eng.txns = s.eng.txns.set k { x with ended := true } ∧ u.eng.routes = s.eng.routes ∧
      u.eng.queue = s.eng.queue ∧ u = { s with eng := u.eng, recorder := u.recorder } := by
    obtain ⟨-, only⟩ := ((OnlyElement.refl i ((s.endTxn k x).throwFailed i)).modDyn fun d => d.countGood home).setValue 3
    rw [shown] at only
    rw [only]
    exact ⟨rfl, rfl, rfl, rfl⟩
  obtain ⟨txns, routes, queue, only⟩ := kept
  obtain ⟨elements, rest⟩ := State.tellFaults_told (s := u) (by rw [← shown]; exact run)
  obtain ⟨_, _, told⟩ := elements i
  refine ⟨_, ran, ?_⟩
  simp only [State.settle_dyn, told, State.settle_frame, element]
  refine ⟨trivial, trivial, by rw [rest, ← txns], ⟨r, by rw [rest, ← recorder], code⟩, by rw [rest, ← routes],
    by rw [rest, ← queue], ?_⟩
  rw [State.settle_eq, rest, only]

/-! ### A transaction of a signal or a section -/

theorem execTransactionTimeout_limit {s : State} {i k c : Nat} {x : Txn} (run : s.power.state = .run)
    (only : OnlyTxn s i k x) (kind : x.kind = .signalClear ∨ x.kind = .signalStop ∨ x.kind = .sectionReset)
    (flying : x.ended = false) (committed : x.commitUs = some c) (unmet : s.txnDone x = false)
    (limit : c + x.limitUs ≤ s.bench.freezeUs) :
    ∃ t, exec (.transactionTimeout i) s = .next t ∧ t.eng.txns = s.eng.txns.set k { x with ended := true } ∧
      t.eng.routes = s.eng.routes ∧ t.eng.queue = s.eng.queue ∧ t.recorder = s.recorder ∧
      t = { s with bench := t.bench, eng := t.eng, hi := mirrorOf s t } := by
  obtain ⟨present, -⟩ := onlyTxn_get only
  have ends : (s.endTxn k x).afterTimeout x = s.endTxn k x := by
    rcases kind with kind | kind | kind <;> simp only [State.afterTimeout, kind]
  have stepped : (s.txnSteps fun t => t.element == i) = s.endTxn k x := by
    rw [← ends, ← State.txnStep_limit present flying committed unmet limit]
    simpa only [Bool.and_true] using onlyTxn_txnSteps only (fun _ => true) rfl
  have ran : exec (.transactionTimeout i) s = .next (s.endTxn k x).tellFaults.settle := by
    rw [← stepped]
    exact congrArg (fun u : State => Host.Outcome.next u.settle) (State.timed_run run _)
  obtain ⟨-, rest⟩ := State.tellFaults_told (s := s.endTxn k x) run
  refine ⟨_, ran, ?_⟩
  simp only [State.settle_frame]
  refine ⟨?txns, ?routes, ?queue, ?recorder, ?rest⟩
  case rest =>
    rw [State.settle_eq, rest]
    rfl
  all_goals
    rw [rest]
    rfl

end Sys2Proof.Machine
end

section
/-! PROOF. The statement about field transactions at their time limit. -/

namespace Sys2Proof.Proofs

open Sys2Proof Sys2Proof.Machine Sys2Proof.Safety

/-- Settles O26: a throw at its limit leaves its point end LOST, any other transaction only ends. -/
theorem transactionLimits : Obligations.TransactionLimits := by
  unfold Obligations.TransactionLimits
  refine ⟨?throw, ?other⟩
  case throw =>
    intro i k c x s run inside only kind flying committed away limit
    exact execThrowTimeout_limit run inside only kind flying committed away limit
  case other =>
    intro i k c x s run only kind flying committed unmet limit
    exact execTransactionTimeout_limit run only kind flying committed unmet limit

end Sys2Proof.Proofs
end

section
/-! PROOF. The request queue while the bench does not run (R65, R222, R330, R349). -/

namespace Sys2Proof.Machine

open Sys2Proof Sys2Proof.Safety

/-! ### What is taken from the queue -/

theorem State.setXing_xing_of_ne {x y : Crossing} (other : y ≠ x) (s : State) (v : Xing) :
    (s.setXing x v).xing y = s.xing y := by
  have differs : (x == y) = false := by simpa using Ne.symm other
  have rest : (s.xings.filter fun p => p.1 != x).find? (fun p => p.1 == y) = s.xings.find? fun p => p.1 == y := by
    rw [List.find?_filter]
    refine congrArg (List.find? · s.xings) (funext fun p => ?_)
    by_cases hit : p.1 = y <;> simp [hit, other]
  simp only [State.xing, State.setXing, List.find?_cons, differs, rest]

/-- The queue of a crossing that is up is taken as far as its count shows (R65, R218). -/
theorem State.dueRequests_whole {s : State} (usable : (s.xing .mgCl).unusable = false)
    (counted : s.mg.queue.length ≤ (s.xing .mgCl).counter.received) : s.dueRequests (fun _ => true) = s.mg.queue := by
  simp [State.dueRequests, usable, List.take_of_length_le counted]

/-- The state in which the requests of the whole queue are decided: their count and the last arrival number taken. -/
def State.tookQueue (s : State) : State :=
  let x := s.xing .mgCl
  { s.setXing .mgCl { x with counter := x.counter.takeBut 0 } with
    mg := { s.mg with queue := [] }
    eng := { s.eng with lastSeq := s.mg.queue.getLast?.map fun x => x.req.arrival } }

theorem State.takeQueue_whole {s : State} (usable : (s.xing .mgCl).unusable = false)
    (counted : s.mg.queue.length ≤ (s.xing .mgCl).counter.received) (some' : s.mg.queue ≠ []) :
    s.takeQueue (fun _ => true) = (s.tookQueue, inSequence s.eng.lastSeq s.mg.queue) := by
  have none : s.mg.queue.filter (fun r => !s.mg.queue.contains r) = [] := by simp
  have last : (s.mg.queue.getLast?.map fun (x : Queued) => x.req.arrival).or s.eng.lastSeq =
      s.mg.queue.getLast?.map fun x => x.req.arrival := by
    rw [List.getLast?_eq_some_getLast some']
    rfl
  simp only [State.takeQueue, State.dueRequests_whole usable counted, usable, none, Bool.false_eq_true, if_false,
    List.length_nil, State.setXing, last]
  rfl

/-- Nothing comes through a fenced crossing, and nothing from an empty queue (R222, R225). -/
theorem State.dueRequests_none {s : State} (h : s.mg.queue = [] ∨ (s.xing .mgCl).linkDown = true) :
    s.dueRequests (fun _ => true) = [] := by
  rcases h with empty | down
  · simp [State.dueRequests, empty]
  · simp [State.dueRequests, Xing.unusable, down]

theorem State.takeQueue_none {s : State} (h : s.dueRequests (fun _ => true) = []) :
    ∃ t, s.takeQueue (fun _ => true) = (t, true) ∧ t = { s with xings := t.xings } ∧
      ∀ y, y ≠ .mgCl → t.xing y = s.xing y := by
  have all : s.mg.queue.filter (fun r => !([] : List Queued).contains r) = s.mg.queue :=
    List.filter_eq_self.mpr fun _ _ => rfl
  simp only [State.takeQueue, h, all]
  refine ⟨_, rfl, ?_, fun y other => ?_⟩
  · split <;> rfl
  · split
    · rfl
    · exact State.setXing_xing_of_ne other s _

/-! ### The service -/

theorem State.serveQueue_halted {s : State} (halted : s.power.state ≠ .run) (live : s.mailboxLive = true) :
    s.serveQueue = (if (s.takeQueue fun _ => true).2
      then (s.dueRequests fun _ => true).foldl (fun s x => s.decideCluster x.opcode x.req) (s.takeQueue fun _ => true).1
      else (s.dueRequests fun _ => true).foldl (fun s x => s.complete x.opcode x.req .discarded)
        (s.takeQueue fun _ => true).1).refreshDiag := by
  have idle : (s.inRun || !s.mailboxLive) = false := by simp [State.inRun, halted, live]
  simp only [State.serveQueue, idle, Bool.false_eq_true, if_false]

/-- The refresh of the copies writes nothing but the copies (R349). -/
theorem State.refreshDiag_eq (s : State) : s.refreshDiag = { s with diag := s.refreshDiag.diag } := by
  unfold State.refreshDiag
  split <;> rfl

theorem execRequestQueueService_decides {s : State} (halted : s.power.state ≠ .run) (live : s.mailboxLive = true)
    (usable : (s.xing .mgCl).unusable = false) (some' : s.mg.queue ≠ [])
    (counted : s.mg.queue.length ≤ (s.xing .mgCl).counter.received)
    (whole : inSequence s.eng.lastSeq s.mg.queue = true) :
    exec .requestQueueService s = .next
      ((s.mg.queue.foldl (fun s x => s.decideCluster x.opcode x.req) s.tookQueue).refreshDiag).settle := by
  refine congrArg (fun u : State => Host.Outcome.next u.settle) ?_
  rw [State.serveQueue_halted halted live, State.takeQueue_whole usable counted some',
    State.dueRequests_whole usable counted, whole, if_pos rfl]

/-! ### A gap in the arrival numbers -/

/-- From `s` to `t` requests were answered DISCARDED, each answer held while the host's crossing is fenced (R65, R326). -/
def HeldDiscards (s t : State) (l : List Queued) : Prop :=
  t.mg = { s.mg with outstanding := t.mg.outstanding } ∧
  t.hi = { s.hi with heldDone := s.hi.heldDone ++ l.map fun x => done x.req x.opcode .discarded } ∧
  t = { s with mg := t.mg, hi := t.hi }

theorem State.complete_held {s : State} {x : Queued} (halted : s.power.state ≠ .run) (alive : s.mg.alive = true)
    (valid : s.mg.voided = []) (down : s.hi.downMg = true) (pcie : x.req.via = .pcie) :
    HeldDiscards s (s.complete x.opcode x.req .discarded) [x] := by
  simp only [HeldDiscards, State.complete, halted, if_false, State.deliver, alive, valid, down, pcie, Bool.not_true,
    Bool.false_eq_true, List.contains_nil, if_true]
  exact ⟨trivial, rfl, trivial⟩

theorem State.discards_held (l : List Queued) {s : State} (halted : s.power.state ≠ .run) (alive : s.mg.alive = true)
    (valid : s.mg.voided = []) (down : s.hi.downMg = true) (pcie : ∀ x ∈ l, x.req.via = .pcie) :
    HeldDiscards s (l.foldl (fun s x => s.complete x.opcode x.req .discarded) s) l := by
  induction l generalizing s with
  | nil => exact ⟨rfl, by simp, rfl⟩
  | cons x l ih =>
    obtain ⟨mg, hi, rest⟩ := State.complete_held halted alive valid down (pcie x List.mem_cons_self)
    rw [List.foldl_cons]
    generalize s.complete x.opcode x.req .discarded = u at *
    obtain ⟨mg', hi', rest'⟩ := ih (s := u) (by rw [rest]; exact halted) (by rw [mg]; exact alive)
      (by rw [mg]; exact valid) (by rw [hi]; exact down) fun y hy => pcie y (List.mem_cons_of_mem _ hy)
    refine ⟨by rw [mg', mg], by rw [hi', hi]; simp, by rw [rest', rest]⟩

theorem execRequestQueueService_discards {s : State} (halted : s.power.state ≠ .run) (live : s.mailboxLive = true)
    (usable : (s.xing .mgCl).unusable = false) (some' : s.mg.queue ≠ [])
    (counted : s.mg.queue.length ≤ (s.xing .mgCl).counter.received)
    (gap : inSequence s.eng.lastSeq s.mg.queue = false) (alive : s.mg.alive = true) (valid : s.mg.voided = [])
    (down : s.hi.downMg = true) (pcie : ∀ x ∈ s.mg.queue, x.req.via = .pcie) :
    ∃ t, exec .requestQueueService s = .next t ∧ t.mg.queue = [] ∧
      t.eng = { s.eng with lastSeq := s.mg.queue.getLast?.map (fun x => x.req.arrival) } ∧
      t.hi.heldDone = s.hi.heldDone ++ s.mg.queue.map (fun x => done x.req x.opcode .discarded) ∧
      t = { s with mg := t.mg, eng := t.eng, xings := t.xings, diag := t.diag,
                   hi := { mirrorOf s t with heldDone := t.hi.heldDone } } := by
  have ran : exec .requestQueueService s = .next
      (s.mg.queue.foldl (fun s x => s.complete x.opcode x.req .discarded) s.tookQueue).refreshDiag.settle := by
    refine congrArg (fun u : State => Host.Outcome.next u.settle) ?_
    rw [State.serveQueue_halted halted live, State.takeQueue_whole usable counted some',
      State.dueRequests_whole usable counted, gap, if_neg (by simp)]
  obtain ⟨mg, hi, rest⟩ := State.discards_held s.mg.queue (s := s.tookQueue) halted alive valid down pcie
  generalize s.mg.queue.foldl (fun s x => s.complete x.opcode x.req .discarded) s.tookQueue = u at *
  refine ⟨_, ran, ?_, ?_, ?_, ?_⟩
  · rw [State.settle_eq, State.refreshDiag_eq, mg]
    rfl
  · rw [State.settle_eq, State.refreshDiag_eq, rest]
    rfl
  · rw [State.settle_eq, State.refreshDiag_eq, hi]
    rfl
  · rw [State.settle_eq, State.refreshDiag_eq, rest, hi]
    rfl

/-! ### Nothing to take -/

/-- The copies do not depend on the crossings (R349). -/
theorem State.freshDiag_xings (s : State) (l : List (Crossing × Xing)) :
    { s with xings := l }.freshDiag = s.freshDiag := rfl

theorem execRequestQueueService_refreshes {s : State} (halted : s.power.state ≠ .run) (live : s.mailboxLive = true)
    (alive : s.mg.alive = true) (up : (s.xing .clMg).linkDown = false)
    (nothing : s.mg.queue = [] ∨ (s.xing .mgCl).linkDown = true) :
    ∃ t, exec .requestQueueService s = .next t ∧ t.diag = some s.freshDiag ∧ t.mg = s.mg ∧ t.eng = s.eng ∧
      t = { s with diag := t.diag, xings := t.xings, hi := mirrorOf s t } := by
  have empty := State.dueRequests_none nothing
  obtain ⟨u, took, only, others⟩ := State.takeQueue_none empty
  have powered : s.power.state.powered = true := (Bool.and_eq_true_iff.mp live).1
  have fresh : u.refreshDiag = { u with diag := some s.freshDiag } := by
    have copies : u.freshDiag = s.freshDiag := by
      rw [only]
      exact State.freshDiag_xings s _
    have reaches : (u.mg.alive && u.power.state.powered && !(u.xing .clMg).linkDown) = true := by
      rw [others _ (by decide), up, only]
      simp [alive, powered]
    rw [State.refreshDiag, if_pos reaches, copies]
  have ran : exec .requestQueueService s = .next ({ u with diag := some s.freshDiag } : State).settle := by
    refine congrArg (fun u : State => Host.Outcome.next u.settle) ?_
    rw [State.serveQueue_halted halted live, took, empty]
    exact fresh
  refine ⟨_, ran, ?_, ?_, ?_, ?_⟩
  · simp only [State.settle_frame]
  · simp only [State.settle_frame]
    rw [only]
  · simp only [State.settle_frame]
    rw [only]
  · rw [State.settle_eq, only]

end Sys2Proof.Machine
end

section
/-! PROOF. The statement about the request queue while the bench does not run. -/

namespace Sys2Proof.Proofs

open Sys2Proof Sys2Proof.Machine Sys2Proof.Safety

/-- Settles O24: the requests taken are decided in their order, or discarded after a gap, or there are none. -/
theorem queueServedOutsideRun : Obligations.QueueServedOutsideRun := by
  unfold Obligations.QueueServedOutsideRun
  refine ⟨?decides, ?discards, ?refreshes⟩
  case decides =>
    rintro l s halted live usable rfl some' counted whole
    refine ⟨_, s.tookQueue, execRequestQueueService_decides halted live usable some' counted whole, rfl, rfl, rfl, rfl, ?_⟩
    exact fun y other => State.setXing_xing_of_ne other s _
  case discards =>
    rintro l s halted live usable rfl some' counted gap alive valid down pcie
    exact execRequestQueueService_discards halted live usable some' counted gap alive valid down pcie
  case refreshes =>
    intro s halted live alive up nothing
    exact execRequestQueueService_refreshes halted live alive up nothing

end Sys2Proof.Proofs
end

section
/-! PROOF. How far the engine's operations reach in RUN, and a property that one of them gives each element of a list. -/

namespace Sys2Proof.Machine

open Sys2Proof Sys2Proof.Safety

/-! ### The parts of the module that a command of the engine writes -/

/-- `EngineOnly` before the mirror is refreshed (R68, R126). -/
def EngineWork (s t : State) : Prop :=
  t = { s with eng := t.eng, bench := { s.bench with completions := t.bench.completions, notes := t.bench.notes },
               net := { s.net with nodes := t.net.nodes }, draws := t.draws, recorder := t.recorder,
               mg := { s.mg with sessions := t.mg.sessions } }

namespace EngineWork

variable {s t u : State}

theorem refl (s : State) : EngineWork s s := rfl

theorem trans (h : EngineWork s t) (k : EngineWork t u) : EngineWork s u := by
  unfold EngineWork at *
  rw [k, h]

theorem settle (h : EngineWork s t) : EngineOnly s t.settle := by
  unfold EngineWork at h
  unfold EngineOnly
  rw [State.settle_eq, h]

theorem power (h : EngineWork s t) : t.power = s.power := by
  unfold EngineWork at h
  rw [h]

theorem run (h : EngineWork s t) (run : s.power.state = .run) : t.power.state = .run := by rw [h.power, run]

theorem foldl {α : Type} {f : State → α → State} (hf : ∀ t a, EngineWork t (f t a)) (h : EngineWork s t) (l : List α) :
    EngineWork s (l.foldl f t) := List.foldlRecOn l f h fun t k a _ => k.trans (hf t a)

/-- An operation that writes the engine alone. -/
theorem engine (h : EngineWork s t) (only : u = { t with eng := u.eng }) : EngineWork s u :=
  h.trans (by rw [only]; rfl)

theorem modDyn (h : EngineWork s t) (i : Nat) (f : ElemDyn → ElemDyn) : EngineWork s (t.modDyn i f) := h.engine rfl

theorem modRoute (h : EngineWork s t) (n : Nat) (f : RouteDyn → RouteDyn) : EngineWork s (t.modRoute n f) :=
  h.engine rfl

theorem heard (s : State) (q : Req) : EngineWork s (s.heard q) := rfl

theorem startTxn (h : EngineWork s t) (k : TxnKind) (i v limitUs : Nat) : EngineWork s (t.startTxn k i v limitUs) :=
  h.engine rfl

theorem modNode (h : EngineWork s t) (k : Nat) (f : NodeDyn → NodeDyn) : EngineWork s (t.modNode k f) := h.trans rfl

theorem event (h : EngineWork s t) (code : Nat) (src : Source) (sev : Severity) (a b c : Nat) (x : Bool) :
    EngineWork s (t.event code src sev a b c x) := h.trans rfl

end EngineWork

/-! ### Commands to field elements -/

/-- From `s` to `t` only what the engine holds for its elements and the field transactions change. -/
def FieldWork (s t : State) : Prop :=
  t.eng.elems.length = s.eng.elems.length ∧ t = { s with eng := { s.eng with elems := t.eng.elems, txns := t.eng.txns } }

namespace FieldWork

variable {s t u : State}

theorem refl (s : State) : FieldWork s s := ⟨rfl, rfl⟩

theorem trans (h : FieldWork s t) (k : FieldWork t u) : FieldWork s u := by
  obtain ⟨length, only⟩ := h
  obtain ⟨length', only'⟩ := k
  exact ⟨length'.trans length, by rw [only', only]⟩

theorem foldl {α : Type} {f : State → α → State} (hf : ∀ t a, FieldWork t (f t a)) (h : FieldWork s t) (l : List α) :
    FieldWork s (l.foldl f t) := List.foldlRecOn l f h fun t k a _ => k.trans (hf t a)

theorem modDyn (h : FieldWork s t) (i : Nat) (f : ElemDyn → ElemDyn) : FieldWork s (t.modDyn i f) :=
  h.trans ⟨State.modDyn_elems_length .., rfl⟩

theorem demandOf (h : FieldWork s t) (i v : Nat) : FieldWork s (t.demandOf i v) := h.modDyn i _

theorem txns (h : FieldWork s t) (l : List Txn) : FieldWork s { t with eng := { t.eng with txns := l } } :=
  h.trans ⟨rfl, rfl⟩

theorem startTxn (h : FieldWork s t) (k : TxnKind) (i v limitUs : Nat) : FieldWork s (t.startTxn k i v limitUs) :=
  h.txns _

theorem commandStop (h : FieldWork s t) (i : Nat) : FieldWork s (t.commandStop i) := by
  unfold State.commandStop
  dsimp only
  split
  · exact h.demandOf i 0
  · exact (h.demandOf i 0).startTxn ..

theorem engine (h : FieldWork s t) : EngineWork s t := by
  unfold EngineWork
  rw [h.2]

/-- What commands to field elements leave of the engine. -/
theorem engineParts (h : FieldWork s t) : t.eng.routes = s.eng.routes ∧ t.eng.queue = s.eng.queue ∧
    t.eng.prepares = s.eng.prepares ∧ t.eng.waiting = s.eng.waiting := by
  rw [h.2]
  exact ⟨rfl, rfl, rfl, rfl⟩

theorem bench (h : FieldWork s t) : t.bench = s.bench := by
  rw [h.2]

theorem part (h : FieldWork s t) (i : Nat) : t.part i = s.part i := by
  rw [h.2]
  rfl

end FieldWork

/-! ### Completions in RUN -/

theorem State.complete_handed {s : State} (h : s.power.state = .run) (op : Nat) (q : Req) (st : Status) (p0 p1 : Nat) :
    s.complete op q st p0 p1 =
      { s with bench := { s.bench with completions := s.bench.completions ++ [done q op st p0 p1] } } := if_pos h

/-- In RUN the command of an open bench is decided at once (R126, R327). -/
theorem State.clCommand_open {s : State} {q : Req} {op : Nat} {ok : Bool} (benchOpen : BenchOpen s)
    (group : opGroup op ≤ 5) (params : ok = true) (k : State → State) :
    s.clCommand q op (s.judge q op false s.inRun none false ok) k = k (s.heard q) := by
  have reads := benchReads_of_open benchOpen
  refine State.clCommand_accepted (mailboxLive_of_reads reads) (State.judge_eq_none.mpr ?_) k
  exact ⟨rfl, openTo_of_reads reads _ group, by simp [State.inRun, benchOpen.1], rfl, by simp, params⟩

/-! ### One property for each element of a list -/

/-- A loop whose body gives its element a property that no later pass takes back gives it to every element. -/
theorem foldl_forall {α : Type} {f : State → α → State} {P : State → α → Prop} (gives : ∀ s a, P (f s a) a)
    (keeps : ∀ s a b, P s b → P (f s a) b) (l : List α) (s : State) : ∀ b ∈ l, P (l.foldl f s) b := by
  have kept : ∀ (l : List α) (s : State) (b : α), P s b → P (l.foldl f s) b := fun l s b h =>
    List.foldlRecOn (motive := fun t => P t b) l f h fun t k a _ => keeps t a b k
  induction l generalizing s with
  | nil => exact nofun
  | cons a l ih =>
    intro b hb
    rcases List.mem_cons.mp hb with rfl | hb
    · exact kept l _ _ (gives s _)
    · exact ih _ b hb

/-- What the engine holds for an element of the station, if it holds the element, has a property. -/
def ElementHas (p : ElemDyn → Prop) (s : State) (i : Nat) : Prop := i < s.eng.elems.length → p (s.dyn i)

namespace ElementHas

variable {s t : State} {p : ElemDyn → Prop} {i : Nat}

theorem made (f : ElemDyn → ElemDyn) (h : ∀ d, p (f d)) : ElementHas p (s.modDyn i f) i := fun inside => by
  rw [State.modDyn_dyn_same (by simpa using inside)]
  exact h _

theorem modDyn (h : ElementHas p s i) (j : Nat) {f : ElemDyn → ElemDyn} (keeps : ∀ d, p d → p (f d)) :
    ElementHas p (s.modDyn j f) i := fun inside => by
  have now := h (by simpa using inside)
  rw [State.modDyn_dyn]
  split
  · exact keeps _ now
  · exact now

/-- An operation that leaves the elements' records. -/
theorem same (h : ElementHas p s i) (elems : t.eng.elems = s.eng.elems) : ElementHas p t i := by
  simpa only [ElementHas, State.dyn, elems] using h

theorem demanded (v : Nat) : ElementHas (fun d => d.demand = some v) (s.demandOf i v) i :=
  made _ fun d => by split <;> simp_all

end ElementHas

/-- A demand changes only the demand of an element. -/
theorem State.demandOf_modDyn (s : State) (i v : Nat) : s.demandOf i v = s.modDyn i fun d => { d with demand := some v } := by
  refine congrArg (s.modDyn i) (funext fun d => ?_)
  split
  next same => rw [← same]
  next => rfl

/-! ### Transactions started -/

theorem State.startTxn_inFlight (s : State) (k : TxnKind) (i v limitUs : Nat) :
    (s.startTxn k i v limitUs).kindInFlight k i = true := by
  simp [State.startTxn, State.kindInFlight]

/-- A transaction that is not RESTRICTIVE ends none (R88). -/
theorem State.startTxn_kindInFlight {s : State} {k : TxnKind} (normal : k.restrictive = false) (i v limitUs : Nat)
    (k' : TxnKind) (j : Nat) (h : s.kindInFlight k' j = true) : (s.startTxn k i v limitUs).kindInFlight k' j = true := by
  simp only [State.kindInFlight, State.startTxn, normal, Bool.false_eq_true, if_false, List.any_append, Bool.or_eq_true]
  exact .inl h

end Sys2Proof.Machine
end

section
/-! PROOF. The requests that a command enters into the pending queue (R68), and the answer to one that is granted or
needs nothing done. -/

namespace Sys2Proof.Machine

open Sys2Proof Sys2Proof.Safety

/-- The entry that a command's request makes (R68). -/
def State.newPend (s : State) (op : Nat) (q : Req) (w : Want) : Pend :=
  { want := w, arrival := q.arrival, enteredUs := s.bench.freezeUs, opcode := op, req := some q }

/-- A request for a point or for doors is evaluated as soon as it stands in a queue with room (R68). -/
theorem State.enqueue_evaluated {s : State} {w : Want} (room : s.counted < 512) (other : ∀ n, w ≠ .route n) (op : Nat)
    (q : Req) : s.enqueue op q w = (State.asked s op q w).evalPend (s.newPend op q w) := by
  have notFull : ¬512 ≤ s.counted := by omega
  simp only [State.enqueue, notFull, if_false]
  cases w with
  | route n => exact absurd rfl (other n)
  | _ => rfl

/-- The newest entry is the only one of its arrival number. -/
theorem filter_newest {l : List Pend} {p : Pend} (new : ∀ x ∈ l, x.arrival ≠ p.arrival) :
    (l ++ [p]).filter (fun x => !x.same p) = l := by
  have kept : l.filter (fun x => !x.same p) = l := List.filter_eq_self.mpr fun x hx => by simp [Pend.same, new x hx]
  simp [kept, Pend.same_self]

/-- An entry of this very image has not waited 30 s (R70). -/
theorem State.newPend_inTime (s : State) (op : Nat) (q : Req) (w : Want) :
    ¬(s.newPend op q w).enteredUs + 30000000 ≤ s.bench.freezeUs := by
  simp only [State.newPend]
  omega

theorem firstReason_nil : firstReason [] = none := rfl

/-- The answer to a granted request for element `g` (R71, R337). -/
def State.answerGranted (s : State) (p : Pend) (g : Nat) (q : Req) (st : Status) : State :=
  ((s.dropPend p).modDyn g fun d => { d with lastReason := 0 }).complete p.opcode q st 0 0

/-- Wherever the entry is granted, with the field commands of the grant given in `o`, the answer leaves the queue as the
command found it. -/
theorem answerGranted_settle {s o : State} {op : Nat} {q : Req} {w : Want} (run : s.power.state = .run)
    (new : ∀ p ∈ s.eng.queue, p.arrival ≠ q.arrival) (field : FieldWork (State.asked (s.heard q) op q w) o) (g : Nat)
    (st : Status) :
    let t := (o.answerGranted (s.newPend op q w) g q st).settle
    EngineOnly s t ∧ t.eng.queue = s.eng.queue ∧ t.eng.routes = s.eng.routes ∧ t.eng.txns = o.eng.txns ∧
      t.bench.completions = s.bench.completions ++ [done q op st] ∧
      ∀ (p : ElemDyn → Prop) (i : Nat), (∀ d, p d → p { d with lastReason := 0 }) → ElementHas p o i →
        i < s.eng.elems.length → p (t.dyn i) := by
  intro t
  have asked : EngineWork s (State.asked (s.heard q) op q w) := rfl
  have runs : o.power.state = .run := (asked.trans field.engine).run run
  have answered : o.answerGranted (s.newPend op q w) g q st = _ := State.complete_handed (by exact runs) ..
  obtain ⟨routes, queue, -⟩ := field.engineParts
  have left : (o.dropPend (s.newPend op q w)).eng.queue = s.eng.queue := by
    simp only [State.dropPend, queue]
    exact filter_newest new
  have completions : o.bench.completions = s.bench.completions := by rw [field.bench]; rfl
  refine ⟨?_, ?_, ?_, ?_, ?_, fun p i keeps has inside => ?_⟩
  · refine EngineWork.settle (EngineWork.trans (asked.trans field.engine) ?_)
    rw [answered]
    rfl
  · simp only [t, State.settle_frame, answered]
    exact left
  · simp only [t, State.settle_frame, answered]
    exact routes
  · simp only [t, State.settle_frame, answered]
    rfl
  · simp only [t, State.settle_frame, answered]
    exact congrArg (· ++ [done q op st]) completions
  · have kept : ElementHas p ((o.dropPend (s.newPend op q w)).modDyn g fun d => { d with lastReason := 0 }) i :=
      ElementHas.modDyn (ElementHas.same has rfl) g keeps
    refine kept.same (t := t) (by simp only [t, State.settle_frame, answered]) ?_
    have held : i < o.eng.elems.length := by
      rw [field.1]
      exact inside
    simpa only [t, State.settle_frame, answered, State.modDyn_elems_length, State.dropPend] using held

end Sys2Proof.Machine
end

section
/-! PROOF. The commands for platform doors (R106, R107, R109). -/

namespace Sys2Proof.Machine

open Sys2Proof Sys2Proof.Safety

/-! ### DOOR_OPEN -/

/-- What DOOR_OPEN does to one leaf (R106, R107, R117). -/
def State.openLeaf (s : State) (l : Nat) : State :=
  let limit := match s.part l with
    | .leaf _ _ _ m => s.time10ms m
    | _ => 0
  ((s.demandOf l 3).startTxn .doorOpen l 3 limit).modDyn l fun d => { d with health := { d.health with
    active := true, spoiled := false, openUs := none, openTaken := none, closeUs := none, obstructed := 0,
    wasObstructed := false } }

theorem State.openDoors_eq (s : State) (g mask : Nat) : s.openDoors g mask =
    ((s.leavesToOpen g mask).foldl State.openLeaf s).modDyn g fun d => { d with
      openDemand := true, opening := true, reachedOpen := 0,
      leftSecureUs := if d.value = 0 then s.evalUs else d.leftSecureUs } := rfl

theorem State.openLeaf_field (s : State) (l : Nat) : FieldWork s (s.openLeaf l) :=
  (((FieldWork.refl s).demandOf l 3).startTxn ..).modDyn l _

theorem State.openDoors_field (s : State) (g mask : Nat) : FieldWork s (s.openDoors g mask) := by
  rw [State.openDoors_eq]
  exact ((FieldWork.refl s).foldl State.openLeaf_field _).modDyn g _

/-- A leaf commanded open: OPEN is demanded and an open runs. -/
def LeafOpens (s : State) (l : Nat) : Prop :=
  s.kindInFlight .doorOpen l = true ∧ ElementHas (fun d => d.demand = some 3) s l

theorem State.openLeaf_opens (s : State) (l : Nat) : LeafOpens (s.openLeaf l) l :=
  ⟨State.startTxn_inFlight .., ((ElementHas.demanded (s := s) 3).same rfl).modDyn l fun _ h => h⟩

theorem State.openLeaf_keeps (s : State) (l j : Nat) (h : LeafOpens s j) : LeafOpens (s.openLeaf l) j := by
  obtain ⟨flying, demand⟩ := h
  have kept : ElementHas (fun d => d.demand = some 3) (s.demandOf l 3) j := by
    rw [State.demandOf_modDyn]
    exact demand.modDyn l fun _ _ => rfl
  exact ⟨State.startTxn_kindInFlight (s := s.demandOf l 3) rfl _ _ _ _ _ flying,
    (kept.same rfl).modDyn l fun _ h => h⟩

theorem State.openDoors_opens (s : State) (g mask : Nat) :
    ElementHas (fun d => d.openDemand = true ∧ d.opening = true) (s.openDoors g mask) g ∧
      ∀ l ∈ s.leavesToOpen g mask, LeafOpens (s.openDoors g mask) l := by
  rw [State.openDoors_eq]
  refine ⟨ElementHas.made _ fun _ => ⟨rfl, rfl⟩, fun l hl => ?_⟩
  obtain ⟨flying, demand⟩ := foldl_forall State.openLeaf_opens State.openLeaf_keeps _ s l hl
  exact ⟨flying, demand.modDyn g fun _ h => h⟩

theorem State.evalPend_doors {s : State} {p : Pend} {g mask : Nat} {q : Req} (want : p.want = .doors g mask)
    (waiting : p.req = some q) (inTime : ¬p.enteredUs + 30000000 ≤ s.bench.freezeUs) (may : s.openReasons g mask = [])
    (slots : s.slotReasons p.arrival (s.leavesToOpen g mask).length = []) :
    s.evalPend p = (s.openDoors g mask).answerGranted p g q .accepted := by
  simp only [State.evalPend, want, inTime, if_false, may, slots, List.append_nil, firstReason_nil, State.grantPend,
    State.keepReason, State.tell, waiting, State.answerGranted]

/-- DOOR_OPEN with nothing against it is accepted (R105, R106). -/
theorem execDoorOpen_eq {q : Req} {mask : Nat} {s : State} (benchOpen : BenchOpen s) (edge : s.typeOf q.p0 = 4)
    (length : q.payload.length = 8) (zero : zeros q.payload 6 2 = true) (leaves : mask = ofLe (q.payload.take 6))
    (fits : mask < 2 ^ (s.part q.p0).leaves.length) (room : s.counted < 512)
    (may : (State.asked s 0x0301 q (.doors q.p0 mask)).openReasons q.p0 mask = [])
    (slots : (State.asked s 0x0301 q (.doors q.p0 mask)).slotReasons q.arrival (s.leavesToOpen q.p0 mask).length = []) :
    exec (.doorOpen q) s = .next (((State.asked (s.heard q) 0x0301 q (.doors q.p0 mask)).openDoors q.p0 mask).answerGranted
      (s.newPend 0x0301 q (.doors q.p0 mask)) q.p0 q .accepted).settle := by
  have ok : (s.typeOf q.p0 == 4 && q.payload.length == 8 && zeros q.payload 6 2 &&
      decide (ofLe (q.payload.take 6) < 2 ^ (s.part q.p0).leaves.length)) = true := by
    simp [edge, length, zero, ← leaves, fits]
  refine congrArg (fun u : State => Host.Outcome.next u.settle) ?_
  rw [State.decideDoorOpen, State.clCommand_open benchOpen (by decide) ok, ← leaves,
    State.enqueue_evaluated (by exact room) (by simp)]
  exact State.evalPend_doors (s := State.asked (s.heard q) 0x0301 q (.doors q.p0 mask)) rfl rfl
    (s.newPend_inTime 0x0301 q (.doors q.p0 mask)) may slots

theorem execDoorOpen_opens {q : Req} {mask : Nat} {s : State} (benchOpen : BenchOpen s) (edge : s.typeOf q.p0 = 4)
    (length : q.payload.length = 8) (zero : zeros q.payload 6 2 = true) (leaves : mask = ofLe (q.payload.take 6))
    (fits : mask < 2 ^ (s.part q.p0).leaves.length) (room : s.counted < 512)
    (new : ∀ p ∈ s.eng.queue, p.arrival ≠ q.arrival)
    (may : (State.asked s 0x0301 q (.doors q.p0 mask)).openReasons q.p0 mask = [])
    (slots : (State.asked s 0x0301 q (.doors q.p0 mask)).slotReasons q.arrival (s.leavesToOpen q.p0 mask).length = []) :
    ∃ t, exec (.doorOpen q) s = .next t ∧ EngineOnly s t ∧
      (q.p0 < s.eng.elems.length → (t.dyn q.p0).openDemand = true ∧ (t.dyn q.p0).opening = true) ∧
      (∀ l ∈ s.leavesToOpen q.p0 mask, t.kindInFlight .doorOpen l = true ∧
        (l < s.eng.elems.length → (t.dyn l).demand = some 3)) ∧
      t.eng.queue = s.eng.queue ∧ t.eng.routes = s.eng.routes ∧
      t.bench.completions = s.bench.completions ++ [done q 0x0301 .accepted] := by
  let a := State.asked (s.heard q) 0x0301 q (.doors q.p0 mask)
  obtain ⟨open', leavesOpen⟩ := a.openDoors_opens q.p0 mask
  obtain ⟨only, queue, routes, txns, completions, keeps⟩ :=
    answerGranted_settle benchOpen.1 new (a.openDoors_field q.p0 mask) q.p0 .accepted
  refine ⟨_, execDoorOpen_eq benchOpen edge length zero leaves fits room may slots, only, ?_, ?_, queue, routes,
    completions⟩
  · exact keeps _ _ (fun _ h => h) open'
  · intro l hl
    obtain ⟨flying, demand⟩ := leavesOpen l hl
    refine ⟨?_, keeps _ _ (fun _ h => h) demand⟩
    rw [State.kindInFlight, txns]
    exact flying

/-! ### DOOR_CLOSE -/

/-- A transaction that ends if it is one of some. -/
def endIf (f : Txn → Bool) (x : Txn) : Txn := if f x then { x with ended := true } else x

/-- Whether a transaction of a kind runs for an element. -/
def flies (k : TxnKind) (i : Nat) (x : Txn) : Bool := x.kind == k && x.element == i && !x.ended

/-- None flies of a kind for an element where all of them end. -/
theorem endIf_none {f : Txn → Bool} {k : TxnKind} {i : Nat} (hit : ∀ x, x.kind = k → x.element = i → f x = true)
    (l : List Txn) : (l.map (endIf f)).any (flies k i) = false := by
  simp only [List.any_map, List.any_eq_false, Function.comp, flies, endIf]
  intro x _
  split
  case isTrue => simp
  case isFalse miss =>
    have : x.kind = k → x.element ≠ i := fun kind element => miss (hit x kind element)
    simp_all

/-- Where none flies, none does after some have ended. -/
theorem endIf_keeps {l : List Txn} {k : TxnKind} {i : Nat} (none : l.any (flies k i) = false) (f : Txn → Bool) :
    (l.map (endIf f)).any (flies k i) = false := by
  simp only [List.any_map, List.any_eq_false, Function.comp, flies, endIf] at none ⊢
  intro x hx
  have := none x hx
  split
  case isTrue => simp
  case isFalse => exact this

/-- The open transactions of a leaf end (R109). -/
def State.endOpens (s : State) (l : Nat) : State :=
  { s with eng := { s.eng with txns := s.eng.txns.map (endIf fun t => t.element == l && t.kind == .doorOpen) } }

/-- A close is RESTRICTIVE: the NORMAL transactions of its leaf end, its opens among them (R88). -/
theorem State.startClose_inFlight (s : State) (l limitUs j : Nat) :
    (s.startTxn .doorClose l 0 limitUs).kindInFlight .doorOpen j =
      (s.eng.txns.map (endIf fun t => t.element == l && !t.kind.restrictive)).any (flies .doorOpen j) := by
  have other : ∀ slot, flies .doorOpen j { kind := .doorClose, element := l, value := 0, slot := slot, limitUs := limitUs } =
      false := fun _ => rfl
  have listed : (s.startTxn .doorClose l 0 limitUs).kindInFlight .doorOpen j =
      ((s.eng.txns.map (endIf fun t => t.element == l && !t.kind.restrictive)) ++ [_]).any (flies .doorOpen j) := rfl
  rw [listed, List.any_append, List.any_cons, other, List.any_nil, Bool.or_self, Bool.or_false]

theorem State.closeLeaf_leaf {s : State} {l g pos m : Nat} {iso : Bool} (leaf : s.part l = .leaf g pos iso m) :
    s.closeLeaf l = if leafSecure (s.image l) || s.kindInFlight .doorClose l then (s.demandOf l 0).endOpens l
      else (s.demandOf l 0).startTxn .doorClose l 0 (s.time10ms m) := by
  simp only [State.closeLeaf, leaf]
  rfl

theorem State.closeLeaf_field (s : State) (l : Nat) : FieldWork s (s.closeLeaf l) := by
  have demanded : FieldWork s (s.demandOf l 0) := (FieldWork.refl s).demandOf l 0
  simp only [State.closeLeaf]
  split
  · split
    · exact demanded.txns _
    · exact demanded.startTxn ..
  · exact demanded

/-- A leaf commanded closed: CLOSE is demanded and, if it is one, no open of it runs. -/
def LeafCloses (s : State) (l : Nat) : Prop :=
  ElementHas (fun d => d.demand = some 0) s l ∧
    ∀ g pos b m, s.part l = .leaf g pos b m → s.kindInFlight .doorOpen l = false

theorem State.closeLeaf_elems (s : State) (l : Nat) : (s.closeLeaf l).eng.elems = (s.demandOf l 0).eng.elems := by
  simp only [State.closeLeaf]
  (repeat' split) <;> rfl

theorem State.closeLeaf_closes (s : State) (l : Nat) : LeafCloses (s.closeLeaf l) l := by
  refine ⟨(ElementHas.demanded (s := s) 0).same (s.closeLeaf_elems l), fun g pos b m leaf => ?_⟩
  rw [(s.closeLeaf_field l).part] at leaf
  rw [State.closeLeaf_leaf leaf]
  split
  · exact endIf_none (fun x kind element => by simp [kind, element]) _
  · rw [State.startClose_inFlight]
    exact endIf_none (fun x kind element => by simp [kind, element, TxnKind.restrictive]) _

theorem State.closeLeaf_keeps (s : State) (l j : Nat) (h : LeafCloses s j) : LeafCloses (s.closeLeaf l) j := by
  obtain ⟨demand, ended⟩ := h
  refine ⟨ElementHas.same (s := s.demandOf l 0) ?_ (s.closeLeaf_elems l), fun g pos b m leaf => ?_⟩
  · rw [State.demandOf_modDyn]
    exact demand.modDyn l fun _ _ => rfl
  · rw [(s.closeLeaf_field l).part] at leaf
    have none : (s.demandOf l 0).kindInFlight .doorOpen j = false := ended g pos b m leaf
    simp only [State.closeLeaf]
    split
    · split
      · exact endIf_keeps none _
      · rw [State.startClose_inFlight]
        exact endIf_keeps none _
    · exact none

theorem State.closeEdge_field (s : State) (g : Nat) : FieldWork s (s.closeEdge g) :=
  ((FieldWork.refl s).modDyn g _).foldl State.closeLeaf_field _

theorem State.closeEdge_closes (s : State) (g : Nat) :
    ElementHas (fun d => d.openDemand = false) (s.closeEdge g) g ∧ ∀ l ∈ (s.part g).leaves, LeafCloses (s.closeEdge g) l := by
  have shut : ElementHas (fun d => d.openDemand = false) (s.modDyn g fun d => { d with openDemand := false }) g :=
    ElementHas.made _ fun _ => rfl
  refine ⟨?_, foldl_forall State.closeLeaf_closes State.closeLeaf_keeps _ _⟩
  refine List.foldlRecOn (motive := fun t => ElementHas (fun d => d.openDemand = false) t g) _ _ shut fun t h l _ => ?_
  refine ElementHas.same (s := t.demandOf l 0) ?_ (t.closeLeaf_elems l)
  rw [State.demandOf_modDyn]
  exact h.modDyn l fun _ h => h

theorem execDoorClose_closes {q : Req} {s : State} (benchOpen : BenchOpen s) (edge : s.typeOf q.p0 = 4) :
    ∃ t, exec (.doorClose q) s = .next t ∧ EngineOnly s t ∧ t.eng.waiting = s.eng.waiting ++ [.doorClose q q.p0] ∧
      (q.p0 < s.eng.elems.length → (t.dyn q.p0).openDemand = false) ∧
      (∀ l ∈ (s.part q.p0).leaves, (l < s.eng.elems.length → (t.dyn l).demand = some 0) ∧
        ∀ g pos b m, s.part l = .leaf g pos b m → t.kindInFlight .doorOpen l = false) ∧
      t.eng.routes = s.eng.routes ∧ t.eng.queue = s.eng.queue ∧ t.bench.completions = s.bench.completions := by
  let c := (s.heard q).closeEdge q.p0
  have ran : exec (.doorClose q) s =
      .next ({ c with eng := { c.eng with waiting := c.eng.waiting ++ [.doorClose q q.p0] } } : State).settle := by
    refine congrArg (fun u : State => Host.Outcome.next u.settle) ?_
    rw [State.decideDoorClose, State.clCommand_open benchOpen (by decide) (by simp [edge])]
  have field : FieldWork (s.heard q) c := State.closeEdge_field _ _
  obtain ⟨routes, queue, -, waiting⟩ := field.engineParts
  obtain ⟨shut, leavesClose⟩ := (s.heard q).closeEdge_closes q.p0
  have work : EngineWork s { c with eng := { c.eng with waiting := c.eng.waiting ++ [.doorClose q q.p0] } } :=
    ((EngineWork.heard s q).trans field.engine).engine rfl
  refine ⟨_, ran, work.settle, ?_⟩
  simp only [State.settle_dyn, State.kindInFlight, State.settle_frame]
  refine ⟨congrArg (· ++ _) waiting, fun inside => shut (by rw [field.1]; exact inside), fun l hl => ?_, routes, queue,
    congrArg Bench.completions field.bench⟩
  obtain ⟨demand, ended⟩ := leavesClose l hl
  exact ⟨fun inside => demand (by rw [field.1]; exact inside), fun g pos b m leaf =>
    ended g pos b m (by rw [field.part]; exact leaf)⟩

end Sys2Proof.Machine
end

section
/-! PROOF. The auxiliary commands (R90, R91). -/

namespace Sys2Proof.Machine

open Sys2Proof Sys2Proof.Safety

/-! ### AUX_PREPARE -/

/-- The engine with a prepare, in place of an expired one of the same kind and target (R90). -/
def State.prepared (s : State) (p : Prepare) : State :=
  { s with
    draws := s.draws + 1
    eng := { s.eng with prepares :=
      s.eng.prepares.filter (fun x => !(x.expired && x.kind == p.kind && x.target == p.target)) ++ [p] } }

/-- The prepare that AUX_PREPARE makes, with the challenge drawn for it (R90). -/
def State.newPrepare (s : State) (kind pos target : Nat) : Prepare :=
  { kind := kind, position := pos, target := target, challenge := (Config.auxChallenge s.draws).toNat % 1000000
    doneUs := none }

theorem execAuxPrepare_eq {q : Req} {kind pos : Nat} {s : State} (benchOpen : BenchOpen s) (p0 : q.p0 = kind + pos * 256)
    (kindLow : kind < 256) (posLow : pos < 256) (params : s.auxParams kind pos q.p1 = true)
    (allowed : s.auxRefusal kind q.p1 = none) (fresh : ∀ p ∈ s.openPrepares, p.kind = kind → p.target ≠ q.p1)
    (room : s.openPrepares.length < 16) :
    let p := s.newPrepare kind pos q.p1
    exec (.auxPrepare q) s = .next (((((s.heard q).prepared p).event 0x6020 .cl .info (auxWord kind pos q.p1)
      p.challenge).complete 0x0201 q .ok p.challenge).settle) := by
  have hkind : q.p0 % 256 = kind := by omega
  have hpos : q.p0 / 256 % 256 = pos := by omega
  have low : q.p0 < 65536 := by omega
  have free : (s.openPrepares.any (fun p => p.kind == kind && p.target == q.p1) || 16 ≤ s.openPrepares.length) = false := by
    have none : s.openPrepares.any (fun p => p.kind == kind && p.target == q.p1) = false := by
      rw [List.any_eq_false]
      intro p hp
      have := fresh p hp
      simp_all
    simp [none, room]
  have may : (s.heard q).auxRefusal kind q.p1 = none := allowed
  have idle : ((s.heard q).openPrepares.any (fun p => p.kind == kind && p.target == q.p1) ||
    16 ≤ (s.heard q).openPrepares.length) = false := free
  refine congrArg (fun u : State => Host.Outcome.next u.settle) ?_
  rw [State.decideAuxPrepare]
  simp only [hkind, hpos]
  rw [State.clCommand_open benchOpen (by decide) (by simp [low, params]), may, idle]
  rfl

theorem execAuxPrepare_prepares {q : Req} {kind pos ch : Nat} {s : State} (benchOpen : BenchOpen s)
    (p0 : q.p0 = kind + pos * 256) (kindLow : kind < 256) (posLow : pos < 256)
    (params : s.auxParams kind pos q.p1 = true) (allowed : s.auxRefusal kind q.p1 = none)
    (fresh : ∀ p ∈ s.openPrepares, p.kind = kind → p.target ≠ q.p1) (room : s.openPrepares.length < 16)
    (drawn : ch = (Config.auxChallenge s.draws).toNat % 1000000) :
    ∃ t, exec (.auxPrepare q) s = .next t ∧ EngineOnly s t ∧ t.draws = s.draws + 1 ∧
      { kind := kind, position := pos, target := q.p1, challenge := ch, doneUs := none } ∈ t.eng.prepares ∧
      Recorded s t 0x6020 (auxWord kind pos q.p1) ch 0 ∧ t.eng = { s.eng with prepares := t.eng.prepares } ∧
      t.bench.completions = s.bench.completions ++ [done q 0x0201 .ok ch] := by
  subst drawn
  refine ⟨_, execAuxPrepare_eq benchOpen p0 kindLow posLow params allowed fresh room, ?_⟩
  rw [State.complete_handed (by exact benchOpen.1)]
  refine ⟨EngineWork.settle rfl, ?_, ?_, recorded_settle ?_, ?_, ?_⟩
  · simp only [State.settle_frame]
    rfl
  · simp only [State.settle_frame]
    exact List.mem_append_right _ List.mem_cons_self
  · exact recorded_framed (State.event_recorded (s := s) (t := (s.heard q).prepared (s.newPrepare kind pos q.p1)) rfl rfl
      rfl 0x6020 .cl .info _ _ 0 false) rfl
  · simp only [State.settle_frame]
    rfl
  · simp only [State.settle_frame]
    rfl

/-! ### The effect of a confirm (R91, R92) -/

theorem State.withdrawClear_field (s : State) (n : Nat) (r : Route) : FieldWork s (s.withdrawClear n r) := by
  unfold State.withdrawClear
  split
  · exact FieldWork.refl s
  · exact ((FieldWork.refl s).demandOf _ _).txns _

/-- A confirmed emergency release commands the entry signal to STOP and starts the route's timer (R91). -/
theorem State.emergency_eq {s : State} {n : Nat} {r : Route} (known : s.fullRoute n = some r) :
    ∃ (u : State) (f : RouteDyn → RouteDyn), FieldWork s u ∧ s.emergency n = (u.commandStop r.entry).modRoute n f ∧
      ∀ d, (f d).emergencyEnd = some (s.bench.freezeUs + s.timeS r.approachRelease) := by
  simp only [State.emergency, known]
  refine ⟨_, _, ?_, rfl, fun _ => rfl⟩
  split
  · exact s.withdrawClear_field n r
  · exact FieldWork.refl s

/-- A signal commanded to STOP is demanded STOP (R85). -/
theorem State.commandStop_demands (s : State) (i : Nat) : ElementHas (fun d => d.demand = some 0) (s.commandStop i) i := by
  refine (ElementHas.demanded (s := s) 0).same ?_
  unfold State.commandStop
  dsimp only
  split <;> rfl

theorem State.emergency_release {s : State} {n : Nat} {r : Route} (known : s.fullRoute n = some r)
    (inside : n < s.eng.routes.length) :
    ((s.emergency n).rdyn n).emergencyEnd = some (s.bench.freezeUs + s.timeS r.approachRelease) ∧
      (∀ m, m ≠ n → (s.emergency n).rdyn m = s.rdyn m) ∧
      (r.entry < s.eng.elems.length → ((s.emergency n).dyn r.entry).demand = some 0) := by
  obtain ⟨u, f, field, eq, timer⟩ := State.emergency_eq known
  have stopped : FieldWork s (u.commandStop r.entry) := field.commandStop r.entry
  obtain ⟨routes, -⟩ := stopped.engineParts
  rw [eq]
  refine ⟨?_, fun m other => ?_, fun inside => ?_⟩
  · rw [State.modRoute_rdyn_same (by rw [routes]; exact inside)]
    exact timer _
  · rw [State.modRoute_rdyn_of_ne other, State.rdyn, routes]
    rfl
  · exact u.commandStop_demands r.entry (by rw [stopped.1]; exact inside)

/-- What the effect of a confirm leaves of the engine (R91, R92). -/
def ConfirmEffect (s t : State) : Prop :=
  EngineWork s t ∧ t.bench = s.bench ∧ t.eng.prepares = s.eng.prepares ∧
    t.eng.routes.length = s.eng.routes.length ∧ InboxKept s t

theorem FieldWork.effect {s t : State} (h : FieldWork s t) : ConfirmEffect s t := by
  obtain ⟨routes, -, prepares, -⟩ := h.engineParts
  refine ⟨h.engine, h.bench, prepares, by rw [routes], ?_⟩
  rw [InboxKept, h.2]

theorem State.emergency_effect (s : State) (n : Nat) : ConfirmEffect s (s.emergency n) := by
  cases known : s.fullRoute n with
  | none =>
    simp only [State.emergency, known]
    exact (FieldWork.refl s).effect
  | some r =>
    obtain ⟨u, f, field, eq, -⟩ := State.emergency_eq known
    obtain ⟨work, bench, prepares, routes, kept⟩ := (field.commandStop r.entry).effect
    rw [eq]
    exact ⟨work.modRoute n f, bench, prepares, (State.modRoute_routes_length ..).trans routes, kept⟩

/-- The points of an area held no more (R94). -/
def State.unholdArea (s : State) (area : Nat) : State :=
  (s.ofType 2).foldl (fun s' i => if ((s.elem i).map (fun e => e.area == area)).getD false
    then s'.modDyn i (fun d => { d with held := false }) else s') s

theorem State.unholdArea_field (s : State) (area : Nat) : FieldWork s (s.unholdArea area) := by
  refine (FieldWork.refl s).foldl (fun t i => ?_) _
  split
  · exact (FieldWork.refl t).modDyn i _
  · exact FieldWork.refl t

/-- A point end of the station stands among the elements of its type. -/
theorem State.mem_ofType {s : State} {i : Nat} {e : Element} (element : s.elem i = some e) :
    i ∈ s.ofType e.part.typeCode := by
  refine List.mem_filterMap.mpr ⟨(e, i), List.mem_zipIdx_iff_getElem?.mpr element, ?_⟩
  simp

theorem State.unholdArea_released {s : State} {area i : Nat} {e : Element} (element : s.elem i = some e)
    (point : e.part.typeCode = 2) (own : e.area = area) : ((s.unholdArea area).dyn i).held = false := by
  have listed : i ∈ s.ofType 2 := point ▸ State.mem_ofType element
  have freed : ElementHas (fun d => ((s.elem i).map (fun e => e.area == area)).getD false = true → d.held = false)
      (s.unholdArea area) i := by
    refine foldl_forall (P := fun t i => ElementHas
      (fun d => ((s.elem i).map (fun e => e.area == area)).getD false = true → d.held = false) t i)
      (fun t j => ?_) (fun t j k h => ?_) _ s i listed
    · split
      · exact ElementHas.made _ fun _ _ => rfl
      · exact fun _ mine => absurd mine ‹_›
    · split
      · exact h.modDyn j fun _ _ _ => rfl
      · exact h
  by_cases inside : i < (s.unholdArea area).eng.elems.length
  · exact freed inside (by simp [element, own])
  · rw [State.dyn, List.getD_eq_default _ _ (by omega)]

/-- The sections of an area that a confirmed restart release resets (R91, R445). -/
theorem State.releaseArea_eq (s : State) (area arrival : Nat) : ∃ l, s.releaseArea area arrival =
    { (s.unholdArea area).event 0x6040 .cl .info area with eng := { (s.unholdArea area).eng with
      heldAreas := (s.unholdArea area).eng.heldAreas.filter (· != area)
      queue := (s.unholdArea area).eng.queue ++ l } } := ⟨_, rfl⟩

theorem State.releaseArea_effect (s : State) (area arrival : Nat) :
    ConfirmEffect s (s.releaseArea area arrival) ∧ area ∉ (s.releaseArea area arrival).eng.heldAreas ∧
      (s.releaseArea area arrival).eng.elems = (s.unholdArea area).eng.elems := by
  obtain ⟨l, eq⟩ := s.releaseArea_eq area arrival
  obtain ⟨work, bench, prepares, routes, kept⟩ := (s.unholdArea_field area).effect
  rw [eq]
  exact ⟨⟨(work.event 0x6040 .cl .info area 0 0 false).engine rfl, bench, prepares, routes,
    kept.event 0x6040 .cl .info area 0 0 false⟩, by simp, rfl⟩

theorem State.auxExecute_effect (s : State) (kind pos target : Nat) (q : Req) :
    ConfirmEffect s (s.auxExecute kind pos target q) := by
  unfold State.auxExecute
  split
  · exact s.emergency_effect target
  · exact ⟨rfl, rfl, rfl, rfl, List.prefix_refl _⟩
  · exact (s.releaseArea_effect target q.arrival).1

/-! ### AUX_CONFIRM -/

/-- Whether the 30 s of a prepare have passed at a confirm (R90). -/
def State.prepareLate (s : State) (p : Prepare) : Bool :=
  p.expired || p.doneUs.any (fun t => t + 30000000 < s.bench.freezeUs)

/-- Why a confirm of a prepare is refused (R90, R91). -/
def State.confirmRefusal (s : State) (p : Prepare) (ch : Nat) : Option (Nat × Nat) :=
  if p.challenge ≠ ch then some (0x0161, p.kind) else if s.prepareLate p then some (0x0162, p.kind)
  else s.auxRefusal p.kind p.target

/-- A prepare consumed without effect: it becomes void, with its expiry recorded if that is due (R90). -/
def State.consumed (s : State) (p : Prepare) (reason : Nat) : State :=
  let u := if s.prepareLate p && !p.expired then (s.dropPrepare p).event 0x6023 .cl .info
    (auxWord p.kind p.position p.target) else s.dropPrepare p
  if p.expired then u else u.voidPrepare p reason

/-- A confirm refused (R90). -/
def State.confirmRefused (s : State) (q : Req) (p : Prepare) (x : Nat × Nat) : State :=
  ((s.consumed p x.1).event 0x6022 .cl .info (auxWord p.kind p.position p.target) x.1 (u32 q.payload 8)).complete
    0x0202 q .refused x.1 x.2

/-- A confirm carried out (R90, R91). -/
def State.confirmDone (s : State) (q : Req) (p : Prepare) : State :=
  (((s.dropPrepare p).event 0x6021 .cl .info (auxWord p.kind p.position p.target) 0 (u32 q.payload 8)).auxExecute
    p.kind p.position p.target q).complete 0x0202 q .ok

theorem execAuxConfirm_eq {q : Req} {p : Prepare} {s : State} (benchOpen : BenchOpen s) (length : q.payload.length = 12)
    (params : s.auxParams (u8 q.payload 0) (u8 q.payload 1) (u16 q.payload 2) = true)
    (found : s.eng.prepares.find? (fun p => p.kind == u8 q.payload 0 && p.position == u8 q.payload 1 &&
      p.target == u16 q.payload 2) = some p) :
    exec (.auxConfirm q) s = .next (match s.confirmRefusal p (u32 q.payload 4) with
      | some x => ((s.heard q).confirmRefused q p x).settle
      | none => ((s.heard q).confirmDone q p).settle) := by
  have own : p.kind = u8 q.payload 0 ∧ p.position = u8 q.payload 1 ∧ p.target = u16 q.payload 2 := by
    simpa [and_assoc] using List.find?_some found
  obtain ⟨kind, pos, target⟩ := own
  have heard : (s.heard q).eng.prepares.find? (fun p => p.kind == u8 q.payload 0 && p.position == u8 q.payload 1 &&
      p.target == u16 q.payload 2) = some p := found
  have decided : s.decideAuxConfirm q = (match (s.heard q).confirmRefusal p (u32 q.payload 4) with
      | some x => (s.heard q).confirmRefused q p x
      | none => (s.heard q).confirmDone q p) := by
    rw [State.decideAuxConfirm, State.clCommand_open benchOpen (by decide) (by simp [length, params]), heard]
    simp only [← kind, ← pos, ← target]
    rfl
  have same : (s.heard q).confirmRefusal p (u32 q.payload 4) = s.confirmRefusal p (u32 q.payload 4) := rfl
  simp only [exec, execAuxConfirm, decided, same]
  cases s.confirmRefusal p (u32 q.payload 4) <;> rfl

theorem State.dropPrepare_gone (s : State) (p : Prepare) : p ∉ (s.dropPrepare p).eng.prepares := by
  simp [State.dropPrepare]

/-- A refused confirm has consumed the prepare, and nothing else of the engine has changed. -/
theorem State.confirmRefused_settle {s : State} (run : s.power.state = .run) (q : Req) (p : Prepare) (x : Nat × Nat) :
    let t := ((s.heard q).confirmRefused q p x).settle
    EngineOnly s t ∧ t.eng = (s.dropPrepare p).eng ∧
      t.bench.completions = s.bench.completions ++ [done q 0x0202 .refused x.1 x.2] ∧
      LastReport t 0x6022 (auxWord p.kind p.position p.target) x.1 (u32 q.payload 8) := by
  have consumed : EngineWork s ((s.heard q).consumed p x.1) ∧ ((s.heard q).consumed p x.1).eng = (s.dropPrepare p).eng ∧
      ((s.heard q).consumed p x.1).bench.completions = s.bench.completions := by
    have dropped : ∀ u : State, EngineWork s u → u.eng = (s.dropPrepare p).eng → u.bench = s.bench →
        EngineWork s (if p.expired then u else u.voidPrepare p x.1) ∧
        (if p.expired then u else u.voidPrepare p x.1).eng = (s.dropPrepare p).eng ∧
        (if p.expired then u else u.voidPrepare p x.1).bench.completions = s.bench.completions := by
      intro u work eng bench
      split
      · exact ⟨work, eng, by rw [bench]⟩
      · rw [State.voidPrepare, State.noteCluster_run (work.run run)]
        exact ⟨work.trans rfl, eng, by rw [← bench]⟩
    unfold State.consumed
    refine dropped _ ?_ ?_ ?_
    all_goals split <;> rfl
  intro t
  generalize hu : (s.heard q).consumed p x.1 = u at consumed
  obtain ⟨work, eng, completions⟩ := consumed
  simp only [t, State.confirmRefused, hu]
  rw [State.complete_handed (by exact work.run run)]
  refine ⟨EngineWork.settle (work.trans rfl), ?_, ?_, ?_⟩
  · simp only [State.settle_frame]
    exact eng
  · simp only [State.settle_frame]
    exact congrArg (· ++ _) completions
  · simp only [LastReport, State.settle_frame]
    exact ⟨_, by rw [State.event_recorder]; exact List.getLast?_concat, rfl, rfl, rfl, rfl⟩

/-- A confirm that is carried out has consumed the prepare, and its effect follows its record. -/
theorem State.confirmDone_settle {s : State} (run : s.power.state = .run) (q : Req) (p : Prepare) :
    let t := ((s.heard q).confirmDone q p).settle
    let u := (s.heard q).dropPrepare p |>.event 0x6021 .cl .info (auxWord p.kind p.position p.target) 0 (u32 q.payload 8)
    EngineOnly s t ∧ t.eng = (u.auxExecute p.kind p.position p.target q).eng ∧ p ∉ t.eng.prepares ∧
      t.eng.routes.length = s.eng.routes.length ∧ t.bench.completions = s.bench.completions ++ [done q 0x0202 .ok] ∧
      FirstReport s t 0x6021 (auxWord p.kind p.position p.target) 0 (u32 q.payload 8) := by
  intro t u
  obtain ⟨work, bench, prepares, routes, kept⟩ := u.auxExecute_effect p.kind p.position p.target q
  have reach : EngineWork s (u.auxExecute p.kind p.position p.target q) := EngineWork.trans (t := u) rfl work
  have answered : (s.heard q).confirmDone q p = _ := State.complete_handed (reach.run run) ..
  have first := firstReport_of_inboxKept (s := s) (u := (s.heard q).dropPrepare p) (src := .cl) (sev := .info)
    (x := false) rfl kept
  simp only [t]
  rw [answered]
  refine ⟨EngineWork.settle (reach.trans rfl), ?_, ?_, ?_, ?_, ?_⟩
  · simp only [State.settle_frame]
  · simp only [State.settle_frame, prepares]
    exact State.dropPrepare_gone s p
  · simp only [State.settle_frame]
    exact routes
  · simp only [State.settle_frame, bench]
    rfl
  · simpa only [FirstReport, State.settle_frame] using first

/-! ### What decides a confirm -/

theorem State.confirmRefusal_challenge {s : State} {p : Prepare} {ch : Nat} (wrong : p.challenge ≠ ch) :
    s.confirmRefusal p ch = some (0x0161, p.kind) := if_pos wrong

/-- A prepare whose 30 s have not passed, confirmed with its challenge, is refused only for its target (R90, R91). -/
theorem State.confirmRefusal_inTime {s : State} {p : Prepare} {ch : Nat} (challenge : p.challenge = ch)
    (fresh : p.expired = false) (inTime : ∀ e, p.doneUs = some e → s.bench.freezeUs ≤ e + 30000000) :
    s.confirmRefusal p ch = s.auxRefusal p.kind p.target := by
  have early : s.prepareLate p = false := by
    rw [State.prepareLate, fresh, Bool.false_or]
    cases completed : p.doneUs with
    | none => rfl
    | some e =>
      rw [Option.any_some]
      exact decide_eq_false (Nat.not_lt.mpr (inTime e completed))
  simp [State.confirmRefusal, challenge, early]

theorem State.auxRefusal_heldArea {s : State} {target : Nat} (held : target ∈ s.eng.heldAreas) :
    s.auxRefusal 3 target = none := by
  simp [State.auxRefusal, held]

/-! ### The three effects -/

theorem State.auxExecute_release (s : State) (pos target : Nat) (q : Req) :
    target ∉ (s.auxExecute 3 pos target q).eng.heldAreas ∧
      ∀ (i : Nat) (e : Element), s.elem i = some e → e.part.typeCode = 2 → e.area = target →
        ((s.auxExecute 3 pos target q).dyn i).held = false := by
  obtain ⟨-, ended, elems⟩ := s.releaseArea_effect target q.arrival
  refine ⟨ended, fun i e element point own => ?_⟩
  have released := State.unholdArea_released element point own
  simp only [State.dyn] at released ⊢
  exact elems ▸ released

/-- A confirmed throw enters the pending queue with its override (R91, R92). -/
theorem State.auxExecute_throw (s : State) (pos target : Nat) (q : Req) : (s.auxExecute 2 pos target q).eng =
    { s.eng with
      queue := s.eng.queue ++ [{ want := .point target pos true, arrival := q.arrival,
                                 enteredUs := s.bench.freezeUs, opcode := 0x0103, req := none }] } := rfl

end Sys2Proof.Machine
end

section
/-! PROOF. The statement about door commands and auxiliary commands. -/

namespace Sys2Proof.Proofs

open Sys2Proof Sys2Proof.Machine Sys2Proof.Safety

/-- AUX_CONFIRM refused: the prepare is gone, and the reason is the challenge's or another that the confirm met. -/
theorem auxConfirm_refused {q : Req} {p : Prepare} {s : State} {x : Nat × Nat} (run : s.power.state = .run)
    (refused : s.confirmRefusal p (u32 q.payload 4) = some x) :
    let t := ((s.heard q).confirmRefused q p x).settle
    EngineOnly s t ∧ p ∉ t.eng.prepares ∧ t.eng.routes.length = s.eng.routes.length ∧
      (p.challenge ≠ u32 q.payload 4 →
        t.bench.completions = s.bench.completions ++ [done q 0x0202 .refused 0x0161 p.kind] ∧
        t.eng = { s.eng with prepares := t.eng.prepares } ∧
        LastReport t 0x6022 (auxWord p.kind p.position p.target) 0x0161 (u32 q.payload 8)) := by
  intro t
  obtain ⟨only, eng, completions, report⟩ := State.confirmRefused_settle run q p x
  refine ⟨only, ?_, ?_, fun wrong => ?_⟩
  · rw [eng]
    exact s.dropPrepare_gone p
  · rw [eng]
    rfl
  · obtain rfl := Option.some.inj (refused.symm.trans (State.confirmRefusal_challenge wrong))
    exact ⟨completions, by rw [eng]; rfl, report⟩

/-- AUX_CONFIRM decided: what a refusal, the end of a restart hold, and the other two kinds leave. -/
theorem auxConfirm_decided {q : Req} {p : Prepare} {s : State} (benchOpen : BenchOpen s)
    (length : q.payload.length = 12)
    (params : s.auxParams (u8 q.payload 0) (u8 q.payload 1) (u16 q.payload 2) = true)
    (found : s.eng.prepares.find? (fun p => p.kind == u8 q.payload 0 && p.position == u8 q.payload 1 &&
      p.target == u16 q.payload 2) = some p) :
    ∃ t, Machine.exec (.auxConfirm q) s = .next t ∧ EngineOnly s t ∧ p ∉ t.eng.prepares ∧
      t.eng.routes.length = s.eng.routes.length ∧
      (p.challenge ≠ u32 q.payload 4 →
        t.bench.completions = s.bench.completions ++ [done q 0x0202 .refused 0x0161 p.kind] ∧
        t.eng = { s.eng with prepares := t.eng.prepares } ∧
        LastReport t 0x6022 (auxWord p.kind p.position p.target) 0x0161 (u32 q.payload 8)) ∧
      (p.challenge = u32 q.payload 4 → p.kind = 3 → p.expired = false → p.target ∈ s.eng.heldAreas →
        (∀ e, p.doneUs = some e → s.bench.freezeUs ≤ e + 30000000) →
        t.bench.completions = s.bench.completions ++ [done q 0x0202 .ok] ∧ p.target ∉ t.eng.heldAreas ∧
        (∀ (i : Nat) (x : Element), s.elem i = some x → x.part.typeCode = 2 → x.area = p.target →
          (t.dyn i).held = false) ∧
        FirstReport s t 0x6021 (auxWord p.kind p.position p.target) 0 (u32 q.payload 8)) ∧
      (p.challenge = u32 q.payload 4 → p.expired = false → (∀ e, p.doneUs = some e → s.bench.freezeUs ≤ e + 30000000) →
        s.auxRefusal p.kind p.target = none →
        t.bench.completions = s.bench.completions ++ [done q 0x0202 .ok] ∧
        FirstReport s t 0x6021 (auxWord p.kind p.position p.target) 0 (u32 q.payload 8) ∧
        (p.kind = 2 → t.eng = { s.eng with
          prepares := t.eng.prepares
          queue := s.eng.queue ++ [{ want := .point p.target p.position true, arrival := q.arrival,
                                     enteredUs := s.bench.freezeUs, opcode := 0x0103, req := none }] }) ∧
        (∀ r, p.kind = 1 → s.fullRoute p.target = some r → p.target < s.eng.routes.length →
          (t.rdyn p.target).emergencyEnd = some (s.bench.freezeUs + s.timeS r.approachRelease) ∧
          (∀ m, m ≠ p.target → t.rdyn m = s.rdyn m) ∧
          (r.entry < s.eng.elems.length → (t.dyn r.entry).demand = some 0))) := by
  rw [execAuxConfirm_eq benchOpen length params found]
  cases decided : s.confirmRefusal p (u32 q.payload 4) with
  | some x =>
    obtain ⟨only, gone, routes, wrong⟩ := auxConfirm_refused benchOpen.1 decided
    refine ⟨_, rfl, only, gone, routes, wrong, fun challenge kind fresh held inTime => ?_,
      fun challenge fresh inTime allowed => ?_⟩
    · rw [State.confirmRefusal_inTime challenge fresh inTime, kind, State.auxRefusal_heldArea held] at decided
      exact nomatch decided
    · rw [State.confirmRefusal_inTime challenge fresh inTime, allowed] at decided
      exact nomatch decided
  | none =>
    obtain ⟨only, eng, gone, routes, completions, first⟩ := State.confirmDone_settle benchOpen.1 q p
    generalize hu : ((s.heard q).dropPrepare p).event 0x6021 .cl .info (auxWord p.kind p.position p.target) 0
      (u32 q.payload 8) = u at eng
    refine ⟨_, rfl, only, gone, routes, fun wrong => ?_, fun challenge kind fresh held inTime => ?_,
      fun challenge fresh inTime allowed => ?_⟩
    · rw [State.confirmRefusal_challenge wrong] at decided
      exact nomatch decided
    · obtain ⟨ended, released⟩ := u.auxExecute_release p.position p.target q
      rw [kind] at eng
      refine ⟨completions, by rw [eng]; exact ended, fun i x element point own => ?_, first⟩
      rw [State.dyn, eng]
      exact released i x (by rw [← hu]; exact element) point own
    · refine ⟨completions, first, fun kind => ?_, fun r kind known inside => ?_⟩
      · rw [eng, kind, State.auxExecute_throw, ← hu]
        rfl
      · rw [kind] at eng
        obtain ⟨timer, others, stop⟩ := State.emergency_release (s := u) (n := p.target) (r := r)
          (by rw [← hu]; exact known) (by rw [← hu]; exact inside)
        rw [← hu] at timer others stop eng
        simp only [State.rdyn, State.dyn, eng]
        exact ⟨timer, others, stop⟩

/-- Settles O53, command by command. -/
theorem doorAndAuxCommands : Obligations.DoorAndAuxCommands := by
  unfold Obligations.DoorAndAuxCommands
  refine ⟨?doorOpen, ?doorClose, ?auxPrepare, ?auxConfirm⟩
  case doorOpen =>
    rintro q mask s s1 benchOpen edge length zero leaves fits room new rfl may slots
    exact execDoorOpen_opens benchOpen edge length zero leaves fits room new may slots
  case doorClose =>
    intro q s benchOpen edge
    exact execDoorClose_closes benchOpen edge
  case auxPrepare =>
    intro q kind pos ch s benchOpen p0 kindLow posLow params allowed fresh room drawn
    exact execAuxPrepare_prepares benchOpen p0 kindLow posLow params allowed fresh room drawn
  case auxConfirm =>
    intro q p s benchOpen length params found
    exact auxConfirm_decided benchOpen length params found

end Sys2Proof.Proofs
end

section
/-! PROOF. What a route's request comes to: granted with its locks, refused, or waiting (R59, R68, R69, R70). -/

namespace Sys2Proof.Machine

open Sys2Proof Sys2Proof.Safety

/-! ### The locks of a route -/

/-- The four locks that a route puts on its elements (R59). -/
def holdPoint (n : Nat) (x : RouteEntry) (d : ElemDyn) : ElemDyn :=
  { d with holders := addNew n d.holders, position := x.state }
def lockPath (n : Nat) (_ : RouteEntry) (d : ElemDyn) : ElemDyn := { d with pathLock := some n }
def lockOverlap (n : Nat) (_ : RouteEntry) (d : ElemDyn) : ElemDyn := { d with overlapLocks := addNew n d.overlapLocks }
def lockStop (n : Nat) (_ : RouteEntry) (d : ElemDyn) : ElemDyn := { d with stopLocks := addNew n d.stopLocks }

/-- One kind of lock put on every element of a list. -/
def State.lockEach (s : State) (l : List RouteEntry) (f : RouteEntry → ElemDyn → ElemDyn) : State :=
  l.foldl (fun s x => s.modDyn x.element (f x)) s

theorem State.takeLocks_eq (s : State) (n : Nat) (r : Route) : s.takeLocks n r =
    (((s.lockEach (s.points r.entries) (holdPoint n)).lockEach (s.sections r.path) (lockPath n)).lockEach
      (s.sections r.overlap) (lockOverlap n)).lockEach (s.signals r.flank) (lockStop n) := rfl

theorem FieldWork.lockEach {s t : State} (h : FieldWork s t) (l : List RouteEntry) (f : RouteEntry → ElemDyn → ElemDyn) :
    FieldWork s (t.lockEach l f) := by
  unfold State.lockEach
  exact h.foldl (fun t x => (FieldWork.refl t).modDyn x.element (f x)) l

/-- Every lock put on a list gives each of its elements what every such lock gives. -/
theorem State.lockEach_made {p : ElemDyn → Prop} {f : RouteEntry → ElemDyn → ElemDyn} (gives : ∀ x d, p (f x d))
    (s : State) (l : List RouteEntry) : ∀ x ∈ l, ElementHas p (s.lockEach l f) x.element := by
  unfold State.lockEach
  exact foldl_forall (P := fun s x => ElementHas p s x.element) (fun _ x => ElementHas.made _ (gives x))
    (fun _ x _ h => h.modDyn _ fun d _ => gives x d) l s

theorem ElementHas.lockEach {p : ElemDyn → Prop} {f : RouteEntry → ElemDyn → ElemDyn} {s : State} {i : Nat}
    (h : ElementHas p s i) (keeps : ∀ x d, p d → p (f x d)) (l : List RouteEntry) : ElementHas p (s.lockEach l f) i :=
  List.foldlRecOn (motive := fun t => ElementHas p t i) l _ h fun _ h x _ => h.modDyn _ (keeps x)

theorem mem_addNew (n : Nat) (l : List Nat) : n ∈ addNew n l := by
  unfold addNew
  split <;> simp_all

/-- The elements of a route carry its locks (R59). -/
def LocksTaken (s t : State) (n : Nat) (r : Route) : Prop :=
  (∀ x ∈ s.points r.entries, ElementHas (fun d => n ∈ d.holders) t x.element) ∧
  (∀ x ∈ s.sections r.path, ElementHas (fun d => d.pathLock = some n) t x.element) ∧
  (∀ x ∈ s.sections r.overlap, ElementHas (fun d => n ∈ d.overlapLocks) t x.element) ∧
  (∀ x ∈ s.signals r.flank, ElementHas (fun d => n ∈ d.stopLocks) t x.element)

theorem State.takeLocks_field (s : State) (n : Nat) (r : Route) : FieldWork s (s.takeLocks n r) := by
  rw [State.takeLocks_eq]
  exact ((((FieldWork.refl s).lockEach _ _).lockEach _ _).lockEach _ _).lockEach _ _

theorem State.takeLocks_taken (s : State) (n : Nat) (r : Route) : LocksTaken s (s.takeLocks n r) n r := by
  rw [State.takeLocks_eq]
  refine ⟨fun x hx => ?_, fun x hx => ?_, fun x hx => ?_, fun x hx => ?_⟩
  · have held := State.lockEach_made (p := fun d => n ∈ d.holders) (f := holdPoint n) (fun _ _ => mem_addNew n _) s _ x hx
    exact ((held.lockEach (f := lockPath n) (fun _ _ h => h) _).lockEach (f := lockOverlap n) (fun _ _ h => h) _).lockEach
      (f := lockStop n) (fun _ _ h => h) _
  · have locked := State.lockEach_made (p := fun d => d.pathLock = some n) (f := lockPath n) (fun _ _ => rfl)
      (s.lockEach (s.points r.entries) (holdPoint n)) _ x hx
    exact (locked.lockEach (f := lockOverlap n) (fun _ _ h => h) _).lockEach (f := lockStop n) (fun _ _ h => h) _
  · have locked := State.lockEach_made (p := fun d => n ∈ d.overlapLocks) (f := lockOverlap n) (fun _ _ => mem_addNew n _)
      ((s.lockEach (s.points r.entries) (holdPoint n)).lockEach (s.sections r.path) (lockPath n)) _ x hx
    exact locked.lockEach (f := lockStop n) (fun _ _ h => h) _
  · exact State.lockEach_made (p := fun d => n ∈ d.stopLocks) (f := lockStop n) (fun _ _ => mem_addNew n _) _ _ x hx

/-! ### Points thrown -/

theorem State.throwPoint_eq (s : State) (i pos : Nat) : s.throwPoint i pos =
    ((s.demandOf i pos).startTxn .pointThrow i pos (s.throwLimit i)).modDyn i fun d =>
      { d with throwLimitUs := s.throwLimit i } := rfl

theorem FieldWork.throwPoint {s t : State} (h : FieldWork s t) (i pos : Nat) : FieldWork s (t.throwPoint i pos) := by
  rw [State.throwPoint_eq]
  exact ((h.demandOf i pos).startTxn ..).modDyn i _

/-- A throw writes nothing of an element's record but its demand and its throw limit. -/
theorem ElementHas.throwPoint {p : ElemDyn → Prop} {s : State} {j : Nat} (h : ElementHas p s j) (i pos : Nat)
    (demand : ∀ d, p d → p { d with demand := some pos }) (limit : ∀ d v, p d → p { d with throwLimitUs := v }) :
    ElementHas p (s.throwPoint i pos) j := by
  have demanded : ElementHas p (s.demandOf i pos) j := by
    rw [State.demandOf_modDyn]
    exact h.modDyn i demand
  rw [State.throwPoint_eq]
  exact (demanded.same rfl).modDyn i fun d => limit d _

theorem LocksTaken.throwPoint {s t : State} {n : Nat} {r : Route} (h : LocksTaken s t n r) (i pos : Nat) :
    LocksTaken s (t.throwPoint i pos) n r := by
  obtain ⟨points, path, overlap, flank⟩ := h
  exact ⟨fun x hx => (points x hx).throwPoint i pos (fun _ h => h) fun _ _ h => h,
    fun x hx => (path x hx).throwPoint i pos (fun _ h => h) fun _ _ h => h,
    fun x hx => (overlap x hx).throwPoint i pos (fun _ h => h) fun _ _ h => h,
    fun x hx => (flank x hx).throwPoint i pos (fun _ h => h) fun _ _ h => h⟩

theorem LocksTaken.same {s t u : State} {n : Nat} {r : Route} (h : LocksTaken s t n r) (elems : u.eng.elems = t.eng.elems) :
    LocksTaken s u n r := by
  obtain ⟨points, path, overlap, flank⟩ := h
  exact ⟨fun x hx => (points x hx).same elems, fun x hx => (path x hx).same elems,
    fun x hx => (overlap x hx).same elems, fun x hx => (flank x hx).same elems⟩

/-! ### A route granted -/

/-- What a grant makes of route `n` (T2, T3): its own record in SETTING or LOCKED, its locks taken, and whatever else of
the engine the grant commands. -/
structure RouteGranted (s t : State) (n : Nat) (r : Route) : Prop where
  work : EngineWork s t
  bench : t.bench = s.bench
  queue : t.eng.queue = s.eng.queue
  count : t.eng.routes.length = s.eng.routes.length
  length : t.eng.elems.length = s.eng.elems.length
  locks : LocksTaken s t n r
  state : (t.rdyn n).state = if (s.throws r).isEmpty then .locked else .setting
  others : ∀ m, m ≠ n → t.rdyn m = s.rdyn m

theorem State.enterLocked_eq (s : State) (n : Nat) (r : Route) : ∃ f : RouteDyn → RouteDyn,
    s.enterLocked n r = (s.nodesOf r).foldl (fun s k => s.modNode k fun d => { d with wantPoll := true }) (s.modRoute n f) ∧
      ∀ d, (f d).state = .locked := ⟨_, rfl, fun _ => rfl⟩

/-- Field commands, then a new record for the route, then requests to nodes: a grant. -/
theorem FieldWork.granted {s t : State} {n : Nat} {r : Route} (field : FieldWork s t) (locks : LocksTaken s t n r)
    (inside : n < s.eng.routes.length) {f : RouteDyn → RouteDyn}
    (state : ∀ d, (f d).state = if (s.throws r).isEmpty then .locked else .setting) (nodes : List Nat) :
    RouteGranted s (nodes.foldl (fun s k => s.modNode k fun d => { d with wantPoll := true }) (t.modRoute n f)) n r := by
  obtain ⟨routes, queue, -⟩ := field.engineParts
  have eng : (nodes.foldl (fun s k => s.modNode k fun d => { d with wantPoll := true }) (t.modRoute n f)).eng =
      (t.modRoute n f).eng := by
    simp only [State.foldl_eng, State.modNode_frame, implies_true]
  have bench : (nodes.foldl (fun s k => s.modNode k fun d => { d with wantPoll := true }) (t.modRoute n f)).bench =
      t.bench := by
    simp only [State.foldl_bench, State.modNode_frame, implies_true, State.modRoute_frame]
  refine ⟨(field.engine.modRoute n f).trans ((EngineWork.refl _).foldl (fun t k => (EngineWork.refl t).modNode k _) _),
    bench.trans field.bench, ?_, ?_, ?_, locks.same (by rw [eng]; rfl), ?_, fun m other => ?_⟩
  · rw [eng]
    exact queue
  · rw [eng, State.modRoute_routes_length, routes]
  · rw [eng]
    exact field.1
  · rw [State.rdyn, eng, ← State.rdyn, State.modRoute_rdyn_same (by rw [routes]; exact inside)]
    exact state _
  · rw [State.rdyn, eng, ← State.rdyn, State.modRoute_rdyn_of_ne other, State.rdyn, routes]
    rfl

theorem State.grantRoute_granted {s : State} {n : Nat} (inside : n < s.eng.routes.length) (r : Route) :
    RouteGranted s (s.grantRoute n r) n r := by
  have taken := s.takeLocks_taken n r
  have field := s.takeLocks_field n r
  simp only [State.grantRoute]
  split
  case isTrue still =>
    obtain ⟨f, eq, locked⟩ := (s.takeLocks n r).enterLocked_eq n r
    rw [eq]
    exact field.granted taken inside (fun d => by rw [if_pos still, locked]) _
  case isFalse moves =>
    have thrown : FieldWork s _ ∧ LocksTaken s _ n r := List.foldlRecOn (motive := fun t => FieldWork s t ∧ LocksTaken s t n r)
      (s.throws r) (fun s x => s.throwPoint x.element x.state) ⟨field, taken⟩
      fun t h x _ => ⟨h.1.throwPoint _ _, h.2.throwPoint _ _⟩
    exact thrown.1.granted thrown.2 inside (fun d => (if_neg moves).symm) []

end Sys2Proof.Machine
end

section
/-! PROOF. ROUTE_SET (R68 to R71). -/

namespace Sys2Proof.Machine

open Sys2Proof Sys2Proof.Safety

/-! ### The answer to a route's request -/

/-- The completion of a route's command, which keeps phase O from notifying the same change (R71). -/
def State.answerRoute (s : State) (n : Nat) (op : Nat) (q : Req) (st : Status) (reason param : Nat) : State :=
  (s.complete op q st reason param).modRoute n fun d => { d with quiet := true }

/-- What the answer to a route's request leaves of the engine as a command has made it, from `u` to `t`. -/
structure RouteAnswered (s u t : State) (n : Nat) (r : Response) : Prop where
  only : EngineOnly s t
  elems : t.eng.elems = u.eng.elems
  txns : t.eng.txns = u.eng.txns
  queue : t.eng.queue = u.eng.queue
  record : t.rdyn n = { u.rdyn n with quiet := true }
  others : ∀ m, m ≠ n → t.rdyn m = u.rdyn m
  completions : t.bench.completions = u.bench.completions ++ [r]

theorem State.answerRoute_settle {s u : State} (run : s.power.state = .run) (work : EngineWork s u) {n : Nat}
    (inside : n < u.eng.routes.length) (op : Nat) (q : Req) (st : Status) (reason param : Nat) :
    RouteAnswered s u (u.answerRoute n op q st reason param).settle n (done q op st reason param) := by
  rw [State.answerRoute, State.complete_handed (work.run run)]
  refine ⟨EngineWork.settle (work.trans rfl), ?_, ?_, ?_, ?_, fun m other => ?_, ?_⟩
  · simp only [State.settle_frame]
    rfl
  · simp only [State.settle_frame]
    rfl
  · simp only [State.settle_frame]
    rfl
  · rw [State.settle_rdyn, State.modRoute_rdyn_same (by exact inside)]
    rfl
  · rw [State.settle_rdyn, State.modRoute_rdyn_of_ne other]
    rfl
  · simp only [State.settle_frame]
    rfl

/-! ### The three outcomes of a new request for a route -/

/-- The request of ROUTE_SET in the queue, its route in REQUESTED (T1). -/
def State.routeAsked (s : State) (q : Req) : State :=
  (State.asked s 0x0101 q (.route q.p0)).modRoute q.p0 fun d => { d with state := .requested, arrival := q.arrival }

theorem State.grantPend_route {s : State} {p : Pend} {n : Nat} {q : Req} (want : p.want = .route n)
    (waiting : p.req = some q) (st : Status) : s.grantPend p st = (s.dropPend p).answerRoute n p.opcode q st 0 0 := by
  simp only [State.grantPend, State.tell, want, waiting, State.answerRoute]

theorem State.refusePend_route {s : State} {p : Pend} {n : Nat} {q : Req} (want : p.want = .route n)
    (waiting : p.req = some q) (reason param : Nat) : s.refusePend p reason param =
      (((s.dropPend p).routeReason n reason param).modRoute n fun d => { d with state := .free }).answerRoute n p.opcode q
        .refused reason param := by
  simp only [State.refusePend, State.keepReason, State.tell, want, waiting, State.answerRoute]

/-- An entry of the queue that waits for a reason, its command completed (R68, R70). -/
def Pend.waitingFor (x : Pend) (reason param : Nat) : Pend :=
  { x with reason := reason, param := param, req := none, want := (match x.want with
    | .point i pos _ => .point i pos false
    | w => w) }

/-- The queue with an entry marked as waiting. -/
def State.markWaiting (s : State) (p : Pend) (reason param : Nat) : State :=
  { s with eng := { s.eng with queue := s.eng.queue.map fun x => if x.same p then x.waitingFor reason param else x } }

theorem State.waitPend_route {s : State} {p : Pend} {n : Nat} {q : Req} (want : p.want = .route n)
    (waiting : p.req = some q) (reason param : Nat) : s.waitPend p reason param =
      ((s.routeReason n reason param).markWaiting p reason param).answerRoute n p.opcode q .pending reason param := by
  simp only [State.waitPend, State.keepReason, State.tell, want, waiting, Option.isSome_some, Bool.true_or, if_true,
    State.answerRoute]
  rfl

theorem map_newest {l : List Pend} {p : Pend} (new : ∀ x ∈ l, x.arrival ≠ p.arrival) (f : Pend → Pend) :
    (l ++ [p]).map (fun x => if x.same p then f x else x) = l ++ [f p] := by
  have kept : l.map (fun x => if x.same p then f x else x) = l :=
    (List.map_congr_left fun x hx => by simp [Pend.same, new x hx]).trans l.map_id
  simp [kept, Pend.same_self]

theorem State.evalPend_route_granted {s : State} {p : Pend} {n : Nat} {r : Route} (want : p.want = .route n)
    (inTime : ¬p.enteredUs + 30000000 ≤ s.bench.freezeUs) (known : s.fullRoute n = some r)
    (may : firstReason (s.routeReasons r p.arrival) = none) :
    s.evalPend p = (s.grantRoute n r).grantPend p .accepted := by
  simp only [State.evalPend, want, inTime, if_false, known, may]

theorem State.evalPend_route_failed {s : State} {p : Pend} {n : Nat} {r : Route} {x : Nat × Nat} (want : p.want = .route n)
    (inTime : ¬p.enteredUs + 30000000 ≤ s.bench.freezeUs) (known : s.fullRoute n = some r)
    (fails : firstReason (s.routeReasons r p.arrival) = some x) :
    s.evalPend p = if waits x.1 then s.waitPend p x.1 x.2 else s.refusePend p x.1 x.2 := by
  simp only [State.evalPend, want, inTime, if_false, known, fails]

theorem State.fullRoute_inside {s : State} {n : Nat} {r : Route} (known : s.fullRoute n = some r) : n < s.routes.length := by
  obtain ⟨x, hx, -⟩ := Option.map_eq_some_iff.mp known
  exact (List.getElem?_eq_some_iff.mp hx).1

theorem State.enqueue_route {s : State} (room : s.counted < 512) (q : Req) :
    s.enqueue 0x0101 q (.route q.p0) = (s.routeAsked q).evalPend (s.newPend 0x0101 q (.route q.p0)) := by
  have notFull : ¬512 ≤ s.counted := by omega
  simp only [State.enqueue, notFull, if_false]
  rfl

/-- The reasons against a route do not depend on the sessions that the command keeps alive. -/
theorem State.routeReasons_mg (s : State) (m : Mgmt) (r : Route) (arrival : Nat) :
    ({ s with mg := m } : State).routeReasons r arrival = s.routeReasons r arrival := rfl

theorem State.heard_routeAsked (s : State) (q : Req) :
    (s.heard q).routeAsked q = { s.routeAsked q with mg := (s.heard q).mg } := rfl

theorem State.decideRouteSet_open {q : Req} {r : Route} {s : State} (benchOpen : BenchOpen s)
    (known : s.fullRoute q.p0 = some r) (free : (s.rdyn q.p0).state = .free) (room : s.counted < 512) :
    s.decideRouteSet q = ((s.heard q).routeAsked q).evalPend (s.newPend 0x0101 q (.route q.p0)) := by
  have present : decide (q.p0 < s.routes.length) = true := decide_eq_true (State.fullRoute_inside known)
  have now : ((s.heard q).rdyn q.p0).state = .free := free
  have unset : RouteState.free.isSet = false := rfl
  rw [State.decideRouteSet, State.clCommand_open benchOpen (by decide) present]
  simp only [now, unset, reduceCtorEq, Bool.false_eq_true, if_false, State.enqueue_route (s := s.heard q) room]
  rfl

/-- ROUTE_SET of a FREE route is evaluated at once (R68). -/
theorem execRouteSet_eq {q : Req} {r : Route} {s : State} (benchOpen : BenchOpen s) (known : s.fullRoute q.p0 = some r)
    (free : (s.rdyn q.p0).state = .free) (room : s.counted < 512) : exec (.routeSet q) s =
      .next (((s.heard q).routeAsked q).evalPend (s.newPend 0x0101 q (.route q.p0))).settle :=
  congrArg (fun u : State => Host.Outcome.next u.settle) (State.decideRouteSet_open benchOpen known free room)

end Sys2Proof.Machine
end

section
/-! PROOF. ROUTE_SET granted, refused and waiting. -/

namespace Sys2Proof.Machine

open Sys2Proof Sys2Proof.Safety

theorem firstReason_eq_none {l : List (Nat × Nat)} : firstReason l = none ↔ l = [] := by
  cases l <;> simp [firstReason]

theorem LocksTaken.of_types {s a t : State} {n : Nat} {r : Route} (h : LocksTaken a t n r) (types : a.typeOf = s.typeOf) :
    LocksTaken s t n r := by
  simpa only [LocksTaken, State.points, State.sections, State.signals, types] using h

/-! ### What the request itself changes -/

/-- The module with the request of ROUTE_SET entered, before it is evaluated (R68, T1). -/
structure RouteRequested (q : Req) (s a : State) (p : Pend) : Prop where
  work : EngineWork s a
  bench : a.bench = s.bench
  elems : a.eng.elems = s.eng.elems
  txns : a.eng.txns = s.eng.txns
  queue : a.eng.queue = s.eng.queue ++ [p]
  inside : q.p0 < a.eng.routes.length
  state : (a.rdyn q.p0).state = .requested
  others : ∀ m, m ≠ q.p0 → a.rdyn m = s.rdyn m
  types : a.typeOf = s.typeOf
  known : a.fullRoute = s.fullRoute
  throws : a.throws = (s.routeAsked q).throws
  reasons : a.routeReasons = (s.routeAsked q).routeReasons
  inTime : ¬p.enteredUs + 30000000 ≤ a.bench.freezeUs
  want : p.want = .route q.p0
  waiting : p.req = some q
  arrival : p.arrival = q.arrival
  opcode : p.opcode = 0x0101

theorem execRouteSet_requested {q : Req} {r : Route} {s : State} (benchOpen : BenchOpen s)
    (inside : q.p0 < s.eng.routes.length) (known : s.fullRoute q.p0 = some r) (free : (s.rdyn q.p0).state = .free)
    (room : s.counted < 512) :
    ∃ a p, RouteRequested q s a p ∧ exec (.routeSet q) s = .next (a.evalPend p).settle := by
  refine ⟨_, _, ?_, execRouteSet_eq benchOpen known free room⟩
  have entered : ((s.heard q).routeAsked q).rdyn q.p0 = _ := State.modRoute_rdyn_same (by exact inside) _
  exact {
    work := rfl, bench := rfl, elems := rfl, txns := rfl, queue := rfl
    inside := by
      rw [State.routeAsked, State.modRoute_routes_length]
      exact inside
    state := by rw [entered]
    others := fun m other => State.modRoute_rdyn_of_ne other _ _
    types := rfl
    known := rfl
    throws := rfl
    reasons := funext fun r => funext fun arrival => by rw [State.heard_routeAsked, State.routeReasons_mg]
    inTime := s.newPend_inTime 0x0101 q (.route q.p0)
    want := rfl, waiting := rfl, arrival := rfl, opcode := rfl }

/-! ### The three outcomes -/

section Outcomes

variable {s a : State} {p : Pend} {n : Nat} {q : Req} {r : Route} (run : s.power.state = .run) (work : EngineWork s a)
  (inside : n < a.eng.routes.length) (want : p.want = .route n) (waiting : p.req = some q)
include run work inside want waiting

theorem State.grantPend_settle {g : State} (granted : RouteGranted a g n r) (st : Status) :
    RouteAnswered s (g.dropPend p) (g.grantPend p st).settle n (done q p.opcode st) := by
  rw [State.grantPend_route want waiting]
  exact State.answerRoute_settle run ((work.trans granted.work).engine rfl) (by exact granted.count.symm ▸ inside) ..

/-- A request refused: its route in FREE with the reason (R68). -/
def State.routeRefused (s : State) (p : Pend) (n reason param : Nat) : State :=
  ((s.dropPend p).routeReason n reason param).modRoute n fun d => { d with state := .free }

theorem State.refusePend_settle (reason param : Nat) : RouteAnswered s (a.routeRefused p n reason param)
    (a.refusePend p reason param).settle n (done q p.opcode .refused reason param) := by
  rw [State.refusePend_route want waiting]
  exact State.answerRoute_settle run (work.engine rfl)
    (by simpa [State.routeRefused, State.routeReason, State.dropPend] using inside) ..

theorem State.waitPend_settle (reason param : Nat) : RouteAnswered s ((a.routeReason n reason param).markWaiting p reason param)
    (a.waitPend p reason param).settle n (done q p.opcode .pending reason param) := by
  rw [State.waitPend_route want waiting]
  exact State.answerRoute_settle run (work.engine rfl)
    (by simpa [State.routeReason, State.markWaiting] using inside) ..

end Outcomes

/-! ### ROUTE_SET -/

section RouteSet

variable {q : Req} {r : Route} {s a : State} {p : Pend} (run : s.power.state = .run) (asked : RouteRequested q s a p)
  (known : s.fullRoute q.p0 = some r)
include run asked known

/-- A route that fails no check takes its locks (T2, T3). -/
theorem RouteRequested.granted (new : ∀ x ∈ s.eng.queue, x.arrival ≠ q.arrival)
    (may : (s.routeAsked q).routeReasons r q.arrival = []) {t : State} (eq : t = (a.evalPend p).settle) :
    EngineOnly s t ∧ (∀ m, m ≠ q.p0 → t.rdyn m = s.rdyn m) ∧
      (t.rdyn q.p0).state = (if ((s.routeAsked q).throws r).isEmpty then .locked else .setting) ∧
      t.eng.queue = s.eng.queue ∧ t.bench.completions = s.bench.completions ++ [done q 0x0101 .accepted] ∧
      t.eng.elems.length = s.eng.elems.length ∧ LocksTaken s t q.p0 r := by
  have fails : firstReason (a.routeReasons r p.arrival) = none := by
    rw [asked.reasons, asked.arrival, may, firstReason_nil]
  have granted := State.grantRoute_granted asked.inside r
  rw [State.evalPend_route_granted asked.want asked.inTime (asked.known ▸ known) fails] at eq
  have answered := State.grantPend_settle run asked.work asked.inside asked.want asked.waiting granted .accepted
  rw [← eq] at answered
  refine ⟨answered.only, fun m other => ?_, ?_, ?_, ?_, ?_, (granted.locks.same answered.elems).of_types asked.types⟩
  · exact (answered.others m other).trans ((granted.others m other).trans (asked.others m other))
  · rw [answered.record, ← asked.throws]
    exact granted.state
  · rw [answered.queue, State.dropPend, granted.queue, asked.queue]
    exact filter_newest fun x hx => asked.arrival ▸ new x hx
  · rw [answered.completions, asked.opcode, State.dropPend, granted.bench, asked.bench]
  · rw [answered.elems, State.dropPend, granted.length, asked.elems]

/-- What a route that fails a check leaves alone, and where it keeps the reason (R68, R70). -/
def RouteHeld (q : Req) (s t : State) (x : Nat × Nat) : Prop :=
  EngineOnly s t ∧ (∀ m, m ≠ q.p0 → t.rdyn m = s.rdyn m) ∧ t.eng.elems = s.eng.elems ∧ t.eng.txns = s.eng.txns ∧
    (t.rdyn q.p0).reason = x.1 ∧ (t.rdyn q.p0).param = x.2

theorem RouteRequested.refused (new : ∀ x ∈ s.eng.queue, x.arrival ≠ q.arrival) {x : Nat × Nat}
    (fails : firstReason ((s.routeAsked q).routeReasons r q.arrival) = some x) (refuses : waits x.1 = false) {t : State}
    (eq : t = (a.evalPend p).settle) : RouteHeld q s t x ∧ (t.rdyn q.p0).state = .free ∧ t.eng.queue = s.eng.queue ∧
      t.bench.completions = s.bench.completions ++ [done q 0x0101 .refused x.1 x.2] := by
  rw [← asked.reasons, ← asked.arrival] at fails
  rw [State.evalPend_route_failed asked.want asked.inTime (asked.known ▸ known) fails, if_neg (by simp [refuses])] at eq
  have answered := State.refusePend_settle run asked.work asked.inside asked.want asked.waiting x.1 x.2
  rw [← eq] at answered
  have inside : q.p0 < (a.dropPend p).eng.routes.length := asked.inside
  have record : (a.routeRefused p q.p0 x.1 x.2).rdyn q.p0 = _ := State.modRoute_rdyn_same
    (by simpa [State.routeReason] using inside) _
  have reason : ((a.dropPend p).routeReason q.p0 x.1 x.2).rdyn q.p0 = _ := State.modRoute_rdyn_same inside _
  refine ⟨⟨answered.only, fun m other => ?_, ?_, ?_, ?_, ?_⟩, ?_, ?_, ?_⟩
  · rw [answered.others m other, State.routeRefused, State.modRoute_rdyn_of_ne other, State.routeReason,
      State.modRoute_rdyn_of_ne other]
    exact asked.others m other
  · exact answered.elems.trans asked.elems
  · exact answered.txns.trans asked.txns
  · rw [answered.record, record, reason]
  · rw [answered.record, record, reason]
  · rw [answered.record, record]
  · refine answered.queue.trans ?_
    change (a.eng.queue.filter fun x => !x.same p) = _
    rw [asked.queue]
    exact filter_newest fun x hx => asked.arrival ▸ new x hx
  · rw [answered.completions, asked.opcode]
    exact congrArg (· ++ _) (congrArg Bench.completions asked.bench)

theorem RouteRequested.waits (new : ∀ x ∈ s.eng.queue, x.arrival ≠ q.arrival) {x : Nat × Nat}
    (fails : firstReason ((s.routeAsked q).routeReasons r q.arrival) = some x) (waits : waits x.1 = true) {t : State}
    (eq : t = (a.evalPend p).settle) : RouteHeld q s t x ∧ (t.rdyn q.p0).state = .requested ∧
      t.eng.queue = s.eng.queue ++ [p.waitingFor x.1 x.2] ∧
      t.bench.completions = s.bench.completions ++ [done q 0x0101 .pending x.1 x.2] := by
  rw [← asked.reasons, ← asked.arrival] at fails
  rw [State.evalPend_route_failed asked.want asked.inTime (asked.known ▸ known) fails, if_pos waits] at eq
  have answered := State.waitPend_settle run asked.work asked.inside asked.want asked.waiting x.1 x.2
  rw [← eq] at answered
  have record : ((a.routeReason q.p0 x.1 x.2).markWaiting p x.1 x.2).rdyn q.p0 = _ :=
    State.modRoute_rdyn_same asked.inside _
  refine ⟨⟨answered.only, fun m other => ?_, ?_, ?_, ?_, ?_⟩, ?_, ?_, ?_⟩
  · exact (answered.others m other).trans ((State.modRoute_rdyn_of_ne other _ _).trans (asked.others m other))
  · exact answered.elems.trans asked.elems
  · exact answered.txns.trans asked.txns
  · rw [answered.record, record]
  · rw [answered.record, record]
  · rw [answered.record, record]
    exact asked.state
  · refine answered.queue.trans ?_
    change (a.eng.queue.map fun y => if y.same p then y.waitingFor x.1 x.2 else y) = _
    rw [asked.queue]
    exact map_newest (fun x hx => asked.arrival ▸ new x hx) _
  · rw [answered.completions, asked.opcode]
    exact congrArg (· ++ _) (congrArg Bench.completions asked.bench)

end RouteSet

theorem execRouteSet_answers {q : Req} {r : Route} {s s1 : State} (benchOpen : BenchOpen s)
    (inside : q.p0 < s.eng.routes.length) (known : s.fullRoute q.p0 = some r) (free : (s.rdyn q.p0).state = .free)
    (room : s.counted < 512) (new : ∀ x ∈ s.eng.queue, x.arrival ≠ q.arrival) (entered : s1 = s.routeAsked q) :
    ∃ t, exec (.routeSet q) s = .next t ∧ EngineOnly s t ∧ (∀ m, m ≠ q.p0 → t.rdyn m = s.rdyn m) ∧
      (s1.routeReasons r q.arrival = [] →
        (t.rdyn q.p0).state = (if (s1.throws r).isEmpty then .locked else .setting) ∧ t.eng.queue = s.eng.queue ∧
        t.bench.completions = s.bench.completions ++ [done q 0x0101 .accepted] ∧
        (∀ x ∈ s.points r.entries, x.element < s.eng.elems.length → q.p0 ∈ (t.dyn x.element).holders) ∧
        (∀ x ∈ s.sections r.path, x.element < s.eng.elems.length → (t.dyn x.element).pathLock = some q.p0) ∧
        (∀ x ∈ s.sections r.overlap, x.element < s.eng.elems.length → q.p0 ∈ (t.dyn x.element).overlapLocks) ∧
        (∀ x ∈ s.signals r.flank, x.element < s.eng.elems.length → q.p0 ∈ (t.dyn x.element).stopLocks)) ∧
      (∀ x, firstReason (s1.routeReasons r q.arrival) = some x →
        t.eng.elems = s.eng.elems ∧ t.eng.txns = s.eng.txns ∧ (t.rdyn q.p0).reason = x.1 ∧ (t.rdyn q.p0).param = x.2 ∧
        (waits x.1 = false → (t.rdyn q.p0).state = .free ∧ t.eng.queue = s.eng.queue ∧
          t.bench.completions = s.bench.completions ++ [done q 0x0101 .refused x.1 x.2]) ∧
        (waits x.1 = true → (t.rdyn q.p0).state = .requested ∧
          t.bench.completions = s.bench.completions ++ [done q 0x0101 .pending x.1 x.2] ∧
          ∃ p, t.eng.queue = s.eng.queue ++ [p] ∧ p.want = .route q.p0 ∧ p.arrival = q.arrival ∧ p.reason = x.1 ∧
            p.req = none)) := by
  subst entered
  obtain ⟨a, p, asked, ran⟩ := execRouteSet_requested benchOpen inside known free room
  refine ⟨_, ran, ?_⟩
  cases verdict : firstReason ((s.routeAsked q).routeReasons r q.arrival) with
  | none =>
    obtain ⟨only, others, state, queue, completions, length, points, path, overlap, flank⟩ :=
      asked.granted benchOpen.1 known new (firstReason_eq_none.mp verdict) rfl
    exact ⟨only, others, fun _ => ⟨state, queue, completions, fun x hx inside => points x hx (length ▸ inside),
      fun x hx inside => path x hx (length ▸ inside), fun x hx inside => overlap x hx (length ▸ inside),
      fun x hx inside => flank x hx (length ▸ inside)⟩, nofun⟩
  | some x =>
    have fails : (s.routeAsked q).routeReasons r q.arrival ≠ [] := fun may => by simp [may, firstReason_nil] at verdict
    cases wait : waits x.1 with
    | false =>
      obtain ⟨⟨only, others, elems, txns, reason, param⟩, state, queue, completions⟩ :=
        asked.refused benchOpen.1 known new verdict wait rfl
      refine ⟨only, others, fun may => absurd may fails, fun y hy => ?_⟩
      obtain rfl := Option.some.inj hy
      exact ⟨elems, txns, reason, param, fun _ => ⟨state, queue, completions⟩, fun w => by simp [wait] at w⟩
    | true =>
      obtain ⟨⟨only, others, elems, txns, reason, param⟩, state, queue, completions⟩ :=
        asked.waits benchOpen.1 known new verdict wait rfl
      refine ⟨only, others, fun may => absurd may fails, fun y hy => ?_⟩
      obtain rfl := Option.some.inj hy
      exact ⟨elems, txns, reason, param, fun w => by simp [wait] at w,
        fun _ => ⟨state, completions, _, queue, by simp [Pend.waitingFor, asked.want], asked.arrival, rfl, rfl⟩⟩

end Sys2Proof.Machine
end

section
/-! PROOF. ROUTE_CANCEL, POINT_MOVE and SIGNAL_STOP (R73, R79, R85, R336). -/

namespace Sys2Proof.Machine

open Sys2Proof Sys2Proof.Safety

/-! ### ROUTE_CANCEL -/

theorem State.withdraw_none {s : State} {n : Nat} (set : (s.rdyn n).state ≠ .requested) (tag arrival : Nat) :
    s.withdraw n tag arrival = s := by
  simp [State.withdraw, set]

theorem State.strikeRequests_none {s : State} (none : ∀ x ∈ s.bench.requests, x.opcode ≠ 0x0101) (n tag arrival : Nat) :
    s.strikeRequests n tag arrival = s := by
  have missed (x) (hx : x ∈ s.bench.requests) : (x.opcode == 0x0101 && x.req.p0 == n && x.req.arrival < arrival) = false := by
    simp [none x hx]
  have kept : s.bench.requests.filter (fun x => !(x.opcode == 0x0101 && x.req.p0 == n && x.req.arrival < arrival)) =
      s.bench.requests := List.filter_eq_self.mpr fun x hx => by simp [missed x hx]
  have struck : s.bench.requests.filter (fun x => x.opcode == 0x0101 && x.req.p0 == n && x.req.arrival < arrival) = [] :=
    List.filter_eq_nil_iff.mpr fun x hx => by simp [missed x hx]
  simp only [State.strikeRequests, kept, struck, List.foldl_nil]

theorem State.cancelRoute_early {s : State} {n : Nat} {r : Route} (known : s.fullRoute n = some r)
    (early : (s.rdyn n).state = .setting ∨ (s.rdyn n).state = .locked) (reason param : Nat) :
    s.cancelRoute n reason param = s.freeRoute n reason param := by
  rcases early with state | state <;> simp [State.cancelRoute, known, state]

theorem State.cancelRoute_left {s : State} {n : Nat} {r : Route} (known : s.fullRoute n = some r)
    (left : (s.rdyn n).state = .free ∨ (s.rdyn n).state = .occupied ∨ (s.rdyn n).state = .releasing) (reason param : Nat) :
    s.cancelRoute n reason param = s := by
  rcases left with state | state | state <;> simp [State.cancelRoute, known, state]

/-- ROUTE_CANCEL of a route that has been decided, with no ROUTE_SET before it in the image. -/
theorem execRouteCancel_eq {q : Req} {s u : State} (benchOpen : BenchOpen s) (present : q.p0 < s.routes.length)
    (set : (s.rdyn q.p0).state ≠ .requested) (none : ∀ x ∈ s.bench.requests, x.opcode ≠ 0x0101)
    (eq : u = (s.heard q).cancelRoute q.p0 0x012B q.slot) : exec (.routeCancel q) s =
      .next (u.complete 0x0102 q .ok (s.rdyn q.p0).state.code (u.rdyn q.p0).state.code).settle := by
  subst eq
  refine congrArg (fun u : State => Host.Outcome.next u.settle) ?_
  rw [State.decideRouteCancel, State.clCommand_open benchOpen (by decide) (by simpa using present)]
  simp only [State.withdraw_none (s := s.heard q) set, State.strikeRequests_none (s := s.heard q) none]
  rfl

theorem execRouteCancel_frees {q : Req} {r : Route} {s t : State} (benchOpen : BenchOpen s)
    (inside : q.p0 < s.eng.routes.length) (known : s.fullRoute q.p0 = some r)
    (none : ∀ x ∈ s.bench.requests, x.opcode ≠ 0x0101) (ran : exec (.routeCancel q) s = .next t)
    (early : (s.rdyn q.p0).state = .setting ∨ (s.rdyn q.p0).state = .locked) :
    (t.rdyn q.p0).state = .free ∧ (t.rdyn q.p0).reason = 0x012B ∧ (t.rdyn q.p0).param = q.slot ∧
      (∀ d ∈ t.eng.elems, q.p0 ∉ d.holders ∧ d.pathLock ≠ some q.p0 ∧ q.p0 ∉ d.overlapLocks ∧ q.p0 ∉ d.stopLocks) ∧
      (∀ m, m ≠ q.p0 → t.rdyn m = s.rdyn m) ∧ EngineOnly s t ∧
      t.bench.completions = s.bench.completions ++ [done q 0x0102 .ok (s.rdyn q.p0).state.code 0] := by
  have set : (s.rdyn q.p0).state ≠ .requested := by rcases early with h | h <;> simp [h]
  have freed := State.cancelRoute_early (s := s.heard q) known early 0x012B q.slot
  obtain ⟨state, reason, param, -, -, -, unlocked, others, -⟩ :=
    State.freeRoute_freedRoute (s := s.heard q) (u := s.heard q) inside (fun _ _ => rfl) rfl 0x012B q.slot
  have work : EngineWork s ((s.heard q).freeRoute q.p0 0x012B q.slot) := rfl
  rw [execRouteCancel_eq benchOpen (State.fullRoute_inside known) set none freed.symm,
    State.complete_handed (work.run benchOpen.1)] at ran
  obtain rfl := Host.Outcome.next.inj ran
  simp only [State.settle_rdyn, State.settle_frame] at state reason param unlocked others ⊢
  refine ⟨state, reason, param, unlocked, others, (work.trans (by exact rfl)).settle, ?_⟩
  rw [state]
  rfl

theorem execRouteCancel_leaves {q : Req} {r : Route} {s t : State} (benchOpen : BenchOpen s)
    (known : s.fullRoute q.p0 = some r) (none : ∀ x ∈ s.bench.requests, x.opcode ≠ 0x0101)
    (ran : exec (.routeCancel q) s = .next t)
    (left : (s.rdyn q.p0).state = .free ∨ (s.rdyn q.p0).state = .occupied ∨ (s.rdyn q.p0).state = .releasing) :
    t.eng = s.eng ∧ EngineOnly s t ∧ t.bench.completions = s.bench.completions ++
      [done q 0x0102 .ok (s.rdyn q.p0).state.code (s.rdyn q.p0).state.code] := by
  have set : (s.rdyn q.p0).state ≠ .requested := by rcases left with h | h | h <;> simp [h]
  have stays := State.cancelRoute_left (s := s.heard q) known left 0x012B q.slot
  rw [execRouteCancel_eq benchOpen (State.fullRoute_inside known) set none stays.symm,
    State.complete_handed (by exact benchOpen.1)] at ran
  obtain rfl := Host.Outcome.next.inj ran
  refine ⟨?_, ((EngineWork.heard s q).trans (by exact rfl)).settle, ?_⟩ <;> simp only [State.settle_frame] <;> rfl

/-! ### SIGNAL_STOP -/

theorem State.commandStop_eq (s : State) (i : Nat) : s.commandStop i =
    if (s.demandOf i 0).kindInFlight .signalStop i || s.showsStop i && (s.dyn i).demand = some 0 then s.demandOf i 0
    else (s.demandOf i 0).startTxn .signalStop i 0 2000000 := rfl

theorem State.commandStop_elems (s : State) (i : Nat) : (s.commandStop i).eng.elems = (s.demandOf i 0).eng.elems := by
  rw [State.commandStop_eq]
  split <;> rfl

/-- A signal that does not show STOP has a transaction to STOP after the command (R85). -/
theorem State.commandStop_inFlight {s : State} {i : Nat} (shows : s.showsStop i = false) :
    (s.commandStop i).kindInFlight .signalStop i = true := by
  rw [State.commandStop_eq, shows]
  split
  case isTrue flies => simpa using flies
  case isFalse => exact State.startTxn_inFlight ..

theorem State.commandStop_others {s : State} {i j : Nat} (other : j ≠ i) : (s.commandStop i).dyn j = s.dyn j := by
  rw [State.dyn, State.commandStop_elems, ← State.dyn, State.demandOf_modDyn, State.modDyn_dyn_of_ne other]

theorem execSignalStop_stops {q : Req} {s : State} (benchOpen : BenchOpen s) (signal : s.typeOf q.p0 = 3)
    (noRoute : s.routesFrom q.p0 = []) :
    ∃ t, exec (.signalStop q) s = .next t ∧ EngineOnly s t ∧ t.eng.waiting = s.eng.waiting ++ [.signalStop q q.p0 none] ∧
      (q.p0 < s.eng.elems.length → (t.dyn q.p0).demand = some 0) ∧
      (s.showsStop q.p0 = false → t.kindInFlight .signalStop q.p0 = true) ∧ (∀ j, j ≠ q.p0 → t.dyn j = s.dyn j) ∧
      t.eng.routes = s.eng.routes ∧ t.eng.queue = s.eng.queue ∧ t.bench.completions = s.bench.completions := by
  let c := (s.heard q).commandStop q.p0
  let u : State := { c with eng := { c.eng with waiting := c.eng.waiting ++ [.signalStop q q.p0 none] } }
  have ran : exec (.signalStop q) s = .next u.settle := by
    refine congrArg (fun u : State => Host.Outcome.next u.settle) ?_
    have noRoute' : (s.heard q).routesFrom q.p0 = [] := noRoute
    rw [State.decideSignalStop, State.clCommand_open benchOpen (by decide) (by simp [signal]), noRoute']
    rfl
  have field : FieldWork (s.heard q) c := (FieldWork.refl _).commandStop q.p0
  obtain ⟨routes, queue, -, waiting⟩ := field.engineParts
  have work : EngineWork s u := ((EngineWork.heard s q).trans field.engine).engine rfl
  refine ⟨_, ran, work.settle, ?_⟩
  simp only [State.settle_dyn, State.kindInFlight, State.settle_frame]
  refine ⟨congrArg (· ++ _) waiting, fun inside => ?_, fun shows => ?_, fun j other => ?_, routes, queue,
    congrArg Bench.completions field.bench⟩
  · exact (s.heard q).commandStop_demands q.p0 (by rw [field.1]; exact inside)
  · exact State.commandStop_inFlight (s := s.heard q) shows
  · exact State.commandStop_others (s := s.heard q) other

/-! ### POINT_MOVE -/

/-- Both ends of a point thrown (R79). -/
def State.throwEnds (s : State) (i pos : Nat) : State := (s.pointEnds i).foldl (fun s e => s.throwPoint e pos) s

theorem State.throwEnds_field (s : State) (i pos : Nat) : FieldWork s (s.throwEnds i pos) :=
  (FieldWork.refl s).foldl (fun t e => (FieldWork.refl t).throwPoint e pos) _

/-- A point end thrown to a position: the throw flies and the position is demanded (R77). -/
def EndThrown (pos : Nat) (s : State) (e : Nat) : Prop :=
  s.kindInFlight .pointThrow e = true ∧ ElementHas (fun d => d.demand = some pos) s e

theorem State.throwPoint_thrown (s : State) (e pos : Nat) : EndThrown pos (s.throwPoint e pos) e := by
  rw [State.throwPoint_eq]
  exact ⟨State.startTxn_inFlight .., ((ElementHas.demanded (s := s) pos).same rfl).modDyn e fun _ h => h⟩

theorem EndThrown.throwPoint {pos : Nat} {s : State} {e : Nat} (h : EndThrown pos s e) (i : Nat) :
    EndThrown pos (s.throwPoint i pos) e := by
  obtain ⟨flies, demand⟩ := h
  refine ⟨?_, demand.throwPoint i pos (fun _ _ => rfl) fun _ _ h => h⟩
  rw [State.throwPoint_eq]
  exact State.startTxn_kindInFlight (s := s.demandOf i pos) rfl _ _ _ _ _ flies

theorem State.throwEnds_thrown (s : State) (i pos : Nat) : ∀ e ∈ s.pointEnds i, EndThrown pos (s.throwEnds i pos) e :=
  foldl_forall (fun s e => s.throwPoint_thrown e pos) (fun _ i _ h => h.throwPoint i) _ s

section PointMove

variable {s : State} {p : Pend} {i pos : Nat} {q : Req} (want : p.want = .point i pos false) (waiting : p.req = some q)
  (inTime : ¬p.enteredUs + 30000000 ≤ s.bench.freezeUs)
include want waiting inTime

theorem State.evalPend_point_there (there : (s.pointEnds i).all (fun e => s.image e == pos) = true) :
    s.evalPend p = s.answerGranted p i q .ok := by
  simp only [State.evalPend, want, inTime, if_false, there, if_true, State.grantPend, State.keepReason, State.tell, waiting,
    Option.isSome_some, State.answerGranted]

theorem State.evalPend_point_throws (away : (s.pointEnds i).all (fun e => s.image e == pos) = false)
    (may : firstReason (s.moveReasons (s.pointEnds i) false p.arrival) = none) :
    s.evalPend p = (s.throwEnds i pos).answerGranted p i q .accepted := by
  simp only [State.evalPend, want, inTime, if_false, away, Bool.false_eq_true, may, State.grantPend, State.keepReason,
    State.tell, waiting, State.answerGranted, State.throwEnds]

omit waiting in
theorem State.evalPend_point_fails (away : (s.pointEnds i).all (fun e => s.image e == pos) = false) {x : Nat × Nat}
    (fails : firstReason (s.moveReasons (s.pointEnds i) false p.arrival) = some x) :
    s.evalPend p = if waits x.1 then s.waitPend p x.1 x.2 else s.refusePend p x.1 x.2 := by
  simp only [State.evalPend, want, inTime, if_false, away, Bool.false_eq_true, fails]

end PointMove

/-- A move that waits or is refused changes no route (R79). -/
theorem State.evalPend_point_held {s u : State} {p : Pend} {i pos : Nat} {q : Req} (want : p.want = .point i pos false)
    (waiting : p.req = some q) (run : s.power.state = .run) {x : Nat × Nat}
    (eq : u = if waits x.1 then s.waitPend p x.1 x.2 else s.refusePend p x.1 x.2) :
    EngineWork s u ∧ u.eng.routes = s.eng.routes := by
  rw [eq]
  split
  case isTrue =>
    simp only [State.waitPend, State.keepReason, State.tell, want, waiting, Option.isSome_some, Bool.true_or, if_true]
    rw [State.complete_handed (by exact run)]
    exact ⟨rfl, rfl⟩
  case isFalse =>
    simp only [State.refusePend, State.keepReason, State.tell, want, waiting]
    rw [State.complete_handed (by exact run)]
    exact ⟨rfl, rfl⟩

/-- The reasons against a move do not depend on the sessions that the command keeps alive. -/
theorem State.moveReasons_mg (s : State) (m : Mgmt) (ends : List Nat) (overrides : Bool) (arrival : Nat) :
    ({ s with mg := m } : State).moveReasons ends overrides arrival = s.moveReasons ends overrides arrival := rfl

theorem execPointMove_eq {q : Req} {s : State} (benchOpen : BenchOpen s) (point : s.typeOf q.p0 = 2) (pos : q.p1 ≤ 1)
    (room : s.counted < 512) :
    exec (.pointMove q) s = .next ((State.asked (s.heard q) 0x0103 q (.point q.p0 q.p1 false)).evalPend
      (s.newPend 0x0103 q (.point q.p0 q.p1 false))).settle := by
  refine congrArg (fun u : State => Host.Outcome.next u.settle) ?_
  rw [State.decidePointMove, State.clCommand_open benchOpen (by decide) (by simp [point, pos]),
    State.enqueue_evaluated (by exact room) (by simp)]
  rfl

/-- The module with the request of POINT_MOVE entered, before it is evaluated (R68). -/
def State.moveAsked (s : State) (q : Req) : State := State.asked (s.heard q) 0x0103 q (.point q.p0 q.p1 false)

/-- That request, as the newest entry of the queue. -/
def State.movePend (s : State) (q : Req) : Pend := s.newPend 0x0103 q (.point q.p0 q.p1 false)

theorem State.movePend_inTime (s : State) (q : Req) :
    ¬(s.movePend q).enteredUs + 30000000 ≤ (s.moveAsked q).bench.freezeUs :=
  s.newPend_inTime 0x0103 q (.point q.p0 q.p1 false)

theorem State.moveAsked_eq (s : State) (q : Req) :
    s.moveAsked q = { State.asked s 0x0103 q (.point q.p0 q.p1 false) with mg := (s.heard q).mg } := rfl

section PointMoved

variable {q : Req} {s : State} (run : s.power.state = .run) (new : ∀ p ∈ s.eng.queue, p.arrival ≠ q.arrival)
include run new

theorem pointMove_there (there : (s.pointEnds q.p0).all (fun e => s.image e == q.p1) = true) {t : State}
    (eq : t = ((s.moveAsked q).evalPend (s.movePend q)).settle) : EngineOnly s t ∧ t.eng.routes = s.eng.routes ∧
      t.eng.queue = s.eng.queue ∧ t.eng.txns = s.eng.txns ∧
      t.bench.completions = s.bench.completions ++ [done q 0x0103 .ok] := by
  rw [State.evalPend_point_there (s := s.moveAsked q) (p := s.movePend q) rfl rfl (s.movePend_inTime q) there] at eq
  obtain ⟨only, queue, routes, txns, completions, -⟩ :=
    answerGranted_settle run new (FieldWork.refl (State.asked (s.heard q) 0x0103 q (.point q.p0 q.p1 false))) q.p0 .ok
  rw [eq]
  exact ⟨only, routes, queue, txns, completions⟩

theorem pointMove_throws (away : (s.pointEnds q.p0).all (fun e => s.image e == q.p1) = false)
    (may : firstReason ((s.moveAsked q).moveReasons (s.pointEnds q.p0) false q.arrival) = none) {t : State}
    (eq : t = ((s.moveAsked q).evalPend (s.movePend q)).settle) : EngineOnly s t ∧ t.eng.routes = s.eng.routes ∧
      t.eng.queue = s.eng.queue ∧ t.bench.completions = s.bench.completions ++ [done q 0x0103 .accepted] ∧
      ∀ e ∈ s.pointEnds q.p0, t.kindInFlight .pointThrow e = true ∧
        (e < s.eng.elems.length → (t.dyn e).demand = some q.p1) := by
  rw [State.evalPend_point_throws (s := s.moveAsked q) (p := s.movePend q) rfl rfl (s.movePend_inTime q) away may] at eq
  obtain ⟨only, queue, routes, txns, completions, keeps⟩ :=
    answerGranted_settle run new ((s.moveAsked q).throwEnds_field q.p0 q.p1) q.p0 .accepted
  rw [eq]
  refine ⟨only, routes, queue, completions, fun e he => ?_⟩
  obtain ⟨flies, demand⟩ := (s.moveAsked q).throwEnds_thrown q.p0 q.p1 e he
  refine ⟨?_, keeps _ _ (fun _ h => h) demand⟩
  rw [State.kindInFlight]
  exact (congrArg (List.any · _) txns).trans flies

end PointMoved

theorem execPointMove_answers {q : Req} {s s1 : State} (benchOpen : BenchOpen s) (point : s.typeOf q.p0 = 2)
    (pos : q.p1 ≤ 1) (room : s.counted < 512) (new : ∀ p ∈ s.eng.queue, p.arrival ≠ q.arrival)
    (entered : s1 = State.asked s 0x0103 q (.point q.p0 q.p1 false)) :
    ∃ t, exec (.pointMove q) s = .next t ∧ EngineOnly s t ∧ t.eng.routes = s.eng.routes ∧
      ((∀ e ∈ s.pointEnds q.p0, s.image e = q.p1) → t.eng.queue = s.eng.queue ∧ t.eng.txns = s.eng.txns ∧
        t.bench.completions = s.bench.completions ++ [done q 0x0103 .ok]) ∧
      ((∃ e ∈ s.pointEnds q.p0, s.image e ≠ q.p1) → s1.moveReasons (s.pointEnds q.p0) false q.arrival = [] →
        t.eng.queue = s.eng.queue ∧ t.bench.completions = s.bench.completions ++ [done q 0x0103 .accepted] ∧
        ∀ e ∈ s.pointEnds q.p0, t.kindInFlight .pointThrow e = true ∧
          (e < s.eng.elems.length → (t.dyn e).demand = some q.p1)) := by
  have reasons : (s.moveAsked q).moveReasons (s.pointEnds q.p0) false q.arrival =
      s1.moveReasons (s.pointEnds q.p0) false q.arrival := by
    rw [entered, State.moveAsked_eq, State.moveReasons_mg]
  refine ⟨_, execPointMove_eq benchOpen point pos room, ?_⟩
  cases there : (s.pointEnds q.p0).all (fun e => s.image e == q.p1) with
  | true =>
    obtain ⟨only, routes, outcome⟩ := pointMove_there benchOpen.1 new there rfl
    refine ⟨only, routes, fun _ => outcome, fun ⟨e, he, away⟩ => ?_⟩
    exact absurd (by simpa using List.all_eq_true.mp there e he) away
  | false =>
    have away : ¬∀ e ∈ s.pointEnds q.p0, s.image e = q.p1 := by simpa using there
    cases verdict : firstReason ((s.moveAsked q).moveReasons (s.pointEnds q.p0) false q.arrival) with
    | none =>
      obtain ⟨only, routes, outcome⟩ := pointMove_throws benchOpen.1 new there verdict rfl
      exact ⟨only, routes, fun h => absurd h away, fun _ _ => outcome⟩
    | some x =>
      have failed :=
        State.evalPend_point_fails (s := s.moveAsked q) (p := s.movePend q) rfl (s.movePend_inTime q) there verdict
      obtain ⟨work, routes⟩ :=
        State.evalPend_point_held (s := s.moveAsked q) (p := s.movePend q) rfl rfl benchOpen.1 failed
      refine ⟨(EngineWork.trans (t := s.moveAsked q) rfl work).settle, ?_, fun h => absurd h away, fun _ may => ?_⟩
      · simp only [State.settle_frame]
        exact routes
      · rw [reasons, may] at verdict
        simp [firstReason_nil] at verdict

end Sys2Proof.Machine
end

section
/-! PROOF. The statement about the commands for routes, points and signals. -/

namespace Sys2Proof.Proofs

open Sys2Proof Sys2Proof.Machine Sys2Proof.Safety

/-- Settles O52, command by command. The first reason that counts is `firstReason` of the checks a route fails (R70). -/
theorem routeCommands : Obligations.RouteCommands := by
  unfold Obligations.RouteCommands
  refine ⟨?set, ?cancel, ?move, ?stop⟩
  case set =>
    intro q r s s1 benchOpen inside known free room new entered
    exact execRouteSet_answers benchOpen inside known free room new entered
  case cancel =>
    intro q r s benchOpen inside known none
    exact ⟨_, rfl, execRouteCancel_frees benchOpen inside known none rfl, execRouteCancel_leaves benchOpen known none rfl⟩
  case move =>
    intro q s s1 benchOpen point pos room new entered
    exact execPointMove_answers benchOpen point pos room new entered
  case stop =>
    intro q s benchOpen signal noRoute
    exact execSignalStop_stops benchOpen signal noRoute

end Sys2Proof.Proofs
end

section
/-! PROOF. What a phase E leaves of the cycle it evaluates (R125, R131): its instants, the codes handed to Ashlar, and what
its logins can be taken back to (R208). -/

namespace Sys2Proof.Machine

open Sys2Proof Sys2Proof.Safety

/-- The parts of the bench that belong to the cycle and not to its working copy. -/
def Bench.ofCycle (b : Bench) : Nat × Nat × Nat × Nat × Nat × List CodeOut × BitVec 16 × Option Undo :=
  (b.cycle, b.nextCycle, b.freezeUs, b.nextFreezeUs, b.lastO, b.codes, b.challenge, b.undo)

/-- The module still runs, in the cycle of `s`. -/
def InCycle (s t : State) : Prop := t.power.state = .run ∧ t.bench.ofCycle = s.bench.ofCycle

/-- An operation that leaves the power state and the bench. -/
def SameBench (s t : State) : Prop := t.power = s.power ∧ t.bench = s.bench

namespace InCycle

variable {s t u : State}

/-! ### Rules -/

theorem refl (run : s.power.state = .run) : InCycle s s := ⟨run, rfl⟩

theorem same (h : InCycle s t) (k : SameBench t u) : InCycle s u := by
  obtain ⟨power, bench⟩ := k
  exact ⟨by rw [power]; exact h.1, by rw [bench]; exact h.2⟩

/-- An operation that writes only the working copy of the bench. -/
theorem working (h : InCycle s t) (power : u.power = t.power) (bench : u.bench.ofCycle = t.bench.ofCycle) : InCycle s u :=
  ⟨by rw [power]; exact h.1, bench.trans h.2⟩

theorem ite {c : Prop} [Decidable c] (h : InCycle s t) (k : InCycle s u) : InCycle s (if c then t else u) := by
  split
  · exact h
  · exact k

theorem foldl {α : Type} {f : State → α → State} (hf : ∀ t a, InCycle s t → InCycle s (f t a)) (h : InCycle s t)
    (l : List α) : InCycle s (l.foldl f t) := List.foldlRecOn l f h fun t k a _ => hf t a k

theorem complete (h : InCycle s t) (op : Nat) (q : Req) (st : Status) (p0 p1 : Nat) (data : List Byte) :
    InCycle s (t.complete op q st p0 p1 data) := by
  rw [State.complete, if_pos h.1]
  exact h.working rfl rfl

theorem noteCluster (h : InCycle s t) (kind : Nat) (data : List Byte) : InCycle s (t.noteCluster kind data) := by
  rw [State.noteCluster_run h.1]
  exact h.working rfl rfl

theorem modDyn (h : InCycle s t) (i : Nat) (f : ElemDyn → ElemDyn) : InCycle s (t.modDyn i f) := h.same ⟨rfl, rfl⟩

theorem modRoute (h : InCycle s t) (n : Nat) (f : RouteDyn → RouteDyn) : InCycle s (t.modRoute n f) := h.same ⟨rfl, rfl⟩

theorem event (h : InCycle s t) (code : Nat) (src : Source) (sev : Severity) (a b c : Nat) (x : Bool) :
    InCycle s (t.event code src sev a b c x) := h.same ⟨rfl, rfl⟩

theorem heard (h : InCycle s t) (q : Req) : InCycle s (t.heard q) := h.same ⟨rfl, rfl⟩

/-- A command of the cluster: what it does where it passes its checks (R327). -/
theorem clCommand (h : InCycle s t) (q : Req) (op : Nat) {v : Option Status} {k : State → State}
    (hk : v = none → InCycle s (k (t.heard q))) : InCycle s (t.clCommand q op v k) := by
  unfold State.clCommand
  refine h.ite ?_
  split
  · exact (h.heard q).complete ..
  · exact hk rfl

/-- A command that is not open in RUN is only answered (R331). -/
theorem closed (h : InCycle s t) (q : Req) (op : Nat) {absent stateOk code ok : Bool} {need : Option Role}
    (shut : stateOk = false) (k : State → State) :
    InCycle s (t.clCommand q op (t.judge q op absent stateOk need code ok) k) :=
  h.clCommand q op fun passed => by
    obtain ⟨-, -, isOpen, -⟩ := State.judge_eq_none.1 passed
    simp [shut] at isOpen

/-! ### Steps 1 and 2: the field, the routes and the doors -/

theorem doorNote (h : InCycle s t) (edge cause leaves element : Nat) : InCycle s (t.doorNote edge cause leaves element) :=
  h.noteCluster ..

theorem checkObstructed (h : InCycle s t) (i : Nat) : InCycle s (t.checkObstructed i) := by
  simp only [State.checkObstructed]
  split
  · exact .ite (((h.modDyn ..).event ..).doorNote ..) h
  · exact h

theorem leafStep (h : InCycle s t) (i : Nat) : InCycle s (t.leafStep i) := by
  simp only [State.leafStep]
  split
  · refine checkObstructed (h.same ?_) i
    (repeat' split) <;> simp [SameBench, State.leafState_frame, State.leafFails_frame, State.leafDeclare_frame,
      State.leafRecover_frame]
  · exact h

theorem checkOpening (h : InCycle s t) (g : Nat) : InCycle s (t.checkOpening g) :=
  .ite ((h.modDyn ..).doorNote ..) h

theorem fieldStep (h : InCycle s t) : InCycle s t.fieldStep := by
  simp only [State.fieldStep]
  refine foldl (fun _ g k => k.checkOpening g) ?_ _
  refine foldl (fun _ g k => k.same (by simp [SameBench, State.edgeStep_frame])) ?_ _
  refine foldl (fun _ g k => k.same (by simp [SameBench, State.berthStep_frame])) ?_ _
  refine foldl (fun _ i k => k.leafStep i) ?_ _
  refine foldl (fun _ i k => k.same (by simp [SameBench, State.signalStep_frame])) ?_ _
  refine foldl (fun _ i k => k.same (by simp [SameBench, State.pointStep_frame])) ?_ _
  exact h.same (by simp [SameBench, State.txnSteps_frame])

theorem closeEdge (h : InCycle s t) (g : Nat) : InCycle s (t.closeEdge g) :=
  h.same (by simp [SameBench, State.closeEdge_frame])

theorem autoClose (h : InCycle s t) (g : Nat) : InCycle s (t.autoClose g) := by
  simp only [State.autoClose]
  refine ite ?_ h
  split
  · exact ((h.event ..).doorNote ..).closeEdge g
  · exact h

theorem autoCloses (h : InCycle s t) : InCycle s t.autoCloses :=
  .ite (h.foldl (fun _ g k => k.closeEdge g) _) (h.foldl (fun _ g k => k.autoClose g) _)

/-! ### Step 3: cancels, signal stops and door closes -/

theorem cancelRoute (h : InCycle s t) (n reason param : Nat) : InCycle s (t.cancelRoute n reason param) :=
  h.same (by simp [SameBench, State.cancelRoute_frame])

theorem withdraw (h : InCycle s t) (n tag arrival : Nat) : InCycle s (t.withdraw n tag arrival) := by
  simp only [State.withdraw]
  refine ite (modRoute (foldl (fun _ p k => ?_) ?_ _) ..) h
  · split
    · exact k.complete ..
    · exact k
  · exact h.same ⟨rfl, rfl⟩

theorem strikeRequests (h : InCycle s t) (n tag arrival : Nat) : InCycle s (t.strikeRequests n tag arrival) := by
  simp only [State.strikeRequests]
  refine foldl (fun _ x k => ?_) ?_ _
  · exact (k.heard x.req).complete ..
  · exact h.working rfl rfl

theorem decideRouteCancel (h : InCycle s t) (q : Req) : InCycle s (t.decideRouteCancel q) :=
  h.clCommand _ _ fun _ => ((((h.heard q).withdraw ..).strikeRequests ..).cancelRoute ..).complete ..

theorem decideSignalStop (h : InCycle s t) (q : Req) : InCycle s (t.decideSignalStop q) :=
  h.clCommand _ _ fun _ => by
    have cancelled := (h.heard q).foldl (fun _ n k => k.cancelRoute n 0x012B q.slot) ((t.heard q).routesFrom q.p0)
    exact cancelled.same (by simp [SameBench, State.commandStop_frame])

theorem decideDoorClose (h : InCycle s t) (q : Req) : InCycle s (t.decideDoorClose q) :=
  h.clCommand _ _ fun _ => same ((h.heard q).closeEdge q.p0) ⟨rfl, rfl⟩

theorem finishWaiting (h : InCycle s t) : InCycle s t.finishWaiting := by
  refine h.foldl (fun t w k => ?_) _
  have finished (op : Nat) (q : Req) (o : Option (Status × Nat)) : InCycle s (match o with
      | some (st, p) =>
        ({ t with eng := { t.eng with waiting := t.eng.waiting.filter (· != w) } }).complete op q st p
      | none => t) := by
    split
    · refine complete ?_ ..
      exact k.same ⟨rfl, rfl⟩
    · exact k
  cases w with
  | signalStop q i c => exact finished ..
  | doorClose q g => exact finished ..
  | _ => exact k

end InCycle

end Sys2Proof.Machine
end

section
/-! PROOF. The pending queue, the auxiliary commands and the other commands of the cluster, in the cycle in which phase E
decides them (R64, R331). -/

namespace Sys2Proof.Machine

open Sys2Proof Sys2Proof.Safety

namespace InCycle

variable {s t u : State}

/-! ### The pending queue -/

theorem requestNote (h : InCycle s t) (p : Pend) (st : Status) (reason param : Nat) :
    InCycle s (t.requestNote p st reason param) := by
  simp only [State.requestNote]
  split
  · exact h.noteCluster ..
  · exact h.noteCluster ..
  · exact h

theorem tell (h : InCycle s t) (p : Pend) (st : Status) (reason param : Nat) : InCycle s (t.tell p st reason param) := by
  simp only [State.tell]
  split
  · split
    · exact (h.complete ..).modRoute ..
    · exact h.complete ..
  · exact h.requestNote ..

theorem keepReason (h : InCycle s t) (p : Pend) (reason param : Nat) : InCycle s (t.keepReason p reason param) :=
  h.same (by simp [SameBench, State.keepReason_frame])

theorem dropPend (h : InCycle s t) (p : Pend) : InCycle s (t.dropPend p) := h.same ⟨rfl, rfl⟩

theorem refusePend (h : InCycle s t) (p : Pend) (reason param : Nat) : InCycle s (t.refusePend p reason param) := by
  have kept := (h.dropPend p).keepReason p reason param
  simp only [State.refusePend]
  refine tell ?_ ..
  split
  · exact kept.modRoute ..
  · exact kept

theorem grantPend (h : InCycle s t) (p : Pend) (st : Status) : InCycle s (t.grantPend p st) := by
  simp only [State.grantPend]
  refine tell ?_ ..
  split
  · exact h.dropPend p
  · exact (h.dropPend p).keepReason ..

theorem waitPend (h : InCycle s t) (p : Pend) (reason param : Nat) : InCycle s (t.waitPend p reason param) := by
  have marked : InCycle s (State.markWaiting (t.keepReason p reason param) p reason param) :=
    (h.keepReason p reason param).same ⟨rfl, rfl⟩
  exact ite (marked.tell ..) marked

theorem evalPend (h : InCycle s t) (p : Pend) : InCycle s (t.evalPend p) := by
  have held (x : Nat × Nat) : InCycle s (if waits x.1 then t.waitPend p x.1 x.2 else t.refusePend p x.1 x.2) :=
    ite (h.waitPend ..) (h.refusePend ..)
  unfold State.evalPend
  dsimp only
  split
  case h_1 i _ =>
    have reset : InCycle s (((t.demandOf i 0).startTxn .sectionReset i 0 10000000).dropPend p) := h.same ⟨rfl, rfl⟩
    refine ite (h.dropPend p) ?_
    split
    · exact reset
    · exact held _
  case h_2 =>
    refine ite (h.refusePend ..) ?_
    split
    case h_1 n _ =>
      split
      next r _ =>
        have granted : InCycle s (t.grantRoute n r) := h.same (by simp [SameBench, State.grantRoute_frame])
        split
        · exact granted.grantPend ..
        · exact held _
      next => exact h.dropPend p
    case h_2 i pos _ _ =>
      have thrown := h.foldl (f := fun s e => s.throwPoint e pos)
        (fun _ e k => k.same (by simp [SameBench, State.throwPoint_frame])) (t.pointEnds i)
      refine ite (h.grantPend ..) ?_
      split
      · exact thrown.grantPend ..
      · exact held _
    case h_3 g mask _ =>
      have opened : InCycle s (t.openDoors g mask) := h.same (by simp [SameBench, State.openDoors_frame])
      split
      · exact opened.grantPend ..
      · exact held _
    case h_4 => exact h

theorem enqueue (h : InCycle s t) (op : Nat) (q : Req) (w : Want) : InCycle s (t.enqueue op q w) := by
  simp only [State.enqueue]
  refine ite (h.complete ..) (evalPend ?_ _)
  split
  · refine modRoute ?_ ..
    exact h.same ⟨rfl, rfl⟩
  · exact h.same ⟨rfl, rfl⟩

theorem decideRouteSet (h : InCycle s t) (q : Req) : InCycle s (t.decideRouteSet q) :=
  h.clCommand _ _ fun _ => by
    have heard := h.heard q
    exact ite ((heard.modRoute ..).complete ..) (ite ((heard.modRoute ..).complete ..) (heard.enqueue ..))

theorem decidePointMove (h : InCycle s t) (q : Req) : InCycle s (t.decidePointMove q) :=
  h.clCommand _ _ fun _ => (h.heard q).enqueue ..

theorem decideDoorOpen (h : InCycle s t) (q : Req) : InCycle s (t.decideDoorOpen q) :=
  h.clCommand _ _ fun _ => (h.heard q).enqueue ..

/-! ### The auxiliary commands -/

theorem voidPrepare (h : InCycle s t) (p : Prepare) (reason : Nat) : InCycle s (t.voidPrepare p reason) :=
  h.noteCluster ..

theorem expirePrepare (h : InCycle s t) (p : Prepare) : InCycle s (t.expirePrepare p) := by
  simp only [State.expirePrepare]
  split
  · refine ite (voidPrepare (event ?_ ..) ..) h
    exact h.same ⟨rfl, rfl⟩
  · exact h

theorem expirePrepares (h : InCycle s t) : InCycle s t.expirePrepares := h.foldl (fun _ p k => k.expirePrepare p) _

theorem decideAuxPrepare (h : InCycle s t) (q : Req) : InCycle s (t.decideAuxPrepare q) :=
  h.clCommand _ _ fun _ => by
    dsimp only
    split
    · exact ((h.heard q).event ..).complete ..
    · refine complete (event ?_ ..) ..
      exact (h.heard q).same ⟨rfl, rfl⟩

theorem auxExecute (h : InCycle s t) (kind pos target : Nat) (q : Req) : InCycle s (t.auxExecute kind pos target q) :=
  h.same (by simp [SameBench, State.auxExecute_frame])

theorem decideAuxConfirm (h : InCycle s t) (q : Req) : InCycle s (t.decideAuxConfirm q) :=
  h.clCommand _ _ fun _ => by
    dsimp only
    split
    · exact ((h.heard q).event ..).complete ..
    next p _ =>
      have dropped : InCycle s ((t.heard q).dropPrepare p) := (h.heard q).same ⟨rfl, rfl⟩
      split
      · refine complete (event ?_ ..) ..
        exact ite (ite (dropped.event ..) dropped) (voidPrepare (ite (dropped.event ..) dropped) ..)
      · exact ((dropped.event ..).auxExecute ..).complete ..

end InCycle

end Sys2Proof.Machine
end

section
/-! PROOF. Every command of the cluster in the cycle in which phase E decides it, and the last steps of that phase (R64,
R331). -/

namespace Sys2Proof.Machine

open Sys2Proof Sys2Proof.Safety

namespace InCycle

variable {s t u : State}

theorem inRun (h : InCycle s t) : t.inRun = true := by simp [State.inRun, h.1]

/-! ### Queries, forces and constants -/

theorem query (h : InCycle s t) (op : Nat) (q : Req) (n : Nat) (record : State → Nat → List Byte) :
    InCycle s (t.query op q n record) :=
  h.clCommand _ _ fun _ => (h.heard q).complete ..

theorem forceEnded (h : InCycle s t) (f : Force) (cause : Nat) : InCycle s (t.forceEnded f cause) :=
  (h.event ..).noteCluster ..

theorem forceSetNote (h : InCycle s t) (f : Force) : InCycle s (t.forceSetNote f) := (h.event ..).noteCluster ..

/-- In RUN a change of the force table waits for the next freeze (R145). -/
theorem changeForce (h : InCycle s t) (c : ForceChange) : InCycle s (t.changeForce c) := by
  rw [State.changeForce, if_pos h.inRun]
  exact h.working rfl rfl

theorem decideForceSet (h : InCycle s t) (q : Req) : InCycle s (t.decideForceSet q) :=
  h.clCommand _ _ fun _ => by
    have heard := h.heard q
    dsimp only
    split
    · exact heard.complete ..
    · refine complete (changeForce (forceSetNote ?_ _) _) ..
      split
      · exact heard.forceEnded ..
      · exact heard

theorem decideForceClear (h : InCycle s t) (q : Req) : InCycle s (t.decideForceClear q) :=
  h.clCommand _ _ fun _ => by
    have heard := h.heard q
    dsimp only
    refine ite ?_ ?_
    · exact (changeForce (heard.foldl (fun _ f k => k.forceEnded f 1) _) _).complete ..
    · split
      · exact ((heard.forceEnded ..).changeForce _).complete ..
      · exact heard.complete ..

theorem decideForceList (h : InCycle s t) (q : Req) : InCycle s (t.decideForceList q) :=
  h.clCommand _ _ fun _ => (h.heard q).complete ..

theorem logFull (h : InCycle s t) (op : Nat) (q : Req) : InCycle s (t.logFull op q) := h.complete ..

/-- In RUN the entry of a constant waits for its phase O, and its value for the next freeze (R153, R154). -/
theorem decideConstantSet (h : InCycle s t) (q : Req) : InCycle s (t.decideConstantSet q) :=
  h.clCommand _ _ fun _ => by
    have heard := h.heard q
    dsimp only
    split
    · exact heard.complete ..
    · refine ite (heard.logFull ..) ?_
      simp only [heard.inRun, if_true]
      refine complete (noteCluster ?_ ..) ..
      exact heard.working rfl rfl

theorem decideConstantGet (h : InCycle s t) (q : Req) : InCycle s (t.decideConstantGet q) :=
  h.clCommand _ _ fun _ => (h.heard q).complete ..

/-! ### Sessions and the end of the bench -/

theorem acknowledge (h : InCycle s t) : InCycle s t.acknowledge := h.same (by simp [SameBench, State.acknowledge_frame])

theorem openSession (h : InCycle s t) (q : Req) (r : Role) : InCycle s (t.openSession q r) := by
  simp only [State.openSession]
  refine complete (acknowledge (event ?_ ..)) ..
  exact h.same ⟨rfl, rfl⟩

theorem loginFails (h : InCycle s t) (q : Req) (r : Role) : InCycle s (t.loginFails q r) := by
  have told := h.event 0x9010 .cl .info r.code 0 0 false
  refine ite (complete ?_ ..) (complete (event ?_ ..) ..) <;> exact told.same ⟨rfl, rfl⟩

theorem decideRoleLogin (h : InCycle s t) (q : Req) : InCycle s (t.decideRoleLogin q) :=
  h.clCommand _ _ fun _ => by
    have heard := h.heard q
    exact ite (heard.complete ..) (ite (ite (heard.complete ..) (heard.openSession ..)) (heard.loginFails ..))

theorem decideRoleLogout (h : InCycle s t) (q : Req) : InCycle s (t.decideRoleLogout q) :=
  h.clCommand _ _ fun _ => by
    refine complete ?_ ..
    exact (h.heard q).same ⟨rfl, rfl⟩

theorem decideBenchStop (h : InCycle s t) (q : Req) : InCycle s (t.decideBenchStop q) :=
  h.clCommand _ _ fun _ => (h.heard q).working rfl rfl

/-! ### The commands that RUN does not open (R331) -/

theorem decideShutdown (h : InCycle s t) (q : Req) : InCycle s (t.decideShutdown q) := h.closed _ _ (by simp [h.1]) _

theorem decideBenchStart (h : InCycle s t) (q : Req) : InCycle s (t.decideBenchStart q) := by
  unfold State.decideBenchStart
  exact h.closed _ _ (by simp [h.1]) _

theorem decideBenchRestart (h : InCycle s t) (q : Req) : InCycle s (t.decideBenchRestart q) :=
  h.closed _ _ (by simp [h.1]) _

theorem decideUpdateActivate (h : InCycle s t) (q : Req) : InCycle s (t.decideUpdateActivate q) :=
  h.closed _ _ (by simp [h.1]) _

theorem decidePasswordSet (h : InCycle s t) (q : Req) : InCycle s (t.decidePasswordSet q) :=
  h.closed _ _ (by simp [h.1]) _

theorem decideKeyInstall (h : InCycle s t) (q : Req) : InCycle s (t.decideKeyInstall q) := h.closed _ _ (by simp [h.1]) _

theorem decideLifecycleAdvance (h : InCycle s t) (q : Req) : InCycle s (t.decideLifecycleAdvance q) :=
  h.closed _ _ (by simp [h.1]) _

theorem decideLockoutRelease (h : InCycle s t) (q : Req) : InCycle s (t.decideLockoutRelease q) :=
  h.closed _ _ (by simp [h.1]) _

/-! ### The order of phase E (R64) -/

theorem decideCluster (h : InCycle s t) (op : Nat) (q : Req) : InCycle s (t.decideCluster op q) := by
  unfold State.decideCluster
  split
  · exact h.decideShutdown q
  · exact h.decideRouteSet q
  · exact h.decideRouteCancel q
  · exact h.decidePointMove q
  · exact h.decideSignalStop q
  · exact h.query ..
  · exact h.query ..
  · exact h.decideAuxPrepare q
  · exact h.decideAuxConfirm q
  · exact h.decideDoorOpen q
  · exact h.decideDoorClose q
  · exact h.decideBenchStart q
  · exact h.decideBenchStop q
  · exact h.decideBenchRestart q
  · exact h.decideForceSet q
  · exact h.decideForceClear q
  · exact h.decideForceList q
  · exact h.decideConstantSet q
  · exact h.decideConstantGet q
  · exact h.decideUpdateActivate q
  · exact h.decideRoleLogin q
  · exact h.decideRoleLogout q
  · exact h.decidePasswordSet q
  · exact h.decideKeyInstall q
  · exact h.decideLifecycleAdvance q
  · exact h.decideLockoutRelease q
  · exact h

theorem decideThese (h : InCycle s t) (which : Nat → Bool) : InCycle s (t.decideThese which) :=
  h.foldl (fun _ x k => k.decideCluster x.opcode x.req) _

theorem workStep (h : InCycle s t) (w : Work) : InCycle s (t.workStep w) := by
  cases w with
  | old p => exact ite (h.evalPend p) h
  | fresh x => exact h.decideCluster ..

theorem stepFive (h : InCycle s t) : InCycle s t.stepFive := h.foldl (fun _ w k => k.workStep w) _

theorem tellFaults (h : InCycle s t) : InCycle s t.tellFaults := by
  refine h.foldl (fun t i k => ?_) _
  have told (cls start code : Nat) {u : State} (k : InCycle s u) : InCycle s (u.noteCluster 0x0101 (le 2 i ++
      [BitVec.ofNat 8 cls, BitVec.ofNat 8 start] ++ le 2 code)) := k.noteCluster ..
  have ended := ite (c := (t.dyn i).faultClass = 0) k (told (t.dyn i).faultClass 0
    (if (t.dyn i).faultCode = 0x5020 then 0x5021 else (t.dyn i).faultCode) k)
  exact ite k ((ite ended (told _ 1 _ ended)).modDyn ..)

theorem dwellCheck (h : InCycle s t) : InCycle s t.dwellCheck := by
  simp only [State.dwellCheck, State.dwellExpire]
  have warned : InCycle s t.dwellSync.dwellWarn :=
    h.same (by simp [SameBench, State.dwellWarn_frame, State.dwellSync_frame])
  refine ite (warned.working ?_ ?_) warned <;>
    simp only [State.voteNote_frame, State.voteEvent_frame, Bench.ofCycle]

end InCycle

end Sys2Proof.Machine
end

section
/-! PROOF. The demands of the auxiliary outputs (R34), and what the rest of phase E leaves of what their lists read. -/

namespace Sys2Proof.Machine

open Sys2Proof Sys2Proof.Safety

/-- From `s` to `t` nothing changes that a condition list reads, nor any fault of a local channel (R39, R252). -/
structure SameTerms (s t : State) : Prop where
  station : t.station = s.station
  image : ∀ i, t.image i = s.image i
  holders : ∀ i, (t.dyn i).holders = (s.dyn i).holders
  channel : ∀ i, (t.dyn i).channel = (s.dyn i).channel

namespace SameTerms

variable {s t u : State}

theorem refl (s : State) : SameTerms s s := ⟨rfl, fun _ => rfl, fun _ => rfl, fun _ => rfl⟩

theorem symm (h : SameTerms s t) : SameTerms t s :=
  ⟨h.station.symm, fun i => (h.image i).symm, fun i => (h.holders i).symm, fun i => (h.channel i).symm⟩

theorem trans (h : SameTerms s t) (k : SameTerms t u) : SameTerms s u :=
  ⟨k.station.trans h.station, fun i => (k.image i).trans (h.image i), fun i => (k.holders i).trans (h.holders i),
    fun i => (k.channel i).trans (h.channel i)⟩

theorem of_elems (station : t.station = s.station) (elems : t.eng.elems = s.eng.elems) : SameTerms s t := by
  have dyn (i : Nat) : t.dyn i = s.dyn i := by rw [State.dyn, elems, State.dyn]
  exact ⟨station, fun i => by rw [State.image, dyn, State.image], fun i => by rw [dyn], fun i => by rw [dyn]⟩

theorem demandOf (s : State) (i v : Nat) : SameTerms s (s.demandOf i v) := by
  have dyn (j : Nat) : ∃ d, (s.demandOf i v).dyn j = { s.dyn j with demand := d } := by
    rw [State.demandOf_modDyn, State.modDyn_dyn]
    split
    · exact ⟨_, rfl⟩
    · exact ⟨_, rfl⟩
  refine ⟨rfl, fun j => ?_, fun j => ?_, fun j => ?_⟩ <;> obtain ⟨d, eq⟩ := dyn j <;> simp only [State.image, eq]

theorem told (h : FaultsTold s t) : SameTerms s t := by
  obtain ⟨dyn, rest⟩ := h
  refine ⟨by rw [rest], fun j => ?_, fun j => ?_, fun j => ?_⟩ <;> obtain ⟨_, _, eq⟩ := dyn j <;>
    simp only [State.image, eq]

theorem part (h : SameTerms s t) (i : Nat) : t.part i = s.part i := by
  simp only [State.part, State.elem, State.elements, h.station]

theorem typeOf (h : SameTerms s t) (i : Nat) : t.typeOf i = s.typeOf i := by
  simp only [State.typeOf, State.elem, State.elements, h.station]

theorem term (h : SameTerms s t) (x : Term) : t.term x = s.term x := by
  simp only [State.term, h.typeOf, h.image, h.holders]

end SameTerms

/-- What phase E demands of an auxiliary output with a condition list (R34, R252). -/
def State.auxValue (s : State) (i list : Nat) : Nat :=
  if s.listTrue (s.termList list) && !(s.dyn i).channel then 1 else 0

theorem SameTerms.auxValue {s t : State} (h : SameTerms s t) (i list : Nat) : t.auxValue i list = s.auxValue i list := by
  simp [State.auxValue, State.listTrue, State.termList, h.term, h.station, h.channel]

/-- One step of `State.auxDemands`. -/
def State.auxDemand (s : State) (i : Nat) : State :=
  match s.part i with
  | .auxOut list _ => s.demandOf i (s.auxValue i list)
  | _ => s

theorem State.auxDemands_eq (s : State) : s.auxDemands = (s.ofType 9).foldl State.auxDemand s := rfl

theorem State.auxDemand_terms (s : State) (i : Nat) : SameTerms s (s.auxDemand i) := by
  unfold State.auxDemand
  split
  · exact .demandOf ..
  · exact .refl s

theorem State.auxDemands_terms (s : State) : SameTerms s s.auxDemands :=
  List.foldlRecOn _ State.auxDemand (SameTerms.refl s) fun _ h i _ => h.trans (State.auxDemand_terms _ i)

theorem State.auxDemand_out {s : State} {i list : Nat} {b : Option Nat} (out : s.part i = .auxOut list b) :
    s.auxDemand i = s.demandOf i (s.auxValue i list) := by
  rw [State.auxDemand, out]

/-- An auxiliary output demanded as its list stands in `s`. -/
def AuxDemanded (s t : State) (i : Nat) : Prop :=
  SameTerms s t → ∀ list b, s.part i = .auxOut list b → ElementHas (fun d => d.demand = some (s.auxValue i list)) t i

theorem State.auxDemand_demands (s t : State) (i : Nat) : AuxDemanded s (t.auxDemand i) i := by
  intro same list b out
  have before : SameTerms s t := same.trans (t.auxDemand_terms i).symm
  rw [State.auxDemand_out ((before.part i).trans out), before.auxValue]
  exact ElementHas.demanded _

theorem State.auxDemand_keeps (s t : State) (i j : Nat) (h : AuxDemanded s t j) : AuxDemanded s (t.auxDemand i) j := by
  by_cases own : j = i
  · rw [own]
    exact s.auxDemand_demands t i
  · intro same list b out
    have before := h (same.trans (t.auxDemand_terms i).symm) list b out
    unfold State.auxDemand
    split
    · intro inside
      rw [State.demandOf_modDyn, State.modDyn_dyn_of_ne own]
      exact before (by simpa [State.demandOf_modDyn] using inside)
    · exact before

theorem State.ofType_auxOut {s : State} {i list : Nat} {b : Option Nat} (out : s.part i = .auxOut list b) :
    i ∈ s.ofType 9 := by
  cases found : s.elem i with
  | none => simp [State.part, found] at out
  | some e =>
    have part : e.part = .auxOut list b := by simpa [State.part, found] using out
    have listed := State.mem_ofType found
    rwa [part] at listed

/-- After the demands of phase E every auxiliary output is demanded as its list stands (R34). -/
theorem State.auxDemands_demanded {s : State} {i list : Nat} {b : Option Nat} (out : s.part i = .auxOut list b) :
    ElementHas (fun d => d.demand = some (s.auxDemands.auxValue i list)) s.auxDemands i := by
  have terms := s.auxDemands_terms
  rw [terms.auxValue]
  rw [State.auxDemands_eq] at terms ⊢
  exact foldl_forall (P := AuxDemanded s) s.auxDemand_demands s.auxDemand_keeps _ s i (State.ofType_auxOut out) terms list
    b out

/-! ### What follows the demands -/

theorem State.tellFaults_elems_length (s : State) : s.tellFaults.eng.elems.length = s.eng.elems.length := by
  refine List.foldlRecOn (motive := fun t => t.eng.elems.length = s.eng.elems.length) _ State.tellFault rfl fun t h i _ => ?_
  simp only [State.tellFault]
  (repeat' split) <;> simpa [State.noteCluster_frame] using h

/-- Faults told and the dwell checked leave each auxiliary output demanded as its list stands. -/
theorem State.auxDemands_told {s t : State} (run : s.power.state = .run) (station : t.station = s.station)
    (elems : t.eng.elems = s.auxDemands.tellFaults.eng.elems) (i list : Nat) (b : Option Nat)
    (out : t.part i = .auxOut list b) (inside : i < t.eng.elems.length) :
    (t.dyn i).demand = some (t.auxValue i list) := by
  have faults := State.tellFaults_told (s := s.auxDemands) (by simpa [State.auxDemands_frame] using run)
  have same : SameTerms s.auxDemands t := (SameTerms.told faults).trans
    (.of_elems (station.trans (s.auxDemands_terms.trans (.told faults)).station.symm) elems)
  have demanded := State.auxDemands_demanded (s := s) (i := i) (list := list) (b := b)
    ((s.auxDemands_terms.trans same).part i ▸ out)
  obtain ⟨cls, code, told⟩ := faults.1 i
  rw [same.auxValue, State.dyn, elems, ← State.dyn, told]
  exact demanded (by rwa [elems, State.tellFaults_elems_length] at inside)

end Sys2Proof.Machine
end

section
/-! PROOF. Phase E as a whole (R64, R131, R208). -/

namespace Sys2Proof.Machine

open Sys2Proof Sys2Proof.Safety

/-- The end of phase E: faults told, the dwell checked, and the image consumed (R64, R203). -/
def State.endPhaseE (s : State) : State :=
  { s.tellFaults.dwellCheck with
    bench := { s.tellFaults.dwellCheck.bench with requests := [], evaluated := true, first := false } }

/-- Phase E is its steps, the demands of the auxiliary outputs, its end and the count of its engine cycles. -/
theorem State.phaseE_eq {s : State} (run : s.power.state = .run) (cycles : Nat) :
    ∃ w, InCycle s.openUndo w ∧ s.phaseE cycles = w.auxDemands.endPhaseE.engineExcess cycles := by
  refine ⟨_, ?_, rfl⟩
  have opened : InCycle s.openUndo (s.openUndo.freeSlots.holdExpiry) :=
    InCycle.same (.refl run) (by simp [SameBench, State.holdExpiry_frame, State.freeSlots_frame])
  have supervised : InCycle s.openUndo (s.openUndo.freeSlots.holdExpiry.fieldStep.superviseRoutes) :=
    opened.fieldStep.same (by simp [SameBench, State.superviseRoutes_frame])
  exact (((((supervised.autoCloses.decideThese _).decideThese _).expirePrepares).stepFive).decideThese _).finishWaiting

theorem State.endPhaseE_engine (s : State) : s.endPhaseE.eng = s.tellFaults.eng ∧ s.endPhaseE.station = s.station := by
  simp only [State.endPhaseE, State.dwellCheck_frame, State.tellFaults_frame, and_self]

theorem InCycle.endPhaseE {s t : State} (h : InCycle s t) : InCycle s t.endPhaseE := by
  unfold State.endPhaseE
  have checked := h.tellFaults.dwellCheck
  generalize t.tellFaults.dwellCheck = u at checked ⊢
  exact checked.working rfl rfl

theorem State.engineExcess_same (s : State) (cycles : Nat) : SameBench s (s.engineExcess cycles) := by
  simp [SameBench, State.engineExcess_frame]

/-- More engine cycles than the station data allow are the last record of phase E (R131). -/
theorem State.engineExcess_recorded {s : State} {cycles : Nat} (excess : (s.station.map Station.engineCycles).getD 0 < cycles) :
    ∃ r, (s.engineExcess cycles).recorder.inbox.getLast? = some r ∧ r.code = 0x1042 ∧ r.p0 = word cycles := by
  rw [State.engineExcess, if_pos excess]
  exact ⟨_, List.getLast?_concat, rfl, rfl⟩

theorem execPhaseE_eq {cycles : Nat} {s : State} (run : s.power.state = .run) (frozen : s.bench.frozen = true)
    (fresh : s.bench.evaluated = false) : exec (.phaseE cycles) s = .next (s.phaseE cycles).settle := by
  simp only [exec, execPhaseE, State.inRun, run, frozen, fresh, beq_self_eq_true, Bool.not_false, Bool.and_self, if_true]

end Sys2Proof.Machine
end

section
/-! PROOF. The statement about phase E. -/

namespace Sys2Proof.Proofs

open Sys2Proof Sys2Proof.Machine Sys2Proof.Safety

/-- Settles O19: every step of phase E keeps the cycle, its instants and what its logins can be taken back to (`InCycle`);
the auxiliary outputs are demanded after the last step that changes what their lists read (`SameTerms`). -/
theorem phaseEEvaluates : Obligations.PhaseEEvaluates := by
  unfold Obligations.PhaseEEvaluates
  intro cycles s run frozen fresh
  obtain ⟨w, work, eq⟩ := State.phaseE_eq run cycles
  have ends : InCycle s.openUndo w.auxDemands.endPhaseE :=
    (work.same (by simp [SameBench, State.auxDemands_frame])).endPhaseE
  obtain ⟨engine, station⟩ := w.auxDemands.endPhaseE_engine
  have bench : (s.phaseE cycles).bench = w.auxDemands.endPhaseE.bench := by rw [eq, (State.engineExcess_same _ _).2]
  have cycle : (s.phaseE cycles).bench.ofCycle = s.openUndo.bench.ofCycle := by rw [bench, ends.2]
  simp only [Bench.ofCycle, Prod.mk.injEq] at cycle
  obtain ⟨cycle, nextCycle, freezeUs, nextFreezeUs, lastO, codes, challenge, undo⟩ := cycle
  have same : (s.phaseE cycles).eng = w.auxDemands.tellFaults.eng ∧ (s.phaseE cycles).station = w.station := by
    simp only [eq, State.engineExcess_frame, engine, station, State.auxDemands_frame, and_self]
  have wRuns : w.power.state = .run := work.1
  refine ⟨_, execPhaseE_eq run frozen fresh, ?_⟩
  simp only [State.settle_frame, State.phaseE_frame]
  refine ⟨by rw [bench]; rfl, by rw [bench]; rfl, by rw [bench]; rfl, cycle, nextCycle, freezeUs, nextFreezeUs, lastO, codes,
    challenge, fun i list b out inside => ?_, ⟨_, undo, rfl, rfl, rfl⟩, fun excess => ?_, by simp only [and_self]⟩
  · refine State.auxDemands_told wRuns ?_ ?_ i list b out (by simpa only [State.settle_frame] using inside)
    · simp only [State.settle_frame, same.2]
    · simp only [State.settle_frame, same.1]
  · rw [eq]
    refine State.engineExcess_recorded ?_
    simpa only [station, State.auxDemands_frame, ← same.2, State.phaseE_frame] using excess

end Sys2Proof.Proofs
end

section
/-! PROOF. A leaf at its move limit (R99) and at the end of 60 s of OBSTRUCTED (R101). -/

namespace Sys2Proof.Machine

open Sys2Proof Sys2Proof.Safety

/-! ### The move limit -/

/-- A leaf declared FAILED for moving too long, and showing it (R99 cause 1). -/
def State.moveFailed (s : State) (i : Nat) : State := (s.leafFails i 1).setValue i 6

theorem State.checkMoving_late {s : State} {i g pos limit : Nat} {b : Bool} (leaf : s.part i = .leaf g pos b limit)
    (sound : (s.dyn i).leafCause = 0) (late : s.time10ms limit < (s.dyn i).movingUs) :
    s.checkMoving i = s.moveFailed i := by
  simp [State.checkMoving, State.moveFailed, leaf, sound, late]

theorem State.moveFailed_dyn {s : State} {i : Nat} (inside : i < s.eng.elems.length) :
    (s.moveFailed i).dyn i =
      { s.dyn i with leafCause := 1, good := 0, goodUs := s.evalUs, value := 6, image := (s.forceOn 1 i).getD 6 } := by
  have declared : (s.leafFails i 1).dyn i = { s.dyn i with leafCause := 1, good := 0, goodUs := s.evalUs } :=
    State.modDyn_dyn_same inside _
  have held : i < (s.leafFails i 1).eng.elems.length :=
    inside.trans_eq (s.modDyn_elems_length i _).symm
  rw [State.moveFailed, State.setValue_dyn_same held, declared]
  rfl

theorem State.moveFailed_recorded (s : State) (i : Nat) : Recorded s (s.moveFailed i) 0x7010 i 1 0 :=
  recorded_framed (State.event_recorded (t := s.modDyn i _) rfl rfl rfl 0x7010 .cl .f1 i 1 0 false) rfl

/-- The declaration touches the elements and the recorder. -/
theorem State.moveFailed_eq (s : State) (i : Nat) :
    s.moveFailed i = { s with eng := { s.eng with elems := (s.moveFailed i).eng.elems },
                              recorder := (s.moveFailed i).recorder } := rfl

/-- MOVE_LIMIT_EXPIRY of a leaf that its check declares FAILED: after the declaration the begin of F1 is told. -/
theorem execMoveLimitExpiry_failed {s : State} {i : Nat} (run : s.power.state = .run)
    (inside : i < s.eng.elems.length) (fails : s.checkMoving i = s.moveFailed i) :
    ∃ t, exec (.moveLimitExpiry i) s = .next t ∧ (t.dyn i).leafCause = 1 ∧ (t.dyn i).value = 6 ∧
      (t.dyn i).image = (s.forceOn 1 i).getD 6 ∧ Recorded s t 0x7010 i 1 0 ∧ t.eng.txns = s.eng.txns ∧
      t.eng.routes = s.eng.routes ∧
      t = { s with bench := t.bench, eng := t.eng, recorder := t.recorder, hi := mirrorOf s t } := by
  have ran : exec (.moveLimitExpiry i) s = .next (s.moveFailed i).tellFaults.settle := by
    rw [← fails]
    exact congrArg (fun u : State => Host.Outcome.next u.settle) (State.timed_run run _)
  obtain ⟨elements, rest⟩ := State.tellFaults_told (s := s.moveFailed i) run
  obtain ⟨_, _, element⟩ := elements i
  have recorded : Recorded s (s.moveFailed i).tellFaults 0x7010 i 1 0 :=
    recorded_framed (s.moveFailed_recorded i) (by rw [rest])
  refine ⟨_, ran, ?_⟩
  simp only [State.settle_dyn, element, State.moveFailed_dyn inside, State.settle_frame]
  refine ⟨trivial, trivial, trivial, recorded_settle recorded, ?_, ?_, ?_⟩
  · rw [rest, State.moveFailed_eq]
  · rw [rest, State.moveFailed_eq]
  · rw [State.settle_eq, rest, State.moveFailed_eq]

/-! ### An obstruction of 60 s -/

/-- A leaf's obstruction marked as reported (R101). -/
def State.obstructionTold (s : State) (i : Nat) : State := s.modDyn i fun d => { d with obstructedTold := true }

/-- The DOOR notification of an obstruction in RUN (R101, R353): cause 3. -/
def State.obstructionNote (s : State) (i : Nat) : Note :=
  ⟨0x0102, s.bench.cycle, s.opMs, le 2 (s.part i).edgeOf ++ [BitVec.ofNat 8 3, BitVec.ofNat 8 0] ++ le 2 i⟩

/-- The mark, the event and the notification are all that 60 s of OBSTRUCTED do in RUN. -/
theorem State.checkObstructed_due {s : State} {i a : Nat} (run : s.power.state = .run)
    (since : (s.dyn i).obstructedSince = some a) (due : a + 60000000 ≤ s.bench.freezeUs)
    (untold : (s.dyn i).obstructedTold = false) :
    s.checkObstructed i =
      { (s.obstructionTold i).event 0x7012 .cl .info with
        bench := { s.bench with notes := s.bench.notes ++ [s.obstructionNote i] } } := by
  simp only [State.checkObstructed, since, due, untold, decide_true, Bool.not_false, Bool.and_self, if_true,
    State.doorNote]
  exact State.noteCluster_run (s := (s.obstructionTold i).event 0x7012 .cl .info) run _ _

theorem execObstruction60s_due {s : State} {i a : Nat} (run : s.power.state = .run) (inside : i < s.eng.elems.length)
    (since : (s.dyn i).obstructedSince = some a) (due : a + 60000000 ≤ s.bench.freezeUs)
    (untold : (s.dyn i).obstructedTold = false) :
    ∃ t n, exec (.obstruction60s i) s = .next t ∧ t.dyn i = { s.dyn i with obstructedTold := true } ∧
      (∀ j, j ≠ i → t.dyn j = s.dyn j) ∧ Recorded s t 0x7012 0 0 0 ∧
      t.bench.notes = s.bench.notes ++ [n] ∧ n.kind = 0x0102 ∧
      t = { s with bench := { s.bench with notes := t.bench.notes }, eng := { s.eng with elems := t.eng.elems },
                   recorder := t.recorder, hi := mirrorOf s t } := by
  have ran : exec (.obstruction60s i) s = .next (s.checkObstructed i).settle :=
    congrArg (fun u : State => Host.Outcome.next u.settle) (State.timed_run run _)
  rw [State.checkObstructed_due run since due untold] at ran
  have recorded := State.event_recorded (s := s) (t := s.obstructionTold i) rfl rfl rfl 0x7012 .cl .info 0 0 0 false
  refine ⟨_, s.obstructionNote i, ran, ?_, fun j other => ?_, recorded_settle (recorded_framed recorded rfl), ?_, rfl, ?_⟩
  · rw [State.settle_dyn]
    exact State.modDyn_dyn_same inside _
  · rw [State.settle_dyn]
    exact State.modDyn_dyn_of_ne other s _
  · simp only [State.settle_frame]
  · rw [State.settle_eq]
    rfl

end Sys2Proof.Machine
end

section
/-! PROOF. The statement about a leaf that moves or is obstructed for too long. -/

namespace Sys2Proof.Proofs

open Sys2Proof Sys2Proof.Machine Sys2Proof.Safety

/-- Settles O30, timer by timer: the leaf is declared FAILED for moving too long (R99), and its obstruction is marked as
reported (R101). That event 0x7012 has the parameters 0 is the model's choice (log entry 15). -/
theorem leafTimers : Obligations.LeafTimers := by
  unfold Obligations.LeafTimers
  refine ⟨?moving, ?obstructed⟩
  case moving =>
    intro i g pos limit b s run inside leaf sound late
    exact execMoveLimitExpiry_failed run inside (State.checkMoving_late leaf sound late)
  case obstructed =>
    intro i a s run inside since due untold
    exact execObstruction60s_due run inside since due untold

end Sys2Proof.Proofs
end

section
/-! PROOF. The limit of two-out-of-two operation (R174) and the reminder of forcing (R149). -/

namespace Sys2Proof.Machine

open Sys2Proof Sys2Proof.Safety

/-! ### A voting event and its notification -/

/-- A VOTE notification goes out through the host island at once (R182, R353). -/
theorem State.voteNote_eq (s : State) (code p0 p1 : Nat) :
    s.voteNote code p0 p1 =
      { s with hi := (s.voteNote code p0 p1).hi, outbox := (s.voteNote code p0 p1).outbox } := by
  apply State.ext <;> simp only [State.voteNote_frame]

theorem State.voteEvent_recorded {s t : State} (hrecorder : t.recorder = s.recorder) (hop : t.opUs = s.opUs)
    (hcycle : t.powerCycle = s.powerCycle) (code : Nat) (sev : Severity) (p1 p2 : Nat) :
    Recorded s (t.voteEvent code sev p1 p2) code t.bench.cycle p1 p2 :=
  State.event_recorded hrecorder hop hcycle ..

/-- From `s` to `u` exactly one record is reported, and only the recorder, the host island and the outbox change. -/
def ToldOnce (s u : State) (code p0 p1 p2 : Nat) : Prop :=
  Recorded s u code p0 p1 p2 ∧ u = { s with recorder := u.recorder, hi := u.hi, outbox := u.outbox }

theorem State.voteEvent_told (s : State) (code : Nat) (sev : Severity) (p1 p2 noteCode note0 note1 : Nat) :
    ToldOnce s ((s.voteEvent code sev p1 p2).voteNote noteCode note0 note1) code s.bench.cycle p1 p2 := by
  refine ⟨recorded_framed (State.voteEvent_recorded rfl rfl rfl code sev p1 p2) (by simp only [State.voteNote_frame]), ?_⟩
  rw [State.voteNote_eq]
  rfl

/-- A warning of the dwell is told once, with the minutes left rounded up (R174, log entry 40). -/
theorem State.dwellSay_told (s : State) (left : Nat) :
    ToldOnce s (s.dwellSay left) 0x1011 s.bench.cycle ((left + 59999999) / 60000000) s.vacantSlot :=
  s.voteEvent_told ..

/-! ### The warnings -/

theorem State.dwellWarn_ahead {s : State} (counts : s.dwellCounts = true)
    (ahead : 3600000000 < s.dwellLimitUs - s.dwellNow) :
    s.dwellWarn = { s with vote := { s.vote with warned60 := false, warned10 := false } } := by
  have ahead10 : 600000000 < s.dwellLimitUs - s.dwellNow := by omega
  simp [State.dwellWarn, State.dwellWarn60, State.dwellWarn10, counts, ahead, ahead10]

/-- In the last hour but not in its last ten minutes the warning of 60 minutes is told, if it has not been. -/
theorem State.dwellWarn_hour {s : State} (counts : s.dwellCounts = true)
    (before10 : 600000000 < s.dwellLimitUs - s.dwellNow) (within60 : s.dwellLimitUs - s.dwellNow ≤ 3600000000)
    (untold : s.vote.warned60 = false) :
    s.dwellWarn = { ({ s with vote := { s.vote with warned60 := true } }).dwellSay (s.dwellLimitUs - s.dwellNow) with
      vote := { s.vote with warned60 := true, warned10 := false } } := by
  simp [State.dwellWarn, State.dwellWarn60, State.dwellWarn10, counts, before10, Nat.not_lt.mpr within60, untold,
    State.dwellSay_frame]

/-- In the last ten minutes the warning of 10 minutes is told, if it has not been. -/
theorem State.dwellWarn_tenMinutes {s : State} (counts : s.dwellCounts = true)
    (within10 : s.dwellLimitUs - s.dwellNow ≤ 600000000) (told : s.vote.warned60 = true)
    (untold : s.vote.warned10 = false) :
    s.dwellWarn = ({ s with vote := { s.vote with warned10 := true } }).dwellSay (s.dwellLimitUs - s.dwellNow) := by
  have within60 : s.dwellLimitUs - s.dwellNow ≤ 3600000000 := by omega
  simp [State.dwellWarn, State.dwellWarn60, State.dwellWarn10, counts, Nat.not_lt.mpr within60,
    Nat.not_lt.mpr within10, told, untold]

theorem execDwellWarning_ahead {s : State} (counts : s.dwellCounts = true)
    (ahead : 3600000000 < s.dwellLimitUs - s.dwellNow) :
    ∃ t, exec .dwellWarning s = .next t ∧
      t = { s with vote := { s.vote with warned60 := false, warned10 := false }, hi := mirrorOf s t } := by
  refine ⟨_, rfl, ?_⟩
  rw [State.dwellWarn_ahead counts ahead, State.settle_eq]

theorem execDwellWarning_hour {s : State} (counts : s.dwellCounts = true)
    (before10 : 600000000 < s.dwellLimitUs - s.dwellNow) (within60 : s.dwellLimitUs - s.dwellNow ≤ 3600000000)
    (untold : s.vote.warned60 = false) :
    ∃ t, exec .dwellWarning s = .next t ∧ t.vote = { s.vote with warned60 := true, warned10 := false } ∧
      Recorded s t 0x1011 s.bench.cycle ((s.dwellLimitUs - s.dwellNow + 59999999) / 60000000) s.vacantSlot ∧
      t = { s with vote := t.vote, recorder := t.recorder, hi := t.hi, outbox := t.outbox } := by
  refine ⟨_, rfl, ?_⟩
  rw [State.dwellWarn_hour counts before10 within60 untold]
  obtain ⟨recorded, only⟩ := State.dwellSay_told { s with vote := { s.vote with warned60 := true } }
    (s.dwellLimitUs - s.dwellNow)
  refine ⟨by simp only [State.settle_frame], recorded_settle (recorded_framed recorded rfl), ?_⟩
  rw [State.settle_eq, only]

theorem execDwellWarning_tenMinutes {s : State} (counts : s.dwellCounts = true)
    (within10 : s.dwellLimitUs - s.dwellNow ≤ 600000000) (told : s.vote.warned60 = true)
    (untold : s.vote.warned10 = false) :
    ∃ t, exec .dwellWarning s = .next t ∧ t.vote = { s.vote with warned10 := true } ∧
      Recorded s t 0x1011 s.bench.cycle ((s.dwellLimitUs - s.dwellNow + 59999999) / 60000000) s.vacantSlot ∧
      t = { s with vote := t.vote, recorder := t.recorder, hi := t.hi, outbox := t.outbox } := by
  refine ⟨_, rfl, ?_⟩
  rw [State.dwellWarn_tenMinutes counts within10 told untold]
  obtain ⟨recorded, only⟩ := State.dwellSay_told { s with vote := { s.vote with warned10 := true } }
    (s.dwellLimitUs - s.dwellNow)
  refine ⟨by simp only [State.settle_frame, State.dwellSay_frame], recorded_settle recorded, ?_⟩
  rw [State.settle_eq, only]

/-! ### The limit -/

theorem State.dwellExpire_due {s : State} (counts : s.dwellCounts = true) (due : s.dwellLimitUs ≤ s.dwellNow)
    (running : s.vote.dwellExpired = false) :
    s.dwellExpire = ((({ s with vote := { s.vote with dwellExpired := true },
                                bench := { s.bench with stopping := true } }).voteEvent 0x1012 .info s.vacantSlot
      (s.dwellNow / 60000000)).voteNote 0x1012 s.bench.cycle s.vacantSlot) := by
  simp [State.dwellExpire, counts, due, running]

theorem execDwellExpiry_due {s : State} (counts : s.dwellCounts = true) (due : s.dwellLimitUs ≤ s.dwellNow)
    (running : s.vote.dwellExpired = false) :
    ∃ t, exec .dwellExpiry s = .next t ∧ t.vote = { s.vote with dwellExpired := true } ∧
      t.bench = { s.bench with stopping := true } ∧
      Recorded s t 0x1012 s.bench.cycle s.vacantSlot (s.dwellNow / 60000000) ∧
      t = { s with vote := t.vote, bench := t.bench, recorder := t.recorder, hi := t.hi, outbox := t.outbox } := by
  refine ⟨_, rfl, ?_⟩
  rw [State.dwellExpire_due counts due running]
  obtain ⟨recorded, only⟩ := State.voteEvent_told
    { s with vote := { s.vote with dwellExpired := true }, bench := { s.bench with stopping := true } } 0x1012 .info
    s.vacantSlot (s.dwellNow / 60000000) 0x1012 s.bench.cycle s.vacantSlot
  refine ⟨?_, ?_, recorded_settle recorded, ?_⟩
  · simp only [State.settle_frame, State.voteNote_frame, State.voteEvent_frame]
  · simp only [State.settle_frame, State.voteNote_frame, State.voteEvent_frame]
  · rw [State.settle_eq, only]

/-! ### The reminder of forcing -/

theorem execForceReminder_due {s : State} (forced : s.bench.forces ≠ []) (due : s.bench.reminderUs ≤ s.opUs) :
    ∃ t, exec .forceReminder s = .next t ∧
      t.bench = { s.bench with reminderUs := s.bench.reminderUs + 600000000 } ∧
      Recorded s t 0x1062 s.bench.forces.length 0 0 ∧
      t = { s with bench := t.bench, recorder := t.recorder, hi := mirrorOf s t } := by
  refine ⟨_, rfl, ?_⟩
  rw [if_pos (by simp [forced, due])]
  refine ⟨by simp only [State.settle_frame, State.event_frame], recorded_settle (State.event_recorded rfl rfl rfl ..), ?_⟩
  rw [State.settle_eq]
  rfl

end Sys2Proof.Machine
end

section
/-! PROOF. The statement about the dwell and the reminder of forcing. -/

namespace Sys2Proof.Proofs

open Sys2Proof Sys2Proof.Machine Sys2Proof.Safety

/-- Settles O35: the two warnings, the warnings made due anew, the limit, and the reminder. That the minutes left are
rounded up is the model's choice (log entry 40). -/
theorem dwellAndReminder : Obligations.DwellAndReminder := by
  unfold Obligations.DwellAndReminder
  refine ⟨?hour, ?tenMinutes, ?ahead, ?limit, ?reminder⟩
  case hour =>
    rintro left s counts rfl before10 within60 untold
    exact execDwellWarning_hour counts before10 within60 untold
  case tenMinutes =>
    rintro left s counts rfl within10 told untold
    exact execDwellWarning_tenMinutes counts within10 told untold
  case ahead =>
    intro s counts ahead
    exact execDwellWarning_ahead counts ahead
  case limit =>
    intro s counts due running
    exact execDwellExpiry_due counts due running
  case reminder =>
    intro s forced due
    exact execForceReminder_due forced due

end Sys2Proof.Proofs
end

section
/-! PROOF. An entry into SAFE with or without a halt code (R193, R206): what it leaves as it is. -/

namespace Sys2Proof.Machine

open Sys2Proof Sys2Proof.Safety

theorem State.discardWork_field (s : State) (keep : Option Req) :
    (s.discardWork keep).field = { s.field with demands := 0 } := by
  simp [State.discardWork, State.deliver_frame, State.voidPrepare_frame, State.takeBack_frame]

theorem State.standDown_field (s : State) (halt : Bool) : (s.standDown halt).field = { s.field with demands := 0 } := by
  simp only [State.standDown, State.dwellPause_frame, State.flushNotes_frame, State.uncycled_frame,
    State.discardWork_field, State.clearForces_frame, State.dropNotes_frame, State.sendHalt_frame, State.ite_field,
    ite_self]

/-- Without a halt code the codes handed to Ashlar stay (R193). -/
theorem State.standDown_codes (s : State) : (s.standDown false).bench.codes = s.bench.codes := by
  simp [State.standDown, State.dwellPause_frame, State.flushNotes_bench_frame, State.uncycled_bench_frame,
    State.discardWork_bench_frame, State.clearForces_bench_frame, State.dropNotes_bench_frame]

/-- The entries into SAFE within 24 operating hours (R211). -/
def State.recentEntries (s : State) : List Nat := s.power.entries.filter fun t => s.opS < t + day

/-- One more entry into SAFE counted (R211). -/
def State.countEntry (s : State) : State := { s with power := { s.power with entries := s.opS :: s.recentEntries } }

/-- SAFE as entered: the stand-down, the power state with its record, the event and its notification (R206, R213). -/
theorem State.enterSafe_entered {s : State} (h : EntersSafe s) (cause : Nat) (halt : Bool) :
    s.enterSafe cause halt =
      (({ s.countEntry.standDown halt with
          power := { (s.countEntry.standDown halt).power with
            state := .safe, ledTest := false, record := some (s.newRecord 3 cause (s.recentEntries.length + 1)),
            readyOff := true } }).event 0x0100 .cl .f3).note 0x0180
        (s.newRecord 3 cause (s.recentEntries.length + 1)).bytes := by
  obtain ⟨from', unlocked, few⟩ := h
  have now : s.enterSafe cause halt = s.enterSafeNow cause halt := by
    rcases from' with run | start | stop
    · simp [State.enterSafe, run]
    · simp [State.enterSafe, start, unlocked start]
    · simp [State.enterSafe, stop]
  rw [now]
  simp only [State.enterSafeNow, State.countEntry, State.recentEntries]
  rw [if_neg (by omega)]

theorem State.enterSafe_enters {s : State} (h : EntersSafe s) (cause : Nat) (halt : Bool) :
    SafeFrom s (s.enterSafe cause halt) cause := by
  obtain ⟨queue, txns, prepares, free⟩ := s.countEntry.standDown_eng halt
  obtain ⟨forces, shown⟩ := s.countEntry.standDown_forces halt
  rw [State.enterSafe_entered h]
  simp only [SafeFrom, State.note_frame, State.event_frame, State.standDown_field]
  exact ⟨trivial, trivial, ⟨_, rfl, rfl, rfl, rfl, rfl⟩, trivial, forces, shown, queue, txns, prepares, free⟩

theorem State.enterSafe_takesBack {s : State} (h : EntersSafe s) (cause : Nat) (halt : Bool) :
    (s.enterSafe cause halt).sec = s.takeBack.sec := by
  rw [State.enterSafe_entered h]
  simp only [State.note_frame, State.event_frame, State.standDown_sec]
  exact State.takeBack_sec_congr rfl rfl

theorem State.enterSafe_field {s : State} (h : EntersSafe s) (cause : Nat) (halt : Bool) :
    (s.enterSafe cause halt).field = { s.field with demands := 0 } := by
  rw [State.enterSafe_entered h]
  simp only [State.note_frame, State.event_frame, State.standDown_field]
  rfl

theorem State.enterSafe_standsDown {s : State} (h : EntersSafe s) (cause : Nat) (halt : Bool) :
    StandsDown s (s.enterSafe cause halt) := by
  unfold StandsDown
  apply State.ext <;> simp only [State.enterSafe_frame, State.enterSafe_field h, State.enterSafe_takesBack h]

theorem safeFrom_settle {s t : State} {cause : Nat} (h : SafeFrom s t cause) : SafeFrom s t.settle cause := by
  simpa only [SafeFrom, State.settle_frame] using h

theorem standsDown_settle {s t : State} (h : StandsDown s t) : StandsDown s t.settle := by
  unfold StandsDown at *
  rw [State.settle_eq, h]

theorem State.enterSafe_codes {s : State} (h : EntersSafe s) (cause : Nat) :
    (s.enterSafe cause false).bench.codes = s.bench.codes := by
  rw [State.enterSafe_entered h]
  simp only [State.note_frame, State.event_frame, State.standDown_codes]
  rfl

theorem State.enterSafe_inboxKept {s : State} (h : EntersSafe s) (cause : Nat) (halt : Bool) :
    InboxKept s (s.enterSafe cause halt) := by
  rw [State.enterSafe_entered h]
  have stood : InboxKept s (s.countEntry.standDown halt) := s.countEntry.standDown_inboxKept halt
  generalize s.countEntry.standDown halt = t at stood ⊢
  exact (stood.event 0x0100 .cl .f3 0 0 0 false).framed (by simp only [State.note_frame]; rfl)

end Sys2Proof.Machine
end

section
/-! PROOF. Phase H: the rotation of its lane tests, its RAM test slices, and a lane that fails (R127, R178). -/

namespace Sys2Proof.Machine

open Sys2Proof Sys2Proof.Safety

/-! ### The order of phase H -/

theorem execPhaseH_due {s : State} {h : PhaseHWork} (run : s.power.state = .run) (thawed : s.bench.frozen = false)
    (due : s.bench.housekept = false) (after : s.phaseOUs ≤ s.opUs) :
    exec (.phaseH h) s = .next (s.phaseH h).settle := by
  simp [exec, execPhaseH, State.inRun, run, thawed, due, after]

/-- The state in which the work of phase H begins: it is not due again in this cycle (R122). -/
def State.housekeeping (s : State) : State := { s with bench := { s.bench with housekept := true } }

/-- Phase H without a pending sync window is the lane test and then, while the module still runs, the RAM test slice. -/
theorem State.phaseH_noSync {s : State} (run : s.power.state = .run) (differ passed lane slice : Bool) :
    s.phaseH ⟨false, differ, passed, lane, slice⟩ =
      (let t := if lane then s.housekeeping.laneTest passed else s.housekeeping
       if t.inRun && slice then t.ramSlice else t) := by
  have runs : s.housekeeping.inRun = true := by simp [State.inRun, State.housekeeping, run]
  change (let t := if s.housekeeping.inRun && lane then s.housekeeping.laneTest passed else s.housekeeping
    if t.inRun && slice then t.ramSlice else t) = _
  rw [runs, Bool.true_and]

/-! ### Lane tests that pass -/

theorem State.laneTest_passed {s : State} (turn : s.vote.laneCheck = none) :
    s.laneTest true = { s with vote := { s.vote with laneTurn := (s.vote.laneTurn + 1) % 4 } } := by
  simp [State.laneTest, turn]

theorem execPhaseH_passed {lane slice : Bool} {s : State} (run : s.power.state = .run) (thawed : s.bench.frozen = false)
    (due : s.bench.housekept = false) (after : s.phaseOUs ≤ s.opUs) (turn : s.vote.laneCheck = none) :
    ∃ t, exec (.phaseH ⟨false, false, true, lane, slice⟩) s = .next t ∧
      t = { s with bench := { s.bench with housekept := true },
                   vote := { s.vote with
                     laneTurn := if lane then (s.vote.laneTurn + 1) % 4 else s.vote.laneTurn
                     ramSlices := if slice then s.vote.ramSlices + 1 else s.vote.ramSlices },
                   hi := mirrorOf s t } := by
  refine ⟨_, execPhaseH_due run thawed due after, ?_⟩
  have passed : s.housekeeping.laneTest true =
      { s.housekeeping with vote := { s.vote with laneTurn := (s.vote.laneTurn + 1) % 4 } } := State.laneTest_passed turn
  rw [State.settle_eq, State.phaseH_noSync run, passed]
  cases lane <;> cases slice <;> simp [State.housekeeping, State.inRun, run, State.ramSlice]

/-! ### A lane that fails -/

/-- The first slot that a lane serves (R161). -/
theorem laneSlot_eq {l1 l2 : List Nat} {lane : Nat} (first : lane ∉ l1) :
    ((withIndex (l1 ++ lane :: l2)).find? fun p => p.1 == lane).map Prod.snd = some l1.length := by
  have before : (l1.zipIdx).find? (fun p => p.1 == lane) = none := by
    refine List.find?_eq_none.mpr fun p hp same => first ?_
    rw [← eq_of_beq same]
    exact List.fst_mem_of_mem_zipIdx hp
  simp [withIndex, List.zipIdx_append, before]

/-- A failing lane reported, with lane 3 recorded for its slot (R178). -/
def State.laneRetired (s : State) (lane slot : Nat) : State :=
  let s1 := s.voteEvent 0x1023 .f3 lane slot
  ({ s1 with vote := { s1.vote with laneCheck := none } }).putRepair fun r => { r with laneMap := r.laneMap.set slot 3 }

theorem State.laneFault_serving {s : State} {l1 l2 : List Nat} {lane : Nat} (lanes : s.vote.lanes = l1 ++ lane :: l2)
    (first : lane ∉ l1) (spare : 3 ∉ s.vote.lanes) :
    s.laneFault lane = (s.laneRetired lane l1.length).enterSafe 0x1023 := by
  have slot : ((withIndex s.vote.lanes).find? fun p => p.1 == lane).map Prod.snd = some l1.length := by
    rw [lanes]
    exact laneSlot_eq first
  have unused : s.vote.lanes.contains 3 = false := by simpa using spare
  simp only [State.laneFault, slot, unused, Bool.false_eq_true, if_false, Option.getD_some]
  rfl

theorem State.laneRetired_repair (s : State) (lane slot : Nat) :
    (s.laneRetired lane slot).repair = { s.repair with laneMap := s.repair.laneMap.set slot 3 } :=
  State.putRepair_repair ..

theorem State.laneRetired_eq (s : State) (lane slot : Nat) :
    s.laneRetired lane slot =
      { s with vote := { s.vote with laneCheck := none }, test := (s.laneRetired lane slot).test,
               recorder := (s.laneRetired lane slot).recorder } := rfl

/-- After a lane test that fails the module is in SAFE, and no RAM test slice follows (R127, R206). -/
theorem State.phaseH_failed {slice : Bool} {l1 l2 : List Nat} {s : State} (run : s.power.state = .run)
    (turn : s.vote.laneCheck = none) (lanes : s.vote.lanes = l1 ++ s.vote.laneTurn :: l2)
    (first : s.vote.laneTurn ∉ l1) (spare : 3 ∉ s.vote.lanes) (enters : EntersSafe s) :
    s.phaseH ⟨false, false, false, true, slice⟩ =
      (s.housekeeping.laneRetired s.vote.laneTurn l1.length).enterSafe 0x1023 := by
  have failed : s.housekeeping.laneTest false =
      (s.housekeeping.laneRetired s.vote.laneTurn l1.length).enterSafe 0x1023 := by
    rw [← State.laneFault_serving (s := s.housekeeping) lanes first spare]
    simp [State.laneTest, State.housekeeping, turn]
  have safe := (State.enterSafe_enters (s := s.housekeeping.laneRetired s.vote.laneTurn l1.length) enters 0x1023 true).1
  rw [State.phaseH_noSync run, failed]
  simp [State.inRun, safe]

theorem execPhaseH_failed {slice : Bool} {l1 l2 : List Nat} {s : State} (run : s.power.state = .run)
    (thawed : s.bench.frozen = false) (due : s.bench.housekept = false) (after : s.phaseOUs ≤ s.opUs)
    (turn : s.vote.laneCheck = none) (lanes : s.vote.lanes = l1 ++ s.vote.laneTurn :: l2)
    (first : s.vote.laneTurn ∉ l1) (spare : 3 ∉ s.vote.lanes) (enters : EntersSafe s) :
    ∃ t, exec (.phaseH ⟨false, false, false, true, slice⟩) s = .next t ∧ SafeFrom s t 0x1023 ∧
      t.repair.laneMap = s.repair.laneMap.set l1.length 3 ∧ t.repair.laneSoft = s.repair.laneSoft ∧
      t.vote.lanes = s.vote.lanes ∧ StandsDown { s with test := t.test } t := by
  refine ⟨_, execPhaseH_due run thawed due after, ?_⟩
  have retired : EntersSafe (s.housekeeping.laneRetired s.vote.laneTurn l1.length) := enters
  have safe := State.enterSafe_enters retired 0x1023 true
  have down := State.enterSafe_standsDown retired 0x1023 true
  have repair := s.housekeeping.laneRetired_repair s.vote.laneTurn l1.length
  have kept := State.enterSafe_frame (s.housekeeping.laneRetired s.vote.laneTurn l1.length) 0x1023 true
  have votes := State.enterSafe_vote_frame (s.housekeeping.laneRetired s.vote.laneTurn l1.length) 0x1023 true
  rw [State.phaseH_failed run turn lanes first spare enters]
  generalize (s.housekeeping.laneRetired s.vote.laneTurn l1.length).enterSafe 0x1023 = t at *
  have test : t.settle.repair = { s.repair with laneMap := s.repair.laneMap.set l1.length 3 } := by
    simp only [State.repair, State.settle_frame, kept]
    exact repair
  refine ⟨safeFrom_settle safe, by rw [test], by rw [test], by simp only [State.settle_frame, votes]; rfl, ?_⟩
  have sec : State.sec (State.takeBack { s with test := t.settle.test }) =
      (s.housekeeping.laneRetired s.vote.laneTurn l1.length).takeBack.sec := State.takeBack_sec_congr rfl rfl
  have stood := standsDown_settle down
  unfold StandsDown at stood ⊢
  rw [sec, stood]
  rfl

end Sys2Proof.Machine
end

section
/-! PROOF. The statement about phase H. -/

namespace Sys2Proof.Proofs

open Sys2Proof Sys2Proof.Machine Sys2Proof.Safety

/-- Settles O22: a phase H whose lane test passes, and one whose lane fails. The rotation over the lanes 0 to 3 is the
model's choice (log entry 41). -/
theorem phaseHTestsLanes : Obligations.PhaseHTestsLanes := by
  unfold Obligations.PhaseHTestsLanes
  refine ⟨?passed, ?failed⟩
  case passed =>
    intro lane slice s run thawed due after turn
    exact execPhaseH_passed run thawed due after turn
  case failed =>
    intro slice l1 l2 s run thawed due after turn lanes first spare enters
    exact execPhaseH_failed run thawed due after turn lanes first spare enters

end Sys2Proof.Proofs
end

section
/-! PROOF. Overruns of the phases (R128 to R131). -/

namespace Sys2Proof.Machine

open Sys2Proof Sys2Proof.Safety

/-! ### A phase E that is stopped -/

/-- The working copy of phase E discarded (R129). -/
def State.discardCopy (s : State) : State := { s with bench := { s.bench with evaluated := true, discard := true } }

theorem State.stopPhaseE_evaluation (s : State) (engine : Nat) :
    s.stopPhaseE .e engine = s.discardCopy.engineExcess engine := if_pos rfl

theorem State.stopPhaseE_other {phase : Phase} (other : phase ≠ .e) (s : State) (engine : Nat) :
    s.stopPhaseE phase engine = s := if_neg other

theorem State.engineExcess_within {s : State} {cycles : Nat}
    (within : cycles ≤ (s.station.map Station.engineCycles).getD 0) : s.engineExcess cycles = s :=
  if_neg (Nat.not_lt.mpr within)

theorem State.engineExcess_beyond {s : State} {cycles : Nat}
    (beyond : (s.station.map Station.engineCycles).getD 0 < cycles) :
    s.engineExcess cycles = s.event 0x1042 .cl .f0 cycles := if_pos beyond

/-- What an overrun leaves of the bench before it is recorded (R129). -/
theorem State.stopPhaseE_bench (s : State) (phase : Phase) (engine : Nat) :
    (s.stopPhaseE phase engine).bench = if phase = .e then s.discardCopy.bench else s.bench := by
  by_cases e : phase = .e
  · simp only [e, State.stopPhaseE_evaluation, State.engineExcess_frame, if_true]
  · simp only [State.stopPhaseE_other e, e, if_false]

/-- Within the engine cycles that the station data allow, a stopped phase reports nothing (R131). -/
theorem State.stopPhaseE_silent {s : State} {phase : Phase} {engine : Nat}
    (within : phase ≠ .e ∨ engine ≤ (s.station.map Station.engineCycles).getD 0) :
    (s.stopPhaseE phase engine).recorder = s.recorder := by
  by_cases e : phase = .e
  · rw [e, State.stopPhaseE_evaluation, State.engineExcess_within (s := s.discardCopy) (within.resolve_left (absurd e))]
    rfl
  · rw [State.stopPhaseE_other e]

theorem State.stopPhaseE_eq (s : State) (phase : Phase) (engine : Nat) :
    s.stopPhaseE phase engine =
      { s with bench := (s.stopPhaseE phase engine).bench, recorder := (s.stopPhaseE phase engine).recorder } := by
  apply State.ext <;> simp only [State.stopPhaseE_frame]

/-! ### An overrun recorded -/

/-- An overrun recorded for its cycle (R130). -/
def State.overrunTold (s : State) (phase : Phase) (cycles engine : Nat) : State :=
  let t := (s.stopPhaseE phase engine).event 0x1040 .cl .f0 s.bench.cycle (phaseNumber phase) cycles
  { t with bench := { t.bench with overran := some s.bench.cycle } }

theorem State.overrun_first {s : State} {phase : Phase} (overdue : s.overdue phase = true)
    (first : ∀ k, s.bench.overran = some k → k ≠ s.bench.cycle ∧ (k + 1) % 2 ^ 32 ≠ s.bench.cycle)
    (cycles engine : Nat) : s.overrun phase cycles engine = s.overrunTold phase cycles engine := by
  have fresh : s.bench.overran ≠ some s.bench.cycle := fun same => (first _ same).1 rfl
  have lone : s.bench.overran.any (fun k => (k + 1) % 2 ^ 32 == s.bench.cycle) = false := by
    rw [Option.any_eq_false]
    exact fun k before => beq_eq_false_iff_ne.mpr (first k before).2
  simp only [State.overrun, overdue, fresh, lone, Bool.not_true, Bool.false_eq_true, if_false]
  rfl

/-- The state that the second overrun in consecutive cycles enters SAFE from: both events reported, no further code. -/
def State.overrunTwice (s : State) (phase : Phase) (cycles engine : Nat) : State :=
  let t := s.overrunTold phase cycles engine
  ({ t with bench := { t.bench with noCode := true } }).event 0x1041 .cl .f3

/-- The second overrun in consecutive cycles: no further code, and an F3 cause (R130). -/
theorem State.overrun_second {s : State} {phase : Phase} {k : Nat} (overdue : s.overdue phase = true)
    (before : s.bench.overran = some k) (next : s.bench.cycle = (k + 1) % 2 ^ 32) (other : k ≠ s.bench.cycle)
    (cycles engine : Nat) :
    s.overrun phase cycles engine = (s.overrunTwice phase cycles engine).enterSafe 0x1041 false := by
  have fresh : s.bench.overran ≠ some s.bench.cycle := by
    rw [before]
    exact fun same => other (Option.some.inj same)
  have again : s.bench.overran.any (fun k => (k + 1) % 2 ^ 32 == s.bench.cycle) = true := by simp [before, next]
  simp only [State.overrun, overdue, fresh, again, Bool.not_true, Bool.false_eq_true, if_false, if_true]
  rfl

theorem State.overrun_none {s : State} {phase : Phase} (intime : s.overdue phase = false) (cycles engine : Nat) :
    s.overrun phase cycles engine = s := by
  simp [State.overrun, intime]

theorem State.overrunTold_bench (s : State) (phase : Phase) (cycles engine : Nat) :
    (s.overrunTold phase cycles engine).bench =
      { (if phase = .e then s.discardCopy else s).bench with overran := some s.bench.cycle } := by
  simp only [State.overrunTold, State.event_frame, State.stopPhaseE_bench, State.ite_bench]

theorem State.overrunTold_eq (s : State) (phase : Phase) (cycles engine : Nat) :
    s.overrunTold phase cycles engine =
      { s with bench := (s.overrunTold phase cycles engine).bench,
               recorder := (s.overrunTold phase cycles engine).recorder } := by
  simp only [State.overrunTold]
  rw [State.stopPhaseE_eq]
  rfl

theorem State.overrunTwice_eq (s : State) (phase : Phase) (cycles engine : Nat) :
    s.overrunTwice phase cycles engine =
      { s with bench := (s.overrunTwice phase cycles engine).bench,
               recorder := (s.overrunTwice phase cycles engine).recorder } := by
  simp only [State.overrunTwice]
  rw [State.overrunTold_eq]
  rfl

/-- What the second overrun leaves of the bench: no further code, the codes and the undo of the cycle as they were. -/
theorem State.overrunTwice_bench (s : State) (phase : Phase) (cycles engine : Nat) :
    (s.overrunTwice phase cycles engine).bench.noCode = true ∧
      (s.overrunTwice phase cycles engine).bench.codes = s.bench.codes ∧
      (s.overrunTwice phase cycles engine).bench.undo = s.bench.undo := by
  simp only [State.overrunTwice, State.event_frame, State.overrunTold_bench]
  split <;> exact ⟨trivial, rfl, rfl⟩

theorem State.overrunTold_recorded {s : State} {phase : Phase} {engine : Nat}
    (within : phase ≠ .e ∨ engine ≤ (s.station.map Station.engineCycles).getD 0) (cycles : Nat) :
    Recorded s (s.overrunTold phase cycles engine) 0x1040 s.bench.cycle (phaseNumber phase) cycles := by
  refine recorded_framed (State.event_recorded (State.stopPhaseE_silent within) ?_ ?_ ..) rfl
  · simp only [State.stopPhaseE_frame]
  · simp only [State.stopPhaseE_frame]

theorem State.overrunTwice_inbox {s : State} {phase : Phase} {engine : Nat}
    (within : phase ≠ .e ∨ engine ≤ (s.station.map Station.engineCycles).getD 0) (cycles : Nat) :
    ∃ r q, (s.overrunTwice phase cycles engine).recorder.inbox = s.recorder.inbox ++ [r, q] ∧ r.code = 0x1040 ∧
      r.p0 = word s.bench.cycle ∧ r.p1 = word (phaseNumber phase) ∧ r.p2 = word cycles ∧ q.code = 0x1041 := by
  obtain ⟨r, told, code, p0, p1, p2, -, -⟩ := State.overrunTold_recorded within cycles
  have again : Recorded (s.overrunTold phase cycles engine) (s.overrunTwice phase cycles engine) 0x1041 0 0 0 :=
    State.event_recorded rfl rfl rfl ..
  obtain ⟨q, twice, second, -⟩ := again
  exact ⟨r, q, by rw [twice, told, List.append_assoc]; rfl, code, p0, p1, p2, second⟩

/-- The excess of engine cycles of a stopped phase E is reported before its overrun (R130, R131). -/
theorem State.overrunTold_excess {s : State} {engine : Nat}
    (beyond : (s.station.map Station.engineCycles).getD 0 < engine) (cycles : Nat) :
    FirstReport s (s.overrunTold .e cycles engine) 0x1042 engine 0 0 ∧
      LastReport (s.overrunTold .e cycles engine) 0x1040 s.bench.cycle 1 cycles := by
  have stopped : s.stopPhaseE .e engine = s.discardCopy.event 0x1042 .cl .f0 engine := by
    rw [State.stopPhaseE_evaluation, State.engineExcess_beyond (s := s.discardCopy) beyond]
  refine ⟨?_, ?_⟩
  · simp only [FirstReport, State.overrunTold, stopped, State.event_recorder, List.append_assoc]
    exact ⟨_, _, rfl, rfl, rfl, rfl, rfl⟩
  · simp only [LastReport, State.overrunTold, stopped, State.event_recorder]
    exact ⟨_, List.getLast?_concat, rfl, rfl, rfl, rfl⟩

/-! ### BENCH_OVERRUN -/

theorem execBenchOverrun_run {s : State} (run : s.power.state = .run) (phase : Phase) (cycles engine : Nat) :
    exec (.benchOverrun phase cycles engine) s = .next (s.overrun phase cycles engine).settle :=
  congrArg (fun u : State => Host.Outcome.next u.settle) (State.timed_run run _)

theorem execBenchOverrun_first {phase : Phase} {cycles engine : Nat} {s : State} (run : s.power.state = .run)
    (overdue : s.overdue phase = true)
    (first : ∀ k, s.bench.overran = some k → k ≠ s.bench.cycle ∧ (k + 1) % 2 ^ 32 ≠ s.bench.cycle) :
    ∃ t, exec (.benchOverrun phase cycles engine) s = .next t ∧ t.bench.overran = some s.bench.cycle ∧
      (phase = .e ∧ ((s.station.map Station.engineCycles).getD 0) < engine →
        FirstReport s t 0x1042 engine 0 0 ∧ LastReport t 0x1040 s.bench.cycle 1 cycles) ∧
      (phase ≠ .e ∨ engine ≤ ((s.station.map Station.engineCycles).getD 0) →
        Recorded s t 0x1040 s.bench.cycle (phaseNumber phase) cycles) ∧
      (phase = .e → t.bench = { s.bench with overran := some s.bench.cycle, evaluated := true, discard := true }) ∧
      (phase ≠ .e → t.bench = { s.bench with overran := some s.bench.cycle }) ∧
      t = { s with bench := t.bench, recorder := t.recorder, hi := mirrorOf s t } := by
  refine ⟨_, execBenchOverrun_run run .., ?_⟩
  rw [State.overrun_first overdue first]
  have bench : (s.overrunTold phase cycles engine).settle.bench =
      { (if phase = .e then s.discardCopy else s).bench with overran := some s.bench.cycle } := by
    simp only [State.settle_frame, State.overrunTold_bench]
  refine ⟨by rw [bench], ?_, fun within => recorded_settle (State.overrunTold_recorded within cycles), ?_, ?_, ?_⟩
  · rintro ⟨rfl, beyond⟩
    simpa only [FirstReport, LastReport, State.settle_frame] using State.overrunTold_excess beyond cycles
  · intro e
    rw [bench, if_pos e]
    rfl
  · intro other
    rw [bench, if_neg other]
  · rw [State.settle_eq, State.overrunTold_eq]

theorem execBenchOverrun_second {phase : Phase} {cycles engine k : Nat} {s : State} (overdue : s.overdue phase = true)
    (before : s.bench.overran = some k) (next : s.bench.cycle = (k + 1) % 2 ^ 32) (other : k ≠ s.bench.cycle)
    (run : s.power.state = .run) (enters : EntersSafe s)
    (within : phase = .e → engine ≤ ((s.station.map Station.engineCycles).getD 0)) :
    ∃ t, exec (.benchOverrun phase cycles engine) s = .next t ∧ SafeFrom s t 0x1041 ∧ t.bench.noCode = true ∧
      FirstReport s t 0x1040 s.bench.cycle (phaseNumber phase) cycles ∧ (∃ r ∈ t.recorder.inbox, r.code = 0x1041) ∧
      t.bench.codes = s.bench.codes ∧ t.ash = s.ash ∧ t.sec = s.takeBack.sec ∧ t.station = s.station ∧ t.log = s.log := by
  refine ⟨_, execBenchOverrun_run run .., ?_⟩
  rw [State.overrun_second overdue before next other]
  have twice := s.overrunTwice_eq phase cycles engine
  obtain ⟨noCode, codes, undo⟩ := s.overrunTwice_bench phase cycles engine
  obtain ⟨r, q, inbox, code, p0, p1, p2, second⟩ := State.overrunTwice_inbox (not_or_of_imp within) cycles
  generalize s.overrunTwice phase cycles engine = u at *
  have power : u.power = s.power := by rw [twice]
  have opS : u.opS = s.opS := by rw [twice]; rfl
  have enters' : EntersSafe u := by simpa only [EntersSafe, power, opS] using enters
  have safe : SafeFrom s (u.enterSafe 0x1041 false) 0x1041 := by
    simpa only [SafeFrom, power] using State.enterSafe_enters enters' 0x1041 false
  have sec : u.takeBack.sec = s.takeBack.sec := State.takeBack_sec_congr (by rw [twice]) undo
  obtain ⟨rest, kept⟩ := State.enterSafe_inboxKept enters' 0x1041 false
  rw [inbox, List.append_assoc] at kept
  refine ⟨safeFrom_settle safe, ?_, ⟨r, q :: rest, ?_, code, p0, p1, p2⟩, ⟨q, ?_, second⟩, ?_⟩
  · simp only [State.settle_frame, State.enterSafe_bench_frame, noCode]
  · simp only [State.settle_frame, ← kept, List.cons_append, List.nil_append]
  · simp [State.settle_frame, ← kept]
  · simp only [State.settle_frame, State.enterSafe_codes enters', codes, State.enterSafe_takesBack enters', sec,
      State.enterSafe_frame, true_and]
    exact ⟨by rw [twice], by rw [twice], by rw [twice]⟩

theorem execBenchOverrun_inTime {phase : Phase} {cycles engine : Nat} {s : State} (inTime : s.overdue phase = false) :
    ∃ t, exec (.benchOverrun phase cycles engine) s = .next t ∧ t = { s with hi := mirrorOf s t } := by
  have same : s.timed (fun s => s.overrun phase cycles engine) = s := by
    rw [State.timed, State.overrun_none inTime, ite_self]
  refine ⟨s.settle, congrArg (fun u : State => Host.Outcome.next u.settle) same, s.settle_eq⟩

end Sys2Proof.Machine
end

section
/-! PROOF. The statement about overruns. -/

namespace Sys2Proof.Proofs

open Sys2Proof Sys2Proof.Machine Sys2Proof.Safety

/-- Settles O23: a first overrun is recorded, after the excess of engine cycles of a stopped phase E (R129, R131); a second
one in consecutive cycles leads to SAFE; in time nothing happens. One record per cycle and none before the limit are the
model's choices (log entries 47 and 4). -/
theorem overrunsDiscardAndStop : Obligations.OverrunsDiscardAndStop := by
  unfold Obligations.OverrunsDiscardAndStop
  refine ⟨?first, ?second, ?inTime⟩
  case first =>
    intro phase cycles engine s run overdue first
    exact execBenchOverrun_first run overdue first
  case second =>
    intro phase cycles engine k s overdue before next other run enters within
    exact execBenchOverrun_second overdue before next other run enters within
  case inTime =>
    intro phase cycles engine s inTime
    exact execBenchOverrun_inTime inTime

end Sys2Proof.Proofs
end

section
/-! PROOF. What the module holds for one node: a node that has fallen silent (R137, R138), and the adaptive time-outs
(R298). -/

namespace Sys2Proof.Machine

open Sys2Proof Sys2Proof.Safety

/-! ### One node -/

theorem State.nodeDyn_id {s : State} {id : Nat} {d : NodeDyn} (h : s.nodeDyn id = some d) : d.id = id :=
  eq_of_beq (List.find?_some (p := fun n : NodeDyn => n.id == id) h)

theorem State.node_id {s : State} {id : Nat} {n : Node} (h : s.node id = some n) : n.id = id :=
  eq_of_beq (List.find?_some (p := fun n : Node => n.id == id) h)

/-- A change of a node's record that leaves its ID shows in that record alone. -/
theorem State.modNode_nodeDyn {f : NodeDyn → NodeDyn} (same : ∀ d, (f d).id = d.id) (s : State) (id j : Nat) :
    (s.modNode id f).nodeDyn j = (s.nodeDyn j).map fun d => if d.id == id then f d else d := by
  have ids : ((fun d : NodeDyn => d.id == j) ∘ fun d => if d.id == id then f d else d) = fun d => d.id == j := by
    funext d
    by_cases hit : d.id = id <;> simp [hit, same]
  rw [State.nodeDyn, State.nodeDyn, State.modNode, List.find?_map, ids]

theorem State.modNode_nodeDyn_same {f : NodeDyn → NodeDyn} (same : ∀ d, (f d).id = d.id) {s : State} {id : Nat}
    {d : NodeDyn} (h : s.nodeDyn id = some d) : (s.modNode id f).nodeDyn id = some (f d) := by
  simp [State.modNode_nodeDyn same, h, State.nodeDyn_id h]

theorem State.modNode_nodeDyn_of_ne {f : NodeDyn → NodeDyn} (same : ∀ d, (f d).id = d.id) {id j : Nat} (other : j ≠ id)
    (s : State) : (s.modNode id f).nodeDyn j = s.nodeDyn j := by
  rw [State.modNode_nodeDyn same]
  cases held : s.nodeDyn j with
  | none => rfl
  | some d => simp [State.nodeDyn_id held, other]

/-! ### A node found silent -/

/-- A node dropped at the freeze (R137, R138). -/
def NodeDyn.lapsed (d : NodeDyn) (now : Nat) : NodeDyn := { d with dropped := true, droppedUs := now, fresh := false }

/-- A silent node is dropped with event 0x5020 and a notification (R137, R353). -/
theorem State.judgeNode_late {s : State} {n : Node} {d : NodeDyn} (run : s.power.state = .run)
    (held : s.nodeDyn n.id = some d) (late : s.nodeLate d = true) (up : d.dropped = false) :
    (s.judgeNode n).nodeDyn n.id = some (d.lapsed s.bench.freezeUs) ∧
      (∃ r, (s.judgeNode n).recorder.inbox = s.recorder.inbox ++ [r] ∧ r.code = 0x5020 ∧ r.p0 = word n.id) ∧
      s.judgeNode n = { s with bench := (s.judgeNode n).bench, net := (s.judgeNode n).net,
                               recorder := (s.judgeNode n).recorder } := by
  simp only [State.judgeNode, held, late, up, Bool.not_false, Bool.and_self, if_true, State.nodeNote]
  rw [State.noteCluster_run (by simp [State.event_frame, State.modNode_frame, run])]
  refine ⟨?_, ⟨_, rfl, rfl, rfl⟩, rfl⟩
  have marked := State.modNode_nodeDyn_same (fun _ => rfl) held (f := fun x => { x with
    fresh := !s.segmentOff n && s.freshAfter d
    droppedUs := if s.segmentOff n then s.bench.freezeUs else x.droppedUs })
  have lapsed := State.modNode_nodeDyn_same (fun _ => rfl) marked (f := fun x => x.lapsed s.bench.freezeUs)
  exact lapsed

/-! ### The elements of a silent node -/

/-- An element marked as its node now stands (R138). -/
def State.remark (s : State) (i : Nat) : State :=
  match s.elem i with
  | some e => s.markElement i e
  | none => s

/-- Elements frozen again as their node now stands (R138). -/
def State.refreeze (s : State) (mine : List Nat) : State :=
  mine.foldl State.watchFreeze (mine.foldl State.freezeElement (mine.foldl State.remark s))

theorem State.remark_eq (s : State) (i : Nat) : s.remark i = { s with eng := (s.remark i).eng } := by
  unfold State.remark
  split
  · apply State.ext <;> simp only [State.markElement_frame]
  · rfl

/-- Elements frozen again change the engine alone. -/
theorem State.refreeze_eq (s : State) (mine : List Nat) : s.refreeze mine = { s with eng := (s.refreeze mine).eng } := by
  have marked : mine.foldl State.remark s = { s with eng := (mine.foldl State.remark s).eng } :=
    List.foldlRecOn (motive := fun t : State => t = { s with eng := t.eng }) mine State.remark rfl fun t only i _ => by
      rw [State.remark_eq, only]
  unfold State.refreeze
  generalize mine.foldl State.remark s = t at marked ⊢
  rw [marked]
  apply State.ext <;> simp [State.watchFreeze_frame, State.freezeElement_frame]

theorem execNodeDropout_late {id : Nat} {n : Node} {d : NodeDyn} {s : State} (run : s.power.state = .run)
    (node : s.node id = some n) (held : s.nodeDyn id = some d) (late : s.nodeLate d = true) (up : d.dropped = false) :
    exec (.nodeDropout id) s =
      .next ((s.judgeNode n).refreeze ((s.objectsOf id).map Prod.snd)).tellFaults.settle := by
  refine congrArg (fun u : State => Host.Outcome.next u.settle) ((State.timed_run run _).trans ?_)
  simp only [node, held, late, up, Bool.not_false, Bool.and_self, if_true]
  rfl

theorem execNodeDropout_drops {id : Nat} {n : Node} {d : NodeDyn} {s : State} (run : s.power.state = .run)
    (node : s.node id = some n) (held : s.nodeDyn id = some d) (late : s.nodeLate d = true) (up : d.dropped = false) :
    ∃ t d', exec (.nodeDropout id) s = .next t ∧ t.nodeDyn id = some d' ∧ d'.dropped = true ∧
      d'.droppedUs = s.bench.freezeUs ∧ d'.fresh = false ∧
      (∃ r, t.recorder.inbox = s.recorder.inbox ++ [r] ∧ r.code = 0x5020 ∧ r.p0 = word id) ∧
      t = { s with bench := t.bench, eng := t.eng, net := t.net, recorder := t.recorder, hi := t.hi, outbox := t.outbox } := by
  obtain rfl := State.node_id node
  obtain ⟨lapsed, recorded, judged⟩ := State.judgeNode_late run held late up
  have refrozen := (s.judgeNode n).refreeze_eq ((s.objectsOf n.id).map Prod.snd)
  refine ⟨_, d.lapsed s.bench.freezeUs, execNodeDropout_late run node held late up, ?_⟩
  generalize (s.judgeNode n).refreeze ((s.objectsOf n.id).map Prod.snd) = u at *
  generalize s.judgeNode n = v at *
  have told := (State.tellFaults_told (s := u) (by rw [refrozen, judged]; exact run)).2
  have net : u.tellFaults.settle.net = v.net := by simp only [State.settle_frame, State.tellFaults_frame]; rw [refrozen]
  have recorder : u.tellFaults.settle.recorder = v.recorder := by
    simp only [State.settle_frame, State.tellFaults_frame]; rw [refrozen]
  refine ⟨by rw [State.nodeDyn, net]; exact lapsed, rfl, rfl, rfl, by rw [recorder]; exact recorded, ?_⟩
  rw [State.settle_eq, told, refrozen, judged]

/-! ### Adaptive time-outs -/

/-- A node's time-out from its rank interval, within the limits of its entry (R298; cut to whole 0.1 ms, log entry 33). -/
def NodeDyn.measuredBy (d : NodeDyn) (n : Node) : NodeDyn :=
  { d with
    p999 := d.rankInterval, measured := true
    timeout := Nat.min (n.toMax * 10) (Nat.max (n.toMin * 10) (3 * d.rankInterval / 2)) }

theorem State.recompute_nodeDyn_same {s : State} {n : Node} {d : NodeDyn} (held : s.nodeDyn n.id = some d)
    (enough : 200 ≤ d.intervals.length) : (s.recompute n).nodeDyn n.id = some (d.measuredBy n) := by
  rw [State.recompute, State.modNode_nodeDyn_same (fun d => by split <;> rfl) held, if_pos enough]
  rfl

theorem State.recompute_nodeDyn_of_ne {n : Node} {id : Nat} (other : id ≠ n.id) (s : State) :
    (s.recompute n).nodeDyn id = s.nodeDyn id :=
  State.modNode_nodeDyn_of_ne (fun d => by split <;> rfl) other s

theorem State.recomputes_nodeDyn_of_ne {l : List Node} {id : Nat} (others : ∀ n ∈ l, id ≠ n.id) (s : State) :
    (l.foldl State.recompute s).nodeDyn id = s.nodeDyn id :=
  List.foldlRecOn (motive := fun t : State => t.nodeDyn id = s.nodeDyn id) l _ rfl fun t same n listed =>
    (t.recompute_nodeDyn_of_ne (others n listed)).trans same

/-- The one entry of the node table with an ID gives its node the new time-out. -/
theorem State.recomputes_nodeDyn {l : List Node} {s : State} {n : Node} {id : Nat} {d : NodeDyn}
    (only : l.filter (fun x => x.id == id) = [n]) (held : s.nodeDyn id = some d) (enough : 200 ≤ d.intervals.length) :
    (l.foldl State.recompute s).nodeDyn id = some (d.measuredBy n) := by
  obtain ⟨l1, l2, rfl, before, own, after⟩ := List.filter_eq_cons_iff.mp only
  obtain rfl : n.id = id := eq_of_beq own
  rw [List.foldl_append, List.foldl_cons, State.recomputes_nodeDyn_of_ne]
  · exact State.recompute_nodeDyn_same (by rw [State.recomputes_nodeDyn_of_ne]
                                           · exact held
                                           · exact fun x hx same => before x hx (by simp [same])) enough
  · exact fun x hx same => List.filter_eq_nil_iff.mp after x hx (by simp [same])

theorem State.recomputes_eq (l : List Node) (s : State) :
    l.foldl State.recompute s = { s with net := { s.net with nodes := (l.foldl State.recompute s).net.nodes } } :=
  List.foldlRecOn (motive := fun t : State => t = { s with net := { s.net with nodes := t.net.nodes } }) l _ rfl
    fun t only n _ => by
      rw [State.recompute, State.modNode, only]

theorem execNodeTimeoutRecompute_due {id : Nat} {n : Node} {d : NodeDyn} {s : State} (run : s.power.state = .run)
    (thawed : s.bench.frozen = false) (after : s.phaseOUs ≤ s.opUs) (due : s.net.recomputeUs ≤ s.opUs)
    (only : s.nodeTable.filter (fun x => x.id == id) = [n]) (held : s.nodeDyn id = some d)
    (enough : 200 ≤ d.intervals.length) :
    ∃ t, exec .nodeTimeoutRecompute s = .next t ∧ t.nodeDyn id = some (d.measuredBy n) ∧
      t = { s with net := { s.net with nodes := t.net.nodes, recomputeUs := s.opUs + 1000000 }, hi := mirrorOf s t } := by
  have ran : exec .nodeTimeoutRecompute s = .next (s.nodeTable.foldl State.recompute
      { s with net := { s.net with recomputeUs := s.opUs + 1000000 } }).settle := by
    refine congrArg (fun u : State => Host.Outcome.next u.settle) ((State.timed_run run _).trans (if_pos ?_))
    simp [thawed, after, due]
  refine ⟨_, ran, ?_, ?_⟩
  · simp only [State.nodeDyn, State.settle_frame]
    exact State.recomputes_nodeDyn only held enough
  · rw [State.settle_eq, State.recomputes_eq]

end Sys2Proof.Machine
end

section
/-! PROOF. The statement about nodes. -/

namespace Sys2Proof.Proofs

open Sys2Proof Sys2Proof.Machine Sys2Proof.Safety

/-- Settles O25: a silent node is dropped before its elements are frozen again (R137, R138), and a node with 200 intervals
gets its time-out from the one entry of its ID (R298). Half a rank interval cut to whole 0.1 ms is the model's choice (log
entry 33). -/
theorem nodeSupervision : Obligations.NodeSupervision := by
  unfold Obligations.NodeSupervision
  refine ⟨?silent, ?adapts⟩
  case silent =>
    intro id n d s run node held late up
    exact execNodeDropout_drops run node held late up
  case adapts =>
    intro id n d s run thawed after due only held enough
    exact execNodeTimeoutRecompute_due run thawed after due only held enough

end Sys2Proof.Proofs
end

section
/-! PROOF. Phase O: what it hands over, the cycle code, and its end (R126, R129, R190). -/

namespace Sys2Proof.Machine

open Sys2Proof Sys2Proof.Safety

/-! ### The order of phase O -/

/-- What phase O hands over of a discarded working copy: refresh telegrams only (R129). -/
def State.discardedO (s : State) : State := s.showForcing.buildTelegrams s.bench.cycle false

/-- The working copy committed, with the demands for the field link (R126). -/
def State.committedO (s : State) : State :=
  let t := s.showForcing.commitDemands
  { t with field := { t.field with demands := t.outputWord } }

/-- What phase O hands over: the committed copy, telegrams, the constants' entries, completions, notifications (R126). -/
def State.handedO (s : State) : State := ((s.committedO.buildTelegrams s.bench.cycle true).logConstants).handOver

/-- The bench after the phase O of a cycle. -/
def Bench.ended (b : Bench) (cycle : Nat) : Bench :=
  { b with frozen := false, evaluated := false, lastO := cycle, undo := none }

/-- The cycle code, the end of the cycle and the mirror (R126, R219). -/
def State.endPhaseO (s : State) (cycle : Nat) (samples : List Word) : State :=
  ({ s.deliverCode with bench := s.deliverCode.bench.ended cycle }).mirror samples

theorem State.endPhaseO_eq (s : State) (cycle : Nat) (samples : List Word) :
    s.endPhaseO cycle samples =
      { s with bench := s.deliverCode.bench.ended cycle, hi := (s.endPhaseO cycle samples).hi,
               recorder := (s.endPhaseO cycle samples).recorder } := by
  apply State.ext <;> simp only [State.endPhaseO, State.mirror_frame, State.deliverCode_frame]

/-- The bench ends after phase O only where something asked for it (R174, R340). -/
theorem State.phaseO_eq (s : State) (samples : List Word) :
    s.phaseO samples =
      (let t := (if s.bench.discard then s.discardedO else s.handedO).endPhaseO s.bench.cycle samples
       if t.bench.stopping then t.enterStop t.stopRequest else t).refreshDiag := rfl

theorem State.deliverCode_bench (s : State) :
    s.deliverCode.bench = { s.bench with codes := s.deliverCode.bench.codes } := by
  unfold State.deliverCode
  split <;> rfl

theorem State.deliverCode_length (s : State) :
    s.deliverCode.bench.codes.length = s.bench.codes.length + (if s.bench.noCode then 0 else 1) := by
  unfold State.deliverCode
  split <;> simp

theorem State.deliverCode_cycle {s : State} (codes : s.bench.noCode = false) :
    s.deliverCode.bench.codes = s.bench.codes ++ [.cycle (cycleCodeWord (BitVec.ofNat 8 (s.tBenchUs / 1000))
      (BitVec.ofNat 8 s.bench.cycle) (response s.bench.challenge)) s.demandWord] := by
  simp [State.deliverCode, codes]

/-- Where nothing asked for the end of the bench, phase O is its hand-over and its end. -/
theorem State.phaseO_stays {s t : State} (handed : (if s.bench.discard then s.discardedO else s.handedO) = t)
    (stays : t.bench.stopping = false) (samples : List Word) :
    s.phaseO samples = (t.endPhaseO s.bench.cycle samples).refreshDiag := by
  have goesOn : (t.endPhaseO s.bench.cycle samples).bench.stopping = false := by
    rw [State.endPhaseO_eq, State.deliverCode_bench]
    exact stays
  simp only [State.phaseO_eq, handed, goesOn, Bool.false_eq_true, if_false]

theorem execPhaseO_due {s : State} {samples : List Word} (run : s.power.state = .run) (frozen : s.bench.frozen = true)
    (evaluated : s.bench.evaluated = true) (due : s.phaseOUs ≤ s.opUs) :
    exec (.phaseO samples) s = .next (s.phaseO samples).settle := by
  simp [exec, execPhaseO, State.inRun, run, frozen, evaluated, due]

/-- Where nothing asked for the end of the bench, PHASE_O leaves the hand-over with the cycle ended, the code delivered,
the mirror refreshed and the diagnostics copies taken. -/
theorem execPhaseO_ends {s u : State} (run : s.power.state = .run) (frozen : s.bench.frozen = true)
    (evaluated : s.bench.evaluated = true) (due : s.phaseOUs ≤ s.opUs)
    (handed : (if s.bench.discard then s.discardedO else s.handedO) = u) (stays : u.bench.stopping = false)
    (samples : List Word) :
    ∃ t, exec (.phaseO samples) s = .next t ∧ t.bench = u.deliverCode.bench.ended s.bench.cycle ∧
      t = { u with bench := t.bench, recorder := t.recorder, diag := t.diag, hi := t.hi } := by
  refine ⟨_, execPhaseO_due run frozen evaluated due, ?_⟩
  rw [State.phaseO_stays handed stays, State.settle_eq, State.refreshDiag_eq, State.endPhaseO_eq]
  exact ⟨rfl, rfl⟩

/-! ### A discarded working copy -/

theorem State.discardedO_eq (s : State) :
    s.discardedO = { s with bench := s.showForcing.bench, net := s.discardedO.net, can := s.discardedO.can,
                            draws := s.discardedO.draws, outbox := s.discardedO.outbox } := by
  apply State.ext <;> simp only [State.discardedO, State.buildTelegrams_frame, State.showForcing_frame]

theorem execPhaseO_discards {samples : List Word} {s : State} (run : s.power.state = .run)
    (frozen : s.bench.frozen = true) (evaluated : s.bench.evaluated = true) (due : s.phaseOUs ≤ s.opUs)
    (discard : s.bench.discard = true) (stays : s.bench.stopping = false) :
    ∃ t, exec (.phaseO samples) s = .next t ∧ t.eng = s.eng ∧ t.field = s.field ∧ t.mg = s.mg ∧
      t.bench.completions = s.bench.completions ∧ t.bench.notes = s.bench.notes ∧ t.bench.lastO = s.bench.cycle ∧
      t.bench.frozen = false ∧ t.bench.codes.length = s.bench.codes.length + (if s.bench.noCode then 0 else 1) ∧
      t = { s with bench := t.bench, net := t.net, can := t.can, draws := t.draws, recorder := t.recorder,
                   diag := t.diag, hi := t.hi, outbox := t.outbox } := by
  have handed : s.discardedO.bench = s.showForcing.bench := by rw [State.discardedO_eq]
  obtain ⟨t, ran, bench, rest⟩ := execPhaseO_ends run frozen evaluated due (if_pos discard)
    (by rw [handed]; exact stays) samples
  have length := s.discardedO.deliverCode_length
  rw [State.discardedO_eq] at rest
  rw [handed] at length
  rw [State.deliverCode_bench, handed] at bench
  refine ⟨t, ran, by rw [rest], by rw [rest], by rw [rest], by rw [bench]; rfl, by rw [bench]; rfl, by rw [bench]; rfl,
    by rw [bench]; rfl, by rw [bench]; exact length, by rw [rest]⟩

end Sys2Proof.Machine
end

section
/-! PROOF. The statement about the phase O of an overrun cycle. -/

namespace Sys2Proof.Proofs

open Sys2Proof Sys2Proof.Machine Sys2Proof.Safety

/-- Settles O21: without a hand-over phase O is refresh telegrams, the cycle code and the end of the cycle (R129). -/
theorem phaseODiscards : Obligations.PhaseODiscards := by
  unfold Obligations.PhaseODiscards
  intro samples s run frozen evaluated due discard stays
  exact execPhaseO_discards run frozen evaluated due discard stays

end Sys2Proof.Proofs
end

section
/-! PROOF. The hand-over of phase O: demands and transactions committed, the change log, completions and notifications
delivered (R126, R153). -/

namespace Sys2Proof.Machine

open Sys2Proof Sys2Proof.Safety

/-! ### Commits -/

theorem State.commitDemands_txns (s : State) : ∀ x ∈ s.commitDemands.eng.txns, x.commitUs.isSome = true := by
  intro x hx
  simp only [State.commitDemands, List.mem_map] at hx
  obtain ⟨y, -, rfl⟩ := hx
  cases y.commitUs <;> rfl

theorem State.commitDemands_prepares (s : State) : ∀ p ∈ s.commitDemands.eng.prepares, p.doneUs.isSome = true := by
  intro p hp
  simp only [State.commitDemands, List.mem_map] at hp
  obtain ⟨q, -, rfl⟩ := hp
  cases q.doneUs <;> rfl

/-! ### The change log -/

theorem State.constantLogged_length {s : State} (room : s.log.length < logCapacity) (e : LogEntry) :
    (s.constantLogged e).log.length = s.log.length + 1 := by
  have open' : s.logRoom 1 = true := by simpa [State.logRoom] using room
  simp [State.constantLogged, State.logChange, open', State.event_frame]

theorem State.foldl_constantLogged_length (l : List LogEntry) {s : State}
    (room : s.log.length + l.length ≤ logCapacity) :
    (l.foldl State.constantLogged s).log.length = s.log.length + l.length := by
  induction l generalizing s with
  | nil => rfl
  | cons e l ih =>
    rw [List.length_cons] at room
    have one := State.constantLogged_length (s := s) (by omega) e
    rw [List.foldl_cons, ih (by omega), one, List.length_cons]
    omega

/-- A log with room takes an entry for each constant set in the cycle (R153). -/
theorem State.logConstants_length {s : State} (room : s.log.length + s.bench.newLog.length ≤ logCapacity) :
    s.logConstants.log.length = s.log.length + s.bench.newLog.length :=
  State.foldl_constantLogged_length s.bench.newLog (s := { s with bench := { s.bench with newLog := [] } }) room

@[simp] theorem State.logConstants_bench (s : State) : s.logConstants.bench = { s.bench with newLog := [] } := by
  simp [State.logConstants, State.constantLogged_frame]

/-! ### Completions and notifications -/

theorem State.flushNotes_eq (s : State) :
    s.flushNotes = { s with bench := { s.bench with notes := [] }, hi := s.flushNotes.hi,
                            outbox := s.flushNotes.outbox } := by
  apply State.ext <;> simp [State.flushNotes, State.deliverNote_frame]

/-- From `s` to `t` completions were delivered: the management core's list of requests and the transports changed. -/
def Delivered (s t : State) : Prop := t = { s with mg := t.mg, hi := t.hi, outbox := t.outbox }

theorem Delivered.deliver {s t : State} (h : Delivered s t) (r : Response) : Delivered s (t.deliver r) := by
  unfold Delivered at *
  apply State.ext <;> simp only [State.deliver_frame]
  all_goals rw [h]

theorem State.deliverAll_eq (s : State) (l : List Response) :
    l.foldl State.deliver s = { s with mg := (l.foldl State.deliver s).mg, hi := (l.foldl State.deliver s).hi,
                                       outbox := (l.foldl State.deliver s).outbox } :=
  List.foldlRecOn (motive := Delivered s) l State.deliver rfl fun _ h r _ => h.deliver r

/-- From `s` to `t` routes were notified in RUN: what each last told and the notifications of the cycle changed. -/
def RoutesTold (s t : State) : Prop :=
  t = { s with bench := { s.bench with notes := t.bench.notes }, eng := { s.eng with routes := t.eng.routes } }

theorem RoutesTold.routeNote {s t : State} (run : s.power.state = .run) (h : RoutesTold s t) (n : Nat) :
    RoutesTold s (t.routeNote n) := by
  have runs : t.power.state = .run := by rw [h]; exact run
  unfold RoutesTold at *
  simp only [State.routeNote, State.noteCluster_run runs]
  split
  · rw [h]; rfl
  · rw [h]; rfl

theorem State.routeNotes_told {s : State} (run : s.power.state = .run) (l : List Nat) :
    RoutesTold s (l.foldl State.routeNote s) :=
  List.foldlRecOn (motive := RoutesTold s) l State.routeNote rfl fun _ h n _ => h.routeNote run n

/-- The hand-over empties the cycle's completions and notifications (R126). -/
theorem State.handOver_eq {s : State} (run : s.power.state = .run) :
    s.handOver = { s with bench := { s.bench with completions := [], notes := [] },
                          eng := { s.eng with routes := s.handOver.eng.routes }, mg := s.handOver.mg,
                          hi := s.handOver.hi, outbox := s.handOver.outbox } := by
  have told := State.routeNotes_told (s := { s with bench := { s.bench with completions := [] } }) run
    (List.range s.eng.routes.length)
  unfold RoutesTold at told
  simp only [State.handOver]
  rw [State.flushNotes_eq, State.deliverAll_eq, told]

/-! ### The hand-over as a whole -/

/-- The state from which completions and notifications are delivered: committed, with telegrams and log entries. -/
def State.loggedO (s : State) : State := (s.committedO.buildTelegrams s.bench.cycle true).logConstants

/-- The bench before the end of the cycle: indications as the table stands, everything of the cycle handed over. -/
def Bench.handedOver (b : Bench) : Bench :=
  { b with forcedShown := !b.forces.isEmpty, newLog := [], completions := [], notes := [] }

theorem State.loggedO_eq (s : State) :
    s.loggedO = { s with bench := { s.showForcing.bench with newLog := [] }, eng := s.committedO.eng,
                         net := s.loggedO.net, field := { s.field with demands := s.loggedO.field.demands },
                         can := s.loggedO.can, draws := s.loggedO.draws, recorder := s.loggedO.recorder,
                         log := s.loggedO.log, outbox := s.loggedO.outbox } := by
  apply State.ext <;> simp only [State.loggedO, State.logConstants_frame, State.logConstants_bench,
    State.buildTelegrams_frame, State.committedO, State.commitDemands_frame, State.showForcing_frame]

theorem State.handedO_eq {s : State} (run : s.power.state = .run) :
    s.handedO = { s with bench := s.bench.handedOver, eng := { s.committedO.eng with routes := s.handedO.eng.routes },
                         net := s.handedO.net, field := { s.field with demands := s.handedO.field.demands },
                         can := s.handedO.can, draws := s.handedO.draws, mg := s.handedO.mg,
                         recorder := s.handedO.recorder, log := s.handedO.log, hi := s.handedO.hi,
                         outbox := s.handedO.outbox } := by
  have runs : s.loggedO.power.state = .run := by rw [State.loggedO_eq]; exact run
  have handed : s.handedO = { s.loggedO with
      bench := { s.loggedO.bench with completions := [], notes := [] }
      eng := { s.loggedO.eng with routes := s.handedO.eng.routes }
      mg := s.handedO.mg, hi := s.handedO.hi, outbox := s.handedO.outbox } := State.handOver_eq runs
  rw [handed, State.loggedO_eq]
  rfl

theorem State.handedO_log {s : State} (room : s.log.length + s.bench.newLog.length ≤ logCapacity) :
    s.handedO.log.length = s.log.length + s.bench.newLog.length := by
  have log : (s.committedO.buildTelegrams s.bench.cycle true).log = s.log := by
    simp only [State.committedO, State.buildTelegrams_frame, State.commitDemands_frame, State.showForcing_frame]
  have entries : (s.committedO.buildTelegrams s.bench.cycle true).bench.newLog = s.bench.newLog := by
    simp only [State.committedO, State.buildTelegrams_frame, State.commitDemands_frame, State.showForcing]
  simp only [State.handedO, State.handOver_frame]
  rw [State.logConstants_length (by rwa [log, entries]), log, entries]

theorem execPhaseO_commits {samples : List Word} {s : State} (run : s.power.state = .run)
    (frozen : s.bench.frozen = true) (evaluated : s.bench.evaluated = true) (due : s.phaseOUs ≤ s.opUs)
    (kept : s.bench.discard = false) (stays : s.bench.stopping = false) (codes : s.bench.noCode = false) :
    ∃ t, exec (.phaseO samples) s = .next t ∧ t.bench.frozen = false ∧ t.bench.evaluated = false ∧
      t.bench.lastO = s.bench.cycle ∧ t.bench.completions = [] ∧ t.bench.notes = [] ∧ t.bench.newLog = [] ∧
      t.bench.undo = none ∧
      (s.log.length + s.bench.newLog.length ≤ logCapacity → t.log.length = s.log.length + s.bench.newLog.length) ∧
      t.bench.forcedShown = !s.bench.forces.isEmpty ∧ t.bench.forces = s.bench.forces ∧
      (∃ d, t.bench.codes = s.bench.codes ++ [.cycle (cycleCodeWord (BitVec.ofNat 8 (s.tBenchUs / 1000))
        (BitVec.ofNat 8 s.bench.cycle) (response s.bench.challenge)) d]) ∧
      (∀ x ∈ t.eng.txns, x.commitUs.isSome = true) ∧ (∀ p ∈ t.eng.prepares, p.doneUs.isSome = true) ∧
      t = { s with bench := t.bench, eng := t.eng, net := t.net, field := { s.field with demands := t.field.demands },
                   can := t.can, draws := t.draws, mg := t.mg, recorder := t.recorder, log := t.log, diag := t.diag,
                   hi := t.hi, outbox := t.outbox } := by
  have handed := State.handedO_eq run
  have handedBench : s.handedO.bench = s.bench.handedOver := by rw [handed]
  have eng : s.handedO.eng = { s.committedO.eng with routes := s.handedO.eng.routes } := by rw [handed]
  have station : s.handedO.tBenchUs = s.tBenchUs := by rw [handed]; rfl
  have code := State.deliverCode_cycle (s := s.handedO) (by rw [handedBench]; exact codes)
  rw [handedBench, station] at code
  obtain ⟨t, ran, bench, rest⟩ := execPhaseO_ends run frozen evaluated due (if_neg (by simp [kept]))
    (by rw [handedBench]; exact stays) samples
  rw [State.deliverCode_bench, handedBench, code] at bench
  have log : t.log = s.handedO.log := by rw [rest]
  have engine : t.eng = s.handedO.eng := by rw [rest]
  rw [handed] at rest
  refine ⟨t, ran, by rw [bench]; rfl, by rw [bench]; rfl, by rw [bench]; rfl, by rw [bench]; rfl, by rw [bench]; rfl,
    by rw [bench]; rfl, by rw [bench]; rfl, fun room => by rw [log, State.handedO_log room], by rw [bench]; rfl,
    by rw [bench]; rfl, ⟨_, by rw [bench]; rfl⟩, ?_, ?_, by rw [rest]⟩
  · rw [engine, eng]
    exact s.showForcing.commitDemands_txns
  · rw [engine, eng]
    exact s.showForcing.commitDemands_prepares

end Sys2Proof.Machine
end

section
/-! PROOF. The statement about phase O. -/

namespace Sys2Proof.Proofs

open Sys2Proof Sys2Proof.Machine Sys2Proof.Safety

/-- Settles O20: the demands and transactions are committed before the telegrams (`committedO`), the constants' entries
follow them (`loggedO`), and the hand-over ends with the cycle code. -/
theorem phaseOCommits : Obligations.PhaseOCommits := by
  unfold Obligations.PhaseOCommits
  intro samples s run frozen evaluated due kept stays codes
  exact execPhaseO_commits run frozen evaluated due kept stays codes

end Sys2Proof.Proofs
end

section
/-! PROOF. One element through a freeze: its value of the image, under its force if it has one (R132, R138, R147), and the
timers that watch it. -/

namespace Sys2Proof.Machine

open Sys2Proof Sys2Proof.Safety

/-! ### Operations on one element's record -/

/-- From `s` to `t` only the record of element `i` changes. -/
def ElementStep (i : Nat) (s t : State) : Prop := ∃ f, t = s.modDyn i f

theorem State.modDyn_modDyn (s : State) (i : Nat) (f g : ElemDyn → ElemDyn) :
    (s.modDyn i f).modDyn i g = s.modDyn i (g ∘ f) := by
  simp only [State.modDyn, upd, List.modify_modify_eq]

namespace ElementStep

variable {i : Nat} {s t : State}

theorem refl (i : Nat) (s : State) : ElementStep i s s := ⟨id, by simp [State.modDyn, upd]⟩

theorem modDyn (h : ElementStep i s t) (f : ElemDyn → ElemDyn) : ElementStep i s (t.modDyn i f) := by
  obtain ⟨g, rfl⟩ := h
  exact ⟨f ∘ g, State.modDyn_modDyn ..⟩

theorem trans {u : State} (h : ElementStep i s t) (k : ElementStep i t u) : ElementStep i s u := by
  obtain ⟨f, rfl⟩ := k
  exact h.modDyn f

theorem setValue (h : ElementStep i s t) (v : Nat) : ElementStep i s (t.setValue i v) := h.modDyn _

theorem dyn_of_ne (h : ElementStep i s t) {j : Nat} (other : j ≠ i) : t.dyn j = s.dyn j := by
  obtain ⟨f, rfl⟩ := h
  exact State.modDyn_dyn_of_ne other s f

theorem length (h : ElementStep i s t) : t.eng.elems.length = s.eng.elems.length := by
  obtain ⟨f, rfl⟩ := h
  exact State.modDyn_elems_length ..

theorem has_of_ne (h : ElementStep i s t) {p : ElemDyn → Prop} {j : Nat} (other : j ≠ i) (before : ElementHas p s j) :
    ElementHas p t j := fun inside => by
  rw [h.dyn_of_ne other]
  exact before (by rwa [h.length] at inside)

end ElementStep

theorem State.sectionStep_step (s : State) (i : Nat) : ElementStep i s (s.sectionStep i) := by
  have shown (f : ElemDyn → ElemDyn) (v : Nat) : ElementStep i s ((s.modDyn i f).setValue i v) :=
    ((ElementStep.refl i s).modDyn f).setValue v
  unfold State.sectionStep
  dsimp only
  split
  · split
    · exact .refl i s
    · split
      · exact shown _ _
      · exact shown _ _
  · exact .refl i s

theorem State.underlying_step (s : State) (i : Nat) (e : Element) : ElementStep i s (s.underlying i e) := by
  have shown (f : ElemDyn → ElemDyn) (v : Nat) : ElementStep i s ((s.modDyn i f).setValue i v) :=
    ((ElementStep.refl i s).modDyn f).setValue v
  unfold State.underlying
  dsimp only
  split
  · exact (ElementStep.refl i s).setValue _
  · exact (ElementStep.refl i s).setValue _
  · split
    · exact shown _ _
    · split
      · exact ((ElementStep.refl i s).modDyn _).trans (State.sectionStep_step _ i)
      · exact shown _ _
      · exact shown _ _

theorem State.freezeElement_step (s : State) (i : Nat) : ElementStep i s (s.freezeElement i) := by
  unfold State.freezeElement
  split
  · exact .refl i s
  · exact (s.underlying_step i _).modDyn _

/-! ### What the image shows -/

/-- The value of an element in the image is under its force, if it has one; a value of a source that is gone is the
substitute (R32, R138, R147). -/
def Shows (e : Element) (force : Option Nat) (d : ElemDyn) : Prop :=
  d.image = force.getD d.value ∧
  (e.part.typeCode ≠ 4 → e.part.typeCode ≠ 9 → d.substituted = d.gone ∧ (d.gone = true → d.value = e.subst))

/-- An element that the image holds, with what it shows. -/
def FrozenShows (e : Element) (force : Option Nat) (d : ElemDyn) : Prop := d.frozen = true ∧ Shows e force d

/-- The value of a source that is not gone. -/
theorem shows_live {e : Element} {force : Option Nat} {d : ElemDyn} (image : d.image = force.getD d.value)
    (own : d.substituted = false) (live : d.gone = false) : Shows e force d :=
  ⟨image, fun _ _ => ⟨own.trans live.symm, fun gone => absurd (live.symm.trans gone) nofun⟩⟩

theorem State.setValue_shows_live {s : State} {i : Nat} {e : Element} (inside : i < s.eng.elems.length)
    (own : (s.dyn i).substituted = false) (live : (s.dyn i).gone = false) (v : Nat) :
    Shows e (s.forceOn 1 i) ((s.setValue i v).dyn i) := by
  rw [State.setValue_dyn_same inside]
  exact shows_live rfl own live

/-- A section that reports shows the value that its step gives it (R34). -/
theorem State.sectionStep_shows {s : State} {i k delay : Nat} {b : Bool} {e : Element} (inside : i < s.eng.elems.length)
    (track : s.part i = .track k b delay) (own : (s.dyn i).substituted = false) (live : (s.dyn i).gone = false) :
    Shows e (s.forceOn 1 i) ((s.sectionStep i).dyn i) := by
  have reports : (s.dyn i).reported.isSome = true := by
    cases reported : (s.dyn i).reported with
    | none => simp [ElemDyn.gone, reported] at live
    | some v => rfl
  obtain ⟨v, reported⟩ := Option.isSome_iff_exists.mp reports
  have shown (f : ElemDyn → ElemDyn) (w : Nat) (f_own : (f (s.dyn i)).substituted = false)
      (f_live : (f (s.dyn i)).gone = false) : Shows e (s.forceOn 1 i) (((s.modDyn i f).setValue i w).dyn i) := by
    refine State.setValue_shows_live (by simpa using inside) ?_ ?_ w
    · rwa [State.modDyn_dyn_same inside]
    · rwa [State.modDyn_dyn_same inside]
  simp only [State.sectionStep, track, reported, own, Bool.false_eq_true, if_false]
  split
  · exact shown _ _ own live
  · exact shown _ _ own live

theorem State.part_of_elem {s : State} {i : Nat} {e : Element} (element : s.elem i = some e) : s.part i = e.part := by
  simp [State.part, element]

/-- An element marked as substituted where its source is gone (R138). -/
def State.markSubstitute (s : State) (i : Nat) : State :=
  s.modDyn i fun d => { d with substituted := d.gone, clearSince := if d.gone then none else d.clearSince }

/-- An element's value before any force is its report, or its substitute where that is gone (R138). -/
theorem State.underlying_shows {s : State} {i : Nat} {e : Element} (element : s.elem i = some e)
    (inside : i < s.eng.elems.length) : Shows e (s.forceOn 1 i) ((s.underlying i e).dyn i) := by
  have part := State.part_of_elem element
  have kept (v : Nat) (type : e.part.typeCode = 4 ∨ e.part.typeCode = 9) :
      Shows e (s.forceOn 1 i) ((s.setValue i v).dyn i) := by
    rw [State.setValue_dyn_same inside]
    exact ⟨rfl, fun other other' => absurd type (not_or.mpr ⟨other, other'⟩)⟩
  have marked : ((s.markSubstitute i).dyn i) =
      { s.dyn i with substituted := (s.dyn i).gone,
                     clearSince := if (s.dyn i).gone then none else (s.dyn i).clearSince } :=
    State.modDyn_dyn_same inside _
  have inside' : i < (s.markSubstitute i).eng.elems.length := by simpa [State.markSubstitute] using inside
  unfold State.underlying
  dsimp only
  split
  case h_1 edge => exact kept _ (.inl (by rw [edge]; rfl))
  case h_2 out => exact kept _ (.inr (by rw [out]; rfl))
  case h_3 =>
    change Shows e (s.forceOn 1 i) (State.dyn (if (s.dyn i).gone = true then (s.markSubstitute i).setValue i e.subst else _) i)
    split
    case isTrue gone =>
      rw [State.setValue_dyn_same inside', marked]
      exact ⟨rfl, fun _ _ => ⟨rfl, fun _ => rfl⟩⟩
    case isFalse live =>
      have live : (s.dyn i).gone = false := Bool.eq_false_iff.mpr live
      have own' : ((s.markSubstitute i).dyn i).substituted = false := by rw [marked]; exact live
      have live' : ((s.markSubstitute i).dyn i).gone = false := by rw [marked]; exact live
      split
      case h_1 track => exact State.sectionStep_shows inside' (part.trans track) own' live'
      case h_2 => exact State.setValue_shows_live inside' own' live' _
      case h_3 => exact State.setValue_shows_live inside' own' live' _

/-- An element in the image is marked as held and shows its value. -/
theorem State.freezeElement_shows {s : State} {i : Nat} {e : Element} (element : s.elem i = some e)
    (inside : i < s.eng.elems.length) : FrozenShows e (s.forceOn 1 i) ((s.freezeElement i).dyn i) := by
  have shows := State.underlying_shows element inside
  have inside' := inside.trans_eq (s.underlying_step i e).length.symm
  simp only [State.freezeElement, element]
  rw [State.modDyn_dyn_same inside']
  exact ⟨rfl, shows⟩

/-- Every element of the image shows its value, and the freeze of another leaves it (R124). -/
def ShownIn (s t : State) (i : Nat) : Prop :=
  t.station = s.station → t.bench = s.bench → ∀ e, s.elem i = some e → ElementHas (FrozenShows e (s.forceOn 1 i)) t i

theorem State.freezeElement_gives (s t : State) (i : Nat) : ShownIn s (t.freezeElement i) i := by
  intro station bench e element inside
  have same : t.elem i = s.elem i := by
    simp only [State.elem, State.elements, ← station, State.freezeElement_frame]
  have force : t.forceOn 1 i = s.forceOn 1 i := by simp only [State.forceOn, ← bench, State.freezeElement_frame]
  rw [← force]
  exact State.freezeElement_shows (same.trans element) (inside.trans_eq (t.freezeElement_step i).length)

theorem State.freezeElement_keeps (s t : State) (i j : Nat) (h : ShownIn s t j) : ShownIn s (t.freezeElement i) j := by
  by_cases own : j = i
  · rw [own]
    exact s.freezeElement_gives t i
  · intro station bench e element
    exact (t.freezeElement_step i).has_of_ne own
      (h (by simpa only [State.freezeElement_frame] using station) (by simpa only [State.freezeElement_frame] using bench)
        e element)

theorem State.freezeElements_shown (s : State) (l : List Nat) : ∀ i ∈ l, ShownIn s (l.foldl State.freezeElement s) i :=
  foldl_forall (P := ShownIn s) s.freezeElement_gives s.freezeElement_keeps l s

end Sys2Proof.Machine
end

section
/-! PROOF. The work of phase I: what the image is built from, and what follows its freeze and leaves it (R122, R124). -/

namespace Sys2Proof.Machine

open Sys2Proof Sys2Proof.Safety

/-! ### Phase I in stages -/

/-- The carried words, the local values and the nodes' telegrams, taken into the elements' records (R122, R124). -/
def State.takeReports (s : State) : State :=
  let s' := s.missFrame.dropDescriptors
  let s0 := s'.imageWords.foldl State.carry s'
  let s1 := { s0 with eng := { s0.eng with elems := s0.eng.elems.map (fun (d : ElemDyn) => { d with badValue := false }) } }
  let s2 := s1.eachElement (fun s i e => if e.loc && !(s1.xing .flCl).unusable then s.localValue i e else s)
  s2.nodeTable.foldl State.takeNode s2

/-- What was accepted by the freeze instant is used up (R124). -/
def State.dropTaken (s : State) : State :=
  { s with field := { s.field with prior := none }
           net := { s.net with accepted := s.net.accepted.filter (fun t => !s.acceptedAtFreeze t) } }

theorem State.takeInputs_eq (s : State) : s.takeInputs = s.takeReports.dropTaken.freezeRequests := by
  simp only [State.takeInputs, State.takeReports, State.dropTaken]

/-- The nodes judged at the freeze, and their elements marked (R137, R138). -/
def State.judgeSources (s : State) : State :=
  let s1 := s.nodeTable.foldl State.baseTimeout s
  let s2 := s1.nodeTable.foldl State.judgeNode s1
  let s3 := s2.eachElement State.markElement
  { s3 with can := s3.can.map (fun (p : CanPort) => { p with segmentLost := false }) }

/-- Every element frozen (R124). -/
def State.freezeAll (s : State) : State := (List.range s.elements.length).foldl State.freezeElement s

/-- What follows the freeze of the elements. -/
def State.finishImage (s : State) (l : List Nat) : State := ((l.foldl State.watchFreeze s).suspendCloses).keepImage

theorem State.buildImage_eq (s : State) :
    s.buildImage = s.judgeSources.freezeAll.finishImage (List.range s.judgeSources.elements.length) := rfl

/-- What phase I learns once the image stands. -/
def State.afterImage (s : State) : State :=
  let s2 := ((s.joinCore s.bench.cycle).ofType 5).foldl State.learnLeaf (s.joinCore s.bench.cycle)
  ((s2.ofType 2).foldl State.takeThrowTimeout s2).dwellSync

theorem State.phaseI_eq (s : State) (samples : List (Crossing × List Word)) :
    s.phaseI samples = (s.sampleInputs samples).openCycle.takeInputs.buildImage.afterImage := rfl

/-! ### What may change while the image is built -/

/-- In RUN the image is built from what is already there: of the bench only what the cycle collects changes, and
Manager's queue and the accepted telegrams at most lose entries. -/
structure ImageWork (s t : State) : Prop where
  power : t.power = s.power
  station : t.station = s.station
  bench : t.bench = { s.bench with requests := t.bench.requests, completions := t.bench.completions,
                                   notes := t.bench.notes }
  elems : t.eng.elems.length = s.eng.elems.length
  queue : t.mg.queue ⊆ s.mg.queue
  accepted : t.net.accepted ⊆ s.net.accepted

namespace ImageWork

variable {s t : State}

theorem refl (s : State) : ImageWork s s := ⟨rfl, rfl, rfl, rfl, List.Subset.refl _, List.Subset.refl _⟩

theorem trans {u : State} (h : ImageWork s t) (k : ImageWork t u) : ImageWork s u where
  power := k.power.trans h.power
  station := k.station.trans h.station
  bench := by rw [k.bench, h.bench]
  elems := k.elems.trans h.elems
  queue := List.Subset.trans k.queue h.queue
  accepted := List.Subset.trans k.accepted h.accepted

/-- What leaves the bench, Manager and the length of the tables, and accepts nothing. -/
theorem framed {u : State} (h : ImageWork s t) (power : u.power = t.power) (station : u.station = t.station)
    (bench : u.bench = t.bench) (elems : u.eng.elems.length = t.eng.elems.length) (mg : u.mg = t.mg)
    (accepted : u.net.accepted ⊆ t.net.accepted) : ImageWork s u :=
  h.trans ⟨power, station, by rw [bench], elems, by rw [mg]; exact List.Subset.refl _, accepted⟩

theorem modDyn (h : ImageWork s t) (i : Nat) (f : ElemDyn → ElemDyn) : ImageWork s (t.modDyn i f) :=
  h.framed rfl rfl rfl (State.modDyn_elems_length ..) rfl (List.Subset.refl _)

theorem modNode (h : ImageWork s t) (id : Nat) (f : NodeDyn → NodeDyn) : ImageWork s (t.modNode id f) :=
  h.framed rfl rfl rfl rfl rfl (List.Subset.refl _)

theorem event (h : ImageWork s t) (code : Nat) (r : Source) (c : Severity) (p0 p1 p2 : Nat) :
    ImageWork s (t.event code r c p0 p1 p2) :=
  h.framed rfl rfl rfl rfl rfl (List.Subset.refl _)

theorem foldl {α : Type} {f : State → α → State} (hf : ∀ t a, ImageWork s t → ImageWork s (f t a)) (l : List α)
    (h : ImageWork s t) : ImageWork s (l.foldl f t) :=
  List.foldlRecOn (motive := ImageWork s) l f h fun t k a _ => hf t a k

theorem eachElement {f : State → Nat → Element → State} (hf : ∀ t i e, ImageWork s t → ImageWork s (f t i e))
    (h : ImageWork s t) : ImageWork s (t.eachElement f) :=
  foldl (fun t p k => hf t p.2 p.1 k) _ h

/-! ### What telegrams report -/

theorem takeLife (n : Node) (x : Accepted) (h : ImageWork s t) : ImageWork s (t.takeLife n x) :=
  foldl (fun t o k => by
    split
    · exact k
    · exact k.modDyn _ _) _ h

theorem takeRecord (n : Node) (x : Accepted) (poll : Option Nat) (r : Nat × Nat × Nat) (h : ImageWork s t) :
    ImageWork s (t.takeRecord n x poll r) := by
  unfold State.takeRecord
  split
  · exact h
  · dsimp only
    split
    · exact h
    · split
      · exact h
      · split
        · split
          · exact h.modDyn _ _
          · split
            · exact h
            · exact (h.modDyn _ _).event _ _ _ _ _ _
        · exact h.modDyn _ _

theorem takeTelegram (n : Node) (x : Accepted) (poll : Option Nat) (h : ImageWork s t) :
    ImageWork s (t.takeTelegram n x poll) := by
  have marked : ImageWork s (if n.cyclePoll && poll.isNone
      then t.modNode n.id (fun (d : NodeDyn) => { d with untaggedUs := some x.arrivalUs }) else t) := by
    split
    · exact h.modNode _ _
    · exact h
  unfold State.takeTelegram
  dsimp only
  split
  · exact takeLife n x marked
  · exact foldl (fun t r => takeRecord n x poll r) _ marked

theorem takeNode (n : Node) (h : ImageWork s t) : ImageWork s (t.takeNode n) := by
  unfold State.takeNode
  split
  · exact h
  · dsimp only
    split
    · exact foldl (fun t x => takeTelegram n x none) _ h
    · exact (foldl (fun t (x : Accepted × Nat) => takeTelegram n x.1 _) _ h).modNode _ _

/-! ### What the inputs report -/

theorem localValue (i : Nat) (e : Element) (h : ImageWork s t) : ImageWork s (t.localValue i e) := by
  unfold State.localValue
  dsimp only
  split
  · exact h.modDyn _ _
  · exact h.modDyn _ _

theorem missFrame (h : ImageWork s t) : ImageWork s t.missFrame := by
  unfold State.missFrame
  split
  · exact h.framed rfl rfl rfl rfl rfl (List.Subset.refl _)
  · exact h

theorem dropDescriptors (h : ImageWork s t) : ImageWork s t.dropDescriptors := by
  have dropped := foldl (fun t (x : Accepted) k =>
    k.modNode x.node fun (d : NodeDyn) => { d with lastRxUs := x.priorRxUs })
    (t.net.accepted.filter (fun x => !t.descriptorOk x)).reverse (.refl t)
  obtain ⟨power, station, bench, elems, queue, -⟩ := dropped
  exact h.trans ⟨power, station, bench, elems, queue, List.filter_sublist.subset⟩

theorem carry (w : Word) (h : ImageWork s t) : ImageWork s (t.carry w) :=
  h.framed rfl rfl rfl rfl rfl (List.Subset.refl _)

/-! ### The requests of the image -/

theorem complete (run : s.power.state = .run) (op : Nat) (q : Req) (st : Status) (h : ImageWork s t) :
    ImageWork s (t.complete op q st) := by
  have now : t.power.state = .run := by rw [h.power, run]
  rw [State.complete, if_pos now]
  exact h.trans ⟨rfl, rfl, rfl, rfl, List.Subset.refl _, List.Subset.refl _⟩

theorem takeQueue (due : Queued → Bool) (h : ImageWork s t) : ImageWork s (t.takeQueue due).1 := by
  have frame := State.takeQueue_frame t due
  refine h.trans ⟨by simp only [frame], by simp only [frame], by simp only [frame], ?_, List.filter_sublist.subset, ?_⟩
  · simp only [State.takeQueue]
    split <;> rfl
  · simp only [frame]
    exact List.Subset.refl _

theorem freezeRequests (run : s.power.state = .run) (h : ImageWork s t) : ImageWork s t.freezeRequests := by
  have requested (l : List Queued) {u : State} (k : ImageWork s u) :
      ImageWork s { u with bench := { u.bench with requests := l } } :=
    k.trans ⟨rfl, rfl, rfl, rfl, List.Subset.refl _, List.Subset.refl _⟩
  have taken := takeQueue t.queuedAtFreeze h
  unfold State.freezeRequests
  dsimp only
  split
  · exact requested _ taken
  · exact foldl (fun t (x : Queued) => complete run x.opcode x.req .discarded) _ (requested [] taken)

theorem clearBad (h : ImageWork s t) : ImageWork s { t with eng := { t.eng with
    elems := t.eng.elems.map fun (d : ElemDyn) => { d with badValue := false } } } :=
  h.framed rfl rfl rfl (List.length_map _) rfl (List.Subset.refl _)

/-- All that the field and the nodes report (R122). -/
theorem takeReports (h : ImageWork s t) : ImageWork s t.takeReports := by
  have words := foldl (fun t w => carry w) (t.missFrame.dropDescriptors).imageWords h.missFrame.dropDescriptors
  refine foldl (fun t n => takeNode n) _ (eachElement (fun t i e k => ?_) words.clearBad)
  split
  · exact localValue i e k
  · exact k

theorem dropTaken (h : ImageWork s t) : ImageWork s t.dropTaken :=
  h.framed rfl rfl rfl rfl rfl List.filter_sublist.subset

theorem takeInputs (run : s.power.state = .run) (h : ImageWork s t) : ImageWork s t.takeInputs := by
  rw [State.takeInputs_eq]
  exact freezeRequests run h.takeReports.dropTaken

/-! ### The nodes as the freeze finds them -/

theorem nodeNote (run : s.power.state = .run) (d : NodeDyn) (cause : Nat) (h : ImageWork s t) :
    ImageWork s (t.nodeNote d cause) := by
  have now : t.power.state = .run := by rw [h.power, run]
  rw [State.nodeNote, State.noteCluster_run now]
  exact h.trans ⟨rfl, rfl, rfl, rfl, List.Subset.refl _, List.Subset.refl _⟩

theorem judgeNode (run : s.power.state = .run) (n : Node) (h : ImageWork s t) : ImageWork s (t.judgeNode n) := by
  unfold State.judgeNode
  split
  · exact h
  · dsimp only
    split
    · exact nodeNote run _ _ (((h.modNode _ _).modNode _ _).event _ _ _ _ _ _)
    · split
      · exact nodeNote run _ _ (((h.modNode _ _).modNode _ _).event _ _ _ _ _ _)
      · exact h.modNode _ _

theorem markElement (i : Nat) (e : Element) (h : ImageWork s t) : ImageWork s (t.markElement i e) := by
  unfold State.markElement
  split
  · exact h.modDyn _ _
  · exact h

theorem judgeSources (run : s.power.state = .run) (h : ImageWork s t) : ImageWork s t.judgeSources := by
  have based := foldl (fun t (n : Node) k => k.modNode n.id fun d =>
    if d.measured then d else { d with timeout := t.firstTimeout n }) t.nodeTable h
  exact (eachElement (fun t i e => markElement i e) (foldl (fun t n => judgeNode run n) _ based)).framed
    rfl rfl rfl rfl rfl (List.Subset.refl _)

/-- An operation on one element's record. -/
theorem element {i : Nat} {u : State} (h : ImageWork s t) (k : ElementStep i t u) : ImageWork s u := by
  obtain ⟨f, rfl⟩ := k
  exact h.modDyn i f

theorem freezeAll (h : ImageWork s t) : ImageWork s t.freezeAll :=
  foldl (fun t i k => k.element (t.freezeElement_step i)) _ h

end ImageWork

/-! ### What follows the freeze leaves the image -/

/-- The same value in the image, and the source as good as before. -/
def SameShown (d d' : ElemDyn) : Prop :=
  d'.frozen = d.frozen ∧ d'.image = d.image ∧ d'.value = d.value ∧ d'.substituted = d.substituted ∧ d'.gone = d.gone

theorem SameShown.frozenShows {e : Element} {force : Option Nat} {d d' : ElemDyn} (same : SameShown d d')
    (h : FrozenShows e force d) : FrozenShows e force d' := by
  obtain ⟨frozen, image, value, substituted, gone⟩ := same
  simpa only [FrozenShows, Shows, frozen, image, value, substituted, gone] using h

/-- From `s` to `t` the image stays. -/
structure ImageKept (s t : State) : Prop extends ImageWork s t where
  shown : ∀ i, SameShown (s.dyn i) (t.dyn i)

namespace ImageKept

variable {s t : State}

theorem refl (s : State) : ImageKept s s := ⟨.refl s, fun _ => ⟨rfl, rfl, rfl, rfl, rfl⟩⟩

theorem trans {u : State} (h : ImageKept s t) (k : ImageKept t u) : ImageKept s u where
  toImageWork := h.toImageWork.trans k.toImageWork
  shown i := by
    obtain ⟨frozen, image, value, substituted, gone⟩ := h.shown i
    obtain ⟨frozen', image', value', substituted', gone'⟩ := k.shown i
    exact ⟨frozen'.trans frozen, image'.trans image, value'.trans value, substituted'.trans substituted,
      gone'.trans gone⟩

theorem modDyn (h : ImageKept s t) (i : Nat) {f : ElemDyn → ElemDyn} (same : ∀ d, SameShown d (f d)) :
    ImageKept s (t.modDyn i f) := by
  refine h.trans ⟨(ImageWork.refl t).modDyn i f, fun j => ?_⟩
  rw [State.modDyn_dyn]
  split
  · exact same _
  · exact (refl t).shown j

/-- What leaves the elements, the bench, Manager and the network. -/
theorem framed {u : State} (h : ImageKept s t) (power : u.power = t.power) (station : u.station = t.station)
    (bench : u.bench = t.bench) (elems : u.eng.elems = t.eng.elems) (mg : u.mg.queue = t.mg.queue) (net : u.net = t.net) :
    ImageKept s u := by
  refine h.trans ⟨⟨power, station, by rw [bench], by rw [elems], by rw [mg]; exact List.Subset.refl _,
    by rw [net]; exact List.Subset.refl _⟩, fun i => ?_⟩
  rw [State.dyn, State.dyn, elems]
  exact (refl t).shown i

theorem foldl {α : Type} {f : State → α → State} (hf : ∀ t a, ImageKept s t → ImageKept s (f t a)) (l : List α)
    (h : ImageKept s t) : ImageKept s (l.foldl f t) :=
  List.foldlRecOn (motive := ImageKept s) l f h fun t k a _ => hf t a k

theorem watchFreeze (i : Nat) (h : ImageKept s t) : ImageKept s (t.watchFreeze i) := by
  unfold State.watchFreeze
  split
  · exact h.modDyn i fun d => ⟨rfl, rfl, rfl, rfl, rfl⟩
  · unfold State.berthWatch
    split
    · dsimp only
      split
      · exact h.modDyn i fun d => ⟨rfl, rfl, rfl, rfl, rfl⟩
      · exact h.modDyn i fun d => ⟨rfl, rfl, rfl, rfl, rfl⟩
    · exact h
  · exact h

theorem suspendCloses (h : ImageKept s t) : ImageKept s t.suspendCloses := h.framed rfl rfl rfl rfl rfl rfl

theorem keepImage (h : ImageKept s t) : ImageKept s t.keepImage := by
  refine h.trans ⟨⟨rfl, rfl, rfl, by simp [State.keepImage, withIndex], List.Subset.refl _, List.Subset.refl _⟩,
    fun i => ?_⟩
  by_cases inside : i < t.eng.elems.length
  · simp [SameShown, ElemDyn.gone, State.dyn, State.keepImage, withIndex, inside]
  · simp [SameShown, ElemDyn.gone, State.dyn, State.keepImage, withIndex, inside]

theorem joinCore (cycle : Nat) (h : ImageKept s t) : ImageKept s (t.joinCore cycle) := by
  have frame := State.joinCore_frame t cycle
  apply h.framed <;> simp only [frame]

theorem learnLeaf (i : Nat) (h : ImageKept s t) : ImageKept s (t.learnLeaf i) := by
  unfold State.learnLeaf
  extract_lets
  split
  · exact h
  · split
    · split
      · exact h.modDyn i fun d => ⟨rfl, rfl, rfl, rfl, rfl⟩
      · exact foldl (fun t (e : Nat × Nat × Nat) k => k.framed (u := t.event e.1 .mg .maintenance i e.2.1 e.2.2)
          rfl rfl rfl rfl rfl rfl) _ (h.modDyn i fun d => ⟨rfl, rfl, rfl, rfl, rfl⟩)
    · exact h.modDyn i fun d => ⟨rfl, rfl, rfl, rfl, rfl⟩

theorem takeThrowTimeout (i : Nat) (h : ImageKept s t) : ImageKept s (t.takeThrowTimeout i) := by
  unfold State.takeThrowTimeout
  split
  · split
    · exact h.modDyn i fun d => ⟨rfl, rfl, rfl, rfl, rfl⟩
    · exact h
  · exact h

theorem dwellSync (h : ImageKept s t) : ImageKept s t.dwellSync := by
  have frame := State.dwellSync_frame t
  apply h.framed <;> simp only [frame]

theorem finishImage (l : List Nat) (h : ImageKept s t) : ImageKept s (t.finishImage l) :=
  (foldl (fun _ i => watchFreeze i) l h).suspendCloses.keepImage

theorem afterImage (h : ImageKept s t) : ImageKept s t.afterImage :=
  (foldl (fun _ i => takeThrowTimeout i) _ (foldl (fun _ i => learnLeaf i) _ (h.joinCore t.bench.cycle))).dwellSync

theorem settle (h : ImageKept s t) : ImageKept s t.settle := by
  have frame := State.settle_frame t
  apply h.framed <;> simp only [frame]

end ImageKept

end Sys2Proof.Machine
end

section
/-! PROOF. Phase I: the cycle that begins, the challenge that is read, and the image (R121, R122, R124, R145, R154). -/

namespace Sys2Proof.Machine

open Sys2Proof Sys2Proof.Safety

/-! ### The sampling of the crossings -/

theorem State.setXing_xing_same (s : State) (x : Crossing) (v : Xing) : (s.setXing x v).xing x = v := by
  simp [State.xing, State.setXing]

/-- Sampling one crossing leaves what another holds. -/
theorem State.sampleXing_xing_of_ne {x y : Crossing} (other : y ≠ x) (s : State) (samples : List Word) :
    (s.sampleXing x samples).xing y = s.xing y := by
  have set (v : Xing) : (s.setXing x v).xing y = s.xing y := State.setXing_xing_of_ne other s v
  unfold State.sampleXing
  extract_lets v
  split
  · rfl
  · split
    · split
      · exact set _
      · rfl
    · split
      · exact set _
      · exact set _

/-- Of a crossing whose link is down nothing is sampled. -/
theorem State.sampleXing_linkDown {s : State} {x : Crossing} (down : (s.xing x).linkDown = true) (samples : List Word) :
    s.sampleXing x samples = s := by
  simp [State.sampleXing, down]

/-- A crossing without a sample that disagrees is steady. -/
theorem State.sampleXing_steady {s : State} {x : Crossing} (up : (s.xing x).linkDown = false) :
    (s.sampleXing x []).xing x = { s.xing x with unstable := false } := by
  simp only [State.sampleXing, up, Bool.false_eq_true, if_false, List.isEmpty_nil, if_true]
  split
  case isTrue => exact State.setXing_xing_same ..
  case isFalse steady =>
    cases held : s.xing x
    simp_all

/-- Phase I samples Ashlar's crossing between others. -/
theorem State.sampleInputs_asCl (s : State) (samples : List (Crossing × List Word)) :
    ∃ u : State, u.xing .asCl = s.xing .asCl ∧ (s.sampleInputs samples).xing .asCl =
      (u.sampleXing .asCl (((samples.find? fun p => p.1 == .asCl).map Prod.snd).getD [])).xing .asCl := by
  refine ⟨[Crossing.flCl, .nwCl, .fbCl].foldl (fun s x =>
    s.sampleXing x (((samples.find? fun p => p.1 == x).map Prod.snd).getD [])) s, ?_, ?_⟩
  · simp only [List.foldl_cons, List.foldl_nil]
    rw [State.sampleXing_xing_of_ne (by decide), State.sampleXing_xing_of_ne (by decide),
      State.sampleXing_xing_of_ne (by decide)]
  · exact State.sampleXing_xing_of_ne (by decide) _ _

theorem State.sampleInputs_usable {s : State} (up : (s.xing .asCl).linkDown = false)
    (fresh : (s.xing .asCl).stale = false) : ((s.sampleInputs []).xing .asCl).unusable = false := by
  obtain ⟨u, same, sampled⟩ := s.sampleInputs_asCl []
  rw [sampled]
  simp only [List.find?_nil, Option.map_none, Option.getD_none]
  rw [State.sampleXing_steady (by rw [same, up]), same]
  simp [Xing.unusable, up, fresh]

theorem State.sampleInputs_linkDown {s : State} (down : (s.xing .asCl).linkDown = true)
    (samples : List (Crossing × List Word)) : ((s.sampleInputs samples).xing .asCl).unusable = true := by
  obtain ⟨u, same, sampled⟩ := s.sampleInputs_asCl samples
  rw [sampled, State.sampleXing_linkDown (by rw [same, down]), same]
  simp [Xing.unusable, down]

/-! ### The cycle that begins -/

/-- The challenge of Ashlar's crossing where that can be used, the last one otherwise (R191). -/
def State.readChallenge (s : State) : BitVec 16 :=
  if (s.xing .asCl).unusable then s.bench.challenge else s.ash.challenge

/-- The bench of the cycle that begins at the next grid instant (R121, R145, R154). -/
def State.nextBench (s : State) (reminder : Nat) (challenge : BitVec 16) : Bench :=
  { s.bench with
    cycle := s.bench.nextCycle, nextCycle := (s.bench.nextCycle + 1) % 2 ^ 32, freezeUs := s.bench.nextFreezeUs
    nextFreezeUs := s.bench.nextFreezeUs + s.tBenchUs, frozen := true, evaluated := false, housekept := false
    discard := false, constants := s.bench.nextConstants, newConstants := [], forces := s.bench.nextForces
    newForces := [], reminderUs := reminder, challenge := challenge }

theorem State.applyConstants_bench (s : State) :
    s.applyConstants.bench = { s.bench with constants := s.bench.nextConstants, newConstants := [] } := by
  simp [State.applyConstants, State.constantTouches_frame]

/-- The cycle's number and instants, before any change takes effect (R121, R122). -/
def State.beginCycle (s : State) : State :=
  { s with bench := { s.bench with
    cycle := s.bench.nextCycle, nextCycle := (s.bench.nextCycle + 1) % 2 ^ 32, freezeUs := s.bench.nextFreezeUs,
    nextFreezeUs := s.bench.nextFreezeUs + s.tBenchUs, frozen := true, evaluated := false, housekept := false,
    discard := false } }

/-- The force changes in effect from this freeze (R145). -/
def State.takeForces (s : State) : State :=
  if s.bench.newForces.isEmpty then s else s.putForces s.bench.nextForces

/-- Without a change of forces the table stays. -/
theorem State.takeForces_bench (s : State) :
    ∃ r, s.takeForces.bench = { s.bench with forces := s.bench.nextForces, reminderUs := r } := by
  unfold State.takeForces
  split
  case isTrue none =>
    have same : s.bench.nextForces = s.bench.forces := by simp [Bench.nextForces, List.isEmpty_iff.mp none]
    exact ⟨s.bench.reminderUs, by rw [same]⟩
  case isFalse => exact ⟨_, rfl⟩

/-- Forces are of the bench alone. -/
theorem State.takeForces_eq (s : State) : s.takeForces = { s with bench := s.takeForces.bench } := by
  unfold State.takeForces
  split <;> rfl

theorem State.openCycle_eq (s : State) :
    s.openCycle = { s.beginCycle.applyConstants.takeForces with
      bench := { s.beginCycle.applyConstants.takeForces.bench with
        newForces := []
        challenge := if (s.beginCycle.applyConstants.takeForces.xing .asCl).unusable
          then s.beginCycle.applyConstants.takeForces.bench.challenge
          else s.beginCycle.applyConstants.takeForces.ash.challenge } } := rfl

theorem State.openCycle_bench (s : State) : ∃ r, s.openCycle.bench = s.nextBench r s.readChallenge := by
  obtain ⟨r, forced⟩ := s.beginCycle.applyConstants.takeForces_bench
  have xing : s.beginCycle.applyConstants.takeForces.xing .asCl = s.xing .asCl := by
    rw [State.takeForces_eq]
    simp only [State.xing, State.applyConstants_frame]
    rfl
  have ash : s.beginCycle.applyConstants.takeForces.ash = s.ash := by
    rw [State.takeForces_eq]
    simp only [State.applyConstants_frame]
    rfl
  refine ⟨r, ?_⟩
  rw [State.openCycle_eq, xing, ash, forced, State.applyConstants_bench]
  rfl

/-- Changed constants and forces accept no telegram. -/
theorem State.openCycle_accepted (s : State) : s.openCycle.net.accepted = s.net.accepted := by
  have constants : s.beginCycle.applyConstants.net = { s.net with nodes := s.beginCycle.applyConstants.net.nodes } :=
    s.beginCycle.applyConstants_nodesOnly
  rw [State.openCycle_eq, State.takeForces_eq, constants]

/-! ### The image -/

/-- What was accepted after the freeze instant waits (R124). -/
theorem State.takeInputs_accepted {s : State} {x : Accepted} (h : x ∈ s.takeInputs.net.accepted) :
    s.bench.freezeUs < x.acceptUs := by
  have instant : s.takeReports.bench.freezeUs = s.bench.freezeUs := by rw [(ImageWork.refl s).takeReports.bench]
  rw [State.takeInputs_eq] at h
  simp only [State.freezeRequests_frame, State.dropTaken, List.mem_filter, State.acceptedAtFreeze, instant] at h
  simpa using h.2

theorem State.opened_run {s : State} (run : s.power.state = .run) (samples : List (Crossing × List Word)) :
    (s.sampleInputs samples).openCycle.power.state = .run := by
  simp only [State.openCycle_frame, State.sampleInputs_frame, run]

/-- What phase I does once its elements are frozen leaves the image. -/
theorem State.phaseI_kept (s : State) (samples : List (Crossing × List Word)) :
    ImageKept (s.sampleInputs samples).openCycle.takeInputs.judgeSources.freezeAll (s.phaseI samples).settle := by
  rw [State.phaseI_eq, State.buildImage_eq]
  exact ((ImageKept.refl _).finishImage _).afterImage.settle

/-- From its inputs on, phase I does the work of the image. -/
theorem State.phaseI_taken {s : State} (run : s.power.state = .run) (samples : List (Crossing × List Word)) :
    ImageWork (s.sampleInputs samples).openCycle.takeInputs (s.phaseI samples).settle := by
  have taken := (ImageWork.refl (s.sampleInputs samples).openCycle).takeInputs (State.opened_run run samples)
  have run' : (s.sampleInputs samples).openCycle.takeInputs.power.state = .run := by
    rw [taken.power, State.opened_run run samples]
  exact ((ImageWork.refl _).judgeSources run').freezeAll.trans (s.phaseI_kept samples).toImageWork

theorem State.phaseI_work {s : State} (run : s.power.state = .run) (samples : List (Crossing × List Word)) :
    ImageWork (s.sampleInputs samples).openCycle (s.phaseI samples).settle :=
  ((ImageWork.refl _).takeInputs (State.opened_run run samples)).trans (State.phaseI_taken run samples)

theorem State.freezeAll_frame (s : State) : s.freezeAll.station = s.station ∧ s.freezeAll.bench = s.bench := by
  simp [State.freezeAll, State.freezeElement_frame]

theorem State.freezeAll_shows {s : State} {i : Nat} {e : Element} (element : s.elem i = some e)
    (inside : i < s.eng.elems.length) : FrozenShows e (s.forceOn 1 i) (s.freezeAll.dyn i) := by
  obtain ⟨station, bench⟩ := s.freezeAll_frame
  have named : i ∈ List.range s.elements.length := List.mem_range.mpr (List.getElem?_eq_some_iff.mp element).1
  exact s.freezeElements_shown _ i named station bench e element
    (inside.trans_eq (ImageWork.refl s).freezeAll.elems.symm)

/-- An image frozen and kept shows the elements under the forces that still stand. -/
theorem ImageKept.shows {s t : State} (kept : ImageKept s.freezeAll t) {i : Nat} {e : Element}
    (element : s.elem i = some e) (inside : i < s.eng.elems.length) : FrozenShows e (t.forceOn 1 i) (t.dyn i) := by
  have forces : t.forceOn 1 i = s.forceOn 1 i := by
    rw [State.forceOn, State.forceOn, kept.bench, s.freezeAll_frame.2]
  rw [forces]
  exact (kept.shown i).frozenShows (State.freezeAll_shows element inside)

/-- Every element of the image shows its report, its substitute or its force (R124, R138, R147). -/
theorem State.phaseI_shows {s : State} (run : s.power.state = .run) (samples : List (Crossing × List Word)) {i : Nat}
    {e : Element} (element : s.elem i = some e) (inside : i < s.eng.elems.length) :
    FrozenShows e ((s.phaseI samples).settle.forceOn 1 i) ((s.phaseI samples).settle.dyn i) := by
  have run' := State.opened_run run samples
  have taken := (ImageWork.refl (s.sampleInputs samples).openCycle).takeInputs run'
  have work := taken.judgeSources run'
  refine (s.phaseI_kept samples).shows ?_ (inside.trans_eq ?_)
  · rw [← element, State.elem, State.elem, State.elements, State.elements, work.station]
    simp only [State.openCycle_frame, State.sampleInputs_frame]
  · rw [work.elems]
    simp only [State.openCycle_frame, State.sampleInputs_frame]

/-! ### The instruction -/

theorem execPhaseI_due {s : State} (run : s.power.state = .run) (opened : s.bench.frozen = false)
    (due : s.bench.nextFreezeUs ≤ s.opUs) (samples : List (Crossing × List Word)) :
    exec (.phaseI samples) s = .next (s.phaseI samples).settle := by
  change execPhaseI samples s = _
  simp [execPhaseI, State.inRun, run, opened, due]

theorem State.sampleInputs_tBenchUs (s : State) (samples : List (Crossing × List Word)) :
    (s.sampleInputs samples).tBenchUs = s.tBenchUs := by
  simp only [State.tBenchUs, State.sampleInputs_frame]

/-- The bench of the cycle that phase I has begun: all but what the cycle collects is as at its opening. -/
theorem State.phaseI_bench {s : State} (run : s.power.state = .run) (samples : List (Crossing × List Word)) :
    ∃ r, (s.phaseI samples).settle.bench = { s.nextBench r (s.sampleInputs samples).readChallenge with
      requests := (s.phaseI samples).settle.bench.requests
      completions := (s.phaseI samples).settle.bench.completions
      notes := (s.phaseI samples).settle.bench.notes } := by
  obtain ⟨r, opened⟩ := (s.sampleInputs samples).openCycle_bench
  have sampled (c : BitVec 16) : (s.sampleInputs samples).nextBench r c = s.nextBench r c := by
    simp only [State.nextBench, State.sampleInputs_frame, State.sampleInputs_tBenchUs]
  exact ⟨r, by rw [← sampled, ← opened]; exact (State.phaseI_work run samples).bench⟩

/-- Without a sample that disagrees, the challenge of a live crossing is Ashlar's (R191). -/
theorem State.readChallenge_live {s : State} (up : (s.xing .asCl).linkDown = false)
    (fresh : (s.xing .asCl).stale = false) : (s.sampleInputs []).readChallenge = s.ash.challenge := by
  rw [State.readChallenge, if_neg (by rw [State.sampleInputs_usable up fresh]; nofun)]
  simp only [State.sampleInputs_frame]

/-- Over a link that is down the last challenge stays (R191). -/
theorem State.readChallenge_linkDown {s : State} (down : (s.xing .asCl).linkDown = true)
    (samples : List (Crossing × List Word)) : (s.sampleInputs samples).readChallenge = s.bench.challenge := by
  rw [State.readChallenge, if_pos (State.sampleInputs_linkDown down samples)]
  simp only [State.sampleInputs_frame]

/-- What waits after phase I has waited before it and was accepted after the freeze instant (R124). -/
theorem State.phaseI_accepted {s : State} (run : s.power.state = .run) (samples : List (Crossing × List Word))
    {x : Accepted} (h : x ∈ (s.phaseI samples).settle.net.accepted) :
    x ∈ s.net.accepted ∧ s.bench.nextFreezeUs < x.acceptUs := by
  obtain ⟨r, opened⟩ := (s.sampleInputs samples).openCycle_bench
  have held := (State.phaseI_work run samples).accepted h
  have late := State.takeInputs_accepted ((State.phaseI_taken run samples).accepted h)
  rw [State.openCycle_accepted] at held
  rw [opened] at late
  simp only [State.nextBench, State.sampleInputs_frame] at held late
  exact ⟨held, late⟩

theorem State.phaseI_queue {s : State} (run : s.power.state = .run) (samples : List (Crossing × List Word)) :
    (s.phaseI samples).settle.mg.queue ⊆ s.mg.queue := by
  have taken := (State.phaseI_work run samples).queue
  rwa [show (s.sampleInputs samples).openCycle.mg = s.mg by
    simp only [State.openCycle_frame, State.sampleInputs_frame]] at taken

/-- Phase I leaves the supplies, the clocks, the station data, the logs and Ashlar as they are. -/
theorem State.phaseI_rest (s : State) (samples : List (Crossing × List Word)) :
    (s.phaseI samples).settle = { s with
      bench := (s.phaseI samples).settle.bench, eng := (s.phaseI samples).settle.eng
      net := (s.phaseI samples).settle.net, mg := (s.phaseI samples).settle.mg
      vote := (s.phaseI samples).settle.vote, test := (s.phaseI samples).settle.test
      xings := (s.phaseI samples).settle.xings, can := (s.phaseI samples).settle.can
      field := (s.phaseI samples).settle.field, recorder := (s.phaseI samples).settle.recorder
      hi := (s.phaseI samples).settle.hi, outbox := (s.phaseI samples).settle.outbox } := by
  apply State.ext <;> simp only [State.settle_frame, State.phaseI_frame]

end Sys2Proof.Machine
end

section
/-! PROOF. The statement about phase I. -/

namespace Sys2Proof.Proofs

open Sys2Proof Sys2Proof.Machine Sys2Proof.Safety

/-- Settles O18: the cycle opens with the bench `nextBench` (`openCycle_bench`), the elements are frozen one by one
(`freezeAll_shows`), and what follows keeps the image (`ImageKept`). That what arrives at the freeze instant itself is in
the image is the model's choice (log entry 20). -/
theorem phaseIFreezes : Obligations.PhaseIFreezes := by
  unfold Obligations.PhaseIFreezes
  intro samples s run opened due
  obtain ⟨r, bench⟩ := State.phaseI_bench run samples
  have instant : (s.phaseI samples).settle.bench.freezeUs = s.bench.nextFreezeUs := by rw [bench]; rfl
  have challenge : (s.phaseI samples).settle.bench.challenge = (s.sampleInputs samples).readChallenge := by
    rw [bench]; rfl
  refine ⟨_, execPhaseI_due run opened due samples, by rw [bench]; rfl, by rw [bench]; rfl, instant, by rw [bench]; rfl,
    by rw [bench]; rfl, by rw [bench]; rfl, by rw [bench]; rfl, by rw [bench]; rfl, by rw [bench]; rfl,
    by rw [bench]; rfl, by rw [bench]; rfl, by rw [bench]; rfl, by rw [bench]; rfl, by rw [bench]; rfl,
    by rw [bench]; rfl, ?_, ?_, fun i e element inside => State.phaseI_shows run samples element inside, ?_,
    State.phaseI_queue run samples, s.phaseI_rest samples⟩
  · rintro rfl up fresh
    rw [challenge, State.readChallenge_live up fresh]
  · intro down
    rw [challenge, State.readChallenge_linkDown down]
  · rw [instant]
    exact fun x h => State.phaseI_accepted run samples h

end Sys2Proof.Proofs
end

section
/-! PROOF. An accusation in two-out-of-three and the targeted self-test it leads to (R164, R166, R168). -/

namespace Sys2Proof.Machine

open Sys2Proof Sys2Proof.Safety

/-! ### The count of two-out-of-two time -/

/-- Two states of the voting cluster that differ in the count of two-out-of-two time alone (R174). -/
def DwellOnly (v w : Vote) : Prop :=
  w = { v with dwellUs := w.dwellUs, dwellMarkUs := w.dwellMarkUs, dwellEntered := w.dwellEntered,
               warned60 := w.warned60, warned10 := w.warned10 }

theorem State.dwellPause_dwellOnly (s : State) : DwellOnly s.vote s.dwellPause.vote := by
  unfold State.dwellPause
  split <;> rfl

/-- While a core is in its targeted self-test the count is reset or paused, and nothing is told (R174). -/
theorem State.dwellSync_testing {s : State} (testing : s.vote.testing.isSome = true) :
    DwellOnly s.vote s.dwellSync.vote ∧ s.dwellSync = { s with vote := s.dwellSync.vote } := by
  have stopped : s.dwellCounts = false := by
    obtain ⟨slot, some⟩ := Option.isSome_iff_exists.mp testing
    simp [State.dwellCounts, some]
  unfold State.dwellSync
  split
  · exact ⟨rfl, rfl⟩
  · rw [if_neg (by simp [stopped])]
    refine ⟨s.dwellPause_dwellOnly, ?_⟩
    unfold State.dwellPause
    split <;> rfl

theorem DwellOnly.kept {v w : Vote} (h : DwellOnly v w) :
    w.slots = v.slots ∧ w.cores = v.cores ∧ w.testing = v.testing ∧ w.joining = v.joining ∧ w.cause = v.cause ∧
      w.accusations = v.accusations ∧ w.lastAccuse = v.lastAccuse ∧ w.lockstepBroken = v.lockstepBroken ∧
      w.stores = v.stores ∧ w.sram = v.sram := by
  rw [h]
  exact ⟨rfl, rfl, rfl, rfl, rfl, rfl, rfl, rfl, rfl, rfl⟩

/-! ### The comparison point -/

/-- The Hopper's comparison point reaches the cluster SRAM and the values carried to the slots alone (R162, R164). -/
theorem State.busPoint_eq (s : State) (bus : List BusAccess) :
    s.busPoint bus = { s with vote := { s.vote with
      sram := (s.busPoint bus).vote.sram, carried := (s.busPoint bus).vote.carried } } := by
  unfold State.busPoint
  split <;> rfl

theorem State.busPoint_sram (s : State) (bus : List BusAccess) :
    (s.busPoint bus).vote.sram = (voted s.vote.activeSlots bus).elim s.vote.sram (storeWord s.vote.sram sramBytes) := by
  unfold State.busPoint
  cases voted s.vote.activeSlots bus with
  | some a => rfl
  | none => cases bus.find? fun a => !a.write <;> rfl

/-! ### The accusation -/

/-- The accused slot out of the vote and the accusation counted (R166). -/
def State.outvoted (s : State) (slot : Nat) (bus : List BusAccess) : State :=
  let s1 := (s.busPoint bus).modSlot slot fun x => { x with active := false }
  { s1 with vote := { s1.vote with accusations := s1.vote.accusations + 1, lastAccuse := s.bench.cycle } }

/-- An accusation counted and told (R166). -/
def State.accused (s : State) (slot item core : Nat) (bus : List BusAccess) : State :=
  ((s.outvoted slot bus).voteEvent 0x1001 .f0 (slot + core * 256) item).voteNote 0x1001 s.bench.cycle (slot + core * 256)

/-- The core of a slot in its targeted self-test, what it held destroyed (R168). -/
def State.toSelfTest (s : State) (slot core : Nat) : State :=
  let s1 := (s.setCore core .selfTest).destroyStore core
  { s1 with vote := { s1.vote with testing := some slot } }

/-- The same of the cluster's registers. -/
def Vote.toSelfTest (v : Vote) (slot core : Nat) : Vote :=
  { v with cores := upd v.cores core fun _ => .selfTest, stores := upd v.stores core fun _ => {}, testing := some slot }

theorem State.toSelfTest_eq (s : State) (slot core : Nat) :
    s.toSelfTest slot core = { s with vote := s.vote.toSelfTest slot core } := rfl

theorem upd_eq_set {α : Type} {l : List α} {i : Nat} {x : α} (at_ : l[i]? = some x) (f : α → α) :
    upd l i f = l.set i (f x) := by
  rw [upd, List.modify_eq_set_getElem?, at_]
  rfl

/-- An accusation in two-out-of-three of a core that has voted for at least 4 cycles leads to its self-test (R168). -/
theorem State.accuse_settled {slot item : Nat} {bus : List BusAccess} {v : Slot} {s : State}
    (at_ : s.vote.slots[slot]? = some v) (active : v.active = true) (three : s.vote.activeSlots = 3)
    (compares : s.compares = true) (old : ∀ c, v.joinedCycle = some c → c + 4 ≤ s.bench.cycle) :
    s.accuse slot item bus = ((s.accused slot item v.core bus).toSelfTest slot v.core).dwellSync := by
  have settled : (s.inRun && v.joinedCycle.any fun c => s.bench.cycle < c + 4) = false := by
    cases joined : v.joinedCycle with
    | none => simp
    | some c => simp [Nat.not_lt.mpr (old c joined)]
  simp only [State.accuse, at_, active, three, compares, settled]
  rw [if_neg (by decide), if_neg (by decide)]
  rfl

theorem State.outvoted_eq (s : State) (slot : Nat) (bus : List BusAccess) :
    s.outvoted slot bus = { s with vote := (s.outvoted slot bus).vote } := by
  rw [State.outvoted, State.busPoint_eq]
  rfl

theorem State.outvoted_vote {slot : Nat} {v : Slot} {s : State} (at_ : s.vote.slots[slot]? = some v)
    (bus : List BusAccess) :
    let w := (s.outvoted slot bus).vote
    w.slots = s.vote.slots.set slot { v with active := false } ∧ w.cores = s.vote.cores ∧ w.stores = s.vote.stores ∧
      w.accusations = s.vote.accusations + 1 ∧ w.lastAccuse = s.bench.cycle ∧
      w.lockstepBroken = s.vote.lockstepBroken ∧
      w.sram = (voted s.vote.activeSlots bus).elim s.vote.sram (storeWord s.vote.sram sramBytes) := by
  rw [← State.busPoint_sram, ← upd_eq_set at_ fun x => { x with active := false }, State.outvoted, State.busPoint_eq]
  exact ⟨rfl, rfl, rfl, rfl, rfl, rfl, rfl⟩

theorem State.accused_told (s : State) (slot item core : Nat) (bus : List BusAccess) :
    Recorded s (s.accused slot item core bus) 0x1001 s.bench.cycle (slot + core * 256) item ∧
      s.accused slot item core bus =
        { s with vote := (s.outvoted slot bus).vote, recorder := (s.accused slot item core bus).recorder,
                 hi := (s.accused slot item core bus).hi, outbox := (s.accused slot item core bus).outbox } := by
  have told := (s.outvoted slot bus).voteEvent_told 0x1001 .f0 (slot + core * 256) item 0x1001 s.bench.cycle
    (slot + core * 256)
  rw [State.outvoted_eq] at told
  rw [State.accused, State.outvoted_eq]
  exact told

/-- After an accusation the cluster holds the core in its self-test, and one record tells of it (R166, R168). -/
theorem State.accuse_told {slot item : Nat} {bus : List BusAccess} {v : Slot} {s : State}
    (at_ : s.vote.slots[slot]? = some v) (active : v.active = true) (three : s.vote.activeSlots = 3)
    (compares : s.compares = true) (old : ∀ c, v.joinedCycle = some c → c + 4 ≤ s.bench.cycle) :
    DwellOnly ((s.outvoted slot bus).vote.toSelfTest slot v.core) (s.accuse slot item bus).vote ∧
      Recorded s (s.accuse slot item bus) 0x1001 s.bench.cycle (slot + v.core * 256) item ∧
      s.accuse slot item bus =
        { s with vote := (s.accuse slot item bus).vote, recorder := (s.accuse slot item bus).recorder,
                 hi := (s.accuse slot item bus).hi, outbox := (s.accuse slot item bus).outbox } := by
  obtain ⟨recorded, only⟩ := s.accused_told slot item v.core bus
  obtain ⟨dwell, sync⟩ := State.dwellSync_testing (s := (s.accused slot item v.core bus).toSelfTest slot v.core) rfl
  rw [State.accuse_settled at_ active three compares old, sync]
  generalize State.vote (State.dwellSync _) = w at dwell ⊢
  generalize s.accused slot item v.core bus = u at recorded only dwell ⊢
  refine ⟨?_, recorded_framed recorded rfl, ?_⟩
  · rwa [only] at dwell
  · rw [only]
    rfl

/-- The accused core is in its self-test, which destroys what it held; what the other two agree on is written (R164,
R166, R168). -/
theorem execCoreAccuse_settled {slot item : Nat} {bus : List BusAccess} {v : Slot} {s : State}
    (at_ : s.vote.slots[slot]? = some v) (active : v.active = true) (three : s.vote.activeSlots = 3)
    (compares : s.compares = true) (old : ∀ c, v.joinedCycle = some c → c + 4 ≤ s.bench.cycle)
    (fitted : v.core < s.vote.cores.length) :
    ∃ t, exec (.coreAccuse slot item bus) s = .next t ∧ t.core v.core = .selfTest ∧ t.vote.testing = some slot ∧
      t.vote.slots = s.vote.slots.set slot { v with active := false } ∧
      t.vote.accusations = s.vote.accusations + 1 ∧ t.vote.lastAccuse = s.bench.cycle ∧ t.voteMode = 3 ∧
      (v.core < s.vote.stores.length → t.vote.stores[v.core]? = some {}) ∧
      (∀ a, voted 3 bus = some a → t.vote.sram = storeWord s.vote.sram sramBytes a) ∧
      (voted 3 bus = none → t.vote.sram = s.vote.sram) ∧
      Recorded s t 0x1001 s.bench.cycle (slot + v.core * 256) item ∧
      t = { s with vote := t.vote, recorder := t.recorder, hi := t.hi, outbox := t.outbox } := by
  refine ⟨(s.accuse slot item bus).settle, rfl, ?_⟩
  have sound : s.vote.lockstepBroken = false := by
    simp only [State.compares, Bool.and_eq_true, Bool.not_eq_true'] at compares
    exact compares.1.2
  obtain ⟨dwell, recorded, only⟩ := State.accuse_told (item := item) (bus := bus) at_ active three compares old
  obtain ⟨slots, cores, stores, count, last, lockstep, sram⟩ := State.outvoted_vote at_ bus
  obtain ⟨slots', cores', test, -, -, count', last', lockstep', stores', sram'⟩ := dwell.kept
  simp only [Vote.toSelfTest, slots, cores, stores, count, last, lockstep, sram, three, sound]
    at slots' cores' test count' last' lockstep' stores' sram'
  generalize s.accuse slot item bus = u at *
  refine ⟨?_, by simpa only [State.settle_frame] using test, by simpa only [State.settle_frame] using slots',
    by simpa only [State.settle_frame] using count', by simpa only [State.settle_frame] using last', ?_, ?_, ?_, ?_,
    recorded_settle recorded, ?_⟩
  · simp [State.core, State.settle_frame, cores', upd, fitted]
  · simp [State.voteMode, Vote.selfTesting, State.settle_frame, lockstep', test]
  · intro fitted
    simp [State.settle_frame, stores', upd, fitted]
  · intro a released
    simp [State.settle_frame, sram', released]
  · intro withheld
    simp [State.settle_frame, sram', withheld]
  · rw [State.settle_eq, only]

end Sys2Proof.Machine
end

section
/-! PROOF. An entry into LOCKOUT (R212, R213): what it clears, and what it leaves as it is. -/

namespace Sys2Proof.Machine

open Sys2Proof Sys2Proof.Safety

/-- The states from which an F4 cause leads to LOCKOUT (R212). -/
def LocksOut (s : State) : Prop :=
  s.power.state = .run ∨ s.power.state = .start ∨ s.power.state = .stop ∨ s.power.state = .safe

/-- LOCKOUT as entered: the stand-down, the power state with its record, the event and its notification (R212, R213). -/
theorem State.enterLockout_entered {s : State} (h : LocksOut s) (cause : Nat) (halt repeated : Bool) :
    s.enterLockout cause halt repeated =
      (({ s.standDown halt with
          power := { (s.standDown halt).power with
            state := .lockout, ledTest := false, record := some (s.newRecord 4 cause s.recentEntries.length),
            lockoutCause := cause, repeated := repeated, readyOff := true, wasSafe := false } }).event 0x0101 .cl .f4).note
        0x0181 (s.newRecord 4 cause s.recentEntries.length).bytes := by
  rcases h with run | start | stop | safe
  · simp only [State.enterLockout, run]
    rfl
  · simp only [State.enterLockout, start]
    rfl
  · simp only [State.enterLockout, stop]
    rfl
  · simp only [State.enterLockout, safe]
    rfl

theorem State.enterLockout_field {s : State} (h : LocksOut s) (cause : Nat) (halt repeated : Bool) :
    (s.enterLockout cause halt repeated).field = { s.field with demands := 0 } := by
  rw [State.enterLockout_entered h]
  simp only [State.note_frame, State.event_frame, State.standDown_field]

theorem State.enterLockout_takesBack {s : State} (h : LocksOut s) (cause : Nat) (halt repeated : Bool) :
    (s.enterLockout cause halt repeated).sec = s.takeBack.sec := by
  rw [State.enterLockout_entered h]
  simp only [State.note_frame, State.event_frame, State.standDown_sec]

theorem State.enterLockout_standsDown {s : State} (h : LocksOut s) (cause : Nat) (halt repeated : Bool) :
    StandsDown s (s.enterLockout cause halt repeated) := by
  unfold StandsDown
  apply State.ext <;> simp only [State.enterLockout_frame, State.enterLockout_field h, State.enterLockout_takesBack h]

theorem State.enterLockout_locksOut {s : State} (h : LocksOut s) (cause : Nat) :
    LockoutFrom s (s.enterLockout cause) cause := by
  have stands := State.enterLockout_standsDown h cause false false
  obtain ⟨queue, txns, -, free⟩ := s.standDown_eng false
  obtain ⟨forces, -⟩ := s.standDown_forces false
  unfold LockoutFrom
  rw [State.enterLockout_entered h] at stands ⊢
  simp only [State.note_frame, State.event_frame]
  exact ⟨trivial, trivial, trivial, trivial, ⟨_, rfl, rfl, rfl, rfl⟩, forces, queue, txns, free, stands⟩

/-- What a stand-down leaves as it is does not depend on what the cluster and the recorder held before it. -/
theorem standsDown_from {s u t : State} (h : StandsDown u t)
    (only : u = { s with vote := u.vote, recorder := u.recorder, hi := u.hi, outbox := u.outbox }) : StandsDown s t := by
  have sec : u.takeBack.sec = s.takeBack.sec := State.takeBack_sec_congr (by rw [only]) (by rw [only])
  unfold StandsDown at *
  rw [sec, only] at h
  exact h

theorem lockoutFrom_from {s u t : State} {cause : Nat} (h : LockoutFrom u t cause)
    (only : u = { s with vote := u.vote, recorder := u.recorder, hi := u.hi, outbox := u.outbox }) :
    LockoutFrom s t cause := by
  obtain ⟨state, cause', repeated, ready, record, forces, queue, txns, free, down⟩ := h
  rw [only] at record
  exact ⟨state, cause', repeated, ready, record, forces, queue, txns, free, standsDown_from down only⟩

theorem lockoutFrom_settle {s t : State} {cause : Nat} (h : LockoutFrom s t cause) : LockoutFrom s t.settle cause := by
  obtain ⟨state, cause', repeated, ready, record, forces, queue, txns, free, down⟩ := h
  have down' := standsDown_settle down
  unfold LockoutFrom
  simp only [State.settle_frame]
  exact ⟨state, cause', repeated, ready, record, forces, queue, txns, free, down'⟩

theorem State.enterLockout_codes {s : State} (h : LocksOut s) (cause : Nat) :
    (s.enterLockout cause).bench.codes = s.bench.codes := by
  rw [State.enterLockout_entered h]
  simp only [State.note_frame, State.event_frame, State.standDown_codes]

end Sys2Proof.Machine
end

section
/-! PROOF. Verdicts without a culprit: a disagreement of the cores (R167, R176) and comparators that differ (R177). -/

namespace Sys2Proof.Machine

open Sys2Proof Sys2Proof.Safety

/-! ### Disagreement -/

/-- Cores taken into their self-tests, which destroy what they held (R168, R176). -/
def State.testCores (s : State) (l : List Nat) : State :=
  l.foldl (fun s c => (s.setCore c .selfTest).destroyStore c) s

theorem State.testCores_eq (l : List Nat) (s : State) :
    s.testCores l = { s with vote := { s.vote with
      cores := (s.testCores l).vote.cores, stores := (s.testCores l).vote.stores } } := by
  induction l generalizing s with
  | nil => rfl
  | cons c l ih =>
    rw [State.testCores, List.foldl_cons, ← State.testCores, ih]
    rfl

theorem State.setCore_core (s : State) (c d : Nat) (x : CoreState) :
    (s.setCore c x).core d = if c = d ∧ d < s.vote.cores.length then x else s.core d := by
  simp only [State.core, State.setCore, upd, List.getD_eq_getElem?_getD, List.getElem?_modify]
  by_cases same : c = d
  · by_cases inside : d < s.vote.cores.length <;> simp [same, inside]
  · simp [same]

theorem State.testCores_core (l : List Nat) (s : State) :
    ∀ c ∈ l, c < (s.testCores l).vote.cores.length → (s.testCores l).core c = .selfTest := by
  refine foldl_forall (P := fun t c => c < t.vote.cores.length → t.core c = .selfTest) ?_ ?_ l s
  · intro t c inside
    have inside' : c < t.vote.cores.length := by
      simpa [State.destroyStore, State.modStore, State.setCore, upd] using inside
    exact (t.setCore_core c c .selfTest).trans (if_pos ⟨rfl, inside'⟩)
  · intro t c d before inside
    have inside' : d < t.vote.cores.length := by
      simpa [State.destroyStore, State.modStore, State.setCore, upd] using inside
    refine (t.setCore_core c d .selfTest).trans ?_
    rw [before inside', ite_self]

theorem State.testCores_length (l : List Nat) (s : State) :
    (s.testCores l).vote.cores.length = s.vote.cores.length :=
  List.foldlRecOn (motive := fun t : State => t.vote.cores.length = s.vote.cores.length) l _ rfl fun t same c _ => by
    simpa [State.destroyStore, State.modStore, State.setCore, upd] using same

/-- The state in which a disagreement finds the module: every core of a slot in its self-test (R167, R176). -/
def State.disagreed (s : State) (code verdict : Nat) : State :=
  let tested := s.testCores ((s.vote.slots.filter fun x => !x.vacant).map Slot.core)
  { tested with vote := { tested.vote with
    testing := none, laneCheck := none, joining := none, joinReady := false, cause := code
    verdictWord := word (verdict + 0xF0 + (verdict + 0xF0) * 256
      + State.disagreement.bitsOfSlots s.vote.slots * 65536) } }

theorem State.disagreement_eq (s : State) (code verdict : Nat) :
    s.disagreement code verdict = (s.disagreed code verdict).enterSafe code false := rfl

theorem State.disagreed_eq (s : State) (code verdict : Nat) :
    s.disagreed code verdict = { s with vote := (s.disagreed code verdict).vote } := by
  rw [State.disagreed, State.testCores_eq]

theorem State.disagreed_cores (s : State) (code verdict : Nat) :
    ∀ x ∈ s.vote.slots, x.vacant = false → x.core < s.vote.cores.length →
      (s.disagreed code verdict).core x.core = .selfTest := by
  intro x slot served fitted
  refine State.testCores_core _ s x.core (List.mem_map_of_mem (List.mem_filter.mpr ⟨slot, by simp [served]⟩)) ?_
  rwa [State.testCores_length]

/-- A disagreement is an F3 cause that sends no halt code and has every core of a slot tested (R167, R176, R206). -/
theorem State.disagreement_enters {s : State} (h : EntersSafe s) (code verdict : Nat) :
    let t := s.disagreement code verdict
    SafeFrom s t code ∧ t.vote.cause = code ∧ t.vote.joining = none ∧ t.bench.codes = s.bench.codes ∧
      t.vote.slots = s.vote.slots ∧
      (∀ x ∈ s.vote.slots, x.vacant = false → x.core < s.vote.cores.length → t.core x.core = .selfTest) ∧
      StandsDown s t := by
  have only := s.disagreed_eq code verdict
  have cores := s.disagreed_cores code verdict
  have slots : (s.disagreed code verdict).vote.slots = s.vote.slots := by
    rw [State.disagreed, State.testCores_eq]
  have cause : (s.disagreed code verdict).vote.cause = code := rfl
  have joining : (s.disagreed code verdict).vote.joining = none := rfl
  rw [State.disagreement_eq]
  generalize s.disagreed code verdict = u at *
  have enters : EntersSafe u := by rw [only]; exact h
  have safe := State.enterSafe_enters enters code false
  have down := State.enterSafe_standsDown enters code false
  have codes := State.enterSafe_codes enters code
  have votes := State.enterSafe_vote_frame u code false
  generalize u.enterSafe code false = t at *
  simp only [State.core, votes]
  have down' := standsDown_from down (s := s) (by rw [only])
  rw [only] at safe codes
  exact ⟨safe, cause, joining, codes, slots, cores, down'⟩

/-- What an entry into SAFE on a disagreement gives holds after the comparison point and after the refresh of the mirror. -/
theorem disagreed_at_busPoint {s : State} (h : EntersSafe s) (bus : List BusAccess) (code verdict : Nat) :
    let t := ((s.busPoint bus).disagreement code verdict).settle
    SafeFrom s t code ∧ t.vote.cause = code ∧ t.bench.codes = s.bench.codes ∧ t.vote.slots = s.vote.slots ∧
      (∀ x ∈ s.vote.slots, x.vacant = false → x.core < s.vote.cores.length → t.core x.core = .selfTest) ∧
      StandsDown s t := by
  have held := s.busPoint_eq bus
  have enters : EntersSafe (s.busPoint bus) := by rw [held]; exact h
  obtain ⟨safe, cause, -, codes, slots, cores, down⟩ := State.disagreement_enters enters code verdict
  generalize (s.busPoint bus).disagreement code verdict = t at *
  have down' := standsDown_from down (s := s) (by rw [held])
  rw [held] at safe codes slots cores
  intro u
  refine ⟨safeFrom_settle safe, ?_, ?_, ?_, ?_, standsDown_settle down'⟩
  · simpa only [u, State.settle_frame] using cause
  · simpa only [u, State.settle_frame] using codes
  · simpa only [u, State.settle_frame] using slots
  · simpa only [u, State.core, State.settle_frame] using cores

theorem execNoMajority_three {bus : List BusAccess} {s : State} (three : s.vote.activeSlots = 3)
    (compares : s.compares = true) (h : EntersSafe s) :
    ∃ t, exec (.noMajority bus) s = .next t ∧ SafeFrom s t 0x1020 ∧ t.vote.cause = 0x1020 ∧
      t.bench.codes = s.bench.codes ∧ t.vote.slots = s.vote.slots ∧
      (∀ x ∈ s.vote.slots, x.vacant = false → x.core < s.vote.cores.length → t.core x.core = .selfTest) ∧
      StandsDown s t := by
  refine ⟨_, rfl, ?_⟩
  rw [if_pos (by simp [three, compares])]
  exact disagreed_at_busPoint h bus 0x1020 2

theorem execMismatch_two {bus : List BusAccess} {s : State} (two : s.vote.activeSlots = 2)
    (compares : s.compares = true) (h : EntersSafe s) :
    ∃ t, exec (.mismatch bus) s = .next t ∧ SafeFrom s t 0x1021 ∧ t.vote.cause = 0x1021 ∧
      t.bench.codes = s.bench.codes ∧ t.vote.slots = s.vote.slots ∧
      (∀ x ∈ s.vote.slots, x.vacant = false → x.core < s.vote.cores.length → t.core x.core = .selfTest) ∧
      StandsDown s t := by
  refine ⟨_, rfl, ?_⟩
  rw [if_pos (by simp [two, compares])]
  exact disagreed_at_busPoint h bus 0x1021 3

/-! ### Comparators that differ -/

/-- The F4 cause of the comparators from every state in which their verdicts count but LOCKOUT (R177, R212). -/
theorem execComparatorsDiffer_locksOut {x y : Byte} {s : State} (compares : s.compares = true) (differ : x ≠ y)
    (h : LocksOut s) :
    ∃ t, exec (.comparatorsDiffer x y) s = .next t ∧ LockoutFrom s t 0x1022 ∧ t.power.comparatorsBad = true ∧
      FirstReport s t 0x1022 s.bench.cycle x.toNat y.toNat ∧ t.bench.codes = s.bench.codes := by
  refine ⟨_, rfl, ?_⟩
  rw [if_pos (by simp [compares, differ]), State.comparatorsDiffer]
  have told : LocksOut (s.voteEvent 0x1022 .f4 x.toNat y.toNat) := h
  have locked := State.enterLockout_locksOut told 0x1022
  have codes := State.enterLockout_codes told 0x1022
  have first : FirstReport s ((s.voteEvent 0x1022 .f4 x.toNat y.toNat).enterLockout 0x1022) 0x1022 s.bench.cycle x.toNat
      y.toNat := firstReport_of_inboxKept rfl (State.enterLockout_inboxKept ..)
  generalize (s.voteEvent 0x1022 .f4 x.toNat y.toNat).enterLockout 0x1022 = t at *
  obtain ⟨state, cause, repeated, ready, record, forces, queue, txns, free, down⟩ := lockoutFrom_from locked (s := s) rfl
  have down' : StandsDown s { t with power := { t.power with comparatorsBad := true } } := by
    unfold StandsDown at *
    rw [down]
  refine ⟨lockoutFrom_settle ⟨state, cause, repeated, ready, record, forces, queue, txns, free, down'⟩, ?_, ?_, ?_⟩
  · simp only [State.settle_frame]
  · simpa only [FirstReport, State.settle_frame] using first
  · simp only [State.settle_frame]
    exact codes

/-- In LOCKOUT the cause is recorded, and both comparators must then be tested (R177). -/
theorem execComparatorsDiffer_lockedOut {x y : Byte} {s : State} (compares : s.compares = true) (differ : x ≠ y)
    (lockout : s.power.state = .lockout) :
    ∃ t, exec (.comparatorsDiffer x y) s = .next t ∧ t.power = { s.power with comparatorsBad := true } ∧
      Recorded s t 0x1022 s.bench.cycle x.toNat y.toNat ∧
      t = { s with power := t.power, recorder := t.recorder, hi := mirrorOf s t } := by
  refine ⟨_, rfl, ?_⟩
  have stays : (s.voteEvent 0x1022 .f4 x.toNat y.toNat).enterLockout 0x1022 = s.voteEvent 0x1022 .f4 x.toNat y.toNat := by
    simp only [State.enterLockout, State.voteEvent_frame, lockout]
  rw [if_pos (by simp [compares, differ]), State.comparatorsDiffer, stays]
  refine ⟨by simp only [State.settle_frame, State.voteEvent_frame],
    recorded_settle (recorded_framed (State.voteEvent_recorded rfl rfl rfl ..) rfl), ?_⟩
  rw [State.settle_eq]
  rfl

end Sys2Proof.Machine
end

section
/-! PROOF. The statement about accusations, disagreement and differing comparators. -/

namespace Sys2Proof.Proofs

open Sys2Proof Sys2Proof.Machine Sys2Proof.Safety

/-- Settles O31: an accusation, disagreement among three and between two cores, and comparators that differ, in LOCKOUT
too. That these causes send no halt code is the model's choice (log entry 43). -/
theorem votingFaults : Obligations.VotingFaults := by
  unfold Obligations.VotingFaults
  refine ⟨?accused, ?noMajority, ?mismatch, ?comparators, ?again⟩
  case accused =>
    intro slot item bus v s slot' active three compares old fitted
    exact execCoreAccuse_settled slot' active three compares old fitted
  case noMajority =>
    intro bus s three compares enters
    exact execNoMajority_three three compares enters
  case mismatch =>
    intro bus s two compares enters
    exact execMismatch_two two compares enters
  case comparators =>
    intro x y s compares differ from'
    exact execComparatorsDiffer_locksOut compares differ from'
  case again =>
    intro x y s compares differ lockout
    exact execComparatorsDiffer_lockedOut compares differ lockout

end Sys2Proof.Proofs
end

section
/-! PROOF. Cores that are marked, and how the inbox of the recorder grows while the cluster tells of its faults (R171,
R174). -/

namespace Sys2Proof.Machine

open Sys2Proof Sys2Proof.Safety

/-! ### A core marked FAILED -/

theorem State.markFailed_cores (s : State) (core cause : Nat) :
    (s.markFailed core cause).vote.cores = upd s.vote.cores core fun _ => .failed := by
  simp [State.markFailed, State.voteNote_frame, State.voteEvent_frame, State.putRepair_frame, State.setCore]

/-- The slot that a core loses when it is marked FAILED (R171). -/
def Slot.vacatedBy (core : Nat) (x : Slot) : Slot :=
  if x.core = core then { x with active := false, vacant := true } else x

theorem State.markFailed_slots (s : State) (core cause : Nat) :
    (s.markFailed core cause).vote.slots = s.vote.slots.map (Slot.vacatedBy core) := by
  simp only [State.markFailed, State.voteNote_frame, State.voteEvent_frame]
  rfl

theorem State.markFailed_repair (s : State) (core cause : Nat) :
    (s.markFailed core cause).repair = { s.repair with marks := s.repair.marks.set core 1 } := by
  calc (s.markFailed core cause).repair
      = ((s.setCore core .failed).putRepair fun r => { r with marks := r.marks.set core 1 }).repair := by
        simp only [State.repair, State.markFailed, State.voteNote_frame, State.voteEvent_frame]
    _ = { s.repair with marks := s.repair.marks.set core 1 } := State.putRepair_repair ..

/-- Marking a core tells it, and changes the cluster and the repair record besides (R171). -/
theorem State.markFailed_eq (s : State) (core cause : Nat) :
    s.markFailed core cause =
      { s with vote := (s.markFailed core cause).vote, test := (s.markFailed core cause).test,
               recorder := (s.markFailed core cause).recorder, hi := (s.markFailed core cause).hi,
               outbox := (s.markFailed core cause).outbox } := by
  apply State.ext <;> simp only [State.markFailed_frame]

/-! ### The inbox of the recorder -/

theorem inboxKept_of_recorded {s t : State} {code a b c : Nat} (h : Recorded s t code a b c) : InboxKept s t := by
  obtain ⟨r, only, -⟩ := h
  exact ⟨[r], by rw [only]⟩

theorem InboxKept.trans {s t u : State} (h : InboxKept s t) (k : InboxKept t u) : InboxKept s u := List.IsPrefix.trans h k

theorem InboxKept.told {s t : State} (h : InboxKept s t) (code : Nat) (sev : Severity) (p1 p2 noteCode a b : Nat) :
    InboxKept s ((t.voteEvent code sev p1 p2).voteNote noteCode a b) :=
  h.trans (inboxKept_of_recorded (t.voteEvent_told code sev p1 p2 noteCode a b).1)

theorem InboxKept.refl (s : State) : InboxKept s s := List.prefix_refl _

theorem State.markFailed_inboxKept (s : State) (core cause : Nat) : InboxKept s (s.markFailed core cause) := by
  unfold State.markFailed
  refine InboxKept.told ?_ ..
  exact (InboxKept.refl s).framed rfl

theorem State.dwellWarn60_inboxKept (s : State) (left : Nat) : InboxKept s (s.dwellWarn60 left) := by
  unfold State.dwellWarn60
  split
  · exact .refl _
  · split
    · exact .refl _
    · exact inboxKept_of_recorded (State.dwellSay_told { s with vote := { s.vote with warned60 := true } } left).1

theorem State.dwellWarn10_inboxKept (s : State) (left : Nat) : InboxKept s (s.dwellWarn10 left) := by
  unfold State.dwellWarn10
  split
  · exact .refl _
  · split
    · exact .refl _
    · exact inboxKept_of_recorded (State.dwellSay_told { s with vote := { s.vote with warned10 := true } } left).1

theorem State.dwellWarn_inboxKept (s : State) : InboxKept s s.dwellWarn := by
  unfold State.dwellWarn
  split
  · exact .refl _
  · exact (s.dwellWarn60_inboxKept _).trans (State.dwellWarn10_inboxKept ..)

theorem State.dwellSync_inboxKept (s : State) : InboxKept s s.dwellSync := by
  simp only [State.dwellSync]
  split
  · exact .refl _
  · split
    · have marked : InboxKept s (if s.vote.dwellMarkUs.isNone then
          { s with vote := { s.vote with dwellMarkUs := some s.opUs } } else s) := by
        split <;> exact .refl _
      generalize (if s.vote.dwellMarkUs.isNone then
          { s with vote := { s.vote with dwellMarkUs := some s.opUs } } else s) = t at marked ⊢
      split
      · exact marked
      · have entered : InboxKept s { t with vote := { t.vote with dwellEntered := true } } := marked
        exact (entered.told ..).trans (State.dwellWarn_inboxKept _)
    · exact (InboxKept.refl s).framed (by simp only [State.dwellPause_frame])

end Sys2Proof.Machine
end

section
/-! PROOF. The verdict of a targeted self-test, and the end of a sync window (R168, R171, R172). -/

namespace Sys2Proof.Machine

open Sys2Proof Sys2Proof.Safety

/-! ### A passed self-test -/

theorem execTargetedSelfTestDone_passed {slot : Nat} {s : State} (testing : s.vote.testing = some slot) :
    ∃ t, exec (.targetedSelfTestDone 0) s = .next t ∧
      t.vote = { s.vote with testing := none, laneCheck := some slot } ∧
      Recorded s t 0x1002 s.bench.cycle (s.slotCore slot) 0 ∧
      t = { s with vote := t.vote, recorder := t.recorder, hi := mirrorOf s t } := by
  refine ⟨_, rfl, ?_⟩
  simp only [State.selfTested, testing, if_true, Nat.add_zero]
  refine ⟨by simp only [State.settle_frame, State.voteEvent_frame],
    recorded_settle (recorded_framed (State.voteEvent_recorded rfl rfl rfl ..) rfl), ?_⟩
  rw [State.settle_eq]
  rfl

/-! ### A failed self-test -/

theorem State.markFailed_spareReady {core : Nat} (other : core ≠ 3) (s : State) (cause : Nat) :
    (s.markFailed core cause).spareReady = s.spareReady := by
  simp [State.spareReady, State.core, State.markFailed_cores, State.markFailed_frame, State.markFailed_vote_frame, upd, other]

theorem State.core_inside {s : State} {c : Nat} (fitted : s.core c ≠ .absent) : c < s.vote.cores.length := by
  by_contra outside
  exact fitted (List.getD_eq_default _ _ (Nat.not_lt.mp outside))

theorem State.spareReady_reserve {s : State} (ready : s.spareReady = true) : s.core 3 = .reserve := by
  simp only [State.spareReady, Bool.and_eq_true, beq_iff_eq] at ready
  exact ready.1.2

/-- A permanent fault in a slot: its core FAILED, its slot vacant, and a ready Core S in its sync window (R171). -/
theorem State.permanent_vote {slot : Nat} {x : Slot} {s : State} (at_ : s.vote.slots[slot]? = some x)
    (fitted : x.core < s.vote.cores.length) (other : x.core ≠ 3) (cause : Nat) :
    (s.permanent slot x.core cause).core x.core = .failed ∧
      (s.permanent slot x.core cause).vote.slots[slot]? = some { x with active := false, vacant := true } ∧
      (s.spareReady = true → (s.permanent slot x.core cause).core 3 = .syncing ∧
        (s.permanent slot x.core cause).vote.joining = some (slot, 3)) := by
  have failed : (s.markFailed x.core cause).core x.core = .failed := by
    simp [State.core, State.markFailed_cores, upd, fitted]
  have vacant : (s.markFailed x.core cause).vote.slots[slot]? = some { x with active := false, vacant := true } := by
    simp [State.markFailed_slots, at_, Slot.vacatedBy]
  have ready := State.markFailed_spareReady other s cause
  simp only [State.permanent, State.substitute]
  generalize s.markFailed x.core cause = t at failed vacant ready ⊢
  by_cases spare : t.spareReady = true
  · have present : 3 < t.vote.cores.length := State.core_inside (by simp [State.spareReady_reserve spare])
    simp only [spare, if_true]
    refine ⟨?_, vacant, fun _ => ⟨?_, trivial⟩⟩
    · exact (t.setCore_core 3 x.core .syncing).trans (by rw [if_neg (by simp [Ne.symm other]), failed])
    · exact (t.setCore_core 3 3 .syncing).trans (if_pos ⟨rfl, present⟩)
  · rw [if_neg spare]
    exact ⟨failed, vacant, fun h => absurd (ready.trans h) spare⟩

theorem State.permanent_repair (s : State) (slot core cause : Nat) :
    (s.permanent slot core cause).repair = { s.repair with marks := s.repair.marks.set core 1 } := by
  rw [← State.markFailed_repair s core cause]
  simp only [State.repair, State.permanent, State.substitute_frame]

/-- The end of a targeted self-test that failed, told (R168). -/
def State.selfTestFailed (s : State) (core block : Nat) : State :=
  { s.voteEvent 0x1002 .f0 (core + 256) block with vote := { s.vote with testing := none } }

theorem State.selfTested_failed {slot block : Nat} {x : Slot} {s : State} (testing : s.vote.testing = some slot)
    (at_ : s.vote.slots[slot]? = some x) (failed : block ≠ 0) :
    s.selfTested block = ((s.selfTestFailed x.core block).permanent slot x.core 1).dwellSync := by
  have core : s.slotCore slot = x.core := by simp [State.slotCore, at_]
  simp only [State.selfTested, testing, core, if_neg failed, State.voteEvent_frame, State.selfTestFailed]

theorem State.permanent_inboxKept (s : State) (slot core cause : Nat) : InboxKept s (s.permanent slot core cause) :=
  (s.markFailed_inboxKept core cause).framed (by simp only [State.permanent, State.substitute_frame])

theorem execTargetedSelfTestDone_failed {slot block : Nat} {x : Slot} {s : State} (testing : s.vote.testing = some slot)
    (at_ : s.vote.slots[slot]? = some x) (fitted : x.core < s.vote.cores.length) (other : x.core ≠ 3)
    (failed : block ≠ 0) :
    ∃ t y, exec (.targetedSelfTestDone block) s = .next t ∧ t.core x.core = .failed ∧
      t.vote.slots[slot]? = some y ∧ y.vacant = true ∧ y.active = false ∧ t.vote.testing = none ∧
      t.repair.marks = s.repair.marks.set x.core 1 ∧ FirstReport s t 0x1002 s.bench.cycle (x.core + 256) block ∧
      (s.spareReady = true → t.core 3 = .syncing ∧ t.vote.joining = some (slot, 3)) ∧
      t = { s with vote := t.vote, test := t.test, recorder := t.recorder, hi := t.hi, outbox := t.outbox } := by
  refine ⟨(s.selfTested block).settle, { x with active := false, vacant := true }, rfl, ?_⟩
  obtain ⟨marked, vacant, spare⟩ := State.permanent_vote (s := s.selfTestFailed x.core block) at_ fitted other 1
  have repair := (s.selfTestFailed x.core block).permanent_repair slot x.core 1
  have votes := (s.selfTestFailed x.core block).permanent_vote_frame slot x.core 1
  have frame := (s.selfTestFailed x.core block).permanent_frame slot x.core 1
  have inbox := ((s.selfTestFailed x.core block).permanent_inboxKept slot x.core 1).trans (State.dwellSync_inboxKept _)
  rw [State.selfTested_failed testing at_ failed]
  generalize (s.selfTestFailed x.core block).permanent slot x.core 1 = p at *
  simp only [State.core, State.repair, State.settle_frame, State.dwellSync_frame, State.dwellSync_vote_frame]
    at marked vacant spare repair ⊢
  refine ⟨marked, vacant, trivial, trivial, ?_, ?_, ?_, spare, ?_⟩
  · simp only [votes]
    rfl
  · rw [repair]
    rfl
  · have first : FirstReport s p.dwellSync 0x1002 s.bench.cycle (x.core + 256) block :=
      firstReport_of_inboxKept (u := s) rfl inbox
    simpa only [FirstReport, State.settle_frame] using first
  · apply State.ext <;> simp only [State.settle_frame, State.dwellSync_frame, frame] <;> rfl

/-! ### Sync windows -/

theorem execSyncWindowDone_same {slot core : Nat} {s : State} (run : s.power.state = .run)
    (joining : s.vote.joining = some (slot, core)) (waits : s.vote.joinReady = false) :
    ∃ t, exec (.syncWindowDone false) s = .next t ∧
      (∀ (v : Slot) (x : CoreStore), s.vote.slots.find? Slot.active = some v → s.vote.stores[v.core]? = some x →
        core < s.vote.stores.length →
        t.vote.stores[core]? = some { x with itcm := s.firmwareTcm, written := true }) ∧
      (∀ c, c ≠ core → t.vote.stores[c]? = s.vote.stores[c]?) ∧
      t = { s with vote := { s.vote with joinReady := true, stores := t.vote.stores }, hi := mirrorOf s t } := by
  refine ⟨(s.syncDone false).settle, rfl, ?_⟩
  have done : s.syncDone false = { s.copyCore core with vote := { (s.copyCore core).vote with joinReady := true } } := by
    simp [State.syncDone, joining, waits, State.inRun, run]
  rw [done]
  simp only [State.settle_frame]
  refine ⟨?_, ?_, ?_⟩
  · intro v x first held inside
    simp [State.copyCore, State.modStore, upd, first, held, inside]
  · intro c other
    simp [State.copyCore, State.modStore, upd, Ne.symm other]
  · rw [State.settle_eq]
    rfl

theorem execSyncWindowDone_differ {slot core : Nat} {s : State} (run : s.power.state = .run)
    (joining : s.vote.joining = some (slot, core)) (waits : s.vote.joinReady = false) (h : EntersSafe s) :
    ∃ t, exec (.syncWindowDone true) s = .next t ∧ SafeFrom s t 0x1021 ∧ t.vote.joining = none ∧ StandsDown s t := by
  refine ⟨(s.syncDone true).settle, rfl, ?_⟩
  have done : s.syncDone true = s.disagreement 0x1021 3 := by
    simp [State.syncDone, joining, waits, State.inRun, run]
  obtain ⟨safe, -, joins, -, -, -, down⟩ := State.disagreement_enters h 0x1021 3
  rw [done]
  exact ⟨safeFrom_settle safe, by simpa only [State.settle_frame] using joins, standsDown_settle down⟩

end Sys2Proof.Machine
end

section
/-! PROOF. The statement about the verdicts of targeted self-tests and sync windows. -/

namespace Sys2Proof.Proofs

open Sys2Proof Sys2Proof.Machine Sys2Proof.Safety

/-- Settles O32: a self-test that passed and one that failed, a sync window with equal streams and one with streams that
differ. -/
theorem selfTestVerdicts : Obligations.SelfTestVerdicts := by
  unfold Obligations.SelfTestVerdicts
  refine ⟨?passed, ?failed, ?same, ?differ⟩
  case passed =>
    intro slot s testing
    exact execTargetedSelfTestDone_passed testing
  case failed =>
    intro slot block x s testing at_ fitted other failed
    exact execTargetedSelfTestDone_failed testing at_ fitted other failed
  case same =>
    intro slot core s run joining waits
    exact execSyncWindowDone_same run joining waits
  case differ =>
    intro slot core s run joining waits enters
    exact execSyncWindowDone_differ run joining waits enters

end Sys2Proof.Proofs
end

section
/-! PROOF. The end of the self-tests of SAFE: transients counted, cores marked, slots filled again (R170, R171, R176). -/

namespace Sys2Proof.Machine

open Sys2Proof Sys2Proof.Safety

/-! ### Transients -/

/-- A transient that is not the fourth within 24 operating hours is counted, and nothing else (R170). -/
theorem State.countOrMark_few {s : State} {c : Nat} (few : (s.transientsOf c).length < 3) :
    s.countOrMark c = { s with vote := { s.vote with
      transients := upd s.vote.transients c fun _ => s.opS :: s.transientsOf c } } := by
  have first : (s.countTransient c).2 = false := by
    simp only [State.countTransient, List.length_cons, decide_eq_false_iff_not]
    omega
  simp only [State.countOrMark, first, Bool.false_eq_true, if_false]
  rfl

theorem State.transientsOf_other {c d : Nat} (other : c ≠ d) (s : State) (f : List Nat → List Nat) :
    State.transientsOf { s with vote := { s.vote with transients := upd s.vote.transients c f } } d = s.transientsOf d := by
  have kept : (upd s.vote.transients c f).getD d [] = s.vote.transients.getD d [] := by simp [upd, other]
  exact congrArg (List.filter fun t => s.opS < t + day) kept

theorem State.countOrMark_foldl_few {l : List Nat} (distinct : l.Nodup) {s : State}
    (few : ∀ c ∈ l, (s.transientsOf c).length < 3) :
    l.foldl State.countOrMark s =
      { s with vote := { s.vote with transients := (l.foldl State.countOrMark s).vote.transients } } := by
  induction l generalizing s with
  | nil => rfl
  | cons c l ih =>
    obtain ⟨notLater, distinct⟩ := List.nodup_cons.mp distinct
    rw [List.foldl_cons, State.countOrMark_few (few c List.mem_cons_self)]
    have later := ih distinct (s := { s with vote := { s.vote with
      transients := upd s.vote.transients c fun _ => s.opS :: s.transientsOf c } }) fun d member => by
        have other : c ≠ d := fun same => notLater (by rwa [same])
        rw [State.transientsOf_other other]
        exact few d (List.mem_cons_of_mem c member)
    rw [later]

/-! ### Cores marked FAILED -/

theorem State.markFailed_core (s : State) (c d cause : Nat) :
    (s.markFailed c cause).core d = if c = d ∧ d < s.vote.cores.length then .failed else s.core d := by
  rw [← State.setCore_core s c d .failed]
  simp only [State.core, State.markFailed_cores, State.setCore]

theorem State.markFailed_length (s : State) (c cause : Nat) :
    (s.markFailed c cause).vote.cores.length = s.vote.cores.length := by
  simp [State.markFailed_cores, upd]

/-- The cores that failed their self-tests, marked (R171, R176). -/
def State.markAll (s : State) (l : List Nat) : State := l.foldl (fun s c => s.markFailed c 4) s

theorem State.markAll_core (l : List Nat) (s : State) (d : Nat) :
    (s.markAll l).core d = if d ∈ l ∧ d < s.vote.cores.length then .failed else s.core d := by
  induction l generalizing s with
  | nil => simp [State.markAll]
  | cons c l ih =>
    rw [State.markAll, List.foldl_cons, ← State.markAll, ih, State.markFailed_core, State.markFailed_length]
    by_cases same : d = c
    · by_cases inside : d < s.vote.cores.length <;> simp [← same, inside]
    · simp [same, Ne.symm same]

theorem State.markAll_length (l : List Nat) (s : State) : (s.markAll l).vote.cores.length = s.vote.cores.length :=
  List.foldlRecOn (motive := fun t : State => t.vote.cores.length = s.vote.cores.length) l _ rfl fun t same c _ => by
    rw [State.markFailed_length, same]

theorem State.markAll_sigGood (l : List Nat) (s : State) : (s.markAll l).vote.sigGood = s.vote.sigGood :=
  State.foldl_vote_sigGood _ (fun s c => by simp only [State.markFailed_vote_frame]) l s

theorem State.markAll_cause (l : List Nat) (s : State) : (s.markAll l).vote.cause = s.vote.cause :=
  State.foldl_vote_cause _ (fun s c => by simp only [State.markFailed_vote_frame]) l s

theorem State.markAll_slotCores (l : List Nat) (s : State) :
    (s.markAll l).vote.slots.map Slot.core = s.vote.slots.map Slot.core :=
  List.foldlRecOn (motive := fun t : State => t.vote.slots.map Slot.core = s.vote.slots.map Slot.core) l _ rfl
    fun t same c _ => by
      rw [State.markFailed_slots, List.map_map, ← same]
      refine List.map_congr_left fun x _ => ?_
      simp only [Function.comp, Slot.vacatedBy]
      split <;> rfl

theorem State.markAll_inboxKept (l : List Nat) (s : State) : InboxKept s (s.markAll l) :=
  InboxKept.foldl (fun _ _ h => h.trans (State.markFailed_inboxKept ..)) (.refl s) l

theorem State.markAll_eq (l : List Nat) (s : State) :
    s.markAll l = { s with vote := (s.markAll l).vote, test := (s.markAll l).test, recorder := (s.markAll l).recorder,
                           hi := (s.markAll l).hi, outbox := (s.markAll l).outbox } := by
  induction l generalizing s with
  | nil => rfl
  | cons c l ih =>
    rw [State.markAll, List.foldl_cons, ← State.markAll, ih, State.markFailed_eq]

/-! ### The slots filled again -/

/-- The healthy cores in order (R176, log entry 39). -/
def State.servers (s : State) : List Nat := (List.range 4).filter s.coreHealthy

/-- Slots of one state filled with cores in order in another; those that remain vacant with their last core (R176). -/
def SlotsFilled (s t : State) (l : List Nat) : Prop :=
  (∀ (v c : Nat) (x : Slot), s.vote.slots[v]? = some x → l[v]? = some c →
    t.vote.slots[v]? = some { x with core := c, active := true, vacant := false, joinedCycle := none }) ∧
  (∀ (v : Nat) (x : Slot), s.vote.slots[v]? = some x → l[v]? = none →
    t.vote.slots[v]? = some { x with active := false, vacant := true, joinedCycle := none })

theorem State.rebuildSlots_eq (s : State) :
    s.rebuildSlots = { s with vote := s.rebuildSlots.vote, test := { s.test with repair := s.rebuildSlots.test.repair } } :=
  rfl

theorem State.rebuildSlots_filled {s u : State} (same : u.vote.slots.map Slot.core = s.vote.slots.map Slot.core) :
    SlotsFilled s u.rebuildSlots u.servers := by
  have match_ (v : Nat) (x : Slot) (at_ : s.vote.slots[v]? = some x) :
      ∃ y, u.vote.slots[v]? = some y ∧ y.core = x.core := by
    have cores := congrArg (·[v]?) same
    simpa [at_] using cores
  constructor
  · intro v c x at_ server
    rw [State.servers] at server
    obtain ⟨y, at', -⟩ := match_ v x at_
    simp [State.rebuildSlots, State.putRepair, withIndex, at', server]
  · intro v x at_ server
    rw [State.servers] at server
    obtain ⟨y, at', core⟩ := match_ v x at_
    simp [State.rebuildSlots, State.putRepair, withIndex, at', server, core]

theorem State.rebuildSlots_core_serves {s : State} {c : Nat} (serves : c ∈ s.servers.take 3)
    (fitted : c < s.vote.cores.length) : s.rebuildSlots.core c = .voting := by
  rw [State.servers] at serves
  simp [State.core, State.rebuildSlots, State.putRepair, withIndex, serves, fitted]

theorem State.rebuildSlots_core_failed {s : State} {c : Nat} (failed : s.core c = .failed) :
    s.rebuildSlots.core c = .failed := by
  have idle : c ∉ s.servers.take 3 := fun serves => by
    have healthy := List.mem_filter.mp (List.mem_of_mem_take serves)
    simp [State.coreHealthy, failed] at healthy
  rw [State.servers] at idle
  have fitted : c < s.vote.cores.length := State.core_inside (by simp [failed])
  have at_ : s.vote.cores[c] = .failed := by simpa [State.core, fitted] using failed
  simp [State.core, State.rebuildSlots, State.putRepair, withIndex, idle, fitted, at_]

end Sys2Proof.Machine
end

section
/-! PROOF. SAFE_SELF_TEST_DONE: every core passed, or some failed (R176). -/

namespace Sys2Proof.Machine

open Sys2Proof Sys2Proof.Safety

/-- The cores in their self-tests. -/
def State.underTest (s : State) : List Nat := (List.range 4).filter fun c => s.core c == .selfTest

/-- The end of the self-tests of SAFE, told with the cores that failed (R176, R182). -/
def State.safeTestTold (s : State) (bad : List Nat) : State :=
  { s.event s.vote.cause .cl .f3 s.bench.cycle s.vote.verdictWord.toNat (bad.map fun c => 2 ^ c).sum with
    vote := { s.vote with cause := 0 } }

/-- The cores judged: a transient of each where all passed, else those that failed marked (R170, R171, R176). -/
def State.safeTestJudged (s : State) (bad : List Nat) : State :=
  if bad.isEmpty then s.underTest.foldl State.countOrMark (s.safeTestTold bad) else (s.safeTestTold bad).markAll bad

theorem State.safeTested_eq {s : State} (running : s.vote.cause ≠ 0) (failed : List Nat) :
    s.safeTested failed =
      (let u := s.safeTestJudged (s.underTest.filter failed.contains)
       if u.servers.length < 2 then (s.underTest.foldl State.voteAgain u).enterLockout s.vote.cause
       else u.rebuildSlots) := by
  simp only [State.safeTested, if_neg running]
  rfl

/-! ### Every core passed -/

theorem State.safeTestJudged_passed {s : State} (few : ∀ c, s.core c = .selfTest → (s.transientsOf c).length < 3) :
    s.safeTestJudged [] = { s.safeTestTold [] with
      vote := { s.vote with cause := 0, transients := (s.safeTestJudged []).vote.transients } } :=
  State.countOrMark_foldl_few (s := s.safeTestTold []) (l := s.underTest) (List.nodup_range.filter _) fun c member =>
    few c (by simpa using (List.mem_filter.mp member).2)

theorem execSafeSelfTestDone_passed {failed l : List Nat} {s : State} (running : s.vote.cause ≠ 0)
    (passed : ∀ c ∈ failed, c < 4 → s.core c ≠ .selfTest) (healthy : l = s.servers) (enough : 2 ≤ l.length)
    (few : ∀ c, s.core c = .selfTest → (s.transientsOf c).length < 3) :
    ∃ t, exec (.safeSelfTestDone failed) s = .next t ∧ t.vote.cause = 0 ∧ SlotsFilled s t l ∧
      (∀ c ∈ l.take 3, c < s.vote.cores.length → t.core c = .voting) ∧
      Recorded s t s.vote.cause s.bench.cycle s.vote.verdictWord.toNat 0 ∧
      t = { s with vote := t.vote, test := { s.test with repair := t.test.repair }, recorder := t.recorder,
                   hi := mirrorOf s t } := by
  refine ⟨(s.safeTested failed).settle, rfl, ?_⟩
  have clean : s.underTest.filter failed.contains = [] := by
    refine List.filter_eq_nil_iff.mpr fun c member named => ?_
    obtain ⟨small, tested⟩ := List.mem_filter.mp member
    exact passed c (by simpa using named) (List.mem_range.mp small) (by simpa using tested)
  have only := State.safeTestJudged_passed few
  have recorded : Recorded s (s.safeTestTold []) s.vote.cause s.bench.cycle s.vote.verdictWord.toNat 0 :=
    State.event_recorded rfl rfl rfl ..
  rw [State.safeTested_eq running, clean]
  generalize s.safeTestJudged [] = u at only ⊢
  have servers : u.servers = l := by rw [only, healthy]; rfl
  have slots : u.vote.slots = s.vote.slots := by rw [only]
  have cores : u.vote.cores = s.vote.cores := by rw [only]
  have ended : u.vote.cause = 0 := by rw [only]
  have inbox : u.recorder = (s.safeTestTold []).recorder := by rw [only]
  have filled := State.rebuildSlots_filled (s := s) (u := u) (by rw [slots])
  simp only [servers, if_neg (Nat.not_lt.mpr enough)] at filled ⊢
  refine ⟨?_, ?_, ?_, ?_, ?_⟩
  · simp only [State.settle_frame, State.rebuildSlots_vote_frame, ended]
  · simpa only [SlotsFilled, State.settle_frame] using filled
  · intro c serves fitted
    simpa only [State.core, State.settle_frame] using
      State.rebuildSlots_core_serves (s := u) (by rwa [servers]) (by rwa [cores])
  · refine recorded_settle (recorded_framed recorded ?_)
    simp only [State.rebuildSlots_frame, inbox]
  · rw [State.settle_eq, State.rebuildSlots_eq, only]
    rfl

/-! ### Some cores failed -/

theorem State.safeTestJudged_failed {bad : List Nat} (any : bad ≠ []) (s : State) :
    s.safeTestJudged bad = (s.safeTestTold bad).markAll bad :=
  if_neg (by simpa using any)

/-- The cores marked are no longer healthy; the others are as healthy as they were. -/
theorem State.markAll_servers {s : State} {bad : List Nat} (fitted : s.vote.cores.length = 4) :
    (s.markAll bad).servers = (List.range 4).filter fun c => s.coreHealthy c && !bad.contains c := by
  refine List.filter_congr fun c member => ?_
  have small : c < s.vote.cores.length := by rw [fitted]; exact List.mem_range.mp member
  simp only [State.coreHealthy, State.markAll_core, State.markAll_sigGood]
  by_cases marked : c ∈ bad
  · simp [marked, small]
  · simp [marked]

theorem State.voteAgain_core_failed {s : State} {d : Nat} (failed : s.core d = .failed) (c : Nat) :
    (s.voteAgain c).core d = .failed := by
  unfold State.voteAgain
  split
  next tested =>
    rw [State.setCore_core, if_neg, failed]
    rintro ⟨rfl, -⟩
    simp [failed] at tested
  · exact failed

/-- The cores whose self-test is over with nothing decided vote again: the cluster alone changes. -/
theorem State.voteAgain_foldl_eq (l : List Nat) (s : State) :
    l.foldl State.voteAgain s = { s with vote := (l.foldl State.voteAgain s).vote } :=
  List.foldlRecOn (motive := fun t : State => t = { s with vote := t.vote }) l _ rfl fun t only c _ => by
    rw [State.voteAgain]
    split
    · rw [State.setCore, only]
    · exact only

theorem State.voteAgain_foldl_failed {s : State} {d : Nat} (failed : s.core d = .failed) (l : List Nat) :
    (l.foldl State.voteAgain s).core d = .failed :=
  List.foldlRecOn (motive := fun t : State => t.core d = .failed) l _ failed fun _ h c _ => State.voteAgain_core_failed h c

theorem State.voteAgain_foldl_cause (l : List Nat) (s : State) :
    (l.foldl State.voteAgain s).vote.cause = s.vote.cause :=
  State.foldl_vote_cause _ (fun s c => by simp only [State.voteAgain_vote_frame]) l s

/-- The self-tests are over: their cause ended and told, and the cores that failed are FAILED. -/
structure SafeTestOver (s : State) (bad : List Nat) (t : State) : Prop where
  cause : t.vote.cause = 0
  failed : ∀ c ∈ bad, t.core c = .failed
  inbox : InboxKept (s.safeTestTold bad) t

namespace SafeTestOver

variable {s t : State} {bad : List Nat}

theorem marked (small : ∀ c ∈ bad, c < s.vote.cores.length) :
    SafeTestOver s bad ((s.safeTestTold bad).markAll bad) where
  cause := State.markAll_cause ..
  failed c member := by rw [State.markAll_core, if_pos ⟨member, small c member⟩]
  inbox := State.markAll_inboxKept ..

theorem lockout (h : SafeTestOver s bad t) (l : List Nat) (cause : Nat) :
    SafeTestOver s bad ((l.foldl State.voteAgain t).enterLockout cause) where
  cause := by simp only [State.enterLockout_vote_frame, State.voteAgain_foldl_cause, h.cause]
  failed c member := by
    simpa only [State.core, State.enterLockout_vote_frame] using State.voteAgain_foldl_failed (h.failed c member) l
  inbox := (h.inbox.framed (by rw [State.voteAgain_foldl_eq])).trans (State.enterLockout_inboxKept ..)

theorem rebuilt (h : SafeTestOver s bad t) : SafeTestOver s bad t.rebuildSlots where
  cause := by simp only [State.rebuildSlots_vote_frame, h.cause]
  failed c member := State.rebuildSlots_core_failed (h.failed c member)
  inbox := h.inbox.framed (by simp only [State.rebuildSlots_frame])

theorem settle (h : SafeTestOver s bad t) : SafeTestOver s bad t.settle where
  cause := by simp only [State.settle_frame, h.cause]
  failed := by simpa only [State.core, State.settle_frame] using h.failed
  inbox := h.inbox.framed (by simp only [State.settle_frame])

theorem firstReport (h : SafeTestOver s bad t) :
    FirstReport s t s.vote.cause s.bench.cycle s.vote.verdictWord.toNat (bad.map fun c => 2 ^ c).sum :=
  firstReport_of_inboxKept (u := s) rfl h.inbox

end SafeTestOver

/-- With fewer than two healthy cores the module is in LOCKOUT on the cause of the self-tests (R176, R212). -/
theorem lockoutFrom_voteAgain {s u : State} (h : LocksOut s) (l : List Nat) (cause : Nat)
    (only : u = { s with vote := u.vote, test := u.test, recorder := u.recorder, hi := u.hi, outbox := u.outbox }) :
    let t := ((l.foldl State.voteAgain u).enterLockout cause).settle
    LockoutFrom { s with test := t.test } t cause := by
  have again := State.voteAgain_foldl_eq l u
  generalize l.foldl State.voteAgain u = w at again ⊢
  have same : w = { s with vote := w.vote, test := w.test, recorder := w.recorder, hi := w.hi, outbox := w.outbox } := by
    rw [again, only]
  have locks : LocksOut w := by rw [same]; exact h
  have test : (w.enterLockout cause).settle.test = w.test := by
    simp only [State.settle_frame, State.enterLockout_frame]
  have locked := lockoutFrom_settle (State.enterLockout_locksOut locks cause)
  intro t
  rw [test]
  exact lockoutFrom_from locked same

theorem execSafeSelfTestDone_failed {failed bad l : List Nat} {s : State} (running : s.vote.cause ≠ 0)
    (fitted : s.vote.cores.length = 4)
    (found : bad = (List.range 4).filter fun c => s.core c == .selfTest && failed.contains c) (any : bad ≠ [])
    (healthy : l = (List.range 4).filter fun c => s.coreHealthy c && !bad.contains c) :
    ∃ t, exec (.safeSelfTestDone failed) s = .next t ∧ t.vote.cause = 0 ∧ (∀ c ∈ bad, t.core c = .failed) ∧
      FirstReport s t s.vote.cause s.bench.cycle s.vote.verdictWord.toNat (bad.map fun c => 2 ^ c).sum ∧
      (2 ≤ l.length → SlotsFilled s t l ∧ (∀ c ∈ l.take 3, t.core c = .voting) ∧
        t = { s with vote := t.vote, test := t.test, recorder := t.recorder, hi := t.hi, outbox := t.outbox }) ∧
      (l.length < 2 → LocksOut s → LockoutFrom { s with test := t.test } t s.vote.cause) := by
  refine ⟨(s.safeTested failed).settle, rfl, ?_⟩
  have bad' : s.underTest.filter failed.contains = bad := by
    rw [found, State.underTest, List.filter_filter]
    exact List.filter_congr fun c _ => Bool.and_comm ..
  have small : ∀ c ∈ bad, c < s.vote.cores.length := by
    rw [found, fitted]
    exact fun c member => List.mem_range.mp (List.mem_filter.mp member).1
  have judged := SafeTestOver.marked small
  have only := (s.safeTestTold bad).markAll_eq bad
  have servers : ((s.safeTestTold bad).markAll bad).servers = l :=
    (State.markAll_servers (s := s.safeTestTold bad) fitted).trans healthy.symm
  have length : ((s.safeTestTold bad).markAll bad).vote.cores.length = 4 :=
    ((s.safeTestTold bad).markAll_length bad).trans fitted
  have filled := State.rebuildSlots_filled (s := s) ((s.safeTestTold bad).markAll_slotCores bad)
  rw [State.safeTested_eq running, bad', State.safeTestJudged_failed any]
  generalize (s.safeTestTold bad).markAll bad = u at *
  simp only [servers] at filled ⊢
  by_cases few : l.length < 2
  · rw [if_pos few]
    have ended := (judged.lockout s.underTest s.vote.cause).settle
    exact ⟨ended.cause, ended.failed, ended.firstReport, fun enough => absurd few (Nat.not_lt.mpr enough),
      fun _ locks => lockoutFrom_voteAgain locks s.underTest s.vote.cause only⟩
  · rw [if_neg few]
    have ended := judged.rebuilt.settle
    refine ⟨ended.cause, ended.failed, ended.firstReport, fun _ => ⟨?_, ?_, ?_⟩, fun few' => absurd few' few⟩
    · simpa only [SlotsFilled, State.settle_frame] using filled
    · intro c serves
      have inside : c < u.vote.cores.length := by
        rw [length]
        rw [healthy] at serves
        exact List.mem_range.mp (List.mem_filter.mp (List.mem_of_mem_take serves)).1
      simpa only [State.core, State.settle_frame] using
        State.rebuildSlots_core_serves (s := u) (by rwa [servers]) inside
    · rw [State.settle_eq, State.rebuildSlots_eq, only]
      rfl

end Sys2Proof.Machine
end

section
/-! PROOF. The statement about the self-tests of SAFE. -/

namespace Sys2Proof.Proofs

open Sys2Proof Sys2Proof.Machine Sys2Proof.Safety

/-- Settles O33: the self-tests that all passed, and those of which some failed. The order in which the slots are filled
is the model's choice (log entry 39). -/
theorem safeSelfTestRebuilds : Obligations.SafeSelfTestRebuilds := by
  unfold Obligations.SafeSelfTestRebuilds
  refine ⟨?passed, ?failed⟩
  case passed =>
    intro failed l s running passed healthy enough few
    obtain ⟨t, next, cause, ⟨filled, vacant⟩, serves, told, only⟩ :=
      execSafeSelfTestDone_passed running passed healthy enough few
    exact ⟨t, next, cause, filled, vacant, serves, told, only⟩
  case failed =>
    intro failed bad l s running fitted found any healthy
    obtain ⟨t, next, cause, marked, told, rebuilt, lockout⟩ :=
      execSafeSelfTestDone_failed running fitted found any healthy
    refine ⟨t, next, cause, marked, told, fun enough => ?_, lockout⟩
    obtain ⟨⟨filled, vacant⟩, serves, only⟩ := rebuilt enough
    exact ⟨filled, vacant, serves, only⟩

end Sys2Proof.Proofs
end

section
/-! PROOF. Core S in reserve, and errors of the cluster SRAM (R179, R180). -/

namespace Sys2Proof.Machine

open Sys2Proof Sys2Proof.Safety

/-! ### Core S's signatures -/

theorem execCoreSSignature_good {s : State} (spare : s.unit.variant.spare = true) (reserve : s.core 3 = .reserve) :
    ∃ t, exec (.coreSSignature (some s.vote.sigExpected)) s = .next t ∧
      t = { s with vote := { s.vote with sigGood := Nat.min 8 (s.vote.sigGood + 1) }, hi := mirrorOf s t } := by
  refine ⟨_, rfl, ?_⟩
  rw [if_neg (by simp [spare, reserve]), if_pos rfl, State.settle_eq]

theorem State.markUnhealthy_core {s : State} (reserve : s.core 3 = .reserve) : s.markUnhealthy.core 3 = .unhealthy :=
  (s.setCore_core 3 3 .unhealthy).trans (if_pos ⟨rfl, State.core_inside (by simp [reserve])⟩)

theorem State.markUnhealthy_repair (s : State) :
    s.markUnhealthy.repair = { s.repair with marks := s.repair.marks.set 3 2 } :=
  (s.setCore 3 .unhealthy).putRepair_repair fun r => { r with marks := r.marks.set 3 2 }

theorem State.markUnhealthy_eq (s : State) :
    s.markUnhealthy = { s with vote := s.markUnhealthy.vote, test := s.markUnhealthy.test } := rfl

/-- A wrong signature, or a bench cycle without one, makes Core S UNHEALTHY (R179). -/
theorem execCoreSSignature_bad {x : Option Word} {s : State} (spare : s.unit.variant.spare = true)
    (reserve : s.core 3 = .reserve) (bad : x ≠ some s.vote.sigExpected) :
    ∃ t, exec (.coreSSignature x) s = .next t ∧ t.core 3 = .unhealthy ∧ t.vote.sigGood = 0 ∧
      t.repair.marks = s.repair.marks.set 3 2 ∧ t.vote.slots = s.vote.slots ∧
      Recorded s t 0x1030 s.bench.cycle s.vote.sigExpected.toNat (x.getD 0).toNat ∧
      t = { s with vote := t.vote, test := t.test, recorder := t.recorder, hi := mirrorOf s t } := by
  refine ⟨_, rfl, ?_⟩
  rw [if_neg (by simp [spare, reserve]), if_neg bad]
  generalize told : s.voteEvent 0x1030 .f0 s.vote.sigExpected.toNat (x.getD 0).toNat = u
  have only : u = { s with recorder := u.recorder } := by rw [← told]; rfl
  have core : u.markUnhealthy.core 3 = .unhealthy := State.markUnhealthy_core (by rw [only]; exact reserve)
  have recorded : Recorded s u 0x1030 s.bench.cycle s.vote.sigExpected.toNat (x.getD 0).toNat := by
    rw [← told]
    exact State.voteEvent_recorded rfl rfl rfl ..
  have repair := u.markUnhealthy_repair
  simp only [State.core, State.repair, State.settle_frame] at core repair ⊢
  refine ⟨core, rfl, ?_, ?_, recorded_settle (recorded_framed recorded rfl), ?_⟩
  · rw [repair, only]
  · simp only [State.markUnhealthy_vote_frame]
    rw [only]
  · rw [State.settle_eq, State.markUnhealthy_eq, only]

/-! ### Errors of the SRAM -/

theorem execSramCorrectableError_powered {s : State} (powered : s.power.state.powered = true) (a y : Word) :
    ∃ t, exec (.sramCorrectableError a y) s = .next t ∧ Recorded s t 0x1031 s.bench.cycle a.toNat y.toNat ∧
      t = { s with recorder := t.recorder, hi := mirrorOf s t } := by
  refine ⟨_, rfl, ?_⟩
  rw [if_pos powered]
  refine ⟨recorded_settle (State.voteEvent_recorded rfl rfl rfl ..), ?_⟩
  rw [State.settle_eq]
  rfl

theorem powered_of_entersSafe {s : State} (h : EntersSafe s) : s.power.state.powered = true := by
  obtain ⟨run | start | stop, -⟩ := h
  · simp [run, PowerState.powered]
  · simp [start, PowerState.powered]
  · simp [stop, PowerState.powered]

theorem execSramUncorrectableError_entersSafe {s : State} (h : EntersSafe s) (a y : Word) :
    ∃ t, exec (.sramUncorrectableError a y) s = .next t ∧ SafeFrom s t 0x1032 ∧
      FirstReport s t 0x1032 s.bench.cycle a.toNat y.toNat ∧ StandsDown s t := by
  refine ⟨_, rfl, ?_⟩
  rw [if_pos (powered_of_entersSafe h)]
  have enters : EntersSafe (s.voteEvent 0x1032 .f3 a.toNat y.toNat) := h
  have safe := State.enterSafe_enters enters 0x1032 true
  have down := standsDown_from (State.enterSafe_standsDown enters 0x1032 true) (s := s) rfl
  have first : FirstReport s ((s.voteEvent 0x1032 .f3 a.toNat y.toNat).enterSafe 0x1032) 0x1032 s.bench.cycle a.toNat
      y.toNat := firstReport_of_inboxKept rfl (State.enterSafe_inboxKept enters 0x1032 true)
  refine ⟨safeFrom_settle safe, ?_, standsDown_settle down⟩
  simpa only [FirstReport, State.settle_frame] using first

end Sys2Proof.Machine
end

section
/-! PROOF. The statement about Core S's signatures and SRAM errors. -/

namespace Sys2Proof.Proofs

open Sys2Proof Sys2Proof.Machine Sys2Proof.Safety

/-- Settles O34: a good signature, a wrong or missing one, and the two kinds of SRAM errors. That the count of good
signatures falls to 0 is the model's choice (log entry 42). -/
theorem spareAndMemoryErrors : Obligations.SpareAndMemoryErrors := by
  unfold Obligations.SpareAndMemoryErrors
  refine ⟨?good, ?bad, ?correctable, ?uncorrectable⟩
  case good =>
    intro s spare reserve
    exact execCoreSSignature_good spare reserve
  case bad =>
    intro x s spare reserve bad
    exact execCoreSSignature_bad spare reserve bad
  case correctable =>
    intro a y s powered
    exact execSramCorrectableError_powered powered a y
  case uncorrectable =>
    intro a y s enters
    exact execSramUncorrectableError_entersSafe enters a y

end Sys2Proof.Proofs
end

section
/-! PROOF. The saves of a powered module and the measurement of the backup cell (R174, R358, R442). -/

namespace Sys2Proof.Machine

open Sys2Proof Sys2Proof.Safety

/-! ### Saves -/

theorem execOpTimeSave_powered {s : State} (powered : s.power.state.powered = true) :
    ∃ t, exec .opTimeSave s = .next t ∧ t = { s with savedOpUs := s.opUs, hi := mirrorOf s t } := by
  refine ⟨_, rfl, ?_⟩
  rw [if_pos powered, State.settle_eq]

theorem execDwellCountSave_due {s : State} (powered : s.power.state.powered = true)
    (due : (s.vote.dwellSavedS + 60) * 1000000 ≤ s.dwellNow) :
    ∃ t, exec .dwellCountSave s = .next t ∧
      t = { s with vote := { s.vote with dwellSavedS := s.dwellNow / 1000000 }, hi := mirrorOf s t } := by
  refine ⟨_, rfl, ?_⟩
  rw [if_pos (by simp [powered, due]), State.settle_eq]

/-! ### The backup cell -/

theorem execCellMeasurement_eq {s : State} (powered : s.power.state.powered = true) (mv : Nat) :
    exec (.cellMeasurement mv) s = .next (s.cellMeasured mv).settle := by
  simp [exec, execCellMeasurement, powered]

/-- The power state with a measurement of the cell (R442). -/
def Power.cellRead (p : Power) (mv : Nat) : Power :=
  { p with
    cellMv := mv, cellFitted := 500 ≤ mv, cellLowTold := p.cellLowTold || mv < 2500
    cellGoneTold := p.cellGoneTold || mv < 500 }

/-- Neither threshold is to be told: the measurement is kept, and nothing is recorded. -/
theorem State.cellMeasured_quiet {mv : Nat} {s : State} (low : (mv < 2500 && !s.power.cellLowTold) = false)
    (gone : (mv < 500 && !s.power.cellGoneTold) = false) :
    s.cellMeasured mv = { s with power := s.power.cellRead mv } := by
  simp only [State.cellMeasured, low, gone]
  rfl

theorem State.cellMeasured_low {mv : Nat} {s : State} (low : (mv < 2500 && !s.power.cellLowTold) = true)
    (gone : (mv < 500 && !s.power.cellGoneTold) = false) :
    s.cellMeasured mv = ({ s with power := s.power.cellRead mv }).event 0xC042 .rt .maintenance mv := by
  simp only [State.cellMeasured, low, gone]
  rfl

theorem State.cellMeasured_gone {mv : Nat} {s : State} (low : (mv < 2500 && !s.power.cellLowTold) = false)
    (gone : (mv < 500 && !s.power.cellGoneTold) = true) :
    s.cellMeasured mv = ({ s with power := s.power.cellRead mv }).event 0xC043 .rt .maintenance := by
  simp only [State.cellMeasured, low, gone]
  rfl

theorem execCellMeasurement_full {mv : Nat} {s : State} (powered : s.power.state.powered = true) (full : 2500 ≤ mv) :
    ∃ t, exec (.cellMeasurement mv) s = .next t ∧ t.power.cellMv = mv ∧ t.power.cellFitted = true ∧
      t.power.state = s.power.state ∧ t.recorder = s.recorder ∧ t = { s with power := t.power, hi := mirrorOf s t } := by
  refine ⟨_, execCellMeasurement_eq powered mv, ?_⟩
  rw [State.cellMeasured_quiet (by simp [Nat.not_lt.mpr full]) (by simp; omega)]
  simp only [State.settle_frame]
  refine ⟨rfl, decide_eq_true (by omega), rfl, trivial, ?_⟩
  rw [State.settle_eq]

theorem execCellMeasurement_low {mv : Nat} {s : State} (powered : s.power.state.powered = true) (present : 500 ≤ mv)
    (low : mv < 2500) (untold : s.power.cellLowTold = false) :
    ∃ t, exec (.cellMeasurement mv) s = .next t ∧ Recorded s t 0xC042 mv 0 0 ∧ t.power.cellLowTold = true ∧
      t = { s with power := t.power, recorder := t.recorder, hi := mirrorOf s t } := by
  refine ⟨_, execCellMeasurement_eq powered mv, ?_⟩
  rw [State.cellMeasured_low (by simp [low, untold]) (by simp [Nat.not_lt.mpr present])]
  refine ⟨recorded_settle (State.event_recorded rfl rfl rfl ..), ?_, ?_⟩
  · simp [State.event_frame, Power.cellRead, low]
  · rw [State.settle_eq]
    rfl

theorem execCellMeasurement_gone {mv : Nat} {s : State} (powered : s.power.state.powered = true) (gone : mv < 500)
    (lowTold : s.power.cellLowTold = true) (untold : s.power.cellGoneTold = false) :
    ∃ t, exec (.cellMeasurement mv) s = .next t ∧ Recorded s t 0xC043 0 0 0 ∧ t.power.cellGoneTold = true ∧
      t.power.cellFitted = false ∧ t.power.cellMv = mv ∧
      t = { s with power := t.power, recorder := t.recorder, hi := mirrorOf s t } := by
  refine ⟨_, execCellMeasurement_eq powered mv, ?_⟩
  rw [State.cellMeasured_gone (by simp [lowTold]) (by simp [gone, untold])]
  refine ⟨recorded_settle (State.event_recorded rfl rfl rfl ..), ?_, ?_, ?_, ?_⟩
  · simp [State.event_frame, Power.cellRead, gone]
  · simp [State.event_frame, Power.cellRead, gone]
  · simp [State.event_frame, Power.cellRead]
  · rw [State.settle_eq]
    rfl

end Sys2Proof.Machine
end

section
/-! PROOF. The statement about the saves and the backup cell. -/

namespace Sys2Proof.Proofs

open Sys2Proof Sys2Proof.Machine Sys2Proof.Safety

/-- Settles O14: the save of operating time, the cell above both thresholds and below each, and the save of the dwell. -/
theorem savesAndCell : Obligations.SavesAndCell := by
  unfold Obligations.SavesAndCell
  refine ⟨?opTime, ?full, ?low, ?gone, ?dwell⟩
  case opTime =>
    intro s powered
    exact execOpTimeSave_powered powered
  case full =>
    intro mv s powered full
    exact execCellMeasurement_full powered full
  case low =>
    intro mv s powered present low untold
    exact execCellMeasurement_low powered present low untold
  case gone =>
    intro mv s powered gone lowTold untold
    exact execCellMeasurement_gone powered gone lowTold untold
  case dwell =>
    intro s powered due
    exact execDwellCountSave_due powered due

end Sys2Proof.Proofs
end

section
/-! PROOF. Ashlar's hold lines, and what a debug session does to them (R181, R186, R380). -/

namespace Sys2Proof.Machine

open Sys2Proof Sys2Proof.Safety

/-! ### Hold lines -/

theorem State.ashEval_eq (s : State) : s.ashEval = { s with ash := s.ashEval.ash, recorder := s.ashEval.recorder } := by
  apply State.ext <;> simp only [State.ashEval_frame]

/-- The hold lines belong to Ashlar; a change of any is told, and nothing else of the module changes (R186). -/
theorem State.holdLines_eq (s : State) (h : HoldLines) :
    s.holdLines h = { s with ash := (s.holdLines h).ash, recorder := (s.holdLines h).recorder } := by
  unfold State.holdLines
  split
  · rfl
  · rw [State.ashEval_eq]
    rfl

theorem State.holdLines_holds (s : State) (h : HoldLines) : AshHolds s (s.holdLines h) h := by
  unfold State.holdLines
  split
  next same =>
    subst same
    exact ⟨rfl, fun _ => rfl, fun other => absurd rfl other⟩
  next other =>
    refine ⟨?_, fun same => absurd same other, fun _ held => ?_⟩
    · rw [State.ashEval_ash]
      rfl
    · refine State.ashEval_permitsOk _ ?_
      rw [State.ashEval_ash]
      simp [Ashlar.grants, Ashlar.held, State.event_frame, held]

theorem State.holdLines_inboxKept (s : State) (h : HoldLines) : InboxKept s (s.holdLines h) := by
  unfold State.holdLines
  split
  · exact .refl s
  · have told := (InboxKept.refl s).framed (u := { s with ash := { s.ash with hold := h } }) rfl
    exact (told.event 0x2040 .ash .info (holdBitmap h) 0 0 false).trans (State.ashEval_inboxKept _)

/-- Two changes of the hold lines are one, where the first changes nothing that the second takes back. -/
theorem ashHolds_trans {s t u : State} {h h' : HoldLines} (first : AshHolds s t h) (second : AshHolds t u h')
    (back : h' = s.ash.hold → h = s.ash.hold) : AshHolds s u h' := by
  obtain ⟨only, kept, off⟩ := first
  obtain ⟨only', kept', off'⟩ := second
  have hold : t.ash.hold = h := by rw [only]
  refine ⟨?_, fun same => ?_, fun other held => ?_⟩
  · rw [only', only]
  · rw [kept' (by rw [hold, back same, same]), kept (back same)]
  · by_cases same : h' = t.ash.hold
    · rw [kept' same]
      have equal : h' = h := same.trans hold
      exact off (equal ▸ other) (equal ▸ held)
    · exact off' same held

theorem ashHolds_framed {s t u : State} {h : HoldLines} (holds : AshHolds s t h) (same : u.ash = t.ash) :
    AshHolds s u h := by
  simpa only [AshHolds, same] using holds

theorem ashHolds_from {s t u : State} {h : HoldLines} (holds : AshHolds u t h) (same : u.ash = s.ash) :
    AshHolds s t h := by
  simpa only [AshHolds, same] using holds

/-! ### The end of a debug session -/

/-- The end of a session, told (R380). -/
def State.debugOver (s : State) (cause : Nat) : State :=
  ({ s with sec := { s.sec with debug := .none } }).event 0x9032 .cl .info (debugCode s.sec.debug) cause

theorem State.endDebug_none {s : State} (idle : s.sec.debug = .none) (cause : Nat) : s.endDebug cause = s :=
  if_pos idle

theorem State.endDebug_session {s : State} (session : s.sec.debug ≠ .none) (cause : Nat) :
    s.endDebug cause = if debugHolds s.sec.debug then (s.debugOver cause).holdDebug false else s.debugOver cause := by
  simp only [State.endDebug, if_neg session]
  rfl

theorem holdAfterDebug_free {d : DebugKind} (free : debugHolds d = false) (h : HoldLines) : holdAfterDebug d h = h := by
  simp [holdAfterDebug, free]

theorem holdAfterDebug_held {d : DebugKind} (held : debugHolds d = true) (h : HoldLines) :
    holdAfterDebug d h = { h with debug := false } := by
  simp [holdAfterDebug, held]

/-- What the end of a session leaves: no session, its attach hold cleared, the records of both (R186, R380). -/
theorem State.endDebug_ended (s : State) (cause : Nat) :
    (s.endDebug cause).sec = { s.sec with debug := .none } ∧
      AshHolds s (s.endDebug cause) (holdAfterDebug s.sec.debug s.ash.hold) ∧ InboxKept s (s.endDebug cause) ∧
      s.endDebug cause = { s with sec := (s.endDebug cause).sec, ash := (s.endDebug cause).ash,
                                  recorder := (s.endDebug cause).recorder } := by
  by_cases idle : s.sec.debug = .none
  · rw [State.endDebug_none idle, holdAfterDebug_free (by simp [idle, debugHolds]), ← idle]
    exact ⟨rfl, ⟨rfl, fun _ => rfl, fun other => absurd rfl other⟩, .refl s, rfl⟩
  · have told : InboxKept s (s.debugOver cause) := List.prefix_append ..
    rw [State.endDebug_session idle]
    cases held : debugHolds s.sec.debug with
    | false =>
      rw [holdAfterDebug_free held]
      exact ⟨rfl, ⟨rfl, fun _ => rfl, fun other => absurd rfl other⟩, told, rfl⟩
    | true =>
      rw [holdAfterDebug_held held, if_pos rfl]
      have lines : (s.debugOver cause).holdDebug false =
        (s.debugOver cause).holdLines { s.ash.hold with debug := false } := rfl
      have holds := (s.debugOver cause).holdLines_holds { s.ash.hold with debug := false }
      have inbox := (s.debugOver cause).holdLines_inboxKept { s.ash.hold with debug := false }
      have only := (s.debugOver cause).holdLines_eq { s.ash.hold with debug := false }
      rw [lines]
      generalize (s.debugOver cause).holdLines { s.ash.hold with debug := false } = t at holds inbox only ⊢
      exact ⟨congrArg State.sec only, ashHolds_from holds rfl, told.trans inbox, by rw [only]; rfl⟩

theorem State.endDebug_firstReport {s : State} (session : s.sec.debug ≠ .none) (cause : Nat) :
    FirstReport s (s.endDebug cause) 0x9032 (debugCode s.sec.debug) cause 0 := by
  have kept : InboxKept (s.debugOver cause) (s.endDebug cause) := by
    rw [State.endDebug_session session]
    split
    · exact State.holdLines_inboxKept ..
    · exact .refl _
  exact firstReport_of_inboxKept (u := { s with sec := { s.sec with debug := .none } }) rfl kept

theorem execDebugDetach_session {s : State} (session : s.sec.debug ≠ .none) :
    ∃ t, exec .debugDetach s = .next t ∧ t.sec = { s.sec with debug := .none } ∧
      FirstReport s t 0x9032 (debugCode s.sec.debug) 3 0 ∧ AshHolds s t (holdAfterDebug s.sec.debug s.ash.hold) ∧
      (debugHolds s.sec.debug = false → Recorded s t 0x9032 (debugCode s.sec.debug) 3 0) ∧
      t = { s with sec := t.sec, ash := t.ash, recorder := t.recorder, hi := mirrorOf s t } := by
  refine ⟨(s.endDebug 3).settle, rfl, ?_⟩
  obtain ⟨sec, holds, -, only⟩ := s.endDebug_ended 3
  have first := State.endDebug_firstReport session 3
  refine ⟨by simpa only [State.settle_frame] using sec, by simpa only [FirstReport, State.settle_frame] using first,
    ashHolds_framed holds (by simp only [State.settle_frame]), fun free => ?_, ?_⟩
  · rw [State.endDebug_session session, free]
    exact recorded_settle (recorded_framed (State.event_recorded rfl rfl rfl ..) rfl)
  · rw [State.settle_eq, only]

/-! ### The seal -/

/-- A change of how the seal reads, accepted and told (R383, R385). -/
def State.sealTold (s : State) (p : BitVec 4) : State :=
  ({ s with sec := { s.sec with
    sealPat := p, pendSeal := s.sec.pendSeal || sealEvent p == 0x9022 } }).event (sealEvent p) .hi .info p.toNat

theorem State.sealAccepted_changed {p : BitVec 4} {s : State} (changed : sealEvent p ≠ sealEvent s.sec.sealPat) :
    s.sealAccepted p = if p ≠ 0b1010#4 ∧ s.lifecycle ≠ 0 then (s.sealTold p).endDebug 1 else s.sealTold p := by
  simp only [State.sealAccepted, if_neg changed]
  by_cases closes : p ≠ 0b1010#4 ∧ s.lifecycle ≠ 0
  · rw [if_pos closes, if_pos (by simpa using closes)]
    rfl
  · rw [if_neg closes, if_neg (by simpa using closes)]
    rfl

theorem execSealChange_changed {p : BitVec 4} {s : State} (powered : s.power.state.powered = true)
    (changed : sealEvent p ≠ sealEvent s.sec.sealPat) :
    ∃ t, exec (.sealChange p) s = .next t ∧ FirstReport s t (sealEvent p) p.toNat 0 0 ∧
      t.sec = { s.sec with
        sealPat := p
        pendSeal := s.sec.pendSeal || sealEvent p == 0x9022
        debug := if p ≠ 0b1010#4 ∧ s.lifecycle ≠ 0 then .none else s.sec.debug } ∧
      AshHolds s t (if p ≠ 0b1010#4 ∧ s.lifecycle ≠ 0 then holdAfterDebug s.sec.debug s.ash.hold else s.ash.hold) ∧
      t = { s with sec := t.sec, ash := t.ash, recorder := t.recorder, hi := mirrorOf s t } := by
  refine ⟨(s.sealAccepted p).settle, by simp [exec, execSealChange, powered], ?_⟩
  rw [State.sealAccepted_changed changed]
  by_cases closes : p ≠ 0b1010#4 ∧ s.lifecycle ≠ 0
  · simp only [if_pos closes]
    obtain ⟨sec, holds, inbox, only⟩ := (s.sealTold p).endDebug_ended 1
    generalize (s.sealTold p).endDebug 1 = t at *
    have first : FirstReport s t (sealEvent p) p.toNat 0 0 := firstReport_of_inboxKept (u := s) rfl inbox
    refine ⟨by simpa only [FirstReport, State.settle_frame] using first, ?_, ?_, ?_⟩
    · simp only [State.settle_frame, sec]
      rfl
    · exact ashHolds_framed (ashHolds_from holds rfl) (by simp only [State.settle_frame])
    · rw [State.settle_eq, only]
      rfl
  · simp only [if_neg closes]
    have first : FirstReport s (s.sealTold p) (sealEvent p) p.toNat 0 0 := firstReport_of_inboxKept (u := s) rfl (.refl _)
    refine ⟨by simpa only [FirstReport, State.settle_frame] using first, ?_, ?_, ?_⟩
    · simp only [State.settle_frame]
      rfl
    · simp only [AshHolds, State.settle_frame]
      exact ⟨rfl, fun _ => rfl, fun other => absurd rfl other⟩
    · rw [State.settle_eq]
      rfl

end Sys2Proof.Machine
end

section
/-! PROOF. An attach at the debug header (R181, R378, R379). -/

namespace Sys2Proof.Machine

open Sys2Proof Sys2Proof.Safety

theorem execDebugAttach_never {k : DebugKind} {s : State} (powered : s.power.state.powered = true) (asks : k ≠ .none)
    (never : attachStates s.lifecycle k = []) (core : Nat) :
    ∃ t, exec (.debugAttach k core) s = .next t ∧ Recorded s t 0x9030 (debugCode k) 1 0 ∧
      t = { s with recorder := t.recorder, hi := mirrorOf s t } := by
  refine ⟨(s.attach k core).settle, rfl, ?_⟩
  have refused : s.attach k core = s.event 0x9030 .cl .info (debugCode k) 1 := by
    simp [State.attach, asks, powered, never]
  rw [refused]
  refine ⟨recorded_settle (State.event_recorded rfl rfl rfl ..), ?_⟩
  rw [State.settle_eq]
  rfl

/-! ### An accepted attach -/

/-- A session opened and told (R380). -/
def State.attached (s : State) (k : DebugKind) : State :=
  ({ s with sec := { s.sec with debug := k } }).event 0x9031 .cl .info (debugCode k)

theorem attachStates_none (life : Nat) : attachStates life .none = [] := rfl

theorem attachStates_subset (life : Nat) (k : DebugKind) : attachStates life k ⊆ [.run, .stop, .safe, .lockout] := by
  unfold attachStates
  split <;> simp

theorem powered_of_attachStates {life : Nat} {k : DebugKind} {p : PowerState} (accepts : p ∈ attachStates life k) :
    p.powered = true := by
  have listed := attachStates_subset life k accepts
  cases p <;> simp_all [PowerState.powered]

theorem State.attach_accepted {k : DebugKind} {s : State} (idle : s.sec.debug = .none)
    (accepts : s.power.state ∈ attachStates s.lifecycle k) (opened : s.lifecycle = 0 ∨ s.sealOpen = true) (core : Nat) :
    s.attach k core = if k = .nonInvasive then s.attached k else (s.attached k).breakLockstep core k := by
  have asks : k ≠ .none := by
    rintro rfl
    simp [attachStates_none] at accepts
  have some : (attachStates s.lifecycle k).isEmpty = false := by
    cases list : attachStates s.lifecycle k with
    | nil => simp [list] at accepts
    | cons => rfl
  have sealed : (decide (s.lifecycle ≠ 0) && !s.sealOpen) = false := by
    rcases opened with factory | opened
    · simp [factory]
    · simp [opened]
  simp only [State.attach, asks, powered_of_attachStates accepts, some, List.contains_iff_mem.mpr accepts, sealed,
    State.endDebug_none idle]
  rfl

/-! ### Lockstep broken -/

/-- LOCKSTEP_BROKEN set and told (R181). -/
def State.lockstepLost (s : State) (cycle core : Nat) (k : DebugKind) : State :=
  ({ s with vote := { s.vote with lockstepBroken := true } }).event 0x1033 .cl .info cycle core (debugCode k)

/-- Halting a core holds Ashlar by both lines and breaks lockstep (R181, R186). -/
def State.broken (s : State) (core : Nat) (k : DebugKind) : State :=
  ((s.holdDebug true).lockstepLost s.bench.cycle core k).holdLockstep true

theorem State.breakLockstep_eq (s : State) (core : Nat) (k : DebugKind) :
    s.breakLockstep core k =
      if (s.broken core k).power.state = .run then (s.broken core k).enterStop else s.broken core k := rfl

theorem State.broken_holds (s : State) (core : Nat) (k : DebugKind) :
    AshHolds s (s.broken core k) { s.ash.hold with lockstep := true, debug := true } ∧ InboxKept s (s.broken core k) ∧
      s.broken core k = { s with vote := { s.vote with lockstepBroken := true }, ash := (s.broken core k).ash,
                                 recorder := (s.broken core k).recorder } := by
  have debug : s.holdDebug true = s.holdLines { s.ash.hold with debug := true } := rfl
  have holds := s.holdLines_holds { s.ash.hold with debug := true }
  have inbox := s.holdLines_inboxKept { s.ash.hold with debug := true }
  have only := s.holdLines_eq { s.ash.hold with debug := true }
  rw [State.broken, debug]
  generalize s.holdLines { s.ash.hold with debug := true } = t at holds inbox only ⊢
  have hold : t.ash.hold = { s.ash.hold with debug := true } := congrArg Ashlar.hold holds.1
  have lockstep : (t.lockstepLost s.bench.cycle core k).holdLockstep true =
      (t.lockstepLost s.bench.cycle core k).holdLines { s.ash.hold with lockstep := true, debug := true } :=
    congrArg (fun h : HoldLines => State.holdLines _ { h with lockstep := true }) hold
  have holds' := (t.lockstepLost s.bench.cycle core k).holdLines_holds
    { s.ash.hold with lockstep := true, debug := true }
  have inbox' := (t.lockstepLost s.bench.cycle core k).holdLines_inboxKept
    { s.ash.hold with lockstep := true, debug := true }
  have only' := (t.lockstepLost s.bench.cycle core k).holdLines_eq { s.ash.hold with lockstep := true, debug := true }
  rw [lockstep]
  generalize (t.lockstepLost s.bench.cycle core k).holdLines _ = u at holds' inbox' only' ⊢
  refine ⟨ashHolds_trans holds (ashHolds_from holds' rfl) fun same => ?_, ?_, ?_⟩
  · rw [← same]
  · have told : InboxKept t (t.lockstepLost s.bench.cycle core k) := List.prefix_append ..
    exact inbox.trans (told.trans inbox')
  · rw [only', only]
    rfl

/-! ### RUN left for STOP -/

theorem State.enterStop_sec (s : State) : s.enterStop.sec = s.takeBack.sec := by
  simp only [State.enterStop, State.dwellPause_frame, State.flushNotes_frame, State.discardWork_sec]
  exact State.takeBack_sec_congr rfl rfl

theorem State.enterStop_power (s : State) : s.enterStop.power = { s.power with state := .stop } := by
  simp only [State.enterStop, State.dwellPause_frame, State.flushNotes_frame, State.discardWork_frame,
    State.sendHalt_frame]

/-- A session opened in a cycle that is given up stays open; what the cycle did with logins is taken back (R208). -/
theorem State.takeBack_sec_debug {s t : State} {k : DebugKind} (sec : t.sec = { s.sec with debug := k })
    (undo : t.bench.undo = s.bench.undo) : t.takeBack.sec = { s.takeBack.sec with debug := k } := by
  simp only [State.takeBack, undo]
  split
  · exact sec
  · simp only [sec]

/-! ### The attach -/

theorem execDebugAttach_accepted {k : DebugKind} {s : State} (idle : s.sec.debug = .none)
    (accepts : s.power.state ∈ attachStates s.lifecycle k) (opened : s.lifecycle = 0 ∨ s.sealOpen = true) (core : Nat) :
    ∃ t, exec (.debugAttach k core) s = .next t ∧
      t.sec = { (if s.power.state = .run ∧ k ≠ .nonInvasive then s.takeBack else s).sec with debug := k } ∧
      FirstReport s t 0x9031 (debugCode k) 0 0 ∧ (k = .nonInvasive → t.vote = s.vote ∧ t.power = s.power) ∧
      (k ≠ .nonInvasive → t.vote.lockstepBroken = true ∧
        t.power = (if s.power.state = .run then { s.power with state := .stop } else s.power)) ∧
      (s.power.state ≠ .run →
        t = { s with sec := t.sec, vote := t.vote, ash := t.ash, recorder := t.recorder, hi := mirrorOf s t }) ∧
      AshHolds s t (if k = .nonInvasive then s.ash.hold else { s.ash.hold with lockstep := true, debug := true }) ∧
      t.station = s.station ∧ t.test = s.test ∧ t.log = s.log := by
  refine ⟨(s.attach k core).settle, rfl, ?_⟩
  rw [State.attach_accepted idle accepts opened]
  by_cases passive : k = .nonInvasive
  · have first : FirstReport s (s.attached k) 0x9031 (debugCode k) 0 0 := firstReport_of_inboxKept (u := s) rfl (.refl _)
    rw [if_pos passive, if_pos passive, if_neg (by simp [passive])]
    simp only [State.settle_frame, FirstReport, AshHolds] at first ⊢
    refine ⟨rfl, first, fun _ => ⟨rfl, rfl⟩, fun other => absurd passive other, fun _ => ?_,
      ⟨rfl, fun _ => rfl, fun other => absurd rfl other⟩, rfl, rfl, rfl⟩
    rw [State.settle_eq]
    rfl
  · obtain ⟨holds, inbox, only⟩ := (s.attached k).broken_holds core k
    have holds' := ashHolds_from holds (s := s) rfl
    rw [if_neg passive, if_neg passive, State.breakLockstep_eq]
    generalize (s.attached k).broken core k = u at holds holds' inbox only ⊢
    have first : FirstReport s u 0x9031 (debugCode k) 0 0 := firstReport_of_inboxKept (u := s) rfl inbox
    have power : u.power = s.power := by rw [only]; rfl
    have broken : u.vote.lockstepBroken = true := by rw [only]
    have undo : u.bench.undo = s.bench.undo := by rw [only]; rfl
    have opened' : u.sec = { s.sec with debug := k } := by rw [only]; rfl
    have station : u.station = s.station := by rw [only]; rfl
    have test : u.test = s.test := by rw [only]; rfl
    have log : u.log = s.log := by rw [only]; rfl
    by_cases run : s.power.state = .run
    · have sec := u.enterStop_sec.trans (State.takeBack_sec_debug opened' undo)
      rw [power, if_pos run, if_pos ⟨run, passive⟩]
      refine ⟨?_, ?_, fun other => absurd other passive, fun _ => ⟨?_, ?_⟩, fun other => absurd run other, ?_, ?_, ?_, ?_⟩
      · simpa only [State.settle_frame] using sec
      · simpa only [FirstReport, State.settle_frame, State.enterStop_frame] using first
      · simpa only [State.settle_frame, State.enterStop_vote_frame] using broken
      · simp only [State.settle_frame, State.enterStop_power, power, if_pos run]
      · exact ashHolds_framed holds' (by simp only [State.settle_frame, State.enterStop_frame])
      · simpa only [State.settle_frame, State.enterStop_frame] using station
      · simpa only [State.settle_frame, State.enterStop_frame] using test
      · simpa only [State.settle_frame, State.enterStop_frame] using log
    · rw [power, if_neg run, if_neg fun both => run both.1]
      refine ⟨?_, ?_, fun other => absurd other passive, fun _ => ⟨?_, ?_⟩, fun _ => ?_, ?_, ?_, ?_, ?_⟩
      · simpa only [State.settle_frame] using opened'
      · simpa only [FirstReport, State.settle_frame] using first
      · simpa only [State.settle_frame] using broken
      · simpa only [State.settle_frame, if_neg run] using power
      · rw [State.settle_eq, only]
        rfl
      · exact ashHolds_framed holds' (by simp only [State.settle_frame])
      · simpa only [State.settle_frame] using station
      · simpa only [State.settle_frame] using test
      · simpa only [State.settle_frame] using log

end Sys2Proof.Machine
end

section
/-! PROOF. The statement about debug sessions and the seal. -/

namespace Sys2Proof.Proofs

open Sys2Proof Sys2Proof.Machine Sys2Proof.Safety

/-- Settles O36: an attach that is never accepted, one that is, the detach, and a change of the seal. The causes' numbers
and the hold lines of attach and detach are the model's choices (log entries 15 and 89). -/
theorem debugAndSeal : Obligations.DebugAndSeal := by
  unfold Obligations.DebugAndSeal
  refine ⟨?never, ?accepted, ?detach, ?sealed⟩
  case never =>
    intro k core s powered asks never
    exact execDebugAttach_never powered asks never core
  case accepted =>
    intro k core s idle accepts opened
    exact execDebugAttach_accepted idle accepts opened core
  case detach =>
    intro s session
    exact execDebugDetach_session session
  case sealed =>
    intro p s powered changed
    exact execSealChange_changed powered changed

end Sys2Proof.Proofs
end

section
/-! PROOF. How the security commands are accepted, recorded and answered (R327, R346, R387). -/

namespace Sys2Proof.Machine

open Sys2Proof Sys2Proof.Safety

/-! ### Acceptance -/

/-- The Safety Authority asks under the open seal code, in a state that leaves the group's commands open (R331, R346). -/
structure AuthorityAsks (s : State) (q : Req) : Prop where
  state : s.power.state = .stop ∨ s.power.state = .safe ∨ s.power.state = .lockout
  alive : s.power.dead = false
  life : s.lifecycle ≠ 5
  role : s.holds q (some .safetyAuthority) = true
  opened : s.sealOpen = true

namespace AuthorityAsks

variable {s : State} {q : Req}

theorem mailboxLive (h : AuthorityAsks s q) : s.mailboxLive = true := by
  rcases h.state with state | state | state <;> simp [State.mailboxLive, state, h.alive, PowerState.powered]

theorem openTo (h : AuthorityAsks s q) {op : Nat} (group : opGroup op = 8) : s.openTo op = true := by
  rcases h.state with state | state | state <;> simp [State.openTo, state, h.life, group]

theorem notRun (h : AuthorityAsks s q) : s.power.state ≠ .run := by
  rcases h.state with state | state | state <;> simp [state]

theorem judged (h : AuthorityAsks s q) {op : Nat} (group : opGroup op = 8) {stateOk paramsOk : Bool}
    (state : stateOk = true) (params : paramsOk = true) :
    s.judge q op false stateOk (some .safetyAuthority) true paramsOk = none :=
  State.judge_eq_none.mpr ⟨rfl, h.openTo group, state, h.role, fun _ => h.opened, params⟩

theorem accepted (h : AuthorityAsks s q) {op : Nat} (group : opGroup op = 8) {stateOk paramsOk : Bool}
    (state : stateOk = true) (params : paramsOk = true) (k : State → State) :
    s.clCommand q op (s.judge q op false stateOk (some .safetyAuthority) true paramsOk) k = k (s.heard q) :=
  State.clCommand_accepted h.mailboxLive (h.judged group state params) k

/-- Parameters that do not hold are BAD_PARAM (R327). -/
theorem badParam (h : AuthorityAsks s q) {op : Nat} (group : opGroup op = 8) {stateOk paramsOk : Bool}
    (state : stateOk = true) (params : paramsOk = false) (k : State → State) :
    s.clCommand q op (s.judge q op false stateOk (some .safetyAuthority) true paramsOk) k =
      (s.heard q).complete op q .badParam := by
  simp [State.clCommand, h.mailboxLive, State.judge, h.openTo group, state, h.role, h.opened, params]

end AuthorityAsks

/-! ### The change log -/

theorem State.logRoom_one {s : State} (room : s.log.length < logCapacity) : s.logRoom 1 = true := decide_eq_true room

/-- A log with room takes the entry; at most the warning of R389 is recorded besides. -/
theorem State.logChange_appends {s : State} (room : s.log.length < logCapacity) (e : LogEntry) :
    s.logChange e = { s with log := s.log ++ [s.stamped e], recorder := (s.logChange e).recorder } := by
  simp only [State.logChange, State.logRoom_one room, if_true]
  split <;> rfl

/-! ### Completion -/

theorem State.complete_eq (s : State) (op : Nat) (q : Req) (st : Status) (p0 p1 : Nat) :
    s.complete op q st p0 p1 =
      { s with bench := { s.bench with completions := (s.complete op q st p0 p1).bench.completions },
               mg := (s.complete op q st p0 p1).mg, hi := (s.complete op q st p0 p1).hi,
               outbox := (s.complete op q st p0 p1).outbox } := by
  apply State.ext
  case bench =>
    unfold State.complete
    split
    · rfl
    · simp only [State.deliver_frame]
  all_goals simp only [State.complete_frame]

/-- A completion and the refresh of the mirror leave what the command left. -/
theorem answeredOnly_complete {s u : State} (only : AnsweredOnly s u) (op : Nat) (q : Req) (st : Status) (p0 p1 : Nat) :
    AnsweredOnly s (u.complete op q st p0 p1).settle := by
  unfold AnsweredOnly at *
  rw [State.settle_eq, State.complete_eq, only]

theorem lastReport_complete {u : State} {code a b c : Nat} (last : LastReport u code a b c) (op : Nat) (q : Req)
    (st : Status) (p0 p1 : Nat) : LastReport (u.complete op q st p0 p1).settle code a b c := by
  simpa only [LastReport, State.settle_frame, State.complete_frame] using last

theorem State.event_lastReport (s : State) (code : Nat) (src : Source) (sev : Severity) (a b c : Nat) (x : Bool) :
    LastReport (s.event code src sev a b c x) code a b c :=
  ⟨_, by rw [State.event_recorder]; exact List.getLast?_concat .., rfl, rfl, rfl, rfl⟩

end Sys2Proof.Machine
end

section
/-! PROOF. Passwords and keys (R346, R381, R382). -/

namespace Sys2Proof.Machine

open Sys2Proof Sys2Proof.Safety

/-! ### PASSWORD_SET -/

theorem Security.password_setPassword (c : Security) (r : Role) (p : Option Password) :
    (c.setPassword r p).password r = p := by
  cases r <;> rfl

/-- The entry of a new password in the change log (R388). -/
def State.passwordEntry (s : State) (q : Req) (new : Password) : LogEntry :=
  s.logBy q { item := 6, subject := word (roleIn q.payload).code
              beforeCrc := passwordCrc (s.sec.password (roleIn q.payload)), afterCrc := passwordCrc (some new) }

/-- A password stored with its entry; the role's sessions end (R346, R382). -/
def State.passwordStored (s : State) (q : Req) (new : Password) : State :=
  let s1 := s.logChange (s.passwordEntry q new)
  { s1 with
    draws := s1.draws + 1
    sec := s1.sec.setPassword (roleIn q.payload) (some new)
    mg := { s1.mg with sessions := s1.mg.sessions.filter fun x => x.role != roleIn q.payload } }

theorem State.passwordStored_eq {s : State} (room : s.log.length < logCapacity) (q : Req) (new : Password) :
    s.passwordStored q new =
      { s with log := s.log ++ [s.stamped (s.passwordEntry q new)], recorder := (s.passwordStored q new).recorder
               draws := s.draws + 1, sec := s.sec.setPassword (roleIn q.payload) (some new)
               mg := { s.mg with sessions := s.mg.sessions.filter fun x => x.role != roleIn q.payload } } := by
  rw [State.passwordStored, State.logChange_appends room]

theorem State.decidePasswordSet_stores {q : Req} {s : State} (asks : AuthorityAsks s q) (stopped : s.power.state = .stop)
    (proved : s.onTrial = false) (form : loginForm q.payload = true)
    (bytes : badPasswordByte (passwordOf q.payload) = none) (long : 10 ≤ codePoints (passwordOf q.payload))
    (room : s.log.length < logCapacity) :
    s.decidePasswordSet q = ((s.heard q).passwordStored q
      (storedPassword (passwordOf q.payload) (le 32 (Config.salt s.draws).toNat))).complete 0x0803 q .ok := by
  simp only [State.decidePasswordSet]
  rw [asks.accepted rfl (by simp [stopped, proved]) form, bytes]
  simp only [if_neg (Nat.not_lt.mpr long), State.logRoom_one (s := s.heard q) room]
  rfl

theorem execPasswordSet_stores {q : Req} {s : State} (asks : AuthorityAsks s q) (stopped : s.power.state = .stop)
    (proved : s.onTrial = false) (form : loginForm q.payload = true)
    (bytes : badPasswordByte (passwordOf q.payload) = none) (long : 10 ≤ codePoints (passwordOf q.payload))
    (room : s.log.length < logCapacity) :
    ∃ t e, exec (.passwordSet q) s = .next t ∧
      t.sec.password (roleIn q.payload) =
        some (storedPassword (passwordOf q.payload) (le 32 (Config.salt s.draws).toNat)) ∧ t.draws = s.draws + 1 ∧
      t.log = s.log ++ [e] ∧ e.item = 6 ∧ e.subject = word (roleIn q.payload).code ∧
      (∀ x ∈ t.mg.sessions, x.role ≠ roleIn q.payload) ∧ AnsweredOnly s t := by
  generalize stored : storedPassword (passwordOf q.payload) (le 32 (Config.salt s.draws).toNat) = new
  refine ⟨(s.decidePasswordSet q).settle, (s.heard q).stamped ((s.heard q).passwordEntry q new), rfl, ?_⟩
  rw [State.decidePasswordSet_stores asks stopped proved form bytes long room, stored]
  have only := State.passwordStored_eq (s := s.heard q) room q new
  generalize (s.heard q).passwordStored q new = u at only ⊢
  have answered : AnsweredOnly s u := by rw [only]; rfl
  refine ⟨?_, ?_, ?_, rfl, rfl, ?_, answeredOnly_complete answered ..⟩
  · simp only [State.settle_frame, State.complete_frame]
    rw [only, Security.password_setPassword]
  · simp only [State.settle_frame, State.complete_frame]
    rw [only]
    rfl
  · simp only [State.settle_frame, State.complete_frame]
    rw [only]
    rfl
  · intro x member
    simp only [State.settle_frame, State.complete_mg_frame] at member
    rw [only] at member
    simpa using (List.mem_filter.mp member).2

/-! ### KEY_INSTALL -/

/-- The CRC of a key, 0 for none (R388). -/
def keyCrc (k : List Byte) : Word := if k.isEmpty then 0 else crc32c k

/-- The entry of a key in the change log (R388). -/
def State.keyEntry (s : State) (q : Req) : LogEntry :=
  s.logBy q { item := 7, subject := word (u32 q.payload 0), beforeCrc := keyCrc s.sec.key
              afterCrc := keyCrc (slice q.payload 4 97) }

/-- A key stored with its entry (R346). -/
def State.keyStored (s : State) (q : Req) : State :=
  let s1 := s.logChange (s.keyEntry q)
  { s1 with sec := { s1.sec with keyId := u32 q.payload 0, key := slice q.payload 4 97 } }

theorem State.keyStored_eq {s : State} (room : s.log.length < logCapacity) (q : Req) :
    s.keyStored q =
      { s with log := s.log ++ [s.stamped (s.keyEntry q)], recorder := (s.keyStored q).recorder
               sec := { s.sec with keyId := u32 q.payload 0, key := slice q.payload 4 97 } } := by
  rw [State.keyStored, State.logChange_appends room]

section
variable {q : Req} {s : State}

theorem State.decideKeyInstall_stores (asks : AuthorityAsks s q) (stopped : s.power.state = .stop)
    (proved : s.onTrial = false) (life : s.lifecycle = 1) (length : q.payload.length = 104)
    (id : u32 q.payload 0 ≠ 0) (point : u8 q.payload 4 = 4) (padding : zeros q.payload 101 3 = true)
    (curve : Config.onCurve (slice q.payload 4 97) = true) (room : s.log.length < logCapacity) :
    s.decideKeyInstall q = ((s.heard q).keyStored q).complete 0x0804 q .ok := by
  simp only [State.decideKeyInstall]
  rw [asks.accepted rfl (by simp [stopped, proved, life]) (by simp [length, id, point, padding, curve])]
  simp only [State.logRoom_one (s := s.heard q) room]
  rfl

/-- A key that is no point of the curve is BAD_PARAM (R346). -/
theorem State.decideKeyInstall_offCurve (asks : AuthorityAsks s q) (stopped : s.power.state = .stop)
    (proved : s.onTrial = false) (life : s.lifecycle = 1)
    (curve : Config.onCurve (slice q.payload 4 97) = false) :
    s.decideKeyInstall q = (s.heard q).complete 0x0804 q .badParam := by
  simp only [State.decideKeyInstall]
  rw [asks.badParam rfl (by simp [stopped, proved, life]) (by simp [curve])]

theorem execKeyInstall_decides (asks : AuthorityAsks s q) (stopped : s.power.state = .stop)
    (proved : s.onTrial = false) (life : s.lifecycle = 1) (length : q.payload.length = 104)
    (id : u32 q.payload 0 ≠ 0) (point : u8 q.payload 4 = 4) (padding : zeros q.payload 101 3 = true)
    (room : s.log.length < logCapacity) :
    ∃ t, exec (.keyInstall q) s = .next t ∧ AnsweredOnly s t ∧
      (Config.onCurve (slice q.payload 4 97) = true → ∃ e,
        t.sec = { s.sec with keyId := u32 q.payload 0, key := slice q.payload 4 97 } ∧ t.log = s.log ++ [e] ∧
        e.item = 7 ∧ e.subject = word (u32 q.payload 0)) ∧
      (Config.onCurve (slice q.payload 4 97) = false → t.sec = s.sec ∧ t.log = s.log) := by
  refine ⟨(s.decideKeyInstall q).settle, rfl, ?_⟩
  cases curve : Config.onCurve (slice q.payload 4 97) with
  | true =>
    rw [State.decideKeyInstall_stores asks stopped proved life length id point padding curve room]
    have only := State.keyStored_eq (s := s.heard q) room q
    generalize (s.heard q).keyStored q = u at only ⊢
    have answered : AnsweredOnly s u := by rw [only]; rfl
    refine ⟨answeredOnly_complete answered .., fun _ => ⟨(s.heard q).stamped ((s.heard q).keyEntry q), ?_, ?_, rfl, rfl⟩,
      nofun⟩
    · simp only [State.settle_frame, State.complete_frame]
      rw [only]
      rfl
    · simp only [State.settle_frame, State.complete_frame]
      rw [only]
      rfl
  | false =>
    rw [State.decideKeyInstall_offCurve asks stopped proved life curve]
    refine ⟨answeredOnly_complete (u := s.heard q) rfl .., nofun, fun _ => ?_⟩
    simp only [State.settle_frame, State.complete_frame, State.heard_frame, and_self]

end

end Sys2Proof.Machine
end

section
/-! PROOF. The life-cycle and the release of LOCKOUT (R212, R347, R369 to R372). -/

namespace Sys2Proof.Machine

open Sys2Proof Sys2Proof.Safety

/-! ### The steps of an advance -/

/-- The last steps of an advance: its entry, and event 0x9001 (R371, R372). -/
def State.advanced (s : State) (e : LogEntry) (old new : Nat) : State :=
  let s1 := s.logChange { e with item := 5, before := word old, after := word new, recovered := false }
  ({ s1 with sec := { s1.sec with advance := none } }).event 0x9001 .cl .info old new 0

/-- The mode record written (R370). -/
def State.modeWritten (s : State) (mode : Nat) : State := { s with sec := { s.sec with mode := s.sec.mode.put mode } }

theorem Dup.current_put {α : Type} (d : Dup α) (x : α) : (d.put x).current = some x := by simp [Dup.put, Dup.current]

theorem State.lifecycle_operational {s : State} (kept : s.sec.lcR = false) (opened : s.sec.lcO = true) :
    s.lifecycle = s.sec.mode.current.getD 3 := by
  simp [State.lifecycle, kept, opened]

theorem State.finishAdvance_operational {s : State} (idle : s.sec.debug = .none) (e : LogEntry) (old : Nat) :
    s.finishAdvance e old 3 false =
      (s.modeWritten 3).advanced e old 3 := by
  have still : ((s.modeWritten 3).advanced e old 3).sec.debug = .none := by
    simp only [State.advanced, State.modeWritten, State.event_frame, State.logChange_frame, idle]
  exact State.endDebug_none still 2

theorem State.finishAdvance_retired (s : State) (e : LogEntry) (old : Nat) :
    s.finishAdvance e old 5 false = s.eraseRetired.advanced e old 5 := rfl

theorem State.advanced_eq {s : State} (room : s.log.length < logCapacity) (e : LogEntry) (old new : Nat) :
    s.advanced e old new =
      { s with log := s.log ++ [s.stamped { e with item := 5, before := word old, after := word new, recovered := false }]
               recorder := (s.advanced e old new).recorder, sec := { s.sec with advance := none } } := by
  rw [State.advanced, State.logChange_appends room]
  rfl

theorem State.advanced_lastReport (s : State) (e : LogEntry) (old new : Nat) :
    LastReport (s.advanced e old new) 0x9001 old new 0 := State.event_lastReport ..

/-- The fuse of a target blown, with Ashlar's life-cycle line as the fuses then read (R369, R371). -/
def State.blown (s : State) (target : Nat) : State := ({ s with sec := s.sec.blow target }).holdLifecycle

theorem State.blown_holds {s : State} {target : Nat} {held : Bool}
    (vital : State.vitalLifecycle { s with sec := s.sec.blow target } = !held) :
    AshHolds s (s.blown target) { s.ash.hold with lifecycle := held } ∧
      s.blown target = { s with sec := s.sec.blow target, ash := (s.blown target).ash,
                                recorder := (s.blown target).recorder } := by
  have lines : s.blown target =
      State.holdLines { s with sec := s.sec.blow target } { s.ash.hold with lifecycle := held } := by
    simp only [State.blown, State.holdLifecycle, vital, Bool.not_not]
  rw [lines]
  exact ⟨ashHolds_from (State.holdLines_holds ..) rfl, State.holdLines_eq ..⟩

theorem State.heard_advanceRefused (s : State) (q : Req) (target : Nat) :
    (s.heard q).advanceRefused target = s.advanceRefused target := rfl

/-- An advance told and answered: what it leaves of the security data, its entry and its report. -/
structure AdvanceTold (s b t : State) (old new : Nat) (h : HoldLines) : Prop where
  sec : t.sec = { b.sec with advance := none }
  log : ∃ e, t.log = b.log ++ [e] ∧ e.item = 5 ∧ e.before = word old ∧ e.after = word new
  last : LastReport t 0x9001 old new 0
  sessions : t.mg.sessions = b.mg.sessions
  ash : AshHolds s t h
  only : AnsweredOnly { s with ash := t.ash } t

theorem State.advanced_told {s b : State} {h : HoldLines} (holds : AshHolds s b h)
    (base : AnsweredOnly { s with ash := b.ash } b) (room : b.log.length < logCapacity) (e : LogEntry) (old new op : Nat)
    (q : Req) : AdvanceTold s b ((b.advanced e old new).complete op q .ok).settle old new h := by
  have only := State.advanced_eq room e old new
  have last := b.advanced_lastReport e old new
  generalize b.advanced e old new = v at only last
  have ash : (v.complete op q .ok).settle.ash = b.ash := by
    simp only [State.settle_frame, State.complete_frame]
    rw [only]
  have answered : AnsweredOnly { s with ash := b.ash } v := by
    unfold AnsweredOnly at base ⊢
    rw [only, base]
  exact {
    sec := by simp only [State.settle_frame, State.complete_frame]; rw [only]
    log := by
      simp only [State.settle_frame, State.complete_frame]
      rw [only]
      exact ⟨_, rfl, rfl, rfl, rfl⟩
    last := lastReport_complete last ..
    sessions := by simp only [State.settle_frame, State.complete_mg_frame]; rw [only]
    ash := ashHolds_framed holds ash
    only := by rw [ash]; exact answeredOnly_complete answered .. }

section
variable {q : Req} {s : State}

/-- An advance that is open and not refused (R347, R371). -/
theorem State.decideLifecycleAdvance_granted (asks : AuthorityAsks s q)
    (power : s.power.state = .stop ∨ q.p0 = 5)
    (unforced : (q.p0 == 3 && (s.lifecycle == 2 || s.lifecycle == 4) && !s.bench.forces.isEmpty) = false)
    (proved : s.onTrial = false) (granted : s.advanceRefused q.p0 = none)
    (room : q.p0 ≠ 5 → s.log.length < logCapacity) :
    s.decideLifecycleAdvance q =
      (((s.heard q).blown q.p0).finishAdvance ((s.heard q).logBy q {}) s.lifecycle q.p0 false).complete 0x0805 q .ok := by
  have state : (s.power.state == .stop || (q.p0 == 5 && (s.power.state == .safe || s.power.state == .lockout))) = true := by
    rcases asks.state with stop | safe | lockout
    · simp [stop]
    · simpa [safe] using power
    · simpa [lockout] using power
  have roomy : ¬(decide (q.p0 ≠ 5) && !(s.heard q).logRoom 1) = true := by
    by_cases last : q.p0 = 5
    · simp [last]
    · simp [State.logRoom_one (s := s.heard q) (room last)]
  simp only [State.decideLifecycleAdvance]
  rw [asks.accepted rfl (by simp only [state, unforced, proved]; rfl) rfl, State.heard_advanceRefused, granted]
  exact if_neg roomy

theorem execLifecycleAdvance_operational (asks : AuthorityAsks s q) (stopped : s.power.state = .stop)
    (proved : s.onTrial = false) (life : s.lifecycle = 2) (unforced : s.bench.forces = [])
    (data : s.station.isSome = true) (target : q.p0 = 3) (room : s.log.length < logCapacity)
    (idle : s.sec.debug = .none) (commissioning : s.sec.lcC = true) (notRetired : s.sec.lcR = false) :
    ∃ t e, exec (.lifecycleAdvance q) s = .next t ∧ t.lifecycle = 3 ∧ t.sec.lcO = true ∧ t.log = s.log ++ [e] ∧
      e.item = 5 ∧ e.before = word 2 ∧ e.after = word 3 ∧ LastReport t 0x9001 2 3 0 ∧
      AshHolds s t { s.ash.hold with lifecycle := false } ∧ AnsweredOnly { s with ash := t.ash } t := by
  have granted : s.advanceRefused 3 = none := by
    obtain ⟨st, station⟩ := Option.isSome_iff_exists.mp data
    simp [State.advanceRefused, life, station]
  have decided := State.decideLifecycleAdvance_granted asks (.inl stopped) (by simp [unforced]) proved
    (by rw [target, granted]) fun _ => room
  rw [target, life] at decided
  obtain ⟨holds, blown⟩ := State.blown_holds (s := s.heard q) (target := 3) (held := false)
    (by simp [State.vitalLifecycle, Security.blow, State.heard_frame, commissioning, notRetired])
  generalize (s.heard q).blown 3 = u at decided holds blown
  have idle' : u.sec.debug = .none := by rw [blown]; exact idle
  rw [State.finishAdvance_operational idle'] at decided
  have told := State.advanced_told (s := s) (b := u.modeWritten 3)
    (ashHolds_framed (ashHolds_from holds rfl) rfl) (by unfold AnsweredOnly; rw [blown]; rfl) (by rw [blown]; exact room)
    ((s.heard q).logBy q {}) 2 3 0x0805 q
  obtain ⟨e, log, entry⟩ := told.log
  refine ⟨(s.decideLifecycleAdvance q).settle, e, rfl, ?_⟩
  rw [decided]
  generalize State.settle _ = t at told log ⊢
  obtain ⟨item, before, after⟩ := entry
  have opened : t.sec.lcO = true := by rw [told.sec, State.modeWritten, blown]; rfl
  have kept : t.sec.lcR = false := by rw [told.sec, State.modeWritten, blown]; exact notRetired
  have mode : t.sec.mode = u.sec.mode.put 3 := by rw [told.sec]; rfl
  refine ⟨?_, opened, by rw [log, State.modeWritten, blown]; rfl, item, before, after, told.last, told.ash, told.only⟩
  rw [State.lifecycle_operational kept opened, mode, Dup.current_put]
  rfl

theorem execLifecycleAdvance_retired (asks : AuthorityAsks s q) (proved : s.onTrial = false) (target : q.p0 = 5) :
    ∃ t e, exec (.lifecycleAdvance q) s = .next t ∧ t.lifecycle = 5 ∧ t.sec.lcR = true ∧ t.sec.key = [] ∧
      t.sec.maintainer = none ∧ t.sec.authority = none ∧ t.mg.sessions = [] ∧ t.log = [e] ∧ e.item = 5 ∧
      LastReport t 0x9001 s.lifecycle 5 0 ∧ AshHolds s t { s.ash.hold with lifecycle := true } ∧
      AnsweredOnly { s with ash := t.ash } t := by
  have decided := State.decideLifecycleAdvance_granted asks (.inr target) (by simp [target]) proved
    (by simp [target, State.advanceRefused]) (absurd target)
  rw [target] at decided
  obtain ⟨holds, blown⟩ := State.blown_holds (s := s.heard q) (target := 5) (held := true)
    (by simp [State.vitalLifecycle, Security.blow])
  generalize (s.heard q).blown 5 = u at decided holds blown
  rw [State.finishAdvance_retired] at decided
  have told := State.advanced_told (s := s) (b := u.eraseRetired) (ashHolds_framed (ashHolds_from holds rfl) rfl)
    (by unfold AnsweredOnly; rw [blown]; rfl) (by simp [State.eraseRetired, logCapacity]) ((s.heard q).logBy q {}) s.lifecycle 5
    0x0805 q
  obtain ⟨e, log, item, -⟩ := told.log
  refine ⟨(s.decideLifecycleAdvance q).settle, e, rfl, ?_⟩
  rw [decided]
  generalize State.settle _ = t at told log ⊢
  have retired : t.sec.lcR = true := by rw [told.sec, State.eraseRetired, blown]; rfl
  exact ⟨if_pos retired, retired, by rw [told.sec]; rfl, by rw [told.sec]; rfl, by rw [told.sec]; rfl, told.sessions, log,
    item, told.last, told.ash, told.only⟩

/-! ### The release of LOCKOUT -/

/-- LOCKOUT after repeated SAFE released with its entry: the counts are cleared and SAFE is entered (R212). -/
def State.released (s : State) (e : LogEntry) : State :=
  let s1 := s.logChange e
  ({ s1 with power := { s1.power with state := .safe, entries := [], repeated := false, lockoutCause := 0 } }).event
    0x0103 .cl .info

theorem State.released_eq {s : State} (room : s.log.length < logCapacity) (e : LogEntry) :
    s.released e =
      { s with log := s.log ++ [s.stamped e], recorder := (s.released e).recorder
               power := { s.power with state := .safe, entries := [], repeated := false, lockoutCause := 0 } } := by
  rw [State.released, State.logChange_appends room]
  rfl

/-- The entry of a release in the change log (R388). -/
def State.releaseEntry (s : State) (q : Req) : LogEntry :=
  s.logBy q { item := 8, before := word s.power.entries.length }

/-- Comparators that are to be tested keep LOCKOUT (R177). -/
theorem State.decideLockoutRelease_comparators (asks : AuthorityAsks s q) (lockout : s.power.state = .lockout)
    (bad : s.power.comparatorsBad = true) :
    s.decideLockoutRelease q = (s.heard q).complete 0x0806 q .refused 0x0820 0x1022 := by
  simp only [State.decideLockoutRelease]
  rw [asks.accepted rfl (by simp [lockout]) rfl]
  exact if_pos bad

theorem State.decideLockoutRelease_releases (asks : AuthorityAsks s q) (lockout : s.power.state = .lockout)
    (repeated : s.power.repeated = true) (sound : s.power.comparatorsBad = false) (room : s.log.length < logCapacity) :
    s.decideLockoutRelease q = ((s.heard q).released ((s.heard q).releaseEntry q)).complete 0x0806 q .ok := by
  simp only [State.decideLockoutRelease]
  rw [asks.accepted rfl (by simp [lockout]) rfl]
  simp only [State.heard_frame, sound, repeated, State.logRoom_one (s := s.heard q) room]
  rfl

theorem execLockoutRelease_releases (asks : AuthorityAsks s q) (lockout : s.power.state = .lockout)
    (repeated : s.power.repeated = true) (sound : s.power.comparatorsBad = false) (room : s.log.length < logCapacity) :
    ∃ t e, exec (.lockoutRelease q) s = .next t ∧
      t.power = { s.power with state := .safe, entries := [], repeated := false, lockoutCause := 0 } ∧
      t.log = s.log ++ [e] ∧ e.item = 8 ∧ LastReport t 0x0103 0 0 0 ∧ AnsweredOnly { s with power := t.power } t := by
  refine ⟨(s.decideLockoutRelease q).settle, (s.heard q).stamped ((s.heard q).releaseEntry q), rfl, ?_⟩
  rw [State.decideLockoutRelease_releases asks lockout repeated sound room]
  have only := State.released_eq (s := s.heard q) room ((s.heard q).releaseEntry q)
  have last : LastReport ((s.heard q).released ((s.heard q).releaseEntry q)) 0x0103 0 0 0 := State.event_lastReport ..
  generalize (s.heard q).released ((s.heard q).releaseEntry q) = u at only last ⊢
  have power : (u.complete 0x0806 q .ok).settle.power = u.power := by simp only [State.settle_frame, State.complete_frame]
  have answered : AnsweredOnly { s with power := u.power } u := by rw [only]; rfl
  refine ⟨?_, ?_, rfl, lastReport_complete last .., ?_⟩
  · rw [power, only]
    rfl
  · simp only [State.settle_frame, State.complete_frame]
    rw [only]
    rfl
  · rw [power]
    exact answeredOnly_complete answered ..

end

end Sys2Proof.Machine
end

section
/-! PROOF. O58: passwords, keys, the life-cycle and the release of LOCKOUT. -/

namespace Sys2Proof.Proofs

open Sys2Proof Sys2Proof.Safety Sys2Proof.Machine

/-- Settles O58: each command of the Safety Authority is accepted under the open seal code and does what it decides; the
salt's byte order and RETIRED's erase before its entry are the model's choices (log entries 62 and 63). -/
theorem securityCommands : Obligations.SecurityCommands := by
  unfold Obligations.SecurityCommands
  refine ⟨?password, ?key, ?operational, ?retired, ?release, ?comparators⟩
  case password =>
    intro q s stopped alive proved life role opened form bytes long room
    exact execPasswordSet_stores ⟨.inl stopped, alive, life, role, opened⟩ stopped proved form bytes long room
  case key =>
    intro q s stopped alive proved life role opened length id point padding room
    exact execKeyInstall_decides ⟨.inl stopped, alive, by simp [life], role, opened⟩ stopped proved life length id point
      padding room
  case operational =>
    intro q s stopped alive proved life unforced data role opened target room idle commissioning notRetired
    exact execLifecycleAdvance_operational ⟨.inl stopped, alive, by simp [life], role, opened⟩ stopped proved life unforced
      data target room idle commissioning notRetired
  case retired =>
    intro q s state alive proved life role opened target
    exact execLifecycleAdvance_retired ⟨state, alive, life, role, opened⟩ proved target
  case release =>
    intro q s lockout alive repeated sound life role opened room
    exact execLockoutRelease_releases ⟨.inr (.inr lockout), alive, life, role, opened⟩ lockout repeated sound room
  case comparators =>
    intro q s lockout alive bad life role opened
    show Host.Outcome.next (s.decideLockoutRelease q).settle = _
    rw [State.decideLockoutRelease_comparators ⟨.inr (.inr lockout), alive, life, role, opened⟩ lockout bad]

end Sys2Proof.Proofs
end

section
/-! PROOF. The statement about Ashlar's permits after every step. -/

namespace Sys2Proof.Proofs

open Sys2Proof Sys2Proof.Machine

/-- Settles O4: every operation that changes what Ashlar grants evaluates its permits and group switches again. -/
theorem stepKeepsPermitsOk : Obligations.StepKeepsPermitsOk := by
  unfold Obligations.StepKeepsPermitsOk
  exact fun s t kept h => (step_stands h).permits kept

end Sys2Proof.Proofs
end

section
/-! PROOF. What Ashlar's evaluation writes, and an F3 cause that Ashlar or a watch of it raises (R195, R197, R206). -/

namespace Sys2Proof.Machine

open Sys2Proof Sys2Proof.Safety

/-! ### Words of predicates -/

theorem bitSum_succ (k : Nat) (p : Nat → Bool) : bitSum (k + 1) p = bitSum k p + bit (p k) k := by
  simp [bitSum, List.range_succ]

theorem bitSum_lt (k : Nat) (p : Nat → Bool) : bitSum k p < 2 ^ k := by
  induction k with
  | zero => simp [bitSum]
  | succ k ih =>
    have top : bit (p k) k ≤ 2 ^ k := by cases h : p k <;> simp [bit]
    rw [bitSum_succ, Nat.pow_succ]
    omega

theorem bitSum_testBit {k n : Nat} (h : n < k) (p : Nat → Bool) : (bitSum k p).testBit n = p n := by
  induction k with
  | zero => omega
  | succ k ih =>
    have below := bitSum_lt k p
    rw [bitSum_succ, Nat.add_comm]
    rcases Nat.lt_succ_iff_lt_or_eq.mp h with inside | rfl
    · cases top : p k with
      | false => simpa [bit] using ih inside
      | true => simpa [bit, Nat.testBit_two_pow_add_gt inside] using ih inside
    · cases top : p n with
      | false => simpa [bit] using Nat.testBit_lt_two_pow below
      | true => simp [bit, Nat.testBit_two_pow_add_eq, Nat.testBit_lt_two_pow below]

theorem ofNat_bitSum_getLsbD {w n : Nat} (h : n < w) (p : Nat → Bool) :
    (BitVec.ofNat w (bitSum w p)).getLsbD n = p n := by
  rw [BitVec.getLsbD_ofNat, bitSum_testBit h, decide_eq_true h, Bool.true_and]

/-! ### The evaluation -/

/-- The permit word as evaluated (R195, R197). -/
theorem State.ashEval_permit (s : State) :
    s.ashEval.ash.permit = if s.ash.grants && !s.ash.inputStale then
      word (bitSum 32 fun n => n < s.unit.variant.outputs && s.ash.permits n) else 0 := by
  simp only [State.ashEval]
  rw [State.foldl_ash _ (fun t n => by split <;> simp only [State.event_frame])]

/-- An evaluation changes no equation and no literal that it reads (R197). -/
theorem State.ashEval_permits (s : State) (n : Nat) : s.ashEval.ash.permits n = s.ash.permits n := by
  rw [State.ashEval_ash]
  rfl

/-- An evaluation that Ashlar, not ARMED or held, makes withholds everything (R195, R200). -/
theorem State.ashEval_withholds {s : State} (h : s.ash.grants = false) :
    s.ashEval.ash.permit = 0 ∧ s.ashEval.ash.groupSw = 0 := by
  refine s.ashEval_permitsOk ?_
  rw [State.ashEval_ash]
  exact h

theorem State.ashEval_withheld {s : State} (h : s.ash.grants = false) :
    s.ashEval.ash = { s.ash with inhibit := s.ashEval.ash.inhibit, permit := 0, groupSw := 0 } := by
  obtain ⟨permit, switches⟩ := State.ashEval_withholds h
  have ash := s.ashEval_ash
  rwa [permit, switches] at ash

theorem Ashlar.grants_of_not_armed {a : Ashlar} (h : a.state ≠ .armed) : a.grants = false := by
  simp [Ashlar.grants, h]

/-! ### An F3 cause of Ashlar -/

/-- What is written before an F3 cause of Ashlar or its watches leads to SAFE: Ashlar itself, the causes that last, the
records, and the answers to the start commands that fail with it (R188, R195, R210). -/
def AshFault (s u : State) : Prop :=
  u = { s with ash := u.ash, power := { s.power with causes := u.power.causes }, eng := u.eng, mg := u.mg, hi := u.hi,
               outbox := u.outbox, recorder := u.recorder }

/-- SAFE as entered after such a write: Ashlar and the causes that last stay as written. -/
theorem AshFault.enters {s u : State} (written : AshFault s u) (h : EntersSafe s) (cause : Nat) :
    let t := (u.enterSafe cause).settle
    SafeFrom s t cause ∧ t.ash = u.ash ∧ t.power.causes = u.power.causes ∧ StandsDown { s with ash := t.ash } t := by
  have enters : EntersSafe u := by rw [written]; exact h
  have safe := safeFrom_settle (State.enterSafe_enters enters cause true)
  have down := standsDown_settle (State.enterSafe_standsDown enters cause true)
  have ash : (u.enterSafe cause).settle.ash = u.ash := by simp only [State.settle_frame, State.enterSafe_frame]
  have causes : (u.enterSafe cause).settle.power.causes = u.power.causes := by
    simp only [State.settle_frame, State.enterSafe_power_frame]
  have sec : u.takeBack.sec = ({ s with ash := u.ash } : State).takeBack.sec :=
    State.takeBack_sec_congr (by rw [written]) (by rw [written])
  generalize (u.enterSafe cause).settle = t at *
  refine ⟨?_, ash, causes, ?_⟩
  · rw [written] at safe
    exact safe
  · unfold StandsDown at *
    rw [ash, ← sec]
    generalize u.takeBack.sec = logins at *
    rw [written] at down
    exact down

end Sys2Proof.Machine
end

section
/-! PROOF. Ashlar's resets and the load of its table (R184, R185, R187, R188, R225). -/

namespace Sys2Proof.Machine

open Sys2Proof Sys2Proof.Safety

/-! ### Fenced crossings -/

theorem State.fence_linkDown_same (s : State) (x : Crossing) : ((s.fence x).xing x).linkDown = true := by
  simp only [State.fence]
  split
  · assumption
  · exact congrArg Xing.linkDown (s.setXing_xing_same x _)

theorem State.fence_linkDown {s : State} {y : Crossing} (down : (s.xing y).linkDown = true) (x : Crossing) :
    ((s.fence x).xing y).linkDown = true := by
  by_cases same : y = x
  · rw [same]
    exact s.fence_linkDown_same x
  · simp only [State.fence]
    split
    · exact down
    · exact (congrArg Xing.linkDown (State.setXing_xing_of_ne same s _)).trans down

theorem State.fenceAll_linkDown (s : State) (l : List Crossing) : ∀ x ∈ l, ((s.fenceAll l).xing x).linkDown = true :=
  foldl_forall (P := fun t x => (t.xing x).linkDown = true) State.fence_linkDown_same
    (fun _ x _ down => State.fence_linkDown down x) l s

/-! ### Resets -/

/-- A reset writes Ashlar, the crossings that fence and their records. -/
theorem State.resetAshlar_eq (s : State) :
    s.resetAshlar = { s with ash := s.resetAshlar.ash, xings := s.resetAshlar.xings,
                             recorder := s.resetAshlar.recorder } := by
  apply State.ext <;> simp only [State.resetAshlar_frame]

/-- What an Ashlar in reset has from before: its rail, its hold lines and no code (R185, R186, R201). -/
theorem State.resetAshlar_kept (s : State) :
    s.resetAshlar.ash.supplyOk = s.ash.supplyOk ∧ s.resetAshlar.ash.hold = s.ash.hold ∧
      s.resetAshlar.ash.period = none ∧ s.resetAshlar.ash.codeSeen = false := by
  unfold State.resetAshlar
  rw [State.fenceAll_ash, State.ashEval_ash]
  exact ⟨rfl, rfl, rfl, rfl⟩

theorem State.resetAshlar_down (s : State) (supply : Bool) :
    AshlarDown s ({ s with ash := { s.ash with supplyOk := supply } }).resetAshlar.settle supply := by
  generalize hu : ({ s with ash := { s.ash with supplyOk := supply } } : State) = u
  obtain ⟨state, latch, permit, table⟩ := u.resetAshlar_disarmed
  obtain ⟨rail, hold, period, codeSeen⟩ := u.resetAshlar_kept
  have switches := (u.resetAshlar_permitsOk (Ashlar.grants_of_not_armed (by simp [state]))).2
  have down : ∀ x ∈ [Crossing.nwAs, .fbAs, .clAs, .asCl], (u.resetAshlar.xing x).linkDown = true :=
    State.fenceAll_linkDown _ _
  have only := u.resetAshlar_eq
  generalize u.resetAshlar = t at *
  subst hu
  simp only [AshlarDown, State.xing, State.settle_frame] at down ⊢
  refine ⟨state, rail, hold, table, latch, period, codeSeen, permit, switches, down, ?_⟩
  rw [State.settle_eq, only]

/-! ### READY -/

/-- Entering READY draws one challenge; beside Ashlar that is its counter and the records of inhibit terms (R191). -/
theorem State.ashReady_eq (s : State) :
    s.ashReady = { s with ash := s.ashReady.ash, draws := s.draws + 1, recorder := s.ashReady.recorder } := by
  rw [State.ashReady, State.ashEval_eq]
  rfl

/-- READY: no period, a new challenge, and nothing permitted (R185, R191, R192). -/
theorem State.ashReady_ash (s : State) :
    s.ashReady.ash = { s.ash with
      state := .ready, period := none, challenge := Config.ashlarChallenge s.draws, inhibit := s.ashReady.ash.inhibit,
      permit := 0, groupSw := 0 } :=
  State.ashEval_withheld (Ashlar.grants_of_not_armed (by simp [State.drawChallenge]))

/-! ### The load -/

theorem padTo_of_length {k : Nat} {l : List Byte} (h : l.length = k) : padTo k l = l := by
  rw [padTo, h, Nat.sub_self, List.replicate_zero, List.append_nil, ← h, List.take_length]

theorem State.relatched_idle {s : State} (idle : s.eng.waiting = []) : s.relatched = s := by
  simp [State.relatched, idle]

theorem State.tryRun_of_not_start {s : State} (h : s.power.state ≠ .start) : s.tryRun = s := by
  simp [State.tryRun, h]

/-- Ashlar with its table frozen, before it is READY (R188). -/
def State.tableFrozen (s : State) (table : List Byte) : State :=
  { s with ash := { s.ash with table := table, latch := true, loadFail := false, codeSeen := false } }

theorem State.tableLoaded_intact {st : Station} {s : State} (station : s.station = some st)
    (disarmed : s.ash.state = .disarmed) (rail : s.ash.supplyOk = true) (unlatched : s.ash.latch = false)
    (size : st.ashlar.length = 512) (own : crc32c (st.ashlar.take 508) = word (u32 st.ashlar 508))
    (whole : crc32c st.ashlar = st.ashlarSectionCrc) (idle : s.eng.waiting = []) (started : s.power.state ≠ .start) :
    s.tableLoaded none none =
      (s.tableFrozen st.ashlar).ashReady.event 0x2001 .ash .info (word (u32 st.ashlar 508)).toNat := by
  have latched : s.tableLoaded none none = ((s.tableFrozen st.ashlar).ashReady.event 0x2001 .ash .info
      (word (u32 st.ashlar 508)).toNat).relatched.tryRun := by
    simp [State.tableLoaded, State.tableFrozen, station, disarmed, rail, unlatched, padTo_of_length size, own, whole]
  have only := (s.tableFrozen st.ashlar).ashReady_eq
  rw [latched, State.relatched_idle, State.tryRun_of_not_start]
  · rw [only]
    exact started
  · rw [only]
    exact idle

theorem execAshlarTableLoadDone_intact {st : Station} {s : State} (station : s.station = some st)
    (disarmed : s.ash.state = .disarmed) (rail : s.ash.supplyOk = true) (unlatched : s.ash.latch = false)
    (size : st.ashlar.length = 512) (own : crc32c (st.ashlar.take 508) = word (u32 st.ashlar 508))
    (whole : crc32c st.ashlar = st.ashlarSectionCrc) (idle : s.eng.waiting = []) (started : s.power.state ≠ .start) :
    ∃ t, exec (.ashlarTableLoadDone none none) s = .next t ∧ t.ash.state = .ready ∧ t.ash.table = st.ashlar ∧
      t.ash.latch = true ∧ t.ash.loadFail = false ∧ t.ash.period = none ∧ t.ash.codeSeen = false ∧ t.ash.permit = 0 ∧
      t.ash.challenge = Config.ashlarChallenge s.draws ∧ t.draws = s.draws + 1 ∧
      LastReport t 0x2001 (u32 st.ashlar 508) 0 0 ∧
      t = { s with ash := t.ash, draws := t.draws, recorder := t.recorder, hi := mirrorOf s t } := by
  refine ⟨(s.tableLoaded none none).settle, rfl, ?_⟩
  rw [State.tableLoaded_intact station disarmed rail unlatched size own whole idle started]
  have only := (s.tableFrozen st.ashlar).ashReady_eq
  have ash := (s.tableFrozen st.ashlar).ashReady_ash
  generalize (s.tableFrozen st.ashlar).ashReady = u at *
  have ready : u.ash.state = .ready ∧ u.ash.table = st.ashlar ∧ u.ash.latch = true ∧ u.ash.loadFail = false ∧
      u.ash.period = none ∧ u.ash.codeSeen = false ∧ u.ash.permit = 0 ∧
      u.ash.challenge = Config.ashlarChallenge s.draws := by
    rw [ash]
    exact ⟨rfl, rfl, rfl, rfl, rfl, rfl, rfl, rfl⟩
  have draws : u.draws = s.draws + 1 := congrArg State.draws only
  have last := State.event_lastReport u 0x2001 .ash .info (word (u32 st.ashlar 508)).toNat 0 0 false
  obtain ⟨state, table, latch, loadFail, period, codeSeen, permit, challenge⟩ := ready
  simp only [LastReport, word_toNat, State.settle_frame] at last ⊢
  simp only [State.event_frame]
  refine ⟨state, table, latch, loadFail, period, codeSeen, permit, challenge, draws, last, ?_⟩
  rw [State.settle_eq, only]
  rfl

/-- A load failure told, and the start commands refused with it (R188, R210). -/
def State.loadFailTold (s : State) (cause : Nat) (expected computed : Word) : State :=
  (({ s with ash := { s.ash with loadFail := true } }).event 0x2002 .ash .f3 cause expected.toNat
    computed.toNat).startFailed 0x2002

theorem State.loadFailTold_ashFault (s : State) (cause : Nat) (expected computed : Word) :
    AshFault s (s.loadFailTold cause expected computed) := by
  unfold AshFault State.loadFailTold
  apply State.ext <;> simp only [State.startFailed_frame, State.event_frame]

theorem State.loadFailTold_ash (s : State) (cause : Nat) (expected computed : Word) :
    (s.loadFailTold cause expected computed).ash = { s.ash with loadFail := true } := by
  simp only [State.loadFailTold, State.startFailed_frame, State.event_frame]

/-- The failure is the first that is told, before what the entry into SAFE tells. -/
theorem State.loadFailTold_firstReport {s : State} (h : EntersSafe s) (cause : Nat) (expected computed : Word) :
    FirstReport s ((s.loadFailTold cause expected computed).enterSafe 0x2002) 0x2002 cause expected.toNat
      computed.toNat := by
  have enters : EntersSafe (s.loadFailTold cause expected computed) := by
    rw [s.loadFailTold_ashFault cause expected computed]
    exact h
  have told : InboxKept (({ s with ash := { s.ash with loadFail := true } }).event 0x2002 .ash .f3 cause expected.toNat
      computed.toNat) (s.loadFailTold cause expected computed) :=
    (InboxKept.refl _).framed (by simp only [State.loadFailTold, State.startFailed_frame])
  exact firstReport_of_inboxKept rfl (told.trans (State.enterSafe_inboxKept enters 0x2002 true))

theorem State.tableLoaded_corrupt {x : List Byte} {st : Station} {s : State} (station : s.station = some st)
    (disarmed : s.ash.state = .disarmed) (rail : s.ash.supplyOk = true) (unlatched : s.ash.latch = false)
    (size : x.length = 512) (own : crc32c (x.take 508) ≠ word (u32 x 508)) (b : Option (List Byte)) :
    s.tableLoaded (some x) b = (s.loadFailTold 1 (word (u32 x 508)) (crc32c (x.take 508))).enterSafe 0x2002 := by
  simp [State.tableLoaded, State.loadFails, State.loadFailTold, station, disarmed, rail, unlatched,
    padTo_of_length size, own]

theorem execAshlarTableLoadDone_corrupt {x : List Byte} {st : Station} {s : State} (station : s.station = some st)
    (disarmed : s.ash.state = .disarmed) (rail : s.ash.supplyOk = true) (unlatched : s.ash.latch = false)
    (size : x.length = 512) (own : crc32c (x.take 508) ≠ word (u32 x 508)) (h : EntersSafe s) (b : Option (List Byte)) :
    ∃ t, exec (.ashlarTableLoadDone (some x) b) s = .next t ∧ SafeFrom s t 0x2002 ∧
      t.ash = { s.ash with loadFail := true } ∧
      FirstReport s t 0x2002 1 (word (u32 x 508)).toNat (crc32c (x.take 508)).toNat ∧
      StandsDown { s with ash := t.ash } t := by
  refine ⟨(s.tableLoaded (some x) b).settle, rfl, ?_⟩
  rw [State.tableLoaded_corrupt station disarmed rail unlatched size own]
  obtain ⟨safe, ash, -, down⟩ := (s.loadFailTold_ashFault 1 (word (u32 x 508)) (crc32c (x.take 508))).enters h 0x2002
  have first := State.loadFailTold_firstReport h 1 (word (u32 x 508)) (crc32c (x.take 508))
  exact ⟨safe, ash.trans (s.loadFailTold_ash ..), by simpa only [FirstReport, State.settle_frame] using first, down⟩

end Sys2Proof.Machine
end

section
/-! PROOF. The statement about Ashlar's resets and the load of its table. -/

namespace Sys2Proof.Proofs

open Sys2Proof Sys2Proof.Machine Sys2Proof.Safety

/-- Settles O37: the three resets, the load of an intact table, and one of a table whose own CRC fails. -/
theorem ashlarResetsAndLoads : Obligations.AshlarResetsAndLoads := by
  unfold Obligations.AshlarResetsAndLoads
  refine ⟨?resets, ?intact, ?corrupt⟩
  case resets =>
    intro s
    exact ⟨⟨_, rfl, s.resetAshlar_down s.ash.supplyOk⟩, ⟨_, rfl, s.resetAshlar_down false⟩,
      ⟨_, rfl, s.resetAshlar_down true⟩⟩
  case intact =>
    intro st s station disarmed rail unlatched size own whole idle started
    exact execAshlarTableLoadDone_intact station disarmed rail unlatched size own whole idle started
  case corrupt =>
    intro x b st s station disarmed rail unlatched size own h
    exact execAshlarTableLoadDone_corrupt station disarmed rail unlatched size own h b

end Sys2Proof.Proofs
end

section
/-! PROOF. What Ashlar makes of a cycle code (R190 to R193, R195, R225). -/

namespace Sys2Proof.Machine

open Sys2Proof Sys2Proof.Safety

/-! ### Trips -/

/-- A trip withholds everything and leads to SAFE (R195, R206). -/
theorem State.ashTrip_trips {s : State} (h : EntersSafe s) (cause expected seen : Nat) :
    Trips s (s.ashTrip cause expected seen).settle cause := by
  generalize hu : ({ s with ash := { s.ash with state := .tripped, cause := cause } } : State) = u
  have tripped : u.ash = { s.ash with state := .tripped, cause := cause } := by rw [← hu]
  have only := u.ashEval_eq
  have ash := State.ashEval_withheld (s := u) (Ashlar.grants_of_not_armed (by simp [tripped]))
  have fault : AshFault s (u.ashEval.event 0x2010 .ash .f3 cause expected seen) := by
    rw [AshFault, only, ← hu]
    rfl
  obtain ⟨safe, same, -, down⟩ := fault.enters h 0x2010
  have trip : s.ashTrip cause expected seen =
      (u.ashEval.event 0x2010 .ash .f3 cause expected seen).enterSafe 0x2010 := by
    rw [← hu]
    rfl
  rw [trip]
  refine ⟨?_, safe, down⟩
  rw [same]
  refine ash.trans ?_
  rw [tripped]
  rfl

/-! ### A code that arrives -/

/-- The bench once the code at the head of those handed over has crossed. -/
def State.codeTaken (s : State) : State := { s with bench := { s.bench with codes := s.bench.codes.tail } }

theorem execCycleCode_arrives {s : State} (up : (s.xing .clAs).linkDown = false) (c d : Word) :
    exec (.cycleCode (some (c, d))) s = .next (s.codeTaken.codeAt c d).settle := by
  simp only [exec, execCycleCode, State.takeCode, up]
  rfl

theorem State.haltAccepted_idle {s : State} (idle : s.eng.waiting = []) : s.haltAccepted = s := by
  simp [State.haltAccepted, idle]

/-- A fenced crossing brings nothing: the code is lost (R225). -/
theorem State.takeCode_fenced {s : State} (down : (s.xing .clAs).linkDown = true) (idle : s.eng.waiting = [])
    (seen : Option (Word × Word)) : s.takeCode seen = s.codeTaken := by
  simp only [State.takeCode, down, if_true]
  split
  · exact State.haltAccepted_idle (s := s.codeTaken) idle
  · rfl

/-! ### Acceptance -/

theorem State.acceptCode_eq (s : State) (c d : Word) (st : AshlarState) :
    s.acceptCode c d st = { s with
      ash := (s.acceptCode c d st).ash, draws := s.draws + 1, recorder := (s.acceptCode c d st).recorder } := by
  rw [State.acceptCode, State.ashEval_eq]
  rfl

/-- An accepted code gives Ashlar its period, count, arrival and demands, and draws a challenge (R191, R192, R193). -/
theorem State.acceptCode_ash (s : State) (c d : Word) (st : AshlarState) :
    (s.acceptCode c d st).ash = { s.ash with
      state := st, period := some (codePeriod c).toNat, lastCount := codeCount c, lastUs := s.opUs, codeSeen := true,
      demand := d, challenge := Config.ashlarChallenge s.draws, inhibit := (s.acceptCode c d st).ash.inhibit,
      permit := (s.acceptCode c d st).ash.permit, groupSw := (s.acceptCode c d st).ash.groupSw } := by
  rw [State.acceptCode, State.ashEval_ash]
  rfl

/-- READY permits nothing, whatever code it accepts (R195). -/
theorem State.acceptCode_ready_permit (s : State) (c d : Word) : (s.acceptCode c d .ready).ash.permit = 0 :=
  (State.ashEval_withholds (Ashlar.grants_of_not_armed (by simp [State.drawChallenge]))).1

/-- ARMED and not held, Ashlar permits by its equations once it has accepted a code, and nothing on stale inputs
(R195, R197). -/
theorem State.acceptCode_armed_permit {s : State} (free : s.ash.held = false) (c d : Word) :
    (s.ash.inputStale = false → ∀ n, n < 32 → (s.acceptCode c d .armed).ash.permit.getLsbD n =
      (decide (n < s.unit.variant.outputs) && (s.acceptCode c d .armed).ash.permits n)) ∧
    (s.ash.inputStale = true → (s.acceptCode c d .armed).ash.permit = 0) := by
  generalize hu : (({ s with ash := { s.ash with
    state := .armed, period := some (codePeriod c).toNat, lastCount := codeCount c, lastUs := s.opUs, codeSeen := true,
    demand := d } }).drawChallenge : State) = u
  have accepted : s.acceptCode c d .armed = u.ashEval := by rw [← hu]; rfl
  have grants : u.ash.grants = true := by
    rw [← hu]
    simpa [Ashlar.grants, Ashlar.held, State.drawChallenge] using free
  have stale : u.ash.inputStale = s.ash.inputStale := by rw [← hu]; rfl
  have unit : u.unit = s.unit := by rw [← hu]; rfl
  rw [accepted, State.ashEval_permit, grants, stale, unit]
  refine ⟨fun fresh n inside => ?_, fun old => by simp [old]⟩
  rw [fresh, State.ashEval_permits]
  exact ofNat_bitSum_getLsbD inside _

/-- What an accepted code leaves of the module and of Ashlar. -/
theorem State.acceptCode_taken (s : State) (c d : Word) (st : AshlarState) :
    let t := (s.codeTaken.acceptCode c d st).settle
    t.ash.state = st ∧ t.ash.period = some (codePeriod c).toNat ∧ t.ash.lastCount = codeCount c ∧
      t.ash.lastUs = s.opUs ∧ t.ash.codeSeen = true ∧ t.ash.demand = d ∧
      t.ash.challenge = Config.ashlarChallenge s.draws ∧
      t = { s with ash := t.ash, bench := { s.bench with codes := s.bench.codes.tail }, draws := s.draws + 1,
                   recorder := t.recorder, hi := mirrorOf s t } := by
  have only := s.codeTaken.acceptCode_eq c d st
  have ash := s.codeTaken.acceptCode_ash c d st
  generalize s.codeTaken.acceptCode c d st = u at *
  simp only [State.settle_frame]
  refine ⟨by rw [ash], by rw [ash], by rw [ash], ?_, by rw [ash], by rw [ash], ?_, ?_⟩
  · rw [ash]
    rfl
  · rw [ash]
    rfl
  · rw [State.settle_eq, only]
    rfl

/-! ### Codes in READY -/

theorem State.codeAt_first {c : Word} {s : State} (ready : s.ash.state = .ready) (fresh : s.ash.period = none)
    (valid : s.ash.validCode c = true) (d : Word) : s.codeAt c d = s.acceptCode c d .ready := by
  simp [State.codeAt, State.codeInReady, ready, fresh, valid]

theorem State.codeAt_arms {c : Word} {p : Nat} {s : State} (ready : s.ash.state = .ready)
    (period : s.ash.period = some p) (valid : s.ash.validCode c = true) (same : (codePeriod c).toNat = p)
    (next : codeCount c = s.ash.lastCount + 1) (early : s.ash.lastUs + 800 * p ≤ s.opUs)
    (late : s.opUs ≤ s.ash.lastUs + 1250 * p) (d : Word) :
    s.codeAt c d = s.acceptCode c d (if s.ash.blocked then .ready else .armed) := by
  simp [State.codeAt, State.codeInReady, Ashlar.inWindow, ready, period, valid, same, next, early, late]

theorem execCycleCode_first {c : Word} {s : State} (up : (s.xing .clAs).linkDown = false) (ready : s.ash.state = .ready)
    (fresh : s.ash.period = none) (valid : s.ash.validCode c = true) (d : Word) :
    ∃ t, exec (.cycleCode (some (c, d))) s = .next t ∧ t.ash.state = .ready ∧
      t.ash.period = some (codePeriod c).toNat ∧ t.ash.lastCount = codeCount c ∧ t.ash.lastUs = s.opUs ∧
      t.ash.demand = d ∧ t.ash.permit = 0 ∧ t.ash.challenge = Config.ashlarChallenge s.draws ∧ t.draws = s.draws + 1 ∧
      t.bench = { s.bench with codes := s.bench.codes.tail } ∧
      t = { s with ash := t.ash, bench := t.bench, draws := t.draws, recorder := t.recorder, hi := mirrorOf s t } := by
  refine ⟨_, execCycleCode_arrives up c d, ?_⟩
  rw [State.codeAt_first (s := s.codeTaken) ready fresh valid]
  obtain ⟨state, period, count, arrival, -, demand, challenge, only⟩ := s.acceptCode_taken c d .ready
  have permit : (s.codeTaken.acceptCode c d .ready).settle.ash.permit = 0 := by
    simpa only [State.settle_frame] using s.codeTaken.acceptCode_ready_permit c d
  generalize (s.codeTaken.acceptCode c d .ready).settle = t at *
  have draws : t.draws = s.draws + 1 := congrArg State.draws only
  have bench : t.bench = { s.bench with codes := s.bench.codes.tail } := congrArg State.bench only
  refine ⟨state, period, count, arrival, demand, permit, challenge, draws, bench, ?_⟩
  rw [draws, bench]
  exact only

theorem execCycleCode_arms {c : Word} {p : Nat} {s : State} (up : (s.xing .clAs).linkDown = false)
    (ready : s.ash.state = .ready) (period : s.ash.period = some p) (valid : s.ash.validCode c = true)
    (same : (codePeriod c).toNat = p) (next : codeCount c = s.ash.lastCount + 1)
    (early : s.ash.lastUs + 800 * p ≤ s.opUs) (late : s.opUs ≤ s.ash.lastUs + 1250 * p) (d : Word) :
    ∃ t, exec (.cycleCode (some (c, d))) s = .next t ∧
      t.ash.state = (if s.ash.blocked then .ready else .armed) ∧ t.ash.period = some p ∧ t.ash.lastCount = codeCount c ∧
      t.ash.lastUs = s.opUs ∧ t.ash.codeSeen = true ∧ t.ash.demand = d ∧
      t.ash.challenge = Config.ashlarChallenge s.draws ∧
      t = { s with ash := t.ash, bench := { s.bench with codes := s.bench.codes.tail }, draws := s.draws + 1,
                   recorder := t.recorder, hi := mirrorOf s t } := by
  refine ⟨_, execCycleCode_arrives up c d, ?_⟩
  rw [State.codeAt_arms (s := s.codeTaken) ready period valid same next early late, ← same]
  exact s.acceptCode_taken c d (if s.ash.blocked then .ready else .armed)

/-! ### Codes in ARMED -/

theorem State.codeAt_accepts {c : Word} {p : Nat} {s : State} (armed : s.ash.state = .armed)
    (period : s.ash.period = some p) (same : (codePeriod c).toNat = p) (runs : p ≠ 0)
    (next : codeCount c = s.ash.lastCount + 1) (answer : codeResponse c = response s.ash.challenge)
    (early : s.ash.lastUs + 800 * p ≤ s.opUs) (late : s.opUs ≤ s.ash.lastUs + 1250 * p) (d : Word) :
    s.codeAt c d = s.acceptCode c d .armed := by
  have cycle : codePeriod c ≠ 0#8 := fun halt => runs (by rw [← same, halt]; rfl)
  simp [State.codeAt, State.codeInArmed, armed, period, cycle, Nat.not_lt.mpr early, Nat.not_lt.mpr late, next, answer,
    same]

theorem State.codeAt_wrongResponse {c : Word} {p : Nat} {s : State} (armed : s.ash.state = .armed)
    (period : s.ash.period = some p) (late : s.opUs ≤ s.ash.lastUs + 1250 * p) (early : s.ash.lastUs + 800 * p ≤ s.opUs)
    (next : codeCount c = s.ash.lastCount + 1) (answer : codeResponse c ≠ response s.ash.challenge) (d : Word) :
    s.codeAt c d = s.ashTrip 4 (response s.ash.challenge).toNat (codeResponse c).toNat := by
  simp [State.codeAt, State.codeInArmed, armed, period, Nat.not_lt.mpr early, Nat.not_lt.mpr late, next, answer]

theorem State.codeAt_halt {c : Word} {p : Nat} {s : State} (armed : s.ash.state = .armed)
    (period : s.ash.period = some p) (late : s.opUs ≤ s.ash.lastUs + 1250 * p) (halt : codePeriod c = 0)
    (next : codeCount c = s.ash.lastCount + 1) (answer : codeResponse c = response s.ash.challenge)
    (idle : s.eng.waiting = []) (d : Word) :
    s.codeAt c d = s.ashReady.event 0x2011 .ash .info s.bench.lastO (codeCount c).toNat := by
  have ends : s.codeAt c d = (s.ashReady.event 0x2011 .ash .info s.bench.lastO (codeCount c).toNat).haltAccepted := by
    simp [State.codeAt, State.codeInArmed, armed, period, halt, Nat.not_lt.mpr late, next, answer]
  rw [ends, State.haltAccepted_idle]
  rw [s.ashReady_eq]
  exact idle

theorem execCycleCode_accepts {c : Word} {p : Nat} {s : State} (up : (s.xing .clAs).linkDown = false)
    (armed : s.ash.state = .armed) (period : s.ash.period = some p) (same : (codePeriod c).toNat = p) (runs : p ≠ 0)
    (next : codeCount c = s.ash.lastCount + 1) (answer : codeResponse c = response s.ash.challenge)
    (early : s.ash.lastUs + 800 * p ≤ s.opUs) (late : s.opUs ≤ s.ash.lastUs + 1250 * p) (free : s.ash.held = false)
    (d : Word) :
    ∃ t, exec (.cycleCode (some (c, d))) s = .next t ∧ t.ash.state = .armed ∧ t.ash.lastUs = s.opUs ∧
      t.ash.lastCount = codeCount c ∧ t.ash.demand = d ∧ t.ash.challenge = Config.ashlarChallenge s.draws ∧
      (s.ash.inputStale = false →
        ∀ n, n < 32 → t.ash.permit.getLsbD n = (decide (n < s.unit.variant.outputs) && t.ash.permits n)) ∧
      (s.ash.inputStale = true → t.ash.permit = 0) ∧
      t = { s with ash := t.ash, bench := { s.bench with codes := s.bench.codes.tail }, draws := s.draws + 1,
                   recorder := t.recorder, hi := mirrorOf s t } := by
  refine ⟨_, execCycleCode_arrives up c d, ?_⟩
  rw [State.codeAt_accepts (s := s.codeTaken) armed period same runs next answer early late]
  obtain ⟨state, -, count, arrival, -, demand, challenge, only⟩ := s.acceptCode_taken c d .armed
  obtain ⟨fresh, stale⟩ := State.acceptCode_armed_permit (s := s.codeTaken) free c d
  refine ⟨state, arrival, count, demand, challenge, ?_, ?_, only⟩
  · simp only [State.settle_frame]
    exact fresh
  · simp only [State.settle_frame]
    exact stale

theorem execCycleCode_wrongResponse {c : Word} {p : Nat} {s : State} (up : (s.xing .clAs).linkDown = false)
    (armed : s.ash.state = .armed) (period : s.ash.period = some p) (late : s.opUs ≤ s.ash.lastUs + 1250 * p)
    (early : s.ash.lastUs + 800 * p ≤ s.opUs) (next : codeCount c = s.ash.lastCount + 1)
    (answer : codeResponse c ≠ response s.ash.challenge) (h : EntersSafe s) (d : Word) :
    ∃ t, exec (.cycleCode (some (c, d))) s = .next t ∧ Trips s.codeTaken t 4 := by
  refine ⟨_, execCycleCode_arrives up c d, ?_⟩
  rw [State.codeAt_wrongResponse (s := s.codeTaken) armed period late early next answer]
  exact State.ashTrip_trips (s := s.codeTaken) h ..

theorem execCycleCode_halt {c : Word} {p : Nat} {s : State} (up : (s.xing .clAs).linkDown = false)
    (armed : s.ash.state = .armed) (period : s.ash.period = some p) (late : s.opUs ≤ s.ash.lastUs + 1250 * p)
    (halt : codePeriod c = 0) (next : codeCount c = s.ash.lastCount + 1)
    (answer : codeResponse c = response s.ash.challenge) (idle : s.eng.waiting = []) (d : Word) :
    ∃ t, exec (.cycleCode (some (c, d))) s = .next t ∧ t.ash.state = .ready ∧ t.ash.period = none ∧
      t.ash.permit = 0 ∧ t.ash.groupSw = 0 ∧ LastReport t 0x2011 s.bench.lastO (codeCount c).toNat 0 ∧
      t = { s with ash := t.ash, bench := { s.bench with codes := s.bench.codes.tail }, draws := s.draws + 1,
                   recorder := t.recorder, hi := mirrorOf s t } := by
  refine ⟨_, execCycleCode_arrives up c d, ?_⟩
  rw [State.codeAt_halt (s := s.codeTaken) armed period late halt next answer idle]
  have only := s.codeTaken.ashReady_eq
  have ash := s.codeTaken.ashReady_ash
  have last := State.event_lastReport s.codeTaken.ashReady 0x2011 .ash .info s.bench.lastO (codeCount c).toNat 0 false
  generalize s.codeTaken.ashReady = u at *
  simp only [LastReport, State.settle_frame] at last ⊢
  simp only [State.event_frame]
  refine ⟨by rw [ash], by rw [ash], by rw [ash], by rw [ash], last, ?_⟩
  rw [State.settle_eq, only]
  rfl

theorem execCycleCode_fenced {s : State} (down : (s.xing .clAs).linkDown = true) (idle : s.eng.waiting = [])
    (c : Option (Word × Word)) :
    ∃ t, exec (.cycleCode c) s = .next t ∧
      t = { s with bench := { s.bench with codes := s.bench.codes.tail }, hi := mirrorOf s t } := by
  refine ⟨_, rfl, ?_⟩
  rw [State.takeCode_fenced down idle, State.settle_eq]
  rfl

end Sys2Proof.Machine
end

section
/-! PROOF. The statement about cycle codes. -/

namespace Sys2Proof.Proofs

open Sys2Proof Sys2Proof.Machine Sys2Proof.Safety

/-- Settles O38: the two codes that arm, a code in ARMED accepted, one with a wrong RESPONSE, the halt code, and a
fenced crossing. -/
theorem cycleCodes : Obligations.CycleCodes := by
  unfold Obligations.CycleCodes
  refine ⟨?first, ?arms, ?accepts, ?wrong, ?halt, ?fenced⟩
  case first =>
    intro c d s up ready fresh valid
    exact execCycleCode_first up ready fresh valid d
  case arms =>
    intro c d p s up ready period valid same next early late
    exact execCycleCode_arms up ready period valid same next early late d
  case accepts =>
    intro c d p s up armed period same runs next answer early late free
    exact execCycleCode_accepts up armed period same runs next answer early late free d
  case wrong =>
    intro c d p s up armed period late early next answer h
    exact execCycleCode_wrongResponse up armed period late early next answer h d
  case halt =>
    intro c d p s up armed period late halt next answer idle
    exact execCycleCode_halt up armed period late halt next answer idle d
  case fenced =>
    intro c s down idle
    exact execCycleCode_fenced down idle c

end Sys2Proof.Proofs
end

section
/-! PROOF. Ashlar's own watches: late codes, the arm window, the frozen table, the clock counts (R189, R192 to R195). -/

namespace Sys2Proof.Machine

open Sys2Proof Sys2Proof.Safety

/-! ### Late codes and the arm window -/

theorem execAshlarLate_armed {p : Nat} {s : State} (armed : s.ash.state = .armed) (period : s.ash.period = some p)
    (late : s.ash.lastUs + 1250 * p ≤ s.opUs) (h : EntersSafe s) :
    ∃ t, exec .ashlarLate s = .next t ∧ Trips s t 2 :=
  ⟨(s.ashTrip 2 (1250 * p) (s.opUs - s.ash.lastUs)).settle, by simp [exec, execAshlarLate, armed, period, late],
    State.ashTrip_trips h ..⟩

theorem execAshlarArmWindowExpiry_ready {p : Nat} {s : State} (ready : s.ash.state = .ready)
    (period : s.ash.period = some p) (late : s.ash.lastUs + 1250 * p ≤ s.opUs) :
    ∃ t, exec .ashlarArmWindowExpiry s = .next t ∧ t.ash.state = .ready ∧ t.ash.period = none ∧
      t.ash.challenge = Config.ashlarChallenge s.draws ∧ t.ash.permit = 0 ∧
      t = { s with ash := t.ash, draws := s.draws + 1, recorder := t.recorder, hi := mirrorOf s t } := by
  refine ⟨s.ashReady.settle, by simp [exec, execAshlarArmWindowExpiry, ready, period, late], ?_⟩
  have only := s.ashReady_eq
  have ash := s.ashReady_ash
  generalize s.ashReady = u at *
  simp only [State.settle_frame]
  refine ⟨by rw [ash], by rw [ash], by rw [ash], by rw [ash], ?_⟩
  rw [State.settle_eq, only]

/-! ### The frozen table -/

theorem execAshlarTableCheck_intact {s : State}
    (own : crc32c ((padTo 512 s.ash.table).take 508) = word (u32 (padTo 512 s.ash.table) 508)) :
    ∃ t, exec (.ashlarTableCheck none) s = .next t ∧ t = { s with hi := mirrorOf s t } :=
  ⟨s.settle, by simp [exec, execAshlarTableCheck, own], State.settle_eq s⟩

theorem execAshlarTableCheck_changed {x : List Byte} {s : State} (armed : s.ash.state = .armed) (size : x.length = 512)
    (own : crc32c (x.take 508) ≠ word (u32 x 508)) (h : EntersSafe s) :
    ∃ t, exec (.ashlarTableCheck (some x)) s = .next t ∧ Trips s t 6 :=
  ⟨(s.ashTrip 6 (u32 s.ash.table 508) (crc32c (x.take 508)).toNat).settle, by
    simp [exec, execAshlarTableCheck, padTo_of_length size, armed, own], State.ashTrip_trips h ..⟩

/-! ### Clock counts in range -/

theorem countOk_of_range {n : Nat} (least : 9094 ≤ n) (most : n ≤ 9656) : countOk n = true := by
  simp [countOk, least, most]

theorem countOk_of_out {n : Nat} (out : n < 9094 ∨ 9656 < n) : countOk n = false := by
  simp only [countOk, Bool.and_eq_false_iff, decide_eq_false_iff_not]
  omega

theorem execAshlarClockCount_ashlarInRange {n : Nat} {s : State} (ok : countOk n = true)
    (unblocked : s.ash.blocked = false) :
    ∃ t, exec (.ashlarClockCount false n) s = .next t ∧
      t.ash = { s.ash with clock := BitVec.ofNat 16 n, badCounts := 0, blockedUntil := none } ∧
      t = { s with ash := t.ash, hi := mirrorOf s t } := by
  have cleared : s.ashCount n =
      { s with ash := { s.ash with clock := BitVec.ofNat 16 n, badCounts := 0, blockedUntil := none } } := by
    simp [State.ashCount, ok, unblocked]
  refine ⟨(s.ashCount n).settle, rfl, ?_⟩
  rw [cleared]
  refine ⟨by simp only [State.settle_frame], ?_⟩
  rw [State.settle_eq]

theorem execAshlarClockCount_clusterInRange {n : Nat} {s : State} (ok : countOk n = true) :
    ∃ t, exec (.ashlarClockCount true n) s = .next t ∧ t.ash = { s.ash with clockSide1Bad := 0 } ∧
      t.power = { s.power with causes := s.power.causes.filter (· != 0x2020) } ∧
      t = { s with ash := t.ash, power := t.power, hi := mirrorOf s t } := by
  have cleared : s.clusterCount n = ({ s with ash := { s.ash with clockSide1Bad := 0 } }).causeOff 0x2020 := if_pos ok
  refine ⟨(s.clusterCount n).settle, rfl, ?_⟩
  rw [cleared, State.causeOff]
  refine ⟨by simp only [State.settle_frame], by simp only [State.settle_frame], ?_⟩
  rw [State.settle_eq]

/-! ### A second count out of range -/

theorem State.ashCount_second {n : Nat} {s : State} (bad : countOk n = false) (armed : s.ash.state = .armed)
    (first : s.ash.badCounts = 1) :
    s.ashCount n =
      ({ s with ash := { s.ash with clock := BitVec.ofNat 16 n, badCounts := 2, blockedUntil := none } }).ashTrip
        (if n < 9094 then 7 else 8) 9375 n := by
  simp [State.ashCount, bad, armed, first]

theorem execAshlarClockCount_ashlarSecond {n : Nat} {s : State} (bad : countOk n = false) (h : EntersSafe s)
    (armed : s.ash.state = .armed) (first : s.ash.badCounts = 1) :
    ∃ t, exec (.ashlarClockCount false n) s = .next t ∧ SafeFrom s t 0x2010 ∧ t.ash.state = .tripped ∧
      t.ash.cause = (if n < 9094 then 7 else 8) ∧ t.ash.permit = 0 ∧ StandsDown { s with ash := t.ash } t := by
  refine ⟨(s.ashCount n).settle, rfl, ?_⟩
  rw [State.ashCount_second bad armed first]
  obtain ⟨ash, safe, down⟩ := State.ashTrip_trips (s := { s with ash := { s.ash with
    clock := BitVec.ofNat 16 n, badCounts := 2, blockedUntil := none } }) h (if n < 9094 then 7 else 8) 9375 n
  exact ⟨safe, congrArg Ashlar.state ash, congrArg Ashlar.cause ash, congrArg Ashlar.permit ash, down⟩

theorem State.causeOn_eq (s : State) (code : Nat) :
    s.causeOn code = { s with power := { s.power with causes := (s.causeOn code).power.causes } } := by
  unfold State.causeOn
  split <;> rfl

theorem State.causeOn_mem (s : State) (code : Nat) : code ∈ (s.causeOn code).power.causes := by
  unfold State.causeOn
  split
  · exact List.contains_iff_mem.mp ‹_›
  · exact List.mem_cons_self

theorem State.clusterCount_second {n : Nat} {s : State} (bad : countOk n = false) (first : s.ash.clockSide1Bad = 1) :
    s.clusterCount n = ((({ s with ash := { s.ash with clockSide1Bad := 2 } }).event 0x2020 .cl .f3 n 1).causeOn
      0x2020).enterSafe 0x2020 := by
  simp [State.clusterCount, bad, first]

theorem execAshlarClockCount_clusterSecond {n : Nat} {s : State} (bad : countOk n = false) (h : EntersSafe s)
    (first : s.ash.clockSide1Bad = 1) :
    ∃ t, exec (.ashlarClockCount true n) s = .next t ∧ SafeFrom s t 0x2020 ∧ 0x2020 ∈ t.power.causes ∧
      t.ash = { s.ash with clockSide1Bad := 2 } ∧ StandsDown { s with ash := t.ash } t := by
  refine ⟨(s.clusterCount n).settle, rfl, ?_⟩
  rw [State.clusterCount_second bad first]
  generalize hu : ({ s with ash := { s.ash with clockSide1Bad := 2 } } : State).event 0x2020 .cl .f3 n 1 = u
  have fault : AshFault s (u.causeOn 0x2020) := by
    rw [AshFault, State.causeOn_eq, ← hu]
    rfl
  obtain ⟨safe, ash, causes, down⟩ := fault.enters h 0x2020
  refine ⟨safe, by rw [causes]; exact u.causeOn_mem 0x2020, ?_, down⟩
  rw [ash, State.causeOn_eq, ← hu]
  rfl

end Sys2Proof.Machine
end

section
/-! PROOF. The statement about Ashlar's own watches. -/

namespace Sys2Proof.Proofs

open Sys2Proof Sys2Proof.Machine Sys2Proof.Safety

/-- Settles O39, watch by watch. That the cluster's finding needs a second count out of range, as Ashlar's does, is the
model's choice (log entry 45). -/
theorem ashlarWatches : Obligations.AshlarWatches := by
  unfold Obligations.AshlarWatches
  refine ⟨?late, ?window, ?intact, ?changed, ?inRange, ?second⟩
  case late =>
    intro p s armed period late h
    exact execAshlarLate_armed armed period late h
  case window =>
    intro p s ready period late
    exact execAshlarArmWindowExpiry_ready ready period late
  case intact =>
    intro s own
    exact execAshlarTableCheck_intact own
  case changed =>
    intro x s armed size own h
    exact execAshlarTableCheck_changed armed size own h
  case inRange =>
    intro n s least most
    have ok := countOk_of_range least most
    exact ⟨execAshlarClockCount_ashlarInRange ok, execAshlarClockCount_clusterInRange ok⟩
  case second =>
    intro n s out h
    have bad := countOk_of_out out
    exact ⟨execAshlarClockCount_ashlarSecond bad h, execAshlarClockCount_clusterSecond bad h⟩

end Sys2Proof.Proofs
end

section
/-! PROOF. The hold lines as they change (R186, R195), and the frames between Ashlar and the field side (R196, R197). -/

namespace Sys2Proof.Machine

open Sys2Proof Sys2Proof.Safety

/-! ### Hold lines -/

theorem State.presentHolds_of_set {h : HoldLines} {s : State}
    (lockstep : s.vote.lockstepBroken = true → h.lockstep = true)
    (debug : debugHolds s.sec.debug = true → h.debug = true)
    (lifecycle : s.vitalLifecycle = false → h.lifecycle = true) : s.presentHolds h = h := by
  have fuses : (h.lifecycle || !s.vitalLifecycle) = h.lifecycle :=
    Bool.or_eq_left_iff_imp.mpr fun unfit => lifecycle (by simpa using unfit)
  simp only [State.presentHolds, Bool.or_eq_left_iff_imp.mpr lockstep, Bool.or_eq_left_iff_imp.mpr debug, fuses]

theorem State.holdLines_firstReport {h : HoldLines} {s : State} (changed : h ≠ s.ash.hold) :
    FirstReport s (s.holdLines h) 0x2040 (holdBitmap h) 0 0 := by
  rw [State.holdLines, if_neg changed]
  exact firstReport_of_inboxKept (u := { s with ash := { s.ash with hold := h } }) rfl (State.ashEval_inboxKept _)

theorem execAshlarHoldChange_changed {h : HoldLines} {s : State}
    (lockstep : s.vote.lockstepBroken = true → h.lockstep = true)
    (debug : debugHolds s.sec.debug = true → h.debug = true)
    (lifecycle : s.vitalLifecycle = false → h.lifecycle = true) (changed : h ≠ s.ash.hold) :
    ∃ t, exec (.ashlarHoldChange h) s = .next t ∧ t.ash.hold = h ∧ t.ash.state = s.ash.state ∧
      ((h.lockstep || h.debug || h.lifecycle) = true → t.ash.permit = 0 ∧ t.ash.groupSw = 0) ∧
      FirstReport s t 0x2040 (holdBitmap h) 0 0 ∧
      t = { s with ash := t.ash, recorder := t.recorder, hi := mirrorOf s t } := by
  refine ⟨(s.holdLines (s.presentHolds h)).settle, rfl, ?_⟩
  rw [State.presentHolds_of_set lockstep debug lifecycle]
  obtain ⟨ash, -, off⟩ := s.holdLines_holds h
  have first := State.holdLines_firstReport changed
  have only := s.holdLines_eq h
  generalize s.holdLines h = t at *
  simp only [FirstReport, State.settle_frame] at first ⊢
  refine ⟨congrArg Ashlar.hold ash, by rw [ash], off changed, first, ?_⟩
  rw [State.settle_eq, only]

theorem execAshlarHoldChange_present (h : HoldLines) (s : State) :
    ∃ t, exec (.ashlarHoldChange h) s = .next t ∧ (s.vote.lockstepBroken = true → t.ash.hold.lockstep = true) ∧
      (debugHolds s.sec.debug = true → t.ash.hold.debug = true) ∧
      (s.vitalLifecycle = false → t.ash.hold.lifecycle = true) ∧ AshHolds s t t.ash.hold := by
  refine ⟨(s.holdLines (s.presentHolds h)).settle, rfl, ?_⟩
  have holds := ashHolds_framed (s.holdLines_holds (s.presentHolds h)) (State.settle_ash _)
  generalize (s.holdLines (s.presentHolds h)).settle = t at *
  have lines : t.ash.hold = s.presentHolds h := congrArg Ashlar.hold holds.1
  rw [lines]
  exact ⟨fun broken => by simp [State.presentHolds, broken], fun attached => by simp [State.presentHolds, attached],
    fun unfit => by simp [State.presentHolds, unfit], holds⟩

/-! ### Input frames -/

theorem State.ashInputs_eq (s : State) : s.ashInputs = { s with
    ash := s.ashInputs.ash, power := { s.power with causes := s.power.causes.filter (· != 0x2030) },
    recorder := s.ashInputs.recorder } := by
  rw [State.ashInputs, State.ashEval_eq]
  rfl

/-- What Ashlar takes of an input frame: its SEQ, its arrival and the values of the inputs (R196, R197). -/
theorem State.ashInputs_ash (s : State) :
    s.ashInputs.ash.inputUs = s.opUs ∧ s.ashInputs.ash.inputStale = false ∧ s.ashInputs.ash.inSeq = s.field.ashSent ∧
      ∀ n, n < 64 → s.ashInputs.ash.inputs.getLsbD n = (s.field.inputs.getD n {}).value := by
  rw [State.ashInputs, State.ashEval_ash]
  exact ⟨rfl, rfl, rfl, fun n inside => ofNat_bitSum_getLsbD inside _⟩

theorem execAshlarInputFrame_expected {s : State} (fitted : s.unit.variant.groups ≠ 0) (rail : s.ash.supplyOk = true)
    (next : s.field.ashSent = s.ash.inSeq + 1) :
    ∃ t, exec (.ashlarInputFrame true) s = .next t ∧ t.ash.inputUs = s.opUs ∧ t.ash.inputStale = false ∧
      t.ash.inSeq = s.field.ashSent ∧
      (∀ n, n < 64 → t.ash.inputs.getLsbD n = (s.field.inputs.getD n {}).value) ∧
      t.power = { s.power with causes := s.power.causes.filter (· != 0x2030) } ∧
      t = { s with ash := t.ash, power := t.power, recorder := t.recorder, hi := mirrorOf s t } := by
  refine ⟨s.ashInputs.settle, by simp [exec, execAshlarInputFrame, fitted, rail, next], ?_⟩
  have only := s.ashInputs_eq
  obtain ⟨arrival, fresh, seq, values⟩ := s.ashInputs_ash
  generalize s.ashInputs = u at *
  simp only [State.settle_frame]
  refine ⟨arrival, fresh, seq, values, congrArg State.power only, ?_⟩
  rw [State.settle_eq, only]

theorem execAshlarInputFrame_unexpected {x : Bool} {s : State} (bad : x = false ∨ s.field.ashSent ≠ s.ash.inSeq + 1) :
    ∃ t, exec (.ashlarInputFrame x) s = .next t ∧ t = { s with hi := mirrorOf s t } := by
  refine ⟨_, rfl, ?_⟩
  rw [if_neg]
  · exact State.settle_eq s
  · simp only [Bool.and_eq_true, decide_eq_true_eq]
    rintro ⟨⟨⟨intact, -⟩, -⟩, next⟩
    exact bad.elim (by simp [intact]) (absurd next)

theorem State.ashStale_due {s : State} (fresh : s.ash.inputStale = false) (due : s.ash.inputUs + 150 ≤ s.opUs) :
    s.ashStale = (((({ s with ash := { s.ash with inputStale := true } }).ashEval).event 0x2030 .ash .f3
      ((s.opUs - s.ash.inputUs) / 50)).causeOn 0x2030).enterSafe 0x2030 := by
  simp [State.ashStale, fresh, Nat.not_lt.mpr due]

theorem execAshlarInputStale_due {s : State} (fitted : s.unit.variant.groups ≠ 0) (rail : s.ash.supplyOk = true)
    (fresh : s.ash.inputStale = false) (due : s.ash.inputUs + 150 ≤ s.opUs) (h : EntersSafe s) :
    ∃ t, exec .ashlarInputStale s = .next t ∧ SafeFrom s t 0x2030 ∧ t.ash.inputStale = true ∧
      0x2030 ∈ t.power.causes ∧ StandsDown { s with ash := t.ash } t := by
  refine ⟨s.ashStale.settle, by simp [exec, execAshlarInputStale, fitted, rail], ?_⟩
  rw [State.ashStale_due fresh due]
  generalize hu : ({ s with ash := { s.ash with inputStale := true } } : State).ashEval.event 0x2030 .ash .f3
    ((s.opUs - s.ash.inputUs) / 50) = u
  have fault : AshFault s (u.causeOn 0x2030) := by
    rw [AshFault, State.causeOn_eq, ← hu, State.ashEval_eq]
    rfl
  obtain ⟨safe, ash, causes, down⟩ := fault.enters h 0x2030
  refine ⟨safe, ?_, by rw [causes]; exact u.causeOn_mem 0x2030, down⟩
  rw [ash, State.causeOn_eq, ← hu]
  simp only [State.event_frame]
  rw [State.ashEval_ash]

/-! ### Permit frames -/

/-- The field side with the permits and group switches of a frame, before it sets its switches (R196). -/
def Field.permitted (f : Field) (permit : Word) (sw : BitVec 4) : Field :=
  { f with
    outputs := (withIndex f.outputs).map fun p => { p.1 with permit := permit.getLsbD p.2 }
    groups := (withIndex f.groups).map fun p => { p.1 with
      switchOn := sw.getLsbD p.2, readBack := if p.1.switchFault then p.1.readBack else sw.getLsbD p.2 } }

theorem State.fieldPermits_eq (s : State) (permit : Word) (sw : BitVec 4) :
    s.fieldPermits permit sw = { s with field := (s.field.permitted permit sw).drive } := rfl

/-- An output takes its permit bit, and its switches are set by it (R196, R244). -/
theorem Field.permitted_drive_output (f : Field) (permit : Word) (sw : BitVec 4) (n : Nat) :
    (f.permitted permit sw).drive.outputs[n]? = f.outputs[n]?.map fun o =>
      { o with
        permit := permit.getLsbD n
        high := (f.permitted permit sw).highClosed n { o with permit := permit.getLsbD n }
        low := (f.permitted permit sw).lowClosed n { o with permit := permit.getLsbD n } } := by
  simp [Field.drive, Field.permitted, withIndex, Function.comp_def]

theorem Field.permitted_drive_group (f : Field) (permit : Word) (sw : BitVec 4) (n : Nat) :
    (f.permitted permit sw).drive.groups[n]? = f.groups[n]?.map fun g =>
      { g with switchOn := sw.getLsbD n, readBack := if g.switchFault then g.readBack else sw.getLsbD n } := by
  simp [Field.drive, Field.permitted, withIndex, Function.comp_def]

theorem execAshlarPermitFrame_expected {s : State} (fitted : s.unit.variant.groups ≠ 0)
    (next : s.ash.outSeq = s.field.ashSeq + 1) :
    ∃ t, exec (.ashlarPermitFrame true) s = .next t ∧
      (∀ (n : Nat) (o : FieldOutput), s.field.outputs[n]? = some o → ∃ o', t.field.outputs[n]? = some o' ∧
        o'.permit = s.ash.permit.getLsbD n ∧ o'.demand = o.demand ∧ o'.fault = o.fault) ∧
      (∀ (n : Nat) (g : FieldGroup), s.field.groups[n]? = some g →
        t.field.groups[n]? = some { g with
          switchOn := s.ash.groupSw.getLsbD n
          readBack := if g.switchFault then g.readBack else s.ash.groupSw.getLsbD n }) ∧
      t = { s with field := { s.field with
                     outputs := t.field.outputs, groups := t.field.groups, ashSeq := s.ash.outSeq, ashMissed := 0
                     ashSent := if s.ash.inSeq = s.field.ashSent then s.field.ashSent + 1 else s.field.ashSent },
                   hi := mirrorOf s t } := by
  generalize hf : ({ s.field with
    ashSeq := s.ash.outSeq, ashMissed := 0
    ashSent := if s.ash.inSeq = s.field.ashSent then s.field.ashSent + 1 else s.field.ashSent } : Field) = f
  have outputs : f.outputs = s.field.outputs := by rw [← hf]
  have groups : f.groups = s.field.groups := by rw [← hf]
  have taken : s.ashFrame true = { s with field := (f.permitted s.ash.permit s.ash.groupSw).drive } := by
    rw [State.ashFrame, if_pos (by simp [next]), State.fieldPermits_eq, hf]
  refine ⟨(s.ashFrame true).settle, by simp [exec, execAshlarPermitFrame, fitted], ?_⟩
  rw [taken]
  simp only [State.settle_frame]
  refine ⟨fun n o held => ?_, fun n g held => ?_, ?_⟩
  · rw [Field.permitted_drive_output, outputs, held]
    exact ⟨_, rfl, rfl, rfl, rfl⟩
  · rw [Field.permitted_drive_group, groups, held]
    rfl
  · rw [State.settle_eq, ← hf]
    rfl

theorem execAshlarPermitFrame_missed {x : Bool} {s : State} (fitted : s.unit.variant.groups ≠ 0)
    (bad : x = false ∨ s.ash.outSeq ≠ s.field.ashSeq + 1) :
    ∃ t, exec (.ashlarPermitFrame x) s = .next t ∧
      t = { s with field := { s.field with ashMissed := s.field.ashMissed + 1 }, hi := mirrorOf s t } := by
  have missed : s.ashFrame x = { s with field := { s.field with ashMissed := s.field.ashMissed + 1 } } := by
    refine if_neg ?_
    simp only [Bool.and_eq_true, decide_eq_true_eq]
    rintro ⟨intact, next⟩
    exact bad.elim (by simp [intact]) (absurd next)
  refine ⟨(s.ashFrame x).settle, by simp [exec, execAshlarPermitFrame, fitted], ?_⟩
  rw [missed, State.settle_eq]

/-- Without permits no low-side switch stays closed, and no group switch (R196, R244). -/
theorem execAshlarFrameLoss_third {s : State} (fitted : s.unit.variant.groups ≠ 0) (missed : 3 ≤ s.field.ashMissed) :
    ∃ t, exec .ashlarFrameLoss s = .next t ∧ (∀ o ∈ t.field.outputs, o.permit = false ∧ o.low = false) ∧
      (∀ g ∈ t.field.groups, g.switchOn = false) ∧
      t = { s with field := { s.field with outputs := t.field.outputs, groups := t.field.groups },
                   hi := mirrorOf s t } := by
  refine ⟨(s.fieldPermits 0 0).settle, by simp [exec, execAshlarFrameLoss, fitted, missed], ?_⟩
  rw [State.fieldPermits_eq]
  simp only [State.settle_frame]
  refine ⟨fun o held => ?_, fun g held => ?_, ?_⟩
  · obtain ⟨n, at_n⟩ := List.mem_iff_getElem?.mp held
    rw [Field.permitted_drive_output, Option.map_eq_some_iff] at at_n
    obtain ⟨o', -, rfl⟩ := at_n
    simp [Field.lowClosed]
  · obtain ⟨n, at_n⟩ := List.mem_iff_getElem?.mp held
    rw [Field.permitted_drive_group, Option.map_eq_some_iff] at at_n
    obtain ⟨g', -, rfl⟩ := at_n
    simp
  · rw [State.settle_eq]
    rfl

end Sys2Proof.Machine
end

section
/-! PROOF. Vital marks (R198, R199, R225). -/

namespace Sys2Proof.Machine

open Sys2Proof Sys2Proof.Safety

/-- Ashlar withholds a mark or answers the mark of the link key and the counter (R198, R199). -/
theorem Ashlar.mark_eq_none_or (a : Ashlar) (now g : Nat) (k : Word) (alive : BitVec 16) :
    a.mark now g k alive = none ∨ a.mark now g k alive = some (vitalMark k alive) :=
  (ite_eq_or_eq ..).symm

/-- When a mark is given: Ashlar grants, its code is fresh and no inhibit term of the group is true (R198). -/
theorem Ashlar.mark_eq_some_iff (a : Ashlar) (now g : Nat) (k : Word) (alive : BitVec 16) :
    a.mark now g k alive = some (vitalMark k alive) ↔ a.grants = true ∧ a.codeSeen = true ∧
      (∃ p, a.period = some p ∧ now < a.lastUs + 1250 * p) ∧
      ∀ n, n < 16 → (u16 a.table (320 + 2 * g)).testBit n = true → a.inhibit.getLsbD n = false := by
  cases period : a.period with
  | none => simp [Ashlar.mark, period]
  | some p => simp [Ashlar.mark, period, and_assoc]

theorem execMarkRequest_fenced {can : Bool} {s : State} (down : (s.xing (markPath can)).linkDown = true) (g : Nat)
    (k : Word) (a : BitVec 16) : exec (.markRequest can g k a) s = .next s := by
  simp [exec, execMarkRequest, down]

theorem execMarkRequest_answered {can : Bool} {s : State} (up : (s.xing (markPath can)).linkDown = false) (g : Nat)
    (k : Word) (a : BitVec 16) : ∃ m,
    exec (.markRequest can g k a) s = .next { s with ash := { s.ash with lastMark := some m } } ∧
      (m = some (vitalMark k a) ↔ s.ash.grants = true ∧ s.ash.codeSeen = true ∧
        (∃ p, s.ash.period = some p ∧ s.opUs < s.ash.lastUs + 1250 * p) ∧
        ∀ n, n < 16 → (u16 s.ash.table (320 + 2 * g)).testBit n = true → s.ash.inhibit.getLsbD n = false) ∧
      (m = none ∨ m = some (vitalMark k a)) :=
  ⟨s.ash.mark s.opUs g k a, by simp [exec, execMarkRequest, up], s.ash.mark_eq_some_iff s.opUs g k a,
    s.ash.mark_eq_none_or s.opUs g k a⟩

end Sys2Proof.Machine
end

section
/-! PROOF. The statement about hold lines, frames with the field side and vital marks. -/

namespace Sys2Proof.Proofs

open Sys2Proof Sys2Proof.Machine Sys2Proof.Safety

/-- Settles O40, command by command. That ASHLAR_HOLD_CHANGE clears only a line whose condition is absent is the model's
choice (log entry 89). -/
theorem ashlarPermitsAndMarks : Obligations.AshlarPermitsAndMarks := by
  unfold Obligations.AshlarPermitsAndMarks
  refine ⟨?changed, execAshlarHoldChange_present, ?input, ?stale, ?noInput, ?permits, ?missed, ?loss, ?fenced, ?marks⟩
  case changed =>
    intro h s lockstep debug lifecycle changed
    exact execAshlarHoldChange_changed lockstep debug lifecycle changed
  case input =>
    intro s fitted rail next
    exact execAshlarInputFrame_expected fitted rail next
  case stale =>
    intro s fitted rail fresh due h
    exact execAshlarInputStale_due fitted rail fresh due h
  case noInput =>
    intro x s bad
    exact execAshlarInputFrame_unexpected bad
  case permits =>
    intro s fitted next
    exact execAshlarPermitFrame_expected fitted next
  case missed =>
    intro x s fitted bad
    exact execAshlarPermitFrame_missed fitted bad
  case loss =>
    intro s fitted missed
    exact execAshlarFrameLoss_third fitted missed
  case fenced =>
    intro can g k a s down
    exact execMarkRequest_fenced down g k a
  case marks =>
    intro can g k a s up
    exact execMarkRequest_answered up g k a

end Sys2Proof.Proofs
end

section
/-! PROOF. Records written while the logic supply fails (R360): none is left in the recorder's inbox. -/

namespace Sys2Proof.Machine

open Sys2Proof Sys2Proof.Safety

theorem Recorder.foldl_append_inbox (l : List Record) (c : Recorder) :
    (l.foldl Recorder.append c).inbox = c.inbox := by
  induction l generalizing c with
  | nil => rfl
  | cons r l ih => exact ih (c.append r)

theorem State.thaw_inbox (s : State) : s.thaw.recorder.inbox = s.recorder.inbox := by
  simp only [State.thaw]
  split
  · rfl
  · split <;> simp [Recorder.append, Recorder.foldl_append_inbox]

theorem State.store_inbox (s : State) (r : Record) : (s.store r).recorder.inbox = s.recorder.inbox := by
  simp only [State.store]
  split_ifs
  · rfl
  · exact s.thaw_inbox
  · rfl
  · rfl

theorem State.refill_inbox (s : State) (code : Nat) : (s.refill code).recorder.inbox = s.recorder.inbox := by
  simp only [State.refill, State.summarise]
  split_ifs <;> simp [Recorder.setBucket, State.store_inbox]

theorem State.pass_inbox (s : State) (r : Record) : (s.pass r).recorder.inbox = s.recorder.inbox := by
  simp only [State.pass]
  split_ifs <;> simp [State.store_inbox]

theorem State.suppress_inbox (s : State) (r : Record) (b : Bucket) :
    (s.suppress r b).recorder.inbox = s.recorder.inbox := by
  simp only [State.suppress]
  split_ifs <;> rfl

/-- A record that is written, suppressed or lost reports nothing itself (R362). -/
theorem State.record_inbox (s : State) (r : Record) : (s.record r).recorder.inbox = s.recorder.inbox := by
  simp only [State.record]
  split_ifs
  · exact s.pass_inbox r
  · rw [State.suppress_inbox, State.refill_inbox]
  · rw [State.pass_inbox]
    exact s.refill_inbox r.code

theorem State.foldl_record_inbox (l : List Record) (s : State) :
    (l.foldl State.record s).recorder.inbox = s.recorder.inbox := by
  induction l generalizing s with
  | nil => rfl
  | cons r l ih => rw [List.foldl_cons, ih, State.record_inbox]

theorem State.writeFailing_inbox (s : State) : s.writeFailing.recorder.inbox = [] := by
  simp only [State.writeFailing, State.writeAll]
  split <;> simp only [State.foldl_record_inbox]

end Sys2Proof.Machine
end

section
/-! PROOF. F3 causes of the supplies and the temperature, and the third entry within 24 operating hours (R206, R211,
R214). -/

namespace Sys2Proof.Machine

open Sys2Proof Sys2Proof.Safety

/-! ### The entry into SAFE -/

/-- What is written before an F3 cause of the supplies or the temperature is raised: the values measured, the records
and the notifications (R214). -/
def Measured (s u : State) : Prop :=
  u = { s with power := { s.power with
                 logicMv := u.power.logicMv, boardTemp := u.power.boardTemp, hotTold := u.power.hotTold },
               hi := u.hi, outbox := u.outbox, recorder := u.recorder }

/-- A cause raised (R210, R214): its event, and the cause kept as present. -/
def State.raised (s : State) (code : Nat) : State := (s.event code .mg .f3).causeOn code

theorem State.raised_eq (s : State) (code : Nat) :
    s.raised code = { s with
      power := { s.power with causes := (s.raised code).power.causes }, recorder := (s.raised code).recorder } := by
  rw [State.raised, State.causeOn_eq]
  rfl

/-- SAFE as entered on a cause after such a write: the cause is present, the values measured stay. -/
def SupplySafe (s u t : State) (cause : Nat) : Prop :=
  SafeFrom s t cause ∧ cause ∈ t.power.causes ∧ t.power.logicMv = u.power.logicMv ∧
    t.power.boardTemp = u.power.boardTemp ∧ t.ash = s.ash ∧ t.sec = s.takeBack.sec ∧ t.log = s.log

theorem Measured.enters {s u : State} (written : Measured s u) (h : EntersSafe s) (code : Nat) :
    SupplySafe s u ((u.raised code).enterSafe code) code := by
  have held : code ∈ (u.raised code).power.causes := State.causeOn_mem ..
  have only := u.raised_eq code
  generalize u.raised code = v at *
  have enters : EntersSafe v := by rw [only, written]; exact h
  have safe := State.enterSafe_enters enters code true
  have sec := State.enterSafe_takesBack enters code true
  have logins : v.takeBack.sec = s.takeBack.sec :=
    State.takeBack_sec_congr (by rw [only, written]) (by rw [only, written])
  simp only [SupplySafe, State.enterSafe_frame, State.enterSafe_power_frame, sec, logins, held, true_and]
  rw [only, written] at safe ⊢
  exact ⟨safe, rfl, rfl, rfl, rfl⟩

theorem SupplySafe.settle {s u t : State} {cause : Nat} (h : SupplySafe s u t cause) :
    SupplySafe s u t.settle cause := by
  simpa only [SupplySafe, SafeFrom, State.settle_frame] using h

theorem SupplySafe.writeFailing {s u t : State} {cause : Nat} (h : SupplySafe s u t cause) :
    SupplySafe s u t.writeFailing cause := by
  simpa only [SupplySafe, SafeFrom, State.writeFailing_frame] using h

/-! ### The supplies -/

theorem notShutdownTest_of_entersSafe {s : State} (h : EntersSafe s) : s.power.state ≠ .shutdownTest := by
  obtain ⟨run | start | stop, -⟩ := h
  · simp [run]
  · simp [start]
  · simp [stop]

/-- Where no shutdown test runs, a falling supply has none to abandon (R399). -/
theorem State.abandonTest_outside {s : State} (outside : s.power.state ≠ .shutdownTest) : s.abandonTest = s := by
  simp [State.abandonTest, outside]

theorem State.supplyLow_outside {s : State} (outside : s.power.state ≠ .shutdownTest) (mv : Nat) :
    s.supplyLow mv =
      ((({ s with power := { s.power with logicMv := mv } } : State).raised 0xC010).enterSafe 0xC010).writeFailing := by
  rw [State.supplyLow, ← State.raised, State.abandonTest_outside]
  rw [State.raised_eq]
  exact outside

theorem execLogicSupplyLow_fault {mv : Nat} {s : State} (h : EntersSafe s) (low : mv < 16800) :
    ∃ t, exec (.logicSupplyLow mv) s = .next t ∧ SafeFrom s t 0xC010 ∧ 0xC010 ∈ t.power.causes ∧
      t.power.logicMv = mv ∧ t.recorder.inbox = [] ∧ t.ash = s.ash ∧ t.sec = s.takeBack.sec ∧ t.log = s.log := by
  have written : Measured s { s with power := { s.power with logicMv := mv } } := rfl
  obtain ⟨safe, held, logic, -, kept⟩ := (written.enters h 0xC010).writeFailing.settle
  refine ⟨(s.supplyLow mv).settle, ?_, ?_⟩
  · simp [exec, execLogicSupplyLow, powered_of_entersSafe h, Nat.not_le.mpr low]
  · rw [State.supplyLow_outside (notShutdownTest_of_entersSafe h)]
    refine ⟨safe, held, logic, ?_, kept⟩
    simp only [State.settle_frame, State.writeFailing_inbox]

theorem execLogicSupplyHigh_fault {mv : Nat} {s : State} (h : EntersSafe s) (high : 30000 < mv) (most : mv ≤ 50000) :
    ∃ t, exec (.logicSupplyHigh mv) s = .next t ∧ SafeFrom s t 0xC011 ∧ 0xC011 ∈ t.power.causes ∧
      t.power.logicMv = mv ∧ t.ash = s.ash ∧ t.sec = s.takeBack.sec ∧ t.log = s.log := by
  have written : Measured s { s with power := { s.power with logicMv := mv } } := rfl
  obtain ⟨safe, held, logic, -, kept⟩ := (written.enters h 0xC011).settle
  refine ⟨_, ?_, safe, held, logic, kept⟩
  simp [exec, execLogicSupplyHigh, State.raised, powered_of_entersSafe h, Nat.not_le.mpr high, Nat.not_lt.mpr most]

theorem execInternalRailFault_powered {s : State} (powered : s.power.state.powered = true) :
    exec .internalRailFault s = .next ((s.raised 0xC012).enterSafe 0xC012).settle := by
  simp [exec, execInternalRailFault, State.raised, powered]

theorem execInternalRailFault_fault {s : State} (h : EntersSafe s) :
    ∃ t, exec .internalRailFault s = .next t ∧ SafeFrom s t 0xC012 ∧ 0xC012 ∈ t.power.causes ∧
      t.ash = s.ash ∧ t.sec = s.takeBack.sec ∧ t.log = s.log := by
  have written : Measured s s := rfl
  obtain ⟨safe, held, -, -, kept⟩ := (written.enters h 0xC012).settle
  exact ⟨_, execInternalRailFault_powered (powered_of_entersSafe h), safe, held, kept⟩

/-! ### The temperature -/

/-- Where no shutdown test runs, heat ends none (R399). -/
theorem State.shutdownHot_outside {s : State} (outside : s.power.state ≠ .shutdownTest) : s.shutdownHot = s := by
  simp [State.shutdownHot, outside]

theorem State.note_eq (s : State) (kind : Nat) (data : List Byte) :
    s.note kind data = { s with hi := (s.note kind data).hi, outbox := (s.note kind data).outbox } := by
  apply State.ext <;> simp only [State.note_frame]

/-- The temperature as measured, told once above 80 °C (R214). -/
def State.temperatureTold (s : State) (x : Int) : State :=
  let s1 := { s with power := { s.power with boardTemp := x, hotTold := decide (800 < x) } }
  if 800 < x && !s.power.hotTold then
    (s1.event 0xC021 .mg .f0).note 0x0183 (le 2 0xC021 ++ [0, 0] ++ le 4 (tenthsWord x))
  else s1

theorem State.temperatureTold_measured (s : State) (x : Int) : Measured s (s.temperatureTold x) := by
  simp only [Measured, State.temperatureTold]
  split
  · rw [State.note_eq]
    rfl
  · rfl

theorem State.temperatureTold_boardTemp (s : State) (x : Int) : (s.temperatureTold x).power.boardTemp = x := by
  simp only [State.temperatureTold]
  split
  · simp only [State.note_frame, State.event_frame]
  · rfl

theorem State.temperature_outOfRange {x : Int} {s : State} (outside : s.power.state ≠ .shutdownTest)
    (out : 850 < x ∨ x < -450) (fresh : 0xC020 ∉ s.power.causes) :
    s.temperature x = ((s.temperatureTold x).raised 0xC020).enterSafe 0xC020 := by
  have written := s.temperatureTold_measured x
  have notTest : (s.temperatureTold x).power.state ≠ .shutdownTest := by rw [written]; exact outside
  have absent : 0xC020 ∉ (s.temperatureTold x).power.causes := by rw [written]; exact fresh
  simp only [State.temperature]
  rw [← State.temperatureTold, State.shutdownHot_outside notTest, ite_self, if_pos (by simpa using out),
    if_neg (by simpa using absent)]
  rfl

theorem execBoardTemperature_fault {x : Int} {s : State} (h : EntersSafe s) (out : 850 < x ∨ x < -450)
    (fresh : 0xC020 ∉ s.power.causes) :
    ∃ t, exec (.boardTemperature x) s = .next t ∧ SafeFrom s t 0xC020 ∧ 0xC020 ∈ t.power.causes ∧
      t.power.boardTemp = x ∧ t.ash = s.ash ∧ t.sec = s.takeBack.sec ∧ t.log = s.log := by
  obtain ⟨safe, held, -, temp, kept⟩ := ((s.temperatureTold_measured x).enters h 0xC020).settle
  refine ⟨(s.temperature x).settle, by simp [exec, execBoardTemperature, powered_of_entersSafe h], ?_⟩
  rw [State.temperature_outOfRange (notShutdownTest_of_entersSafe h) out fresh]
  exact ⟨safe, held, temp.trans (s.temperatureTold_boardTemp x), kept⟩

/-! ### The third entry -/

/-- The third entry within 24 operating hours is LOCKOUT (R211). -/
theorem State.enterSafe_third {s : State}
    (from' : s.power.state = .run ∨ s.power.state = .start ∨ s.power.state = .stop)
    (unlocked : s.power.state = .start → s.power.lockoutCause = 0) (many : 2 ≤ s.recentEntries.length) (cause : Nat) :
    s.enterSafe cause = s.countEntry.enterLockout cause true true := by
  have now : s.enterSafe cause = s.enterSafeNow cause true := by
    rcases from' with run | start | stop
    · simp [State.enterSafe, run]
    · simp [State.enterSafe, start, unlocked start]
    · simp [State.enterSafe, stop]
  rw [now]
  simp only [State.recentEntries] at many
  simp only [State.enterSafeNow, State.countEntry, State.recentEntries]
  rw [if_pos (by omega)]

theorem State.enterLockout_reports {s : State} (h : LocksOut s) (cause : Nat) (halt repeated : Bool) :
    InboxKept s (s.enterLockout cause halt repeated) := by
  rw [State.enterLockout_entered h]
  have stood := s.standDown_inboxKept halt
  generalize s.standDown halt = t at stood ⊢
  exact (stood.event 0x0101 .cl .f4 0 0 0 false).framed (by simp only [State.note_frame]; rfl)

/-- What LOCKOUT switches off and clears on any entry (R212, R213). -/
theorem State.enterLockout_off {s : State} (h : LocksOut s) (cause : Nat) (halt repeated : Bool) :
    let t := s.enterLockout cause halt repeated
    t.power.state = .lockout ∧ t.power.repeated = repeated ∧ t.power.readyOff = true ∧ t.field.demands = 0 ∧
      t.bench.forces = [] ∧ t.eng.queue = [] := by
  obtain ⟨queue, -⟩ := s.standDown_eng halt
  obtain ⟨forces, -⟩ := s.standDown_forces halt
  rw [State.enterLockout_entered h]
  simp only [State.note_frame, State.event_frame, State.standDown_field]
  exact ⟨trivial, trivial, trivial, trivial, forces, queue⟩

theorem State.raised_recorder (s : State) (code : Nat) :
    (s.raised code).recorder = (s.event code .mg .f3).recorder := by
  rw [State.raised, State.causeOn_eq]

theorem powered_of_started {s : State}
    (from' : s.power.state = .run ∨ s.power.state = .start ∨ s.power.state = .stop) : s.power.state.powered = true := by
  rcases from' with run | start | stop
  · simp [run, PowerState.powered]
  · simp [start, PowerState.powered]
  · simp [stop, PowerState.powered]

theorem execInternalRailFault_third {s : State}
    (from' : s.power.state = .run ∨ s.power.state = .start ∨ s.power.state = .stop)
    (unlocked : s.power.state = .start → s.power.lockoutCause = 0)
    (many : 2 ≤ (s.power.entries.filter (fun t => s.opS < t + day)).length) :
    ∃ t, exec .internalRailFault s = .next t ∧ t.power.state = .lockout ∧ t.power.repeated = true ∧
      t.power.readyOff = true ∧ FirstReport s t 0xC012 0 0 0 ∧ t.field.demands = 0 ∧ t.bench.forces = [] ∧
      t.eng.queue = [] ∧ t.ash = s.ash ∧ t.sec = s.takeBack.sec ∧ t.log = s.log := by
  refine ⟨_, execInternalRailFault_powered (powered_of_started from'), ?_⟩
  have only := s.raised_eq 0xC012
  have told := s.raised_recorder 0xC012
  generalize s.raised 0xC012 = u at *
  rw [State.enterSafe_third (by rw [only]; exact from') (by rw [only]; exact unlocked) (by rw [only]; exact many)]
  have counted : u.countEntry.recorder = u.recorder := rfl
  have ash : u.countEntry.ash = s.ash := by rw [only]; rfl
  have log : u.countEntry.log = s.log := by rw [only]; rfl
  have logins : u.countEntry.takeBack.sec = s.takeBack.sec :=
    State.takeBack_sec_congr (by rw [only]; rfl) (by rw [only]; rfl)
  have locks : LocksOut u.countEntry := by
    rw [only]
    exact from'.imp_right fun later => later.imp_right .inl
  generalize u.countEntry = v at *
  obtain ⟨state, repeated, ready, demands, forces, queue⟩ := State.enterLockout_off locks 0xC012 true true
  have sec := State.enterLockout_takesBack locks 0xC012 true true
  have kept := State.enterLockout_reports locks 0xC012 true true
  have down := State.enterLockout_standsDown locks 0xC012 true true
  generalize v.enterLockout 0xC012 true true = t at *
  have first : FirstReport s t 0xC012 0 0 0 := by
    rw [InboxKept, counted, told] at kept
    exact firstReport_of_inboxKept rfl kept
  simp only [FirstReport, State.settle_frame] at *
  exact ⟨state, repeated, ready, first, demands, forces, queue, (congrArg State.ash down).trans ash,
    sec.trans logins, (congrArg State.log down).trans log⟩

/-! ### Above the absolute maximum -/

theorem execLogicSupplyHigh_beyond {mv : Nat} (beyond : 50000 < mv) (s : State) :
    exec (.logicSupplyHigh mv) s = .fault .beyondAbsoluteMaximum := if_pos beyond

theorem execLogicSupplyHigh_within {mv : Nat} (within : mv ≤ 50000) (s : State) :
    ∃ t, exec (.logicSupplyHigh mv) s = .next t := ⟨_, if_neg (Nat.not_lt.mpr within)⟩

end Sys2Proof.Machine
end

section
/-! PROOF. The statements about the supplies and the temperature. -/

namespace Sys2Proof.Proofs

open Sys2Proof Sys2Proof.Machine Sys2Proof.Safety

/-- Settles O11: each cause is raised and leads to SAFE, the temperature's where it is not present already; a third
entry leads to LOCKOUT. -/
theorem supplyFaultsEnterSafe : Obligations.SupplyFaultsEnterSafe := by
  unfold Obligations.SupplyFaultsEnterSafe
  refine ⟨?low, ?high, ?rail, ?temperature, ?third⟩
  case low =>
    intro mv s h low
    exact execLogicSupplyLow_fault h low
  case high =>
    intro mv s h high most
    exact execLogicSupplyHigh_fault h high most
  case rail =>
    intro s h
    exact execInternalRailFault_fault h
  case temperature =>
    intro x s h out fresh
    exact execBoardTemperature_fault h out fresh
  case third =>
    intro s from' unlocked many
    exact execInternalRailFault_third from' unlocked many

/-- Settles O12: a supply above 50 V is the one case without a next state (log entry 13). -/
theorem aboveMaximumStops : Obligations.AboveMaximumStops := by
  unfold Obligations.AboveMaximumStops
  intro mv s
  exact ⟨fun beyond => execLogicSupplyHigh_beyond beyond s, fun within => execLogicSupplyHigh_within within s⟩

end Sys2Proof.Proofs
end

section
/-! PROOF. Frames of the isolation link, taken and missed (R255, R256, R258, R259). -/

namespace Sys2Proof.Machine

open Sys2Proof Sys2Proof.Safety

theorem State.linkBack_eq (s : State) :
    s.linkBack = { s with power := { s.power with causes := s.linkBack.power.causes } } := by
  unfold State.linkBack
  split <;> rfl

/-! ### Core-to-field frames -/

theorem Field.takeSegment_eq (f : Field) (k : Nat) (bytes : List Byte) (quiet : Bool) :
    let g := f.takeSegment k bytes quiet
    g = { f with collect := g.collect, lastSetCrc := g.lastSetCrc, config := g.config, configCrc := g.configCrc } := by
  simp only [Field.takeSegment]
  (repeat' split) <;> rfl

/-- The link's own part of a frame that the field side accepts: its SEQ, the end of a loss, and a segment of the
configuration (R256 to R258). -/
def FrameAccepted (f g : Field) : Prop :=
  g = { f with
    fsSeq := f.flSent, fsMissed := 0, linkLost := false, fsSent := g.fsSent, collect := g.collect,
    lastSetCrc := g.lastSetCrc, config := g.config, configCrc := g.configCrc, segment := g.segment }

theorem State.coreFrame_expected {s : State} (next : s.field.flSent = s.field.fsSeq + 1) :
    ∃ f, FrameAccepted s.field f ∧
      s.coreFrame true [] = (({ s with field := f }).takeDemands s.field.demands).linkBack := by
  refine ⟨_, ?_, if_pos (by simp [next])⟩
  simp only [FrameAccepted]
  split
  · rw [Field.takeSegment_eq]
  · rfl

theorem State.takeDemands_eq (s : State) (w : Word) :
    s.takeDemands w = { s with field := { s.field with outputs := (s.takeDemands w).field.outputs } } := rfl

/-- An output takes its bit of the demands and keeps its permit (R244). -/
theorem State.takeDemands_output {n : Nat} {o : FieldOutput} {s : State} (held : s.field.outputs[n]? = some o)
    (w : Word) :
    ∃ o', (s.takeDemands w).field.outputs[n]? = some o' ∧ o'.demand = w.getLsbD n ∧ o'.permit = o.permit := by
  simp only [State.takeDemands, Field.drive, withIndex, List.getElem?_map, List.getElem?_zipIdx, held, Option.map_some,
    Nat.zero_add, Option.some.injEq, exists_eq_left']
  split_ifs <;> exact ⟨rfl, rfl⟩

theorem execCoreToFieldFrame_expected {s : State} (fitted : s.unit.variant.groups ≠ 0)
    (next : s.field.flSent = s.field.fsSeq + 1) :
    ∃ t, exec (.coreToFieldFrame true []) s = .next t ∧ t.field.fsSeq = s.field.flSent ∧ t.field.fsMissed = 0 ∧
      t.field.linkLost = false ∧ t.field.stale = s.field.stale ∧ t.field.demands = s.field.demands ∧
      (∀ (n : Nat) (o : FieldOutput), s.field.outputs[n]? = some o → ∃ o', t.field.outputs[n]? = some o' ∧
        o'.demand = s.field.demands.getLsbD n ∧ o'.permit = o.permit) ∧ t.field.inputs = s.field.inputs ∧
      t.field.reports = s.field.reports ∧
      t = { s with field := t.field, power := { s.power with causes := t.power.causes },
                   hi := mirrorOf s t } := by
  obtain ⟨f, accepted, frame⟩ := State.coreFrame_expected next
  refine ⟨(s.coreFrame true []).settle, by simp [exec, execCoreToFieldFrame, fitted], ?_⟩
  have outputs : f.outputs = s.field.outputs := by rw [accepted]
  rw [frame, State.settle_eq, State.linkBack_eq, State.takeDemands_eq]
  refine ⟨?_, ?_, ?_, ?_, ?_, ?outputs, ?_, ?_, rfl⟩
  case outputs =>
    intro n o held
    rw [← outputs] at held
    exact State.takeDemands_output held _
  all_goals rw [accepted]

/-- A frame that does not arrive whole or in sequence (R256, R257, R260). -/
theorem execCoreToFieldFrame_missed {x : Bool} {l : List (Nat × Nat × Nat)} {s : State}
    (fitted : s.unit.variant.groups ≠ 0) (bad : x = false ∨ s.field.flSent ≠ s.field.fsSeq + 1) :
    ∃ t, exec (.coreToFieldFrame x l) s = .next t ∧
      t.field = { s.field with
        fsMissed := s.field.fsMissed + 1, missed := s.field.missed + 1, missedFs := s.field.missedFs + 1
        fsMost := Nat.max s.field.fsMost (s.field.fsMissed + 1) } ∧
      Recorded s t 0x3001 0 (s.field.missedFs + 1) (Nat.max s.field.fsMost (s.field.fsMissed + 1)) ∧ FieldOnly s t := by
  have missed : ¬ (x && decide (s.field.flSent = s.field.fsSeq + 1)) = true := by
    simp only [Bool.and_eq_true, decide_eq_true_eq]
    rintro ⟨intact, next⟩
    exact bad.elim (by simp [intact]) (absurd next)
  refine ⟨(s.coreFrame x l).settle, by simp [exec, execCoreToFieldFrame, fitted], ?_⟩
  rw [State.coreFrame, if_neg missed]
  refine ⟨?_, recorded_settle (State.event_recorded rfl rfl rfl ..), ?_⟩
  · simp only [State.settle_frame, State.event_frame]
  · rw [FieldOnly, State.settle_eq]
    rfl

/-! ### Field-to-core frames -/

/-- What the field link takes of a frame before its report and its edge counts: its SEQ, its arrival, the values of the
inputs; the field side's own registers stay (R255, R256). -/
def FrameTaken (s : State) (f : Field) : Prop :=
  f.flSeq = s.field.fsSent ∧ f.flMissed = 0 ∧ f.stale = false ∧ f.arrivalUs = s.opUs ∧
    f.frames = s.field.frames.cross (s.xing .flCl).linkDown ∧
    (∀ n, n < 64 → f.values.getLsbD n = (s.field.inputs.getD n {}).value) ∧ f.outputs = s.field.outputs ∧
    f.inputs = s.field.inputs ∧ f.reports = s.field.reports ∧ f.edgeLog = s.field.edgeLog

theorem State.fieldFrame_expected {s : State} (next : s.field.fsSent = s.field.flSeq + 1)
    (up : (s.xing .fsFl).linkDown = false) (known : s.power.state = .run → s.field.configCrc = s.expectedConfig) :
    ∃ f, FrameTaken s f ∧
      s.fieldFrame true = (((({ s with field := f }).takeReport).takeEdges).linkBack).tryRun := by
  refine ⟨_, ?_, if_pos ?_⟩
  · exact ⟨rfl, rfl, rfl, rfl, rfl, fun n inside => ofNat_bitSum_getLsbD inside _, rfl, rfl, rfl, rfl⟩
  · by_cases run : s.power.state = .run
    · simp [up, next, known run]
    · simp [up, next, run]

theorem State.tryRun_outside {s : State} (outside : s.power.state ≠ .start) : s.tryRun = s := by
  simp [State.tryRun, outside]

/-- The oldest report is recorded, and the others wait (R255, R260). -/
theorem State.takeReport_reported (s : State) :
    ∃ l, l.length = Nat.min 1 s.field.reports.length ∧
      s.takeReport = { s with
        field := { s.field with reports := s.field.reports.tail }
        recorder := { s.recorder with inbox := s.recorder.inbox ++ l } } ∧
      ∀ r k, s.field.reports = r :: k →
        ∃ x, l = [x] ∧ x.code = r.code ∧ x.p0 = word r.p0 ∧ x.p1 = word r.p1 ∧ x.p2 = word r.p2 := by
  cases waiting : s.field.reports with
  | nil =>
    have none' : s.takeReport = s := by simp [State.takeReport, waiting]
    refine ⟨[], rfl, ?_, by simp⟩
    rw [none', List.append_nil, List.tail_nil, ← waiting]
  | cons r k =>
    refine ⟨[_], (Nat.min_eq_left (by simp)).symm, by simp only [State.takeReport, waiting]; rfl, ?_⟩
    rintro r' k' same
    obtain ⟨rfl, -⟩ := List.cons.inj same
    exact ⟨_, rfl, rfl, rfl, rfl, rfl⟩

theorem State.foldl_event_eq {α : Type} {code : α → Nat} {src : Source} {sev : Severity} {a b c : α → Nat}
    (l : List α) (s : State) :
    ∃ k, k.length = l.length ∧ l.foldl (fun s x => s.event (code x) src sev (a x) (b x) (c x)) s =
      { s with recorder := { s.recorder with inbox := s.recorder.inbox ++ k } } := by
  induction l generalizing s with
  | nil => exact ⟨[], rfl, by rw [List.append_nil, List.foldl_nil]⟩
  | cons x l ih =>
    obtain ⟨r, one⟩ : ∃ r, s.event (code x) src sev (a x) (b x) (c x) =
      { s with recorder := { s.recorder with inbox := s.recorder.inbox ++ [r] } } := ⟨_, rfl⟩
    obtain ⟨k, length, rest⟩ := ih (s.event (code x) src sev (a x) (b x) (c x))
    refine ⟨r :: k, by rw [List.length_cons, length, List.length_cons], ?_⟩
    rw [List.foldl_cons, rest, one, List.append_assoc]
    rfl

/-- Each counted edge is recorded, and the log is empty (R236). -/
theorem State.takeEdges_reported (s : State) :
    ∃ l, l.length = s.field.edgeLog.length ∧
      s.takeEdges = { s with
        field := { s.field with
          edgeLog := [], coreEpoch := s.field.fsEpoch, coreEdges := s.takeEdges.field.coreEdges }
        recorder := { s.recorder with inbox := s.recorder.inbox ++ l } } := by
  obtain ⟨l, length, told⟩ := State.foldl_event_eq (code := fun _ : FieldReport × Nat => 0x3010) (src := .fs)
    (sev := .info) (a := fun p => p.1.p0) (b := fun p => p.1.p1) (c := fun p => s.field.edgeCount p.1 p.2)
    (withIndex s.field.edgeLog) s
  refine ⟨l, by rw [length, withIndex, List.length_zipIdx], ?_⟩
  simp only [State.takeEdges]
  rw [told]

theorem execFieldToCoreFrame_expected {s : State} (fitted : s.unit.variant.groups ≠ 0)
    (next : s.field.fsSent = s.field.flSeq + 1) (up : (s.xing .fsFl).linkDown = false)
    (outside : s.power.state ≠ .start) (known : s.power.state = .run → s.field.configCrc = s.expectedConfig) :
    ∃ t, exec (.fieldToCoreFrame true) s = .next t ∧ t.field.flSeq = s.field.fsSent ∧ t.field.flMissed = 0 ∧
      t.field.stale = false ∧ t.field.arrivalUs = s.opUs ∧
      t.field.frames = s.field.frames.cross (s.xing .flCl).linkDown ∧
      (∀ n, n < 64 → t.field.values.getLsbD n = (s.field.inputs.getD n {}).value) ∧ t.field.outputs = s.field.outputs ∧
      t.field.inputs = s.field.inputs ∧ t.field.reports = s.field.reports.tail ∧ t.field.edgeLog = [] ∧
      t.recorder.inbox.length =
        s.recorder.inbox.length + Nat.min 1 s.field.reports.length + s.field.edgeLog.length ∧
      (∀ r l, s.field.reports = r :: l → FirstReport s t r.code r.p0 r.p1 r.p2) ∧
      t = { s with field := t.field, power := { s.power with causes := t.power.causes },
                   recorder := { s.recorder with inbox := t.recorder.inbox }, hi := mirrorOf s t } := by
  obtain ⟨f, ⟨seq, missed, stale, arrival, frames, values, outputs, inputs, reports, edges⟩, frame⟩ :=
    State.fieldFrame_expected next up known
  obtain ⟨l, length, report, first⟩ := ({ s with field := f } : State).takeReport_reported
  obtain ⟨k, length', counts⟩ := ({ s with field := f } : State).takeReport.takeEdges_reported
  have same : ({ s with field := f } : State).takeReport.field.edgeLog = s.field.edgeLog := by rw [report, ← edges]
  refine ⟨(s.fieldFrame true).settle, by simp [exec, execFieldToCoreFrame, fitted], ?_⟩
  rw [frame, State.tryRun_outside (by rw [State.linkBack_eq, counts, report]; exact outside), State.settle_eq,
    State.linkBack_eq, counts, report]
  simp only
  refine ⟨seq, missed, stale, arrival, frames, values, outputs, inputs, congrArg List.tail reports, trivial, ?_, ?_,
    trivial⟩
  · rw [List.length_append, List.length_append, length, length', same, ← reports]
  · intro r m waiting
    obtain ⟨x, rfl, told⟩ := first r m (reports.trans waiting)
    exact ⟨x, k, List.append_assoc .., told⟩

/-- A frame that does not arrive whole, in sequence, over a link that is up, or in RUN with the configuration expected
(R225, R256, R257, R260). -/
theorem execFieldToCoreFrame_missed {x : Bool} {s : State} (fitted : s.unit.variant.groups ≠ 0)
    (bad : x = false ∨ s.field.fsSent ≠ s.field.flSeq + 1 ∨ (s.xing .fsFl).linkDown = true ∨
      (s.power.state = .run ∧ s.field.configCrc ≠ s.expectedConfig)) :
    ∃ t, exec (.fieldToCoreFrame x) s = .next t ∧
      t.field = { s.field with
        flMissed := s.field.flMissed + 1, missed := s.field.missed + 1, missedFl := s.field.missedFl + 1
        flMost := Nat.max s.field.flMost (s.field.flMissed + 1), crcGood := 0 } ∧
      Recorded s t 0x3001 1 (s.field.missedFl + 1) (Nat.max s.field.flMost (s.field.flMissed + 1)) ∧ FieldOnly s t := by
  have missed : (x && !(s.xing .fsFl).linkDown && decide (s.field.fsSent = s.field.flSeq + 1) &&
      (decide (s.field.configCrc = s.expectedConfig) || s.power.state != .run)) = false := by
    rcases bad with broken | outOfTurn | fenced | ⟨run, other⟩
    · simp [broken]
    · rw [decide_eq_false outOfTurn, Bool.and_false, Bool.false_and]
    · simp [fenced]
    · simp [run, other]
  refine ⟨(s.fieldFrame x).settle, by simp [exec, execFieldToCoreFrame, fitted], ?_⟩
  rw [State.fieldFrame, if_neg (by rw [missed]; exact Bool.false_ne_true)]
  refine ⟨?_, recorded_settle (State.event_recorded rfl rfl rfl ..), ?_⟩
  · simp only [State.settle_frame, State.event_frame]
  · rw [FieldOnly, State.settle_eq]
    rfl

end Sys2Proof.Machine
end

section
/-! PROOF. A loss of the isolation link (R206, R257), and a reset of the field side (R216, R226, R230, R258). -/

namespace Sys2Proof.Machine

open Sys2Proof Sys2Proof.Safety

/-! ### A loss -/

theorem execIsolationLinkLoss_none {d : LinkLoss} {s : State} (heard : s.field.lost d = false) :
    ∃ t, exec (.isolationLinkLoss d) s = .next t ∧ t = { s with hi := mirrorOf s t } :=
  ⟨s.settle, by simp [exec, execIsolationLinkLoss, heard], State.settle_eq s⟩

/-- With the link lost no switch stays closed (R257). -/
theorem Field.drive_open {f : Field} (lost : f.linkLost = true) :
    ∀ o ∈ f.drive.outputs, o.high = false ∧ o.low = false := by
  intro o held
  obtain ⟨p, -, rfl⟩ := List.mem_map.mp held
  simp [Field.highClosed, Field.lowClosed, lost]

/-- What a loss in a direction leaves of the field side and the field link (R257). -/
def LinkLost (d : LinkLoss) (f : Field) : Prop :=
  (d ≠ .fieldToCore → f.linkLost = true ∧ ∀ o ∈ f.outputs, o.high = false ∧ o.low = false) ∧
  (d ≠ .coreToField → f.stale = true ∧ f.valid = 0)

/-- A loss reported and its cause raised, before the entry into SAFE (R206, R257). -/
theorem State.linkLoss_lost (s : State) (d : LinkLoss) :
    ∃ u : State, LinkLost d u.field ∧ s.linkLoss d = u.enterSafe 0x3002 ∧ 0x3002 ∈ u.power.causes ∧
      u = { s with
        field := u.field, power := { s.power with causes := u.power.causes }, recorder := u.recorder } := by
  refine ⟨_, ?_, rfl, State.causeOn_mem .., ?_⟩
  · simp only [LinkLost, State.causeOn_frame, State.event_frame]
    refine ⟨fun field => ?_, fun core => by simp [Field.drive, core]⟩
    have lost : (s.field.linkLost || d != .fieldToCore) = true := by simp [field]
    exact ⟨lost, Field.drive_open lost⟩
  · rw [State.causeOn_eq]
    rfl

theorem execIsolationLinkLoss_lost {d : LinkLoss} {s : State} (fitted : s.unit.variant.groups ≠ 0)
    (lost : s.field.lost d = true) (h : EntersSafe s) :
    ∃ t, exec (.isolationLinkLoss d) s = .next t ∧ SafeFrom s t 0x3002 ∧ 0x3002 ∈ t.power.causes ∧
      (d ≠ .fieldToCore → t.field.linkLost = true ∧ ∀ o ∈ t.field.outputs, o.high = false ∧ o.low = false) ∧
      (d ≠ .coreToField → t.field.stale = true ∧ t.field.valid = 0) ∧ StandsDown { s with field := t.field } t := by
  obtain ⟨u, ⟨opened, doubted⟩, loss, held, only⟩ := s.linkLoss_lost d
  refine ⟨(s.linkLoss d).settle, by simp [exec, execIsolationLinkLoss, fitted, lost], ?_⟩
  rw [loss]
  have enters : EntersSafe u := by rw [only]; exact h
  have safe := safeFrom_settle (State.enterSafe_enters enters 0x3002 true)
  have down := standsDown_settle (State.enterSafe_standsDown enters 0x3002 true)
  have field : (u.enterSafe 0x3002).settle.field = { u.field with demands := 0 } := by
    rw [State.settle_field, State.enterSafe_field enters]
  have causes : (u.enterSafe 0x3002).settle.power.causes = u.power.causes := by
    simp only [State.settle_frame, State.enterSafe_power_frame]
  generalize (u.enterSafe 0x3002).settle = t at *
  have logins : u.takeBack.sec = ({ s with field := t.field } : State).takeBack.sec :=
    State.takeBack_sec_congr (by rw [only]) (by rw [only])
  refine ⟨?_, by rwa [causes], ?_, ?_, ?_⟩
  · rw [only] at safe
    exact safe
  · rw [field]
    exact opened
  · rw [field]
    exact doubted
  · unfold StandsDown at *
    rw [← logins, field]
    generalize u.takeBack.sec = sec at *
    rw [only] at down
    exact down

/-! ### A reset of the field side -/

theorem execFieldSideReset_fitted {s : State} (fitted : s.unit.variant.groups ≠ 0) :
    ∃ t, exec .fieldSideReset s = .next t ∧ t.field.config = [] ∧ t.field.configCrc = 0 ∧
      t.field.reports = [] ∧ t.field.edgeLog = [] ∧ t.field.fsEpoch = !s.field.fsEpoch ∧
      (∀ o ∈ t.field.outputs, o.demand = false ∧ o.permit = false ∧ o.high = false ∧ o.low = false ∧ o.fault = 0) ∧
      (∀ i ∈ t.field.inputs, i.value = false ∧ i.fault = 0) ∧ (∀ g ∈ t.field.groups, g.switchOn = false) ∧
      (t.xing .fsFl).linkDown = true ∧
      t = { s with field := t.field, xings := t.xings, recorder := t.recorder, hi := mirrorOf s t } := by
  refine ⟨(s.resetField.fence .fsFl).settle, by simp [exec, execFieldSideReset, fitted], ?_⟩
  have fenced := s.resetField.fence_linkDown_same .fsFl
  have only : s.resetField.fence .fsFl = { s.resetField with
      xings := (s.resetField.fence .fsFl).xings, recorder := (s.resetField.fence .fsFl).recorder } := by
    apply State.ext <;> simp only [State.fence_frame]
  generalize s.resetField.fence .fsFl = u at *
  have field : u.field = s.resetField.field := by rw [only]
  simp only [State.xing, State.settle_frame, field] at fenced ⊢
  refine ⟨rfl, rfl, rfl, rfl, rfl, ?_, ?_, ?_, fenced, ?_⟩
  · simp [State.resetField]
  · simp [State.resetField]
  · simp [State.resetField, FieldGroup.reset]
  · rw [State.settle_eq, only]
    rfl

end Sys2Proof.Machine
end

section
/-! PROOF. The statement about the isolation link. -/

namespace Sys2Proof.Proofs

open Sys2Proof Sys2Proof.Machine Sys2Proof.Safety

/-- Settles O41: frames taken and missed in both directions, a loss that is none and one that is, and the reset. That
one report crosses with each frame is the model's choice (log entry 79). -/
theorem isolationLink : Obligations.IsolationLink := by
  unfold Obligations.IsolationLink
  refine ⟨?toField, ?toFieldMissed, ?toCore, ?toCoreMissed, ?noLoss, ?loss, ?reset⟩
  case toField =>
    intro s fitted next
    exact execCoreToFieldFrame_expected fitted next
  case toFieldMissed =>
    intro x l s fitted bad
    exact execCoreToFieldFrame_missed fitted bad
  case toCore =>
    intro s fitted next up outside known
    exact execFieldToCoreFrame_expected fitted next up outside known
  case toCoreMissed =>
    intro x s fitted bad
    exact execFieldToCoreFrame_missed fitted bad
  case noLoss =>
    intro d s heard
    exact execIsolationLinkLoss_none heard
  case loss =>
    intro d s fitted lost h
    exact execIsolationLinkLoss_lost fitted lost h
  case reset =>
    intro s fitted
    exact execFieldSideReset_fitted fitted

end Sys2Proof.Proofs
end

section
/-! PROOF. Crossings fenced with a side in reset (R225, R226, R228). -/

namespace Sys2Proof.Machine

open Sys2Proof Sys2Proof.Safety

/-- From `s` to `t` crossings were fenced or their registers reset: only these and the records of it changed, and no
crossing's link came up. -/
structure Fences (s t : State) : Prop where
  only : t = { s with xings := t.xings, recorder := t.recorder }
  told : InboxKept s t
  kept : ∀ y, (s.xing y).linkDown = true → (t.xing y).linkDown = true

theorem Fences.refl (s : State) : Fences s s := ⟨rfl, List.prefix_refl _, fun _ down => down⟩

theorem Fences.fence {s t : State} (h : Fences s t) (x : Crossing) : Fences s (t.fence x) := by
  obtain ⟨only, told, kept⟩ := h
  refine ⟨?_, State.fence_inboxKept told x, fun y down => State.fence_linkDown (kept y down) x⟩
  apply State.ext <;> simp only [State.fence_frame]
  all_goals rw [only]

/-- A crossing whose register is set with its link no more up than before. -/
theorem Fences.setXing {s t : State} {x : Crossing} {v : Xing} (h : Fences s t)
    (down : (t.xing x).linkDown = true → v.linkDown = true) : Fences s (t.setXing x v) := by
  obtain ⟨only, told, kept⟩ := h
  refine ⟨by rw [only]; rfl, told, fun y was => ?_⟩
  by_cases same : y = x
  · subst same
    rw [State.setXing_xing_same]
    exact down (kept y was)
  · rw [State.setXing_xing_of_ne same]
    exact kept y was

theorem Fences.fenceDest {s t : State} (h : Fences s t) (x : Crossing) : Fences s (t.fenceDest x) :=
  (h.fence x).setXing fun down => down

theorem Fences.restartCounter {s t : State} (h : Fences s t) (x : Crossing) : Fences s (t.restartCounter x) :=
  h.setXing fun down => down

theorem Fences.foldl {s t : State} {f : State → Crossing → State}
    (each : ∀ {t}, Fences s t → ∀ x, Fences s (f t x)) (h : Fences s t) (l : List Crossing) : Fences s (l.foldl f t) :=
  List.foldlRecOn (motive := Fences s) l f h fun _ h x _ => each h x

theorem State.fenceDest_linkDown_same (s : State) (x : Crossing) : ((s.fenceDest x).xing x).linkDown = true := by
  rw [State.fenceDest, State.setXing_xing_same]
  exact s.fence_linkDown_same x

theorem State.fenceDest_all_linkDown (l : List Crossing) (s : State) :
    ∀ x ∈ l, ((l.foldl State.fenceDest s).xing x).linkDown = true :=
  foldl_forall (P := fun t x => (t.xing x).linkDown = true) State.fenceDest_linkDown_same
    (fun t x y down => ((Fences.refl t).fenceDest x).kept y down) l s

theorem State.fence_xing_of_ne {x y : Crossing} (other : y ≠ x) (s : State) : (s.fence x).xing y = s.xing y := by
  simp only [State.fence]
  split
  · rfl
  · exact State.setXing_xing_of_ne other s _

theorem State.fence_counter (s : State) (x : Crossing) : ((s.fence x).xing x).counter = (s.xing x).counter := by
  simp only [State.fence]
  split
  · rfl
  · change ((s.setXing x _).xing x).counter = _
    rw [State.setXing_xing_same]

theorem State.fenceDest_xing_of_ne {x y : Crossing} (other : y ≠ x) (s : State) :
    (s.fenceDest x).xing y = s.xing y := by
  rw [State.fenceDest, State.setXing_xing_of_ne other, State.fence_xing_of_ne other]

end Sys2Proof.Machine
end

section
/-! PROOF. A host link reset (R216, R325, R326). -/

namespace Sys2Proof.Machine

open Sys2Proof Sys2Proof.Safety

/-- The crossings as a host link reset fences them, with the doorbells' count restarted (R225 to R228). -/
def State.hostFenced (s : State) : State := (toHi.foldl State.fenceDest (s.fence .hiMg)).restartCounter .hiMg

theorem State.hostFenced_fences (s : State) : Fences s s.hostFenced :=
  (((Fences.refl s).fence .hiMg).foldl (fun h x => h.fenceDest x) toHi).restartCounter .hiMg

theorem State.hostFenced_linkDown (s : State) :
    ∀ x ∈ [Crossing.hiMg, .mgHi, .clHi], (s.hostFenced.xing x).linkDown = true := by
  have dests := State.fenceDest_all_linkDown toHi (s.fence .hiMg)
  have source := ((Fences.refl (s.fence .hiMg)).foldl (fun h x => h.fenceDest x) toHi).kept .hiMg
    (s.fence_linkDown_same .hiMg)
  have counted := ((Fences.refl (toHi.foldl State.fenceDest (s.fence .hiMg))).restartCounter .hiMg).kept
  intro x among
  refine counted x ?_
  rcases List.mem_cons.mp among with rfl | among
  · exact source
  · exact dests x among

theorem State.hostFenced_counter (s : State) :
    (s.hostFenced.xing .hiMg).counter = (s.xing .hiMg).counter.sourceReset := by
  simp only [State.hostFenced, State.restartCounter, State.setXing_xing_same, toHi, List.foldl_cons, List.foldl_nil]
  rw [State.fenceDest_xing_of_ne (by decide), State.fenceDest_xing_of_ne (by decide), State.fence_counter]

/-- A fenced mirror is not refreshed (R225). -/
theorem State.settle_fenced {s : State} (down : s.hi.downCl = true) : s.settle = s := by
  simp [State.settle, down]

theorem execHostLinkReset_powered {s : State} (powered : s.power.state.powered = true) :
    ∃ t, exec .hostLinkReset s = .next t ∧ t.hi.bar2 = [] ∧ t.hi.done = 0 ∧ t.hi.busy = 0 ∧ t.hi.irqStat = 0 ∧
      t.hi.irqMask = 0xF ∧ t.hi.scratch = 0 ∧ t.hi.head = 0 ∧ t.hi.tail = 0 ∧ t.hi.state = 0 ∧ t.hi.downMg = true ∧
      t.hi.downCl = true ∧ t.hi.subscribed = 0 ∧ t.hi.heldDone = s.hi.heldDone ∧
      (∃ n, t.hi.heldNotes = n :: s.hi.heldNotes ∧ n.2.kind = 0x0003) ∧
      (∀ x ∈ [Crossing.hiMg, .mgHi, .clHi], (t.xing x).linkDown = true) ∧
      (t.xing .hiMg).counter = (s.xing .hiMg).counter.sourceReset ∧
      t.mg = { s.mg with sessions := s.mg.sessions.filter (fun x => x.via != .pcie) } ∧
      t = { s with hi := t.hi, mg := t.mg, xings := t.xings, recorder := t.recorder
                   bench := { s.bench with undo := s.bench.undo.map (fun (u : Undo) =>
                     { u with sessions := u.sessions.filter (fun x => x.via != .pcie) }) } } := by
  have run : exec .hostLinkReset s = .next s.hostReset := by
    simp only [exec, execHostLinkReset, powered, if_true]
    rw [State.settle_fenced rfl]
  have down := s.hostFenced_linkDown
  have counter := s.hostFenced_counter
  have only := s.hostFenced_fences.only
  have done' : s.hostFenced.hi.heldDone = s.hi.heldDone := by rw [only]
  have notes : s.hostFenced.hi.heldNotes = s.hi.heldNotes := by rw [only]
  have mg : s.hostFenced.mg = s.mg := by rw [only]
  refine ⟨s.hostReset, run, ?_⟩
  rw [State.hostReset, ← State.hostFenced]
  generalize s.hostFenced = u at *
  refine ⟨rfl, rfl, rfl, rfl, rfl, rfl, rfl, rfl, rfl, rfl, rfl, rfl, done', ⟨_, congrArg (_ :: ·) notes, rfl⟩,
    down, counter, ?_, ?_⟩
  · simp only [State.restartRing, mg]
  · rw [only]
    rfl

end Sys2Proof.Machine
end

section
/-! PROOF. The management core's failure and its restart (R209, R228, R366). -/

namespace Sys2Proof.Machine

open Sys2Proof Sys2Proof.Safety

/-! ### The link flags -/

theorem State.linkFlags_eq (s : State) :
    s.linkFlags = { s with hi := s.linkFlags.hi, outbox := s.linkFlags.outbox } := by
  apply State.ext <;> simp only [State.linkFlags_frame]

theorem State.linkFlags_downMg (s : State) :
    s.linkFlags.hi.downMg = mgLinks.any fun x => (s.xing x).linkDown := by
  simp only [State.linkFlags]
  split
  · simp only [State.irq_hi_frame]
  · rfl

theorem State.linkFlags_heldDone (s : State) : s.linkFlags.hi.heldDone = s.hi.heldDone := by
  simp only [State.linkFlags]
  split
  · simp only [State.irq_hi_frame]
  · rfl

/-! ### The failure -/

/-- The failure of the management core told (R209, R353). -/
def State.mgLossTold (s : State) : State := (s.event 0x0110 .cl .f0).note 0x0183 (le 2 0x0110)

theorem State.mgLossTold_eq (s : State) :
    s.mgLossTold = { s with hi := s.mgLossTold.hi, outbox := s.mgLossTold.outbox
                            recorder := (s.event 0x0110 .cl .f0).recorder } := by
  rw [State.mgLossTold, State.note_eq]
  rfl

theorem State.mgLossTold_heldDone (s : State) : s.mgLossTold.hi.heldDone = s.hi.heldDone := by
  rw [State.mgLossTold]
  simp only [State.note_hi_frame, State.event_frame]

/-- The crossings as the failure of the management core fences them, with its own counts restarted (R225 to R228). -/
def State.mgFenced (s : State) : State :=
  fromMg.foldl State.restartCounter (toMg.foldl State.fenceDest (s.fenceAll fromMg))

theorem State.mgFenced_fences (s : State) : Fences s s.mgFenced :=
  (((Fences.refl s).foldl (fun h x => h.fence x) fromMg).foldl (fun h x => h.fenceDest x) toMg).foldl
    (fun h x => h.restartCounter x) fromMg

theorem State.mgFenced_linkDown (s : State) :
    ∀ x ∈ [Crossing.mgCl, .mgHi, .clMg, .hiMg, .rtMg, .fbMg], (s.mgFenced.xing x).linkDown = true := by
  have sources := s.fenceAll_linkDown fromMg
  have kept := ((Fences.refl (s.fenceAll fromMg)).foldl (fun h x => h.fenceDest x) toMg).kept
  have dests := State.fenceDest_all_linkDown toMg (s.fenceAll fromMg)
  have counted := ((Fences.refl (toMg.foldl State.fenceDest (s.fenceAll fromMg))).foldl
    (fun h x => h.restartCounter x) fromMg).kept
  intro x among
  refine counted x ?_
  rcases List.mem_append.mp (show x ∈ fromMg ++ toMg from among) with source | dest
  · exact kept x (sources x source)
  · exact dests x dest

/-- The module cut off from its failed management core: the failure told, the crossings fenced, the flags of it set. -/
def State.mgCut (s : State) : State := s.mgLossTold.mgFenced.linkFlags

theorem State.mgCut_eq (s : State) :
    s.mgCut = { s with hi := s.mgCut.hi, xings := s.mgCut.xings, recorder := s.mgCut.recorder
                       outbox := s.mgCut.outbox } := by
  have told := s.mgLossTold_eq
  have fences := s.mgLossTold.mgFenced_fences.only
  have flags := s.mgLossTold.mgFenced.linkFlags_eq
  unfold State.mgCut
  generalize s.mgLossTold.mgFenced.linkFlags = c at *
  generalize s.mgLossTold.mgFenced = b at *
  generalize s.mgLossTold = a at *
  rw [flags, fences, told]

theorem State.mgCut_linkDown (s : State) :
    ∀ x ∈ [Crossing.mgCl, .mgHi, .clMg, .hiMg, .rtMg, .fbMg], (s.mgCut.xing x).linkDown = true := by
  simpa only [State.xing, State.mgCut, State.linkFlags_frame] using s.mgLossTold.mgFenced_linkDown

theorem State.mgCut_hi (s : State) : s.mgCut.hi.downMg = true ∧ s.mgCut.hi.heldDone = s.hi.heldDone := by
  constructor
  · rw [State.mgCut, State.linkFlags_downMg]
    simp [mgLinks, s.mgLossTold.mgFenced_linkDown .hiMg (by decide)]
  · rw [State.mgCut, State.linkFlags_heldDone, s.mgLossTold.mgFenced_fences.only, s.mgLossTold_heldDone]

theorem State.mgCut_reports (s : State) : InboxKept (s.event 0x0110 .cl .f0) s.mgCut := by
  have told := s.mgLossTold.mgFenced_fences.told
  have lost : s.mgLossTold.recorder = (s.event 0x0110 .cl .f0).recorder := by rw [s.mgLossTold_eq]
  have flags : s.mgCut.recorder = s.mgLossTold.mgFenced.recorder := by simp only [State.mgCut, State.linkFlags_frame]
  rwa [InboxKept, lost, ← flags] at told

theorem execMgHeartbeatLoss_alive {s : State} (alive : s.mg.alive = true) (powered : s.power.state.powered = true) :
    ∃ t, exec .mgHeartbeatLoss s = .next t ∧
      t.mg = { s.mg with
        alive := false, queue := [], sessions := [], heartbeats := s.mg.heartbeats.sourceReset
        outstanding := s.mg.outstanding ++ s.hi.heldDone.map (fun r => (r.req, r.opcode)) } ∧
      FirstReport s t 0x0110 0 0 0 ∧ t.hi.downMg = true ∧ t.hi.heldDone = [] ∧ t.hi.heldNotes = [] ∧
      t.hi.subscribed = 0 ∧ t.hi.x8Subscribed = 0 ∧
      (∀ x ∈ [Crossing.mgCl, .mgHi, .clMg, .hiMg, .rtMg, .fbMg], (t.xing x).linkDown = true) ∧
      t = { s with
        mg := t.mg, hi := t.hi, xings := t.xings, recorder := t.recorder, outbox := t.outbox, diag := none
        can := s.can.map CanPort.mgReset
        bench := { s.bench with undo := s.bench.undo.map (fun (u : Undo) => { u with sessions := [] }) } } := by
  have down := s.mgCut_linkDown
  obtain ⟨flag, held⟩ := s.mgCut_hi
  have first : FirstReport s s.mgCut 0x0110 0 0 0 := firstReport_of_inboxKept rfl s.mgCut_reports
  have only := s.mgCut_eq
  refine ⟨s.mgLost.settle, rfl, ?_⟩
  rw [State.mgLost, if_neg (by simp [alive, powered]), State.settle_eq]
  dsimp only
  rw [← State.mgLossTold, ← State.mgFenced, ← State.mgCut]
  generalize s.mgCut = u at *
  have mg : u.mg = s.mg := by rw [only]
  refine ⟨by simp only [mg, held], first, flag, rfl, rfl, rfl, rfl, down, ?_⟩
  rw [only]

/-! ### The restart -/

/-- A completion on PCIe waits while the host link's crossing is fenced (R326). -/
theorem State.deliver_held {s : State} {r : Response} (alive : s.mg.alive = true) (voided : s.mg.voided = [])
    (down : s.hi.downMg = true) (pcie : r.req.via = .pcie) :
    s.deliver r = { s with
      mg := { s.mg with outstanding := s.mg.outstanding.filter (fun p => !(p.1.sameTag r.req)) }
      hi := { s.hi with heldDone := s.hi.heldDone ++ [r] } } := by
  simp [State.deliver, alive, voided, down, pcie]

theorem State.foldl_deliver_held {α : Type} {f : α → Response} (l : List α) {s : State} (alive : s.mg.alive = true)
    (voided : s.mg.voided = []) (none' : s.mg.outstanding = []) (down : s.hi.downMg = true)
    (pcie : ∀ x ∈ l, (f x).req.via = .pcie) :
    l.foldl (fun s x => s.deliver (f x)) s =
      { s with hi := { s.hi with heldDone := s.hi.heldDone ++ l.map f } } := by
  induction l generalizing s with
  | nil => rw [List.foldl_nil, List.map_nil, List.append_nil]
  | cons x l ih =>
    have one : s.deliver (f x) = { s with hi := { s.hi with heldDone := s.hi.heldDone ++ [f x] } } := by
      rw [State.deliver_held alive voided down (pcie x List.mem_cons_self), none', List.filter_nil, ← none']
    have rest := ih (s := { s with hi := { s.hi with heldDone := s.hi.heldDone ++ [f x] } }) alive voided none' down
      fun y among => pcie y (List.mem_cons_of_mem x among)
    rw [List.foldl_cons, one, rest]
    simp only [List.map_cons, List.append_assoc, List.cons_append, List.nil_append]

/-- What the restart answers to a request outstanding at the failure (R209). -/
def discardedAnswer (p : Req × Nat) : Response :=
  { req := p.1, opcode := p.2, status := Status.discarded.code, arrival := p.1.arrival }

/-- The management core running again, with the ring restarted and nothing outstanding (R209, R319). -/
def State.mgBack (s : State) : State :=
  ({ s with mg := { s.mg with alive := true, outstanding := [] } }).restartRing 2 []

theorem execMgRestart_held {s : State} (failed : s.mg.alive = false) (powered : s.power.state.powered = true)
    (voided : s.mg.voided = []) (down : s.hi.downMg = true) (pcie : ∀ x ∈ s.mg.outstanding, x.1.via = .pcie) :
    ∃ t, exec .mgRestart s = .next t ∧ t.mg.alive = true ∧ t.mg.outstanding = [] ∧
      (∃ l, t.hi.heldDone = s.hi.heldDone ++ l ∧ l.length = s.mg.outstanding.length ∧
        ∀ r ∈ l, r.status = 0x06 ∧ (r.req, r.opcode) ∈ s.mg.outstanding) ∧
      t.recorder.frozenUntil = none ∧ t.recorder.staging = [] ∧ t.recorder.ring = s.recorder.ring ∧
      (s.recorder.frozenUntil.isSome = true → LastReport t 0xF002 s.rt.stagedMirror 0 3) ∧
      t = { s with mg := t.mg, hi := t.hi, recorder := t.recorder, rt := { s.rt with stagedMirror := 0 },
                   eng := { s.eng with lastSeq := none }, outbox := t.outbox } := by
  refine ⟨s.mgRestart.settle, rfl, ?_⟩
  have answered := State.foldl_deliver_held (f := discardedAnswer) s.mg.outstanding (s := s.mgBack) rfl voided rfl down
    pcie
  have answers : ∀ r ∈ s.mg.outstanding.map discardedAnswer,
      r.status = 0x06 ∧ (r.req, r.opcode) ∈ s.mg.outstanding := by
    intro r among
    obtain ⟨p, out, rfl⟩ := List.mem_map.mp among
    exact ⟨rfl, out⟩
  rw [State.mgRestart, if_neg (by simp [failed, powered]), State.settle_eq]
  unfold discardedAnswer State.mgBack at answered
  dsimp only
  rw [answered]
  split
  case isTrue frozen =>
    exact ⟨rfl, rfl, ⟨_, rfl, List.length_map _, answers⟩, rfl, rfl, rfl,
      fun _ => ⟨_, List.getLast?_concat, rfl, rfl, rfl, rfl⟩, rfl⟩
  case isFalse thawed =>
    exact ⟨rfl, rfl, ⟨_, rfl, List.length_map _, answers⟩, rfl, rfl, rfl, fun frozen => absurd frozen thawed, rfl⟩

end Sys2Proof.Machine
end

section
/-! PROOF. A crossing whose link comes up (R225, R226, R228), and a new maintenance address (R346). -/

namespace Sys2Proof.Machine

open Sys2Proof Sys2Proof.Safety

/-- The counts that a crossing carries beside its register: what a link that comes up takes of them (R221, R226). -/
theorem State.countsUp_eq (s : State) (x : Crossing) :
    s.countsUp x = { s with
      hi := (s.countsUp x).hi, can := (s.countsUp x).can
      field := { s.field with frames := (s.countsUp x).field.frames }
      net := { s.net with laneCounts := (s.countsUp x).net.laneCounts }
      mg := { s.mg with heartbeats := (s.countsUp x).mg.heartbeats } } := by
  cases x <;> rfl

theorem State.countsUp_can {x : Crossing} (other : x ≠ .fbMg) (s : State) : (s.countsUp x).can = s.can := by
  cases x with
  | fbMg => exact absurd rfl other
  | _ => rfl

/-- The first value over a fenced crossing, before the flags and BUSY follow (R225, R228). -/
def State.unfenced (s : State) (x : Crossing) : State :=
  ((s.setXing x { s.xing x with
    linkDown := false, stale := false, unstable := false, counter := (s.xing x).counter.linkUp }).countsUp x).event
      0xC030 (seenBy x) .info x.code 0 (s.opUs - (s.xing x).downUs)

theorem State.linkUp_fenced {x : Crossing} {s : State} (down : (s.xing x).linkDown = true) (up : s.sidesUp x = true)
    (powered : s.power.state.powered = true) :
    ∃ h, s.linkUp x = { (s.unfenced x).linkFlags with hi := h } := by
  rw [State.linkUp, if_neg (by simp [down, up, powered])]
  dsimp only
  rw [← State.unfenced]
  split_ifs
  · exact ⟨_, rfl⟩
  · exact ⟨_, rfl⟩

theorem State.unfenced_eq (s : State) (x : Crossing) :
    s.unfenced x = { s with
      xings := (s.unfenced x).xings, hi := (s.unfenced x).hi, recorder := (s.unfenced x).recorder
      can := (s.unfenced x).can, field := { s.field with frames := (s.unfenced x).field.frames }
      net := { s.net with laneCounts := (s.unfenced x).net.laneCounts }
      mg := { s.mg with heartbeats := (s.unfenced x).mg.heartbeats } } := by
  rw [State.unfenced, State.countsUp_eq]
  rfl

theorem State.unfenced_xing_same (s : State) (x : Crossing) :
    (s.unfenced x).xing x = { s.xing x with
      linkDown := false, stale := false, unstable := false, counter := (s.xing x).counter.linkUp } := by
  simp only [State.xing, State.unfenced, State.event_frame, State.countsUp_frame]
  exact s.setXing_xing_same x _

theorem State.unfenced_xing_of_ne {x y : Crossing} (other : y ≠ x) (s : State) :
    (s.unfenced x).xing y = s.xing y := by
  simp only [State.xing, State.unfenced, State.event_frame, State.countsUp_frame]
  exact State.setXing_xing_of_ne other s _

theorem State.unfenced_can {x : Crossing} (other : x ≠ .fbMg) (s : State) : (s.unfenced x).can = s.can := by
  simp only [State.unfenced, State.event_frame, State.countsUp_can other, State.setXing_frame]

theorem State.unfenced_recorded (s : State) (x : Crossing) :
    Recorded s (s.unfenced x) 0xC030 x.code 0 (s.opUs - (s.xing x).downUs) :=
  State.event_recorded (by simp only [State.countsUp_frame, State.setXing_frame])
    (by simp only [State.countsUp_frame, State.setXing_frame])
    (by simp only [State.countsUp_frame, State.setXing_frame]) ..

theorem execCrossingLinkUp_fenced {x : Crossing} {s : State} (down : (s.xing x).linkDown = true)
    (up : s.sidesUp x = true) (powered : s.power.state.powered = true) :
    ∃ t, exec (.crossingLinkUp x) s = .next t ∧ t.xing x = { s.xing x with
        linkDown := false, stale := false, unstable := false, counter := (s.xing x).counter.linkUp } ∧
      (∀ y, y ≠ x → t.xing y = s.xing y) ∧ (x ≠ .fbMg → t.can = s.can) ∧
      Recorded s t 0xC030 x.code 0 (s.opUs - (s.xing x).downUs) ∧
      t = { s with xings := t.xings, hi := t.hi, recorder := t.recorder, outbox := t.outbox, can := t.can
                   field := { s.field with frames := t.field.frames }
                   net := { s.net with laneCounts := t.net.laneCounts }
                   mg := { s.mg with heartbeats := t.mg.heartbeats } } := by
  obtain ⟨h, ran⟩ := State.linkUp_fenced down up powered
  refine ⟨(s.linkUp x).settle, rfl, ?_⟩
  have only := s.unfenced_eq x
  have here := s.unfenced_xing_same x
  have there := fun y other => State.unfenced_xing_of_ne (y := y) (x := x) other s
  have ports := fun other => State.unfenced_can (x := x) other s
  have told := s.unfenced_recorded x
  rw [ran, State.settle_eq, State.linkFlags_eq]
  generalize s.unfenced x = u at *
  refine ⟨here, there, ports, recorded_framed told rfl, ?_⟩
  rw [only]

theorem execMaintAddressApply_due {ip gw : Word} {plen e : Nat} {s : State}
    (new : s.hi.x8New = some (ip, plen, gw, e)) (due : e ≤ s.opUs) :
    ∃ t, exec .maintAddressApply s = .next t ∧
      t = { s with hi := { mirrorOf s t with
        x8Address := ip, x8Plen := plen, x8Gateway := gw, x8New := none } } := by
  refine ⟨_, by simp only [exec, execMaintAddressApply, new, if_pos due]; rfl, ?_⟩
  rw [State.settle_eq]

end Sys2Proof.Machine
end

section
/-! PROOF. The statement about host link resets, the management core, crossings and the maintenance address. -/

namespace Sys2Proof.Proofs

open Sys2Proof Sys2Proof.Machine Sys2Proof.Safety

/-- Settles O50: the host link reset, the failure and the restart of the management core, a link that comes up, the new
address. The crossing's number in 0xC030 and notifications held over a link reset are the model's choice (log entries 15
and 56), as are the queues of a lost management core and the counts at a link up (57 and 58). -/
theorem linksAndRestarts : Obligations.LinksAndRestarts := by
  unfold Obligations.LinksAndRestarts
  refine ⟨?hostReset, ?failure, ?restart, ?linkUp, ?address⟩
  case hostReset =>
    intro s powered
    exact execHostLinkReset_powered powered
  case failure =>
    intro s alive powered
    exact execMgHeartbeatLoss_alive alive powered
  case restart =>
    intro s failed powered voided down pcie
    exact execMgRestart_held failed powered voided down pcie
  case linkUp =>
    intro x s down up powered
    exact execCrossingLinkUp_fenced down up powered
  case address =>
    intro ip gw plen e s new due
    exact execMaintAddressApply_due new due

end Sys2Proof.Proofs
end

section
/-! PROOF. The statement about the mirror HI_STATE after a step. -/

namespace Sys2Proof.Proofs

open Sys2Proof Sys2Proof.Machine Sys2Proof.Safety

/-- Settles O7: an idle step changes neither the mirror nor the cluster's word, and every command but MARK_REQUEST, which
touches neither, ends with the refresh of the mirror (R219, R223, R307). That the refresh is the last act of a command is
the model's choice (log entry 14). -/
theorem stepKeepsMirror : Obligations.StepKeepsMirror := by
  unfold Obligations.StepKeepsMirror
  intro s t mirrored stepped
  exact step_mirrored mirrored stepped

end Sys2Proof.Proofs
end

section
/-! SUPPORT. What the operations that inputs, sources, outputs and groups share write of the field side, once each. -/

namespace Sys2Proof.Machine

open Sys2Proof Sys2Proof.Safety

/-- After an operation that writes the field side alone, the refresh of the mirror adds its part of HI_STATE. -/
theorem State.settle_fieldWrite {s u : State} (only : u = { s with field := u.field }) :
    u.settle = { s with field := u.field, hi := mirrorOf s u.settle } := by
  rw [State.settle_eq]
  generalize u.settle.hi = h
  rw [only]

@[simp] theorem State.report_reports (s : State) (code p0 p1 p2 : Nat) :
    (s.report code p0 p1 p2).field.reports = s.field.reports ++ [⟨code, p0, p1, p2⟩] := rfl

@[simp] theorem State.report_outputs (s : State) (code p0 p1 p2 : Nat) :
    (s.report code p0 p1 p2).field.outputs = s.field.outputs := rfl

@[simp] theorem State.report_groups (s : State) (code p0 p1 p2 : Nat) :
    (s.report code p0 p1 p2).field.groups = s.field.groups := rfl

@[simp] theorem State.report_inputs (s : State) (code p0 p1 p2 : Nat) :
    (s.report code p0 p1 p2).field.inputs = s.field.inputs := rfl

theorem State.modInput_inputs {n : Nat} {i : FieldInput} {s : State} (held : s.field.inputs[n]? = some i)
    (f : FieldInput → FieldInput) : (s.modInput n f).field.inputs = s.field.inputs.set n (f i) :=
  upd_eq_set held f

theorem State.modInput_modInput (s : State) (n : Nat) (f g : FieldInput → FieldInput) :
    (s.modInput n f).modInput n g = s.modInput n (g ∘ f) := by
  simp [State.modInput, upd, List.modify_modify_eq]

theorem State.modSource_sources {k : Nat} {x : FieldSource} {s : State} (held : s.field.sources[k]? = some x)
    (f : FieldSource → FieldSource) : (s.modSource k f).field.sources = s.field.sources.set k (f x) :=
  upd_eq_set held f

theorem State.modGroup_groups {g : Nat} {x : FieldGroup} {s : State} (held : s.field.groups[g]? = some x)
    (f : FieldGroup → FieldGroup) : (s.modGroup g f).field.groups = s.field.groups.set g (f x) :=
  upd_eq_set held f

end Sys2Proof.Machine
end

section
/-! PROOF. The debounce of local inputs (R234 to R236), the test pulses of the sources and their checks (R237 to R239),
and the overload of a source (R241). -/

namespace Sys2Proof.Machine

open Sys2Proof Sys2Proof.Safety

/-! ### Debounce -/

theorem State.inputChange_eq (s : State) (n : Nat) (level : Bool) (since : Nat) :
    let t := s.inputChange n level since
    t = { s with field := { s.field with inputs := t.field.inputs, edgeLog := t.field.edgeLog } } := by
  simp only [State.inputChange]
  split
  · rfl
  · split <;> rfl

/-- A level of an input that has stood for the debounce time, and for the masks within it, since a sample that showed
it, and that no mask holds back now (R234, R235). -/
def State.LevelStood (s : State) (n : Nat) (level : Bool) (since : Nat) (i : FieldInput) : Prop :=
  s.field.inMode n ≠ 0 ∧ s.field.inputs[n]? = some i ∧ i.value ≠ level ∧ s.masked n = false ∧
    s.field.samplesAt n since = true ∧ since + s.field.debounceUs n + s.maskedUs n since ≤ s.opUs

theorem State.inputChange_uncounted {n since : Nat} {level : Bool} {i : FieldInput} {s : State}
    (stood : s.LevelStood n level since i) (cos : s.field.inCos n = 0) :
    s.inputChange n level since = s.modInput n fun i => { i with value := level } := by
  obtain ⟨used, held, other, unmasked, sampled, due⟩ := stood
  simp only [State.inputChange, List.getD_eq_getElem?_getD, held, Option.getD_some, unmasked, sampled, cos]
  rw [if_neg (by simp [used, other, Nat.not_lt.mpr due]), if_neg (by simp)]

theorem State.inputChange_counted {n since : Nat} {level : Bool} {i : FieldInput} {s : State}
    (stood : s.LevelStood n level since i) (cos : s.field.inCos n = 3) :
    (s.inputChange n level since).field = { s.field with
      inputs := (s.modInput n fun i => { i with
        value := level, edges := (i.edges + 1) % 65536, lastEdge := since / 10 }).field.inputs
      edgeLog := s.field.edgeLog ++ [⟨0x3010, n + (if level then 1 else 2) * 256, since / 10, 0⟩] } := by
  obtain ⟨used, held, other, unmasked, sampled, due⟩ := stood
  simp only [State.inputChange, List.getD_eq_getElem?_getD, held, Option.getD_some, unmasked, sampled, cos]
  rw [if_neg (by simp [used, other, Nat.not_lt.mpr due]), if_pos (by simp)]
  rfl

theorem execDebounceExpiry_stood {n since : Nat} {level : Bool} {i : FieldInput} {s : State}
    (fitted : n < s.unit.variant.inputs) (stood : s.LevelStood n level since i) :
    ∃ t, exec (.debounceExpiry n level since) s = .next t ∧
      (s.field.inCos n = 0 → t.field.inputs = s.field.inputs.set n { i with value := level } ∧
        t.field.edgeLog = s.field.edgeLog) ∧
      (s.field.inCos n = 3 → t.field.inputs = s.field.inputs.set n { i with
          value := level, edges := (i.edges + 1) % 65536, lastEdge := since / 10 } ∧
        t.field.edgeLog = s.field.edgeLog ++ [⟨0x3010, n + (if level then 1 else 2) * 256, since / 10, 0⟩]) ∧
      t.field = { s.field with inputs := t.field.inputs, edgeLog := t.field.edgeLog } ∧
      t = { s with field := t.field, hi := mirrorOf s t } := by
  obtain ⟨-, held, -⟩ := id stood
  have only := s.inputChange_eq n level since
  refine ⟨(s.inputChange n level since).settle, by simp [exec, execDebounceExpiry, fitted], ?_⟩
  rw [State.settle_field]
  refine ⟨?_, ?_, ?_, State.settle_fieldWrite (by rw [only])⟩
  · intro cos
    rw [State.inputChange_uncounted stood cos]
    exact ⟨State.modInput_inputs held _, rfl⟩
  · intro cos
    rw [State.inputChange_counted stood cos]
    exact ⟨State.modInput_inputs held _, rfl⟩
  · rw [only]

/-- For 500 µs from the start of a pulse of its source an input is masked (R235). -/
theorem State.masked_of_pulse {n k p : Nat} {x : FieldSource} {s : State} (fed : s.field.inSource n = some k)
    (held : s.field.sources[k]? = some x) (pulse : p ∈ x.pulses) (begun : p ≤ s.opUs) (within : s.opUs < p + 500) :
    s.masked n = true := by
  simp only [State.masked, Field.masksOf, fed, Option.map_some, Option.getD_some, List.getD_eq_getElem?_getD, held,
    List.any_eq_true]
  exact ⟨p, pulse, by simp [begun, within]⟩

theorem execDebounceExpiry_masked {n since : Nat} {level : Bool} {s : State} (masked : s.masked n = true) :
    ∃ t, exec (.debounceExpiry n level since) s = .next t ∧ t = { s with hi := mirrorOf s t } := by
  have holds : s.inputChange n level since = s := if_pos (by simp [masked])
  exact ⟨s.settle, by simp [exec, execDebounceExpiry, holds], State.settle_eq s⟩

/-! ### Test pulses -/

theorem State.pulseDue_of_dvd {k : Nat} {s : State} (begun : s.field.gridUs + 100 * k ≤ s.opUs)
    (grid : s.field.periodUs k ∣ s.opUs - (s.field.gridUs + 100 * k)) : s.pulseDue k = true := by
  simp [State.pulseDue, begun, Nat.mod_eq_zero_of_dvd grid]

theorem execTestPulseStart_due {k : Nat} {x : FieldSource} {s : State} (fitted : k < s.unit.variant.pulses)
    (pulses : s.sourcePulses k = true) (held : s.field.sources[k]? = some x) (due : s.pulseDue k = true) :
    ∃ t, exec (.testPulseStart k) s = .next t ∧
      t.field = { s.field with sources := s.field.sources.set k { x with
        pulses := s.opUs :: x.pulses.filter (fun p => s.opUs < p + 1000000), unchecked := x.unchecked ++ [s.opUs] } } ∧
      t = { s with field := t.field, hi := mirrorOf s t } := by
  refine ⟨(s.pulseStart k).settle, by simp [exec, execTestPulseStart, fitted, pulses, due], ?_⟩
  rw [State.settle_field]
  refine ⟨?_, State.settle_fieldWrite rfl⟩
  rw [← State.modSource_sources held fun x => { x with
    pulses := s.opUs :: x.pulses.filter (fun p => s.opUs < p + 1000000), unchecked := x.unchecked ++ [s.opUs] }]
  rfl

/-! ### Their checks -/

theorem State.judgeInput_eq (s : State) (c : PulseCheck) (n : Nat) :
    let t := s.judgeInput c n
    t = { s with field := { s.field with inputs := t.field.inputs, reports := t.field.reports } } := by
  simp only [State.judgeInput]
  (repeat' split) <;> rfl

theorem State.judgeInput_passed {c : PulseCheck} {n : Nat} {i : FieldInput} {s : State}
    (held : s.field.inputs[n]? = some i) (sound : i.fault = 0) (passed : s.field.checkFails c n = false) :
    s.judgeInput c n = s.modInput n fun j => { j with failRun := 0, passed := saturate 16 (i.passed + 1) } := by
  simp only [State.judgeInput, List.getD_eq_getElem?_getD, held, Option.getD_some, passed, sound]
  rw [if_neg Bool.false_ne_true, if_neg (by simp)]

/-- The second failed check in a row is a fault (R239). -/
theorem State.judgeInput_failedAgain {c : PulseCheck} {n : Nat} {i : FieldInput} {s : State}
    (held : s.field.inputs[n]? = some i) (sound : i.fault = 0) (failed : s.field.checkFails c n = true)
    (again : i.failRun = 1) :
    s.judgeInput c n = (s.modInput n fun j => { j with
      failRun := 2, passed := 0, fault := if s.field.checkAllHigh c n then 1 else 2 }).report 0x3020 n
        (if s.field.checkAllHigh c n then 1 else 2) c.source := by
  simp only [State.judgeInput, List.getD_eq_getElem?_getD, held, Option.getD_some, failed, sound, again]
  rw [if_pos trivial, if_pos (by decide), State.inputFails, State.modInput_modInput]
  rfl

/-- A check whose readback passed takes the oldest pulse and judges the input of the source (R238). -/
theorem State.pulseCheck_readBack {c : PulseCheck} {n p : Nat} {l : List Nat} {x : FieldSource} {s : State}
    (pulses : s.sourcePulses c.source = true) (ok : c.readbackOk = true) (feeds : s.field.inputsOf c.source = [n])
    (held : s.field.sources[c.source]? = some x) (waiting : x.unchecked = p :: l) (due : p + 400 ≤ s.opUs) :
    s.pulseCheck c =
      (s.modSource c.source fun x => { x with failRun := 0, unchecked := l }).judgeInput c n := by
  have same : (s.modSource c.source fun x => { x with failRun := 0, unchecked := l }).field.inputsOf c.source = [n] :=
    feeds
  simp only [State.pulseCheck, List.getD_eq_getElem?_getD, held, Option.getD_some, waiting, ok, if_true]
  rw [if_neg (by simp [pulses, Nat.not_lt.mpr due]), if_neg (by simp), same]
  rfl

theorem execTestPulseCheck_readBack {c : PulseCheck} {n p : Nat} {l : List Nat} {i : FieldInput} {x : FieldSource}
    {s : State} (fitted : c.source < s.unit.variant.pulses) (pulses : s.sourcePulses c.source = true)
    (ok : c.readbackOk = true) (feeds : s.field.inputsOf c.source = [n]) (input : s.field.inputs[n]? = some i)
    (held : s.field.sources[c.source]? = some x) (sound : i.fault = 0) (waiting : x.unchecked = p :: l)
    (due : p + 400 ≤ s.opUs) :
    ∃ t, exec (.testPulseCheck c) s = .next t ∧
      (s.field.checkFails c n = false → t.field.reports = s.field.reports ∧
        t.field.inputs = s.field.inputs.set n { i with failRun := 0, passed := saturate 16 (i.passed + 1) }) ∧
      (s.field.checkFails c n = true → i.failRun = 1 →
        t.field.inputs = s.field.inputs.set n { i with
          failRun := 2, passed := 0, fault := if s.field.checkAllHigh c n then 1 else 2 } ∧
        t.field.reports =
          s.field.reports ++ [⟨0x3020, n, if s.field.checkAllHigh c n then 1 else 2, c.source⟩]) ∧
      t.field = { s.field with
        inputs := t.field.inputs, reports := t.field.reports
        sources := s.field.sources.set c.source { x with failRun := 0, unchecked := l } } ∧
      t = { s with field := t.field, hi := mirrorOf s t } := by
  have check := State.pulseCheck_readBack pulses ok feeds held waiting due
  have sources := State.modSource_sources held fun x => { x with failRun := 0, unchecked := l }
  generalize hu : (s.modSource c.source fun x => { x with failRun := 0, unchecked := l }) = u at check sources
  have source : u = { s with field := { s.field with sources := u.field.sources } } := by rw [← hu]; rfl
  have only := u.judgeInput_eq c n
  have there : u.field.inputs[n]? = some i := by rw [source]; exact input
  refine ⟨(s.pulseCheck c).settle, by simp [exec, execTestPulseCheck, fitted], ?_⟩
  rw [check, State.settle_field]
  refine ⟨?_, ?_, ?_, State.settle_fieldWrite ?_⟩
  · intro passed
    rw [State.judgeInput_passed there sound (by rw [source]; exact passed)]
    exact ⟨by rw [source]; rfl, by rw [State.modInput_inputs there, source]⟩
  · intro failed again
    rw [State.judgeInput_failedAgain there sound (by rw [source]; exact failed) again,
      State.report_inputs, State.report_reports, State.modInput_inputs there, source]
    exact ⟨rfl, rfl⟩
  · rw [only, ← sources, source]
  · rw [only, source]

/-- A pulse is checked once (R238): with none left to check there is nothing to judge. -/
theorem execTestPulseCheck_none {c : PulseCheck} {x : FieldSource} {s : State}
    (held : s.field.sources[c.source]? = some x) (checked : x.unchecked = []) :
    ∃ t, exec (.testPulseCheck c) s = .next t ∧ t = { s with hi := mirrorOf s t } := by
  have nothing : s.pulseCheck c = s := by simp [State.pulseCheck, held, checked]
  exact ⟨s.settle, by simp [exec, execTestPulseCheck, nothing], State.settle_eq s⟩

/-! ### An overloaded source -/

/-- An input of a source that has failed: FAILED with SOURCE_FAULT, unless it is already (R241). -/
def State.failBySource (s : State) (k n : Nat) : State :=
  if ((s.field.inputs[n]?).map FieldInput.fault).getD 0 = 3 then s else s.inputFails n 3 k

/-- The same of the input's register. -/
def FieldInput.failBySource (i : FieldInput) : FieldInput :=
  if i.fault = 3 then i else { i with fault := 3, passed := 0 }

theorem FieldInput.failBySource_fault (i : FieldInput) : i.failBySource.fault = 3 := by
  unfold FieldInput.failBySource
  split
  · assumption
  · rfl

theorem FieldInput.failBySource_idem (i : FieldInput) : i.failBySource.failBySource = i.failBySource :=
  if_pos i.failBySource_fault

theorem State.failBySource_input_same (s : State) (k n : Nat) :
    (s.failBySource k n).field.inputs[n]? = s.field.inputs[n]?.map FieldInput.failBySource := by
  cases held : s.field.inputs[n]? with
  | none => simp [State.failBySource, State.inputFails, State.modInput, upd, held]
  | some i =>
    unfold State.failBySource FieldInput.failBySource
    rw [held]
    by_cases failed : i.fault = 3
    · simp [failed, held]
    · simp [failed, State.inputFails, State.modInput, upd, held]

theorem State.failBySource_input_of_ne {m n : Nat} (other : m ≠ n) (s : State) (k : Nat) :
    (s.failBySource k m).field.inputs[n]? = s.field.inputs[n]? := by
  unfold State.failBySource
  split
  · rfl
  · simp [State.inputFails, State.modInput, upd, other]

theorem State.failBySource_eq (s : State) (k n : Nat) :
    ∃ l, s.failBySource k n = { s with field := { s.field with
      inputs := (s.failBySource k n).field.inputs, reports := s.field.reports ++ l } } := by
  unfold State.failBySource
  split
  · exact ⟨[], by rw [List.append_nil]⟩
  · exact ⟨_, rfl⟩

/-- Every input of the source fails, and no other (R241). -/
theorem State.foldl_failBySource_input (k n : Nat) (l : List Nat) (s : State) :
    (l.foldl (State.failBySource · k) s).field.inputs[n]? =
      if n ∈ l then s.field.inputs[n]?.map FieldInput.failBySource else s.field.inputs[n]? := by
  induction l generalizing s with
  | nil => simp
  | cons m l ih =>
    rw [List.foldl_cons, ih]
    by_cases here : m = n
    · subst here
      simp [State.failBySource_input_same, Function.comp_def, FieldInput.failBySource_idem]
    · simp [State.failBySource_input_of_ne here, Ne.symm here]

theorem State.foldl_failBySource_eq (k : Nat) (ins : List Nat) (s : State) :
    ∃ l, ins.foldl (State.failBySource · k) s = { s with field := { s.field with
      inputs := (ins.foldl (State.failBySource · k) s).field.inputs, reports := s.field.reports ++ l } } := by
  induction ins generalizing s with
  | nil => exact ⟨[], by rw [List.append_nil]; rfl⟩
  | cons m ins ih =>
    obtain ⟨l, one⟩ := s.failBySource_eq k m
    obtain ⟨l', rest⟩ := ih (s.failBySource k m)
    refine ⟨l ++ l', ?_⟩
    rw [List.foldl_cons, rest, one, List.append_assoc]

theorem State.sourceFails_overload (s : State) (k : Nat) :
    s.sourceFails k 2 = (s.field.inputsOf k).foldl (State.failBySource · k)
      ((s.modSource k fun x => { x with fault := true, overload := true }).report 0x3022 k 2
        (s.field.inputsOf k).length) := by
  simp only [State.sourceFails, decide_true, Bool.or_true]
  rfl

theorem Field.mem_inputsOf_lt {f : Field} {k n : Nat} (fed : n ∈ f.inputsOf k) : n < f.inputs.length :=
  List.mem_range.mp (List.mem_of_mem_filter fed)

theorem execSourceOverload_fails {k : Nat} {x : FieldSource} {s : State} (fitted : k < s.unit.variant.pulses)
    (held : s.field.sources[k]? = some x) :
    ∃ t l, exec (.sourceOverload k) s = .next t ∧
      t.field.sources = s.field.sources.set k { x with fault := true, overload := true } ∧
      (∀ n ∈ s.field.inputsOf k, (t.field.inputs.getD n {}).fault = 3) ∧
      (∀ n, n ∉ s.field.inputsOf k → t.field.inputs[n]? = s.field.inputs[n]?) ∧
      t.field.reports = s.field.reports ++ ⟨0x3022, k, 2, (s.field.inputsOf k).length⟩ :: l ∧
      t.field = { s.field with
        inputs := t.field.inputs, sources := t.field.sources, reports := t.field.reports } ∧
      t = { s with field := t.field, hi := mirrorOf s t } := by
  generalize hu : (s.modSource k fun x => { x with fault := true, overload := true }).report 0x3022 k 2
    (s.field.inputsOf k).length = u
  have fails : s.sourceFails k 2 = (s.field.inputsOf k).foldl (State.failBySource · k) u := by
    rw [State.sourceFails_overload, hu]
  have inputs := fun n => State.foldl_failBySource_input k n (s.field.inputsOf k) u
  have same : u.field.inputs = s.field.inputs := by rw [← hu]; rfl
  have reports : u.field.reports = s.field.reports ++ [⟨0x3022, k, 2, (s.field.inputsOf k).length⟩] := by rw [← hu]; rfl
  obtain ⟨l, only⟩ := State.foldl_failBySource_eq k (s.field.inputsOf k) u
  rw [← fails] at only
  simp only [← fails, same] at inputs
  refine ⟨(s.sourceFails k 2).settle, l, by simp [exec, execSourceOverload, fitted], ?_⟩
  rw [State.settle_field]
  refine ⟨?_, fun n fed => ?_, fun n free => ?_, ?_, ?_, State.settle_fieldWrite ?_⟩
  · rw [only, ← hu]
    exact State.modSource_sources held _
  · rw [List.getD_eq_getElem?_getD, inputs, if_pos fed, List.getElem?_eq_getElem (Field.mem_inputsOf_lt fed)]
    exact FieldInput.failBySource_fault _
  · rw [inputs, if_neg free]
  · rw [only]
    exact (congrArg (· ++ l) reports).trans (List.append_assoc ..)
  · rw [only, ← hu]
    rfl
  · rw [only, ← hu]
    rfl

end Sys2Proof.Machine
end

section
/-! PROOF. The statement about local inputs and test pulses. -/

namespace Sys2Proof.Proofs

open Sys2Proof Sys2Proof.Machine Sys2Proof.Safety

/-- Settles O42: a level that has stood, a masked input, a pulse that is due, a check and a check without a pulse, and
an overload. The grid of the pulses and the report of each fault rest on log entries 79 and 90; the packing of 0x3010
and the count in 0x3022 are the model's choice (log entry 15). -/
theorem inputsAndPulses : Obligations.InputsAndPulses := by
  unfold Obligations.InputsAndPulses
  refine ⟨?debounce, ?masked, ?pulse, ?check, ?noPulse, ?overload⟩
  case debounce =>
    intro n since level i s fitted used held other unmasked sampled due
    exact execDebounceExpiry_stood fitted ⟨used, held, other, unmasked, sampled, due⟩
  case masked =>
    intro n k since p level x s fed held pulse begun within
    exact execDebounceExpiry_masked (State.masked_of_pulse fed held pulse begun within)
  case pulse =>
    intro k x s fitted pulses held begun grid
    exact execTestPulseStart_due fitted pulses held (State.pulseDue_of_dvd begun grid)
  case check =>
    intro c n p l i x s fitted pulses ok feeds input held sound waiting due
    exact execTestPulseCheck_readBack fitted pulses ok feeds input held sound waiting due
  case noPulse =>
    intro c x s held checked
    exact execTestPulseCheck_none held checked
  case overload =>
    intro k x s fitted held
    exact execSourceOverload_fails fitted held

end Sys2Proof.Proofs
end

section
/-! SUPPORT. How the switches of the outputs stand after an output or a group has changed: each follows its demand and
permit, and a fault, an overload or a MISSING group holds it open (R244, R250, R253). -/

namespace Sys2Proof.Machine

open Sys2Proof Sys2Proof.Safety

/-- An output with its switches as the field side sets them (R244). -/
def Field.driven (f : Field) (n : Nat) (o : FieldOutput) : FieldOutput :=
  { o with high := f.highClosed n o, low := f.lowClosed n o }

theorem Field.drive_output (f : Field) (n : Nat) : f.drive.outputs[n]? = f.outputs[n]?.map (f.driven n) := by
  simp only [Field.drive, withIndex, List.getElem?_map, List.getElem?_zipIdx, Option.map_map, Nat.zero_add]
  rfl

theorem Field.driven_open_of_overloaded {o : FieldOutput} (tripped : o.overloaded = true) (f : Field) (n : Nat) :
    (f.driven n o).high = false ∧ (f.driven n o).low = false := by
  simp [Field.driven, Field.highClosed, Field.lowClosed, tripped]

theorem Field.driven_open_of_missing {f : Field} {n : Nat} (missing : (f.outGroup n).state = 3) (o : FieldOutput) :
    (f.driven n o).high = false ∧ (f.driven n o).low = false := by
  simp [Field.driven, Field.highClosed, Field.lowClosed, missing]

/-- Only the fault of the high-side switch itself leaves that switch to the demand. -/
theorem Field.driven_high_open {cause : Nat} {o : FieldOutput} (holds : cause ∈ o.causes) (other : cause ≠ 1)
    (f : Field) (n : Nat) : (f.driven n o).high = false := by
  have held : o.causes.all (· == 1) = false := List.all_eq_false.mpr ⟨cause, holds, by simpa using other⟩
  simp only [Field.driven, Field.highClosed, held, Bool.and_false]

/-- Only the fault of the low-side switch itself leaves that switch to the demand. -/
theorem Field.driven_low_open {cause : Nat} {o : FieldOutput} (holds : cause ∈ o.causes) (other : cause ≠ 2)
    (f : Field) (n : Nat) : (f.driven n o).low = false := by
  have held : o.causes.all (· == 2) = false := List.all_eq_false.mpr ⟨cause, holds, by simpa using other⟩
  simp only [Field.driven, Field.lowClosed, held, Bool.and_false]

theorem State.modOutput_eq (s : State) (n : Nat) (f : FieldOutput → FieldOutput) :
    s.modOutput n f = { s with field := { s.field with outputs := (s.modOutput n f).field.outputs } } := rfl

theorem State.modOutput_output (s : State) (n k : Nat) (f : FieldOutput → FieldOutput) :
    (s.modOutput n f).field.outputs[k]? =
      s.field.outputs[k]?.map fun o => s.field.driven k (if n = k then f o else o) := by
  rw [State.modOutput, Field.drive_output]
  simp only [upd, List.getElem?_modify, Option.map_eq_map, Option.map_map]
  rfl

theorem State.modOutput_output_same {n : Nat} {o : FieldOutput} {s : State} (held : s.field.outputs[n]? = some o)
    (f : FieldOutput → FieldOutput) :
    (s.modOutput n f).field.outputs[n]? = some (s.field.driven n (f o)) := by
  rw [State.modOutput_output, held, Option.map_some, if_pos rfl]

theorem State.modGroup_eq (s : State) (g : Nat) (f : FieldGroup → FieldGroup) :
    s.modGroup g f = { s with field := { s.field with
      outputs := (s.modGroup g f).field.outputs, groups := (s.modGroup g f).field.groups } } := rfl

theorem State.modGroup_output (s : State) (g n : Nat) (f : FieldGroup → FieldGroup) :
    (s.modGroup g f).field.outputs[n]? = s.field.outputs[n]?.map ((s.modGroup g f).field.driven n) :=
  Field.drive_output ..

/-- A group that becomes MISSING opens its outputs (R253, R254). -/
theorem State.modGroup_missing {g n : Nat} {x : FieldGroup} {o : FieldOutput} {f : FieldGroup → FieldGroup} {s : State}
    (held : s.field.groups[g]? = some x) (missing : (f x).state = 3) (inGroup : n / 8 = g)
    (output : (s.modGroup g f).field.outputs[n]? = some o) : o.high = false ∧ o.low = false := by
  have group : (s.modGroup g f).field.outGroup n = f x := by
    obtain ⟨inside, -⟩ := List.getElem?_eq_some_iff.mp held
    rw [Field.outGroup, State.modGroup_groups held, inGroup, List.getD_eq_getElem?_getD,
      List.getElem?_set_self inside, Option.getD_some]
  rw [State.modGroup_output, Option.map_eq_some_iff] at output
  obtain ⟨o', -, rfl⟩ := output
  exact Field.driven_open_of_missing (by rw [group, missing]) o'

end Sys2Proof.Machine
end

section
/-! PROOF. Faults of local outputs: foreign voltage, a switch test, an overload of a channel and of a group (R247,
R250). -/

namespace Sys2Proof.Machine

open Sys2Proof Sys2Proof.Safety

/-! ### External feed -/

/-- An output under a new EXTERNAL_FEED, with what was measured (R250). -/
def FieldOutput.fed (o : FieldOutput) (cause : Nat) (up um : Int) (ma : Nat) : FieldOutput :=
  { o.fails cause with milliAmp := ma, loadMv := up - um }

theorem FieldOutput.fed_causes (o : FieldOutput) (cause : Nat) (up um : Int) (ma : Nat) :
    (o.fed cause up um ma).causes = o.causes ++ [cause] := rfl

theorem FieldOutput.fed_fault {o : FieldOutput} (alone : o.fault ≠ 4) (cause : Nat) (up um : Int) (ma : Nat) :
    (o.fed cause up um ma).fault = cause := if_neg alone

theorem FieldOutput.mem_fed_causes (o : FieldOutput) (cause : Nat) (up um : Int) (ma : Nat) :
    cause ∈ (o.fed cause up um ma).causes := by
  rw [FieldOutput.fed_causes]
  exact List.mem_append_right _ (List.mem_singleton_self cause)

theorem State.externalFault_new {n cause ma : Nat} {up um : Int} {o : FieldOutput} {s : State}
    (held : s.field.outputs[n]? = some o) (new : cause ∉ o.causes) :
    s.externalFault n cause up um ma = (s.modOutput n (·.fed cause up um ma)).report 0x3030 (n + cause * 256)
      ((up % 65536).toNat + (um % 65536).toNat * 65536) ma := by
  rw [State.externalFault, List.getD_eq_getElem?_getD, held, Option.getD_some, if_neg (by simpa using new)]
  rfl

theorem State.measureOff_foreign {m : FeedMeasure} {o : FieldOutput} {s : State}
    (held : s.field.outputs[m.channel]? = some o) (high : o.high = false) (low : o.low = false)
    (foreign : 11000 < m.uPlusMv - m.uMinusMv) :
    s.measureOff m = s.externalFault m.channel 3 m.uPlusMv m.uMinusMv m.milliAmp := by
  simp [State.measureOff, held, high, low, foreign]

theorem execExternalFeed_foreign {m : FeedMeasure} {o : FieldOutput} {s : State}
    (fitted : m.channel < s.unit.variant.outputs) (held : s.field.outputs[m.channel]? = some o) (high : o.high = false)
    (low : o.low = false) (new : 3 ∉ o.causes) (alone : o.fault ≠ 4) (foreign : 11000 < m.uPlusMv - m.uMinusMv) :
    ∃ t o', exec (.externalFeed m) s = .next t ∧ t.field.outputs[m.channel]? = some o' ∧ o'.fault = 3 ∧
      o'.causes = o.causes ++ [3] ∧ o'.high = false ∧ o'.low = false ∧
      t.field.reports = s.field.reports ++ [⟨0x3030, m.channel + 3 * 256,
        (m.uPlusMv % 65536).toNat + (m.uMinusMv % 65536).toNat * 65536, m.milliAmp⟩] ∧
      t.field = { s.field with outputs := t.field.outputs, reports := t.field.reports } ∧
      t = { s with field := t.field, hi := mirrorOf s t } := by
  refine ⟨(s.measureOff m).settle, s.field.driven m.channel (o.fed 3 m.uPlusMv m.uMinusMv m.milliAmp),
    by simp [exec, execExternalFeed, fitted], ?_⟩
  rw [State.measureOff_foreign held high low foreign, State.externalFault_new held new, State.settle_field]
  have holds := o.mem_fed_causes 3 m.uPlusMv m.uMinusMv m.milliAmp
  have fault := FieldOutput.fed_fault alone 3 m.uPlusMv m.uMinusMv m.milliAmp
  exact ⟨State.modOutput_output_same held _, fault, rfl, Field.driven_high_open holds (by decide) ..,
    Field.driven_low_open holds (by decide) .., rfl, rfl, State.settle_fieldWrite rfl⟩

/-! ### Switch tests -/

/-- What a switch test leaves in the output's registers: what it measured, and the second it was made in (R247,
R259). -/
def FieldOutput.tested (o : FieldOutput) (c : SwitchTest) (second : Nat) : FieldOutput :=
  { o with
    milliAmp := c.milliAmp, loadMv := c.uPlusMv - c.uMinusMv
    highTest := if c.highSide then some second else o.highTest
    lowTest := if c.highSide then o.lowTest else some second }

/-- The second of the field side's grid (R247). -/
def State.gridSecond (s : State) : Nat := (s.opUs - s.field.gridUs) / 1000000

/-- An output with both switches closed whose test is due (R247). -/
def State.TestRuns (s : State) (c : SwitchTest) (o : FieldOutput) : Prop :=
  s.field.outputs[c.channel]? = some o ∧ s.field.outUsed c.channel = true ∧ o.demand = true ∧ o.permit = true ∧
    o.high = true ∧ o.low = true ∧ s.testDue c o = true

/-- What a test that runs shows in its output's record whatever its verdict. -/
def TestShown (s : State) (c : SwitchTest) (o : FieldOutput) : Prop :=
  o.milliAmp = c.milliAmp ∧ o.loadMv = c.uPlusMv - c.uMinusMv ∧
    (if c.highSide then o.highTest else o.lowTest) = some s.gridSecond

theorem FieldOutput.tested_test (o : FieldOutput) (c : SwitchTest) (second : Nat) :
    (if c.highSide then (o.tested c second).highTest else (o.tested c second).lowTest) = some second := by
  unfold FieldOutput.tested
  cases c.highSide <;> rfl

theorem State.switchTest_runs {c : SwitchTest} {o : FieldOutput} {s : State} (runs : s.TestRuns c o)
    (alone : c.dropped = []) :
    s.switchTest c =
      let u := s.modOutput c.channel (·.tested c s.gridSecond)
      if c.fell then u
      else u.externalFault c.channel (if c.highSide then 1 else 2) c.uPlusMv c.uMinusMv c.milliAmp := by
  obtain ⟨held, used, demand, permit, high, low, due⟩ := runs
  simp only [State.switchTest, List.getD_eq_getElem?_getD, held, Option.getD_some, used, demand, permit, high, low, due,
    alone, List.foldl_nil, ite_self]
  rfl

theorem State.switchTest_opened {c : SwitchTest} {o : FieldOutput} {s : State} (runs : s.TestRuns c o)
    (alone : c.dropped = []) (fell : c.fell = true) :
    ∃ o', (s.switchTest c).field.outputs[c.channel]? = some o' ∧ TestShown s c o' ∧ o'.fault = o.fault ∧
      o'.causes = o.causes ∧
      s.switchTest c = { s with field := { s.field with outputs := (s.switchTest c).field.outputs } } := by
  obtain ⟨held, -⟩ := id runs
  rw [State.switchTest_runs runs alone, fell]
  exact ⟨_, State.modOutput_output_same held _, ⟨rfl, rfl, o.tested_test c _⟩, rfl, rfl, rfl⟩

/-- A switch that does not open is an EXTERNAL_FEED, and the other switch of its output opens (R250). -/
theorem State.switchTest_stuck {c : SwitchTest} {o : FieldOutput} {s : State} (runs : s.TestRuns c o)
    (alone : c.dropped = []) (sound : o.fault = 0) (clean : o.causes = []) (fell : c.fell = false) :
    ∃ o', (s.switchTest c).field.outputs[c.channel]? = some o' ∧ TestShown s c o' ∧
      o'.fault = (if c.highSide then 1 else 2) ∧ o'.causes = [o'.fault] ∧
      (if c.highSide then o'.low else o'.high) = false ∧
      s.switchTest c = { s with field := { s.field with
        outputs := (s.switchTest c).field.outputs
        reports := s.field.reports ++ [⟨0x3030, c.channel + (if c.highSide then 1 else 2) * 256,
          (c.uPlusMv % 65536).toNat + (c.uMinusMv % 65536).toNat * 65536, c.milliAmp⟩] } } := by
  obtain ⟨held, -⟩ := id runs
  have tested := State.modOutput_output_same held (·.tested c s.gridSecond)
  have only := s.modOutput_eq c.channel (·.tested c s.gridSecond)
  rw [State.switchTest_runs runs alone, fell]
  simp only [Bool.false_eq_true, if_false]
  generalize s.modOutput c.channel (·.tested c s.gridSecond) = u at *
  generalize ho : s.field.driven c.channel (o.tested c s.gridSecond) = p at tested
  have empty : p.causes = [] := by rw [← ho]; exact clean
  have fine : p.fault = 0 := by rw [← ho]; exact sound
  generalize hk : (if c.highSide then 1 else 2) = cause
  have holds := p.mem_fed_causes cause c.uPlusMv c.uMinusMv c.milliAmp
  have fault := p.fed_fault (by rw [fine]; decide) cause c.uPlusMv c.uMinusMv c.milliAmp
  rw [State.externalFault_new tested (by rw [empty]; exact List.not_mem_nil)]
  refine ⟨_, State.modOutput_output_same tested _, ⟨rfl, rfl, ?_⟩, fault, ?_, ?_, ?_⟩
  · rw [← ho]
    exact o.tested_test c _
  · exact (congrArg (· ++ [cause]) empty).trans (congrArg (fun k => [k]) fault.symm)
  · cases side : c.highSide
    · exact Field.driven_high_open holds (by rw [← hk, side]; decide) ..
    · exact Field.driven_low_open holds (by rw [← hk, side]; decide) ..
  · rw [only]
    rfl

theorem execOutputSwitchTest_runs {c : SwitchTest} {o : FieldOutput} {s : State}
    (fitted : c.channel < s.unit.variant.outputs) (runs : s.TestRuns c o) (sound : o.fault = 0) (clean : o.causes = [])
    (alone : c.dropped = []) :
    ∃ t o', exec (.outputSwitchTest c) s = .next t ∧ t.field.outputs[c.channel]? = some o' ∧
      o'.milliAmp = c.milliAmp ∧ o'.loadMv = c.uPlusMv - c.uMinusMv ∧
      (if c.highSide then o'.highTest else o'.lowTest) = some ((s.opUs - s.field.gridUs) / 1000000) ∧
      (c.fell = true → o'.fault = 0 ∧ o'.causes = [] ∧ t.field.reports = s.field.reports) ∧
      (c.fell = false → o'.fault = (if c.highSide then 1 else 2) ∧ o'.causes = [o'.fault] ∧
        (if c.highSide then o'.low else o'.high) = false ∧
        t.field.reports = s.field.reports ++ [⟨0x3030, c.channel + (if c.highSide then 1 else 2) * 256,
          (c.uPlusMv % 65536).toNat + (c.uMinusMv % 65536).toNat * 65536, c.milliAmp⟩]) ∧
      t.field = { s.field with outputs := t.field.outputs, reports := t.field.reports } ∧
      t = { s with field := t.field, hi := mirrorOf s t } := by
  have run : exec (.outputSwitchTest c) s = .next (s.switchTest c).settle := by
    simp [exec, execOutputSwitchTest, fitted]
  cases fell : c.fell
  case true =>
    obtain ⟨o', output, ⟨ma, mv, second⟩, fault, causes, only⟩ := State.switchTest_opened runs alone fell
    refine ⟨_, o', run, ?_⟩
    rw [State.settle_field]
    refine ⟨output, ma, mv, second, fun _ => ⟨fault.trans sound, causes.trans clean, ?_⟩, nofun, ?_,
      State.settle_fieldWrite (by rw [only])⟩
    all_goals rw [only]
  case false =>
    obtain ⟨o', output, ⟨ma, mv, second⟩, fault, causes, opens, only⟩ :=
      State.switchTest_stuck runs alone sound clean fell
    refine ⟨_, o', run, ?_⟩
    rw [State.settle_field]
    refine ⟨output, ma, mv, second, nofun, fun _ => ⟨fault, causes, opens, ?_⟩, ?_,
      State.settle_fieldWrite (by rw [only])⟩
    all_goals rw [only]

/-! ### Overloads -/

/-- An output switched off by an overload at an instant (R250). -/
def FieldOutput.OffAt (o : FieldOutput) (now : Nat) : Prop := o.overloaded = true ∧ o.offUs = now

/-- An output as an overload leaves it, before its switches are set (R250). -/
def FieldOutput.overloadedAt (o : FieldOutput) (now : Nat) : FieldOutput :=
  { o with fault := if o.fault = 0 then 5 else o.fault, overloaded := true, offUs := now, demandWentOff := false }

theorem FieldOutput.overloadedAt_offAt (o : FieldOutput) (now : Nat) : (o.overloadedAt now).OffAt now := ⟨rfl, rfl⟩

theorem State.overload_output (s : State) (n k : Nat) :
    (s.overload n).field.outputs[k]? = s.field.outputs[k]?.map fun o =>
      s.field.driven k (if n = k then o.overloadedAt s.opUs else o) :=
  State.modOutput_output s n k (·.overloadedAt s.opUs)

theorem State.overload_eq (s : State) (n : Nat) :
    s.overload n = { s with field := { s.field with outputs := (s.overload n).field.outputs } } := rfl

/-- An overload switches its channel off, and no channel on that is off. -/
theorem State.overload_offAt {n k : Nat} {o : FieldOutput} {s : State} (held : s.field.outputs[k]? = some o)
    (off : k = n ∨ o.OffAt s.opUs) :
    ∃ o', (s.overload n).field.outputs[k]? = some o' ∧ o'.OffAt s.opUs := by
  rw [State.overload_output, held]
  by_cases here : n = k
  · simp only [here, if_true]
    exact ⟨_, rfl, o.overloadedAt_offAt s.opUs⟩
  · simp only [here, if_false]
    exact ⟨_, rfl, off.resolve_left (Ne.symm here)⟩

theorem State.foldl_overload_eq (l : List Nat) (s : State) :
    l.foldl State.overload s =
      { s with field := { s.field with outputs := (l.foldl State.overload s).field.outputs } } := by
  induction l generalizing s with
  | nil => rfl
  | cons n l ih => rw [List.foldl_cons, ih, State.overload_eq]

theorem State.foldl_overload_offAt {k : Nat} (l : List Nat) {o : FieldOutput} {s : State}
    (held : s.field.outputs[k]? = some o) (off : k ∈ l ∨ o.OffAt s.opUs) :
    ∃ o', (l.foldl State.overload s).field.outputs[k]? = some o' ∧ o'.OffAt s.opUs := by
  induction l generalizing s o with
  | nil => exact ⟨o, held, off.resolve_left List.not_mem_nil⟩
  | cons n l ih =>
    rw [List.foldl_cons]
    by_cases done : k = n ∨ o.OffAt s.opUs
    · obtain ⟨o', held', off'⟩ := State.overload_offAt held done
      exact ih held' (.inr off')
    · have later : k ∈ l := by
        rcases off with mem | already
        · exact (List.mem_cons.mp mem).resolve_left fun here => done (.inl here)
        · exact absurd (.inr already) done
      have held' := State.overload_output s n k
      rw [held] at held'
      exact ih held' (.inl later)

theorem execOutputOverload_channel {n ma : Nat} {o : FieldOutput} {s : State} (fitted : n < s.unit.variant.outputs)
    (held : s.field.outputs[n]? = some o) (sound : o.fault = 0) :
    ∃ t o', exec (.outputOverload n false ma) s = .next t ∧ t.field.outputs[n]? = some o' ∧ o'.fault = 5 ∧
      o'.overloaded = true ∧ o'.high = false ∧ o'.low = false ∧ o'.offUs = s.opUs ∧ o'.milliAmp = ma ∧
      t.field.reports = s.field.reports ++ [⟨0x3032, n, ma, n / 8⟩] ∧
      t.field = { s.field with outputs := t.field.outputs, reports := t.field.reports } ∧
      t = { s with field := t.field, hi := mirrorOf s t } := by
  have off := State.modOutput_output_same held (·.overloadedAt s.opUs)
  refine ⟨(((s.overload n).modOutput n fun o => { o with milliAmp := ma }).report 0x3032 n ma (n / 8)).settle,
    (s.overload n).field.driven n { s.field.driven n (o.overloadedAt s.opUs) with milliAmp := ma },
    by simp [exec, execOutputOverload, fitted], ?_⟩
  rw [State.settle_field]
  obtain ⟨high, low⟩ := Field.driven_open_of_overloaded
    (o := { s.field.driven n (o.overloadedAt s.opUs) with milliAmp := ma }) rfl (s.overload n).field n
  exact ⟨State.modOutput_output_same off _, if_pos sound, rfl, high, low, rfl, rfl, rfl, rfl,
    State.settle_fieldWrite rfl⟩

theorem execOutputOverload_group {g ma : Nat} {x : FieldGroup} {s : State} (fitted : g < s.unit.variant.groups)
    (held : s.field.groups[g]? = some x) :
    ∃ t, exec (.outputOverload g true ma) s = .next t ∧
      t.field.groups = s.field.groups.set g { x with milliAmp := ma } ∧
      (∀ (n : Nat) (o : FieldOutput), n / 8 = g → s.field.energised n = true → s.field.outputs[n]? = some o →
        ∃ o', t.field.outputs[n]? = some o' ∧ o'.high = false ∧ o'.low = false ∧ o'.overloaded = true ∧
          o'.offUs = s.opUs) ∧
      t.field.reports = s.field.reports ++ [⟨0x3032, 0xFF, ma, g⟩] ∧
      t.field = { s.field with
        outputs := t.field.outputs, groups := t.field.groups, reports := t.field.reports } ∧
      t = { s with field := t.field, hi := mirrorOf s t } := by
  refine ⟨_, by simp only [exec, execOutputOverload, fitted, if_true]; rfl, ?_⟩
  rw [State.settle_field]
  have only := State.foldl_overload_eq ((List.range' (8 * g) 8).filter s.field.energised) s
  have off := fun n o => State.foldl_overload_offAt (k := n) ((List.range' (8 * g) 8).filter s.field.energised) (o := o)
    (s := s)
  generalize ((List.range' (8 * g) 8).filter s.field.energised).foldl State.overload s = u at *
  have group : u.field.groups[g]? = some x := by rw [only]; exact held
  refine ⟨?_, ?_, ?_, ?_, State.settle_fieldWrite ?_⟩
  · rw [State.report_groups, State.modGroup_groups group, only]
  · intro n o inGroup on output
    have chosen : n ∈ (List.range' (8 * g) 8).filter s.field.energised := by
      rw [List.mem_filter, List.mem_range'_1]
      exact ⟨by omega, on⟩
    obtain ⟨o', held', tripped, instant⟩ := off n o output (.inl chosen)
    rw [State.report_outputs, State.modGroup_output, held']
    obtain ⟨high, low⟩ := Field.driven_open_of_overloaded tripped
      (u.modGroup g fun x => { x with milliAmp := ma }).field n
    exact ⟨_, rfl, high, low, tripped, instant⟩
  all_goals
    rw [only]
    rfl

end Sys2Proof.Machine
end

section
/-! PROOF. The group supplies: their levels and their switches (R253, R254). -/

namespace Sys2Proof.Machine

open Sys2Proof Sys2Proof.Safety

/-- A level below 12 V for 1 ms is MISSING, whatever the state before (R253). -/
theorem nextSupply_missing {cur mv now u : Nat} {since : List (Option Nat)} (low : since[2]? = some (some u))
    (held : u + 1000 ≤ now) (other : cur ≠ 3) : nextSupply cur mv since now = 3 := by
  have out : supplyHeld since now 2 = true := by
    simp [supplyHeld, supplyConditions, low, held]
  unfold nextSupply
  split
  · exact absurd rfl other
  · simp [out]
  · simp [out]
  · simp [out]

theorem State.measureGroup_used {g mv : Nat} {x y : FieldGroup} {s : State} (used : s.field.groupUsed g = true)
    (held : s.field.groups[g]? = some x) (measured : y = x.measured true mv s.opUs) :
    s.measureGroup g true mv =
      let u := s.modGroup g (·.measured true mv s.opUs)
      if y.state = x.state then u
      else u.report 0x3040 g y.state (if y.feed < y.input then x.inputMv else x.feedMv) := by
  obtain ⟨inside, -⟩ := List.getElem?_eq_some_iff.mp held
  have group : (s.modGroup g (·.measured true mv s.opUs)).field.groups[g]? = some y := by
    rw [State.modGroup_groups held, List.getElem?_set_self inside, measured]
  simp only [State.measureGroup, used, List.getD_eq_getElem?_getD, held, group, Option.getD_some]
  rfl

theorem State.measureGroup_eq (s : State) (g : Nat) (inputSide : Bool) (mv : Nat) :
    let t := s.measureGroup g inputSide mv
    t = { s with field := { s.field with
      groups := t.field.groups, outputs := t.field.outputs, reports := t.field.reports } } := by
  simp only [State.measureGroup]
  (repeat' split) <;> rfl

theorem execGroupSupplyState_input {g mv : Nat} {x y : FieldGroup} {s : State} (fitted : g < s.unit.variant.groups)
    (used : s.field.groupUsed g = true) (held : s.field.groups[g]? = some x)
    (measured : y = x.measured true mv s.opUs) :
    ∃ t, exec (.groupSupplyState g true mv) s = .next t ∧ t.field.groups = s.field.groups.set g y ∧
      y.inputMv = mv ∧ y.feed = x.feed ∧ y.feedMv = x.feedMv ∧
      (∀ u, x.inputSince[2]? = some (some u) → u + 1000 ≤ s.opUs → x.input ≠ 3 → y.input = 3) ∧
      (y.state = 3 → ∀ (n : Nat) (o : FieldOutput), n / 8 = g → t.field.outputs[n]? = some o →
        o.high = false ∧ o.low = false) ∧
      (y.state = x.state → t.field.reports = s.field.reports) ∧
      (y.state ≠ x.state → t.field.reports = s.field.reports ++
        [⟨0x3040, g, y.state, if y.feed < y.input then x.inputMv else x.feedMv⟩]) ∧
      t.field = { s.field with
        groups := t.field.groups, outputs := t.field.outputs, reports := t.field.reports } ∧
      t = { s with field := t.field, hi := mirrorOf s t } := by
  have only := s.measureGroup_eq g true mv
  have result := State.measureGroup_used used held measured
  have groups : (s.measureGroup g true mv).field.groups = s.field.groups.set g y := by
    rw [result, measured, ← State.modGroup_groups held (·.measured true mv s.opUs)]
    split <;> rfl
  have outputs : (s.measureGroup g true mv).field.outputs =
      (s.modGroup g (·.measured true mv s.opUs)).field.outputs := by
    rw [result]
    split <;> rfl
  refine ⟨(s.measureGroup g true mv).settle, by simp [exec, execGroupSupplyState, fitted], ?_⟩
  rw [State.settle_field]
  refine ⟨groups, by rw [measured]; rfl, by rw [measured]; rfl, by rw [measured]; rfl, ?low, ?missing, ?same, ?told, ?_,
    State.settle_fieldWrite ?_⟩
  case low =>
    intro u low since other
    rw [measured]
    exact nextSupply_missing low since other
  case missing =>
    intro missing n o inGroup output
    rw [outputs] at output
    exact State.modGroup_missing held (by rw [← measured, missing]) inGroup output
  case same =>
    intro same
    rw [result, if_pos same]
    rfl
  case told =>
    intro changed
    rw [result, if_neg changed]
    rfl
  all_goals rw [only]

theorem execGroupSwitchFault_differs {g : Nat} {back : Bool} {x : FieldGroup} {s : State}
    (fitted : g < s.unit.variant.groups) (held : s.field.groups[g]? = some x) (differs : x.switchOn ≠ back)
    (new : x.switchFault = false) :
    ∃ t, exec (.groupSwitchFault g back) s = .next t ∧
      t.field.groups = s.field.groups.set g { x with switchFault := true, readBack := back } ∧
      (∀ (n : Nat) (o : FieldOutput), n / 8 = g → t.field.outputs[n]? = some o → o.high = false ∧ o.low = false) ∧
      t.field.reports =
        s.field.reports ++ [⟨0x3041, g, if x.switchOn then 1 else 0, if back then 1 else 0⟩] ∧
      t.field = { s.field with
        groups := t.field.groups, outputs := t.field.outputs, reports := t.field.reports } ∧
      t = { s with field := t.field, hi := mirrorOf s t } := by
  refine ⟨((s.modGroup g fun x => { x with switchFault := true, readBack := back }).report 0x3041 g
    (if x.switchOn then 1 else 0) (if back then 1 else 0)).settle, ?_, ?_⟩
  · simp [exec, execGroupSwitchFault, fitted, held, differs, new]
  · rw [State.settle_field]
    refine ⟨State.modGroup_groups held _, fun n o inGroup output => ?_, rfl, rfl, State.settle_fieldWrite rfl⟩
    exact State.modGroup_missing held rfl inGroup output

end Sys2Proof.Machine
end

section
/-! PROOF. The statement about local outputs and group supplies. -/

namespace Sys2Proof.Proofs

open Sys2Proof Sys2Proof.Machine Sys2Proof.Safety

/-- Settles O43: a switch test, foreign voltage, the overload of a channel and of a group, a measured supply and a
switch that does not follow. That a level stands until the next measurement is the model's choice (log entry 97), as is
the packing of channel and cause in 0x3030 (log entry 15) and of both voltages in one word. -/
theorem outputsAndGroups : Obligations.OutputsAndGroups := by
  unfold Obligations.OutputsAndGroups
  refine ⟨?switchTest, ?foreign, ?channel, ?group, ?supply, ?groupSwitch⟩
  case switchTest =>
    intro c o s fitted held used demand permit high low sound clean due alone
    exact execOutputSwitchTest_runs fitted ⟨held, used, demand, permit, high, low, due⟩ sound clean alone
  case foreign =>
    intro m o s fitted held high low new alone foreign
    exact execExternalFeed_foreign fitted held high low new alone foreign
  case channel =>
    intro n ma o s fitted held sound
    exact execOutputOverload_channel fitted held sound
  case group =>
    intro g ma x s fitted held
    exact execOutputOverload_group fitted held
  case supply =>
    intro g mv x y s fitted used held measured
    exact execGroupSupplyState_input fitted used held measured
  case groupSwitch =>
    intro g back x s fitted held differs new
    exact execGroupSwitchFault_differs fitted held differs new

end Sys2Proof.Proofs
end

section
/-! PROOF. The statements about a step with and without a waiting command (log entry 3). -/

namespace Sys2Proof.Proofs

open Sys2Proof Sys2Proof.Machine Sys2Proof.Safety

/-- Settles O1: a step runs the front command with the queue's rest. That commands wait in a queue is the model's choice
(log entry 3). -/
theorem stepRunsFront : Obligations.StepRunsFront := by
  unfold Obligations.StepRunsFront
  intro c rest s waiting
  simp only [Machine.step, waiting]

/-- Settles O2: an idle step is one microsecond of operating time in a powered state and of the calendar while RT is alive
(R358, R391). That a step with an empty queue is a tick is the model's choice (log entry 3). -/
theorem idleStepTicks : Obligations.IdleStepTicks := by
  unfold Obligations.IdleStepTicks
  intro s idle
  refine ⟨s.tick, by simp only [Machine.step, idle], ?_, rfl, rfl⟩
  cases state : s.power.state <;> simp [State.tick, state, PowerState.powered]

end Sys2Proof.Proofs
end

section
/-! PROOF. Rules for work at one CAN port: what each operation on a port does to that port's record, and that it leaves
every other part of the state but the free values, the recorder and the outputs. -/

namespace Sys2Proof.Machine

open Sys2Proof Sys2Proof.Safety

/-! ### One port's record -/

theorem State.port_congr {s t : State} (h : t.can = s.can) (k : Nat) : t.port k = s.port k := by rw [State.port, h, State.port]

theorem State.modPort_port_same {s : State} {k : Nat} (fitted : k < s.can.length) (f : CanPort → CanPort) :
    (s.modPort k f).port k = f (s.port k) := by
  simp [State.port, State.modPort, upd, List.getD_eq_getElem?_getD, fitted]

theorem State.modPort_port_of_ne (s : State) {j k : Nat} (other : j ≠ k) (f : CanPort → CanPort) :
    (s.modPort k f).port j = s.port j := by
  simp [State.port, State.modPort, upd, List.getD_eq_getElem?_getD, other.symm]

@[simp] theorem State.modPort_can_length (s : State) (k : Nat) (f : CanPort → CanPort) :
    (s.modPort k f).can.length = s.can.length := by simp [State.modPort, upd]

@[simp] theorem State.event_port (s : State) (code : Nat) (src : Source) (sev : Severity) (a b c : Nat) (x : Bool)
    (k : Nat) : (s.event code src sev a b c x).port k = s.port k := rfl

@[simp] theorem State.settle_port (s : State) (k : Nat) : s.settle.port k = s.port k :=
  State.port_congr (by rw [State.settle_eq]) k

/-! ### Work at one port -/

/-- One state follows from another by work at port `k`: every other port's record stays, and of the rest of the state only
the free values drawn, the recorder and the outputs may differ. -/
def PortWork (k : Nat) (s t : State) : Prop :=
  (∀ j, j ≠ k → t.port j = s.port j) ∧ t.can.length = s.can.length ∧
  t = { s with can := t.can, draws := t.draws, recorder := t.recorder, outbox := t.outbox }

namespace PortWork

variable {k : Nat} {s t u : State}

theorem refl (k : Nat) (s : State) : PortWork k s s := ⟨fun _ _ => rfl, rfl, rfl⟩

theorem trans (h : PortWork k s t) (g : PortWork k t u) : PortWork k s u := by
  obtain ⟨ports, len, rest⟩ := h
  obtain ⟨ports', len', rest'⟩ := g
  refine ⟨fun j hj => (ports' j hj).trans (ports j hj), len'.trans len, ?_⟩
  rw [rest', rest]

theorem modPort (h : PortWork k s t) (f : CanPort → CanPort) : PortWork k s (t.modPort k f) :=
  h.trans ⟨fun _ hj => t.modPort_port_of_ne hj f, t.modPort_can_length k f, rfl⟩

theorem event (h : PortWork k s t) (code : Nat) (src : Source) (sev : Severity) (a b c : Nat) (x : Bool) :
    PortWork k s (t.event code src sev a b c x) := h.trans ⟨fun _ _ => rfl, rfl, rfl⟩

theorem sent (h : PortWork k s t) (o : Output) : PortWork k s { t with outbox := t.outbox ++ [o] } :=
  h.trans ⟨fun _ _ => rfl, rfl, rfl⟩

theorem ite (c : Prop) [Decidable c] (ht : PortWork k s t) (hu : PortWork k s u) : PortWork k s (if c then t else u) := by
  split <;> assumption

theorem busTaken (h : PortWork k s t) (brs : Bool) : PortWork k s (t.busTaken k brs) :=
  (h.trans (u := { t with draws := t.draws + 1 }) ⟨fun _ _ => rfl, rfl, rfl⟩).modPort _

theorem confine (h : PortWork k s t) : PortWork k s (t.confine k) := ite _ h ((h.modPort _).event ..)

theorem busOff (h : PortWork k s t) : PortWork k s (t.busOff k) := ite _ (h.modPort _) ((h.modPort _).event ..)

theorem queueFrame (h : PortWork k s t) (second : Bool) (f : CanFrame) : PortWork k s (t.queueFrame k second f) :=
  ite _ (ite _ (h.modPort _) ((h.modPort _).event ..)) (ite _ (h.modPort _) ((h.modPort _).event ..))

theorem receiveFrame (h : PortWork k s t) (f : CanFrame) : PortWork k s (t.receiveFrame k f) := by
  have counted := ((h.modPort (fun p => { p with recv := if 127 < p.recv then 127 else p.recv - 1 })).confine).busTaken f.brs
  refine ite _ (counted.modPort _) ?_
  split
  · exact counted.queueFrame ..
  · exact counted.queueFrame ..
  · exact counted.modPort _

theorem nextNominal (h : PortWork k s t) : PortWork k s (t.nextNominal k) := h.modPort _

theorem detectError (h : PortWork k s t) (e : BusError) : PortWork k s (t.detectError k e) :=
  ite _ ((h.modPort _).modPort _) (h.modPort _).nextNominal

theorem rateLocked (h : PortWork k s t) : PortWork k s (t.rateLocked k) := h.event ..

theorem goodFrame (h : PortWork k s t) (brs : Bool) : PortWork k s (t.goodFrame k brs) := by
  have counted := h.modPort (fun p => { p with
    goodRun := p.goodRun + 1, goodBrs := if brs then p.goodBrs + 1 else p.goodBrs, lastFrameUs := t.opUs })
  have nominal (c : Prop) [Decidable c] := ite c (counted.modPort (fun p => { p with nominalLocked := true })).rateLocked counted
  exact ite _ ((nominal _).modPort _).rateLocked (nominal _)

theorem txDone (h : PortWork k s t) : PortWork k s (t.txDone k) := by
  unfold State.txDone
  split
  · exact h
  · exact (((h.modPort _).sent _).busTaken true).confine

theorem postArbError (h : PortWork k s t) : PortWork k s (t.postArbError k) := by
  unfold State.postArbError
  dsimp only
  split
  · exact h
  · exact ite _ (h.modPort _) ((h.modPort _).event ..)

theorem busError (h : PortWork k s t) (e : BusError) : PortWork k s (t.busError k e) := by
  have counted := (h.busTaken false).modPort (fun p => p.countError e)
  exact ite _ counted.busOff (ite _ counted.confine.postArbError counted.confine)

theorem settle (h : PortWork k s t) : PortOnly s t.settle k := by
  obtain ⟨ports, -, rest⟩ := h
  refine ⟨fun j hj => by rw [State.settle_port, ports j hj], ?_⟩
  rw [State.settle_eq]
  generalize t.settle.hi = h
  rw [rest]

theorem fitted (h : PortWork k s t) (inRange : k < s.can.length) : k < t.can.length := h.2.1 ▸ inRange

end PortWork

/-! ### What the shared operations leave of the port's record -/

section Ports

variable {s : State} {k : Nat} (inRange : k < s.can.length)
include inRange

/-- A frame's or an error's time on the bus writes only the load of the last second. -/
theorem State.busTaken_port (brs : Bool) :
    (s.busTaken k brs).port k = { s.port k with loadBits := ((s.busTaken k brs).port k).loadBits } := by
  have fitted : k < ({ s with draws := s.draws + 1 } : State).can.length := inRange
  simp only [State.busTaken, State.modPort_port_same fitted]
  rfl

/-- Error confinement writes only whether the port is error passive. -/
theorem State.confine_port :
    (s.confine k).port k =
      { s.port k with passive := decide (127 < (s.port k).tec) || decide (127 < (s.port k).recv) } := by
  unfold State.confine
  dsimp only
  split
  · next unchanged => rw [unchanged]
  · rw [State.event_port, State.modPort_port_same inRange]

end Ports

end Sys2Proof.Machine
end

section
/-! PROOF. Reception at a CAN port and the rate detection. -/

namespace Sys2Proof.Machine

open Sys2Proof Sys2Proof.Safety

/-- A frame as a receive queue holds it: its content with its arrival time at 10 µs (R274). -/
def State.arrived (s : State) (f : CanFrame) : RxFrame :=
  { data := f.data, ident := f.ident, extended := f.extended, fd := f.fd, arrivalUs := s.opUs / 10 * 10 }

/-- A port of a segment that has received a frame, before the frame's filter is looked up (R275, R279). -/
def State.heardFrame (s : State) (k : Nat) (brs : Bool) : State :=
  ((s.modPort k (fun p => { p with recv := if 127 < p.recv then 127 else p.recv - 1 })).confine k).busTaken k brs

/-- A received frame rejected and counted (R273). -/
def State.rejectFrame (s : State) (k : Nat) : State := s.modPort k (fun p => { p with rxRejected := p.rxRejected + 1 })

/-- An error-free frame in detection, counted (R267). -/
def State.countGood (s : State) (k : Nat) (brs : Bool) : State :=
  s.modPort k (fun p => { p with
    goodRun := p.goodRun + 1, goodBrs := if brs then p.goodBrs + 1 else p.goodBrs, lastFrameUs := s.opUs })

/-- The nominal rate locked after three error-free frames (R267). -/
def State.lockNominal (s : State) (k : Nat) : State :=
  if 3 ≤ (s.port k).goodRun && !(s.port k).nominalLocked then
    (s.modPort k (fun p => { p with nominalLocked := true })).rateLocked k else s

/-- The data rate locked after three error-free frames with a bit-rate switch (R267). -/
def State.lockData (s : State) (k : Nat) : State :=
  if 3 ≤ (s.port k).goodBrs && !(s.port k).dataLocked then
    (s.modPort k (fun p => { p with dataLocked := true })).rateLocked k else s

theorem State.goodFrame_eq (s : State) (k : Nat) (brs : Bool) :
    s.goodFrame k brs = ((s.countGood k brs).lockNominal k).lockData k := rfl

theorem PortWork.countGood {k : Nat} {s t : State} (h : PortWork k s t) (brs : Bool) : PortWork k s (t.countGood k brs) :=
  h.modPort _

theorem PortWork.lockNominal {k : Nat} {s t : State} (h : PortWork k s t) : PortWork k s (t.lockNominal k) :=
  ite _ (h.modPort _).rateLocked h

theorem PortWork.heardFrame (k : Nat) (s : State) (brs : Bool) : PortWork k s (s.heardFrame k brs) :=
  (((PortWork.refl k s).modPort _).confine).busTaken brs

theorem State.receiveFrame_queued {s : State} {k : Nat} {f : CanFrame} (data : f.remote = false)
    (first : filterAction (((s.canConfig k).map CanConfig.filters).getD []) f = 1) :
    s.receiveFrame k f = (s.heardFrame k f.brs).queueFrame k false f := by
  simp [State.receiveFrame, data, first, State.heardFrame]

theorem State.receiveFrame_rejected {s : State} {k : Nat} {f : CanFrame}
    (no : f.remote = true ∨ filterAction (((s.canConfig k).map CanConfig.filters).getD []) f = 3) :
    s.receiveFrame k f = (s.heardFrame k f.brs).rejectFrame k := by
  unfold State.receiveFrame
  obtain remote | rejected := no
  · simp only [remote, if_true]
    rfl
  · simp only [rejected, ite_self]
    rfl

section Ports

variable {s : State} {k : Nat} (inRange : k < s.can.length)
include inRange

theorem State.heardFrame_port (brs : Bool) :
    (s.heardFrame k brs).port k = { s.port k with
      recv := ((s.heardFrame k brs).port k).recv, passive := ((s.heardFrame k brs).port k).passive
      loadBits := ((s.heardFrame k brs).port k).loadBits } := by
  have counted := (PortWork.refl k s).modPort (fun p => { p with recv := if 127 < p.recv then 127 else p.recv - 1 })
  unfold State.heardFrame
  rw [State.busTaken_port (counted.confine.fitted inRange), State.confine_port (counted.fitted inRange),
    State.modPort_port_same inRange]

theorem State.queueFrame_first_room (f : CanFrame) (room : (s.port k).q0.length < 32) :
    (s.queueFrame k false f).port k = { s.port k with
      q0 := (s.port k).q0 ++ [s.arrived f], rxQueued := (s.port k).rxQueued + 1
      q0Count := (s.port k).q0Count.cross (s.xing .fbMg).linkDown } := by
  simp only [State.queueFrame, room, if_true, Bool.false_eq_true, if_false, State.modPort_port_same inRange]
  rfl

theorem State.queueFrame_first_full (f : CanFrame) (full : 32 ≤ (s.port k).q0.length) :
    (s.queueFrame k false f).port k = { s.port k with q0Overflow := (s.port k).q0Overflow + 1 } ∧
    LastReport (s.queueFrame k false f) 0x4020 k 0 ((s.port k).q0Overflow + 1) := by
  simp only [State.queueFrame, Nat.not_lt.mpr full, Bool.false_eq_true, if_false]
  exact ⟨by rw [State.event_port, State.modPort_port_same inRange], State.event_lastReport ..⟩

theorem State.queueFrame_second_room (f : CanFrame) (room : (s.port k).q1.length < 64) :
    (s.queueFrame k true f).port k = { s.port k with
      q1 := (s.port k).q1 ++ [s.arrived f], rxQueued := (s.port k).rxQueued + 1
      q1Count := (s.port k).q1Count.cross (s.xing .fbMg).linkDown } := by
  simp only [State.queueFrame, room, if_true, State.modPort_port_same inRange]
  rfl

theorem State.lockNominal_port :
    (s.lockNominal k).port k =
      { s.port k with nominalLocked := (s.port k).nominalLocked || decide (3 ≤ (s.port k).goodRun) } := by
  unfold State.lockNominal
  split
  · next locks =>
    obtain ⟨long, -⟩ : 3 ≤ (s.port k).goodRun ∧ (s.port k).nominalLocked = false := by simpa using locks
    rw [State.rateLocked, State.event_port, State.modPort_port_same inRange, decide_eq_true long, Bool.or_true]
  · next not =>
    have same : ((s.port k).nominalLocked || decide (3 ≤ (s.port k).goodRun)) = (s.port k).nominalLocked := by
      revert not
      cases (s.port k).nominalLocked <;> simp
    rw [same]

theorem State.lockData_port :
    (s.lockData k).port k =
      { s.port k with dataLocked := (s.port k).dataLocked || decide (3 ≤ (s.port k).goodBrs) } := by
  unfold State.lockData
  split
  · next locks =>
    obtain ⟨long, -⟩ : 3 ≤ (s.port k).goodBrs ∧ (s.port k).dataLocked = false := by simpa using locks
    rw [State.rateLocked, State.event_port, State.modPort_port_same inRange, decide_eq_true long, Bool.or_true]
  · next not =>
    have same : ((s.port k).dataLocked || decide (3 ≤ (s.port k).goodBrs)) = (s.port k).dataLocked := by
      revert not
      cases (s.port k).dataLocked <;> simp
    rw [same]

theorem State.goodFrame_port (brs : Bool) :
    (s.goodFrame k brs).port k = { s.port k with
      goodRun := (s.port k).goodRun + 1, goodBrs := ((s.goodFrame k brs).port k).goodBrs, lastFrameUs := s.opUs
      nominalLocked := (s.port k).nominalLocked || decide (3 ≤ (s.port k).goodRun + 1)
      dataLocked := ((s.goodFrame k brs).port k).dataLocked } := by
  have counted := (PortWork.refl k s).countGood brs
  rw [State.goodFrame_eq, State.lockData_port (counted.lockNominal.fitted inRange),
    State.lockNominal_port (counted.fitted inRange), State.countGood, State.modPort_port_same inRange]

theorem State.nextNominal_port (unlocked : (s.port k).nominalLocked = false) :
    (s.nextNominal k).port k = { s.port k with
      nominal := (s.port k).nominal % 4 + 1, dataRate := 1, goodRun := 0, goodBrs := 0, lastFrameUs := s.opUs } := by
  rw [State.nextNominal, State.modPort_port_same inRange, if_neg (by rw [unlocked]; decide)]

/-- What an error in detection makes of the port: the runs end; an error after the BRS sample point takes the next data
candidate, one before it the next nominal candidate with the data candidate reset, of the rates not locked (R267). -/
theorem State.detectError_port (e : BusError) :
    ∃ us, (s.detectError k e).port k = { s.port k with
      goodRun := 0, goodBrs := 0, lastFrameUs := us
      nominal := if e.afterBrs || (s.port k).nominalLocked then (s.port k).nominal else (s.port k).nominal % 4 + 1
      dataRate :=
        if e.afterBrs then if (s.port k).dataLocked then (s.port k).dataRate else (s.port k).dataRate % 3 + 1
        else if (s.port k).nominalLocked then (s.port k).dataRate else 1 } := by
  have again (f g : CanPort → CanPort) : ((s.modPort k f).modPort k g).port k = g (f (s.port k)) := by
    rw [State.modPort_port_same (by rwa [State.modPort_can_length]), State.modPort_port_same inRange]
  unfold State.detectError State.nextNominal
  cases after : e.afterBrs
  · refine ⟨if (s.port k).nominalLocked then (s.port k).lastFrameUs else s.opUs, ?_⟩
    rw [if_neg Bool.false_ne_true, again]
    cases locked : (s.port k).nominalLocked <;> simp [locked, State.modPort_frame]
  · refine ⟨(s.port k).lastFrameUs, ?_⟩
    rw [if_pos rfl, again]
    cases locked : (s.port k).dataLocked <;> simp [locked]

end Ports

theorem lastReport_settle {u : State} {code a b c : Nat} (last : LastReport u code a b c) : LastReport u.settle code a b c := by
  simpa only [LastReport, State.settle_frame] using last

theorem execCanFrameReceived_runs {s : State} {k : Nat} (f : CanFrame) (segment : s.canDetects k = false)
    (runs : s.canRuns k = true) (on : (s.port k).busOff = false) :
    exec (.canFrameReceived k f) s = .next (s.receiveFrame k f).settle := by
  simp [exec, execCanFrameReceived, segment, runs, on]

theorem execCanFrameReceived_queued {s : State} {k : Nat} {f : CanFrame} (segment : s.canDetects k = false)
    (runs : s.canRuns k = true) (inRange : k < s.can.length) (on : (s.port k).busOff = false) (data : f.remote = false)
    (first : filterAction (((s.canConfig k).map CanConfig.filters).getD []) f = 1) :
    ∃ t, exec (.canFrameReceived k f) s = .next t ∧ PortOnly s t k ∧ (t.port k).q1 = (s.port k).q1 ∧
      ((s.port k).q0.length < 32 → ∃ r, (t.port k).q0 = (s.port k).q0 ++ [r] ∧ r.data = f.data ∧ r.ident = f.ident ∧
        r.fd = f.fd ∧ r.extended = f.extended ∧ (t.port k).rxQueued = (s.port k).rxQueued + 1) ∧
      (32 ≤ (s.port k).q0.length → (t.port k).q0 = (s.port k).q0 ∧
        (t.port k).q0Overflow = (s.port k).q0Overflow + 1 ∧ LastReport t 0x4020 k 0 ((s.port k).q0Overflow + 1)) ∧
      t.outbox = s.outbox := by
  have work := PortWork.heardFrame k s f.brs
  have fitted := work.fitted inRange
  have heard := State.heardFrame_port inRange f.brs
  rw [execCanFrameReceived_runs f segment runs on, State.receiveFrame_queued data first]
  refine ⟨_, rfl, (work.queueFrame false f).settle, ?_, fun room => ?_, fun full => ?_, ?_⟩
  · rw [State.settle_port]
    by_cases room : ((s.heardFrame k f.brs).port k).q0.length < 32
    · rw [State.queueFrame_first_room fitted f room, heard]
    · rw [(State.queueFrame_first_full fitted f (Nat.le_of_not_lt room)).1, heard]
  · rw [State.settle_port, State.queueFrame_first_room fitted f (by rw [heard]; exact room), heard]
    exact ⟨(s.heardFrame k f.brs).arrived f, rfl, rfl, rfl, rfl, rfl, rfl⟩
  · obtain ⟨port, last⟩ := State.queueFrame_first_full fitted f (by rw [heard]; exact full)
    rw [heard] at port last
    rw [State.settle_port, port]
    exact ⟨rfl, rfl, lastReport_settle last⟩
  · simp [State.settle_frame, State.queueFrame_frame, State.heardFrame, State.busTaken_frame, State.confine_frame,
      State.modPort_frame]

theorem execCanFrameReceived_rejected {s : State} {k : Nat} {f : CanFrame} (segment : s.canDetects k = false)
    (runs : s.canRuns k = true) (inRange : k < s.can.length) (on : (s.port k).busOff = false)
    (no : f.remote = true ∨ filterAction (((s.canConfig k).map CanConfig.filters).getD []) f = 3) :
    ∃ t, exec (.canFrameReceived k f) s = .next t ∧ PortOnly s t k ∧ (t.port k).q0 = (s.port k).q0 ∧
      (t.port k).q1 = (s.port k).q1 ∧ (t.port k).rxRejected = (s.port k).rxRejected + 1 := by
  have work := PortWork.heardFrame k s f.brs
  rw [execCanFrameReceived_runs f segment runs on, State.receiveFrame_rejected no]
  refine ⟨_, rfl, (work.modPort _).settle, ?_⟩
  rw [State.settle_port, State.rejectFrame, State.modPort_port_same (work.fitted inRange), State.heardFrame_port inRange]
  exact ⟨rfl, rfl, rfl⟩

theorem execRateDetectTimeout_next {s : State} {k : Nat} (detects : s.canDetects k = true) (inRange : k < s.can.length)
    (unlocked : (s.port k).nominalLocked = false) (silent : (s.port k).lastFrameUs + 250000 ≤ s.opUs) :
    ∃ t, exec (.rateDetectTimeout k) s = .next t ∧
      t.port k = { s.port k with
        nominal := (s.port k).nominal % 4 + 1, dataRate := 1, goodRun := 0, goodBrs := 0, lastFrameUs := s.opUs } ∧
      PortOnly s t k ∧ t.recorder = s.recorder := by
  refine ⟨(s.nextNominal k).settle, by simp [exec, execRateDetectTimeout, detects, silent], ?_,
    (PortWork.refl k s).nextNominal.settle, by simp only [State.settle_frame, State.nextNominal_frame]⟩
  rw [State.settle_port, State.nextNominal_port inRange unlocked]

theorem execCanFrameReceived_detecting {s : State} {k : Nat} {f : CanFrame} (detects : s.canDetects k = true)
    (inRange : k < s.can.length) (data : f.remote = false) (room : (s.port k).q1.length < 64) :
    ∃ t r, exec (.canFrameReceived k f) s = .next t ∧ PortOnly s t k ∧ (t.port k).q0 = (s.port k).q0 ∧
      (t.port k).q1 = (s.port k).q1 ++ [r] ∧ r.data = f.data ∧ r.ident = f.ident ∧
      (t.port k).goodRun = (s.port k).goodRun + 1 ∧ (t.port k).lastFrameUs = s.opUs ∧
      ((t.port k).nominalLocked = ((s.port k).nominalLocked || decide (3 ≤ (s.port k).goodRun + 1))) := by
  have good := (PortWork.refl k s).goodFrame f.brs
  have taken := good.busTaken f.brs
  have port := (State.busTaken_port (good.fitted inRange) f.brs).trans
    (by rw [State.goodFrame_port inRange])
  refine ⟨_, ((s.goodFrame k f.brs).busTaken k f.brs).arrived f,
    by simp only [exec, execCanFrameReceived, detects, data, if_true, Bool.false_eq_true, if_false],
    (taken.queueFrame true f).settle, ?_⟩
  rw [State.settle_port, State.queueFrame_second_room (taken.fitted inRange) f (by rw [port]; exact room), port]
  exact ⟨rfl, rfl, rfl, rfl, rfl, rfl, rfl⟩

theorem execCanBusError_detecting {s : State} {k : Nat} (e : BusError) (detects : s.canDetects k = true)
    (inRange : k < s.can.length) :
    ∃ t, exec (.canBusError k e) s = .next t ∧ PortOnly s t k ∧ t.recorder = s.recorder ∧
      (t.port k).goodRun = 0 ∧ (t.port k).goodBrs = 0 ∧
      (e.afterBrs = false → (s.port k).nominalLocked = false →
        (t.port k).nominal = (s.port k).nominal % 4 + 1 ∧ (t.port k).dataRate = 1) ∧
      (e.afterBrs = true → (t.port k).nominal = (s.port k).nominal ∧ (t.port k).dataRate =
        (if (s.port k).dataLocked then (s.port k).dataRate else (s.port k).dataRate % 3 + 1)) := by
  have taken := (PortWork.refl k s).busTaken false
  refine ⟨((s.busTaken k false).detectError k e).settle, by simp [exec, execCanBusError, detects],
    (taken.detectError e).settle, by simp only [State.settle_frame, State.detectError_frame, State.busTaken_frame], ?_⟩
  obtain ⟨us, port⟩ := State.detectError_port (taken.fitted inRange) e
  rw [State.settle_port, port, State.busTaken_port inRange]
  exact ⟨rfl, rfl, fun before unlocked => by simp [before, unlocked], fun after => by simp [after]⟩

end Sys2Proof.Machine
end

section
/-! PROOF. The statement about reception on CAN and the rate detection. -/

namespace Sys2Proof.Proofs

open Sys2Proof Sys2Proof.Machine Sys2Proof.Safety

/-- Settles O44: a received frame in the queue its filter names or counted as lost, a rejected one, and the rate
detection's timeout, frames and errors. -/
theorem canReceives : Obligations.CanReceives := by
  unfold Obligations.CanReceives
  refine ⟨?queued, ?rejected, ?timeout, ?detecting, ?error⟩
  case queued =>
    intro k f s segment runs inRange on data first
    exact execCanFrameReceived_queued segment runs inRange on data first
  case rejected =>
    intro k f s segment runs inRange on no
    exact execCanFrameReceived_rejected segment runs inRange on no
  case timeout =>
    intro k s detects inRange unlocked silent
    exact execRateDetectTimeout_next detects inRange unlocked silent
  case detecting =>
    intro k f s detects inRange data room
    exact execCanFrameReceived_detecting detects inRange data room
  case error =>
    intro k e s detects inRange
    exact execCanBusError_detecting e detects inRange

end Sys2Proof.Proofs
end

section
/-! PROOF. The transmit FIFO of a CAN port: identifier order, what the builder keeps, sent and cancelled heads. -/

namespace Sys2Proof.Machine

open Sys2Proof Sys2Proof.Safety

/-! ### Frames in identifier order -/

/-- Frames in ascending identifier order (R269). -/
abbrev IdentOrder (l : List TxFrame) : Prop := l.Pairwise (fun a b => a.ident ≤ b.ident)

theorem insertFrame_perm (f : TxFrame) (l : List TxFrame) : (insertFrame f l).Perm (f :: l) := by
  induction l with
  | nil => rfl
  | cons g l ih =>
    rw [insertFrame]
    split
    · rfl
    · exact (ih.cons g).trans (.swap ..)

theorem insertFrame_ordered {f : TxFrame} {l : List TxFrame} (ordered : IdentOrder l) : IdentOrder (insertFrame f l) := by
  induction l with
  | nil => exact List.pairwise_singleton ..
  | cons g l ih =>
    obtain ⟨first, tail⟩ := List.pairwise_cons.mp ordered
    rw [insertFrame]
    split
    · next before =>
      refine List.pairwise_cons.mpr ⟨fun x hx => ?_, ordered⟩
      rcases List.mem_cons.mp hx with rfl | later
      · exact before.le
      · exact before.le.trans (first x later)
    · next after =>
      refine List.pairwise_cons.mpr ⟨fun x hx => ?_, ih tail⟩
      rcases List.mem_cons.mp ((insertFrame_perm f l).mem_iff.mp hx) with rfl | later
      · exact not_lt.mp after
      · exact first x later

theorem foldl_insertFrame_perm (l acc : List TxFrame) :
    (l.foldl (fun acc f => insertFrame f acc) acc).Perm (l ++ acc) := by
  induction l generalizing acc with
  | nil => rfl
  | cons f l ih => exact (ih _).trans (((insertFrame_perm f acc).append_left l).trans List.perm_middle)

theorem foldl_insertFrame_ordered (l : List TxFrame) {acc : List TxFrame} (ordered : IdentOrder acc) :
    IdentOrder (l.foldl (fun acc f => insertFrame f acc) acc) := by
  induction l generalizing acc with
  | nil => exact ordered
  | cons f l ih => exact ih (insertFrame_ordered ordered)

theorem sortFrames_perm (l : List TxFrame) : (sortFrames l).Perm l := by
  simpa only [sortFrames, List.append_nil] using foldl_insertFrame_perm l []

theorem sortFrames_ordered (l : List TxFrame) : IdentOrder (sortFrames l) := foldl_insertFrame_ordered l .nil

/-! ### The FIFO and the builder's list -/

theorem CanPort.feed_all (p : CanPort) : p.feed.fifo ++ p.feed.rest = p.fifo ++ p.rest := by
  simp only [CanPort.feed, List.append_assoc, List.take_append_drop]

theorem CanPort.feed_length {p : CanPort} (fits : p.fifo.length ≤ 32) : p.feed.fifo.length ≤ 32 := by
  simp only [CanPort.feed, List.length_append, List.length_take]
  omega

/-- The frames a commit leaves on the port, none of them begun: sorted, without those of blocked identifiers (R269,
R272). -/
theorem CanPort.reorder_frames (p : CanPort) :
    ∃ (old : List TxFrame) (ident : TxFrame → Nat), (p.reorder false).fifo ++ (p.reorder false).rest =
      (sortFrames (old ++ p.fresh.map (fun f => { f with ident := ident f }))).filter
        (fun f => !p.isBlocked f.ident) := by
  refine ⟨(p.fifo ++ p.rest).filter (fun g => !p.fresh.any (fun f => f.node == g.node)), fun f => frameId ((((p.fifo ++ p.rest).filter (fun g => g.node == f.node)).foldl
    (fun m g => Nat.min m (prioOf g.ident)) (prioOf f.ident))) f.node, ?_⟩
  simp only [CanPort.reorder, CanPort.feed_all]
  rfl

theorem CanPort.reorder_ordered (p : CanPort) : IdentOrder ((p.reorder false).fifo ++ (p.reorder false).rest) := by
  obtain ⟨old, ident, frames⟩ := p.reorder_frames
  rw [frames]
  exact (sortFrames_ordered _).filter _

theorem CanPort.reorder_keeps_fresh {p : CanPort} (none : p.blocked = []) {f : TxFrame} (new : f ∈ p.fresh) :
    ∃ g ∈ (p.reorder false).fifo ++ (p.reorder false).rest, g.node = f.node ∧ g.data = f.data := by
  obtain ⟨old, ident, frames⟩ := p.reorder_frames
  rw [frames]
  refine ⟨{ f with ident := ident f }, List.mem_filter.mpr ⟨?_, by simp [CanPort.isBlocked, none]⟩, rfl, rfl⟩
  exact (sortFrames_perm _).mem_iff.mpr (List.mem_append_right _ (List.mem_map_of_mem new))

/-- A waiting frame with the PRIO 0 of the cancelled head `f` of its node (R270). -/
def heirOf (f g : TxFrame) : TxFrame :=
  { g with ident := if g.node = f.node ∧ prioOf f.ident = 0 then frameId 0 g.node else g.ident }

theorem CanPort.cancelled_succeeded {p : CanPort} {f : TxFrame} {l : List TxFrame} (head : p.fifo = f :: l)
    (late : f.tooLate = true) (newer : ∃ g ∈ l ++ p.rest, g.node = f.node) :
    p.cancelled.fifo ++ p.cancelled.rest = sortFrames ((l ++ p.rest).map (heirOf f)) := by
  have found : (l ++ p.rest).any (fun g => g.node == f.node) = true :=
    List.any_eq_true.mpr (by simpa only [beq_iff_eq] using newer)
  have heir : (fun g : TxFrame => if g.node = f.node && prioOf f.ident = 0 then
      { g with ident := frameId 0 g.node } else g) = heirOf f := by
    funext g
    by_cases same : g.node = f.node ∧ prioOf f.ident = 0 <;> simp [heirOf, same]
  simp only [CanPort.cancelled, head, late, if_true, found, CanPort.feed_all, List.nil_append, heir]

theorem CanPort.cancelled_alone {p : CanPort} {f : TxFrame} {l : List TxFrame} (head : p.fifo = f :: l)
    (late : f.tooLate = true) (none : ∀ g ∈ l ++ p.rest, g.node ≠ f.node) :
    p.cancelled.fifo ++ p.cancelled.rest = insertFrame { f with tooLate := false } (l ++ p.rest) := by
  have found : (l ++ p.rest).any (fun g => g.node == f.node) = false :=
    List.any_eq_false.mpr fun g waiting => by simpa only [beq_iff_eq] using none g waiting
  simp only [CanPort.cancelled, head, late, if_true, found, Bool.false_eq_true, if_false, CanPort.feed_all, List.nil_append]

/-- A port whose head `f` was sent, with `l` behind it (R270, R272). -/
def CanPort.headSent (p : CanPort) (f : TxFrame) (l : List TxFrame) : CanPort :=
  ({ p with
    fifo := l, txDone := p.txDone + 1, tec := p.tec - 1, clash := p.clash.filter (fun c => c.1 != f.ident) }).feed

/-- The head sent and put out on the bus. -/
def State.sentHead (s : State) (k : Nat) (f : TxFrame) (l : List TxFrame) : State :=
  { s.modPort k (fun p => p.headSent f l) with outbox := s.outbox ++ [Output.can k f.ident f.data] }

theorem State.txDone_head {s : State} {k : Nat} {f : TxFrame} {l : List TxFrame} (head : (s.port k).fifo = f :: l) :
    s.txDone k = ((s.sentHead k f l).busTaken k true).confine k := by
  rw [State.txDone, head]
  rfl

/-! ### The rows -/

theorem execCanCommitReorder_open {s : State} {k : Nat} (runs : s.canRuns k = true) (inRange : k < s.can.length)
    (on : (s.port k).busOff = false) (up : (s.xing .clFb).linkDown = false) :
    ∃ t, exec (.canCommitReorder k false) s = .next t ∧ PortOnly s t k ∧ (t.port k).fresh = [] ∧
      (t.port k).fifo.length ≤ 32 ∧
      List.Pairwise (fun a b => a.ident ≤ b.ident) ((t.port k).fifo ++ (t.port k).rest) ∧
      ((s.port k).blocked = [] → ∀ f ∈ (s.port k).fresh, ∃ g ∈ (t.port k).fifo ++ (t.port k).rest,
        g.node = f.node ∧ g.data = f.data) ∧ t.recorder = s.recorder ∧ t.outbox = s.outbox := by
  refine ⟨(s.modPort k (fun p => p.reorder false)).settle, by simp [exec, execCanCommitReorder, runs, on, up],
    ((PortWork.refl k s).modPort _).settle, ?_⟩
  rw [State.settle_port, State.modPort_port_same inRange]
  exact ⟨rfl, CanPort.feed_length (Nat.zero_le _), CanPort.reorder_ordered _,
    fun none _ new => CanPort.reorder_keeps_fresh none new,
    by simp only [State.settle_frame, State.modPort_frame], by simp only [State.settle_frame, State.modPort_frame]⟩

theorem execCanTxDone_head {s : State} {k : Nat} {f : TxFrame} {l : List TxFrame} (runs : s.canRuns k = true)
    (inRange : k < s.can.length) (head : (s.port k).fifo = f :: l) :
    ∃ t, exec (.canTxDone k) s = .next t ∧ PortOnly s t k ∧
      t.outbox = s.outbox ++ [Output.can k f.ident f.data] ∧ (t.port k).txDone = (s.port k).txDone + 1 ∧
      (t.port k).tec = (s.port k).tec - 1 ∧ (t.port k).fifo ++ (t.port k).rest = l ++ (s.port k).rest ∧
      (t.port k).q0 = (s.port k).q0 ∧ (t.port k).q1 = (s.port k).q1 := by
  have sent : PortWork k s (s.sentHead k f l) := ((PortWork.refl k s).modPort _).sent _
  have fitted := (sent.busTaken true).fitted inRange
  refine ⟨(s.txDone k).settle, by simp [exec, execCanTxDone, runs], (PortWork.refl k s).txDone.settle, ?_⟩
  rw [State.settle_port, State.txDone_head head]
  have port : (s.sentHead k f l).port k = (s.port k).headSent f l :=
    (State.port_congr rfl k).trans (State.modPort_port_same inRange _)
  rw [State.confine_port fitted, State.busTaken_port (sent.fitted inRange), port]
  refine ⟨?_, rfl, rfl, CanPort.feed_all _, rfl, rfl⟩
  simp only [State.settle_frame, State.confine_frame, State.busTaken_frame]
  rfl

theorem execCanTxCancelled_late {s : State} {k : Nat} {f : TxFrame} {l : List TxFrame} (runs : s.canRuns k = true)
    (inRange : k < s.can.length) (head : (s.port k).fifo = f :: l) (late : f.tooLate = true) :
    ∃ t, exec (.canTxCancelled k) s = .next t ∧ PortOnly s t k ∧ t.recorder = s.recorder ∧ t.outbox = s.outbox ∧
      ((∃ g ∈ l ++ (s.port k).rest, g.node = f.node) →
        ((t.port k).fifo ++ (t.port k).rest).length = (l ++ (s.port k).rest).length ∧
        List.Pairwise (fun a b => a.ident ≤ b.ident) ((t.port k).fifo ++ (t.port k).rest) ∧
        ∀ g ∈ l ++ (s.port k).rest,
          { g with ident := if g.node = f.node ∧ prioOf f.ident = 0 then frameId 0 g.node else g.ident } ∈
            (t.port k).fifo ++ (t.port k).rest) ∧
      ((∀ g ∈ l ++ (s.port k).rest, g.node ≠ f.node) →
        { f with tooLate := false } ∈ (t.port k).fifo ++ (t.port k).rest) := by
  refine ⟨(s.modPort k CanPort.cancelled).settle, by simp [exec, execCanTxCancelled, runs],
    ((PortWork.refl k s).modPort _).settle, by simp only [State.settle_frame, State.modPort_frame],
    by simp only [State.settle_frame, State.modPort_frame], ?_⟩
  rw [State.settle_port, State.modPort_port_same inRange]
  refine ⟨fun newer => ?_, fun none => ?_⟩
  · rw [CanPort.cancelled_succeeded head late newer]
    refine ⟨by rw [(sortFrames_perm _).length_eq, List.length_map], sortFrames_ordered _, fun g waiting => ?_⟩
    exact (sortFrames_perm _).mem_iff.mpr (List.mem_map_of_mem (f := heirOf f) waiting)
  · rw [CanPort.cancelled_alone head late none]
    exact (insertFrame_perm ..).mem_iff.mpr List.mem_cons_self

end Sys2Proof.Machine
end

section
/-! PROOF. The statement about the transmit FIFO. -/

namespace Sys2Proof.Proofs

open Sys2Proof Sys2Proof.Machine Sys2Proof.Safety

/-- Settles O45: a commit's frames in identifier order, a head sent and a cancelled head with and without a newer frame
for its node. That a frame sent takes 1 off the transmit counter rests on log entry 10. -/
theorem canTransmits : Obligations.CanTransmits := by
  unfold Obligations.CanTransmits
  refine ⟨?commit, ?sent, ?cancelled⟩
  case commit =>
    intro k s runs inRange on up
    exact execCanCommitReorder_open runs inRange on up
  case sent =>
    intro k f l s runs inRange head
    exact execCanTxDone_head runs inRange head
  case cancelled =>
    intro k f l s runs inRange head late
    exact execCanTxCancelled_late runs inRange head late

end Sys2Proof.Proofs
end

section
/-! PROOF. Error counters, bus-off and identifier clashes of a CAN port. -/

namespace Sys2Proof.Machine

open Sys2Proof Sys2Proof.Safety

/-- A port that has counted a bus error, before its consequences (R275, R279). -/
def State.countedError (s : State) (k : Nat) (e : BusError) : State :=
  (s.busTaken k false).modPort k (fun p => p.countError e)

theorem State.busError_eq (s : State) (k : Nat) (e : BusError) :
    s.busError k e = if 255 < ((s.countedError k e).port k).tec then (s.countedError k e).busOff k
      else if isPostArb e then ((s.countedError k e).confine k).postArbError k else (s.countedError k e).confine k := rfl

theorem PortWork.countedError {k : Nat} {s : State} (e : BusError) : PortWork k s (s.countedError k e) :=
  ((PortWork.refl k s).busTaken false).modPort _

theorem CanPort.countError_receiving (p : CanPort) {e : BusError} (receiving : e.transmitting = false) :
    p.countError e = { p with recv := Nat.min 255 (p.recv + recRise e) } := by
  simp [CanPort.countError, receiving]

theorem CanPort.countError_transmitting (p : CanPort) {e : BusError} (transmitting : e.transmitting = true) :
    p.countError e = { p with tec := p.tec + tecRise p.passive e } := by
  simp [CanPort.countError, transmitting]

section Ports

variable {s : State} {k : Nat} (inRange : k < s.can.length)
include inRange

theorem State.countedError_port (e : BusError) :
    ∃ load, (s.countedError k e).port k = { s.port k with loadBits := load }.countError e := by
  refine ⟨((s.busTaken k false).port k).loadBits, ?_⟩
  rw [State.countedError, State.modPort_port_same (((PortWork.refl k s).busTaken false).fitted inRange),
    ← State.busTaken_port inRange]

theorem State.busOff_port :
    (s.busOff k).port k = { s.port k with
      fifo := [], rest := [], fresh := [], busOff := true, segmentLost := true, busOffUs := s.opUs
      busOffCount := (s.port k).busOffCount + 1, offLevel := !(s.port k).offLevel
      offSeen := ((s.busOff k).port k).offSeen } := by
  unfold State.busOff
  dsimp only
  split
  · rw [State.modPort_port_same inRange]
  · rw [State.event_port, State.modPort_port_same inRange]

/-- A POST_ARB_BIT_ERROR leaves the error counters and the bus-off state (R272). -/
theorem State.postArbError_counters :
    ((s.postArbError k).port k).tec = (s.port k).tec ∧ ((s.postArbError k).port k).busOff = (s.port k).busOff := by
  unfold State.postArbError
  dsimp only
  split
  · exact ⟨rfl, rfl⟩
  · split
    · rw [State.modPort_port_same inRange]
      exact ⟨rfl, rfl⟩
    · rw [State.event_port, State.modPort_port_same inRange]
      exact ⟨rfl, rfl⟩

/-- The sixteenth POST_ARB_BIT_ERROR in a row of an identifier blocks it for a second and takes its frames out (R272). -/
theorem State.postArbError_sixteenth {f : TxFrame} {l : List TxFrame} (head : (s.port k).fifo = f :: l)
    (fifteen : countOf (s.port k).clash f.ident = 15) :
    (f.ident, s.opUs + 1000000) ∈ ((s.postArbError k).port k).blocked ∧
    ((s.postArbError k).port k).clashCount = (s.port k).clashCount + 1 ∧
    (∀ g ∈ ((s.postArbError k).port k).fifo ++ ((s.postArbError k).port k).rest, g.ident ≠ f.ident) ∧
    LastReport (s.postArbError k) 0x4030 k f.ident 0 := by
  have last : ¬15 + 1 < 16 := by decide
  simp only [State.postArbError, head, fifteen, last, if_false]
  rw [State.event_port, State.modPort_port_same inRange]
  refine ⟨List.mem_cons_self, rfl, fun g left => ?_, State.event_lastReport ..⟩
  rw [CanPort.feed_all] at left
  simp only [List.mem_append, List.mem_filter, bne_iff_ne] at left
  exact left.elim And.right And.right

end Ports

theorem execCanBusError_runs {s : State} {k : Nat} (e : BusError) (segment : s.canDetects k = false)
    (runs : s.canRuns k = true) (on : (s.port k).busOff = false) :
    exec (.canBusError k e) s = .next (s.busError k e).settle := by
  simp [exec, execCanBusError, segment, runs, on]

theorem State.busError_receiving {s : State} {k : Nat} {e : BusError} (inRange : k < s.can.length)
    (receiving : e.transmitting = false) (few : (s.port k).tec ≤ 255) :
    ((s.busError k e).port k).recv = Nat.min 255 ((s.port k).recv + recRise e) ∧
    ((s.busError k e).port k).tec = (s.port k).tec ∧
    ((s.busError k e).port k).passive =
      (decide (127 < (s.port k).tec) || decide (127 < ((s.busError k e).port k).recv)) := by
  obtain ⟨load, counted⟩ := State.countedError_port inRange e
  rw [CanPort.countError_receiving _ receiving] at counted
  have result : s.busError k e = (s.countedError k e).confine k := by
    rw [State.busError_eq, if_neg (by rw [counted]; exact not_lt.mpr few), if_neg (by simp [isPostArb, receiving])]
  rw [result, State.confine_port ((PortWork.countedError e).fitted inRange), counted]
  exact ⟨rfl, rfl, rfl⟩

theorem State.busError_transmitting {s : State} {k : Nat} {e : BusError} (inRange : k < s.can.length)
    (transmitting : e.transmitting = true) (few : (s.port k).tec + tecRise (s.port k).passive e ≤ 255) :
    ((s.busError k e).port k).tec = (s.port k).tec + tecRise (s.port k).passive e ∧
    ((s.busError k e).port k).busOff = (s.port k).busOff := by
  obtain ⟨load, counted⟩ := State.countedError_port inRange e
  rw [CanPort.countError_transmitting _ transmitting] at counted
  have work := PortWork.countedError (k := k) (s := s) e
  have confined := State.confine_port (work.fitted inRange)
  rw [counted] at confined
  rw [State.busError_eq, if_neg (by rw [counted]; exact not_lt.mpr few)]
  split
  · obtain ⟨tec, busOff⟩ := State.postArbError_counters (work.confine.fitted inRange)
    rw [tec, busOff, confined]
    exact ⟨rfl, rfl⟩
  · rw [confined]
    exact ⟨rfl, rfl⟩

theorem State.busError_busOff {s : State} {k : Nat} {e : BusError} (inRange : k < s.can.length)
    (transmitting : e.transmitting = true) (many : 255 < (s.port k).tec + tecRise (s.port k).passive e) :
    s.busError k e = (s.countedError k e).busOff k := by
  obtain ⟨load, counted⟩ := State.countedError_port inRange e
  rw [CanPort.countError_transmitting _ transmitting] at counted
  rw [State.busError_eq, if_pos (by rw [counted]; exact many)]

theorem execCanBusError_counts {s : State} {k : Nat} (e : BusError) (segment : s.canDetects k = false)
    (runs : s.canRuns k = true) (inRange : k < s.can.length) (on : (s.port k).busOff = false) :
    ∃ t, exec (.canBusError k e) s = .next t ∧ PortOnly s t k ∧ t.outbox = s.outbox ∧
      (e.transmitting = false → (s.port k).tec ≤ 255 →
        (t.port k).recv = Nat.min 255 ((s.port k).recv + recRise e) ∧ (t.port k).tec = (s.port k).tec ∧
        (t.port k).passive = (decide (127 < (s.port k).tec) || decide (127 < (t.port k).recv))) ∧
      (e.transmitting = true → (s.port k).tec + tecRise (s.port k).passive e ≤ 255 →
        (t.port k).tec = (s.port k).tec + tecRise (s.port k).passive e ∧ (t.port k).busOff = false) ∧
      (e.transmitting = true → 255 < (s.port k).tec + tecRise (s.port k).passive e →
        (t.port k).busOff = true ∧ (t.port k).busOffUs = s.opUs ∧
        (t.port k).fifo = [] ∧ (t.port k).rest = [] ∧ (t.port k).fresh = [] ∧
        (t.port k).busOffCount = (s.port k).busOffCount + 1 ∧ (t.port k).segmentLost = true ∧
        ((s.xing .fbMg).linkDown = false →
          Recorded s t 0x4011 k ((s.port k).fifo.length + (s.port k).rest.length + (s.port k).fresh.length) 0) ∧
        ((s.xing .fbMg).linkDown = true → t.recorder = s.recorder)) := by
  rw [execCanBusError_runs e segment runs on]
  refine ⟨_, rfl, ((PortWork.refl k s).busError e).settle, by simp only [State.settle_frame, State.busError_frame],
    fun receiving few => ?_, fun transmitting few => ?_, fun transmitting many => ?_⟩ <;> rw [State.settle_port]
  · exact State.busError_receiving inRange receiving few
  · rw [← on]
    exact State.busError_transmitting inRange transmitting few
  · have work := PortWork.countedError (k := k) (s := s) e
    obtain ⟨load, counted⟩ := State.countedError_port inRange e
    rw [CanPort.countError_transmitting _ transmitting] at counted
    have framed : (s.countedError k e).opUs = s.opUs ∧ (s.countedError k e).recorder = s.recorder ∧
        (s.countedError k e).powerCycle = s.powerCycle ∧ (s.countedError k e).xings = s.xings := by
      simp only [State.countedError, State.modPort_frame, State.busTaken_frame, and_self]
    obtain ⟨op, recorder, cycle, xings⟩ := framed
    have link : (s.countedError k e).xing .fbMg = s.xing .fbMg := by rw [State.xing, xings, State.xing]
    rw [State.busError_busOff inRange transmitting many]
    refine ⟨?_, ?_, ?_, ?_, ?_, ?_, ?_, fun up => recorded_settle ?_, fun down => ?_⟩
    case refine_8 =>
      rw [State.busOff, link, up, if_neg Bool.false_ne_true, counted]
      exact State.event_recorded (by simp only [State.modPort_frame, recorder]) (by simp only [State.modPort_frame, op])
        (by simp only [State.modPort_frame, cycle]) ..
    case refine_9 =>
      rw [State.busOff, link, down, if_pos rfl]
      simp only [State.settle_frame, State.modPort_frame, recorder]
    all_goals rw [State.busOff_port (work.fitted inRange)]
    · exact op
    · rw [counted]

theorem execCanBusError_clash {s : State} {k : Nat} {e : BusError} {f : TxFrame} {l : List TxFrame}
    (segment : s.canDetects k = false) (runs : s.canRuns k = true) (inRange : k < s.can.length)
    (on : (s.port k).busOff = false) (transmitting : e.transmitting = true) (after : e.afterArbitration = true)
    (bit : e.kind = .bit) (few : (s.port k).tec + 8 ≤ 255) (head : (s.port k).fifo = f :: l)
    (fifteen : countOf (s.port k).clash f.ident = 15) :
    ∃ t, exec (.canBusError k e) s = .next t ∧ PortOnly s t k ∧
      (f.ident, s.opUs + 1000000) ∈ (t.port k).blocked ∧ (t.port k).clashCount = (s.port k).clashCount + 1 ∧
      (∀ g ∈ (t.port k).fifo ++ (t.port k).rest, g.ident ≠ f.ident) ∧ LastReport t 0x4030 k f.ident 0 := by
  rw [execCanBusError_runs e segment runs on]
  have work := PortWork.countedError (k := k) (s := s) e
  obtain ⟨load, counted⟩ := State.countedError_port inRange e
  rw [CanPort.countError_transmitting _ transmitting] at counted
  have rise : tecRise (s.port k).passive e = 8 := by simp [tecRise, bit]
  have result : s.busError k e = ((s.countedError k e).confine k).postArbError k := by
    rw [State.busError_eq, if_neg (by rw [counted]; exact not_lt.mpr (by rw [rise]; exact few)),
      if_pos (by simp [isPostArb, transmitting, after, bit])]
  have confined := State.confine_port (work.fitted inRange)
  rw [counted] at confined
  have op : ((s.countedError k e).confine k).opUs = s.opUs := by
    simp only [State.confine_frame, State.countedError, State.modPort_frame, State.busTaken_frame]
  obtain ⟨blocked, count, gone, last⟩ := State.postArbError_sixteenth (f := f) (l := l) (work.confine.fitted inRange)
    (by rw [confined]; exact head) (by rw [confined]; exact fifteen)
  rw [op] at blocked
  rw [confined] at count
  refine ⟨_, rfl, ((PortWork.refl k s).busError e).settle, ?_⟩
  rw [State.settle_port, result]
  exact ⟨blocked, count, gone, lastReport_settle last⟩

theorem State.modPort_default {s : State} {k : Nat} {f : CanPort → CanPort} (default : f {} = {}) :
    (s.modPort k f).port k = f (s.port k) := by
  by_cases inRange : k < s.can.length
  · exact State.modPort_port_same inRange f
  · simp [State.port, State.modPort, upd, List.getD_eq_getElem?_getD, Nat.le_of_not_lt inRange, default]

theorem execIdClashBlockExpiry_ends (k ident : Nat) (s : State) :
    ∃ t, exec (.idClashBlockExpiry k ident) s = .next t ∧ PortOnly s t k ∧ t.recorder = s.recorder ∧
      t.port k = { s.port k with
        blocked := (s.port k).blocked.filter (fun b => !(b.1 == ident && b.2 ≤ s.opUs)) } := by
  refine ⟨_, rfl, ((PortWork.refl k s).modPort _).settle, by simp only [State.settle_frame, State.modPort_frame], ?_⟩
  rw [State.settle_port, State.modPort_default rfl]

theorem State.busOff_inRange {s : State} {k : Nat} (off : (s.port k).busOff = true) : k < s.can.length := by
  by_contra beyond
  rw [State.port, List.getD_eq_default _ _ (Nat.le_of_not_lt beyond)] at off
  exact absurd off (by decide)

theorem execBusOffRecovery_back {s : State} {k : Nat} (off : (s.port k).busOff = true)
    (due : (s.port k).busOffUs + 1408000 / nominalRate (s.canRates k).1 ≤ s.opUs) :
    ∃ t, exec (.busOffRecovery k) s = .next t ∧ PortOnly s t k ∧
      t.port k = { s.port k with busOff := false, tec := 0, recv := 0, passive := false } ∧
      Recorded s t 0x4012 k (s.opUs - (s.port k).busOffUs) 0 := by
  have run : exec (.busOffRecovery k) s = .next ((s.modPort k (fun p =>
      { p with busOff := false, tec := 0, recv := 0, passive := false })).event 0x4012 .fb .info k
        (s.opUs - (s.port k).busOffUs)).settle := by
    simp only [exec, execBusOffRecovery, off, due, Bool.true_and, decide_true, if_true]
  refine ⟨_, run, (((PortWork.refl k s).modPort _).event ..).settle, ?_, recorded_settle (State.event_recorded rfl rfl rfl ..)⟩
  rw [State.settle_port, State.event_port, State.modPort_port_same (State.busOff_inRange off)]

end Sys2Proof.Machine
end

section
/-! PROOF. The statement about bus errors, identifier clashes and bus-off. -/

namespace Sys2Proof.Proofs

open Sys2Proof Sys2Proof.Machine Sys2Proof.Safety

/-- Settles O46: the counts of a bus error, the identifier clash, the end of its block and the recovery from bus-off. The
counts of the standard rest on log entry 10. -/
theorem canFaults : Obligations.CanFaults := by
  unfold Obligations.CanFaults
  refine ⟨?counts, ?clash, ?blockEnds, ?recovery⟩
  case counts =>
    intro k e s segment runs inRange on
    exact execCanBusError_counts e segment runs inRange on
  case clash =>
    intro k e f l s segment runs inRange on transmitting after bit few head fifteen
    exact execCanBusError_clash segment runs inRange on transmitting after bit few head fifteen
  case blockEnds =>
    intro k ident s
    exact execIdClashBlockExpiry_ends k ident s
  case recovery =>
    intro k s off due
    exact execBusOffRecovery_back off due

end Sys2Proof.Proofs
end

section
/-! PROOF. What a frame on a LAN shows, and the services of the Ethernet ports. -/

namespace Sys2Proof.Machine

open Sys2Proof Sys2Proof.Safety

/-- A LAN's record after a frame received now (R299). -/
def Lan.heard (l : Lan) (now : Nat) : Lan := { l with lastUs := now, down := false, received := l.received + 1 }

theorem State.lanHeard_only (s : State) (k : Nat) :
    s.lanHeard k = { s with
      net := { s.net with lans := upd s.net.lans k (fun l => l.heard s.opUs) }, recorder := (s.lanHeard k).recorder } := by
  unfold State.lanHeard
  dsimp only
  split <;> rfl

theorem State.lanHeard_up {s : State} {k : Nat} {l : Lan} (held : s.net.lans[k]? = some l) (up : l.down = false) :
    s.lanHeard k = { s with net := { s.net with lans := s.net.lans.set k (l.heard s.opUs) } } := by
  simp only [State.lanHeard, held, Option.map_some, Option.getD_some, up, Bool.false_eq_true, if_false, upd_eq_set held]
  rfl

theorem State.lanHeard_down {s : State} {k : Nat} {l : Lan} (held : s.net.lans[k]? = some l) (down : l.down = true) :
    s.lanHeard k =
      ({ s with net := { s.net with lans := s.net.lans.set k (l.heard s.opUs) } } : State).event 0x5040 .nw .info k 0 := by
  simp only [State.lanHeard, held, Option.map_some, Option.getD_some, down, if_true, upd_eq_set held]
  rfl

theorem State.lanSends_iff (s : State) : s.lanSends = true ↔
    s.unit.variant.ethernet = true ∧ s.station.isSome = true ∧ (s.power.state = .run ∨ s.power.state = .stop) := by
  simp [State.lanSends, and_assoc]

theorem State.lanSends_powered {s : State} (sends : s.lanSends = true) : s.power.state.powered = true := by
  obtain ⟨-, -, run | stop⟩ := s.lanSends_iff.mp sends
  · rw [run]; rfl
  · rw [stop]; rfl

theorem execPrpSupervisionSend_due {s : State} (sends : s.lanSends = true) (due : s.net.supervisionUs ≤ s.opUs) :
    ∃ t, exec .prpSupervisionSend s = .next t ∧
      t = { s with net := { s.net with supervisionUs := s.opUs + 2000000 },
                   outbox := s.outbox ++ [Output.supervision 0, Output.supervision 1], hi := mirrorOf s t } :=
  ⟨_, by simp only [exec, execPrpSupervisionSend, sends, due, Bool.true_and, decide_true, if_true]; rfl,
    State.settle_eq _⟩

theorem execArpRequest_lan (k : Nat) (a sender : Word) (mac : BitVec 48) {s : State} (sends : s.lanSends = true) :
    ∃ t, exec (.arpRequest false k a sender mac) s = .next t ∧
      t.net.arp = (sender, mac) :: s.net.arp.filter (fun x => x.1 != sender) ∧
      t.outbox = s.outbox ++ (if a = word (10 * 2 ^ 24 + s.networkId.toNat % 256 * 65536 + s.ownId)
        then [Output.arpReply false k a] else []) ∧
      t = { s with net := { s.net with lans := t.net.lans, arp := t.net.arp }, outbox := t.outbox,
                   recorder := t.recorder, hi := mirrorOf s t } := by
  have live : (s.unit.variant.ethernet && s.power.state.powered) = true := by
    rw [(s.lanSends_iff.mp sends).1, State.lanSends_powered sends]
    rfl
  obtain ⟨lans, recorder, heard⟩ : ∃ lans recorder, s.lanHeard k =
      { s with net := { s.net with lans := lans }, recorder := recorder } := ⟨_, _, s.lanHeard_only k⟩
  refine ⟨_, rfl, ?_⟩
  simp only [Bool.false_eq_true, if_false, live, if_true, heard, State.arpLearn, sends, Bool.true_and]
  by_cases own : a = word (10 * 2 ^ 24 + s.networkId.toNat % 256 * 65536 + s.ownId)
  · simp only [own, beq_self_eq_true, if_true]
    exact ⟨by rw [State.settle_eq], by rw [State.settle_eq], by simp only [State.settle_frame]; exact State.settle_eq _⟩
  · simp only [beq_eq_false_iff_ne.mpr own, own, Bool.false_eq_true, if_false, List.append_nil]
    exact ⟨by rw [State.settle_eq], by rw [State.settle_eq], by simp only [State.settle_frame]; exact State.settle_eq _⟩

theorem execArpRequest_maintenance (k : Nat) (a sender : Word) (mac : BitVec 48) {s : State}
    (powered : s.power.state.powered = true) :
    ∃ t, exec (.arpRequest true k a sender mac) s = .next t ∧
      t = { s with outbox := s.outbox ++ (if a = s.hi.x8Address then [Output.arpReply true 0 a] else []),
                   hi := mirrorOf s t } := by
  refine ⟨_, rfl, ?_⟩
  by_cases own : a = s.hi.x8Address
  · simp only [powered, own, beq_self_eq_true, Bool.true_and, if_true]
    exact State.settle_eq _
  · simp only [beq_eq_false_iff_ne.mpr own, own, Bool.and_false, Bool.false_eq_true, if_true, if_false, List.append_nil]
    exact State.settle_eq _

theorem execIcmpEcho_alive (a : Word) (b : List Byte) {s : State} (powered : s.power.state.powered = true)
    (alive : s.mg.alive = true) :
    ∃ t, exec (.icmpEcho a b) s = .next t ∧
      t = { s with outbox := s.outbox ++ (if a = s.hi.x8Address then [Output.icmpReply b] else []),
                   hi := mirrorOf s t } := by
  refine ⟨_, rfl, ?_⟩
  by_cases own : a = s.hi.x8Address
  · simp only [powered, alive, own, beq_self_eq_true, Bool.true_and, if_true]
    exact State.settle_eq _
  · simp only [beq_eq_false_iff_ne.mpr own, own, Bool.and_false, Bool.false_eq_true, if_false, List.append_nil]
    exact State.settle_eq _

theorem execSupervisionFrameReceived_counts {s : State} {k : Nat} {l : Lan} (fitted : s.unit.variant.ethernet = true)
    (powered : s.power.state.powered = true) (held : s.net.lans[k]? = some l) :
    ∃ t, exec (.supervisionFrameReceived k) s = .next t ∧
      t.net = { s.net with lans := s.net.lans.set k { l with
        lastUs := s.opUs, down := false, received := l.received + 1, supervision := l.supervision + 1 } } ∧
      (l.down = true → Recorded s t 0x5040 k 0 0) ∧ (l.down = false → t.recorder = s.recorder) ∧
      t = { s with net := t.net, recorder := t.recorder, hi := mirrorOf s t } := by
  have inRange : k < s.net.lans.length := (List.getElem?_eq_some_iff.mp held).1
  have live : (s.unit.variant.ethernet && s.power.state.powered) = true := by rw [fitted, powered]; rfl
  refine ⟨_, by simp only [exec, execSupervisionFrameReceived, live, if_true]; rfl, ?_⟩
  cases down : l.down
  · rw [State.lanHeard_up held down]
    simp only [upd_eq_set (List.getElem?_set_self inRange), List.set_set]
    exact ⟨by rw [State.settle_eq]; rfl, nofun, fun _ => by rw [State.settle_eq],
      by simp only [State.settle_frame]; exact State.settle_eq _⟩
  · rw [State.lanHeard_down held down]
    simp only [State.event, upd_eq_set (List.getElem?_set_self inRange), List.set_set]
    exact ⟨by rw [State.settle_eq]; rfl, fun _ => recorded_settle ⟨_, rfl, rfl, rfl, rfl, rfl, rfl, rfl⟩, nofun,
      by simp only [State.settle_frame]; exact State.settle_eq _⟩

end Sys2Proof.Machine
end

section
/-! PROOF. The statement about the services of the Ethernet ports. -/

namespace Sys2Proof.Proofs

open Sys2Proof Sys2Proof.Machine Sys2Proof.Safety

/-- Settles O48: supervision frames sent and received, ARP on the safety network and on X8, and ICMP echo. That an ARP
request teaches the sender's address is the model's choice (log entry 98). -/
theorem ethernetServices : Obligations.EthernetServices := by
  unfold Obligations.EthernetServices
  refine ⟨?supervision, ?arp, ?maintenance, ?echo, ?received⟩
  case supervision =>
    intro s sends due
    exact execPrpSupervisionSend_due sends due
  case arp =>
    intro k a sender mac s sends
    exact execArpRequest_lan k a sender mac sends
  case maintenance =>
    intro k a sender mac s powered
    exact execArpRequest_maintenance k a sender mac powered
  case echo =>
    intro a b s powered alive
    exact execIcmpEcho_alive a b powered alive
  case received =>
    intro k l s fitted powered held
    exact execSupervisionFrameReceived_counts fitted powered held

end Sys2Proof.Proofs
end

section
/-! PROOF. Datagrams, the check of a telegram by both lanes, and a silent LAN. -/

namespace Sys2Proof.Machine

open Sys2Proof Sys2Proof.Safety

/-! ### A datagram -/

/-- Telegrams that fit are put before the lanes in their order (R296). -/
theorem foldl_toBuffer {α : Type} (g : α → RxTelegram) (l : List α) {s : State}
    (fits : s.net.buffer.length + l.length ≤ 4096) :
    l.foldl (fun s b => s.toBuffer (g b)) s = { s with net := { s.net with buffer := s.net.buffer ++ l.map g } } := by
  induction l generalizing s with
  | nil => rw [List.map_nil, List.append_nil]; rfl
  | cons b l ih =>
    rw [List.length_cons] at fits
    have room : s.net.buffer.length < 4096 := by omega
    rw [List.foldl_cons, State.toBuffer, if_pos room, ih (by simp only [List.length_append, List.length_singleton]; omega)]
    simp only [List.append_assoc, List.singleton_append, List.map_cons]

theorem telegramsOf_length (data : List Byte) : (telegramsOf data).length = data.length / 64 := by
  rw [telegramsOf, List.length_map, List.length_range]

/-- No entry of the duplicate table that is still kept names the datagram (R299). -/
theorem not_repeated {seen : List (Nat × Nat × Nat)} {now source seq : Nat}
    (old : ∀ x ∈ seen, x.1 = source → x.2.1 = seq → x.2.2 + 400000 ≤ now) :
    (seen.filter (fun x => now < x.2.2 + 400000)).any (fun x => x.1 == source && x.2.1 == seq) = false := by
  refine List.any_eq_false.mpr fun x kept => ?_
  obtain ⟨held, young⟩ := List.mem_filter.mp kept
  simp only [Bool.and_eq_true, beq_iff_eq]
  rintro ⟨same, number⟩
  exact absurd (of_decide_eq_true young) (Nat.not_lt.mpr (old x held same number))

theorem execDatagramReceived_taken {d : Datagram} {l : Lan} {s : State} (fitted : s.unit.variant.ethernet = true)
    (powered : s.power.state.powered = true) (held : s.net.lans[d.lan]? = some l) (up : l.down = false)
    (vlan : d.vlanTagged = false) (options : d.options = false) (fragment : d.fragment = false) (port : d.port = 47217)
    (sum : d.checksumOk = true) (whole : d.data.length % 64 = 0) (short : d.data.length ≤ 1280) (some' : d.data ≠ [])
    (new : ∀ x ∈ s.net.seen, x.1 = d.source → x.2.1 = d.prpSeq → x.2.2 + 400000 ≤ s.opUs)
    (fits : s.net.buffer.length + d.data.length / 64 ≤ 4096) :
    ∃ t, exec (.datagramReceived d) s = .next t ∧
      t.net.buffer = s.net.buffer ++ (telegramsOf d.data).map (fun b => ⟨8 + d.lan, b, s.opUs, false⟩) ∧
      t.net.lans = s.net.lans.set d.lan { l with lastUs := s.opUs, received := l.received + 1 } ∧
      t.net.nodes = s.net.nodes ∧ t.net.accepted = s.net.accepted ∧
      t = { s with net := t.net, hi := mirrorOf s t } := by
  have heard : l.heard s.opUs = { l with lastUs := s.opUs, received := l.received + 1 } := by rw [Lan.heard, ← up]
  have taken : s.datagram d = { s with net := { s.net with
      lans := s.net.lans.set d.lan (l.heard s.opUs)
      seen := (d.source, d.prpSeq, s.opUs) :: s.net.seen.filter (fun x => s.opUs < x.2.2 + 400000)
      buffer := s.net.buffer ++ (telegramsOf d.data).map (fun b => ⟨8 + d.lan, b, s.opUs, false⟩) } } := by
    have content : (d.data.length % 64 ≠ 0 || 1280 < d.data.length || d.data.isEmpty) = false := by
      simp [whole, short, some']
    simp only [State.datagram, State.lanHeard_up held up, vlan, options, fragment, port, sum, content, not_repeated new]
    exact foldl_toBuffer _ _ (by rw [telegramsOf_length]; exact fits)
  refine ⟨_, by simp only [exec, execDatagramReceived, fitted, powered, Bool.and_self, if_true]; rfl, ?_⟩
  rw [taken]
  simp only [State.settle_frame, heard]
  exact ⟨trivial, trivial, trivial, trivial, State.settle_eq _⟩

/-! ### The next telegram before the lanes -/

theorem upd_eq_self {α : Type} {l : List α} {f : α → α} (same : ∀ x ∈ l, f x = x) (i : Nat) : upd l i f = l := by
  refine List.ext_getElem? fun j => ?_
  rw [upd, List.getElem?_modify]
  cases held : l[j]? with
  | none => rfl
  | some x =>
    have fixed := same x (List.mem_of_getElem? held)
    by_cases here : i = j <;> simp [here, fixed]

theorem State.drainPort_quiet {s : State} (quiet : CanQuiet s) (k : Nat) : s.drainPort k = s := by
  have empty : (s.port k).q0 = [] ∧ (s.port k).q1 = [] := by
    by_cases inRange : k < s.can.length
    · rw [State.port, List.getD_eq_getElem _ _ inRange]
      exact quiet _ (List.getElem_mem inRange)
    · rw [State.port, List.getD_eq_default _ _ (Nat.le_of_not_lt inRange)]
      exact ⟨rfl, rfl⟩
  have same : upd s.can k (fun p => { p with q0 := [], q1 := [] }) = s.can := by
    refine upd_eq_self (fun p held => ?_) k
    cases p
    obtain ⟨first, second⟩ := quiet _ held
    cases first
    cases second
    rfl
  rw [State.drainPort, empty.1, empty.2]
  show s.modPort k _ = s
  rw [State.modPort, same]

theorem State.drainPorts_quiet {s : State} (quiet : CanQuiet s) : s.drainPorts = s := by
  have rest (l : List Nat) : l.foldl State.drainPort s = s := by
    induction l with
    | nil => rfl
    | cons k l ih => rw [List.foldl_cons, State.drainPort_quiet quiet, ih]
  exact rest _

/-- The state with the first telegram taken out of the buffer. -/
def State.tookTelegram (s : State) (l : List RxTelegram) : State := { s with net := { s.net with buffer := l } }

theorem State.checkNext_station {x : RxTelegram} {l : List RxTelegram} {s : State} (quiet : CanQuiet s)
    (data : s.station.isSome = true) (waiting : s.net.buffer = x :: l) (faultX faultY : Option Nat) :
    s.checkNext faultX faultY = (s.tookTelegram l).combined x (s.verdict x).2 (faultX.getD (s.verdict x).1)
      (faultY.getD (s.verdict x).1) := by
  have held : s.station.isNone = false := by rw [Option.isNone_eq_false_iff]; exact data
  simp only [State.checkNext, State.drainPorts_quiet quiet, waiting, held, Bool.false_eq_true, if_false]
  rfl

/-! ### Verdicts -/

theorem State.settle_nodeDyn (s : State) (id : Nat) : s.settle.nodeDyn id = s.nodeDyn id := by
  rw [State.nodeDyn, State.settle_eq, State.nodeDyn]

theorem NodeDyn.accepts_fields (d : NodeDyn) (x : RxTelegram) :
    (d.accepts x true).id = d.id ∧
    (d.accepts x true).accepted = saturate 32 (d.accepted + 1) ∧ (d.accepts x true).dropped = d.dropped := by
  have interval : (d.interval x.arrivalUs).accepted = d.accepted ∧ (d.interval x.arrivalUs).dropped = d.dropped ∧
      (d.interval x.arrivalUs).id = d.id := by
    unfold NodeDyn.interval
    split
    · dsimp only
      split <;> exact ⟨rfl, rfl, rfl⟩
    · exact ⟨rfl, rfl, rfl⟩
  obtain ⟨accepted, dropped, id⟩ := interval
  exact ⟨id, by rw [← accepted]; rfl, dropped⟩

theorem NodeDyn.accepts_id (d : NodeDyn) (x : RxTelegram) (run : Bool) : (d.accepts x run).id = d.id := by
  cases run
  · rfl
  · exact (d.accepts_fields x).1

/-- A telegram of known objects accepted in RUN over a crossing that is up (R124, R289). -/
theorem State.acceptTelegram_run {x : RxTelegram} {d : NodeDyn} {s : State} (run : s.power.state = .run)
    (up : (s.xing (descriptorPath x.port)).linkDown = false) (held : s.nodeDyn (tgSource x.data) = some d)
    (typed : tgType x.data ≠ 0) (known : ∀ r ∈ tgRecords x.data, ∃ o ∈ s.objectsOf (tgSource x.data), o.1 = r.1) :
    s.acceptTelegram x false false =
      { s with net := { s.net with
        laneCounts := (s.net.countLanes x.port false).laneCounts
        nodes := s.net.nodes.map (fun n => if n.id == tgSource x.data then n.accepts x true else n)
        accepted := s.net.accepted ++ [{
          node := tgSource x.data, kind := tgType x.data, cycle := tgCycle x.data, records := tgRecords x.data,
          arrivalUs := x.arrivalUs, acceptUs := s.opUs, priorRxUs := d.lastRxUs }] } } := by
  have named (r : Nat × Nat × Nat) (hr : r ∈ tgRecords x.data) :
      (s.objectsOf (tgSource x.data)).any (fun o => o.1 == r.1) = true := by
    obtain ⟨o, ho, same⟩ := known r hr
    exact List.any_eq_true.mpr ⟨o, ho, by rw [same, beq_self_eq_true]⟩
  have unnamed : (tgRecords x.data).filter (fun r => !(s.objectsOf (tgSource x.data)).any (fun o => o.1 == r.1)) = [] :=
    List.filter_eq_nil_iff.mpr fun r hr => by rw [named r hr]; decide
  have all : (tgRecords x.data).filter (fun r => (s.objectsOf (tgSource x.data)).any (fun o => o.1 == r.1)) =
      tgRecords x.data := List.filter_eq_self.mpr named
  have inRun : s.inRun = true := by rw [State.inRun, run]; rfl
  simp only [State.acceptTelegram, up, inRun, Bool.not_false, Bool.and_self, if_true, Bool.false_eq_true, if_false, typed,
    unnamed, all, List.foldl_nil, held, Option.bind_some]
  rfl

theorem execTelegramCheck_powered {x : RxTelegram} {l : List RxTelegram} {s : State}
    (powered : s.power.state.powered = true) (data : s.station.isSome = true) (quiet : CanQuiet s)
    (waiting : s.net.buffer = x :: l) (faultX faultY : Option Nat) :
    exec (.telegramCheck faultX faultY) s = .next ((s.tookTelegram l).combined x (s.verdict x).2
      (faultX.getD (s.verdict x).1) (faultY.getD (s.verdict x).1)).settle := by
  simp only [exec, execTelegramCheck, powered, if_true, State.checkNext_station quiet data waiting]

theorem execTelegramCheck_accepted {x : RxTelegram} {l : List RxTelegram} {d : NodeDyn} {s : State}
    (run : s.power.state = .run) (data : s.station.isSome = true) (quiet : CanQuiet s) (waiting : s.net.buffer = x :: l)
    (verdict : s.verdict x = (0, .accept false false)) (up : (s.xing (descriptorPath x.port)).linkDown = false)
    (held : s.nodeDyn (tgSource x.data) = some d) (typed : tgType x.data ≠ 0)
    (known : ∀ r ∈ tgRecords x.data, ∃ o ∈ s.objectsOf (tgSource x.data), o.1 = r.1) :
    ∃ t d', exec (.telegramCheck none none) s = .next t ∧ t.nodeDyn (tgSource x.data) = some d' ∧
      d'.reference = some (tgEpoch x.data, tgAlive x.data) ∧ d'.candidate = none ∧ d'.resync = none ∧
      d'.lastRxUs = some x.arrivalUs ∧ d'.accepted = saturate 32 (d.accepted + 1) ∧ d'.dropped = d.dropped ∧
      t.net.accepted = s.net.accepted ++ [{
        node := tgSource x.data, kind := tgType x.data, cycle := tgCycle x.data, records := tgRecords x.data,
        arrivalUs := x.arrivalUs, acceptUs := s.opUs, priorRxUs := d.lastRxUs }] ∧ t.net.buffer = l ∧
          t.recorder = s.recorder ∧
      t = { s with net := t.net, hi := mirrorOf s t } := by
  have powered : s.power.state.powered = true := by rw [run]; rfl
  have accepted : (s.tookTelegram l).combined x (s.verdict x).2 (s.verdict x).1 (s.verdict x).1 =
      (s.tookTelegram l).acceptTelegram x false false := by
    simp only [verdict, State.combined]
    rfl
  obtain ⟨-, count, dropped⟩ := d.accepts_fields x
  rw [execTelegramCheck_powered powered data quiet waiting]
  simp only [Option.getD_none]
  rw [accepted, State.acceptTelegram_run (s := s.tookTelegram l) run up held typed known]
  refine ⟨_, d.accepts x true, rfl, ?_, rfl, rfl, rfl, rfl, count, dropped, ?_⟩
  · rw [State.settle_nodeDyn, ← State.modNode_nodeDyn_same (fun d => d.accepts_id x true) held]
    rfl
  · simp only [State.settle_frame]
    exact ⟨rfl, rfl, rfl, State.settle_eq _⟩

theorem execTelegramCheck_codeFail {x : RxTelegram} {l : List RxTelegram} {d : NodeDyn} {z : SeqStep} {s : State}
    (powered : s.power.state.powered = true) (data : s.station.isSome = true) (quiet : CanQuiet s)
    (waiting : s.net.buffer = x :: l) (verdict : s.verdict x = (5, z)) (held : s.nodeDyn (tgSource x.data) = some d) :
    ∃ t, exec (.telegramCheck none none) s = .next t ∧
      t.nodeDyn (tgSource x.data) = some { d with codeFail := saturate 16 (d.codeFail + 1) } ∧
      t.net.accepted = s.net.accepted ∧ t.net.buffer = l ∧ Recorded s t 0x5001 (tgSource x.data) 5 1 ∧
      t = { s with net := t.net, recorder := t.recorder, hi := mirrorOf s t } := by
  have failed : (s.tookTelegram l).combined x (s.verdict x).2 (s.verdict x).1 (s.verdict x).1 =
      ((s.tookTelegram l).modNode (tgSource x.data) (fun d => d.count 5)).discarded (tgSource x.data) 5 := by
    simp only [verdict, State.combined]
    rfl
  rw [execTelegramCheck_powered powered data quiet waiting]
  simp only [Option.getD_none]
  rw [failed]
  refine ⟨_, rfl, ?_, ?_⟩
  · have count : d.count 5 = { d with codeFail := saturate 16 (d.codeFail + 1) } := rfl
    rw [State.settle_nodeDyn, ← count]
    exact State.modNode_nodeDyn_same (f := fun d => d.count 5) (fun _ => rfl) (s := s.tookTelegram l) held
  · simp only [State.settle_frame]
    exact ⟨rfl, rfl, recorded_settle (State.event_recorded rfl rfl rfl ..), State.settle_eq _⟩

theorem execTelegramCheck_disagree {x : RxTelegram} {l : List RxTelegram} {y : Nat} {s : State}
    (powered : s.power.state.powered = true) (data : s.station.isSome = true) (quiet : CanQuiet s)
    (waiting : s.net.buffer = x :: l) (differ : y ≠ (s.verdict x).1)
    (few : (s.net.disagreements.filter (fun i => s.opUs < i + 1000000)).length < 16) :
    ∃ t, exec (.telegramCheck none (some y)) s = .next t ∧ t.net.accepted = s.net.accepted ∧
      t.net.buffer = l ∧ Recorded s t 0x5010 (tgSource x.data) (s.verdict x).1 y ∧
      t = { s with net := t.net, recorder := t.recorder, hi := mirrorOf s t } := by
  rw [execTelegramCheck_powered powered data quiet waiting]
  simp only [Option.getD_none, Option.getD_some]
  have not16 : ¬16 < ((s.tookTelegram l).net.disagreements.filter
      (fun i => (s.tookTelegram l).opUs < i + 1000000)).length + 1 := not_lt.mpr few
  have cond : (decide ((s.verdict x).1 ≠ y) || decide ((s.verdict x).1 = 14)) = true := by simp [differ.symm]
  simp only [State.combined, cond, if_true, not16, if_false]
  refine ⟨_, rfl, ?_⟩
  simp only [State.settle_frame]
  exact ⟨rfl, rfl, recorded_settle (State.event_recorded rfl rfl rfl ..), State.settle_eq _⟩

theorem execLanDown_silent {k : Nat} {l : Lan} {s : State} (fitted : s.unit.variant.ethernet = true)
    (powered : s.power.state.powered = true) (held : s.net.lans[k]? = some l) (up : l.down = false)
    (silent : l.lastUs + 6000000 ≤ s.opUs) :
    ∃ t, exec (.lanDown k) s = .next t ∧
      t.net = { s.net with lans := s.net.lans.set k { l with down := true } } ∧ Recorded s t 0x5040 k 1 0 ∧
      t = { s with net := t.net, recorder := t.recorder, hi := mirrorOf s t } := by
  have at_ : s.net.lans.getD k {} = l := by rw [List.getD_eq_getElem?_getD, held, Option.getD_some]
  refine ⟨_, by simp only [exec, execLanDown, at_, fitted, powered, up, silent, Bool.not_false, Bool.and_self,
    decide_true, if_true]; rfl, ?_⟩
  rw [upd_eq_set held]
  simp only [State.settle_frame]
  exact ⟨rfl, recorded_settle (State.event_recorded rfl rfl rfl ..), State.settle_eq _⟩

end Sys2Proof.Machine
end

section
/-! PROOF. The statement about datagrams, the check unit's verdicts and a silent LAN. -/

namespace Sys2Proof.Proofs

open Sys2Proof Sys2Proof.Machine Sys2Proof.Safety

/-- Settles O47: a datagram of telegrams, a telegram accepted, one with a wrong safety code, one the lanes disagree on,
and a silent LAN. -/
theorem telegramsChecked : Obligations.TelegramsChecked := by
  unfold Obligations.TelegramsChecked
  refine ⟨?datagram, ?accepted, ?codeFail, ?disagree, ?silent⟩
  case datagram =>
    intro d l s fitted powered held up vlan options fragment port sum whole short content new fits
    exact execDatagramReceived_taken fitted powered held up vlan options fragment port sum whole short content new fits
  case accepted =>
    intro x l d s run data quiet waiting verdict up held typed known
    exact execTelegramCheck_accepted run data quiet waiting verdict up held typed known
  case codeFail =>
    intro x l d z s powered data quiet waiting verdict held
    exact execTelegramCheck_codeFail powered data quiet waiting verdict held
  case disagree =>
    intro x l y s powered data quiet waiting differ few
    exact execTelegramCheck_disagree powered data quiet waiting differ few
  case silent =>
    intro k l s fitted powered held up silent
    exact execLanDown_silent fitted powered held up silent

end Sys2Proof.Proofs
end

section
/-! PROOF. Logins, logouts and the ends of sessions and locks (R325, R348). -/

namespace Sys2Proof.Machine

open Sys2Proof Sys2Proof.Safety

/-! ### A new session ID -/

theorem word_add_injective (draw : Word) {a b : Nat} (ha : a < 2 ^ 32) (hb : b < 2 ^ 32)
    (same : draw + word a = draw + word b) : a = b := by
  have words := congrArg BitVec.toNat (add_left_cancel same)
  simpa only [word, BitVec.toNat_ofNat, Nat.mod_eq_of_lt ha, Nat.mod_eq_of_lt hb] using words

/-- While fewer IDs are used than there are, the one that the generator gives is none of them and not 0: one of the words
that it tries is free, since there are more of them than taken ones (R348). -/
theorem sessionId_new (draw : Word) {used : List Word} (few : used.length + 2 ≤ 2 ^ 32) :
    sessionId draw used ≠ 0 ∧ sessionId draw used ∉ used := by
  let tries := (List.range (used.length + 2)).map (fun k => draw + word k)
  have distinct : tries.Nodup := by
    refine List.Nodup.map_on (fun a ha b hb same => ?_) List.nodup_range
    rw [List.mem_range] at ha hb
    exact word_add_injective draw (by omega) (by omega) same
  have found : (tries.find? (fun w => w != 0 && !used.contains w)).isSome = true := by
    by_contra none
    rw [List.find?_isSome] at none
    have taken : tries ⊆ 0 :: used := fun w tried => by
      by_contra free
      rw [List.mem_cons, not_or] at free
      exact none ⟨w, tried, by simpa using free⟩
    have length := (distinct.subperm taken).length_le
    simp only [tries, List.length_map, List.length_range, List.length_cons] at length
    omega
  obtain ⟨w, hw⟩ := Option.isSome_iff_exists.mp found
  have free := List.find?_some hw
  rw [show sessionId draw used = w by rw [sessionId, hw, Option.getD_some]]
  simpa using free

/-! ### What the named session's life changes -/

theorem State.heard_liveSessions (s : State) (q : Req) (via : Transport) :
    ((s.heard q).liveSessions via).length = (s.liveSessions via).length := by
  simp only [State.liveSessions, State.heard, List.filter_map, List.length_map]
  congr 2
  funext x
  simp only [Function.comp]
  split
  next named =>
    simp only [Bool.and_eq_true, decide_eq_true_eq] at named
    have live : s.opUs < s.opUs + 1800000000 := by omega
    simp only [live, named.2]
  next => rfl

theorem State.mem_heard_of_not_named {s : State} {q : Req} {x : Session} (held : x ∈ s.mg.sessions)
    (other : ¬(x.id = q.session ∧ x.via = q.via)) : x ∈ (s.heard q).mg.sessions := by
  refine List.mem_map.mpr ⟨x, held, if_neg fun named => other ?_⟩
  simp only [Bool.and_eq_true, beq_iff_eq] at named
  exact named.1

/-! ### Acceptance -/

/-- A command of group 8 that needs no role, outside START and the shutdown test and before RETIRED (R331). -/
structure AnyoneAsks (s : State) : Prop where
  live : s.mailboxLive = true
  started : s.power.state ≠ .start
  runs : s.power.state ≠ .shutdownTest
  life : s.lifecycle ≠ 5

namespace AnyoneAsks

variable {s : State}

theorem openTo (h : AnyoneAsks s) {op : Nat} (group : opGroup op = 8) : s.openTo op = true := by
  simp [State.openTo, h.started, h.runs, h.life, group]

theorem accepted (h : AnyoneAsks s) {q : Req} {op : Nat} (group : opGroup op = 8) {ok : Bool} (params : ok = true)
    (k : State → State) : s.clCommand q op (s.judge q op false true none false ok) k = k (s.heard q) :=
  State.clCommand_accepted h.live (State.judge_eq_none.mpr ⟨rfl, h.openTo group, rfl, rfl, fun code => absurd code Bool.false_ne_true, params⟩) k

end AnyoneAsks

theorem Security.login_setLogin (c : Security) (r : Role) (x : LoginState) : (c.setLogin r x).login r = x := by
  cases r <;> rfl

theorem Security.login_setLogin_of_ne (c : Security) {r r' : Role} (other : r' ≠ r) (x : LoginState) :
    (c.setLogin r x).login r' = c.login r' := by
  cases r <;> cases r' <;> first | rfl | exact absurd rfl other

theorem State.acknowledge_login (s : State) (r : Role) : s.acknowledge.sec.login r = s.sec.login r := by
  unfold State.acknowledge
  dsimp only
  split
  · rfl
  · cases r <;> rfl

theorem State.acknowledge_answeredOnly {s u : State} (only : AnsweredOnly s u) : AnsweredOnly s u.acknowledge := by
  unfold State.acknowledge
  dsimp only
  split
  · exact only
  · unfold AnsweredOnly at *
    rw [only]
    rfl

theorem State.acknowledge_inboxKept (s : State) : InboxKept s s.acknowledge := by
  unfold State.acknowledge
  dsimp only
  split
  · exact .refl _
  · exact ((InboxKept.refl s).framed rfl).event ..

/-! ### ROLE_LOGIN -/

/-- The code of a transport in the record of a login (R348). -/
def viaCode : Transport → Nat
  | .pcie => 0
  | .x8 => 1

/-- A session opened, before its record and the acknowledgements (R348). -/
def State.sessionOpened (s : State) (q : Req) (r : Role) : State :=
  { s with
    draws := s.draws + 1
    sec := s.sec.setLogin r {}
    mg := { s.mg with
      usedIds := sessionId (Config.sessionDraw s.draws) s.mg.usedIds :: s.mg.usedIds
      sessions := s.mg.sessions ++ [Session.mk (sessionId (Config.sessionDraw s.draws) s.mg.usedIds) q.via r s.opUs] } }

theorem State.sessionOpened_answeredOnly (s : State) (q : Req) (r : Role) (code : Nat) (src : Source) (sev : Severity)
    (a b c : Nat) (x : Bool) : AnsweredOnly s (((s.heard q).sessionOpened q r).event code src sev a b c x) := rfl

/-- The record of the login and the indications that it acknowledges (R348, R386). -/
def State.loginTold (s : State) (q : Req) (r : Role) : State :=
  ((s.sessionOpened q r).event 0x9012 .cl .info r.code (viaCode q.via)
    (sessionId (Config.sessionDraw s.draws) s.mg.usedIds).toNat).acknowledge

theorem State.openSession_eq (s : State) (q : Req) (r : Role) :
    s.openSession q r = (s.loginTold q r).complete 0x0801 q .ok
      (sessionId (Config.sessionDraw s.draws) s.mg.usedIds).toNat := rfl

theorem State.decideRoleLogin_opens {q : Req} {p : Password} {s : State} (asks : AnyoneAsks s)
    (form : loginForm q.payload = true) (unlocked : s.lockLeft (roleIn q.payload) = 0)
    (stored : s.sec.password (roleIn q.payload) = some p) (right : storedPassword (passwordOf q.payload) p.salt = p)
    (few : (s.liveSessions q.via).length < 8) :
    s.decideRoleLogin q = (s.heard q).openSession q (roleIn q.payload) := by
  have matched : ((s.heard q).sec.password (roleIn q.payload)).any
      (fun p => storedPassword (passwordOf q.payload) p.salt == p) = true := by
    show (s.sec.password (roleIn q.payload)).any _ = true
    rw [stored, Option.any_some, right, beq_self_eq_true]
  have free : ¬8 ≤ ((s.heard q).liveSessions q.via).length := by rw [State.heard_liveSessions]; omega
  have open' : ¬(s.heard q).lockLeft (roleIn q.payload) ≠ 0 := not_not.mpr unlocked
  rw [State.decideRoleLogin, asks.accepted rfl form]
  simp only [if_neg open', if_pos matched, if_neg free]

theorem State.decideRoleLogin_fails {q : Req} {s : State} (asks : AnyoneAsks s)
    (form : loginForm q.payload = true) (unlocked : s.lockLeft (roleIn q.payload) = 0)
    (wrong : ∀ p, s.sec.password (roleIn q.payload) = some p → storedPassword (passwordOf q.payload) p.salt ≠ p) :
    s.decideRoleLogin q = (s.heard q).loginFails q (roleIn q.payload) := by
  have unmatched : ¬((s.heard q).sec.password (roleIn q.payload)).any
      (fun p => storedPassword (passwordOf q.payload) p.salt == p) = true := by
    show ¬(s.sec.password (roleIn q.payload)).any _ = true
    cases stored : s.sec.password (roleIn q.payload) with
    | none => simp
    | some p => simpa using wrong p stored
  have open' : ¬(s.heard q).lockLeft (roleIn q.payload) ≠ 0 := not_not.mpr unlocked
  rw [State.decideRoleLogin, asks.accepted rfl form]
  simp only [if_neg open', if_neg unmatched]

theorem execRoleLogin_opens {q : Req} {p : Password} {s : State} (asks : AnyoneAsks s)
    (form : loginForm q.payload = true) (unlocked : s.lockLeft (roleIn q.payload) = 0)
    (stored : s.sec.password (roleIn q.payload) = some p) (right : storedPassword (passwordOf q.payload) p.salt = p)
    (few : (s.liveSessions q.via).length < 8) (ids : s.mg.usedIds.length + 2 ≤ 2 ^ 32) :
    ∃ t x, exec (.roleLogin q) s = .next t ∧ t.mg.sessions = (s.heard q).mg.sessions ++ [x] ∧ x.via = q.via ∧
      x.role = roleIn q.payload ∧ x.lastUs = s.opUs ∧ x.id ≠ 0 ∧ x.id ∉ s.mg.usedIds ∧ x.id ∈ t.mg.usedIds ∧
      t.sec.login (roleIn q.payload) = {} ∧
      FirstReport s t 0x9012 (roleIn q.payload).code (if q.via = .pcie then 0 else 1) x.id.toNat ∧ AnsweredOnly s t := by
  obtain ⟨nonzero, fresh⟩ := sessionId_new (Config.sessionDraw s.draws) ids
  have code : viaCode q.via = if q.via = .pcie then 0 else 1 := by cases q.via <;> rfl
  have told : FirstReport s ((s.heard q).loginTold q (roleIn q.payload)) 0x9012 (roleIn q.payload).code
      (if q.via = .pcie then 0 else 1) (sessionId (Config.sessionDraw s.draws) s.mg.usedIds).toNat := by
    rw [← code]
    exact firstReport_of_inboxKept (u := (s.heard q).sessionOpened q (roleIn q.payload)) rfl
      (State.acknowledge_inboxKept _)
  refine ⟨(s.decideRoleLogin q).settle,
    ⟨sessionId (Config.sessionDraw s.draws) s.mg.usedIds, q.via, roleIn q.payload, s.opUs⟩, rfl, ?_⟩
  rw [State.decideRoleLogin_opens asks form unlocked stored right few, State.openSession_eq]
  have only : AnsweredOnly s ((s.heard q).loginTold q (roleIn q.payload)) :=
    State.acknowledge_answeredOnly (s.sessionOpened_answeredOnly ..)
  refine ⟨?_, rfl, rfl, rfl, nonzero, fresh, ?_, ?_, ?_, answeredOnly_complete only ..⟩
  · simp only [State.settle_frame, State.complete_mg_frame, State.loginTold, State.acknowledge_frame]
    rfl
  · simp only [State.settle_frame, State.complete_mg_frame, State.loginTold, State.acknowledge_frame]
    exact List.mem_cons_self
  · simp only [State.settle_frame, State.complete_frame, State.loginTold, State.acknowledge_login]
    exact Security.login_setLogin ..
  · simpa only [FirstReport, State.settle_frame, State.complete_frame] using told

/-! ### A wrong password -/

/-- A failed login recorded and counted; the fifth in a row locks the role (R348). -/
def State.failureCounted (s : State) (r : Role) : State :=
  let s1 := s.event 0x9010 .cl .info r.code
  if (s.sec.login r).failures + 1 < 5 then
    { s1 with sec := s1.sec.setLogin r { failures := (s.sec.login r).failures + 1 } }
  else
    ({ s1 with sec := s1.sec.setLogin r { lockedUntil := some (s.opUs + 900000000) } } : State).event 0x9011 .cl .info
      r.code

theorem State.loginFails_eq (s : State) (q : Req) (r : Role) :
    s.loginFails q r = (s.failureCounted r).complete 0x0801 q .deniedAuth := by
  simp only [State.loginFails, State.failureCounted]
  split <;> rfl

theorem State.failureCounted_few {s : State} {r : Role} (few : (s.sec.login r).failures < 4) :
    s.failureCounted r = { s.event 0x9010 .cl .info r.code with
      sec := s.sec.setLogin r { failures := (s.sec.login r).failures + 1 } } :=
  if_pos (by omega)

theorem State.failureCounted_fifth {s : State} {r : Role} (many : 4 ≤ (s.sec.login r).failures) :
    s.failureCounted r = ({ s.event 0x9010 .cl .info r.code with
      sec := s.sec.setLogin r { lockedUntil := some (s.opUs + 900000000) } } : State).event 0x9011 .cl .info r.code :=
  if_neg (by omega)

theorem State.failureCounted_inboxKept (s : State) (r : Role) :
    InboxKept (s.event 0x9010 .cl .info r.code) (s.failureCounted r) := by
  rcases Nat.lt_or_ge (s.sec.login r).failures 4 with few | many
  · rw [State.failureCounted_few few]
    exact (InboxKept.refl _).framed rfl
  · rw [State.failureCounted_fifth many]
    exact ((InboxKept.refl _).framed rfl).event ..

theorem State.failureCounted_answeredOnly {s u : State} (only : AnsweredOnly s u) (r : Role) :
    AnsweredOnly s (u.failureCounted r) := by
  rcases Nat.lt_or_ge (u.sec.login r).failures 4 with few | many
  · rw [State.failureCounted_few few]
    unfold AnsweredOnly at *
    rw [only]
    rfl
  · rw [State.failureCounted_fifth many]
    unfold AnsweredOnly at *
    rw [only]
    rfl

theorem execRoleLogin_fails {q : Req} {s : State} (asks : AnyoneAsks s)
    (form : loginForm q.payload = true) (unlocked : s.lockLeft (roleIn q.payload) = 0)
    (wrong : ∀ p, s.sec.password (roleIn q.payload) = some p → storedPassword (passwordOf q.payload) p.salt ≠ p) :
    ∃ t, exec (.roleLogin q) s = .next t ∧ t.mg.sessions = (s.heard q).mg.sessions ∧
      FirstReport s t 0x9010 (roleIn q.payload).code 0 0 ∧
      ((s.sec.login (roleIn q.payload)).failures < 4 →
        t.sec.login (roleIn q.payload) = { failures := (s.sec.login (roleIn q.payload)).failures + 1 }) ∧
      (4 ≤ (s.sec.login (roleIn q.payload)).failures →
        t.sec.login (roleIn q.payload) = { lockedUntil := some (s.opUs + 900000000) } ∧
        LastReport t 0x9011 (roleIn q.payload).code 0 0) ∧ AnsweredOnly s t := by
  generalize role : roleIn q.payload = r at *
  have told : FirstReport s ((s.heard q).failureCounted r) 0x9010 r.code 0 0 :=
    firstReport_of_inboxKept rfl ((s.heard q).failureCounted_inboxKept r)
  have only : AnsweredOnly s ((s.heard q).failureCounted r) := State.failureCounted_answeredOnly (show AnsweredOnly s (s.heard q) from rfl) r
  refine ⟨(s.decideRoleLogin q).settle, rfl, ?_⟩
  rw [State.decideRoleLogin_fails asks form (role ▸ unlocked) (role ▸ wrong), State.loginFails_eq, role]
  refine ⟨?_, ?_, fun few => ?_, fun many => ?_, answeredOnly_complete only ..⟩
  · rcases Nat.lt_or_ge (s.sec.login r).failures 4 with few | many
    · rw [State.failureCounted_few (s := s.heard q) few]
      simp only [State.settle_frame, State.complete_mg_frame]
      rfl
    · rw [State.failureCounted_fifth (s := s.heard q) many]
      simp only [State.settle_frame, State.complete_mg_frame]
      rfl
  · simpa only [FirstReport, State.settle_frame, State.complete_frame] using told
  · simp only [State.settle_frame, State.complete_frame]
    rw [State.failureCounted_few (s := s.heard q) few]
    exact Security.login_setLogin ..
  · refine ⟨?_, lastReport_complete ?_ ..⟩
    · simp only [State.settle_frame, State.complete_frame]
      rw [State.failureCounted_fifth (s := s.heard q) many]
      exact Security.login_setLogin ..
    · rw [State.failureCounted_fifth (s := s.heard q) many]
      exact State.event_lastReport ..

/-! ### The ends of sessions and locks -/

theorem execRoleLogout_ends {q : Req} {s : State} (asks : AnyoneAsks s) :
    ∃ t u : State, exec (.roleLogout q) s = .next t ∧ t = (u.complete 0x0802 q .ok).settle ∧
      u = { s with mg := { s.mg with sessions := u.mg.sessions } } ∧
      (∀ x ∈ u.mg.sessions, ¬(x.id = q.session ∧ x.via = q.via)) ∧
      ∀ x ∈ s.mg.sessions, ¬(x.id = q.session ∧ x.via = q.via) → x ∈ u.mg.sessions := by
  let u : State := { s.heard q with mg := { (s.heard q).mg with
    sessions := (s.heard q).mg.sessions.filter (fun x => !(x.id == q.session && x.via == q.via)) } }
  have named (x : Session) : (x.id == q.session && x.via == q.via) = decide (x.id = q.session ∧ x.via = q.via) := by
    rw [Bool.decide_and]
    rfl
  refine ⟨_, u, ?_, rfl, rfl, fun x left => ?_, fun x held other => List.mem_filter.mpr ⟨?_, ?_⟩⟩
  · simp only [exec, execRoleLogout, State.decideRoleLogout]
    rw [asks.accepted rfl rfl]
  · simpa only [named, Bool.not_eq_true', decide_eq_false_iff_not] using (List.mem_filter.mp left).2
  · exact State.mem_heard_of_not_named held other
  · simpa only [named, Bool.not_eq_true', decide_eq_false_iff_not] using other

theorem execSessionExpiry_ends (w : Word) (s : State) :
    ∃ t, exec (.sessionExpiry w) s = .next t ∧
      (∀ x, x ∈ t.mg.sessions ↔ x ∈ s.mg.sessions ∧ ¬(x.id = w ∧ x.lastUs + 1800000000 ≤ s.opUs)) ∧
      t = { s with mg := { s.mg with sessions := t.mg.sessions }, hi := mirrorOf s t } := by
  refine ⟨_, rfl, fun x => ?_, ?_⟩
  · have ended : (x.id == w && decide (x.lastUs + 1800000000 ≤ s.opUs)) =
        decide (x.id = w ∧ x.lastUs + 1800000000 ≤ s.opUs) := by rw [Bool.decide_and]; rfl
    simp only [State.settle_frame, List.mem_filter, ended, Bool.not_eq_true', decide_eq_false_iff_not]
  · simp only [State.settle_frame]
    exact State.settle_eq _

theorem execRoleLockExpiry_ends {r : Role} {e : Nat} {s : State} (locked : (s.sec.login r).lockedUntil = some e)
    (due : e ≤ s.opUs) :
    ∃ t, exec (.roleLockExpiry r) s = .next t ∧ (t.sec.login r).lockedUntil = none ∧
      (t.sec.login r).failures = (s.sec.login r).failures ∧ (∀ r', r' ≠ r → t.sec.login r' = s.sec.login r') ∧
      t = { s with sec := t.sec, hi := mirrorOf s t } := by
  refine ⟨_, by simp only [exec, execRoleLockExpiry, locked, Option.any_some, due, decide_true, if_true]; rfl, ?_⟩
  simp only [State.settle_frame, Security.login_setLogin]
  exact ⟨trivial, trivial, fun r' other => Security.login_setLogin_of_ne _ other _, State.settle_eq _⟩

end Sys2Proof.Machine
end

section
/-! PROOF. The statement about roles and sessions. -/

namespace Sys2Proof.Proofs

open Sys2Proof Sys2Proof.Machine Sys2Proof.Safety

/-- Settles O57: a login with the right and with a wrong password, a logout, the end of a silent session and of a lock.
That a role without a stored password counts as a failure, that the password is checked before the number of sessions, and
that the count starts again after a lock are the model's choice (log entry 61). -/
theorem rolesAndSessions : Obligations.RolesAndSessions := by
  unfold Obligations.RolesAndSessions
  refine ⟨?right, ?wrong, ?logout, ?expiry, ?lockEnds⟩
  case right =>
    rintro q r p s live started runs life form rfl unlocked stored right few ids
    exact execRoleLogin_opens ⟨live, started, runs, life⟩ form unlocked stored right few ids
  case wrong =>
    rintro q r s live started runs life form rfl unlocked wrong
    exact execRoleLogin_fails ⟨live, started, runs, life⟩ form unlocked wrong
  case logout =>
    intro q s live started runs life
    exact execRoleLogout_ends ⟨live, started, runs, life⟩
  case expiry =>
    intro w s
    exact execSessionExpiry_ends w s
  case lockEnds =>
    intro r e s locked due
    exact execRoleLockExpiry_ends locked due

end Sys2Proof.Proofs
end

section
/-! PROOF. What the recorder writes: the ring, token buckets, summaries, withdrawn blocks and the end of a freeze. -/

namespace Sys2Proof.Machine

open Sys2Proof Sys2Proof.Safety

/-! ### The ring -/

theorem Recorder.append_room {c : Recorder} (room : c.ring.length < c.capacity) (r : Record) :
    c.append r = { c with ring := c.ring ++ [{ r with number := c.next }], next := c.next + 1 } := by
  rw [Recorder.append, if_neg (Nat.not_le.mpr room)]

/-- Records that fit are appended in their order, each with the next number. -/
theorem Recorder.foldl_append_room (l : List Record) {c : Recorder} (room : c.ring.length + l.length ≤ c.capacity) :
    ∃ tail : List Record, tail.length = l.length ∧
      l.foldl Recorder.append c = { c with ring := c.ring ++ tail, next := c.next + l.length } := by
  induction l generalizing c with
  | nil => exact ⟨[], rfl, by rw [List.append_nil]; rfl⟩
  | cons r l ih =>
    rw [List.length_cons] at room
    have one := Recorder.append_room (c := c) (by omega) r
    have rest : (c.append r).ring.length + l.length ≤ (c.append r).capacity := by
      rw [one]
      simp only [List.length_append, List.length_singleton]
      omega
    obtain ⟨tail, length, result⟩ := ih rest
    refine ⟨{ r with number := c.next } :: tail, by rw [List.length_cons, List.length_cons, length], ?_⟩
    rw [List.foldl_cons, result, one]
    simp only [List.append_assoc, List.singleton_append, List.length_cons, Nat.add_assoc, Nat.add_comm 1]

theorem State.store_room {s : State} (running : s.recorder.frozenUntil = none)
    (room : s.recorder.ring.length < s.recorder.capacity) (r : Record) :
    s.store r = { s with recorder := { s.recorder with
      ring := s.recorder.ring ++ [{ r with number := s.recorder.next }], next := s.recorder.next + 1 } } := by
  rw [State.store, running, Recorder.append_room room]
  rfl

theorem State.pass_plain {r : Record} (plain : r.code ≠ 0x5001) (s : State) : s.pass r = s.store r := if_neg plain

/-! ### Token buckets -/

theorem Recorder.bucket_setBucket (c : Recorder) (b : Bucket) (now : Nat) : (c.setBucket b).bucket b.code now = b := by
  simp [Recorder.bucket, Recorder.setBucket]

theorem Record.unlimited_of_severe {r : Record} (severe : 5 ≤ r.severity) : r.unlimited = true := by
  rw [Record.unlimited, Severity.code, decide_eq_true severe, Bool.true_or]

theorem Record.limited_of_mild {r : Record} (mild : r.severity < 5) (cls : classOf r.code < 15) : r.unlimited = false := by
  rw [Record.unlimited, Severity.code, decide_eq_false (by omega), Bool.false_or, beq_eq_false_iff_ne]
  omega

/-- On its own grid instant an unused bucket gains nothing (R362). -/
theorem Bucket.refill_now {b : Bucket} {now : Nat} (empty : b.tokens = 0) (given : b.given = 0) (grid : b.refillUs = now)
    (rate burst : Nat) : b.refill rate burst now = b := by
  cases b
  simp only at empty given grid
  subst empty given grid
  simp [Bucket.refill]

theorem State.refill_empty {s : State} {code : Nat} {b : Bucket} (held : s.recorder.bucket code s.opUs = b)
    (empty : b.tokens = 0) (given : b.given = 0) (grid : b.refillUs = s.opUs)
    (burst : (s.recorder.rateOf (classOf code)).2 ≠ 0) :
    s.refill code = { s with recorder := s.recorder.setBucket b } := by
  simp only [State.refill, held, Bucket.refill_now empty given grid, empty, if_neg burst.symm]

/-- A bucket that owes no summary is refilled and nothing else (R362, R363). -/
theorem State.refill_quiet {s : State} {b : Bucket} (held : s.recorder.bucket b.code s.opUs = b)
    (quiet : b.suppressed = 0) :
    s.refill b.code = { s with recorder := s.recorder.setBucket (b.refill (s.recorder.rateOf (classOf b.code)).1
      (s.recorder.rateOf (classOf b.code)).2 s.opUs) } := by
  simp only [State.refill, held]
  split
  · have again := s.recorder.bucket_setBucket (b.refill (s.recorder.rateOf (classOf b.code)).1
      (s.recorder.rateOf (classOf b.code)).2 s.opUs) s.opUs
    rw [show (b.refill _ _ _).code = b.code from rfl] at again
    rw [State.summarise, again]
    exact if_pos quiet
  · rfl

/-! ### Only the recorder -/

/-- What writing records may change: the recorder but for its blocks and its capacity, the discards not yet counted
(R304), and the staged count that the always-on island mirrors (R366). -/
def RecorderWork (s t : State) : Prop :=
  t.recorder.badBlocks = s.recorder.badBlocks ∧ t.recorder.capacity = s.recorder.capacity ∧
  t = { s with recorder := t.recorder, net := { s.net with counters := t.net.counters },
               rt := { s.rt with stagedMirror := t.rt.stagedMirror } }

namespace RecorderWork

variable {s t u : State}

theorem refl (s : State) : RecorderWork s s := ⟨rfl, rfl, rfl⟩

theorem trans (h : RecorderWork s t) (g : RecorderWork t u) : RecorderWork s u := by
  obtain ⟨bad, capacity, only⟩ := h
  obtain ⟨bad', capacity', only'⟩ := g
  refine ⟨bad'.trans bad, capacity'.trans capacity, ?_⟩
  rw [only', only]

theorem ite (c : Prop) [Decidable c] (ht : RecorderWork s t) (hu : RecorderWork s u) :
    RecorderWork s (if c then t else u) := by
  split <;> assumption

/-- A step that writes the recorder alone, and neither its blocks nor its capacity. -/
theorem write (h : RecorderWork s t) {c : Recorder} (bad : c.badBlocks = t.recorder.badBlocks)
    (capacity : c.capacity = t.recorder.capacity) : RecorderWork s { t with recorder := c } := h.trans ⟨bad, capacity, rfl⟩

theorem setBucket (h : RecorderWork s t) (b : Bucket) : RecorderWork s { t with recorder := t.recorder.setBucket b } :=
  h.write rfl rfl

theorem append (h : RecorderWork s t) (r : Record) : RecorderWork s { t with recorder := t.recorder.append r } :=
  h.write rfl rfl

theorem discards (h : RecorderWork s t) (node counter k : Nat) :
    RecorderWork s { t with net := t.net.setDiscards node counter k } := h.trans ⟨rfl, rfl, rfl⟩

theorem foldl_append (l : List Record) (c : Recorder) :
    (l.foldl Recorder.append c).badBlocks = c.badBlocks ∧ (l.foldl Recorder.append c).capacity = c.capacity := by
  induction l generalizing c with
  | nil => exact ⟨rfl, rfl⟩
  | cons r l ih => exact ih (c.append r)

theorem thaw (h : RecorderWork s t) : RecorderWork s t.thaw := by
  refine ite _ h (h.trans ?_)
  obtain ⟨bad, capacity⟩ := foldl_append t.recorder.staging t.recorder
  dsimp only
  split
  · exact ⟨bad, capacity, rfl⟩
  · exact ⟨bad, capacity, rfl⟩

theorem store (h : RecorderWork s t) (r : Record) : RecorderWork s (t.store r) :=
  ite _ (h.append r) (ite _ (h.thaw.append r) (ite _ (h.trans ⟨rfl, rfl, rfl⟩) (h.write rfl rfl)))

theorem summarise (h : RecorderWork s t) (code : Nat) : RecorderWork s (t.summarise code) :=
  ite _ h ((h.store _).setBucket _)

theorem refill (h : RecorderWork s t) (code : Nat) : RecorderWork s (t.refill code) :=
  ite _ ((h.setBucket _).summarise code) (h.setBucket _)

theorem pass (h : RecorderWork s t) (r : Record) : RecorderWork s (t.pass r) :=
  ite _ ((h.discards _ _ _).store _) (h.store r)

theorem suppress (h : RecorderWork s t) (r : Record) (b : Bucket) : RecorderWork s (t.suppress r b) :=
  ite _ ((h.setBucket _).discards _ _ _) (h.setBucket _)

theorem record (h : RecorderWork s t) (r : Record) : RecorderWork s (t.record r) :=
  ite _ (h.pass r) (ite _ ((h.refill _).suppress r _) (((h.refill _).setBucket _).pass r))

theorem writeNext (h : RecorderWork s t) : RecorderWork s t.writeNext := by
  unfold State.writeNext
  split
  · exact h
  · next r l _ => exact (h.write (c := { t.recorder with inbox := l }) rfl rfl).record r

end RecorderWork

/-! ### The rows -/

theorem execRecordWrite_alive {s : State} (alive : s.mg.alive = true) (powered : s.power.state.powered = true)
    (bad : Option Nat) : exec (.recordWrite bad) s = .next ((bad.elim s s.withdrawBlock).writeNext).settle := by
  simp only [exec, execRecordWrite, alive, powered, Bool.and_self, if_true]

theorem execRecordWrite_severe {r : Record} {l : List Record} {s : State} (alive : s.mg.alive = true)
    (powered : s.power.state.powered = true) (waiting : s.recorder.inbox = r :: l) (severe : 5 ≤ r.severity)
    (plain : r.code ≠ 0x5001) (running : s.recorder.frozenUntil = none)
    (room : s.recorder.ring.length < s.recorder.capacity) :
    ∃ t, exec (.recordWrite none) s = .next t ∧
      t.recorder = { s.recorder with
        inbox := l, ring := s.recorder.ring ++ [{ r with number := s.recorder.next }], next := s.recorder.next + 1 } ∧
      t = { s with recorder := t.recorder, hi := mirrorOf s t } := by
  have written : s.writeNext = { s with recorder := { s.recorder with
      inbox := l, ring := s.recorder.ring ++ [{ r with number := s.recorder.next }], next := s.recorder.next + 1 } } := by
    rw [State.writeNext, waiting]
    dsimp only
    rw [State.record, if_pos (Record.unlimited_of_severe severe), State.pass_plain plain]
    exact State.store_room (s := { s with recorder := { s.recorder with inbox := l } }) running room r
  refine ⟨_, execRecordWrite_alive alive powered none, ?_⟩
  rw [Option.elim_none, written]
  simp only [State.settle_frame]
  exact ⟨trivial, State.settle_eq _⟩

theorem execRecordWrite_withdraws {b : Nat} {s : State} (alive : s.mg.alive = true)
    (powered : s.power.state.powered = true) (good : b ∉ s.recorder.badBlocks) :
    ∃ t, exec (.recordWrite (some b)) s = .next t ∧ t.recorder.badBlocks = b :: s.recorder.badBlocks ∧
      t.recorder.capacity = s.recorder.capacity - 128 ∧ t.sec = { s.sec with pendNand := true } ∧
      t = { s with recorder := t.recorder, sec := t.sec, net := { s.net with counters := t.net.counters },
                   rt := { s.rt with stagedMirror := t.rt.stagedMirror }, hi := mirrorOf s t } := by
  have first : ¬s.recorder.badBlocks.contains b = true := by simpa using good
  have withdrawn : s.withdrawBlock b = ({ s with
      recorder := { s.recorder with badBlocks := b :: s.recorder.badBlocks, capacity := s.recorder.capacity - 128 }
      sec := { s.sec with pendNand := true } } : State).event Config.nandBadCode.toNat .nand .f0 := if_neg first
  obtain ⟨bad, capacity, only⟩ := (RecorderWork.refl (s.withdrawBlock b)).writeNext
  refine ⟨_, execRecordWrite_alive alive powered (some b), ?_⟩
  rw [Option.elim_some]
  generalize (s.withdrawBlock b).writeNext = t at *
  rw [withdrawn] at bad capacity only
  simp only [State.settle_frame]
  refine ⟨bad, capacity, by rw [only]; rfl, ?_⟩
  rw [State.settle_eq]
  generalize t.settle.hi = h
  rw [only]
  rfl

theorem execRecordWrite_suppresses {r : Record} {l : List Record} {b : Bucket} {s : State} (alive : s.mg.alive = true)
    (powered : s.power.state.powered = true) (waiting : s.recorder.inbox = r :: l) (mild : r.severity < 5)
    (cls : classOf r.code < 15) (plain : r.code ≠ 0x5001) (held : s.recorder.bucket r.code s.opUs = b)
    (own : b.code = r.code) (empty : b.tokens = 0) (given : b.given = 0) (grid : b.refillUs = s.opUs)
    (burst : (s.recorder.rateOf (classOf r.code)).2 ≠ 0) :
    ∃ t, exec (.recordWrite none) s = .next t ∧ t.recorder.inbox = l ∧ t.recorder.ring = s.recorder.ring ∧
      t.recorder.next = s.recorder.next ∧
      t.recorder.bucket r.code s.opUs = { b with
        suppressed := b.suppressed + 1, firstUs := some (b.firstUs.getD (r.opMs * 1000)) } ∧
      t = { s with recorder := t.recorder, hi := mirrorOf s t } := by
  let counted : Bucket := { b with
    suppressed := b.suppressed + 1, firstUs := some (b.firstUs.getD (r.opMs * 1000)) }
  have again : ({ s.recorder with inbox := l }.setBucket b).bucket r.code s.opUs = b := by
    rw [← own, Recorder.bucket_setBucket]
  have written : s.writeNext = { s with recorder := ({ s.recorder with inbox := l }.setBucket b).setBucket counted } := by
    rw [State.writeNext, waiting]
    dsimp only
    rw [State.record, if_neg (by rw [Record.limited_of_mild mild cls]; decide)]
    rw [State.refill_empty (s := { s with recorder := { s.recorder with inbox := l } }) held empty given grid burst]
    dsimp only
    rw [again, if_pos empty, State.suppress, if_neg plain]
  refine ⟨_, execRecordWrite_alive alive powered none, ?_⟩
  rw [Option.elim_none, written]
  simp only [State.settle_frame]
  refine ⟨rfl, rfl, rfl, ?_, State.settle_eq _⟩
  rw [← own]
  exact Recorder.bucket_setBucket _ counted _

theorem execTokenRefill_quiet {b : Bucket} {rate burst : Nat} {s : State} (alive : s.mg.alive = true)
    (met : b ∈ s.recorder.buckets) (held : s.recorder.bucket b.code s.opUs = b)
    (limits : s.recorder.rateOf (classOf b.code) = (rate, burst)) (quiet : b.suppressed = 0) :
    ∃ t, exec (.tokenRefill b.code) s = .next t ∧
      (t.recorder.bucket b.code s.opUs).tokens =
        Nat.min burst (b.tokens + ((s.opUs - b.refillUs) * rate / 1000000 - b.given)) ∧
      t = { s with recorder := { s.recorder with buckets := t.recorder.buckets }, hi := mirrorOf s t } := by
  have known : s.recorder.buckets.any (fun x => x.code == b.code) = true :=
    List.any_eq_true.mpr ⟨b, met, beq_self_eq_true _⟩
  refine ⟨(s.refill b.code).settle, by simp only [exec, execTokenRefill, alive, known, Bool.and_self, if_true], ?_⟩
  rw [State.refill_quiet held quiet, limits]
  simp only [State.settle_frame]
  refine ⟨?_, State.settle_eq _⟩
  exact congrArg Bucket.tokens (s.recorder.bucket_setBucket (b.refill rate burst s.opUs) s.opUs)

theorem execSuppressionSummaryTimer_due {b : Bucket} {first : Nat} {s : State} (alive : s.mg.alive = true)
    (held : s.recorder.bucket b.code s.opUs = b) (since : b.firstUs = some first) (due : first + 60000000 ≤ s.opUs)
    (counted : b.suppressed ≠ 0) (running : s.recorder.frozenUntil = none)
    (room : s.recorder.ring.length < s.recorder.capacity) :
    ∃ t r, exec (.suppressionSummaryTimer b.code) s = .next t ∧
      t.recorder.ring = s.recorder.ring ++ [r] ∧ r.code = 0xF001 ∧ r.p0 = word b.code ∧ r.p1 = word b.suppressed ∧
      r.number = s.recorder.next ∧ t.recorder.bucket b.code s.opUs = { b with suppressed := 0, firstUs := none } ∧
      t = { s with recorder := t.recorder, hi := mirrorOf s t } := by
  let r : Record :=
    { s.ownRecord 0xF001 b.code b.suppressed (b.firstUs.getD 0 / 1000) with number := s.recorder.next }
  let c : Recorder := { s.recorder with ring := s.recorder.ring ++ [r], next := s.recorder.next + 1 }
  have told : s.summarise b.code = { s with recorder := c.setBucket { b with suppressed := 0, firstUs := none } } := by
    simp only [State.summarise, held, if_neg counted, State.store_room running room]
    rfl
  have timed : (s.mg.alive && (s.recorder.bucket b.code s.opUs).firstUs.any (fun t => t + 60000000 ≤ s.opUs)) = true := by
    rw [alive, held, since, Option.any_some, decide_eq_true due, Bool.and_self]
  refine ⟨(s.summarise b.code).settle, r, ?_, ?_⟩
  · simp only [exec, execSuppressionSummaryTimer]
    rw [if_pos timed]
  · rw [told]
    simp only [State.settle_frame]
    refine ⟨rfl, rfl, rfl, rfl, rfl, ?_, State.settle_eq _⟩
    exact Recorder.bucket_setBucket _ { b with suppressed := 0, firstUs := none } _

theorem execEventFreezeExpiry_ends {e : Nat} {s : State} (alive : s.mg.alive = true)
    (frozen : s.recorder.frozenUntil = some e) (due : e ≤ s.opUs) (none_lost : s.recorder.lost = 0)
    (room : s.recorder.ring.length + s.recorder.staging.length ≤ s.recorder.capacity) :
    ∃ t, exec .eventFreezeExpiry s = .next t ∧ t.recorder.frozenUntil = none ∧ t.recorder.staging = [] ∧
      t.recorder.ring.length = s.recorder.ring.length + s.recorder.staging.length ∧
      t.recorder.ring.take s.recorder.ring.length = s.recorder.ring ∧
      t.recorder.next = s.recorder.next + s.recorder.staging.length ∧
      t = { s with recorder := t.recorder, rt := { s.rt with stagedMirror := 0 }, hi := mirrorOf s t } := by
  obtain ⟨tail, length, written⟩ := Recorder.foldl_append_room s.recorder.staging room
  refine ⟨s.thaw.settle, ?_, ?_⟩
  · simp only [exec, execEventFreezeExpiry, alive, frozen, Option.any_some, due, decide_true, Bool.and_self, if_true]
  · simp only [State.thaw, frozen, Option.isNone_some, Bool.false_eq_true, if_false, none_lost, if_true, written,
      State.settle_frame]
    refine ⟨trivial, trivial, by rw [List.length_append, length], List.take_left, trivial, State.settle_eq _⟩

end Sys2Proof.Machine
end

section
/-! PROOF. The statement about what the recorder writes. -/

namespace Sys2Proof.Proofs

open Sys2Proof Sys2Proof.Machine Sys2Proof.Safety

/-- Settles O51: a record written, a block withdrawn, a record suppressed, tokens refilled, a summary and the end of a
freeze. The code of the withdrawn block's record is the model's free value (log entry 91). -/
theorem recorderWrites : Obligations.RecorderWrites := by
  unfold Obligations.RecorderWrites
  refine ⟨?severe, ?withdraws, ?suppresses, ?refill, ?summary, ?freeze⟩
  case severe =>
    intro r l s alive powered waiting severe plain running room
    exact execRecordWrite_severe alive powered waiting severe plain running room
  case withdraws =>
    intro b s alive powered good
    exact execRecordWrite_withdraws alive powered good
  case suppresses =>
    intro r l b s alive powered waiting mild cls plain held own empty given grid burst
    exact execRecordWrite_suppresses alive powered waiting mild cls plain held own empty given grid burst
  case refill =>
    intro b rate burst s alive met held limits quiet
    exact execTokenRefill_quiet alive met held limits quiet
  case summary =>
    intro b first s alive held since due counted running room
    exact execSuppressionSummaryTimer_due alive held since due counted running room
  case freeze =>
    intro e s alive frozen due lost room
    exact execEventFreezeExpiry_ends alive frozen due lost room

end Sys2Proof.Proofs
end

section
/-! PROOF. How the management core and the cluster answer a query (R327, R329, R331). -/

namespace Sys2Proof.Machine

open Sys2Proof Sys2Proof.Safety

/-! ### Where a command is open -/

/-- The opcodes that every power state and life-cycle state leaves open (R331). -/
def alwaysOpen (op : Nat) : Bool :=
  [0x0001, 0x0002, 0x0003, 0x0005, 0x0601, 0x0602].contains op || opGroup op == 9 || opGroup op == 0x0A

theorem opGroup_of_alwaysOpen {op : Nat} (early : alwaysOpen op = true) :
    opGroup op = 0 ∨ opGroup op = 6 ∨ opGroup op = 9 ∨ opGroup op = 10 := by
  simp only [alwaysOpen, Bool.or_eq_true, List.contains_iff_mem, List.mem_cons, List.not_mem_nil, or_false,
    beq_iff_eq] at early
  unfold opGroup at *
  omega

theorem State.openTo_always (s : State) {op : Nat} (early : alwaysOpen op = true) : s.openTo op = true := by
  have listed : ([0x0001, 0x0002, 0x0003, 0x0005, 0x0601, 0x0602].contains op || opGroup op == 9 || opGroup op == 0x0A) = true :=
    early
  have group := opGroup_of_alwaysOpen early
  have notBench : (decide (1 ≤ opGroup op) && decide (opGroup op ≤ 5)) = false := by
    rw [← Bool.decide_and, decide_eq_false_iff_not]
    omega
  have not7 : (opGroup op == 7) = false := by rw [beq_eq_false_iff_ne]; omega
  have not8 : (opGroup op == 8) = false := by rw [beq_eq_false_iff_ne]; omega
  simp only [State.openTo, listed, notBench, not7, not8, Bool.false_and, Bool.or_self, Bool.not_false, ite_self,
    Bool.and_self, Bool.false_eq_true, if_false]

/-- Beyond START and the shutdown test only the bench and the states of RETIRED close an opcode (R331). -/
theorem State.openTo_settled {s : State} (settled : Settled s) {op : Nat} (other : 6 ≤ opGroup op) : s.openTo op = true := by
  obtain ⟨-, started, runs, life⟩ := settled
  have notBench : (decide (1 ≤ opGroup op) && decide (opGroup op ≤ 5)) = false := by
    rw [← Bool.decide_and, decide_eq_false_iff_not]
    omega
  simp [State.openTo, started, runs, life, notBench]

theorem State.openTo_changeLog {s : State} (started : s.power.state ≠ .start) (runs : s.power.state ≠ .shutdownTest) :
    s.openTo 0x0807 = true := by
  simp [State.openTo, opGroup, started, runs]

/-! ### Acceptance -/

theorem State.mgCommand_accepted {s : State} (answers : Answers s) {q : Req} {op : Nat} {v : Option Status} (judged : v = none)
    (k : State → State) : s.mgCommand q op v k = k (s.heard q) := by
  obtain ⟨live, alive⟩ := answers
  simp [State.mgCommand, live, alive, judged]

/-- A command of the management core that needs no role, answered where its opcode is open and its parameters hold. -/
theorem State.mgCommand_anyone {s : State} (answers : Answers s) {q : Req} {op : Nat} {absent stateOk ok : Bool}
    (opened : s.openTo op = true) (present : absent = false) (state : stateOk = true) (params : ok = true)
    (k : State → State) : s.mgCommand q op (s.judge q op absent stateOk none false ok) k = k (s.heard q) :=
  State.mgCommand_accepted answers
    (State.judge_eq_none.mpr ⟨present, opened, state, rfl, fun code => absurd code Bool.false_ne_true, params⟩) k

theorem State.plain_answers {s : State} (answers : Answers s) {op : Nat} (early : alwaysOpen op = true) (q : Req) (p0 : Nat)
    (data : List Byte) : s.plain op q p0 data = (s.heard q).answer op q .ok p0 0 data :=
  State.mgCommand_anyone answers (s.openTo_always early) rfl rfl rfl _

/-! ### Listings of units -/

theorem State.listUnits_answers {s : State} (answers : Answers s) {op : Nat} (early : alwaysOpen op = true) {q : Req}
    {all present : Nat} (fitted : q.p0 < present) (known : present ≤ all) (some' : 1 ≤ q.p1) (few : q.p1 ≤ all)
    (units : DiagCopy → List (List Byte)) :
    s.listUnits op q all present units =
      (s.heard q).answer op q .ok 0 0 (((units s.diagNow).drop q.p0).take q.p1).flatten := by
  have inside : q.p0 < all := by omega
  rw [State.listUnits]
  exact State.mgCommand_anyone answers (s.openTo_always early)
    (by rw [decide_eq_false (Nat.not_le.mpr fitted), Bool.and_false]) rfl
    (by rw [decide_eq_true inside, decide_eq_true some', decide_eq_true few]; rfl) _

theorem Variant.inputs_le (v : Variant) : v.inputs ≤ 64 := by cases v <;> decide
theorem Variant.outputs_le (v : Variant) : v.outputs ≤ 32 := by cases v <;> decide
theorem Variant.groups_le (v : Variant) : v.groups ≤ 4 := by cases v <;> decide
theorem Variant.canPorts_le (v : Variant) : v.canPorts ≤ 8 := by cases v <;> decide

section Answered

variable {s : State} {q : Req}

theorem execIdentify_answers (answers : Answers s) :
    exec (.identify q) s = .next ((s.heard q).answer 0x0001 q .ok 0 0 s.identityRecord).settle := by
  simp only [exec, execIdentify, State.decideIdentify, State.plain_answers answers (op := 0x0001) rfl]

theorem execCapabilities_answers (answers : Answers s) :
    exec (.capabilities q) s = .next ((s.heard q).answer 0x0002 q .ok s.unit.variant.cap.toNat 0 s.unit.variant.capRecord).settle := by
  simp only [exec, execCapabilities, State.decideCapabilities, State.plain_answers answers (op := 0x0002) rfl]

theorem execGetStatus_answers (answers : Answers s) :
    exec (.getStatus q) s = .next ((s.heard q).answer 0x0003 q .ok 0 0 s.statusRecord).settle := by
  simp only [exec, execGetStatus, State.decideGetStatus, State.plain_answers answers (op := 0x0003) rfl]

theorem execGetTime_answers (answers : Answers s) :
    exec (.getTime q) s = .next ((s.heard q).answer 0x0005 q .ok (bit s.calendar.2 0) 0 s.timeRecord).settle := by
  simp only [exec, execGetTime, State.decideGetTime, State.plain_answers answers (op := 0x0005) rfl]

theorem execDiagVote_answers (answers : Answers s) :
    exec (.diagVote q) s = .next ((s.heard q).answer 0x0901 q .ok 0 0 s.diagNow.vote).settle := by
  simp only [exec, execDiagVote, State.decideDiagVote, State.plain_answers answers (op := 0x0901) rfl]

theorem execDiagAshlar_answers (answers : Answers s) :
    exec (.diagAshlar q) s = .next ((s.heard q).answer 0x0902 q .ok 0 0 s.diagNow.ashlar).settle := by
  simp only [exec, execDiagAshlar, State.decideDiagAshlar, State.plain_answers answers (op := 0x0902) rfl]

theorem execDiagSafeRecord_answers (answers : Answers s) :
    exec (.diagSafeRecord q) s = .next ((s.heard q).answer 0x0903 q .ok 0 0 s.diagNow.safeRecord).settle := by
  simp only [exec, execDiagSafeRecord, State.decideDiagSafeRecord, State.plain_answers answers (op := 0x0903) rfl]

theorem execEventInfo_answers (answers : Answers s) :
    exec (.eventInfo q) s = .next ((s.heard q).answer 0x0601 q .ok 0 0 s.infoRecord).settle := by
  simp only [exec, execEventInfo, State.decideEventInfo]
  rw [State.mgCommand_anyone answers (s.openTo_always (by decide)) rfl rfl rfl]
  rfl

theorem execSubscriptionGet_answers (answers : Answers s) :
    ∃ m, exec (.subscriptionGet q) s = .next ((s.heard q).answer 0x0A02 q .ok 0 0 (le 8 m)).settle ∧
      m = (if q.via = .pcie then s.hi.subscribed else s.hi.x8Subscribed).toNat := by
  refine ⟨_, ?_, rfl⟩
  simp only [exec, execSubscriptionGet, State.decideSubscriptionGet, State.plain_answers answers (op := 0x0A02) rfl]
  cases q.via <;> rfl

theorem execDiagInputs_answers (answers : Answers s) (some' : 1 ≤ q.p1) (fitted : q.p0 < s.unit.variant.inputs)
    (few : q.p1 ≤ 64) :
    exec (.diagInputs q) s = .next ((s.heard q).answer 0x0904 q .ok 0 0
      ((s.diagNow.inputs.drop q.p0).take q.p1).flatten).settle := by
  simp only [exec, execDiagInputs, State.decideDiagInputs]
  rw [State.listUnits_answers answers (by decide) fitted s.unit.variant.inputs_le some' few]

theorem execDiagOutputs_answers (answers : Answers s) (some' : 1 ≤ q.p1) (fitted : q.p0 < s.unit.variant.outputs)
    (few : q.p1 ≤ 32) :
    exec (.diagOutputs q) s = .next ((s.heard q).answer 0x0905 q .ok 0 0
      ((s.diagNow.outputs.drop q.p0).take q.p1).flatten).settle := by
  simp only [exec, execDiagOutputs, State.decideDiagOutputs]
  rw [State.listUnits_answers answers (by decide) fitted s.unit.variant.outputs_le some' few]

theorem execDiagGroups_answers (answers : Answers s) (some' : 1 ≤ q.p1) (fitted : q.p0 < s.unit.variant.groups)
    (few : q.p1 ≤ 4) :
    exec (.diagGroups q) s = .next ((s.heard q).answer 0x0906 q .ok 0 0
      ((s.diagNow.groups.drop q.p0).take q.p1).flatten).settle := by
  simp only [exec, execDiagGroups, State.decideDiagGroups]
  rw [State.listUnits_answers answers (by decide) fitted s.unit.variant.groups_le some' few]

theorem execDiagNode_answers (answers : Answers s) (some' : 1 ≤ q.p1) (few : q.p1 ≤ 127) :
    exec (.diagNode q) s = .next ((s.heard q).answer 0x0909 q .ok 0 0
      (recordsFrom s.diagNow.nodes q.p0 q.p1)).settle := by
  simp only [exec, execDiagNode, State.decideDiagNode]
  rw [State.mgCommand_anyone answers (s.openTo_always (by decide)) rfl rfl
    (by rw [decide_eq_true some', decide_eq_true few]; rfl)]
  rfl

theorem execDiagNodeList_answers (answers : Answers s) (some' : 1 ≤ q.p1) (few : q.p1 ≤ 169) :
    exec (.diagNodeList q) s = .next ((s.heard q).answer 0x090A q .ok 0 0
      (recordsFrom s.diagNow.listed q.p0 q.p1)).settle := by
  simp only [exec, execDiagNodeList, State.decideDiagNodeList]
  rw [State.mgCommand_anyone answers (s.openTo_always (by decide)) rfl rfl
    (by rw [decide_eq_true some', decide_eq_true few]; rfl)]
  rfl

theorem execChangeLogRead_answers (answers : Answers s) (some' : 1 ≤ q.p1) (few : q.p1 ≤ 63)
    (started : s.power.state ≠ .start) (runs : s.power.state ≠ .shutdownTest) :
    exec (.changeLogRead q) s = .next ((s.heard q).answer 0x0807 q .ok ((s.log.drop q.p0).take q.p1).length 0
      (((s.log.drop q.p0).take q.p1).flatMap LogEntry.bytes)).settle := by
  simp only [exec, execChangeLogRead, State.decideChangeLogRead]
  rw [State.mgCommand_anyone answers (State.openTo_changeLog started runs) rfl rfl
    (by rw [decide_eq_true some', decide_eq_true few]; rfl)]
  rfl

theorem execDiagCanPort_answers (answers : Answers s) (fitted : q.p0 < s.unit.variant.canPorts) :
    exec (.diagCanPort q) s = .next ((s.heard q).answer 0x0907 q .ok 0 0 (s.diagNow.can.getD q.p0 [])).settle := by
  have inside : q.p0 < 8 := fitted.trans_le s.unit.variant.canPorts_le
  simp only [exec, execDiagCanPort, State.decideDiagCanPort]
  rw [State.mgCommand_anyone answers (s.openTo_always (by decide))
    (by rw [decide_eq_false (Nat.not_le.mpr fitted), Bool.and_false]) rfl (decide_eq_true inside)]
  rfl

theorem execDiagPortCounters_answers (answers : Answers s)
    (fitted : q.p0 < s.unit.variant.canPorts ∨ (s.unit.variant.ethernet = true ∧ (q.p0 = 8 ∨ q.p0 = 9))) :
    exec (.diagPortCounters q) s =
      .next ((s.heard q).answer 0x0908 q .ok 0 0 (s.diagNow.counters.getD q.p0 [])).settle := by
  have ports := s.unit.variant.canPorts_le
  have inside : q.p0 ≤ 9 := by omega
  have present : ((decide (q.p0 < 8) && decide (s.unit.variant.canPorts ≤ q.p0)) ||
      ((q.p0 == 8 || q.p0 == 9) && !s.unit.variant.ethernet)) = false := by
    rcases fitted with can | ⟨ethernet, eight | nine⟩
    · have notEight : (q.p0 == 8) = false := by rw [beq_eq_false_iff_ne]; omega
      have notNine : (q.p0 == 9) = false := by rw [beq_eq_false_iff_ne]; omega
      rw [decide_eq_false (Nat.not_le.mpr can), notEight, notNine, Bool.and_false]
      rfl
    · rw [ethernet, eight]; rfl
    · rw [ethernet, nine]; rfl
  simp only [exec, execDiagPortCounters, State.decideDiagPortCounters]
  rw [State.mgCommand_anyone answers (s.openTo_always (by decide)) present rfl (decide_eq_true inside)]
  rfl

theorem execUpdateStatus_answers (settled : Settled s) (target : q.p0 = 1 ∨ q.p0 = 2) :
    exec (.updateStatus q) s = .next ((s.heard q).answer 0x0706 q .ok 0 0 (s.target q.p0).status).settle := by
  have known : targetOk q.p0 = true := by rcases target with one | two <;> simp [targetOk, *]
  simp only [exec, execUpdateStatus, State.decideUpdateStatus]
  rw [State.mgCommand_anyone settled.1 (State.openTo_settled settled (by decide)) rfl rfl known]
  rfl

theorem execEventRead_answers (answers : Answers s) {asked count first : Nat} {recs : List Record}
    (from_ : asked = u64 q.payload 0) (number : count = u16 q.payload 8) (length : q.payload.length = 12)
    (some' : 1 ≤ count) (few : count ≤ 126) (reserved : u16 q.payload 10 = 0)
    (start : first = (if s.recorder.next ≤ asked then s.recorder.next else Nat.max asked s.recorder.oldest))
    (read : recs = ((s.recorder.ring.filter (fun r => first ≤ r.number)).take count).map s.recorder.readable) :
    exec (.eventRead q) s = .next ((s.heard q).answer 0x0602 q .ok recs.length (saturate 32 (first - asked))
      (le 8 first ++ recs.flatMap Record.bytes)).settle := by
  subst from_ number start read
  simp only [exec, execEventRead, State.decideEventRead]
  rw [State.mgCommand_anyone answers (s.openTo_always (by decide)) rfl rfl
    (by rw [length, reserved, decide_eq_true some', decide_eq_true few]; rfl)]
  rfl

/-! ### Queries of the cluster -/

/-- A query of the bench in RUN or STOP, answered where its parameters hold (R331, R335). -/
theorem State.clCommand_query (reads : BenchReads s) {op : Nat} (group : opGroup op ≤ 5) {ok : Bool} (params : ok = true)
    (k : State → State) :
    s.clCommand q op (s.judge q op false (s.power.state == .run || s.power.state == .stop) none false ok) k =
      k (s.heard q) := by
  have state : (s.power.state == .run || s.power.state == .stop) = true := by
    rcases reads.1 with run | stop
    · rw [run]; rfl
    · rw [stop]; rfl
  exact State.clCommand_accepted (mailboxLive_of_reads reads) (State.judge_eq_none.mpr
    ⟨rfl, openTo_of_reads reads op group, state, rfl, fun code => absurd code Bool.false_ne_true, params⟩) k

theorem State.query_answers (reads : BenchReads s) {op : Nat} (group : opGroup op ≤ 5) {n : Nat} (some' : 1 ≤ q.p1)
    (few : q.p1 ≤ 500) (inside : q.p0 < n) (record : State → Nat → List Byte) :
    s.query op q n record = (s.heard q).complete op q .ok (Nat.min q.p1 (n - q.p0)) 0
      ((List.range' q.p0 (Nat.min q.p1 (n - q.p0))).flatMap (record (s.heard q))) := by
  rw [State.query]
  exact State.clCommand_query reads group
    (by rw [decide_eq_true some', decide_eq_true few, decide_eq_true inside]; rfl) _

theorem execRouteState_answers (reads : BenchReads s) (some' : 1 ≤ q.p1) (few : q.p1 ≤ 500)
    (inside : q.p0 < s.routes.length) :
    exec (.routeState q) s = .next ((s.heard q).complete 0x0110 q .ok (Nat.min q.p1 (s.routes.length - q.p0)) 0
      ((List.range' q.p0 (Nat.min q.p1 (s.routes.length - q.p0))).flatMap s.routeRecord)).settle := by
  simp only [exec, execRouteState, State.decideRouteState]
  rw [State.query_answers reads (by decide) some' few inside]
  rfl

theorem execElementState_answers (reads : BenchReads s) (some' : 1 ≤ q.p1) (few : q.p1 ≤ 500)
    (inside : q.p0 < s.elements.length) :
    exec (.elementState q) s = .next ((s.heard q).complete 0x0111 q .ok (Nat.min q.p1 (s.elements.length - q.p0)) 0
      ((List.range' q.p0 (Nat.min q.p1 (s.elements.length - q.p0))).flatMap s.elementRecord)).settle := by
  simp only [exec, execElementState, State.decideElementState]
  rw [State.query_answers reads (by decide) some' few inside]
  rfl

theorem execForceList_answers (reads : BenchReads s) :
    exec (.forceList q) s = .next ((s.heard q).complete 0x0412 q .ok 0 0
      (padTo 1024 (s.bench.forces.flatMap Force.bytes))).settle := by
  simp only [exec, execForceList, State.decideForceList]
  rw [State.clCommand_query reads (by decide) rfl]
  rfl

theorem execConstantGet_answers (reads : BenchReads s) (some' : 1 ≤ q.p1) (few : q.p1 ≤ 254)
    (inside : q.p0 < s.constantCount) :
    exec (.constantGet q) s = .next ((s.heard q).complete 0x0502 q .ok 0 0
      ((List.range' q.p0 (Nat.min q.p1 (s.constantCount - q.p0))).flatMap s.constantBytes)).settle := by
  simp only [exec, execConstantGet, State.decideConstantGet]
  rw [State.clCommand_query reads (by decide)
    (by rw [decide_eq_true some', decide_eq_true few, decide_eq_true inside]; rfl)]
  rfl

theorem execDoorHealth_answers (reads : BenchReads s) (answers : Answers s) (door : s.typeOf q.p0 = 4)
    (some' : 1 ≤ q.p1 / 256) (few : q.p1 / 256 ≤ 48)
    (inside : q.p1 % 256 + q.p1 / 256 ≤ (s.part q.p0).leaves.length) :
    exec (.doorHealth q) s = .next ((s.heard q).answer 0x0303 q .ok 0 0
      ((List.range' (q.p1 % 256) (q.p1 / 256)).flatMap
        (fun p => s.healthRecord ((s.part q.p0).leaves.getD p 0) p))).settle := by
  have state : (s.power.state == .run || s.power.state == .stop) = true := by
    rcases reads.1 with run | stop
    · rw [run]; rfl
    · rw [stop]; rfl
  simp only [exec, execDoorHealth, State.decideDoorHealth]
  rw [State.mgCommand_anyone answers (openTo_of_reads reads _ (by decide)) rfl state
    (by rw [door, decide_eq_true some', decide_eq_true few, decide_eq_true inside]; rfl)]
  rfl

end Answered

end Sys2Proof.Machine
end

section
/-! PROOF. The statement about the queries. -/

namespace Sys2Proof.Proofs

open Sys2Proof Sys2Proof.Machine Sys2Proof.Safety

/-- Settles O55: every query completes OK with its record. That an OK listing has PARAM0 0 is the model's choice (log
entry 11); what GET_STATUS, ROUTE_STATE and a DIAG command before the first refresh answer rests on log entry 85. -/
theorem queriesAnswer : Obligations.QueriesAnswer := by
  unfold Obligations.QueriesAnswer
  refine ⟨?plain, ?listings, ?ports, ?cluster⟩
  case plain =>
    intro q s answers
    exact ⟨execIdentify_answers answers, execCapabilities_answers answers, execGetStatus_answers answers,
      execGetTime_answers answers, execEventInfo_answers answers, execDiagVote_answers answers,
      execDiagAshlar_answers answers, execDiagSafeRecord_answers answers, execSubscriptionGet_answers answers⟩
  case listings =>
    intro q s answers some'
    exact ⟨execDiagInputs_answers answers some', execDiagOutputs_answers answers some',
      execDiagGroups_answers answers some', execDiagNode_answers answers some', execDiagNodeList_answers answers some',
      execChangeLogRead_answers answers some'⟩
  case ports =>
    intro q s answers
    refine ⟨execDiagCanPort_answers answers, execDiagPortCounters_answers answers,
      fun settled target => execUpdateStatus_answers settled target, ?_⟩
    intro asked count first recs from_ number length some' few reserved start read
    exact execEventRead_answers answers from_ number length some' few reserved start read
  case cluster =>
    intro q s reads
    exact ⟨execRouteState_answers reads, execElementState_answers reads, execForceList_answers reads,
      execConstantGet_answers reads, fun answers => execDoorHealth_answers reads answers⟩

end Sys2Proof.Proofs
end

section
/-! PROOF. The commands of the management core that set something (R333, R342, R346, R352). -/

namespace Sys2Proof.Machine

open Sys2Proof Sys2Proof.Safety

/-! ### Acceptance and answer -/

/-- A command of the management core that needs a role, answered where its parameters hold (R327, R331). -/
theorem State.mgCommand_settled {s : State} {q : Req} {op : Nat} {need : Option Role} {ok : Bool} (settled : Settled s)
    (other : opGroup op = 0 ∨ 6 ≤ opGroup op) (role : s.holds q need = true) (params : ok = true) (k : State → State) :
    s.mgCommand q op (s.judge q op false true need false ok) k = k (s.heard q) := by
  obtain ⟨answers, started, runs, life⟩ := id settled
  have opened : s.openTo op = true := by
    rcases other with general | other
    · simp [State.openTo, started, runs, life, general]
    · exact State.openTo_settled settled other
  exact State.mgCommand_accepted answers
    (State.judge_eq_none.mpr ⟨rfl, opened, rfl, role, fun code => absurd code Bool.false_ne_true, params⟩) k

theorem State.answer_eq (s : State) (op : Nat) (q : Req) (st : Status) (p0 p1 : Nat) :
    s.answer op q st p0 p1 =
      { s with mg := (s.answer op q st p0 p1).mg, hi := (s.answer op q st p0 p1).hi
               outbox := (s.answer op q st p0 p1).outbox } := by
  apply State.ext
  all_goals simp only [State.answer_frame]

/-- An answer and the refresh of the mirror leave what the command left. -/
theorem answeredOnly_answer {s u : State} (only : AnsweredOnly s u) (op : Nat) (q : Req) (st : Status) (p0 p1 : Nat) :
    AnsweredOnly s (u.answer op q st p0 p1).settle := by
  unfold AnsweredOnly at *
  rw [State.settle_eq, State.answer_eq, only]

/-! ### SET_TIME -/

theorem calendar_parts {seconds millis : Nat} (small : millis ≤ 999) :
    (seconds * 1000000 + millis * 1000) / 1000000 = seconds ∧
    (seconds * 1000000 + millis * 1000) / 1000 % 1000 = millis := by
  omega

/-- The calendar of the always-on island set (R333). -/
def Rt.setClock (r : Rt) (us : Nat) : Rt := { r with calUs := us, timeSet := true }

/-- The calendar set, with its anchor record (R333, R367). -/
def State.clockSet (s : State) (q : Req) (us : Nat) : State := ({ s.heard q with rt := s.rt.setClock us } : State).anchor 2

theorem State.decideSetTime_sets {q : Req} {s : State} (settled : Settled s) (role : s.holds q (some .maintainer) = true)
    (length : q.payload.length = 8) (late : 946684800 ≤ u64 q.payload 0) (early : u64 q.payload 0 ≤ 4102444799)
    (millis : q.p0 ≤ 999) :
    s.decideSetTime q = (s.clockSet q (u64 q.payload 0 * 1000000 + q.p0 * 1000)).answer 0x0004 q .ok := by
  rw [State.decideSetTime, State.mgCommand_settled settled (.inl rfl) role
    (by rw [length, decide_eq_true late, decide_eq_true early, decide_eq_true millis]; rfl)]
  rfl

theorem State.clockSet_answeredOnly (s : State) (q : Req) (us : Nat) :
    AnsweredOnly { s with rt := s.rt.setClock us } (s.clockSet q us) := rfl

/-- The anchor names the time set, with the bit that says it is valid (R367). -/
theorem State.clockSet_recorded {q : Req} {s : State} (up : (s.xing .rtMg).linkDown = false) {seconds millis : Nat}
    (small : millis ≤ 999) {us : Nat} (time : us = seconds * 1000000 + millis * 1000) :
    Recorded { s with rt := s.rt.setClock us } (s.clockSet q us) 0xF010 seconds (millis + 2 ^ 31) 2 := by
  have calendar : ({ s.heard q with rt := s.rt.setClock us } : State).calendar = (us, true) :=
    if_neg (by rw [show (({ s.heard q with rt := s.rt.setClock us } : State).xing .rtMg).linkDown = false from up]; decide)
  obtain ⟨whole, rest⟩ := calendar_parts (seconds := seconds) small
  rw [State.clockSet, State.anchor, calendar, time, whole, rest]
  exact State.event_recorded rfl rfl rfl ..

theorem execSetTime_sets {q : Req} {s : State} (settled : Settled s) (up : (s.xing .rtMg).linkDown = false)
    (role : s.holds q (some .maintainer) = true) (length : q.payload.length = 8)
    (late : 946684800 ≤ u64 q.payload 0) (early : u64 q.payload 0 ≤ 4102444799) (millis : q.p0 ≤ 999) :
    ∃ t, exec (.setTime q) s = .next t ∧
      t.rt = { s.rt with calUs := u64 q.payload 0 * 1000000 + q.p0 * 1000, timeSet := true } ∧
      Recorded { s with rt := t.rt } t 0xF010 (u64 q.payload 0) (q.p0 + 2 ^ 31) 2 ∧
      AnsweredOnly { s with rt := t.rt } t := by
  have told := State.clockSet_recorded (q := q) up (seconds := u64 q.payload 0) millis rfl
  have decided := State.decideSetTime_sets settled role length late early millis
  generalize u64 q.payload 0 * 1000000 + q.p0 * 1000 = us at told decided ⊢
  refine ⟨(s.decideSetTime q).settle, rfl, ?_⟩
  have kept : (s.decideSetTime q).settle.rt = s.rt.setClock us := by
    rw [decided]
    simp only [State.settle_frame, State.answer_frame]
    rfl
  rw [kept, decided]
  exact ⟨rfl, recorded_settle (recorded_framed told (by simp only [State.answer_frame])),
    answeredOnly_answer (s.clockSet_answeredOnly q us) ..⟩

/-! ### The event area -/

theorem execEventFreeze_freezes {q : Req} {s : State} (settled : Settled s) :
    ∃ t u : State, exec (.eventFreeze q) s = .next t ∧ t = (u.answer 0x0603 q .ok 60000).settle ∧
      u = { s.heard q with recorder := { s.recorder with frozenUntil := some (s.opUs + 60000000) } } := by
  refine ⟨_, _, ?_, rfl, rfl⟩
  simp only [exec, execEventFreeze, State.decideEventFreeze]
  rw [State.mgCommand_settled settled (.inr (by decide)) rfl rfl]
  rfl

theorem State.thaw_room {s : State} (frozen : s.recorder.frozenUntil.isSome = true) (none_lost : s.recorder.lost = 0)
    (room : s.recorder.ring.length + s.recorder.staging.length ≤ s.recorder.capacity) :
    s.thaw = { s with recorder := s.thaw.recorder, rt := { s.rt with stagedMirror := 0 } } ∧
    s.thaw.recorder.frozenUntil = none ∧ s.thaw.recorder.staging = [] ∧
    s.thaw.recorder.ring.length = s.recorder.ring.length + s.recorder.staging.length ∧
    s.thaw.recorder.ring.take s.recorder.ring.length = s.recorder.ring := by
  obtain ⟨tail, length, written⟩ := Recorder.foldl_append_room s.recorder.staging room
  obtain ⟨e, until'⟩ := Option.isSome_iff_exists.mp frozen
  have thawed : s.thaw = { s with
      recorder := { s.recorder with
        ring := s.recorder.ring ++ tail, next := s.recorder.next + s.recorder.staging.length
        staging := [], frozenUntil := none, lost := 0, firstLost := none }
      rt := { s.rt with stagedMirror := 0 } } := by
    simp only [State.thaw, until', Option.isNone_some, Bool.false_eq_true, if_false, none_lost, if_true, written]
  rw [thawed]
  exact ⟨rfl, rfl, rfl, by rw [List.length_append, length], List.take_left⟩

theorem execEventThaw_thaws {q : Req} {s : State} (settled : Settled s)
    (frozen : s.recorder.frozenUntil.isSome = true) (none_lost : s.recorder.lost = 0)
    (room : s.recorder.ring.length + s.recorder.staging.length ≤ s.recorder.capacity) :
    ∃ t u : State, exec (.eventThaw q) s = .next t ∧
      t = (u.answer 0x0604 q .ok s.recorder.staging.length 0).settle ∧ u.recorder.frozenUntil = none ∧
      u.recorder.staging = [] ∧ u.recorder.ring.length = s.recorder.ring.length + s.recorder.staging.length ∧
      u.recorder.ring.take s.recorder.ring.length = s.recorder.ring ∧
      u = { s.heard q with recorder := u.recorder, rt := { s.rt with stagedMirror := 0 } } := by
  obtain ⟨only, running, empty, length, kept⟩ := State.thaw_room (s := s.heard q) frozen none_lost room
  refine ⟨_, (s.heard q).thaw, ?_, rfl, running, empty, length, kept, only⟩
  have was : (s.heard q).recorder = s.recorder := by rw [State.heard]
  simp only [exec, execEventThaw, State.decideEventThaw]
  rw [State.mgCommand_settled settled (.inr (by decide)) rfl rfl]
  simp only [was, frozen, if_true, none_lost]

/-! ### EVENT_SET_RATE -/

/-- A bucket of a class whose rate changes: its grid starts anew with at most the new burst (R342). -/
def Bucket.restart (b : Bucket) (rate burst new now : Nat) : Bucket :=
  { b.refill rate burst now with tokens := Nat.min new (b.refill rate burst now).tokens, refillUs := now, given := 0 }

/-- The recorder with a class's rate set (R342). -/
def Recorder.setRate (c : Recorder) (cls rate burst now : Nat) : Recorder :=
  { c with
    rates := c.rates.set cls (rate, burst)
    buckets := c.buckets.map (fun b =>
      if classOf b.code = cls then b.restart (c.rateOf cls).1 (c.rateOf cls).2 burst now else b) }

theorem Recorder.rateOf_setRate_same {c : Recorder} {cls : Nat} (known : cls < c.rates.length) (rate burst now : Nat) :
    (c.setRate cls rate burst now).rateOf cls = (rate, burst) := by
  simp [Recorder.rateOf, Recorder.setRate, known]

theorem Recorder.rateOf_setRate_of_ne (c : Recorder) {cls k : Nat} (other : k ≠ cls) (rate burst now : Nat) :
    (c.setRate cls rate burst now).rateOf k = c.rateOf k := by
  simp [Recorder.rateOf, Recorder.setRate, other.symm]

theorem Recorder.setRate_tokens {c : Recorder} {cls rate burst now : Nat} {b : Bucket}
    (held : b ∈ (c.setRate cls rate burst now).buckets) (own : classOf b.code = cls) : b.tokens ≤ burst := by
  obtain ⟨x, -, rfl⟩ := List.mem_map.mp held
  split
  · exact Nat.min_le_left ..
  · next other =>
    rw [if_neg other] at own
    exact absurd own other

/-- The entry of a class's rate in the change log (R388). -/
def State.rateEntry (s : State) (q : Req) : LogEntry :=
  s.logBy q { item := 11, subject := word q.p0, after := q.param1
              before := word ((s.recorder.rateOf q.p0).1 + (s.recorder.rateOf q.p0).2 * 65536) }

theorem execEventSetRate_sets {q : Req} {s : State} (settled : Settled s) (role : s.holds q (some .maintainer) = true)
    (cls : q.p0 ≤ 14) (rates : s.recorder.rates.length = 15) (rate : 1 ≤ q.p1 % 65536) (rate' : q.p1 % 65536 ≤ 1000)
    (burst : 1 ≤ q.p1 / 65536) (burst' : q.p1 / 65536 ≤ 1000) (room : s.log.length < logCapacity)
    (quiet : s.log.length ≠ 235930) :
    ∃ t e, exec (.eventSetRate q) s = .next t ∧ t.recorder.rateOf q.p0 = (q.p1 % 65536, q.p1 / 65536) ∧
      (∀ k, k ≠ q.p0 → t.recorder.rateOf k = s.recorder.rateOf k) ∧ t.log = s.log ++ [e] ∧ e.item = 11 ∧
      e.subject = word q.p0 ∧ e.after = q.param1 ∧
      (∀ b ∈ t.recorder.buckets, classOf b.code = q.p0 → b.tokens ≤ q.p1 / 65536) ∧
      t.recorder.inbox = s.recorder.inbox ∧ t.recorder.ring = s.recorder.ring ∧ AnsweredOnly s t := by
  let e : LogEntry := (s.heard q).stamped ((s.heard q).rateEntry q)
  let u : State := { s.heard q with
    log := s.log ++ [e], recorder := s.recorder.setRate q.p0 (q.p1 % 65536) (q.p1 / 65536) s.opUs }
  have decided : s.decideEventSetRate q = u.answer 0x0605 q .ok := by
    rw [State.decideEventSetRate, State.mgCommand_settled settled (.inr (by decide)) role
      (by rw [decide_eq_true cls, decide_eq_true rate, decide_eq_true rate', decide_eq_true burst,
        decide_eq_true burst']; rfl)]
    dsimp only
    rw [State.logRoom_one (s := s.heard q) room, State.logChange_room (s := s.heard q) room quiet]
    rfl
  refine ⟨(s.decideEventSetRate q).settle, e, rfl, ?_⟩
  rw [decided]
  have recorder : (u.answer 0x0605 q .ok).settle.recorder =
      s.recorder.setRate q.p0 (q.p1 % 65536) (q.p1 / 65536) s.opUs := by
    simp only [State.settle_frame, State.answer_frame]
    rfl
  have log : (u.answer 0x0605 q .ok).settle.log = s.log ++ [e] := by
    simp only [State.settle_frame, State.answer_frame]
    rfl
  rw [recorder, log]
  exact ⟨Recorder.rateOf_setRate_same (by rw [rates]; omega) .., fun k other => s.recorder.rateOf_setRate_of_ne other ..,
    rfl, rfl, rfl, rfl, fun b held own => Recorder.setRate_tokens held own, rfl, rfl,
    answeredOnly_answer (show AnsweredOnly s u from rfl) ..⟩

/-! ### SUBSCRIBE -/

/-- The host island after SUBSCRIBE on the request's transport (R352). -/
def HostIf.subscribe (h : HostIf) (q : Req) : HostIf :=
  match q.via with
  | .pcie => { h with subscribed := BitVec.ofNat 64 (u64 q.payload 0) }
  | .x8 => { h with x8Subscribed := BitVec.ofNat 64 (u64 q.payload 0), x8Dest := some (q.replyIp, q.replyPort) }

theorem execSubscribe_sets {q : Req} {s : State} (answers : Answers s) (length : q.payload.length = 8)
    (known : u64 q.payload 0 < 512) :
    ∃ t u : State, exec (.subscribe q) s = .next t ∧ t = (u.answer 0x0A01 q .ok).settle ∧
      (q.via = .pcie → u = { s.heard q with hi := { s.hi with subscribed := BitVec.ofNat 64 (u64 q.payload 0) } }) ∧
      (q.via = .x8 → u = { s.heard q with hi := { s.hi with
        x8Subscribed := BitVec.ofNat 64 (u64 q.payload 0), x8Dest := some (q.replyIp, q.replyPort) } }) := by
  refine ⟨_, { s.heard q with hi := s.hi.subscribe q }, ?_, rfl, fun pcie => by rw [HostIf.subscribe, pcie],
    fun x8 => by rw [HostIf.subscribe, x8]⟩
  simp only [exec, execSubscribe, State.decideSubscribe]
  rw [State.mgCommand_anyone answers (s.openTo_always (by decide)) rfl rfl
    (by rw [length, decide_eq_true known]; rfl)]
  rfl

/-! ### MAINT_ADDRESS -/

/-- The entry of a maintenance address in the change log (R388). -/
def State.addressEntry (s : State) (q : Req) : LogEntry :=
  s.logBy q { item := 10, before := s.hi.x8Address, after := word (ofBe (slice q.payload 0 4)) }

theorem State.addressEntry_words (s : State) (q : Req) :
    (s.addressEntry q).item = 10 ∧ (s.addressEntry q).before = s.hi.x8Address ∧
    (s.addressEntry q).after = word (ofBe (slice q.payload 0 4)) := ⟨rfl, rfl, rfl⟩

theorem execMaintAddress_sets {q : Req} {s : State} (settled : Settled s) (role : s.holds q (some .maintainer) = true)
    (length : q.payload.length = 12) (long : 8 ≤ u8 q.payload 4) (short : u8 q.payload 4 ≤ 30)
    (reserved : zeros q.payload 5 3 = true) (room : s.log.length < logCapacity) :
    ∃ t e, exec (.maintAddress q) s = .next t ∧ t.log = s.log ++ [e] ∧ e.item = 10 ∧
      e.before = s.hi.x8Address ∧ e.after = word (ofBe (slice q.payload 0 4)) ∧ t.hi.x8Address = s.hi.x8Address ∧
      t.hi.x8New = some (word (ofBe (slice q.payload 0 4)), u8 q.payload 4, word (ofBe (slice q.payload 8 4)),
        s.opUs + 1000000) ∧ AnsweredOnly s t := by
  let e : LogEntry := (s.heard q).stamped ((s.heard q).addressEntry q)
  let recorder := ((s.heard q).logChange ((s.heard q).addressEntry q)).recorder
  let u : State := { s.heard q with
    log := s.log ++ [e], recorder := recorder
    hi := { s.hi with x8New := some (word (ofBe (slice q.payload 0 4)), u8 q.payload 4,
      word (ofBe (slice q.payload 8 4)), s.opUs + 1000000) } }
  have decided : s.decideMaintAddress q = u.answer 0x0808 q .ok := by
    rw [State.decideMaintAddress, State.mgCommand_settled settled (.inr (by decide)) role
      (by rw [length, decide_eq_true long, decide_eq_true short, reserved]; rfl)]
    dsimp only
    rw [State.logRoom_one (s := s.heard q) room]
    rw [if_neg (by decide)]
    rw [show (s.heard q).logBy q { item := 10, before := (s.heard q).hi.x8Address
                                   after := word (ofBe (slice q.payload 0 4)) } = (s.heard q).addressEntry q from rfl,
      State.logChange_appends (s := s.heard q) room]
    rfl
  refine ⟨(s.decideMaintAddress q).settle, e, rfl, ?_⟩
  rw [decided]
  refine ⟨?_, rfl, rfl, rfl, ?_, ?_, answeredOnly_answer (show AnsweredOnly s u from rfl) ..⟩
  · simp only [State.settle_frame, State.answer_frame]
    rfl
  · simp only [State.settle_hi_x8Address, State.answer_hi_frame]
    rfl
  · simp only [State.settle_hi_x8New, State.answer_hi_frame]
    rfl

end Sys2Proof.Machine
end

section
/-! PROOF. The statement about the commands of the management core. -/

namespace Sys2Proof.Proofs

open Sys2Proof Sys2Proof.Machine Sys2Proof.Safety

/-- Settles O56: SET_TIME, EVENT_FREEZE, EVENT_THAW, EVENT_SET_RATE, SUBSCRIBE and MAINT_ADDRESS. That addresses stand in
the change log as numbers is the model's choice (log entry 67). -/
theorem managementCommands : Obligations.ManagementCommands := by
  unfold Obligations.ManagementCommands
  refine ⟨?time, ?freeze, ?thaw, ?rate, ?subscribe, ?address⟩
  case time =>
    intro q s settled up role length late early millis
    exact execSetTime_sets settled up role length late early millis
  case freeze =>
    intro q s settled
    exact execEventFreeze_freezes settled
  case thaw =>
    intro q s settled frozen lost room
    exact execEventThaw_thaws settled frozen lost room
  case rate =>
    intro q s settled role cls rates rate rate' burst burst' room quiet
    exact execEventSetRate_sets settled role cls rates rate rate' burst burst' room quiet
  case subscribe =>
    intro q s answers length known
    exact execSubscribe_sets answers length known
  case address =>
    intro q s settled role length long short reserved room
    exact execMaintAddress_sets settled role length long short reserved room

end Sys2Proof.Proofs
end

section
/-! PROOF. The shutdown test: its begin, the verdicts of its blocks and its end (R394 to R400). -/

namespace Sys2Proof.Machine

open Sys2Proof Sys2Proof.Safety

/-! ### SHUTDOWN -/

/-- The end of a session that holds nothing writes the debug kind and the record (R380). -/
theorem State.endDebug_free {s : State} (free : debugHolds s.sec.debug = false) (cause : Nat) :
    s.endDebug cause = { s with sec := { s.sec with debug := .none }, recorder := (s.endDebug cause).recorder } := by
  obtain ⟨sec, ⟨-, same, -⟩, -, only⟩ := s.endDebug_ended cause
  have ash : (s.endDebug cause).ash = s.ash := same (holdAfterDebug_free free _)
  rw [ash, sec] at only
  exact only

/-- The module as SHUTDOWN takes it out of its state: SAFE recorded as left, debug ended, the begin recorded. -/
def State.shutdownTold (s : State) (p : PowerState) : State :=
  ((if p = .safe then s.event 0x0102 .cl .info else s).endDebug 4).event 0xA010 .cl .info s.lifecycle p.code

theorem State.shutdownTold_only {s : State} (free : debugHolds s.sec.debug = false) (p : PowerState) :
    s.shutdownTold p =
      { s with sec := { s.sec with debug := .none }, recorder := (s.shutdownTold p).recorder } := by
  have told (u : State) (only : u = { s with recorder := u.recorder }) :
      (u.endDebug 4).event 0xA010 .cl .info s.lifecycle p.code = { s with
        sec := { s.sec with debug := .none }
        recorder := ((u.endDebug 4).event 0xA010 .cl .info s.lifecycle p.code).recorder } := by
    have still : debugHolds u.sec.debug = false := by rw [only]; exact free
    have ended := State.endDebug_free still 4
    generalize u.endDebug 4 = w at *
    rw [ended, only]
    rfl
  unfold State.shutdownTold
  split
  · exact told _ rfl
  · exact told _ rfl

/-- The shutdown test as SHUTDOWN begins it from a power state (R396). -/
def State.testBegun (s : State) (q : Req) (p : PowerState) (now : Nat) : State :=
  { s with
    power := { s.power with state := .shutdownTest, readyOff := false }
    field := { s.field with demands := 0 }
    ash := { s.ash with bistBlock := 1, bistCount := 0 }
    eng := { s.eng with waiting := s.eng.waiting ++ [.shutdown q] }
    test := { s.test with
      record := some s.openRecord, step := 1, stepUs := now + 20000, beganUs := now, verdicts := [],
      matched := 0, fused := 0, fromState := p, hotEnded := false, badLanes := [] } }

theorem State.decideShutdown_begins {q : Req} {s : State} (live : s.mailboxLive = true)
    (state : s.power.state = .stop ∨ s.power.state = .safe ∨ s.power.state = .lockout) (notInvasive : s.sec.debug ≠ .invasive)
    (notTest : s.sec.debug ≠ .testEngine) (role : s.holds q (some .maintainer) = true) :
    s.decideShutdown q = ((s.heard q).shutdownTold s.power.state).testBegun q s.power.state s.opUs := by
  have opened : s.openTo 0x0006 = true := by rcases state with p | p | p <;> simp [State.openTo, opGroup, p]
  have stateOk : ((s.power.state == .stop || s.power.state == .safe || s.power.state == .lockout) &&
      s.sec.debug != .invasive && s.sec.debug != .testEngine) = true := by
    rcases state with p | p | p <;> simp [p, notInvasive, notTest]
  rw [State.decideShutdown, State.clCommand_accepted live (State.judge_eq_none.mpr
    ⟨rfl, opened, stateOk, role, fun code => absurd code Bool.false_ne_true, rfl⟩)]
  rfl

theorem execShutdown_begins {q : Req} {s : State} (live : s.mailboxLive = true)
    (state : s.power.state = .stop ∨ s.power.state = .safe ∨ s.power.state = .lockout) (notInvasive : s.sec.debug ≠ .invasive)
    (notTest : s.sec.debug ≠ .testEngine) (role : s.holds q (some .maintainer) = true) :
    ∃ t, exec (.shutdown q) s = .next t ∧ t.power.state = .shutdownTest ∧ t.power.readyOff = false ∧
      t.test.step = 1 ∧ t.test.stepUs = s.opUs + 20000 ∧ t.test.beganUs = s.opUs ∧ t.test.verdicts = [] ∧
      t.test.fromState = s.power.state ∧ (∃ r, t.test.record = some r ∧ r.result = 2 ∧ r.lifecycle = s.lifecycle) ∧
      t.test.repair = s.test.repair ∧ t.eng.waiting = s.eng.waiting ++ [.shutdown q] ∧
      t.ash = { s.ash with bistBlock := 1, bistCount := 0 } ∧ t.field = { s.field with demands := 0 } ∧
      t.vote = s.vote ∧ t.station = s.station ∧ t.can = s.can ∧ t.net = s.net ∧ t.log = s.log ∧ t.update = s.update := by
  have free : debugHolds s.sec.debug = false := by
    cases kind : s.sec.debug with
    | none => rfl
    | nonInvasive => rfl
    | invasive => exact absurd kind notInvasive
    | testEngine => exact absurd kind notTest
  have only := State.shutdownTold_only (s := s.heard q) free s.power.state
  refine ⟨(s.decideShutdown q).settle, rfl, ?_⟩
  rw [State.decideShutdown_begins live state notInvasive notTest role]
  simp only [State.settle_frame]
  generalize (s.heard q).shutdownTold s.power.state = u at only
  rw [only]
  exact ⟨rfl, rfl, rfl, rfl, rfl, rfl, rfl, ⟨_, rfl, rfl, rfl⟩, rfl, rfl, rfl, rfl, rfl, rfl, rfl, rfl, rfl, rfl⟩

/-! ### A block's verdict -/

theorem State.afterBlock_next (s : State) {block : Nat} (early : block ≤ 10) :
    s.afterBlock block = { s with
      test := { s.test with step := block + 1, stepUs := s.opUs }
      ash := { s.ash with bistBlock := block + 1, bistCount := 0 } } := by
  rw [State.afterBlock, if_neg (by omega), State.nextStep, if_pos (by omega)]

theorem State.noteVerdict_pass (s : State) (block count : Nat) :
    s.noteVerdict block .pass count =
      { s with test := { s.test with verdicts := s.test.verdicts ++ [(block, .pass)] } } := rfl

theorem State.noteVerdict_other (s : State) {v : Verdict} (other : v ≠ .pass) (block count : Nat) :
    s.noteVerdict block v count =
      ({ s with test := { s.test with verdicts := s.test.verdicts ++ [(block, v)] } } : State).event 0xA011 .cl .info block
        (verdictCode v) count := if_neg other

/-- Blocks 1 to 7 with both counts at the terminal count: the signature decides (R394, R395). -/
theorem State.blockVerdict_logic {s : State} {b : BlockResult} (logic : b.block ≤ 7) (notSpare : b.block ≠ 4)
    (engine : b.engineCount = terminal s.unit.variant.spare b.block) (ashlar : b.ashlarCount = b.engineCount) :
    s.blockVerdict b =
      (s, if b.signature = s.test.expected.getD (b.block - 1) 0 then Verdict.pass else Verdict.fail) := by
  have early : b.block < 8 := by omega
  simp only [State.blockVerdict, notSpare, decide_false, Bool.false_and, Bool.false_eq_true, if_false, ashlar, engine,
    beq_self_eq_true, Bool.and_self, Bool.not_true, early, if_true, beq_iff_eq]

/-- A block that both counts have ended, before its verdict is noted (R394). -/
def State.blockCounted (s : State) (b : BlockResult) : State :=
  { s with
    test := { s.test with
      matched := s.test.matched ||| 2 ^ (b.block - 1)
      badLanes := if b.block = 5 then b.lanes else s.test.badLanes }
    ash := { s.ash with bistBlock := b.block, bistCount := BitVec.ofNat 24 b.ashlarCount } }

section
variable {s : State} {b : BlockResult} (test : s.power.state = .shutdownTest) (step : s.test.step = b.block)
  (logic : b.block ≤ 7) (notSpare : b.block ≠ 4)
  (engine : b.engineCount = terminal s.unit.variant.spare b.block) (ashlar : b.ashlarCount = b.engineCount)
include test step logic notSpare engine ashlar

theorem State.blockDone_logic :
    s.blockDone b = (((s.blockCounted b).noteVerdict b.block
      (if b.signature = s.test.expected.getD (b.block - 1) 0 then Verdict.pass else Verdict.fail)
      b.ashlarCount).afterBlock b.block) := by
  have running : ¬(decide (s.power.state ≠ .shutdownTest) || decide (s.test.step ≠ b.block)) = true := by simp [test, step]
  have notFuses : b.block ≠ 12 := by omega
  have hit : (b.ashlarCount == terminal s.unit.variant.spare b.block) = true := by rw [ashlar, engine, beq_self_eq_true]
  rw [State.blockDone, if_neg running, if_neg notFuses]
  simp only [State.blockVerdict_logic logic notSpare engine ashlar, hit, if_true]
  congr 2
  unfold State.blockCounted
  split <;> rfl

theorem execBistBlockDone_logic :
    ∃ t, exec (.bistBlockDone b) s = .next t ∧
      t.test = { s.test with
        step := b.block + 1, stepUs := s.opUs, matched := s.test.matched ||| 2 ^ (b.block - 1),
        badLanes := if b.block = 5 then b.lanes else s.test.badLanes
        verdicts := s.test.verdicts ++
          [(b.block, if b.signature = s.test.expected.getD (b.block - 1) 0 then Verdict.pass else Verdict.fail)] } ∧
      t.ash = { s.ash with bistBlock := b.block + 1, bistCount := 0 } ∧
      (b.signature = s.test.expected.getD (b.block - 1) 0 → t.recorder = s.recorder) ∧
      (b.signature ≠ s.test.expected.getD (b.block - 1) 0 → Recorded s t 0xA011 b.block 1 b.ashlarCount) ∧
      t = { s with test := t.test, ash := t.ash, recorder := t.recorder, hi := mirrorOf s t } := by
  refine ⟨(s.blockDone b).settle, rfl, ?_⟩
  rw [State.blockDone_logic test step logic notSpare engine ashlar, State.afterBlock_next _ (by omega)]
  by_cases right : b.signature = s.test.expected.getD (b.block - 1) 0
  · simp only [if_pos right, State.noteVerdict_pass, State.settle_frame]
    exact ⟨rfl, rfl, fun _ => rfl, fun wrong => absurd right wrong, State.settle_eq _⟩
  · simp only [if_neg right, State.noteVerdict_other _ (show Verdict.fail ≠ .pass by decide), State.settle_frame]
    exact ⟨rfl, rfl, fun yes => absurd yes right,
      fun _ => recorded_settle (recorded_framed (State.event_recorded (s := s) (t := s.blockCounted b) rfl rfl rfl ..) rfl),
      State.settle_eq _⟩

end

theorem execBistBlockTimeout_incomplete {block count : Nat} {s : State} (test : s.power.state = .shutdownTest)
    (step : s.test.step = block) (early : block ≤ 10) (late : s.test.stepUs + stepLimitUs block ≤ s.opUs) :
    ∃ t, exec (.bistBlockTimeout block count) s = .next t ∧
      t.test = { s.test with
        step := block + 1, stepUs := s.opUs, verdicts := s.test.verdicts ++ [(block, Verdict.incomplete)] } ∧
      t.ash = { s.ash with bistBlock := block + 1, bistCount := 0 } ∧ Recorded s t 0xA011 block 2 count ∧
      t = { s with test := t.test, ash := t.ash, recorder := t.recorder, hi := mirrorOf s t } := by
  have running : ¬(decide (s.power.state ≠ .shutdownTest) || decide (s.test.step ≠ block) || decide (11 < block) ||
      decide (s.opUs < s.test.stepUs + stepLimitUs block)) = true := by
    simp [test, step, late, show block ≤ 11 by omega]
  refine ⟨(s.blockTimeout block count).settle, rfl, ?_⟩
  simp only [State.blockTimeout, if_neg running, State.afterBlock_next _ early,
    State.noteVerdict_other _ (show Verdict.incomplete ≠ .pass by decide), State.settle_frame]
  refine ⟨rfl, rfl, recorded_settle (recorded_framed (State.event_recorded (s := s) (t := s) rfl rfl rfl ..) rfl),
    State.settle_eq _⟩

/-! ### The end -/

theorem State.deliver_eng (s : State) (r : Response) : (s.deliver r).eng = s.eng := by simp only [State.deliver_frame]

/-- One waiting command at the end of the shutdown test: SHUTDOWN is completed, every other one stays (R398). -/
def State.completeOne (r : ShutdownRecord) (s : State) (w : Waiting) : State :=
  match w with
  | .shutdown q =>
    ({ s with eng := { s.eng with waiting := s.eng.waiting.filter (· != w) } } : State).deliver
      { req := q, opcode := 0x0006, status := Status.ok.code
        param0 := word (if r.result = 0 || r.result = 3 then 0 else r.result), param1 := word r.failBlock
        arrival := q.arrival }
  | _ => s

theorem State.completeShutdown_eq (s : State) (r : ShutdownRecord) :
    s.completeShutdown r = s.eng.waiting.foldl (State.completeOne r) s := rfl

theorem State.mem_completeOne {s : State} {r : ShutdownRecord} {w x : Waiting}
    (left : x ∈ (s.completeOne r w).eng.waiting) : x ∈ s.eng.waiting ∧ (∀ q, x = .shutdown q → x ≠ w) := by
  cases w with
  | shutdown q =>
    rw [State.completeOne, State.deliver_eng] at left
    obtain ⟨held, other⟩ := List.mem_filter.mp left
    exact ⟨held, fun _ _ => by simpa using other⟩
  | _ => exact ⟨left, fun _ shutdown same => by rw [shutdown] at same; cases same⟩

theorem State.mem_foldl_completeOne {r : ShutdownRecord} {x : Waiting} (l : List Waiting) {s : State}
    (left : x ∈ (l.foldl (State.completeOne r) s).eng.waiting) :
    x ∈ s.eng.waiting ∧ (∀ q, x = .shutdown q → x ∉ l) := by
  induction l generalizing s with
  | nil => exact ⟨left, fun _ _ => List.not_mem_nil⟩
  | cons w l ih =>
    obtain ⟨held, later⟩ := ih left
    obtain ⟨first, other⟩ := State.mem_completeOne held
    exact ⟨first, fun q shutdown => List.not_mem_cons_of_ne_of_not_mem (other q shutdown) (later q shutdown)⟩

/-- The completion of SHUTDOWN takes every request that waits for it off the list (R398). -/
theorem State.completeShutdown_waiting (s : State) (r : ShutdownRecord) (q : Req) :
    .shutdown q ∉ (s.completeShutdown r).eng.waiting := fun left => by
  rw [State.completeShutdown_eq] at left
  obtain ⟨held, gone⟩ := State.mem_foldl_completeOne _ left
  exact gone q rfl held

/-- The end of a LOCKOUT and its record write the cause and the recorder (R212). -/
theorem State.endLockout_only (s : State) (l : List (Nat × Verdict)) :
    s.endLockout l = { s with
      power := { s.power with lockoutCause := (s.endLockout l).power.lockoutCause }
      recorder := (s.endLockout l).recorder } := by
  unfold State.endLockout
  split <;> rfl

theorem State.thaw_running (s : State) : s.thaw.recorder.frozenUntil = none := by
  unfold State.thaw
  split
  · next running => exact Option.isNone_iff_eq_none.mp running
  · rfl

/-- The record written and READY_OFF asserted (R397, R398). -/
def State.recordClosed (s : State) : State :=
  { s with
    savedOpUs := s.opUs
    test := { s.test with record := some s.closeRecord, step := 0 }
    power := { s.power with readyOff := true }
    vote := { s.vote with dwellExpired := false } }

/-- The end recorded, and with it the end of a LOCKOUT (R212). -/
def State.endTold (s : State) : State :=
  (s.recordClosed.event 0xA012 .cl .info s.closeRecord.result s.closeRecord.failBlock
    ((s.opUs - s.test.beganUs) / 1000)).endLockout s.test.verdicts

/-- The comparators found good where both passed (R177). -/
def State.comparatorsTested (s : State) (l : List (Nat × Verdict)) : State :=
  if comparatorsPass l then { s with power := { s.power with comparatorsBad := false } } else s

theorem State.shutdownDone_eq {s : State} (test : s.power.state = .shutdownTest) (step : s.test.step = 13) :
    s.shutdownDone =
      ((s.endTold.comparatorsTested s.test.verdicts).thaw).completeShutdown s.closeRecord := by
  have running : ¬(decide (s.power.state ≠ .shutdownTest) || decide (s.test.step ≠ 13)) = true := by simp [test, step]
  rw [State.shutdownDone, if_neg running]
  rfl

/-- What the end of the shutdown test has written before the freeze ends. -/
theorem State.comparatorsTested_endTold (s : State) :
    ∃ power recorder, s.endTold.comparatorsTested s.test.verdicts =
        { s.recordClosed with power := power, recorder := recorder } ∧
      power.state = s.power.state ∧ power.readyOff = true := by
  have told := State.endLockout_only (s.recordClosed.event 0xA012 .cl .info s.closeRecord.result s.closeRecord.failBlock
    ((s.opUs - s.test.beganUs) / 1000)) s.test.verdicts
  rw [State.endTold]
  generalize State.endLockout _ s.test.verdicts = u at told ⊢
  rw [State.comparatorsTested]
  split <;> rw [told] <;> exact ⟨_, _, rfl, rfl, rfl⟩

theorem execShutdownTestDone_ends {s : State} (test : s.power.state = .shutdownTest) (step : s.test.step = 13) :
    ∃ t r, exec .shutdownTestDone s = .next t ∧ t.test.record = some r ∧
      r.result = (if s.test.hotEnded then 2 else resultOf s.test.verdicts) ∧ r.failBlock = firstNotPassed s.test.verdicts ∧
      r.fused = s.test.fused ∧ r.ashlarMatch = s.test.matched ∧ r.opMs = s.opMs ∧
      t.test = { s.test with record := some r, step := 0 } ∧ t.power.state = .shutdownTest ∧ t.power.readyOff = true ∧
      t.savedOpUs = s.opUs ∧ t.vote = { s.vote with dwellExpired := false } ∧ (∀ q, .shutdown q ∉ t.eng.waiting) ∧
      t.recorder.frozenUntil = none ∧
      t.ash = s.ash ∧ t.sec = s.sec ∧ t.bench = s.bench ∧ t.field = s.field ∧ t.log = s.log := by
  obtain ⟨power, recorder, closed, state, ready⟩ := s.comparatorsTested_endTold
  refine ⟨s.shutdownDone.settle, s.closeRecord, rfl, ?_⟩
  rw [State.shutdownDone_eq test step]
  have waiting := (s.endTold.comparatorsTested s.test.verdicts).thaw.completeShutdown_waiting s.closeRecord
  have running := (s.endTold.comparatorsTested s.test.verdicts).thaw_running
  rw [closed] at waiting running ⊢
  simp only [State.settle_frame, State.completeShutdown_frame, State.thaw_frame]
  exact ⟨rfl, rfl, rfl, rfl, rfl, rfl, rfl, state.trans test, ready, rfl, rfl, waiting, running, rfl, rfl, rfl, rfl, rfl⟩

end Sys2Proof.Machine
end

section
/-! PROOF. The statements about the shutdown test. -/

namespace Sys2Proof.Proofs

open Sys2Proof Sys2Proof.Machine Sys2Proof.Safety

/-- Settles O15: SHUTDOWN begins the shutdown test with an INCOMPLETE record. -/
theorem shutdownBegins : Obligations.ShutdownBegins := by
  unfold Obligations.ShutdownBegins
  intro q s live state notInvasive notTest role
  exact execShutdown_begins live state notInvasive notTest role

/-- Settles O16: the verdict of a logic block by its signature, and a block past its time limit. -/
theorem bistBlockVerdicts : Obligations.BistBlockVerdicts := by
  unfold Obligations.BistBlockVerdicts
  refine ⟨?verdict, ?timeout⟩
  case verdict =>
    intro b s test step _ logic notSpare engine ashlar
    exact execBistBlockDone_logic test step logic notSpare engine ashlar
  case timeout =>
    intro block count s test step _ early late
    exact execBistBlockTimeout_incomplete test step early late

/-- Settles O17: the record of the shutdown test with the result of its verdicts, and what its end closes. -/
theorem shutdownEnds : Obligations.ShutdownEnds := by
  unfold Obligations.ShutdownEnds
  intro s test step
  exact execShutdownTestDone_ends test step

end Sys2Proof.Proofs
end

section
/-! PROOF. Loss of the supply, the backup cell and the always-on island (R214, R216, R374, R376, R390, R391, R443). -/

namespace Sys2Proof.Machine

open Sys2Proof Sys2Proof.Safety

/-- HI_STATE is the last word of a module without power. -/
theorem State.settle_unpowered {s : State} (dark : s.power.state.powered = false) : s.settle = s := by
  simp [State.settle, dark]

/-! ### The supply's end -/

theorem State.supplyLow_cellFitted (s : State) (mv : Nat) : (s.supplyLow mv).power.cellFitted = s.power.cellFitted := by
  simp [State.supplyLow, State.writeFailing_frame, State.enterSafe_power_frame, State.abandonTest_frame,
    State.causeOn_power_frame, State.event_frame]

/-- The module when its energy is spent: the supply fell first, if that was not yet known (R214). -/
def State.supplyFell (s : State) : State := if s.power.causes.contains 0xC010 then s else s.supplyLow 0

theorem State.supplyFell_cellFitted (s : State) : s.supplyFell.power.cellFitted = s.power.cellFitted := by
  unfold State.supplyFell
  split
  · rfl
  · exact s.supplyLow_cellFitted 0

/-- The records in flight are written while the energy lasts (R360). -/
theorem State.supplyFell_inbox {s : State} (told : 0xC010 ∉ s.power.causes) : s.supplyFell.recorder.inbox = [] := by
  unfold State.supplyFell
  rw [if_neg (by simpa using told)]
  exact State.writeFailing_inbox _

theorem State.supplyGone_power (s : State) :
    s.supplyGone.power.state = (if s.power.cellFitted then .standby else .off) ∧ s.supplyGone.power.supply = false := by
  rw [← s.supplyFell_cellFitted]
  exact ⟨rfl, rfl⟩

theorem State.supplyGone_dark (s : State) : s.supplyGone.power.state.powered = false := by
  rw [s.supplyGone_power.1]
  split <;> rfl

theorem State.supplyGone_rt (s : State) : s.supplyGone.rt.alive = s.power.cellFitted := by
  rw [← s.supplyFell_cellFitted]
  change (if s.supplyFell.power.cellFitted = true then
    { s.supplyFell.rt with alive := true, sealPat := none } else Rt.fresh false : Rt).alive = _
  split <;> simp_all [Rt.fresh]

theorem execLogicSupplyRemoved_powered {s : State} (on : s.power.state.powered = true) :
    exec .logicSupplyRemoved s = .next s.supplyGone := by
  simp only [exec, execLogicSupplyRemoved, if_pos on, State.settle_unpowered s.supplyGone_dark]

theorem execLogicSupplyRemoved_goesDark {s : State} (on : s.power.state.powered = true) :
    ∃ t, exec .logicSupplyRemoved s = .next t ∧
      t.power.state = (if s.power.cellFitted then .standby else .off) ∧ t.power.supply = false ∧
      t.rt.alive = s.power.cellFitted ∧ t.ash.state = .disarmed ∧ t.ash.permit = 0 ∧ t.field.demands = 0 ∧
      t.mg.sessions = [] ∧ (0xC010 ∉ s.power.causes → t.recorder.inbox = []) ∧
      t.powerCycle = s.powerCycle ∧ t.opUs = s.opUs ∧ t.log = s.log ∧ t.station = s.station := by
  obtain ⟨-, op, -, cycle, -, station, -, log, -⟩ := s.supplyGone_frame
  obtain ⟨state, supply⟩ := s.supplyGone_power
  exact ⟨s.supplyGone, execLogicSupplyRemoved_powered on, state, supply, s.supplyGone_rt, rfl, rfl, rfl, rfl,
    State.supplyFell_inbox, cycle, op, log, station⟩

/-! ### The backup cell -/

theorem execBackupCellFitted_off {s : State} (off : s.power.state = .off) (mv : Nat) :
    exec (.backupCellFitted mv) s = .next { s with
      power := { s.power with state := .standby, cellFitted := true }
      rt := { alive := true, calLost := decide (mv < 2000) } } := by
  simp only [exec, execBackupCellFitted, if_pos off]
  rw [State.settle_unpowered rfl]
  rfl

theorem execBackupCellRemoved_standby {s : State} (by' : s.power.state = .standby) :
    exec .backupCellRemoved s = .next { s with
      power := { s.power with state := .off, cellFitted := false }, rt := { alive := false } } := by
  simp only [exec, execBackupCellRemoved, if_pos by']
  rw [State.settle_unpowered rfl]
  rfl

/-- With L24 present nothing in RT changes (R443). -/
theorem execBackupCellRemoved_powered {s : State} (on : s.power.state.powered = true) :
    ∃ t, exec .backupCellRemoved s = .next t ∧ t.rt = s.rt ∧
      t = { s with power := { s.power with cellFitted := false }, hi := mirrorOf s t } := by
  have awake : s.power.state ≠ .standby := by
    intro h
    rw [h] at on
    exact absurd on (by decide)
  simp only [exec, execBackupCellRemoved, if_neg awake]
  refine ⟨_, rfl, ?_, ?_⟩
  · simp only [State.settle_frame]
  · exact State.settle_eq _

/-! ### The calendar at a power-up without RT -/

/-- The calendar RT lost restarts at 2000-01-01 and is not set (R391). -/
theorem State.readRt_lost (s : State) (cellMv : Nat) :
    (s.readRt cellMv false).rt.calUs = 946684800000000 ∧ (s.readRt cellMv false).rt.timeSet = false ∧
      (s.readRt cellMv false).rt.alive = s.rt.alive := by
  simp only [State.readRt, Bool.not_false, Bool.true_or, Bool.not_true, Bool.and_false, if_true]
  split_ifs <;> simp only [State.event_frame, State.anchor_frame, and_self]

theorem State.readStaged_rt (s : State) (frozen : Bool) :
    (s.readStaged frozen).rt = { s.rt with stagedMirror := 0 } := by
  simp only [State.readStaged]
  split_ifs <;> simp only [State.event_frame]

theorem State.readBack_rt (s : State) (p : PowerOn) (wasAlive frozen : Bool) :
    (s.readBack p wasAlive frozen).rt = { (s.readRt p.cellMv wasAlive).rt with stagedMirror := 0 } := by
  simp only [State.readBack, State.readUpdate_frame, State.loadStation_frame, State.migrate_frame,
    State.readFuses_frame, State.readAdvance_frame, State.readMode_frame, State.readStaged_rt, State.event_frame]

theorem State.booted_alive (s : State) (p : PowerOn) : (s.booted p).rt.alive = true := by
  simp [State.booted, State.boot_frame, State.powerReset]

theorem State.powerOn_calendarLost (s : State) (p : PowerOn) (bank : (p.bank0Ok || p.bank1Ok) = true) :
    (s.powerOn p false).rt.calUs = 946684800000000 ∧ (s.powerOn p false).rt.timeSet = false ∧
      (s.powerOn p false).rt.alive = true := by
  have live : (s.booted p).power.dead = false := by
    obtain ⟨-, dead, -⟩ := s.booted_power p
    rw [dead, bank]
    rfl
  obtain ⟨cal, unset, alive⟩ := (s.booted p).readRt_lost p.cellMv
  rw [State.powerOn_eq, if_neg (by rw [live]; decide)]
  simp only [State.beginStart_frame, State.readBack_rt, cal, unset, alive, State.booted_alive, and_self]

theorem execPowerOnReset_calendarLost {p : PowerOn} {s : State} (off : s.power.state = .off)
    (gone : s.rt.alive = false) (enough : 16800 ≤ p.mv) (bank : (p.bank0Ok || p.bank1Ok) = true) :
    ∃ t, exec (.powerOnReset p) s = .next t ∧ t.rt.calUs = 946684800000000 ∧ t.rt.timeSet = false ∧
      t.rt.alive = true := by
  have rises : ¬(s.power.state.powered || decide (p.mv < 16800)) = true := by
    rw [off, decide_eq_false (by omega)]
    decide
  simp only [exec, execPowerOnReset, gone]
  rw [if_neg rises]
  refine ⟨_, rfl, ?_⟩
  simp only [State.settle_frame]
  exact s.powerOn_calendarLost p bank

/-! ### RT's comparators in STANDBY -/

/-- Each comparator sets its own sticky flags and clears none (R390). -/
theorem Rt.sample_flags (r : Rt) (c : RtSample) :
    ((r.sample c).sealEdge = true ↔ r.sealEdge = true ∨ ∃ p q, c = .switches p ∧ r.sealPat = some q ∧ q ≠ p) ∧
      ((r.sample c).hot = true ↔ r.hot = true ∨ ∃ x, c = .temperature x ∧ 850 < x) ∧
      ((r.sample c).cellLow = true ↔ r.cellLow = true ∨ ∃ m, c = .cell m ∧ m < 2500) ∧
      ((r.sample c).calLost = true ↔ r.calLost = true ∨ ∃ m, c = .cell m ∧ m < 2000) := by
  cases c with
  | switches p => cases h : r.sealPat <;> simp [Rt.sample, h]
  | temperature x => simp [Rt.sample]
  | cell m => simp [Rt.sample]

theorem execRtComparatorSample_standby {s : State} (by' : s.power.state = .standby) (c : RtSample) :
    exec (.rtComparatorSample c) s = .next { s with rt := s.rt.sample c } := by
  have dark : s.power.state.powered = false := by
    rw [by']
    rfl
  simp only [exec, execRtComparatorSample, if_pos by']
  exact congrArg Host.Outcome.next (State.settle_unpowered (s := { s with rt := s.rt.sample c }) dark)

end Sys2Proof.Machine

namespace Sys2Proof.Proofs

open Sys2Proof Sys2Proof.Machine Sys2Proof.Safety

/-- Settles O13: the supply's end is `State.supplyGone`, in whose two states HI_STATE is not refreshed; the cell's
arrival and removal are explicit states; a power-up that found RT dead restarts the calendar before anything else is read
back (log entry 74). -/
theorem powerLossAndBackup : Obligations.PowerLossAndBackup := by
  unfold Obligations.PowerLossAndBackup
  refine ⟨?gone, ?fitted, ?removed, ?inRun, ?calendar, ?sampled⟩
  case gone =>
    intro s on
    exact execLogicSupplyRemoved_goesDark on
  case fitted =>
    intro mv s off
    exact ⟨_, execBackupCellFitted_off off mv, rfl, rfl, rfl⟩
  case removed =>
    intro s by'
    exact ⟨_, execBackupCellRemoved_standby by', rfl, rfl, rfl⟩
  case inRun =>
    intro s on
    exact execBackupCellRemoved_powered on
  case calendar =>
    intro p s off gone enough bank
    exact execPowerOnReset_calendarLost off gone enough bank
  case sampled =>
    intro c s by'
    exact ⟨_, execRtComparatorSample_standby by' c, rfl, s.rt.sample_flags c⟩

end Sys2Proof.Proofs
end

section
/-! PROOF. Blocks and ring entries written into the window: what they read back as, what they leave (R308, R309, R314,
R318). -/

namespace Sys2Proof.Machine

open Sys2Proof Sys2Proof.Safety

/-! ### Byte strings of the window -/

theorem Memory.readBytes_congr {m m' : List Host.Cell} {a n : Nat}
    (same : ∀ c, a ≤ c → c < a + n → Memory.read m' c = Memory.read m c) :
    Memory.readBytes m' a n = Memory.readBytes m a n := by
  induction n generalizing a with
  | zero => rfl
  | succ n ih =>
    rw [Memory.readBytes, Memory.readBytes, same a (Nat.le_refl a) (by omega),
      ih fun c low high => same c (by omega) (by omega)]

/-- A byte string written beside another leaves it. -/
theorem Memory.readBytes_writeBytes_apart {m : List Host.Cell} {a b n : Nat} {bs : List Byte} (ok : Memory.wf m = true)
    (inside : a + bs.length ≤ 0x100000) (apart : b + n ≤ a ∨ a + bs.length ≤ b) :
    Memory.readBytes (Memory.writeBytes m a bs) b n = Memory.readBytes m b n :=
  Memory.readBytes_congr fun c low high => Memory.read_writeBytes_other bs ok inside (by omega)

theorem le_length (k n : Nat) : (le k n).length = k := by
  induction k generalizing n with
  | zero => rfl
  | succ k ih => rw [le, List.length_cons, ih]

theorem padTo_length (k : Nat) (bs : List Byte) : (padTo k bs).length = k := by
  simp [padTo]
  omega

/-- A block is its header of 32 bytes and its payload (R310). -/
theorem Response.bytes_length (r : Response) : r.bytes.length = 32 + r.payload.length := by
  simp [Response.bytes, le_length]
  omega

/-- An entry of the ring has 64 bytes (R317). -/
theorem Note.bytes_length (n : Note) (k : Nat) : (n.bytes k).length = 64 := by
  simp [Note.bytes, le_length, padTo_length]

theorem slot_lt (q : Req) : q.slot < 64 := Nat.mod_lt _ (by decide)

/-! ### HI_IRQ_STAT and the DONE bits -/

theorem State.irq_stat (s : State) (v : Nat) : (s.irq v).hi.irqStat = s.hi.irqStat ||| (1#4 <<< v) := by
  simp only [State.irq]
  split <;> rfl

theorem State.irq_only (s : State) (v : Nat) :
    s.irq v = { s with hi := (s.irq v).hi, outbox := (s.irq v).outbox } := by
  simp only [State.irq]
  split <;> rfl

theorem getLsbD_or_bit_same {w slot : Nat} (x : BitVec w) (inside : slot < w) :
    (x ||| (1#w <<< slot)).getLsbD slot = true := by
  rw [BitVec.getLsbD_or, ← BitVec.twoPow_eq, BitVec.getLsbD_twoPow]
  simp [inside]

theorem getLsbD_or_bit_other {w slot n : Nat} (x : BitVec w) (other : n ≠ slot) :
    (x ||| (1#w <<< slot)).getLsbD n = x.getLsbD n := by
  rw [BitVec.getLsbD_or, ← BitVec.twoPow_eq, BitVec.getLsbD_twoPow]
  simp [Ne.symm other]

/-- What reaches the host through the window: registers of the host island and MSI writes; no bit it has to clear is
cleared. -/
structure Posted (s t : State) : Prop where
  done : ∀ n, s.hi.done.getLsbD n = true → t.hi.done.getLsbD n = true
  irq : ∀ n, s.hi.irqStat.getLsbD n = true → t.hi.irqStat.getLsbD n = true
  heldDone : t.hi.heldDone = s.hi.heldDone
  only : t = { s with hi := t.hi, outbox := t.outbox }

theorem Posted.refl (s : State) : Posted s s := ⟨fun _ h => h, fun _ h => h, rfl, rfl⟩

theorem Posted.trans {s t u : State} (h : Posted s t) (k : Posted t u) : Posted s u := by
  refine ⟨fun n set => k.done n (h.done n set), fun n set => k.irq n (h.irq n set), k.heldDone.trans h.heldDone, ?_⟩
  have first := h.only
  have second := k.only
  rw [first] at second
  exact second

/-! ### A response in its slot -/

section Written

variable {s : State} {r : Response}

theorem State.writeResponse_bar2 (short : r.bytes.length ≤ 4096) : (s.writeResponse r).hi.bar2 =
    Memory.writeBytes s.hi.bar2 (0x40000 + r.req.slot * 0x1000) r.bytes := by
  simp only [State.writeResponse, State.irq_hi_frame, List.take_of_length_le short]

theorem State.writeResponse_done (s : State) (r : Response) :
    (s.writeResponse r).hi.done = s.hi.done ||| (1#64 <<< r.req.slot) := by
  simp only [State.writeResponse, State.irq_hi_frame]

theorem State.writeResponse_irqStat (s : State) (r : Response) :
    (s.writeResponse r).hi.irqStat = s.hi.irqStat ||| (1#4 <<< 0) := by
  simp only [State.writeResponse, State.irq_stat]

theorem State.writeResponse_posted (s : State) (r : Response) : Posted s (s.writeResponse r) where
  done n set := by rw [State.writeResponse_done, BitVec.getLsbD_or, set, Bool.true_or]
  irq n set := by rw [State.writeResponse_irqStat, BitVec.getLsbD_or, set, Bool.true_or]
  heldDone := by simp only [State.writeResponse_hi_frame]
  only := State.irq_only _ 0

theorem State.writeResponse_doneSet (s : State) (r : Response) :
    (s.writeResponse r).hi.done.getLsbD r.req.slot = true ∧ (s.writeResponse r).hi.irqStat.getLsbD 0 = true := by
  rw [State.writeResponse_done, State.writeResponse_irqStat]
  exact ⟨getLsbD_or_bit_same _ (slot_lt r.req), getLsbD_or_bit_same _ (by decide)⟩

theorem response_inside (short : r.bytes.length ≤ 4096) :
    0x40000 + r.req.slot * 0x1000 + r.bytes.length ≤ 0x100000 := by
  have slot := slot_lt r.req
  omega

theorem State.writeResponse_window (ok : WindowOk s) (short : r.bytes.length ≤ 4096) : WindowOk (s.writeResponse r) := by
  unfold WindowOk
  rw [State.writeResponse_bar2 short]
  exact Memory.writeBytes_wf _ ok (response_inside short)

theorem State.writeResponse_readBack (ok : WindowOk s) (short : r.bytes.length ≤ 4096) :
    Memory.readBytes (s.writeResponse r).hi.bar2 (0x40000 + r.req.slot * 0x1000) r.bytes.length = r.bytes := by
  rw [State.writeResponse_bar2 short]
  exact Memory.readBytes_writeBytes _ ok (response_inside short)

theorem State.writeResponse_read_other (ok : WindowOk s) (short : r.bytes.length ≤ 4096) {a : Nat}
    (outside : a < 0x40000 + r.req.slot * 0x1000 ∨ 0x40000 + r.req.slot * 0x1000 + r.bytes.length ≤ a) :
    Memory.read (s.writeResponse r).hi.bar2 a = Memory.read s.hi.bar2 a := by
  rw [State.writeResponse_bar2 short]
  exact Memory.read_writeBytes_other _ ok (response_inside short) outside

/-- A response leaves the block of another slot. -/
theorem State.writeResponse_readBytes_other (ok : WindowOk s) (short : r.bytes.length ≤ 4096) {n k : Nat}
    (other : n ≠ r.req.slot) (within : k ≤ 4096) :
    Memory.readBytes (s.writeResponse r).hi.bar2 (0x40000 + n * 0x1000) k =
      Memory.readBytes s.hi.bar2 (0x40000 + n * 0x1000) k := by
  rw [State.writeResponse_bar2 short]
  exact Memory.readBytes_writeBytes_apart ok (response_inside short) (by omega)

end Written

/-! ### Several responses -/

theorem foldl_writeResponse_posted (l : List Response) (s : State) : Posted s (l.foldl State.writeResponse s) := by
  induction l generalizing s with
  | nil => exact .refl s
  | cons r l ih => exact (s.writeResponse_posted r).trans (ih _)

theorem foldl_writeResponse_window {l : List Response} {s : State} (ok : WindowOk s)
    (short : ∀ r ∈ l, r.bytes.length ≤ 4096) : WindowOk (l.foldl State.writeResponse s) := by
  induction l generalizing s with
  | nil => exact ok
  | cons r l ih =>
    obtain ⟨first, rest⟩ := List.forall_mem_cons.mp short
    exact ih (State.writeResponse_window ok first) rest

theorem foldl_writeResponse_readBytes_other {l : List Response} {s : State} (ok : WindowOk s)
    (short : ∀ r ∈ l, r.bytes.length ≤ 4096) {n k : Nat} (other : ∀ r ∈ l, n ≠ r.req.slot) (within : k ≤ 4096) :
    Memory.readBytes (l.foldl State.writeResponse s).hi.bar2 (0x40000 + n * 0x1000) k =
      Memory.readBytes s.hi.bar2 (0x40000 + n * 0x1000) k := by
  induction l generalizing s with
  | nil => rfl
  | cons r l ih =>
    obtain ⟨first, rest⟩ := List.forall_mem_cons.mp short
    obtain ⟨apart, others⟩ := List.forall_mem_cons.mp other
    exact (ih (State.writeResponse_window ok first) rest others).trans
      (State.writeResponse_readBytes_other ok first apart within)

/-- Responses for different slots all stand in the window, each with its DONE bit. -/
theorem foldl_writeResponse_each {l : List Response} {s : State} (ok : WindowOk s)
    (short : ∀ r ∈ l, r.bytes.length ≤ 4096) (distinct : l.Pairwise (fun x y => x.req.slot ≠ y.req.slot)) :
    ∀ r ∈ l, Memory.readBytes (l.foldl State.writeResponse s).hi.bar2 (0x40000 + r.req.slot * 0x1000) r.bytes.length =
        r.bytes ∧ (l.foldl State.writeResponse s).hi.done.getLsbD r.req.slot = true ∧
      (l.foldl State.writeResponse s).hi.irqStat.getLsbD 0 = true := by
  induction l generalizing s with
  | nil => exact fun r mem => absurd mem List.not_mem_nil
  | cons x l ih =>
    obtain ⟨first, rest⟩ := List.forall_mem_cons.mp short
    obtain ⟨apart, others⟩ := List.pairwise_cons.mp distinct
    have window := State.writeResponse_window ok first
    intro r mem
    rcases List.mem_cons.mp mem with rfl | mem
    · have later := foldl_writeResponse_posted l (s.writeResponse r)
      obtain ⟨doneSet, told⟩ := s.writeResponse_doneSet r
      exact ⟨(foldl_writeResponse_readBytes_other window rest apart first).trans (State.writeResponse_readBack ok first),
        later.done _ doneSet, later.irq _ told⟩
    · exact ih window rest others r mem

theorem execHeldCompletionDelivery_delivers {l : List Response} {s : State} (up : s.hi.downMg = false)
    (alive : s.mg.alive = true) (ok : WindowOk s) (held : s.hi.heldDone = l) (short : ∀ r ∈ l, r.bytes.length ≤ 4096)
    (distinct : l.Pairwise (fun x y => x.req.slot ≠ y.req.slot)) :
    ∃ t, exec .heldCompletionDelivery s = .next t ∧ t.hi.heldDone = [] ∧ WindowOk t ∧
      (∀ r ∈ l, Memory.readBytes t.hi.bar2 (0x40000 + r.req.slot * 0x1000) r.bytes.length = r.bytes ∧
        t.hi.done.getLsbD r.req.slot = true ∧ t.hi.irqStat.getLsbD 0 = true) ∧
      t = { s with hi := t.hi, outbox := t.outbox } := by
  have open' : ¬(s.hi.downMg || !s.mg.alive) = true := by simp [up, alive]
  have ok' : WindowOk { s with hi := { s.hi with heldDone := [] } } := ok
  simp only [exec, execHeldCompletionDelivery, if_neg open', held]
  generalize start : ({ s with hi := { s.hi with heldDone := [] } } : State) = u at *
  have posted := foldl_writeResponse_posted l u
  refine ⟨_, rfl, ?_, ?_, ?_, ?_⟩
  · rw [State.settle_hi_heldDone, posted.heldDone, ← start]
  · unfold WindowOk
    rw [State.settle_hi_bar2]
    exact foldl_writeResponse_window ok' short
  · simp only [State.settle_hi_bar2, State.settle_hi_done, State.settle_hi_irqStat]
    exact foldl_writeResponse_each ok' short distinct
  · have only := posted.only
    rw [State.settle_eq]
    generalize (l.foldl State.writeResponse u).settle.hi = h
    rw [only, ← start]

/-! ### A response delivered at once -/

/-- The response that the management core gives to a request it decides (R329). -/
def Response.ofMg (op : Nat) (q : Req) (st : Status) (p0 p1 : Nat) (data : List Byte) : Response :=
  { req := q, opcode := op, status := st.code, param0 := word p0, param1 := word p1, payload := data }

/-- The requests outstanding without those of a slot. -/
def State.tagFreed (s : State) (q : Req) : State :=
  { s with mg := { s.mg with outstanding := s.mg.outstanding.filter (fun p => !(p.1.sameTag q)) } }

theorem State.deliver_reaches {s : State} {r : Response} (reaches : Reaches s r.req) :
    s.deliver r = (s.tagFreed r.req).writeResponse r := by
  obtain ⟨alive, known, up, pcie⟩ := reaches
  simp [State.deliver, State.tagFreed, alive, known, up, pcie]

theorem State.tagFreed_free {s : State} {q : Req} (pcie : q.via = .pcie) :
    ∀ p ∈ (s.tagFreed q).mg.outstanding, ¬(p.1.via = .pcie ∧ p.1.slot = q.slot) := by
  rintro p mem ⟨via, slot⟩
  simp [State.tagFreed, Req.sameTag, via, slot, pcie] at mem

/-- The answer to a request that reaches the host: its block, its DONE bit, and no other byte of the window (R314). -/
theorem answer_inSlot {s : State} {q : Req} (ok : WindowOk s) (reaches : Reaches s q) (op p0 : Nat) {data : List Byte}
    (short : data.length ≤ 4064) :
    ∃ (t : State) (r : Response), ((s.heard q).answer op q .ok p0 0 data).settle = t ∧ r.req = q ∧ r.opcode = op ∧
      r.status = 0 ∧ r.param0 = word p0 ∧ r.payload = data ∧ r.arrival = 0xFFFFFFFF ∧
      Memory.readBytes t.hi.bar2 (0x40000 + q.slot * 0x1000) r.bytes.length = r.bytes ∧
      (∀ a, a < 0x40000 + q.slot * 0x1000 ∨ 0x40000 + q.slot * 0x1000 + r.bytes.length ≤ a →
        Memory.read t.hi.bar2 a = Memory.read s.hi.bar2 a) ∧ WindowOk t ∧
      t.hi.done.getLsbD q.slot = true ∧ (∀ n, n ≠ q.slot → t.hi.done.getLsbD n = s.hi.done.getLsbD n) ∧
      t.hi.irqStat.getLsbD 0 = true ∧ (∀ p ∈ t.mg.outstanding, ¬(p.1.via = .pcie ∧ p.1.slot = q.slot)) ∧
      t = { s with mg := t.mg, hi := t.hi, outbox := t.outbox } := by
  have ⟨_, _, _, pcie⟩ := reaches
  generalize response : Response.ofMg op q .ok p0 0 data = r
  have short' : r.bytes.length ≤ 4096 := by
    rw [Response.bytes_length, ← response]
    exact Nat.add_le_add_left short 32
  have asked : r.req = q := by rw [← response]; rfl
  have written : (s.heard q).answer op q .ok p0 0 data = ((s.heard q).tagFreed q).writeResponse r := by
    rw [← response]
    exact State.deliver_reaches reaches
  generalize freed : (s.heard q).tagFreed q = u at written
  have ok' : WindowOk u := by rw [← freed]; exact ok
  obtain ⟨doneSet, told⟩ := u.writeResponse_doneSet r
  refine ⟨_, r, rfl, asked, ?_, ?_, ?_, ?_, ?_, ?_, ?_, ?_, ?_, ?_, ?_, ?_, ?_⟩
  iterate 5 (rw [← response]; rfl)
  all_goals rw [written]
  · rw [State.settle_hi_bar2, ← asked]
    exact State.writeResponse_readBack ok' short'
  · intro a outside
    rw [State.settle_hi_bar2, State.writeResponse_read_other ok' short' (by rw [asked]; exact outside), ← freed]
    rfl
  · unfold WindowOk
    rw [State.settle_hi_bar2]
    exact State.writeResponse_window ok' short'
  · rw [State.settle_hi_done, ← asked]
    exact doneSet
  · intro n other
    rw [State.settle_hi_done, State.writeResponse_done, asked, getLsbD_or_bit_other _ other, ← freed]
    rfl
  · rw [State.settle_hi_irqStat]
    exact told
  · simp only [State.settle_frame, State.writeResponse_frame, ← freed]
    exact State.tagFreed_free pcie
  · have only := (u.writeResponse_posted r).only
    rw [State.settle_eq]
    generalize (u.writeResponse r).settle.hi = h
    rw [only, ← freed]
    rfl

end Sys2Proof.Machine
end

section
/-! PROOF. The ring of notifications, the doorbells and the datagrams of X8 (R312, R313, R317, R318, R320, R322, R323). -/

namespace Sys2Proof.Machine

open Sys2Proof Sys2Proof.Safety

/-! ### An entry of the ring -/

/-- One held notification written, while the ring has room (R320). -/
def State.noteWritten (s : State) (p : Nat × Note) : State :=
  if s.hi.ringRoom then ({ s with hi := { s.hi with heldNotes := s.hi.heldNotes.tail } }).ringWrite p.1 p.2 else s

theorem State.flushHeld_afterReset {s : State} (up : s.hi.downMg = false) (alive : s.mg.alive = true)
    (none' : s.flushReset.hi.lostNotes = 0) :
    s.flushHeld = s.flushReset.hi.heldNotes.foldl State.noteWritten s.flushReset := by
  simp only [State.flushHeld]
  rw [if_neg (show ¬(s.hi.downMg || !s.mg.alive) = true by simp [up, alive])]
  generalize s.flushReset = u at *
  rw [if_neg (show ¬(decide (0 < u.hi.lostNotes) && u.hi.ringRoom) = true by simp [none']), if_neg (by omega)]
  rfl

/-- A held LINK_RESET at the front goes first, as it would in its turn (R319, R326). -/
theorem State.flushReset_eq {s : State} {p : Nat × Note} {l : List (Nat × Note)} (held : s.hi.heldNotes = p :: l) :
    s.flushReset = s ∨ (s.hi.ringRoom = true ∧ s.flushReset = s.noteWritten p) := by
  simp only [State.flushReset, State.noteWritten, held, List.tail_cons]
  split
  next first =>
    obtain ⟨-, room⟩ := (Bool.and_eq_true ..).mp first
    exact .inr ⟨room, (if_pos room).symm⟩
  next => exact .inl rfl

/-- With nothing lost the ring takes the held notifications in their order. -/
theorem State.flushHeld_eq {s : State} (up : s.hi.downMg = false) (alive : s.mg.alive = true) (none' : s.hi.lostNotes = 0) :
    s.flushHeld = s.hi.heldNotes.foldl State.noteWritten s := by
  cases held : s.hi.heldNotes with
  | nil =>
    have reset : s.flushReset = s := by rw [State.flushReset, held]
    rw [State.flushHeld_afterReset up alive (by rw [reset, none']), reset, held]
  | cons p l =>
    rcases State.flushReset_eq held with reset | ⟨room, reset⟩
    · rw [State.flushHeld_afterReset up alive (by rw [reset, none']), reset, held]
    · have written : s.noteWritten p =
          ({ s with hi := { s.hi with heldNotes := s.hi.heldNotes.tail } }).ringWrite p.1 p.2 := if_pos room
      have rest : (s.noteWritten p).hi.heldNotes = l := by
        rw [written]
        simp only [State.ringWrite_hi_frame, held, List.tail_cons]
      have lost : s.flushReset.hi.lostNotes = 0 := by
        rw [reset, written]
        simpa only [State.ringWrite_hi_frame] using none'
      rw [State.flushHeld_afterReset up alive lost, reset, rest, List.foldl_cons]

section Entry

variable {s : State}

theorem ring_inside (h : BitVec 8) (n : Note) (k : Nat) : 0x80000 + h.toNat * 64 + (n.bytes k).length ≤ 0x100000 := by
  have byte := h.isLt
  rw [Note.bytes_length]
  omega

theorem State.ringWrite_bar2 (s : State) (k : Nat) (n : Note) : (s.ringWrite k n).hi.bar2 =
    Memory.writeBytes s.hi.bar2 (0x80000 + s.hi.head.toNat * 64) (n.bytes k) := by
  simp only [State.ringWrite, State.irq_hi_frame]

theorem State.ringWrite_head (s : State) (k : Nat) (n : Note) : (s.ringWrite k n).hi.head = s.hi.head + 1 := by
  simp only [State.ringWrite, State.irq_hi_frame]

theorem State.ringWrite_irqStat (s : State) (k : Nat) (n : Note) : (s.ringWrite k n).hi.irqStat =
    s.hi.irqStat ||| (1#4 <<< (if faultKind n.kind then 2 else 1)) := by
  simp only [State.ringWrite, State.irq_stat]

theorem State.ringWrite_posted (s : State) (k : Nat) (n : Note) : Posted s (s.ringWrite k n) where
  done i set := by simpa only [State.ringWrite_hi_frame] using set
  irq i set := by rw [State.ringWrite_irqStat, BitVec.getLsbD_or, set, Bool.true_or]
  heldDone := by simp only [State.ringWrite_hi_frame]
  only := State.irq_only _ _

theorem State.ringWrite_told (s : State) (k : Nat) (n : Note) :
    (s.ringWrite k n).hi.irqStat.getLsbD (if faultKind n.kind then 2 else 1) = true := by
  rw [State.ringWrite_irqStat]
  exact getLsbD_or_bit_same _ (by split <;> decide)

theorem State.ringWrite_window (ok : WindowOk s) (k : Nat) (n : Note) : WindowOk (s.ringWrite k n) := by
  unfold WindowOk
  rw [State.ringWrite_bar2]
  exact Memory.writeBytes_wf _ ok (ring_inside ..)

theorem State.ringWrite_readBack (ok : WindowOk s) (k : Nat) (n : Note) :
    Memory.readBytes (s.ringWrite k n).hi.bar2 (0x80000 + s.hi.head.toNat * 64) 64 = n.bytes k := by
  have back := Memory.readBytes_writeBytes (n.bytes k) ok (ring_inside s.hi.head n k)
  rw [Note.bytes_length] at back
  rw [State.ringWrite_bar2]
  exact back

/-- An entry leaves every other entry of the ring. -/
theorem State.ringWrite_readBytes_other (ok : WindowOk s) (k : Nat) (n : Note) {j : BitVec 8} (other : j ≠ s.hi.head) :
    Memory.readBytes (s.ringWrite k n).hi.bar2 (0x80000 + j.toNat * 64) 64 =
      Memory.readBytes s.hi.bar2 (0x80000 + j.toNat * 64) 64 := by
  have apart : j.toNat ≠ s.hi.head.toNat := fun same => other (BitVec.eq_of_toNat_eq same)
  rw [State.ringWrite_bar2]
  exact Memory.readBytes_writeBytes_apart ok (ring_inside ..) (by rw [Note.bytes_length]; omega)

end Entry

/-! ### Several entries -/

/-- The entries that a list of held notifications takes from HEAD upwards, and what they leave. -/
structure RingTakes (l : List (Nat × Note)) (s t : State) : Prop where
  window : WindowOk t
  held : t.hi.heldNotes = []
  head : t.hi.head = s.hi.head + BitVec.ofNat 8 l.length
  others : ∀ j : BitVec 8, (∀ i < l.length, j ≠ s.hi.head + BitVec.ofNat 8 i) →
    Memory.readBytes t.hi.bar2 (0x80000 + j.toNat * 64) 64 = Memory.readBytes s.hi.bar2 (0x80000 + j.toNat * 64) 64
  entries : ∀ (i k : Nat) (n : Note), l[i]? = some (k, n) →
    Memory.readBytes t.hi.bar2 (0x80000 + (s.hi.head + BitVec.ofNat 8 i).toNat * 64) 64 = n.bytes k ∧
    t.hi.irqStat.getLsbD (if faultKind n.kind then 2 else 1) = true
  posted : t = { s with hi := t.hi, outbox := t.outbox }
  irq : ∀ n, s.hi.irqStat.getLsbD n = true → t.hi.irqStat.getLsbD n = true

theorem ringRoom_of_few {h : HostIf} {n : Nat} (few : (h.head - h.tail).toNat + (n + 1) ≤ 255) : h.ringRoom = true := by
  unfold HostIf.ringRoom
  rw [bne_iff_ne]
  intro full
  have : h.head - h.tail = 255#8 := by
    rw [← full]
    bv_omega
  rw [this] at few
  have : (255#8).toNat = 255 := rfl
  omega

theorem head_next_ne (h : BitVec 8) {i : Nat} (few : i < 254) : h ≠ h + 1 + BitVec.ofNat 8 i := by
  bv_omega

theorem head_next_add (h : BitVec 8) (n : Nat) : h + 1 + BitVec.ofNat 8 n = h + BitVec.ofNat 8 (n + 1) := by
  bv_omega

theorem foldl_noteWritten_takes {l : List (Nat × Note)} {s : State} (ok : WindowOk s) (held : s.hi.heldNotes = l)
    (few : (s.hi.head - s.hi.tail).toNat + l.length ≤ 255) : RingTakes l s (l.foldl State.noteWritten s) := by
  induction l generalizing s with
  | nil =>
    exact ⟨ok, held, (BitVec.add_zero _).symm, fun _ _ => rfl, fun i k n at' => by simp at at', rfl, fun _ set => set⟩
  | cons p l ih =>
    obtain ⟨k, n⟩ := p
    rw [List.length_cons] at few
    have room := ringRoom_of_few few
    generalize start : ({ s with hi := { s.hi with heldNotes := s.hi.heldNotes.tail } } : State) = u
    have first : s.noteWritten (k, n) = u.ringWrite k n := by rw [State.noteWritten, if_pos room, start]
    have ok' : WindowOk u := by rw [← start]; exact ok
    have head' : u.hi.head = s.hi.head := by rw [← start]
    have bar' : u.hi.bar2 = s.hi.bar2 := by rw [← start]
    have head := (u.ringWrite_head k n).trans (congrArg (· + 1) head')
    have rest : (u.ringWrite k n).hi.heldNotes = l := by
      simp only [State.ringWrite_hi_frame, ← start, held, List.tail_cons]
    have tail : (u.ringWrite k n).hi.tail = s.hi.tail := by simp only [State.ringWrite_hi_frame, ← start]
    have few' : ((u.ringWrite k n).hi.head - (u.ringWrite k n).hi.tail).toNat + l.length ≤ 255 := by
      rw [head, tail]
      have : (s.hi.head + 1 - s.hi.tail).toNat ≤ (s.hi.head - s.hi.tail).toNat + 1 := by
        bv_omega
      omega
    have later := ih (State.ringWrite_window ok' k n) rest few'
    have own : Memory.readBytes (u.ringWrite k n).hi.bar2 (0x80000 + s.hi.head.toNat * 64) 64 = n.bytes k := by
      rw [← head']
      exact State.ringWrite_readBack ok' k n
    have posted := (u.ringWrite_posted k n)
    rw [List.foldl_cons, first]
    generalize (l.foldl State.noteWritten (u.ringWrite k n)) = t at *
    refine ⟨later.window, later.held, ?_, ?_, ?_, ?_, ?_⟩
    · rw [later.head, head, List.length_cons, head_next_add]
    · intro j apart
      have beyond : ∀ i < l.length, j ≠ (u.ringWrite k n).hi.head + BitVec.ofNat 8 i := by
        intro i inside
        rw [head, head_next_add]
        exact apart (i + 1) (Nat.succ_lt_succ inside)
      have here : j ≠ u.hi.head := by
        rw [head', ← BitVec.add_zero s.hi.head]
        exact apart 0 (Nat.succ_pos _)
      rw [later.others j beyond, State.ringWrite_readBytes_other ok' k n here, bar']
    · intro i k' n' at'
      cases i with
      | zero =>
        obtain ⟨rfl, rfl⟩ : k = k' ∧ n = n' := by simpa using at'
        have beyond : ∀ i < l.length, s.hi.head ≠ (u.ringWrite k n).hi.head + BitVec.ofNat 8 i := by
          intro i inside
          rw [head]
          exact head_next_ne _ (by omega)
        refine ⟨?_, later.irq _ (u.ringWrite_told k n)⟩
        rw [show s.hi.head + BitVec.ofNat 8 0 = s.hi.head from BitVec.add_zero _, later.others _ beyond, own]
      | succ i =>
        have entry := later.entries i k' n' (by simpa using at')
        rw [head, head_next_add] at entry
        exact entry
    · have only := later.posted
      have once := posted.only
      rw [once, ← start] at only
      exact only
    · intro i set
      exact later.irq i (posted.irq i (by rw [← start]; exact set))

theorem execNotificationFlush_flushes {l : List (Nat × Note)} {s : State} (up : s.hi.downMg = false)
    (alive : s.mg.alive = true) (ok : WindowOk s) (none' : s.hi.lostNotes = 0) (held : s.hi.heldNotes = l)
    (few : (s.hi.head - s.hi.tail).toNat + l.length ≤ 255) :
    ∃ t, exec .notificationFlush s = .next t ∧ t.hi.heldNotes = [] ∧
      t.hi.head = s.hi.head + BitVec.ofNat 8 l.length ∧
      (∀ (i k : Nat) (n : Note), l[i]? = some (k, n) →
        Memory.readBytes t.hi.bar2 (0x80000 + (s.hi.head + BitVec.ofNat 8 i).toNat * 64) 64 = n.bytes k ∧
        t.hi.irqStat.getLsbD (if faultKind n.kind then 2 else 1) = true) ∧
      t = { s with hi := t.hi, outbox := t.outbox } := by
  have takes := foldl_noteWritten_takes ok held few
  simp only [exec, execNotificationFlush, State.flushHeld_eq up alive none', held]
  generalize l.foldl State.noteWritten s = u at *
  refine ⟨_, rfl, ?_, ?_, ?_, ?_⟩
  · rw [State.settle_hi_heldNotes, takes.held]
  · rw [State.settle_hi_head, takes.head]
  · simp only [State.settle_hi_bar2, State.settle_hi_irqStat]
    exact takes.entries
  · have only := takes.posted
    rw [State.settle_eq]
    generalize u.settle.hi = h
    rw [only]

/-! ### A request taken into the queue of the cluster -/

/-- The request with its arrival number, outstanding and queued, its count raised (R65, R221, R313). -/
def State.queued (s : State) (op : Nat) (q : Req) : State :=
  let q1 : Req := { q with arrival := s.mg.arrival }
  let s1 := s.setXing .mgCl { s.xing .mgCl with counter := (s.xing .mgCl).counter.raise }
  { s1 with mg := { s1.mg with
    arrival := nextArrival s.mg.arrival, outstanding := s1.mg.outstanding ++ [(q1, op)],
    queue := s1.mg.queue ++ [{ opcode := op, req := q1, atUs := s.opUs }] } }

theorem State.accept_cluster {op : Nat} (cluster : clusterDecides op = true) (s : State) (q : Req) :
    s.accept op q = s.queued op q := if_pos cluster

theorem State.queued_counter (s : State) (op : Nat) (q : Req) :
    ((s.queued op q).xing .mgCl).counter = (s.xing .mgCl).counter.raise :=
  congrArg Xing.counter (State.setXing_xing_same ..)

theorem State.settle_xing (s : State) (x : Crossing) : s.settle.xing x = s.xing x := by
  rw [State.settle_eq]
  rfl

/-! ### Doorbells -/

theorem mailboxLive_powered {s : State} (live : s.mailboxLive = true) : s.power.state.powered = true :=
  ((Bool.and_eq_true ..).mp live).1

/-- A doorbell for a free tag: counted, the tag busy, the block checked (R229, R312). -/
def State.rung (s : State) (slot : Nat) : State :=
  { s with hi := { s.hi with
    doorbells := s.hi.doorbells.cross false, busy := s.hi.busy ||| (1#64 <<< slot) } }

theorem State.ring_free {u : State} {v : Word} {slot : Nat} (answers : Answers u) (up : u.hi.downMg = false)
    (number : slot = v.toNat % 64) (free : u.hi.busy.getLsbD slot = false) :
    u.ring v = match transportCheck (u.hi.blockAt slot) slot true with
      | some st => (u.rung slot).respondAt slot (rejection (u.hi.blockAt slot) (blkRequest (u.hi.blockAt slot) .pcie 0 0) st)
      | none => (u.rung slot).accept (blkOpcode (u.hi.blockAt slot)) (blkRequest (u.hi.blockAt slot) .pcie 0 0) := by
  obtain ⟨live, alive⟩ := answers
  have rung : u.rung slot = { u with hi := { u.hi with
      doorbells := u.hi.doorbells.cross u.hi.downMg, busy := u.hi.busy ||| (1#64 <<< slot) } } := by
    rw [up]
    rfl
  rw [rung]
  subst number
  refine (if_neg ?up).trans ((if_neg ?live).trans ((if_neg ?free).trans rfl))
  case up => exact Bool.eq_false_iff.mp up
  case live => exact Bool.eq_false_iff.mp (show (!u.mailboxLive || !u.mg.alive) = false by rw [live, alive]; rfl)
  case free => exact Bool.eq_false_iff.mp free

theorem execDoorbell_free {v : Word} {b c : List Byte} {slot : Nat} {s : State} (answers : Answers s)
    (up : s.hi.downMg = false) (number : slot = v.toNat % 64) (free : s.hi.busy.getLsbD slot = false)
    (block : c = (s.writeSlot slot b).hi.blockAt slot) :
    exec (.doorbell v b) s = .next (match transportCheck c slot true with
      | some st => ((s.writeSlot slot b).rung slot).respondAt slot (rejection c (blkRequest c .pcie 0 0) st)
      | none => ((s.writeSlot slot b).rung slot).accept (blkOpcode c) (blkRequest c .pcie 0 0)).settle := by
  have powered := mailboxLive_powered answers.1
  have written : Answers (s.writeSlot slot b) := answers
  subst block
  simp only [exec, execDoorbell, if_pos powered, ← number]
  rw [State.ring_free written up number free]

theorem State.queued_only (s : State) (op : Nat) (q : Req) :
    s.queued op q = { s with mg := (s.queued op q).mg, xings := (s.queued op q).xings } := rfl

theorem State.queued_hi (s : State) (op : Nat) (q : Req) : (s.queued op q).hi = s.hi := rfl

theorem State.rung_busy (s : State) (slot : Nat) : (s.rung slot).hi.busy = s.hi.busy ||| (1#64 <<< slot) := rfl

theorem State.writeSlot_busy (s : State) (slot : Nat) (b : List Byte) : (s.writeSlot slot b).hi.busy = s.hi.busy := rfl

theorem execDoorbell_queues {v : Word} {b c : List Byte} {slot : Nat} {s : State} (answers : Answers s)
    (up : s.hi.downMg = false) (number : slot = v.toNat % 64) (free : s.hi.busy.getLsbD slot = false)
    (block : c = (s.writeSlot slot b).hi.blockAt slot) (good : transportCheck c slot true = none)
    (cluster : clusterDecides (blkOpcode c) = true) :
    ∃ t, exec (.doorbell v b) s = .next t ∧
      t.mg.queue = s.mg.queue ++ [⟨blkOpcode c, { blkRequest c .pcie 0 0 with arrival := s.mg.arrival }, s.opUs⟩] ∧
      (t.xing .mgCl).counter = (s.xing .mgCl).counter.raise ∧ t.hi.doorbells = s.hi.doorbells.cross false ∧
      t.mg.arrival = nextArrival s.mg.arrival ∧ t.hi.busy.getLsbD slot = true ∧ t.hi.done = s.hi.done ∧
      (∀ n, n ≠ slot → t.hi.busy.getLsbD n = s.hi.busy.getLsbD n) ∧
      t = { s with mg := t.mg, xings := t.xings,
                   hi := { mirrorOf s t with
                     busy := t.hi.busy, bar2 := t.hi.bar2, doorbells := t.hi.doorbells } } := by
  have inside : slot < 64 := by rw [number]; exact Nat.mod_lt _ (by decide)
  rw [execDoorbell_free answers up number free block, good]
  dsimp only
  rw [State.accept_cluster cluster]
  refine ⟨_, rfl, ?_, ?_, ?_, ?_, ?_, ?_, ?_, ?_⟩
  · simp only [State.settle_frame]
    rfl
  · rw [State.settle_xing, State.queued_counter]
    rfl
  · rw [State.settle_hi_doorbells]
    rfl
  · simp only [State.settle_frame]
    rfl
  · rw [State.settle_hi_busy, State.queued_hi, State.rung_busy]
    exact getLsbD_or_bit_same _ inside
  · rw [State.settle_hi_done]
    rfl
  · intro n other
    rw [State.settle_hi_busy, State.queued_hi, State.rung_busy, State.writeSlot_busy]
    exact getLsbD_or_bit_other _ other
  · have only := ((s.writeSlot slot b).rung slot).queued_only (blkOpcode c) (blkRequest c .pcie 0 0)
    generalize ((s.writeSlot slot b).rung slot).queued (blkOpcode c) (blkRequest c .pcie 0 0) = w at *
    simp only [State.settle_frame, State.settle_hi_busy, State.settle_hi_bar2, State.settle_hi_doorbells]
    rw [State.settle_eq]
    generalize w.settle.hi = h
    rw [only]
    rfl

/-- A block that fails a check is answered in its slot (R312, R314). -/
theorem execDoorbell_rejects {v : Word} {b c : List Byte} {slot : Nat} {st : Status} {s : State} (answers : Answers s)
    (ok : WindowOk s) (up : s.hi.downMg = false) (number : slot = v.toNat % 64) (free : s.hi.busy.getLsbD slot = false)
    (block : c = (s.writeSlot slot b).hi.blockAt slot) (bad : transportCheck c slot true = some st) :
    ∃ t, exec (.doorbell v b) s = .next t ∧ t.hi.done.getLsbD slot = true ∧ t.hi.irqStat.getLsbD 0 = true ∧
      Memory.readBytes t.hi.bar2 (0x40000 + slot * 0x1000) 32 = (rejection c (blkRequest c .pcie 0 0) st).bytes ∧
      t.mg = s.mg ∧ t = { s with hi := t.hi, outbox := t.outbox } := by
  have inside : slot < 64 := by rw [number]; exact Nat.mod_lt _ (by decide)
  rw [execDoorbell_free answers up number free block, bad]
  dsimp only
  generalize answered : rejection c (blkRequest c .pcie 0 0) st = r
  have length : r.bytes.length = 32 := by
    rw [Response.bytes_length, ← answered]
    rfl
  generalize rung : (s.writeSlot slot b).rung slot = u
  have window : Memory.wf u.hi.bar2 = true := by
    rw [← rung]
    refine Memory.writeBytes_wf _ ok ?_
    rw [List.length_take]
    omega
  have only : u.respondAt slot r = { u with hi := (u.respondAt slot r).hi, outbox := (u.respondAt slot r).outbox } :=
    State.irq_only _ 0
  refine ⟨_, rfl, ?_, ?_, ?_, ?_, ?_⟩
  · rw [State.settle_hi_done]
    simp only [State.respondAt, State.irq_hi_frame]
    exact getLsbD_or_bit_same _ inside
  · rw [State.settle_hi_irqStat]
    simp only [State.respondAt, State.irq_stat]
    exact getLsbD_or_bit_same _ (by decide)
  · rw [State.settle_hi_bar2]
    simp only [State.respondAt, State.irq_hi_frame]
    rw [List.take_of_length_le (by rw [length]; decide)]
    have back := Memory.readBytes_writeBytes r.bytes window (a := 0x40000 + slot * 0x1000) (by omega)
    rwa [length] at back
  · simp only [State.settle_frame]
    rw [only, ← rung]
    rfl
  · rw [State.settle_eq]
    generalize (u.respondAt slot r).settle.hi = h
    rw [only, ← rung]
    rfl

/-! ### Datagrams on X8 -/

/-- A datagram of a block's size on the request port, while the mailbox works (R322). -/
theorem execX8RequestDatagram_reads {d : X8Datagram} {s : State} (answers : Answers s) (port : d.port = 47218)
    (long : 32 ≤ d.data.length) (short : d.data.length ≤ 4096) :
    exec (.x8RequestDatagram d) s = .next (match s.hi.x8Entry (blkTag d.data % 64) with
      | some e =>
        if e.inFlight then
          if e.repeats d.data then s
          else s.x8Send d.ip d.sourcePort (rejection d.data (blkRequest d.data .x8 d.ip d.sourcePort) .tagBusy).bytes
        else if e.repeats d.data then
          ({ s with hi := { s.hi with x8Last := some (d.ip, d.sourcePort) } }).x8Send d.ip d.sourcePort e.response
        else s.x8Accept d (blkTag d.data % 64)
      | none => s.x8Accept d (blkTag d.data % 64)).settle := by
  obtain ⟨live, alive⟩ := answers
  have works : (s.mailboxLive && s.mg.alive) = true := by rw [live, alive]; rfl
  have fits : ¬(d.port ≠ 47218 ∨ 4096 < d.data.length) := by
    rintro (other | large)
    · exact other port
    · omega
  have fits' : ¬(decide (d.port ≠ 47218) || decide (4096 < d.data.length)) = true := by simpa using fits
  simp only [exec, execX8RequestDatagram, if_pos works, State.x8Request]
  rw [if_neg fits', if_neg (by omega)] <;> rfl

/-- The entry of a request taken from X8, its response to come (R323). -/
def X8Stored.taken (d : X8Datagram) : X8Stored :=
  { tag := blkTag d.data % 64, gen := BitVec.ofNat 8 (blkTag d.data), sequence := word (u32 d.data 8)
    session := word (u32 d.data 12), crc := word (blkCrc d.data), inFlight := true, response := [], ip := d.ip
    port := d.sourcePort }

theorem execX8RequestDatagram_queues {d : X8Datagram} {s : State} (answers : Answers s) (port : d.port = 47218)
    (long : 32 ≤ d.data.length) (short : d.data.length ≤ 4096) (free : s.hi.x8Entry (blkTag d.data % 64) = none)
    (good : transportCheck d.data (blkTag d.data % 64) (d.data.length == 32 + blkLength d.data) = none)
    (cluster : clusterDecides (blkOpcode d.data) = true) :
    ∃ t e, exec (.x8RequestDatagram d) s = .next t ∧
      t.mg.queue = s.mg.queue ++ [⟨blkOpcode d.data,
        { blkRequest d.data .x8 d.ip d.sourcePort with arrival := s.mg.arrival }, s.opUs⟩] ∧
      (t.xing .mgCl).counter = (s.xing .mgCl).counter.raise ∧
      t.hi.x8Entry (blkTag d.data % 64) = some e ∧ e.inFlight = true ∧ e.sequence = word (u32 d.data 8) ∧
      t = { s with mg := t.mg, xings := t.xings,
                   hi := { mirrorOf s t with x8 := t.hi.x8, x8Last := t.hi.x8Last } } := by
  rw [execX8RequestDatagram_reads answers port long short, free]
  dsimp only
  simp only [State.x8Accept, good, State.accept_cluster cluster]
  refine ⟨_, X8Stored.taken d, rfl, ?_, ?_, ?_, rfl, rfl, ?_⟩
  · simp only [State.settle_frame]
    rfl
  · rw [State.settle_xing, State.queued_counter]
    rfl
  · unfold HostIf.x8Entry
    rw [State.settle_hi_x8]
    exact List.find?_cons_of_pos (by exact beq_self_eq_true _)
  · simp only [State.settle_frame, State.settle_hi_x8, State.settle_hi_x8Last]
    exact State.settle_eq _

/-- A repeat is answered from the store (R323). -/
theorem execX8RequestDatagram_repeats {d : X8Datagram} {e : X8Stored} {s : State} (answers : Answers s)
    (port : d.port = 47218) (long : 32 ≤ d.data.length) (short : d.data.length ≤ 4096)
    (stored : s.hi.x8Entry (blkTag d.data % 64) = some e) (finished : e.inFlight = false)
    (again : e.repeats d.data = true) :
    ∃ t, exec (.x8RequestDatagram d) s = .next t ∧
      t = { s with outbox := s.outbox ++ [Output.x8 d.ip d.sourcePort e.response],
                   hi := { mirrorOf s t with x8Last := some (d.ip, d.sourcePort) } } := by
  rw [execX8RequestDatagram_reads answers port long short, stored]
  dsimp only
  rw [if_neg (by rw [finished]; decide), if_pos again]
  refine ⟨_, rfl, ?_⟩
  exact State.settle_eq _

end Sys2Proof.Machine

namespace Sys2Proof.Proofs

open Sys2Proof Sys2Proof.Machine Sys2Proof.Safety

/-- Settles O60: a doorbell or datagram whose checks pass ends in `State.queued`, a response in `State.writeResponse`,
and held completions and notifications are folds of the writes, each apart from the others in the window (log entries 9,
12 and 54). -/
theorem mailboxTransports : Obligations.MailboxTransports := by
  unfold Obligations.MailboxTransports
  refine ⟨?queues, ?rejects, ?answers, ?held, ?notes, ?datagram, ?again⟩
  case queues =>
    intro v b c slot s answers up number free block good cluster
    exact execDoorbell_queues answers up number free block good cluster
  case rejects =>
    intro v b c slot st s answers ok up number free block bad
    exact execDoorbell_rejects answers ok up number free block bad
  case answers =>
    intro c op p0 data q s answers ok reaches asked short
    have pcie : q.via = .pcie := by
      obtain ⟨-, -, -, pcie⟩ := reaches
      exact pcie
    have answered : exec c s = .next ((s.heard q).answer op q .ok p0 0 data).settle := by
      rcases asked with listed | ⟨canPort, port⟩
      · simp only [List.mem_cons, Prod.mk.injEq, List.not_mem_nil, or_false] at listed
        rcases listed with ⟨rfl, rfl, rfl, rfl⟩ | ⟨rfl, rfl, rfl, rfl⟩ | ⟨rfl, rfl, rfl, rfl⟩ | ⟨rfl, rfl, rfl, rfl⟩ |
          ⟨rfl, rfl, rfl, rfl⟩ | ⟨rfl, rfl, rfl, rfl⟩ | ⟨rfl, rfl, rfl, rfl⟩ | ⟨rfl, rfl, rfl, rfl⟩ | ⟨rfl, rfl, rfl, rfl⟩
        · exact execIdentify_answers answers
        · exact execCapabilities_answers answers
        · exact execGetStatus_answers answers
        · exact execGetTime_answers answers
        · exact execEventInfo_answers answers
        · exact execDiagVote_answers answers
        · exact execDiagAshlar_answers answers
        · exact execDiagSafeRecord_answers answers
        · obtain ⟨m, run, rfl⟩ := execSubscriptionGet_answers (q := q) answers
          rw [run, if_pos pcie]
      · simp only [Prod.mk.injEq] at canPort
        obtain ⟨rfl, rfl, rfl, rfl⟩ := canPort
        exact execDiagCanPort_answers answers port
    obtain ⟨t, r, settled, rest⟩ := answer_inSlot ok reaches op p0 short
    exact ⟨t, r, answered.trans (congrArg Host.Outcome.next settled), rest⟩
  case held =>
    intro l s up alive ok held short distinct
    exact execHeldCompletionDelivery_delivers up alive ok held short distinct
  case notes =>
    intro l s up alive ok none' held few
    exact execNotificationFlush_flushes up alive ok none' held few
  case datagram =>
    intro d s answers port long short free good cluster
    exact execX8RequestDatagram_queues answers port long short free good cluster
  case again =>
    intro d e s answers port long short stored finished again
    exact execX8RequestDatagram_repeats answers port long short stored finished again

end Sys2Proof.Proofs
end

section
/-! PROOF. The update targets: what a command changes of one, and that the other stays (R344, R345, R410, R412 to
R414). -/

namespace Sys2Proof.Machine

open Sys2Proof Sys2Proof.Safety

/-! ### The targets -/

theorem State.target_congr {s u : State} (same : u.update = s.update) (n : Nat) : u.target n = s.target n := by
  unfold State.target
  rw [same]

theorem State.modTarget_target_same (s : State) (t : Nat) (f : UpdateTarget → UpdateTarget) :
    (s.modTarget t f).target t = f (s.target t) := by
  unfold State.modTarget State.target
  split <;> rfl

theorem State.modTarget_target_other {t : Nat} (known : t = 1 ∨ t = 2) (s : State) (f : UpdateTarget → UpdateTarget) :
    (s.modTarget t f).target (3 - t) = s.target (3 - t) := by
  rcases known with rfl | rfl <;> rfl

/-- A stage is entered in the target; whether it is a new one decides the notification alone (R345). -/
theorem State.setStage_update (s : State) (t k : Nat) :
    (s.setStage t k).update = (s.modTarget t (fun u => { u with stage := k })).update := by
  unfold State.setStage
  split
  next same =>
    subst same
    unfold State.modTarget State.target
    split <;> rfl
  next => simp only [State.note_frame]

theorem State.setStage_target_same (s : State) (t k : Nat) : (s.setStage t k).target t = { s.target t with stage := k } :=
  (State.target_congr (s.setStage_update t k) t).trans (s.modTarget_target_same t _)

theorem State.setStage_target_other {t : Nat} (known : t = 1 ∨ t = 2) (s : State) (k : Nat) :
    (s.setStage t k).target (3 - t) = s.target (3 - t) :=
  (State.target_congr (s.setStage_update t k) _).trans (State.modTarget_target_other known s _)

theorem State.event_target (s : State) (code : Nat) (src : Source) (sev : Severity) (a b c : Nat) (x : Bool) (n : Nat) :
    (s.event code src sev a b c x).target n = s.target n := rfl

theorem State.heard_target (s : State) (q : Req) (n : Nat) : (s.heard q).target n = s.target n := rfl

/-! ### What the commands change -/

theorem answeredOnly_heard (s : State) (q : Req) : AnsweredOnly s (s.heard q) := rfl

theorem answeredOnly_event {s u : State} (only : AnsweredOnly s u) (code : Nat) (src : Source) (sev : Severity)
    (a b c : Nat) (x : Bool) : AnsweredOnly s (u.event code src sev a b c x) := by
  unfold AnsweredOnly at *
  rw [only]
  rfl

theorem answeredOnly_modTarget {s u : State} (only : AnsweredOnly s u) (t : Nat) (f : UpdateTarget → UpdateTarget) :
    AnsweredOnly s (u.modTarget t f) := by
  unfold AnsweredOnly at *
  rw [only]
  rfl

theorem State.setStage_eq (s : State) (t k : Nat) :
    s.setStage t k = { s with
      update := (s.setStage t k).update, hi := (s.setStage t k).hi, outbox := (s.setStage t k).outbox } := by
  apply State.ext <;> simp only [State.setStage_frame]

theorem answeredOnly_setStage {s u : State} (only : AnsweredOnly s u) (t k : Nat) : AnsweredOnly s (u.setStage t k) := by
  unfold AnsweredOnly at *
  rw [State.setStage_eq, only]

section Answered

variable (u : State) (op : Nat) (q : Req) (st : Status) (p0 p1 : Nat)

theorem State.answered_update : (u.answer op q st p0 p1).settle.update = u.update := by
  simp only [State.settle_frame, State.answer_frame]

theorem State.answered_recorder : (u.answer op q st p0 p1).settle.recorder = u.recorder := by
  simp only [State.settle_frame, State.answer_frame]

theorem State.answered_target (n : Nat) : (u.answer op q st p0 p1).settle.target n = u.target n :=
  State.target_congr (u.answered_update op q st p0 p1) n

end Answered

theorem recorded_answered {s u : State} {code a b c : Nat} (told : Recorded s u code a b c) (op : Nat) (q : Req)
    (st : Status) (p0 p1 : Nat) : Recorded s (u.answer op q st p0 p1).settle code a b c :=
  recorded_framed told (u.answered_recorder op q st p0 p1)

theorem targetOk_of {n : Nat} (known : n = 1 ∨ n = 2) : targetOk n = true := by
  rcases known with rfl | rfl <;> rfl

/-! ### UPDATE_BEGIN -/

/-- The target of a download that begins anew (R412). -/
def UpdateTarget.begun (u : UpdateTarget) (h : List Byte) : UpdateTarget :=
  { u with header := h, table := [], good := 0, chunk := 0, chunks := [] }

/-- The module after the begin of a download, before its answer. -/
def State.downloadBegun (s : State) (q : Req) : State :=
  (((s.heard q).modTarget q.p0 (fun u => u.begun q.payload)).setStage q.p0 1).event 0xB001 .mg .info q.p0
    (upBlocks q.payload) 0

theorem State.downloadBegun_only (s : State) (q : Req) : AnsweredOnly s (s.downloadBegun q) :=
  answeredOnly_event (answeredOnly_setStage (answeredOnly_modTarget (answeredOnly_heard s q) ..) ..) ..

theorem State.downloadBegun_recorded (s : State) (q : Req) :
    Recorded s (s.downloadBegun q) 0xB001 q.p0 (upBlocks q.payload) 0 :=
  State.event_recorded (by simp only [State.setStage_frame, State.modTarget_frame, State.heard_frame])
    (by simp only [State.setStage_frame, State.modTarget_frame, State.heard_frame])
    (by simp only [State.setStage_frame, State.modTarget_frame, State.heard_frame]) ..

theorem State.downloadBegun_target (s : State) (q : Req) :
    (s.downloadBegun q).target q.p0 = { (s.target q.p0).begun q.payload with stage := 1 } := by
  rw [State.downloadBegun, State.event_target, State.setStage_target_same, State.modTarget_target_same,
    State.heard_target]

theorem State.downloadBegun_target_other {q : Req} (known : q.p0 = 1 ∨ q.p0 = 2) (s : State) :
    (s.downloadBegun q).target (3 - q.p0) = s.target (3 - q.p0) := by
  rw [State.downloadBegun, State.event_target, State.setStage_target_other known, State.modTarget_target_other known,
    State.heard_target]

theorem State.decideUpdateBegin_begins {q : Req} {s : State} (settled : Settled s)
    (role : s.holds q (some .maintainer) = true) (known : q.p0 = 1 ∨ q.p0 = 2) (steady : q.p0 = 1 → s.onTrial = false)
    (length : q.payload.length = 512) (named : u8 q.payload 8 = q.p0) (some' : upBlocks q.payload ≠ 0)
    (few : upBlocks q.payload ≤ maxBlocks q.p0) (idle : (s.target q.p0).stage = 0) :
    s.decideUpdateBegin q = (s.downloadBegun q).answer 0x0701 q .ok 0 := by
  have state : (!(q.p0 == 1 && s.onTrial)) = true := by
    rcases known with one | two
    · rw [steady one, Bool.and_false]
      rfl
    · rw [two]
      rfl
  have params : (targetOk q.p0 && q.payload.length == 512 && u8 q.payload 8 == q.p0 && upBlocks q.payload != 0 &&
      decide (upBlocks q.payload ≤ maxBlocks q.p0)) = true := by
    rw [targetOk_of known, length, named, decide_eq_true few]
    simpa using some'
  simp only [State.decideUpdateBegin]
  rw [state, State.mgCommand_settled settled (.inr (by decide)) role params, if_neg]
  · rfl
  · rw [State.heard_target, idle]
    simp

theorem execUpdateBegin_begins {q : Req} {s : State} (settled : Settled s) (role : s.holds q (some .maintainer) = true)
    (known : q.p0 = 1 ∨ q.p0 = 2) (steady : q.p0 = 1 → s.onTrial = false) (length : q.payload.length = 512)
    (named : u8 q.payload 8 = q.p0) (some' : upBlocks q.payload ≠ 0) (few : upBlocks q.payload ≤ maxBlocks q.p0)
    (idle : (s.target q.p0).stage = 0) :
    ∃ t, exec (.updateBegin q) s = .next t ∧ t.target q.p0 = { s.target q.p0 with
        stage := 1, header := q.payload, table := [], good := 0, chunk := 0, chunks := [] } ∧
      t.target (3 - q.p0) = s.target (3 - q.p0) ∧ Recorded s t 0xB001 q.p0 (upBlocks q.payload) 0 ∧
      AnsweredOnly s t := by
  have decided := State.decideUpdateBegin_begins settled role known steady length named some' few idle
  simp only [exec, execUpdateBegin, decided]
  refine ⟨_, rfl, ?_, ?_, recorded_answered (s.downloadBegun_recorded q) .., answeredOnly_answer (s.downloadBegun_only q) ..⟩
  · rw [State.answered_target, State.downloadBegun_target]
    rfl
  · rw [State.answered_target, State.downloadBegun_target_other known]

/-! ### UPDATE_DATA -/

theorem UpdateTarget.store_kept (u : UpdateTarget) (n : Nat) (b : List Byte) :
    (u.store n b).good = n + 1 ∧ (u.store n b).chunk = 0 ∧ (u.store n b).stage = u.stage ∧
      (u.store n b).header = u.header := by
  unfold UpdateTarget.store UpdateTarget.setBank
  dsimp only
  split_ifs <;> exact ⟨rfl, rfl, rfl, rfl⟩

theorem UpdateTarget.setImage_kept (u : UpdateTarget) (n version : Nat) (crc : Word) :
    (u.setImage n version crc).good = u.good ∧ (u.setImage n version crc).chunk = u.chunk := by
  unfold UpdateTarget.setImage
  split <;> exact ⟨rfl, rfl⟩

/-- The end of a download enters stage 2 and keeps the counts (R413). -/
theorem State.downloaded_target (s : State) (t : Nat) :
    ((s.downloaded t).target t).good = (s.target t).good ∧ ((s.downloaded t).target t).chunk = (s.target t).chunk ∧
      ((s.downloaded t).target t).stage = 2 := by
  rw [State.downloaded, State.event_target, State.setStage_target_same, State.modTarget_target_same]
  obtain ⟨good, chunk⟩ := (s.target t).setImage_kept (s.target t).inactive (upVersion (s.target t).header)
    (crc32c (s.target t).header)
  exact ⟨good, chunk, rfl⟩

theorem State.downloaded_target_other {t : Nat} (known : t = 1 ∨ t = 2) (s : State) :
    (s.downloaded t).target (3 - t) = s.target (3 - t) := by
  rw [State.downloaded, State.event_target, State.setStage_target_other known, State.modTarget_target_other known]

theorem answeredOnly_downloaded {s u : State} (only : AnsweredOnly s u) (t : Nat) : AnsweredOnly s (u.downloaded t) :=
  answeredOnly_event (answeredOnly_setStage (answeredOnly_modTarget only ..) ..) ..

/-- A block that passed its CRC; the last one ends the download (R413). -/
def State.blockStored (s : State) (t : Nat) (b : List Byte) : State :=
  let s1 := s.modTarget t (fun u => u.store u.good b)
  if (s.target t).good + 1 = upBlocks (s.target t).header then s1.downloaded t else s1

theorem answeredOnly_blockStored {s u : State} (only : AnsweredOnly s u) (t : Nat) (b : List Byte) :
    AnsweredOnly s (u.blockStored t b) := by
  unfold State.blockStored
  dsimp only
  split
  · exact answeredOnly_downloaded (answeredOnly_modTarget only ..) _
  · exact answeredOnly_modTarget only ..

theorem State.blockStored_target_other {t : Nat} (known : t = 1 ∨ t = 2) (s : State) (b : List Byte) :
    (s.blockStored t b).target (3 - t) = s.target (3 - t) := by
  unfold State.blockStored
  dsimp only
  split
  · rw [State.downloaded_target_other known, State.modTarget_target_other known]
  · rw [State.modTarget_target_other known]

theorem State.blockStored_target {s : State} {t : Nat} (loading : (s.target t).stage = 1) (b : List Byte) :
    ((s.blockStored t b).target t).good = (s.target t).good + 1 ∧ ((s.blockStored t b).target t).chunk = 0 ∧
      ((s.blockStored t b).target t).stage =
        (if (s.target t).good + 1 = upBlocks (s.target t).header then 2 else 1) := by
  obtain ⟨good, chunk, stage, -⟩ := (s.target t).store_kept (s.target t).good b
  have stored := s.modTarget_target_same t (fun u => u.store u.good b)
  unfold State.blockStored
  dsimp only
  split
  · obtain ⟨good', chunk', stage'⟩ := (s.modTarget t (fun u => u.store u.good b)).downloaded_target t
    rw [stored] at good' chunk'
    exact ⟨good'.trans good, chunk'.trans chunk, stage'⟩
  · rw [stored]
    exact ⟨good, chunk, stage.trans loading⟩

/-- A chunk that is the next of its block and as long as it must be (R345, R413). -/
structure ChunkFits (s : State) (q : Req) (size : Nat) : Prop where
  settled : Settled s
  role : s.holds q (some .maintainer) = true
  known : q.p1 = 1 ∨ q.p1 = 2
  small : q.p0 < 2 ^ 21
  loading : (s.target q.p1).stage = 1
  next : q.p0 % 65536 * 32 + q.p0 / 65536 = (s.target q.p1).good * 32 + (s.target q.p1).chunk
  left : size = blockSize (s.target q.p1).header (s.target q.p1).good - 2048 * (s.target q.p1).chunk
  some' : 1 ≤ size
  length : q.payload.length = Nat.min 2048 size

namespace ChunkFits

variable {s : State} {q : Req} {size : Nat}

theorem params (h : ChunkFits s q size) : (targetOk q.p1 && decide (q.p0 < 2 ^ 21) && decide (1 ≤ q.payload.length) &&
    decide (q.payload.length ≤ 2048)) = true := by
  have enough : 1 ≤ q.payload.length := by
    rw [h.length]
    exact Nat.le_min.mpr ⟨by decide, h.some'⟩
  have few : q.payload.length ≤ 2048 := by
    rw [h.length]
    exact Nat.min_le_left ..
  rw [targetOk_of h.known, decide_eq_true h.small, decide_eq_true enough, decide_eq_true few]
  rfl

/-- Such a chunk is taken: kept for its block, or its block judged by its CRC (R413). -/
theorem decided (h : ChunkFits s q size) : s.decideUpdateData q =
    if size ≤ 2048 then
      if crc32c ((s.target q.p1).chunks ++ q.payload) = (s.target q.p1).blockCrc (s.target q.p1).good then
        ((s.heard q).blockStored q.p1 ((s.target q.p1).chunks ++ q.payload)).answer 0x0702 q .ok
      else
        (((s.heard q).modTarget q.p1 (fun u => { u with chunk := 0, chunks := [] })).event 0xB002 .mg .info q.p1
          (s.target q.p1).good).answer 0x0702 q .resend (s.target q.p1).good 1
    else ((s.heard q).modTarget q.p1 (fun u =>
      { u with chunk := u.chunk + 1, chunks := u.chunks ++ q.payload })).answer 0x0702 q .ok := by
  simp only [State.decideUpdateData]
  rw [State.mgCommand_settled h.settled (.inr (by decide)) h.role h.params]
  simp only [State.heard_target]
  obtain rfl := h.left
  exact (if_neg (not_not.mpr h.loading)).trans
    ((if_neg (not_not.mpr h.next)).trans ((if_neg (not_not.mpr h.length)).trans rfl))

end ChunkFits

theorem execUpdateData_takes {q : Req} {size : Nat} {s : State} (fits : ChunkFits s q size) :
    ∃ t, exec (.updateData q) s = .next t ∧ t.target (3 - q.p1) = s.target (3 - q.p1) ∧ AnsweredOnly s t ∧
      (2048 < size → t.target q.p1 = { s.target q.p1 with
        chunk := (s.target q.p1).chunk + 1, chunks := (s.target q.p1).chunks ++ q.payload }) ∧
      (size ≤ 2048 → crc32c ((s.target q.p1).chunks ++ q.payload) ≠ (s.target q.p1).blockCrc (s.target q.p1).good →
        t.target q.p1 = { s.target q.p1 with chunk := 0, chunks := [] } ∧
        Recorded s t 0xB002 q.p1 (s.target q.p1).good 0) ∧
      (size ≤ 2048 → crc32c ((s.target q.p1).chunks ++ q.payload) = (s.target q.p1).blockCrc (s.target q.p1).good →
        (t.target q.p1).good = (s.target q.p1).good + 1 ∧ (t.target q.p1).chunk = 0 ∧
        (t.target q.p1).stage = (if (s.target q.p1).good + 1 = upBlocks (s.target q.p1).header then 2 else 1)) := by
  have known := fits.known
  have heard := answeredOnly_heard s q
  simp only [exec, execUpdateData, fits.decided]
  by_cases last : size ≤ 2048
  · have notMore (more : 2048 < size) : False := absurd last (Nat.not_le.mpr more)
    rw [if_pos last]
    split
    next crc =>
      refine ⟨_, rfl, ?_, answeredOnly_answer (answeredOnly_blockStored heard ..) .., fun more => (notMore more).elim,
        fun _ bad => absurd crc bad, fun _ _ => ?_⟩
      · rw [State.answered_target, State.blockStored_target_other known, State.heard_target]
      · have stored := State.blockStored_target (s := s.heard q) (t := q.p1) fits.loading
          ((s.target q.p1).chunks ++ q.payload)
        rw [State.heard_target] at stored
        rw [State.answered_target]
        exact stored
    next crc =>
      have told : Recorded s (((s.heard q).modTarget q.p1 (fun u => { u with chunk := 0, chunks := [] })).event 0xB002 .mg
          .info q.p1 (s.target q.p1).good) 0xB002 q.p1 (s.target q.p1).good 0 :=
        State.event_recorded (by simp only [State.modTarget_frame, State.heard_frame])
          (by simp only [State.modTarget_frame, State.heard_frame]) (by simp only [State.modTarget_frame, State.heard_frame]) ..
      refine ⟨_, rfl, ?_, answeredOnly_answer (answeredOnly_event (answeredOnly_modTarget heard ..) ..) ..,
        fun more => (notMore more).elim, fun _ _ => ⟨?_, recorded_answered told ..⟩, fun _ good => absurd good crc⟩
      · rw [State.answered_target, State.event_target, State.modTarget_target_other known, State.heard_target]
      · rw [State.answered_target, State.event_target, State.modTarget_target_same, State.heard_target]
  · rw [if_neg last]
    refine ⟨_, rfl, ?_, answeredOnly_answer (answeredOnly_modTarget heard ..) .., fun _ => ?_, fun few => absurd few last,
      fun few => absurd few last⟩
    · rw [State.answered_target, State.modTarget_target_other known, State.heard_target]
    · rw [State.answered_target, State.modTarget_target_same, State.heard_target]

/-! ### UPDATE_VERIFY -/

theorem answeredOnly_verifyImage {s u : State} (only : AnsweredOnly s u) (t : Nat) : AnsweredOnly s (u.verifyImage t) := by
  unfold State.verifyImage
  dsimp only
  split
  · exact answeredOnly_setStage only ..
  · split
    · exact answeredOnly_setStage (answeredOnly_modTarget only ..) ..
    · exact answeredOnly_modTarget only ..

theorem State.verifyImage_verified {s : State} {t : Nat} (good : s.verifyFault t = none) :
    (s.verifyImage t).target t = { s.target t with stage := 3 } := by
  unfold State.verifyImage
  rw [good]
  exact s.setStage_target_same t 3

/-- An image that fails is not VERIFIED any more; its reason is kept (R414). -/
theorem State.verifyImage_fails {s : State} {t : Nat} {r : Nat × Nat} (bad : s.verifyFault t = some r) :
    (s.verifyImage t).target t = { s.target t with
      lastReason := r.1, stage := if (s.target t).stage = 3 then 2 else (s.target t).stage } := by
  have reason : (s.lastReason t r.1).target t = { s.target t with lastReason := r.1 } := s.modTarget_target_same t _
  unfold State.verifyImage
  rw [bad]
  dsimp only
  by_cases verified : (s.target t).stage = 3
  · rw [if_pos (by simp [verified]), if_pos verified, State.setStage_target_same, reason]
  · by_cases loaded : (s.target t).stage = 2
    · rw [if_pos (by simp [loaded]), if_neg verified, State.setStage_target_same, reason, loaded]
    · rw [if_neg (by simp [loaded, verified]), if_neg verified, reason]

theorem execUpdateVerify_judges {q : Req} {s : State} (settled : Settled s) (role : s.holds q (some .maintainer) = true)
    (known : q.p0 = 1 ∨ q.p0 = 2) :
    ∃ t, exec (.updateVerify q) s = .next t ∧ AnsweredOnly s t ∧
      Recorded s t 0xB010 q.p0 ((s.verifyFault q.p0).elim 0 Prod.fst) (upVersion (s.target q.p0).header) ∧
      (s.verifyFault q.p0 = none → t.target q.p0 = { s.target q.p0 with stage := 3 }) ∧
      (∀ r, s.verifyFault q.p0 = some r → t.target q.p0 = { s.target q.p0 with
        lastReason := r.1
        stage := if (s.target q.p0).stage = 3 then 2 else (s.target q.p0).stage }) := by
  have same : (s.heard q).verifyFault q.p0 = s.verifyFault q.p0 := rfl
  have told (p : Nat) : Recorded s (((s.heard q).verifyImage q.p0).event 0xB010 .mg .info q.p0 p
      (upVersion (s.target q.p0).header)) 0xB010 q.p0 p (upVersion (s.target q.p0).header) :=
    State.event_recorded (by simp only [State.verifyImage_frame, State.heard_frame])
      (by simp only [State.verifyImage_frame, State.heard_frame]) (by simp only [State.verifyImage_frame, State.heard_frame]) ..
  have only : AnsweredOnly s ((s.heard q).verifyImage q.p0) := answeredOnly_verifyImage (answeredOnly_heard s q) _
  simp only [exec, execUpdateVerify, State.decideUpdateVerify]
  rw [State.mgCommand_settled settled (.inr (by decide)) role (targetOk_of known), same]
  cases fault : s.verifyFault q.p0 with
  | none =>
    refine ⟨_, rfl, answeredOnly_answer (answeredOnly_event only ..) .., recorded_answered (told 0) .., fun _ => ?_, nofun⟩
    rw [State.answered_target, State.event_target, State.verifyImage_verified (same.trans fault), State.heard_target]
  | some r =>
    refine ⟨_, rfl, answeredOnly_answer (answeredOnly_event only ..) .., recorded_answered (told r.1) .., nofun, ?_⟩
    rintro _ ⟨rfl⟩
    rw [State.answered_target, State.event_target, State.verifyImage_fails (same.trans fault), State.heard_target]

end Sys2Proof.Machine
end

section
/-! PROOF. The activation, the confirmation and the abort of an update (R344, R415 to R419, R421). -/

namespace Sys2Proof.Machine

open Sys2Proof Sys2Proof.Safety

/-! ### UPDATE_ACTIVATE -/

/-- The Safety Authority asks in STOP for a target that is VERIFIED, with no activation under way (R344, R415). -/
structure ActivationAsked (s : State) (q : Req) : Prop where
  stop : s.power.state = .stop
  alive : s.power.dead = false
  life : s.lifecycle ≠ 5
  role : s.holds q (some .safetyAuthority) = true
  opened : s.sealOpen = true
  verified : (s.target q.p0).stage = 3
  free : ∀ w ∈ s.eng.waiting, ∀ r n, w ≠ .activate r n

namespace ActivationAsked

variable {s : State} {q : Req}

theorem openTo (h : ActivationAsked s q) : s.openTo 0x0704 = true := by
  simp [State.openTo, h.stop, h.life, opGroup]

theorem mailboxLive (h : ActivationAsked s q) : s.mailboxLive = true := by
  simp [State.mailboxLive, h.stop, h.alive, PowerState.powered]

theorem idle (h : ActivationAsked s q) : ¬s.eng.waiting.any (fun w => match w with
    | .activate _ _ => true
    | _ => false) = true := by
  rw [List.any_eq_true]
  rintro ⟨w, mem, active⟩
  cases w with
  | activate r n => exact h.free _ mem r n rfl
  | _ => exact absurd active Bool.false_ne_true

/-- Then firmware is switched at once, and station data wait for their validation (R415). -/
theorem decided (h : ActivationAsked s q)
    (state : (s.power.state == .stop && (q.p0 != 2 ||
      ((s.lifecycle == 2 || s.lifecycle == 3 || s.lifecycle == 4) && !s.onTrial))) = true)
    (params : (targetOk q.p0 && (q.p1 == 0 || (q.p0 == 2 && q.p1 == 1))) = true) :
    s.decideUpdateActivate q =
      if q.p0 = 1 then
        (if s.logRoom 1 then (s.heard q).activateFirmware q else ((s.heard q).lastReason 1 0x0817).logFull 0x0704 q)
      else { s.heard q with eng := { s.eng with waiting := s.eng.waiting ++ [.activate q (q.p1 == 1)] } } := by
  simp only [State.decideUpdateActivate]
  rw [State.clCommand_accepted h.mailboxLive
    (State.judge_eq_none.mpr ⟨rfl, h.openTo, state, h.role, fun _ => h.opened, params⟩)]
  exact (if_neg h.idle).trans ((if_neg (not_not.mpr h.verified)).trans rfl)

end ActivationAsked

/-- The entry of a firmware activation in the change log (R388). -/
def State.firmwareEntry (s : State) (q : Req) : LogEntry :=
  let u := s.update.firmware
  s.logBy q {
    item := 9, subject := word u.inactive, beforeCrc := u.headerCrc u.sel.active, afterCrc := u.headerCrc u.inactive,
    before := word (u.version u.sel.active), after := word (u.version u.inactive) }

/-- The selector that starts the inactive bank on trial (R417). -/
def UpdateTarget.onTrial (u : UpdateTarget) : Selector :=
  { active := u.inactive, previous := u.sel.active, trial := true, boots := 0 }

/-- The firmware selector switched, and told (R417). -/
def State.bankTold (s : State) (q : Req) : State :=
  let u := s.update.firmware
  let s2 := (s.logChange (s.firmwareEntry q)).modTarget 1 (fun u' => { u' with selector := u'.selector.put u.onTrial })
  (s2.setStage 1 4).event 0xB011 .cl .info (u.version u.sel.active) (u.version u.inactive) u.inactive

/-- The module with its firmware selector switched, before the completion (R417). -/
def State.bankSwitched (s : State) (q : Req) : State :=
  { s.bankTold q with update := { (s.bankTold q).update with resetUs := some (s.opUs + 100000) } }

theorem State.activateFirmware_eq (s : State) (q : Req) :
    s.activateFirmware q = (s.bankSwitched q).complete 0x0704 q .ok := rfl

theorem State.bankSwitched_update (s : State) (q : Req) :
    (s.bankSwitched q).update = { s.update with
      firmware := { s.update.firmware with selector := s.update.firmware.selector.put s.update.firmware.onTrial, stage := 4 }
      resetUs := some (s.opUs + 100000) } := by
  have log : (s.logChange (s.firmwareEntry q)).update = s.update := by simp only [State.logChange_frame]
  have stage := State.setStage_update ((s.logChange (s.firmwareEntry q)).modTarget 1
    (fun u' => { u' with selector := u'.selector.put s.update.firmware.onTrial })) 1 4
  simp only [State.bankSwitched, State.bankTold, State.event_frame, stage]
  simp only [State.modTarget, if_true, log]

theorem State.bankSwitched_log {s : State} (room : s.log.length < logCapacity) (q : Req) :
    (s.bankSwitched q).log = s.log ++ [s.stamped (s.firmwareEntry q)] := by
  simp only [State.bankSwitched, State.bankTold, State.event_frame, State.setStage_frame, State.modTarget_frame]
  rw [State.logChange_appends room]

theorem answeredOnly_logChange {s u : State} (room : u.log.length < logCapacity) (only : AnsweredOnly s u) (e : LogEntry) :
    AnsweredOnly s (u.logChange e) := by
  unfold AnsweredOnly at *
  rw [State.logChange_appends room, only]

theorem State.bankSwitched_only {s : State} {q : Req} (room : s.log.length < logCapacity) :
    AnsweredOnly s ((s.heard q).bankSwitched q) := by
  have told : AnsweredOnly s ((s.heard q).bankTold q) :=
    answeredOnly_event (answeredOnly_setStage (answeredOnly_modTarget
      (answeredOnly_logChange (u := s.heard q) room (answeredOnly_heard s q) _) ..) ..) ..
  unfold State.bankSwitched
  generalize (s.heard q).bankTold q = w at *
  unfold AnsweredOnly at *
  rw [told]

theorem execUpdateActivate_switches {q : Req} {s : State} (asked : ActivationAsked s q) (firmware : q.p0 = 1)
    (zero : q.p1 = 0) (room : s.log.length < logCapacity) :
    ∃ t e, exec (.updateActivate q) s = .next t ∧
      t.update.firmware.sel = {
        active := s.update.firmware.inactive, previous := s.update.firmware.sel.active, trial := true, boots := 0 } ∧
      t.update.firmware.stage = 4 ∧ t.update.resetUs = some (s.opUs + 100000) ∧ t.update.data = s.update.data ∧
      t.log = s.log ++ [e] ∧ e.item = 9 ∧ AnsweredOnly s t := by
  have decided := asked.decided (by rw [asked.stop, firmware]; rfl) (by rw [firmware, zero]; rfl)
  rw [if_pos firmware, if_pos (State.logRoom_one room), State.activateFirmware_eq] at decided
  have update := (s.heard q).bankSwitched_update q
  have log := State.bankSwitched_log (s := s.heard q) room q
  simp only [exec, execUpdateActivate, decided]
  have only := answeredOnly_complete (State.bankSwitched_only (q := q) room) 0x0704 q .ok 0 0
  generalize (s.heard q).bankSwitched q = u at *
  have same : (u.complete 0x0704 q .ok).settle.update = u.update := by
    simp only [State.settle_frame, State.complete_frame]
  refine ⟨_, (s.heard q).stamped ((s.heard q).firmwareEntry q), rfl, ?_, ?_, ?_, ?_, ?_, ?_, only⟩
  · rw [same, update]
    simp only [UpdateTarget.sel, Dup.current_put]
    rfl
  · rw [same, update]
  · rw [same, update]
    rfl
  · rw [same, update]
    rfl
  · simp only [State.settle_frame, State.complete_frame]
    exact log
  · rfl

theorem execUpdateActivate_waits {q : Req} {s : State} (asked : ActivationAsked s q) (data : q.p0 = 2) (flag : q.p1 ≤ 1)
    (life : s.benchLifecycle = true) (steady : s.onTrial = false) :
    ∃ t, exec (.updateActivate q) s = .next t ∧
      t = { s with eng := { s.eng with waiting := s.eng.waiting ++ [.activate q (q.p1 == 1)] },
                   mg := { s.mg with sessions := t.mg.sessions }, hi := mirrorOf s t } := by
  have params : (targetOk q.p0 && (q.p1 == 0 || (q.p0 == 2 && q.p1 == 1))) = true := by
    rw [data]
    rcases Nat.le_one_iff_eq_zero_or_eq_one.mp flag with zero | one
    · rw [zero]; rfl
    · rw [one]; rfl
  have state : (s.power.state == .stop && (q.p0 != 2 ||
      ((s.lifecycle == 2 || s.lifecycle == 3 || s.lifecycle == 4) && !s.onTrial))) = true := by
    rw [asked.stop, steady, show (s.lifecycle == 2 || s.lifecycle == 3 || s.lifecycle == 4) = true from life]
    simp
  have decided := asked.decided state params
  rw [if_neg (by omega)] at decided
  simp only [exec, execUpdateActivate, decided]
  refine ⟨_, rfl, ?_⟩
  simp only [State.settle_frame]
  exact State.settle_eq _

/-! ### UPDATE_CONFIRM -/

/-- The rollback counter that a confirmed image sets (R411). -/
def UpdateTarget.raised (u : UpdateTarget) : Nat := Nat.max u.counter (upRollback u.header)

/-- The firmware confirmed, and told (R419). -/
def State.confirmTold (s : State) : State :=
  let u := s.update.firmware
  let s1 := s.modTarget 1 (fun u' => { u' with
    selector := u'.selector.put { u.sel with trial := false }, rollback := u'.rollback.put u.raised })
  (s1.setStage 1 5).event 0xB014 .mg .info (u.version u.sel.active) u.raised

/-- The firmware confirmed, with the migration it commits (R419, R421). -/
def State.confirmed (s : State) : State :=
  let u := s.update.firmware
  let s2 := s.confirmTold
  let s3 := if s.update.migrated = 0 then s2
    else s2.event 0xB031 .mg .info (u.version u.sel.active) s.update.migrated
  { s3 with update := { s3.update with migrated := 0 } }

theorem State.confirmTold_update (s : State) :
    s.confirmTold.update = { s.update with firmware := { s.update.firmware with
      selector := s.update.firmware.selector.put { s.update.firmware.sel with trial := false }
      rollback := s.update.firmware.rollback.put s.update.firmware.raised, stage := 5 } } := by
  simp only [State.confirmTold, State.event_frame, State.setStage_update]
  simp only [State.modTarget, if_true]

theorem State.confirmTold_only {s u : State} (only : AnsweredOnly s u) : AnsweredOnly s u.confirmTold :=
  answeredOnly_event (answeredOnly_setStage (answeredOnly_modTarget only ..) ..) ..

theorem State.confirmed_update (s : State) :
    s.confirmed.update = { s.confirmTold.update with migrated := 0 } := by
  simp only [State.confirmed]
  split_ifs <;> simp only [State.event_frame]

theorem State.confirmed_only {s u : State} (only : AnsweredOnly s u) : AnsweredOnly s u.confirmed := by
  have told := State.confirmTold_only only
  unfold State.confirmed
  generalize u.confirmTold = w at *
  unfold AnsweredOnly at *
  dsimp only
  rw [told]
  split_ifs <;> rfl

theorem State.confirmed_firstReport {s u : State} (same : u.recorder = s.recorder) :
    FirstReport s u.confirmed 0xB014 (u.update.firmware.version u.update.firmware.sel.active) u.update.firmware.raised 0 := by
  have told : InboxKept u.confirmTold u.confirmed := by
    unfold State.confirmed
    dsimp only
    split_ifs
    · exact List.prefix_refl _
    · exact InboxKept.event (List.prefix_refl _) ..
  unfold State.confirmTold at told
  refine firstReport_of_inboxKept ?_ told
  simp only [State.setStage_frame, State.modTarget_frame, same]

theorem State.decideUpdateConfirm_confirms {q : Req} {s : State} (settled : Settled s)
    (role : s.holds q (some .maintainer) = true) (trial : s.onTrial = true) :
    s.decideUpdateConfirm q = (s.heard q).confirmed.answer 0x0705 q .ok := by
  have tried : ¬(!s.update.firmware.sel.trial) = true := by
    rw [show s.update.firmware.sel.trial = true from trial]
    decide
  simp only [State.decideUpdateConfirm]
  rw [State.mgCommand_settled settled (.inr (by decide)) role rfl]
  exact (if_neg tried).trans rfl

theorem execUpdateConfirm_confirms {q : Req} {s : State} (settled : Settled s)
    (role : s.holds q (some .maintainer) = true) (trial : s.onTrial = true) :
    ∃ t, exec (.updateConfirm q) s = .next t ∧ t.onTrial = false ∧
      t.update.firmware.sel.active = s.update.firmware.sel.active ∧ t.update.firmware.stage = 5 ∧
      t.update.firmware.counter = Nat.max s.update.firmware.counter (upRollback s.update.firmware.header) ∧
      t.update.migrated = 0 ∧ t.update.data = s.update.data ∧
      FirstReport s t 0xB014 (s.update.firmware.version s.update.firmware.sel.active) t.update.firmware.counter 0 ∧
      AnsweredOnly s t := by
  have update : ((s.heard q).confirmed.answer 0x0705 q .ok).settle.update = { s.update with
      firmware := { s.update.firmware with
        selector := s.update.firmware.selector.put { s.update.firmware.sel with trial := false }
        rollback := s.update.firmware.rollback.put s.update.firmware.raised, stage := 5 }
      migrated := 0 } := by
    rw [State.answered_update, State.confirmed_update, State.confirmTold_update]
    rfl
  have counter : ((s.heard q).confirmed.answer 0x0705 q .ok).settle.update.firmware.counter =
      s.update.firmware.raised := by
    rw [update]
    simp only [UpdateTarget.counter, Dup.current_put]
    rfl
  simp only [exec, execUpdateConfirm, State.decideUpdateConfirm_confirms settled role trial]
  refine ⟨_, rfl, ?_, ?_, ?_, counter, ?_, ?_, ?_, answeredOnly_answer (State.confirmed_only (answeredOnly_heard s q)) ..⟩
  · simp only [State.onTrial, update, UpdateTarget.sel, Dup.current_put]
    rfl
  · simp only [update, UpdateTarget.sel, Dup.current_put]
    rfl
  · rw [update]
  · rw [update]
  · rw [update]
  · rw [counter]
    have told := State.confirmed_firstReport (s := s) (u := s.heard q) rfl
    rw [FirstReport, State.answered_recorder]
    exact told

/-! ### UPDATE_ABORT -/

/-- The target of a download given up (R344). -/
def UpdateTarget.dropped (u : UpdateTarget) : UpdateTarget :=
  { u with header := [], table := [], good := 0, chunk := 0, chunks := [] }

theorem State.decideUpdateAbort_aborts {q : Req} {s : State} (settled : Settled s)
    (role : s.holds q (some .maintainer) = true) (known : q.p0 = 1 ∨ q.p0 = 2) :
    s.decideUpdateAbort q = if 1 ≤ (s.target q.p0).stage && (s.target q.p0).stage ≤ 3 then
      (((s.heard q).modTarget q.p0 UpdateTarget.dropped).setStage q.p0 0).answer 0x0707 q .ok
      else (s.heard q).answer 0x0707 q .ok := by
  simp only [State.decideUpdateAbort]
  rw [State.mgCommand_settled settled (.inr (by decide)) role (targetOk_of known)]
  rfl

theorem execUpdateAbort_aborts {q : Req} {s : State} (settled : Settled s) (role : s.holds q (some .maintainer) = true)
    (known : q.p0 = 1 ∨ q.p0 = 2) :
    ∃ t, exec (.updateAbort q) s = .next t ∧ t.recorder = s.recorder ∧ AnsweredOnly s t ∧
      t.target (3 - q.p0) = s.target (3 - q.p0) ∧
      (1 ≤ (s.target q.p0).stage ∧ (s.target q.p0).stage ≤ 3 → t.target q.p0 = { s.target q.p0 with
        stage := 0, header := [], table := [], good := 0, chunk := 0, chunks := [] }) ∧
      ((s.target q.p0).stage = 0 ∨ 3 < (s.target q.p0).stage → t.update = s.update) := by
  have heard := answeredOnly_heard s q
  simp only [exec, execUpdateAbort, State.decideUpdateAbort_aborts settled role known]
  by_cases loading : 1 ≤ (s.target q.p0).stage ∧ (s.target q.p0).stage ≤ 3
  · rw [if_pos (by simpa using loading)]
    refine ⟨_, rfl, ?_, answeredOnly_answer (answeredOnly_setStage (answeredOnly_modTarget heard ..) ..) .., ?_, fun _ => ?_,
      fun done => by omega⟩
    · simp only [State.answered_recorder, State.setStage_frame, State.modTarget_frame, State.heard_frame]
    · rw [State.answered_target, State.setStage_target_other known, State.modTarget_target_other known, State.heard_target]
    · rw [State.answered_target, State.setStage_target_same, State.modTarget_target_same, State.heard_target]
      rfl
  · rw [if_neg (by simpa using loading)]
    refine ⟨_, rfl, ?_, answeredOnly_answer heard .., ?_, fun active => absurd active loading, fun _ => ?_⟩
    · simp only [State.answered_recorder, State.heard_frame]
    · rw [State.answered_target, State.heard_target]
    · rw [State.answered_update]
      rfl

end Sys2Proof.Machine
end

section
/-! PROOF. The end of the validation of station data, and the update commands as a whole (R54, R388, R415). -/

namespace Sys2Proof.Machine

open Sys2Proof Sys2Proof.Safety

/-! ### The command that waits -/

/-- The request of an activation under validation, and whether it is for a new station. -/
def Waiting.activation : Waiting → Option (Req × Bool)
  | .activate q n => some (q, n)
  | _ => none

/-- Whether a waiting command is another than an activation. -/
def Waiting.other : Waiting → Bool
  | .activate _ _ => false
  | _ => true

/-- An activation that waits for the relatch instead (R187). -/
def Waiting.relatched : Waiting → Waiting
  | .activate q _ => .relatch q
  | w => w

theorem Waiting.ofOther {w : Waiting} (other : ∀ r k, w ≠ .activate r k) :
    w.activation = none ∧ w.other = true ∧ w.relatched = w := by
  cases w with
  | activate r k => exact absurd rfl (other r k)
  | _ => exact ⟨rfl, rfl, rfl⟩

theorem findSome?_activation_none {l : List Waiting} (others : ∀ w ∈ l, ∀ r k, w ≠ .activate r k) :
    l.findSome? Waiting.activation = none :=
  List.findSome?_eq_none_iff.mpr fun w mem => (Waiting.ofOther (others w mem)).1

section Single

variable {l m : List Waiting} (others : ∀ w ∈ l ++ m, ∀ r k, w ≠ .activate r k) (q : Req) (n : Bool)
include others

theorem findSome?_activation : (l ++ .activate q n :: m).findSome? Waiting.activation = some (q, n) := by
  have before := findSome?_activation_none fun w mem => others w (List.mem_append_left _ mem)
  rw [List.findSome?_append, before]
  rfl

theorem filter_other : (l ++ .activate q n :: m).filter Waiting.other = l ++ m := by
  have kept : (l ++ m).filter Waiting.other = l ++ m :=
    List.filter_eq_self.mpr fun w mem => (Waiting.ofOther (others w mem)).2.1
  rw [List.filter_append] at kept ⊢
  exact kept

theorem map_relatched : (l ++ .activate q n :: m).map Waiting.relatched = l ++ .relatch q :: m := by
  have same (k : List Waiting) (inside : ∀ w ∈ k, w ∈ l ++ m) : k.map Waiting.relatched = k :=
    (List.map_congr_left fun w mem => (Waiting.ofOther (others w (inside w mem))).2.2).trans (List.map_id' k)
  rw [List.map_append, List.map_cons, same l fun w mem => List.mem_append_left _ mem,
    same m fun w mem => List.mem_append_right _ mem]
  rfl

end Single

/-! ### A refusal -/

theorem State.refuseActivation_eq (s : State) (q : Req) (reason param : Nat) :
    s.refuseActivation q reason param =
      (({ s with eng := { s.eng with waiting := s.eng.waiting.filter Waiting.other } }).lastReason 2 reason).complete
        0x0704 q .refused reason param := rfl

/-- A refusal takes the command out and keeps its reason; nothing of the station changes (R54). -/
theorem State.refuseActivation_refused {s : State} {q : Req} {n : Bool} {l m : List Waiting}
    (waits : s.eng.waiting = l ++ .activate q n :: m) (others : ∀ w ∈ l ++ m, ∀ r k, w ≠ .activate r k)
    (reason param : Nat) :
    (s.refuseActivation q reason param).settle.eng = { s.eng with waiting := l ++ m } ∧
      (s.refuseActivation q reason param).settle.station = s.station ∧
      (s.refuseActivation q reason param).settle.recorder = s.recorder ∧
      (s.refuseActivation q reason param).settle.update =
        { s.update with data := { s.update.data with lastReason := reason } } := by
  simp only [State.settle_frame, State.refuseActivation_eq, State.complete_frame,
    State.lastReason_frame, waits, filter_other others, true_and]
  rfl

/-! ### The outcome of the validation -/

/-- The validation of the inactive bank (R54). -/
def State.validated (s : State) (n : Bool) : Option ImageFault :=
  validate {
    bytes := s.update.data.bank s.update.data.inactive, variant := s.unit.variant, keyId := s.sec.keyId,
    key := s.sec.key, activeStation := s.station.map Station.stationId, newStation := n }

/-- The station of the inactive bank. -/
def State.stationNext (s : State) : Station := parseStation (s.update.data.bank s.update.data.inactive)

theorem State.validationDone_eq (s : State) : s.validationDone =
    match s.eng.waiting.findSome? Waiting.activation with
    | none => s
    | some (q, n) =>
      if s.update.data.stage ≠ 3 then s.refuseActivation q 0x0716 s.update.data.stage
      else match s.validated n with
        | some f =>
          (s.event 0xB020 .cl .info f.reason f.sectionCode f.recordNo).refuseActivation q f.reason f.locator
        | none =>
          if s.logRoom (s.entriesNeeded s.stationNext) then s.activateData q s.stationNext
          else s.refuseActivation q 0x0817 (logCapacity - s.log.length) := rfl

/-! ### Station data taken into use -/

theorem State.logChange_length {s : State} (room : s.log.length < logCapacity) (e : LogEntry) :
    (s.logChange e).log.length = s.log.length + 1 := by
  rw [State.logChange_appends room]
  exact List.length_append

theorem foldl_logChange_length {α : Type} (f : State → α → LogEntry) (l : List α) {s : State}
    (room : s.log.length + l.length ≤ logCapacity) :
    (l.foldl (fun s p => s.logChange (f s p)) s).log.length = s.log.length + l.length := by
  induction l generalizing s with
  | nil => rfl
  | cons x l ih =>
    rw [List.length_cons] at room
    have one := State.logChange_length (s := s) (by omega) (f s x)
    rw [List.foldl_cons, ih (by omega), one, List.length_cons]
    omega

theorem State.discardConstants_log {s : State} (room : s.log.length + s.bench.constants.length ≤ logCapacity) (q : Req)
    (st : Station) : (s.discardConstants q st).log.length = s.log.length + s.bench.constants.length :=
  foldl_logChange_length _ _ room

/-- The station data in the registers, the selector switched, before the change log is written (R54, R58). -/
def State.stationSwitched (s : State) (q : Req) (st : Station) : State :=
  let bank := s.update.data.inactive
  (((s.clearForces 4).discardConstants q st).install st).modTarget 2 (fun u => { u with
    selector := u.selector.put { active := bank, previous := 1 - bank, trial := false, boots := 0 }
    rollback := u.rollback.put (Nat.max s.update.data.counter (upRollback s.update.data.header)) })

/-- The entry of an activation of station data in the change log (R388). -/
def State.stationEntry (s : State) (u : State) (q : Req) (st : Station) : LogEntry :=
  u.logBy q {
    item := 1, subject := word s.update.data.inactive, beforeCrc := s.station.elim 0 Station.imageCrc
    afterCrc := st.imageCrc, before := word (s.station.elim 0 Station.stationId), after := word st.stationId }

/-- The change log with the station and, where it is another, the table of Ashlar (R388). -/
def State.stationLogged (s : State) (q : Req) (st : Station) : State :=
  let s3 := s.stationSwitched q st
  let s4 := s3.logChange (s.stationEntry s3 q st)
  if ashlarCrc s.station = ashlarCrc (some st) then s4
  else s4.logChange (s4.logBy q {
    item := 2, subject := word s.update.data.inactive, beforeCrc := ashlarCrc s.station
    afterCrc := ashlarCrc (some st) })

/-- The activation told, its command waiting for the relatch (R187, R415). -/
def State.stationTold (s : State) (q : Req) (st : Station) : State :=
  let s6 := ((s.stationLogged q st).setStage 2 5).event 0xB022 .cl .info s.update.data.inactive st.imageCrc.toNat
    st.stationId
  { s6 with eng := { s6.eng with waiting := s6.eng.waiting.map Waiting.relatched } }

theorem State.activateData_eq (s : State) (q : Req) (st : Station) :
    s.activateData q st = (s.stationTold q st).resetAshlar := rfl

theorem State.stationLogged_eq (s : State) (q : Req) (st : Station) :
    s.stationLogged q st = { s.stationSwitched q st with
      log := (s.stationLogged q st).log, recorder := (s.stationLogged q st).recorder } := by
  apply State.ext <;> simp only [State.stationLogged] <;> split_ifs <;> simp only [State.logChange_frame]

theorem State.stationLogged_log {s : State} {st : Station} (room : s.log.length + s.entriesNeeded st ≤ logCapacity)
    (q : Req) : (s.stationLogged q st).log.length = s.log.length + s.entriesNeeded st := by
  have enough := room
  unfold State.entriesNeeded at enough ⊢
  have constants : (s.clearForces 4).bench.constants = s.bench.constants := by simp only [State.clearForces_bench_frame]
  have log : (s.clearForces 4).log = s.log := by simp only [State.clearForces_frame]
  have discarded := State.discardConstants_log (s := s.clearForces 4) (by rw [constants, log]; omega) q st
  rw [constants, log] at discarded
  have switched : (s.stationSwitched q st).log.length = s.log.length + s.bench.constants.length := by
    simp only [State.stationSwitched, State.modTarget_frame, State.install_frame]
    exact discarded
  have station := State.logChange_length (s := s.stationSwitched q st) (by rw [switched]; omega)
    (s.stationEntry (s.stationSwitched q st) q st)
  rw [switched] at station
  unfold State.stationLogged
  dsimp only
  split
  next same =>
    rw [if_pos same] at enough
    rw [station]
    omega
  next differs =>
    rw [if_neg differs] at enough
    rw [State.logChange_length (by rw [station]; omega), station]
    omega

/-- What the activation leaves in the parts of the module that it writes (R42, R54, R58, R411). -/
theorem State.stationSwitched_kept (s : State) (q : Req) (st : Station) :
    (s.stationSwitched q st).station = some st ∧ (s.stationSwitched q st).eng.waiting = s.eng.waiting ∧
      (s.stationSwitched q st).bench.forces = [] ∧ (s.stationSwitched q st).bench.constants = [] ∧
      (s.stationSwitched q st).update.data.sel.active = s.update.data.inactive := by
  have eng : ((s.clearForces 4).discardConstants q st).eng = s.eng := by
    simp only [State.discardConstants_frame, State.clearForces_frame]
  have bench : ((s.clearForces 4).discardConstants q st).bench.forces = [] := by
    simp only [State.discardConstants]
    rw [State.foldl_bench _ (fun s p => by simp only [State.logChange_frame])]
    rfl
  refine ⟨by simp only [State.stationSwitched, State.modTarget_frame]; rfl, ?_, ?_, ?_, ?_⟩
  · simp only [State.stationSwitched, State.modTarget_frame, State.install, State.configurePorts_frame, eng]
  · simp only [State.stationSwitched, State.modTarget_frame, State.install_frame, bench]
  · simp only [State.stationSwitched, State.modTarget_frame, State.install_frame]
    rfl
  · change ((s.stationSwitched q st).target 2).sel.active = _
    rw [State.stationSwitched, State.modTarget_target_same]
    simp only [UpdateTarget.sel, Dup.current_put]
    rfl

theorem State.activateData_active {s : State} {q : Req} {n : Bool} {l m : List Waiting} {st : Station}
    (waits : s.eng.waiting = l ++ .activate q n :: m) (others : ∀ w ∈ l ++ m, ∀ r k, w ≠ .activate r k)
    (room : s.log.length + s.entriesNeeded st ≤ logCapacity) :
    (s.activateData q st).station = some st ∧ (s.activateData q st).eng.waiting = l ++ .relatch q :: m ∧
      (s.activateData q st).update.data.sel.active = s.update.data.inactive ∧
      (s.activateData q st).update.data.stage = 5 ∧ (s.activateData q st).bench.forces = [] ∧
      (s.activateData q st).bench.constants = [] ∧ (s.activateData q st).ash.state = .disarmed ∧
      (s.activateData q st).ash.permit = 0 ∧
      (s.activateData q st).log.length = s.log.length + s.entriesNeeded st := by
  obtain ⟨state, -, permit, -⟩ := (s.stationTold q st).resetAshlar_disarmed
  obtain ⟨station, waiting, forces, constants, active⟩ := s.stationSwitched_kept q st
  have logged := s.stationLogged_eq q st
  have length := State.stationLogged_log room q
  have update : (s.stationTold q st).update = ((s.stationLogged q st).modTarget 2 (fun u => { u with stage := 5 })).update :=
    State.setStage_update ..
  simp only [State.activateData_eq, State.resetAshlar_frame, update, state, permit, true_and]
  simp only [State.stationTold, State.event_frame, State.setStage_frame, length]
  rw [logged]
  simp only [station, waiting, forces, constants, waits, map_relatched others, true_and, and_true]
  exact ⟨active, rfl⟩

/-! ### ACTIVATION_VALIDATION_DONE -/

section Validation

variable {q : Req} {n : Bool} {l m : List Waiting} {s : State}

theorem execActivationValidationDone_lateStage (waits : s.eng.waiting = l ++ .activate q n :: m)
    (others : ∀ w ∈ l ++ m, ∀ r k, w ≠ .activate r k) (stage : s.update.data.stage ≠ 3) :
    exec .activationValidationDone s = .next (s.refuseActivation q 0x0716 s.update.data.stage).settle := by
  simp only [exec, execActivationValidationDone, State.validationDone_eq, waits, findSome?_activation others]
  rw [if_pos stage]

theorem execActivationValidationDone_judged (waits : s.eng.waiting = l ++ .activate q n :: m)
    (others : ∀ w ∈ l ++ m, ∀ r k, w ≠ .activate r k) (stage : s.update.data.stage = 3) :
    exec .activationValidationDone s = .next (match s.validated n with
      | some f => (s.event 0xB020 .cl .info f.reason f.sectionCode f.recordNo).refuseActivation q f.reason f.locator
      | none =>
        if s.logRoom (s.entriesNeeded s.stationNext) then s.activateData q s.stationNext
        else s.refuseActivation q 0x0817 (logCapacity - s.log.length)).settle := by
  simp only [exec, execActivationValidationDone, State.validationDone_eq, waits, findSome?_activation others]
  rw [if_neg (not_not.mpr stage)]

theorem execActivationValidationDone_outcome (waits : s.eng.waiting = l ++ .activate q n :: m)
    (others : ∀ w ∈ l ++ m, ∀ r k, w ≠ .activate r k) (stage : s.update.data.stage = 3) {f : Option ImageFault}
    (found : f = s.validated n) :
    ∃ t, exec .activationValidationDone s = .next t ∧
      (∀ x, f = some x → t.eng = { s.eng with waiting := l ++ m } ∧ t.station = s.station ∧
        t.update = { s.update with data := { s.update.data with lastReason := x.reason } } ∧
        Recorded s t 0xB020 x.reason x.sectionCode x.recordNo) ∧
      (f = none → s.log.length + s.entriesNeeded s.stationNext ≤ logCapacity →
        t.station = some s.stationNext ∧
        t.eng.waiting = l ++ .relatch q :: m ∧
        t.update.data.sel.active = s.update.data.inactive ∧ t.update.data.stage = 5 ∧ t.bench.forces = [] ∧
        t.bench.constants = [] ∧ t.ash.state = .disarmed ∧ t.ash.permit = 0 ∧
        t.log.length = s.log.length + s.entriesNeeded s.stationNext) ∧
      (f = none → logCapacity < s.log.length + s.entriesNeeded s.stationNext →
        t.eng = { s.eng with waiting := l ++ m } ∧ t.station = s.station ∧ t.recorder = s.recorder ∧
        t.update = { s.update with data := { s.update.data with lastReason := 0x0817 } }) := by
  rw [execActivationValidationDone_judged waits others stage, ← found]
  cases f with
  | some x =>
    refine ⟨_, rfl, ?_, nofun, nofun⟩
    rintro _ ⟨rfl⟩
    obtain ⟨eng, station, recorder, update⟩ := State.refuseActivation_refused
      (s := s.event 0xB020 .cl .info x.reason x.sectionCode x.recordNo) waits others x.reason x.locator
    exact ⟨eng, station, update, recorded_framed (State.event_recorded rfl rfl rfl ..) recorder⟩
  | none =>
    refine ⟨_, rfl, nofun, fun _ room => ?_, fun _ full => ?_⟩
    · have active := State.activateData_active waits others room
      dsimp only
      rw [if_pos (show s.logRoom (s.entriesNeeded s.stationNext) = true from decide_eq_true room)]
      simpa only [State.settle_frame] using active
    · obtain ⟨eng, station, recorder, update⟩ :=
        State.refuseActivation_refused waits others 0x0817 (logCapacity - s.log.length)
      dsimp only
      rw [if_neg (show ¬s.logRoom (s.entriesNeeded s.stationNext) = true by
        simpa only [State.logRoom, decide_eq_true_eq, Nat.not_le] using full)]
      exact ⟨eng, station, recorder, update⟩

theorem execActivationValidationDone_none (others : ∀ w ∈ s.eng.waiting, ∀ r k, w ≠ .activate r k) :
    exec .activationValidationDone s = .next s.settle := by
  simp only [exec, execActivationValidationDone, State.validationDone_eq, findSome?_activation_none others]

end Validation

end Sys2Proof.Machine

namespace Sys2Proof.Proofs

open Sys2Proof Sys2Proof.Machine Sys2Proof.Safety

/-- Settles O59: each command is accepted and leaves its target as `State.modTarget` and `State.setStage` say; the end of
a validation refuses or runs `State.activateData`, whose entries are counted into the change log (log entries 75 to
77). -/
theorem updateCommands : Obligations.UpdateCommands := by
  unfold Obligations.UpdateCommands
  refine ⟨?begins, ?takes, ?verifies, ?activates, ?confirms, ?aborts, ?validated, ?late, ?idle⟩
  case begins =>
    intro q s settled role known steady length named some' few idle
    exact execUpdateBegin_begins settled role known steady length named some' few idle
  case takes =>
    intro q size s settled role known small loading next left some' length
    exact execUpdateData_takes ⟨settled, role, known, small, loading, next, left, some', length⟩
  case verifies =>
    intro q s settled role known
    exact execUpdateVerify_judges settled role known
  case activates =>
    intro q s stop alive life role opened verified free
    have asked : ActivationAsked s q := ⟨stop, alive, life, role, opened, verified, free⟩
    exact ⟨fun firmware zero room => execUpdateActivate_switches asked firmware zero room,
      fun data flag life steady _ => execUpdateActivate_waits asked data flag life steady⟩
  case confirms =>
    intro q s settled role trial
    exact execUpdateConfirm_confirms settled role trial
  case aborts =>
    intro q s settled role known
    exact execUpdateAbort_aborts settled role known
  case validated =>
    intro q n l m f s waits others stage found
    exact execActivationValidationDone_outcome waits others stage found
  case late =>
    intro q n l m s waits others stage
    exact ⟨_, execActivationValidationDone_lateStage waits others stage,
      State.refuseActivation_refused waits others 0x0716 s.update.data.stage⟩
  case idle =>
    intro s others
    exact ⟨_, execActivationValidationDone_none others, State.settle_eq s⟩

end Sys2Proof.Proofs
end

section
/-! PROOF. The life-cycle fuses through the operations that write the security registers: only an advance of the
life-cycle blows one (R369, R371). -/

namespace Sys2Proof.Machine

open Sys2Proof Sys2Proof.Safety

/-- The four life-cycle fuses of one state as in another (R369). -/
abbrev SameFuses (s t : State) : Prop :=
  t.sec.lcP = s.sec.lcP ∧ t.sec.lcC = s.sec.lcC ∧ t.sec.lcO = s.sec.lcO ∧ t.sec.lcR = s.sec.lcR

@[simp] theorem Security.ite_fuses (c : Prop) [Decidable c] (a b : Security) :
    (if c then a else b).lcP = (if c then a.lcP else b.lcP) ∧ (if c then a else b).lcC = (if c then a.lcC else b.lcC) ∧
      (if c then a else b).lcO = (if c then a.lcO else b.lcO) ∧ (if c then a else b).lcR = (if c then a.lcR else b.lcR) :=
  ⟨apply_ite .., apply_ite .., apply_ite .., apply_ite ..⟩

@[simp] theorem Security.setLogin_fuses (c : Security) (r : Role) (x : LoginState) :
    (c.setLogin r x).lcP = c.lcP ∧ (c.setLogin r x).lcC = c.lcC ∧ (c.setLogin r x).lcO = c.lcO ∧
      (c.setLogin r x).lcR = c.lcR := by
  cases r <;> exact ⟨rfl, rfl, rfl, rfl⟩

@[simp] theorem Security.setPassword_fuses (c : Security) (r : Role) (p : Option Password) :
    (c.setPassword r p).lcP = c.lcP ∧ (c.setPassword r p).lcC = c.lcC ∧ (c.setPassword r p).lcO = c.lcO ∧
      (c.setPassword r p).lcR = c.lcR := by
  cases r <;> exact ⟨rfl, rfl, rfl, rfl⟩

/-! ### Leaving RUN -/

@[simp] theorem State.takeBack_fuses (s : State) : SameFuses s s.takeBack := by
  unfold State.takeBack
  split <;> exact ⟨rfl, rfl, rfl, rfl⟩

@[simp] theorem State.discardWork_fuses (s : State) (keep : Option Req) : SameFuses s (s.discardWork keep) := by
  simp [SameFuses, State.discardWork_sec]

@[simp] theorem State.standDown_fuses (s : State) (halt : Bool) : SameFuses s (s.standDown halt) := by
  simp [SameFuses, State.standDown_sec]

@[simp] theorem State.enterLockout_fuses (s : State) (cause : Nat) (halt repeated : Bool) :
    SameFuses s (s.enterLockout cause halt repeated) := by
  simp only [State.enterLockout]
  split <;> simp [SameFuses, State.note_frame, State.event_frame]

@[simp] theorem State.enterSafeNow_fuses (s : State) (cause : Nat) (halt : Bool) :
    SameFuses s (s.enterSafeNow cause halt) := by
  simp only [State.enterSafeNow]
  split <;> simp [SameFuses, State.note_frame, State.event_frame]

@[simp] theorem State.enterSafe_fuses (s : State) (cause : Nat) (halt : Bool) :
    SameFuses s (s.enterSafe cause halt) := by
  unfold State.enterSafe
  (repeat' split) <;> simp [SameFuses, State.keepLockout_frame]

@[simp] theorem State.enterStop_fuses (s : State) (keep : Option Req) : SameFuses s (s.enterStop keep) := by
  simp [SameFuses, State.enterStop, State.dwellPause_frame, State.flushNotes_frame, State.sendHalt_frame]

/-! ### The voting cluster -/

@[simp] theorem State.comparatorsDiffer_fuses (s : State) (x y : Byte) :
    SameFuses s (s.comparatorsDiffer x y) := by
  simp [SameFuses, State.comparatorsDiffer, State.voteEvent_frame]

@[simp] theorem State.laneFault_fuses (s : State) (lane : Nat) : SameFuses s (s.laneFault lane) := by
  simp only [State.laneFault]
  (repeat' split) <;> simp [SameFuses, State.voteEvent_frame, State.putRepair_frame]

@[simp] theorem State.disagreement_fuses (s : State) (code verdict : Nat) :
    SameFuses s (s.disagreement code verdict) := by
  simp [SameFuses, State.disagreement, State.destroyStore_frame, State.setCore_frame]

@[simp] theorem State.safeTested_fuses (s : State) (failed : List Nat) : SameFuses s (s.safeTested failed) := by
  simp [SameFuses, State.safeTested, State.rebuildSlots_frame, State.countOrMark_frame, State.markFailed_frame,
    State.voteAgain_frame, State.event_frame]

@[simp] theorem State.syncDone_fuses (s : State) (differ : Bool) : SameFuses s (s.syncDone differ) := by
  simp [SameFuses, State.syncDone, State.copyCore_frame]

@[simp] theorem State.laneTest_fuses (s : State) (passed : Bool) : SameFuses s (s.laneTest passed) := by
  unfold State.laneTest
  split <;> simp [SameFuses, State.transientFault_frame]

/-! ### Ashlar, the isolation link and the networks -/

@[simp] theorem State.ashTrip_fuses (s : State) (cause expected seen : Nat) :
    SameFuses s (s.ashTrip cause expected seen) := by
  simp [SameFuses, State.ashTrip, State.ashEval_frame, State.event_frame]

@[simp] theorem State.codeAt_fuses (s : State) (c d : Word) : SameFuses s (s.codeAt c d) := by
  unfold State.codeAt
  split <;> simp [SameFuses, State.codeInReady_frame, State.codeInArmed, State.haltAccepted_frame, State.event_frame,
    State.ashReady_frame, State.acceptCode_frame]

@[simp] theorem State.takeCode_fuses (s : State) (seen : Option (Word × Word)) :
    SameFuses s (s.takeCode seen) := by
  simp only [State.takeCode]
  (repeat' split) <;> simp [SameFuses, State.haltAccepted_frame]

@[simp] theorem State.loadFails_fuses (s : State) (src : Source) (cause : Nat) (expected computed : Word) :
    SameFuses s (s.loadFails src cause expected computed) := by
  simp [SameFuses, State.loadFails, State.startFailed_frame, State.event_frame]

@[simp] theorem State.tableLoaded_fuses (s : State) (seen back : Option (List Byte)) :
    SameFuses s (s.tableLoaded seen back) := by
  simp only [State.tableLoaded]
  split <;> simp [SameFuses, State.event_frame, State.ashReady_frame, State.relatched_frame, State.tryRun_frame]

@[simp] theorem State.ashCount_fuses (s : State) (n : Nat) : SameFuses s (s.ashCount n) := by
  simp only [State.ashCount]
  (repeat' split) <;> simp [SameFuses, State.event_frame]

@[simp] theorem State.clusterCount_fuses (s : State) (n : Nat) : SameFuses s (s.clusterCount n) := by
  simp [SameFuses, State.clusterCount, State.causeOff_frame, State.causeOn_frame, State.event_frame]

@[simp] theorem State.ashStale_fuses (s : State) : SameFuses s s.ashStale := by
  simp [SameFuses, State.ashStale, State.causeOn_frame, State.event_frame, State.ashEval_frame]

@[simp] theorem State.linkLoss_fuses (s : State) (d : LinkLoss) : SameFuses s (s.linkLoss d) := by
  simp [SameFuses, State.linkLoss, State.causeOn_frame, State.event_frame]

@[simp] theorem State.combined_fuses (s : State) (x : RxTelegram) (step : SeqStep) (a b : Nat) :
    SameFuses s (s.combined x step a b) := by
  simp only [State.combined]
  (repeat' split) <;> simp [SameFuses, State.event_frame, State.modNode_frame, State.acceptTelegram_frame, State.countPort_frame,
    State.discarded_frame]

@[simp] theorem State.checkNext_fuses (s : State) (faultX faultY : Option Nat) :
    SameFuses s (s.checkNext faultX faultY) := by
  simp only [State.checkNext]
  split <;> simp [SameFuses, State.drainPorts_frame, State.listTelegram_frame, State.noteHeard_frame]

/-! ### Security -/

@[simp] theorem State.acknowledge_fuses (s : State) : SameFuses s s.acknowledge := by
  simp only [State.acknowledge]
  split <;> simp [SameFuses, State.event_frame]

@[simp] theorem State.openSession_fuses (s : State) (q : Req) (r : Role) : SameFuses s (s.openSession q r) := by
  simp [SameFuses, State.openSession, State.complete_frame, State.event_frame]

@[simp] theorem State.loginFails_fuses (s : State) (q : Req) (r : Role) : SameFuses s (s.loginFails q r) := by
  simp only [State.loginFails]
  split <;> simp [SameFuses, State.complete_frame, State.event_frame]

/-- A command of the cluster that changes no fuse where it is accepted changes none at all. -/
theorem State.clCommand_fuses {s : State} {q : Req} (op : Nat) (v : Option Status) {k : State → State}
    (kept : SameFuses s (k (s.heard q))) : SameFuses s (s.clCommand q op v k) := by
  unfold State.clCommand
  split
  · exact ⟨rfl, rfl, rfl, rfl⟩
  · split
    · simp [SameFuses, State.complete_frame, State.heard_frame]
    · exact kept

@[simp] theorem State.decideRoleLogin_fuses (s : State) (q : Req) : SameFuses s (s.decideRoleLogin q) := by
  refine State.clCommand_fuses _ _ ?_
  simp [SameFuses, State.complete_frame, State.heard_frame]

@[simp] theorem State.decidePasswordSet_fuses (s : State) (q : Req) :
    SameFuses s (s.decidePasswordSet q) := by
  refine State.clCommand_fuses _ _ ?_
  cases bad : badPasswordByte (passwordOf q.payload) <;>
    simp [SameFuses, bad, State.complete_frame, State.heard_frame, State.logFull_frame, State.logChange_frame]

@[simp] theorem State.decideKeyInstall_fuses (s : State) (q : Req) : SameFuses s (s.decideKeyInstall q) := by
  refine State.clCommand_fuses _ _ ?_
  simp [SameFuses, State.complete_frame, State.heard_frame, State.logFull_frame, State.logChange_frame]

@[simp] theorem State.endDebug_fuses (s : State) (cause : Nat) : SameFuses s (s.endDebug cause) := by
  simp [SameFuses, State.endDebug, State.event_frame, State.holdDebug_frame]

@[simp] theorem State.breakLockstep_fuses (s : State) (core : Nat) (k : DebugKind) :
    SameFuses s (s.breakLockstep core k) := by
  simp [SameFuses, State.breakLockstep, State.event_frame, State.holdDebug_frame, State.holdLockstep_frame]

@[simp] theorem State.attach_fuses (s : State) (k : DebugKind) (core : Nat) : SameFuses s (s.attach k core) := by
  simp [SameFuses, State.attach, State.event_frame]

@[simp] theorem State.sealAccepted_fuses (s : State) (p : BitVec 4) : SameFuses s (s.sealAccepted p) := by
  simp [SameFuses, State.sealAccepted, State.event_frame]

@[simp] theorem State.finishAdvance_fuses (s : State) (e : LogEntry) (old new : Nat) (recovered : Bool) :
    SameFuses s (s.finishAdvance e old new recovered) := by
  simp [SameFuses, State.finishAdvance, State.event_frame, State.logChange_frame, State.eraseRetired]

/-! ### Power, START and the shutdown test -/

@[simp] theorem State.withdrawBlock_fuses (s : State) (b : Nat) : SameFuses s (s.withdrawBlock b) := by
  simp [SameFuses, State.withdrawBlock, State.event_frame]

@[simp] theorem State.powerReset_fuses (s : State) : SameFuses s s.powerReset := ⟨rfl, rfl, rfl, rfl⟩

@[simp] theorem State.readRt_fuses (s : State) (cellMv : Nat) (wasAlive : Bool) :
    SameFuses s (s.readRt cellMv wasAlive) := by
  simp [SameFuses, State.readRt, State.event_frame, State.anchor_frame]

@[simp] theorem State.readMode_fuses (s : State) : SameFuses s s.readMode := by
  simp [SameFuses, State.readMode, State.event_frame]

@[simp] theorem State.readAdvance_fuses (s : State) : SameFuses s s.readAdvance := by
  unfold State.readAdvance
  split <;> simp [SameFuses]

@[simp] theorem State.booted_fuses (s : State) (p : PowerOn) : SameFuses s (s.booted p) := by
  simp [SameFuses, State.booted, State.boot_frame, State.readRepair_frame]

@[simp] theorem State.readBack_fuses (s : State) (p : PowerOn) (wasAlive frozen : Bool) :
    SameFuses s (s.readBack p wasAlive frozen) := by
  simp [SameFuses, State.readBack, State.readUpdate_frame, State.loadStation_frame, State.migrate_frame, State.readFuses_frame,
    State.readStaged_frame, State.event_frame]

@[simp] theorem State.powerOn_fuses (s : State) (p : PowerOn) (wasAlive : Bool) :
    SameFuses s (s.powerOn p wasAlive) := by
  rw [State.powerOn_eq]
  split <;> simp [SameFuses, State.beginStart_frame]

@[simp] theorem State.startDoneWith_fuses (s : State) (r : StartResult) : SameFuses s (s.startDoneWith r) := by
  have reported (u : State) : (u.startReported r).sec = u.sec := by
    simp [State.startReported, State.startTested, State.event_frame, State.fullRestart_frame, State.settleSlots_frame,
      State.startMemory_frame, State.startCores_frame, State.startLane_frame, State.startSources_frame]
  rw [State.startDoneWith, State.startJudged_eq]
  simp [SameFuses, reported, State.checkStation_frame, State.startFailed_frame, State.endStartIn_frame, State.startPassed_frame,
    State.event_frame]

@[simp] theorem State.decideShutdown_fuses (s : State) (q : Req) : SameFuses s (s.decideShutdown q) := by
  refine State.clCommand_fuses _ _ ?_
  simp [SameFuses, State.event_frame, State.heard_frame]

@[simp] theorem State.supplyLow_fuses (s : State) (mv : Nat) : SameFuses s (s.supplyLow mv) := by
  simp [SameFuses, State.supplyLow, State.writeFailing_frame, State.abandonTest_frame, State.causeOn_frame, State.event_frame]

@[simp] theorem State.supplyGone_fuses (s : State) : SameFuses s s.supplyGone := by
  simp [SameFuses, State.supplyGone]

@[simp] theorem State.temperature_fuses (s : State) (c : Int) : SameFuses s (s.temperature c) := by
  simp [SameFuses, State.temperature, State.shutdownHot_frame, State.causeOff_frame, State.causeOn_frame, State.event_frame,
    State.note_frame]

/-! ### The bench -/

@[simp] theorem State.phaseO_fuses (s : State) (samples : List Word) : SameFuses s (s.phaseO samples) := by
  simp [SameFuses, State.phaseO, State.refreshDiag_frame, State.mirror_frame, State.deliverCode_frame, State.handOver_frame,
    State.logConstants_frame, State.buildTelegrams_frame, State.commitDemands_frame, State.showForcing_frame]

@[simp] theorem State.phaseH_fuses (s : State) (w : PhaseHWork) : SameFuses s (s.phaseH w) := by
  simp [SameFuses, State.phaseH, State.ramSlice]

@[simp] theorem State.overrun_fuses (s : State) (phase : Phase) (cycles engine : Nat) :
    SameFuses s (s.overrun phase cycles engine) := by
  simp [SameFuses, State.overrun, State.stopPhaseE_frame, State.event_frame]

end Sys2Proof.Machine
end

section
/-! PROOF. No step un-blows a life-cycle fuse: an advance of the life-cycle blows one, and every other row of the table
leaves all four (R369, R371). -/

namespace Sys2Proof.Machine

open Sys2Proof Sys2Proof.Safety

/-! ### An advance of the life-cycle, and the work that may hold one -/

theorem fusesKept_of_same {s t : State} (h : SameFuses s t) : FusesKept s t := by
  obtain ⟨p, c, o, r⟩ := h
  exact ⟨p.trans, c.trans, o.trans, r.trans⟩

theorem sameFuses_of_sec {s t : State} (h : t.sec = s.sec) : SameFuses s t := by
  rw [SameFuses, h]
  exact ⟨rfl, rfl, rfl, rfl⟩

theorem fusesKept_trans {s t u : State} (h : FusesKept s t) (k : FusesKept t u) : FusesKept s u := by
  obtain ⟨p, c, o, r⟩ := h
  obtain ⟨p', c', o', r'⟩ := k
  exact ⟨p' ∘ p, c' ∘ c, o' ∘ o, r' ∘ r⟩

theorem fusesKept_refl (s : State) : FusesKept s s := ⟨id, id, id, id⟩

theorem fusesKept_foldl {α : Type} {f : State → α → State} (hf : ∀ s a, FusesKept s (f s a)) (l : List α) (s : State) :
    FusesKept s (l.foldl f s) := by
  induction l generalizing s with
  | nil => exact fusesKept_refl s
  | cons a l ih => exact fusesKept_trans (hf s a) (ih _)

/-- Blowing sets one fuse and clears none (R369). -/
theorem State.blow_fusesKept (s : State) (target : Nat) : FusesKept s { s with sec := s.sec.blow target } := by
  simp only [FusesKept, Security.blow]
  split <;> simp

theorem State.decideLifecycleAdvance_fusesKept (s : State) (q : Req) : FusesKept s (s.decideLifecycleAdvance q) := by
  have heard : SameFuses s (s.heard q) := ⟨rfl, rfl, rfl, rfl⟩
  refine fusesKept_trans (fusesKept_of_same heard) ?_
  simp only [State.decideLifecycleAdvance, State.clCommand]
  split
  · exact fusesKept_of_same heard
  · split
    · exact fusesKept_of_same (by simp [SameFuses, State.complete_frame])
    · split
      · exact fusesKept_of_same (by simp [SameFuses, State.complete_frame])
      · split
        · exact fusesKept_of_same (by simp [SameFuses, State.logFull_frame])
        · exact fusesKept_trans ((s.heard q).blow_fusesKept q.p0)
            (fusesKept_of_same (by simp [SameFuses, State.complete_frame, State.holdLifecycle_frame]))

theorem State.decideCluster_fusesKept (s : State) (op : Nat) (q : Req) : FusesKept s (s.decideCluster op q) := by
  unfold State.decideCluster
  split
  on_goal 25 => exact s.decideLifecycleAdvance_fusesKept q
  all_goals
    refine fusesKept_of_same ?_
    simp [SameFuses, State.decideRouteSet_frame, State.decideRouteCancel_frame, State.decidePointMove_frame,
      State.decideSignalStop_frame, State.decideRouteState_frame, State.decideElementState_frame,
      State.decideAuxPrepare_frame, State.decideAuxConfirm_frame, State.decideDoorOpen_frame,
      State.decideDoorClose_frame, State.decideBenchStart_frame, State.decideBenchStop_frame,
      State.decideBenchRestart_frame, State.decideForceSet_frame, State.decideForceClear_frame,
      State.decideForceList_frame, State.decideConstantSet_frame, State.decideConstantGet_frame,
      State.decideUpdateActivate_frame, State.decideRoleLogout_frame, State.decideLockoutRelease_frame]

theorem State.decideThese_fusesKept (s : State) (which : Nat → Bool) : FusesKept s (s.decideThese which) :=
  fusesKept_foldl (fun s _ => s.decideCluster_fusesKept ..) _ _

theorem State.stepFive_fusesKept (s : State) : FusesKept s s.stepFive := by
  refine fusesKept_foldl (fun s w => ?_) _ _
  unfold State.workStep
  split
  · exact fusesKept_of_same (by simp [SameFuses, State.evalPend_frame])
  · exact s.decideCluster_fusesKept ..

theorem State.phaseE_fusesKept (s : State) (cycles : Nat) : FusesKept s (s.phaseE cycles) := by
  have step2 : SameFuses s ((s.openUndo.freeSlots.holdExpiry).fieldStep.superviseRoutes.autoCloses) := by
    simp [SameFuses, State.autoCloses_frame, State.superviseRoutes_frame, State.fieldStep_frame, State.holdExpiry_frame,
      State.freeSlots_frame, State.openUndo_frame]
  have step4 (u : State) : SameFuses u u.expirePrepares := by simp [SameFuses, State.expirePrepares_frame]
  have step6 (u : State) : SameFuses u (({ u.finishWaiting.auxDemands.tellFaults.dwellCheck with
      bench := { u.finishWaiting.auxDemands.tellFaults.dwellCheck.bench with
        requests := [], evaluated := true, first := false } }).engineExcess cycles) := by
    simp [SameFuses, State.engineExcess_frame, State.dwellCheck_frame, State.tellFaults_frame, State.auxDemands_frame,
      State.finishWaiting_frame]
  refine fusesKept_trans (fusesKept_of_same step2) (fusesKept_trans (State.decideThese_fusesKept _ restrictiveOp)
    (fusesKept_trans (State.decideThese_fusesKept _ auxOp) (fusesKept_trans (fusesKept_of_same (step4 _))
      (fusesKept_trans (State.stepFive_fusesKept _) (fusesKept_trans
        (State.decideThese_fusesKept _ fun op => !restrictiveOp op && !auxOp op && !queueOp op)
        (fusesKept_of_same (step6 _)))))))

theorem State.serveQueue_fusesKept (s : State) : FusesKept s s.serveQueue := by
  have taken : SameFuses s (s.takeQueue fun _ => true).1 := by simp [SameFuses, State.takeQueue_frame]
  have refreshed (u : State) : SameFuses u u.refreshDiag := by simp [SameFuses, State.refreshDiag_frame]
  simp only [State.serveQueue]
  split
  · exact fusesKept_refl s
  · refine fusesKept_trans (fusesKept_of_same taken) (fusesKept_trans ?_ (fusesKept_of_same (refreshed _)))
    split
    · exact fusesKept_foldl (fun s _ => s.decideCluster_fusesKept ..) _ _
    · exact fusesKept_foldl (fun s _ => fusesKept_of_same (by simp [SameFuses, State.complete_frame])) _ _

/-! ### Operations that run another one -/

@[simp] theorem State.timed_fuses {f : State → State} (h : ∀ s, SameFuses s (f s)) (s : State) :
    SameFuses s (s.timed f) := by
  unfold State.timed
  split
  · exact h s
  · exact ⟨rfl, rfl, rfl, rfl⟩

@[simp] theorem State.forRoute_fuses {f : State → Nat → Route → State} (h : ∀ s n r, SameFuses s (f s n r)) (s : State)
    (n : Nat) : SameFuses s (s.forRoute n f) := by
  unfold State.forRoute
  split
  · exact h ..
  · exact ⟨rfl, rfl, rfl, rfl⟩

/-- Every next state of an outcome has each fuse blown that is blown in `s`. -/
def KeepsFuses (s : State) (o : Host.Outcome State Fault Refusal) : Prop := ∀ t, o = .next t → FusesKept s t

theorem KeepsFuses.next {s u : State} (h : FusesKept s u) : KeepsFuses s (.next u) := by
  rintro t ⟨⟩
  exact h

theorem KeepsFuses.of {s u : State} (h : FusesKept s u) : KeepsFuses s (.next u.settle) :=
  .next (fusesKept_trans h (fusesKept_of_same (sameFuses_of_sec (by simp only [State.settle_frame]))))

/-- A row that leaves the fuses as they are. -/
theorem KeepsFuses.plain {s u : State} (h : SameFuses s u) : KeepsFuses s (.next u.settle) := .of (fusesKept_of_same h)

/-! ### Rows with a case of their own -/

theorem execLogicSupplyHigh_keepsFuses (mv : Nat) (s : State) : KeepsFuses s (execLogicSupplyHigh mv s) := by
  unfold execLogicSupplyHigh
  split
  · rintro t ⟨⟩
  · exact .plain (by simp [SameFuses, State.causeOff_frame, State.event_frame, State.causeOn_frame])

theorem execPhaseE_keepsFuses (cycles : Nat) (s : State) : KeepsFuses s (execPhaseE cycles s) := by
  refine .of ?_
  split
  · exact s.phaseE_fusesKept cycles
  · exact fusesKept_refl s

theorem execRequestQueueService_keepsFuses (s : State) : KeepsFuses s (execRequestQueueService s) :=
  .of s.serveQueue_fusesKept

theorem execNodeDropout_keepsFuses (node : Nat) (s : State) : KeepsFuses s (execNodeDropout node s) := by
  refine .plain (State.timed_fuses (fun s => sameFuses_of_sec ?_) s)
  split
  · split
    · simp only [State.tellFaults_frame, State.foldl_sec, State.watchFreeze_frame, State.freezeElement_frame, implies_true]
      rw [State.foldl_sec]
      · simp only [State.judgeNode_frame]
      · intro t i
        split
        · simp only [State.markElement_frame]
        · rfl
    · rfl
  · rfl

theorem execAshlarArmWindowExpiry_keepsFuses (s : State) : KeepsFuses s (execAshlarArmWindowExpiry s) := by
  refine .plain ?_
  split <;> simp [SameFuses, State.ashReady_frame]

theorem execMarkRequest_keepsFuses (can : Bool) (group : Nat) (linkKey : Word) (alive : BitVec 16) (s : State) :
    KeepsFuses s (execMarkRequest can group linkKey alive s) := by
  refine .next (fusesKept_of_same ?_)
  split <;> exact ⟨rfl, rfl, rfl, rfl⟩

theorem execRecordWrite_keepsFuses (bad : Option Nat) (s : State) : KeepsFuses s (execRecordWrite bad s) := by
  cases bad <;> exact .plain (by simp [SameFuses, State.writeNext_frame])

theorem execMaintAddressApply_keepsFuses (s : State) : KeepsFuses s (execMaintAddressApply s) := by
  refine .plain ?_
  (repeat' split) <;> exact ⟨rfl, rfl, rfl, rfl⟩

theorem execLifecycleAdvance_keepsFuses (q : Req) (s : State) : KeepsFuses s (execLifecycleAdvance q s) :=
  .of (s.decideLifecycleAdvance_fusesKept q)

/-! ### Every row of the table -/

theorem exec_keepsFuses (i : Instr) (s : State) : KeepsFuses s (exec i s) := by
  cases i with
  | powerOnReset p => exact .plain (by simp [SameFuses])
  | ledTestEnd => exact .plain (by simp [SameFuses, State.event_frame])
  | startUpTestDone r => exact .plain (by simp [SameFuses])
  | fieldConfigTimeout => exact .plain (by simp [SameFuses, State.event_frame, State.startFailed_frame])
  | logicSupplyLow mv => exact .plain (by simp [SameFuses, State.causeOff_frame])
  | logicSupplyHigh mv => exact execLogicSupplyHigh_keepsFuses mv s
  | internalRailFault => exact .plain (by simp [SameFuses, State.event_frame, State.causeOn_frame])
  | logicSupplyRemoved => exact .plain (by simp [SameFuses])
  | boardTemperature tenths => exact .plain (by simp [SameFuses])
  | backupCellFitted mv => exact .plain (by simp [SameFuses])
  | backupCellRemoved => exact .plain (by simp [SameFuses])
  | rtComparatorSample c => exact .plain (by simp [SameFuses])
  | cellMeasurement mv => exact .plain (by simp [SameFuses, State.cellMeasured_frame])
  | opTimeSave => exact .plain (by simp [SameFuses])
  | phaseI samples => exact .plain (by simp [SameFuses, State.phaseI_frame])
  | phaseE cycles => exact execPhaseE_keepsFuses cycles s
  | phaseO samples => exact .plain (by simp [SameFuses])
  | phaseH h => exact .plain (by simp [SameFuses])
  | nodeTimeoutRecompute => exact .plain (by simp [SameFuses, State.recomputeAll_frame])
  | benchOverrun phase cycles engine => exact .plain (by simp [SameFuses])
  | requestQueueService => exact execRequestQueueService_keepsFuses s
  | nodeDropout node => exact execNodeDropout_keepsFuses node s
  | throwTimeout element =>
    exact .plain (by simp [SameFuses, State.txnSteps_frame, State.pointStep_frame, State.tellFaults_frame])
  | proofTimeout route => exact .plain (by simp [SameFuses, State.proofExpiry_frame])
  | signalConfirmTimeout element => exact .plain (by simp [SameFuses, State.signalStep_frame, State.tellFaults_frame])
  | transactionTimeout element => exact .plain (by simp [SameFuses, State.txnSteps_frame, State.tellFaults_frame])
  | pendingExpired arrival => exact .plain (by simp [SameFuses, State.evalPend_frame])
  | auxPrepareExpiry kind target => exact .plain (by simp [SameFuses, State.expirePrepare_frame])
  | approachReleaseExpiry route => exact .plain (by simp [SameFuses, State.approachRelease_frame])
  | overlapReleaseExpiry route => exact .plain (by simp [SameFuses, State.overlapRelease_frame])
  | emergencyReleaseExpiry route => exact .plain (by simp [SameFuses, State.emergencyRelease_frame])
  | restartHoldEnd => exact .plain (by simp [SameFuses, State.holdExpiry_frame])
  | clearDelayExpiry element => exact .plain (by simp [SameFuses, State.sectionStep_frame])
  | berthConfirmation element => exact .plain (by simp [SameFuses, State.berthStep_frame])
  | moveLimitExpiry element => exact .plain (by simp [SameFuses, State.checkMoving_frame, State.tellFaults_frame])
  | obstruction60s element => exact .plain (by simp [SameFuses, State.checkObstructed_frame])
  | dwellWarning => exact .plain (by simp [SameFuses, State.dwellWarn_frame])
  | dwellExpiry => exact .plain (by simp [SameFuses, State.dwellExpire_frame])
  | forceReminder => exact .plain (by simp [SameFuses, State.event_frame])
  | coreAccuse slot item bus => exact .plain (by simp [SameFuses, State.accuse_frame])
  | noMajority bus => exact .plain (by simp [SameFuses, State.busPoint_frame])
  | mismatch bus => exact .plain (by simp [SameFuses, State.busPoint_frame])
  | comparatorsDiffer x y => exact .plain (by simp [SameFuses])
  | targetedSelfTestDone block => exact .plain (by simp [SameFuses, State.selfTested_frame])
  | syncWindowDone streamsDiffer => exact .plain (by simp [SameFuses])
  | safeSelfTestDone failed => exact .plain (by simp [SameFuses])
  | coreSSignature seen => exact .plain (by simp [SameFuses, State.voteEvent_frame, State.markUnhealthy_frame])
  | sramCorrectableError address syndrome => exact .plain (by simp [SameFuses, State.voteEvent_frame])
  | sramUncorrectableError address syndrome => exact .plain (by simp [SameFuses, State.voteEvent_frame])
  | debugAttach kind core => exact .plain (by simp [SameFuses])
  | debugDetach => exact .plain (by simp [SameFuses])
  | sealChange pattern => exact .plain (by simp [SameFuses])
  | ashlarReset => exact .plain (by simp [SameFuses, State.resetAshlar_frame])
  | ashlarSupplyFault => exact .plain (by simp [SameFuses, State.resetAshlar_frame])
  | ashlarTableLoadDone seen back => exact .plain (by simp [SameFuses])
  | cycleCode seen => exact .plain (by simp [SameFuses])
  | ashlarLate => exact .plain (by simp [SameFuses])
  | ashlarArmWindowExpiry => exact execAshlarArmWindowExpiry_keepsFuses s
  | ashlarTableCheck seen => exact .plain (by simp [SameFuses])
  | ashlarClockCount cluster count => exact .plain (by simp [SameFuses])
  | ashlarHoldChange lines => exact .plain (by simp [SameFuses, State.holdLines_frame])
  | ashlarInputFrame intact => exact .plain (by simp [SameFuses, State.ashInputs_frame])
  | ashlarInputStale => exact .plain (by simp [SameFuses])
  | ashlarPermitFrame intact => exact .plain (by simp [SameFuses, State.ashFrame_frame])
  | ashlarFrameLoss => exact .plain (by simp [SameFuses, State.fieldPermits_frame])
  | markRequest can group linkKey alive => exact execMarkRequest_keepsFuses can group linkKey alive s
  | coreToFieldFrame intact drops => exact .plain (by simp [SameFuses, State.coreFrame_frame])
  | fieldToCoreFrame intact => exact .plain (by simp [SameFuses, State.fieldFrame_frame])
  | isolationLinkLoss direction => exact .plain (by simp [SameFuses])
  | fieldSideReset => exact .plain (by simp [SameFuses, State.resetField_frame, State.fence_frame])
  | debounceExpiry channel level since => exact .plain (by simp [SameFuses, State.inputChange_frame])
  | testPulseStart source => exact .plain (by simp [SameFuses, State.pulseStart_frame])
  | testPulseCheck c => exact .plain (by simp [SameFuses, State.pulseCheck_frame])
  | sourceOverload source => exact .plain (by simp [SameFuses, State.sourceFails_frame])
  | outputSwitchTest t => exact .plain (by simp [SameFuses, State.switchTest_frame])
  | externalFeed m => exact .plain (by simp [SameFuses, State.measureOff_frame])
  | outputOverload channel wholeGroup milliAmp =>
    exact .plain (by simp [SameFuses, State.overload_frame, State.modGroup_frame, State.report_frame,
      State.modOutput_frame])
  | groupSupplyState group inputSide mv => exact .plain (by simp [SameFuses, State.measureGroup_frame])
  | groupSwitchFault group readBack => exact .plain (by simp [SameFuses, State.modGroup_frame, State.report_frame])
  | canFrameReceived port f =>
    exact .plain (by simp [SameFuses, State.goodFrame_frame, State.busTaken_frame, State.modPort_frame,
      State.queueFrame_frame, State.receiveFrame_frame])
  | rateDetectTimeout port => exact .plain (by simp [SameFuses, State.nextNominal_frame])
  | canCommitReorder port headBegun => exact .plain (by simp [SameFuses, State.modPort_frame])
  | canTxDone port => exact .plain (by simp [SameFuses, State.txDone_frame])
  | canTxCancelled port => exact .plain (by simp [SameFuses, State.modPort_frame])
  | canBusError port e =>
    exact .plain (by simp [SameFuses, State.busTaken_frame, State.detectError_frame, State.busError_frame])
  | idClashBlockExpiry port ident => exact .plain (by simp [SameFuses, State.modPort_frame])
  | busOffRecovery port => exact .plain (by simp [SameFuses, State.modPort_frame, State.event_frame])
  | datagramReceived d => exact .plain (by simp [SameFuses, State.datagram_frame])
  | telegramCheck faultX faultY => exact .plain (by simp [SameFuses])
  | lanDown lan => exact .plain (by simp [SameFuses, State.event_frame])
  | prpSupervisionSend => exact .plain (by simp [SameFuses])
  | arpRequest maintenance lan target sender mac =>
    exact .plain (by simp [SameFuses, State.lanHeard_frame, State.arpLearn_frame])
  | icmpEcho target data => exact .plain (by simp [SameFuses])
  | x8RequestDatagram d => exact .plain (by simp [SameFuses, State.x8Request_frame])
  | doorbell value block => exact .plain (by simp [SameFuses, State.writeSlot_frame, State.ring_frame])
  | hiDoneClear high value => exact .plain (by simp [SameFuses, State.clearDone_frame])
  | hiIrqStatClear value => exact .plain (by simp [SameFuses, State.clearIrq_frame])
  | hiIrqMaskWrite value => exact .plain (by simp [SameFuses, State.writeMask_frame])
  | hiNoteTailWrite value => exact .plain (by simp [SameFuses, State.writeTail_frame])
  | m2Write value => exact .plain (by simp [SameFuses, State.writeM2_frame])
  | linkEventClear mg cl => exact .plain (by simp [SameFuses, State.clearLinkEvents_frame])
  | hiXingRead => exact .plain (by simp [SameFuses])
  | registerWrite offset bits value => exact .plain (by simp [SameFuses, State.writeRegister_frame])
  | hostLinkReset => exact .plain (by simp [SameFuses, State.hostReset_frame])
  | mgHeartbeatLoss => exact .plain (by simp [SameFuses, State.mgLost_frame])
  | mgRestart => exact .plain (by simp [SameFuses, State.mgRestart_frame])
  | crossingLinkUp x => exact .plain (by simp [SameFuses, State.linkUp_frame])
  | heldCompletionDelivery => exact .plain (by simp [SameFuses, State.writeResponse_frame])
  | notificationFlush => exact .plain (by simp [SameFuses, State.flushHeld_frame])
  | recordWrite bad => exact execRecordWrite_keepsFuses bad s
  | tokenRefill code => exact .plain (by simp [SameFuses, State.refill_frame])
  | suppressionSummaryTimer code => exact .plain (by simp [SameFuses, State.summarise_frame])
  | eventFreezeExpiry => exact .plain (by simp [SameFuses, State.thaw_frame])
  | sessionExpiry session => exact .plain (by simp [SameFuses])
  | roleLockExpiry role => exact .plain (by simp [SameFuses])
  | maintAddressApply => exact execMaintAddressApply_keepsFuses s
  | activationValidationDone => exact .plain (by simp [SameFuses, State.validationDone_frame])
  | firmwareActivationReset p => exact .plain (by simp [SameFuses, State.thaw_frame])
  | bistBlockDone b => exact .plain (by simp [SameFuses, State.blockDone_frame])
  | bistBlockTimeout block ashlarCount => exact .plain (by simp [SameFuses, State.blockTimeout_frame])
  | shutdownTestDone => exact .plain (by simp [SameFuses, State.shutdownDone_frame])
  | identify r => exact .plain (by simp [SameFuses, State.decideIdentify_frame])
  | capabilities r => exact .plain (by simp [SameFuses, State.decideCapabilities_frame])
  | getStatus r => exact .plain (by simp [SameFuses, State.decideGetStatus_frame])
  | setTime r => exact .plain (by simp [SameFuses, State.decideSetTime_frame])
  | getTime r => exact .plain (by simp [SameFuses, State.decideGetTime_frame])
  | shutdown r => exact .plain (by simp [SameFuses])
  | routeSet r => exact .plain (by simp [SameFuses, State.decideRouteSet_frame])
  | routeCancel r => exact .plain (by simp [SameFuses, State.decideRouteCancel_frame])
  | pointMove r => exact .plain (by simp [SameFuses, State.decidePointMove_frame])
  | signalStop r => exact .plain (by simp [SameFuses, State.decideSignalStop_frame])
  | routeState r => exact .plain (by simp [SameFuses, State.decideRouteState_frame])
  | elementState r => exact .plain (by simp [SameFuses, State.decideElementState_frame])
  | auxPrepare r => exact .plain (by simp [SameFuses, State.decideAuxPrepare_frame])
  | auxConfirm r => exact .plain (by simp [SameFuses, State.decideAuxConfirm_frame])
  | doorOpen r => exact .plain (by simp [SameFuses, State.decideDoorOpen_frame])
  | doorClose r => exact .plain (by simp [SameFuses, State.decideDoorClose_frame])
  | doorHealth r => exact .plain (by simp [SameFuses, State.decideDoorHealth_frame])
  | benchStart r => exact .plain (by simp [SameFuses, State.decideBenchStart_frame])
  | benchStop r => exact .plain (by simp [SameFuses, State.decideBenchStop_frame])
  | benchRestart r => exact .plain (by simp [SameFuses, State.decideBenchRestart_frame])
  | forceSet r => exact .plain (by simp [SameFuses, State.decideForceSet_frame])
  | forceClear r => exact .plain (by simp [SameFuses, State.decideForceClear_frame])
  | forceList r => exact .plain (by simp [SameFuses, State.decideForceList_frame])
  | constantSet r => exact .plain (by simp [SameFuses, State.decideConstantSet_frame])
  | constantGet r => exact .plain (by simp [SameFuses, State.decideConstantGet_frame])
  | eventInfo r => exact .plain (by simp [SameFuses, State.decideEventInfo_frame])
  | eventRead r => exact .plain (by simp [SameFuses, State.decideEventRead_frame])
  | eventFreeze r => exact .plain (by simp [SameFuses, State.decideEventFreeze_frame])
  | eventThaw r => exact .plain (by simp [SameFuses, State.decideEventThaw_frame])
  | eventSetRate r => exact .plain (by simp [SameFuses, State.decideEventSetRate_frame])
  | updateBegin r => exact .plain (by simp [SameFuses, State.decideUpdateBegin_frame])
  | updateData r => exact .plain (by simp [SameFuses, State.decideUpdateData_frame])
  | updateVerify r => exact .plain (by simp [SameFuses, State.decideUpdateVerify_frame])
  | updateActivate r => exact .plain (by simp [SameFuses, State.decideUpdateActivate_frame])
  | updateConfirm r => exact .plain (by simp [SameFuses, State.decideUpdateConfirm_frame])
  | updateStatus r => exact .plain (by simp [SameFuses, State.decideUpdateStatus_frame])
  | updateAbort r => exact .plain (by simp [SameFuses, State.decideUpdateAbort_frame])
  | roleLogin r => exact .plain (by simp [SameFuses])
  | roleLogout r => exact .plain (by simp [SameFuses, State.decideRoleLogout_frame])
  | passwordSet r => exact .plain (by simp [SameFuses])
  | keyInstall r => exact .plain (by simp [SameFuses])
  | lifecycleAdvance r => exact execLifecycleAdvance_keepsFuses r s
  | lockoutRelease r => exact .plain (by simp [SameFuses, State.decideLockoutRelease_frame])
  | changeLogRead r => exact .plain (by simp [SameFuses, State.decideChangeLogRead_frame])
  | maintAddress r => exact .plain (by simp [SameFuses, State.decideMaintAddress_frame])
  | diagVote r => exact .plain (by simp [SameFuses, State.decideDiagVote_frame])
  | diagAshlar r => exact .plain (by simp [SameFuses, State.decideDiagAshlar_frame])
  | diagSafeRecord r => exact .plain (by simp [SameFuses, State.decideDiagSafeRecord_frame])
  | diagInputs r => exact .plain (by simp [SameFuses, State.decideDiagInputs_frame])
  | diagOutputs r => exact .plain (by simp [SameFuses, State.decideDiagOutputs_frame])
  | diagGroups r => exact .plain (by simp [SameFuses, State.decideDiagGroups_frame])
  | diagCanPort r => exact .plain (by simp [SameFuses, State.decideDiagCanPort_frame])
  | diagPortCounters r => exact .plain (by simp [SameFuses, State.decideDiagPortCounters_frame])
  | diagNode r => exact .plain (by simp [SameFuses, State.decideDiagNode_frame])
  | diagNodeList r => exact .plain (by simp [SameFuses, State.decideDiagNodeList_frame])
  | subscribe r => exact .plain (by simp [SameFuses, State.decideSubscribe_frame])
  | subscriptionGet r => exact .plain (by simp [SameFuses, State.decideSubscriptionGet_frame])
  | dwellCountSave => exact .plain (by simp [SameFuses])
  | ashlarSupplyReturn => exact .plain (by simp [SameFuses, State.resetAshlar_frame])
  | supervisionFrameReceived lan => exact .plain (by simp [SameFuses, State.lanHeard_frame])
  | msiVectorEnable n => exact .plain (by simp [SameFuses])

theorem step_fusesKept {s t : State} (h : step s = .next t) : FusesKept s t := by
  cases queue : s.pending with
  | nil =>
    simp only [step, queue] at h
    cases h
    exact fusesKept_of_same (by simp [SameFuses, State.tick_frame])
  | cons c rest =>
    simp only [step, queue] at h
    have kept : FusesKept { s with pending := rest } t := exec_keepsFuses c _ t h
    exact kept

end Sys2Proof.Machine

namespace Sys2Proof.Proofs

open Sys2Proof Sys2Proof.Machine Sys2Proof.Safety

/-- Settles O6: an advance of the life-cycle blows fuses and every other row of the table leaves them, so none is un-blown
by any row, nor by the tick of an idle step. -/
theorem stepKeepsFuses : Obligations.StepKeepsFuses := by
  unfold Obligations.StepKeepsFuses
  exact fun s t h => step_fusesKept h

end Sys2Proof.Proofs
end
